-- ==== Sys2Proof/Word.lean ====
section
/-! DEFINITION. The plain types every file shares: bytes, the index types of the SCM-960 (spec/00_scope.md and the
chapters that number phases, channels, links, trays and so on). -/

namespace Sys2Proof

/-- One byte. -/
abbrev Byte := BitVec 8

/-- A 16-bit data register or port word of the Cardamom engine (spec/06, R163). -/
abbrev Q15 := BitVec 16

/-- A 32-bit coefficient or port word (spec/06, R163). -/
abbrev Q31 := BitVec 32

/-- A 40-bit accumulator or state word (spec/06, R163). -/
abbrev Acc40 := BitVec 40

/-- A time in nanoseconds on fabric time or the local time base (spec/04, R85). -/
abbrev Ns := Nat

/-- The two converters of a shelf (spec/05, R111): feed (0x3001) and storage (0x3002). -/
inductive Conv where
  | feed
  | storage
  deriving DecidableEq, Repr

/-- Number of the converter: feed 0, storage 1 (the order of indices 0x3001 and 0x3002). -/
def Conv.idx : Conv → Nat
  | .feed => 0
  | .storage => 1

end Sys2Proof
end

