-- ==== Sys2Proof/Machine/TypesTime.lean ====
section
/-! DEFINITION. Plain data of fabric time and cloves (spec/04). Fine stamps are counted in units of 1/65,536 ns
(Table 4-2). -/

namespace Sys2Proof.Machine

/-- Time states (Table 4-4). -/
inductive TimeMode where
  | invalid | acquiring | locked | holdover | degraded
  deriving DecidableEq, Repr

/-- What an ANNOUNCE offers (R86, R87, Table 4-2). -/
structure Offer where
  version : BitVec 8
  quality : Nat
  priority : Nat
  master : Nat
  steps : Nat
  tai : Bool
  deriving DecidableEq, Repr

/-- The latest offer of a neighbour on a link. -/
structure LinkOffer where
  link : Nat
  neighbour : Nat
  offer : Offer
  stamp : Nat
  deriving DecidableEq, Repr

/-- A DELAY_REQ in flight: its departure (R93). -/
structure DelayReq where
  link : Nat
  departure : Nat
  deriving DecidableEq, Repr

/-- A grandmaster as an Announce describes it: what the best master clock algorithm compares, in its order (R90). -/
structure GmData where
  priority1 : Nat
  clockClass : Nat
  accuracy : Nat
  variance : Nat
  priority2 : Nat
  identity : Nat
  steps : Nat
  deriving DecidableEq, Repr

/-- State of the PTP slave clock and of PPS_IN (R90, R91). -/
structure PtpState where
  /-- Locked to a grandmaster, on which port, and this module's time minus the grandmaster's, in 1/65,536 ns. -/
  locked : Bool
  port : Nat
  offset : Int
  /-- IEEE 1588 port states of the two ports. -/
  port0 : Nat
  port1 : Nat
  /-- The grandmaster each port hears. -/
  gm0 : Option GmData
  gm1 : Option GmData
  /-- PPS present, its disagreement with PTP since, dropped back to PTP alone. -/
  ppsPresent : Bool
  /-- Local time of the last edge, and this module's second less the edge, in 1/65,536 ns. -/
  ppsAt : Nat
  ppsOffset : Int
  ppsBad : Option Nat
  ppsDropped : Bool
  deriving DecidableEq, Repr

/-- A PTP message the slave-only clock processes: the grandmaster's data, or a Sync with the master's time and the path delay
as a mechanism measured it (R90), or the loss of the grandmaster. -/
inductive PtpMsg where
  | announce (utcOffset : BitVec 16) (gm : GmData)
  | sync (origin arrival : Nat) (delay : Int) (p2p : Bool)
  | lost
  deriving DecidableEq, Repr

/-- State of fabric time beyond the dictionary objects (R84 to R99). -/
structure TimeSt where
  /-- TB count in ns (R85). -/
  tb : Nat
  /-- Epoch offset E in ns (R85). -/
  e : Int
  mode : TimeMode
  offers : List LinkOffer
  upstream : Option Nat
  /-- This module is the time master. -/
  isMaster : Bool
  masterNode : Option Nat
  /-- Quality of the time in force (Table 4-1). -/
  quality : Nat
  tai : Bool
  /-- First acquisition done (R96). -/
  acquired : Bool
  /-- Latest SYNC on the upstream link: t1 and t2 (R93). -/
  t1 : Nat
  t2 : Nat
  request : Option DelayReq
  /-- Mean one-way delays of up to 16 exchanges, newest first (R93). -/
  means : List Int
  /-- Exchanges still to watch after a change of upstream with the same master (R95). -/
  watch : Nat
  /-- The next offset decides on an epoch step (R96). -/
  needEpoch : Bool
  /-- Consecutive SYNCs within 2 ns (R95). -/
  syncRun : Nat
  /-- Servo integrator and steer in ppb (R93). -/
  servoInt : Int
  /-- FT at which the upstream was lost (R97). -/
  lostAt : Nat
  /-- FT since which no module offered quality 3 or better (R88). -/
  noOfferSince : Nat
  ptp : PtpState
  /-- The reference clock is present (R45). -/
  refClock : Bool
  deriving DecidableEq, Repr

/-- A clove as Table 4-5 lays it out. -/
structure Clove where
  version : BitVec 8
  action : BitVec 8
  flags : BitVec 8
  keyId : BitVec 8
  source : BitVec 16
  dest : BitVec 16
  seq : BitVec 32
  fireFt : BitVec 64
  argA : BitVec 32
  argB : BitVec 64
  tag : BitVec 64
  deriving DecidableEq, Repr

/-- A clove of the schedule with its arrival stamp; on the die or in GDDR7 (R108). -/
structure SchedClove where
  clove : Clove
  arrival : Nat
  onDie : Bool
  deriving DecidableEq, Repr

/-- Names a clove by its source shelf, key id and sequence (R104). -/
structure CloveRef where
  shelf : Nat
  key : Nat
  seq : Nat
  deriving DecidableEq, Repr

/-- The duplicate window of a source shelf and key id (R104): bit i of `seen` is the sequence high - i. -/
structure SeqWindow where
  shelf : Nat
  key : Nat
  high : BitVec 32
  seen : BitVec 1024
  deriving DecidableEq, Repr

/-- State of the clove service beyond the dictionary objects (R100 to R110). -/
structure CloveState where
  /-- Scheduled cloves in firing order (R108, R109). -/
  schedule : List SchedClove
  /-- Key material of the four clove key slots (spec/18, R456). -/
  keys : Vector (Option (List Byte)) 4
  windows : List SeqWindow
  /-- Actions fired at the latest fire FT and whether CLOVE_FIRE_SLIP stands for it (R109). -/
  fireFt : Nat
  fireCount : Nat
  /-- Shelf's sequence counter, the top of the reserved MRAM block, wrapped under the current key (R103). -/
  nextSeq : Nat
  reservedTop : Nat
  wrapped : Bool
  exhaustedSaid : Bool
  deriving DecidableEq, Repr

end Sys2Proof.Machine
end

