-- ==== Sys2Proof/Machine/TypesCardamom.lean ====
section
/-! DEFINITION. Plain data of the Cardamom loop engine (spec/06) and of the standard loop set (spec/07). -/

namespace Sys2Proof.Machine

/-- Sparse words by address: strictly rising addresses, no entry equal to the default of its address. -/
abbrev Sparse := List (Nat × Int)

/-- A Cardamom instruction (Table 6-8).  Shifts and counts are the signed or unsigned values of their fields. -/
inductive CInstr where
  | nop
  | endEval
  | ldk (d : Fin 16) (imm : BitVec 16)
  | ldi (d : Fin 16) (port : Fin 256)
  | ldil (a : Fin 8) (port : Fin 256)
  | ldc (a : Fin 8) (k : Fin 1024)
  | lds (a : Fin 8) (m : Fin 512)
  | sts (a : Fin 8) (m : Fin 512)
  | satd (a : Fin 8) (d : Fin 16) (sh : BitVec 4)
  | out (d : Fin 16) (port : Fin 64)
  | outl (a : Fin 8) (port : Fin 64)
  | mova (a b : Fin 8)
  | clr (a : Fin 8)
  | mpy (a : Fin 8) (d : Fin 16) (k : Fin 1024)
  | mac (a : Fin 8) (d : Fin 16) (k : Fin 1024)
  | msu (a : Fin 8) (d : Fin 16) (k : Fin 1024)
  | macd (a : Fin 8) (d e : Fin 16)
  | adda (a b : Fin 8)
  | suba (a b : Fin 8)
  | addd (a : Fin 8) (d : Fin 16)
  | subd (a : Fin 8) (d : Fin 16)
  | sha (a : Fin 8) (n : BitVec 4)
  | abs (a : Fin 8)
  | neg (a : Fin 8)
  | lim (a : Fin 8) (k : Fin 1024)
  | sela (a b : Fin 8) (cond : BitVec 4)
  | tsta (a : Fin 8)
  | tstp (port : Fin 256) (bit : Fin 32)
  | skipc (cond : BitVec 4) (n : BitVec 4)
  | integ (a : Fin 8) (d : Fin 16) (k : Fin 1024) (m : Fin 512)
  | minsel (a : Fin 8) (h : Fin 16) (mask : BitVec 8) (m : Fin 512)
  | maxsel (a : Fin 8) (h : Fin 16) (mask : BitVec 8) (m : Fin 512)
  | slew (a : Fin 8) (k : Fin 1024) (m : Fin 512)
  | lut (a : Fin 8) (d : Fin 16) (k : Fin 1024)
  | ffw (a : Fin 8) (k : Fin 1024) (j : Fin 64)
  deriving DecidableEq, Repr

/-- A register bank of a core (Table 6-1): accumulators, data registers, flags (Table 6-7). -/
structure Bank where
  acc : Vector Acc40 8
  dat : Vector Q15 16
  z : Bool
  n : Bool
  v : Bool
  t : Bool
  l : Bool
  at_ : Bool
  deriving DecidableEq, Repr

/-- What a core runs: an image of the standard loop set (spec/07), or code from a program store slot (spec/06). -/
inductive ProgCode where
  | standard
  | code (main handler : List CInstr)
  deriving DecidableEq, Repr

/-- An admitted program: what its image declares (Table 6-9). -/
structure Program where
  id : Nat
  version : Nat
  code : ProgCode
  hasHandler : Bool
  hasHold : Bool
  mainWorst : Nat
  handlerWorst : Nat
  portsOwned : BitVec 3
  limitPorts : BitVec 16
  noticeMask : BitVec 24
  coef : Sparse
  state : Sparse
  coefWords : Nat
  stateWords : Nat
  /-- Name map: address and name of 14 bytes (Table 6-9). -/
  names : List (Nat × List (BitVec 8))
  /-- Body hash of the image; empty for the standard loop set, whose hash is the running bank's (R459). -/
  hash : List (BitVec 8)
  deriving DecidableEq, Repr

/-- A program image as it stands in a program store slot (R180, Table 6-9; the header checks of spec/18 R463 are
attributes of the stored bytes). -/
structure ProgImage where
  headerOk : Bool
  versionByte : Nat
  flags : Nat
  mainLen : Nat
  handlerLen : Nat
  mainWorst : Nat
  handlerWorst : Nat
  coefWords : Nat
  stateWords : Nat
  portsOwned : BitVec 16
  limitPorts : BitVec 16
  nameEntries : Nat
  id : Nat
  version : Nat
  noticeMask : BitVec 32
  words : List (BitVec 32)
  coef : List Int
  state : List Int
  names : List (Nat × List (BitVec 8))
  /-- The body is as long as its length and count fields say (check 12). -/
  sizeOk : Bool
  hash : List (BitVec 8)
  deriving DecidableEq, Repr

/-- One entry of an admission report (R181). -/
structure ReportEntry where
  reason : Nat
  part : Nat
  addr : Nat
  requested : Nat
  limit : Nat
  deriving DecidableEq, Repr

/-- A pending notice record (R156). -/
structure NoticeRec where
  count : Nat
  step : Int
  stamp : Nat
  trays : BitVec 24
  deriving DecidableEq, Repr

/-- States of a core (Table 6-14, .01). -/
inductive CoreState where
  | stopped | loading | running | faulted
  deriving DecidableEq, Repr

/-- Pending status of a core (Table 6-14, .08). -/
inductive PendState where
  | empty | loading | admitted | refused
  deriving DecidableEq, Repr

/-- Hold state (Table 6-14, .18). -/
inductive HoldState where
  | closed | open_ | release
  deriving DecidableEq, Repr

/-- A selector record (R170). -/
structure SelRec where
  winner : Nat
  tie : Bool
  hi : Bool
  lo : Bool
  deriving DecidableEq, Repr

/-- A write whose answer is owed: session, object, and the request as in `Mirror.reply`. -/
structure OwedReply where
  sess : Nat
  key : Nat
  reply : Nat
  deriving DecidableEq, Repr

/-- One loop core (R150 to R187). -/
structure CoreSt where
  state : CoreState
  bankM : Bank
  bankH : Bank
  /-- The evaluation that runs is the notice handler (bank H). -/
  inHandler : Bool
  /-- Instructions still to skip (SKIPC). -/
  skip : Nat
  /-- Selectors and FFWs met so far, for their numbers in program order (R170, R174). -/
  selNext : Nat
  ffwNext : Nat
  /-- Cycles the evaluation has used, from offset 0 (R152). -/
  cyc : Nat
  /-- Instructions of the main evaluation still to be issued: it is suspended for event slot 1 (R153). -/
  todo : List CInstr
  coef : Sparse
  sm : Sparse
  prog : Option Program
  pendProg : Option Program
  pendState : PendState
  report : List ReportEntry
  /-- Words waiting for the idle window, in order of arrival (R175). -/
  waiting : List (Nat × Int)
  hold : HoldState
  held : List (Nat × Int)
  holdOpenedAt : Nat
  /-- Commands that act at the next boundary (R183, R185). -/
  swapPend : Bool
  swapLate : Bool
  stopPend : Bool
  startPend : Bool
  /-- Notice mask in force: 0x4100+n.0E as of the latest boundary. -/
  maskInForce : BitVec 24
  notice : Option NoticeRec
  taken : Option NoticeRec
  /-- Output ports as published, and writes that wait for END (Table 6-5). -/
  ports : Sparse
  unpublished : List (Nat × Int)
  unpublishedH : List (Nat × Int)
  /-- State memory and output ports as of the latest coefficient window, for the dictionary (R186). -/
  viewSm : Sparse
  viewPorts : Sparse
  /-- Word writes to be answered when their words are in force: session, object, request (R175). -/
  owed : List OwedReply
  /-- Command-port writes not yet handed to the phase units (R162). -/
  emitted : List (Nat × Int)
  accSats : Nat
  storeSats : Nat
  clamps : Nat
  selRecs : List (Nat × SelRec)
  winCounts : Sparse
  gates : List (Nat × Int)
  satRecordedAt : Option Nat
  /-- Coefficient words saved in MRAM by program id (R184). -/
  saved : List (Nat × Sparse)
  deriving DecidableEq, Repr

/-- The input snapshot of a tick (R157 to R160). -/
structure Snapshot where
  ports : Sparse
  fv : Bool
  conf : Int
  forecast : List Int
  diverged : Bool
  ffEnable : Bool
  deriving DecidableEq, Repr

/-- The Cardamom engine. -/
structure CardState where
  cores : Vector CoreSt 4
  snap : Snapshot
  /-- Clove registers as SET_REG has left them, and as of the previous snapshot (R159). -/
  cloveRegs : Vector (BitVec 32) 16
  prevRegs : Vector (BitVec 32) 16
  /-- The clove whose SET_REG set each register (R159). -/
  regBy : Vector (Option Clove) 16
  /-- Program store slots 0 to 15 in flash (R182). -/
  store : List (Nat × ProgImage)
  deriving DecidableEq, Repr

/-- What the standard loop set carries from tick to tick in state memory beside Table 7-3. -/
structure LoopVals where
  /-- Core 0: p_avg and p_f in 2^-31 of 4 kW (R190). -/
  pAvg : Int
  pF : Int
  /-- Core 1, in Q31 of 2,000 A: anticipation offset and age, f and the load of the previous tick, a notice since then
  (R199). -/
  off : Int
  age : Nat
  prevF : Int
  prevLoad : Int
  noticeSeen : Bool
  /-- Storage current reference, command last written (Q31), and i_ref of the previous tick (R194, R195, R200). -/
  iS : Int
  cmdLast : Int
  iRefPrev : Int
  deriving DecidableEq, Repr

/-- What the module keeps about the standard loop set (R196, R197, R205, R206). -/
structure LoopState where
  /-- p_f and p_t of core 0 as published, in 2^-31 of 4 kW (R190, Table 7-9). -/
  pF : Int
  pT : Int
  /-- Selection code in force and its run in ticks; open binding episodes: code and ticks since it was seen (R197). -/
  bindCode : Nat
  bindRun : Nat
  bindOpen : List (Nat × Nat)
  /-- Overdraw and surplus (R205, R206): ticks above zero, ticks at zero, episode in force. -/
  odRun : Nat
  odAbsent : Nat
  odEpisode : Bool
  suRun : Nat
  suAbsent : Nat
  suEpisode : Bool
  deriving DecidableEq, Repr

end Sys2Proof.Machine
end

