-- ==== Sys2Proof/Machine/TypesChain.lean ====
section
/-! DEFINITION. Plain data of the cell chain (spec/10) and the payloads its commands carry (Tables 10-2 and 10-6). -/

namespace Sys2Proof.Machine

/-- RESULT payload (R294): cells in 100 µV, block in mV, temperatures in 0.1 degC. -/
structure ChainResult where
  sweep : BitVec 16
  sample : BitVec 32
  filter : BitVec 8
  flags : BitVec 8
  cells : Vector (BitVec 16) 16
  block : BitVec 16
  temps : Vector (BitVec 16) 4
  alarms : BitVec 16
  balancing : BitVec 16
  deriving DecidableEq, Repr

/-- TEST_RESULT payload (Table 10-2). -/
structure ChainTestResult where
  sweep : BitVec 16
  kind : BitVec 8
  wires : BitVec 32
  switches : BitVec 32
  movement : BitVec 16
  deriving DecidableEq, Repr

/-- IDENT payload (Table 10-2). -/
structure ChainIdent where
  serial : BitVec 64
  running : Bool
  sleepReason : BitVec 8
  checks : BitVec 16
  alerts : BitVec 16
  hash : Vector Byte 32
  deriving DecidableEq, Repr

/-- ALERT payload (Table 10-2). -/
structure ChainAlert where
  serial : BitVec 64
  hopsA : BitVec 8
  hopsB : BitVec 8
  low : BitVec 16
  high : BitVec 16
  temp : BitVec 8
  deriving DecidableEq, Repr

/-- A command in flight (R273): end, type, unit, flags, sequence, payload, the local time its response must have begun by, and
whether this is the retry. -/
structure ChainCmd where
  fromA : Bool
  type : Nat
  unit_ : Nat
  flags : Nat
  seq : Nat
  payload : List Byte
  due : Nat
  retried : Bool
  deriving DecidableEq, Repr

/-- A planned or running sweep (R278, R280). -/
structure Sweep where
  id : Nat
  kind : Nat
  filter : Nat
  sample : Nat
  periodic : Bool
  sent : Bool
  /-- Marks per unit: 0 path A, 1 path B, 2 stale, 3 missed (0x6001.05). -/
  marks : Vector (Option Nat) 32
  deriving DecidableEq, Repr

/-- A unit beyond its objects. Unit u is at position u + 1. -/
structure UnitSt where
  /-- Latest valid result: cells in 100 µV, block in mV, temperatures in 0.1 degC. -/
  valid : Bool
  cells : Vector Nat 16
  block : Nat
  temps : Vector Int 4
  /-- Cells beyond a trip level in the latest result, one bit each (R285). -/
  wasLow : BitVec 16
  wasHigh : BitVec 16
  /-- Beyond a warning level in the latest result. -/
  lowBad : Bool
  highBad : Bool
  tempBad : Bool
  /-- Consecutive signatures per wire, suspect wires (R292). -/
  signs : Vector Nat 17
  suspect : BitVec 17
  /-- Beyond the reach of CHA, of CHB (R286). -/
  missA : Bool
  missB : Bool
  staleSince : Option Nat
  /-- Serial of the latest IDENT, and whether it differs from the recorded one (R275). -/
  present : Nat
  changed : Bool
  reloads : Nat
  /-- A test ordered on the unit: its kind (R291, R292). -/
  testing : Option Nat
  /-- The test that runs on the unit: its sweep id and the FT at which it is over (R293, R297). -/
  testOn : Option (Nat × Nat)
  deriving DecidableEq, Repr

/-- The chain beyond its objects. -/
structure ChainState where
  units : Vector UnitSt 32
  /-- Planned and unread sweeps, oldest first. -/
  sweeps : List Sweep
  nextId : Nat
  nextSeq : Nat
  cmds : List ChainCmd
  /-- A LOOP has reached the far end in time since it was last sent. -/
  loopOk : Bool
  /-- Local time from which the next LOOP may leave (R274, R287). -/
  loopAt : Nat
  /-- Trips in force, and since when every value concerned has lain within its warning level (R285). -/
  lowTrip : Bool
  highTrip : Bool
  tempTrip : Bool
  lowOk : Option Nat
  highOk : Option Nat
  tempOk : Option Nat
  staleBlock : Bool
  staleSaid : Bool
  /-- Local times of the latest open-wire test, switch test and balancing pass. -/
  openWireAt : Nat
  switchAt : Nat
  balanceAt : Nat
  /-- Cells of the latest REST sweep in 100 µV (R295), empty without one. -/
  rest : List Nat
  deriving DecidableEq, Repr

end Sys2Proof.Machine
end

