-- ==== Sys2Proof/Machine/TypesFabric.lean ====
section
/-! DEFINITION. Plain data of the Renxel fabric (spec/13). -/

namespace Sys2Proof.Machine

/-- Keys and salts of both directions of a link (R350, R352): 32-byte keys, 4-byte salts. -/
structure LinkKeys where
  keyTx : List Byte
  saltTx : List Byte
  keyRx : List Byte
  saltRx : List Byte
  deriving DecidableEq, Repr

/-- One direction of a link's line: scrambler state, next link sequence (expected, when receiving). -/
structure LineDir where
  scrambler : BitVec 58
  next : Nat
  deriving DecidableEq, Repr

/-- What the two ends have said in AUTHENTICATING or in a rekey (R352, R353). -/
structure AuthSt where
  ownHello : Option (List Byte)
  peerHello : Option (List Byte)
  signed : Bool
  peerSigned : Bool
  finSent : Bool
  deriving DecidableEq, Repr

/-- A rekey of a link in UP (R353): the exchange under way, new keys, the switch sequence of each direction, which
directions have switched, failures in a row, local time of the next start. -/
structure RekeySt where
  auth : Option AuthSt
  fresh : Option LinkKeys
  switchAt : Option Nat
  txDone : Bool
  rxDone : Bool
  failures : Nat
  nextAt : Nat
  deriving DecidableEq, Repr

/-- Credit counts of a channel, each cumulative and mod 256 (R345): flits sent and the peer's freed count; flits received,
freed, and the freed count shown in frames. -/
structure Credit where
  sent : Nat
  peerFreed : Nat
  received : Nat
  freed : Nat
  shown : Nat
  deriving DecidableEq, Repr

/-- A MESSAGE being received (R348): source node, channel, message number, queue, length, bytes so far. -/
structure Fragmented where
  source : Nat
  channel : Nat
  number : Nat
  queue : Nat
  length : Nat
  bytes : List Byte
  deriving DecidableEq, Repr

/-- A sideband request in flight (R366): sequence, retimer 1 or 2, register, the local time its answer is due. -/
structure SideReq where
  seq : Nat
  retimer : Nat
  reg : Nat
  due : Nat
  deriving DecidableEq, Repr

/-- Sideband of a link (R365, R366): the nibbles of a message being received, the bytes to send, requests in flight, the
next sequence, cable ids seen, requests missed in a row by each retimer, and whether a cause of R366 stands for this episode
(DESIGN CHOICE, notes/assumptions/39). -/
structure SideSt where
  rx : Option (List (BitVec 4))
  tx : List Byte
  reqs : List SideReq
  seq : Nat
  cables : Nat × Nat
  missed : Nat × Nat
  lost : Bool × Bool
  hot : Bool
  mismatch : Bool
  deriving DecidableEq, Repr

/-- A link beyond its objects. -/
structure LinkSt where
  rx : LineDir
  tx : LineDir
  keys : Option LinkKeys
  /-- The peer's certificate chain (R351, R446). -/
  peerChain : List Byte
  auth : AuthSt
  rekey : RekeySt
  credits : Vector Credit 4
  /-- Consecutive correct sync words while training, frame lock held, TRAIN_DONE flits received (R347). -/
  syncRun : Nat
  locked : Bool
  doneSeen : Nat
  /-- Consecutive frames with a bad sync word; local times of uncorrectable frames and of tag failures (R354). -/
  badSync : Nat
  uncorrectable : List Nat
  tagFailed : List Nat
  /-- Local time the state was entered, LINK_TRAIN_FAIL said for this episode (R347). -/
  enteredAt : Nat
  failSaid : Bool
  /-- Wait in ms, local time the wait ends, local times of losses, local time of entering UP (R355). -/
  backoff : Nat
  waitEnd : Nat
  losses : List Nat
  upAt : Nat
  /-- TIMING flits due, other channel 0 flits, as 64-byte flits without sequence, credits and tag (R344). -/
  timing : List (List Byte)
  control : List (List Byte)
  /-- Frames since the last channel 0 and the last channel 3 flit (R344). -/
  sinceCh0 : Nat
  sinceCh3 : Nat
  partials : List Fragmented
  side : SideSt
  /-- Local time since when the margin has been low, LINK_MARGIN_LOW said (R367). -/
  lowSince : Option Nat
  lowSaid : Bool
  deriving DecidableEq, Repr

/-- What a VERSION flit says (Table 13-6). -/
structure VersionSaid where
  majors : BitVec 16
  minors : BitVec 32
  profile : BitVec 8
  node : BitVec 16
  link : BitVec 8
  serial : BitVec 64
  slot : BitVec 8
  deriving DecidableEq, Repr

/-- An entry of the link-state database (R356). -/
structure LinkState where
  node : Nat
  serial : Nat
  seq : BitVec 32
  peers : Vector Nat 32
  heard : Nat
  deriving DecidableEq, Repr

/-- The fabric service beyond its objects. -/
structure FabricSt where
  links : Vector LinkSt 32
  database : List LinkState
  /-- Own link-state sequence. -/
  seq : Nat
  /-- ACTIVATE is armed (R358). -/
  armed : Bool
  /-- NO_ROUTE was recorded at; the self-route episode has been said (R357, R359). -/
  noRouteAt : Option Nat
  selfSaid : Bool
  deriving DecidableEq, Repr

end Sys2Proof.Machine
end

