-- ==== Sys2Proof/Machine/TypesHost.lean ====
section
/-! DEFINITION. Plain data of the event recorder (spec/16), the host protocol (spec/14) and the message queues
(spec/15). -/

namespace Sys2Proof.Machine

/-- The 16 argument bytes of a cause (spec/16, R411): bytes 0-3 the subject, bytes 4-15 the values, least-significant
byte first.  A cause without a subject has `subj = 0xFFFFFFFF` (DESIGN CHOICE, notes/assumptions/13). -/
structure Args where
  subj : BitVec 32
  vals : BitVec 96
  deriving DecidableEq, Repr

/-- No subject (R411). -/
abbrev Args.noSubject : BitVec 32 := 0xFFFFFFFF

/-- One entry of the staging queue (R413): an offered cause with its repeats. `trigger` is 255 under R409. -/
structure StagedCause where
  cause : Nat
  ft : Nat
  args : Args
  trigger : Nat
  flush : Bool
  repeats : Nat
  lastRepeatUs : Nat
  deriving DecidableEq, Repr

/-- One record (R410, Table 16-2).  The CRC is a function of the rest and is computed when the record is shown. -/
structure Record where
  number : Nat
  cause : Nat
  ft : Nat
  args : Args
  hours : Nat
  powerCycles : Nat
  repeats : Nat
  trigger : Nat
  snapCount : Nat
  lastRepeatUs : Nat
  snaps : List Byte
  flushed : Bool
  snapLate : Bool
  repeatFull : Bool
  deriving DecidableEq, Repr

/-- Why the recorder is flushing (0x8400.0C): the numbers of Table 16-4. -/
inductive FlushKind where
  | background | trigger | powerFail | haltOrReset | clear
  deriving DecidableEq, Repr

/-- Number of a flush kind in 0x8400.0C. -/
def FlushKind.code : FlushKind → Nat
  | .background => 1
  | .trigger => 2
  | .powerFail => 3
  | .haltOrReset => 4
  | .clear => 5

/-- A CLEAR that waits for a flush in progress (R419): the clearing session and its role byte. -/
structure ClearWaiting where
  sess : Nat
  role : Nat
  deriving DecidableEq, Repr

/-- State of the event recorder beyond its dictionary objects (spec/16). -/
structure RecState where
  /-- Staging queue, oldest first, at most 64 (R413). -/
  staging : List StagedCause
  /-- Volatile ring, newest first, at most 16,384 (R415). -/
  ring : List Record
  /-- MRAM region, newest first, at most 131,072 (R417). -/
  mram : List Record
  /-- The flush in progress, if any (R416). -/
  flush : Option FlushKind
  /-- Causes not staged since the last RECORDER_EVENTS_LOST: count, FT of the first, FT of the last (R414). -/
  lostCount : Nat
  lostFirst : Nat
  lostLast : Nat
  /-- A CLEAR that waits for the flush in progress (R419). -/
  clearWaiting : Option ClearWaiting
  /-- First record lost by a power-fail flush cut short, recorded at the next start (R416). -/
  flushCutAt : Option Nat
  /-- A power-fail ring kept for the ROM to recover (R73). -/
  ringKept : Bool
  deriving DecidableEq, Repr

/-- One event push of a session (R386). `recNo = none` until its record is built; 0xFFFFFFFF without a record. -/
structure Push where
  cause : Nat
  repeats : Nat
  ft : Nat
  recNo : Option Nat
  args : Args
  /-- Push sequence and time of first sending, once sent. -/
  seq : Nat
  sentAt : Nat
  /-- Time of its latest sending. -/
  againAt : Nat
  deriving DecidableEq, Repr

/-- Where a message for the host goes: session, port, PCP, address and UDP port (R371, R376). -/
structure HostDest where
  sess : Nat
  port : Nat
  pcp : Nat
  peer : Nat
  udp : Nat
  deriving DecidableEq, Repr

/-- A response: the bodies of its messages, more than one for a READ_LIST only (R379, R489). -/
structure Resp where
  reqId : Nat
  status : Nat
  bodies : List (List Byte)
  deriving DecidableEq, Repr

/-- A write a host session sends to an object: the session and the value's bytes on the wire (spec/14, R380). -/
structure HostWrite where
  sess : Nat
  bytes : List Byte
  deriving DecidableEq, Repr

/-- What comes with every message: its session, its request id, the address its datagram came from (R376), and the Version
and Flags of its header (Table 14-3). -/
structure ReqHdr where
  sess : Nat
  reqId : BitVec 32
  port : Fin 2
  peer : BitVec 128
  udp : BitVec 16
  version : BitVec 8 := 0x10
  flags : BitVec 8 := 0
  deriving DecidableEq, Repr

/-- What a client's later handshake flight carries (R372): the ClientHello with the cookie, or the flight that ends the
handshake, with what checking it found: the TLS alert (0 none) and the role byte the certificate names. -/
inductive DtlsMsg where
  | cookieHello (port : Fin 2) (peer : BitVec 128) (cookieOk : Bool)
  | finish (assoc : Nat) (chain : List Byte) (role : BitVec 8) (alert : BitVec 8)
  deriving DecidableEq, Repr

/-- A block transfer of a session (R384). -/
structure Transfer where
  id : Nat
  key : Nat
  isWrite : Bool
  total : Nat
  chunk : Nat
  /-- Read: the snapshot. Write: the bytes held aside, in order. -/
  bytes : List Byte
  /-- Next offset needed (write) or acknowledged (read); end of what has been sent (read). -/
  next : Nat
  sent : Nat
  lastActive : Nat
  deriving DecidableEq, Repr

/-- A telemetry stream (R388). -/
structure Stream where
  id : Nat
  period : Nat
  phase : Nat
  keys : List Nat
  sampleBytes : Nat
  /-- Next sample sequence and next datagram sequence; sample blocks waiting for their datagram. -/
  seq : Nat
  sent : Nat
  batch : List (List Byte)
  deriving DecidableEq, Repr

/-- An open session (R372 to R377). -/
structure Session where
  id : Nat
  role : Nat
  port : Nat
  peer : Nat
  peerUdp : Nat
  version : Nat
  msgSize : Nat
  keepalive : Nat
  openedAt : Nat
  /-- FT, and local time, of the latest authenticated datagram. -/
  lastSeen : Nat
  seenAt : Nat
  /-- Event filter: subsystem mask and excluded causes; mask 0 is no subscription (R385). -/
  mask : Nat
  excluded : List Nat
  unsent : List Push
  unacked : List Push
  lost : Nat
  nextPush : Nat
  kept : List Resp
  transfers : List Transfer
  streams : List Stream
  cursor : Nat
  /-- The certificate chain of the client (R372, R446). -/
  chain : List Byte
  deriving DecidableEq, Repr

/-- A DTLS handshake in progress, or an association that has not had its OPEN (R372, R374). -/
structure Assoc where
  id : Nat
  port : Nat
  peer : Nat
  done : Bool
  role : Nat
  chain : List Byte
  deriving DecidableEq, Repr

/-- Sending on a priority of an Ethernet port is paused until a TB time (R371). -/
structure PauseTx where
  port : Nat
  prio : Nat
  untilTb : Nat
  deriving DecidableEq, Repr

/-- State of the host ports beyond the dictionary objects (spec/14). -/
structure HostState where
  sessions : List Session
  assocs : List Assoc
  nextSession : Nat
  nextTransfer : Nat
  /-- Per Ethernet port and priority: sending paused by a received PFC frame (R371). -/
  pausedTx : List PauseTx
  /-- Last FT at which MESSAGE_MALFORMED was recorded (R373). -/
  malformedAt : Option Nat
  deriving DecidableEq, Repr

/-- What an item of a queue carries: bytes the queue never reads. -/
structure QItem where
  id : Nat
  length : Nat
  /-- Bytes written so far. -/
  written : Nat
  prio : Nat
  stamp : Nat
  poison : Bool
  abandoned : Bool
  /-- Cells of this item that stand in GDDR7 (R400). -/
  spilled : Nat
  /-- A consumer has started on it before it was complete (R396). -/
  started : Bool
  data : List Byte
  deriving DecidableEq, Repr

/-- A queue that is not empty or has a reader or a state to remember (R393): items in the order of their first cell. -/
structure Queue where
  q : Nat
  items : List QItem
  /-- HIGH (R401). -/
  high : Bool
  /-- Deadline FT of a waiting stalling read (R397): `some 0` is a read without one. -/
  waiting : Option Nat
  dropRecordedAt : Option Nat
  deriving DecidableEq, Repr

/-- State of the pool beyond its dictionary objects (spec/15). -/
structure QueueState where
  queues : List Queue
  poolLow : Bool
  correctedAt : Option Nat
  nextItem : Nat
  deriving DecidableEq, Repr

end Sys2Proof.Machine
end

