-- ==== Sys2Proof/Machine/TypesModule.lean ====
section
/-! DEFINITION. Plain data of the package, supplies, start, resets and recovery (spec/02, spec/03). -/

namespace Sys2Proof.Machine

/-- Contacts of an Ethernet cage (Table 2-12): presence and interrupt as seen (asserted), reset (asserted) and low-power
mode as driven, the two-wire lines as they stand. -/
structure Cage where
  present : Bool
  int : Bool
  rst : Bool
  lpMode : Bool
  scl : Bool
  sda : Bool
  deriving DecidableEq, Repr

/-- Control contacts (Table 2-12): inputs as last seen at the contact, outputs as driven. `true` is the asserted or high
level; for the active-low nets PFAIL_N, XOFF0_N and XOFF1_N it means asserted (driven low). -/
structure Pins where
  maceOut : Bool
  maceIn : Bool
  okOut : Bool
  peerOk : Bool
  slotB : Bool
  pfail : Bool
  xoff0 : Bool
  xoff1 : Bool
  serviceEn : Bool
  rstLow : Bool
  ppsOut : Bool
  ppsIn : Bool
  /-- Tamper loops 0 to 3 open. -/
  tamper : BitVec 4
  cages : Vector Cage 2
  deriving DecidableEq, Repr

/-- Module states (0xF160.01). -/
inductive ModMode where
  | rom | loading | waiting | coldStandby | hotStandby | active | halted | recovery | mainLoss
  deriving DecidableEq, Repr

/-- Reset kinds (Table 3-5). -/
inductive ResetKind where
  | powerOn | powerFail | pin | host | watchdog | fatal | thermal | zeroise | startTimeout
  deriving DecidableEq, Repr

/-- SDM clock role on a SD_CLK net (0xF140.02, R49). -/
inductive SdmRole where
  | off | listening | driving
  deriving DecidableEq, Repr

/-- States of a firmware bank (0xA300.03). -/
inductive BankState where
  | valid | failed | invalid | empty
  deriving DecidableEq, Repr

/-- One of the signed images a firmware bank holds (R62): its kind (Table 18-6), version and body hash, and whether its
header passes the check at a reload (R65). -/
structure BankPart where
  kind : Nat
  version : Nat
  hash : List Byte
  headerOk : Bool
  deriving DecidableEq, Repr

/-- What the bank descriptor holds (R62): the preferred bank, states and failed-start counts of A and B. -/
structure BankDesc where
  preferB : Bool
  stateA : BankState
  stateB : BankState
  failsA : Nat
  failsB : Nat
  deriving DecidableEq, Repr

/-- A slot of the bank descriptor in MRAM (R62). -/
structure DescSlot where
  seq : BitVec 32
  crc : BitVec 32
  desc : BankDesc
  deriving DecidableEq, Repr

/-- What the header check and the body hash of the image in a firmware bank would find (R63, spec/18 R463), with the
descriptor of the bank (R62). -/
structure BankSt where
  state : BankState
  failedStarts : Nat
  version : Nat
  rollback : Nat
  magicOk : Bool
  sigOk : Bool
  hashOk : Bool
  /-- COMMIT_ON_CONFIRM of the header, and the body hash it names (Table 18-6). -/
  commitOnConfirm : Bool
  hash : List Byte
  /-- The signed images of R62, in its order: management firmware, standard loop set, Saffron microcode, link controller
  firmware, CSU-16 firmware. -/
  parts : Vector BankPart 5
  deriving DecidableEq, Repr

/-- Kinds of IEEE 1149.1 instruction (R56): those that drive contacts (EXTEST among them), debug, and the three that are
always available. -/
inductive Jtag where
  | bypass | idcode | samplePreload | driving | debug
  deriving DecidableEq, Repr

/-- Which bank runs (0xA300.01): a firmware bank or the recovery ROM. -/
inductive Running where
  | a | b | recovery
  deriving DecidableEq, Repr

/-- Shutdown in progress (0xF161.03). -/
inductive Shutdown where
  | none | handingOver | ramping | stopping | halted
  deriving DecidableEq, Repr

/-- One logged supply trim (R37). -/
structure TrimEntry where
  ft : Nat
  group : Nat
  old : Int
  new : Int
  lowest : Nat
  deriving DecidableEq, Repr

/-- Junction responses in force (Table 2-8), each with the level that set it. -/
structure Junction where
  warning : Bool
  high100 : Bool
  high103 : Bool
  critical105 : Bool
  critical108 : Bool
  trip : Bool
  deriving DecidableEq, Repr

/-- Conditions a rule times (R33, R36, R40, R41, Table 2-14, R67): how long each has held is counted from here. -/
inductive Timer where
  /-- Hold energy below 1.5 J with main present; 12V_MAIN out of range; AUX low. -/
  | holdLow | mainRange | auxLow
  /-- Junction at 105 degC or more; coolant flow low; coolant inlet high. -/
  | junction105 | flowLow | inletHigh
  /-- The last raise of a trim group; no code below 24 and no step of it. -/
  | trimRaised (g : Fin 9)
  | trimClear (g : Fin 9)
  deriving DecidableEq, Repr

/-- How far halting has come (R78). -/
inductive HaltStage where
  | none | journal | flush | done
  deriving DecidableEq, Repr

/-- A download into the recovery ROM (R79 to R82): which source holds it, the bytes so far. -/
inductive RecSource where
  | ethernet | pair
  deriving DecidableEq, Repr

/-- What a start meets beyond the state: SLOT_SEL as sampled, records of the kept ring whose CRC fails (R73), whether the
firmware stalls before step 9 (R71), whether a known-answer test of the ROM fails (R61), and which descriptor slots read
torn (R62). -/
structure StartInputs where
  slotB : Bool
  ringBad : List Nat
  stalls : Bool
  testFails : Bool
  descTorn : BitVec 2
  deriving DecidableEq, Repr

/-- What a tick boundary meets beyond the state (R19): the master
carrier counts (R113), the readings of contacts, sensors and PLL locks, and of the tick just ended which cores ended their
main evaluation by its deadline and whether management core 0 wrote the heartbeat (R422). -/
structure TickInputs where
  feedCarrier : Nat
  storageCarrier : Nat
  serviceEn : Bool
  maceIn : Bool
  tamper : BitVec 4
  ppsIn : Bool
  /-- Presence and interrupt of the cages of ports 0 and 1. -/
  cagePresent : BitVec 2
  cageInt : BitVec 2
  /-- Temperatures in 0.1 degC: highest junction, coolant inlet, coolant outlet. -/
  junction : BitVec 16
  inlet : BitVec 16
  outlet : BitVec 16
  pllLock : BitVec 6
  refClock : Bool
  ended : BitVec 4
  heartbeat : Bool
  deriving DecidableEq, Repr

/-- The module as a whole beyond its dictionary objects (spec/02, spec/03). -/
structure ModState where
  pins : Pins
  mode : ModMode
  /-- HOLD carries the load; main loss declared; the flush of its sequence has ended (R31). -/
  onHold : Bool
  mainLoss : Bool
  shed : Bool
  poweredOff : Bool
  /-- Start condition met (R30); reset held (R40); a stop in the ROM after a failed self-test (R61). -/
  started : Bool
  heldInReset : Bool
  romStopped : Bool
  /-- A reset waits for the end of the main-loss sequence (R31, R75). -/
  resetWaiting : Option ResetKind
  /-- Powered domains: Saffron tiles, then the order of 0xF110.02. -/
  tilesOn : BitVec 64
  domainsOn : BitVec 16
  pllLock : BitVec 6
  sdm : Vector SdmRole 4
  junction : Junction
  /-- Saffron is gated or restarted at the next tick boundary (R35). -/
  safDue : Bool
  /-- Local time since when each timed condition holds. -/
  timers : List (Timer × Nat)
  trimLog : List TrimEntry
  trimDegraded : BitVec 9
  bankA : BankSt
  bankB : BankSt
  preferB : Bool
  descA : DescSlot
  descB : DescSlot
  running : Running
  /-- Anti-rollback counter of firmware (R63, R464). -/
  fwCounter : Nat
  /-- The last start was of this bank and was not confirmed when it ended by a reset that counts (R64). -/
  failedBank : Option Bool
  /-- Local time of the ROM's handover, of the start condition, of step 9, of the gates being met. -/
  handoverAt : Nat
  startAt : Nat
  step9At : Option Nat
  gatesAt : Option Nat
  confirmed : Bool
  readinessSaid : Bool
  /-- MACE_LINE_CONFLICT since this start (gate 8). -/
  conflict : Bool
  /-- The firmware stalled before step 9 (R71). -/
  stalled : Bool
  shutdown : Shutdown
  /-- STOP_SHELF has set the rack cap to zero, the partner being halted (R77); how far halting has come (R78). -/
  stopCap : Bool
  haltStage : HaltStage
  /-- Download in the recovery ROM: source, bank B, image attributes so far. -/
  download : Option RecSource
  downloadB : Bool
  downloadBytes : Nat
  /-- Local time of the holder's last data (R82). -/
  downloadAt : Nat
  /-- Failed known-answer test of the ROM (R61): what the next self-test would find. -/
  romTestsOk : Bool
  /-- Firmware watchdog stage armed (R74); control stage armed. -/
  fwArmed : Bool
  ctlArmed : Bool
  /-- Local time of the firmware stage's last feed (R74). -/
  fwFedAt : Nat
  /-- Local time the recovery ROM last asked the partner (R81). -/
  recAskedAt : Option Nat
  /-- The boundary-scan instruction in force (R56). -/
  jtag : Jtag
  deriving DecidableEq, Repr

/-- JUNCTION_CRITICAL in force, by either of its levels. -/
def Junction.critical (j : Junction) : Bool := j.critical105 || j.critical108

end Sys2Proof.Machine
end

