-- ==== Sys2Proof/Machine/TypesPower.lean ====
section
/-! DEFINITION. Plain data of the power stage (spec/05): what its dictionary objects do not hold. -/

namespace Sys2Proof.Machine

/-- States of a phase unit (Table 5-10, .01). -/
inductive PhaseState where
  | off | starting | run | hiccup | latched | tempStop | burstIdle
  deriving DecidableEq, Repr

/-- States of a converter (R491, Table 5-9, .01). -/
inductive ConvState where
  | stopped | softStart | running | burst | tripped | latched | disabled
  deriving DecidableEq, Repr

/-- Which rule stopped a converter that waits to restart (R491, TRIPPED). -/
inductive StopRule where
  | trip        -- R138, R139: every phase in HICCUP
  | sense       -- R125: a channel is OPEN
  | busOv       -- R141
  | feed        -- R142
  | core        -- R187: the owning core is not RUNNING
  deriving DecidableEq, Repr

/-- Master carrier counts of the feed and the storage converter, in edge units (R113). -/
structure Carriers where
  feed : Nat
  storage : Nat
  deriving DecidableEq, Repr

/-- What happens to a phase at its next carrier boundary. -/
inductive PhasePend where
  | none
  | start      -- outputs enabled (R129)
  | release    -- outputs released at a takeover (R425)
  | stop       -- stops with its converter (R125, R142, Enable 0)
  | takeOut    -- R146
  | tempStop   -- R143
  | rejoin     -- R147, second and third row of Table 5-7
  | resume     -- leaves burst: a storage phase at its next update point, a feed phase at the boundary (R133, R134)
  deriving DecidableEq, Repr

/-- One phase unit (R112 to R148) beyond its objects. -/
structure Phase where
  state : PhaseState
  inService : Bool
  pend : PhasePend
  /-- STARTING for a retry (R137). -/
  retry : Bool
  /-- In the bring-back sequence, blending (R147). -/
  rejoin : Bool
  /-- Outputs switch (before R47 forces them off). -/
  switching : Bool
  /-- The fault input was asserted in the current carrier period (R136). -/
  limitedNow : Bool
  /-- The last complete period was limited; the number of consecutive limited periods (R137). -/
  limitedLast : Bool
  limitedRun : Nat
  /-- Pulses were ended by truncation in the current and the last complete period (R140). -/
  truncNow : Bool
  truncLast : Bool
  tempWarn : Bool
  /-- Consecutive ticks at or above the shutdown level (R143). -/
  tempRun : Nat
  /-- Local time of the entry to HICCUP, or from which it runs without HICCUP (R137). -/
  since : Nat
  /-- Shadow compare value; the compare value taken at the last update point (R118), towards which a shift moves (R116). -/
  shadow : Nat
  goal : Nat
  /-- Counter values at which output X turns on and off in the period under way; equal for a period without a pulse
  (R115, R118). -/
  xOn : Nat
  xOff : Nat
  /-- X does not turn on again in this period; Y follows X until the next update point (R136, LIMIT). -/
  cut : Bool
  follow : Bool
  /-- Counter value at the latest assertion of the fault input in this period (R144). -/
  faultAt : Option Nat
  /-- Start of the episode at the trim limit (R145), and the local time since which the trim has been there. -/
  trimLimited : Bool
  limitSince : Option Nat
  deriving DecidableEq, Repr

/-- One converter beyond its objects. -/
structure ConvSt where
  /-- Started and not stopped: the loop drives it. -/
  on : Bool
  /-- It stops at its next carrier boundary. -/
  stopPend : Bool
  /-- In burst (R133, R134). -/
  burst : Bool
  /-- It waits to be started by R129: the feed converter for its facility feed, the storage converter for the rack bus. -/
  waitFeed : Bool
  waitBus : Bool
  stopRule : Option StopRule
  /-- Length P of the period in force, in edge units (R113). -/
  period : Nat
  /-- Dither generator (R114). -/
  dither : BitVec 32
  /-- Periods drawn by it. -/
  draws : Nat
  /-- Offsets move towards new slots by at most PER/64 per period (R146, R147). -/
  moving : Bool
  /-- Soft start in progress: its value in µV (feed) or µA (storage) (R130, R131). -/
  soft : Option Nat
  softHeld : Bool
  /-- Overload accumulator in tenths of a millisecond, the clamp, the consecutive comparisons (R139). -/
  overTenths : Nat
  overClamp : Bool
  overRun : Nat
  /-- Sum and count of control samples in mA since the last comparison. -/
  sumMilli : Int
  sumCount : Nat
  /-- Common command as Cardamom wrote it (R117). -/
  command : Int
  /-- Consecutive ticks the burst entry condition has held (R133). -/
  burstRun : Nat
  /-- Local time of the end of its last limited period (R144). -/
  limitedAt : Option Nat
  /-- A feed burst packet: 0 while it waits for its first boundary, else the number of its carrier period (R134). -/
  packet : Option Nat
  /-- Carrier count at the last tick boundary and edge units still to shorten (R429). -/
  carrier : Nat
  align : Int
  deriving DecidableEq, Repr

/-- One sense channel beyond its objects (R121 to R125, R490). -/
structure ChanSt where
  /-- The latest 1,024 modulator bits, the newest in bit 0; the length of the run of identical bits that ends with it; local
  time at which 128 of them last stood in a run (R121, R125, R490). -/
  bits : BitVec 1024
  run : Nat
  runAt : Nat
  /-- OPEN mark (R125) and the 16-bit run of R490. -/
  open_ : Bool
  suspect : Bool
  /-- Its redundant partner's samples stand for it (R125). -/
  switched : Bool
  /-- Consecutive protection samples beyond, and back inside, the thresholds (R122, action 1). -/
  beyond : Nat
  inside : Nat
  limited : Bool
  deriving DecidableEq, Repr

/-- The power stage beyond its dictionary objects (spec/05). -/
structure PowerState where
  phases : Vector Phase 20
  feed : ConvSt
  storage : ConvSt
  chans : Vector ChanSt 48
  /-- Fast fault inputs at the contacts: asserted (R136); TB stamp of each one's latest edge (R44). -/
  faultIn : BitVec 20
  faultStamp : Vector Nat 20
  /-- Reference in force in µV (R127). -/
  refMicro : Nat
  /-- Arrival stamp of the newest target, and whether a clove brought it (R128). -/
  targetStamp : Nat
  targetClove : Bool
  /-- A notice or a SET_REG came since storage burst began (R133). -/
  burstWake : Bool
  truncating : Bool
  truncRelease : Nat
  /-- Consecutive samples at or above the over-voltage trip; local times of the trips of the last 60 s (R141). -/
  ovRun : Nat
  ovTrips : List Nat
  ovWaiting : Bool
  /-- Consecutive ticks below, and at or above, the under-voltage report level (R141). -/
  uvLow : Nat
  uvHigh : Nat
  uvInForce : Bool
  /-- Consecutive ticks of the feed below its low, above its high level, and within 700 V to 900 V (R142). -/
  feedLow : Nat
  feedHigh : Nat
  feedOk : Nat
  /-- Consecutive ticks of the bus below 840 V (R141). -/
  busLow : Nat
  /-- Feed power over the 10 ms block under way: sum in W, ticks; average of the last whole block (R134). -/
  feedSum : Int
  feedCount : Nat
  feedAvg : Int
  /-- The taper cap (R305) and the cap of a quiet hold (R308) on the storage current limit, in µA. -/
  taperCap : Option Nat
  holdCap : Option Nat
  deriving DecidableEq, Repr

end Sys2Proof.Machine
end

