-- ==== Sys2Proof/Machine/TypesRack.lean ====
section
/-! DEFINITION. Plain data of the rack manager, the ramp ledger and the legacy step table (spec/12, spec/20), and the tray
frames that carry its commands (Tables 12-1 to 12-4). -/

namespace Sys2Proof.Machine

/-- TRAY_REPORT payload (Table 12-2). -/
structure TrayReport where
  cycle : BitVec 32
  flags : BitVec 8
  present : BitVec 8
  power : Vector (BitVec 16) 8
  estimate : Vector (BitVec 16) 8
  deriving DecidableEq, Repr

/-- TRAY_STATUS payload (Table 12-3). -/
structure TrayStatus where
  seq : BitVec 32
  throttled : BitVec 8
  reason : Vector (BitVec 8) 8
  flags : Vector (BitVec 8) 8
  limit : Vector (BitVec 16) 8
  deriving DecidableEq, Repr

/-- TRAY_IDENT payload (Table 12-3). -/
structure TrayIdent where
  seq : BitVec 32
  serial : BitVec 64
  present : BitVec 8
  firmware : BitVec 8
  maxima : Vector (BitVec 16) 8
  deriving DecidableEq, Repr

/-- STEP_NOTICE payload (Table 12-3): step in mA. -/
structure StepNotice where
  seq : BitVec 32
  step : BitVec 32
  chips : BitVec 8
  deriving DecidableEq, Repr

/-- A tray beyond its objects. -/
structure TraySt where
  /-- The report of the present cycle has arrived in time; consecutive misses; consecutive valid reports (R320, R321). -/
  got : Bool
  missedRun : Nat
  validRun : Nat
  /-- The serial of the latest TRAY_IDENT. -/
  serial : Nat
  /-- Share under flap hold in W, and its end in local time (R320). -/
  holdShare : Option (Nat × Nat)
  /-- Admission ceilings in µW and which have ended (R322). -/
  admission : Vector Nat 8
  admitted : BitVec 8
  /-- Throttled map of the latest TRAY_STATUS, and the local time each throttle began (R331). -/
  throttled : BitVec 8
  since : Vector Nat 8
  /-- The latest report has COOLANT_LOSS (R332). -/
  loss : Bool
  /-- Sequence of LIMITS and ADMIT (Table 12-4). -/
  seq : Nat
  /-- Local times of the latest TRAY_REPORT and TRAY_STATUS (the ages of R231). -/
  reportAt : Nat
  statusAt : Nat
  /-- Consecutive frames of each chip in which estimate and power disagree, and agree (R240). -/
  disagree : Vector Nat 8
  agree : Vector Nat 8
  deriving DecidableEq, Repr

/-- A remote level: source shelf, level, when it fired (R331). -/
structure RemoteLevel where
  shelf : Nat
  level : Nat
  at_ : Nat
  deriving DecidableEq, Repr

/-- A group beyond its objects (R329 to R331). -/
structure GroupSt where
  remote : List RemoteLevel
  /-- A local level is set; when a member last throttled; level and local time of the latest GROUP_CAP. -/
  episode : Bool
  lastThrottle : Nat
  sentLevel : Option Nat
  sentAt : Nat
  deriving DecidableEq, Repr

/-- A loan of the ramp ledger (R334, 0x7011). -/
structure Loan where
  peer : Nat
  lent : Bool
  up : Bool
  slice : Nat
  start : Nat
  ret : Nat
  seq : Nat
  deriving DecidableEq, Repr

/-- The rack manager beyond its objects. -/
structure RackState where
  trays : Vector TraySt 24
  groups : Vector GroupSt 64
  loans : List Loan
  /-- Tray cycle under way, and the FT of the latest boundary acted on (R317). -/
  cycle : Nat
  boundary : Option Nat
  /-- Trays whose reports of the latest judged cycle arrived (R320, Table 17-3). -/
  judged : BitVec 24
  /-- Chip energy and floor energy in units of 10 µJ (R336). -/
  energy : List (Nat × Int)
  floorEnergy : List (Nat × Int)
  /-- Throttle time in µs by chip * 16 + reason (0x7200+c.0F). -/
  throttleTime : List (Nat × Int)
  /-- Rack load power in W of the latest ticks, newest first, as many as a mean over 1 ms takes (R323). -/
  load : List Int
  /-- Stamp of the rack cap that prevails, and whether a clove set it (R128). -/
  capStamp : Nat
  capClove : Bool
  /-- BUDGET_UNDERVOLTAGE_HOLD stands for this episode (R324). -/
  uvSaid : Bool
  /-- When LEDGER_NEED was last recorded (R335). -/
  needAt : Option Nat
  /-- Legacy limit per chip in W while a sequence plays (R486). -/
  legacyLimit : Option Nat
  deriving DecidableEq, Repr

/-- The legacy step table beyond its objects (spec/20). -/
structure LegacyState where
  /-- Enable as written, in force at the next boundary (R483). -/
  enabling : Option Bool
  /-- P_ref, S of the running sequence, the sum of the steps played in units of 1/4096 of the rating, next entry to play. -/
  pRef : Nat
  runS : Nat
  stepSum : Int
  nextPlay : Nat
  running : Bool
  deriving DecidableEq, Repr

end Sys2Proof.Machine
end

