-- ==== Sys2Proof/Machine/TypesSoc.lean ====
section
/-! DEFINITION. Plain data of the state-of-charge estimator and the learned-value journal (spec/11). Charge is counted in
units of 1 µA µs. -/

namespace Sys2Proof.Machine

/-- One cell: its charge content before the string count, its learned capacity (mAh) and resistance (pΩ: R310 moves it by
less than the 1 µΩ it is published in), the charge its transfers have moved into it. -/
structure CellSt where
  charge : Int
  cap : Nat
  res : Nat
  xfer : Int
  deriving DecidableEq, Repr

/-- The deviation of a unit's cells (R301): at its last rest, in 0.001 %, and when that was in local time. -/
structure SigmaSt where
  atRest : Nat
  restAt : Nat
  deriving DecidableEq, Repr

/-- The first rest of a capacity test (R309): at the low end, model states of charge in 0.001 % of the cells it set, charge
counted per cell. -/
structure TestRest where
  low : Bool
  model : List (Option Int)
  counted : List Int
  deriving DecidableEq, Repr

/-- A journal record (Table 11-2); its CRC is a function of the rest. -/
structure JournalRec where
  atHalt : Bool
  afterRest : Bool
  cells : Nat
  seq : Nat
  ft : Nat
  hours : Nat
  soc : Nat
  sigma : Nat
  lastRest : Nat
  offset : Int
  throughput : Nat
  tests : Nat
  caps : List Nat
  ress : List Nat
  socs : List Nat
  deriving DecidableEq, Repr

/-- A journal slot in MRAM (R311). -/
inductive JournalSlot where
  | valid (r : JournalRec)
  | torn
  | empty
  deriving DecidableEq, Repr

/-- The estimator beyond its objects. -/
structure SocState where
  cells : Vector CellSt 512
  /-- Charge counted out of the string since the cells' contents were formed. -/
  drawn : Int
  sigma : Vector SigmaSt 32
  /-- Local time of the last rest, or of the start. -/
  lastRestAt : Nat
  /-- Consecutive ticks at rest (R302), within 20 A (R308), with the voltage loop's demand over the rest current. -/
  restRun : Nat
  quietRun : Nat
  demandRun : Nat
  /-- Sample FT of the REST sweep of the rest in progress; its marks once it is complete. -/
  restSample : Option Nat
  restSweep : Option (List Nat)
  /-- Consecutive ticks of storage burst; mean of channel 43 over the last second of the rest, spent in burst (R302). -/
  burstTicks : Nat
  burstMean : Option Int
  /-- Local time of the mode's entry; when the taper window was left (R305). -/
  modeAt : Nat
  taperLeft : Option Nat
  /-- The estimate waits for the REST sweep of R306: `some true` takes s_k from the table alone. -/
  forming : Option Bool
  /-- SOC_MARGIN_AT_LIMIT stands (R304). -/
  marginSaid : Bool
  /-- A quiet window is requested in this episode; the hold of the window has begun once (R307, R308). -/
  asked : Bool
  holdBegan : Bool
  /-- Window current and cells of the previous sweep (R310). -/
  prevCurrent : Int
  prevCells : List (Option Nat)
  prevAt : Nat
  testRest : Option TestRest
  testAt : Nat
  tests : Nat
  /-- Charge throughput and balancing charge in mA µs. -/
  throughput : Nat
  moved : Nat
  slotA : JournalSlot
  slotB : JournalSlot
  /-- A trigger waits: (halt, after rest), retries so far, local time of the last try (R312, R313). -/
  trigger : Option (Bool × Bool)
  retries : Nat
  triedAt : Nat
  /-- Slot being written: true for B. -/
  writing : Option (Bool × JournalRec)
  lastWriteAt : Nat
  restSinceStart : Bool
  deriving DecidableEq, Repr

end Sys2Proof.Machine
end

