-- ==== Sys2Proof/Machine/TypesPair.lean ====
section
/-! DEFINITION. Plain data of the active and standby modules of a shelf (spec/17). -/

namespace Sys2Proof.Machine

/-- A TICK_RECORD body (Table 17-3). -/
structure TickRec where
  flags : BitVec 8
  ft : BitVec 64
  mirrorSeq : BitVec 32
  cloveDigest : BitVec 32
  trayCycle : BitVec 32
  trayMap : BitVec 24
  sweep : BitVec 16
  programDigest : BitVec 32
  feedCarrier : BitVec 32
  storageCarrier : BitVec 32
  commands : Vector (BitVec 16) 3
  limits : Vector (BitVec 32) 16
  selection : BitVec 8
  deriving DecidableEq, Repr

/-- One part of a MIRROR (R430): sequence, arrival stamp, effect boundary, object, part and part count, value. -/
structure MirrorPart where
  seq : BitVec 32
  arrival : BitVec 64
  effect : BitVec 64
  index : BitVec 16
  sub : BitVec 8
  part : BitVec 4
  parts : BitVec 4
  value : List Byte
  deriving DecidableEq, Repr

/-- A mirrored write, whole. -/
structure Mirror where
  seq : Nat
  arrival : Nat
  effect : Nat
  key : Nat
  value : List Byte
  /-- On the module that took the write: its session, and the request to answer once it is in force (R383); request 0
  with a write that came as a command of its own. -/
  sess : Nat
  reply : Option Nat
  deriving DecidableEq, Repr

/-- A checkpoint (Table 17-5), as of its boundary; a full one adds the schedule and the duplicate windows. -/
structure Checkpoint where
  boundary : Nat
  memories : Vector Sparse 4
  ports : Vector Sparse 4
  cloveRegs : Vector (BitVec 32) 16
  loop : LoopState
  refMicro : Nat
  phases : Vector Phase 20
  feed : ConvSt
  storage : ConvSt
  soc : SocState
  trays : Vector TraySt 24
  groups : Vector GroupSt 64
  loans : List Loan
  objs : Sparse
  nextSeq : Nat
  mirrorSeq : Nat
  schedule : Option (List SchedClove × List SeqWindow)
  deriving DecidableEq, Repr

/-- What the outgoing module does once a planned handover is done: it stays as standby (R436), halts (R77) or resets
(R76). -/
inductive AfterHandover where
  | stay | halt | reset
  deriving DecidableEq, Repr

/-- A planned handover under way (R432): its boundary D, and whether the standby has answered. -/
structure HandoverSt where
  at_ : Nat
  acked : Bool
  after : AfterHandover
  deriving DecidableEq, Repr

/-- How many periods each converter had drawn at a boundary of the checkpoint period (R114). -/
structure DitherMark where
  ft : Nat
  feed : Nat
  storage : Nat
  deriving DecidableEq, Repr

/-- The pair service beyond its objects. -/
structure PairSt where
  /-- Own records of the latest ticks, newest first; the partner's latest record and those compared already (R427, R428). -/
  own : List TickRec
  partner : Option TickRec
  compared : List Nat
  /-- Mismatching ticks in a row that mismatch or miss, said; missing records in a row, said. -/
  badRun : Nat
  badSaid : Bool
  missRun : Nat
  missSaid : Bool
  /-- Diverging and agreeing ticks in a row; divergence in force. -/
  divRun : Nat
  agreeRun : Nat
  diverged : Bool
  /-- Local time since when the carriers differ by more than 4 edge units, said; aligned at present (R429). -/
  offSince : Option Nat
  offSaid : Bool
  aligned : Bool
  /-- FT of the partner's record last taken for alignment. -/
  alignFrom : Nat
  /-- Active: next mirror sequence, the log, newest first. Standby: next sequence awaited, parts, whole mirrors waiting for
  their order or effect boundary, when a resend was asked for (R430, R431). -/
  nextSeq : Nat
  log : List Mirror
  awaited : Nat
  parts : List MirrorPart
  waiting : List Mirror
  resendAt : Option Nat
  handover : Option HandoverSt
  /-- Checkpoints (R435, R437): the next is to be full; FT of the last taken; the latest complete one held; segments of the
  one arriving; local time a stream ends; when one was put in force; when one was asked for. -/
  fullNext : Bool
  held : Option Checkpoint
  segments : Nat
  streamEnd : Nat
  loadedAt : Option Nat
  askedAt : Option Nat
  /-- Health (R440): local time of the partner's last report, missing said, trim degraded flags seen. -/
  healthAt : Nat
  healthSaid : Bool
  seenTrims : Nat
  noTakerSaid : Bool
  /-- QUEUE_LINK_FAULT, an uncorrectable word in the checkpoint or mirror region, a PLL_UNLOCK stand (Table 17-4). -/
  linkFault : Bool
  regionBad : Bool
  pllBad : Bool
  /-- GDDR7 (R434): local time of the last scrub pass; words corrected and uncorrectable since the last report. -/
  scrubAt : Nat
  corrected : Nat
  uncorrectable : Nat
  /-- End of the lease and of the control stage in local time (R422, R423); when MACE_IN fell. -/
  leaseEnd : Nat
  feedEnd : Nat
  maceInFell : Option Nat
  /-- Cloves fired since the last tick boundary, oldest first (Table 17-3). -/
  fired : List CloveRef
  /-- Draws of the dither generators at the latest boundaries of the checkpoint period, newest first (R114). -/
  marks : List DitherMark
  deriving DecidableEq, Repr

end Sys2Proof.Machine
end

