-- ==== Sys2Proof/Machine/TypesSaffron.lean ====
section
/-! DEFINITION. Plain data of the Saffron engine: images, tile memories, forecast sets, tiers, rotation, swaps (spec/08,
spec/09). -/

namespace Sys2Proof.Machine

/-- A stage record (Tables 9-4, 9-5). -/
structure SafStage where
  op : Nat
  flags : BitVec 8
  first : Nat
  count : Nat
  d1 : Nat
  d2 : Nat
  inA : BitVec 32
  inB : BitVec 32
  out : BitVec 32
  shift : BitVec 8
  table : Nat
  off1 : Nat
  off2 : Nat
  off3 : Nat
  worst : Nat
  /-- A reserved byte of the record is not zero. -/
  spare : Bool
  deriving DecidableEq, Repr

/-- Resource declaration of one logical tile (Table 9-3). -/
structure TileDecl where
  mantissa : Nat
  exponent : Nat
  fastParam : Nat
  buffers : Nat
  slowParam : Nat
  deriving DecidableEq, Repr

/-- A tile-contents record (Table 9-2, kind 7); `len` is its declared length. -/
structure TileRecord where
  tile : Nat
  region : Nat
  offset : Nat
  len : Nat
  data : List Byte
  deriving DecidableEq, Repr

/-- A stream descriptor (Table 9-6). -/
structure StreamDesc where
  offset : Nat
  perTile : Nat
  first : Nat
  count : Nat
  stage : Nat
  deriving DecidableEq, Repr

/-- A waveform window (R234): channel, decimation code, length. -/
structure SafWindow where
  chan : Nat
  dec : Nat
  len : Nat
  deriving DecidableEq, Repr

/-- A directory entry (R249). -/
structure SafSection where
  kind : Nat
  offset : Nat
  length : Nat
  deriving DecidableEq, Repr

/-- A Saffron image: what its header check and body hash would find, the body header of Table 9-1, its sections. -/
structure SafImage where
  hashesOk : Bool
  version : BitVec 8
  tier : Nat
  flags : BitVec 8
  tiles : Nat
  id : BitVec 32
  imageVersion : BitVec 16
  nStages : Nat
  nFeatures : Nat
  nTables : Nat
  nWindows : Nat
  worst : Nat
  streamBytes : Nat
  layout : BitVec 32
  ctxBytes : Nat
  exchBytes : Nat
  resBytes : Nat
  bodyBytes : Nat
  bodyHash : List Byte
  /-- A reserved byte of the body header or directory is not zero. -/
  spare : Bool
  dir : List SafSection
  decls : List TileDecl
  stages : List SafStage
  features : List (BitVec 32)
  outputs : List (BitVec 16)
  tables : List (List Int)
  windows : List SafWindow
  contents : List TileRecord
  segment : List Byte
  descs : List StreamDesc
  deriving DecidableEq, Repr

/-- Memories of the engine: tile SRAM by logical tile, region and byte; the 64 row accumulators of each logical tile (R212);
exchange scratch, context buffers and output vector by element (R213, R214, R254). -/
structure SafMem where
  sram : Sparse
  acc : Sparse
  exch : Sparse
  ctx : Sparse
  ctxNext : Sparse
  outVec : Sparse
  deriving DecidableEq, Repr

/-- A forecast set (R237). -/
structure ForecastSet where
  values : List Int
  conf : Int
  status : Nat
  seq : Nat
  ft : Nat
  deriving DecidableEq, Repr

/-- A boundary of the history ring: the set in force, none without one, and the channel 45 sample (R214, R232). -/
structure HistEntry where
  set : Option ForecastSet
  load : Int
  deriving DecidableEq, Repr

/-- A step mark (R233): its clove, fire FT, expected change in W, duration in µs. -/
structure StepMark where
  shelf : Nat
  key : Nat
  seq : Nat
  fire : Nat
  watts : Int
  duration : Nat
  active : Bool
  deriving DecidableEq, Repr

/-- A swap that waits for its boundary (R260): kind 3, 4 or 5, effective FT. -/
structure SafSwap where
  kind : Nat
  at_ : Nat
  fast : Nat
  slow : Nat
  deriving DecidableEq, Repr

/-- What waits before a tier computes again. -/
inductive TierWait where
  /-- It computes. -/
  | none
  /-- A load ends at a local time (R261). -/
  | load (until_ : Nat)
  /-- A reload from GDDR7 or flash ends at a command (R228, R229, R244). -/
  | reload
  /-- Stopped until the host reloads the image (R223, R244). -/
  | stopped
  deriving DecidableEq, Repr

/-- Rotation (R243): the offline tile tests since a local time; the tested tile copies a victim since a local time. -/
inductive Rotation where
  | testing (since : Nat)
  | copying (victim since : Nat)
  | suspended
  | off
  deriving DecidableEq, Repr

/-- The Saffron engine beyond its objects. -/
structure SafState where
  store : List (Nat × SafImage)
  res : Vector (Option SafImage) 6
  mem : SafMem
  /-- The fast feature buffers: of this tick, and of the tick before (R214). -/
  featNow : List Int
  featLast : List Int
  fastWait : TierWait
  slowWait : TierWait
  /-- Slow features of the compute under way, none when none runs (R225). -/
  slowFeat : Option (List Int)
  /-- Set in force (FV), set staged. -/
  now : Option ForecastSet
  staged : Option ForecastSet
  setSeq : Nat
  /-- The fast compute of this frame was aborted; consecutive overruns; last record of the second (R223). -/
  overRun : Nat
  overSaid : Option Nat
  satSaid : Option Nat
  staleSaid : Bool
  hist : List HistEntry
  /-- Absolute errors in mA of the last 1,024 boundaries (R238). -/
  errs : List (Option Nat)
  clearRun : Nat
  /-- Waveform history ring: the 48 control samples of each boundary, newest first (R235). -/
  wave : List (List Int)
  marks : List StepMark
  untrusted : BitVec 192
  /-- Local time since when the untrusted count has been at or below half the limit (R241). -/
  lowSince : Option Nat
  rotation : Rotation
  rotPass : Nat
  clearMask : BitVec 64
  /-- Tiles whose stand-in for a failed tile is being reloaded (R244). -/
  replacing : Bool
  swap : Option SafSwap
  /-- A swapped fast or slow image that has not published yet; it has published. -/
  newFast : Bool
  newSlow : Bool
  published : Bool
  /-- Outgoing residences, for an abort (Table 9-10). -/
  outFast : Option Nat
  outSlow : Option Nat
  /-- A load under way: residence and the state it ends in. -/
  loading : Option Nat
  deriving DecidableEq, Repr

end Sys2Proof.Machine
end

