-- ==== Sys2Proof/Machine/TypesSecurity.lean ====
section
/-! DEFINITION. Plain data of security, attestation and update (spec/18) and of injection (spec/19). -/

namespace Sys2Proof.Machine

/-- The signed-image header (Table 18-6), with what its signature check would find. -/
structure ImageHdr where
  magicOk : Bool
  format : BitVec 8
  kind : BitVec 8
  product : BitVec 16
  generation : BitVec 8
  signer : BitVec 8
  flags : BitVec 8
  reservedZero : Bool
  counter : BitVec 32
  version : BitVec 16
  bodyLength : BitVec 64
  bodyHash : Vector Byte 32
  sigOk : Bool
  deriving DecidableEq, Repr

/-- What an image input has received when its transfer ends: the body's content by class (R465); of a firmware bank, which
of its five images carry a header that passes its check (R62). -/
inductive ImageBody where
  | bank (partsOk : BitVec 5)
  | program (img : ProgImage)
  | model (img : SafImage)
  deriving DecidableEq, Repr

/-- What RECOVERY_DATA carries: the partner's request with its anti-rollback counter; in the recovery ROM a header's
512 bytes from a source (a session's id for Ethernet, with the bank it names) and what their signature check finds, and the bytes
that follow it. -/
inductive RecoveryMsg where
  | request (counter : BitVec 32)
  | header (src : RecSource) (sess : Nat) (bankB : Bool) (hdr : List Byte) (sigOk : Bool)
  | body (src : RecSource) (bytes : Nat)
  deriving DecidableEq, Repr

/-- An image input (R465 to R467): the session of its transfer, its header once it has arrived and passed. -/
structure InputSt where
  sess : Nat
  hdr : Option ImageHdr
  /-- What BLOCK_END returns once the transfer has been ended (R466). -/
  result : Nat
  deriving DecidableEq, Repr

/-- Nonce, mask and quote of a session (R461). -/
structure QuoteSt where
  sess : Nat
  nonce : List Byte
  mask : Nat
  asked : Bool
  quote : Option (List Byte)
  deriving DecidableEq, Repr

/-- A header of a stored image by class and bank or slot (R464). -/
structure StoredHdr where
  cls : Nat
  slot : Nat
  counter : Nat
  hash : List Byte
  deriving DecidableEq, Repr

/-- The keys of the security block's key store (R449, Table 18-3). No object shows them. -/
structure KeyStore where
  storage : Nat
  identity : Nat
  attestation : Nat
  deriving DecidableEq, Repr

/-- Security beyond its objects. -/
structure SecSt where
  /-- The key store; none once it is erased (R454). -/
  keys : Option KeyStore
  /-- Pending commands of the key slots: 1 ACTIVATE, 2 RETIRE (R457). -/
  keyCmd : Vector (Option Nat) 4
  /-- CLOVE_ORIGINATION_STOPPED stands for this episode (R458). -/
  stoppedSaid : Bool
  /-- Measurement registers, log (oldest first), extensions, MEASUREMENT_LOG_FULL said (R459, R460). -/
  regs : Vector (List Byte) 8
  log : List (List Byte)
  extensions : Nat
  fullSaid : Bool
  quotes : List QuoteSt
  /-- Anti-rollback counters of the program and model classes (the firmware class stands in md.fwCounter), headers of
  stored images (R464). -/
  programCounter : Nat
  modelCounter : Nat
  stored : List StoredHdr
  inputs : Vector InputSt 4
  /-- Input that holds the update lease (R466). -/
  lease : Option (Fin 4)
  /-- Source of a zeroisation whose step 3 follows at the next start (R454), and the mode it brings (R443). -/
  zeroised : Option Nat
  nextMode : Option Nat
  /-- A tamper event latched with AUX alone: input, TB (R453). -/
  latched : Option (Nat × Nat)
  /-- CERT_TIME_UNCHECKED said since the start (R445). -/
  uncheckedSaid : Bool
  /-- Self-tests on demand run (R451); the error state of R452 waits for its recorder flush. -/
  testing : Bool
  errorPending : Bool
  deriving DecidableEq, Repr

/-- An armed injection point (R474, R475): detector code, mode, FT of its next action, acted at least once. -/
structure InjPoint where
  code : Nat
  continuous : Bool
  nextAt : Nat
  acted : Bool
  deriving DecidableEq, Repr

/-- An entry of the injection log (R479). -/
structure InjEntry where
  ft : Nat
  code : Nat
  mode : Nat
  report : Bool
  subject : Nat
  recNo : Nat
  seq : Nat
  deriving DecidableEq, Repr

/-- An injection that acts: the cause it stands for, and the arguments of R477. -/
structure InjLive where
  code : Nat
  subj : BitVec 32
  vals : BitVec 96
  deriving DecidableEq, Repr

/-- Injection beyond its objects. -/
structure InjSt where
  points : List InjPoint
  log : List InjEntry
  seq : Nat
  /-- The stimulus whose response is being carried out (R472, R477): its cause is raised as an injected one. -/
  live : Option InjLive
  deriving DecidableEq, Repr

end Sys2Proof.Machine
end

