-- ==== Sys2Proof/Syntax.lean ====
section
/-! DEFINITION. The commands of the SCM-960: one constructor per row of spec/opcode_table.json, in its order, with the
values that come with it.

A command with `w` is a write of an object by a host session; one with `sess` is a write whose value the row fixes.  `h`
heads a request of the host protocol.  `n` numbers a core or a link, `u` a cell-chain unit or an image unit, `t` a tray, `p`
a phase, a port or a PLL, `c` a converter or a channel, `g` a group, `q` a queue, `i` a slot or an index.  `stamp`, `arrival`
and `t1` to `t4` are arrival and departure times.  Words like `sigOk`, `crcOk`, `hashOk` are what checking bytes the model
does not hold found; readings come as the sensor's value. -/

namespace Sys2Proof

open Sys2Proof.Machine

/-- The commands. -/
inductive Instr where
  /-- REGISTER_WRITE (R382). -/
  | registerWrite (k : Nat) (w : HostWrite)
  /-- TICK_BOUNDARY (R19). -/
  | tickBoundary (i : TickInputs)
  /-- START_SEQUENCE (R60). -/
  | startSequence (i : StartInputs)
  /-- START_CONDITION (R30). -/
  | startCondition (allAbsent : Bool)
  /-- GATES_MET (R68). -/
  | gatesMet
  /-- SLOT_B_DEFER_EXPIRY (R68). -/
  | slotBDeferExpiry
  /-- READINESS_TIMEOUT (R67). -/
  | readinessTimeout
  /-- START_CONFIRMED (R64). -/
  | startConfirmed
  /-- START_TIMEOUT (R71). -/
  | startTimeout
  /-- PIN_RESET (R72). -/
  | pinReset
  /-- HOST_RESET (R76). -/
  | hostReset (sess : Nat)
  /-- RESET_FORCE (R76). -/
  | resetForce (sess : Nat)
  /-- FIRMWARE_FATAL (R72). -/
  | firmwareFatal
  /-- WATCHDOG_CONTROL_EXPIRY (R423). -/
  | watchdogControlExpiry
  /-- WATCHDOG_FIRMWARE_EXPIRY (R74). -/
  | watchdogFirmwareExpiry
  /-- SHUTDOWN_HANDOVER (R77). -/
  | shutdownHandover (sess : Nat)
  /-- STOP_SHELF (R77). -/
  | stopShelf (sess : Nat)
  /-- STOP_SHELF_COMPLETE (R77). -/
  | stopShelfComplete
  /-- BANK_RETRY (R63). -/
  | bankRetry (w : HostWrite)
  /-- RECOVERY_REQUEST (R81). -/
  | recoveryRequest
  /-- RECOVERY_DATA (R81). -/
  | recoveryData (m : RecoveryMsg)
  /-- RECOVERY_IMAGE_ACCEPTED (R79). -/
  | recoveryImageAccepted (hashOk : Bool) (partsOk : BitVec 5)
  /-- RECOVERY_SOURCE_TIMEOUT (R82). -/
  | recoverySourceTimeout
  /-- HOLD_SWITCH_IN (R31). -/
  | holdSwitchIn
  /-- MAIN_DIP (R31). -/
  | mainDip
  /-- MAIN_LOSS (R31). -/
  | mainLoss
  /-- POWER_FAIL_RESTART (R31). -/
  | powerFailRestart
  /-- HOLD_UNDERVOLTAGE (R32). -/
  | holdUndervoltage
  /-- HOLD_ENERGY_PUBLISH (R33). -/
  | holdEnergyPublish (v12 vaux vhold power : BitVec 16)
  /-- HOLD_ENERGY_LOW (R33). -/
  | holdEnergyLow
  /-- MAIN_OUT_OF_RANGE (R58). -/
  | mainOutOfRange (v12 : BitVec 16)
  /-- AUX_LOW (R58). -/
  | auxLow (vaux : BitVec 16)
  /-- TRIM_RAISE (R36). -/
  | trimRaise (g : Fin 9) (code : BitVec 6)
  /-- TRIM_LOWER (R36). -/
  | trimLower (g : Fin 9) (code : BitVec 6)
  /-- JUNCTION_WARNING (R40). -/
  | junctionWarning (t : BitVec 16)
  /-- JUNCTION_HIGH (R40). -/
  | junctionHigh (t : BitVec 16)
  /-- JUNCTION_CRITICAL (R40). -/
  | junctionCritical (t : BitVec 16)
  /-- JUNCTION_CLEAR (R40). -/
  | junctionClear (t : BitVec 16)
  /-- THERMAL_TRIP (R40). -/
  | thermalTrip (t : BitVec 16)
  /-- THERMAL_TRIP_RELEASE (R72). -/
  | thermalTripRelease (t : BitVec 16)
  /-- COOLANT_FLOW_LOW (R41). -/
  | coolantFlowLow
  /-- COOLANT_INLET_HIGH (R41). -/
  | coolantInletHigh
  /-- REF_CLOCK_LOSS (R45). -/
  | refClockLoss
  /-- PLL_UNLOCK (R58). -/
  | pllUnlock (p : Fin 6)
  /-- SDM_CLOCK_TAKEOVER (R49). -/
  | sdmClockTakeover (k : Fin 4)
  /-- MACE_LINE_CONFLICT (R54). -/
  | maceLineConflict
  /-- MACE_TAKEOVER (R425). -/
  | maceTakeover
  /-- LEASE_EXPIRY (R422). -/
  | leaseExpiry
  /-- PPS_OUT_PULSE (R52). -/
  | ppsOutPulse
  /-- BOUNDARY_SCAN_INSTRUCTION (R56). -/
  | boundaryScanInstruction (i : Jtag) (serviceEn : Bool)
  /-- TAMPER_DETECTED (R453). -/
  | tamperDetected (i : Fin 5)
  /-- ANNOUNCE_SEND (R87). -/
  | announceSend
  /-- ANNOUNCE (R87). -/
  | announce (link : Fin 32) (neighbour : Nat) (o : Offer)
  /-- UPSTREAM_LOST (R87). -/
  | upstreamLost
  /-- FABRIC_TIME_START (R88). -/
  | fabricTimeStart
  /-- TIMING_SYNC_SEND (R93). -/
  | timingSyncSend
  /-- TIMING_SYNC (R93). -/
  | timingSync (link : Fin 32) (v : BitVec 8) (t1 t2 : Nat)
  /-- DELAY_REQ_SEND (R93). -/
  | delayReqSend (t3 : Nat)
  /-- DELAY_REQ (R93). -/
  | delayReq (link : Fin 32) (v : BitVec 8) (arrival : Nat)
  /-- DELAY_RESP (R93). -/
  | delayResp (link : Fin 32) (v : BitVec 8) (t4 : Nat)
  /-- TIME_DEGRADED (R97). -/
  | timeDegraded
  /-- PTP_MESSAGE (R90). -/
  | ptpMessage (port : Fin 2) (domain : Nat) (m : PtpMsg)
  /-- PPS_IN_EDGE (R91). -/
  | ppsInEdge (stamp : Nat)
  /-- PPS_MISMATCH (R91). -/
  | ppsMismatch
  /-- CLOVE_RECEIVE (R106). -/
  | cloveReceive (c : Clove) (stamp : Nat)
  /-- CLOVE_INJECT (R110). -/
  | cloveInject (w : HostWrite)
  /-- CLOVE_INSERT (R108). -/
  | cloveInsert
  /-- CLOVE_PROMOTE (R108). -/
  | clovePromote (r : CloveRef)
  /-- SET_REG (R159). -/
  | setReg (r : CloveRef)
  /-- RACK_CAP (R204). -/
  | rackCap (r : CloveRef)
  /-- GROUP_CAP (R331). -/
  | groupCap (r : CloveRef)
  /-- STEP_MARK (R233). -/
  | stepMark (r : CloveRef)
  /-- STEP_MARK_EXPIRY (R233). -/
  | stepMarkExpiry
  /-- LEDGER_LEND (R334). -/
  | ledgerLend (r : CloveRef)
  /-- LEDGER_RETURN (R334). -/
  | ledgerReturn (r : CloveRef)
  /-- LOAN_EXPIRY (R334). -/
  | loanExpiry
  /-- SWEEP_START (R280). -/
  | sweepStart (r : CloveRef)
  /-- QUIET_WINDOW (R308). -/
  | quietWindow (r : CloveRef)
  /-- CANCEL (R105). -/
  | cancel (c : Clove) (stamp : Nat)
  /-- CARRIER_BOUNDARY (R113). -/
  | carrierBoundary (c : Conv) (p : Option (Fin 20))
  /-- COMPARE_UPDATE (R118). -/
  | compareUpdate (p : Fin 20) (pos : Nat)
  /-- FAULT_INPUT (R136). -/
  | faultInput (j : Fin 20) (asserted : Bool) (at_ : Carriers) (stamp : Nat)
  /-- PHASE_HICCUP (R137). -/
  | phaseHiccup (p : Fin 20)
  /-- PHASE_RETRY (R137). -/
  | phaseRetry (p : Fin 20)
  /-- PHASE_RETRY_OK (R137). -/
  | phaseRetryOk (p : Fin 20)
  /-- CONV_SHORT_CIRCUIT (R138). -/
  | convShortCircuit (c : Conv)
  /-- OVERLOAD_COMPARE (R139). -/
  | overloadCompare (c : Conv)
  /-- PROTECTION_SAMPLE (R122). -/
  | protectionSample (bits : Vector (BitVec 4) 48) (at_ : Carriers)
  /-- BUS_OV_RESTART (R141). -/
  | busOvRestart
  /-- OV_LATCH_CLEAR (R141). -/
  | ovLatchClear (sess : Nat)
  /-- BUS_UNDERVOLTAGE (R141). -/
  | busUndervoltage
  /-- FEED_UNDERVOLTAGE (R142). -/
  | feedUndervoltage
  /-- FEED_OVERVOLTAGE (R142). -/
  | feedOvervoltage
  /-- FEED_RESTART (R142). -/
  | feedRestart
  /-- PHASE_TEMP_SHUTDOWN (R143). -/
  | phaseTempShutdown (p : Fin 20)
  /-- PHASE_TEMP_RESTART (R143). -/
  | phaseTempRestart (p : Fin 20)
  /-- SENSE_SUSPECT (R490). -/
  | senseSuspect (c : Fin 48)
  /-- SENSE_OPEN (R125). -/
  | senseOpen (c : Fin 48)
  /-- SENSE_OPEN_CLEAR (R125). -/
  | senseOpenClear (c : Fin 48)
  /-- CONVERTERS_START (R129). -/
  | convertersStart
  /-- STORAGE_CONVERTER_START (R129). -/
  | storageConverterStart
  /-- CONVERTER_ENABLE_WRITE (R491). -/
  | converterEnableWrite (c : Conv) (w : HostWrite)
  /-- VOLTAGE_TARGET_WRITE (R126). -/
  | voltageTargetWrite (w : HostWrite)
  /-- BURST_ENTER (R133). -/
  | burstEnter (c : Conv)
  /-- BURST_EXIT (R133). -/
  | burstExit (c : Conv)
  /-- FEED_BURST_PACKET (R134). -/
  | feedBurstPacket
  /-- SHARE_TRIM (R145). -/
  | shareTrim
  /-- SHARE_TRIM_AT_LIMIT (R145). -/
  | shareTrimAtLimit (p : Fin 20)
  /-- TAKE_OUT (R146). -/
  | takeOut (p : Fin 20) (sess : Nat)
  /-- BRING_BACK (R147). -/
  | bringBack (p : Fin 20) (sess : Nat)
  /-- PHASE_REJOINED (R147). -/
  | phaseRejoined (p : Fin 20)
  /-- CLEAR_LATCH (R137). -/
  | clearLatch (p : Fin 20) (sess : Nat)
  /-- EVENT_SLOT (R153). -/
  | eventSlot (n : Fin 4)
  /-- NOTICE (R156). -/
  | notice (tray : Fin 24) (step : BitVec 32) (stamp : Nat)
  /-- CARDAMOM_OVERRUN (R155). -/
  | cardamomOverrun (n : Fin 4)
  /-- NOP (R168). -/
  | nop (n : Fin 4)
  /-- END (R168). -/
  | endEval (n : Fin 4)
  /-- LDK (R168). -/
  | ldk (n : Fin 4) (d : Fin 16) (imm : BitVec 16)
  /-- LDI (R168). -/
  | ldi (n : Fin 4) (d : Fin 16) (p : Fin 256)
  /-- LDIL (R168). -/
  | ldil (n : Fin 4) (a : Fin 8) (p : Fin 256)
  /-- LDC (R168). -/
  | ldc (n : Fin 4) (a : Fin 8) (k : Fin 1024)
  /-- LDS (R168). -/
  | lds (n : Fin 4) (a : Fin 8) (m : Fin 512)
  /-- STS (R168). -/
  | sts (n : Fin 4) (a : Fin 8) (m : Fin 512)
  /-- SATD (R165). -/
  | satd (n : Fin 4) (a : Fin 8) (d : Fin 16) (sh : BitVec 4)
  /-- OUT (R161). -/
  | out (n : Fin 4) (d : Fin 16) (p : Fin 64)
  /-- OUTL (R161). -/
  | outl (n : Fin 4) (a : Fin 8) (p : Fin 64)
  /-- MOVA (R168). -/
  | mova (n : Fin 4) (a b : Fin 8)
  /-- CLR (R168). -/
  | clr (n : Fin 4) (a : Fin 8)
  /-- MPY (R164). -/
  | mpy (n : Fin 4) (a : Fin 8) (d : Fin 16) (k : Fin 1024)
  /-- MAC (R164). -/
  | mac (n : Fin 4) (a : Fin 8) (d : Fin 16) (k : Fin 1024)
  /-- MSU (R164). -/
  | msu (n : Fin 4) (a : Fin 8) (d : Fin 16) (k : Fin 1024)
  /-- MACD (R164). -/
  | macd (n : Fin 4) (a : Fin 8) (d e : Fin 16)
  /-- ADDA (R168). -/
  | adda (n : Fin 4) (a b : Fin 8)
  /-- SUBA (R168). -/
  | suba (n : Fin 4) (a b : Fin 8)
  /-- ADDD (R168). -/
  | addd (n : Fin 4) (a : Fin 8) (d : Fin 16)
  /-- SUBD (R168). -/
  | subd (n : Fin 4) (a : Fin 8) (d : Fin 16)
  /-- SHA (R168). -/
  | sha (n : Fin 4) (a : Fin 8) (sh : BitVec 4)
  /-- ABS (R168). -/
  | abs (n : Fin 4) (a : Fin 8)
  /-- NEG (R168). -/
  | neg (n : Fin 4) (a : Fin 8)
  /-- LIM (R166). -/
  | lim (n : Fin 4) (a : Fin 8) (k : Fin 1024)
  /-- SELA (R168). -/
  | sela (n : Fin 4) (a b : Fin 8) (q : BitVec 4)
  /-- TSTA (R168). -/
  | tsta (n : Fin 4) (a : Fin 8)
  /-- TSTP (R168). -/
  | tstp (n : Fin 4) (p : Fin 256) (b : Fin 32)
  /-- SKIPC (R168). -/
  | skipc (n : Fin 4) (q c : BitVec 4)
  /-- INTEG (R169). -/
  | integ (n : Fin 4) (a : Fin 8) (d : Fin 16) (k : Fin 1024) (m : Fin 512)
  /-- MINSEL (R170). -/
  | minsel (n : Fin 4) (a : Fin 8) (h : Fin 16) (w : BitVec 8) (m : Fin 512)
  /-- MAXSEL (R170). -/
  | maxsel (n : Fin 4) (a : Fin 8) (h : Fin 16) (w : BitVec 8) (m : Fin 512)
  /-- SLEW (R172). -/
  | slew (n : Fin 4) (a : Fin 8) (k : Fin 1024) (m : Fin 512)
  /-- LUT (R173). -/
  | lut (n : Fin 4) (a : Fin 8) (d : Fin 16) (k : Fin 1024)
  /-- FFW (R174). -/
  | ffw (n : Fin 4) (a : Fin 8) (k : Fin 1024) (j : Fin 64)
  /-- COEFFICIENT_WRITE (R175). -/
  | coefficientWrite (n : Fin 4) (w : HostWrite)
  /-- COEFFICIENT_BLOCK_WRITE (R176). -/
  | coefficientBlockWrite (n : Fin 4) (w : HostWrite)
  /-- HOLD_OPEN (R178). -/
  | holdOpen (n : Fin 4) (sess : Nat)
  /-- HOLD_RELEASE (R178). -/
  | holdRelease (n : Fin 4) (sess : Nat)
  /-- HOLD_RELEASED (R178). -/
  | holdReleased (n : Fin 4)
  /-- HOLD_ABANDON (R178). -/
  | holdAbandon (n : Fin 4) (sess : Nat)
  /-- HOLD_TIMEOUT (R178). -/
  | holdTimeout (n : Fin 4)
  /-- CARDAMOM_LOAD (R183). -/
  | cardamomLoad (n : Fin 4) (sess : Nat)
  /-- CORE_SWAP (R183). -/
  | coreSwap (n : Fin 4) (sess : Nat)
  /-- PROGRAM_SWAPPED (R183). -/
  | programSwapped (n : Fin 4)
  /-- CORE_STOP (R185). -/
  | coreStop (n : Fin 4) (sess : Nat)
  /-- CORE_START (R185). -/
  | coreStart (n : Fin 4) (sess : Nat)
  /-- CLEAR_PENDING (R183). -/
  | clearPending (n : Fin 4) (sess : Nat)
  /-- COEF_SAVE (R184). -/
  | coefSave (n : Fin 4) (sess : Nat)
  /-- COEF_DISCARD (R184). -/
  | coefDiscard (n : Fin 4) (sess : Nat)
  /-- CARDAMOM_MEM_CORRECTED (R187). -/
  | cardamomMemCorrected (n : Fin 4)
  /-- CARDAMOM_MEM_UNCORRECTABLE (R187). -/
  | cardamomMemUncorrectable (n : Fin 4)
  /-- FEED_OVERDRAW (R205). -/
  | feedOverdraw
  /-- CAP_SURPLUS (R206). -/
  | capSurplus
  /-- STORAGE_LIMIT_BINDING (R197). -/
  | storageLimitBinding
  /-- SOC_FLOOR_BINDING (R197). -/
  | socFloorBinding
  /-- SOC_CEILING_BINDING (R197). -/
  | socCeilingBinding
  /-- THERMAL_DERATE (R197). -/
  | thermalDerate
  /-- MV (R220). -/
  | mv (fast : Bool) (stage : Nat)
  /-- CONV (R220). -/
  | convStage (fast : Bool) (stage : Nat)
  /-- SCAN (R220). -/
  | scan (fast : Bool) (stage : Nat)
  /-- GATE (R220). -/
  | gate (fast : Bool) (stage : Nat)
  /-- EW (R220). -/
  | ew (fast : Bool) (stage : Nat)
  /-- RMSN (R220). -/
  | rmsn (fast : Bool) (stage : Nat)
  /-- ATTN (R220). -/
  | attn (stage : Nat)
  /-- EXCH (R220). -/
  | exch (fast : Bool) (stage : Nat)
  /-- SAFFRON_FAST_OVERRUN (R223). -/
  | saffronFastOverrun
  /-- SLOW_BOUNDARY (R225). -/
  | slowBoundary (ended : Bool)
  /-- SAFFRON_STREAM_ERROR (R228). -/
  | saffronStreamError
  /-- SAFFRON_SLOW_RELOADED (R228). -/
  | saffronSlowReloaded
  /-- SAFFRON_ENABLE_WRITE (R229). -/
  | saffronEnableWrite (w : HostWrite)
  /-- FAST_TIER_RESTART (R229). -/
  | fastTierRestart
  /-- ESTIMATE_UNTRUSTED (R240). -/
  | estimateUntrusted (t : Fin 24) (k : Fin 8)
  /-- ESTIMATE_TRUSTED (R240). -/
  | estimateTrusted (t : Fin 24) (k : Fin 8)
  /-- DIV_CHIPS_CLEAR (R241). -/
  | divChipsClear
  /-- TILE_SELF_TEST_DONE (R243). -/
  | tileSelfTestDone
  /-- ROTATION_HANDOVER (R243). -/
  | rotationHandover
  /-- SAFFRON_TILE_FAILED (R244). -/
  | saffronTileFailed (t : Fin 64) (selfTest : Bool)
  /-- CLEAR_FAILED_WRITE (R244). -/
  | clearFailedWrite (w : HostWrite)
  /-- ROTATION_ENABLE_WRITE (R245). -/
  | rotationEnableWrite (w : HostWrite)
  /-- SAFFRON_LOAD (R255). -/
  | saffronLoad (sess : Nat)
  /-- SAFFRON_UNLOAD (R265). -/
  | saffronUnload (sess : Nat)
  /-- SWAP_FAST (R260). -/
  | swapFast (sess : Nat)
  /-- SWAP_SLOW (R260). -/
  | swapSlow (sess : Nat)
  /-- SWAP_PAIR (R260). -/
  | swapPair (sess : Nat)
  /-- SAFFRON_SWAP_BOUNDARY (R261). -/
  | saffronSwapBoundary
  /-- SAFFRON_SWAP_DONE (R261). -/
  | saffronSwapDone
  /-- SAFFRON_SWAP_ABORTED (R263). -/
  | saffronSwapAborted
  /-- SLOW_TICK_WRITE (R255). -/
  | slowTickWrite (w : HostWrite)
  /-- CHAIN_MASTER_CHANGED (R268). -/
  | chainMasterChanged
  /-- CHAIN_SYNC (R277). -/
  | chainSync
  /-- SWEEP_PERIODIC (R280). -/
  | sweepPeriodic
  /-- SWEEP_REQUEST (R280). -/
  | sweepRequest (w : HostWrite)
  /-- SWEEP (R280). -/
  | sweep
  /-- SWEEP_RESEND (R280). -/
  | sweepResend
  /-- CHAIN_READ (R280). -/
  | chainRead (fromA : Bool) (u : Fin 32)
  /-- RESULT (R270). -/
  | result (fromA : Bool) (u : Fin 32) (frame : List Byte)
  /-- TEST_RESULT (R271). -/
  | testResult (fromA : Bool) (u : Fin 32) (frame : List Byte)
  /-- CHAIN_RESPONSE_TIMEOUT (R273). -/
  | chainResponseTimeout (fromA : Bool) (u : Fin 32)
  /-- SWEEP_COMPLETE (R280). -/
  | sweepComplete
  /-- CELL_LIMIT_RELEASED (R285). -/
  | cellLimitReleased (kind : Fin 3)
  /-- LOOP_SEND (R287). -/
  | loopSend
  /-- CHAIN_RESTORED (R290). -/
  | chainRestored
  /-- CHAIN_STALE_TIMEOUT (R289). -/
  | chainStaleTimeout
  /-- ENUM (R271). -/
  | enum (fromA : Bool) (u : Fin 32)
  /-- IDENT (R271). -/
  | ident (fromA : Bool) (u : Fin 32) (frame : List Byte)
  /-- CONFIG (R271). -/
  | config (fromA : Bool) (u : Fin 32)
  /-- BALANCE (R271). -/
  | balance (fromA : Bool) (u : Fin 32) (cell : Option (Fin 16 × Bool)) (duration : Nat)
  /-- CHAIN_TEST (R293). -/
  | chainTest (fromA : Bool) (u : Fin 32) (switches : Bool)
  /-- ACK (R271). -/
  | ack (u : Fin 32) (frame : List Byte)
  /-- CHAIN_LOAD (R271). -/
  | chainLoad (fromA : Bool) (unit_ : Option (Fin 32)) (offset total : Nat) (data : List Byte)
  /-- SLEEP (R283). -/
  | sleep (unit_ : Option (Fin 32))
  /-- LOOP (R274). -/
  | loop (frame : List Byte) (delay : Nat)
  /-- ALERT (R284). -/
  | alert (frame : List Byte)
  /-- BALANCING_INTERVAL (R295). -/
  | balancingInterval
  /-- OPEN_WIRE_INTERVAL (R293). -/
  | openWireInterval
  /-- SWITCH_TEST_INTERVAL (R297). -/
  | switchTestInterval
  /-- SERIAL_ACCEPT (R275). -/
  | serialAccept (sess : Nat)
  /-- SOC_REST_TAKEN (R302). -/
  | socRestTaken
  /-- TAPER_TIMEOUT (R305). -/
  | taperTimeout
  /-- QUIET_WINDOW_REQUESTED (R307). -/
  | quietWindowRequested
  /-- SOC_UNCERTAIN (R307). -/
  | socUncertain
  /-- QUIET_WINDOW_WRITE (R308). -/
  | quietWindowWrite (w : HostWrite)
  /-- QUIET_HOLD_BEGIN (R308). -/
  | quietHoldBegin
  /-- QUIET_WINDOW_ABANDONED (R308). -/
  | quietWindowAbandoned
  /-- QUIET_WINDOW_MISSED (R308). -/
  | quietWindowMissed
  /-- TEST_START (R309). -/
  | testStart (sess : Nat)
  /-- TEST_ABORT (R309). -/
  | testAbort (sess : Nat)
  /-- CAPACITY_TEST_TIMEOUT (R309). -/
  | capacityTestTimeout
  /-- ESTIMATE_RESET (R305). -/
  | estimateReset (sess : Nat)
  /-- JOURNAL_INTERVAL (R312). -/
  | journalInterval
  /-- WRITE_NOW (R312). -/
  | writeNow (sess : Nat)
  /-- JOURNAL_WRITE_START (R313). -/
  | journalWriteStart
  /-- JOURNAL_RETRY (R313). -/
  | journalRetry
  /-- JOURNAL_WRITTEN (R312). -/
  | journalWritten
  /-- TRAY_REPORT (R317). -/
  | trayReport (t : Fin 24) (payload : List Byte) (stamp : Nat)
  /-- TRAY_STATUS (R319). -/
  | trayStatus (t : Fin 24) (payload : List Byte) (stamp : Nat)
  /-- TRAY_IDENT (R321). -/
  | trayIdent (t : Fin 24) (payload : List Byte)
  /-- STEP_NOTICE (R318). -/
  | stepNotice (t : Fin 24) (payload : List Byte) (stamp : Nat)
  /-- TRAY_CYCLE_BOUNDARY (R323). -/
  | trayCycleBoundary
  /-- ADMIT (R316). -/
  | admitTray (t : Fin 24)
  /-- FLAP_HOLD_EXPIRED (R320). -/
  | flapHoldExpired (t : Fin 24)
  /-- COOLANT_CLEAR (R332). -/
  | coolantClear (t : Fin 24) (sess : Nat)
  /-- GROUP_CAP_REFRESH (R330). -/
  | groupCapRefresh (g : Fin 64)
  /-- GROUP_RELEASE (R330). -/
  | groupRelease (g : Fin 64)
  /-- GROUP_CAP_LAPSE (R331). -/
  | groupCapLapse (g : Fin 64)
  /-- LEDGER_PROJECTION (R335). -/
  | ledgerProjection
  /-- RACK_CAP_WRITE (R204). -/
  | rackCapWrite (w : HostWrite)
  /-- LINK_FRAME_RECEIVE (R340). -/
  | linkFrameReceive (n : Fin 32) (frame : BitVec 576) (stamp : Nat)
  /-- TRAIN (R347). -/
  | train (n : Fin 32) (payload : List Byte)
  /-- TRAIN_DONE (R347). -/
  | trainDone (n : Fin 32) (payload : List Byte)
  /-- LINK_VERSION (R349). -/
  | linkVersion (n : Fin 32) (payload : List Byte)
  /-- CREDIT_SYNC_SEND (R345). -/
  | creditSyncSend
  /-- CREDIT_SYNC (R345). -/
  | creditSync (n : Fin 32) (payload : List Byte)
  /-- LINK_DOWN_FLIT (R354). -/
  | linkDownFlit (n : Fin 32) (payload : List Byte)
  /-- HELLO (R352). -/
  | hello (n : Fin 32) (hello : List Byte) (serial : BitVec 64) (chainOk : Bool)
  /-- SIGN (R352). -/
  | sign (n : Fin 32) (sigOk : Bool)
  /-- FINISHED (R352). -/
  | finished (n : Fin 32) (payload : List Byte)
  /-- LINK_TRAIN_FAIL (R347). -/
  | linkTrainFail (n : Fin 32)
  /-- LINK_AUTH_FAIL (R352). -/
  | linkAuthFail (n : Fin 32) (reason : BitVec 8)
  /-- REKEY_START (R353). -/
  | rekeyStart (n : Fin 32)
  /-- REKEY_HELLO (R353). -/
  | rekeyHello (n : Fin 32) (hello : List Byte)
  /-- REKEY_SIGN (R353). -/
  | rekeySign (n : Fin 32) (sigOk : Bool) (switchAt : BitVec 64)
  /-- REKEY_SWITCH (R353). -/
  | rekeySwitch (n : Fin 32)
  /-- REKEY_RETRY (R353). -/
  | rekeyRetry (n : Fin 32)
  /-- LINK_DOWN (R354). -/
  | linkDown (n : Fin 32) (reason : BitVec 8)
  /-- LINK_BACKOFF_EXPIRY (R355). -/
  | linkBackoffExpiry (n : Fin 32)
  /-- LINK_ENABLE_WRITE (R354). -/
  | linkEnableWrite (n : Fin 32) (w : HostWrite)
  /-- LINK_STATE_FLOOD (R356). -/
  | linkStateFlood
  /-- LINK_STATE (R356). -/
  | linkState (n : Fin 32) (node : BitVec 10) (serial : BitVec 64) (seq : BitVec 32) (peers : Vector (BitVec 16) 32)
  /-- LINK_STATE_AGE_OUT (R356). -/
  | linkStateAgeOut
  /-- ACTIVATE (R358). -/
  | activate (sess : Nat)
  /-- ROUTES_ACTIVATED (R358). -/
  | routesActivated
  /-- ROUTE_CLEAR_PENDING (R358). -/
  | routeClearPending (sess : Nat)
  /-- RETIMER_POLL (R366). -/
  | retimerPoll
  /-- SIDEBAND_MESSAGE (R365). -/
  | sidebandMessage (n : Fin 32) (m : Vector Byte 16)
  /-- RETIMER_LOST (R366). -/
  | retimerLost (n : Fin 32) (t : Fin 2)
  /-- RETIMER_RESET (R366). -/
  | retimerReset (n : Fin 32) (sess : Nat)
  /-- LOOPBACK_ON (R366). -/
  | loopbackOn (n : Fin 32) (sess : Nat)
  /-- LOOPBACK_OFF (R366). -/
  | loopbackOff (n : Fin 32) (sess : Nat)
  /-- EYE_MARGIN_READ (R367). -/
  | eyeMarginRead (margins : Vector (BitVec 16 × BitVec 16) 32)
  /-- LINK_MARGIN_LOW (R367). -/
  | linkMarginLow (n : Fin 32)
  /-- CLIENT_HELLO (R372). -/
  | clientHello (port : Fin 2) (peer : BitVec 128)
  /-- OPEN (R374). -/
  | openSession (h : ReqHdr) (majors : BitVec 16) (minors : BitVec 32) (size keepalive : BitVec 16)
  /-- CLOSE (R377). -/
  | closeSession (h : ReqHdr)
  /-- READ (R382). -/
  | readObject (h : ReqHdr) (key : BitVec 24)
  /-- WRITE (R378). -/
  | writeObject (h : ReqHdr) (key : BitVec 24) (value : List Byte)
  /-- READ_LIST (R489). -/
  | readList (h : ReqHdr) (keys : List (BitVec 24))
  /-- DESCRIBE (R381). -/
  | describe (h : ReqHdr) (key : BitVec 24)
  /-- BLOCK_OPEN (R384). -/
  | blockOpen (h : ReqHdr) (key : BitVec 24) (write : Bool) (total : BitVec 32) (chunk : BitVec 16)
  /-- BLOCK_DATA (R384). -/
  | blockData (h : ReqHdr) (id : BitVec 16) (offset : BitVec 32) (data : List Byte)
  /-- BLOCK_ACK (R384). -/
  | blockAck (h : ReqHdr) (id : BitVec 16) (next : BitVec 32)
  /-- BLOCK_END (R384). -/
  | blockEnd (h : ReqHdr) (id : BitVec 16) (crc : BitVec 32) (img : Bool × BitVec 5)
  /-- TRANSFER_TIMEOUT (R384). -/
  | transferTimeout (sess : Nat) (id : BitVec 16)
  /-- SUBSCRIBE (R385). -/
  | subscribe (h : ReqHdr) (mask : BitVec 16) (excluded : List (BitVec 16))
  /-- EVENT (R386). -/
  | event (sess : Nat)
  /-- EVENT_ACK (R386). -/
  | eventAck (h : ReqHdr)
  /-- EVENT_RESEND (R386). -/
  | eventResend (sess : Nat)
  /-- EVENT_PUSH_TIMEOUT (R386). -/
  | eventPushTimeout (sess : Nat)
  /-- STREAM (R388). -/
  | stream (h : ReqHdr) (start : Bool) (id : BitVec 8) (period phase : BitVec 32) (keys : List (BitVec 24))
  /-- TELEMETRY (R389). -/
  | telemetry (sess : Nat) (id : BitVec 8)
  /-- KEEPALIVE (R377). -/
  | keepalive (h : ReqHdr)
  /-- SESSION_TIMEOUT (R377). -/
  | sessionTimeout (sess : Nat)
  /-- CLOSE_SESSION_WRITE (R377). -/
  | closeSessionWrite (w : HostWrite)
  /-- PORT_LINK_DOWN (R370). -/
  | portLinkDown (p : Fin 2)
  /-- PORT_LINK_UP (R370). -/
  | portLinkUp (p : Fin 2)
  /-- PORT_ENABLE_WRITE (R369). -/
  | portEnableWrite (p : Fin 2) (w : HostWrite)
  /-- PFC_FRAME (R371). -/
  | pfcFrame (port : Fin 2) (prio : Fin 8) (quanta : BitVec 16)
  /-- ETHERNET_FRAME (R371). -/
  | ethernetFrame (port : Fin 2) (pcp : Fin 8) (vlan : BitVec 12) (fcsOk : Bool) (bytes : List Byte) (stamp : Nat)
  /-- QUEUE_ITEM_WRITE (R393). -/
  | queueItemWrite (q : Fin 512) (prio : Fin 8) (length : BitVec 14) (bytes : List Byte) (more : Bool) (stamp : Nat)
  /-- QUEUE_READ (R395). -/
  | queueRead (q : Fin 512) (stalling : Bool) (deadline : Nat) (corrected : BitVec 8) (poison : Bool)
  /-- STALLING_READ_DEADLINE (R397). -/
  | stallingReadDeadline (q : Fin 512)
  /-- PFC_REPEAT (R402). -/
  | pfcRepeat
  /-- QUEUE_SPILL_REFILL (R400). -/
  | queueSpillRefill (q : Fin 512)
  /-- FLUSH (R404). -/
  | flush (q : Fin 512) (sess : Nat)
  /-- QUEUE_LINK_FAULT (R405). -/
  | queueLinkFault (q : Fin 512)
  /-- CAUSE_RAISED (R407). -/
  | causeRaised (cause : BitVec 16) (subj : BitVec 32) (vals : BitVec 96)
  /-- RECORD_BUILD (R410). -/
  | recordBuild (offered : Bool)
  /-- RECORDER_FLUSH (R416). -/
  | recorderFlush
  /-- RECORDER_FLUSH_DONE (R416). -/
  | recorderFlushDone
  /-- RECORDER_CLEAR (R419). -/
  | recorderClear (sess : Nat)
  /-- TICK_RECORD_SEND (R427). -/
  | tickRecordSend
  /-- TICK_RECORD (R428). -/
  | tickRecord (body : List Byte)
  /-- TICK_RECORD_MISSING (R428). -/
  | tickRecordMissing (ft : BitVec 64)
  /-- PAIR_INPUT_MISMATCH (R428). -/
  | pairInputMismatch
  /-- CARRIER_ALIGN_FAIL (R429). -/
  | carrierAlignFail
  /-- MIRROR (R430). -/
  | mirror (body : List Byte)
  /-- MIRROR_EFFECT (R430). -/
  | mirrorEffect
  /-- MIRROR_RESEND (R431). -/
  | mirrorResend (body : List Byte)
  /-- MIRROR_GAP (R431). -/
  | mirrorGap
  /-- CHECKPOINT_PERIOD (R437). -/
  | checkpointPeriod
  /-- CHECKPOINT (R437). -/
  | checkpoint (last : Option Checkpoint) (crcOk : Bool) (size : BitVec 32)
  /-- CHECKPOINT_REQUEST (R435). -/
  | checkpointRequest (body : List Byte)
  /-- CHECKPOINT_LOADED (R435). -/
  | checkpointLoaded
  /-- CATCH_UP_TIMEOUT (R435). -/
  | catchUpTimeout
  /-- CATCH_UP_RETRY (R435). -/
  | catchUpRetry (sess : Nat)
  /-- HANDOVER (R432). -/
  | handover (body : List Byte)
  /-- HANDOVER_ACK (R432). -/
  | handoverAck (body : List Byte)
  /-- MACE_HANDOVER_ABORTED (R432). -/
  | maceHandoverAborted
  /-- MACE_HANDOVER_DONE (R432). -/
  | maceHandoverDone
  /-- STOP_SHELF_MESSAGE (R77). -/
  | stopShelfMessage (body : List Byte)
  /-- SELF_DIAG_FAILURE (R436). -/
  | selfDiagFailure
  /-- HEALTH_SEND (R440). -/
  | healthSend
  /-- HEALTH (R440). -/
  | health (body : List Byte)
  /-- PARTNER_HEALTH_MISSING (R440). -/
  | partnerHealthMissing
  /-- GDDR7_SCRUB (R434). -/
  | gddr7Scrub (corrected uncorrectable : BitVec 32) (region : Bool)
  /-- MODE_COMMAND (R443). -/
  | modeCommand (w : HostWrite)
  /-- SELF_TEST_RUN (R451). -/
  | selfTestRun (sess : Nat)
  /-- SELF_TEST_PASSED (R451). -/
  | selfTestPassed
  /-- CRYPTO_SELF_TEST_FAILED (R452). -/
  | cryptoSelfTestFailed
  /-- ZEROISE (R454). -/
  | zeroise (sess : Nat)
  /-- IDENTITY_CERTIFICATE_WRITE (R455). -/
  | identityCertificateWrite (w : HostWrite)
  /-- ANCHORS_WRITE (R446). -/
  | anchorsWrite (i : Fin 4) (w : HostWrite)
  /-- NONCE_WRITE (R461). -/
  | nonceWrite (w : HostWrite)
  /-- QUOTE_READY (R461). -/
  | quoteReady (sess : Nat)
  /-- MEASUREMENT_EXTEND (R459). -/
  | measurementExtend (reg : Fin 6) (kind : BitVec 8) (subject : BitVec 16) (id : BitVec 32) (version : BitVec 16) (d : Vector Byte 32)
  /-- COMMIT (R464). -/
  | commit (w : HostWrite)
  /-- PREFER (R468). -/
  | prefer (w : HostWrite)
  /-- IMAGE_HEADER_ARRIVED (R466). -/
  | imageHeaderArrived (u : Fin 4) (bytes : List Byte) (sigOk : Bool)
  /-- IMAGE_WRITE_END (R467). -/
  | imageWriteEnd (u : Fin 4) (ok : Bool) (parts : BitVec 5) (body : List Byte)
  /-- CLOVE_KEY_INSTALL (R456). -/
  | cloveKeyInstall (i : Fin 4) (w : HostWrite)
  /-- KEY_ACTIVATE (R457). -/
  | keyActivate (i : Fin 4) (sess : Nat)
  /-- KEY_RETIRE (R457). -/
  | keyRetire (i : Fin 4) (sess : Nat)
  /-- KEY_COMMAND_ACT (R457). -/
  | keyCommandAct
  /-- INJECTION_ONCE (R474). -/
  | injectionOnce (i : Fin 2816) (sess : Nat)
  /-- INJECTION_CONTINUOUS (R474). -/
  | injectionContinuous (i : Fin 2816) (sess : Nat)
  /-- INJECTION_DISARM (R476). -/
  | injectionDisarm (i : Fin 2816) (sess : Nat)
  /-- DISARM_ALL (R476). -/
  | disarmAll (sess : Nat)
  /-- SERVICE_EN_LOW (R476). -/
  | serviceEnLow
  /-- INJECTION_ACT (R475). -/
  | injectionAct
  /-- INJECTION_REPORT_PERIOD (R475). -/
  | injectionReportPeriod
  /-- LEGACY_ENABLE (R483). -/
  | legacyEnable (w : HostWrite)
  /-- LEGACY_ENTRY_WRITE (R484). -/
  | legacyEntryWrite (i : Fin 16) (w : HostWrite)
  /-- LEGACY_ACTIVATION (R485). -/
  | legacyActivation
  /-- LEGACY_ENTRY_PLAY (R486). -/
  | legacyEntryPlay
  /-- LEGACY_SEQUENCE_DONE (R486). -/
  | legacySequenceDone
  /-- MACE_IN_ASSERTED (R49). -/
  | maceInAsserted
  /-- PEER_OK_CHANGE (R68). -/
  | peerOkChange (level : Bool)
  /-- TIME_SOURCE_FAILED (R97). -/
  | timeSourceFailed (pps : Bool)
  /-- FRAME_SLOT (R344). -/
  | frameSlot (n : Fin 32)
  /-- DTLS_HANDSHAKE (R372). -/
  | dtlsHandshake (m : DtlsMsg)
  deriving DecidableEq, Repr

end Sys2Proof
end

