-- ==== Sys2Proof/Decode.lean ====
section
/-! DEFINITION. Words of the opcode table.  No row of spec/opcode_table.json gives its command any bits: a command comes as
an event, a frame or a message, with operands the table does not encode.  So no word spells a command. -/

namespace Sys2Proof

/-- The command that a word of the opcode table spells: none, since no row has bits. -/
def decodeTableWord (_nbits _w : Nat) : Option Instr := none

end Sys2Proof
end

