-- ==== Sys2Proof/Config.lean ====
section
/-! DEFINITION. What the specification leaves open: free values, which nothing in Lean can evaluate.  Each is named in
the assumption log. -/

namespace Sys2Proof.Config

/-- A fresh free value: the n-th value the specification leaves open (notes/assumptions/3). -/
opaque freeValue : Nat → Nat

/-- The 64-bit truncated AES-GMAC of a message under a key and IV (spec/04, R102; spec/13, R350).  The specification
names the function by its standard; the model leaves it uninterpreted (notes/assumptions/4). -/
opaque gmac64 : (key iv : List (BitVec 8)) → (data : List (BitVec 8)) → BitVec 64

/-- SHA-256, SHA-384 and the CMAC check value, named by their standards and left uninterpreted (notes/assumptions/4). -/
opaque sha256 : List (BitVec 8) → List (BitVec 8)
opaque sha384 : List (BitVec 8) → List (BitVec 8)
opaque keyCheck : List (BitVec 8) → List (BitVec 8)

/-- The 72 bytes a link derives from the shared secret of two HELLOs (low's, high's) and their hash (spec/13, R352). -/
opaque linkSecret : (low high : List (BitVec 8)) → List (BitVec 8)

/-- Does a certificate chain pass R445 under anchors and a revocation list, at a UTC time in ns (none: validity is not
checked)?  Is a certificate one that R455 lets in, by the identity key, the fabric anchors and the module serial?  X.509
verification is named by its standard (notes/assumptions/4). -/
opaque chainOk : (chain anchors revoked : List (BitVec 8)) → (utc : Option Int) → Bool
opaque identityOk : (cert : List (BitVec 8)) → (identityKey : Nat) → (anchors : List (BitVec 8)) → (serial : Nat) → Bool

/-- SHA-256 of the body of an image inside a firmware bank: the bank's version, the image's kind (Table 18-6), and for the
standard loop set the core (notes/assumptions/4). -/
opaque bankImageHash : (version kind part : Nat) → List (BitVec 8)

/-- Saffron table functions of R218, which the specification fixes only to within 2 LSB: reciprocal square root,
exponential and reciprocal, as functions of their operands (notes/assumptions/6). -/
opaque saffronTable : (function : Nat) → (operand : Int) → Int

end Sys2Proof.Config
end

