-- ==== Sys2Proof/Machine/Causes.lean ====
section
/-! DEFINITION. The cause codes of the module, from the cause tables of spec/02 to spec/20 (spec/00, R13). -/

namespace Sys2Proof.Machine.Cause



/-! ### 02_package_pins_power.md -/

abbrev mainLoss : Nat := 0x01E1
abbrev mainDip : Nat := 0x01E2
abbrev mainOutOfRange : Nat := 0x01E3
abbrev auxLow : Nat := 0x01E4
abbrev holdEnergyLow : Nat := 0x01E5
abbrev holdUndervoltage : Nat := 0x01E6
abbrev trimStep : Nat := 0x01E7
abbrev trimAtLimit : Nat := 0x01E8
abbrev junctionWarning : Nat := 0x01E9
abbrev junctionHigh : Nat := 0x01EA
abbrev junctionCritical : Nat := 0x01EB
abbrev thermalTrip : Nat := 0x01EC
abbrev coolantFlowLow : Nat := 0x01ED
abbrev coolantInletHigh : Nat := 0x01EE
abbrev refClockLoss : Nat := 0x01EF
abbrev pllUnlock : Nat := 0x01F0
abbrev sdmClockTakeover : Nat := 0x01F1
abbrev maceLineConflict : Nat := 0x01F2

/-! ### 03_start_up_reset_recovery.md -/

abbrev selfTestFailed : Nat := 0x0861
abbrev bankHeaderBad : Nat := 0x0862
abbrev bankBodyBad : Nat := 0x0863
abbrev bankRollback : Nat := 0x0864
abbrev bankFailed : Nat := 0x0865
abbrev bankRevert : Nat := 0x0866
abbrev recoveryEntered : Nat := 0x0867
abbrev recoveryImageAccepted : Nat := 0x0868
abbrev imageReloadFailed : Nat := 0x0869
abbrev startTimeout : Nat := 0x086A
abbrev readinessTimeout : Nat := 0x086B
abbrev powerOn : Nat := 0x086C
abbrev pinReset : Nat := 0x086D
abbrev hostReset : Nat := 0x086E
abbrev watchdogReset : Nat := 0x086F
abbrev firmwareFatal : Nat := 0x0870
abbrev ringRecovered : Nat := 0x0871
abbrev ringRecordsLost : Nat := 0x0872
abbrev shutdownRefused : Nat := 0x0873
abbrev shutdownComplete : Nat := 0x0874
abbrev startConfirmed : Nat := 0x0875

/-! ### 04_fabric_time_and_cloves.md -/

abbrev timeAcquired : Nat := 0x0601
abbrev timeHoldover : Nat := 0x0602
abbrev timeDegraded : Nat := 0x0603
abbrev timeMasterChanged : Nat := 0x0604
abbrev taiUntraceable : Nat := 0x0605
abbrev ftEpochCorrected : Nat := 0x0606
abbrev ppsMismatch : Nat := 0x0607
abbrev cloveVersion : Nat := 0x0608
abbrev cloveKeyUnknown : Nat := 0x0609
abbrev cloveTagBad : Nat := 0x060A
abbrev cloveTimeInvalid : Nat := 0x060B
abbrev cloveActionUnknown : Nat := 0x060C
abbrev cloveLate : Nat := 0x060D
abbrev cloveFiredLate : Nat := 0x060E
abbrev cloveBeyondHorizon : Nat := 0x060F
abbrev cloveScheduleFull : Nat := 0x0610
abbrev cloveFireSlip : Nat := 0x0611
abbrev cloveSeqExhausted : Nat := 0x0612

/-! ### 05_power_stage_control.md -/

abbrev phaseHiccup : Nat := 0x0101
abbrev phaseRetryFailed : Nat := 0x0102
abbrev phaseRetryOk : Nat := 0x0103
abbrev phaseLatched : Nat := 0x0104
abbrev convShortCircuit : Nat := 0x0105
abbrev convOverloadLimit : Nat := 0x0106
abbrev convOverloadTrip : Nat := 0x0107
abbrev busTruncation : Nat := 0x0108
abbrev busOvervoltage : Nat := 0x0109
abbrev busOvLatched : Nat := 0x010A
abbrev busUndervoltage : Nat := 0x010B
abbrev feedUndervoltage : Nat := 0x010C
abbrev feedOvervoltage : Nat := 0x010D
abbrev phaseTempWarning : Nat := 0x010E
abbrev phaseTempShutdown : Nat := 0x010F
abbrev phaseTempRestart : Nat := 0x0110
abbrev senseOpen : Nat := 0x0111
abbrev senseSwitched : Nat := 0x0112
abbrev softStartHeld : Nat := 0x0113
abbrev softStartDone : Nat := 0x0114
abbrev burstEnter : Nat := 0x0115
abbrev burstExit : Nat := 0x0116
abbrev shareTrimAtLimit : Nat := 0x0117
abbrev phaseOutOfService : Nat := 0x0118
abbrev phaseRejoined : Nat := 0x0119
abbrev phaseRejoinFailed : Nat := 0x011A
abbrev senseLimit : Nat := 0x011B

/-! ### 06_cardamom_engine.md -/

abbrev cardamomOverrun : Nat := 0x0201
abbrev coreFaulted : Nat := 0x0202
abbrev cardamomMemCorrected : Nat := 0x0203
abbrev cardamomMemUncorrectable : Nat := 0x0204
abbrev programAdmitted : Nat := 0x0205
abbrev programRefused : Nat := 0x0206
abbrev programSwapped : Nat := 0x0207
abbrev programSwapLate : Nat := 0x0208
abbrev coreStopped : Nat := 0x0209
abbrev coreStarted : Nat := 0x020A
abbrev noticeDiscarded : Nat := 0x020B
abbrev accSaturation : Nat := 0x020C
abbrev holdReleased : Nat := 0x020D
abbrev holdTimeout : Nat := 0x020E
abbrev holdOverflow : Nat := 0x020F
abbrev coefSaved : Nat := 0x0210
abbrev coreCommandRefused : Nat := 0x0211

/-! ### 07_smoothing_loops.md -/

abbrev feedOverdraw : Nat := 0x0221
abbrev capSurplus : Nat := 0x0222
abbrev setpointRefused : Nat := 0x0223
abbrev storageLimitBinding : Nat := 0x0224
abbrev socFloorBinding : Nat := 0x0225
abbrev socCeilingBinding : Nat := 0x0226
abbrev thermalDerate : Nat := 0x0227

/-! ### 08_saffron_engine.md -/

abbrev saffronFastOverrun : Nat := 0x0301
abbrev saffronFastStopped : Nat := 0x0302
abbrev saffronSlowOverrun : Nat := 0x0303
abbrev saffronContextStale : Nat := 0x0304
abbrev saffronStreamError : Nat := 0x0305
abbrev saffronSaturation : Nat := 0x0306
abbrev saffronDivergence : Nat := 0x0307
abbrev saffronAgreement : Nat := 0x0308
abbrev estimateUntrusted : Nat := 0x0309
abbrev estimateTrusted : Nat := 0x030A
abbrev saffronTileFailed : Nat := 0x030B
abbrev saffronRotationSuspended : Nat := 0x030C
abbrev saffronLegacyConflict : Nat := 0x030D
abbrev stepMarkDropped : Nat := 0x030E

/-! ### 09_saffron_models.md -/

abbrev saffronImageAdmitted : Nat := 0x0321
abbrev saffronImageRefused : Nat := 0x0322
abbrev saffronLoadBusy : Nat := 0x0323
abbrev saffronSwapDone : Nat := 0x0324
abbrev saffronSwapRefused : Nat := 0x0325
abbrev saffronSwapLate : Nat := 0x0326
abbrev saffronSwapAborted : Nat := 0x0327
abbrev saffronImageUnloaded : Nat := 0x0328
abbrev saffronTickRefused : Nat := 0x0329

/-! ### 10_cell_chain.md -/

abbrev chainMasterChanged : Nat := 0x0401
abbrev chainUnitChanged : Nat := 0x0402
abbrev chainUnitMissing : Nat := 0x0403
abbrev csuFirmwareLost : Nat := 0x0404
abbrev sweepIncomplete : Nat := 0x0405
abbrev csuAlert : Nat := 0x0406
abbrev cellWarning : Nat := 0x0407
abbrev cellTempWarning : Nat := 0x0408
abbrev cellLimitTrip : Nat := 0x0409
abbrev cellTempTrip : Nat := 0x040A
abbrev cellLimitReleased : Nat := 0x040B
abbrev chainBroken : Nat := 0x040C
abbrev chainSegmented : Nat := 0x040D
abbrev chainStaleTimeout : Nat := 0x040E
abbrev chainRestored : Nat := 0x040F
abbrev sumMismatch : Nat := 0x0410
abbrev stringSumMismatch : Nat := 0x0411
abbrev senseWireSuspect : Nat := 0x0412
abbrev cellDeviation : Nat := 0x0413
abbrev senseWireOpen : Nat := 0x0414
abbrev senseWireCleared : Nat := 0x0415
abbrev balanceSwitchFault : Nat := 0x0416

/-! ### 11_state_of_charge.md -/

abbrev socRestTaken : Nat := 0x0421
abbrev quietWindowRequested : Nat := 0x0422
abbrev quietWindowMissed : Nat := 0x0423
abbrev quietWindowAbandoned : Nat := 0x0424
abbrev socUncertain : Nat := 0x0425
abbrev socMarginAtLimit : Nat := 0x0426
abbrev estimatorModeChanged : Nat := 0x0427
abbrev taperTimeout : Nat := 0x0428
abbrev capacityLearned : Nat := 0x0429
abbrev testDone : Nat := 0x042A
abbrev capacityTestAborted : Nat := 0x042B
abbrev journalWritten : Nat := 0x042C
abbrev journalSkipped : Nat := 0x042D
abbrev journalSlotTorn : Nat := 0x042E
abbrev journalEmpty : Nat := 0x042F

/-! ### 12_rack_budget.md -/

abbrev trayAbsent : Nat := 0x0501
abbrev trayAdmitted : Nat := 0x0502
abbrev trayChanged : Nat := 0x0503
abbrev trayAdmissionDone : Nat := 0x0504
abbrev flapHoldExpired : Nat := 0x0505
abbrev coolantStop : Nat := 0x0506
abbrev coolantCleared : Nat := 0x0507
abbrev chipThrottle : Nat := 0x0508
abbrev chipThrottleEnd : Nat := 0x0509
abbrev groupEqualize : Nat := 0x050A
abbrev groupRelease : Nat := 0x050B
abbrev policyRefused : Nat := 0x050C
abbrev ledgerNeed : Nat := 0x050D
abbrev ledgerFull : Nat := 0x050E
abbrev ledgerOverlend : Nat := 0x050F
abbrev budgetUndervoltageHold : Nat := 0x0510

/-! ### 13_renxel_fabric.md -/

abbrev linkUp : Nat := 0x0621
abbrev linkDown : Nat := 0x0622
abbrev linkTrainFail : Nat := 0x0623
abbrev linkVersionFail : Nat := 0x0624
abbrev linkPeerRefused : Nat := 0x0625
abbrev linkAuthFail : Nat := 0x0626
abbrev linkTagBurst : Nat := 0x0627
abbrev linkFlapping : Nat := 0x0628
abbrev linkMarginLow : Nat := 0x0629
abbrev nodeIdConflict : Nat := 0x062A
abbrev noRoute : Nat := 0x062B
abbrev routesActivated : Nat := 0x062C
abbrev selfRouteInUse : Nat := 0x062D
abbrev pairLinksDown : Nat := 0x062E
abbrev retimerLost : Nat := 0x062F
abbrev retimerHot : Nat := 0x0630
abbrev retimerCableMismatch : Nat := 0x0631

/-! ### 14_host_dictionary.md -/

abbrev sessionOpened : Nat := 0x0701
abbrev sessionClosed : Nat := 0x0702
abbrev sessionRefused : Nat := 0x0703
abbrev objectUnknown : Nat := 0x0704
abbrev accessDenied : Nat := 0x0705
abbrev accessMode : Nat := 0x0706
abbrev typeOrLength : Nat := 0x0707
abbrev reservedBitSet : Nat := 0x0708
abbrev valueOutOfRange : Nat := 0x0709
abbrev functionRunning : Nat := 0x070A
abbrev notMaceHolder : Nat := 0x070B
abbrev persistRefused : Nat := 0x070C
abbrev busy : Nat := 0x070D
abbrev protocolVersion : Nat := 0x070E
abbrev messageMalformed : Nat := 0x070F
abbrev dtlsAuthFail : Nat := 0x0710
abbrev transferFailed : Nat := 0x0711
abbrev transferTimeout : Nat := 0x0712
abbrev eventsLost : Nat := 0x0713
abbrev streamRefused : Nat := 0x0714
abbrev portLinkDown : Nat := 0x0715
abbrev portLinkUp : Nat := 0x0716

/-! ### 15_message_queues.md -/

abbrev queueHigh : Nat := 0x0901
abbrev queueReleased : Nat := 0x0902
abbrev queueDrop : Nat := 0x0903
abbrev queueFlushed : Nat := 0x0904
abbrev poolLow : Nat := 0x0905
abbrev poolRecovered : Nat := 0x0906
abbrev queueCorrected : Nat := 0x0907
abbrev queuePoison : Nat := 0x0908
abbrev queueLinkFault : Nat := 0x0909

/-! ### 16_event_recorder.md -/

abbrev recorderEventsLost : Nat := 0x0921
abbrev recorderCleared : Nat := 0x0922
abbrev cloveRecorded : Nat := 0x0923
abbrev recorderFlushIncomplete : Nat := 0x0924

/-! ### 17_active_standby.md -/

abbrev maceTakeover : Nat := 0x0A01
abbrev maceHandoverDone : Nat := 0x0A02
abbrev maceHandoverAborted : Nat := 0x0A03
abbrev maceReleasedSelfDiag : Nat := 0x0A04
abbrev selfDiagNoTaker : Nat := 0x0A05
abbrev pairHot : Nat := 0x0A06
abbrev pairCold : Nat := 0x0A07
abbrev pairSyncFailed : Nat := 0x0A08
abbrev checkpointLoaded : Nat := 0x0A09
abbrev pairDivergence : Nat := 0x0A0A
abbrev pairAgreement : Nat := 0x0A0B
abbrev pairInputMismatch : Nat := 0x0A0C
abbrev pairRecordsMissing : Nat := 0x0A0D
abbrev mirrorLate : Nat := 0x0A0E
abbrev mirrorGap : Nat := 0x0A0F
abbrev carrierAlignFail : Nat := 0x0A10
abbrev partnerDegraded : Nat := 0x0A11
abbrev partnerHealthMissing : Nat := 0x0A12

/-! ### 18_security_update.md -/

abbrev cryptoSelfTestFailed : Nat := 0x0801
abbrev selfTestPassed : Nat := 0x0802
abbrev tamperDetected : Nat := 0x0803
abbrev zeroised : Nat := 0x0804
abbrev modeChanged : Nat := 0x0805
abbrev identityInstalled : Nat := 0x0806
abbrev anchorsChanged : Nat := 0x0807
abbrev revocationUpdated : Nat := 0x0808
abbrev certTimeUnchecked : Nat := 0x0809
abbrev cloveKeyInstalled : Nat := 0x080A
abbrev cloveKeyActivated : Nat := 0x080B
abbrev cloveKeyRetired : Nat := 0x080C
abbrev cloveOriginationStopped : Nat := 0x080D
abbrev measurementLogFull : Nat := 0x080E
abbrev imageHeaderRefused : Nat := 0x080F
abbrev imageRollback : Nat := 0x0810
abbrev imageBodyBad : Nat := 0x0811
abbrev imageWritten : Nat := 0x0812
abbrev updateLeaseReleased : Nat := 0x0813
abbrev bankPreferred : Nat := 0x0814
abbrev rollbackCommitted : Nat := 0x0815
abbrev cloveKeyCommandLapsed : Nat := 0x0816

/-! ### 19_detectors_injection.md -/

abbrev injectionArmed : Nat := 0x0821
abbrev injectionEnded : Nat := 0x0822
abbrev injectionRefused : Nat := 0x0823

/-! ### 20_legacy_step_table.md -/

abbrev legacyEnabled : Nat := 0x0B01
abbrev legacyDisabled : Nat := 0x0B02
abbrev legacyConflict : Nat := 0x0B03
abbrev legacyOrder : Nat := 0x0B04
abbrev legacyNotEnabled : Nat := 0x0B05
abbrev legacySequenceStarted : Nat := 0x0B06
abbrev legacySequenceDone : Nat := 0x0B07
abbrev legacyTimeInvalid : Nat := 0x0B08



end Sys2Proof.Machine.Cause
end

