-- ==== Sys2Proof/Machine/DictTypes.lean ====
section
/-! DEFINITION. The types of the object dictionary (spec/14, R380 and R381; spec/00, R12): value types, access kinds,
and one row of an object table. -/

namespace Sys2Proof.Machine.Dict

/-- Value types of the dictionary (spec/00 and spec/14, R380). -/
inductive Ty where
  | bool | u8 | u16 | u32 | u64 | i16 | i32 | i64 | q15 | ft64 | enum8
  | str (bytes : Nat)
  | blob (bytes : Nat)
  deriving DecidableEq, Repr

/-- Access kinds (spec/00, R12). -/
inductive Access where
  | ro | rw | wo | rws | rwc
  deriving DecidableEq, Repr

/-- How the tables give a default: one value, one per converter, or by a table of the chapter. `unstated` is the
table's dash: the model reads 0 there (DESIGN CHOICE, notes/assumptions/2). -/
inductive Dflt where
  | const (v : Int)
  | perConv (feed storage : Int)
  | unstated
  | index
  | indexPlus (n : Nat)
  | chanFunction | chanFullScale | chanUnit | chanFilter | chanRatio | chanAction | chanPartner
  | linkProfile
  | queueHigh | queueLow | queueGuaranteed | queueMaximum | queueSpill | queueCreditMask | queueXoff
  | trigEnable | trigMask | trigSnapshots | trigEnableFirst
  deriving DecidableEq, Repr

/-- One row of an object table. `roles` is the bit mask of roles that may write (O 1, E 2, S 4, C 8, U 16);
`lo` to `hi` and the list `allow` say which values are in range; `resv` are the bits R4 wants zero. -/
structure Row where
  base : Nat
  cnt : Nat
  sub : Nat
  subs : Nat
  ty : Ty
  acc : Access
  roles : Nat
  lo : Int
  hi : Int
  allow : List Int
  resv : Nat
  dflt : Dflt
  mram : Bool
  mirrored : Bool
  deriving DecidableEq, Repr

end Sys2Proof.Machine.Dict
end

