-- ==== Sys2Proof/Machine/DictRows.lean ====
section
/-! DEFINITION. The rows of the object dictionary, chapter by chapter, from the object tables of spec/02 to spec/20
(access, roles, range, reset default, MRAM retention, mirroring).  Row fields, in order: index base, number of indices,
sub, number of subs, type, access, roles (O 1, E 2, S 4, C 8, U 16), lowest and highest value, values allowed besides,
reserved bits, default, kept in MRAM, mirrored. -/

namespace Sys2Proof.Machine.Dict

/-- Object rows of spec/02_package_pins_power.md (part 1). -/
def ch02a : List Row :=
  [ ⟨0xF100, 1, 1, 1, .u16, .ro, 1, 0, 65535, [], 0, .unstated, false, false⟩,
    ⟨0xF100, 1, 2, 1, .u16, .ro, 1, 0, 65535, [], 0, .unstated, false, false⟩,
    ⟨0xF100, 1, 3, 1, .u16, .ro, 1, 0, 65535, [], 0, .unstated, false, false⟩,
    ⟨0xF100, 1, 4, 1, .u16, .ro, 1, 0, 65535, [], 0, .unstated, false, false⟩,
    ⟨0xF100, 1, 5, 1, .u32, .ro, 1, 0, 4294967295, [], 0, .unstated, false, false⟩,
    ⟨0xF100, 1, 6, 1, .u32, .ro, 1, 0, 4294967295, [], 0, .const (0), false, false⟩,
    ⟨0xF100, 1, 7, 1, .u32, .ro, 1, 0, 4294967295, [], 0, .const (0), true, false⟩,
    ⟨0xF101, 1, 0, 1, .u32, .rw, 2, 10000, 2000000, [], 0, .const (50000), true, false⟩,
    ⟨0xF110, 1, 1, 1, .u64, .ro, 1, 0, 18446744073709551615, [], 0, .unstated, false, false⟩,
    ⟨0xF110, 1, 2, 1, .u16, .ro, 1, 0, 65535, [], 0, .unstated, false, false⟩,
    ⟨0xF120, 1, 1, 9, .i16, .ro, 1, -32768, 32767, [], 0, .unstated, false, false⟩,
    ⟨0xF121, 1, 0, 1, .blob 16384, .ro, 1, 0, 0, [], 0, .const 0, false, false⟩,
    ⟨0xF122, 1, 0, 1, .u32, .ro, 1, 0, 4294967295, [], 0, .const (0), false, false⟩,
    ⟨0xF130, 1, 1, 1, .i16, .ro, 1, -32768, 32767, [], 0, .unstated, false, false⟩,
    ⟨0xF130, 1, 2, 1, .i16, .ro, 1, -32768, 32767, [], 0, .unstated, false, false⟩,
    ⟨0xF130, 1, 3, 1, .i16, .ro, 1, -32768, 32767, [], 0, .unstated, false, false⟩,
    ⟨0xF130, 1, 4, 1, .u16, .ro, 1, 0, 65535, [], 0, .unstated, false, false⟩,
    ⟨0xF140, 1, 1, 1, .u16, .ro, 1, 0, 65535, [], 0, .unstated, false, false⟩,
    ⟨0xF140, 1, 2, 1, .enum8, .ro, 1, 1, 0, [0, 1, 2], 0, .unstated, false, false⟩,
    ⟨0xF150, 1, 0, 1, .u16, .ro, 1, 0, 65535, [], 0, .unstated, false, false⟩ ]

/-- Object rows of spec/02_package_pins_power.md. -/
def ch02 : List Row :=
  ch02a

/-- Object rows of spec/03_start_up_reset_recovery.md (part 1). -/
def ch03a : List Row :=
  [ ⟨0xF160, 1, 1, 1, .enum8, .ro, 1, 1, 0, [0, 1, 2, 3, 4, 5, 6, 7, 8], 0, .unstated, false, false⟩,
    ⟨0xF160, 1, 2, 1, .u16, .ro, 1, 0, 65535, [], 0, .unstated, false, false⟩,
    ⟨0xF160, 1, 3, 1, .enum8, .ro, 1, 0, 255, [], 0, .unstated, true, false⟩,
    ⟨0xF160, 1, 4, 1, .u16, .ro, 1, 0, 65535, [], 0, .unstated, true, false⟩,
    ⟨0xF160, 1, 5, 1, .ft64, .ro, 1, 0, 18446744073709551615, [], 0, .unstated, false, false⟩,
    ⟨0xF160, 1, 6, 1, .u32, .ro, 1, 0, 4294967295, [], 0, .const (0), true, false⟩,
    ⟨0xF160, 1, 7, 1, .u32, .ro, 1, 0, 4294967295, [], 0, .const (0), true, false⟩,
    ⟨0xF160, 1, 8, 1, .u32, .ro, 1, 0, 4294967295, [], 0, .unstated, false, false⟩,
    ⟨0xF161, 1, 1, 1, .enum8, .wo, 2, 1, 0, [1, 2], 0, .unstated, false, false⟩,
    ⟨0xF161, 1, 2, 1, .enum8, .wo, 2, 1, 0, [1, 2], 0, .unstated, false, false⟩,
    ⟨0xF161, 1, 3, 1, .enum8, .ro, 1, 1, 0, [0, 1, 2, 3, 4], 0, .const (0), false, false⟩,
    ⟨0xF162, 1, 0, 1, .u16, .rw, 2, 0, 10000, [], 0, .const (2000), true, false⟩,
    ⟨0xA300, 1, 1, 1, .enum8, .ro, 1, 1, 0, [0, 1, 2], 0, .unstated, false, false⟩,
    ⟨0xA300, 1, 2, 1, .enum8, .ro, 1, 1, 0, [0, 1], 0, .unstated, false, false⟩,
    ⟨0xA300, 1, 3, 1, .enum8, .ro, 1, 1, 0, [0, 2, 3, 4], 0, .unstated, false, false⟩,
    ⟨0xA300, 1, 4, 1, .enum8, .ro, 1, 0, 255, [], 0, .unstated, false, false⟩,
    ⟨0xA300, 1, 5, 1, .u8, .ro, 1, 0, 3, [], 0, .const (0), false, false⟩,
    ⟨0xA300, 1, 6, 1, .u8, .ro, 1, 0, 3, [], 0, .const (0), false, false⟩,
    ⟨0xA300, 1, 7, 1, .u16, .ro, 1, 0, 65535, [], 0, .unstated, false, false⟩,
    ⟨0xA300, 1, 8, 1, .u16, .ro, 1, 0, 65535, [], 0, .unstated, false, false⟩ ]

/-- Object rows of spec/03_start_up_reset_recovery.md (part 2). -/
def ch03b : List Row :=
  [ ⟨0xA300, 1, 9, 1, .u32, .ro, 1, 0, 4294967295, [], 0, .const (0), false, false⟩,
    ⟨0xA300, 1, 10, 1, .enum8, .wo, 6, 1, 0, [0, 1], 0, .unstated, false, false⟩ ]

/-- Object rows of spec/03_start_up_reset_recovery.md. -/
def ch03 : List Row :=
  ch03a ++ ch03b

/-- Object rows of spec/04_fabric_time_and_cloves.md (part 1). -/
def ch04a : List Row :=
  [ ⟨0x2000, 1, 1, 1, .enum8, .ro, 1, 1, 0, [0, 1, 2, 3, 4], 0, .const (0), false, false⟩,
    ⟨0x2000, 1, 2, 1, .ft64, .ro, 1, 0, 18446744073709551615, [], 0, .const (0), false, false⟩,
    ⟨0x2000, 1, 3, 1, .u32, .ro, 1, 0, 4294967295, [], 0, .unstated, false, false⟩,
    ⟨0x2000, 1, 4, 1, .bool, .ro, 1, 0, 1, [], 0, .const (0), false, false⟩,
    ⟨0x2000, 1, 5, 1, .i16, .ro, 1, -32768, 32767, [], 0, .const (0), false, false⟩,
    ⟨0x2000, 1, 6, 1, .i64, .ro, 1, -9223372036854775808, 9223372036854775807, [], 0, .const (0), false, false⟩,
    ⟨0x2000, 1, 7, 1, .i32, .ro, 1, -100000, 100000, [], 0, .const (0), false, false⟩,
    ⟨0x2000, 1, 8, 1, .u32, .ro, 1, 0, 4294967295, [], 0, .const (0), false, false⟩,
    ⟨0x2010, 1, 1, 1, .u8, .rw, 2, 0, 255, [255], 0, .const (128), true, false⟩,
    ⟨0x2010, 1, 2, 1, .u16, .ro, 1, 0, 1023, [], 0, .unstated, false, false⟩,
    ⟨0x2010, 1, 3, 1, .u8, .ro, 1, 0, 12, [255], 0, .const (255), false, false⟩,
    ⟨0x2010, 1, 4, 1, .u8, .ro, 1, 0, 31, [255], 0, .const (255), false, false⟩,
    ⟨0x2010, 1, 5, 1, .u8, .rw, 2, 0, 31, [255], 0, .const (255), false, false⟩,
    ⟨0x2010, 1, 6, 1, .i32, .ro, 1, -2147483648, 2147483647, [], 0, .unstated, false, false⟩,
    ⟨0x2010, 1, 7, 1, .u8, .ro, 1, 0, 255, [], 0, .const (4), false, false⟩,
    ⟨0x2020, 1, 1, 32, .i16, .rw, 2, -20000, 20000, [], 0, .const (0), true, false⟩,
    ⟨0x2021, 1, 1, 32, .u32, .ro, 1, 0, 4294967295, [], 0, .unstated, false, false⟩,
    ⟨0x2100, 1, 1, 1, .u8, .rw, 2, 0, 255, [], 252, .const (3), false, false⟩,
    ⟨0x2100, 1, 2, 1, .u8, .rw, 2, 0, 127, [], 0, .const (0), false, false⟩,
    ⟨0x2100, 1, 3, 1, .enum8, .rw, 2, 1, 0, [1, 2], 0, .const (1), false, false⟩ ]

/-- Object rows of spec/04_fabric_time_and_cloves.md (part 2). -/
def ch04b : List Row :=
  [ ⟨0x2100, 1, 4, 1, .u16, .ro, 1, 0, 65535, [], 0, .unstated, false, false⟩,
    ⟨0x2100, 1, 5, 1, .i32, .ro, 1, -2147483648, 2147483647, [], 0, .unstated, false, false⟩,
    ⟨0x2100, 1, 6, 1, .bool, .rw, 2, 0, 1, [], 0, .const (0), false, false⟩,
    ⟨0x2300, 1, 1, 1, .u32, .rw, 2, 0, 1000000, [], 0, .const (50000), false, false⟩,
    ⟨0x2300, 1, 2, 1, .u32, .rw, 2, 1, 60000, [], 0, .const (10000), false, false⟩,
    ⟨0x2300, 1, 3, 1, .u8, .ro, 1, 0, 3, [255], 0, .const (255), false, false⟩,
    ⟨0x2300, 1, 4, 1, .u32, .ro, 1, 0, 4294967295, [], 0, .unstated, false, false⟩,
    ⟨0x2310, 1, 0, 1, .blob 32, .rw, 2, 0, 0, [], 0, .const 0, false, true⟩,
    ⟨0x2320, 1, 0, 1, .blob 32, .wo, 2, 0, 0, [], 0, .const 0, false, false⟩,
    ⟨0x2330, 1, 1, 15, .u32, .ro, 1, 0, 4294967295, [], 0, .const (0), false, false⟩,
    ⟨0x2340, 1, 0, 1, .blob 2048, .ro, 1, 0, 0, [], 0, .const 0, false, false⟩ ]

/-- Object rows of spec/04_fabric_time_and_cloves.md. -/
def ch04 : List Row :=
  ch04a ++ ch04b

/-- Object rows of spec/05_power_stage_control.md (part 1). -/
def ch05a : List Row :=
  [ ⟨0x3000, 1, 1, 1, .u32, .rw, 2, 760000, 840000, [], 0, .const (800000), false, false⟩,
    ⟨0x3000, 1, 2, 1, .u32, .rw, 2, 10, 40000, [], 0, .const (1000), false, false⟩,
    ⟨0x3000, 1, 3, 1, .u32, .ro, 1, 0, 4294967295, [], 0, .unstated, false, false⟩,
    ⟨0x3000, 1, 4, 1, .u32, .ro, 1, 0, 4294967295, [], 0, .const (0), false, false⟩,
    ⟨0x3000, 1, 5, 1, .bool, .ro, 1, 0, 1, [], 0, .const (1), false, false⟩,
    ⟨0x3000, 1, 6, 1, .u32, .rw, 2, 845000, 895000, [], 0, .const (870000), false, false⟩,
    ⟨0x3000, 1, 7, 1, .u32, .rw, 2, 840000, 890000, [], 0, .const (860000), false, false⟩,
    ⟨0x3000, 1, 8, 1, .u32, .rw, 2, 880000, 950000, [], 0, .const (900000), false, false⟩,
    ⟨0x3000, 1, 9, 1, .u32, .rw, 2, 600000, 760000, [], 0, .const (720000), false, false⟩,
    ⟨0x3000, 1, 10, 1, .u32, .ro, 1, 0, 4294967295, [], 0, .const (0), false, false⟩,
    ⟨0x3000, 1, 11, 1, .u32, .ro, 1, 0, 4294967295, [], 0, .const (0), false, false⟩,
    ⟨0x3000, 1, 12, 1, .bool, .rwc, 2, 0, 1, [], 0, .const (0), false, false⟩,
    ⟨0x3003, 1, 1, 1, .u32, .rw, 2, 600000, 700000, [], 0, .const (680000), false, false⟩,
    ⟨0x3003, 1, 2, 1, .u32, .rw, 2, 900000, 950000, [], 0, .const (920000), false, false⟩,
    ⟨0x3003, 1, 3, 1, .u16, .rw, 2, 100, 60000, [], 0, .const (1000), false, false⟩,
    ⟨0x3300, 1, 0, 1, .u32, .rws, 2, 0, 4294967295, [], 4293918720, .const (0), false, false⟩,
    ⟨0x3301, 1, 0, 1, .u32, .ro, 1, 0, 4294967295, [], 0, .unstated, false, false⟩,
    ⟨0x3001, 2, 1, 1, .enum8, .ro, 1, 1, 0, [0, 1, 2, 3, 4, 5, 6], 0, .const (0), false, false⟩,
    ⟨0x3001, 2, 2, 1, .bool, .rw, 2, 0, 1, [], 0, .const (1), false, false⟩,
    ⟨0x3001, 2, 3, 1, .u32, .rws, 2, 26667, 166666, [], 0, .perConv (66667) (53334), false, false⟩ ]

/-- Object rows of spec/05_power_stage_control.md (part 2). -/
def ch05b : List Row :=
  [ ⟨0x3001, 2, 4, 1, .enum8, .rws, 2, 1, 0, [0, 1, 2], 0, .const (1), false, false⟩,
    ⟨0x3001, 2, 5, 1, .enum8, .rws, 2, 1, 0, [0, 1, 2], 0, .const (1), false, false⟩,
    ⟨0x3001, 2, 6, 1, .u32, .rw, 2, 0, 4294967295, [], 0, .perConv (40000) (41000), false, false⟩,
    ⟨0x3001, 2, 7, 1, .u32, .rw, 2, 0, 4294967295, [], 0, .perConv (790000) (820000), false, false⟩,
    ⟨0x3001, 2, 8, 1, .u32, .rw, 2, 0, 4294967295, [], 0, .perConv (1185000) (1220000), false, false⟩,
    ⟨0x3001, 2, 9, 1, .u16, .rw, 2, 1000, 60000, [], 0, .const (10000), false, false⟩,
    ⟨0x3001, 2, 10, 1, .u32, .rw, 2, 0, 4294967295, [], 0, .perConv (1700000) (1800000), false, false⟩,
    ⟨0x3001, 2, 11, 1, .u32, .ro, 1, 0, 4294967295, [], 0, .const (0), false, false⟩,
    ⟨0x3001, 2, 12, 1, .u32, .ro, 1, 0, 4294967295, [], 0, .unstated, false, false⟩,
    ⟨0x3001, 2, 13, 1, .u8, .ro, 1, 0, 8, [], 0, .unstated, false, false⟩,
    ⟨0x3001, 2, 14, 1, .bool, .rw, 2, 0, 1, [], 0, .const (1), false, false⟩,
    ⟨0x3001, 2, 15, 1, .u32, .rw, 2, 0, 4294967295, [], 0, .perConv (3000) (2000), false, false⟩,
    ⟨0x3001, 2, 16, 1, .u32, .rw, 2, 0, 4294967295, [], 0, .perConv (6000) (4000), false, false⟩,
    ⟨0x3001, 2, 17, 1, .u16, .rw, 2, 0, 65535, [], 0, .perConv (2000) (5000), false, false⟩,
    ⟨0x3001, 2, 18, 1, .bool, .rw, 2, 0, 1, [], 0, .const (1), false, false⟩,
    ⟨0x3001, 2, 19, 1, .q15, .rw, 2, 0, 1024, [], 0, .const (32), false, false⟩,
    ⟨0x3001, 2, 20, 1, .q15, .rw, 2, 0, 3277, [], 0, .const (983), false, false⟩,
    ⟨0x3001, 2, 21, 1, .u16, .rw, 2, 10, 1000, [], 0, .const (100), false, false⟩,
    ⟨0x3001, 2, 22, 1, .u16, .rw, 2, 10, 1000, [], 0, .const (50), false, false⟩,
    ⟨0x3001, 2, 23, 1, .u8, .rw, 2, 0, 15, [], 0, .const (5), false, false⟩ ]

/-- Object rows of spec/05_power_stage_control.md (part 3). -/
def ch05c : List Row :=
  [ ⟨0x3001, 2, 24, 1, .u8, .rw, 2, 1, 64, [], 0, .const (8), false, false⟩,
    ⟨0x3001, 2, 25, 1, .u16, .rw, 2, 100, 60000, [], 0, .const (1000), false, false⟩,
    ⟨0x3001, 2, 26, 1, .u32, .ro, 1, 0, 4294967295, [], 0, .const (0), false, false⟩,
    ⟨0x3100, 20, 1, 1, .enum8, .ro, 1, 1, 0, [0, 1, 2, 3, 4, 5, 6], 0, .const (0), false, false⟩,
    ⟨0x3100, 20, 2, 1, .u16, .ro, 1, 0, 65535, [], 0, .const (0), false, false⟩,
    ⟨0x3100, 20, 3, 1, .enum8, .ro, 1, 1, 0, [0, 1], 0, .unstated, false, false⟩,
    ⟨0x3100, 20, 4, 1, .u32, .ro, 1, 0, 4294967295, [], 0, .unstated, false, false⟩,
    ⟨0x3100, 20, 5, 1, .u16, .rws, 2, 20, 2000, [], 0, .const (400), false, false⟩,
    ⟨0x3100, 20, 6, 1, .u16, .rws, 2, 200, 6667, [], 0, .const (1000), false, false⟩,
    ⟨0x3100, 20, 7, 1, .q15, .ro, 1, -32768, 32767, [], 0, .const (0), false, false⟩,
    ⟨0x3100, 20, 8, 1, .q15, .ro, 1, 0, 1, [], 0, .unstated, false, false⟩,
    ⟨0x3100, 20, 9, 1, .u32, .ro, 1, 0, 4294967295, [], 0, .unstated, false, false⟩,
    ⟨0x3100, 20, 10, 1, .u8, .rws, 2, 0, 19, [255], 0, .index, false, false⟩,
    ⟨0x3100, 20, 11, 1, .enum8, .rws, 2, 1, 0, [0, 1], 0, .const (0), false, false⟩,
    ⟨0x3100, 20, 12, 1, .u8, .rws, 2, 4, 100, [], 0, .const (4), false, false⟩,
    ⟨0x3100, 20, 13, 1, .u8, .rws, 2, 0, 47, [], 0, .index, false, false⟩,
    ⟨0x3100, 20, 14, 1, .u8, .rws, 2, 0, 47, [], 0, .indexPlus 20, false, false⟩,
    ⟨0x3100, 20, 15, 1, .i16, .rw, 2, -32768, 32767, [], 0, .const (1050), false, false⟩,
    ⟨0x3100, 20, 16, 1, .i16, .rw, 2, -32768, 32767, [], 0, .const (1250), false, false⟩,
    ⟨0x3100, 20, 17, 1, .i16, .rw, 2, -32768, 32767, [], 0, .const (1000), false, false⟩ ]

/-- Object rows of spec/05_power_stage_control.md (part 4). -/
def ch05d : List Row :=
  [ ⟨0x3100, 20, 18, 1, .u8, .ro, 1, 0, 255, [], 0, .const (0), false, false⟩,
    ⟨0x3100, 20, 19, 1, .u32, .ro, 1, 0, 4294967295, [], 0, .const (0), false, false⟩,
    ⟨0x3100, 20, 20, 1, .u32, .ro, 1, 0, 4294967295, [], 0, .const (0), false, false⟩,
    ⟨0x3100, 20, 21, 1, .enum8, .wo, 2, 1, 0, [1, 2, 3], 0, .unstated, false, false⟩,
    ⟨0x3200, 48, 1, 1, .enum8, .rws, 2, 1, 0, [0, 1, 2, 3, 4, 5, 6, 7, 8], 0, .chanFunction, false, false⟩,
    ⟨0x3200, 48, 2, 1, .u32, .rws, 2, 0, 4294967295, [], 0, .chanFullScale, false, false⟩,
    ⟨0x3200, 48, 3, 1, .enum8, .rws, 2, 1, 0, [1, 2, 3], 0, .chanUnit, false, false⟩,
    ⟨0x3200, 48, 4, 1, .i16, .rw, 2, -32768, 32767, [], 0, .const (0), false, false⟩,
    ⟨0x3200, 48, 5, 1, .u16, .rw, 2, 0, 65535, [], 0, .const (16384), false, false⟩,
    ⟨0x3200, 48, 6, 1, .enum8, .rws, 2, 1, 0, [3, 4], 0, .chanFilter, false, false⟩,
    ⟨0x3200, 48, 7, 1, .u16, .rws, 2, 16, 256, [], 0, .chanRatio, false, false⟩,
    ⟨0x3200, 48, 8, 1, .u8, .rws, 2, 1, 0, [8, 16, 32], 0, .const (16), false, false⟩,
    ⟨0x3200, 48, 9, 1, .u16, .rws, 2, 0, 300, [], 0, .const (0), false, false⟩,
    ⟨0x3200, 48, 10, 1, .q15, .rw, 2, -32768, 32767, [], 0, .const (32767), false, false⟩,
    ⟨0x3200, 48, 11, 1, .q15, .rw, 2, -32768, 32767, [], 0, .const (-32768), false, false⟩,
    ⟨0x3200, 48, 12, 1, .u8, .rw, 2, 1, 16, [], 0, .const (2), false, false⟩,
    ⟨0x3200, 48, 13, 1, .enum8, .rws, 2, 1, 0, [0, 1, 2, 4, 5], 0, .chanAction, false, false⟩,
    ⟨0x3200, 48, 14, 1, .q15, .ro, 1, -32768, 32767, [], 0, .unstated, false, false⟩,
    ⟨0x3200, 48, 15, 1, .q15, .ro, 1, -32768, 32767, [], 0, .unstated, false, false⟩,
    ⟨0x3200, 48, 16, 1, .u8, .ro, 1, 0, 255, [], 0, .unstated, false, false⟩ ]

/-- Object rows of spec/05_power_stage_control.md (part 5). -/
def ch05e : List Row :=
  [ ⟨0x3200, 48, 17, 1, .u32, .ro, 1, 0, 4294967295, [], 0, .const (0), false, false⟩,
    ⟨0x3200, 48, 18, 1, .u8, .rws, 2, 0, 47, [255], 0, .chanPartner, false, false⟩ ]

/-- Object rows of spec/05_power_stage_control.md. -/
def ch05 : List Row :=
  ch05a ++ ch05b ++ ch05c ++ ch05d ++ ch05e

/-- Object rows of spec/06_cardamom_engine.md (part 1). -/
def ch06a : List Row :=
  [ ⟨0x4000, 1, 1, 1, .u8, .ro, 1, 0, 255, [], 0, .const (0), false, false⟩,
    ⟨0x4000, 1, 2, 1, .bool, .rw, 2, 0, 1, [], 0, .const (1), false, true⟩,
    ⟨0x4000, 1, 3, 1, .u16, .rw, 2, 1, 1000, [], 0, .const (10), false, false⟩,
    ⟨0x4000, 1, 4, 1, .u32, .ro, 1, 0, 4294967295, [], 0, .const (0), false, false⟩,
    ⟨0x4000, 1, 5, 1, .u32, .ro, 1, 0, 4294967295, [], 0, .const (0), false, false⟩,
    ⟨0x4010, 1, 0, 1, .blob 64, .ro, 1, 0, 0, [], 0, .const 0, false, false⟩,
    ⟨0x4100, 4, 1, 1, .enum8, .ro, 1, 1, 0, [0, 1, 2, 3], 0, .const (0), false, false⟩,
    ⟨0x4100, 4, 2, 1, .u8, .rw, 2, 0, 15, [255], 0, .const (255), true, false⟩,
    ⟨0x4100, 4, 3, 1, .u32, .ro, 1, 0, 4294967295, [], 0, .unstated, false, false⟩,
    ⟨0x4100, 4, 4, 1, .u16, .ro, 1, 0, 65535, [], 0, .unstated, false, false⟩,
    ⟨0x4100, 4, 5, 1, .enum8, .wo, 2, 1, 0, [1, 2, 3, 4, 5], 0, .unstated, false, false⟩,
    ⟨0x4100, 4, 6, 1, .ft64, .rw, 2, 0, 18446744073709551615, [], 0, .const (0), false, false⟩,
    ⟨0x4100, 4, 7, 1, .enum8, .rw, 2, 1, 0, [0, 1], 0, .const (0), false, false⟩,
    ⟨0x4100, 4, 8, 1, .enum8, .ro, 1, 1, 0, [0, 1, 2, 3], 0, .const (0), false, false⟩,
    ⟨0x4100, 4, 9, 1, .blob 64, .ro, 1, 0, 0, [], 0, .const 0, false, false⟩,
    ⟨0x4100, 4, 10, 1, .u16, .ro, 1, 0, 65535, [], 0, .unstated, false, false⟩,
    ⟨0x4100, 4, 11, 1, .u16, .ro, 1, 0, 65535, [], 0, .unstated, false, false⟩,
    ⟨0x4100, 4, 12, 1, .u16, .ro, 1, 0, 65535, [], 0, .const (0), false, false⟩,
    ⟨0x4100, 4, 13, 1, .u8, .ro, 1, 0, 255, [], 0, .unstated, false, false⟩,
    ⟨0x4100, 4, 14, 1, .u32, .rw, 2, 0, 4294967295, [], 4278190080, .const 0, false, false⟩ ]

/-- Object rows of spec/06_cardamom_engine.md (part 2). -/
def ch06b : List Row :=
  [ ⟨0x4100, 4, 15, 1, .u32, .ro, 1, 0, 4294967295, [], 0, .const (0), false, false⟩,
    ⟨0x4100, 4, 16, 1, .u32, .ro, 1, 0, 4294967295, [], 0, .const (0), false, false⟩,
    ⟨0x4100, 4, 17, 1, .u32, .ro, 1, 0, 4294967295, [], 0, .const (0), false, false⟩,
    ⟨0x4100, 4, 18, 1, .u32, .ro, 1, 0, 4294967295, [], 0, .const (0), false, false⟩,
    ⟨0x4100, 4, 19, 1, .u32, .ro, 1, 0, 4294967295, [], 0, .const (0), false, false⟩,
    ⟨0x4100, 4, 20, 1, .u32, .ro, 1, 0, 4294967295, [], 0, .const (0), false, false⟩,
    ⟨0x4100, 4, 21, 1, .blob 128, .ro, 1, 0, 0, [], 0, .const 0, false, false⟩,
    ⟨0x4100, 4, 22, 1, .u64, .ro, 1, 0, 18446744073709551615, [], 0, .const (0), false, false⟩,
    ⟨0x4100, 4, 23, 1, .enum8, .wo, 2, 1, 0, [1, 2, 3], 0, .unstated, false, false⟩,
    ⟨0x4100, 4, 24, 1, .enum8, .ro, 1, 1, 0, [0, 1, 2], 0, .const (0), false, false⟩,
    ⟨0x4100, 4, 25, 1, .ft64, .rw, 2, 0, 18446744073709551615, [], 0, .const (0), false, false⟩,
    ⟨0x4100, 4, 26, 1, .u8, .ro, 1, 0, 64, [], 0, .const (0), false, false⟩,
    ⟨0x4100, 4, 27, 1, .u32, .ro, 1, 0, 4294967295, [], 0, .const (0), false, false⟩,
    ⟨0x4100, 4, 28, 1, .u32, .ro, 1, 0, 4294967295, [], 0, .const (0), false, false⟩,
    ⟨0x4200, 4, 1, 1, .u16, .rw, 2, 0, 1023, [], 0, .const (0), false, false⟩,
    ⟨0x4200, 4, 2, 1, .i32, .rw, 2, -2147483648, 2147483647, [], 0, .unstated, false, false⟩,
    ⟨0x4200, 4, 3, 1, .blob 4096, .rw, 2, 0, 0, [], 0, .const 0, false, false⟩,
    ⟨0x4200, 4, 4, 1, .enum8, .wo, 2, 1, 0, [1, 2], 0, .unstated, false, false⟩,
    ⟨0x4200, 4, 5, 1, .u32, .ro, 1, 0, 4294967295, [], 0, .const (0), false, false⟩,
    ⟨0x4200, 4, 6, 1, .blob 512, .ro, 1, 0, 0, [], 0, .const 0, false, false⟩ ]

/-- Object rows of spec/06_cardamom_engine.md (part 3). -/
def ch06c : List Row :=
  [ ⟨0x4300, 4, 0, 1, .blob 4096, .ro, 1, 0, 0, [], 0, .const 0, false, false⟩,
    ⟨0x4400, 4, 0, 1, .blob 256, .ro, 1, 0, 0, [], 0, .const 0, false, false⟩ ]

/-- Object rows of spec/06_cardamom_engine.md. -/
def ch06 : List Row :=
  ch06a ++ ch06b ++ ch06c

/-- Object rows of spec/07_smoothing_loops.md (part 1). -/
def ch07a : List Row :=
  [ ⟨0x4800, 1, 1, 1, .u16, .ro, 1, 0, 65535, [], 0, .const (256), false, false⟩,
    ⟨0x4800, 1, 2, 1, .enum8, .ro, 1, 1, 0, [0, 1, 2, 3, 4, 5, 6], 0, .const (0), false, false⟩,
    ⟨0x4800, 1, 3, 1, .u8, .ro, 1, 0, 255, [], 0, .const (0), false, false⟩,
    ⟨0x4800, 1, 4, 1, .u32, .ro, 1, 0, 4294967295, [], 0, .const (0), false, false⟩,
    ⟨0x4800, 1, 5, 1, .u16, .rw, 2, 10, 10000, [], 0, .const (100), false, true⟩,
    ⟨0x4800, 1, 6, 1, .u32, .ro, 1, 0, 4294967295, [], 0, .const (0), false, false⟩,
    ⟨0x4800, 1, 7, 1, .u64, .ro, 1, 0, 18446744073709551615, [], 0, .const (0), false, false⟩,
    ⟨0x4800, 1, 8, 1, .u16, .rw, 2, 1, 10000, [], 0, .const (10), false, true⟩,
    ⟨0x4800, 1, 9, 1, .u32, .ro, 1, 0, 4294967295, [], 0, .const (0), false, false⟩,
    ⟨0x4800, 1, 10, 1, .u32, .ro, 1, 0, 4294967295, [], 0, .const (0), false, false⟩,
    ⟨0x4801, 1, 1, 7, .u64, .ro, 1, 0, 18446744073709551615, [], 0, .const (0), false, false⟩ ]

/-- Object rows of spec/07_smoothing_loops.md. -/
def ch07 : List Row :=
  ch07a

/-- Object rows of spec/08_saffron_engine.md (part 1). -/
def ch08a : List Row :=
  [ ⟨0x5000, 1, 1, 1, .enum8, .rw, 2, 1, 0, [0, 1, 2], 0, .const (2), false, true⟩,
    ⟨0x5000, 1, 2, 1, .enum8, .ro, 1, 1, 0, [0, 1, 2, 3, 4], 0, .const (0), false, false⟩,
    ⟨0x5000, 1, 3, 1, .u8, .ro, 1, 0, 64, [], 0, .const (63), false, false⟩,
    ⟨0x5000, 1, 4, 1, .u64, .ro, 1, 0, 18446744073709551615, [], 0, .const (0), true, false⟩,
    ⟨0x5000, 1, 5, 1, .u64, .wo, 2, 0, 18446744073709551615, [], 0, .unstated, false, false⟩,
    ⟨0x5001, 1, 1, 1, .u8, .ro, 1, 1, 64, [], 0, .unstated, false, false⟩,
    ⟨0x5001, 1, 2, 1, .u16, .ro, 1, 0, 65535, [], 0, .unstated, false, false⟩,
    ⟨0x5001, 1, 3, 1, .u16, .ro, 1, 0, 65535, [], 0, .const (0), false, false⟩,
    ⟨0x5001, 1, 4, 1, .u64, .ro, 1, 0, 18446744073709551615, [], 0, .const (0), false, false⟩,
    ⟨0x5001, 1, 5, 1, .u32, .ro, 1, 0, 4294967295, [], 0, .const (0), false, false⟩,
    ⟨0x5001, 1, 6, 1, .u64, .ro, 1, 0, 18446744073709551615, [], 0, .const (0), false, false⟩,
    ⟨0x5001, 1, 7, 1, .u8, .rw, 2, 1, 255, [], 0, .const (16), false, false⟩,
    ⟨0x5002, 1, 1, 1, .u16, .rws, 2, 250, 10000, [], 0, .const (1000), false, false⟩,
    ⟨0x5002, 1, 2, 1, .u32, .ro, 1, 0, 4294967295, [], 0, .unstated, false, false⟩,
    ⟨0x5002, 1, 3, 1, .u32, .ro, 1, 0, 4294967295, [], 0, .unstated, false, false⟩,
    ⟨0x5002, 1, 4, 1, .u64, .ro, 1, 0, 18446744073709551615, [], 0, .unstated, false, false⟩,
    ⟨0x5002, 1, 5, 1, .u64, .ro, 1, 0, 18446744073709551615, [], 0, .unstated, false, false⟩,
    ⟨0x5002, 1, 6, 1, .u16, .ro, 1, 0, 65535, [], 0, .unstated, false, false⟩,
    ⟨0x5002, 1, 7, 1, .u8, .rw, 2, 1, 255, [], 0, .const (4), false, false⟩,
    ⟨0x5002, 1, 8, 1, .u32, .ro, 1, 0, 4294967295, [], 0, .const (0), false, false⟩ ]

/-- Object rows of spec/08_saffron_engine.md (part 2). -/
def ch08b : List Row :=
  [ ⟨0x5002, 1, 9, 1, .u32, .ro, 1, 0, 4294967295, [], 0, .const (0), false, false⟩,
    ⟨0x5002, 1, 10, 1, .u64, .ro, 1, 0, 18446744073709551615, [], 0, .const (0), false, false⟩,
    ⟨0x5010, 1, 1, 1, .u16, .ro, 1, 0, 2048, [], 0, .unstated, false, false⟩,
    ⟨0x5010, 1, 2, 1, .u16, .ro, 1, 0, 32768, [], 0, .unstated, false, false⟩,
    ⟨0x5010, 1, 3, 1, .u32, .ro, 1, 0, 4294967295, [], 0, .const (0), false, false⟩,
    ⟨0x5010, 1, 4, 1, .u32, .ro, 1, 0, 4294967295, [], 0, .const (0), false, false⟩,
    ⟨0x5010, 1, 5, 1, .u8, .ro, 1, 0, 64, [], 0, .const (0), false, false⟩,
    ⟨0x5020, 1, 1, 1, .u8, .ro, 1, 0, 255, [], 0, .const (0), false, false⟩,
    ⟨0x5020, 1, 2, 1, .bool, .rw, 2, 0, 1, [], 0, .const (0), false, true⟩,
    ⟨0x5020, 1, 3, 1, .u8, .rw, 2, 0, 63, [], 0, .const (10), false, false⟩,
    ⟨0x5020, 1, 4, 1, .u8, .rw, 2, 0, 16, [], 0, .const (2), false, false⟩,
    ⟨0x5020, 1, 5, 1, .u32, .rw, 2, 1000, 2000000, [], 0, .const (60000), false, false⟩,
    ⟨0x5020, 1, 6, 1, .u32, .rw, 2, 1000, 2000000, [], 0, .const (40000), false, false⟩,
    ⟨0x5020, 1, 7, 1, .u32, .ro, 1, 0, 4294967295, [], 0, .unstated, false, false⟩,
    ⟨0x5020, 1, 8, 1, .u8, .rw, 2, 5, 100, [], 0, .const (25), false, false⟩,
    ⟨0x5020, 1, 9, 1, .u16, .rw, 2, 1, 1000, [], 0, .const (10), false, false⟩,
    ⟨0x5020, 1, 10, 1, .u16, .rw, 2, 10, 10000, [], 0, .const (100), false, false⟩,
    ⟨0x5020, 1, 11, 1, .u8, .rw, 2, 1, 192, [], 0, .const (16), false, false⟩,
    ⟨0x5020, 1, 12, 1, .u8, .ro, 1, 0, 192, [], 0, .const (0), false, false⟩,
    ⟨0x5020, 1, 13, 1, .blob 24, .ro, 1, 0, 0, [], 0, .const 0, false, false⟩ ]

/-- Object rows of spec/08_saffron_engine.md (part 3). -/
def ch08c : List Row :=
  [ ⟨0x5020, 1, 14, 1, .u32, .ro, 1, 0, 4294967295, [], 0, .const (0), false, false⟩,
    ⟨0x5030, 1, 1, 1, .bool, .rw, 2, 0, 1, [], 0, .const (1), false, true⟩,
    ⟨0x5030, 1, 2, 1, .u16, .rw, 2, 10, 10000, [], 0, .const (100), false, false⟩,
    ⟨0x5030, 1, 3, 1, .u8, .ro, 1, 0, 63, [255], 0, .unstated, false, false⟩,
    ⟨0x5030, 1, 4, 1, .u32, .ro, 1, 0, 4294967295, [], 0, .const (0), false, false⟩,
    ⟨0x5030, 1, 5, 1, .u32, .ro, 1, 0, 4294967295, [], 0, .const (0), false, false⟩,
    ⟨0x5030, 1, 6, 1, .ft64, .ro, 1, 0, 18446744073709551615, [], 0, .const (0), false, false⟩,
    ⟨0x5100, 1, 1, 1, .blob 128, .ro, 1, 0, 0, [], 0, .const 0, false, false⟩,
    ⟨0x5100, 1, 2, 1, .q15, .ro, 1, 0, 1, [], 0, .const (0), false, false⟩,
    ⟨0x5100, 1, 3, 1, .u16, .ro, 1, 0, 65535, [], 0, .const (32), false, false⟩,
    ⟨0x5100, 1, 4, 1, .ft64, .ro, 1, 0, 18446744073709551615, [], 0, .const (0), false, false⟩,
    ⟨0x5100, 1, 5, 1, .u32, .ro, 1, 0, 4294967295, [], 0, .const (0), false, false⟩,
    ⟨0x5200, 64, 1, 1, .enum8, .ro, 1, 1, 0, [0, 1, 2, 3, 4, 5], 0, .const (0), false, false⟩,
    ⟨0x5200, 64, 2, 1, .u8, .ro, 1, 0, 63, [255], 0, .const (255), false, false⟩,
    ⟨0x5200, 64, 3, 1, .u32, .ro, 1, 0, 4294967295, [], 0, .const (0), false, false⟩,
    ⟨0x5200, 64, 4, 1, .u32, .ro, 1, 0, 4294967295, [], 0, .const (0), false, false⟩,
    ⟨0x5200, 64, 5, 1, .u32, .ro, 1, 0, 4294967295, [], 0, .const (0), false, false⟩,
    ⟨0x5200, 64, 6, 1, .u32, .ro, 1, 0, 4294967295, [], 0, .const (0), false, false⟩,
    ⟨0x5200, 64, 7, 1, .u32, .ro, 1, 0, 4294967295, [], 0, .const (0), false, false⟩ ]

/-- Object rows of spec/08_saffron_engine.md. -/
def ch08 : List Row :=
  ch08a ++ ch08b ++ ch08c

/-- Object rows of spec/09_saffron_models.md (part 1). -/
def ch09a : List Row :=
  [ ⟨0x5300, 16, 1, 1, .enum8, .ro, 1, 1, 0, [0, 1, 2], 0, .const (0), false, false⟩,
    ⟨0x5300, 16, 2, 1, .enum8, .ro, 1, 1, 0, [0, 1, 2], 0, .const (0), false, false⟩,
    ⟨0x5300, 16, 3, 1, .u32, .ro, 1, 0, 4294967295, [], 0, .const (0), false, false⟩,
    ⟨0x5300, 16, 4, 1, .u16, .ro, 1, 0, 65535, [], 0, .const (0), false, false⟩,
    ⟨0x5300, 16, 5, 1, .u32, .ro, 1, 0, 4294967295, [], 0, .const (0), false, false⟩,
    ⟨0x5300, 16, 6, 1, .blob 32, .ro, 1, 0, 0, [], 0, .const 0, false, false⟩,
    ⟨0x5400, 6, 1, 1, .enum8, .ro, 1, 1, 0, [0, 1, 2, 3, 4, 5], 0, .const (0), false, false⟩,
    ⟨0x5400, 6, 2, 1, .u8, .ro, 1, 0, 15, [255], 0, .const (255), false, false⟩,
    ⟨0x5400, 6, 3, 1, .u32, .ro, 1, 0, 4294967295, [], 0, .const (0), false, false⟩,
    ⟨0x5400, 6, 4, 1, .u16, .ro, 1, 0, 65535, [], 0, .const (0), false, false⟩,
    ⟨0x5400, 6, 5, 1, .u64, .ro, 1, 0, 18446744073709551615, [], 0, .const (0), false, false⟩,
    ⟨0x5400, 6, 6, 1, .u32, .ro, 1, 0, 4294967295, [], 0, .const (0), false, false⟩,
    ⟨0x5400, 6, 7, 1, .u64, .ro, 1, 0, 18446744073709551615, [], 0, .const (0), false, false⟩,
    ⟨0x5400, 6, 8, 1, .u8, .ro, 1, 1, 64, [], 0, .const (0), false, false⟩,
    ⟨0x5400, 6, 9, 1, .u32, .ro, 1, 0, 4294967295, [], 0, .const (0), false, false⟩,
    ⟨0x5410, 1, 1, 1, .u8, .rw, 2, 0, 15, [], 0, .const (255), false, false⟩,
    ⟨0x5410, 1, 2, 1, .u8, .rw, 2, 0, 5, [], 0, .const (255), false, false⟩,
    ⟨0x5410, 1, 3, 1, .enum8, .wo, 2, 1, 0, [1, 2, 3, 4, 5], 0, .unstated, false, true⟩,
    ⟨0x5410, 1, 4, 1, .ft64, .rw, 2, 0, 18446744073709551615, [], 0, .const (0), false, false⟩,
    ⟨0x5410, 1, 5, 1, .u8, .rw, 2, 0, 5, [255], 0, .const (255), false, false⟩ ]

/-- Object rows of spec/09_saffron_models.md (part 2). -/
def ch09b : List Row :=
  [ ⟨0x5410, 1, 6, 1, .u8, .rw, 2, 0, 1, [], 0, .const (255), false, false⟩,
    ⟨0x5410, 1, 7, 1, .u8, .rw, 2, 2, 5, [], 0, .const (255), false, false⟩,
    ⟨0x5410, 1, 8, 1, .enum8, .ro, 1, 1, 0, [0, 1, 2, 3], 0, .const (0), false, false⟩,
    ⟨0x5410, 1, 9, 1, .u8, .ro, 1, 0, 100, [], 0, .const (0), false, false⟩,
    ⟨0x5411, 1, 0, 1, .blob 640, .ro, 1, 0, 0, [], 0, .const 0, false, false⟩,
    ⟨0x5412, 1, 1, 1, .u8, .rw, 2, 0, 15, [255], 0, .const (255), true, false⟩,
    ⟨0x5412, 1, 2, 4, .u8, .rw, 2, 0, 15, [255], 0, .const (255), true, false⟩,
    ⟨0x5412, 1, 6, 1, .u8, .rw, 2, 2, 5, [255], 0, .const (255), true, false⟩,
    ⟨0x5413, 1, 1, 1, .u32, .ro, 1, 0, 4294967295, [], 0, .const (0), false, false⟩,
    ⟨0x5413, 1, 2, 1, .u32, .ro, 1, 0, 4294967295, [], 0, .const (0), false, false⟩,
    ⟨0x5413, 1, 3, 1, .u32, .ro, 1, 0, 4294967295, [], 0, .const (0), false, false⟩,
    ⟨0x5413, 1, 4, 1, .u32, .ro, 1, 0, 4294967295, [], 0, .const (0), false, false⟩ ]

/-- Object rows of spec/09_saffron_models.md. -/
def ch09 : List Row :=
  ch09a ++ ch09b

/-- Object rows of spec/10_cell_chain.md (part 1). -/
def ch10a : List Row :=
  [ ⟨0x6000, 1, 1, 1, .enum8, .ro, 1, 1, 0, [0, 1, 2, 3, 4, 5], 0, .const (0), false, false⟩,
    ⟨0x6000, 1, 2, 1, .u8, .rws, 2, 1, 32, [], 0, .const (20), true, false⟩,
    ⟨0x6000, 1, 3, 1, .u8, .ro, 1, 0, 32, [], 0, .const (0), false, false⟩,
    ⟨0x6000, 1, 4, 1, .u8, .ro, 1, 0, 255, [], 0, .const (0), false, false⟩,
    ⟨0x6000, 1, 5, 1, .u32, .ro, 1, 0, 4294967295, [], 0, .const (0), false, false⟩,
    ⟨0x6000, 1, 6, 1, .u32, .ro, 1, 0, 4294967295, [], 0, .unstated, false, false⟩,
    ⟨0x6000, 1, 7, 1, .bool, .ro, 1, 0, 1, [], 0, .const (0), false, false⟩,
    ⟨0x6000, 1, 8, 1, .u16, .rw, 2, 5, 1000, [], 0, .const (10), false, true⟩,
    ⟨0x6000, 1, 9, 1, .enum8, .rw, 2, 1, 0, [0, 1, 2, 3], 0, .const (1), false, true⟩,
    ⟨0x6000, 1, 10, 1, .u16, .rw, 2, 1, 0, [1, 2, 3, 4], 0, .const (1000), false, true⟩,
    ⟨0x6000, 1, 11, 1, .u16, .rw, 2, 1, 600, [], 0, .const (10), false, false⟩,
    ⟨0x6000, 1, 12, 1, .u16, .rw, 2, 500, 60000, [], 0, .const (2000), false, false⟩,
    ⟨0x6000, 1, 13, 1, .u16, .rw, 2, 10, 3600, [], 0, .const (600), false, false⟩,
    ⟨0x6000, 1, 14, 1, .enum8, .rw, 2, 1, 0, [0, 1], 0, .const (1), false, false⟩,
    ⟨0x6000, 1, 15, 1, .u16, .rw, 2, 0, 1440, [], 0, .const (60), false, false⟩,
    ⟨0x6000, 1, 16, 1, .enum8, .wo, 2, 1, 0, [1, 2, 3, 4], 0, .unstated, false, true⟩,
    ⟨0x6000, 1, 17, 1, .u32, .ro, 1, 0, 4294967295, [], 0, .const (0), false, false⟩,
    ⟨0x6000, 1, 18, 1, .u32, .ro, 1, 0, 4294967295, [], 0, .const (0), false, false⟩,
    ⟨0x6000, 1, 19, 1, .u32, .ro, 1, 0, 4294967295, [], 0, .const (0), false, false⟩,
    ⟨0x6000, 1, 20, 1, .u32, .ro, 1, 0, 4294967295, [], 0, .const (0), false, false⟩ ]

/-- Object rows of spec/10_cell_chain.md (part 2). -/
def ch10b : List Row :=
  [ ⟨0x6000, 1, 21, 1, .enum8, .wo, 2, 1, 0, [1], 0, .unstated, false, false⟩,
    ⟨0x6001, 1, 1, 1, .u16, .ro, 1, 0, 65535, [], 0, .const (0), false, false⟩,
    ⟨0x6001, 1, 2, 1, .enum8, .ro, 1, 0, 255, [], 0, .const (0), false, false⟩,
    ⟨0x6001, 1, 3, 1, .ft64, .ro, 1, 0, 18446744073709551615, [], 0, .const (0), false, false⟩,
    ⟨0x6001, 1, 4, 1, .enum8, .ro, 1, 1, 0, [0, 1, 2, 3], 0, .unstated, false, false⟩,
    ⟨0x6001, 1, 5, 1, .blob 32, .ro, 1, 0, 0, [], 0, .const 0, false, false⟩,
    ⟨0x6001, 1, 6, 1, .i32, .ro, 1, -2147483648, 2147483647, [], 0, .unstated, false, false⟩,
    ⟨0x6001, 1, 7, 1, .ft64, .ro, 1, 0, 18446744073709551615, [], 0, .const (0), false, false⟩,
    ⟨0x6010, 1, 1, 1, .u16, .rw, 2, 1500, 1800, [], 0, .const (1600), false, true⟩,
    ⟨0x6010, 1, 2, 1, .u16, .rw, 2, 1550, 1900, [], 0, .const (1700), false, false⟩,
    ⟨0x6010, 1, 3, 1, .u16, .rw, 2, 2500, 2850, [], 0, .const (2750), false, false⟩,
    ⟨0x6010, 1, 4, 1, .u16, .rw, 2, 2700, 2900, [], 0, .const (2800), false, true⟩,
    ⟨0x6010, 1, 5, 1, .i16, .rw, 2, -32768, 32767, [], 0, .const (500), false, false⟩,
    ⟨0x6010, 1, 6, 1, .i16, .rw, 2, -32768, 32767, [], 0, .const (600), false, false⟩,
    ⟨0x6010, 1, 7, 1, .u16, .rw, 2, 10, 200, [], 0, .const (40), false, false⟩,
    ⟨0x6010, 1, 8, 1, .u16, .rw, 2, 30, 500, [], 0, .const (100), false, false⟩,
    ⟨0x6010, 1, 9, 1, .u16, .rw, 2, 5, 100, [], 0, .const (20), false, false⟩,
    ⟨0x6010, 1, 10, 1, .u8, .rw, 2, 1, 100, [], 0, .const (3), false, false⟩,
    ⟨0x6010, 1, 11, 1, .u8, .ro, 1, 0, 255, [], 0, .const (0), false, false⟩,
    ⟨0x6020, 1, 1, 1, .bool, .rw, 2, 0, 1, [], 0, .const (1), false, true⟩ ]

/-- Object rows of spec/10_cell_chain.md (part 3). -/
def ch10c : List Row :=
  [ ⟨0x6020, 1, 2, 1, .u16, .rw, 2, 10, 1000, [], 0, .const (50), false, false⟩,
    ⟨0x6020, 1, 3, 1, .u16, .rw, 2, 5, 500, [], 0, .const (20), false, false⟩,
    ⟨0x6020, 1, 4, 1, .u16, .rw, 2, 1, 600, [], 0, .const (10), false, false⟩,
    ⟨0x6020, 1, 5, 1, .u8, .ro, 1, 0, 32, [], 0, .const (0), false, false⟩,
    ⟨0x6020, 1, 6, 1, .u64, .ro, 1, 0, 18446744073709551615, [], 0, .const (0), true, false⟩,
    ⟨0x6020, 1, 7, 1, .enum8, .ro, 1, 1, 0, [0, 1, 2], 0, .const (2), false, false⟩,
    ⟨0x6020, 1, 8, 1, .u16, .rw, 2, 0, 720, [], 0, .const (24), false, false⟩,
    ⟨0x6101, 32, 1, 1, .enum8, .ro, 1, 1, 0, [0, 1, 2, 3, 4, 5, 6], 0, .const (0), false, false⟩,
    ⟨0x6101, 32, 2, 1, .u64, .ro, 1, 0, 18446744073709551615, [], 0, .const (0), true, false⟩,
    ⟨0x6101, 32, 3, 1, .blob 32, .ro, 1, 0, 0, [], 0, .const 0, false, false⟩,
    ⟨0x6101, 32, 4, 1, .enum8, .ro, 1, 1, 0, [0, 1, 2], 0, .const (2), false, false⟩,
    ⟨0x6101, 32, 5, 1, .u8, .ro, 1, 1, 32, [], 0, .unstated, false, false⟩,
    ⟨0x6101, 32, 6, 1, .u8, .ro, 1, 1, 32, [], 0, .unstated, false, false⟩,
    ⟨0x6101, 32, 7, 1, .blob 32, .ro, 1, 0, 0, [], 0, .const 0, false, false⟩,
    ⟨0x6101, 32, 8, 1, .u16, .ro, 1, 0, 65535, [], 0, .unstated, false, false⟩,
    ⟨0x6101, 32, 9, 1, .blob 8, .ro, 1, 0, 0, [], 0, .const 0, false, false⟩,
    ⟨0x6101, 32, 10, 1, .u16, .ro, 1, 0, 65535, [], 0, .const (0), false, false⟩,
    ⟨0x6101, 32, 11, 1, .i16, .ro, 1, -32768, 32767, [], 0, .const (0), false, false⟩,
    ⟨0x6101, 32, 12, 1, .u32, .ro, 1, 0, 4294967295, [], 0, .const (0), false, false⟩,
    ⟨0x6101, 32, 13, 1, .u32, .ro, 1, 0, 4294967295, [], 0, .const (0), false, false⟩ ]

/-- Object rows of spec/10_cell_chain.md (part 4). -/
def ch10d : List Row :=
  [ ⟨0x6101, 32, 14, 1, .u16, .ro, 1, 0, 65535, [], 0, .const (0), false, false⟩,
    ⟨0x6101, 32, 15, 1, .ft64, .ro, 1, 0, 18446744073709551615, [], 0, .const (0), false, false⟩,
    ⟨0x6101, 32, 16, 1, .u32, .ro, 1, 0, 4294967295, [], 0, .const (0), false, false⟩,
    ⟨0x6101, 32, 17, 1, .u32, .ro, 1, 0, 4294967295, [], 0, .const (0), false, false⟩ ]

/-- Object rows of spec/10_cell_chain.md. -/
def ch10 : List Row :=
  ch10a ++ ch10b ++ ch10c ++ ch10d

/-- Object rows of spec/11_state_of_charge.md (part 1). -/
def ch11a : List Row :=
  [ ⟨0x6200, 1, 1, 1, .enum8, .ro, 1, 0, 255, [], 0, .const (0), false, false⟩,
    ⟨0x6200, 1, 2, 1, .u16, .ro, 1, 0, 65535, [], 0, .unstated, false, false⟩,
    ⟨0x6200, 1, 3, 1, .u16, .ro, 1, 0, 65535, [], 0, .unstated, false, false⟩,
    ⟨0x6200, 1, 4, 1, .u16, .ro, 1, 0, 65535, [], 0, .unstated, false, false⟩,
    ⟨0x6200, 1, 5, 1, .u16, .ro, 1, 0, 65535, [], 0, .unstated, false, false⟩,
    ⟨0x6200, 1, 6, 1, .u16, .ro, 1, 0, 65535, [], 0, .unstated, false, false⟩,
    ⟨0x6200, 1, 7, 1, .u16, .ro, 1, 0, 65535, [], 0, .unstated, false, false⟩,
    ⟨0x6200, 1, 8, 1, .u16, .ro, 1, 0, 65535, [], 0, .unstated, false, false⟩,
    ⟨0x6200, 1, 9, 1, .ft64, .ro, 1, 0, 18446744073709551615, [], 0, .const (0), false, false⟩,
    ⟨0x6200, 1, 10, 1, .u32, .ro, 1, 0, 4294967295, [], 0, .unstated, false, false⟩,
    ⟨0x6200, 1, 11, 1, .u32, .ro, 1, 0, 4294967295, [], 0, .const (0), false, false⟩,
    ⟨0x6200, 1, 12, 1, .i32, .ro, 1, -2147483648, 2147483647, [], 0, .const (0), false, false⟩,
    ⟨0x6200, 1, 13, 1, .u64, .ro, 1, 0, 18446744073709551615, [], 0, .const (0), false, false⟩,
    ⟨0x6200, 1, 14, 1, .enum8, .wo, 2, 1, 0, [1], 0, .unstated, false, true⟩,
    ⟨0x6200, 1, 15, 1, .u32, .ro, 1, 0, 4294967295, [], 0, .unstated, false, false⟩,
    ⟨0x6200, 1, 16, 1, .u8, .ro, 1, 0, 255, [], 0, .const (0), false, false⟩,
    ⟨0x6201, 1, 1, 1, .u16, .rw, 2, 500, 5000, [], 0, .const (2000), false, true⟩,
    ⟨0x6201, 1, 2, 1, .u16, .rw, 2, 5000, 9500, [], 0, .const (8000), false, true⟩,
    ⟨0x6201, 1, 3, 1, .u32, .rw, 2, 0, 30000, [], 0, .const (3000), false, true⟩,
    ⟨0x6201, 1, 5, 1, .u16, .rw, 2, 0, 500, [], 0, .const (50), false, false⟩ ]

/-- Object rows of spec/11_state_of_charge.md (part 2). -/
def ch11b : List Row :=
  [ ⟨0x6201, 1, 6, 1, .u16, .rw, 2, 100, 2000, [], 0, .const (800), false, false⟩,
    ⟨0x6201, 1, 7, 1, .u32, .rw, 2, 10000, 2000000, [], 0, .const (100000), false, false⟩,
    ⟨0x6201, 1, 8, 1, .u32, .rw, 2, 1000, 20000, [], 0, .const (5000), false, false⟩,
    ⟨0x6201, 1, 9, 1, .u16, .rw, 2, 30, 3600, [], 0, .const (120), false, false⟩,
    ⟨0x6201, 1, 10, 1, .u16, .rw, 2, 50, 2000, [], 0, .const (300), false, false⟩,
    ⟨0x6201, 1, 11, 1, .u16, .rw, 2, 100, 2000, [], 0, .const (500), false, false⟩,
    ⟨0x6201, 1, 12, 1, .u16, .rw, 2, 10, 1440, [], 0, .const (120), false, false⟩,
    ⟨0x6201, 1, 13, 1, .u16, .rw, 2, 60, 2880, [], 0, .const (480), false, false⟩,
    ⟨0x6201, 1, 14, 1, .u16, .rw, 2, 1, 50, [], 0, .const (8), false, false⟩,
    ⟨0x6201, 1, 15, 1, .q15, .rw, 2, 0, 32767, [], 0, .const (655), false, false⟩,
    ⟨0x6202, 1, 1, 1, .u16, .rw, 2, 0, 1500, [], 0, .const (500), false, false⟩,
    ⟨0x6202, 1, 2, 1, .u32, .rw, 2, 50000, 820000, [], 0, .const (410000), false, false⟩,
    ⟨0x6202, 1, 3, 1, .u16, .rw, 2, 500, 10000, [], 0, .const (3000), false, false⟩,
    ⟨0x6202, 1, 4, 1, .u16, .rw, 2, 300, 5000, [], 0, .const (1000), false, false⟩,
    ⟨0x6202, 1, 5, 1, .u16, .rw, 2, 10, 1440, [], 0, .const (60), false, false⟩,
    ⟨0x6202, 1, 6, 1, .u16, .rw, 2, 10, 1000, [], 0, .const (100), false, false⟩,
    ⟨0x6203, 1, 1, 1, .enum8, .wo, 2, 1, 0, [1, 2], 0, .unstated, false, true⟩,
    ⟨0x6203, 1, 2, 1, .u16, .rw, 2, 200, 1200, [], 0, .const (800), false, false⟩,
    ⟨0x6203, 1, 3, 1, .u16, .rw, 2, 8800, 9800, [], 0, .const (9200), false, false⟩,
    ⟨0x6203, 1, 4, 1, .u16, .rw, 2, 30, 1440, [], 0, .const (240), false, false⟩ ]

/-- Object rows of spec/11_state_of_charge.md (part 3). -/
def ch11c : List Row :=
  [ ⟨0x6203, 1, 5, 1, .enum8, .ro, 1, 1, 0, [0, 1, 2, 3, 4, 5], 0, .const (0), false, false⟩,
    ⟨0x6204, 1, 1, 1, .enum8, .ro, 1, 1, 0, [0, 1, 2, 3], 0, .const (0), false, false⟩,
    ⟨0x6204, 1, 2, 1, .u32, .ro, 1, 0, 4294967295, [], 0, .const (180000), false, false⟩,
    ⟨0x6204, 1, 3, 1, .ft64, .ro, 1, 0, 18446744073709551615, [], 0, .const (0), false, false⟩,
    ⟨0x6204, 1, 4, 1, .u32, .ro, 1, 0, 4294967295, [], 0, .const (0), false, false⟩,
    ⟨0x6204, 1, 5, 1, .u32, .ro, 1, 0, 4294967295, [], 0, .const (0), false, false⟩,
    ⟨0x6204, 1, 6, 1, .u32, .ro, 1, 0, 4294967295, [], 0, .const (0), false, false⟩,
    ⟨0x6204, 1, 7, 1, .u32, .wo, 2, 1, 3600000, [], 0, .unstated, false, true⟩,
    ⟨0x6205, 1, 0, 1, .blob 132, .rws, 2, 0, 0, [], 0, .const 0, false, false⟩,
    ⟨0x6210, 1, 1, 1, .u16, .rw, 2, 10, 1440, [], 0, .const (60), false, false⟩,
    ⟨0x6210, 1, 2, 1, .u16, .rw, 2, 1000, 1500, [], 0, .const (1200), false, false⟩,
    ⟨0x6210, 1, 3, 1, .enum8, .ro, 1, 1, 0, [0, 1, 2], 0, .unstated, false, false⟩,
    ⟨0x6210, 1, 4, 1, .enum8, .ro, 1, 0, 255, [], 0, .unstated, false, false⟩,
    ⟨0x6210, 1, 5, 1, .u32, .ro, 1, 0, 4294967295, [], 0, .const (0), false, false⟩,
    ⟨0x6210, 1, 6, 1, .ft64, .ro, 1, 0, 18446744073709551615, [], 0, .const (0), false, false⟩,
    ⟨0x6210, 1, 7, 1, .u32, .ro, 1, 0, 4294967295, [], 0, .const (0), false, false⟩,
    ⟨0x6210, 1, 8, 1, .u32, .ro, 1, 0, 4294967295, [], 0, .const (0), false, false⟩,
    ⟨0x6210, 1, 9, 1, .enum8, .wo, 2, 1, 0, [1], 0, .unstated, false, false⟩,
    ⟨0x6210, 1, 10, 1, .blob 4096, .ro, 1, 0, 0, [], 0, .const 0, false, false⟩,
    ⟨0x6400, 1, 0, 1, .blob 1024, .ro, 1, 0, 0, [], 0, .const 0, false, false⟩ ]

/-- Object rows of spec/11_state_of_charge.md (part 4). -/
def ch11d : List Row :=
  [ ⟨0x6401, 1, 0, 1, .blob 1024, .ro, 1, 0, 0, [], 0, .const 0, false, false⟩,
    ⟨0x6402, 1, 0, 1, .blob 1024, .ro, 1, 0, 0, [], 0, .const 0, false, false⟩ ]

/-- Object rows of spec/11_state_of_charge.md. -/
def ch11 : List Row :=
  ch11a ++ ch11b ++ ch11c ++ ch11d

/-- Object rows of spec/12_rack_budget.md (part 1). -/
def ch12a : List Row :=
  [ ⟨0x7000, 1, 1, 1, .enum8, .ro, 1, 1, 0, [0, 1, 2], 0, .const (0), false, false⟩,
    ⟨0x7000, 1, 2, 1, .u32, .ro, 1, 0, 4294967295, [], 0, .const (600000), false, false⟩,
    ⟨0x7000, 1, 3, 1, .u32, .rw, 2, 0, 900000, [], 0, .const (600000), false, true⟩,
    ⟨0x7000, 1, 4, 1, .i32, .ro, 1, -2147483648, 2147483647, [], 0, .unstated, false, false⟩,
    ⟨0x7000, 1, 5, 1, .i32, .ro, 1, -2147483648, 2147483647, [], 0, .unstated, false, false⟩,
    ⟨0x7000, 1, 6, 1, .u32, .ro, 1, 0, 4294967295, [], 0, .const (4294967295), false, false⟩,
    ⟨0x7000, 1, 7, 1, .u32, .ro, 1, 0, 4294967295, [], 0, .const (0), false, false⟩,
    ⟨0x7000, 1, 8, 1, .u32, .ro, 1, 0, 4294967295, [], 0, .unstated, false, false⟩,
    ⟨0x7000, 1, 9, 1, .enum8, .ro, 1, 0, 255, [], 0, .const (0), false, false⟩,
    ⟨0x7000, 1, 10, 1, .enum8, .ro, 1, 0, 255, [], 0, .const (0), false, false⟩,
    ⟨0x7000, 1, 11, 1, .u8, .rw, 2, 1, 50, [], 0, .const (10), false, true⟩,
    ⟨0x7000, 1, 12, 1, .u32, .rw, 2, 1000, 200000, [], 0, .const (20000), false, false⟩,
    ⟨0x7000, 1, 13, 1, .u16, .rw, 2, 100, 60000, [], 0, .const (1000), false, false⟩,
    ⟨0x7000, 1, 14, 1, .u8, .rw, 2, 0, 100, [], 0, .const (60), false, true⟩,
    ⟨0x7000, 1, 15, 1, .u8, .rw, 2, 0, 50, [], 0, .const (0), false, false⟩,
    ⟨0x7000, 1, 16, 1, .u32, .rw, 2, 50, 10000, [], 0, .const (200), false, false⟩,
    ⟨0x7000, 1, 17, 1, .u16, .rw, 2, 50, 1000, [], 0, .const (250), false, false⟩,
    ⟨0x7000, 1, 18, 1, .u16, .rw, 2, 200, 10000, [], 0, .const (1000), false, false⟩,
    ⟨0x7000, 1, 19, 1, .u16, .rw, 2, 1, 1000, [], 0, .const (10), false, false⟩,
    ⟨0x7010, 1, 1, 1, .u32, .rw, 2, 0, 1000000, [], 0, .const (30000), false, true⟩ ]

/-- Object rows of spec/12_rack_budget.md (part 2). -/
def ch12b : List Row :=
  [ ⟨0x7010, 1, 2, 1, .u32, .rw, 2, 0, 1000000, [], 0, .const (30000), false, true⟩,
    ⟨0x7010, 1, 3, 1, .u32, .ro, 1, 0, 4294967295, [], 0, .const (30000), false, false⟩,
    ⟨0x7010, 1, 4, 1, .u32, .ro, 1, 0, 4294967295, [], 0, .const (30000), false, false⟩,
    ⟨0x7010, 1, 5, 4, .u32, .ro, 1, 0, 4294967295, [], 0, .const (0), false, false⟩,
    ⟨0x7010, 1, 9, 1, .u8, .ro, 1, 0, 64, [], 0, .const (0), false, false⟩,
    ⟨0x7010, 1, 10, 1, .enum8, .ro, 1, 1, 0, [0, 1, 2], 0, .const (0), false, false⟩,
    ⟨0x7010, 1, 11, 1, .u32, .ro, 1, 0, 4294967295, [], 0, .const (0), false, false⟩,
    ⟨0x7010, 1, 12, 1, .u16, .rw, 2, 50, 400, [], 0, .const (100), false, false⟩,
    ⟨0x7010, 1, 13, 1, .u16, .rw, 2, 10, 10000, [], 0, .const (100), false, false⟩,
    ⟨0x7011, 1, 0, 1, .blob 2048, .ro, 1, 0, 0, [], 0, .const 0, false, false⟩,
    ⟨0x7040, 64, 1, 1, .enum8, .rw, 2, 1, 0, [0, 1], 0, .const (0), false, true⟩,
    ⟨0x7040, 64, 2, 1, .u16, .rw, 2, 0, 65535, [], 0, .const (0), false, false⟩,
    ⟨0x7040, 64, 3, 1, .u8, .rw, 2, 0, 255, [], 0, .const (0), false, false⟩,
    ⟨0x7040, 64, 4, 1, .blob 24, .rw, 2, 0, 0, [], 0, .const 0, false, false⟩,
    ⟨0x7040, 64, 5, 1, .u32, .ro, 1, 0, 4294967295, [], 0, .const (4294967295), false, false⟩,
    ⟨0x7040, 64, 6, 1, .u32, .ro, 1, 0, 4294967295, [], 0, .const (4294967295), false, false⟩,
    ⟨0x7040, 64, 7, 1, .blob 24, .ro, 1, 0, 0, [], 0, .const 0, false, false⟩,
    ⟨0x7040, 64, 8, 1, .u32, .ro, 1, 0, 4294967295, [], 0, .const (0), false, false⟩,
    ⟨0x7100, 24, 1, 1, .enum8, .ro, 1, 0, 255, [], 0, .const (0), false, false⟩,
    ⟨0x7100, 24, 2, 1, .u8, .rws, 2, 0, 31, [], 0, .index, false, false⟩ ]

/-- Object rows of spec/12_rack_budget.md (part 3). -/
def ch12c : List Row :=
  [ ⟨0x7100, 24, 3, 1, .u64, .ro, 1, 0, 18446744073709551615, [], 0, .const (0), true, false⟩,
    ⟨0x7100, 24, 4, 1, .u8, .ro, 1, 0, 255, [], 0, .const (0), false, false⟩,
    ⟨0x7100, 24, 5, 1, .enum8, .ro, 1, 1, 0, [0, 1, 2, 3], 0, .const (0), true, false⟩,
    ⟨0x7100, 24, 6, 1, .enum8, .wo, 2, 1, 0, [1], 0, .unstated, false, true⟩,
    ⟨0x7100, 24, 7, 1, .u32, .ro, 1, 0, 4294967295, [], 0, .unstated, false, false⟩,
    ⟨0x7100, 24, 8, 1, .u32, .ro, 1, 0, 4294967295, [], 0, .const (0), false, false⟩,
    ⟨0x7100, 24, 9, 1, .u32, .ro, 1, 0, 4294967295, [], 0, .const (0), false, false⟩,
    ⟨0x7100, 24, 10, 1, .u16, .ro, 1, 0, 65535, [], 0, .const (0), false, false⟩,
    ⟨0x7100, 24, 11, 1, .u16, .ro, 1, 0, 65535, [], 0, .unstated, false, false⟩,
    ⟨0x7100, 24, 12, 1, .u32, .ro, 1, 0, 4294967295, [], 0, .const (0), false, false⟩,
    ⟨0x7100, 24, 13, 1, .u32, .ro, 1, 0, 4294967295, [], 0, .const (0), false, false⟩,
    ⟨0x7200, 192, 1, 1, .u16, .ro, 1, 0, 65535, [], 0, .const (0), false, false⟩,
    ⟨0x7200, 192, 2, 1, .u16, .rw, 2, 0, 32767, [65535], 0, .const (65535), false, true⟩,
    ⟨0x7200, 192, 3, 1, .bool, .rw, 2, 0, 1, [], 0, .const (1), false, true⟩,
    ⟨0x7200, 192, 4, 1, .u8, .ro, 1, 0, 63, [255], 0, .const (255), false, false⟩,
    ⟨0x7200, 192, 5, 1, .u16, .ro, 1, 0, 65535, [], 0, .unstated, false, false⟩,
    ⟨0x7200, 192, 6, 1, .enum8, .ro, 1, 0, 255, [], 0, .const (0), false, false⟩,
    ⟨0x7200, 192, 7, 1, .u16, .ro, 1, 0, 65535, [], 0, .const (0), false, false⟩,
    ⟨0x7200, 192, 8, 1, .u16, .ro, 1, 0, 65535, [], 0, .unstated, false, false⟩,
    ⟨0x7200, 192, 9, 1, .u16, .ro, 1, 0, 65535, [], 0, .unstated, false, false⟩ ]

/-- Object rows of spec/12_rack_budget.md (part 4). -/
def ch12d : List Row :=
  [ ⟨0x7200, 192, 10, 1, .enum8, .ro, 1, 0, 255, [], 0, .const (0), false, false⟩,
    ⟨0x7200, 192, 11, 1, .u16, .ro, 1, 0, 65535, [], 0, .unstated, false, false⟩,
    ⟨0x7200, 192, 12, 1, .u64, .ro, 1, 0, 18446744073709551615, [], 0, .const (0), false, false⟩,
    ⟨0x7200, 192, 13, 1, .u64, .ro, 1, 0, 18446744073709551615, [], 0, .const (0), false, false⟩,
    ⟨0x7200, 192, 14, 1, .u64, .ro, 1, 0, 18446744073709551615, [], 0, .const (0), false, false⟩,
    ⟨0x7200, 192, 15, 1, .blob 72, .ro, 1, 0, 0, [], 0, .const 0, false, false⟩,
    ⟨0x7200, 192, 16, 1, .u32, .ro, 1, 0, 4294967295, [], 0, .const (0), false, false⟩ ]

/-- Object rows of spec/12_rack_budget.md. -/
def ch12 : List Row :=
  ch12a ++ ch12b ++ ch12c ++ ch12d

/-- Object rows of spec/13_renxel_fabric.md (part 1). -/
def ch13a : List Row :=
  [ ⟨0x2200, 1, 1, 1, .u16, .rw, 2, 0, 511, [65535], 0, .const (65535), true, false⟩,
    ⟨0x2200, 1, 2, 1, .u16, .ro, 1, 0, 1023, [65535], 0, .const (65535), false, false⟩,
    ⟨0x2200, 1, 3, 1, .enum8, .ro, 1, 1, 0, [0, 1], 0, .unstated, false, false⟩,
    ⟨0x2200, 1, 4, 1, .u64, .ro, 1, 0, 18446744073709551615, [], 0, .unstated, false, false⟩,
    ⟨0x2200, 1, 5, 1, .bool, .ro, 1, 0, 1, [], 0, .const (0), false, false⟩,
    ⟨0x2201, 1, 1, 1, .u8, .rw, 2, 2, 63, [], 0, .const (16), false, false⟩,
    ⟨0x2201, 1, 2, 1, .bool, .rw, 2, 0, 1, [], 0, .const (1), false, false⟩,
    ⟨0x2201, 1, 3, 1, .u64, .ro, 1, 0, 18446744073709551615, [], 0, .const (0), false, false⟩,
    ⟨0x2201, 1, 4, 1, .u32, .ro, 1, 0, 4294967295, [], 0, .const (0), false, false⟩,
    ⟨0x2201, 1, 5, 1, .u32, .ro, 1, 0, 4294967295, [], 0, .const (0), false, false⟩,
    ⟨0x2201, 1, 6, 1, .u32, .ro, 1, 0, 4294967295, [], 0, .const (0), false, false⟩,
    ⟨0x2201, 1, 7, 1, .enum8, .ro, 1, 1, 0, [0, 1, 2, 3], 0, .const (0), false, false⟩,
    ⟨0x2201, 1, 8, 1, .u16, .rw, 2, 1000, 60000, [], 0, .const (3000), false, false⟩,
    ⟨0x2201, 1, 9, 1, .u32, .rw, 2, 600, 86400, [], 0, .const (3600), false, false⟩,
    ⟨0x2210, 1, 0, 1, .blob 2048, .rw, 2, 0, 0, [], 0, .const 255, false, false⟩,
    ⟨0x2211, 1, 0, 1, .blob 1024, .rw, 2, 0, 0, [], 0, .const 0, false, false⟩,
    ⟨0x2212, 1, 1, 1, .enum8, .wo, 2, 1, 0, [1, 2], 0, .unstated, false, false⟩,
    ⟨0x2212, 1, 2, 1, .ft64, .rw, 2, 0, 18446744073709551615, [], 0, .const (0), false, false⟩,
    ⟨0x2212, 1, 3, 1, .u32, .ro, 1, 0, 4294967295, [], 0, .const (0), false, false⟩,
    ⟨0x2213, 1, 0, 1, .blob 2048, .ro, 1, 0, 0, [], 0, .const 255, false, false⟩ ]

/-- Object rows of spec/13_renxel_fabric.md (part 2). -/
def ch13b : List Row :=
  [ ⟨0x2214, 1, 0, 1, .blob 1024, .ro, 1, 0, 0, [], 0, .const 0, false, false⟩,
    ⟨0x2220, 1, 0, 1, .blob 131072, .ro, 1, 0, 0, [], 0, .const 0, false, false⟩,
    ⟨0x2221, 1, 0, 1, .blob 1024, .ro, 1, 0, 0, [], 0, .const 255, false, false⟩,
    ⟨0x2400, 32, 1, 1, .enum8, .rws, 2, 1, 0, [0, 1, 2, 3], 0, .linkProfile, true, false⟩,
    ⟨0x2400, 32, 2, 1, .bool, .rw, 2, 0, 1, [], 0, .const (1), false, false⟩,
    ⟨0x2400, 32, 3, 1, .enum8, .ro, 1, 1, 0, [0, 1, 2, 3, 4, 5, 6], 0, .const (0), false, false⟩,
    ⟨0x2400, 32, 4, 1, .enum8, .ro, 1, 0, 255, [], 0, .const (0), false, false⟩,
    ⟨0x2400, 32, 5, 1, .u16, .ro, 1, 0, 65535, [], 0, .const (65535), false, false⟩,
    ⟨0x2400, 32, 6, 1, .u64, .ro, 1, 0, 18446744073709551615, [], 0, .const (0), false, false⟩,
    ⟨0x2400, 32, 7, 1, .u8, .ro, 1, 0, 31, [], 0, .const (255), false, false⟩,
    ⟨0x2400, 32, 8, 1, .u8, .ro, 1, 0, 255, [], 0, .const (0), false, false⟩,
    ⟨0x2400, 32, 9, 1, .ft64, .ro, 1, 0, 18446744073709551615, [], 0, .const (0), false, false⟩,
    ⟨0x2400, 32, 10, 1, .u32, .ro, 1, 0, 4294967295, [], 0, .const (0), false, false⟩,
    ⟨0x2400, 32, 11, 1, .u64, .ro, 1, 0, 18446744073709551615, [], 0, .const (0), false, false⟩,
    ⟨0x2400, 32, 12, 1, .u64, .ro, 1, 0, 18446744073709551615, [], 0, .const (0), false, false⟩,
    ⟨0x2400, 32, 13, 1, .u32, .ro, 1, 0, 4294967295, [], 0, .const (0), false, false⟩,
    ⟨0x2400, 32, 14, 1, .u32, .ro, 1, 0, 4294967295, [], 0, .const (0), false, false⟩,
    ⟨0x2400, 32, 15, 1, .u32, .ro, 1, 0, 4294967295, [], 0, .const (0), false, false⟩,
    ⟨0x2400, 32, 16, 1, .u32, .ro, 1, 0, 4294967295, [], 0, .const (0), false, false⟩,
    ⟨0x2400, 32, 17, 1, .u32, .ro, 1, 0, 4294967295, [], 0, .unstated, false, false⟩ ]

/-- Object rows of spec/13_renxel_fabric.md (part 3). -/
def ch13c : List Row :=
  [ ⟨0x2400, 32, 18, 1, .bool, .ro, 1, 0, 1, [], 0, .const (0), false, false⟩,
    ⟨0x2400, 32, 19, 1, .u32, .rws, 2, 0, 4294967295, [], 4278190080, .const 0, true, false⟩,
    ⟨0x2400, 32, 20, 1, .u32, .ro, 1, 0, 4294967295, [], 0, .unstated, false, false⟩,
    ⟨0x2400, 32, 21, 1, .u32, .ro, 1, 0, 4294967295, [], 0, .const (0), false, false⟩,
    ⟨0x2500, 32, 1, 1, .u8, .ro, 1, 0, 2, [], 0, .const (0), false, false⟩,
    ⟨0x2500, 32, 2, 2, .u32, .ro, 1, 0, 4294967295, [], 0, .const (0), false, false⟩,
    ⟨0x2500, 32, 4, 2, .u64, .ro, 1, 0, 18446744073709551615, [], 0, .const (0), false, false⟩,
    ⟨0x2500, 32, 6, 1, .u32, .ro, 1, 0, 4294967295, [], 0, .const (0), false, false⟩,
    ⟨0x2500, 32, 7, 2, .i16, .ro, 1, -32768, 32767, [], 0, .unstated, false, false⟩,
    ⟨0x2500, 32, 9, 2, .u32, .ro, 1, 0, 4294967295, [], 0, .unstated, false, false⟩,
    ⟨0x2500, 32, 11, 2, .u32, .ro, 1, 0, 4294967295, [], 0, .unstated, false, false⟩,
    ⟨0x2500, 32, 13, 1, .u16, .ro, 1, 0, 65535, [], 0, .const (0), false, false⟩,
    ⟨0x2500, 32, 14, 1, .enum8, .wo, 2, 1, 0, [1, 2, 3], 0, .unstated, false, false⟩,
    ⟨0x2500, 32, 15, 1, .u32, .ro, 1, 0, 4294967295, [], 0, .const (0), false, false⟩ ]

/-- Object rows of spec/13_renxel_fabric.md. -/
def ch13 : List Row :=
  ch13a ++ ch13b ++ ch13c

/-- Object rows of spec/14_host_dictionary.md (part 1). -/
def ch14a : List Row :=
  [ ⟨0x1000, 1, 1, 1, .str 16, .ro, 1, 0, 0, [], 0, .const 0, false, false⟩,
    ⟨0x1000, 1, 2, 1, .str 16, .ro, 1, 0, 0, [], 0, .const 0, false, false⟩,
    ⟨0x1000, 1, 3, 1, .str 1, .ro, 1, 0, 0, [], 0, .const 0, false, false⟩,
    ⟨0x1000, 1, 4, 1, .u8, .ro, 1, 0, 255, [], 0, .const (1), false, false⟩,
    ⟨0x1000, 1, 5, 1, .u64, .ro, 1, 0, 18446744073709551615, [], 0, .unstated, false, false⟩,
    ⟨0x1000, 1, 6, 1, .str 16, .ro, 1, 0, 0, [], 0, .const 0, false, false⟩,
    ⟨0x1000, 1, 7, 1, .u8, .ro, 1, 0, 255, [], 0, .const (16), false, false⟩,
    ⟨0x1000, 1, 8, 1, .u8, .ro, 1, 0, 255, [], 0, .const (16), false, false⟩,
    ⟨0x1000, 1, 9, 1, .u16, .ro, 1, 0, 65535, [], 0, .unstated, false, false⟩,
    ⟨0x1000, 1, 10, 1, .ft64, .ro, 1, 0, 18446744073709551615, [], 0, .unstated, false, false⟩,
    ⟨0x1000, 1, 11, 1, .blob 6, .ro, 1, 0, 0, [], 0, .const 0, false, false⟩,
    ⟨0x1000, 1, 12, 1, .blob 6, .ro, 1, 0, 0, [], 0, .const 0, false, false⟩,
    ⟨0x1000, 1, 13, 1, .blob 32, .ro, 1, 0, 0, [], 0, .const 0, false, false⟩,
    ⟨0x1010, 1, 0, 1, .blob 256, .rw, 2, 0, 0, [], 0, .const 0, true, false⟩,
    ⟨0x1100, 2, 1, 1, .bool, .rw, 2, 0, 1, [], 0, .const (1), false, false⟩,
    ⟨0x1100, 2, 2, 1, .enum8, .ro, 1, 1, 0, [0, 1, 2], 0, .const (0), false, false⟩,
    ⟨0x1100, 2, 3, 1, .u64, .ro, 1, 0, 18446744073709551615, [], 0, .const (0), false, false⟩,
    ⟨0x1100, 2, 4, 1, .u64, .ro, 1, 0, 18446744073709551615, [], 0, .const (0), false, false⟩,
    ⟨0x1100, 2, 5, 1, .blob 16, .ro, 1, 0, 0, [], 0, .const 0, false, false⟩,
    ⟨0x1100, 2, 6, 1, .u16, .rw, 2, 0, 4094, [], 0, .const (0), true, false⟩ ]

/-- Object rows of spec/14_host_dictionary.md (part 2). -/
def ch14b : List Row :=
  [ ⟨0x1100, 2, 7, 1, .u16, .rw, 2, 1280, 9000, [], 0, .const (1500), true, false⟩,
    ⟨0x1100, 2, 8, 1, .u8, .rw, 2, 0, 255, [], 128, .const (42), true, false⟩,
    ⟨0x1100, 2, 9, 1, .u32, .rw, 2, 0, 4294967295, [], 4278190080, .const (66309), true, false⟩,
    ⟨0x1100, 2, 10, 1, .blob 64, .rw, 2, 0, 0, [], 0, .const 0, true, false⟩,
    ⟨0x1100, 2, 11, 1, .blob 128, .ro, 1, 0, 0, [], 0, .const 0, false, false⟩,
    ⟨0x1100, 2, 12, 1, .blob 16, .ro, 1, 0, 0, [], 0, .const 0, false, false⟩,
    ⟨0x1100, 2, 13, 1, .blob 32, .ro, 1, 0, 0, [], 0, .const 0, false, false⟩,
    ⟨0x1100, 2, 14, 1, .i16, .ro, 1, -32768, 32767, [], 0, .unstated, false, false⟩,
    ⟨0x1200, 1, 1, 1, .u8, .ro, 1, 0, 16, [], 0, .const (0), false, false⟩,
    ⟨0x1200, 1, 2, 1, .u8, .rw, 4, 1, 16, [], 0, .const (16), false, false⟩,
    ⟨0x1200, 1, 3, 1, .blob 1024, .ro, 1, 0, 0, [], 0, .const 0, false, false⟩,
    ⟨0x1200, 1, 4, 1, .u32, .wo, 4, 0, 4294967295, [], 0, .unstated, false, false⟩,
    ⟨0x1200, 1, 5, 1, .u32, .ro, 1, 0, 4294967295, [], 0, .const (0), false, false⟩,
    ⟨0x1200, 1, 6, 1, .u32, .ro, 1, 0, 4294967295, [], 0, .const (0), false, false⟩,
    ⟨0x1200, 1, 7, 1, .u32, .ro, 1, 0, 4294967295, [], 0, .const (0), false, false⟩,
    ⟨0x1200, 1, 8, 1, .u32, .ro, 1, 0, 4294967295, [], 0, .const (0), false, false⟩,
    ⟨0x1200, 1, 9, 1, .u32, .ro, 1, 0, 4294967295, [], 0, .const (0), false, false⟩,
    ⟨0x1200, 1, 10, 1, .u32, .ro, 1, 0, 4294967295, [], 0, .const (0), false, false⟩ ]

/-- Object rows of spec/14_host_dictionary.md. -/
def ch14 : List Row :=
  ch14a ++ ch14b

/-- Object rows of spec/15_message_queues.md (part 1). -/
def ch15a : List Row :=
  [ ⟨0x8000, 1, 1, 1, .u32, .ro, 1, 0, 4294967295, [], 0, .const (131072), false, false⟩,
    ⟨0x8000, 1, 2, 1, .u32, .ro, 1, 0, 4294967295, [], 0, .unstated, false, false⟩,
    ⟨0x8000, 1, 3, 1, .u32, .ro, 1, 0, 4294967295, [], 0, .const (50176), false, false⟩,
    ⟨0x8000, 1, 4, 1, .u32, .ro, 1, 0, 4294967295, [], 0, .unstated, false, false⟩,
    ⟨0x8000, 1, 5, 1, .u32, .rw, 2, 1024, 32768, [], 0, .const (8192), false, false⟩,
    ⟨0x8000, 1, 6, 1, .u64, .ro, 1, 0, 18446744073709551615, [], 0, .const (0), false, false⟩,
    ⟨0x8000, 1, 7, 1, .u32, .ro, 1, 0, 4294967295, [], 0, .const (0), false, false⟩,
    ⟨0x8000, 1, 8, 1, .u32, .ro, 1, 0, 4294967295, [], 0, .const (0), false, false⟩,
    ⟨0x8000, 1, 9, 1, .u32, .ro, 1, 0, 4294967295, [], 0, .const (16711680), false, false⟩,
    ⟨0x8000, 1, 10, 1, .u32, .ro, 1, 0, 4294967295, [], 0, .const (0), false, false⟩,
    ⟨0x8000, 1, 11, 1, .enum8, .rw, 2, 1, 0, [0, 1, 2], 0, .const (2), true, false⟩,
    ⟨0x8200, 512, 1, 1, .enum8, .ro, 1, 1, 0, [0, 1, 2], 0, .unstated, false, false⟩,
    ⟨0x8200, 512, 2, 1, .u32, .ro, 1, 0, 4294967295, [], 0, .const (0), false, false⟩,
    ⟨0x8200, 512, 3, 1, .u32, .ro, 1, 0, 4294967295, [], 0, .const (0), false, false⟩,
    ⟨0x8200, 512, 4, 1, .u32, .rw, 2, 0, 4294967295, [], 0, .queueHigh, true, false⟩,
    ⟨0x8200, 512, 5, 1, .u32, .rw, 2, 0, 4294967295, [], 0, .queueLow, true, false⟩,
    ⟨0x8200, 512, 6, 1, .u32, .rws, 2, 0, 4294967295, [], 0, .queueGuaranteed, false, false⟩,
    ⟨0x8200, 512, 7, 1, .u32, .rws, 2, 0, 4294967295, [], 0, .queueMaximum, false, false⟩,
    ⟨0x8200, 512, 8, 1, .u16, .rw, 2, 0, 9216, [], 0, .const (0), false, false⟩,
    ⟨0x8200, 512, 9, 1, .bool, .rws, 2, 0, 1, [], 0, .queueSpill, false, false⟩ ]

/-- Object rows of spec/15_message_queues.md (part 2). -/
def ch15b : List Row :=
  [ ⟨0x8200, 512, 10, 1, .u32, .rw, 2, 0, 4294967295, [], 0, .queueCreditMask, false, false⟩,
    ⟨0x8200, 512, 11, 1, .enum8, .rw, 2, 1, 0, [0, 1, 2], 0, .queueXoff, false, false⟩,
    ⟨0x8200, 512, 12, 1, .enum8, .wo, 2, 1, 0, [1], 0, .unstated, false, false⟩,
    ⟨0x8200, 512, 13, 1, .u64, .ro, 1, 0, 18446744073709551615, [], 0, .const (0), false, false⟩,
    ⟨0x8200, 512, 14, 1, .u32, .ro, 1, 0, 4294967295, [], 0, .const (0), false, false⟩,
    ⟨0x8200, 512, 15, 1, .u32, .ro, 1, 0, 4294967295, [], 0, .const (0), false, false⟩,
    ⟨0x8200, 512, 16, 1, .u32, .ro, 1, 0, 4294967295, [], 0, .const (0), false, false⟩,
    ⟨0x8200, 512, 17, 1, .u32, .ro, 1, 0, 4294967295, [], 0, .const (0), false, false⟩,
    ⟨0x8200, 512, 18, 1, .u32, .ro, 1, 0, 4294967295, [], 0, .const (0), false, false⟩ ]

/-- Object rows of spec/15_message_queues.md. -/
def ch15 : List Row :=
  ch15a ++ ch15b

/-- Object rows of spec/16_event_recorder.md (part 1). -/
def ch16a : List Row :=
  [ ⟨0x8400, 1, 1, 1, .u32, .ro, 1, 0, 16384, [], 0, .const (0), false, false⟩,
    ⟨0x8400, 1, 2, 1, .u32, .ro, 1, 0, 4294967295, [], 0, .const (0), false, false⟩,
    ⟨0x8400, 1, 3, 1, .u32, .ro, 1, 0, 131072, [], 0, .const (0), false, false⟩,
    ⟨0x8400, 1, 4, 1, .u32, .ro, 1, 0, 4294967295, [], 0, .const (0), true, false⟩,
    ⟨0x8400, 1, 5, 1, .u32, .ro, 1, 0, 4294967295, [], 0, .const (0), true, false⟩,
    ⟨0x8400, 1, 6, 1, .u16, .rw, 2, 10, 60000, [], 0, .const (1000), true, false⟩,
    ⟨0x8400, 1, 7, 1, .u8, .ro, 1, 0, 64, [], 0, .const (0), false, false⟩,
    ⟨0x8400, 1, 8, 1, .u8, .ro, 1, 0, 64, [], 0, .const (0), false, false⟩,
    ⟨0x8400, 1, 9, 1, .u32, .ro, 1, 0, 4294967295, [], 0, .const (0), false, false⟩,
    ⟨0x8400, 1, 10, 1, .u32, .ro, 1, 0, 4294967295, [], 0, .const (0), false, false⟩,
    ⟨0x8400, 1, 11, 1, .u32, .ro, 1, 0, 4294967295, [], 0, .const (0), false, false⟩,
    ⟨0x8400, 1, 12, 1, .enum8, .ro, 1, 1, 0, [0, 1, 2, 3, 4, 5], 0, .const (0), false, false⟩,
    ⟨0x8400, 1, 13, 1, .enum8, .wo, 6, 1, 0, [1], 0, .unstated, false, false⟩,
    ⟨0x8400, 1, 14, 1, .u32, .ro, 1, 0, 4294967295, [], 0, .const (0), true, false⟩,
    ⟨0x8410, 64, 1, 1, .bool, .rw, 2, 0, 1, [], 0, .trigEnable, true, false⟩,
    ⟨0x8410, 64, 2, 1, .enum8, .rws, 2, 1, 0, [0, 1], 0, .const (1), false, false⟩,
    ⟨0x8410, 64, 3, 1, .u16, .rws, 2, 0, 65535, [], 0, .const (0), false, false⟩,
    ⟨0x8410, 64, 4, 1, .u16, .rws, 2, 0, 65535, [], 0, .trigMask, false, false⟩,
    ⟨0x8410, 64, 5, 1, .blob 112, .rws, 2, 0, 0, [], 0, .const 0, false, false⟩,
    ⟨0x8410, 64, 6, 1, .u8, .rws, 2, 0, 28, [], 0, .trigSnapshots, false, false⟩ ]

/-- Object rows of spec/16_event_recorder.md (part 2). -/
def ch16b : List Row :=
  [ ⟨0x8410, 64, 7, 1, .bool, .rw, 2, 0, 1, [], 0, .trigEnableFirst, false, false⟩,
    ⟨0x8410, 64, 8, 1, .u32, .ro, 1, 0, 4294967295, [], 0, .const (0), false, false⟩,
    ⟨0x8500, 1, 1, 1, .u32, .rw, 1, 0, 4294967295, [], 0, .const (0), false, false⟩,
    ⟨0x8500, 1, 2, 1, .blob 8192, .ro, 1, 0, 0, [], 0, .const 0, false, false⟩,
    ⟨0x8500, 1, 3, 1, .blob 256, .ro, 1, 0, 0, [], 0, .const 0, false, false⟩ ]

/-- Object rows of spec/16_event_recorder.md. -/
def ch16 : List Row :=
  ch16a ++ ch16b

/-- Object rows of spec/17_active_standby.md (part 1). -/
def ch17a : List Row :=
  [ ⟨0x9000, 1, 1, 1, .bool, .ro, 1, 0, 1, [], 0, .const (0), false, false⟩,
    ⟨0x9000, 1, 2, 1, .u16, .ro, 1, 0, 65535, [], 0, .const (0), false, false⟩,
    ⟨0x9000, 1, 3, 1, .enum8, .ro, 1, 1, 0, [0, 1, 2, 3, 4, 5, 6, 7, 8], 0, .const (0), false, false⟩,
    ⟨0x9000, 1, 4, 1, .u64, .ro, 1, 0, 18446744073709551615, [], 0, .const (0), false, false⟩,
    ⟨0x9000, 1, 5, 1, .u32, .ro, 1, 0, 4294967295, [], 0, .const (0), true, false⟩,
    ⟨0x9000, 1, 6, 1, .u32, .ro, 1, 0, 4294967295, [], 0, .const (0), true, false⟩,
    ⟨0x9000, 1, 7, 1, .ft64, .ro, 1, 0, 18446744073709551615, [], 0, .const (0), false, false⟩,
    ⟨0x9000, 1, 8, 1, .u32, .ro, 1, 0, 4294967295, [], 0, .const (0), false, false⟩,
    ⟨0x9010, 1, 1, 1, .q15, .rw, 2, 33, 6554, [], 0, .const (655), false, true⟩,
    ⟨0x9010, 1, 2, 1, .u32, .rw, 2, 100, 60000, [], 0, .const (6000), false, true⟩,
    ⟨0x9010, 1, 3, 1, .u16, .rw, 2, 1, 65535, [], 0, .const (100), false, true⟩,
    ⟨0x9010, 1, 4, 1, .u64, .ro, 1, 0, 18446744073709551615, [], 0, .const (0), false, false⟩,
    ⟨0x9010, 1, 5, 1, .u32, .ro, 1, 0, 4294967295, [], 0, .const (0), false, false⟩,
    ⟨0x9010, 1, 6, 1, .u64, .ro, 1, 0, 18446744073709551615, [], 0, .const (0), false, false⟩,
    ⟨0x9010, 1, 7, 1, .u8, .ro, 1, 0, 255, [], 0, .const (0), false, false⟩,
    ⟨0x9010, 1, 8, 1, .u64, .ro, 1, 0, 18446744073709551615, [], 0, .const (0), false, false⟩,
    ⟨0x9010, 1, 9, 1, .u16, .ro, 1, 0, 65535, [], 0, .const (0), false, false⟩,
    ⟨0x9010, 1, 10, 1, .u16, .rw, 2, 1000, 60000, [], 0, .const (1000), false, true⟩,
    ⟨0x9020, 1, 1, 1, .u16, .rw, 2, 5, 1000, [], 0, .const (20), false, true⟩,
    ⟨0x9020, 1, 2, 1, .u32, .ro, 1, 0, 4294967295, [], 0, .const (0), false, false⟩ ]

/-- Object rows of spec/17_active_standby.md (part 2). -/
def ch17b : List Row :=
  [ ⟨0x9020, 1, 3, 1, .u32, .ro, 1, 0, 4294967295, [], 0, .const (0), false, false⟩,
    ⟨0x9020, 1, 4, 1, .u32, .ro, 1, 0, 4294967295, [], 0, .const (0), false, false⟩,
    ⟨0x9030, 1, 1, 1, .u16, .rw, 2, 1, 100, [], 0, .const (10), false, true⟩,
    ⟨0x9030, 1, 2, 1, .ft64, .ro, 1, 0, 18446744073709551615, [], 0, .const (0), false, false⟩,
    ⟨0x9030, 1, 3, 1, .u32, .ro, 1, 0, 4294967295, [], 0, .const (0), false, false⟩,
    ⟨0x9030, 1, 4, 1, .u32, .ro, 1, 0, 4294967295, [], 0, .const (0), false, false⟩,
    ⟨0x9030, 1, 5, 1, .u32, .ro, 1, 0, 4294967295, [], 0, .const (0), false, false⟩,
    ⟨0x9030, 1, 6, 1, .u8, .ro, 1, 0, 3, [], 0, .const (0), false, false⟩,
    ⟨0x9030, 1, 7, 1, .enum8, .wo, 2, 1, 0, [1], 0, .unstated, false, false⟩,
    ⟨0x9100, 1, 1, 1, .blob 64, .ro, 1, 0, 0, [], 0, .const 0, false, false⟩,
    ⟨0x9100, 1, 2, 1, .blob 64, .ro, 1, 0, 0, [], 0, .const 0, false, false⟩,
    ⟨0x9100, 1, 3, 1, .u32, .ro, 1, 0, 4294967295, [], 0, .const (0), false, false⟩,
    ⟨0x9100, 1, 4, 1, .u32, .ro, 1, 0, 4294967295, [], 0, .const (0), false, false⟩ ]

/-- Object rows of spec/17_active_standby.md. -/
def ch17 : List Row :=
  ch17a ++ ch17b

/-- Object rows of spec/18_security_update.md (part 1). -/
def ch18a : List Row :=
  [ ⟨0xA000, 1, 1, 1, .enum8, .ro, 1, 1, 0, [0, 1], 0, .const (0), true, false⟩,
    ⟨0xA000, 1, 2, 1, .enum8, .wo, 4, 1, 0, [1, 2], 0, .unstated, false, false⟩,
    ⟨0xA000, 1, 3, 1, .enum8, .ro, 1, 1, 0, [0, 1, 2], 0, .const (0), false, false⟩,
    ⟨0xA000, 1, 4, 1, .enum8, .wo, 6, 1, 0, [1], 0, .unstated, false, false⟩,
    ⟨0xA000, 1, 5, 1, .u8, .ro, 1, 0, 255, [], 0, .const (0), false, false⟩,
    ⟨0xA000, 1, 6, 1, .enum8, .wo, 4, 1, 0, [1], 0, .unstated, false, false⟩,
    ⟨0xA000, 1, 7, 1, .u32, .ro, 1, 0, 4294967295, [], 0, .const (0), true, false⟩,
    ⟨0xA000, 1, 8, 1, .u8, .rw, 4, 0, 255, [], 0, .const (170), true, false⟩,
    ⟨0xA000, 1, 9, 1, .u8, .ro, 1, 0, 255, [], 0, .const (0), false, false⟩,
    ⟨0xA010, 1, 1, 1, .blob 2048, .rw, 4, 0, 0, [], 0, .const 0, false, false⟩,
    ⟨0xA010, 1, 2, 1, .blob 2048, .ro, 1, 0, 0, [], 0, .const 0, false, false⟩,
    ⟨0xA010, 1, 3, 1, .blob 2048, .ro, 1, 0, 0, [], 0, .const 0, false, false⟩,
    ⟨0xA020, 1, 1, 1, .blob 8192, .rw, 4, 0, 0, [], 0, .const 0, true, false⟩,
    ⟨0xA020, 1, 2, 1, .blob 8192, .rw, 4, 0, 0, [], 0, .const 0, false, false⟩,
    ⟨0xA020, 1, 3, 1, .blob 2048, .rw, 4, 0, 0, [], 0, .const 0, false, false⟩,
    ⟨0xA020, 1, 4, 1, .blob 8192, .rw, 4, 0, 0, [], 0, .const 0, false, false⟩,
    ⟨0xA100, 1, 1, 1, .blob 32, .rw, 1, 0, 0, [], 0, .const 0, false, false⟩,
    ⟨0xA100, 1, 2, 1, .u8, .rw, 1, 0, 255, [], 0, .const (63), false, false⟩,
    ⟨0xA100, 1, 3, 1, .blob 720, .ro, 1, 0, 0, [], 0, .const 0, false, false⟩,
    ⟨0xA100, 1, 4, 1, .blob 256, .ro, 1, 0, 0, [], 0, .const 0, false, false⟩ ]

/-- Object rows of spec/18_security_update.md (part 2). -/
def ch18b : List Row :=
  [ ⟨0xA100, 1, 5, 1, .blob 262144, .ro, 1, 0, 0, [], 0, .const 0, false, false⟩,
    ⟨0xA200, 1, 1, 1, .u32, .ro, 1, 0, 4294967295, [], 0, .const (0), false, false⟩,
    ⟨0xA200, 1, 2, 1, .blob 12, .ro, 1, 0, 0, [], 0, .const 0, false, false⟩,
    ⟨0xA200, 1, 3, 1, .u16, .wo, 4, 0, 65535, [], 0, .unstated, false, false⟩,
    ⟨0xA200, 1, 4, 1, .enum8, .wo, 6, 1, 0, [0, 1], 0, .unstated, false, false⟩,
    ⟨0xA200, 1, 5, 1, .blob 8, .ro, 1, 0, 0, [], 0, .const 0, false, false⟩,
    ⟨0xA210, 4, 1, 1, .u16, .rw, 6, 0, 65535, [], 0, .const (0), false, false⟩,
    ⟨0xA210, 4, 2, 1, .blob 100663296, .wo, 6, 0, 0, [], 0, .const 0, false, false⟩,
    ⟨0xA210, 4, 3, 1, .enum8, .ro, 1, 1, 0, [0, 1, 2, 3, 4], 0, .const (0), false, false⟩,
    ⟨0xA210, 4, 4, 1, .u32, .ro, 1, 0, 4294967295, [], 0, .const (0), false, false⟩,
    ⟨0xA400, 4, 1, 1, .enum8, .ro, 1, 1, 0, [0, 1, 2], 0, .const (0), false, false⟩,
    ⟨0xA400, 4, 2, 1, .blob 32, .wo, 4, 0, 0, [], 0, .const 0, false, false⟩,
    ⟨0xA400, 4, 3, 1, .blob 3, .ro, 1, 0, 0, [], 0, .const 0, false, false⟩,
    ⟨0xA400, 4, 4, 1, .ft64, .rw, 4, 0, 18446744073709551615, [], 0, .const (0), false, false⟩,
    ⟨0xA400, 4, 5, 1, .enum8, .wo, 4, 1, 0, [1, 2], 0, .unstated, false, false⟩ ]

/-- Object rows of spec/18_security_update.md. -/
def ch18 : List Row :=
  ch18a ++ ch18b

/-- Object rows of spec/19_detectors_injection.md (part 1). -/
def ch19a : List Row :=
  [ ⟨0xF400, 2816, 1, 1, .enum8, .rw, 2, 1, 0, [0, 1, 2], 0, .const (0), false, false⟩,
    ⟨0xF400, 2816, 2, 1, .u32, .rws, 2, 0, 4294967295, [], 0, .const (4294967295), false, false⟩,
    ⟨0xF400, 2816, 3, 1, .blob 10, .rws, 2, 0, 0, [], 0, .const 0, false, false⟩,
    ⟨0xF400, 2816, 4, 1, .enum8, .ro, 1, 1, 0, [0, 1], 0, .unstated, false, false⟩,
    ⟨0xF400, 2816, 5, 1, .u32, .ro, 1, 0, 4294967295, [], 0, .const (0), false, false⟩,
    ⟨0xF400, 2816, 6, 1, .u32, .rws, 2, 1000, 60000000, [], 0, .const (100000), false, false⟩,
    ⟨0xF400, 2816, 7, 1, .ft64, .rws, 2, 0, 18446744073709551615, [], 0, .const (0), false, false⟩,
    ⟨0xF400, 2816, 8, 1, .bool, .ro, 1, 0, 1, [], 0, .unstated, false, false⟩,
    ⟨0xFF00, 1, 1, 1, .u8, .ro, 1, 0, 16, [], 0, .const (0), false, false⟩,
    ⟨0xFF00, 1, 2, 1, .blob 64, .ro, 1, 0, 0, [], 0, .const 0, false, false⟩,
    ⟨0xFF00, 1, 3, 1, .enum8, .wo, 2, 1, 0, [1], 0, .unstated, false, false⟩,
    ⟨0xFF00, 1, 4, 1, .u32, .ro, 1, 0, 4294967295, [], 0, .const (0), false, false⟩,
    ⟨0xFF10, 1, 0, 1, .blob 4096, .ro, 1, 0, 0, [], 0, .const 0, false, false⟩ ]

/-- Object rows of spec/19_detectors_injection.md. -/
def ch19 : List Row :=
  ch19a

/-- Object rows of spec/20_legacy_step_table.md (part 1). -/
def ch20a : List Row :=
  [ ⟨0xB000, 1, 1, 1, .bool, .rw, 2, 0, 1, [], 0, .const (0), false, true⟩,
    ⟨0xB000, 1, 2, 1, .enum8, .ro, 1, 1, 0, [0, 1, 2, 3], 0, .const (0), false, false⟩,
    ⟨0xB000, 1, 3, 1, .u8, .ro, 1, 0, 16, [], 0, .const (0), false, false⟩,
    ⟨0xB000, 1, 4, 1, .ft64, .ro, 1, 0, 18446744073709551615, [], 0, .const (0), false, false⟩,
    ⟨0xB000, 1, 5, 1, .u8, .ro, 1, 0, 15, [255], 0, .const (255), false, false⟩,
    ⟨0xB000, 1, 6, 1, .u32, .ro, 1, 0, 4294967295, [], 0, .const (0), false, false⟩,
    ⟨0xB000, 1, 7, 1, .u32, .ro, 1, 0, 4294967295, [], 0, .const (0), false, false⟩,
    ⟨0xB001, 1, 1, 16, .u16, .rw, 2, 0, 65535, [], 61440, .const (2048), false, true⟩,
    ⟨0xB002, 1, 0, 1, .blob 32, .ro, 1, 0, 0, [], 0, .const 0, false, false⟩ ]

/-- Object rows of spec/20_legacy_step_table.md. -/
def ch20 : List Row :=
  ch20a

end Sys2Proof.Machine.Dict
end

