-- ==== Sys2Proof/Machine/Dict.lean ====
section
/-! DEFINITION. Looking up the object dictionary: the row of a key, its default, its type's width (spec/14, R380 to
R382). -/

namespace Sys2Proof.Machine.Dict

/-- The key of object index.sub. -/
def key (index sub : Nat) : Nat := index * 256 + sub

/-- All rows whose chapter owns the index (Table 14-6). -/
def rowsOf (index : Nat) : List Row :=
  if index < 0x2000 then ch14
  else if index < 0x2200 then ch04
  else if index < 0x2300 then ch13
  else if index < 0x2400 then ch04
  else if index < 0x3000 then ch13
  else if index < 0x4000 then ch05
  else if index < 0x4800 then ch06
  else if index < 0x5000 then ch07
  else if index < 0x5300 then ch08
  else if index < 0x6000 then ch09
  else if index < 0x6200 then ch10
  else if index < 0x7000 then ch11
  else if index < 0x8000 then ch12
  else if index < 0x8400 then ch15
  else if index < 0x9000 then ch16
  else if index < 0xA000 then ch17
  else if 0xA300 ≤ index && index < 0xA400 then ch03
  else if index < 0xB000 then ch18
  else if index < 0xF100 then ch20
  else if index < 0xF160 then ch02
  else if index < 0xF400 then ch03
  else ch19

/-- Causes with a stimulus point (Table 19-1). -/
def stimulus : List Nat :=
  [0x0101, 0x0102, 0x0104, 0x0105, 0x0106, 0x0107, 0x0108, 0x0109, 0x010A, 0x010B, 0x010C, 0x010D, 0x010E, 0x010F, 0x0111,
   0x011B, 0x01E8, 0x01E9, 0x01EA, 0x01EB, 0x01ED, 0x01EE, 0x0201, 0x0203, 0x0204, 0x020C, 0x0301, 0x0303, 0x0305, 0x0307,
   0x0309, 0x030B, 0x0403, 0x0404, 0x0406, 0x0407, 0x0408, 0x0409, 0x040A, 0x0410, 0x0412, 0x0501, 0x0506, 0x0508, 0x0602,
   0x0607, 0x060A, 0x0622, 0x0627, 0x0715, 0x0801, 0x0803, 0x0901, 0x0905, 0x0908, 0x0A04, 0x0B08]

/-- Causes with a report point (Table 19-1). -/
def report : List Nat :=
  [0x0117, 0x01E1, 0x01E2, 0x01E3, 0x01E4, 0x01E5, 0x01E6, 0x01EC, 0x01EF, 0x01F0, 0x01F1, 0x01F2, 0x0221, 0x0222, 0x0224,
   0x0225, 0x0226, 0x0227, 0x0304, 0x0306, 0x0405, 0x040C, 0x040D, 0x040E, 0x0411, 0x0413, 0x0414, 0x0416, 0x0425, 0x0426,
   0x042E, 0x0503, 0x050D, 0x050F, 0x0510, 0x0603, 0x0605, 0x0609, 0x060B, 0x060C, 0x060D, 0x060F, 0x0610, 0x0611, 0x0612,
   0x0623, 0x0626, 0x0628, 0x0629, 0x062A, 0x062B, 0x062E, 0x062F, 0x0630, 0x0631, 0x070F, 0x0710, 0x0713, 0x0809, 0x080E,
   0x080F, 0x0810, 0x0811, 0x0861, 0x0862, 0x0863, 0x0864, 0x0865, 0x0869, 0x086A, 0x086B, 0x086F, 0x0870, 0x0872, 0x0903,
   0x0907, 0x0909, 0x0921, 0x0924, 0x0A0A, 0x0A0C, 0x0A0D, 0x0A0E, 0x0A0F, 0x0A10, 0x0A11, 0x0A12]

/-- An injection point exists for the causes of Table 19-1 only (R471). -/
def injectionIndex (index : Nat) : Bool :=
  !(decide (0xF400 ≤ index) && decide (index < 0xFF00)) ||
  (let code := (index / 256 - 0xF3) * 256 + index % 256
   stimulus.contains code || report.contains code)

/-- The rows of an index. -/
def rowsAt (index : Nat) : List Row :=
  (rowsOf index).filter (fun r => decide (r.base ≤ index) && decide (index < r.base + r.cnt))

/-- The row that an object table gives for an object. -/
def tableRow? (k : Nat) : Option Row :=
  let index := k / 256
  let sub := k % 256
  if injectionIndex index then
    (rowsOf index).find? (fun r =>
      decide (r.base ≤ index) && decide (index < r.base + r.cnt) &&
      decide (r.sub ≤ sub) && decide (sub < r.sub + r.subs))
  else none

/-- Highest sub-index of a record object; 0 where the index is no record. -/
def highestSub (index : Nat) : Nat := ((rowsAt index).map (fun r => r.sub + r.subs - 1)).foldl max 0

/-- Sub-index 0 of a record: a U8, RO, with the highest sub-index present (R2, R381). -/
def recordRow (index : Nat) : Row :=
  { base := index, cnt := 1, sub := 0, subs := 1, ty := .u8, acc := .ro, roles := 1, lo := 0, hi := 255, allow := [], resv := 0
    dflt := .const (highestSub index), mram := false, mirrored := false }

/-- The row that gives an object, if the object exists. -/
def row? (k : Nat) : Option Row :=
  match tableRow? k with
  | some r => some r
  | none => if k % 256 = 0 ∧ highestSub (k / 256) ≠ 0 ∧ injectionIndex (k / 256) then some (recordRow (k / 256)) else none

/-- Full scale of a sense channel in milli-units (Table 5-2). -/
def chanFullScale (c : Nat) : Int :=
  if c < 8 then 200000 else if c < 20 then 150000 else if c < 40 then 200000
  else if c = 43 ∨ c = 44 ∨ c = 45 then 2000000 else 1000000

/-- Function of a sense channel (Table 5-2; codes of 0x3200+c.01). -/
def chanFunction (c : Nat) : Int :=
  if c < 20 then 1 else if c < 40 then 2
  else if c = 40 ∨ c = 46 then 3 else if c = 41 then 4 else if c = 42 then 5
  else if c = 43 then 6 else if c = 44 then 7 else if c = 45 then 8 else 0

/-- High watermark, low watermark, guarantee and maximum of a queue (Table 15-1). -/
def queueLimits (q : Nat) : Int × Int × Int × Int :=
  if q < 32 then (64, 32, 128, 128)
  else if q = 32 then (2048, 1024, 4096, 4096)
  else if q = 33 then (2048, 1024, 1024, 4096)
  else if q = 34 then (16384, 8192, 8192, 32768)
  else if q < 64 then (0, 0, 0, 0)
  else if q < 80 then (512, 256, 1024, 2048)
  else if q < 176 then (256, 128, 128, 512)
  else if q < 178 then (4096, 2048, 2048, 8192)
  else (0, 0, 0, 0)

/-- Links whose credits a queue withholds (Table 15-1). -/
def queueCreditMask (q : Nat) : Int :=
  if q < 32 then (2 ^ q : Nat)
  else if q = 32 then 0xFF000000
  else if q = 33 then 0xFF000000
  else if q = 34 then 0x03000000
  else if 80 ≤ q ∧ q < 176 then 0xFF000000
  else 0

/-- The default a row gives at index offset i (DESIGN CHOICE, notes/assumptions/2). -/
def dfltAt (d : Dflt) (i : Nat) : Int :=
  match d with
  | .const v => v
  | .perConv f s => if i = 0 then f else s
  | .unstated => 0
  | .index => i
  | .indexPlus n => i + n
  | .chanFunction => chanFunction i
  | .chanFullScale => chanFullScale i
  | .chanUnit => if i < 20 then 2 else if i < 40 then 3 else if i = 43 ∨ i = 44 ∨ i = 45 then 2 else 1
  | .chanFilter => if 20 ≤ i ∧ i < 40 then 4 else 3
  | .chanRatio =>
    if i < 20 then 20 else if i < 40 then 256 else if i = 42 then 64
    else if i = 43 ∨ i = 44 ∨ i = 45 then 20 else 32
  | .chanAction => if i = 40 ∨ i = 46 then 2 else if i = 43 ∨ i = 44 then 4 else if i = 41 then 5 else 0
  | .chanPartner => if i = 40 then 46 else if i = 46 then 40 else 255
  | .linkProfile => if i < 24 then 1 else if i < 26 then 2 else 3
  | .queueHigh => (queueLimits i).1
  | .queueLow => (queueLimits i).2.1
  | .queueGuaranteed => (queueLimits i).2.2.1
  | .queueMaximum => (queueLimits i).2.2.2
  | .queueSpill => if i = 33 ∨ i = 34 then 1 else 0
  | .queueCreditMask => queueCreditMask i
  | .queueXoff => if i = 32 then 1 else 0
  | .trigEnable => if i = 0 ∨ i = 63 then 1 else 0
  | .trigMask => if i = 0 then 2 else if i = 63 then 0xFFFF else 0
  | .trigSnapshots => if i = 0 then 11 else 0
  | .trigEnableFirst => if i = 0 then 1 else 0

/-- The value an object holds while nothing has been written to it: its default (spec/14, R381)
(DESIGN CHOICE, notes/assumptions/2). -/
def default (k : Nat) : Int :=
  match row? k with
  | some r => dfltAt r.dflt (k / 256 - r.base)
  | none => 0

/-- Is the object kept in MRAM (flag bit 0 of R381)? -/
def keptInMram (k : Nat) : Bool :=
  match row? k with
  | some r => r.mram
  | none => false

/-- Bytes of a value on the wire (Table 14-5). -/
def Ty.bytes : Ty → Nat
  | .bool | .u8 | .enum8 => 1
  | .u16 | .i16 | .q15 => 2
  | .u32 | .i32 => 4
  | .u64 | .i64 | .ft64 => 8
  | .str n | .blob n => n

/-- Is the type signed (two's complement on the wire)? -/
def Ty.signed : Ty → Bool
  | .i16 | .i32 | .i64 | .q15 => true
  | _ => false

/-- Type code of DESCRIBE and READ (Table 14-5). -/
def Ty.code : Ty → Nat
  | .bool => 1 | .u8 => 2 | .u16 => 3 | .u32 => 4 | .u64 => 5 | .i16 => 6 | .i32 => 7 | .i64 => 8 | .q15 => 9
  | .ft64 => 12 | .enum8 => 13 | .str _ => 14 | .blob _ => 15

/-- Is it a byte-string type? -/
def Ty.isBytes : Ty → Bool
  | .str _ | .blob _ => true
  | _ => false

/-- Access code of DESCRIBE (R381). -/
def Access.code : Access → Nat
  | .ro => 1 | .rw => 2 | .wo => 3 | .rws => 4 | .rwc => 5

end Sys2Proof.Machine.Dict
end

