-- ==== Sys2Proof/Machine/Keys.lean ====
section
/-! DEFINITION. A name for the key of every dictionary object: key = index * 256 + sub (an array object takes its
index).  The object tables of spec/02 to spec/20 give index, sub and name. -/

namespace Sys2Proof.Machine.K

/-! ### spec/02_package_pins_power.md -/

abbrev supplyV12 : Nat := 0xF10001
abbrev supplyVAUX : Nat := 0xF10002
abbrev supplyVHOLD : Nat := 0xF10003
abbrev supplyInputPower : Nat := 0xF10004
abbrev supplyHoldEnergy : Nat := 0xF10005
abbrev supplyMainDips : Nat := 0xF10006
abbrev supplyMainLosses : Nat := 0xF10007
abbrev supplyHoldCapacitance : Nat := 0xF10100
abbrev powerTilePowerMap : Nat := 0xF11001
abbrev powerDomainPowerMap : Nat := 0xF11002
abbrev trimTrim (j : Nat) : Nat := 0xF12001 + j
abbrev trimTrimLog : Nat := 0xF12100
abbrev trimTrimSteps : Nat := 0xF12200
abbrev thermalJunctionMaximum : Nat := 0xF13001
abbrev thermalCoolantInlet : Nat := 0xF13002
abbrev thermalCoolantOutlet : Nat := 0xF13003
abbrev thermalFlowEstimate : Nat := 0xF13004
abbrev clockPLLLockMap : Nat := 0xF14001
abbrev clockSDMRole : Nat := 0xF14002
abbrev lineLineState : Nat := 0xF15000

/-! ### spec/03_start_up_reset_recovery.md -/

abbrev moduleModuleState : Nat := 0xF16001
abbrev moduleReadinessGates : Nat := 0xF16002
abbrev moduleLastResetKind : Nat := 0xF16003
abbrev moduleLastResetCause : Nat := 0xF16004
abbrev moduleLastResetTime : Nat := 0xF16005
abbrev modulePowerCycleCount : Nat := 0xF16006
abbrev moduleOperatingHours : Nat := 0xF16007
abbrev moduleStartTime : Nat := 0xF16008
abbrev moduleResetCommand : Nat := 0xF16101
abbrev moduleShutdownCommand : Nat := 0xF16102
abbrev moduleShutdownProgress : Nat := 0xF16103
abbrev moduleSlotBDefer : Nat := 0xF16200
abbrev bankRunningBank : Nat := 0xA30001
abbrev bankPreferredBank : Nat := 0xA30002
abbrev bankBankAState : Nat := 0xA30003
abbrev bankBankBState : Nat := 0xA30004
abbrev bankBankAFailedStarts : Nat := 0xA30005
abbrev bankBankBFailedStarts : Nat := 0xA30006
abbrev bankBankAVersion : Nat := 0xA30007
abbrev bankBankBVersion : Nat := 0xA30008
abbrev bankReverts : Nat := 0xA30009
abbrev bankBankRetry : Nat := 0xA3000A

/-! ### spec/04_fabric_time_and_cloves.md -/

abbrev timeTimeState : Nat := 0x200001
abbrev timeFabricTime : Nat := 0x200002
abbrev timeErrorBound : Nat := 0x200003
abbrev timeTAITraceable : Nat := 0x200004
abbrev timeUTCOffset : Nat := 0x200005
abbrev timeEpochOffsetE : Nat := 0x200006
abbrev timeFrequencySteer : Nat := 0x200007
abbrev timeEpochCorrections : Nat := 0x200008
abbrev timeTimePriority : Nat := 0x201001
abbrev timeMasterNode : Nat := 0x201002
abbrev timeStepsRemoved : Nat := 0x201003
abbrev timeUpstreamLink : Nat := 0x201004
abbrev timePinnedUpstream : Nat := 0x201005
abbrev timeOffsetFromUpstream : Nat := 0x201006
abbrev timeQuality : Nat := 0x201007
abbrev timeLinkAsymmetry (j : Nat) : Nat := 0x202001 + j
abbrev timeLinkDelay (j : Nat) : Nat := 0x202101 + j
abbrev ptpPTPPorts : Nat := 0x210001
abbrev ptpPTPDomain : Nat := 0x210002
abbrev ptpDelayMechanism : Nat := 0x210003
abbrev ptpPTPPortState : Nat := 0x210004
abbrev ptpOffsetFromGrandmaster : Nat := 0x210005
abbrev ptpPPSSource : Nat := 0x210006
abbrev cloveLateLimit : Nat := 0x230001
abbrev cloveHorizon : Nat := 0x230002
abbrev cloveOriginatingKeyId : Nat := 0x230003
abbrev cloveSequenceCounter : Nat := 0x230004
abbrev cloveGroupSubscriptions : Nat := 0x231000
abbrev cloveCloveInject : Nat := 0x232000
abbrev cloveCloveCounters (j : Nat) : Nat := 0x233001 + j
abbrev cloveScheduleView : Nat := 0x234000

/-! ### spec/05_power_stage_control.md -/

abbrev busVoltageTarget : Nat := 0x300001
abbrev busSlewRate : Nat := 0x300002
abbrev busReferenceInForce : Nat := 0x300003
abbrev busTargetSequence : Nat := 0x300004
abbrev busAtTarget : Nat := 0x300005
abbrev busTruncationThreshold : Nat := 0x300006
abbrev busTruncationRelease : Nat := 0x300007
abbrev busOverVoltageTrip : Nat := 0x300008
abbrev busUnderVoltageReport : Nat := 0x300009
abbrev busTruncations : Nat := 0x30000A
abbrev busOverVoltageTrips : Nat := 0x30000B
abbrev busOverVoltageLatch : Nat := 0x30000C
abbrev feedFeedStopLow : Nat := 0x300301
abbrev feedFeedStopHigh : Nat := 0x300302
abbrev feedFeedRestartDelay : Nat := 0x300303
abbrev faultFaultInputMask : Nat := 0x330000
abbrev faultFaultInputLevels : Nat := 0x330100
abbrev convState (i : Nat) : Nat := 0x300101 + 256 * i
abbrev convEnable (i : Nat) : Nat := 0x300102 + 256 * i
abbrev convCarrierPeriod (i : Nat) : Nat := 0x300103 + 256 * i
abbrev convDither (i : Nat) : Nat := 0x300104 + 256 * i
abbrev convUpdateMode (i : Nat) : Nat := 0x300105 + 256 * i
abbrev convSoftStartRate (i : Nat) : Nat := 0x300106 + 256 * i
abbrev convContinuousRating (i : Nat) : Nat := 0x300107 + 256 * i
abbrev convShortTimeRating (i : Nat) : Nat := 0x300108 + 256 * i
abbrev convShortTimeDuration (i : Nat) : Nat := 0x300109 + 256 * i
abbrev convShortCircuitThreshold (i : Nat) : Nat := 0x30010A + 256 * i
abbrev convOverloadAccumulator (i : Nat) : Nat := 0x30010B + 256 * i
abbrev convCurrentLimitInForce (i : Nat) : Nat := 0x30010C + 256 * i
abbrev convPhasesInService (i : Nat) : Nat := 0x30010D + 256 * i
abbrev convBurstEnable (i : Nat) : Nat := 0x30010E + 256 * i
abbrev convBurstEntry (i : Nat) : Nat := 0x30010F + 256 * i
abbrev convBurstExit (i : Nat) : Nat := 0x300110 + 256 * i
abbrev convBurstBand (i : Nat) : Nat := 0x300111 + 256 * i
abbrev convTruncationEnable (i : Nat) : Nat := 0x300112 + 256 * i
abbrev convShareGain (i : Nat) : Nat := 0x300113 + 256 * i
abbrev convShareTrimLimit (i : Nat) : Nat := 0x300114 + 256 * i
abbrev convBlendTime (i : Nat) : Nat := 0x300115 + 256 * i
abbrev convHiccupOffTime (i : Nat) : Nat := 0x300116 + 256 * i
abbrev convRetryLimit (i : Nat) : Nat := 0x300117 + 256 * i
abbrev convLimitedPeriodsToHiccup (i : Nat) : Nat := 0x300118 + 256 * i
abbrev convRetryClearTime (i : Nat) : Nat := 0x300119 + 256 * i
abbrev convCommandClamps (i : Nat) : Nat := 0x30011A + 256 * i
abbrev phaseState (i : Nat) : Nat := 0x310001 + 256 * i
abbrev phaseStatus (i : Nat) : Nat := 0x310002 + 256 * i
abbrev phaseMode (i : Nat) : Nat := 0x310003 + 256 * i
abbrev phaseInterleaveOffset (i : Nat) : Nat := 0x310004 + 256 * i
abbrev phaseDeadTime (i : Nat) : Nat := 0x310005 + 256 * i
abbrev phaseMinimumPulse (i : Nat) : Nat := 0x310006 + 256 * i
abbrev phaseTrim (i : Nat) : Nat := 0x310007 + 256 * i
abbrev phaseTrimWeight (i : Nat) : Nat := 0x310008 + 256 * i
abbrev phaseCommandInForce (i : Nat) : Nat := 0x310009 + 256 * i
abbrev phaseFaultInput (i : Nat) : Nat := 0x31000A + 256 * i
abbrev phaseFaultAction (i : Nat) : Nat := 0x31000B + 256 * i
abbrev phaseFaultFilter (i : Nat) : Nat := 0x31000C + 256 * i
abbrev phaseCurrentChannel (i : Nat) : Nat := 0x31000D + 256 * i
abbrev phaseTemperatureChannel (i : Nat) : Nat := 0x31000E + 256 * i
abbrev phaseTemperatureWarning (i : Nat) : Nat := 0x31000F + 256 * i
abbrev phaseTemperatureShutdown (i : Nat) : Nat := 0x310010 + 256 * i
abbrev phaseTemperatureRestart (i : Nat) : Nat := 0x310011 + 256 * i
abbrev phaseRetryFailures (i : Nat) : Nat := 0x310012 + 256 * i
abbrev phaseLimitedPeriods (i : Nat) : Nat := 0x310013 + 256 * i
abbrev phaseHiccups (i : Nat) : Nat := 0x310014 + 256 * i
abbrev phaseServiceCommand (i : Nat) : Nat := 0x310015 + 256 * i
abbrev chanFunction (i : Nat) : Nat := 0x320001 + 256 * i
abbrev chanFullScale (i : Nat) : Nat := 0x320002 + 256 * i
abbrev chanUnit (i : Nat) : Nat := 0x320003 + 256 * i
abbrev chanOffset (i : Nat) : Nat := 0x320004 + 256 * i
abbrev chanGain (i : Nat) : Nat := 0x320005 + 256 * i
abbrev chanControlFilter (i : Nat) : Nat := 0x320006 + 256 * i
abbrev chanControlRatio (i : Nat) : Nat := 0x320007 + 256 * i
abbrev chanProtectionRatio (i : Nat) : Nat := 0x320008 + 256 * i
abbrev chanCaptureDelay (i : Nat) : Nat := 0x320009 + 256 * i
abbrev chanProtectionHigh (i : Nat) : Nat := 0x32000A + 256 * i
abbrev chanProtectionLow (i : Nat) : Nat := 0x32000B + 256 * i
abbrev chanProtectionCount (i : Nat) : Nat := 0x32000C + 256 * i
abbrev chanProtectionAction (i : Nat) : Nat := 0x32000D + 256 * i
abbrev chanControlSample (i : Nat) : Nat := 0x32000E + 256 * i
abbrev chanProtectionSample (i : Nat) : Nat := 0x32000F + 256 * i
abbrev chanStatus (i : Nat) : Nat := 0x320010 + 256 * i
abbrev chanSaturations (i : Nat) : Nat := 0x320011 + 256 * i
abbrev chanRedundantPartner (i : Nat) : Nat := 0x320012 + 256 * i

/-! ### spec/06_cardamom_engine.md -/

abbrev engineCoresRunning : Nat := 0x400001
abbrev engineFeedForwardEnable : Nat := 0x400002
abbrev engineHoldTimeout : Nat := 0x400003
abbrev engineOverruns : Nat := 0x400004
abbrev engineNoticesDiscarded : Nat := 0x400005
abbrev engineCloveRegisters : Nat := 0x401000
abbrev coreState (i : Nat) : Nat := 0x410001 + 256 * i
abbrev coreProgramSlot (i : Nat) : Nat := 0x410002 + 256 * i
abbrev coreProgramId (i : Nat) : Nat := 0x410003 + 256 * i
abbrev coreProgramVersion (i : Nat) : Nat := 0x410004 + 256 * i
abbrev coreCommand (i : Nat) : Nat := 0x410005 + 256 * i
abbrev coreSwapFT (i : Nat) : Nat := 0x410006 + 256 * i
abbrev coreSwapState (i : Nat) : Nat := 0x410007 + 256 * i
abbrev corePendingStatus (i : Nat) : Nat := 0x410008 + 256 * i
abbrev coreAdmissionReport (i : Nat) : Nat := 0x410009 + 256 * i
abbrev coreMainWorstCase (i : Nat) : Nat := 0x41000A + 256 * i
abbrev coreHandlerWorstCase (i : Nat) : Nat := 0x41000B + 256 * i
abbrev coreMainEndHighMark (i : Nat) : Nat := 0x41000C + 256 * i
abbrev coreDeclaredFacilities (i : Nat) : Nat := 0x41000D + 256 * i
abbrev coreNoticeMask (i : Nat) : Nat := 0x41000E + 256 * i
abbrev coreNoticesHandled (i : Nat) : Nat := 0x41000F + 256 * i
abbrev coreNoticesJoined (i : Nat) : Nat := 0x410010 + 256 * i
abbrev coreAccumulatorSaturations (i : Nat) : Nat := 0x410011 + 256 * i
abbrev coreStoreSaturations (i : Nat) : Nat := 0x410012 + 256 * i
abbrev coreLimitClamps (i : Nat) : Nat := 0x410013 + 256 * i
abbrev coreSelectorRecords (i : Nat) : Nat := 0x410014 + 256 * i
abbrev coreSelectorWinCounts (i : Nat) : Nat := 0x410015 + 256 * i
abbrev coreGateWeights (i : Nat) : Nat := 0x410016 + 256 * i
abbrev coreHoldCommand (i : Nat) : Nat := 0x410017 + 256 * i
abbrev coreHoldState (i : Nat) : Nat := 0x410018 + 256 * i
abbrev coreReleaseFT (i : Nat) : Nat := 0x410019 + 256 * i
abbrev coreHeldWords (i : Nat) : Nat := 0x41001A + 256 * i
abbrev coreMemoryErrorsCorrected (i : Nat) : Nat := 0x41001B + 256 * i
abbrev coreOverruns (i : Nat) : Nat := 0x41001C + 256 * i
abbrev coefCoefficientAddress (i : Nat) : Nat := 0x420001 + 256 * i
abbrev coefCoefficientWord (i : Nat) : Nat := 0x420002 + 256 * i
abbrev coefCoefficientBlock (i : Nat) : Nat := 0x420003 + 256 * i
abbrev coefPersist (i : Nat) : Nat := 0x420004 + 256 * i
abbrev coefWordsWritten (i : Nat) : Nat := 0x420005 + 256 * i
abbrev coefHeldWordsView (i : Nat) : Nat := 0x420006 + 256 * i
abbrev coreStateMemory (i : Nat) : Nat := 0x430000 + 256 * i
abbrev coreOutputPorts (i : Nat) : Nat := 0x440000 + 256 * i

/-! ### spec/07_smoothing_loops.md -/

abbrev loopLoopSetVersion : Nat := 0x480001
abbrev loopStorageSelection : Nat := 0x480002
abbrev loopFeedRampState : Nat := 0x480003
abbrev loopOverdraw : Nat := 0x480004
abbrev loopOverdrawHold : Nat := 0x480005
abbrev loopOverdrawEpisodes : Nat := 0x480006
abbrev loopOverdrawTime : Nat := 0x480007
abbrev loopBindingReportTime : Nat := 0x480008
abbrev loopRegister1StepsApplied : Nat := 0x480009
abbrev loopRegister0Refusals : Nat := 0x48000A
abbrev loopSelectionTime (j : Nat) : Nat := 0x480101 + j

/-! ### spec/08_saffron_engine.md -/

abbrev safEnable : Nat := 0x500001
abbrev safEngineState : Nat := 0x500002
abbrev safUsableTiles : Nat := 0x500003
abbrev safFailedTileMap : Nat := 0x500004
abbrev safClearFailed : Nat := 0x500005
abbrev safFastTilesDeclared : Nat := 0x500101
abbrev safFastWorstCase : Nat := 0x500102
abbrev safFastEndHighMark : Nat := 0x500103
abbrev safSetsPublished : Nat := 0x500104
abbrev safFastOverruns : Nat := 0x500105
abbrev safBoundariesWithoutSet : Nat := 0x500106
abbrev safOverrunStopCount : Nat := 0x500107
abbrev safSlowTick : Nat := 0x500201
abbrev safSlowWorstCase : Nat := 0x500202
abbrev safSlowCyclesAvailable : Nat := 0x500203
abbrev safStreamBudget : Nat := 0x500204
abbrev safStreamDeclared : Nat := 0x500205
abbrev safContextAge : Nat := 0x500206
abbrev safStaleLimit : Nat := 0x500207
abbrev safSlowOverruns : Nat := 0x500208
abbrev safStreamErrors : Nat := 0x500209
abbrev safContextsPublished : Nat := 0x50020A
abbrev safFastFeatures : Nat := 0x501001
abbrev safSlowFeatures : Nat := 0x501002
abbrev safGathererSaturations : Nat := 0x501003
abbrev safOutputMapSaturations : Nat := 0x501004
abbrev safStepMarks : Nat := 0x501005
abbrev divDivergenceState : Nat := 0x502001
abbrev divForceDivergence : Nat := 0x502002
abbrev divErrorHorizon : Nat := 0x502003
abbrev divErrorLag : Nat := 0x502004
abbrev divErrorSetThreshold : Nat := 0x502005
abbrev divErrorClearThreshold : Nat := 0x502006
abbrev divMeanAbsoluteError : Nat := 0x502007
abbrev divDisagreementThreshold : Nat := 0x502008
abbrev divUntrustedTime : Nat := 0x502009
abbrev divTrustReturnTime : Nat := 0x50200A
abbrev divUntrustedLimit : Nat := 0x50200B
abbrev divUntrustedCount : Nat := 0x50200C
abbrev divUntrustedMap : Nat := 0x50200D
abbrev divDivergenceEpisodes : Nat := 0x50200E
abbrev rotRotationEnable : Nat := 0x503001
abbrev rotTilePeriod : Nat := 0x503002
abbrev rotOfflineTile : Nat := 0x503003
abbrev rotRotationsCompleted : Nat := 0x503004
abbrev rotSelfTestFailures : Nat := 0x503005
abbrev rotLastFullPass : Nat := 0x503006
abbrev fsetForecastValues : Nat := 0x510001
abbrev fsetConfidence : Nat := 0x510002
abbrev fsetForecastStatus : Nat := 0x510003
abbrev fsetSetFT : Nat := 0x510004
abbrev fsetSetSequence : Nat := 0x510005
abbrev tileState (i : Nat) : Nat := 0x520001 + 256 * i
abbrev tileLogicalTile (i : Nat) : Nat := 0x520002 + 256 * i
abbrev tileAccumulatorSaturations (i : Nat) : Nat := 0x520003 + 256 * i
abbrev tileStoreSaturations (i : Nat) : Nat := 0x520004 + 256 * i
abbrev tileScanSaturations (i : Nat) : Nat := 0x520005 + 256 * i
abbrev tileSRAMCorrected (i : Nat) : Nat := 0x520006 + 256 * i
abbrev tileSelfTestPasses (i : Nat) : Nat := 0x520007 + 256 * i

/-! ### spec/09_saffron_models.md -/

abbrev slotState (i : Nat) : Nat := 0x530001 + 256 * i
abbrev slotTier (i : Nat) : Nat := 0x530002 + 256 * i
abbrev slotImageId (i : Nat) : Nat := 0x530003 + 256 * i
abbrev slotImageVersion (i : Nat) : Nat := 0x530004 + 256 * i
abbrev slotBodyBytes (i : Nat) : Nat := 0x530005 + 256 * i
abbrev slotBodyHash (i : Nat) : Nat := 0x530006 + 256 * i
abbrev resState (i : Nat) : Nat := 0x540001 + 256 * i
abbrev resSourceSlot (i : Nat) : Nat := 0x540002 + 256 * i
abbrev resImageId (i : Nat) : Nat := 0x540003 + 256 * i
abbrev resImageVersion (i : Nat) : Nat := 0x540004 + 256 * i
abbrev resResidenceBytes (i : Nat) : Nat := 0x540005 + 256 * i
abbrev resWorstCase (i : Nat) : Nat := 0x540006 + 256 * i
abbrev resStreamBytes (i : Nat) : Nat := 0x540007 + 256 * i
abbrev resLogicalTiles (i : Nat) : Nat := 0x540008 + 256 * i
abbrev resContextLayoutId (i : Nat) : Nat := 0x540009 + 256 * i
abbrev loadLoadSlot : Nat := 0x541001
abbrev loadLoadResidence : Nat := 0x541002
abbrev loadCommand : Nat := 0x541003
abbrev loadSwapFT : Nat := 0x541004
abbrev loadPartnerResidence : Nat := 0x541005
abbrev loadSwapFastResidence : Nat := 0x541006
abbrev loadSwapSlowResidence : Nat := 0x541007
abbrev loadCommandState : Nat := 0x541008
abbrev loadLoadProgress : Nat := 0x541009
abbrev loadAdmissionReport : Nat := 0x541100
abbrev startMapStartFastSlot : Nat := 0x541201
abbrev startMapStartSlowSlots (j : Nat) : Nat := 0x541202 + j
abbrev startMapStartSlowInForce : Nat := 0x541206
abbrev loadImagesAdmitted : Nat := 0x541301
abbrev loadImagesRefused : Nat := 0x541302
abbrev loadSwapsDone : Nat := 0x541303
abbrev loadSwapsRefusedOrAborted : Nat := 0x541304

/-! ### spec/10_cell_chain.md -/

abbrev chainChainState : Nat := 0x600001
abbrev chainUnitsConfigured : Nat := 0x600002
abbrev chainUnitsReached : Nat := 0x600003
abbrev chainBreakAfter : Nat := 0x600004
abbrev chainStaleMap : Nat := 0x600005
abbrev chainLoopDelay : Nat := 0x600006
abbrev chainChainMaster : Nat := 0x600007
abbrev chainSweepPeriod : Nat := 0x600008
abbrev chainPeriodicFilter : Nat := 0x600009
abbrev chainSweepLead : Nat := 0x60000A
abbrev chainCheckInterval : Nat := 0x60000B
abbrev chainCommunicationLossTimeout : Nat := 0x60000C
abbrev chainStaleTimeout : Nat := 0x60000D
abbrev chainStaleAction : Nat := 0x60000E
abbrev chainOpenWireTestInterval : Nat := 0x60000F
abbrev chainSweepRequest : Nat := 0x600010
abbrev chainSweepsCompleted : Nat := 0x600011
abbrev chainSweepsIncomplete : Nat := 0x600012
abbrev chainTransactionsRetried : Nat := 0x600013
abbrev chainFramesDropped : Nat := 0x600014
abbrev chainSerialMap : Nat := 0x600015
abbrev sweepSweepId : Nat := 0x600101
abbrev sweepKind : Nat := 0x600102
abbrev sweepSampleFT : Nat := 0x600103
abbrev sweepFilter : Nat := 0x600104
abbrev sweepPaths : Nat := 0x600105
abbrev sweepWindowCurrent : Nat := 0x600106
abbrev sweepCompletedFT : Nat := 0x600107
abbrev limitCellTripLow : Nat := 0x601001
abbrev limitCellWarningLow : Nat := 0x601002
abbrev limitCellWarningHigh : Nat := 0x601003
abbrev limitCellTripHigh : Nat := 0x601004
abbrev limitTemperatureWarning : Nat := 0x601005
abbrev limitTemperatureTrip : Nat := 0x601006
abbrev limitSumTolerance : Nat := 0x601007
abbrev limitOpenWireDelta : Nat := 0x601008
abbrev limitPairTolerance : Nat := 0x601009
abbrev limitSuspectCount : Nat := 0x60100A
abbrev limitLimitState : Nat := 0x60100B
abbrev balBalancingEnable : Nat := 0x602001
abbrev balStartThreshold : Nat := 0x602002
abbrev balStopThreshold : Nat := 0x602003
abbrev balBalancingInterval : Nat := 0x602004
abbrev balTransfersActive : Nat := 0x602005
abbrev balChargeMoved : Nat := 0x602006
abbrev balReference : Nat := 0x602007
abbrev balSwitchTestInterval : Nat := 0x602008
abbrev unitState (i : Nat) : Nat := 0x610101 + 256 * i
abbrev unitSerial (i : Nat) : Nat := 0x610102 + 256 * i
abbrev unitFirmwareHash (i : Nat) : Nat := 0x610103 + 256 * i
abbrev unitPath (i : Nat) : Nat := 0x610104 + 256 * i
abbrev unitHopsFromCHA (i : Nat) : Nat := 0x610105 + 256 * i
abbrev unitHopsFromCHB (i : Nat) : Nat := 0x610106 + 256 * i
abbrev unitCellVoltages (i : Nat) : Nat := 0x610107 + 256 * i
abbrev unitBlockVoltage (i : Nat) : Nat := 0x610108 + 256 * i
abbrev unitTemperatures (i : Nat) : Nat := 0x610109 + 256 * i
abbrev unitStatus (i : Nat) : Nat := 0x61010A + 256 * i
abbrev unitSumMismatch (i : Nat) : Nat := 0x61010B + 256 * i
abbrev unitOpenWireMap (i : Nat) : Nat := 0x61010C + 256 * i
abbrev unitSwitchFaultMap (i : Nat) : Nat := 0x61010D + 256 * i
abbrev unitBalancing (i : Nat) : Nat := 0x61010E + 256 * i
abbrev unitResultFT (i : Nat) : Nat := 0x61010F + 256 * i
abbrev unitAlerts (i : Nat) : Nat := 0x610110 + 256 * i
abbrev unitChecksInSleep (i : Nat) : Nat := 0x610111 + 256 * i

/-! ### spec/11_state_of_charge.md -/

abbrev socMode : Nat := 0x620001
abbrev socStringStateOfCharge : Nat := 0x620002
abbrev socLowestCell : Nat := 0x620003
abbrev socHighestCell : Nat := 0x620004
abbrev soc : Nat := 0x620005
abbrev socMarginU : Nat := 0x620006
abbrev socFloorInForce : Nat := 0x620007
abbrev socCeilingInForce : Nat := 0x620008
abbrev socLastRest : Nat := 0x620009
abbrev socTimeSinceRest : Nat := 0x62000A
abbrev socRests : Nat := 0x62000B
abbrev socCurrentOffset : Nat := 0x62000C
abbrev socChargeThroughput : Nat := 0x62000D
abbrev socEstimateReset : Nat := 0x62000E
abbrev socStringEnergy : Nat := 0x62000F
abbrev socEstimateFlags : Nat := 0x620010
abbrev socCfgWindowLow : Nat := 0x620101
abbrev socCfgWindowHigh : Nat := 0x620102
abbrev socCfgRideThroughReserve : Nat := 0x620103
abbrev socCfgMarginMinimum : Nat := 0x620105
abbrev socCfgMarginMaximum : Nat := 0x620106
abbrev socCfgOffsetUncertainty : Nat := 0x620107
abbrev socCfgRestCurrent : Nat := 0x620108
abbrev socCfgRestTime : Nat := 0x620109
abbrev socCfgRestDeviation : Nat := 0x62010A
abbrev socCfgMinimumBand : Nat := 0x62010B
abbrev socCfgRequestTime : Nat := 0x62010C
abbrev socCfgUncertainTime : Nat := 0x62010D
abbrev socCfgMinimumSlope : Nat := 0x62010E
abbrev socCfgCorrectionGain : Nat := 0x62010F
abbrev taperTaperMargin : Nat := 0x620201
abbrev taperTaperCurrent : Nat := 0x620202
abbrev taperStartDeviation : Nat := 0x620203
abbrev taperTaperExit : Nat := 0x620204
abbrev taperTaperTimeout : Nat := 0x620205
abbrev taperRestoreRate : Nat := 0x620206
abbrev testTestCommand : Nat := 0x620301
abbrev testTestLow : Nat := 0x620302
abbrev testTestHigh : Nat := 0x620303
abbrev testTestTimeout : Nat := 0x620304
abbrev testTestState : Nat := 0x620305
abbrev quietQuietRequest : Nat := 0x620401
abbrev quietDurationRequested : Nat := 0x620402
abbrev quietWindowEnd : Nat := 0x620403
abbrev quietWindowsUsed : Nat := 0x620404
abbrev quietWindowsMissed : Nat := 0x620405
abbrev quietHoldsAbandoned : Nat := 0x620406
abbrev quietQuietWindow : Nat := 0x620407
abbrev socOpenCircuitTable : Nat := 0x620500
abbrev journalJournalInterval : Nat := 0x621001
abbrev journalJournalThreshold : Nat := 0x621002
abbrev journalSlotAState : Nat := 0x621003
abbrev journalSlotBState : Nat := 0x621004
abbrev journalNewestSequence : Nat := 0x621005
abbrev journalLastWrite : Nat := 0x621006
abbrev journalWrites : Nat := 0x621007
abbrev journalWritesSkipped : Nat := 0x621008
abbrev journalWriteNow : Nat := 0x621009
abbrev journalJournalView : Nat := 0x62100A
abbrev socCellCapacities : Nat := 0x640000
abbrev socCellResistances : Nat := 0x640100
abbrev socCellStatesOfCharge : Nat := 0x640200

/-! ### spec/12_rack_budget.md -/

abbrev rackManagerState : Nat := 0x700001
abbrev rackRackCapInForce : Nat := 0x700002
abbrev rackRackCap : Nat := 0x700003
abbrev rackCeilingBudget : Nat := 0x700004
abbrev rackFloorBudget : Nat := 0x700005
abbrev rackCeilingLevel : Nat := 0x700006
abbrev rackFloorLevel : Nat := 0x700007
abbrev rackOverhead : Nat := 0x700008
abbrev rackCeilingReason : Nat := 0x700009
abbrev rackFloorReason : Nat := 0x70000A
abbrev rackAdmitCeiling : Nat := 0x70000B
abbrev rackAdmissionRamp : Nat := 0x70000C
abbrev rackFlapHold : Nat := 0x70000D
abbrev rackFillerMaximum : Nat := 0x70000E
abbrev rackCeilingMinimum : Nat := 0x70000F
abbrev rackGroupCapLead : Nat := 0x700010
abbrev rackGroupCapRefresh : Nat := 0x700011
abbrev rackGroupCapLifetime : Nat := 0x700012
abbrev rackReleaseHold : Nat := 0x700013
abbrev ledgerOwnUpAllowance : Nat := 0x701001
abbrev ledgerOwnDownAllowance : Nat := 0x701002
abbrev ledgerUpRampInForce : Nat := 0x701003
abbrev ledgerDownRampInForce : Nat := 0x701004
abbrev ledgerBorrowedUpBorrowedDownLentUpLentDown (j : Nat) : Nat := 0x701005 + j
abbrev ledgerLoans : Nat := 0x701009
abbrev ledgerNeedDirection : Nat := 0x70100A
abbrev ledgerNeedSlice : Nat := 0x70100B
abbrev ledgerNeedMargin : Nat := 0x70100C
abbrev ledgerNeedRepeat : Nat := 0x70100D
abbrev ledgerLoanTable : Nat := 0x701100
abbrev groupPolicy (i : Nat) : Nat := 0x704001 + 256 * i
abbrev groupCampusGroupId (i : Nat) : Nat := 0x704002 + 256 * i
abbrev groupMulticastGroup (i : Nat) : Nat := 0x704003 + 256 * i
abbrev groupMembers (i : Nat) : Nat := 0x704004 + 256 * i
abbrev groupLocalLevel (i : Nat) : Nat := 0x704005 + 256 * i
abbrev groupRemoteLevel (i : Nat) : Nat := 0x704006 + 256 * i
abbrev groupThrottledMembers (i : Nat) : Nat := 0x704007 + 256 * i
abbrev groupEqualizeEpisodes (i : Nat) : Nat := 0x704008 + 256 * i
abbrev trayState (i : Nat) : Nat := 0x710001 + 256 * i
abbrev trayLink (i : Nat) : Nat := 0x710002 + 256 * i
abbrev traySerial (i : Nat) : Nat := 0x710003 + 256 * i
abbrev trayChipsPresent (i : Nat) : Nat := 0x710004 + 256 * i
abbrev trayCoolant (i : Nat) : Nat := 0x710005 + 256 * i
abbrev trayCoolantClear (i : Nat) : Nat := 0x710006 + 256 * i
abbrev trayTrayPower (i : Nat) : Nat := 0x710007 + 256 * i
abbrev trayMissedCycles (i : Nat) : Nat := 0x710008 + 256 * i
abbrev trayAbsences (i : Nat) : Nat := 0x710009 + 256 * i
abbrev trayHoldRemaining (i : Nat) : Nat := 0x71000A + 256 * i
abbrev trayAdmissionCeiling (i : Nat) : Nat := 0x71000B + 256 * i
abbrev trayFramesDropped (i : Nat) : Nat := 0x71000C + 256 * i
abbrev trayNotices (i : Nat) : Nat := 0x71000D + 256 * i
abbrev chipChipMaximum (i : Nat) : Nat := 0x720001 + 256 * i
abbrev chipHostCeiling (i : Nat) : Nat := 0x720002 + 256 * i
abbrev chipFloorEnable (i : Nat) : Nat := 0x720003 + 256 * i
abbrev chipGroup (i : Nat) : Nat := 0x720004 + 256 * i
abbrev chipCeilingInForce (i : Nat) : Nat := 0x720005 + 256 * i
abbrev chipCeilingReason (i : Nat) : Nat := 0x720006 + 256 * i
abbrev chipFloorInForce (i : Nat) : Nat := 0x720007 + 256 * i
abbrev chipMeasuredPower (i : Nat) : Nat := 0x720008 + 256 * i
abbrev chipActivityEstimate (i : Nat) : Nat := 0x720009 + 256 * i
abbrev chipChipSideReason (i : Nat) : Nat := 0x72000A + 256 * i
abbrev chipChipSideLimit (i : Nat) : Nat := 0x72000B + 256 * i
abbrev chipEnergy (i : Nat) : Nat := 0x72000C + 256 * i
abbrev chipFloorEnergy (i : Nat) : Nat := 0x72000D + 256 * i
abbrev chipFloorTime (i : Nat) : Nat := 0x72000E + 256 * i
abbrev chipThrottleTime (i : Nat) : Nat := 0x72000F + 256 * i
abbrev chipCyclesEstimated (i : Nat) : Nat := 0x720010 + 256 * i

/-! ### spec/13_renxel_fabric.md -/

abbrev nodeShelfId : Nat := 0x220001
abbrev nodeNodeId : Nat := 0x220002
abbrev nodeSlot : Nat := 0x220003
abbrev nodeSerial : Nat := 0x220004
abbrev nodeNodeIdConflict : Nat := 0x220005
abbrev fabHopLimit : Nat := 0x220101
abbrev fabSelfRouteEnable : Nat := 0x220102
abbrev fabFlitsForwarded : Nat := 0x220103
abbrev fabNoRouteDrops : Nat := 0x220104
abbrev fabHopLimitDrops : Nat := 0x220105
abbrev fabAbortsSent : Nat := 0x220106
abbrev fabRouteSource : Nat := 0x220107
abbrev fabLinkStateAgeLimit : Nat := 0x220108
abbrev fabRekeyInterval : Nat := 0x220109
abbrev routeUnicastTablePending : Nat := 0x221000
abbrev routeMulticastTablePending : Nat := 0x221100
abbrev routeRouteCommand : Nat := 0x221201
abbrev routeActivationFT : Nat := 0x221202
abbrev routeActivations : Nat := 0x221203
abbrev routeUnicastTableInForce : Nat := 0x221300
abbrev routeMulticastTableInForce : Nat := 0x221400
abbrev fabLinkStateView : Nat := 0x222000
abbrev fabSelfRoutes : Nat := 0x222100
abbrev linkProfile (i : Nat) : Nat := 0x240001 + 256 * i
abbrev linkEnable (i : Nat) : Nat := 0x240002 + 256 * i
abbrev linkState (i : Nat) : Nat := 0x240003 + 256 * i
abbrev linkLastDownReason (i : Nat) : Nat := 0x240004 + 256 * i
abbrev linkPeerNode (i : Nat) : Nat := 0x240005 + 256 * i
abbrev linkPeerSerial (i : Nat) : Nat := 0x240006 + 256 * i
abbrev linkPeerLink (i : Nat) : Nat := 0x240007 + 256 * i
abbrev linkVersion (i : Nat) : Nat := 0x240008 + 256 * i
abbrev linkUpSince (i : Nat) : Nat := 0x240009 + 256 * i
abbrev linkLinkDowns (i : Nat) : Nat := 0x24000A + 256 * i
abbrev linkFramesReceived (i : Nat) : Nat := 0x24000B + 256 * i
abbrev linkSymbolsCorrected (i : Nat) : Nat := 0x24000C + 256 * i
abbrev linkUncorrectableFrames (i : Nat) : Nat := 0x24000D + 256 * i
abbrev linkTagFailures (i : Nat) : Nat := 0x24000E + 256 * i
abbrev linkAbortsReceived (i : Nat) : Nat := 0x24000F + 256 * i
abbrev linkFlitsDropped (i : Nat) : Nat := 0x240010 + 256 * i
abbrev linkEyeMargin (i : Nat) : Nat := 0x240011 + 256 * i
abbrev linkPolarityInverted (i : Nat) : Nat := 0x240012 + 256 * i
abbrev linkTransmitEqualisation (i : Nat) : Nat := 0x240013 + 256 * i
abbrev linkCreditsHeld (i : Nat) : Nat := 0x240014 + 256 * i
abbrev linkRekeys (i : Nat) : Nat := 0x240015 + 256 * i
abbrev retimerRetimersFound (i : Nat) : Nat := 0x250001 + 256 * i
abbrev retimerRetimerIdentity (i : Nat) (j : Nat) : Nat := 0x250002 + 256 * i + j
abbrev retimerRetimerSerial (i : Nat) (j : Nat) : Nat := 0x250004 + 256 * i + j
abbrev retimerCableId (i : Nat) : Nat := 0x250006 + 256 * i
abbrev retimerRetimerTemperature (i : Nat) (j : Nat) : Nat := 0x250007 + 256 * i + j
abbrev retimerRetimerEyeMargin (i : Nat) (j : Nat) : Nat := 0x250009 + 256 * i + j
abbrev retimerRetimerLatency (i : Nat) (j : Nat) : Nat := 0x25000B + 256 * i + j
abbrev retimerRetimerStatus (i : Nat) : Nat := 0x25000D + 256 * i
abbrev retimerRetimerCommand (i : Nat) : Nat := 0x25000E + 256 * i
abbrev retimerSidebandErrors (i : Nat) : Nat := 0x25000F + 256 * i

/-! ### spec/14_host_dictionary.md -/

abbrev identVendor : Nat := 0x100001
abbrev identProduct : Nat := 0x100002
abbrev identStepping : Nat := 0x100003
abbrev identGeneration : Nat := 0x100004
abbrev identSerial : Nat := 0x100005
abbrev identOrderingCode : Nat := 0x100006
abbrev identDictionaryVersion : Nat := 0x100007
abbrev identProtocolVersions : Nat := 0x100008
abbrev identFirmwareVersion : Nat := 0x100009
abbrev identManufactured : Nat := 0x10000A
abbrev identMACAddressPort0 : Nat := 0x10000B
abbrev identMACAddressPort1 : Nat := 0x10000C
abbrev identIdentityCertificateHash : Nat := 0x10000D
abbrev identUserTagArea : Nat := 0x101000
abbrev portEnable (i : Nat) : Nat := 0x110001 + 256 * i
abbrev portLinkState (i : Nat) : Nat := 0x110002 + 256 * i
abbrev portFECCorrectedCodewords (i : Nat) : Nat := 0x110003 + 256 * i
abbrev portFECUncorrectableCodewords (i : Nat) : Nat := 0x110004 + 256 * i
abbrev portFramesReceivedDropped (i : Nat) : Nat := 0x110005 + 256 * i
abbrev portVLANId (i : Nat) : Nat := 0x110006 + 256 * i
abbrev portMTU (i : Nat) : Nat := 0x110007 + 256 * i
abbrev portPFCPriorities (i : Nat) : Nat := 0x110008 + 256 * i
abbrev portPCPMap (i : Nat) : Nat := 0x110009 + 256 * i
abbrev portStaticAddresses (i : Nat) : Nat := 0x11000A + 256 * i
abbrev portAddressesInUse (i : Nat) : Nat := 0x11000B + 256 * i
abbrev portPFCFramesReceivedSent (i : Nat) : Nat := 0x11000C + 256 * i
abbrev portCageIdentity (i : Nat) : Nat := 0x11000D + 256 * i
abbrev portCageTemperature (i : Nat) : Nat := 0x11000E + 256 * i
abbrev sessSessionsOpen : Nat := 0x120001
abbrev sessSessionLimit : Nat := 0x120002
abbrev sessSessionTable : Nat := 0x120003
abbrev sessCloseSession : Nat := 0x120004
abbrev sessHandshakesFailed : Nat := 0x120005
abbrev sessMalformedDatagrams : Nat := 0x120006
abbrev sessRequestsRefused : Nat := 0x120007
abbrev sessEventsLost : Nat := 0x120008
abbrev sessTelemetrySamplesDropped : Nat := 0x120009
abbrev sessTelemetryLoad : Nat := 0x12000A

/-! ### spec/15_message_queues.md -/

abbrev poolCells : Nat := 0x800001
abbrev poolFreeCells : Nat := 0x800002
abbrev poolGuaranteedTotal : Nat := 0x800003
abbrev poolSharedFree : Nat := 0x800004
abbrev poolPoolLowThreshold : Nat := 0x800005
abbrev poolCorrectedWords : Nat := 0x800006
abbrev poolUncorrectableWords : Nat := 0x800007
abbrev poolSpilledCells : Nat := 0x800008
abbrev poolSpillCapacity : Nat := 0x800009
abbrev poolMessagesToClosedQueues : Nat := 0x80000A
abbrev poolPoolLowPin : Nat := 0x80000B
abbrev queueState (i : Nat) : Nat := 0x820001 + 256 * i
abbrev queueOccupancy (i : Nat) : Nat := 0x820002 + 256 * i
abbrev queueItems (i : Nat) : Nat := 0x820003 + 256 * i
abbrev queueHighWatermark (i : Nat) : Nat := 0x820004 + 256 * i
abbrev queueLowWatermark (i : Nat) : Nat := 0x820005 + 256 * i
abbrev queueGuaranteedCells (i : Nat) : Nat := 0x820006 + 256 * i
abbrev queueMaximumCells (i : Nat) : Nat := 0x820007 + 256 * i
abbrev queueCutThroughThreshold (i : Nat) : Nat := 0x820008 + 256 * i
abbrev queueSpillEnable (i : Nat) : Nat := 0x820009 + 256 * i
abbrev queueCreditMask (i : Nat) : Nat := 0x82000A + 256 * i
abbrev queueXOFFPin (i : Nat) : Nat := 0x82000B + 256 * i
abbrev queueFlush (i : Nat) : Nat := 0x82000C + 256 * i
abbrev queueItemsWritten (i : Nat) : Nat := 0x82000D + 256 * i
abbrev queueItemsDropped (i : Nat) : Nat := 0x82000E + 256 * i
abbrev queueHighEpisodes (i : Nat) : Nat := 0x82000F + 256 * i
abbrev queueOccupancyHighMark (i : Nat) : Nat := 0x820010 + 256 * i
abbrev queuePoisonedItems (i : Nat) : Nat := 0x820011 + 256 * i
abbrev queueFlushes (i : Nat) : Nat := 0x820012 + 256 * i

/-! ### spec/16_event_recorder.md -/

abbrev recRecordsInRing : Nat := 0x840001
abbrev recUnflushedRecords : Nat := 0x840002
abbrev recRecordsInMRAM : Nat := 0x840003
abbrev recNewestNumber : Nat := 0x840004
abbrev recOldestNumber : Nat := 0x840005
abbrev recRepeatWindow : Nat := 0x840006
abbrev recStagingOccupancy : Nat := 0x840007
abbrev recStagingHighMark : Nat := 0x840008
abbrev recCausesNotStaged : Nat := 0x840009
abbrev recRecordsOverwritten : Nat := 0x84000A
abbrev recFlushes : Nat := 0x84000B
abbrev recFlushState : Nat := 0x84000C
abbrev recClear : Nat := 0x84000D
abbrev recClears : Nat := 0x84000E
abbrev trigTriggerEnable (i : Nat) : Nat := 0x841001 + 256 * i
abbrev trigMatchKind (i : Nat) : Nat := 0x841002 + 256 * i
abbrev trigMatchCause (i : Nat) : Nat := 0x841003 + 256 * i
abbrev trigMatchMask (i : Nat) : Nat := 0x841004 + 256 * i
abbrev trigSnapshotList (i : Nat) : Nat := 0x841005 + 256 * i
abbrev trigSnapshotCount (i : Nat) : Nat := 0x841006 + 256 * i
abbrev trigFlushOnRecord (i : Nat) : Nat := 0x841007 + 256 * i
abbrev trigMatches (i : Nat) : Nat := 0x841008 + 256 * i
abbrev recReadCursor : Nat := 0x850001
abbrev recRecords : Nat := 0x850002
abbrev recNewestRecord : Nat := 0x850003

/-! ### spec/17_active_standby.md -/

abbrev pairClaimArmed : Nat := 0x900001
abbrev pairLeaseRemaining : Nat := 0x900002
abbrev pairPartnerState : Nat := 0x900003
abbrev pairPartnerSerial : Nat := 0x900004
abbrev pairTakeovers : Nat := 0x900005
abbrev pairHandovers : Nat := 0x900006
abbrev pairLastTakeover : Nat := 0x900007
abbrev pairLastCoast : Nat := 0x900008
abbrev pairCommandTolerance : Nat := 0x901001
abbrev pairLimitTolerance : Nat := 0x901002
abbrev pairDivergenceCount : Nat := 0x901003
abbrev pairDivergentTicks : Nat := 0x901004
abbrev pairDivergenceEpisodes : Nat := 0x901005
abbrev pairInputMismatches : Nat := 0x901006
abbrev pairMismatchFields : Nat := 0x901007
abbrev pairRecordsMissing : Nat := 0x901008
abbrev pairMatchingRun : Nat := 0x901009
abbrev pairHotThreshold : Nat := 0x90100A
abbrev mirrorMirrorLead : Nat := 0x902001
abbrev mirrorMirrorSequence : Nat := 0x902002
abbrev mirrorMirrorsLate : Nat := 0x902003
abbrev mirrorMirrorGaps : Nat := 0x902004
abbrev ckptCheckpointPeriod : Nat := 0x903001
abbrev ckptLastCheckpoint : Nat := 0x903002
abbrev ckptLastCheckpointSize : Nat := 0x903003
abbrev ckptCheckpointsSent : Nat := 0x903004
abbrev ckptCheckpointsSkipped : Nat := 0x903005
abbrev ckptCatchUpAttempts : Nat := 0x903006
abbrev ckptCatchUpRetry : Nat := 0x903007
abbrev healthOwnHealth : Nat := 0x910001
abbrev healthPartnerHealth : Nat := 0x910002
abbrev healthSelfDiagnosis : Nat := 0x910003
abbrev healthHealthReportsMissed : Nat := 0x910004

/-! ### spec/18_security_update.md -/

abbrev secMode : Nat := 0xA00001
abbrev secModeCommand : Nat := 0xA00002
abbrev secSecurityState : Nat := 0xA00003
abbrev secSelfTestCommand : Nat := 0xA00004
abbrev secSelfTestResult : Nat := 0xA00005
abbrev secZeroise : Nat := 0xA00006
abbrev secZeroisations : Nat := 0xA00007
abbrev secTamperActions : Nat := 0xA00008
abbrev secTamperState : Nat := 0xA00009
abbrev secIdentityCertificate : Nat := 0xA01001
abbrev secAttestationCertificate : Nat := 0xA01002
abbrev secCertificateRequest : Nat := 0xA01003
abbrev anchorHostAnchors : Nat := 0xA02001
abbrev anchorFabricAnchors : Nat := 0xA02002
abbrev anchorImageAnchors : Nat := 0xA02003
abbrev anchorRevocationList : Nat := 0xA02004
abbrev attestNonce : Nat := 0xA10001
abbrev attestRegisterMask : Nat := 0xA10002
abbrev attestQuote : Nat := 0xA10003
abbrev attestMeasurementRegisters : Nat := 0xA10004
abbrev attestMeasurementLog : Nat := 0xA10005
abbrev updLeaseHolder : Nat := 0xA20001
abbrev updAntiRollbackCounters : Nat := 0xA20002
abbrev updCommit : Nat := 0xA20003
abbrev updPrefer : Nat := 0xA20004
abbrev updImagesWrittenRefused : Nat := 0xA20005
abbrev imgTarget (i : Nat) : Nat := 0xA21001 + 256 * i
abbrev imgImage (i : Nat) : Nat := 0xA21002 + 256 * i
abbrev imgInputState (i : Nat) : Nat := 0xA21003 + 256 * i
abbrev imgBytesWritten (i : Nat) : Nat := 0xA21004 + 256 * i
abbrev keyKeyState (i : Nat) : Nat := 0xA40001 + 256 * i
abbrev keyKey (i : Nat) : Nat := 0xA40002 + 256 * i
abbrev keyCheckValue (i : Nat) : Nat := 0xA40003 + 256 * i
abbrev keyCommandFT (i : Nat) : Nat := 0xA40004 + 256 * i
abbrev keyCommand (i : Nat) : Nat := 0xA40005 + 256 * i

/-! ### spec/19_detectors_injection.md -/

abbrev injArm (i : Nat) : Nat := 0xF40001 + 256 * i
abbrev injSubject (i : Nat) : Nat := 0xF40002 + 256 * i
abbrev injValues (i : Nat) : Nat := 0xF40003 + 256 * i
abbrev injKind (i : Nat) : Nat := 0xF40004 + 256 * i
abbrev injInjections (i : Nat) : Nat := 0xF40005 + 256 * i
abbrev injPeriod (i : Nat) : Nat := 0xF40006 + 256 * i
abbrev injStartFT (i : Nat) : Nat := 0xF40007 + 256 * i
abbrev injSecurityDetector (i : Nat) : Nat := 0xF40008 + 256 * i
abbrev injCtlPointsArmed : Nat := 0xFF0001
abbrev injCtlPointsArmedMap : Nat := 0xFF0002
abbrev injCtlDisarmAll : Nat := 0xFF0003
abbrev injCtlInjectionsSinceStart : Nat := 0xFF0004
abbrev injCtlInjectionLog : Nat := 0xFF1000

/-! ### spec/20_legacy_step_table.md -/

abbrev legacyEnable : Nat := 0xB00001
abbrev legacyState : Nat := 0xB00002
abbrev legacyNextEntry : Nat := 0xB00003
abbrev legacyActivationFT : Nat := 0xB00004
abbrev legacyRunningEntry : Nat := 0xB00005
abbrev legacySequencesPlayed : Nat := 0xB00006
abbrev legacyWritesRefused : Nat := 0xB00007
abbrev legacyEntries0To15 (j : Nat) : Nat := 0xB00101 + j
abbrev legacyRunningCopy : Nat := 0xB00200

end Sys2Proof.Machine.K
end

