-- ==== Sys2Proof/Machine/Sparse.lean ====
section
/-! DEFINITION. The one store operation: a sparse map from addresses to integers in canonical form (addresses strictly
rising, no entry that equals the default of its address). -/

namespace Sys2Proof.Machine

/-- The value listed at an address, if any. -/
def Sparse.find? : Sparse → Nat → Option Int
  | [], _ => none
  | (a, v) :: rest, k => if a = k then some v else Sparse.find? rest k

/-- Read an address: what is listed, else the default. -/
def Sparse.get (dflt : Nat → Int) (m : Sparse) (k : Nat) : Int :=
  match m.find? k with
  | some v => v
  | none => dflt k

/-- Remove an address. -/
def Sparse.erase : Sparse → Nat → Sparse
  | [], _ => []
  | (a, v) :: rest, k => if a = k then Sparse.erase rest k else (a, v) :: Sparse.erase rest k

/-- List an address at its place. -/
def Sparse.insert : Sparse → Nat → Int → Sparse
  | [], k, v => [(k, v)]
  | (a, w) :: rest, k, v =>
    if k < a then (k, v) :: (a, w) :: rest
    else if a = k then (k, v) :: rest
    else (a, w) :: Sparse.insert rest k v

/-- Write an address, keeping the canonical form. -/
def Sparse.put (dflt : Nat → Int) (m : Sparse) (k : Nat) (v : Int) : Sparse :=
  if v = dflt k then Sparse.erase m k else Sparse.insert m k v

/-- Addresses strictly rise. -/
def Sparse.sorted : Sparse → Bool
  | [] => true
  | [_] => true
  | (a, _) :: (b, v) :: rest => decide (a < b) && Sparse.sorted ((b, v) :: rest)

/-- The canonical form. -/
def Sparse.wf (dflt : Nat → Int) (m : Sparse) : Bool :=
  Sparse.sorted m && m.all (fun e => decide (e.2 ≠ dflt e.1))

end Sys2Proof.Machine
end

