-- ==== Sys2Proof/Machine/ResetValues.lean ====
section
/-! DEFINITION. What every part of the state holds right after a reset (spec/03, R59 and R72; spec/05, R112; spec/13;
spec/16; the rules cited).  Where the specification states no reset value the value is the model's (notes/assumptions/7). -/

namespace Sys2Proof.Machine

/-! ### Host, recorder, queues (spec/14 to spec/16) -/

/-- The model's choice (DESIGN CHOICE, notes/assumptions/7). -/
def RecState.fresh : RecState :=
  { staging := [], ring := [], mram := [], flush := none, lostCount := 0, lostFirst := 0, lostLast := 0
    clearWaiting := none, flushCutAt := none, ringKept := false }

/-- The model's choice (DESIGN CHOICE, notes/assumptions/7). -/
def HostState.fresh : HostState :=
  { sessions := [], assocs := [], nextSession := 1, nextTransfer := 1, pausedTx := [], malformedAt := none }

/-- Every queue is empty after every reset (R405) (DESIGN CHOICE, notes/assumptions/7). -/
def QueueState.fresh : QueueState := { queues := [], poolLow := false, correctedAt := none, nextItem := 0 }

/-! ### The module (spec/02, spec/03) -/

/-- A cage counts as present until its contact is read; the outputs are released (DESIGN CHOICE, notes/assumptions/7). -/
def Cage.fresh : Cage := { present := true, int := false, rst := false, lpMode := false, scl := true, sda := true }

/-- MACE_OUT and OK_OUT low, PFAIL_N and XOFF not driven (R59, Table 2-12); inputs read their bias
(DESIGN CHOICE, notes/assumptions/7). -/
def Pins.fresh : Pins :=
  { maceOut := false, maceIn := false, okOut := false, peerOk := false, slotB := false, pfail := false, xoff0 := false
    xoff1 := false, serviceEn := false, rstLow := false, ppsOut := false, ppsIn := false, tamper := 0
    cages := Vector.replicate 2 .fresh }

/-- The model's choice (DESIGN CHOICE, notes/assumptions/7). -/
def Junction.fresh : Junction :=
  { warning := false, high100 := false, high103 := false, critical105 := false, critical108 := false, trip := false }

/-- A part of a bank, by its place in R62's order and the bank's version. -/
def BankPart.of (i version : Nat) (hash : List Byte) (ok : Bool) : BankPart :=
  { kind := [1, 2, 4, 5, 6].getD i 0, version := version, hash := hash, headerOk := ok }

/-- The model's choice (DESIGN CHOICE, notes/assumptions/8). -/
def BankSt.empty : BankSt :=
  { state := .empty, failedStarts := 0, version := 0, rollback := 0, magicOk := false, sigOk := false, hashOk := false
    commitOnConfirm := false, hash := List.replicate 32 0
    parts := Vector.ofFn (fun i : Fin 5 => .of i 0 (List.replicate 32 0) false) }

/-- The bank a module is delivered with (DESIGN CHOICE, notes/assumptions/8). -/
def BankSt.first : BankSt :=
  { state := .valid, failedStarts := 0, version := 0x0100, rollback := 0, magicOk := true, sigOk := true, hashOk := true
    commitOnConfirm := false, hash := List.replicate 32 0
    parts := Vector.ofFn (fun i : Fin 5 => .of i 0x0100 (List.replicate 32 0) true) }

/-- Descriptor slots of a delivered module: bank A VALID and preferred, bank B EMPTY; slot B has never been written
(DESIGN CHOICE, notes/assumptions/8). -/
def BankDesc.first : BankDesc := { preferB := false, stateA := .valid, stateB := .empty, failsA := 0, failsB := 0 }

/-- The model's choice (DESIGN CHOICE, notes/assumptions/7 and 8; PRESUMED, notes/assumptions/66). -/
def ModState.fresh : ModState :=
  { pins := .fresh, mode := .rom, onHold := false, mainLoss := false, shed := false, poweredOff := false, started := false
    heldInReset := false, romStopped := false, resetWaiting := none
    tilesOn := 0, domainsOn := 0, pllLock := 0, sdm := Vector.replicate 4 .off, junction := .fresh, safDue := false, timers := [], trimLog := [], trimDegraded := 0
    bankA := .first, bankB := .empty, preferB := false, descA := { seq := 1, crc := 0xF67BA831, desc := .first }
    descB := { seq := 0, crc := 0, desc := .first }, running := .a, fwCounter := 0, failedBank := none
    handoverAt := 0, startAt := 0, step9At := none, gatesAt := none, confirmed := false, readinessSaid := false
    conflict := false, stalled := false, shutdown := .none, stopCap := false, haltStage := .none, download := none, downloadB := false, downloadBytes := 0, downloadAt := 0, romTestsOk := true
    fwArmed := false, ctlArmed := false, fwFedAt := 0, recAskedAt := none, jtag := .idcode }

/-! ### Time and cloves (spec/04) -/

/-- The model's choice (DESIGN CHOICE, notes/assumptions/7). -/
def PtpState.fresh : PtpState :=
  { locked := false, port := 0, offset := 0, port0 := 4, port1 := 4, gm0 := none, gm1 := none, ppsPresent := false
    ppsAt := 0, ppsOffset := 0, ppsBad := none, ppsDropped := false }

/-- The TB count runs free from zero and fabric time is invalid (R59, R69) (DESIGN CHOICE, notes/assumptions/7 and 9). -/
def TimeSt.fresh : TimeSt :=
  { tb := 0, e := 0, mode := .invalid, offers := [], upstream := none, isMaster := false, masterNode := none, quality := 4
    tai := false, acquired := false, t1 := 0, t2 := 0, request := none, means := [], watch := 0, needEpoch := false
    syncRun := 0, servoInt := 0, lostAt := 0, noOfferSince := 0, ptp := .fresh, refClock := true }

/-- The model's choice (DESIGN CHOICE, notes/assumptions/7). -/
def CloveState.fresh : CloveState :=
  { schedule := [], keys := Vector.replicate 4 none, windows := [], fireFt := 0, fireCount := 0, nextSeq := 0
    reservedTop := 0, wrapped := false, exhaustedSaid := false }

/-! ### Power stage (spec/05) -/

/-- The model's choice (DESIGN CHOICE, notes/assumptions/7). -/
def Phase.fresh : Phase :=
  { state := .off, inService := true, pend := .none, retry := false, rejoin := false, switching := false
    limitedNow := false, limitedLast := false, limitedRun := 0, truncNow := false, truncLast := false, tempWarn := false
    tempRun := 0, since := 0, shadow := 0, goal := 0, xOn := 0, xOff := 0, cut := false, follow := false, faultAt := none
    trimLimited := false, limitSince := none }

/-- The period starts at the default of PER (R113) (DESIGN CHOICE, notes/assumptions/7; DEDUCED, notes/assumptions/100). -/
def ConvSt.fresh (per : Nat) : ConvSt :=
  { on := false, stopPend := false, burst := false, waitFeed := false, waitBus := false, stopRule := none, period := per, dither := 0x9E3779B9, draws := 0
    moving := false, soft := none, softHeld := false, overTenths := 0, overClamp := false, overRun := 0, sumMilli := 0
    sumCount := 0, command := 0, burstRun := 0, limitedAt := none, packet := none, carrier := 0, align := 0 }

/-- Before its first bits a modulator reads half-scale: alternating bits (DESIGN CHOICE, notes/assumptions/7). -/
def ChanSt.fresh : ChanSt :=
  { bits := BitVec.ofNat 1024 ((2 ^ 1024 - 1) / 3), run := 1, runAt := 0, open_ := false, suspect := false, switched := false, beyond := 0, inside := 0, limited := false }

/-- The model's choice (DESIGN CHOICE, notes/assumptions/7). -/
def PowerState.fresh : PowerState :=
  { phases := Vector.replicate 20 .fresh, feed := .fresh 66667, storage := .fresh 53334, chans := Vector.replicate 48 .fresh
    faultIn := 0, faultStamp := Vector.replicate 20 0, refMicro := 800000000, targetStamp := 0, targetClove := false
    burstWake := false, truncating := false, truncRelease := 0, ovRun := 0, ovTrips := [], ovWaiting := false
    uvLow := 0, uvHigh := 0, uvInForce := false, feedLow := 0, feedHigh := 0, feedOk := 0, busLow := 0, feedSum := 0
    feedCount := 0, feedAvg := 0, taperCap := none, holdCap := none }

/-! ### Cardamom (spec/06, spec/07) -/

/-- The model's choice (DESIGN CHOICE, notes/assumptions/7). -/
def Bank.fresh : Bank :=
  { acc := Vector.replicate 8 0, dat := Vector.replicate 16 0, z := false, n := false, v := false, t := false, l := false
    at_ := false }

/-- The model's choice (DESIGN CHOICE, notes/assumptions/7). -/
def CoreSt.fresh : CoreSt :=
  { state := .stopped, bankM := .fresh, bankH := .fresh, inHandler := false, skip := 0, selNext := 0, ffwNext := 0, cyc := 0, todo := []
    viewSm := [], viewPorts := [], owed := [], unpublishedH := []
    coef := [], sm := [], prog := none, pendProg := none, pendState := .empty, report := [], waiting := [], hold := .closed
    held := [], holdOpenedAt := 0, swapPend := false, swapLate := false, stopPend := false, startPend := false
    maskInForce := 0, notice := none, taken := none, ports := [], unpublished := [], emitted := [], accSats := 0
    storeSats := 0, clamps := 0, selRecs := [], winCounts := [], gates := [], satRecordedAt := none, saved := [] }

/-- The model's choice (DESIGN CHOICE, notes/assumptions/7). -/
def Snapshot.fresh : Snapshot := { ports := [], fv := false, conf := 0, forecast := [], diverged := false, ffEnable := false }

/-- The model's choice (DESIGN CHOICE, notes/assumptions/7). -/
def CardState.fresh : CardState :=
  { cores := Vector.replicate 4 .fresh, snap := .fresh, cloveRegs := Vector.replicate 16 0, prevRegs := Vector.replicate 16 0
    regBy := Vector.replicate 16 none
    store := [] }

/-- The model's choice (DESIGN CHOICE, notes/assumptions/7). -/
def LoopState.fresh : LoopState :=
  { pF := 0, pT := 0, bindCode := 0, bindRun := 0, bindOpen := [], odRun := 0, odAbsent := 0
    odEpisode := false, suRun := 0, suAbsent := 0, suEpisode := false }

/-! ### Saffron (spec/08, spec/09) -/

/-- The model's choice (DESIGN CHOICE, notes/assumptions/7). -/
def SafMem.fresh : SafMem := { sram := [], acc := [], exch := [], ctx := [], ctxNext := [], outVec := [] }

/-- The model's choice (DESIGN CHOICE, notes/assumptions/7). -/
def SafState.fresh : SafState :=
  { store := [], res := Vector.replicate 6 none, mem := .fresh, featNow := [], featLast := [], fastWait := .none, slowWait := .none, slowFeat := none
    now := none, staged := none, setSeq := 0, overRun := 0, overSaid := none, satSaid := none, staleSaid := false, hist := []
    errs := [], clearRun := 0, wave := [], marks := [], untrusted := 0, lowSince := none, rotation := .off, rotPass := 0
    clearMask := 0, replacing := false, swap := none, newFast := false, newSlow := false, published := false
    outFast := none, outSlow := none, loading := none }

/-! ### Cell chain and estimator (spec/10, spec/11) -/

/-- The model's choice (DESIGN CHOICE, notes/assumptions/7). -/
def UnitSt.fresh : UnitSt :=
  { valid := false, cells := Vector.replicate 16 0, block := 0, temps := Vector.replicate 4 0, wasLow := 0, wasHigh := 0
    lowBad := false, highBad := false, tempBad := false, signs := Vector.replicate 17 0, suspect := 0, missA := false
    missB := false, staleSince := none, present := 0, changed := false, reloads := 0, testing := none
    testOn := none }

/-- The model's choice (DESIGN CHOICE, notes/assumptions/7). -/
def ChainState.fresh : ChainState :=
  { units := Vector.replicate 32 .fresh, sweeps := [], nextId := 0, nextSeq := 0, cmds := [], loopOk := false, loopAt := 0
    lowTrip := false, highTrip := false, tempTrip := false, lowOk := none, highOk := none, tempOk := none
    staleBlock := false, staleSaid := false, openWireAt := 0, switchAt := 0, balanceAt := 0, rest := [] }

/-- Capacity and resistance of a cell without a journal (R314) (DESIGN CHOICE, notes/assumptions/7). -/
def CellSt.fresh : CellSt := { charge := 0, cap := 40000, res := 1000000000, xfer := 0 }

/-- The model's choice (DESIGN CHOICE, notes/assumptions/7). -/
def SocState.fresh : SocState :=
  { cells := Vector.replicate 512 .fresh, drawn := 0, sigma := Vector.replicate 32 { atRest := 10000, restAt := 0 }
    lastRestAt := 0, restRun := 0, quietRun := 0, demandRun := 0, restSample := none, restSweep := none, burstTicks := 0
    burstMean := none, modeAt := 0, taperLeft := none, forming := none, marginSaid := false, asked := false
    holdBegan := false, prevCurrent := 0, prevCells := [], prevAt := 0, testRest := none, testAt := 0, tests := 0
    throughput := 0, moved := 0, slotA := .empty, slotB := .empty, trigger := none, retries := 0, triedAt := 0
    writing := none, lastWriteAt := 0, restSinceStart := false }

/-! ### Rack and legacy (spec/12, spec/20) -/

/-- The model's choice (DESIGN CHOICE, notes/assumptions/7). -/
def TraySt.fresh : TraySt :=
  { got := false, missedRun := 0, validRun := 0, serial := 0, holdShare := none, admission := Vector.replicate 8 0
    admitted := 0, throttled := 0, since := Vector.replicate 8 0, loss := false, seq := 0, reportAt := 0
    statusAt := 0, disagree := Vector.replicate 8 0, agree := Vector.replicate 8 0 }

/-- The model's choice (DESIGN CHOICE, notes/assumptions/7). -/
def GroupSt.fresh : GroupSt := { remote := [], episode := false, lastThrottle := 0, sentLevel := none, sentAt := 0 }

/-- The model's choice (DESIGN CHOICE, notes/assumptions/7). -/
def RackState.fresh : RackState :=
  { trays := Vector.replicate 24 .fresh, groups := Vector.replicate 64 .fresh, loans := [], cycle := 0, boundary := none, judged := 0
    energy := [], floorEnergy := [], throttleTime := [], load := [], capStamp := 0, capClove := false, uvSaid := false
    needAt := none, legacyLimit := none }

/-- The model's choice (DESIGN CHOICE, notes/assumptions/7). -/
def LegacyState.fresh : LegacyState := { enabling := none, pRef := 0, runS := 0, stepSum := 0, nextPlay := 0, running := false }

/-! ### Fabric (spec/13) -/

def Credit.zero : Credit := { sent := 0, peerFreed := 0, received := 0, freed := 0, shown := 0 }
def AuthSt.none : AuthSt :=
  { ownHello := .none, peerHello := .none, signed := false, peerSigned := false, finSent := false }
def LineDir.zero : LineDir := { scrambler := 0, next := 0 }
def RekeySt.none : RekeySt :=
  { auth := .none, fresh := .none, switchAt := .none, txDone := false, rxDone := false, failures := 0, nextAt := 0 }
def SideSt.none : SideSt :=
  { rx := .none, tx := [], reqs := [], seq := 0, cables := (0, 0), missed := (0, 0), lost := (false, false), hot := false, mismatch := false }

/-- A link before its first training (DESIGN CHOICE, notes/assumptions/7). -/
def LinkSt.fresh : LinkSt :=
  { rx := .zero, tx := .zero, keys := none, peerChain := [], auth := .none, rekey := .none, credits := Vector.replicate 4 .zero
    syncRun := 0, locked := false, doneSeen := 0, badSync := 0, uncorrectable := [], tagFailed := [], enteredAt := 0
    failSaid := false, backoff := 1, waitEnd := 0, losses := [], upAt := 0, timing := [], control := [], sinceCh0 := 0
    sinceCh3 := 0, partials := [], side := .none, lowSince := none, lowSaid := false }

/-- The model's choice (DESIGN CHOICE, notes/assumptions/7). -/
def FabricSt.fresh : FabricSt :=
  { links := Vector.replicate 32 .fresh, database := [], seq := 0, armed := false, noRouteAt := none, selfSaid := false }

/-! ### The pair (spec/17) -/

/-- The model's choice (DESIGN CHOICE, notes/assumptions/7). -/
def PairSt.fresh : PairSt :=
  { own := [], partner := none, compared := [], badRun := 0, badSaid := false, missRun := 0, missSaid := false, divRun := 0
    agreeRun := 0, diverged := false, offSince := none, offSaid := false, aligned := false, alignFrom := 0, nextSeq := 1, log := []
    awaited := 1, parts := [], waiting := [], resendAt := none, handover := none, fullNext := false, held := none
    segments := 0, streamEnd := 0, loadedAt := none, askedAt := none, healthAt := 0, healthSaid := false
    seenTrims := 0, noTakerSaid := false, linkFault := false, regionBad := false
    pllBad := false, scrubAt := 0, corrected := 0, uncorrectable := 0, leaseEnd := 0, feedEnd := 0, maceInFell := none
    fired := [], marks := [] }

/-! ### Security and injection (spec/18, spec/19) -/

/-- Every measurement register is zero at each reset (R459) (DESIGN CHOICE, notes/assumptions/7 and 8). -/
def SecSt.fresh : SecSt :=
  { keys := some { storage := 0, identity := 0, attestation := 0 }, keyCmd := Vector.replicate 4 none, stoppedSaid := false, regs := Vector.replicate 8 (List.replicate 32 0), log := []
    extensions := 0, fullSaid := false, quotes := [], programCounter := 0, modelCounter := 0, stored := []
    inputs := Vector.replicate 4 { sess := 0, hdr := none, result := 0 }, lease := none, zeroised := none, nextMode := none
    latched := none, uncheckedSaid := false, testing := false, errorPending := false }

/-- The model's choice (DESIGN CHOICE, notes/assumptions/7). -/
def InjSt.fresh : InjSt := { points := [], log := [], seq := 0, live := none }

end Sys2Proof.Machine
end

