-- ==== Sys2Proof/Machine/TypesOut.lean ====
section
/-! DEFINITION. What the module sends: the messages, flits, frames and bytes that leave it.  The model appends them to
State.outbox, newest first (the outbox is the model's own field, notes/assumptions/5). -/

namespace Sys2Proof.Machine

/-- One message that has left the module. -/
inductive OutMsg where
  /-- Status of a host command that came without a message of its own (0 success). -/
  | status (code : Nat)
  /-- The sequence of a clove that a host command without a message of its own has injected (R110). -/
  | injected (seq : Nat)
  /-- A Celeluo message, header and body (spec/14, Table 14-3), and where it goes. -/
  | host (dest : HostDest) (msg : List Byte)
  /-- A pair service message: the pair links it travels on, its queue priority, its bytes (R427). -/
  | pair (links : List Nat) (prio : Nat) (msg : List Byte)
  /-- A checkpoint streamed to the partner (R437). -/
  | checkpoint (c : Checkpoint)
  /-- What CHA or CHB drives: from CHA, the half-bits of the Manchester code in order (R269). -/
  | chain (fromA : Bool) (line : List Bool)
  /-- The 40-byte payload of a TRAY flit: link, bytes (Table 12-4). -/
  | tray (link : Nat) (payload : List Byte)
  /-- A line frame sent on a link, bit 0 first (spec/13, R340). -/
  | frame (link : Nat) (bits : BitVec 576)
  /-- The frame being sent on a link ends as an abort (R342, R360). -/
  | abort (link : Nat)
  /-- A flit delivered to this module from a link (R357), handed to the service of its type. -/
  | delivered (link : Nat) (flit : List Byte)
  /-- A LINK_STATE message on a link: node, serial, sequence, peers (R356). -/
  | linkState (link node serial seq : Nat) (peers : List Nat)
  /-- A WRITE of the control register of a retimer of a disabled link (R366): link, retimer, value. -/
  | sideband (link retimer value : Nat)
  /-- What a queue's consumer reads: the queue, the item (none: empty at a deadline), ABANDONED (spec/15). -/
  | item (q : Nat) (it : Option QItem) (abandoned : Bool)
  /-- A PFC frame: port, priority, quanta (R402). -/
  | pfc (port prio quanta : Nat)
  /-- An Ethernet frame or a PTP message of a kind on a port. -/
  | ethernet (port kind : Nat) (words : List Int)
  /-- A DTLS message: association, kind, words. -/
  | dtls (assoc kind : Nat) (words : List Int)
  /-- A BLOCK_DATA chunk or a bank image part to the partner (R81): bytes. -/
  | image (bytes : Nat)
  deriving DecidableEq, Repr

end Sys2Proof.Machine
end

