-- ==== Sys2Proof/Machine/State.lean ====
section
/-! DEFINITION. The state of the module as plain data. -/

namespace Sys2Proof.Machine

structure State where
  objs : Sparse
  blobs : List (Nat × List Byte)
  rcd : RecState
  host : HostState
  que : QueueState
  md : ModState
  time : TimeSt
  clv : CloveState
  pow : PowerState
  card : CardState
  lp : LoopState
  fab : FabricSt
  pair : PairSt
  cry : SecSt
  inj : InjSt
  chn : ChainState
  soc : SocState
  saf : SafState
  rack : RackState
  leg : LegacyState
  freeCtr : Nat
  outbox : List OutMsg
  pending : List Instr
  deriving DecidableEq, Repr

/-- The machine right after a power-on reset: no object written, the module in the ROM, fabric time invalid (R59, R72)
(DESIGN CHOICE, notes/assumptions/2). -/
def State.reset : State :=
  { objs := [], blobs := [], rcd := .fresh, host := .fresh, que := .fresh, md := .fresh, time := .fresh, clv := .fresh
    pow := .fresh, card := .fresh, lp := .fresh, fab := .fresh, pair := .fresh, cry := .fresh, inj := .fresh, chn := .fresh
    soc := .fresh, saf := .fresh, rack := .fresh, leg := .fresh, freeCtr := 0, outbox := [], pending := [] }

/-- Reasons a step can stop with a fault. -/
inductive Fault where
  /-- Raised by no meaning: every command has an effect in every state (Obligations, O60).  Safe. -/
  | illFormed
  deriving DecidableEq, Repr

/-- Reasons a step can be refused. -/
inductive Refusal where
  /-- Raised by the dispatcher for a command without a meaning.  Safe: nothing is claimed of it. -/
  | notModelled (mnemonic : String)
  deriving DecidableEq, Repr

/-- Outcome of a step. -/
abbrev Out := Host.Outcome State Fault Refusal

end Sys2Proof.Machine
end

