-- ==== Sys2Proof/Machine/Ops.lean ====
section
/-! DEFINITION. The operations every meaning is written with: dictionary objects and counters, free values, messages
out, raising a cause (spec/16). -/

namespace Sys2Proof.Machine

/-! ### Arithmetic -/

/-- Round half-even of a / d (spec/00, R9). -/
def rheDiv (a : Int) (d : Nat) : Int :=
  let q := a / (d : Int)
  let r := a % (d : Int)
  if 2 * r < d then q
  else if 2 * r > d then q + 1
  else if q % 2 = 0 then q else q + 1

/-- Clamp: the lower of value and upper limit, then the higher of that and the lower limit (R166). -/
def clampInt (lo hi x : Int) : Int := max (min x hi) lo

/-- A quotient of natural numbers, rounded half-even (R9): times and energies as objects show them
(DEDUCED, notes/assumptions/99). -/
def rheNat (a d : Nat) : Nat := (rheDiv a d).toNat

/-- Does a format version name the major this part supports (R5)? -/
def versionOk (v : BitVec 8) : Bool := decide (v.toNat / 16 = 1)

/-- Order of lists of numbers by their first difference. -/
def lexBefore : List Nat → List Nat → Bool
  | a :: l, b :: m => if a = b then lexBefore l m else decide (a < b)
  | _, _ => false

/-! ### Plain combinators -/

/-- Apply a change only when a condition holds. -/
def State.when (c : Bool) (f : State → State) (s : State) : State := if c then f s else s

/-- Apply a change for each element of a list, in order. -/
def State.each {α : Type} (l : List α) (f : α → State → State) (s : State) : State :=
  l.foldl (fun s a => f a s) s

/-- The state a step leaves. -/
def outState (o : Out) (s : State) : State :=
  match o with
  | .next t => t
  | _ => s

/-! ### Dictionary objects -/

/-- Value of a dictionary object: what has been written to it, else its default. -/
def State.get (s : State) (k : Nat) : Int := Sparse.get Dict.default s.objs k

/-- A dictionary value that is never negative, as a natural number. -/
def State.getN (s : State) (k : Nat) : Nat := (s.get k).toNat

/-- A BOOL object. -/
def State.getB (s : State) (k : Nat) : Bool := decide (s.get k ≠ 0)

/-- Write a dictionary object. -/
def State.put (k : Nat) (v : Int) (s : State) : State := { s with objs := s.objs.put Dict.default k v }

/-- Write a BOOL object. -/
def State.putB (k : Nat) (b : Bool) (s : State) : State := s.put k (if b then 1 else 0)

/-- Read a byte-string object: the bytes written, else none (the default fill). -/
def findBytes : List (Nat × List Byte) → Nat → Option (List Byte)
  | [], _ => none
  | (a, v) :: rest, k => if a = k then some v else findBytes rest k

/-- Bytes of a byte-string object: written, else n bytes of its fill. -/
def State.getBytes (s : State) (k n : Nat) : List Byte :=
  match findBytes s.blobs k with
  | some v => v
  | none => List.replicate n (BitVec.ofInt 8 (Dict.default k))

/-- List bytes under a key at their place. -/
def insertBytes : List (Nat × List Byte) → Nat → List Byte → List (Nat × List Byte)
  | [], k, v => [(k, v)]
  | (a, w) :: rest, k, v =>
    if k < a then (k, v) :: (a, w) :: rest
    else if a = k then (k, v) :: rest
    else (a, w) :: insertBytes rest k v

/-- Write a byte-string object. -/
def State.putBytes (k : Nat) (v : List Byte) (s : State) : State := { s with blobs := insertBytes s.blobs k v }

/-! ### Free values and counters -/

/-- The free value a step reads next (DESIGN CHOICE, notes/assumptions/3). -/
def State.freeNat (s : State) : Nat := Config.freeValue s.freeCtr

/-- Move on to the next free value (DESIGN CHOICE, notes/assumptions/3). -/
def State.useFree (s : State) : State := { s with freeCtr := s.freeCtr + 1 }

/-- Count by n in an object of the given width in bits.  The specification does not say what a counter does beyond its
width: there the value is free (notes/assumptions/3). -/
def State.countBy (bits k n : Nat) (s : State) : State :=
  if s.get k + n < 2 ^ bits then s.put k (s.get k + n)
  else (s.put k ((s.freeNat % 2 ^ bits : Nat) : Int)).useFree

/-- Add 1 to a U32 counter. -/
def State.inc (k : Nat) (s : State) : State := s.countBy 32 k 1

/-- Add 1 to a U64 counter. -/
def State.inc64 (k : Nat) (s : State) : State := s.countBy 64 k 1

/-- Keep the highest value seen. -/
def State.putMax (k : Nat) (v : Int) (s : State) : State := if s.get k < v then s.put k v else s

/-! ### Time -/

/-- Local time: the TB count in ns. -/
def State.now (s : State) : Nat := s.time.tb

/-- Fabric time FT = TB + E; 0 while invalid (spec/04, R84, R85, Table 4-7). -/
def State.ft (s : State) : Nat :=
  if s.time.mode = .invalid then 0 else (s.time.tb + s.time.e).toNat

/-- Nanoseconds to the next tick boundary, a fabric time that is a whole multiple of 1,000 ns (R19); by local time while
fabric time is invalid (DESIGN CHOICE, notes/assumptions/10). -/
def State.untilTick (s : State) : Nat :=
  let base : Int := if s.time.mode = .invalid then s.time.tb else s.time.tb + s.time.e
  1000 - (base % 1000).toNat

/-- Millisecond, microsecond, second in ns. -/
abbrev ms : Nat := 1000000
abbrev us : Nat := 1000
abbrev sec : Nat := 1000000000

/-- Time a condition: from now when it begins to hold, no longer once it ends. -/
def State.noteTimer (t : Timer) (holds : Bool) (s : State) : State :=
  let l := s.md.timers
  if holds then (if (l.lookup t).isSome then s else { s with md := { s.md with timers := (t, s.now) :: l } })
  else { s with md := { s.md with timers := l.filter (fun e : Timer × Nat => decide (e.1 ≠ t)) } }

/-- Time a condition afresh from now. -/
def State.restartTimer (t : Timer) (s : State) : State := (s.noteTimer t false).noteTimer t true

/-- Has a timed condition held for d ns? -/
def State.heldFor (s : State) (t : Timer) (d : Nat) : Bool :=
  match s.md.timers.lookup t with
  | some at_ => decide (at_ + d ≤ s.now)
  | none => false

/-! ### Messages out -/

/-- Send a message (DESIGN CHOICE, notes/assumptions/5). -/
def State.send (m : OutMsg) (s : State) : State := { s with outbox := m :: s.outbox }

/-! ### Bytes -/

/-- n bytes of a natural number, least-significant byte first (spec/00, R3). -/
def leBytes : Nat → Nat → List Byte
  | 0, _ => []
  | n + 1, v => BitVec.ofNat 8 v :: leBytes n (v / 256)

/-- The natural number of bytes, least-significant byte first. -/
def leNat : List Byte → Nat
  | [] => 0
  | b :: rest => b.toNat + 256 * leNat rest

/-- Two's complement of a bit width. -/
def toUnsigned (bits : Nat) (v : Int) : Nat := (v % (2 ^ bits : Nat)).toNat

/-- Signed value of a bit width. -/
def toSigned (bits : Nat) (v : Nat) : Int :=
  if v % 2 ^ bits < 2 ^ (bits - 1) then ((v % 2 ^ bits : Nat) : Int) else ((v % 2 ^ bits : Nat) : Int) - (2 ^ bits : Nat)

/-- Bytes 4 to 15 of the arguments, from values with their widths in bytes, in order (R411). -/
def argVals : List (Nat × Nat) → Nat
  | [] => 0
  | (v, w) :: rest => v % 256 ^ w + 256 ^ w * argVals rest

/-- Arguments with a subject (DESIGN CHOICE, notes/assumptions/13). -/
def args (subj : Nat) (vals : List (Nat × Nat)) : Args := ⟨BitVec.ofNat 32 subj, BitVec.ofNat 96 (argVals vals)⟩

/-- Arguments without a subject (DESIGN CHOICE, notes/assumptions/13). -/
def args0 (vals : List (Nat × Nat)) : Args := ⟨Args.noSubject, BitVec.ofNat 96 (argVals vals)⟩

/-! ### Raising a cause (spec/16, R407 to R414; spec/14, R386) -/

/-- High byte of a cause: its subsystem (spec/00, R13). -/
def causeHigh (c : Nat) : Nat := c / 256

/-- Record number of a push without a record (R407). -/
abbrev noRecord : Nat := 0xFFFFFFFF

/-- Causes that earn a record even when no trigger matches (R409). -/
def alwaysRecorded (c : Nat) : Bool :=
  c == Cause.mainLoss || c == Cause.cloveRecorded || c == Cause.recorderCleared || c == Cause.recorderEventsLost

/-- Does trigger k match (R408)? -/
def State.triggerMatches (s : State) (cause k : Nat) : Bool :=
  s.getB (K.trigTriggerEnable k) &&
  (if s.get (K.trigMatchKind k) = 0 then decide (s.getN (K.trigMatchCause k) = cause)
   else (s.getN (K.trigMatchMask k)).testBit (causeHigh cause))

/-- The lowest-numbered enabled trigger that matches (R408). -/
def State.triggerFor (s : State) (cause : Nat) : Option Nat :=
  (List.range 64).find? (s.triggerMatches cause)

/-- Does the session's filter pass the cause (R385)? -/
def Session.passes (x : Session) (cause : Nat) : Bool :=
  x.mask.testBit (causeHigh cause) && !x.excluded.contains cause

/-- Add a repeat to the newest unsent push of the same code, if there is one (R386). Newest last. -/
def collapsePush (cause n : Nat) : List Push → Option (List Push)
  | [] => none
  | p :: rest =>
    match collapsePush cause n rest with
    | some rest' => some (p :: rest')
    | none => if p.cause = cause then some ({ p with repeats := p.repeats + n } :: rest) else none

/-- Prepare a push for a session that passes the cause: collapse it, count it when the window is full, or queue it. -/
def Session.offer (x : Session) (p : Push) : Session :=
  if !x.passes p.cause then x else
  match collapsePush p.cause 1 x.unsent with
  | some u => { x with unsent := u }
  | none =>
    if x.unsent.length + x.unacked.length < 64 then { x with unsent := x.unsent ++ [p] }
    else { x with lost := x.lost + 1 }

/-- Was the cause lost to a full window? -/
def Session.losesPush (x : Session) (cause : Nat) : Bool :=
  x.passes cause && (collapsePush cause 1 x.unsent).isNone && decide (64 ≤ x.unsent.length + x.unacked.length)

/-- Prepare the push of a cause for every subscribed session (R407). -/
def State.preparePush (p : Push) (s : State) : State :=
  let lost := (s.host.sessions.filter (fun x : Session => x.losesPush p.cause)).length
  let s := { s with host := { s.host with sessions := s.host.sessions.map (fun x : Session => x.offer p) } }
  s.when (decide (0 < lost)) (fun s => s.countBy 32 K.sessEventsLost lost)

/-- A new push. -/
def newPush (cause ft : Nat) (a : Args) (recNo : Option Nat) : Push :=
  { cause := cause, repeats := 0, ft := ft, recNo := recNo, args := a, seq := 0, sentAt := 0, againAt := 0 }

/-- Repeat window in ns (R413). -/
def State.repeatWindow (s : State) : Nat := s.getN K.recRepeatWindow * ms

/-- Are two causes the same occurrence for the repeat rule (R413): same code, same subject, and for an injected cause the
same bytes 4-5? -/
def sameCause (c d : Nat) (a b : Args) : Bool :=
  decide (c = d) && decide (a.subj = b.subj) &&
  (decide (causeHigh c ≠ 0x0F) || decide (a.vals.toNat % 65536 = b.vals.toNat % 65536))

/-- Is a staged entry a repeat candidate for the offered cause (R413)? -/
def StagedCause.takes (e : StagedCause) (window cause ft : Nat) (a : Args) : Bool :=
  sameCause cause e.cause a e.args && decide (ft ≤ e.ft + window) && decide (e.repeats < 65535)

/-- Is a record a repeat candidate (R413)?  At 65,535 repeats the next occurrence is staged afresh. -/
def Record.takes (r : Record) (window cause ft : Nat) (a : Args) : Bool :=
  sameCause cause r.cause a r.args && decide (ft ≤ r.ft + window) && !r.repeatFull

/-- Microseconds from the first occurrence, saturating (Table 16-2). -/
def repeatUs (first ft : Nat) : Nat := min (rheNat (ft - first) us) 0xFFFFFFFF

/-- Count a repeat in a staged entry. -/
def StagedCause.addRepeat (e : StagedCause) (ft : Nat) : StagedCause :=
  { e with repeats := e.repeats + 1, lastRepeatUs := repeatUs e.ft ft }

/-- Count a repeat in a record: a flushed record loses FLUSHED (R413). -/
def Record.addRepeat (r : Record) (ft : Nat) : Record :=
  { r with repeats := r.repeats + 1, lastRepeatUs := repeatUs r.ft ft, flushed := false,
           repeatFull := decide (65535 ≤ r.repeats + 1) }

/-- The newest staging entry. -/
def lastOf {α : Type} : List α → Option α
  | [] => none
  | [x] => some x
  | _ :: rest => lastOf rest

/-- Change the newest staging entry. -/
def mapLast {α : Type} (f : α → α) : List α → List α
  | [] => []
  | [x] => [f x]
  | x :: rest => x :: mapLast f rest

/-- Put an entry at the tail of staging and show the occupancy (R413) (DESIGN CHOICE, notes/assumptions/79). -/
def State.stage (e : StagedCause) (s : State) : State :=
  let s := { s with rcd := { s.rcd with staging := s.rcd.staging ++ [e] } }
  s.putMax K.recStagingHighMark s.rcd.staging.length

/-- A cause that finds staging full (R414). -/
def State.notStaged (ft : Nat) (s : State) : State :=
  let s := { s with rcd := { s.rcd with
      lostCount := s.rcd.lostCount + 1
      lostFirst := if s.rcd.lostCount = 0 then ft else s.rcd.lostFirst
      lostLast := ft } }
  s.inc K.recCausesNotStaged

/-- Offer a cause to the recorder and prepare its push (R407, R408, R413, R414).  `trig` is the trigger that matches. -/
def State.offerCause (cause ft : Nat) (a : Args) (trig : Option Nat) (s : State) : State :=
  let window := s.repeatWindow
  match lastOf s.rcd.staging with
  | some e =>
    if e.takes window cause ft a then
      ({ s with rcd := { s.rcd with staging := mapLast (·.addRepeat ft) s.rcd.staging } }).preparePush
        (newPush cause ft a none)
    else offerNext
  | none => offerNext
where
  /-- The second candidate, the newest record, and otherwise a new staging entry. -/
  offerNext : State :=
    let window := s.repeatWindow
    match s.rcd.ring with
    | r :: rest =>
      if r.takes window cause ft a then
        ({ s with rcd := { s.rcd with ring := r.addRepeat ft :: rest } }).preparePush (newPush cause ft a (some r.number))
      else offerNew
    | [] => offerNew
  /-- Stage the cause, or count it when staging is full. -/
  offerNew : State :=
    if s.rcd.staging.length < 64 then
      (s.stage { cause := cause, ft := ft, args := a, trigger := trig.getD 255,
                 flush := (trig.map (fun k => s.getB (K.trigFlushOnRecord k))).getD false,
                 repeats := 0, lastRepeatUs := 0 }).preparePush (newPush cause ft a none)
    else (s.notStaged ft).preparePush (newPush cause ft a (some noRecord))

/-- Raise a cause at an FT (R407): its trigger's match is counted, it is offered to the recorder when it earns a record,
and its push is prepared. -/
def State.raiseOwn (cause ft : Nat) (a : Args) (s : State) : State :=
  match s.triggerFor cause with
  | some k => (s.inc (K.trigMatches k)).offerCause cause ft a (some k)
  | none =>
    if alwaysRecorded cause then s.offerCause cause ft a none
    else s.preparePush (newPush cause ft a (some noRecord))

/-- Raise a cause at an FT. While a stimulus is carried out, the cause it stands for is raised as 0x0F00 plus its low byte,
with the arguments of R477. -/
def State.raiseAt (cause ft : Nat) (a : Args) (s : State) : State :=
  match s.inj.live with
  | some l => if l.code = cause then s.raiseOwn (0x0F00 + cause % 256) ft ⟨l.subj, l.vals⟩ else s.raiseOwn cause ft a
  | none => s.raiseOwn cause ft a

/-- Raise a cause now. -/
def State.raise (cause : Nat) (a : Args) (s : State) : State := s.raiseAt cause s.ft a

/-- Raise a cause with a subject and no values. -/
def State.raiseOn (cause subj : Nat) (s : State) : State := s.raise cause (args subj [])

/-- Raise a cause with neither subject nor values. -/
def State.raise0 (cause : Nat) (s : State) : State := s.raise cause (args0 [])

/-- Write the status of a host command that came as a command of its own (spec/14, R382): 0 is success, any other status
is counted in 0x1200.07. -/
def State.answer (r : State × Nat) : State :=
  let s := r.1.send (.status r.2)
  s.when (decide (r.2 ≠ 0)) (fun s => s.inc K.sessRequestsRefused)

/-- A refusal: nothing changes, the status goes back (R382). -/
def State.refuse (status : Nat) (s : State) : State × Nat := (s, status)

/-- Success. -/
def State.ok (s : State) : State × Nat := (s, 0)

end Sys2Proof.Machine
end

