-- ==== Sys2Proof/Machine/InjOps.lean ====
section
/-! DEFINITION. Disarming injection points (spec/19, R475 and R476). -/

namespace Sys2Proof.Machine

/-- The index of a detector's injection point, less 0xF400 (R471). -/
def injIndex (code : Nat) : Nat := (code / 256 - 1) * 256 + code % 256

/-- The detector an injection point's index names. -/
def injCode (i : Nat) : Nat := (i / 256 + 1) * 256 + i % 256

/-- Is a detector's point armed? -/
def State.injArmed (s : State) (code : Nat) : Bool := s.inj.points.any (fun p : InjPoint => decide (p.code = code))

/-- A point returns to DISARMED (R475). -/
def State.disarm (p : InjPoint) (s : State) : State :=
  let s := { s with inj := { s.inj with points := s.inj.points.filter (fun q : InjPoint => decide (q.code ≠ p.code)) } }
  s.raise Cause.injectionEnded (args (s.getN (K.injSubject (injIndex p.code))) [(p.code, 2)])

/-- Every point is disarmed (R476). -/
def State.disarmAll (s : State) : State := s.each s.inj.points State.disarm

end Sys2Proof.Machine
end

