-- ==== Sys2Proof/Machine/PowerOps.lean ====
section
/-! DEFINITION. The power stage: what its meanings share (spec/05). -/

namespace Sys2Proof.Machine

/-! ### Phases, converters, channels -/

/-- The converter a phase unit serves (R112). -/
def convOf (p : Fin 20) : Conv := if p.val < 8 then .feed else .storage

/-- The phase units of a converter, in ascending order (R112). -/
def phasesOf : Conv → List (Fin 20)
  | .feed => [0, 1, 2, 3, 4, 5, 6, 7]
  | .storage => [8, 9, 10, 11, 12, 13, 14, 15, 16, 17, 18, 19]

/-- Number of phases of a converter. -/
def phaseCount (c : Conv) : Nat := (phasesOf c).length

/-- Both converters. -/
def convs : List Conv := [.feed, .storage]

def State.phase (s : State) (p : Fin 20) : Phase := s.pow.phases[p]

def State.setPhase (p : Fin 20) (x : Phase) (s : State) : State :=
  { s with pow := { s.pow with phases := s.pow.phases.set p x } }

def State.modPhase (p : Fin 20) (f : Phase → Phase) (s : State) : State := s.setPhase p (f (s.phase p))

def State.conv (s : State) : Conv → ConvSt
  | .feed => s.pow.feed
  | .storage => s.pow.storage

def State.setConv (c : Conv) (x : ConvSt) (s : State) : State :=
  match c with
  | .feed => { s with pow := { s.pow with feed := x } }
  | .storage => { s with pow := { s.pow with storage := x } }

def State.modConv (c : Conv) (f : ConvSt → ConvSt) (s : State) : State := s.setConv c (f (s.conv c))

def State.chan (s : State) (c : Fin 48) : ChanSt := s.pow.chans[c]

def State.modChan (c : Fin 48) (f : ChanSt → ChanSt) (s : State) : State :=
  { s with pow := { s.pow with chans := s.pow.chans.set c (f (s.pow.chans[c])) } }

def State.modPow (f : PowerState → PowerState) (s : State) : State := { s with pow := f s.pow }

/-- All phase units and channels. -/
def allPhases : List (Fin 20) := List.finRange 20
def allChans : List (Fin 48) := List.finRange 48

/-- Phases in service (0x300n.0D). -/
def State.inService (s : State) (c : Conv) : List (Fin 20) := (phasesOf c).filter (fun p => (s.phase p).inService)

/-- Phases that take part in the interleave: in service or being brought back (R113, R147). -/
def State.interleaved (s : State) (c : Conv) : List (Fin 20) :=
  (phasesOf c).filter (fun p => (s.phase p).inService || (s.phase p).rejoin)

/-- Is the phase switching or about to: RUN, STARTING or BURST_IDLE? -/
def PhaseState.live : PhaseState → Bool
  | .run | .starting | .burstIdle => true
  | _ => false

/-! ### Converter state (R491) -/

/-- Can no phase run, with at least one LATCHED? -/
def State.allLatched (s : State) (c : Conv) : Bool :=
  (phasesOf c).all (fun p => decide ((s.phase p).state = .latched) || !(s.phase p).inService) &&
  (phasesOf c).any (fun p => decide ((s.phase p).state = .latched))

/-- The state of a converter: DISABLED prevails, then LATCHED, then TRIPPED (R491). -/
def State.convState (s : State) (c : Conv) : ConvState :=
  let x := s.conv c
  if !s.getB (K.convEnable c.idx) then .disabled
  else if s.allLatched c || s.getB K.busOverVoltageLatch then .latched
  else if x.stopRule.isSome then .tripped
  else if !x.on then .stopped
  else if x.soft.isSome then .softStart
  else if x.burst then .burst
  else .running

/-- SOFT_START, RUNNING or BURST. -/
def State.convRuns (s : State) (c : Conv) : Bool :=
  match s.convState c with
  | .softStart | .running | .burst => true
  | _ => false

/-! ### Samples -/

/-- Sums of n successive values. -/
def movingSum (n : Nat) (l : List Nat) : List Nat :=
  let p := l.scanl (· + ·) 0
  List.zipWith (fun a b => b - a) p (p.drop n)

/-- A cascade of k moving sums: a sinc filter of order k. -/
def sincPass : Nat → Nat → List Nat → List Nat
  | 0, _, l => l
  | k + 1, n, l => sincPass k n (movingSum n l)

/-- Ones in the window of a sinc filter of order k and ratio n, its latest k(n-1)+1 bits, weighted by the filter's response;
n to the k when all are ones (R121, R122, R124). -/
def ChanSt.ones (x : ChanSt) (k n : Nat) : Nat :=
  (sincPass k n ((List.range (k * (n - 1) + 1)).map (fun i => (x.bits.getLsbD i).toNat))).headD 0

/-- A modulator bit received at a local time (R125, R490). -/
def ChanSt.receive (now : Nat) (x : ChanSt) (b : Bool) : ChanSt :=
  let run := if x.bits.getLsbD 0 = b then x.run + 1 else 1
  { x with bits := (x.bits <<< 1) ||| BitVec.ofNat 1024 b.toNat, run := run
           runAt := if 128 ≤ run then now else x.runAt, suspect := decide (16 ≤ run) }

/-- A sense sample (R124): clamp(gain * (2 * density - 1) + offset) in Q15, where the density is w of full. The Bool says it
clamped. -/
def State.sample (s : State) (c : Fin 48) (w full : Nat) : Int × Bool :=
  let v := rheDiv (s.get (K.chanGain c) * (2 * w - full) * 2) full + s.get (K.chanOffset c)
  let q := clampInt (-32768) 32767 v
  (q, decide (q ≠ v))

/-- The control path of a channel: sinc3 or sinc4 with its ratio (R121). -/
def State.controlPath (s : State) (c : Fin 48) : Int × Bool :=
  let k := s.getN (K.chanControlFilter c)
  let n := s.getN (K.chanControlRatio c)
  s.sample c ((s.chan c).ones k n) (n ^ k)

/-- The protection path of a channel: sinc3 with its ratio (R122). -/
def State.protectionPath (s : State) (c : Fin 48) : Int × Bool :=
  let n := s.getN (K.chanProtectionRatio c)
  s.sample c ((s.chan c).ones 3 n) (n ^ 3)

/-- A Q15 value of a channel in its milli-unit (0x3200+c.02). -/
def State.milli (s : State) (c : Nat) (q : Int) : Int := rheDiv (q * s.get (K.chanFullScale c)) 32768

/-- Control sample of a channel in milli-units. -/
def State.controlMilli (s : State) (c : Nat) : Int := s.milli c (s.get (K.chanControlSample c))

/-- The channels that hold a protection action (R123), lowest first. A channel of function 0 takes no part (R120). -/
def State.chanWithAction (s : State) (action : Nat) : Option (Fin 48) :=
  allChans.find? (fun c => decide (s.getN (K.chanProtectionAction c) = action) && decide (s.getN (K.chanFunction c) ≠ 0))

/-- The function a channel must have to hold an action (R123). -/
def fitsAction (action fn : Nat) : Bool :=
  match action with
  | 2 => decide (fn = 3)
  | 4 => decide (fn = 6) || decide (fn = 7)
  | 5 => decide (fn = 4)
  | _ => true

/-- May channel c, with that function, hold that action beside the other channels (R123)? Action 5 has one holder, action 4
one for each converter, action 2 one channel and its redundant partner. -/
def State.mayBind (s : State) (c : Fin 48) (action fn : Nat) : Bool :=
  let others := allChans.filter (fun d => decide (d ≠ c) && decide (s.getN (K.chanProtectionAction d) = action))
  fitsAction action fn &&
  (match action with
   | 2 => decide (others.length ≤ 1) && others.all (fun d =>
       decide (s.getN (K.chanRedundantPartner d) = c.val) || decide (s.getN (K.chanRedundantPartner c) = d.val))
   | 4 => others.all (fun d => decide (s.getN (K.chanFunction d) ≠ fn))
   | 5 => others.isEmpty
   | _ => true)

/-- The short-circuit channel of a converter: action 4, function 6 for storage and 7 for feed (R123). -/
def State.shortChan (s : State) (c : Conv) : Option (Fin 48) :=
  allChans.find? (fun k => decide (s.getN (K.chanProtectionAction k) = 4) &&
    decide (s.getN (K.chanFunction k) = (match c with | .storage => 6 | .feed => 7)))

/-- A channel is valid: not marked OPEN (R125). -/
def State.chanValid (s : State) (c : Fin 48) : Bool := !(s.chan c).open_

/-- The redundant partner of a channel (0x3200+c.12), if it names one. -/
def State.partner (s : State) (c : Fin 48) : Option (Fin 48) :=
  let n := s.getN (K.chanRedundantPartner c)
  if h : n < 48 then some ⟨n, h⟩ else none

/-- Rack bus voltage in mV by the channel of action 2, or its partner while that is OPEN (R125); channel 40 without one. -/
def State.busMilli (s : State) : Int :=
  match s.chanWithAction 2 with
  | none => s.controlMilli 40
  | some c =>
    if s.chanValid c then s.controlMilli c
    else match s.partner c with
      | some d => if s.chanValid d then s.controlMilli d else s.controlMilli c
      | none => s.controlMilli c

/-- Facility feed voltage in mV (channel of action 5). -/
def State.feedMilli (s : State) : Int :=
  match s.chanWithAction 5 with
  | some c => s.controlMilli c
  | none => s.controlMilli 41

/-- The facility feed lies within 700 V to 900 V (R129, R142). -/
def State.feedInWindow (s : State) : Bool := decide (700000 ≤ s.feedMilli) && decide (s.feedMilli ≤ 900000)

/-- Temperature of a phase in 0.1 degC, from its temperature channel (m degC). -/
def State.phaseTemp (s : State) (p : Fin 20) : Int :=
  rheDiv (s.controlMilli (s.getN (K.phaseTemperatureChannel p))) 100

/-- Current of a phase in mA. -/
def State.phaseCurrent (s : State) (p : Fin 20) : Int := s.controlMilli (s.getN (K.phaseCurrentChannel p))

/-! ### Current limit (R131, R139, R305) -/

/-- The limit otherwise in force: short-time rating, or continuous under the clamp, times n / N (R139). -/
def State.limitOtherwise (s : State) (c : Conv) : Nat :=
  let rating := if (s.conv c).overClamp then s.getN (K.convContinuousRating c.idx) else s.getN (K.convShortTimeRating c.idx)
  (rheDiv (rating * (s.inService c).length : Nat) (phaseCount c)).toNat

/-- Lowest of a limit and an optional cap. -/
def capBy (limit : Nat) : Option Nat → Nat
  | some cap => min limit cap
  | none => limit

/-- The current limit in force in mA (0x300n.0C): the lowest of the limits (R131, R139, R305, R308). -/
def State.currentLimit (s : State) (c : Conv) : Nat :=
  let base := s.limitOtherwise c
  match c with
  | .feed => base
  | .storage => capBy (capBy (capBy base ((s.conv .storage).soft.map (· / 1000))) (s.pow.taperCap.map (· / 1000)))
    (s.pow.holdCap.map (· / 1000))

/-! ### Carrier period (R113, R114) -/

/-- Shelf id: node id divided by 2 (R101). -/
def State.shelfId (s : State) : Nat := s.getN K.nodeNodeId / 2

/-- One step of the dither generator (R114). -/
def xorshift (x : BitVec 32) : BitVec 32 :=
  let x := x ^^^ (x <<< 13)
  let x := x ^^^ (x >>> 17)
  x ^^^ (x <<< 5)

/-- Draw the period that begins at a carrier boundary (R113, R114); a standby shortens it by what R429 found. -/
def State.drawPeriod (c : Conv) (s : State) : State :=
  let per := s.getN (K.convCarrierPeriod c.idx)
  let put := fun (p : Nat) (x : ConvSt) => { x with period := ((p : Int) - x.align).toNat, align := 0 }
  match s.getN (K.convDither c.idx) with
  | 0 => s.modConv c (put per)
  | 1 => s.modConv c (put (per + 2 * (s.shelfId % 32)))
  | _ =>
    let m := per / 200
    let g := xorshift (s.conv c).dither
    let u := g.toNat % (2 * m + 1)
    s.modConv c (fun x => put (per + 2 * u - 2 * m) { x with dither := g, draws := x.draws + 1 })

/-- An offset moved towards its slot by at most P/64 of the period that begins (R113, R146, R147). -/
def moveOffset (per cur slot : Nat) : Nat :=
  if cur ≤ slot then min slot (cur + per / 64) else max slot (cur - per / 64)

/-- The slot of a phase: round(k * P / n) for the k-th of n interleaved phases (R113). -/
def State.slot (s : State) (p : Fin 20) : Nat :=
  let ps := s.interleaved (convOf p)
  (rheDiv (ps.idxOf p * (s.conv (convOf p)).period : Nat) ps.length).toNat

/-- Counter value of a phase: the master count plus its interleave offset, modulo P (R113). -/
def State.position (s : State) (at_ : Carriers) (p : Fin 20) : Nat :=
  let count := match convOf p with | .feed => at_.feed | .storage => at_.storage
  (count + s.getN (K.phaseInterleaveOffset p)) % (s.conv (convOf p)).period

/-- Give the interleaved phases their offsets for the period that begins: the slots of R113, or a move towards them
(R146, R147). -/
def State.placeOffsets (c : Conv) (s : State) : State :=
  let ps := s.interleaved c
  let x := s.conv c
  let s' := s.each ps (fun p s => s.put (K.phaseInterleaveOffset p)
    (if x.moving then moveOffset x.period (s.getN (K.phaseInterleaveOffset p)) (s.slot p) else s.slot p))
  s'.modConv c (fun y => { y with
    moving := y.moving && !ps.all (fun p => decide (s'.getN (K.phaseInterleaveOffset p) = s'.slot p)) })

/-! ### Pulses (R115, R116, R118) -/

/-- Turn-on and turn-off of output X for an on-time h, centred on the peak (R115). -/
def dutyWindow (period h : Nat) : Nat × Nat := ((period - h) / 2, (period - h) / 2 + h)

/-- Is truncation in progress for the phase (R140)? -/
def State.truncated (s : State) (p : Fin 20) : Bool :=
  s.pow.truncating && s.getB (K.convTruncationEnable (convOf p).idx)

/-- Edges of output X for the period that begins: none while the pulse is limited or truncated (R136, R140). -/
def State.beginPulse (p : Fin 20) (s : State) : State :=
  let per := (s.conv (convOf p)).period
  let w := match convOf p with
    | .feed => (0, per / 2)
    | .storage => if (s.phase p).cut || s.truncated p then (0, 0) else dutyWindow per (s.getN (K.phaseCommandInForce p))
  s.modPhase p (fun x => { x with xOn := w.1, xOff := w.2 })

/-- Edges of output X when a new compare value, with the window w, acts at counter value t (R118): edges not yet passed move;
a turn-off edge already passed occurs at once, and a turn-on edge already passed waits for the next half period; no pulse is
shorter than MINP (DESIGN CHOICE, notes/assumptions/112). -/
def newPulse (minp half t : Nat) (old w : Nat × Nat) : Nat × Nat :=
  if t = 0 then w
  else if old.1 ≤ t ∧ t < old.2 then (old.1, max (max w.2 t) (old.1 + minp))
  else if old.1 < old.2 ∧ old.2 ≤ t then old
  else if half ≤ t then old
  else if t < w.1 then w
  else if half + minp ≤ w.2 then (half, w.2)
  else (0, 0)

/-- Output X ends at counter value t where it is on, and does not turn on where it has not yet been (R136, R140). -/
def Phase.endPulse (t : Nat) (x : Phase) : Phase :=
  if x.xOn ≤ t ∧ t < x.xOff then { x with xOff := t }
  else if t < x.xOn then { x with xOn := 0, xOff := 0 }
  else x

/-- CTL cycle of a counter value: 40 edge units of 150 ps are 9 cycles of 1.5 GHz. -/
def ctlCycle (t : Nat) : Nat := t * 9 / 40

/-- Is the fault input of a phase asserted and not masked (R136)? -/
def State.faultHeld (s : State) (p : Fin 20) : Bool :=
  let j := s.getN (K.phaseFaultInput p)
  s.pow.faultIn.getLsbD j && !(s.getN K.faultFaultInputMask).testBit j

/-- Levels of outputs X and Y of a phase at counter value t (R112, R115, R116, R136, R140). Both are off unless the phase
switches and the module drives its outputs (R47, R54). -/
def State.pwm (s : State) (p : Fin 20) (t : Nat) : Bool × Bool :=
  let x := s.phase p
  let per := (s.conv (convOf p)).period
  if !(x.switching && s.md.pins.maceOut && !s.md.poweredOff && !s.md.heldInReset) then (false, false)
  else
    match convOf p with
    | .storage =>
      let dt := s.getN (K.phaseDeadTime p)
      (decide (x.xOn ≤ t) && decide (t < x.xOff),
        !(decide (x.xOn < x.xOff) && decide (x.xOn ≤ t + dt) && decide (t < x.xOff + dt)))
    | .feed =>
      let shift := s.getN (K.phaseCommandInForce p)
      let on := decide (t < per / 2)
      (on, if x.follow || s.truncated p then on
           else (decide (shift ≤ t) && decide (t < shift + per / 2)) || decide (t + per < shift + per / 2))

/-! ### Phase transitions -/

/-- Take a phase to OFF: outputs off, any hiccup, retry or blend ended; the failure count stays (R137). -/
def Phase.toOff (x : Phase) : Phase :=
  { x with state := .off, pend := .none, retry := false, rejoin := false, switching := false, limitedRun := 0 }

/-- A phase leaves service (R146). -/
def State.phaseOut (p : Fin 20) (s : State) : State :=
  ((s.modPhase p (fun x => { x.toOff with inService := false })).modConv (convOf p)
    (fun x => { x with moving := true })).raiseOn Cause.phaseOutOfService p

/-- Enter HICCUP (R137): a failure within a retry is counted; at the retry limit the phase latches. -/
def State.enterHiccup (p : Fin 20) (s : State) : State :=
  let x := s.phase p
  let c := (convOf p).idx
  let fails := s.getN (K.phaseRetryFailures p) + (if x.retry then 1 else 0)
  let latch := decide (s.getN (K.convRetryLimit c) ≤ fails)
  let s := (s.inc (K.phaseHiccups p)).raiseOn Cause.phaseHiccup p
  let s := s.when x.retry (fun s =>
    (s.put (K.phaseRetryFailures p) fails).raise Cause.phaseRetryFailed (args p [(fails, 1)]))
  let s := s.when x.rejoin (fun s => s.raiseOn Cause.phaseRejoinFailed p)
  let s := s.modPhase p (fun y => { y with
    state := if latch then .latched else .hiccup, pend := .none, retry := false, rejoin := y.rejoin && !latch,
    switching := false, limitedRun := 0, since := s.now })
  let s := s.when latch (fun s => s.raiseOn Cause.phaseLatched p)
  -- R132: with every phase in HICCUP the ramp is abandoned; R491: with none left that can run the converter is at rest
  let gone := (s.inService (convOf p)).all (fun q => decide ((s.phase q).state = .hiccup) || decide ((s.phase q).state = .latched))
  let s := s.when gone (fun s => s.modConv (convOf p) (fun y => { y with soft := none, softHeld := false }))
  s.when (s.allLatched (convOf p)) (fun s => s.modConv (convOf p) (fun y => { y with
    on := false, stopPend := false, burst := false, packet := none
    stopRule := if y.stopRule = some .trip then none else y.stopRule }))

/-- A converter-level trip: every phase in RUN, STARTING or BURST_IDLE enters HICCUP; one already there is unchanged
(R137, R138, R139). -/
def State.tripConv (c : Conv) (s : State) : State :=
  let s := s.each (phasesOf c) (fun p s => s.when (s.phase p).state.live (State.enterHiccup p))
  s.modConv c (fun x => { x with stopRule := if x.on then some .trip else x.stopRule, burst := false, packet := none })

/-- Stop a converter now: every phase not LATCHED and not in TEMP_STOP goes OFF (R137, R141). -/
def State.convOff (c : Conv) (s : State) : State :=
  let s := s.each (phasesOf c) (fun p s => s.modPhase p (fun x =>
    match x.state with
    | .latched | .tempStop => { x with switching := false, pend := .none }
    | _ => x.toOff))
  s.modConv c (fun x => { x with
    on := false, stopPend := false, burst := false, soft := none, softHeld := false, packet := none, waitFeed := false
    waitBus := false, stopRule := if x.stopRule = some .trip then none else x.stopRule })

/-- Stop a converter at its carrier boundary, under a stopping rule (R125, R142, R187). -/
def State.stopConv (c : Conv) (rule : StopRule) (s : State) : State :=
  if (s.conv c).on then s.modConv c (fun x => { x with stopPend := true, stopRule := some rule })
  else s

/-- Start the phases of a converter: each in service, not LATCHED and not in TEMP_STOP, is STARTING with trim weight 0
(R129). -/
def State.startPhases (c : Conv) (s : State) : State :=
  s.each (s.inService c) (fun p s =>
    match (s.phase p).state with
    | .latched | .tempStop => s
    | _ => (s.modPhase p (fun x => { x with state := .starting, pend := .start, retry := false, rejoin := false,
                                            limitedRun := 0, since := s.now })).put (K.phaseTrimWeight p) 0)

/-- A channel whose loss stops the converter is OPEN and no valid partner stands for it (R125). -/
def State.senseMissing (s : State) (c : Conv) : Bool :=
  let lost := fun k : Option (Fin 48) => match k with
    | some k => !s.chanValid k && !(match s.partner k with | some d => s.chanValid d | none => false)
    | none => false
  lost (s.chanWithAction 2) || lost (s.shortChan c) || (decide (c = .feed) && lost (s.chanWithAction 5))

/-- Is the restart condition of the rule that stopped the converter met (R491)? -/
def State.ruleMet (s : State) (c : Conv) : Bool :=
  match (s.conv c).stopRule with
  | none => true
  | some .trip => false
  | some .sense => !s.senseMissing c
  | some .busOv => decide (10000 ≤ s.pow.busLow) && !s.getB K.busOverVoltageLatch
  | some .feed => decide (s.getN K.feedFeedRestartDelay * 1000 ≤ s.pow.feedOk)
  | some .core => s.card.cores.toList.any (fun x : CoreSt => decide (x.state = .running) &&
      (match x.prog with | some g => g.portsOwned.getLsbD c.idx | none => false))

/-- May the converter start (R129, R491): enabled, not latched, with a phase in service, the condition of its stopping rule
met; on a module without the mace only after a protection stop (R112). -/
def State.mayStart (s : State) (c : Conv) : Bool :=
  let x := s.conv c
  s.getB (K.convEnable c.idx) && !s.allLatched c && !s.getB K.busOverVoltageLatch && !x.on &&
  decide ((s.inService c).length ≠ 0) && s.ruleMet c && decide (s.md.shutdown ≠ .stopping) &&
  decide (s.md.shutdown ≠ .halted) &&
  (s.md.pins.maceOut || x.stopRule.isSome || x.waitFeed || x.waitBus)

/-- Is the reference at the target (R127)? -/
def State.showAtTarget (s : State) : State :=
  s.putB K.busAtTarget (decide ((s.pow.refMicro : Int) = s.get K.busVoltageTarget * 1000))

/-- State address of p_f in the standard image of core 0 (DESIGN CHOICE, notes/assumptions/113). -/
abbrev pfAddress : Nat := 0x001

/-- p_f of the standard image of core 0. -/
def State.feedPower (s : State) : Int := (s.card.cores[0]).sm.get (fun _ => 0) pfAddress

/-- Set p_f where core 0 runs the standard image (R130). -/
def State.putFeedPower (p : Int) (s : State) : State :=
  let c := s.card.cores[0]
  let standard : Bool := match c.prog with | some g => decide (g.code = .standard) | none => false
  if standard then
    { s with card := { s.card with cores := s.card.cores.set 0 { c with sm := c.sm.put (fun _ => 0) pfAddress p } } }
  else s

/-- The soft start of a converter that starts from rest: the reference from the measured bus below 760 V, else zero feed
power (R130); the storage current limit from 0 (R131). -/
def State.softStart (c : Conv) (s : State) : State :=
  match c with
  | .storage => s.modConv .storage (fun x => { x with soft := some 0, softHeld := false })
  | .feed =>
    if s.busMilli < 760000 then
      let v := (s.busMilli * 1000).toNat
      (((s.modPow (fun w => { w with refMicro := v })).put K.busReferenceInForce ((v / 1000 : Nat) : Int)).modConv .feed
        (fun x => { x with soft := some v, softHeld := false })).showAtTarget
    else s.putFeedPower 0

/-- Start a converter from rest (R129). -/
def State.startConv (c : Conv) (s : State) : State :=
  let s := s.modConv c (fun x => { x with on := true, stopPend := false, stopRule := none, waitFeed := false, waitBus := false, softHeld := false })
  (s.startPhases c).softStart c

/-- Start the feed converter when its facility feed lies in the window; otherwise it waits for the restart delay (R129). -/
def State.tryFeed (s : State) : State :=
  if !s.mayStart .feed then s
  else if s.feedInWindow && (!(s.conv .feed).waitFeed || decide (s.getN K.feedFeedRestartDelay * 1000 ≤ s.pow.feedOk)) then
    s.startConv .feed
  else s.modConv .feed (fun x => { x with waitFeed := true, stopRule := none })

/-- Start the storage converter when the rack bus has reached 760 V, or at once if the feed converter cannot start;
otherwise it waits (R129). -/
def State.tryStorage (s : State) : State :=
  if !s.mayStart .storage then s
  else if decide (760000 ≤ s.busMilli) || !(s.conv .feed).on then s.startConv .storage
  else s.modConv .storage (fun x => { x with waitBus := true, stopRule := none })

/-- The start of the converters (R129). -/
def State.startConverters (s : State) : State := s.tryFeed.tryStorage

/-- The start of those converters only that a rule had stopped (R129, R491). -/
def State.startWaiting (l : List Conv) (s : State) : State :=
  (s.when (l.contains .feed) State.tryFeed).when (l.contains .storage) State.tryStorage

/-! ### From command to edges (R117) -/

/-- The compare value of a phase for a command, and whether it was clamped (R117) (DESIGN CHOICE, notes/assumptions/19). -/
def State.compareValue (s : State) (p : Fin 20) (common : Int) : Nat × Bool :=
  let period := (s.conv (convOf p)).period
  let dt := s.getN (K.phaseDeadTime p)
  let minp := s.getN (K.phaseMinimumPulse p)
  let c := common + rheDiv (s.get (K.phaseTrimWeight p) * s.get (K.phaseTrim p)) 32768
  let c' := clampInt 0 32767 c
  let cut := decide (c' ≠ c)
  match convOf p with
  | .storage =>
    let h := (rheDiv (c' * period) 32768).toNat
    let h := if h < minp then 0 else h
    let top := period - 2 * dt - minp
    if top < h then (top, true) else (h, cut)
  | .feed =>
    let v := (rheDiv (c' * period) 65536).toNat
    if 0 < v ∧ v < dt + minp then (dt + minp, true) else (v, cut)

/-- A write of a converter's common command: a shadow load of every phase in service or blending (R117, R118, R147, R162). -/
def State.commandWrite (c : Conv) (common : Int) (s : State) : State :=
  let s := s.modConv c (fun x => { x with command := common })
  s.each (s.interleaved c) (fun p s =>
    let v := s.compareValue p common
    (s.modPhase p (fun x => { x with shadow := v.1 })).when (v.2 && (s.phase p).inService)
      (State.inc (K.convCommandClamps c.idx)))

/-- The first command of a phase that starts pre-biased (R129, R147): the common command with trim weight 0; half the shift
where the phase is brought back (DESIGN CHOICE, notes/assumptions/112). -/
def State.preBias (p : Fin 20) (back : Bool) (s : State) : State :=
  let s := s.put (K.phaseTrimWeight p) 0
  let v := (s.compareValue p (s.conv (convOf p)).command).1
  let first : Int := match convOf p with | .feed => if back then rheDiv v 2 else v | .storage => v
  ((s.modPhase p (fun y => { y with shadow := v, goal := v })).put (K.phaseCommandInForce p) first).beginPulse p

/-! ### Bus reference (R126 to R128) -/

/-- An accepted target (R126 to R128): targets take effect in the order of their stamps, a clove after a host write of the same
stamp; every one counts in the sequence, which moves in the same instant as the flag. -/
def State.setTarget (mv : Int) (stamp : Nat) (clove : Bool) (s : State) : State :=
  let w := s.pow
  let after := decide (w.targetStamp < stamp) || (decide (w.targetStamp = stamp) && (clove || !w.targetClove))
  let s := s.when after (fun s =>
    ({ s with pow := { s.pow with targetStamp := stamp, targetClove := clove } }).put K.busVoltageTarget mv)
  (s.inc K.busTargetSequence).showAtTarget

/-- One tick of the reference (R127), or of the feed soft start (R130). Values in µV. -/
def slewRef (ref target rate : Int) : Int :=
  let d := target - ref
  if d.natAbs ≤ rate.toNat then target else if 0 < d then ref + rate else ref - rate

/-- Is any phase of the converter limited in the current period or in HICCUP (R132)? -/
def State.rampHeld (s : State) (c : Conv) : Bool :=
  (s.inService c).any (fun p => (s.phase p).limitedNow || decide ((s.phase p).state = .hiccup))

/-- Leave burst: the phases resume at their next update point (R133, R134). -/
def State.burstExit (c : Conv) (s : State) : State :=
  if (s.conv c).burst then
    let s := s.each (phasesOf c) (fun p s => s.when (decide ((s.phase p).state = .burstIdle))
      (State.modPhase p (fun x => { x with pend := .resume })))
    (s.modConv c (fun x => { x with burst := false, packet := none, burstRun := 0 })).raiseOn Cause.burstExit c.idx
  else s

/-- The reference the burst logic reads (R133): port 0x02 of the admitted program that owns it, in mA; none without one
(R162). -/
def State.storageReference (s : State) : Option Int :=
  (s.card.cores.toList.find? (fun x : CoreSt => match x.prog with | some g => g.portsOwned.getLsbD 2 | none => false)).map
    (fun x => rheDiv (x.ports.get (fun _ => 0) 2 * 2000000) 32768)

/-- The reference stays within the entry band for another tick, or the run begins anew (R133). -/
def State.burstTick (s : State) : State :=
  let near := match s.storageReference with
    | some i => decide (i.natAbs ≤ s.getN (K.convBurstEntry 1))
    | none => false
  s.modConv .storage (fun x => { x with burstRun := if near then x.burstRun + 1 else 0 })

/-- A notice or a SET_REG ends storage burst (R133). -/
def State.wakeBurst (s : State) : State :=
  s.when (s.conv .storage).burst (State.modPow (fun w => { w with burstWake := true }))

/-- Does a condition that ends burst hold (R133, R134)? Burst that is no longer enabled ends as well
(DESIGN CHOICE, notes/assumptions/112). -/
def State.burstOver (s : State) : Conv → Bool
  | .storage => s.pow.burstWake || !s.getB (K.convBurstEnable 1) ||
      (match s.storageReference with | some i => decide (s.getN (K.convBurstExit 1) ≤ i.natAbs) | none => true) ||
      decide (s.getN (K.convBurstBand 1) < (s.busMilli - s.get K.busReferenceInForce).natAbs)
  | .feed => !s.getB (K.convBurstEnable 0) || decide (s.get (K.convBurstExit 0) < s.pow.feedAvg) ||
      !(s.conv .storage).burst

/-- Enter burst: every running phase idles with its outputs off (R133, R134). -/
def State.burstEnter (c : Conv) (s : State) : State :=
  let s := s.each (phasesOf c) (fun p s => s.when (decide ((s.phase p).state = .run))
    (State.modPhase p (fun x => { x with state := .burstIdle, switching := false })))
  ((s.modConv c (fun x => { x with burst := true, packet := none })).modPow (fun w => { w with
    burstWake := w.burstWake && decide (c ≠ .storage) })).raiseOn Cause.burstEnter c.idx

/-- A phase stops for temperature: at its next carrier boundary when it switches, else at once (R143, Table 5-5). -/
def State.tempStop (p : Fin 20) (s : State) : State :=
  if (s.phase p).switching then s.modPhase p (fun x => { x with pend := .tempStop })
  else s.modPhase p (fun x => { x.toOff with state := .tempStop })

/-- The sequence that brings a phase back (Table 5-7); with its converter stopped only its first row applies (R147). -/
def State.bringBack (p : Fin 20) (s : State) : State :=
  let c := convOf p
  if (s.conv c).on then
    ((s.modPhase p (fun x => { x with state := .off, rejoin := true, pend := .rejoin })).modConv c
      (fun x => { x with moving := true })).put (K.phaseTrimWeight p) 0
  else s.modPhase p (fun x => { x with state := .off, inService := true })

end Sys2Proof.Machine
end

