-- ==== Sys2Proof/Machine/QueueOps.lean ====
section
/-! DEFINITION. The pool of cells and its queues: what every producer and consumer shares (spec/15). -/

namespace Sys2Proof.Machine

/-! ### Occupancy (R392, R393) -/

/-- Cells of a number of bytes. -/
def cellsOf (bytes : Nat) : Nat := (bytes + 63) / 64

/-- Cells an item holds: of what has been written. -/
def QItem.cells (i : QItem) : Nat := cellsOf i.written

def QItem.complete (i : QItem) : Bool := decide (i.length ≤ i.written)

/-- Occupancy of a queue in cells, on the die or spilled. -/
def Queue.occ (x : Queue) : Nat := (x.items.map QItem.cells).sum
def Queue.spilled (x : Queue) : Nat := (x.items.map (·.spilled)).sum
def Queue.onDie (x : Queue) : Nat := x.occ - x.spilled

/-- A queue that holds nothing. -/
def Queue.empty (q : Nat) : Queue := { q := q, items := [], high := false, waiting := none, dropRecordedAt := none }

def State.queue (s : State) (q : Nat) : Queue := (s.que.queues.find? (fun x : Queue => decide (x.q = q))).getD (Queue.empty q)

/-- Put a queue at its place by number; an untouched queue is not listed. -/
def insertQueue (x : Queue) : List Queue → List Queue
  | [] => [x]
  | y :: rest => if x.q < y.q then x :: y :: rest else if x.q = y.q then x :: rest else y :: insertQueue x rest

def State.setQueue (x : Queue) (s : State) : State :=
  let others := s.que.queues.filter (fun y : Queue => decide (y.q ≠ x.q))
  { s with que := { s.que with queues := if x = Queue.empty x.q then others else insertQueue x others } }

/-! ### Space (R398 to R400) -/

/-- Free cells of the shared part of the pool. -/
def State.sharedFree (s : State) : Nat :=
  131072 - s.getN K.poolGuaranteedTotal -
    (s.que.queues.map (fun x : Queue => x.onDie - s.getN (K.queueGuaranteedCells x.q))).sum

/-- Cells in the overflow region. -/
def State.spilledCells (s : State) : Nat := (s.que.queues.map Queue.spilled).sum

/-- Queues of Table 15-1; the others are reserved and hold nothing (R394). -/
def queueUsed (q : Nat) : Bool := decide (q < 35) || (decide (64 ≤ q) && decide (q < 178))

/-- Cells a queue can still take on the die: up to its guarantee, and beyond it shared cells up to its maximum (R398). -/
def State.dieRoom (s : State) (x : Queue) : Nat :=
  let g := s.getN (K.queueGuaranteedCells x.q)
  let m := s.getN (K.queueMaximumCells x.q)
  (g - x.onDie) + min (max m g - max g x.onDie) s.sharedFree

/-- Can a queue take n more cells, and how many of them stand in GDDR7 then (R399, R400)? -/
def State.room (s : State) (x : Queue) (n : Nat) : Option Nat :=
  let d := s.dieRoom x
  if !queueUsed x.q then none
  else if n ≤ d then some 0
  else if s.getB (K.queueSpillEnable x.q) ∧ !s.md.shed ∧ s.spilledCells + (n - d) ≤ s.getN K.poolSpillCapacity then some (n - d)
  else none

/-! ### Watermarks (R401 to R403) -/

/-- Link channels a queue drives (Table 15-1). -/
def queueChannels (q : Nat) : List Nat :=
  if q ≤ 32 then [1] else if q = 33 ∨ q = 34 then [2, 3] else if 80 ≤ q ∧ q < 176 then [(q - 80) % 3 + 1] else []

/-- Is the freed count of a link's channel withheld: some queue that drives it is HIGH (R402)? -/
def State.withheld (s : State) (link ch : Nat) : Bool :=
  s.que.queues.any (fun x : Queue => x.high && (queueChannels x.q).contains ch && (s.getN (K.queueCreditMask x.q)).testBit link)

/-- XOFF pins: each is driven while a queue or pool condition that names it remains (R402, R403). -/
def State.driveXoff (s : State) : State :=
  let on := fun pin : Nat =>
    s.que.queues.any (fun x : Queue => x.high && decide (s.getN (K.queueXOFFPin x.q) = pin)) ||
    (s.que.poolLow && decide (s.getN K.poolPoolLowPin = pin))
  { s with md := { s.md with pins := { s.md.pins with xoff0 := on 1, xoff1 := on 2 } } }

/-- Is it a host ingress queue, whose HIGH sends PFC frames? Port and priority. -/
def pfcOf (q : Nat) : Option (Nat × Nat) :=
  if 64 ≤ q ∧ q < 72 then some (0, q - 64) else if 72 ≤ q ∧ q < 80 then some (1, q - 72) else none

/-- Add 1 to the first or second of the two U64 counts of a 16-byte object (Table 14-8); past its width free, as in
countBy. -/
def State.incHalf (k : Nat) (second : Bool) (s : State) : State :=
  let b := s.getBytes k 16
  let a := leNat (b.take 8)
  let c := leNat (b.drop 8)
  let v := (if second then c else a) + 1
  let full := decide (2 ^ 64 ≤ v)
  let v := if full then s.freeNat else v
  let s := if full then s.useFree else s
  s.putBytes k (if second then leBytes 8 a ++ leBytes 8 v else leBytes 8 v ++ leBytes 8 c)

/-- Send a PFC frame of a queue with quanta on an enabled priority (R371, R402). -/
def State.sendPfc (q quanta : Nat) (s : State) : State :=
  match pfcOf q with
  | some p =>
    if (s.getN (K.portPFCPriorities p.1)).testBit p.2 then
      (s.incHalf (K.portPFCFramesReceivedSent p.1) true).send (.pfc p.1 p.2 quanta)
    else s
  | none => s

/-- The pool's LOW condition after a change (R403). -/
def State.poolCheck (s : State) : State :=
  let free := s.sharedFree
  let t := s.getN K.poolPoolLowThreshold
  if !s.que.poolLow && decide (free < t) then
    ({ s with que := { s.que with poolLow := true } }).raise Cause.poolLow (args0 [(free, 4)])
  else if s.que.poolLow && decide (2 * t ≤ free) then
    ({ s with que := { s.que with poolLow := false } }).raise Cause.poolRecovered (args0 [(free, 4)])
  else s

/-- After a change of a queue's occupancy: HIGH entry and release, and what they drive (R401, R402). -/
def State.watermark (q : Nat) (s : State) : State :=
  let x := s.queue q
  let occ := x.occ
  let s := s.putMax (K.queueOccupancyHighMark q) occ
  let high := s.getN (K.queueHighWatermark q)
  let s :=
    if !x.high && decide (0 < high) && decide (high ≤ occ) then
      (((s.setQueue { x with high := true }).inc (K.queueHighEpisodes q)).raise Cause.queueHigh
        (args q [(occ, 4)])).sendPfc q 0xFFFF
    else if x.high && decide (occ ≤ s.getN (K.queueLowWatermark q)) then
      ((s.setQueue { x with high := false }).raise Cause.queueReleased (args q [(occ, 4)])).sendPfc q 0
    else s
  s.poolCheck.driveXoff

/-! ### Writing and dropping (R393, R399) -/

/-- QUEUE_DROP at most once a second for each queue (R399). -/
def State.dropItem (q : Nat) (s : State) : State :=
  let s := s.inc (K.queueItemsDropped q)
  let x := s.queue q
  if (match x.dropRecordedAt with | some t => decide (t + sec ≤ s.now) | none => true) then
    (s.setQueue { x with dropRecordedAt := some s.now }).raiseOn Cause.queueDrop q
  else s

/-- Is an item visible (R395)?  One that a consumer is already part-way through is not delivered again (R396). -/
def State.visible (s : State) (q : Nat) (i : QItem) : Bool :=
  let t := s.getN (K.queueCutThroughThreshold q)
  !i.started && i.complete || !i.started && (decide (t ≠ 0) && decide (t ≤ i.written))

/-- The head of a priority's list. -/
def Queue.head (x : Queue) (prio : Nat) : Option QItem := x.items.find? (fun i => decide (i.prio = prio))

/-- The item a read delivers (R395): the visible head of the highest priority; `skip` names priorities passed over. -/
def State.readable (s : State) (x : Queue) (skip : Nat → Bool) : Option QItem :=
  ([7, 6, 5, 4, 3, 2, 1, 0].filterMap (fun p => if skip p then none else
    match x.head p with
    | some i => if s.visible x.q i then some i else none
    | none => none)).head?

/-- Do the consumers of a queue drop a poisoned item and count it: dispatcher, clove schedule and management firmware?
Transmitters send it on as an abort or with a bad check sequence (R405). -/
def dropsPoison (q : Nat) : Bool := decide (q < 80)

/-- Hand an item to the consumer: complete items leave the queue; a consumer that starts on an incomplete one reads on as
its cells arrive (R396). A poisoned item is marked so, and dropped and counted by the consumers that drop it (R405). -/
def State.deliver (q : Nat) (i : QItem) (s : State) : State :=
  let x := s.queue q
  let s := s.when (i.poison && dropsPoison q) (State.inc (K.queuePoisonedItems q))
  let items := if i.complete then x.items.filter (fun y => decide (y.id ≠ i.id))
    else x.items.map (fun y => if y.id = i.id then { y with started := true } else y)
  ((s.setQueue { x with items := items, waiting := none }).send (.item q (some i) i.abandoned)).watermark q

/-- A waiting stalling read takes the first item to become visible (R397). -/
def State.wakeRead (q : Nat) (s : State) : State :=
  let x := s.queue q
  if x.waiting.isSome then
    match s.readable x (fun _ => false) with
    | some i => s.deliver q i
    | none => s
  else s

/-- A consumer part-way through an item that is gone receives ABANDONED (R396, R404). -/
def State.abandonTo (q : Nat) (i : QItem) (s : State) : State :=
  s.when i.started (fun s => s.send (.item q (some { i with abandoned := true }) true))

/-- A queue has taken more of an item: a whole one is counted, and handed on at once to a consumer that has read it as it
came (R396). -/
def State.itemGrown (q : Nat) (i : QItem) (s : State) : State :=
  let s := (s.when i.complete (State.inc64 (K.queueItemsWritten q))).watermark q
  if i.complete && i.started then s.deliver q i else s.wakeRead q

/-- A queue takes an item as it stands now, in its place among the queue's items; it held some cells before. An item that
cannot be given its next cell is dropped whole, and the rest remains (R399). -/
def State.putItem (q had : Nat) (i : QItem) (place : QItem → List QItem) (rest : List QItem) (s : State) : State :=
  let x := s.queue q
  match s.room x (i.cells - had) with
  | some spilled => (s.setQueue { x with items := place { i with spilled := i.spilled + spilled } }).itemGrown q
      { i with spilled := i.spilled + spilled }
  | none => (((s.setQueue { x with items := rest }).dropItem q).abandonTo q i).watermark q

/-- The first bytes of a new item, which joins the back of its queue. -/
def State.addItem (q : Nat) (i : QItem) (s : State) : State :=
  let l := (s.queue q).items
  s.putItem q 0 i (fun i => l ++ [i]) l

/-- Further bytes of an item being written. -/
def State.growItem (q : Nat) (old i : QItem) (s : State) : State :=
  let l := (s.queue q).items
  s.putItem q old.cells i (fun i => l.map (fun y => if y.id = i.id then i else y)) (l.filter (fun y => decide (y.id ≠ i.id)))

/-- A new whole item: its bytes, priority and arrival stamp (DESIGN CHOICE, notes/assumptions/31). -/
def State.enqueue (q prio stamp : Nat) (bytes : List Byte) (s : State) : State :=
  let id := s.que.nextItem
  let s := { s with que := { s.que with nextItem := id + 1 } }
  s.addItem q { id := id, length := bytes.length, written := bytes.length, prio := prio, stamp := stamp, poison := false,
                  abandoned := false, spilled := 0, started := false, data := bytes }

/-- FLUSH (R404): the queue reads empty; a consumer part-way through an item receives ABANDONED. -/
def State.flushQueue (q : Nat) (s : State) : State :=
  let x := s.queue q
  let part := x.items.filter (fun i => i.started)
  let s := s.setQueue { x with items := [], high := false }
  let s := s.each part (State.abandonTo q)
  let s := s.when x.high (fun s => (s.raise Cause.queueReleased (args q [(0, 4)])).sendPfc q 0)
  (((s.inc (K.queueFlushes q)).raiseOn Cause.queueFlushed q).poolCheck).driveXoff

/-- An item being written is abandoned by its producer (R396): its cells are freed; a consumer that has started on it
receives ABANDONED. -/
def State.abandonItem (q id : Nat) (s : State) : State :=
  let x := s.queue q
  match x.items.find? (fun i => decide (i.id = id)) with
  | none => s
  | some i =>
    let s := s.setQueue { x with items := x.items.filter (fun y => decide (y.id ≠ id)) }
    (s.abandonTo q i).watermark q

/-- Every queue is empty after a reset (R405). -/
def State.emptyQueues (s : State) : State :=
  { s with que := { s.que with queues := [], poolLow := false } }

/-- Take the front item of a non-blocking consumer (R397); a poisoned item is dropped and counted (R405). -/
def State.takeItem (q : Nat) (s : State) : State × Option QItem :=
  let x := s.queue q
  match s.readable x (fun _ => false) with
  | none => (s, none)
  | some i =>
    let s := (s.setQueue { x with items := x.items.filter (fun y => decide (y.id ≠ i.id)) }).watermark q
    if i.poison && dropsPoison q then (s.inc (K.queuePoisonedItems q), none) else (s, some i)

end Sys2Proof.Machine
end

