-- ==== Sys2Proof/Machine/Route.lean ====
section
/-! DEFINITION. Flits and where they go: the layout of Table 13-3, the route lookup of R357, self-routes (R359), the
transmit queues (spec/13; spec/15, R394). -/

namespace Sys2Proof.Machine

/-! ### Links -/

/-- A link's profile (0x2400+n.01), its state (0x2400+n.03), whether it is UP. -/
def State.profile (s : State) (n : Nat) : Nat := s.getN (K.linkProfile n)
def State.linkStateOf (s : State) (n : Nat) : Nat := s.getN (K.linkState n)
def State.linkUp (s : State) (n : Nat) : Bool := decide (s.getN (K.linkState n) = 5)
def State.upLinks (s : State) : List Nat := (List.range 32).filter s.linkUp

/-- PAIR and FABRIC links in UP: the links that carry forwarded flits. -/
def State.fabricLinks (s : State) : List Nat := s.upLinks.filter (fun n => decide (2 ≤ s.profile n))

/-- PAIR links in UP (R361). -/
def State.pairLinks (s : State) : List Nat := s.upLinks.filter (fun n => decide (s.profile n = 2))

def State.modFab (f : FabricSt → FabricSt) (s : State) : State := { s with fab := f s.fab }

def State.link (s : State) (n : Fin 32) : LinkSt := s.fab.links[n]

/-- Receive buffers of a channel (R344); channel 0 takes no credits. -/
def buffersOf (v : Nat) : Nat := if v = 1 then 64 else 128

/-- Credits held for a channel. -/
def Credit.held (v : Nat) (c : Credit) : Nat := buffersOf v - (c.sent + 256 - c.peerFreed) % 256

def LinkSt.credit (x : LinkSt) (v : Nat) : Credit := x.credits.toList.getD v .zero

def State.modLink (n : Fin 32) (f : LinkSt → LinkSt) (s : State) : State :=
  s.modFab (fun b => { b with links := b.links.set n (f b.links[n]) })

/-- The module has a node id: its shelf id is at most 511 (R356). -/
def State.hasNode (s : State) : Bool := decide (s.getN K.nodeNodeId < 1024)

/-- Does the module subscribe to a multicast group (0x2310)? -/
def State.subscribes (s : State) (g : Nat) : Bool :=
  ((s.getBytes K.cloveGroupSubscriptions 32).getD (g / 8) 0).getLsbD (g % 8)

/-- An active or hot standby module originates its shelf's frames; a cold standby none (R438). -/
def State.originates (s : State) : Bool := decide (s.md.mode = .active) || decide (s.md.mode = .hotStandby)

/-! ### Flits (Table 13-3) -/

/-- Flit types (Table 13-4). -/
abbrev flitIdle : Nat := 0
abbrev flitTiming : Nat := 1
abbrev flitClove : Nat := 2
abbrev flitTray : Nat := 3
abbrev flitControl : Nat := 4
abbrev flitMessage : Nat := 5
abbrev flitAuth : Nat := 6

/-- The number in bytes a to a + n of a list, least-significant byte first. -/
def wordAt (l : List Byte) (a n : Nat) : Nat := leNat ((l.drop a).take n)

/-- Bytes cut or filled with zeros to a length. -/
def padTo (n : Nat) (l : List Byte) : List Byte := (l ++ List.replicate (n - l.length) 0).take n

/-- A 64-byte flit with a payload of up to 40 bytes; sequence, credits and tag are filled in when it is sent. -/
def mkFlit (type dest source channel : Nat) (payload : List Byte) : List Byte :=
  [0x10, BitVec.ofNat 8 type] ++ leBytes 2 dest ++ leBytes 2 source ++ [BitVec.ofNat 8 (channel + 12), 0] ++
  padTo 40 payload ++ List.replicate 16 0

/-- The node id a module writes as source: 0x3FF when it has none (Table 13-3). -/
def State.sourceNode (s : State) : Nat := if s.hasNode then s.getN K.nodeNodeId else 0x3FF

def flitType (f : List Byte) : Nat := wordAt f 1 1
def flitDest (f : List Byte) : Nat := wordAt f 2 2
def flitKind (f : List Byte) : Nat := flitDest f / 16384
def flitSource (f : List Byte) : Nat := wordAt f 4 2 % 1024
def flitHops (f : List Byte) : Nat := wordAt f 4 2 / 1024
def flitChannel (f : List Byte) : Nat := wordAt f 6 1 % 4
def flitPayload (f : List Byte) : List Byte := (f.drop 8).take 40

/-- A flit with a new hop count. -/
def withHops (h : Nat) (f : List Byte) : List Byte := f.take 4 ++ leBytes 2 (flitSource f + 1024 * h) ++ f.drop 6

/-! ### Self-routes (R359) -/

/-- Nodes one hop beyond a frontier of (node, first link), with the first link that reaches them. -/
def expand (db : List LinkState) (seen frontier : List (Nat × Nat)) : List (Nat × Nat) :=
  frontier.foldl (fun (acc : List (Nat × Nat)) (e : Nat × Nat) =>
    match db.find? (fun x : LinkState => decide (x.node = e.1)) with
    | none => acc
    | some x => x.peers.toList.foldl (fun (acc : List (Nat × Nat)) p =>
        if p = 0xFFFF || (seen ++ acc).any (fun y : Nat × Nat => decide (y.1 = p)) then acc else acc ++ [(p, e.2)]) acc) []

/-- Shortest paths by hop count, breadth first; the frontier is in rising order of first link, so ties go to the lower. -/
def shortest (db : List LinkState) : Nat → List (Nat × Nat) → List (Nat × Nat) → List (Nat × Nat)
  | 0, seen, _ => seen
  | n + 1, seen, frontier =>
    let next := expand db seen frontier
    if next.isEmpty then seen else shortest db n (seen ++ next) next

/-- Own neighbours on PAIR and FABRIC links in UP, by rising link, each node once. -/
def State.neighbours (s : State) : List (Nat × Nat) :=
  s.fabricLinks.foldl (fun (acc : List (Nat × Nat)) n =>
    let p := s.getN (K.linkPeerNode n)
    if p = 0xFFFF || acc.any (fun y : Nat × Nat => decide (y.1 = p)) then acc else acc ++ [(p, n)]) []

/-- Self-routes (0x2221): first link to every node, 255 for none. -/
def State.computeRoutes (s : State) : List Byte :=
  let me := s.getN K.nodeNodeId
  let near := s.neighbours
  let found := shortest s.fab.database 1024 near near
  (List.range 1024).map (fun d =>
    if d = me then 255
    else match found.find? (fun e : Nat × Nat => decide (e.1 = d)) with
      | some e => BitVec.ofNat 8 e.2
      | none => 255)

/-- Route source (0x2201.07): host tables hold an entry, self-routes hold one. -/
def State.showRouteSource (s : State) : State :=
  let host := (s.getBytes K.routeUnicastTableInForce 2048).any (fun b => decide (b ≠ 255)) ||
    (s.getBytes K.routeMulticastTableInForce 1024).any (fun b => decide (b ≠ 0))
  let self := s.getB K.fabSelfRouteEnable && (s.getBytes K.fabSelfRoutes 1024).any (fun b => decide (b ≠ 255))
  s.put K.fabRouteSource (match host, self with
    | false, false => 0
    | true, false => 1
    | true, true => 2
    | false, true => 3)

/-- Compute the self-routes again after a change of the database or the own links (R359); an episode of
SELF_ROUTE_IN_USE ends with it (DESIGN CHOICE, notes/assumptions/30). -/
def State.selfRoute (s : State) : State :=
  let routes := if s.getB K.fabSelfRouteEnable then s.computeRoutes else List.replicate 1024 255
  ((s.putBytes K.fabSelfRoutes routes).modFab (fun b => { b with selfSaid := false })).showRouteSource

/-! ### Route lookup (R357) -/

/-- Where a flit goes: links, by self-route or not, delivered here as well. -/
structure Lookup where
  links : List Nat
  self : Bool
  here : Bool
  deriving DecidableEq, Repr

/-- May a link that is UP carry a flit with a destination: PAIR, or FABRIC once the module has a node id (R346, R356)? -/
def State.bears (s : State) (n : Nat) : Bool := s.linkUp n && (decide (s.profile n = 2) || (decide (s.profile n = 3) && s.hasNode))

/-- The link towards a node: primary, alternate, self-route. -/
def State.towards (s : State) (d : Nat) : Option (Nat × Bool) :=
  let t := s.getBytes K.routeUnicastTableInForce 2048
  let p := wordAt t (2 * d) 1
  let a := wordAt t (2 * d + 1) 1
  let r := wordAt (s.getBytes K.fabSelfRoutes 1024) d 1
  if p < 32 ∧ s.bears p then some (p, false)
  else if a < 32 ∧ s.bears a then some (a, false)
  else if s.getB K.fabSelfRouteEnable ∧ r < 32 ∧ s.bears r then some (r, true)
  else none

/-- Look a flit up (R357, R359): its destination, its source node, the link of arrival (none: originated here). -/
def State.lookup (s : State) (f : List Byte) (arrival : Option Nat) : Lookup :=
  let d := flitDest f
  let one := fun x : Option (Nat × Bool) => match x with
    | some y => { links := [y.1], self := y.2, here := false : Lookup }
    | none => { links := [], self := false, here := false }
  match d / 16384 with
  | 0 => { links := [], self := false, here := true }
  | 1 =>
    if s.hasNode ∧ d % 1024 = s.getN K.nodeNodeId then { links := [], self := false, here := true }
    else one (s.towards (d % 1024))
  | 3 =>
    let shelf := d % 512
    if s.hasNode ∧ shelf = s.getN K.nodeNodeId / 2 then { links := [], self := false, here := true }
    else one (match s.towards (2 * shelf) with
      | some y => some y
      | none => s.towards (2 * shelf + 1))
  | _ =>
    let g := d % 256
    let mask := wordAt (s.getBytes K.routeMulticastTableInForce 1024) (4 * g) 4
    let here := s.subscribes g
    if mask ≠ 0 then
      { links := s.upLinks.filter (fun n => s.bears n && mask.testBit n && decide (some n ≠ arrival)), self := false, here := here }
    else
      let accepted : Bool := match arrival with
        | none => true
        | some n => decide (wordAt (s.getBytes K.fabSelfRoutes 1024) (flitSource f) 1 = n)
      if s.getB K.fabSelfRouteEnable && accepted then
        { links := s.fabricLinks.filter (fun n => s.bears n && decide (some n ≠ arrival)), self := true, here := here }
      else { links := [], self := false, here := here }

/-- Transmit queue of a link's channel (Table 15-1). -/
def txQueue (link channel : Nat) : Nat := 80 + 3 * link + channel - 1

/-- A flit that no route takes is dropped and counted; NO_ROUTE at most once a second (R357). -/
def State.dropNoRoute (s : State) : State :=
  let s := s.inc K.fabNoRouteDrops
  if (match s.fab.noRouteAt with | some t => decide (t + sec ≤ s.now) | none => true) then
    (s.modFab (fun b => { b with noRouteAt := some s.now })).raise0 Cause.noRoute
  else s

/-- SELF_ROUTE_IN_USE once for an episode (R359) (DESIGN CHOICE, notes/assumptions/30). -/
def State.saySelf (s : State) : State :=
  if s.fab.selfSaid then s else (s.modFab (fun b => { b with selfSaid := true })).raise0 Cause.selfRouteInUse

/-- Put a flit in a link's transmit queue; a forwarded copy rises by one hop and is dropped at the hop limit (R357)
(DESIGN CHOICE, notes/assumptions/31). -/
def State.transmit (f : List Byte) (forwarded : Bool) (n : Nat) (s : State) : State :=
  let h := flitHops f + 1
  if forwarded && decide (s.getN K.fabHopLimit ≤ h) then s.inc K.fabHopLimitDrops
  else
    let s := s.when forwarded (State.inc64 K.fabFlitsForwarded)
    s.enqueue (txQueue n (flitChannel f)) 0 s.ft (if forwarded then withHops h f else f)

/-- Send a flit by its lookup; a multicast flit delivered here needs no link. -/
def State.sendBy (l : Lookup) (f : List Byte) (forwarded : Bool) (s : State) : State :=
  if l.links.isEmpty then (if l.here then s else s.dropNoRoute)
  else (s.when l.self State.saySelf).each l.links (fun n s => s.transmit f forwarded n)

/-- Route a flit this module originates (R357). -/
def State.originateFlit (f : List Byte) (s : State) : State := s.sendBy (s.lookup f none) f false

/-- Send a flit on both pair links in UP (R361). -/
def State.pairFlit (f : List Byte) (s : State) : State := s.each s.pairLinks (fun n s => s.transmit f false n)

/-- A TIMING flit's departure time is written as it leaves (R92): the fabric time in whole ns, which is what the model counts
(DESIGN CHOICE, notes/assumptions/111). -/
def stampDeparture (ft : Nat) (f : List Byte) : List Byte :=
  if (f.getD 1 0).toNat = flitTiming then f.take 16 ++ leBytes 8 ft ++ leBytes 2 0 ++ f.drop 26 else f

/-- Put a channel 0 flit of a link in line: TIMING flits apart from the others (R344). -/
def State.queueTiming (n : Nat) (payload : List Byte) (s : State) : State :=
  if h : n < 32 then
    s.modLink ⟨n, h⟩ (fun x => { x with timing := x.timing ++ [mkFlit flitTiming 0 s.sourceNode 0 payload] })
  else s

def State.queueControl (n : Fin 32) (type : Nat) (payload : List Byte) (s : State) : State :=
  s.modLink n (fun x => { x with control := x.control ++ [mkFlit type 0 s.sourceNode 0 payload] })

end Sys2Proof.Machine
end

