-- ==== Sys2Proof/Machine/PairFrame.lean ====
section
/-! DEFINITION. Pair service messages as bytes, the bodies of MESSAGE flits to queue 34 (spec/17, R427, R430, Tables 17-2
and 17-3). -/

namespace Sys2Proof.Machine

/-- Queue priority of a kind of message (Table 17-2). -/
def pairPrio (kind : Nat) : Nat := [0, 7, 6, 6, 1, 6, 7, 7, 4, 7, 0, 0].getD kind 0

/-- A message of a kind travels on every pair link that is UP; with none it does not leave (R427). -/
def State.sendPair (kind : Nat) (rest : List Byte) (s : State) : State :=
  match s.pairLinks with
  | [] => s
  | links => s.send (.pair links (pairPrio kind) ([0x10, BitVec.ofNat 8 kind] ++ rest))

/-- A received message: one of another major is refused (R5); one of another kind, or shorter than its body, is not this
command's. -/
def State.pairHear (kind len : Nat) (body : List Byte) (act : State → State) (s : State) : State :=
  if wordAt body 0 1 / 16 = 1 ∧ wordAt body 1 1 = kind ∧ len ≤ body.length then act s else s

/-- TICK_RECORD after its version and kind (Table 17-3). -/
def TickRec.rest (r : TickRec) : List Byte :=
  leBytes 2 r.flags.toNat ++ leBytes 8 r.ft.toNat ++ leBytes 4 r.mirrorSeq.toNat ++ leBytes 4 r.cloveDigest.toNat ++
  leBytes 4 r.trayCycle.toNat ++ leBytes 4 r.trayMap.toNat ++ leBytes 4 r.sweep.toNat ++ leBytes 4 r.programDigest.toNat ++
  leBytes 4 r.feedCarrier.toNat ++ leBytes 4 r.storageCarrier.toNat ++ r.commands.toList.flatMap (fun v => leBytes 2 v.toNat) ++
  leBytes 2 0 ++ r.limits.toList.flatMap (fun v => leBytes 4 v.toNat) ++ leBytes 4 r.selection.toNat

/-- The fields of a TICK_RECORD (Table 17-3). -/
def TickRec.ofBytes (b : List Byte) : TickRec where
  flags := BitVec.ofNat 8 (wordAt b 2 1)
  ft := BitVec.ofNat 64 (wordAt b 4 8)
  mirrorSeq := BitVec.ofNat 32 (wordAt b 12 4)
  cloveDigest := BitVec.ofNat 32 (wordAt b 16 4)
  trayCycle := BitVec.ofNat 32 (wordAt b 20 4)
  trayMap := BitVec.ofNat 24 (wordAt b 24 3)
  sweep := BitVec.ofNat 16 (wordAt b 28 2)
  programDigest := BitVec.ofNat 32 (wordAt b 32 4)
  feedCarrier := BitVec.ofNat 32 (wordAt b 36 4)
  storageCarrier := BitVec.ofNat 32 (wordAt b 40 4)
  commands := Vector.ofFn (fun i : Fin 3 => BitVec.ofNat 16 (wordAt b (44 + 2 * i.val) 2))
  limits := Vector.ofFn (fun i : Fin 16 => BitVec.ofNat 32 (wordAt b (52 + 4 * i.val) 4))
  selection := BitVec.ofNat 8 (wordAt b 116 1)

/-- One part of a MIRROR after its version and kind (R430). -/
def Mirror.rest (m : Mirror) (part parts : Nat) (value : List Byte) : List Byte :=
  leBytes 2 0 ++ leBytes 4 m.seq ++ leBytes 8 m.arrival ++ leBytes 8 m.effect ++ leBytes 2 (m.key / 256) ++ leBytes 1 (m.key % 256) ++
  leBytes 1 (part + 16 * (parts - 1)) ++ leBytes 2 value.length ++ leBytes 2 0 ++ value

/-- The fields of a part of a MIRROR (R430). -/
def MirrorPart.ofBytes (b : List Byte) : MirrorPart where
  seq := BitVec.ofNat 32 (wordAt b 4 4)
  arrival := BitVec.ofNat 64 (wordAt b 8 8)
  effect := BitVec.ofNat 64 (wordAt b 16 8)
  index := BitVec.ofNat 16 (wordAt b 24 2)
  sub := BitVec.ofNat 8 (wordAt b 26 1)
  part := BitVec.ofNat 4 (wordAt b 27 1)
  parts := BitVec.ofNat 4 (wordAt b 27 1 / 16)
  value := (b.drop 32).take (wordAt b 28 2)

end Sys2Proof.Machine
end

