-- ==== Sys2Proof/Machine/Access.lean ====
section
/-! DEFINITION. The checks of R382 in their order, and how a checked host write is carried out (spec/14). -/

namespace Sys2Proof.Machine

/-- The open session of an id. -/
def State.session? (s : State) (id : Nat) : Option Session := s.host.sessions.find? (fun x => decide (x.id = id))

/-- Change a session. -/
def State.modSession (id : Nat) (f : Session → Session) (s : State) : State :=
  { s with host := { s.host with sessions := s.host.sessions.map (fun x => if x.id = id then f x else x) } }

/-- Role byte of a session, 0 without one (R372). -/
def State.roleOf (s : State) (id : Nat) : Nat :=
  match s.session? id with
  | some x => x.role
  | none => 0

/-- Kind of access, numbered as in the arguments of ACCESS_DENIED (R382). -/
inductive AccessKind where
  | read | write | blockTransfer
  deriving DecidableEq, Repr

def AccessKind.code : AccessKind → Nat
  | .read => 1
  | .write => 2
  | .blockTransfer => 3

/-- May a role byte read an object with this Roles column (R382)?  Columns that name O or E are read by every role. -/
def mayRead (role cols : Nat) : Bool :=
  decide (role % 8 ≠ 0) && (cols.testBit 0 || cols.testBit 1 || (cols.testBit 2 && role.testBit 2))

/-- May a role byte write an object with this Roles column (R382)?  Every session holds role O. -/
def mayWrite (role cols : Nat) : Bool :=
  decide (role % 8 ≠ 0) && (cols.testBit 0 || (cols.testBit 1 && role.testBit 1) || (cols.testBit 2 && role.testBit 2))

/-- Objects whose row states a variable length (R380). -/
def variableLength (k : Nat) : Bool := decide (k / 256 / 4 = 0x4200 / 4) && decide (k % 256 = 3)

/-- The value of wire bytes under a type (Table 14-5). -/
def wireValue (t : Dict.Ty) (bytes : List Byte) : Int :=
  if t.signed then toSigned (8 * t.bytes) (leNat bytes) else leNat bytes

/-- Reserved bits of the arguments of a clove's action (Table 4-6): of A, and of B. -/
def cloveSpare (action : Nat) : Nat × Nat :=
  match action with
  | 1 => (0xFFFFFFF0, 0xFFFFFFFF00000000)
  | 3 => (0xFFFF0000, 0xFFFFFFFFFFFF0000)
  | 4 => (0, 0xFFFFFFFF00000000)
  | 5 => (0, 0)
  | 7 => (0xFFFFFF00, 0xFFFFFFFFFFFFFFFF)
  | _ => (0, 0xFFFFFFFFFFFFFFFF)

/-- Are n bytes from byte i all zero? -/
def zeroAt (b : List Byte) (i n : Nat) : Bool := ((b.drop i).take n).all (fun x => decide (x = 0))

/-- Are the reserved parts of a byte string zero (R4): of a clove to inject (0x2320), of the image anchors (0xA020.03), of a
snapshot list (0x8410+k.05)? -/
def spareZero (k : Nat) (b : List Byte) : Bool :=
  if k = K.cloveCloveInject then
    let m := cloveSpare (b.headD 0).toNat
    zeroAt b 24 8 && decide (leNat b &&& (0x3C00FE00 + m.1 * 2 ^ 96 + m.2 * 2 ^ 128) = 0)
  else if k = K.anchorImageAnchors then (List.range 4).all (fun i => zeroAt b (512 * i + 1) 3 && zeroAt b (512 * i + 392) 120)
  else if 0x8410 ≤ k / 256 ∧ k / 256 < 0x8450 ∧ k % 256 = 5 then (List.range 28).all (fun i => zeroAt b (4 * i + 3) 1)
  else true

/-- Does a value set a reserved bit (R4)? -/
def setsReserved (r : Dict.Row) (k : Nat) (bytes : List Byte) : Bool :=
  decide (leNat bytes &&& r.resv ≠ 0) || !spareZero k bytes

/-- Is a value inside the row's range or list? -/
def inRange (r : Dict.Row) (v : Int) : Bool :=
  r.ty.isBytes || (decide (r.lo ≤ v) && decide (v ≤ r.hi)) || r.allow.contains v

/-- Saffron's Enable as the junction responses, a shed or a halt leave it (R40, R31, R78, R229): 0 off, 1 fast, 2 both. -/
def State.safEnable (s : State) : Nat :=
  let j := s.md.junction
  let v := s.getN K.safEnable
  if j.high103 || s.md.shed || decide (s.md.mode = .halted) then 0 else if j.high100 then min v 1 else v

/-- The residence in force for a tier: fast residences are 0 and 1, slow ones 2 to 5 (R247). -/
def State.resInForce (s : State) (fast : Bool) : Option (Fin 6) :=
  (List.finRange 6).find? (fun r : Fin 6 => decide ((r.val < 2) = fast) && decide (s.getN (K.resState r) = 3))

/-- Is the owning function of an RWS object running (R12 and the Notes of the object tables)? -/
def State.functionRunning (s : State) (k : Nat) : Bool :=
  let index := k / 256
  if index = 0x3001 then (s.conv .feed).on
  else if index = 0x3002 then (s.conv .storage).on
  else if 0x3100 ≤ index ∧ index < 0x3114 then
    if h : index - 0x3100 < 20 then decide ((s.phase ⟨index - 0x3100, h⟩).state ≠ .off) else true
  else if (0x3200 ≤ index ∧ index < 0x3230) ∨ index = 0x3300 then (s.conv .feed).on || (s.conv .storage).on
  else if index = 0x6000 ∨ index = 0x6205 then (s.conv .storage).on
  else if 0x7100 ≤ index ∧ index < 0x7118 then decide (s.get (K.trayState (index - 0x7100)) ≠ 0)
  else if 0x2400 ≤ index ∧ index < 0x2420 then
    if k % 256 = 0x01 ∨ k % 256 = 0x13 then s.getB (K.linkEnable (index - 0x2400)) else false
  else if index = 0x5002 then decide (s.safEnable = 2) && (s.resInForce false).isSome
  else if 0x8200 ≤ index ∧ index < 0x8400 then
    (s.que.queues.any (fun x => decide (x.q = index - 0x8200) && !x.items.isEmpty))
  else if 0x8410 ≤ index ∧ index < 0x8450 then s.getB (K.trigTriggerEnable (index - 0x8410))
  else if 0xF400 ≤ index ∧ index < 0xFF00 then s.injArmed (injCode (index - 0xF400))
  else false

/-- Is a block write to the object open (R382)? -/
def State.blockWriteOpen (s : State) (k : Nat) : Bool :=
  s.host.sessions.any (fun x => x.transfers.any (fun t => t.isWrite && decide (t.key = k)))

/-- A shelf without a partner applies mirrored writes locally (R383): a partner is there while PEER_OK or MACE_IN is
asserted or a partner has been heard (0x9000.03) (DESIGN CHOICE, notes/assumptions/90; DEDUCED, notes/assumptions/109). -/
def State.hasPartner (s : State) : Bool :=
  s.md.pins.peerOk || s.md.pins.maceIn || decide (s.get K.pairPartnerState ≠ 0)

/-- Does the module refuse a mirrored write because it does not hold the mace (R382, R383)? (DEDUCED, notes/assumptions/109). -/
def State.notHolder (s : State) : Bool := !s.md.pins.maceOut && s.hasPartner

/-- Objects the recovery ROM serves (R80): identity, user tag area and banks to read; a host reset; an image input and its
target, by which a bank is named.  Any other object is unknown to it (DEDUCED, notes/assumptions/82). -/
def romServes (k : Nat) (write : Bool) : Bool :=
  let index := k / 256
  (!write && (decide (index = 0x1000) || decide (index = 0x1010) || decide (index = 0xA300))) ||
  (write && (decide (k = K.moduleResetCommand) || (decide (0xA210 ≤ index) && decide (index < 0xA214))))

/-- Is an object out of reach because the module runs the recovery ROM (R80)? (DEDUCED, notes/assumptions/82). -/
def State.romHides (s : State) (k : Nat) (write : Bool) : Bool := decide (s.md.mode = .recovery) && !romServes k write

/-- The checks on reading an object, in order (R382): 0 when all pass. -/
def State.checkRead (s : State) (role k : Nat) : Nat :=
  match Dict.row? k with
  | none => Cause.objectUnknown
  | some r =>
    if s.romHides k false then Cause.objectUnknown
    else if !mayRead role r.roles then Cause.accessDenied
    else if r.acc = .wo then Cause.accessMode
    else 0

/-- Writes that only the holder of the mace takes (R383): of mirrored objects, of coefficient words and of cloves to inject
(R110, R177, R430). -/
def holderOnly (r : Dict.Row) (k : Nat) : Bool :=
  r.mirrored || decide (k = K.cloveCloveInject) ||
  (decide (0x4200 ≤ k / 256) && decide (k / 256 < 0x4204) && (decide (k % 256 = 2) || decide (k % 256 = 3)))

/-- The checks on writing bytes to an object, in order (R382): 0 when all pass. The owning chapter's own checks follow. Bit 7 of 0x1100+p.08, 'refused' in Table 14-8, counts as a reserved bit
(DESIGN CHOICE, notes/assumptions/81; DEDUCED, notes/assumptions/101). -/
def State.checkWrite (s : State) (role k : Nat) (bytes : List Byte) : Nat :=
  match Dict.row? k with
  | none => Cause.objectUnknown
  | some r =>
    if s.romHides k true then Cause.objectUnknown
    else if !mayWrite role r.roles then Cause.accessDenied
    else if r.acc = .ro then Cause.accessMode
    else if !variableLength k && decide (bytes.length ≠ r.ty.bytes) then Cause.typeOrLength
    else if setsReserved r k bytes then Cause.reservedBitSet
    else if !variableLength k && !inRange r (wireValue r.ty bytes) then Cause.valueOutOfRange
    else if r.acc = .rws && s.functionRunning k then Cause.functionRunning
    else if holderOnly r k && s.notHolder then Cause.notMaceHolder
    else if r.mram && s.md.mainLoss then Cause.persistRefused
    else if s.blockWriteOpen k then Cause.busy
    else 0

/-- Raise ACCESS_DENIED once for a refused access to an object whose Roles column names S (R382). -/
def State.raiseDenied (id k : Nat) (a : AccessKind) (s : State) : State :=
  match Dict.row? k with
  | some r =>
    s.when (r.roles.testBit 2) (State.raise Cause.accessDenied
      (args id [(k / 256, 2), (k % 256, 1), (a.code, 1), (s.roleOf id, 1)]))
  | none => s

/-! ### Mirrored writes (R383, R430) -/

/-- Status of a write that is answered once it is in force at its effect boundary: no status of the wire. -/
abbrev deferred : Nat := 0x10000

/-- The active module mirrors while a pair link is UP; otherwise it applies a mirrored write alone (R383, R439)
(DESIGN CHOICE, notes/assumptions/63). -/
def State.mirrors (s : State) : Bool := s.md.pins.maceOut && !s.pairLinks.isEmpty

/-- Objects whose mirrored writes act at once in each module: coefficient words and clove injections (R430). -/
def actsAtOnce (k : Nat) : Bool :=
  (decide (0x4200 ≤ k / 256) && decide (k / 256 < 0x4204) && decide (k % 256 ≤ 3)) || decide (k = K.cloveCloveInject)

/-- Bytes of a mirrored value in one message (DESIGN CHOICE, notes/assumptions/63). -/
abbrev mirrorChunk : Nat := 3964

/-- Parts of a value: at least one, at most 16 (R430) (DESIGN CHOICE, notes/assumptions/63). -/
def partsOf : Nat → List Byte → List (List Byte)
  | 0, _ => []
  | n + 1, l => l.take mirrorChunk :: (if l.length ≤ mirrorChunk then [] else partsOf n (l.drop mirrorChunk))

/-- Send a mirror in its parts (R430) (DESIGN CHOICE, notes/assumptions/63). -/
def State.sendMirror (m : Mirror) (s : State) : State :=
  let ps := partsOf 16 m.value
  s.each (List.zip (List.range ps.length) ps) (fun e s =>
    s.sendPair 2 (m.rest e.1 ps.length e.2))

/-- The first tick boundary at or after the arrival stamp plus the mirror lead. -/
def State.effectBoundary (s : State) : Nat := (s.ft + s.getN K.mirrorMirrorLead * us + 999) / 1000 * 1000

/-- Number a mirror, log it and send it (R430, R431); until E it waits, also one that acts at once. -/
def State.newMirror (k : Nat) (w : HostWrite) (s : State) : State :=
  let m : Mirror := { seq := s.pair.nextSeq, arrival := s.ft, effect := s.effectBoundary, key := k, value := w.bytes
                      sess := w.sess, reply := some 0 }
  let p := s.pair
  ({ s with pair := { p with
      nextSeq := (p.nextSeq + 1) % 2 ^ 32, log := (m :: p.log).take 65536
      waiting := p.waiting ++ [m] } }).sendMirror m

/-- A write that has passed R382: its value, and what it does by the owning chapter. A mirrored write that chapter accepts
is numbered and sent, and acts at its effect boundary, but for coefficient words and clove injections. -/
def State.checked (k : Nat) (w : HostWrite) (own : Int → State → State × Nat) (s : State) : State × Nat :=
  let st := s.checkWrite (s.roleOf w.sess) k w.bytes
  if st = Cause.accessDenied then ((s.raiseDenied w.sess k .write), st)
  else if st ≠ 0 then (s, st)
  else
    let v := match Dict.row? k with | some r => wireValue r.ty w.bytes | none => 0
    let mirrored := match Dict.row? k with | some r => r.mirrored | none => false
    let r := own v s
    if actsAtOnce k && s.mirrors && (decide (r.2 = 0) || decide (r.2 = deferred)) then (r.1.newMirror k w, r.2)
    else if mirrored && s.mirrors && decide (r.2 = 0) then (s.newMirror k w, deferred)
    else r

/-- A host write that came as a command of its own: checked, carried out, answered (DEDUCED, notes/assumptions/101). -/
def State.hostWrite (k : Nat) (w : HostWrite) (own : Int → State → State × Nat) (s : State) : State :=
  let r := s.checked k w own
  if r.2 = deferred then r.1 else State.answer r

/-- A host command that writes one byte to a command object. -/
def oneByte (sess : Nat) (v : Byte) : HostWrite := { sess := sess, bytes := [v] }

end Sys2Proof.Machine
end

