-- ==== Sys2Proof/Machine/CardArith.lean ====
section
/-! DEFINITION. Cardamom arithmetic, operand forms and flags, and the effect of each instruction on a core (spec/06,
R151 to R174). -/

namespace Sys2Proof.Machine

/-! ### Formats (R163 to R166) -/

/-- Range limits of ACC40 (Q9.31), Q31 and Q15 as integers. -/
abbrev acc40Max : Int := 549755813887
abbrev acc40Min : Int := -549755813888
abbrev q31Max : Int := 2147483647
abbrev q31Min : Int := -2147483648
abbrev q15Max : Int := 32767
abbrev q15Min : Int := -32768

/-- Saturate to ACC40, Q31, Q15. -/
def sat40 (x : Int) : Int := clampInt acc40Min acc40Max x
def sat31 (x : Int) : Int := clampInt q31Min q31Max x
def sat15 (x : Int) : Int := clampInt q15Min q15Max x

/-- A product of Q15 and Q31, or of ACC40 and Q31, rounded half-even to Q31 (R164). -/
def mulQ15Q31 (d k : Int) : Int := rheDiv (d * k) 32768
/-- The model's choice (DEDUCED, notes/assumptions/14). -/
def mulQ31 (a k : Int) : Int := rheDiv (a * k) 2147483648

/-- A product of two Q15 values is Q30 and becomes Q31 exactly (R164). -/
def mulQ15 (d e : Int) : Int := d * e * 2

/-- Multiply by 2^n, right shifts rounding half-even (R165, R168). -/
def shiftRhe (x n : Int) : Int := if 0 ≤ n then x * (2 ^ n.toNat : Nat) else rheDiv x (2 ^ (-n).toNat)

/-! ### Registers -/

/-- An empty register bank (R151). -/
def Bank.zero : Bank :=
  { acc := Vector.replicate 8 0, dat := Vector.replicate 16 0, z := false, n := false, v := false, t := false,
    l := false, at_ := false }

/-- Coefficient and state words not listed are zero. -/
def zeroDflt : Nat → Int := fun _ => 0

/-- The bank of the evaluation that runs (R151): H in a handler, M in the main evaluation. -/
def CoreSt.bank (c : CoreSt) : Bank := if c.inHandler then c.bankH else c.bankM

def CoreSt.setBank (c : CoreSt) (b : Bank) : CoreSt := if c.inHandler then { c with bankH := b } else { c with bankM := b }

def CoreSt.accI (c : CoreSt) (a : Fin 8) : Int := (c.bank.acc[a]).toInt
def CoreSt.datI (c : CoreSt) (d : Fin 16) : Int := (c.bank.dat[d]).toInt
def CoreSt.coefI (c : CoreSt) (k : Nat) : Int := c.coef.get zeroDflt k
def CoreSt.smI (c : CoreSt) (m : Nat) : Int := c.sm.get zeroDflt m

def CoreSt.setAcc (c : CoreSt) (a : Fin 8) (x : Int) : CoreSt :=
  c.setBank { c.bank with acc := c.bank.acc.set a (BitVec.ofInt 40 x) }

def CoreSt.setDat (c : CoreSt) (d : Fin 16) (x : BitVec 16) : CoreSt :=
  c.setBank { c.bank with dat := c.bank.dat.set d x }

/-- Write a state word, which holds ACC40 (R163): a difference beyond that range is held at its end. -/
def CoreSt.setSm (c : CoreSt) (m : Nat) (x : Int) : CoreSt := { c with sm := c.sm.put zeroDflt m (sat40 x) }

/-! ### Flags (Table 6-7) -/

def CoreSt.setZN (c : CoreSt) (x : Int) : CoreSt := c.setBank { c.bank with z := decide (x = 0), n := decide (x < 0) }
def CoreSt.setV (c : CoreSt) (b : Bool) : CoreSt := c.setBank { c.bank with v := b }
def CoreSt.setL (c : CoreSt) (b : Bool) : CoreSt := c.setBank { c.bank with l := b }
def CoreSt.setT (c : CoreSt) (b : Bool) : CoreSt := c.setBank { c.bank with t := b }
def CoreSt.setAT (c : CoreSt) (b : Bool) : CoreSt := c.setBank { c.bank with at_ := b }

/-- Count an accumulator saturation (R164), a store saturation (R165), a clamp (R166). -/
def CoreSt.countAcc (c : CoreSt) (b : Bool) : CoreSt := if b then { c with accSats := c.accSats + 1 } else c
def CoreSt.countStore (c : CoreSt) (b : Bool) : CoreSt := if b then { c with storeSats := c.storeSats + 1 } else c
def CoreSt.countClamp (c : CoreSt) (b : Bool) : CoreSt := if b then { c with clamps := c.clamps + 1 } else c

/-- Saturate a value to ACC40 and count it (R9, R164). -/
def CoreSt.sat (c : CoreSt) (x : Int) : CoreSt × Int := (c.countAcc (decide (sat40 x ≠ x)), sat40 x)

/-- Write a state word with a difference, which is counted where it saturates (R9). -/
def CoreSt.storeSm (c : CoreSt) (m : Nat) (x : Int) : CoreSt := (c.countStore (decide (sat40 x ≠ x))).setSm m x

/-- An accumulator result that may saturate: Z N V (R164). -/
def CoreSt.accSatResult (c : CoreSt) (a : Fin 8) (x : Int) : CoreSt :=
  let y := sat40 x
  let cut := decide (y ≠ x)
  (((c.setAcc a y).setZN y).setV cut).countAcc cut

/-- An accumulator result that cannot saturate: Z N. -/
def CoreSt.accResult (c : CoreSt) (a : Fin 8) (x : Int) : CoreSt := (c.setAcc a x).setZN x

/-- A condition (Table 6-7): bit 3 inverts. FV comes from the snapshot. -/
def CoreSt.cond (c : CoreSt) (fv : Bool) (code : BitVec 4) : Bool :=
  let b := c.bank
  let base := match code.toNat % 8 with
    | 0 => b.z | 1 => b.n | 2 => b.v | 3 => b.t | 4 => b.l | 5 => b.at_ | 6 => fv
    | _ => true
  base != code.getLsbD 3

/-! ### Ports (R157, R158) -/

/-- Is an input port 32 bits wide (Table 6-4)? -/
def wideIn (p : Nat) : Bool :=
  (decide (0x30 ≤ p) && decide (p ≤ 0x3F)) || (decide (0x43 ≤ p) && decide (p ≤ 0x45)) ||
  (decide (0x71 ≤ p) && decide (p ≤ 0x73)) || (decide (0x80 ≤ p) && decide (p ≤ 0xBF))

/-- Is an input port listed in Table 6-4? -/
def knownIn (p : Nat) : Bool :=
  decide (p ≤ 0x4A) || (decide (0x60 ≤ p) && decide (p ≤ 0x66)) || (decide (0x70 ≤ p) && decide (p ≤ 0x73)) ||
  (decide (0x80 ≤ p) && decide (p ≤ 0xBF))

/-- Value of an input port as a signed integer: the snapshot, or the taken notice record at 0x70 to 0x73 in a handler
(R157). -/
def CoreSt.inPort (c : CoreSt) (f : Snapshot) (p : Nat) : Int :=
  if 0x70 ≤ p ∧ p ≤ 0x73 then
    if c.inHandler then
      match c.taken with
      | none => 0
      | some r =>
        if p = 0x70 then r.count
        else if p = 0x71 then r.step
        else if p = 0x72 then toSigned 32 r.stamp
        else r.trays.toNat
    else 0
  else f.ports.get zeroDflt p

/-- Raw bits of an input port. -/
def CoreSt.inBits (c : CoreSt) (f : Snapshot) (p : Nat) : Nat :=
  toUnsigned (if wideIn p then 32 else 16) (c.inPort f p)

/-! ### Output ports (R161, R162) -/

/-- A write of a port: a command port acts at once, an exchange word counts for the next snapshot, every other port takes
effect at END of its evaluation (Table 6-5). -/
def CoreSt.outPort (c : CoreSt) (p : Nat) (v : Int) : CoreSt :=
  if p = 0 ∨ p = 1 then { c with ports := c.ports.put zeroDflt p v, emitted := c.emitted ++ [(p, v)] }
  else if 0x20 ≤ p ∧ p < 0x30 then { c with ports := c.ports.put zeroDflt p v }
  else if c.inHandler then { c with unpublishedH := c.unpublishedH ++ [(p, v)] }
  else { c with unpublished := c.unpublished ++ [(p, v)] }

/-- END: publish the ports that take effect at END; the evaluation is over. -/
def CoreSt.publish (c : CoreSt) : CoreSt :=
  let put := fun l : List (Nat × Int) => l.foldl (fun m e => Sparse.put zeroDflt m e.1 e.2) c.ports
  if c.inHandler then { c with ports := put c.unpublishedH, unpublishedH := [], inHandler := false, skip := 0, taken := none }
  else { c with ports := put c.unpublished, unpublished := [], skip := 0, todo := [] }

/-! ### Selectors (R170) -/

/-- Candidates of a mask, ascending. -/
def maskList (mask : BitVec 8) : List (Fin 8) := (List.finRange 8).filter (fun i => mask.getLsbD i.val)

/-- Lowest index of the best value: `better x y` says that x beats y. -/
def bestIndex (c : CoreSt) (better : Int → Int → Bool) : List (Fin 8) → Option (Fin 8)
  | [] => none
  | i :: rest =>
    match bestIndex c better rest with
    | none => some i
    | some j => if better (c.accI j) (c.accI i) then some j else some i

/-- MINSEL or MAXSEL (R170): the tracking words, the record, the win count, then A. -/
def CoreSt.select (c : CoreSt) (better : Int → Int → Bool) (a : Fin 8) (h : Fin 16) (mask : BitVec 8) (m : Nat) : CoreSt :=
  match bestIndex c better (maskList mask) with
  | none => c
  | some w =>
    let aw := c.accI w
    let hi := c.datI h * 65536
    let lo := c.datI ⟨(h.val + 1) % 16, Nat.mod_lt _ (by decide)⟩ * 65536
    let u := max (min aw hi) lo
    let tie := (maskList mask).any (fun i => decide (i ≠ w) && decide (c.accI i = aw))
    let cut := decide (u ≠ aw)
    let c' := (maskList mask).foldl (fun (x : CoreSt) i =>
      x.storeSm (m + 2 * i.val + 1) (if i ≠ w ∧ c.accI i = aw then 0 else u - c.accI i)) c
    let n := c.selNext
    let r : SelRec := { winner := w.val, tie := tie, hi := decide (hi < aw), lo := decide (aw < lo) }
    let c' := { c' with
      selNext := n + 1
      selRecs := (n, r) :: c'.selRecs.filter (fun e => decide (e.1 ≠ n))
      winCounts := c'.winCounts.put zeroDflt (8 * n + w.val) (c'.winCounts.get zeroDflt (8 * n + w.val) + 1) }
    ((c'.accResult a u).setL cut).countClamp cut

/-! ### The instructions, one by one (Table 6-8) -/

def CoreSt.iLdk (d : Fin 16) (imm : BitVec 16) (c : CoreSt) : CoreSt := c.setDat d imm
def CoreSt.iLdi (f : Snapshot) (d : Fin 16) (p : Fin 256) (c : CoreSt) : CoreSt :=
  c.setDat d (BitVec.ofNat 16 (c.inBits f p.val))
def CoreSt.iLdil (f : Snapshot) (a : Fin 8) (p : Fin 256) (c : CoreSt) : CoreSt :=
  c.accResult a (if wideIn p.val then toSigned 32 (c.inBits f p.val) else toSigned 16 (c.inBits f p.val) * 65536)
def CoreSt.iLdc (a : Fin 8) (k : Fin 1024) (c : CoreSt) : CoreSt := c.accResult a (c.coefI k)
def CoreSt.iLds (a : Fin 8) (m : Fin 512) (c : CoreSt) : CoreSt := c.accResult a (c.smI m)
def CoreSt.iSts (a : Fin 8) (m : Fin 512) (c : CoreSt) : CoreSt := c.setSm m (c.accI a)

/-- SATD (R165): Dd := sat15(rhe(A * 2^(sh - 16))). -/
def CoreSt.iSatd (a : Fin 8) (d : Fin 16) (sh : BitVec 4) (c : CoreSt) : CoreSt :=
  let x := shiftRhe (c.accI a) (sh.toInt - 16)
  let y := sat15 x
  let cut := decide (y ≠ x)
  ((c.setDat d (BitVec.ofInt 16 y)).setV cut).countStore cut

def CoreSt.iOut (d : Fin 16) (p : Fin 64) (c : CoreSt) : CoreSt := c.outPort p.val (c.datI d)

/-- OUTL (R165): saturate to Q31. -/
def CoreSt.iOutl (a : Fin 8) (p : Fin 64) (c : CoreSt) : CoreSt :=
  let x := c.accI a
  let y := sat31 x
  let cut := decide (y ≠ x)
  ((c.outPort p.val y).setV cut).countStore cut

def CoreSt.iMova (a b : Fin 8) (c : CoreSt) : CoreSt := c.accResult a (c.accI b)
def CoreSt.iClr (a : Fin 8) (c : CoreSt) : CoreSt := c.accResult a 0
def CoreSt.iMpy (a : Fin 8) (d : Fin 16) (k : Fin 1024) (c : CoreSt) : CoreSt :=
  c.accResult a (mulQ15Q31 (c.datI d) (c.coefI k))
def CoreSt.iMac (a : Fin 8) (d : Fin 16) (k : Fin 1024) (c : CoreSt) : CoreSt :=
  c.accSatResult a (c.accI a + mulQ15Q31 (c.datI d) (c.coefI k))
def CoreSt.iMsu (a : Fin 8) (d : Fin 16) (k : Fin 1024) (c : CoreSt) : CoreSt :=
  c.accSatResult a (c.accI a - mulQ15Q31 (c.datI d) (c.coefI k))
def CoreSt.iMacd (a : Fin 8) (d e : Fin 16) (c : CoreSt) : CoreSt :=
  c.accSatResult a (c.accI a + mulQ15 (c.datI d) (c.datI e))
def CoreSt.iAdda (a b : Fin 8) (c : CoreSt) : CoreSt := c.accSatResult a (c.accI a + c.accI b)
def CoreSt.iSuba (a b : Fin 8) (c : CoreSt) : CoreSt := c.accSatResult a (c.accI a - c.accI b)
def CoreSt.iAddd (a : Fin 8) (d : Fin 16) (c : CoreSt) : CoreSt := c.accSatResult a (c.accI a + c.datI d * 65536)
def CoreSt.iSubd (a : Fin 8) (d : Fin 16) (c : CoreSt) : CoreSt := c.accSatResult a (c.accI a - c.datI d * 65536)
def CoreSt.iSha (a : Fin 8) (n : BitVec 4) (c : CoreSt) : CoreSt := c.accSatResult a (shiftRhe (c.accI a) n.toInt)
def CoreSt.iAbs (a : Fin 8) (c : CoreSt) : CoreSt := c.accSatResult a (c.accI a).natAbs
def CoreSt.iNeg (a : Fin 8) (c : CoreSt) : CoreSt := c.accSatResult a (-(c.accI a))

/-- LIM (R166). -/
def CoreSt.iLim (a : Fin 8) (k : Fin 1024) (c : CoreSt) : CoreSt :=
  let x := c.accI a
  let y := max (min x (c.coefI k)) (c.coefI (k.val + 1))
  let cut := decide (y ≠ x)
  ((c.accResult a y).setL cut).countClamp cut

def CoreSt.iSela (f : Snapshot) (a b : Fin 8) (code : BitVec 4) (c : CoreSt) : CoreSt :=
  if c.cond f.fv code then c.setAcc a (c.accI b) else c
def CoreSt.iTsta (a : Fin 8) (c : CoreSt) : CoreSt := c.setZN (c.accI a)
def CoreSt.iTstp (f : Snapshot) (p : Fin 256) (bit : Fin 32) (c : CoreSt) : CoreSt :=
  c.setT ((c.inBits f p.val).testBit bit.val)
def CoreSt.iSkipc (f : Snapshot) (code n : BitVec 4) (c : CoreSt) : CoreSt :=
  if c.cond f.fv code then { c with skip := n.toNat } else c

/-- INTEG (R169). -/
def CoreSt.iInteg (a : Fin 8) (d : Fin 16) (k : Fin 1024) (m : Fin 512) (c : CoreSt) : CoreSt :=
  let raw := c.smI m + mulQ15Q31 (c.datI d) (c.coefI k) + mulQ31 (c.smI (m.val + 1)) (c.coefI (k.val + 1))
  let x := sat40 raw
  let y := max (min x (c.coefI (k.val + 2))) (c.coefI (k.val + 3))
  let v := decide (x ≠ raw)
  let l := decide (y ≠ x)
  (((((c.setSm m y).accResult a y).setV v).countAcc v).setL l).countClamp l

def CoreSt.iMinsel (a : Fin 8) (h : Fin 16) (mask : BitVec 8) (m : Fin 512) (c : CoreSt) : CoreSt :=
  c.select (fun x y => decide (x < y)) a h mask m
def CoreSt.iMaxsel (a : Fin 8) (h : Fin 16) (mask : BitVec 8) (m : Fin 512) (c : CoreSt) : CoreSt :=
  c.select (fun x y => decide (y < x)) a h mask m

/-- SLEW (R172). -/
def CoreSt.iSlew (a : Fin 8) (k : Fin 1024) (m : Fin 512) (c : CoreSt) : CoreSt :=
  let y := c.smI m
  let t := c.accI a
  let d := t - y
  let up := max (c.coefI k) 0
  let dn := max (c.coefI (k.val + 1)) 0
  let z := if up < d then y + up else if d < -dn then y - dn else t
  let bound := decide (up < d) || decide (d < -dn)
  ((((c.setSm m z).accResult a z).setAT (!bound)).setL bound).countClamp bound

/-- LUT (R173). -/
def CoreSt.iLut (a : Fin 8) (d : Fin 16) (k : Fin 1024) (c : CoreSt) : CoreSt :=
  let u := (c.datI d + 32768).toNat
  let i := u / 2048
  let f : Int := (u % 2048 : Nat)
  let lo := c.coefI (k.val + i)
  let hi := c.coefI (k.val + i + 1)
  c.accResult a (lo + rheDiv ((hi - lo) * f) 2048)

/-- The gate of an FFW (R174). -/
def ffwGate (f : Snapshot) (thr slope : Int) : Int :=
  if !f.fv || f.diverged || !f.ffEnable then 0
  else clampInt 0 q31Max (mulQ31 (f.conf * 65536 - thr) (slope * 32))

/-- FFW (R174): the gate is published as Q15 (0x4100+n.16). -/
def CoreSt.iFfw (f : Snapshot) (a : Fin 8) (k : Fin 1024) (j : Fin 64) (c : CoreSt) : CoreSt :=
  let g := ffwGate f (c.coefI k) (c.coefI (k.val + 1))
  let term := mulQ15Q31 (f.forecast.getD j.val 0) (mulQ31 g (c.coefI (k.val + 2)))
  let n := c.ffwNext
  let c := { c with ffwNext := n + 1, gates := (n, sat15 (rheDiv g 65536)) :: c.gates.filter (fun e => decide (e.1 ≠ n)) }
  c.accSatResult a (c.accI a + term)

/-- One instruction on a core (R168). -/
def CoreSt.instr (f : Snapshot) (i : CInstr) (c : CoreSt) : CoreSt :=
  match i with
  | .nop => c
  | .endEval => c.publish
  | .ldk d imm => c.iLdk d imm
  | .ldi d p => c.iLdi f d p
  | .ldil a p => c.iLdil f a p
  | .ldc a k => c.iLdc a k
  | .lds a m => c.iLds a m
  | .sts a m => c.iSts a m
  | .satd a d sh => c.iSatd a d sh
  | .out d p => c.iOut d p
  | .outl a p => c.iOutl a p
  | .mova a b => c.iMova a b
  | .clr a => c.iClr a
  | .mpy a d k => c.iMpy a d k
  | .mac a d k => c.iMac a d k
  | .msu a d k => c.iMsu a d k
  | .macd a d e => c.iMacd a d e
  | .adda a b => c.iAdda a b
  | .suba a b => c.iSuba a b
  | .addd a d => c.iAddd a d
  | .subd a d => c.iSubd a d
  | .sha a n => c.iSha a n
  | .abs a => c.iAbs a
  | .neg a => c.iNeg a
  | .lim a k => c.iLim a k
  | .sela a b q => c.iSela f a b q
  | .tsta a => c.iTsta a
  | .tstp p b => c.iTstp f p b
  | .skipc q n => c.iSkipc f q n
  | .integ a d k m => c.iInteg a d k m
  | .minsel a h w m => c.iMinsel a h w m
  | .maxsel a h w m => c.iMaxsel a h w m
  | .slew a k m => c.iSlew a k m
  | .lut a d k => c.iLut a d k
  | .ffw a k j => c.iFfw f a k j

/-- Cycles of an instruction (Table 6-8). -/
def cycles : CInstr → Nat
  | .integ .. | .lut .. | .ffw .. => 4
  | .slew .. => 3
  | .minsel _ _ mask _ | .maxsel _ _ mask _ => 2 + (maskList mask).length
  | _ => 1

/-- A skipped instruction only uses up the skip; a skipped selector or FFW keeps its number (R168, R170). -/
def CoreSt.skipOne (i : CInstr) (c : CoreSt) : CoreSt :=
  let c := { c with skip := c.skip - 1 }
  match i with
  | .minsel .. | .maxsel .. => { c with selNext := c.selNext + 1 }
  | .ffw .. => { c with ffwNext := c.ffwNext + 1 }
  | _ => c

/-- Use up cycles. -/
def CoreSt.spend (k : Nat) (c : CoreSt) : CoreSt := { c with cyc := c.cyc + k }

/-- Execute or skip one instruction. -/
def CoreSt.exec1 (f : Snapshot) (i : CInstr) (c : CoreSt) : CoreSt :=
  if c.skip = 0 then (c.spend (cycles i)).instr f i else c.skipOne i

/-- Begin an evaluation (R151): its bank reads zero. -/
def CoreSt.begin_ (handler : Bool) (c : CoreSt) : CoreSt :=
  (if handler then { c with inHandler := true, skip := 0, unpublishedH := [] }
   else { c with inHandler := false, skip := 0, unpublished := [], selNext := 0, ffwNext := 0, taken := none }).setBank Bank.zero

/-- Selectors and FFWs of a part, for the numbers of the part that follows it (R170). -/
def countSel (is : List CInstr) : Nat :=
  (is.filter (fun i => match i with | .minsel .. | .maxsel .. => true | _ => false)).length
def countFfw (is : List CInstr) : Nat :=
  (is.filter (fun i => match i with | .ffw .. => true | _ => false)).length

/-- Issue the instructions of a part as long as each completes by an offset; the rest stays to be issued (R153, R155). -/
def CoreSt.runTo (f : Snapshot) (limit : Nat) : List CInstr → CoreSt → CoreSt
  | [], c => { c with todo := [] }
  | i :: rest, c =>
    if c.skip = 0 ∧ limit < c.cyc + cycles i then { c with todo := i :: rest }
    else CoreSt.runTo f limit rest (c.exec1 f i)

end Sys2Proof.Machine
end

