-- ==== Sys2Proof/Machine/CardProg.lean ====
section
/-! DEFINITION. Cardamom program words, images, admission and loading (spec/06, R154, R161, R167, R180 to R183; spec/07,
Tables 7-1, 7-6 and 7-7). -/

namespace Sys2Proof.Machine

/-! ### The instruction word (Table 6-6) -/

/-- OP, A, D, K, S fields joined, most-significant first. -/
def joinWord (op : BitVec 6) (a : BitVec 3) (d : BitVec 4) (k : BitVec 10) (m : BitVec 9) : BitVec 32 :=
  op ++ a ++ d ++ k ++ m

def fOp (w : BitVec 32) : BitVec 6 := w.extractLsb' 26 6
def fA (w : BitVec 32) : BitVec 3 := w.extractLsb' 23 3
def fD (w : BitVec 32) : BitVec 4 := w.extractLsb' 19 4
def fK (w : BitVec 32) : BitVec 10 := w.extractLsb' 9 10
def fS (w : BitVec 32) : BitVec 9 := w.extractLsb' 0 9

/-- B in bits 21-19, bit 22 zero. -/
def dOfB (b : Fin 8) : BitVec 4 := BitVec.ofNat 4 b.val
/-- E, or a condition, in bits 18-15: the top four bits of the K field. -/
def kOfTop (e : BitVec 4) : BitVec 10 := e ++ 0#6
/-- A candidate mask in bits 18-11: the top eight bits of the K field. -/
def kOfMask (x : BitVec 8) : BitVec 10 := x ++ 0#2
/-- A bit index in bits 13-9: the low five bits of the K field. -/
def kOfBit (b : Fin 32) : BitVec 10 := BitVec.ofNat 10 b.val

/-- The word of an instruction (Tables 6-6 and 6-8). -/
def encodeWord (i : CInstr) : BitVec 32 :=
  let A := fun a : Fin 8 => BitVec.ofNat 3 a.val
  let D := fun d : Fin 16 => BitVec.ofNat 4 d.val
  let K := fun k : Fin 1024 => BitVec.ofNat 10 k.val
  let M := fun m : Fin 512 => BitVec.ofNat 9 m.val
  let P := fun p : Fin 256 => BitVec.ofNat 9 p.val
  let O := fun p : Fin 64 => BitVec.ofNat 9 p.val
  let N := fun n : BitVec 4 => n.setWidth 9
  match i with
  | .nop => joinWord 0x00 0 0 0 0
  | .endEval => joinWord 0x01 0 0 0 0
  | .ldk d imm => (0x02#6 ++ 0#3 ++ D d ++ 0#3 ++ imm)
  | .ldi d p => joinWord 0x03 0 (D d) 0 (P p)
  | .ldil a p => joinWord 0x04 (A a) 0 0 (P p)
  | .ldc a k => joinWord 0x05 (A a) 0 (K k) 0
  | .lds a m => joinWord 0x06 (A a) 0 0 (M m)
  | .sts a m => joinWord 0x07 (A a) 0 0 (M m)
  | .satd a d sh => joinWord 0x08 (A a) (D d) 0 (N sh)
  | .out d p => joinWord 0x09 0 (D d) 0 (O p)
  | .outl a p => joinWord 0x0A (A a) 0 0 (O p)
  | .mova a b => joinWord 0x0B (A a) (dOfB b) 0 0
  | .clr a => joinWord 0x0C (A a) 0 0 0
  | .mpy a d k => joinWord 0x0D (A a) (D d) (K k) 0
  | .mac a d k => joinWord 0x0E (A a) (D d) (K k) 0
  | .msu a d k => joinWord 0x0F (A a) (D d) (K k) 0
  | .macd a d e => joinWord 0x10 (A a) (D d) (kOfTop (D e)) 0
  | .adda a b => joinWord 0x11 (A a) (dOfB b) 0 0
  | .suba a b => joinWord 0x12 (A a) (dOfB b) 0 0
  | .addd a d => joinWord 0x13 (A a) (D d) 0 0
  | .subd a d => joinWord 0x14 (A a) (D d) 0 0
  | .sha a n => joinWord 0x15 (A a) 0 0 (N n)
  | .abs a => joinWord 0x16 (A a) 0 0 0
  | .neg a => joinWord 0x17 (A a) 0 0 0
  | .lim a k => joinWord 0x18 (A a) 0 (K k) 0
  | .sela a b q => joinWord 0x19 (A a) (dOfB b) (kOfTop q) 0
  | .tsta a => joinWord 0x1A (A a) 0 0 0
  | .tstp p b => joinWord 0x1B 0 0 (kOfBit b) (P p)
  | .skipc q n => joinWord 0x1C 0 0 (kOfTop q) (N n)
  | .integ a d k m => joinWord 0x1D (A a) (D d) (K k) (M m)
  | .minsel a h w m => joinWord 0x1E (A a) (D h) (kOfMask w) (M m)
  | .maxsel a h w m => joinWord 0x1F (A a) (D h) (kOfMask w) (M m)
  | .slew a k m => joinWord 0x20 (A a) 0 (K k) (M m)
  | .lut a d k => joinWord 0x21 (A a) (D d) (K k) 0
  | .ffw a k j => joinWord 0x22 (A a) 0 (K k) (BitVec.ofNat 9 j.val)

/-- The fields of a word read as the instruction its opcode names, before the unused fields are looked at. -/
def fieldsOf (w : BitVec 32) : Option CInstr :=
  let a : Fin 8 := (fA w).toFin
  let b : Fin 8 := ((fD w).setWidth 3).toFin
  let d : Fin 16 := (fD w).toFin
  let k : Fin 1024 := (fK w).toFin
  let m : Fin 512 := (fS w).toFin
  let p : Fin 256 := ((fS w).setWidth 8).toFin
  let o : Fin 64 := ((fS w).setWidth 6).toFin
  let n : BitVec 4 := (fS w).setWidth 4
  let top : BitVec 4 := (fK w).extractLsb' 6 4
  let mask : BitVec 8 := (fK w).extractLsb' 2 8
  let bit : Fin 32 := ((fK w).setWidth 5).toFin
  match (fOp w).toNat with
  | 0x00 => some .nop
  | 0x01 => some .endEval
  | 0x02 => some (.ldk d (w.setWidth 16))
  | 0x03 => some (.ldi d p)
  | 0x04 => some (.ldil a p)
  | 0x05 => some (.ldc a k)
  | 0x06 => some (.lds a m)
  | 0x07 => some (.sts a m)
  | 0x08 => some (.satd a d n)
  | 0x09 => some (.out d o)
  | 0x0A => some (.outl a o)
  | 0x0B => some (.mova a b)
  | 0x0C => some (.clr a)
  | 0x0D => some (.mpy a d k)
  | 0x0E => some (.mac a d k)
  | 0x0F => some (.msu a d k)
  | 0x10 => some (.macd a d top.toFin)
  | 0x11 => some (.adda a b)
  | 0x12 => some (.suba a b)
  | 0x13 => some (.addd a d)
  | 0x14 => some (.subd a d)
  | 0x15 => some (.sha a n)
  | 0x16 => some (.abs a)
  | 0x17 => some (.neg a)
  | 0x18 => some (.lim a k)
  | 0x19 => some (.sela a b top)
  | 0x1A => some (.tsta a)
  | 0x1B => some (.tstp p bit)
  | 0x1C => some (.skipc top n)
  | 0x1D => some (.integ a d k m)
  | 0x1E => some (.minsel a d mask m)
  | 0x1F => some (.maxsel a d mask m)
  | 0x20 => some (.slew a k m)
  | 0x21 => some (.lut a d k)
  | 0x22 => some (.ffw a k ((fS w).setWidth 6).toFin)
  | _ => none

/-- A word as an instruction: none for a reserved opcode or a non-zero bit in a field the instruction does not use
(R167). -/
def decodeWord (w : BitVec 32) : Option CInstr :=
  match fieldsOf w with
  | none => none
  | some i => if encodeWord i = w then some i else none

/-! ### Admission (R154, R181) -/

/-- Worst case of a part: every instruction counts as executed (R168). -/
def worstCase (is : List CInstr) : Nat := (is.map cycles).sum

/-- Main budget (Table 6-3). -/
def mainBudget (handler hold : Bool) : Nat :=
  if handler then (if hold then 726 else 790) else (if hold then 1336 else 1400)

/-- Highest coefficient address an instruction uses, if any (check 4). -/
def coefTop : CInstr → Option Nat
  | .ldc _ k | .mpy _ _ k | .mac _ _ k | .msu _ _ k => some k.val
  | .lim _ k | .slew _ k _ => some (k.val + 1)
  | .integ _ _ k _ => some (k.val + 3)
  | .ffw _ k _ => some (k.val + 2)
  | .lut _ _ k => some (k.val + 32)
  | _ => none

/-- Highest state address an instruction uses, if any (check 5). -/
def stateTop : CInstr → Option Nat
  | .lds _ m | .sts _ m | .slew _ _ m => some m.val
  | .integ _ _ _ m => some (m.val + 1)
  | .minsel _ _ mask m | .maxsel _ _ mask m =>
    some (m.val + 2 * ((maskList mask).foldl (fun x i => max x i.val) 0) + 1)
  | _ => none

/-- Does an instruction use its port wrongly: reserved, of the wrong width, or shared and not owned (check 6)? -/
def portBad (owned : BitVec 3) (limits : BitVec 16) : CInstr → Option Nat
  | .ldi _ p => if knownIn p.val && !wideIn p.val then none else some p.val
  | .ldil _ p => if knownIn p.val then none else some p.val
  | .tstp p _ => if knownIn p.val then none else some p.val
  | .out _ p => if h : p.val < 3 then (if owned.getLsbD p.val then none else some p.val) else some p.val
  | .outl _ p =>
    if p.val < 3 then some p.val
    else if p.val < 0x10 then none
    else if p.val < 0x20 then (if limits.getLsbD (p.val - 0x10) then none else some p.val)
    else if p.val < 0x30 then none else some p.val
  | _ => none

/-- Failures of one instruction of a part of n instructions (checks 4, 5, 6, 7, 10). -/
def instrFailures (img : ProgImage) (part n addr : Nat) (i : CInstr) : List ReportEntry :=
  let e := fun reason requested limit => [({ reason := reason, part := part, addr := addr, requested := requested,
                                             limit := limit } : ReportEntry)]
  (match i with
   | .skipc _ c => if c = 0 then e 3 0 1 else []
   | _ => []) ++
  (match coefTop i with
   | some k => if img.coefWords ≤ k then e 4 k img.coefWords else []
   | none => []) ++
  (match stateTop i with
   | some m => if img.stateWords ≤ m then e 5 m img.stateWords else []
   | none => []) ++
  (match portBad (img.portsOwned.setWidth 3) img.limitPorts i with
   | some p => e 6 p 0
   | none => []) ++
  (match i with
   | .endEval => if addr + 1 = n then [] else e 7 addr (n - 1)
   | .skipc _ c => if addr + c.toNat + 1 < n then [] else e 7 (addr + c.toNat) (n - 1)
   | _ => if addr + 1 = n then e 7 addr (n - 1) else []) ++
  (match i with
   | .minsel _ h mask _ | .maxsel _ h mask _ =>
     if (maskList mask).length < 2 then e 10 (maskList mask).length 2 else if h.val = 15 then e 10 15 14 else []
   | _ => [])

/-- Failures of a part, word by word; a word that is no instruction is a failure of check 3. -/
def partFailures (img : ProgImage) (part n : Nat) : Nat → List (BitVec 32) → List ReportEntry
  | _, [] => []
  | addr, w :: rest =>
    (match decodeWord w with
     | none => [{ reason := 3, part := part, addr := addr, requested := 0, limit := 0 }]
     | some i => instrFailures img part n addr i) ++ partFailures img part n (addr + 1) rest

/-- The decoded instructions of a part. -/
def partCode (ws : List (BitVec 32)) : List CInstr := ws.filterMap decodeWord

def ProgImage.mainWords (img : ProgImage) : List (BitVec 32) := img.words.take img.mainLen
def ProgImage.handlerWords (img : ProgImage) : List (BitVec 32) := (img.words.drop img.mainLen).take img.handlerLen
def ProgImage.hasHandler (img : ProgImage) : Bool := img.flags.testBit 0
def ProgImage.hasHold (img : ProgImage) : Bool := img.flags.testBit 1

/-- Failures of the whole image (checks 2, 8, 9, 10, 11, 12). `others` are the programs in force or pending on the other
cores (DESIGN CHOICE, notes/assumptions/98). -/
def imageFailures (img : ProgImage) (others : List Program) : List ReportEntry :=
  let e := fun part reason requested limit => [({ reason := reason, part := part, addr := 0xFFFF, requested := requested,
                                                  limit := limit } : ReportEntry)]
  let main := partCode img.mainWords
  let hand := partCode img.handlerWords
  (if img.versionByte / 16 ≠ 1 then e 2 2 img.versionByte 0x10 else []) ++
  (if img.mainLen = 0 ∨ 4096 < img.mainLen ∨ 4096 < img.mainLen + img.handlerLen then e 0 12 img.mainLen 4096 else []) ++
  (if decide (img.handlerLen ≠ 0) != img.hasHandler then e 1 12 img.handlerLen 4095 else []) ++
  (if 1024 < img.coefWords then e 2 12 img.coefWords 1024 else []) ++
  (if 512 < img.stateWords then e 2 12 img.stateWords 512 else []) ++
  (if img.sizeOk then [] else e 2 12 img.words.length (img.mainLen + img.handlerLen)) ++
  (if 1024 < img.nameEntries then e 2 12 img.nameEntries 1024 else []) ++
  (if mainBudget img.hasHandler img.hasHold < worstCase main then
    e 0 8 (worstCase main) (mainBudget img.hasHandler img.hasHold) else []) ++
  (if 300 < worstCase hand then e 1 8 (worstCase hand) 300 else []) ++
  (if worstCase main ≠ img.mainWorst then e 0 9 img.mainWorst (worstCase main) else []) ++
  (if worstCase hand ≠ img.handlerWorst then e 1 9 img.handlerWorst (worstCase hand) else []) ++
  (if 4 < countSel main + countSel hand then e 2 10 (countSel main + countSel hand) 4 else []) ++
  (if 4 < countFfw main + countFfw hand then e 2 10 (countFfw main + countFfw hand) 4 else []) ++
  (if others.any (fun o => decide (o.portsOwned &&& img.portsOwned.setWidth 3 ≠ 0) ||
      decide (o.limitPorts &&& img.limitPorts ≠ 0)) then e 2 11 img.portsOwned.toNat 0 else [])

/-- Every failure of Table 6-10; a header or hash failure, or an empty slot, is the only entry (R181). Failures of the whole
image stand after those of its code (DESIGN CHOICE, notes/assumptions/98). -/
def admissionFailures (img : Option ProgImage) (others : List Program) : List ReportEntry :=
  match img with
  | none => [{ reason := 1, part := 2, addr := 0xFFFF, requested := 0, limit := 0 }]
  | some img =>
    if !img.headerOk then [{ reason := 1, part := 2, addr := 0xFFFF, requested := 0, limit := 0 }]
    else
      partFailures img 0 img.mainLen 0 img.mainWords ++ partFailures img 1 img.handlerLen 0 img.handlerWords ++
      imageFailures img others

/-- Words from address 0, zeros unlisted. -/
def listWords : Nat → List Int → Sparse
  | _, [] => []
  | a, v :: rest => if v = 0 then listWords (a + 1) rest else (a, v) :: listWords (a + 1) rest

/-- k byteRuns of n bytes. -/
def byteRuns (n : Nat) : Nat → List (BitVec 8) → List (List (BitVec 8))
  | 0, _ => []
  | k + 1, b => b.take n :: byteRuns n k (b.drop n)

/-- A program image body of Table 6-9 as its fields say; bytes past its end read as zero. -/
def ProgImage.ofBytes (headerOk : Bool) (hash b : List (BitVec 8)) : ProgImage :=
  let at_ := fun (i n : Nat) => leNat ((b.drop i).take n)
  let nCode := at_ 2 2 + at_ 4 2
  let coefAt := 64 + 4 * nCode
  let stateAt := coefAt + 4 * at_ 10 2
  let nameAt := stateAt + 8 * at_ 12 2
  { headerOk := headerOk, versionByte := at_ 0 1, flags := at_ 1 1, mainLen := at_ 2 2, handlerLen := at_ 4 2
    mainWorst := at_ 6 2, handlerWorst := at_ 8 2, coefWords := at_ 10 2, stateWords := at_ 12 2
    portsOwned := BitVec.ofNat 16 (at_ 14 2), limitPorts := BitVec.ofNat 16 (at_ 16 2), nameEntries := at_ 18 2
    id := at_ 20 4, version := at_ 24 2, noticeMask := BitVec.ofNat 32 (at_ 26 4)
    words := (byteRuns 4 nCode (b.drop 64)).map (fun w => BitVec.ofNat 32 (leNat w))
    coef := (byteRuns 4 (at_ 10 2) (b.drop coefAt)).map (fun w => toSigned 32 (leNat w))
    state := (byteRuns 8 (at_ 12 2) (b.drop stateAt)).map (fun w => sat40 (toSigned 64 (leNat w)))
    names := (byteRuns 16 (at_ 18 2) (b.drop nameAt)).map (fun w => (leNat (w.take 2), w.drop 2))
    sizeOk := decide (b.length = nameAt + 16 * at_ 18 2), hash := hash }

/-- The program an admitted image gives. -/
def ProgImage.program (img : ProgImage) : Program :=
  { id := img.id, version := img.version, code := .code (partCode img.mainWords) (partCode img.handlerWords),
    hasHandler := img.hasHandler, hasHold := img.hasHold, mainWorst := img.mainWorst, handlerWorst := img.handlerWorst,
    portsOwned := img.portsOwned.setWidth 3, limitPorts := img.limitPorts, noticeMask := img.noticeMask.setWidth 24,
    coef := listWords 0 img.coef, state := listWords 0 img.state, coefWords := img.coefWords, stateWords := img.stateWords
    names := img.names, hash := img.hash }

/-! ### The standard loop set (Tables 7-1, 7-6, 7-7) -/

/-- Entry i of an INV table: 500 V / V for V = 62.5 V * i - 1,000 V above 500 V, else the largest Q31 (spec/07). -/
def invEntry (i : Nat) : Int := if i ≤ 24 then q31Max else rheDiv (2147483648 * 8) (i - 16)

/-- An INV table at 0x040 to 0x060. -/
def invTable : List (Nat × Int) := (List.range 33).map (fun i => (0x40 + i, invEntry i))

/-- Table 7-7. -/
def coefCore0 : Sparse :=
  [(0x000, 0x000053E3), (0x001, 0x4CCCCCCD), (0x002, 0x40000000), (0x004, 0x07AE147B), (0x005, 0x40000000),
   (0x006, 0x028F5C29), (0x008, 0x7FFFFFFF), (0x00A, 0x40000000)] ++ invTable

/-- Table 7-6. -/
def coefCore1 : Sparse :=
  [(0x000, 0x50000000), (0x001, 0x0CCCCCCD), (0x002, 0x028F5C29), (0x003, 0x4E147AE1), (0x004, 0x4E147AE1 * -1),
   (0x005, 0x40000000), (0x006, 0x40000000), (0x007, 0x10000000), (0x008, 0x50000000), (0x009, 0x40000000),
   (0x00A, 0x10000000), (0x00B, 0x50000000 * -1), (0x00C, 0x50000000), (0x00D, 0x00000432), (0x00E, 0x028F5C29),
   (0x00F, 0x4E147AE1), (0x011, 0x50000000), (0x012, 0x00000432), (0x013, 0x028F5C29), (0x014, 0x4E147AE1),
   (0x016, 0x40000000), (0x017, 0x60000000), (0x018, 0x000010C7), (0x019, 0x028F5C29), (0x01A, 0x4E147AE1),
   (0x01C, 0x028F5C29), (0x01D, 0x028F5C29), (0x01E, 0x66666666), (0x01F, 0x051EB852), (0x021, 0x7FFFFFFF)] ++ invTable

/-- A name of 14 bytes, padded with 0x00. -/
def nameBytes (s : String) : List (BitVec 8) :=
  let b := s.toList.map (fun c => BitVec.ofNat 8 c.toNat)
  b ++ List.replicate (14 - b.length) 0

/-- The name maps of the standard images (Tables 7-6 and 7-7); entry i of an INV table is INV at its first address. -/
def standardNames (n : Fin 4) : List (Nat × List (BitVec 8)) :=
  (match n.val with
   | 0 => [(0x000, "ALPHA"), (0x001, "P_MAX"), (0x002, "SOC_SET"), (0x003, "PULL"), (0x004, "PULL_MAX"), (0x005, "KP_F"),
       (0x006, "KI_F"), (0x007, "KT_F"), (0x008, "IF_HI"), (0x009, "IF_LO"), (0x00A, "K_SS"), (0x040, "INV")]
   | 1 => [(0x000, "KP_V"), (0x001, "KI_V"), (0x002, "KT_V"), (0x003, "IV_HI"), (0x004, "IV_LO"), (0x005, "KFF"),
       (0x006, "FFW0_THR"), (0x007, "FFW0_SLP"), (0x008, "FFW0_GAIN"), (0x009, "FFW1_THR"), (0x00A, "FFW1_SLP"),
       (0x00B, "FFW1_GAIN"), (0x00C, "KP_LO"), (0x00D, "KI_LO"), (0x00E, "KT_LO"), (0x00F, "ILO_HI"), (0x010, "ILO_LO"),
       (0x011, "KP_HI"), (0x012, "KI_HI"), (0x013, "KT_HI"), (0x014, "IHI_HI"), (0x015, "IHI_LO"), (0x016, "T_SET"),
       (0x017, "KP_T"), (0x018, "KI_T"), (0x019, "KT_T"), (0x01A, "IT_HI"), (0x01B, "IT_LO"), (0x01C, "SLEW_UP"),
       (0x01D, "SLEW_DN"), (0x01E, "KP_I"), (0x01F, "KI_I"), (0x020, "KT_I"), (0x021, "II_HI"), (0x022, "II_LO"),
       (0x040, "INV")]
   | _ => []).map (fun e : Nat × String => (e.1, nameBytes e.2))

/-- The image of the standard loop set for a core (Table 7-1). -/
def standardProgram (n : Fin 4) : Program :=
  match n.val with
  | 0 => { id := 0x01000000, version := 0x0100, code := .standard, hasHandler := false, hasHold := true, mainWorst := 96,
           handlerWorst := 0, portsOwned := 1, limitPorts := 0, noticeMask := 0, coef := coefCore0, state := [],
           coefWords := 0x61, stateWords := 0x102, names := standardNames n, hash := [] }
  | 1 => { id := 0x01000001, version := 0x0100, code := .standard, hasHandler := true, hasHold := true, mainWorst := 268,
           handlerWorst := 44, portsOwned := 6, limitPorts := 0, noticeMask := 0xFFFFFF, coef := coefCore1, state := [],
           coefWords := 0x61, stateWords := 0x132, names := standardNames n, hash := [] }
  | 2 => { id := 0x01000002, version := 0x0100, code := .standard, hasHandler := false, hasHold := true, mainWorst := 52,
           handlerWorst := 0, portsOwned := 0, limitPorts := 3, noticeMask := 0, coef := [], state := [],
           coefWords := 0, stateWords := 0, names := standardNames n, hash := [] }
  | _ => { id := 0x01000003, version := 0x0100, code := .standard, hasHandler := false, hasHold := false, mainWorst := 1,
           handlerWorst := 0, portsOwned := 0, limitPorts := 0, noticeMask := 0, coef := [], state := [],
           coefWords := 0, stateWords := 0, names := standardNames n, hash := [] }

/-! ### Cores in the state -/

def State.core (s : State) (n : Fin 4) : CoreSt := s.card.cores[n]

def State.setCore (n : Fin 4) (c : CoreSt) (s : State) : State :=
  { s with card := { s.card with cores := s.card.cores.set n c } }

def State.modCore (n : Fin 4) (f : CoreSt → CoreSt) (s : State) : State := s.setCore n (f (s.core n))

def allCores : List (Fin 4) := [0, 1, 2, 3]

/-- The image a slot names (R182): 255 is the standard loop set, which is admitted like any other image. -/
inductive SlotImage where
  | standard (p : Program)
  | stored (img : Option ProgImage)

def State.slotImage (s : State) (n : Fin 4) : SlotImage :=
  let slot := s.getN (K.coreProgramSlot n)
  if slot = 255 then .standard (standardProgram n)
  else .stored ((s.card.store.find? (fun e => decide (e.1 = slot))).map (·.2))

/-- Programs in force or pending on the other cores (check 11). -/
def State.otherPrograms (s : State) (n : Fin 4) : List Program :=
  (allCores.filter (· ≠ n)).flatMap (fun m => (s.core m).prog.toList ++ (s.core m).pendProg.toList)

/-- Admission of what a core's slot names: the program, or its failures. -/
def State.admitProgram (s : State) (n : Fin 4) : Option Program × List ReportEntry :=
  match s.slotImage n with
  | .standard p =>
    if (s.otherPrograms n).any (fun o => decide (o.portsOwned &&& p.portsOwned ≠ 0) || decide (o.limitPorts &&& p.limitPorts ≠ 0)) then
      (none, [{ reason := 11, part := 2, addr := 0xFFFF, requested := p.portsOwned.toNat, limit := 0 }])
    else (some p, [])
  | .stored img =>
    let fails := admissionFailures img (s.otherPrograms n)
    match img with
    | some i => if fails.isEmpty then (some i.program, []) else (none, fails)
    | none => (none, fails)

/-- Coefficient values with the words saved for the program id (R182, R184). -/
def CoreSt.coefFor (c : CoreSt) (p : Program) : Sparse :=
  match c.saved.find? (fun e => decide (e.1 = p.id)) with
  | some e => e.2
  | none => p.coef

/-- Put a program in force: its coefficients, state memory as given, win counts restarted (R182, R183); the selector records
and gate weights of the old program go as well (DESIGN CHOICE, notes/assumptions/113). -/
def CoreSt.enforce (c : CoreSt) (p : Program) (sm : Sparse) : CoreSt :=
  { c with prog := some p, pendProg := none, pendState := .empty, coef := p.coef, sm := sm, winCounts := [],
           selRecs := [], gates := [], swapPend := false, swapLate := false, todo := [], unpublished := [] }

end Sys2Proof.Machine
end

