-- ==== Sys2Proof/Machine/Measure.lean ====
section
/-! DEFINITION. Measurement registers and their log (spec/18, R459 and R460). -/

namespace Sys2Proof.Machine

/-- The firmware bank of an index, and the version of the bank that runs. -/
def ModState.bank (m : ModState) (b : Bool) : BankSt := if b then m.bankB else m.bankA

def State.runningVersion (s : State) : Nat :=
  match s.md.running with
  | .a => s.md.bankA.version
  | .b => s.md.bankB.version
  | .recovery => 0

/-- A measurement log entry of 64 bytes (R460) (DESIGN CHOICE, notes/assumptions/65). -/
def logEntry (reg kind subject ft id version : Nat) (d : List Byte) : List Byte :=
  leBytes 1 reg ++ leBytes 1 kind ++ leBytes 2 subject ++ leBytes 8 ft ++ leBytes 4 id ++ leBytes 2 version ++ [0, 0] ++ d ++
  List.replicate 12 0

/-- Mx := SHA-256(Mx ‖ D) with its log entry; the log holds the first 4,096 (R459, R460). -/
def State.measure (reg kind subject id version : Nat) (d : List Byte) (s : State) : State :=
  if h : reg < 8 then
    let x := s.cry
    let full := decide (4096 ≤ x.log.length)
    let say := full && !x.fullSaid
    let s := { s with cry := { x with
      regs := x.regs.set reg (Config.sha256 (x.regs[reg] ++ d)), extensions := x.extensions + 1
      log := if full then x.log else x.log ++ [logEntry reg kind subject s.ft id version d]
      fullSaid := x.fullSaid || full } }
    s.when say (State.raise0 Cause.measurementLogFull)
  else s

/-- Extension by an object's new value (M5) (DESIGN CHOICE, notes/assumptions/65). -/
def State.measureValue (v : List Byte) (s : State) : State := s.measure 5 0 0xFFFF 0 0 (Config.sha256 v)

/-- The time certificates are held to: FT less the UTC offset, none while the time state is INVALID (R445). -/
def State.certTime (s : State) : Option Int :=
  if s.time.mode = .invalid then none else some ((s.ft : Int) - s.get K.timeUTCOffset * sec)

/-- A certificate is checked while the time state is INVALID: its validity period is not, said once a start (R445). -/
def State.noteCert (s : State) : State :=
  if s.time.mode = .invalid ∧ !s.cry.uncheckedSaid then
    ({ s with cry := { s.cry with uncheckedSaid := true } }).raise0 Cause.certTimeUnchecked
  else s

end Sys2Proof.Machine
end

