-- ==== Sys2Proof/Machine/CardOps.lean ====
section
/-! DEFINITION. What the Cardamom commands share: a core's effects on the module, faults, coefficient words and the hold
buffer, notices (spec/06). -/

namespace Sys2Proof.Machine

/-- The port writes of a core reach the phase units, and its saturations and clamps are counted (R162, R164 to R166). The
first accumulator saturation in any second records ACC_SATURATION (DESIGN CHOICE, notes/assumptions/15). -/
def State.settle (n : Fin 4) (s : State) : State :=
  let c := s.core n
  let fresh := decide (0 < c.accSats) && (match c.satRecordedAt with | some t => decide (t + sec ≤ s.now) | none => true)
  let s := s.setCore n { c with
    accSats := 0, storeSats := 0, clamps := 0, emitted := []
    satRecordedAt := if fresh then some s.now else c.satRecordedAt }
  let s := s.when (decide (0 < c.accSats)) (State.countBy 32 (K.coreAccumulatorSaturations n) c.accSats)
  let s := s.when (decide (0 < c.storeSats)) (State.countBy 32 (K.coreStoreSaturations n) c.storeSats)
  let s := s.when (decide (0 < c.clamps)) (State.countBy 32 (K.coreLimitClamps n) c.clamps)
  let s := s.each c.emitted (fun e s => s.commandWrite (if e.1 = 0 then .feed else .storage) e.2)
  s.when fresh (State.raiseOn Cause.accSaturation n)

/-- The converter whose command port a program owns (Table 6-5). -/
def Program.owns (p : Program) : Conv → Bool
  | .feed => p.portsOwned.getLsbD 0
  | .storage => p.portsOwned.getLsbD 1

/-- A core enters FAULTED (R187): the evaluation is aborted, its ports hold, its converters stop at their carrier
boundary. -/
def State.faultCore (n : Fin 4) (s : State) : State :=
  let c := s.core n
  let s := s.setCore n { c with
    state := .faulted, unpublished := [], unpublishedH := [], todo := [], emitted := [], notice := none, taken := none, inHandler := false, skip := 0,
    stopPend := false, startPend := false }
  let s := s.each (convs.filter (fun k => match c.prog with | some p => p.owns k | none => false))
    (fun k s => s.stopConv k .core)
  s.raiseOn Cause.coreFaulted n

/-- A core becomes RUNNING (R182, R185): the converters it had stopped may start again (R491, R129). -/
def State.runCore (n : Fin 4) (s : State) : State :=
  let s := s.modCore n (fun c => { c with state := .running, startPend := false, stopPend := false })
  let s := s.raiseOn Cause.coreStarted n
  let waits := convs.filter (fun k => decide ((s.conv k).stopRule = some .core) &&
    (match (s.core n).prog with | some p => p.owns k | none => false))
  s.startWaiting waits

/-- Put a program in force on a core, with its notice mask (0x4100+n.0E); M2 and, for saved coefficients, M4 are extended
(Table 18-4). -/
def State.enforceOn (n : Fin 4) (p : Program) (sm : Sparse) (s : State) : State :=
  let saved := (s.core n).saved.find? (fun e => decide (e.1 = p.id))
  let s := (s.modCore n (fun c => c.enforce p sm)).put (K.coreNoticeMask n) p.noticeMask.toNat
  let hash := if p.code = .standard then Config.bankImageHash s.runningVersion 3 n else p.hash
  let s := s.measure 2 3 n p.id p.version hash
  match saved.filter (fun e => decide (e.2 = p.coef)) with
  | some e => s.measure 4 0 n p.id p.version (Config.sha256 (e.2.flatMap (fun w => leBytes 2 w.1 ++ leBytes 4 (toUnsigned 32 w.2))))
  | none => s

/-- One coefficient word in force (R175). -/
def CoreSt.coefWord (c : CoreSt) (e : Nat × Int) : CoreSt := { c with coef := c.coef.put zeroDflt e.1 e.2 }

/-- Is the core idle: no evaluation running and none suspended (R175)? -/
def CoreSt.idle (c : CoreSt) : Bool := c.todo.isEmpty && !c.inHandler

/-- Do words written now wait: behind a release, behind other words, or for the core to be idle (R175, R178)? -/
def CoreSt.waits (c : CoreSt) : Bool := decide (c.hold = .release) || !c.waiting.isEmpty || !c.idle

/-- A coefficient word reaches its core (R175, R178): to the hold buffer while a hold is open, behind the words that wait, or
in force where the core is idle (DEDUCED, notes/assumptions/16). -/
def CoreSt.takeWord (e : Nat × Int) (c : CoreSt) : CoreSt :=
  if c.hold = .open_ then { c with held := c.held ++ [e] }
  else if c.waits then { c with waiting := c.waiting ++ [e] }
  else c.coefWord e

/-- The words that wait come into force in the coefficient window, in order, unless a release stands before them (R175,
R178). -/
def CoreSt.applyWaiting (c : CoreSt) : CoreSt :=
  if c.hold = .release then c else { c.waiting.foldl CoreSt.coefWord c with waiting := [] }

/-- A released hold in a coefficient window: all held words, in order, then the words that waited behind them (R178)
(DEDUCED, notes/assumptions/16). -/
def CoreSt.applyHold (c : CoreSt) : CoreSt :=
  let c := (c.held ++ c.waiting).foldl CoreSt.coefWord c
  { c with held := [], waiting := [], hold := .closed }

/-- Is the release due in a window of the tick whose boundary is now (R178)? -/
def State.releaseDue (s : State) (n : Fin 4) : Bool :=
  decide ((s.core n).hold = .release) &&
  (decide (s.getN (K.coreReleaseFT n) = 0) || decide (s.getN (K.coreReleaseFT n) ≤ s.ft))

/-- HOLD_RELEASED: a release that is due. -/
def State.releaseHold (n : Fin 4) (s : State) : State :=
  s.when (s.releaseDue n) (fun s => (s.modCore n CoreSt.applyHold).raiseOn Cause.holdReleased n)

/-- A hold is discarded and closes (R178). -/
def CoreSt.dropHold (c : CoreSt) : CoreSt :=
  let c := c.waiting.foldl CoreSt.coefWord c
  { c with held := [], waiting := [], hold := .closed }

/-- A notice reaches a core with a handler: it opens or joins the pending record (R156). `bits` is its part of the tray
bitmap, `stamp` its arrival in FT. -/
def State.joinNotice (bits : BitVec 24) (step : Int) (stamp : Nat) (n : Fin 4) (s : State) : State :=
  let c := s.core n
  match c.prog with
  | none => s
  | some p =>
    if !p.hasHandler then s
    else
      match c.notice with
      | none => s.setCore n { c with notice := some { count := 1, step := sat31 step, stamp := stamp % 2 ^ 32, trays := bits } }
      | some r =>
        let sum := sat31 (r.step + step)
        let cut := decide (sum ≠ r.step + step)
        let s := s.setCore n { c with notice := some { r with count := r.count + 1, step := sum, trays := r.trays ||| bits } }
        (s.inc (K.coreNoticesJoined n)).when cut (State.inc (K.coreStoreSaturations n))

/-- A notice at one core (R156). -/
def State.noticeAt (tray : Fin 24) (step : Int) (stamp : Nat) (n : Fin 4) (s : State) : State :=
  let c := s.core n
  if !c.maskInForce.getLsbD tray.val then s
  else if c.state ≠ .running then
    (s.inc K.engineNoticesDiscarded).raise Cause.noticeDiscarded (args n [(tray, 1)])
  else s.joinNotice (1#24 <<< tray.val) step stamp n

/-- The dispatcher delivers a current-step notice, with its arrival stamp, to every core whose mask names the tray (R156). -/
def State.notice (tray : Fin 24) (step : Int) (stamp : Nat) (s : State) : State :=
  s.wakeBurst.each allCores (State.noticeAt tray step stamp)

end Sys2Proof.Machine
end

