-- ==== Sys2Proof/Machine/Loops.lean ====
section
/-! DEFINITION. The standard loop set (spec/07): what its images compute in each tick and at an event slot, with the
engine's products, integrators and selectors. -/

namespace Sys2Proof.Machine

def State.modLoop (f : LoopState → LoopState) (s : State) : State := { s with lp := f s.lp }

/-- A snapshot port. -/
def Snapshot.port (f : Snapshot) (p : Nat) : Int := f.ports.get zeroDflt p

/-- Bus voltage in Q15 of 1,000 V: channel 40, or channel 46 while the validity bit of channel 40 is clear (R191). -/
def Snapshot.vbus (f : Snapshot) : Int := if (f.port 0x63 % 65536).toNat.testBit 8 then f.port 40 else f.port 46

/-- Interpolation in the INV table: 500 V divided by a voltage, Q31 (R173, Table 7-7). -/
def CoreSt.inv (c : CoreSt) (v : Int) : Int :=
  let u := (v + 32768).toNat
  let i := u / 2048
  let lo := c.coefI (0x40 + i)
  lo + rheDiv ((c.coefI (0x41 + i) - lo) * (u % 2048 : Nat)) 2048

/-- A value into an accumulator, saturated and counted (R164). -/
def CoreSt.load (c : CoreSt) (a : Fin 8) (x : Int) : CoreSt := (c.sat x).1.setAcc a (c.sat x).2

/-- One integrator of Table 7-3: the error enters as Q15; the Int is the integrator's value. -/
def CoreSt.integOf (c : CoreSt) (err : Int) (k : Fin 1024) (m : Fin 512) : CoreSt × Int :=
  let c := (((c.load 7 err).iSatd 7 13 0).iInteg 6 13 k m)
  (c, c.accI 6)

/-- A value limited as the engine clamps: upper, then lower; a cut is counted (R166) (DESIGN CHOICE, notes/assumptions/96). -/
def CoreSt.limitOf (c : CoreSt) (lo hi x : Int) : CoreSt × Int :=
  let y := clampInt lo hi x
  (c.countClamp (decide (y ≠ x)), y)

/-- A command as Q15 to a 16-bit port (R165). -/
def CoreSt.outQ15 (c : CoreSt) (x : Int) (p : Fin 64) : CoreSt := ((c.load 7 x).iSatd 7 13 0).iOut 13 p

/-- A published value as Q31 (R210). -/
def CoreSt.outQ31 (c : CoreSt) (x : Int) (p : Fin 64) : CoreSt := (c.load 7 x).iOutl 7 p

/-- What the standard images carry in state memory, at addresses Table 7-3 leaves free (R151)
(DESIGN CHOICE, notes/assumptions/113). -/
def CoreSt.loopVals (c : CoreSt) : LoopVals :=
  { pAvg := c.smI 0x000, pF := c.smI pfAddress, off := c.smI 0x002, age := (c.smI 0x003).toNat, prevF := c.smI 0x004
    prevLoad := c.smI 0x005, noticeSeen := decide (c.smI 0x006 ≠ 0), iS := c.smI 0x007, cmdLast := c.smI 0x008
    iRefPrev := c.smI 0x009 }

/-- Put the feed values of core 0 back. -/
def CoreSt.putFeedVals (c : CoreSt) (v : LoopVals) : CoreSt := (c.storeSm 0x000 v.pAvg).storeSm pfAddress v.pF

/-- Put the storage values of core 1 back. -/
def CoreSt.putStorageVals (c : CoreSt) (v : LoopVals) : CoreSt :=
  (((((((c.storeSm 0x002 v.off).storeSm 0x003 v.age).storeSm 0x004 v.prevF).storeSm 0x005 v.prevLoad).storeSm 0x006
    (if v.noticeSeen then 1 else 0)).storeSm 0x007 v.iS).storeSm 0x008 v.cmdLast).storeSm 0x009 v.iRefPrev

/-- Bits as a number. -/
def bitsOf : List Bool → Nat
  | [] => 0
  | b :: rest => (if b then 1 else 0) + 2 * bitsOf rest

/-- Core 0, R191 to R193: the core, with p_f and p_t (DEDUCED, notes/assumptions/14 and 44). -/
def feedLoop (f : Snapshot) (c : CoreSt) : CoreSt × Int × Int :=
  let lp := c.loopVals
  let vbus := f.vbus
  let ifeed := f.port 44
  let feedPower := vbus * ifeed * 1000
  let ilim := f.port 0x41 * 65536
  let soft := (f.port 0x60 % 65536).toNat.testBit 6
  let power := feedPower + f.port 42 * f.port 43 * 1000
  let pAvg := if soft then feedPower else lp.pAvg + mulQ31 (power - lp.pAvg) (c.coefI 0x000)
  let pullMax := c.coefI 0x004 * 250
  let pull := c.limitOf (-pullMax) pullMax (mulQ31 (c.coefI 0x002 - f.port 0x46 * 65536) (c.coefI 0x003) * 2500)
  let cap := min (f.port 0x45) (c.coefI 0x001) * 250
  let t := pull.1.limitOf 0 cap (pAvg + pull.2)
  let capBinds := decide (f.port 0x45 ≤ c.coefI 0x001) && decide (cap < pAvg + pull.2)
  -- p_f, the feed current reference, and bits 0, 1, 3 and 4 of port 0x06
  let m : CoreSt × Int × Int × List Bool :=
    if soft then
      -- voltage mode (R193)
      let want := 2 * mulQ31 ((f.port 0x40 - vbus) * 65536) (c.coefI 0x00A)
      let r := t.1.limitOf 0 ilim want
      (r.1, feedPower, r.2, [false, false, capBinds, decide (ilim < want), true])
    else
      let up := rheDiv (f.port 0x43) 4
      let dn := rheDiv (f.port 0x44) 4
      let step := t.1.limitOf (-dn) up (t.2 - lp.pF)
      let pF := lp.pF + step.2
      let want := rheDiv (pF * c.inv vbus) (250 * 2147483648)
      (step.1, pF, min want ilim,
        [decide (up < t.2 - lp.pF), decide (t.2 - lp.pF < -dn), capBinds, decide (ilim < want), false])
  let pF := m.2.1
  let iFr := m.2.2.1
  let i := m.1.integOf (iFr - ifeed * 65536) 6 0x100
  let c := i.1.outQ15 (2 * mulQ31 (iFr - ifeed * 65536) (c.coefI 0x005) + i.2) 0
  let c := (((c.outQ31 (rheDiv t.2 250) 3).outQ31 (rheDiv pF 250) 4).outQ31 (rheDiv pAvg 250) 5).outQ31 (bitsOf m.2.2.2) 6
  (((c.outQ31 (rheDiv pF 250) 0x20).putFeedVals { lp with pF := pF, pAvg := pAvg }).publish, pF, t.2)

/-- Bus-to-string current ratio (R194), Q31. -/
def CoreSt.ratio (c : CoreSt) (f : Snapshot) : Int := 2 * mulQ15Q31 f.vbus (c.inv (f.port 42))

/-- More than 8 A in Q31 of 2,000 A (R199, step 4). -/
def over8A (x : Int) : Bool := decide (8 * 2147483648 < x.natAbs * 2000)

/-- Move towards zero by a magnitude, never past zero. -/
def towardsZero (o m : Int) : Int := if 0 ≤ o then max 0 (o - m.natAbs) else min 0 (o + m.natAbs)

/-- Same sign, neither zero. -/
def sameSign (a b : Int) : Bool := (decide (0 < a) && decide (0 < b)) || (decide (a < 0) && decide (b < 0))

/-- Step 2 of R199 on the offset. -/
def registerStep (o c : Int) : Int :=
  if sameSign o c then (if c.natAbs ≤ o.natAbs then o else c) else o + c

/-- The part of a change from p to f that moves away from zero: all of it, or, where f crosses zero, the part beyond
(DEDUCED, notes/assumptions/97). -/
def awayPart (p f : Int) : Int :=
  if sameSign p f ∨ p = 0 then (if p.natAbs < f.natAbs then f - p else 0) else f

/-- The anticipation offset and its age (R199): new offset, new age, did step 2 change it?
(DESIGN CHOICE, notes/assumptions/18; DEDUCED, notes/assumptions/97). -/
def anticipation (lp : LoopVals) (f reg1 prev1 load ratio : Int) (legacy : Bool) : Int × Nat × Bool :=
  let o1 := lp.off + awayPart lp.prevF f
  let c := rheDiv ((reg1 - prev1) * ratio) 2147483648
  let o2 := if reg1 ≠ prev1 ∧ !legacy then registerStep o1 c else o1
  let m := rheDiv ((load - lp.prevLoad) * ratio) 2147483648
  let o3 := if sameSign m o2 then towardsZero o2 m else o2
  let fresh := over8A (o1 - lp.off) || over8A (o2 - o1) || lp.noticeSeen
  let age := if fresh then 0 else lp.age + 1
  (if 16 ≤ age then 0 else o3, min age 63, decide (o2 ≠ o1))

/-- Core 1, main evaluation (R194, R195, R199, R201). `regs` are clove register 1 in this and the previous snapshot. The
Bool says that a register 1 step changed the offset (DEDUCED, notes/assumptions/14; DESIGN CHOICE, notes/assumptions/96). -/
def storageLoop (f : Snapshot) (reg1 prev1 : Int) (c : CoreSt) : CoreSt × Bool :=
  let lp := c.loopVals
  let vbus := f.vbus
  let load := f.port 45 * 65536
  let istr := f.port 43 * 65536
  let lim := f.port 0x42 * 65536
  let r := c.ratio f
  -- f := ffw0(value 10) + ffw1(value 0), doubled (R201)
  let c := ((c.iClr 0).iFfw f 0 6 10).iFfw f 0 9 0
  let c := c.iSha 0 1
  let ff := c.accI 0
  let an := anticipation lp ff reg1 prev1 load r ((f.port 0x60 % 65536).toNat.testBit 5)
  let o := an.1
  let ev := (f.port 0x40 - vbus) * 65536
  let eLo := (f.port 0x46 - f.port 0x47) * 65536
  let eHi := (f.port 0x48 - f.port 0x46) * 65536
  let eTh := c.coefI 0x016 - f.port 0x49 * 65536
  let iv := c.integOf ev 0x001 0x120
  let ilo := iv.1.integOf eLo 0x00D 0x102
  let ihi := ilo.1.integOf eHi 0x012 0x112
  let c := if lp.iRefPrev < 0 then ihi.1.setSm 0x105 (ihi.1.smI 0x115) else ihi.1
  let it := c.integOf eTh 0x018 0x104
  let ii := it.1.integOf (lp.iS - istr) 0x01F 0x130
  let c := ii.1
  let ff1 := rheDiv (2 * mulQ31 (load - f.port 44 * 65536) (c.coefI 0x005) * r) 2147483648
  let sV := c.sat (ff1 + 32 * mulQ31 ev (c.coefI 0x000) + iv.2 + o)
  let sLo := sV.1.sat (32 * mulQ31 eLo (c.coefI 0x00C) + ilo.2)
  let sHi := sLo.1.sat (32 * mulQ31 eHi (c.coefI 0x011) + ihi.2)
  let sTh := sHi.1.sat (8 * mulQ31 eTh (c.coefI 0x017) + it.2)
  let iV := sV.2
  let aLo := sLo.2
  let aHi := sHi.2
  let aTh := sTh.2
  let c := sTh.1
  -- selectors 0, 1 and 2 (Table 7-2)
  let c := (c.setDat 14 0x7FFF).setDat 15 0
  let c := (((c.setAcc 0 lim).setAcc 1 aLo).setAcc 2 aTh).iMinsel 3 14 7 0x100
  let aDis := c.accI 3
  let c := (((c.setAcc 0 lim).setAcc 1 aHi).setAcc 2 aTh).iMinsel 3 14 7 0x110
  let aChg := c.accI 3
  let c := (c.load 7 (-aChg)).iSatd 7 15 0
  let c := ((c.setAcc 0 iV).setAcc 1 aDis).iMinsel 3 14 3 0x120
  let iRef := c.accI 3
  let up := max (c.coefI 0x01C) 0
  let dn := max (c.coefI 0x01D) 0
  let d := iRef - lp.iS
  let iS := if up < d then lp.iS + up else if d < -dn then lp.iS - dn else iRef
  let bound := decide (up < d) || decide (d < -dn)
  let c := c.countClamp bound
  let cmd := mulQ31 (iS - istr) (c.coefI 0x01E) + ii.2
  let c := (c.outQ15 cmd 1).outQ15 iS 2
  let c := ((((((c.outQ31 iV 3).outQ31 aDis 4).outQ31 aChg 5).outQ31 o 6).outQ31 ff 7).outQ31 iRef 8).outQ31
    (bitsOf [bound, !bound] + 4 * an.2.1) 9
  let c := ((c.outQ31 aDis 0x20).outQ31 aChg 0x21).outQ31 iS 0x22
  ((c.putStorageVals { lp with
    off := o, age := an.2.1, prevF := ff, prevLoad := load, noticeSeen := false, iS := iS
    cmdLast := sat31 cmd, iRefPrev := iRef }).publish, an.2.2)

/-- Core 1, notice handler (R200), with the allowances of the previous tick from its exchange words
(DEDUCED, notes/assumptions/14). -/
def noticeHandler (f : Snapshot) (c : CoreSt) : CoreSt :=
  let lp := c.loopVals
  let d := rheDiv (c.inPort f 0x71 * c.ratio f) 2147483648
  let i := c.limitOf (-f.port 0x91) (f.port 0x90) (lp.iS + d)
  let cmd := i.1.limitOf 0 (32767 * 65536) (lp.cmdLast + mulQ31 (i.2 - lp.iS) (c.coefI 0x01E))
  ((cmd.1.outQ15 cmd.2 1).putStorageVals { lp with
    off := lp.off + d, age := 0, noticeSeen := true, iS := i.2, cmdLast := cmd.2 }).publish

/-- Core 2 (R203): requests, and overdraw and surplus in Q31 of 1,000 kW (DEDUCED, notes/assumptions/14). -/
def limitLoop (f : Snapshot) (c : CoreSt) : CoreSt × Int × Int :=
  let cap := f.port 0x45
  let pF := f.port 0x80
  let load := f.vbus * f.port 45 * 4
  let pDis := 2 * mulQ15Q31 (f.port 42) (f.port 0x90)
  let pChg := 2 * mulQ15Q31 (f.port 42) (f.port 0x91)
  let excess := max (load - cap - pDis) 0
  let surplus := max (pF - pChg - cap) 0
  ((((((c.outQ31 (min pF cap + pDis) 0x10).outQ31 (min (pF - pChg) cap) 0x11).outQ31 excess 3).outQ31 surplus 4).publish),
    excess, surplus)

/-- The storage selection code (R196). -/
def CoreSt.selection (c : CoreSt) : Nat :=
  let rec? := fun n : Nat => (c.selRecs.find? (fun e => decide (e.1 = n))).map (·.2)
  match rec? 2 with
  | none => 0
  | some r2 =>
    if r2.lo then 4 + ((rec? 1).map (·.winner)).getD 0
    else if r2.winner = 1 then 1 + ((rec? 0).map (·.winner)).getD 0
    else 0

/-- Open binding episodes after a tick with a code: an episode ends when its code has been absent for 100 ms (R197). -/
def bindAge (code : Nat) (l : List (Nat × Nat)) : List (Nat × Nat) :=
  (l.map (fun e => if e.1 = code then (e.1, 0) else (e.1, e.2 + 1))).filter (fun e => decide (e.2 < 100000))

/-- The selection code of a tick is published, timed and followed (R196, R197). -/
def State.noteSelection (code : Nat) (s : State) : State :=
  let s := (s.put K.loopStorageSelection code).inc64 (K.loopSelectionTime code)
  s.modLoop (fun l => { l with
    bindCode := code, bindRun := if code = l.bindCode then l.bindRun + 1 else 1, bindOpen := bindAge code l.bindOpen })

/-- Overdraw and surplus of a tick (R205, R206). -/
def State.noteOverdraw (excess surplus : Int) (s : State) : State :=
  let s := s.put K.loopOverdraw (rheDiv (excess * 1000000) 2147483648)
  let od := decide (0 < excess)
  let su := decide (0 < surplus)
  let s := s.when (s.lp.odEpisode && od) (State.inc64 K.loopOverdrawTime)
  s.modLoop (fun l => { l with
    odRun := if od then l.odRun + 1 else 0
    odAbsent := if od then 0 else l.odAbsent + 1
    odEpisode := l.odEpisode && (od || decide (l.odAbsent + 1 < 100))
    suRun := if su then l.suRun + 1 else 0
    suAbsent := if su then 0 else l.suAbsent + 1
    suEpisode := l.suEpisode && (su || decide (l.suAbsent + 1 < 100)) })

/-- The main evaluation of a standard image on its core, from the snapshot of the tick (DEDUCED, notes/assumptions/44). -/
def State.standardMain (n : Fin 4) (s : State) : State :=
  let f := s.card.snap
  let c := (s.core n).begin_ false
  match n.val with
  | 0 =>
    let r := feedLoop f c
    ((s.setCore 0 r.1).modLoop (fun l => { l with pF := r.2.1, pT := r.2.2 })).put K.loopFeedRampState (r.1.ports.get zeroDflt 6)
  | 1 =>
    let r := storageLoop f (s.card.cloveRegs[1].toInt) (s.card.prevRegs[1].toInt) c
    let s := s.setCore 1 r.1
    (s.when r.2 (State.inc K.loopRegister1StepsApplied)).noteSelection r.1.selection
  | 2 =>
    let r := limitLoop f c
    (s.setCore 2 r.1).noteOverdraw r.2.1 r.2.2
  | _ => s.setCore n c.publish

/-- FEED_OVERDRAW (R205): the overdraw has stayed above zero for the hold time. -/
def execFeedOverdraw (s : State) : Out :=
  if !s.lp.odEpisode ∧ s.getN K.loopOverdrawHold ≤ s.lp.odRun then
    .next (((s.modLoop (fun l => { l with odEpisode := true })).inc K.loopOverdrawEpisodes).raise Cause.feedOverdraw
      (args0 [(s.getN K.loopOverdraw, 4)]))
  else .next s

/-- CAP_SURPLUS (R206). -/
def execCapSurplus (s : State) : Out :=
  if !s.lp.suEpisode ∧ s.getN K.loopOverdrawHold ≤ s.lp.suRun then
    .next ((s.modLoop (fun l => { l with suEpisode := true })).raise0 Cause.capSurplus)
  else .next s

/-- A binding code in force for the report time opens its episode (R197). -/
def State.binding (codes : List Nat) (cause : Nat) (s : State) : State :=
  let k := s.lp.bindCode
  if codes.contains k && decide (s.getN K.loopBindingReportTime * 1000 ≤ s.lp.bindRun) &&
      !(s.lp.bindOpen.any (fun e => decide (e.1 = k))) then
    (s.modLoop (fun l => { l with bindOpen := (k, 0) :: l.bindOpen })).raise cause (args0 [(k, 1)])
  else s

/-- STORAGE_LIMIT_BINDING (R197). -/
def execStorageLimitBinding (s : State) : Out := .next (s.binding [1, 4] Cause.storageLimitBinding)

/-- SOC_FLOOR_BINDING (R197). -/
def execSocFloorBinding (s : State) : Out := .next (s.binding [2] Cause.socFloorBinding)

/-- SOC_CEILING_BINDING (R197). -/
def execSocCeilingBinding (s : State) : Out := .next (s.binding [5] Cause.socCeilingBinding)

/-- THERMAL_DERATE (R197). -/
def execThermalDerate (s : State) : Out := .next (s.binding [3, 6] Cause.thermalDerate)

end Sys2Proof.Machine
end

