-- ==== Sys2Proof/Machine/Card.lean ====
section
/-! DEFINITION. Meanings of the Cardamom commands and of its 35 instructions (spec/06). -/

namespace Sys2Proof.Machine

/-! ### Evaluations (R151 to R157) -/

/-- CARDAMOM_OVERRUN (R155): an evaluation without its END in time is aborted. -/
def State.overrun (n : Fin 4) (s : State) : State :=
  (((s.inc (K.coreOverruns n)).inc K.engineOverruns).raiseOn Cause.cardamomOverrun n).faultCore n

/-- The handler of a core on a notice record (R153): bank H, ports 0x70 to 0x73 from the record, END within 300 cycles (R155).
A suspended main evaluation is left as it stands. -/
def State.runHandler (n : Fin 4) (r : NoticeRec) (s : State) : State :=
  let s := s.countBy 32 (K.coreNoticesHandled n) r.count
  let m := s.core n
  match m.prog with
  | none => s
  | some p =>
    let first := match p.code with | .code i _ => (countSel i, countFfw i) | .standard => (3, 2)
    let c := { ({ m with notice := none, taken := some r } : CoreSt).begin_ true with selNext := first.1, ffwNext := first.2 }
    match p.code with
    | .standard =>
      let c := (noticeHandler s.card.snap c).spend p.handlerWorst
      (s.setCore n { c with selNext := m.selNext, ffwNext := m.ffwNext }).settle n
    | .code _ h =>
      let c := c.runTo s.card.snap (m.cyc + 300) h
      let late := !c.todo.isEmpty
      let s := (s.setCore n { c with selNext := m.selNext, ffwNext := m.ffwNext, todo := m.todo }).settle n
      s.when late (State.overrun n)

/-- An event slot takes any pending notice record (R153). -/
def State.eventSlot (n : Fin 4) (s : State) : State :=
  if (s.core n).state = .running then
    match (s.core n).notice with
    | some r => s.runHandler n r
    | none => s
  else s

/-- Main evaluation deadline (Table 6-2); an END in the deadline cycle is in time (R155). -/
def Program.deadline (p : Program) : Nat := if p.hasHold then 1336 else 1400

/-- The END of a main evaluation: its offset (0x4100+n.0C), or an overrun without one (R155)
(DESIGN CHOICE, notes/assumptions/108). -/
def State.mainEnd (n : Fin 4) (s : State) : State :=
  if (s.core n).todo.isEmpty then s.putMax (K.coreMainEndHighMark n) (((s.core n).cyc - 1 : Nat) : Int)
  else s.overrun n

/-- The main evaluation of a core in a tick (R151, R157): it is suspended before offset 750, where event slot 1 opens (R153)
(DESIGN CHOICE, notes/assumptions/15). -/
def State.mainEval (n : Fin 4) (s : State) : State :=
  match (s.core n).prog with
  | none => s
  | some p =>
    match p.code with
    | .standard =>
      let s := (s.standardMain n).settle n
      (s.putMax (K.coreMainEndHighMark n) ((s.freeNat % p.mainWorst : Nat) : Int)).useFree
    | .code m _ =>
      let s := (s.modCore n (fun c => (c.begin_ false).runTo s.card.snap 750 m)).settle n
      if (s.core n).todo.isEmpty then s.mainEnd n else s

/-- A suspended main evaluation resumes and runs to its END (R153) (DESIGN CHOICE, notes/assumptions/108). -/
def State.resumeMain (n : Fin 4) (s : State) : State :=
  let c := s.core n
  match c.prog with
  | none => s
  | some p =>
    if c.todo.isEmpty || decide (c.state ≠ .running) then s
    else ((s.setCore n (c.runTo s.card.snap (p.deadline + 1) c.todo)).settle n).mainEnd n

/-- EVENT_SLOT (R153): slot 1 at offset 750. A notice takes the core from there; then the main evaluation resumes. -/
def execEventSlot (n : Fin 4) (s : State) : Out :=
  let s := s.when ((s.core n).notice.isSome && decide ((s.core n).state = .running)) (State.modCore n (fun c => { c with
    cyc := max c.cyc 750 }))
  .next ((s.eventSlot n).resumeMain n)

/-- The rest of a core's tick: its main evaluation ends, and in the coefficient window a release that is due and the words that
wait come into force, and the dictionary's copies are read (Table 6-2, R175, R178, R186). -/
def State.coreWindow (n : Fin 4) (s : State) : State :=
  let s := (s.resumeMain n).releaseHold n
  s.modCore n (fun c => { c.applyWaiting with viewSm := c.sm, viewPorts := c.ports })

/-- What a boundary does to a core before it evaluates: STOP, START, a program that was loaded, SWAP (R182, R183, R185). -/
def State.coreBoundary (n : Fin 4) (s : State) : State :=
  let c := s.core n
  let s := s.when (c.stopPend && decide (c.state = .running)) (fun s =>
    (s.modCore n (fun c => { c with state := .stopped, stopPend := false, notice := none })).raiseOn Cause.coreStopped n)
  let s := s.when (c.startPend && decide (c.state ≠ .running)) (State.runCore n)
  let s := s.modCore n (fun c => { c with maskInForce := BitVec.ofNat 24 (s.getN (K.coreNoticeMask n)), cyc := 0 })
  s

/-- A swap in force (R183): at the first boundary at or after the swap FT. -/
def State.swapNow (n : Fin 4) (s : State) : State :=
  let c := s.core n
  let due := c.swapLate || decide (s.getN (K.coreSwapFT n) ≤ s.ft)
  match c.pendProg with
  | some p =>
    if c.swapPend && due then
      (s.enforceOn n p (if s.get (K.coreSwapState n) = 0 then c.sm else [])).raise Cause.programSwapped (args n [(p.id, 4)])
    else s
  | none => s

/-- One core from a boundary on: slot 0 and the main evaluation (Table 6-2). -/
def State.coreTick (n : Fin 4) (s : State) : State :=
  let s := (s.swapNow n).coreBoundary n
  s.when (decide ((s.core n).state = .running)) (fun s => (s.eventSlot n).when
    (decide (((s.eventSlot n).core n).state = .running)) (State.mainEval n))

/-- NOTICE (R156): a notice from a tray with its step in Q31 of 2,000 A. -/
def execNotice (tray : Fin 24) (step : BitVec 32) (stamp : Nat) (s : State) : Out := .next (s.notice tray step.toInt stamp)

/-- CARDAMOM_OVERRUN (R155, R187) (DESIGN CHOICE, notes/assumptions/108). -/
def execCardamomOverrun (n : Fin 4) (s : State) : Out :=
  .next (s.when (decide ((s.core n).state = .running)) (State.overrun n))

/-! ### The instructions (Table 6-8), issued by a RUNNING core in its present evaluation -/

/-- A core issues one instruction (DESIGN CHOICE, notes/assumptions/108). -/
def State.issue (n : Fin 4) (i : CInstr) (s : State) : State :=
  if (s.core n).state = .running then (s.modCore n (CoreSt.exec1 s.card.snap i)).settle n else s

/-- NOP. -/
def execNop (n : Fin 4) (s : State) : Out := .next (s.issue n .nop)
/-- END: ends the evaluation and publishes ports. -/
def execEnd (n : Fin 4) (s : State) : Out := .next (s.issue n .endEval)
/-- LDK. -/
def execLdk (n : Fin 4) (d : Fin 16) (imm : BitVec 16) (s : State) : Out := .next (s.issue n (.ldk d imm))
/-- LDI. -/
def execLdi (n : Fin 4) (d : Fin 16) (p : Fin 256) (s : State) : Out := .next (s.issue n (.ldi d p))
/-- LDIL. -/
def execLdil (n : Fin 4) (a : Fin 8) (p : Fin 256) (s : State) : Out := .next (s.issue n (.ldil a p))
/-- LDC. -/
def execLdc (n : Fin 4) (a : Fin 8) (k : Fin 1024) (s : State) : Out := .next (s.issue n (.ldc a k))
/-- LDS. -/
def execLds (n : Fin 4) (a : Fin 8) (m : Fin 512) (s : State) : Out := .next (s.issue n (.lds a m))
/-- STS. -/
def execSts (n : Fin 4) (a : Fin 8) (m : Fin 512) (s : State) : Out := .next (s.issue n (.sts a m))
/-- SATD (R165). -/
def execSatd (n : Fin 4) (a : Fin 8) (d : Fin 16) (sh : BitVec 4) (s : State) : Out := .next (s.issue n (.satd a d sh))
/-- OUT. -/
def execOut (n : Fin 4) (d : Fin 16) (p : Fin 64) (s : State) : Out := .next (s.issue n (.out d p))
/-- OUTL (R165). -/
def execOutl (n : Fin 4) (a : Fin 8) (p : Fin 64) (s : State) : Out := .next (s.issue n (.outl a p))
/-- MOVA. -/
def execMova (n : Fin 4) (a b : Fin 8) (s : State) : Out := .next (s.issue n (.mova a b))
/-- CLR. -/
def execClr (n : Fin 4) (a : Fin 8) (s : State) : Out := .next (s.issue n (.clr a))
/-- MPY (R164). -/
def execMpy (n : Fin 4) (a : Fin 8) (d : Fin 16) (k : Fin 1024) (s : State) : Out := .next (s.issue n (.mpy a d k))
/-- MAC (R164). -/
def execMac (n : Fin 4) (a : Fin 8) (d : Fin 16) (k : Fin 1024) (s : State) : Out := .next (s.issue n (.mac a d k))
/-- MSU (R164). -/
def execMsu (n : Fin 4) (a : Fin 8) (d : Fin 16) (k : Fin 1024) (s : State) : Out := .next (s.issue n (.msu a d k))
/-- MACD (R164). -/
def execMacd (n : Fin 4) (a : Fin 8) (d e : Fin 16) (s : State) : Out := .next (s.issue n (.macd a d e))
/-- ADDA. -/
def execAdda (n : Fin 4) (a b : Fin 8) (s : State) : Out := .next (s.issue n (.adda a b))
/-- SUBA. -/
def execSuba (n : Fin 4) (a b : Fin 8) (s : State) : Out := .next (s.issue n (.suba a b))
/-- ADDD. -/
def execAddd (n : Fin 4) (a : Fin 8) (d : Fin 16) (s : State) : Out := .next (s.issue n (.addd a d))
/-- SUBD. -/
def execSubd (n : Fin 4) (a : Fin 8) (d : Fin 16) (s : State) : Out := .next (s.issue n (.subd a d))
/-- SHA. -/
def execSha (n : Fin 4) (a : Fin 8) (sh : BitVec 4) (s : State) : Out := .next (s.issue n (.sha a sh))
/-- ABS. -/
def execAbs (n : Fin 4) (a : Fin 8) (s : State) : Out := .next (s.issue n (.abs a))
/-- NEG. -/
def execNeg (n : Fin 4) (a : Fin 8) (s : State) : Out := .next (s.issue n (.neg a))
/-- LIM (R166). -/
def execLim (n : Fin 4) (a : Fin 8) (k : Fin 1024) (s : State) : Out := .next (s.issue n (.lim a k))
/-- SELA. -/
def execSela (n : Fin 4) (a b : Fin 8) (q : BitVec 4) (s : State) : Out := .next (s.issue n (.sela a b q))
/-- TSTA. -/
def execTsta (n : Fin 4) (a : Fin 8) (s : State) : Out := .next (s.issue n (.tsta a))
/-- TSTP. -/
def execTstp (n : Fin 4) (p : Fin 256) (b : Fin 32) (s : State) : Out := .next (s.issue n (.tstp p b))
/-- SKIPC. -/
def execSkipc (n : Fin 4) (q c : BitVec 4) (s : State) : Out := .next (s.issue n (.skipc q c))
/-- INTEG (R169). -/
def execInteg (n : Fin 4) (a : Fin 8) (d : Fin 16) (k : Fin 1024) (m : Fin 512) (s : State) : Out :=
  .next (s.issue n (.integ a d k m))
/-- MINSEL (R170). -/
def execMinsel (n : Fin 4) (a : Fin 8) (h : Fin 16) (w : BitVec 8) (m : Fin 512) (s : State) : Out :=
  .next (s.issue n (.minsel a h w m))
/-- MAXSEL (R170). -/
def execMaxsel (n : Fin 4) (a : Fin 8) (h : Fin 16) (w : BitVec 8) (m : Fin 512) (s : State) : Out :=
  .next (s.issue n (.maxsel a h w m))
/-- SLEW (R172). -/
def execSlew (n : Fin 4) (a : Fin 8) (k : Fin 1024) (m : Fin 512) (s : State) : Out := .next (s.issue n (.slew a k m))
/-- LUT (R173). -/
def execLut (n : Fin 4) (a : Fin 8) (d : Fin 16) (k : Fin 1024) (s : State) : Out := .next (s.issue n (.lut a d k))
/-- FFW (R174). -/
def execFfw (n : Fin 4) (a : Fin 8) (k : Fin 1024) (j : Fin 64) (s : State) : Out := .next (s.issue n (.ffw a k j))

/-! ### Coefficient writes and the hold facility (R175 to R178) -/

/-- Words to a core, ascending (R175, R176): answered once they are in force. The 65th word of an open hold is refused, and the
words before it stay held (R178). -/
def State.coefWords (n : Fin 4) (key sess : Nat) (ws : List Int) (s : State) : State × Nat :=
  let c := s.core n
  let a := s.getN (K.coefCoefficientAddress n)
  let fit := if c.hold = .open_ then ws.take (64 - c.held.length) else ws
  let es := (List.range fit.length).zip fit
  let s := s.setCore n (es.foldl (fun c e => c.takeWord (a + e.1, e.2)) c)
  let s := (s.countBy 32 (K.coefWordsWritten n) fit.length).put (K.coefCoefficientAddress n) (min (a + fit.length) 1023 : Nat)
  if fit.length < ws.length then (s.raiseOn Cause.holdOverflow n, Cause.holdOverflow)
  else if c.hold ≠ .open_ ∧ c.waits then
    (s.modCore n (fun c => { c with owed := c.owed ++ [{ sess := sess, key := key, reply := 0 }] }), deferred)
  else s.ok

/-- COEFFICIENT_WRITE (R175): one word at the coefficient address, which moves on by 1 and stays at 1,023. -/
def execCoefficientWrite (n : Fin 4) (w : HostWrite) (s : State) : Out :=
  .next (s.hostWrite (K.coefCoefficientWord n) w (fun v s => s.coefWords n (K.coefCoefficientWord n) w.sess [v]))

/-- 32-bit words of bytes, least-significant byte first. -/
def wordsOf : List Byte → List Int
  | b0 :: b1 :: b2 :: b3 :: rest => toSigned 32 (leNat [b0, b1, b2, b3]) :: wordsOf rest
  | _ => []

/-- A coefficient block (Table 6-15): k words, 1 to 1,024, none past 1,023 (DESIGN CHOICE, notes/assumptions/17). -/
def State.coefBlock (n : Fin 4) (sess : Nat) (bytes : List Byte) (s : State) : State × Nat :=
  if bytes.length % 4 ≠ 0 ∨ bytes.length = 0 ∨ 1024 < s.getN (K.coefCoefficientAddress n) + bytes.length / 4 then
    s.refuse Cause.typeOrLength
  else s.coefWords n (K.coefCoefficientBlock n) sess (wordsOf bytes)

/-- COEFFICIENT_BLOCK_WRITE (R176). -/
def execCoefficientBlockWrite (n : Fin 4) (w : HostWrite) (s : State) : Out :=
  .next (s.hostWrite (K.coefCoefficientBlock n) w (fun _ s => s.coefBlock n w.sess w.bytes))

/-- A refused core command records CORE_COMMAND_REFUSED (R185). -/
def State.coreRefuse (n : Fin 4) (s : State) : State × Nat :=
  (s.raiseOn Cause.coreCommandRefused n).refuse Cause.coreCommandRefused

/-- OPEN, RELEASE, ABANDON (R178). -/
def State.holdCommand (n : Fin 4) (v : Int) (s : State) : State × Nat :=
  let c := s.core n
  if v = 1 then
    if !(match c.prog with | some p => p.hasHold | none => false) then s.coreRefuse n
    else if c.hold = .closed then (s.setCore n { c with hold := .open_, held := [], holdOpenedAt := s.now }).ok
    else s.ok
  else if v = 2 then
    if c.hold = .open_ then (s.setCore n { c with hold := .release }).ok else s.ok
  else if c.hold = .closed then s.ok
  else (s.setCore n c.dropHold).ok

/-- HOLD_OPEN (R178). -/
def execHoldOpen (n : Fin 4) (sess : Nat) (s : State) : Out :=
  .next (s.hostWrite (K.coreHoldCommand n) (oneByte sess 1) (fun v s => s.holdCommand n v))

/-- HOLD_RELEASE (R178). -/
def execHoldRelease (n : Fin 4) (sess : Nat) (s : State) : Out :=
  .next (s.hostWrite (K.coreHoldCommand n) (oneByte sess 2) (fun v s => s.holdCommand n v))

/-- HOLD_ABANDON (R178). -/
def execHoldAbandon (n : Fin 4) (sess : Nat) (s : State) : Out :=
  .next (s.hostWrite (K.coreHoldCommand n) (oneByte sess 3) (fun v s => s.holdCommand n v))

/-- HOLD_RELEASED (R178). -/
def execHoldReleased (n : Fin 4) (s : State) : Out := .next (s.releaseHold n)

/-- HOLD_TIMEOUT (R178). -/
def execHoldTimeout (n : Fin 4) (s : State) : Out :=
  let c := s.core n
  .next (s.when (decide (c.hold = .open_) && decide (c.holdOpenedAt + s.getN K.engineHoldTimeout * ms < s.now))
    (fun s => (s.setCore n c.dropHold).raiseOn Cause.holdTimeout n))

/-! ### Programs (R180 to R187) -/

/-- The admission report (R181): version, failure count modulo 256, 6 reserved bytes, up to 7 entries
(DESIGN CHOICE, notes/assumptions/98). -/
def reportBytes (l : List ReportEntry) : List Byte :=
  let entries := (l.take 7).flatMap (fun e =>
    leBytes 1 e.reason ++ leBytes 1 e.part ++ leBytes 2 e.addr ++ leBytes 2 e.requested ++ leBytes 2 e.limit)
  let body := [0x10, BitVec.ofNat 8 l.length, 0, 0, 0, 0, 0, 0] ++ entries
  body ++ List.replicate (64 - body.length) 0

/-- Admission with its record and report (R181); the words saved for the program id stand for the image's (R182, R184). -/
def State.admitRecord (n : Fin 4) (s : State) : State × Option Program :=
  match s.admitProgram n with
  | (some p, _) => (((s.modCore n (fun c => { c with report := [] })).putBytes (K.coreAdmissionReport n)
      (reportBytes [])).raise Cause.programAdmitted (args n [(p.id, 4)]), some { p with coef := (s.core n).coefFor p })
  | (none, l) => (((s.modCore n (fun c => { c with report := l })).putBytes (K.coreAdmissionReport n)
      (reportBytes l)).raise Cause.programRefused (args n [((l.head?.map (·.reason)).getD 0, 1)]), none)

/-- LOAD (R183): into the pending banks. -/
def State.coreLoad (n : Fin 4) (s : State) : State :=
  let s := s.modCore n (fun c => { c with pendProg := none, swapPend := false, swapLate := false })
  let r := s.admitRecord n
  r.1.modCore n (fun c => { c with pendProg := r.2, pendState := if r.2.isSome then .admitted else .refused })

/-- LOAD, SWAP, STOP, START, CLEAR_PENDING (R183, R185, R187) (DESIGN CHOICE, notes/assumptions/17). -/
def State.coreCommand (n : Fin 4) (v : Int) (s : State) : State × Nat :=
  let c := s.core n
  if v = 1 then (s.coreLoad n).ok
  else if v = 2 then
    if c.pendState ≠ .admitted ∨ c.hold ≠ .closed then s.coreRefuse n
    else
      let swapFt := s.getN (K.coreSwapFT n)
      let late := decide (swapFt ≠ 0) && decide (swapFt < s.ft)
      let s := s.setCore n { c with swapPend := true, swapLate := late }
      (s.when late (State.raiseOn Cause.programSwapLate n)).ok
  else if v = 3 then
    if c.state ≠ .running then s.ok
    else if convs.any (fun k => s.convRuns k && (match c.prog with | some p => p.owns k | none => false)) then s.coreRefuse n
    else (s.setCore n { c with stopPend := true, startPend := false }).ok
  else if v = 4 then
    match c.state with
    | .faulted =>
      match c.pendProg with
      | some p => ((s.enforceOn n p []).modCore n (fun c => { c with state := .stopped, startPend := true })).ok
      | none => s.coreRefuse n
    | .running => (s.setCore n { c with stopPend := false }).ok
    | _ => if c.prog.isSome then (s.setCore n { c with startPend := true }).ok else s.coreRefuse n
  else (s.setCore n { c with pendProg := none, pendState := .empty, swapPend := false, swapLate := false }).ok

/-- CARDAMOM_LOAD (R183). -/
def execCardamomLoad (n : Fin 4) (sess : Nat) (s : State) : Out :=
  .next (s.hostWrite (K.coreCommand n) (oneByte sess 1) (fun v s => s.coreCommand n v))

/-- CORE_SWAP (R183). -/
def execCoreSwap (n : Fin 4) (sess : Nat) (s : State) : Out :=
  .next (s.hostWrite (K.coreCommand n) (oneByte sess 2) (fun v s => s.coreCommand n v))

/-- CORE_STOP (R185). -/
def execCoreStop (n : Fin 4) (sess : Nat) (s : State) : Out :=
  .next (s.hostWrite (K.coreCommand n) (oneByte sess 3) (fun v s => s.coreCommand n v))

/-- CORE_START (R185, R187) (DESIGN CHOICE, notes/assumptions/17). -/
def execCoreStart (n : Fin 4) (sess : Nat) (s : State) : Out :=
  .next (s.hostWrite (K.coreCommand n) (oneByte sess 4) (fun v s => s.coreCommand n v))

/-- CLEAR_PENDING (R183). -/
def execClearPending (n : Fin 4) (sess : Nat) (s : State) : Out :=
  .next (s.hostWrite (K.coreCommand n) (oneByte sess 5) (fun v s => s.coreCommand n v))

/-- PROGRAM_SWAPPED (R183). -/
def execProgramSwapped (n : Fin 4) (s : State) : Out := .next (s.swapNow n)

/-- SAVE and DISCARD (R184). -/
def State.persist (n : Fin 4) (v : Int) (s : State) : State × Nat :=
  let c := s.core n
  match c.prog with
  | none => s.coreRefuse n
  | some p =>
    let others := c.saved.filter (fun e => decide (e.1 ≠ p.id))
    if v = 2 then (s.setCore n { c with saved := others }).ok
    else if others.length = c.saved.length ∧ 16 ≤ c.saved.length then s.coreRefuse n
    else ((s.setCore n { c with saved := (p.id, c.coef) :: others }).raise Cause.coefSaved (args n [(p.id, 4)])).ok

/-- COEF_SAVE (R184). -/
def execCoefSave (n : Fin 4) (sess : Nat) (s : State) : Out :=
  .next (s.hostWrite (K.coefPersist n) (oneByte sess 1) (fun v s => s.persist n v))

/-- COEF_DISCARD (R184). -/
def execCoefDiscard (n : Fin 4) (sess : Nat) (s : State) : Out :=
  .next (s.hostWrite (K.coefPersist n) (oneByte sess 2) (fun v s => s.persist n v))

/-- CARDAMOM_MEM_CORRECTED (R187). -/
def execCardamomMemCorrected (n : Fin 4) (s : State) : Out :=
  .next ((s.inc (K.coreMemoryErrorsCorrected n)).raiseOn Cause.cardamomMemCorrected n)

/-- CARDAMOM_MEM_UNCORRECTABLE (R187). -/
def execCardamomMemUncorrectable (n : Fin 4) (s : State) : Out :=
  .next ((s.raiseOn Cause.cardamomMemUncorrectable n).faultCore n)

end Sys2Proof.Machine
end

