-- ==== Sys2Proof/Machine/RecorderOps.lean ====
section
/-! DEFINITION. The event recorder: CRC, the record's bytes, the ring, flushes, the MRAM region (spec/16). -/

namespace Sys2Proof.Machine

/-! ### CRC-32 (spec/10, R270) -/

/-- n shifts of the reflected register with polynomial 0x04C11DB7. -/
def crc32Bits : Nat → BitVec 32 → BitVec 32
  | 0, c => c
  | n + 1, c => crc32Bits n (if c.getLsbD 0 then (c >>> 1) ^^^ 0xEDB88320 else c >>> 1)

/-- CRC-32 of bytes: initial value all ones, final value inverted. -/
def crc32 (l : List Byte) : BitVec 32 := ~~~ l.foldl (fun c b => crc32Bits 8 (c ^^^ b.setWidth 32)) 0xFFFFFFFF

/-! ### The record (R410, Table 16-2) -/

/-- Bytes 0 to 251 of a record. -/
def Record.body (r : Record) : List Byte :=
  let bit := fun (b : Bool) (n : Nat) => if b then 2 ^ n else 0
  let flags := bit (decide (causeHigh r.cause = 0x0F)) 0 + bit r.flushed 1 + bit r.snapLate 2 + bit r.repeatFull 3
  let head := leBytes 1 0x10 ++ leBytes 1 flags ++ leBytes 2 r.cause ++ leBytes 4 r.number ++ leBytes 8 r.ft ++
    leBytes 4 r.args.subj.toNat ++ leBytes 12 r.args.vals.toNat ++ leBytes 4 r.hours ++ leBytes 4 r.powerCycles ++
    leBytes 2 r.repeats ++ leBytes 1 r.trigger ++ leBytes 1 r.snapCount ++ leBytes 4 r.lastRepeatUs
  (head ++ r.snaps ++ List.replicate (204 - r.snaps.length) 0).take 252

/-- The 256 bytes of a record with its CRC. -/
def Record.bytes (r : Record) : List Byte := r.body ++ leBytes 4 (crc32 r.body).toNat

/-- Record of a number, from the ring or from MRAM (R418). -/
def State.recordOf (s : State) (n : Nat) : Option Record :=
  if n < s.getN K.recOldestNumber then none
  else match s.rcd.ring.find? (fun r : Record => decide (r.number = n)) with
    | some r => some r
    | none => s.rcd.mram.find? (fun r : Record => decide (r.number = n))

/-- What a reader gets for a number: 256 zero bytes when it is no longer held (R418). -/
def State.recordBytes (s : State) (n : Nat) : List Byte :=
  match s.recordOf n with
  | some r => r.bytes
  | none => List.replicate 256 0

/-! ### Flushing (R415 to R417) -/

def State.modRcd (f : RecState → RecState) (s : State) : State := { s with rcd := f s.rcd }

def RecState.unflushed (r : RecState) : Nat := (r.ring.filter (fun x : Record => !x.flushed)).length

/-- Start a flush; a main loss turns one in progress into the power-fail flush (R416, R420). -/
def State.startFlush (k : FlushKind) (s : State) : State :=
  match s.rcd.flush with
  | none => (s.modRcd (fun r => { r with flush := some k })).inc K.recFlushes
  | some _ => if k = .powerFail then s.modRcd (fun r => { r with flush := some k }) else s

/-- Put a record in a list kept newest first, replacing the one of its number. -/
def insertRecord (r : Record) : List Record → List Record
  | [] => [r]
  | x :: rest => if x.number < r.number then r :: x :: rest else if x.number = r.number then r :: rest else x :: insertRecord r rest

/-- Copy a record to MRAM: when the region is full the oldest is overwritten (R417). -/
def State.copyRecord (r : Record) (s : State) : State :=
  let l := insertRecord { r with flushed := true } s.rcd.mram
  let full := decide (131072 < l.length)
  let s := s.modRcd (fun x => { x with mram := l.take 131072 })
  s.when full (State.inc K.recRecordsOverwritten)

/-- Number of the oldest record held. -/
def State.showOldest (s : State) : State :=
  match lastOf s.rcd.mram, lastOf s.rcd.ring with
  | some a, some b => s.put K.recOldestNumber (min a.number b.number : Nat)
  | some a, none => s.put K.recOldestNumber a.number
  | none, some b => s.put K.recOldestNumber b.number
  | none, none => s

/-- Copy every unflushed record of the ring, in number order (R416). -/
def State.flushRing (s : State) : State :=
  let todo := (s.rcd.ring.filter (fun r : Record => !r.flushed)).reverse
  let s := s.each todo State.copyRecord
  (s.modRcd (fun r => { r with ring := r.ring.map (fun x => { x with flushed := true }) })).showOldest

/-- Is the flush over: nothing unflushed, nothing staged (R416)? -/
def State.flushOver (s : State) : Bool := decide (s.rcd.unflushed = 0) && s.rcd.staging.isEmpty

/-- Give the pushes that wait for a record its number (R407). -/
def State.numberPushes (cause n : Nat) (a : Args) (s : State) : State :=
  let give := fun p : Push =>
    if p.recNo.isNone && decide (p.cause = cause) && decide (p.args.subj = a.subj) then { p with recNo := some n } else p
  { s with host := { s.host with sessions := s.host.sessions.map (fun x : Session => { x with unsent := x.unsent.map give }) } }

/-- An action of an injection point whose cause is the one recorded gets the record's number (R479). -/
def InjEntry.number (e : StagedCause) (n : Nat) (x : InjEntry) : InjEntry :=
  if causeHigh e.cause = 0x0F ∧ x.recNo = noRecord ∧ e.args.vals.toNat % 65536 = x.code ∧ e.args.subj.toNat = x.subject ∧
      e.ft ≤ x.ft ∧ x.ft ≤ e.ft + e.lastRepeatUs * us then { x with recNo := n }
  else x

/-- Write a record of a staged cause with its snapshot values (R410, R412, R417). -/
def State.writeRecord (e : StagedCause) (snaps : List Byte) (count : Nat) (late : Bool) (s : State) : State :=
  let n := s.getN K.recNewestNumber + 1
  let r : Record := {
    number := n, cause := e.cause, ft := e.ft, args := e.args, hours := s.getN K.moduleOperatingHours
    powerCycles := s.getN K.modulePowerCycleCount, repeats := e.repeats, trigger := e.trigger, snapCount := count
    lastRepeatUs := e.lastRepeatUs, snaps := snaps, flushed := false, snapLate := late && decide (0 < count)
    repeatFull := decide (65535 ≤ e.repeats) }
  let s := (s.modRcd (fun x => { x with ring := (r :: x.ring).take 16384 })).put K.recNewestNumber n
  let s := { s with inj := { s.inj with log := s.inj.log.map (InjEntry.number e n) } }
  (s.numberPushes e.cause n e.args).showOldest

/-- Write a cause straight into the ring and MRAM, as the ROM does (R61, R79): no snapshots. -/
def State.recordInMram (cause : Nat) (a : Args) (s : State) : State :=
  let t := s.triggerFor cause
  let s := match t with | some k => s.inc (K.trigMatches k) | none => s
  let s := s.preparePush (newPush cause s.ft a none)
  (s.writeRecord { cause := cause, ft := s.ft, args := a, trigger := t.getD 255, flush := false, repeats := 0
                   lastRepeatUs := 0 } [] 0 false).flushRing

end Sys2Proof.Machine
end

