-- ==== Sys2Proof/Machine/ChainFrame.lean ====
section
/-! DEFINITION. Frames of the cell chain as bytes and as the line carries them (spec/10, Tables 10-1, 10-2 and 10-6). -/

namespace Sys2Proof.Machine

/-- A chain frame as its receiver reads it (Table 10-1). -/
structure ChainFrame where
  type : Nat
  hop : Nat
  flags : Nat
  seq : Nat
  payload : List Byte
  deriving DecidableEq, Repr

/-- The bytes of a frame after the start delimiter: header, payload, CRC over both (R270). -/
def ChainFrame.bytes (f : ChainFrame) : List Byte :=
  let body := leBytes 1 0x10 ++ leBytes 1 f.type ++ leBytes 1 f.hop ++ leBytes 1 f.flags ++ leBytes 2 f.seq ++
    leBytes 2 f.payload.length ++ f.payload
  body ++ leBytes 4 (crc32 body).toNat

/-- A received frame, none where it is dropped and counted: a bad CRC, a length beyond 240 bytes, a version major other than 1
(R270). A frame cut short or run on fails its CRC. -/
def ChainFrame.ofBytes (b : List Byte) : Option ChainFrame :=
  let n := wordAt b 6 2
  if b.length = n + 12 ∧ n ≤ 240 ∧ wordAt b 0 1 / 16 = 1 ∧ wordAt b (n + 8) 4 = (crc32 (b.take (n + 8))).toNat then
    some { type := wordAt b 1 1, hop := wordAt b 2 1, flags := wordAt b 3 1, seq := wordAt b 4 2, payload := (b.drop 8).take n }
  else none

/-- A byte on the line, least-significant bit first, in Manchester code: two half-bits each, a rising transition is a 1 (R269). -/
def lineByte (b : Byte) : List Bool := (List.range 8).flatMap (fun i => if b.getLsbD i then [false, true] else [true, false])

/-- A frame on the line: two bytes of preamble, the start delimiter, the frame (R269). -/
def ChainFrame.line (f : ChainFrame) : List Bool := ([0x55, 0x55, 0xD5] ++ f.bytes).flatMap lineByte

/-- The wake pattern (Table 10-3). -/
def wakePattern : List Bool := (List.replicate 8 (0x55 : Byte)).flatMap lineByte

/-! ### Payloads the module reads -/

/-- RESULT (below Table 10-6). -/
def ChainResult.ofBytes (b : List Byte) : ChainResult where
  sweep := BitVec.ofNat 16 (wordAt b 0 2)
  sample := BitVec.ofNat 32 (wordAt b 2 4)
  filter := BitVec.ofNat 8 (wordAt b 6 1)
  flags := BitVec.ofNat 8 (wordAt b 7 1)
  cells := Vector.ofFn (fun k : Fin 16 => BitVec.ofNat 16 (wordAt b (8 + 2 * k.val) 2))
  block := BitVec.ofNat 16 (wordAt b 40 2)
  temps := Vector.ofFn (fun k : Fin 4 => BitVec.ofNat 16 (wordAt b (42 + 2 * k.val) 2))
  alarms := BitVec.ofNat 16 (wordAt b 50 2)
  balancing := BitVec.ofNat 16 (wordAt b 52 2)

/-- TEST_RESULT (Table 10-2). -/
def ChainTestResult.ofBytes (b : List Byte) : ChainTestResult where
  sweep := BitVec.ofNat 16 (wordAt b 0 2)
  kind := BitVec.ofNat 8 (wordAt b 2 1)
  wires := BitVec.ofNat 32 (wordAt b 4 4 % 2 ^ 17)
  switches := BitVec.ofNat 32 (wordAt b 8 4)
  movement := BitVec.ofNat 16 (wordAt b 12 2)

/-- IDENT (Table 10-2). -/
def ChainIdent.ofBytes (b : List Byte) : ChainIdent where
  serial := BitVec.ofNat 64 (wordAt b 0 8)
  running := decide (wordAt b 8 1 = 1)
  sleepReason := BitVec.ofNat 8 (wordAt b 9 1)
  checks := BitVec.ofNat 16 (wordAt b 10 2)
  alerts := BitVec.ofNat 16 (wordAt b 12 2)
  hash := Vector.ofFn (fun k : Fin 32 => BitVec.ofNat 8 (wordAt b (16 + k.val) 1))

/-- ALERT (Table 10-2). -/
def ChainAlert.ofBytes (b : List Byte) : ChainAlert where
  serial := BitVec.ofNat 64 (wordAt b 0 8)
  hopsA := BitVec.ofNat 8 (wordAt b 8 1)
  hopsB := BitVec.ofNat 8 (wordAt b 9 1)
  low := BitVec.ofNat 16 (wordAt b 10 2)
  high := BitVec.ofNat 16 (wordAt b 12 2)
  temp := BitVec.ofNat 8 (wordAt b 14 1)

/-! ### Payloads the module sends (Table 10-2) -/

/-- SYNC and LOOP: the chain time at the start delimiter's departure. -/
def payTime (t : Nat) : List Byte := leBytes 4 t

/-- SWEEP: id, kind, filter, departure and sample chain times. -/
def paySweep (id kind filter departs sample : Nat) : List Byte :=
  leBytes 2 id ++ leBytes 1 kind ++ leBytes 1 filter ++ leBytes 4 departs ++ leBytes 4 sample

/-- BALANCE: the cell or 255, the direction, the duration in ms. -/
def payBalance (cell direction duration : Nat) : List Byte :=
  leBytes 1 cell ++ leBytes 1 direction ++ leBytes 2 duration ++ [0, 0]

/-- TEST: the kind and the sweep id. -/
def payTest (kind id : Nat) : List Byte := leBytes 1 kind ++ leBytes 2 id ++ [0]

/-- LOAD: offset, total length, data. -/
def payLoad (offset total : Nat) (data : List Byte) : List Byte := leBytes 4 offset ++ leBytes 4 total ++ data

/-- CONFIG: hops and delays from both ends, check interval, timeout, trip levels. -/
def payConfig (hopsA hopsB delayA delayB check loss : Nat) (low high temp : Int) : List Byte :=
  leBytes 1 hopsA ++ leBytes 1 hopsB ++ leBytes 2 delayA ++ leBytes 2 delayB ++ leBytes 2 check ++ leBytes 2 loss ++
  leBytes 2 (toUnsigned 16 low) ++ leBytes 2 (toUnsigned 16 high) ++ leBytes 2 (toUnsigned 16 temp) ++ List.replicate 16 0

/-! ### Times on the line (Table 10-3) -/

/-- Time of a frame on the line in ns, preamble and start delimiter included: 500 ns a bit. -/
def frameTime (payload : Nat) : Nat := 4000 * (15 + payload)

/-- When the response of the unit at a hop must have begun, its command leaving at a time
(DESIGN CHOICE, notes/assumptions/115). -/
def responseDue (at_ payload hop : Nat) : Nat := at_ + frameTime payload + 20000 + 2000 * hop

end Sys2Proof.Machine
end

