-- ==== Sys2Proof/Machine/ModOps.lean ====
section
/-! DEFINITION. The module's own state (0xF160.01) and its power domains, as other chapters change them (spec/02, spec/03,
spec/17). -/

namespace Sys2Proof.Machine

def State.modMd (f : ModState → ModState) (s : State) : State := { s with md := f s.md }

def State.modPins (f : Pins → Pins) (s : State) : State := s.modMd (fun m => { m with pins := f m.pins })

/-- Codes of 0xF160.01. -/
def ModMode.code : ModMode → Nat
  | .rom => 0
  | .loading => 1
  | .waiting => 2
  | .coldStandby => 3
  | .hotStandby => 4
  | .active => 5
  | .halted => 6
  | .recovery => 7
  | .mainLoss => 8

/-- The bank that runs, and whether the header of one of its images passes its check at a reload (R65). -/
def State.runningBank (s : State) : BankSt := s.md.bank (match s.md.running with | .b => true | _ => false)
def State.partOk (s : State) (i : Fin 5) : Bool := (s.runningBank.parts[i]).headerOk

/-- Enter a module state. -/
def State.enterMode (m : ModMode) (s : State) : State :=
  (s.modMd (fun x => { x with mode := m })).put K.moduleModuleState m.code


/-! ### Self-diagnosis and OK_OUT (R433, R52) -/

/-- Conditions of Table 17-4 that hold, bit by bit (DESIGN CHOICE, notes/assumptions/93). -/
def State.diagBits (s : State) : Nat :=
  let bit := fun (b : Bool) (n : Nat) => if b then 2 ^ n else 0
  bit (s.card.cores.toList.any (fun c : CoreSt => decide (c.state = .faulted))) 0 + bit (decide (0 < s.saf.overRun)) 1 +
  bit s.pair.linkFault 2 + bit s.md.junction.critical 3 + bit s.pair.pllBad 4 + bit s.pair.regionBad 5 +
  bit (decide (s.pair.scrubAt + 1200 * sec < s.now)) 6

def State.modPair (f : PairSt → PairSt) (s : State) : State := { s with pair := f s.pair }

/-- A hot standby becomes cold (R431, R439); what it had caught up with is void. -/
def State.goCold (s : State) : State :=
  let s := s.modPair (fun p => { p with askedAt := none, loadedAt := none })
  if s.md.mode = .hotStandby then ((s.enterMode .coldStandby).put K.ckptCatchUpAttempts 0).raise0 Cause.pairCold else s

/-- Arm or disarm the claim (0x9000.01). -/
def State.armClaim (b : Bool) (s : State) : State := s.putB K.pairClaimArmed b

/-- Module states in which the firmware runs and OK_OUT may be high (R59, R61, R78, R79). -/
def ModMode.serves : ModMode → Bool
  | .loading | .waiting | .coldStandby | .hotStandby | .active => true
  | .rom | .halted | .recovery | .mainLoss => false

/-- Publish the conditions and drive OK_OUT: high while main is present and self-diagnosis passes (R52, R433). A standby
without OK_OUT is disarmed (R424, R434). -/
def State.diagnose (s : State) : State :=
  let d := s.diagBits
  let ok := decide (d = 0) && !s.md.mainLoss && !s.md.poweredOff && s.md.mode.serves
  let s := (s.put K.healthSelfDiagnosis d).modPins (fun p => { p with okOut := ok })
  if !ok && !s.md.pins.maceOut then s.armClaim false
  else if ok && decide (s.md.mode = .hotStandby) then s.armClaim true
  else s

/-- Link quads (0xF110.02 bits 13-10) are powered unless all eight of their links are OFF or disabled (R346). -/
def State.gateQuads (s : State) : State :=
  let quad := fun q : Nat => (List.range 8).any (fun i => decide (s.profile (8 * q + i) ≠ 0) && s.getB (K.linkEnable (8 * q + i)))
  let bits := numOfBits ((List.range 16).map (fun b =>
    if 10 ≤ b ∧ b < 14 then quad (b - 10) else s.md.domainsOn.getLsbD b))
  s.modMd (fun m => { m with domainsOn := BitVec.ofNat 16 bits })
where
  numOfBits : List Bool → Nat
    | [] => 0
    | b :: rest => (if b then 1 else 0) + 2 * numOfBits rest

end Sys2Proof.Machine
end

