-- ==== Sys2Proof/Machine/Clove.lean ====
section
/-! DEFINITION. Cloves: their layout, the tests of R106, duplicates, the schedule (spec/04, R100 to R110). -/

namespace Sys2Proof.Machine

/-! ### Layout (R100, Table 4-5) -/

/-- The first 32 bytes: what the clove tag covers (R102). -/
def Clove.body (c : Clove) : List Byte :=
  [c.version, c.action, c.flags, c.keyId] ++ leBytes 2 c.source.toNat ++ leBytes 2 c.dest.toNat ++ leBytes 4 c.seq.toNat ++
  leBytes 8 c.fireFt.toNat ++ leBytes 4 c.argA.toNat ++ leBytes 8 c.argB.toNat

/-- The 40 bytes of a clove. -/
def Clove.bytes (c : Clove) : List Byte := c.body ++ leBytes 8 c.tag.toNat

/-- Bytes a to a + n of a list, as a bit vector. -/
def fieldAt (l : List Byte) (a n : Nat) : BitVec (8 * n) := BitVec.ofNat (8 * n) (leNat ((l.drop a).take n))

/-- A clove of 40 bytes. -/
def Clove.ofBytes (l : List Byte) : Option Clove :=
  if l.length = 40 then
    some { version := fieldAt l 0 1, action := fieldAt l 1 1, flags := fieldAt l 2 1, keyId := fieldAt l 3 1,
           source := fieldAt l 4 2, dest := fieldAt l 6 2, seq := fieldAt l 8 4, fireFt := fieldAt l 12 8,
           argA := fieldAt l 20 4, argB := fieldAt l 24 8, tag := fieldAt l 32 8 }
  else none

/-- Key slot of a clove (byte 3, bits 1-0). -/
def Clove.key (c : Clove) : Fin 4 := (c.keyId.setWidth 2).toFin

/-- Source node and source shelf (R101). -/
def Clove.node (c : Clove) : Nat := c.source.toNat % 1024
def Clove.shelf (c : Clove) : Nat := c.node / 2

/-- The 96-bit IV of the tag (R102). -/
def Clove.iv (c : Clove) : List Byte := leBytes 2 c.source.toNat ++ [c.keyId, 0] ++ leBytes 4 c.seq.toNat ++ [0, 0, 0, 0]

/-- The clove tag under a key (R102). -/
def Clove.tagFor (c : Clove) (key : List Byte) : BitVec 64 := Config.gmac64 key c.iv c.body

def Clove.ref (c : Clove) : CloveRef := { shelf := c.shelf, key := c.key, seq := c.seq.toNat }

/-- The flit destination that reaches a clove's destination: kinds 0 node, 1 shelf, 2 group (Table 4-5) are 1, 3, 2 in a
flit (Table 13-3). -/
def Clove.routeDest (c : Clove) : Nat :=
  let d := c.dest.toNat
  match d / 16384 with
  | 0 => 16384 + d % 1024
  | 1 => 49152 + d % 512
  | _ => 32768 + d % 256

/-- Is a bit set that Table 4-6 reserves in the arguments? -/
def Clove.argsReserved (c : Clove) : Bool :=
  let a := c.argA.toNat
  let b := c.argB.toNat
  match c.action.toNat with
  | 1 => decide (16 ≤ a) || decide (2 ^ 32 ≤ b)
  | 2 => decide (b ≠ 0)
  | 3 => decide (65536 ≤ a) || decide (65536 ≤ b)
  | 4 => decide (2 ^ 32 ≤ b)
  | 5 => false
  | 6 => decide (b ≠ 0)
  | 7 => decide (256 ≤ a) || decide (b ≠ 0)
  | 8 => decide (b ≠ 0)
  | 9 => decide (b ≠ 0)
  | _ => true

/-- Actions that fire at once when late within the limit (Table 4-6). -/
def Clove.firesLate (c : Clove) : Bool := [1, 2, 3, 5, 6, 8].contains c.action.toNat

/-! ### Duplicates (R104) -/

/-- Is s newer than H? -/
def seqNewer (h s : BitVec 32) : Bool :=
  let d := (s - h).toNat
  decide (1 ≤ d) && decide (d ≤ 2 ^ 31 - 1)

/-- Has a window seen a sequence, or does it lie too far behind? -/
def SeqWindow.dup (w : SeqWindow) (s : BitVec 32) : Bool :=
  !seqNewer w.high s && (decide (1024 ≤ (w.high - s).toNat) || w.seen.getLsbD (w.high - s).toNat)

/-- Mark a sequence seen. -/
def SeqWindow.mark (w : SeqWindow) (s : BitVec 32) : SeqWindow :=
  if seqNewer w.high s then { w with high := s, seen := (w.seen <<< (s - w.high).toNat) ||| 1#1024 }
  else { w with seen := w.seen ||| (1#1024 <<< (w.high - s).toNat) }

def State.modClv (f : CloveState → CloveState) (s : State) : State := { s with clv := f s.clv }

def State.window? (s : State) (c : Clove) : Option SeqWindow :=
  s.clv.windows.find? (fun w => decide (w.shelf = c.shelf) && decide (w.key = c.key.val))

/-- Is a clove a duplicate? The first clove of a shelf under a key is not. -/
def State.duplicate (s : State) (c : Clove) : Bool :=
  match s.window? c with
  | some w => w.dup c.seq
  | none => false

def State.markSeen (c : Clove) (s : State) : State :=
  match s.window? c with
  | some w => s.modClv (fun v => { v with windows := v.windows.map (fun x => if x = w then w.mark c.seq else x) })
  | none => s.modClv (fun v => { v with windows := { shelf := c.shelf, key := c.key, high := c.seq, seen := 1#1024 } :: v.windows })

/-- The windows of a key id go when its slot is emptied (R104). -/
def State.dropWindows (key : Nat) (s : State) : State :=
  s.modClv (fun v => { v with windows := v.windows.filter (fun w => decide (w.key ≠ key)) })

/-! ### Tests (R106) -/

/-- Counters of 0x2330, by sub-index less 1. -/
def State.cloveCount (sub : Nat) (s : State) : State := s.inc (K.cloveCloveCounters (sub - 1))

/-- Is the clove for this node, this shelf or a subscribed group (R106)? -/
def State.addressed (s : State) (c : Clove) : Bool :=
  let d := c.dest.toNat
  match d / 16384 with
  | 0 => s.hasNode && decide (d % 1024 = s.getN K.nodeNodeId)
  | 1 => s.hasNode && decide (d % 512 = s.getN K.nodeNodeId / 2)
  | 2 => s.subscribes (d % 256)
  | _ => false

/-- What R106 finds. -/
inductive CloveVerdict where
  | forward | duplicate
  | refuse (cause counter : Nat) (seen : Bool)
  | late
  | cancel
  | place
  deriving DecidableEq, Repr

/-- Accepted cloves: the schedule and those waiting in queue 32 (R106, R108). -/
def State.cloveOccupancy (s : State) : Nat := s.clv.schedule.length + (s.queue 32).items.length

/-- A LEDGER_LEND or LEDGER_RETURN of the module's own shelf is scheduled whatever its destination (R334). -/
def State.ownLedger (s : State) (c : Clove) : Bool :=
  s.hasNode && decide (c.shelf = s.getN K.nodeNodeId / 2) && (decide (c.action.toNat = 5) || decide (c.action.toNat = 6))

/-- The tests of R106, in order; a is the arrival stamp as FT. -/
def State.cloveTest (s : State) (c : Clove) (a : Nat) : CloveVerdict :=
  let f := c.fireFt.toNat
  if !s.addressed c && !s.ownLedger c then .forward
  else if c.version.toNat / 16 ≠ 1 then .refuse Cause.cloveVersion 0x0C false
  else
    match s.clv.keys[c.key] with
    | none => .refuse Cause.cloveKeyUnknown 0x0F false
    | some key =>
      if c.tag ≠ c.tagFor key then .refuse Cause.cloveTagBad 0x08 false
      else if s.duplicate c then .duplicate
      else if s.time.mode ≠ .locked ∧ s.time.mode ≠ .holdover then .refuse Cause.cloveTimeInvalid 0x09 true
      else if c.argsReserved then .refuse Cause.cloveActionUnknown 0x0C true
      else if f < a + 200 then
        if a ≤ f + s.getN K.cloveLateLimit ∧ c.firesLate then .late else .refuse Cause.cloveLate 0x05 true
      else if c.action.toNat = 9 then .cancel
      else if s.getN K.cloveHorizon * ms < f - a then .refuse Cause.cloveBeyondHorizon 0x06 true
      else if 65536 ≤ s.cloveOccupancy then .refuse Cause.cloveScheduleFull 0x0A true
      else .place

/-- Arguments of a clove cause: the sequence's source shelf as subject, key id, sequence. -/
def cloveArgs (c : Clove) : Args := args c.shelf [(c.key, 1), (c.action.toNat, 1), (c.seq.toNat, 4)]

/-! ### The schedule (R105, R108, R109) -/

/-- Firing order (R109): fire FT, action code, source shelf, sequence in the order of R104. -/
def fireBefore (x y : Clove) : Bool :=
  if x.fireFt ≠ y.fireFt then decide (x.fireFt.toNat < y.fireFt.toNat)
  else if x.action ≠ y.action then decide (x.action.toNat < y.action.toNat)
  else if x.shelf ≠ y.shelf then decide (x.shelf < y.shelf)
  else seqNewer x.seq y.seq

/-- Insert a clove at its place. -/
def scheduleInsert (e : SchedClove) : List SchedClove → List SchedClove
  | [] => [e]
  | x :: rest => if fireBefore e.clove x.clove then e :: x :: rest else x :: scheduleInsert e rest

/-- Show the occupancy (0x2330.0D, .0E). -/
def State.showOccupancy (s : State) : State :=
  let n : Int := s.clv.schedule.length
  (s.put (K.cloveCloveCounters 12) n).putMax (K.cloveCloveCounters 13) n

/-- Show the number of step marks. -/
def State.showMarks (s : State) : State := s.put K.safStepMarks s.saf.marks.length

/-- Insert a mark by its fire FT. -/
def insertMark (m : StepMark) : List StepMark → List StepMark
  | [] => [m]
  | x :: rest => if m.fire < x.fire then m :: x :: rest else x :: insertMark m rest

/-- A STEP_MARK enters the step-mark list with the schedule; beyond 64 the mark with the latest fire FT goes (R233). -/
def State.addMark (c : Clove) (s : State) : State :=
  let m : StepMark := { shelf := c.shelf, key := c.key, seq := c.seq.toNat, fire := c.fireFt.toNat, watts := c.argA.toInt,
                        duration := c.argB.toNat % 2 ^ 32, active := false }
  let l := insertMark m s.saf.marks
  let s := { s with saf := { s.saf with marks := l.take 64 } }
  s.showMarks.when (decide (64 < l.length)) (State.raise0 Cause.stepMarkDropped)

/-- Does a mark come from the clove of a reference? -/
def StepMark.isOf (m : StepMark) (r : CloveRef) : Bool :=
  decide (m.shelf = r.shelf) && decide (m.key = r.key) && decide (m.seq = r.seq)

/-- A mark leaves the list. -/
def State.dropMark (r : CloveRef) (s : State) : State :=
  ({ s with saf := { s.saf with marks := s.saf.marks.filter (fun m => !m.isOf r) } }).showMarks

/-- A mark becomes active at its fire FT (R233). -/
def State.activateMark (r : CloveRef) (s : State) : State :=
  { s with saf := { s.saf with marks := s.saf.marks.map (fun m => if m.isOf r then { m with active := true } else m) } }

/-- A clove enters the schedule of 65,536: the 4,096 with the earliest fire times are kept on the die (R108). -/
def State.scheduleClove (c : Clove) (arrival : Nat) (s : State) : State :=
  if 65536 ≤ s.clv.schedule.length then s else
  (s.modClv (fun v =>
    let l := scheduleInsert { clove := c, arrival := arrival, onDie := true } v.schedule
    { v with schedule := (List.range l.length).zip l |>.map (fun p => { p.2 with onDie := p.2.onDie && decide (p.1 < 4096) }) })).showOccupancy.when
    (decide (c.action.toNat = 4)) (State.addMark c)

/-- The scheduled clove a reference names. -/
def State.scheduled? (s : State) (r : CloveRef) : Option SchedClove :=
  s.clv.schedule.find? (fun e => decide (e.clove.ref = r))

/-- The module moves cloves onto the die: of the earliest 4,096, those that fire within 10 ms (R108). -/
def State.promoteDue (s : State) : State :=
  if s.clv.schedule.all (·.onDie) then s
  else s.modClv (fun v => { v with schedule := (List.range v.schedule.length).zip v.schedule |>.map (fun p =>
    { p.2 with onDie := p.2.onDie || (decide (p.1 < 4096) && decide (p.2.clove.fireFt.toNat ≤ s.ft + 10 * ms)) }) })

/-- Take a clove out of the schedule. -/
def State.unschedule (r : CloveRef) (s : State) : State :=
  (s.modClv (fun v => { v with schedule := v.schedule.filter (fun e => decide (e.clove.ref ≠ r)) })).showOccupancy

/-- An accepted clove that waits in queue 32 (R108). -/
def State.queuedClove (r : CloveRef) (f : BitVec 64) (s : State) : Option QItem :=
  (s.queue 32).items.find? (fun i => match Clove.ofBytes i.data with
    | some c => decide (c.ref = r) && decide (c.fireFt = f)
    | none => false)

/-- A CANCEL that acts (R105): its target must have the same source shelf, key id and fire FT, in the schedule or, accepted,
in queue 32 (time spent in queues changes no outcome, R99). -/
def State.cancelClove (c : Clove) (s : State) : State :=
  let r : CloveRef := { shelf := c.shelf, key := c.key, seq := c.argA.toNat }
  let s := s.cloveCount 0x01
  match s.scheduled? r with
  | some e => if e.clove.fireFt = c.fireFt then ((s.unschedule r).dropMark r).cloveCount 0x0B else s
  | none => match s.queuedClove r c.fireFt with
    | some i => (s.abandonItem 32 i.id).cloveCount 0x0B
    | none => s

/-- Before an action fires at an FT: the count of that FT moves on, and CLOVE_FIRE_SLIP is raised once when a ninth action
shares it (R109). -/
def State.noteFire (f : Nat) (s : State) : State :=
  let same := decide (s.clv.fireFt = f) && decide (s.clv.fireCount ≠ 0)
  let n := if same then s.clv.fireCount + 1 else 1
  let s := s.modClv (fun v => { v with fireFt := f, fireCount := n })
  s.when (decide (n = 9)) (fun s =>
    let total := (s.clv.schedule.filter (fun e => decide (e.clove.fireFt.toNat = f))).length + 9
    s.raise Cause.cloveFireSlip (args0 [(f, 8), (min total 65535, 2), (min ((total - 1) / 8) 65535, 2)]))

/-- The record a firing clove asks for (flag RECORD), with the arguments of R409. -/
def State.recordFire (c : Clove) (s : State) : State :=
  s.when (c.flags.getLsbD 0) (State.raise Cause.cloveRecorded
    (args c.shelf [(c.seq.toNat, 4), (c.action.toNat, 1), (c.key, 1), (c.argA.toNat, 4)]))

/-! ### Originating (R102, R103, R110) -/

/-- Can the module originate a clove (R110, R356, R438)? -/
def State.canOriginate (s : State) : Bool :=
  s.originates && decide (s.getN K.cloveOriginatingKeyId < 4) && s.hasNode && !s.getB K.nodeNodeIdConflict && !s.clv.wrapped

/-- The clove an injection names: bytes 0 action, 1 flags, 2-3 destination, 4-11 fire FT, 12-15 A, 16-23 B (0x2320). -/
def State.originate (s : State) (b : List Byte) : Clove :=
  let key := s.getN K.cloveOriginatingKeyId
  let c : Clove := {
    version := 0x10, action := fieldAt b 0 1, flags := fieldAt b 1 1, keyId := BitVec.ofNat 8 key
    source := BitVec.ofNat 16 (s.getN K.nodeNodeId), dest := fieldAt b 2 2, seq := BitVec.ofNat 32 s.clv.nextSeq
    fireFt := fieldAt b 4 8, argA := fieldAt b 12 4, argB := fieldAt b 16 8, tag := 0 }
  match s.clv.keys.toList.getD key none with
  | some k => { c with tag := c.tagFor k }
  | none => c

/-- The shelf's sequence counter moves on (R103): at its wrap it stops, within 2^24 of it CLOVE_SEQ_EXHAUSTED is said
once; MRAM blocks of 65,536 are reserved ahead. -/
def State.nextSequence (s : State) : State :=
  let n := s.clv.nextSeq + 1
  let near := decide (2 ^ 32 - 2 ^ 24 ≤ n) && !s.clv.exhaustedSaid
  let s := s.modClv (fun v => { v with
    nextSeq := n % 2 ^ 32, wrapped := v.wrapped || decide (2 ^ 32 ≤ n), exhaustedSaid := v.exhaustedSaid || near,
    reservedTop := if v.reservedTop ≤ n then v.reservedTop + 65536 else v.reservedTop })
  (s.put K.cloveSequenceCounter (s.clv.nextSeq : Nat)).when near (State.raise0 Cause.cloveSeqExhausted)

/-- An accepted clove fires: counted, recorded, then its action (R106, R107). -/
def State.fireWith (act : Clove → State → State) (c : Clove) (s : State) : State :=
  let s := { s with pair := { s.pair with fired := s.pair.fired ++ [c.ref] } }
  act c (((s.noteFire c.fireFt.toNat).cloveCount 0x02).recordFire c)

/-- The whole of R106 for a clove: `act` is what its action does if it fires late. A clove judged in time goes to queue
32 (R108); a module that accepts a clove for its own shelf, or lacks its key, or finds its fire FT unfit, copies it to its
partner (R101) (DEDUCED, notes/assumptions/25). -/
def State.cloveArrive (act : Clove → State → State) (c : Clove) (a : Nat) (s : State) : State :=
  let mark := fun s : State => s.markSeen c
  let copy := fun s : State => s.when (decide (c.dest.toNat / 16384 = 1)) (State.pairFlit (mkFlit flitClove 0 s.sourceNode 1 c.bytes))
  match s.cloveTest c a with
  | .forward => s
  | .duplicate => s.cloveCount 0x07
  | .refuse cause n seen =>
    let s := ((s.when seen mark).cloveCount n).raise cause (cloveArgs c)
    s.when ([Cause.cloveKeyUnknown, Cause.cloveLate, Cause.cloveTimeInvalid, Cause.cloveBeyondHorizon].contains cause) copy
  | .late =>
    let s := (((copy (mark s)).cloveCount 0x01).cloveCount 0x04).fireWith act c
    s.raise Cause.cloveFiredLate (cloveArgs c)
  | .cancel => (copy (mark s)).cancelClove c
  | .place => ((copy (mark s)).cloveCount 0x01).enqueue 32 6 a c.bytes

/-- The module originates a clove (R103, R110): the next sequence, the test as though it had arrived at a stamp, and the
fabric links (DEDUCED, notes/assumptions/25; DESIGN CHOICE, notes/assumptions/26). -/
def State.originateClove (act : Clove → State → State) (b : List Byte) (stamp : Nat) (s : State) : State :=
  let c := s.originate b
  let s := s.nextSequence
  (s.cloveArrive act c stamp).when (decide (c.dest.toNat < 3 * 16384))
    (State.originateFlit (mkFlit flitClove c.routeDest s.sourceNode 1 c.bytes))

/-- The 32 bytes of an injection (0x2320). -/
def injectBytes (action flags dest fire a b : Nat) : List Byte :=
  leBytes 1 action ++ leBytes 1 flags ++ leBytes 2 dest ++ leBytes 8 fire ++ leBytes 4 a ++ leBytes 8 b ++ leBytes 8 0

end Sys2Proof.Machine
end

