-- ==== Sys2Proof/Machine/TrayFrame.lean ====
section
/-! DEFINITION. Tray-link frames as the 40-byte payloads of TRAY flits (spec/12, Tables 12-1 to 12-4). -/

namespace Sys2Proof.Machine

/-- The frame kinds of Table 12-1. -/
def trayKinds : List Nat := [0x01, 0x02, 0x03, 0x04, 0x81, 0x82]

/-- TRAY_REPORT (Table 12-2). -/
def TrayReport.ofBytes (b : List Byte) : TrayReport where
  cycle := BitVec.ofNat 32 (wordAt b 2 4)
  flags := BitVec.ofNat 8 (wordAt b 6 1)
  present := BitVec.ofNat 8 (wordAt b 7 1)
  power := Vector.ofFn (fun k : Fin 8 => BitVec.ofNat 16 (wordAt b (8 + 4 * k.val) 2))
  estimate := Vector.ofFn (fun k : Fin 8 => BitVec.ofNat 16 (wordAt b (10 + 4 * k.val) 2))

/-- TRAY_STATUS (Table 12-3). -/
def TrayStatus.ofBytes (b : List Byte) : TrayStatus where
  seq := BitVec.ofNat 32 (wordAt b 2 4)
  throttled := BitVec.ofNat 8 (wordAt b 6 1)
  reason := Vector.ofFn (fun k : Fin 8 => BitVec.ofNat 8 (wordAt b (8 + 4 * k.val) 1))
  flags := Vector.ofFn (fun k : Fin 8 => BitVec.ofNat 8 (wordAt b (9 + 4 * k.val) 1))
  limit := Vector.ofFn (fun k : Fin 8 => BitVec.ofNat 16 (wordAt b (10 + 4 * k.val) 2))

/-- TRAY_IDENT (Table 12-3). -/
def TrayIdent.ofBytes (b : List Byte) : TrayIdent where
  seq := BitVec.ofNat 32 (wordAt b 2 4)
  serial := BitVec.ofNat 64 (wordAt b 6 8)
  present := BitVec.ofNat 8 (wordAt b 14 1)
  firmware := BitVec.ofNat 8 (wordAt b 15 1)
  maxima := Vector.ofFn (fun k : Fin 8 => BitVec.ofNat 16 (wordAt b (16 + 2 * k.val) 2))

/-- STEP_NOTICE (Table 12-3). -/
def StepNotice.ofBytes (b : List Byte) : StepNotice where
  seq := BitVec.ofNat 32 (wordAt b 2 4)
  step := BitVec.ofNat 32 (wordAt b 6 4)
  chips := BitVec.ofNat 8 (wordAt b 10 1)

/-- Version, kind, shelf and sequence of LIMITS and ADMIT (Table 12-4). -/
def trayHead (kind shelf seq : Nat) : List Byte := leBytes 1 0x10 ++ leBytes 1 kind ++ leBytes 2 (shelf % 512) ++ leBytes 4 seq

/-- LIMITS, from ceiling and floor of each slot (Table 12-4). -/
def payLimits (shelf seq : Nat) (slots : List (Nat × Nat)) : List Byte :=
  trayHead 0x81 shelf seq ++ slots.flatMap (fun e => leBytes 2 e.1 ++ leBytes 2 e.2)

/-- ADMIT, with the tray state (Table 12-4). -/
def payAdmit (shelf seq state : Nat) : List Byte := padTo 40 (trayHead 0x82 shelf seq ++ leBytes 1 state)

end Sys2Proof.Machine
end

