-- ==== Sys2Proof/Machine/Rack.lean ====
section
/-! DEFINITION. The rack manager: trays, budgets, ceilings and floors, groups, coolant stops, the ramp ledger and energy
(spec/12). -/

namespace Sys2Proof.Machine

/-! ### Trays and chips -/

def allTrays : List (Fin 24) := List.finRange 24
def allSlots : List (Fin 8) := List.finRange 8

def State.tray (s : State) (t : Fin 24) : TraySt := s.rack.trays[t]

def State.modRack (f : RackState → RackState) (s : State) : State := { s with rack := f s.rack }

def State.modTray (t : Fin 24) (f : TraySt → TraySt) (s : State) : State :=
  s.modRack (fun r => { r with trays := r.trays.set t (f (r.trays[t])) })

/-- Tray states of Table 12-5 in 0x7100+t.01. -/
def State.trayStateOf (s : State) (t : Nat) : Nat := s.getN (K.trayState t)

/-- Chip number of a slot. -/
def chipOf (t : Fin 24) (k : Fin 8) : Nat := 8 * t.val + k.val

/-- Is a chip fitted and powered in an ADMITTING or ADMITTED tray? -/
def State.chipIn (s : State) (c : Nat) : Bool :=
  decide (3 ≤ s.trayStateOf (c / 8)) && (s.getN (K.trayChipsPresent (c / 8))).testBit (c % 8)

/-- All such chips. -/
def State.chipsIn (s : State) : List Nat := (List.range 192).filter s.chipIn

/-- Percent of a chip's maximum in W. -/
def State.percentOfMax (s : State) (c pct : Nat) : Nat := rheNat (s.getN (K.chipChipMaximum c) * pct) 100

/-- Is a tray stopped for coolant: loss reported, or awaiting a clear (R332)? -/
def State.trayStopped (s : State) (t : Nat) : Bool := decide (2 ≤ s.getN (K.trayCoolant t))

/-- Does a chip throttle itself, by the latest TRAY_STATUS? -/
def State.chipThrottled (s : State) (c : Nat) : Bool :=
  if h : c / 8 < 24 then (s.tray ⟨c / 8, h⟩).throttled.getLsbD (c % 8) else false

/-! ### Frames to trays (R316, R326) -/

/-- A frame to a tray under the tray's next sequence: both modules count, a cold standby sends none (Table 12-4, R438). -/
def State.traySend (t : Fin 24) (frame : Nat → List Byte) (s : State) : State :=
  let n := (s.tray t).seq
  (s.modTray t (fun x => { x with seq := (n + 1) % 2 ^ 32 })).when s.originates
    (State.send (.tray (s.getN (K.trayLink t)) (frame n)))

/-- A LIMITS frame with the ceilings and floors in force; an empty slot carries 0 and 0 (R326). -/
def State.sendLimits (t : Fin 24) (s : State) : State :=
  s.traySend t (fun n => payLimits s.shelfId n (allSlots.map (fun k =>
    if (s.getN (K.trayChipsPresent t)).testBit k.val then
      (s.getN (K.chipCeilingInForce (chipOf t k)), s.getN (K.chipFloorInForce (chipOf t k)))
    else (0, 0))))

/-- An ADMIT frame with the tray state. -/
def State.sendAdmit (t : Fin 24) (s : State) : State :=
  s.traySend t (fun n => payAdmit s.shelfId n (s.getN (K.trayState t)))

/-- A tray enters a state; ADMIT tells it of ABSENT, ADMITTING and ADMITTED. -/
def State.setTrayState (t : Fin 24) (v : Nat) (s : State) : State :=
  let s := s.put (K.trayState t) v
  s.when (decide (v = 0) || decide (3 ≤ v)) (State.sendAdmit t)

/-- A frame dropped and counted in 0x7100+t.0C (R316, R318). -/
def State.dropFrame (t : Fin 24) (s : State) : State := s.inc (K.trayFramesDropped t)

/-- The payload of a TRAY flit from a tray: a reserved kind, or a version major other than 1, is dropped and counted (R316); a
payload of another kind is not this command's. -/
def State.trayHear (t : Fin 24) (kind : Nat) (b : List Byte) (act : State → State) (s : State) : State :=
  if wordAt b 0 1 / 16 ≠ 1 ∨ !trayKinds.contains (wordAt b 1 1) then s.dropFrame t
  else s.when (decide (wordAt b 1 1 = kind)) act

/-! ### The ramp ledger (R333, R334) -/

/-- Sum of the slices of loans of a kind. -/
def sliceSum (lent up : Bool) (l : List Loan) : Nat :=
  ((l.filter (fun x => decide (x.lent = lent) && decide (x.up = up))).map (·.slice)).sum

/-- Show the ledger and the limits in force after a change (R333); a subtraction below 0 is held there (R334). -/
def State.ledgerShow (s : State) : State :=
  let l := s.rack.loans
  let s := s.put (K.ledgerBorrowedUpBorrowedDownLentUpLentDown 0) (sliceSum false true l)
  let s := s.put (K.ledgerBorrowedUpBorrowedDownLentUpLentDown 1) (sliceSum false false l)
  let s := s.put (K.ledgerBorrowedUpBorrowedDownLentUpLentDown 2) (sliceSum true true l)
  let s := s.put (K.ledgerBorrowedUpBorrowedDownLentUpLentDown 3) (sliceSum true false l)
  let s := s.put K.ledgerUpRampInForce ((s.getN K.ledgerOwnUpAllowance + sliceSum false true l - sliceSum true true l : Nat) : Int)
  let s := s.put K.ledgerDownRampInForce
    ((s.getN K.ledgerOwnDownAllowance + sliceSum false false l - sliceSum true false l : Nat) : Int)
  s.put K.ledgerLoans l.length

/-- Would the lender's subtraction take a limit below 0 (R334)? -/
def State.overlent (s : State) (up : Bool) : Bool :=
  let own := if up then s.getN K.ledgerOwnUpAllowance else s.getN K.ledgerOwnDownAllowance
  decide (own + sliceSum false up s.rack.loans < sliceSum true up s.rack.loans)

/-- Shelf a clove is addressed to, 0xFFFF for a group. -/
def Clove.destShelf (c : Clove) : Nat :=
  match c.dest.toNat / 16384 with
  | 0 => c.dest.toNat % 1024 / 2
  | 1 => c.dest.toNat % 512
  | _ => 0xFFFF

/-- Loans whose return FT an FT has reached reverse on both sides (R334). -/
def State.expireLoansAt (ft : Nat) (s : State) : State :=
  (s.modRack (fun r => { r with loans := r.loans.filter (fun x => decide (ft < x.ret)) })).ledgerShow

/-- LEDGER_LEND fires (R334), after the expiries due at its fire FT. -/
def State.fireLend (c : Clove) (s : State) : State :=
  let s := s.expireLoansAt c.fireFt.toNat
  let lent := decide (c.shelf = s.shelfId)
  let loan : Loan := { peer := if lent then c.destShelf else c.shelf, lent := lent, up := !c.argA.getLsbD 31,
                       slice := c.argA.toNat % 2 ^ 31, start := c.fireFt.toNat, ret := c.argB.toNat, seq := c.seq.toNat }
  if 64 ≤ s.rack.loans.length then s.raise Cause.ledgerFull (args c.shelf [(loan.slice, 4)])
  else
    let s := (s.modRack (fun r => { r with loans := r.loans ++ [loan] })).ledgerShow
    s.when (lent && s.overlent loan.up) (State.raise Cause.ledgerOverlend (args loan.peer [(loan.slice, 4)]))

/-- Remove the first loan that matches. -/
def removeLoan (p : Loan → Bool) : List Loan → List Loan
  | [] => []
  | x :: rest => if p x then rest else x :: removeLoan p rest

/-- LEDGER_RETURN fires (R334): it ends the earliest loan of the shelf pair with the same direction and slice. -/
def State.fireReturn (c : Clove) (s : State) : State :=
  let s := s.expireLoansAt c.fireFt.toNat
  let own := decide (c.shelf = s.shelfId)
  let p := fun x : Loan => decide (x.up = !c.argA.getLsbD 31) && decide (x.slice = c.argA.toNat % 2 ^ 31) &&
    (if own then !x.lent && (decide (x.peer = c.destShelf) || decide (c.destShelf = 0xFFFF))
     else x.lent && (decide (x.peer = c.shelf) || decide (x.peer = 0xFFFF)))
  (s.modRack (fun r => { r with loans := removeLoan p r.loans })).ledgerShow

/-- Loans whose return FT has come. -/
def State.expireLoans (s : State) : State := s.expireLoansAt s.ft

/-- LOAN_EXPIRY (R334). -/
def execLoanExpiry (s : State) : Out := .next s.expireLoans

/-- LEDGER_PROJECTION (R335), every 1 ms: quantities in W, W/s, J. -/
def execLedgerProjection (s : State) : Out :=
  let w := fun x : Int => rheDiv (x * 4000) 2147483648
  let d := w s.lp.pT - w s.lp.pF
  let up := decide (0 < d)
  let r := if up then s.getN K.ledgerUpRampInForce else s.getN K.ledgerDownRampInForce
  let soc := s.get K.socStringStateOfCharge
  let energy := s.get K.socStringEnergy * 1000
  let head := rheDiv ((if up then soc - s.get K.socFloorInForce else s.get K.socCeilingInForce - soc) * energy) 10000
  let hd := rheDiv (head * s.get K.ledgerNeedMargin) 100
  -- e > hd * margin, without the division: (p_t - p_f)^2 > 2 r hd
  let needed := decide (d ≠ 0) && decide (2 * (r : Int) * hd < d * d)
  if needed then
    let s := s.put K.ledgerNeedDirection (if up then 1 else 2)
    -- the spec states no slice for a headroom at or below zero (DESIGN CHOICE, notes/assumptions/117)
    let s := if 0 < hd then s.put K.ledgerNeedSlice (clampInt 0 (2 ^ 32 - 1) (rheDiv (d * d) (2 * hd).toNat - r))
      else (s.put K.ledgerNeedSlice ((s.freeNat % 2 ^ 32 : Nat) : Int)).useFree
    let due := match s.rack.needAt with
      | none => true
      | some t => decide (t + s.getN K.ledgerNeedRepeat * ms ≤ s.now)
    .next (s.when due (fun s => (s.modRack (fun x => { x with needAt := some s.now })).raise Cause.ledgerNeed
      (args0 [(s.getN K.ledgerNeedDirection, 1), (s.getN K.ledgerNeedSlice, 4)])))
  else
    .next (((s.put K.ledgerNeedDirection 0).put K.ledgerNeedSlice 0).modRack (fun x => { x with needAt := none }))

/-! ### The rack cap (R204, R128) -/

/-- A rack cap in force, by host write or clove (DESIGN CHOICE, notes/assumptions/117). -/
def State.setRackCap (watts : Nat) (s : State) : State := (s.put K.rackRackCap watts).put K.rackRackCapInForce watts

/-- A rack cap written or fired: the one whose stamp is later prevails, a clove before a host write of the same stamp (R128). -/
def State.capAt (watts stamp : Nat) (clove : Bool) (s : State) : State :=
  let r := s.rack
  let after := decide (r.capStamp < stamp) || (decide (r.capStamp = stamp) && (clove || !r.capClove))
  s.when after (fun s => (s.modRack (fun r => { r with capStamp := stamp, capClove := clove })).setRackCap watts)

/-- RACK_CAP_WRITE (R204). -/
def execRackCapWrite (w : HostWrite) (s : State) : Out :=
  .next (s.hostWrite K.rackRackCap w (fun v s => (s.capAt v.toNat s.ft false).ok))

/-! ### Groups (R329 to R331) -/

abbrev unbounded : Nat := 0xFFFFFFFF

def State.group (s : State) (g : Fin 64) : GroupSt := s.rack.groups[g]
def State.modGroup (g : Fin 64) (f : GroupSt → GroupSt) (s : State) : State :=
  s.modRack (fun r => { r with groups := r.groups.set g (f (r.groups[g])) })

def allGroups : List (Fin 64) := List.finRange 64

/-- Members of a group (0x7040+g.04). -/
def State.members (s : State) (g : Fin 64) : List Nat :=
  (List.range 192).filter (fun c => decide (s.getN (K.chipGroup c) = g.val))

/-- Lowest of a list of levels, unbounded for none. -/
def lowest (l : List Nat) : Nat := l.foldl min unbounded

/-- The remote level of a group from its source shelves (R331). -/
def State.showRemote (g : Fin 64) (s : State) : State :=
  s.put (K.groupRemoteLevel g) ((lowest ((s.group g).remote.map (·.level)) : Nat) : Int)

/-- GROUP_CAP fires (R331): level or release per source shelf, on every group with that campus group id. -/
def State.fireGroupCap (c : Clove) (s : State) : State :=
  let id := c.argA.toNat % 65536
  let level := c.argB.toNat % 65536
  s.each (allGroups.filter (fun g : Fin 64 => decide (id ≠ 0) && decide (s.getN (K.groupCampusGroupId g) = id))) (fun g s =>
    (s.modGroup g (fun x =>
      let rest := x.remote.filter (fun e => decide (e.shelf ≠ c.shelf))
      { x with remote := if level = 0xFFFF then rest else { shelf := c.shelf, level := level, at_ := s.now } :: rest })).showRemote g)

/-- The module originates GROUP_CAP to the group's multicast group, with the group cap lead after a stamp (R330). -/
def State.sendGroupCap (g : Fin 64) (level : Nat) (stamp : Nat) (s : State) : State :=
  let id := s.getN (K.groupCampusGroupId g)
  if id = 0 ∨ !s.canOriginate then s
  else
    let s := s.modGroup g (fun x => { x with sentLevel := some level, sentAt := s.now })
    s.originateClove State.fireGroupCap
      (injectBytes 3 0 (2 * 16384 + s.getN (K.groupMulticastGroup g)) (stamp + s.getN K.rackGroupCapLead * us) id level) s.ft

/-- The lowest chip-side limit among the members that report CHIP_THERMAL (R330). -/
def State.thermalLevel (s : State) (g : Fin 64) : Nat :=
  lowest (((s.members g).filter (fun c => s.chipThrottled c && decide (s.getN (K.chipChipSideReason c) = 6))).map
    (fun c => s.getN (K.chipChipSideLimit c)))

/-- Has a level moved by 5 % or more? -/
def moved5 (old new : Nat) : Bool := decide (old ≤ 20 * (max old new - min old new))

/-- A group after a change of its members' throttles, from a report with a stamp (R330). -/
def State.regroup (g : Fin 64) (stamp : Nat) (s : State) : State :=
  if s.getN (K.groupPolicy g) ≠ 1 then s
  else
    let level := s.thermalLevel g
    let throttled := (s.members g).any s.chipThrottled
    let s := s.when throttled (State.modGroup g (fun x => { x with lastThrottle := s.now }))
    if level = unbounded then s
    else
      let fresh := !(s.group g).episode
      let s := (s.put (K.groupLocalLevel g) level).modGroup g (fun x => { x with episode := true })
      let s := s.when fresh (fun s => (s.inc (K.groupEqualizeEpisodes g)).raise Cause.groupEqualize (args g [(level, 4)]))
      let due := match (s.group g).sentLevel with
        | none => true
        | some old => moved5 old level && decide ((s.group g).sentAt + ms ≤ s.now)
      s.when (fresh || due) (State.sendGroupCap g level stamp)

/-- GROUP_CAP_REFRESH (R330): a held level is originated again. -/
def execGroupCapRefresh (g : Fin 64) (s : State) : Out :=
  let x := s.group g
  .next (s.when (x.episode && decide (x.sentAt + s.getN K.rackGroupCapRefresh * ms ≤ s.now))
    (State.sendGroupCap g (s.getN (K.groupLocalLevel g)) s.ft))

/-- GROUP_RELEASE (R330): no member has reported a throttle for the release hold. -/
def execGroupRelease (g : Fin 64) (s : State) : Out :=
  let x := s.group g
  if x.episode && !(s.members g).any s.chipThrottled && decide (x.lastThrottle + s.getN K.rackReleaseHold * ms ≤ s.now) then
    let s := (s.put (K.groupLocalLevel g) unbounded).modGroup g (fun x => { x with episode := false, sentLevel := none })
    .next ((s.sendGroupCap g 0xFFFF s.ft).raiseOn Cause.groupRelease g)
  else .next s

/-- GROUP_CAP_LAPSE (R331): a remote level not renewed for the lifetime. -/
def execGroupCapLapse (g : Fin 64) (s : State) : Out :=
  .next ((s.modGroup g (fun x => { x with
    remote := x.remote.filter (fun e => decide (s.now < e.at_ + s.getN K.rackGroupCapLifetime * ms)) })).showRemote g)

/-- A policy write (R330): EQUALIZE is refused while the legacy table is enabled; INDEPENDENT clears the local level. -/
def State.policyWrite (g : Fin 64) (v : Int) (s : State) : State × Nat :=
  if v = 1 ∧ s.getB K.legacyEnable then (s.raiseOn Cause.policyRefused g).refuse Cause.policyRefused
  else
    let s := s.put (K.groupPolicy g) v
    (s.when (decide (v = 0)) (fun s => (s.put (K.groupLocalLevel g) unbounded).modGroup g
      (fun x => { x with episode := false, sentLevel := none }))).ok

/-- Chips of a member map, one bit each. -/
def mapBits (b : List Byte) : List Nat := (List.range (8 * b.length)).filter (fun i => (b.getD (i / 8) 0).getLsbD (i % 8))

/-- A member write (R329): refused when a chip would be in two groups (DESIGN CHOICE, notes/assumptions/42). -/
def State.membersWrite (g : Fin 64) (b : List Byte) (s : State) : State × Nat :=
  let cs := (mapBits b).filter (fun c => decide (c < 192))
  if cs.any (fun c => decide (s.getN (K.chipGroup c) ≠ 255) && decide (s.getN (K.chipGroup c) ≠ g.val)) then
    s.refuse Cause.valueOutOfRange
  else
    let s := s.each (s.members g) (fun c s => s.put (K.chipGroup c) 255)
    let s := s.each cs (fun c s => s.put (K.chipGroup c) g.val)
    (s.putBytes (K.groupMembers g) b).ok

/-- The group ceiling of a chip: the lower of local and remote level (R329). -/
def State.groupCeiling (s : State) (c : Nat) : Nat :=
  let g := s.getN (K.chipGroup c)
  if g < 64 then min (s.getN (K.groupLocalLevel g)) (s.getN (K.groupRemoteLevel g)) else unbounded

/-! ### Absence and admission (R320 to R322) -/

/-- A tray becomes ABSENT (R320): its share is held for the flap hold. -/
def State.trayAbsent (t : Fin 24) (s : State) : State :=
  let chips := allSlots.map (chipOf t)
  let share := (chips.map (fun c => s.getN (K.chipCeilingInForce c) % 32768)).sum
  let held := decide (3 ≤ s.trayStateOf t)
  let s := s.modTray t (fun x => { x with
    missedRun := 0, validRun := 0, got := false, throttled := 0
    holdShare := if held then some (share, s.now + s.getN K.rackFlapHold * ms) else x.holdShare })
  let s := s.each chips (fun c s => ((s.put (K.chipCeilingReason c) 0).put (K.chipFloorInForce c) 0).put (K.chipMeasuredPower c) 0)
  let s := ((s.inc (K.trayAbsences t)).setTrayState t 0).raiseOn Cause.trayAbsent t
  s.each allGroups (fun g s => s.regroup g s.ft)

/-- The link of a tray goes down (R320, Table 12-5). -/
def State.trayLinkDown (link : Nat) (s : State) : State :=
  s.each (allTrays.filter (fun t : Fin 24 => decide (s.getN (K.trayLink t) = link))) (fun t s =>
    if s.trayStateOf t = 0 then s
    else if s.trayStateOf t = 1 then s.put (K.trayState t) 0
    else s.trayAbsent t)

/-- The link of a tray is trained and authenticated (Table 12-5). -/
def State.trayLinkUp (link : Nat) (s : State) : State :=
  s.each (allTrays.filter (fun t : Fin 24 => decide (s.getN (K.trayLink t) = link))) (fun t s =>
    s.when (decide (s.trayStateOf t = 0)) (State.put (K.trayState t) 1))

/-- FLAP_HOLD_EXPIRED (R320). -/
def execFlapHoldExpired (t : Fin 24) (s : State) : Out :=
  match (s.tray t).holdShare with
  | some h =>
    .next (s.when (decide (h.2 ≤ s.now)) (fun s =>
      (s.modTray t (fun x => { x with holdShare := none })).raise Cause.flapHoldExpired (args t [(h.1, 4)])))
  | none => .next s

/-- Admission of a tray in IDENTIFIED (R321, R322). A link with no serial recorded yet sees no change (DESIGN CHOICE,
notes/assumptions/117). -/
def State.admitTray (t : Fin 24) (s : State) : State :=
  let serial := (s.tray t).serial
  let known := s.getN (K.traySerial t)
  let changed := decide (known ≠ 0) && decide (known ≠ serial)
  let s := s.when changed (State.raise Cause.trayChanged (args t [(serial, 8)]))
  let s := s.put (K.traySerial t) serial
  let pct := s.getN K.rackAdmitCeiling
  let s := s.modTray t (fun x => { x with
    holdShare := none, validRun := 0, admitted := 0
    admission := Vector.ofFn (fun k : Fin 8 => s.getN (K.chipChipMaximum (chipOf t k)) * pct * 10000) })
  (s.raiseOn Cause.trayAdmitted t).setTrayState t 3

/-- What a TRAY_IDENT says (R321): a training tray becomes IDENTIFIED, with its serial and chip maxima. -/
def State.takeTrayIdent (t : Fin 24) (f : TrayIdent) (s : State) : State :=
  if s.trayStateOf t = 1 ∨ s.trayStateOf t = 2 then
    let s := s.modTray t (fun x => { x with serial := f.serial.toNat, validRun := if s.trayStateOf t = 1 then 0 else x.validRun })
    let s := s.each allSlots (fun k s => s.put (K.chipChipMaximum (chipOf t k)) (f.maxima[k]).toNat)
    (s.put (K.trayChipsPresent t) f.present.toNat).put (K.trayState t) 2
  else s

/-- TRAY_IDENT (R316, R321). -/
def execTrayIdent (t : Fin 24) (payload : List Byte) (s : State) : Out :=
  .next (s.trayHear t 0x03 payload (State.takeTrayIdent t (.ofBytes payload)))

/-- Energy of one cycle of a chip in ADMITTING or ADMITTED (R336): W for 10 µs (DEDUCED, notes/assumptions/41). -/
def State.attributeEnergy (c watts : Nat) (s : State) : State :=
  let floored := decide (watts < s.getN (K.chipFloorInForce c))
  let zero := fun _ : Nat => (0 : Int)
  let e := Sparse.get zero s.rack.energy c + watts
  let fe := Sparse.get zero s.rack.floorEnergy c + (if floored then (watts : Int) else 0)
  let s := s.modRack (fun r => { r with energy := Sparse.put zero r.energy c e, floorEnergy := Sparse.put zero r.floorEnergy c fe })
  let s := (s.put (K.chipEnergy c) (rheDiv e 100)).put (K.chipFloorEnergy c) (rheDiv fe 100)
  s.when floored (State.countBy 64 (K.chipFloorTime c) 10)

/-- A coolant stop (R332): LIMITS with STOP and ceiling 0 leave at once for the chips the report names. An admission ends: no
admission ceiling stands any more (Table 12-7) (DESIGN CHOICE, notes/assumptions/117). -/
def State.coolantStop (t : Fin 24) (present : BitVec 8) (s : State) : State :=
  let s := (s.put (K.trayChipsPresent t) present.toNat).modTray t (fun x => { x with admitted := 0xFF })
  let s := s.each allSlots (fun k s =>
    ((s.put (K.chipCeilingInForce (chipOf t k)) 0x8000).put (K.chipCeilingReason (chipOf t k)) 5).put
      (K.chipFloorInForce (chipOf t k)) 0)
  ((s.put (K.trayCoolant t) 2).sendLimits t).raiseOn Cause.coolantStop t

/-- Coolant state from the flags of a report (0x7100+t.05, R332). -/
def State.coolantFlags (t : Fin 24) (flags present : BitVec 8) (s : State) : State :=
  let cur := s.getN (K.trayCoolant t)
  let loss := flags.getLsbD 0
  let s := s.modTray t (fun x => { x with loss := loss })
  if loss then (if cur = 2 then s else s.coolantStop t present)
  else if 2 ≤ cur then s.put (K.trayCoolant t) 3
  else s.put (K.trayCoolant t) (if flags.getLsbD 1 then 1 else 0)

/-- Does a chip's frame disagree (R240): |A − P| above k times the larger of P and a tenth of the maximum? -/
def disagrees (k p a pmax : Nat) : Bool := decide (k * max (10 * p) pmax < 1000 * ((a : Int) - p).natAbs)

/-- The runs of agreement of a tray's chips move on with a frame (R240). -/
def State.trustRuns (t : Fin 24) (f : TrayReport) (s : State) : State :=
  let k := s.getN K.divDisagreementThreshold
  let bad := fun i : Fin 8 => disagrees k (f.power[i]).toNat (f.estimate[i]).toNat (s.getN (K.chipChipMaximum (chipOf t i)))
  s.modTray t (fun x => { x with
    reportAt := s.now
    disagree := Vector.ofFn (fun i : Fin 8 => if !f.present.getLsbD i.val then x.disagree[i] else if bad i then x.disagree[i] + 1 else 0)
    agree := Vector.ofFn (fun i : Fin 8 => if !f.present.getLsbD i.val then x.agree[i] else if bad i then 0 else x.agree[i] + 1) })

/-- What a TRAY_REPORT says (R317, R320, R321, R332, R336). -/
def State.takeTrayReport (t : Fin 24) (f : TrayReport) (stamp : Nat) (s : State) : State :=
  if s.trayStateOf t = 0 then s
  else
    let s := s.coolantFlags t f.flags f.present
    let counts := decide (f.cycle.toNat = s.rack.cycle % 2 ^ 32) && decide (stamp ≤ (s.rack.cycle + 1) * 10000) && !(s.tray t).got
    if !counts then s
    else
      let s := s.put (K.trayChipsPresent t) f.present.toNat
      let s := s.each allSlots (fun k s =>
        let on := f.present.getLsbD k.val
        (s.put (K.chipMeasuredPower (chipOf t k)) (if on then (f.power[k]).toNat else 0)).put
          (K.chipActivityEstimate (chipOf t k)) (if on then (f.estimate[k]).toNat else 0))
      let s := s.put (K.trayTrayPower t) ((allSlots.map (fun k => s.getN (K.chipMeasuredPower (chipOf t k)))).sum : Nat)
      let s := s.trustRuns t f
      let s := s.modTray t (fun x => { x with got := true, missedRun := 0, validRun := x.validRun + 1 })
      let s := s.when (decide (3 ≤ s.trayStateOf t)) (fun s =>
        s.each (allSlots.filter (fun k => f.present.getLsbD k.val)) (fun k s => s.attributeEnergy (chipOf t k) (f.power[k]).toNat))
      s.when (decide (s.trayStateOf t = 2) && decide (16 ≤ (s.tray t).validRun)) (State.admitTray t)

/-- TRAY_REPORT (R316, R317) with its arrival stamp in FT. -/
def execTrayReport (t : Fin 24) (payload : List Byte) (stamp : Nat) (s : State) : Out :=
  .next (s.trayHear t 0x01 payload (State.takeTrayReport t (.ofBytes payload) stamp))

/-- One chip of a TRAY_STATUS (R331). -/
def State.chipStatus (t : Fin 24) (f : TrayStatus) (k : Fin 8) (s : State) : State :=
  let c := chipOf t k
  let was := (s.tray t).throttled.getLsbD k.val
  let on := f.throttled.getLsbD k.val
  let since := (s.tray t).since[k]
  let s := (s.put (K.chipChipSideReason c) (if on then (f.reason[k]).toNat else 0)).put (K.chipChipSideLimit c) (f.limit[k]).toNat
  if on && !was then
    (s.modTray t (fun x => { x with since := x.since.set k s.now })).raise Cause.chipThrottle
      (args c [((f.reason[k]).toNat, 1), ((f.limit[k]).toNat, 2)])
  else if was && !on then s.raise Cause.chipThrottleEnd (args c [(rheNat (s.now - since) us, 8)])
  else s

/-- What a TRAY_STATUS says (R319, R330, R331). -/
def State.takeTrayStatus (t : Fin 24) (f : TrayStatus) (stamp : Nat) (s : State) : State :=
  if s.trayStateOf t = 0 then s
  else
    let s := s.each allSlots (State.chipStatus t f)
    let s := s.modTray t (fun x => { x with throttled := f.throttled, statusAt := s.now })
    let gs := (allSlots.map (fun k => s.getN (K.chipGroup (chipOf t k)))).eraseDups
    s.each (allGroups.filter (fun g : Fin 64 => gs.contains g.val)) (fun g s => s.regroup g stamp)

/-- TRAY_STATUS (R316, R319) with its arrival stamp in FT. -/
def execTrayStatus (t : Fin 24) (payload : List Byte) (stamp : Nat) (s : State) : Out :=
  .next (s.trayHear t 0x02 payload (State.takeTrayStatus t (.ofBytes payload) stamp))

/-- What a STEP_NOTICE says (R318): the step in mA becomes Q31 of 2,000 A, saturating; one from a tray not yet ADMITTING is
dropped and counted. -/
def State.takeStepNotice (t : Fin 24) (f : StepNotice) (stamp : Nat) (s : State) : State :=
  if s.trayStateOf t < 3 then s.dropFrame t
  else (s.inc (K.trayNotices t)).notice t (sat31 (rheDiv (f.step.toInt * 2147483648) 2000000)) stamp

/-- STEP_NOTICE (R316, R318) with its arrival stamp in FT. -/
def execStepNotice (t : Fin 24) (payload : List Byte) (stamp : Nat) (s : State) : Out :=
  .next (s.trayHear t 0x04 payload (State.takeStepNotice t (.ofBytes payload) stamp))

/-- CLEAR of a coolant stop (R332): refused while the tray still reports COOLANT_LOSS (DESIGN CHOICE, notes/assumptions/43). -/
def State.coolantClear (t : Fin 24) (s : State) : State × Nat :=
  if (s.tray t).loss then s.refuse Cause.functionRunning
  else if 2 ≤ s.getN (K.trayCoolant t) then ((s.put (K.trayCoolant t) 0).raiseOn Cause.coolantCleared t).ok
  else s.ok

/-- COOLANT_CLEAR (R332) (DESIGN CHOICE, notes/assumptions/43). -/
def execCoolantClear (t : Fin 24) (sess : Nat) (s : State) : Out :=
  .next (s.hostWrite (K.trayCoolantClear t) (oneByte sess 1) (fun _ s => s.coolantClear t))

/-- ADMIT (R316): sent every 100 ms as well as on each change of tray state. -/
def execAdmit (t : Fin 24) (s : State) : Out := .next (s.sendAdmit t)

/-! ### Budgets, ceilings and floors at a tray-cycle boundary (R320, R322 to R328) -/

/-- A missed report (R320, R336): at most two missed cycles are attributed at the power before. -/
def State.missReport (t : Fin 24) (s : State) : State :=
  let n := (s.tray t).missedRun + 1
  let s := (s.inc (K.trayMissedCycles t)).modTray t (fun x => { x with missedRun := n, validRun := 0 })
  let s := s.when (decide (n ≤ 2) && decide (3 ≤ s.trayStateOf t)) (fun s =>
    s.each ((allSlots.map (chipOf t)).filter s.chipIn) (fun c s =>
      (s.attributeEnergy c (s.getN (K.chipMeasuredPower c))).inc (K.chipCyclesEstimated c)))
  if 3 ≤ n then s.trayAbsent t else s

/-- Judge the reports of the cycle that ends (R320). -/
def State.judgeReports (s : State) : State :=
  let map := (allTrays.filter (fun t : Fin 24 => (s.tray t).got)).foldl (fun m t => m ||| (1#24 <<< t.val)) 0#24
  let s := s.modRack (fun r => { r with judged := map })
  s.each (allTrays.filter (fun t : Fin 24 => decide (2 ≤ s.trayStateOf t))) (fun t s =>
    if (s.tray t).got then s.modTray t (fun x => { x with got := false }) else s.missReport t)

/-- Static terms of a chip but for its admission ceiling: value and reason (R324, R328), in the order of Table 12-6. A member
that throttles itself counts CHIP_THERMAL, the others GROUP_SYNC (R330). -/
def State.staticTerms (s : State) (c : Nat) : List (Nat × Nat) :=
  let own := s.chipThrottled c && decide (s.getN (K.chipChipSideReason c) = 6)
  [(if s.getN (K.chipHostCeiling c) = 0xFFFF then unbounded else s.getN (K.chipHostCeiling c), 8),
   (s.rack.legacyLimit.getD unbounded, 9), (s.groupCeiling c, if own then 6 else 7)]

/-- Static limit without the admission ceiling. -/
def State.staticLimit (s : State) (c : Nat) : Nat :=
  (s.staticTerms c).foldl (fun m e => min m e.1) (s.getN (K.chipChipMaximum c))

/-- The admission ceiling of a chip in W while it lasts. -/
def State.admissionOf (s : State) (c : Nat) : Nat :=
  if h : c / 8 < 24 then
    let x := s.tray ⟨c / 8, h⟩
    if s.trayStateOf (c / 8) = 3 ∧ !x.admitted.getLsbD (c % 8) then
      rheNat x.admission[(⟨c % 8, Nat.mod_lt _ (by decide)⟩ : Fin 8)] 1000000
    else unbounded
  else unbounded

/-- One cycle of the admission ramp of a tray, in W/s for the whole tray (R322). -/
def State.rampTray (rate : Nat) (t : Fin 24) (s : State) : State :=
  let present := allSlots.filter (fun k => (s.getN (K.trayChipsPresent t)).testBit k.val)
  let step := rheNat (rate * 10) (max present.length 1)
  let s := s.modTray t (fun x => { x with admission := x.admission.map (· + step) })
  let ended := present.filter (fun k => decide (s.staticLimit (chipOf t k) * 1000000 ≤ (s.tray t).admission[k]))
  let s := s.modTray t (fun x => { x with admitted := ended.foldl (fun m k => m ||| (1#8 <<< k.val)) x.admitted })
  let s := s.put (K.trayAdmissionCeiling t)
    ((present.map (fun k => rheNat (s.tray t).admission[k] 1000000)).foldl min 0xFFFF : Nat)
  if present.all (fun k => (s.tray t).admitted.getLsbD k.val) then (s.setTrayState t 4).raiseOn Cause.trayAdmissionDone t else s

/-- Admission ramps of all ADMITTING trays, scaled so that their sum stays within the up-ramp limit in force (R322). -/
def State.rampAll (s : State) : State :=
  let ts := allTrays.filter (fun t : Fin 24 => decide (s.trayStateOf t = 3))
  let rate := min (s.getN K.rackAdmissionRamp) (s.getN K.ledgerUpRampInForce / max ts.length 1)
  s.each ts (State.rampTray rate)

/-- Sum of min(s_c, L). -/
def levelSum (limits : List Nat) (level : Nat) : Nat := (limits.map (min level)).sum

/-- The largest whole level in W whose sum stays within a budget, by bisection over 16 bits (R324)
(DESIGN CHOICE, notes/assumptions/40). -/
def findLevel (limits : List Nat) (budget : Int) : Nat :=
  [15, 14, 13, 12, 11, 10, 9, 8, 7, 6, 5, 4, 3, 2, 1, 0].foldl (fun l i =>
    if (levelSum limits (l + 2 ^ i) : Int) ≤ budget then l + 2 ^ i else l) 0

/-- The budget level L: unbounded when the static limits fit (DESIGN CHOICE, notes/assumptions/40). -/
def budgetLevel (limits : List Nat) (budget : Int) : Nat :=
  if (limits.sum : Int) ≤ budget then unbounded else findLevel limits budget

/-- Sum of max(P_c, min(F, m_c)); chips that take no part have m_c = 0. -/
def floorSum (chips : List (Nat × Nat)) (f : Nat) : Nat := (chips.map (fun e => max e.1 (min f e.2))).sum

/-- The smallest whole floor level that reaches a budget, 0xFFFF if none does (R325) (DESIGN CHOICE, notes/assumptions/40). -/
def floorLevel (chips : List (Nat × Nat)) (budget : Int) : Nat :=
  if budget ≤ (floorSum chips 0 : Int) then 0
  else if (floorSum chips 0xFFFF : Int) < budget then 0xFFFF
  else 1 + [15, 14, 13, 12, 11, 10, 9, 8, 7, 6, 5, 4, 3, 2, 1, 0].foldl (fun l i =>
    if (floorSum chips (l + 2 ^ i) : Int) < budget then l + 2 ^ i else l) 0

/-- Requests of core 2 in W (R203). -/
def State.request (s : State) (port : Nat) : Int := rheDiv (Sparse.get zeroDflt (s.core 2).ports port * 1000000) 2147483648

/-- Reason of L (R328), and of F: status bit, selector. -/
def State.limitReason (s : State) (ceiling : Bool) : Nat :=
  let bits := (Sparse.get zeroDflt (s.core 0).ports 6).toNat
  let pF := rheDiv (Sparse.get zeroDflt (s.core 0).ports 4 * 1000000) 2147483648
  let winner := fun n : Nat => (((s.core 1).selRecs.find? (fun e => decide (e.1 = n))).map (fun e => e.2.winner)).getD (0 : Nat)
  if ceiling && (bits.testBit 2 || decide (s.get K.rackRackCapInForce ≤ pF)) then 1
  else if winner (if ceiling then 0 else 1) = 1 then 4
  else if bits.testBit (if ceiling then 0 else 1) then 2
  else 3

/-- Ceiling and reason of a chip for a level and its reason (R324, R328, R332). -/
def State.chipCeiling (s : State) (level reason c : Nat) : Nat × Nat :=
  if s.trayStopped (c / 8) then (0x8000, 5)
  else
    let low := max level (s.percentOfMax c (s.getN K.rackCeilingMinimum))
    let terms := s.staticTerms c ++ (if reason = 1 then [(low, 1), (s.admissionOf c, 2)]
      else if reason = 4 then [(low, 4), (s.admissionOf c, 2)]
      else [(s.admissionOf c, 2), (low, reason)])
    let top := s.getN (K.chipChipMaximum c)
    let v := terms.foldl (fun m e => min m e.1) top
    let why := ((terms.find? (fun e => decide (e.1 = v))).map (·.2)).getD 0
    (v, if v = top then 0 else why)

/-- Throttle time of a reason, 10 µs per cycle (0x7200+c.0F). -/
def State.addThrottle (c reason : Nat) (s : State) : State :=
  if reason = 0 then s
  else
    let zero := fun _ : Nat => (0 : Int)
    let k := 16 * c + reason
    s.modRack (fun r => { r with throttleTime := Sparse.put zero r.throttleTime k (Sparse.get zero r.throttleTime k + 10) })

/-- Mean of the rack load power over 1 ms, of the ticks there have been (R323) (DEDUCED, notes/assumptions/41). -/
def RackState.loadMean (r : RackState) : Int := rheDiv r.load.sum (max r.load.length 1)

/-- The budgets of a boundary, the ceilings and floors they give, and their frames (R323 to R326)
(DESIGN CHOICE, notes/assumptions/40). -/
def State.formLimits (s : State) : State :=
  let chips := s.chipsIn
  let power := (chips.map (fun c => s.getN (K.chipMeasuredPower c))).sum
  let overhead := max (s.rack.loadMean - power) 0
  let held := (allTrays.map (fun t => ((s.tray t).holdShare.map (·.1)).getD 0)).sum
  let bCeil := s.request 0x10 - overhead - held
  let bFloor := s.request 0x11 - overhead
  let limits := chips.map (fun c => min (s.staticLimit c) (s.admissionOf c))
  let uv := s.pow.uvInForce
  let free := budgetLevel limits bCeil
  let hold := budgetLevel limits (min bCeil (rheDiv ((power : Int) * 95) 100))
  let cut := uv && decide (hold < free)
  let level := if uv then min (s.getN K.rackCeilingLevel) hold else free
  let reason := s.limitReason true
  let s := s.when (cut && !s.rack.uvSaid) (State.raise0 Cause.budgetUndervoltageHold)
  let s := s.modRack (fun r => { r with uvSaid := uv && (r.uvSaid || cut) })
  let s := s.each chips (fun c s =>
    let v := s.chipCeiling level reason c
    let side := if s.chipThrottled c then s.getN (K.chipChipSideReason c) else 0
    (((s.put (K.chipCeilingInForce c) v.1).put (K.chipCeilingReason c) v.2).addThrottle c v.2).when (decide (side ≠ v.2))
      (State.addThrottle c side))
  -- floors (R325)
  let take := fun c : Nat => s.getB (K.chipFloorEnable c) && decide (s.trayStateOf (c / 8) = 4) && !s.chipThrottled c &&
    !s.trayStopped (c / 8)
  let m := fun c : Nat => if take c then
      min (s.percentOfMax c (s.getN K.rackFillerMaximum)) (s.getN (K.chipCeilingInForce c) % 32768) else 0
  let f := if bFloor ≤ (power : Int) then 0 else floorLevel (chips.map (fun c => (s.getN (K.chipMeasuredPower c), m c))) bFloor
  let s := s.each chips (fun c s =>
    let v := min f (m c)
    s.put (K.chipFloorInForce c) (if s.getN (K.chipMeasuredPower c) < v then v else 0 : Nat))
  let s := ((((s.put K.rackCeilingBudget bCeil).put K.rackFloorBudget bFloor).put K.rackCeilingLevel level).put K.rackFloorLevel f).put
    K.rackOverhead overhead
  let s := (s.put K.rackCeilingReason (if level = unbounded then 0 else reason : Nat)).put K.rackFloorReason
    (if f = 0 then 0 else s.limitReason false : Nat)
  let s := s.put K.rackManagerState (if uv then 2 else 1)
  s.each (allTrays.filter (fun t : Fin 24 => decide (3 ≤ s.trayStateOf t))) State.sendLimits

/-- TRAY_CYCLE_BOUNDARY (R317, R320, R322, R323): at fabric times that are whole multiples of 10,000 ns, once each. -/
def execTrayCycleBoundary (s : State) : Out :=
  if s.ft % 10000 = 0 ∧ s.rack.boundary ≠ some s.ft then
    let s := s.judgeReports
    let s := s.modRack (fun r => { r with boundary := some s.ft, cycle := s.ft / 10000 })
    .next s.rampAll.formLimits
  else .next s

/-- The rack manager's part of a tick: rack load power, channel 40 times channel 45 (R323) (DEDUCED, notes/assumptions/41). -/
def State.rackTick (s : State) : State :=
  let p := rheDiv (s.busMilli * s.controlMilli 45) 1000000
  s.modRack (fun r => { r with load := (p :: r.load).take 1000 })

end Sys2Proof.Machine
end

