-- ==== Sys2Proof/Machine/SocOps.lean ====
section
/-! DEFINITION. Modes of the estimator and its requests for rests, which the chain's rules also reach (spec/11, R305 to
R309). -/

namespace Sys2Proof.Machine

def State.modSoc (f : SocState → SocState) (s : State) : State := { s with soc := f s.soc }

/-- Estimator modes of 0x6200.01. -/
def State.socModeIs (s : State) (m : Nat) : Bool := decide (s.getN K.socMode = m)

/-- START, TEST and RECOVERY apply the taper-current window (R305). -/
def inTaper (m : Nat) : Bool := decide (m = 1) || decide (m = 3) || decide (m = 4)

/-- Bits of 0x6200.10. -/
def State.socFlag (bit : Nat) (on : Bool) (s : State) : State :=
  let v := s.getN K.socEstimateFlags
  s.put K.socEstimateFlags ((if on then v ||| 2 ^ bit else v &&& (255 - 2 ^ bit) : Nat) : Int)

/-- A change of mode records ESTIMATOR_MODE_CHANGED (R305); the taper window is entered or left. -/
def State.setSocMode (m : Nat) (s : State) : State :=
  let old := s.getN K.socMode
  if old = m then s
  else
    let s := s.put K.socMode m
    let s := s.modSoc (fun e => { e with
      modeAt := s.now
      taperLeft := if inTaper old && !inTaper m then some s.now else if inTaper m then none else e.taperLeft })
    let s := s.when (inTaper m) (State.modPow (fun w => { w with taperCap := some (s.getN K.taperTaperCurrent * 1000) }))
    (s.socFlag 2 (inTaper m)).raise Cause.estimatorModeChanged (args0 [(m, 1)])

/-- A capacity test ends as aborted and learns nothing (R309). -/
def State.abortTest (s : State) : State :=
  if 1 ≤ s.getN K.testTestState ∧ s.getN K.testTestState ≤ 3 then
    ((s.put K.testTestState 5).modSoc (fun e => { e with testRest := none })).raise0 Cause.capacityTestAborted
  else s

/-- The duration a quiet window request names: the rest time plus 60 s (R307). -/
def State.requestQuiet (s : State) : State :=
  let s := s.put K.quietDurationRequested ((s.getN K.socCfgRestTime + 60) * 1000 : Nat)
  let s := s.when (decide (s.getN K.quietQuietRequest = 0)) (State.put K.quietQuietRequest 1)
  if s.soc.asked then s
  else (s.modSoc (fun e => { e with asked := true })).raise0 Cause.quietWindowRequested

/-- Entry to RECOVERY (R305, R307, R309): a test is aborted and a quiet window is requested. -/
def State.enterRecovery (s : State) : State := (s.abortTest.setSocMode 4).requestQuiet

end Sys2Proof.Machine
end

