-- ==== Sys2Proof/Machine/Chain.lean ====
section
/-! DEFINITION. The cell chain: frames, sweeps, limits, breaks, sense wires and balancing (spec/10). -/

namespace Sys2Proof.Machine

/-! ### Units and frames -/

def allUnits : List (Fin 32) := List.finRange 32

def State.cunit (s : State) (u : Fin 32) : UnitSt := s.chn.units[u]
def State.modChain (f : ChainState → ChainState) (s : State) : State := { s with chn := f s.chn }
def State.modUnit (u : Fin 32) (f : UnitSt → UnitSt) (s : State) : State :=
  s.modChain (fun c => { c with units := c.units.set u (f (c.units[u])) })

/-- Units configured, N (0x6000.02). -/
def State.unitCount (s : State) : Nat := s.getN K.chainUnitsConfigured
def State.configured (s : State) : List (Fin 32) := allUnits.filter (fun u : Fin 32 => decide (u.val < s.unitCount))

/-- Hop of a unit from an end (R272). -/
def State.hopOf (s : State) (u : Fin 32) (fromA : Bool) : Nat := if fromA then u.val + 1 else s.unitCount - u.val

/-- Unit states of 0x6100+p.01. -/
def State.unitStateOf (s : State) (u : Fin 32) : Nat := s.getN (K.unitState u)

/-- STALE, or FIRMWARE_FAILED, which every rule treats as STALE (R276). -/
def State.isStale (s : State) (u : Fin 32) : Bool := decide (5 ≤ s.unitStateOf u)

/-- Chain states of 0x6000.01. -/
def State.chainIs (s : State) (v : Nat) : Bool := decide (s.getN K.chainChainState = v)

/-- Chain time (R277). -/
def State.chainTime (s : State) : Nat := s.ft / 500 % 2 ^ 32

/-- What the master drives on an end (R268: only the master transmits). -/
def State.chainDrive (fromA : Bool) (line : List Bool) (s : State) : State :=
  s.when (s.getB K.chainChainMaster) (State.send (.chain fromA line))

/-- A frame leaves under the next sequence number, from the master only (R268). -/
def State.chainSend (fromA : Bool) (type hop flags : Nat) (payload : List Byte) (s : State) : State :=
  s.when (s.getB K.chainChainMaster) (fun s =>
    let f : ChainFrame := { type := type, hop := hop, flags := flags, seq := s.chn.nextSeq, payload := payload }
    (s.modChain (fun x => { x with nextSeq := (x.nextSeq + 1) % 65536 })).chainDrive fromA f.line)

/-- A broadcast: from CHA, and from both ends while the ring is broken (R280, R287). -/
def State.chainBroadcast (type : Nat) (payload : List Byte) (s : State) : State :=
  let s := s.chainSend true type 0 0 payload
  s.when (s.chainIs 3 || s.chainIs 4) (State.chainSend false type 0 0 payload)

/-- The wake pattern on both ports; a LOOP may leave 2 ms later (R274). -/
def State.chainWakeUp (s : State) : State :=
  ((s.modChain (fun c => { c with loopAt := s.now + 2 * ms })).chainDrive true wakePattern).chainDrive false wakePattern

/-- An addressed command with a response: it is in flight until it answers (R273). -/
def State.chainCommand (fromA : Bool) (u : Fin 32) (type flags : Nat) (payload : List Byte) (s : State) : State :=
  s.when (s.getB K.chainChainMaster) (fun s =>
    let c : ChainCmd := { fromA := fromA, type := type, unit_ := u, flags := flags, seq := s.chn.nextSeq, payload := payload
                          due := responseDue s.now payload.length (s.hopOf u fromA), retried := false }
    (s.modChain (fun x => { x with cmds := x.cmds ++ [c] })).chainSend fromA type (s.hopOf u fromA) flags payload)

/-- The command in flight to a unit that a response echoes: type and sequence (Table 10-1). -/
def ChainCmd.echoed (c : ChainCmd) (u : Fin 32) (f : ChainFrame) : Bool :=
  decide (c.unit_ = u.val) && decide (c.type + 128 = f.type) && decide (c.seq = f.seq)

/-- Does the module take a response in? A listener takes every one (R268), the master one that echoes a command in flight
(DESIGN CHOICE, notes/assumptions/115). -/
def State.chainExpects (u : Fin 32) (f : ChainFrame) (s : State) : Bool :=
  !s.getB K.chainChainMaster || s.chn.cmds.any (fun c => c.echoed u f)

/-- A received frame of a type with a payload of a length: a bad one is dropped and counted (R270); one of another type, or
with another length than Table 10-2 gives its type, is not acted on (R271) (DESIGN CHOICE, notes/assumptions/115). -/
def State.chainHear (type len : Nat) (b : List Byte) (act : ChainFrame → State → State) (s : State) : State :=
  match ChainFrame.ofBytes b with
  | none => s.inc K.chainFramesDropped
  | some f => if f.type = type ∧ f.payload.length = len then act f s else s

/-- A response of a unit: it ends the command in flight that it echoes. -/
def State.chainResponse (u : Fin 32) (type len : Nat) (b : List Byte) (act : List Byte → State → State) (s : State) : State :=
  s.chainHear type len b (fun f s =>
    s.when (s.chainExpects u f) (fun s =>
      act f.payload (s.modChain (fun x => { x with cmds := x.cmds.filter (fun c => !c.echoed u f) }))))

/-- Should this module be chain master (R268)? -/
def State.masterDue (s : State) : Bool :=
  let p := s.md.pins
  p.maceOut || (!p.maceIn && (!p.slotB || !p.peerOk))

/-- CHAIN_MASTER_CHANGED (R268): 50 µs of idle have been heard on both ports. A chain still to be brought up is woken
(R274). -/
def execChainMasterChanged (s : State) : Out :=
  if s.masterDue ∧ !s.getB K.chainChainMaster then
    let s := (s.put K.chainChainMaster 1).raise0 Cause.chainMasterChanged
    .next (s.when (s.chainIs 1) State.chainWakeUp)
  else .next s

/-- A module that stops being master sends nothing more (R268). -/
def State.chainRole (s : State) : State := s.when (!s.masterDue) (State.put K.chainChainMaster 0)

/-- ENUM (R271). -/
def execEnum (fromA : Bool) (u : Fin 32) (s : State) : Out := .next (s.chainCommand fromA u 0x04 0 [])

/-- Payload of CONFIG for a unit (R271, R274). -/
def State.configPayload (s : State) (u : Fin 32) : List Byte :=
  let n := s.unitCount
  let delay := fun hops : Nat => rheNat (hops * s.getN K.chainLoopDelay) (n + 1)
  payConfig (u.val + 1) (n - u.val) (delay (u.val + 1)) (delay (n - u.val)) (s.getN K.chainCheckInterval)
    (s.getN K.chainCommunicationLossTimeout) (s.get K.limitCellTripLow) (s.get K.limitCellTripHigh) (s.get K.limitTemperatureTrip)

/-- CONFIG (R271): to one unit. -/
def execConfig (fromA : Bool) (u : Fin 32) (s : State) : Out :=
  let s := (s.put (K.unitHopsFromCHA u) (u.val + 1 : Nat)).put (K.unitHopsFromCHB u) (s.unitCount - u.val : Nat)
  .next (s.chainCommand fromA u 0x05 0 (s.configPayload u))

/-- ACK (R271): the addressed CONFIG, BALANCE or TEST of a unit is confirmed. -/
def execAck (u : Fin 32) (frame : List Byte) (s : State) : Out :=
  .next (s.chainResponse u 0x85 2 frame (fun _ s => s))

/-- CHAIN_LOAD (R271, R276): a piece of CSU-16 firmware, to one unit or by broadcast. An addressed load counts as an attempt
with its first piece. -/
def execChainLoad (fromA : Bool) (unit_ : Option (Fin 32)) (offset total : Nat) (data : List Byte) (s : State) : Out :=
  .next (match unit_ with
    | some u =>
      let first := decide (offset = 0)
      (s.modUnit u (fun x => { x with reloads := x.reloads + (if first then 1 else 0) })).chainSend fromA 0x08 (s.hopOf u fromA) 0
        (payLoad offset total data)
    | none => s.chainSend fromA 0x08 0 0 (payLoad offset total data))

/-! ### Status words (Table 10-9) -/

/-- Set or clear a status bit of a unit. -/
def State.unitBit (u : Fin 32) (bit : Nat) (on : Bool) (s : State) : State :=
  let v := s.getN (K.unitStatus u)
  let w := if on then v ||| 2 ^ bit else v &&& (65535 - 2 ^ bit)
  s.put (K.unitStatus u) w

/-- Show the balancing totals. -/
def State.showTransfers (s : State) : State :=
  s.put K.balTransfersActive ((s.configured.filter (fun u : Fin 32 => (s.getN (K.unitBalancing u)).testBit 15)).length : Nat)

/-- Show the limit state (0x6010.0B). -/
def State.showLimits (s : State) : State :=
  let c := s.chn
  s.put K.limitLimitState (bitsOf [c.lowTrip, c.highTrip, c.tempTrip, c.staleBlock])

/-- Show the stale map and units reached; a stale block ends when no unit is stale (R289). -/
def State.showStale (s : State) : State :=
  let stale := s.configured.filter s.isStale
  let s := s.put K.chainStaleMap ((stale.foldl (fun m u => m + 2 ^ u.val) 0 : Nat) : Int)
  let s := s.put K.chainUnitsReached ((s.configured.filter (fun u : Fin 32 => decide (s.unitStateOf u = 2) ||
    decide (s.unitStateOf u = 3))).length : Nat)
  (s.when stale.isEmpty (State.modChain (fun c => { c with staleBlock := false, staleSaid := false }))).showLimits

/-- A unit becomes stale; its transfer stops (R286, R296). -/
def State.makeStale (u : Fin 32) (s : State) : State :=
  if s.isStale u then s
  else (((s.put (K.unitState u) 5).put (K.unitPath u) 2).put (K.unitBalancing u) 0).modUnit u
    (fun x => { x with staleSince := some s.now, testOn := none })

/-- The breaks, once every position has been tried from both ends (R286). A LOOP that fails with every unit reached puts the
break after the last unit (DESIGN CHOICE, notes/assumptions/115). -/
def State.judgeBreaks (s : State) : State :=
  let lostA := s.configured.filter (fun u => (s.cunit u).missA)
  let lostB := s.configured.filter (fun u => (s.cunit u).missB)
  let stale := s.configured.filter (fun u => (s.cunit u).missA && (s.cunit u).missB)
  if stale.isEmpty then
    -- the highest position reached from CHA
    let after := match lostA, lostB.getLast? with
      | u :: _, _ => u.val
      | [], some u => u.val + 1
      | [], none => s.unitCount
    if s.chainIs 3 ∧ s.getN K.chainBreakAfter = after then s
    else ((s.put K.chainChainState 3).put K.chainBreakAfter after).raise Cause.chainBroken (args after [])
  else
    let s' := ((s.put K.chainChainState 4).put K.chainBreakAfter 255).showStale
    if s.chainIs 4 then s'
    else s'.raise Cause.chainSegmented (args s'.unitCount [(s'.getN K.chainStaleMap, 4)])

/-- Is any unit out of reach of an end? -/
def State.broken (s : State) : Bool := s.configured.any (fun u => (s.cunit u).missA || (s.cunit u).missB)

/-- CHAIN_SYNC (R277, R274): the last step of bringing the chain up. -/
def execChainSync (s : State) : Out :=
  let s := s.chainBroadcast 0x01 (payTime s.chainTime)
  .next (s.when (s.chainIs 1) (fun s => if s.chn.loopOk then s.put K.chainChainState 2 else s.judgeBreaks))

/-! ### Identity (R274 to R276) -/

/-- Does a unit run the CSU-16 firmware of the running bank (R65)? -/
def State.csuVerified (s : State) (r : ChainIdent) : Bool := r.running && decide (r.hash.toList = (s.runningBank.parts[4]).hash)

/-- What an IDENT says of a unit (R65, R66, R275, R276): a serial that differs makes it absent; a unit without the bank's
firmware waits for a load, and after the third it is absent at a start and FIRMWARE_FAILED when it had run. -/
def State.identify (fromA : Bool) (u : Fin 32) (r : ChainIdent) (s : State) : State :=
  let s := ((s.putBytes (K.unitFirmwareHash u) r.hash.toList).put (K.unitChecksInSleep u) r.checks.toNat).put (K.unitPath u)
    (if fromA then 0 else 1)
  let serial := r.serial.toNat
  let known := s.getN (K.unitSerial u)
  let differs := decide (known ≠ 0) && decide (known ≠ serial)
  let s := s.when (decide (known = 0)) (State.put (K.unitSerial u) serial)
  let s := s.when (differs && !(s.cunit u).changed) (State.raise Cause.chainUnitChanged
    (args (u.val + 1) [(known, 6), (serial, 6)]))
  let s := s.modUnit u (fun x => { x with present := serial, changed := differs })
  if differs then (s.put (K.unitState u) 1).showStale
  else if s.csuVerified r then
    ((s.put (K.unitState u) 3).modUnit u (fun x => { x with reloads := 0, staleSince := none })).showStale
  else if r.running ∨ s.chainIs 1 ∨ s.chainIs 0 then
    (s.put (K.unitState u) (if 3 ≤ (s.cunit u).reloads then 1 else 2)).showStale
  else if 3 ≤ (s.cunit u).reloads then (s.put (K.unitState u) 6).showStale
  else
    let fresh := decide (s.unitStateOf u = 3)
    ((s.when fresh (State.raiseOn Cause.csuFirmwareLost (u.val + 1))).makeStale u).showStale

/-- IDENT (R271). -/
def execIdent (fromA : Bool) (u : Fin 32) (frame : List Byte) (s : State) : Out :=
  .next (s.chainResponse u 0x84 48 frame (fun b => State.identify fromA u (.ofBytes b)))

/-- ACCEPT of every present serial (R275). -/
def State.acceptSerials (s : State) : State × Nat :=
  (s.each (s.configured.filter (fun u => decide ((s.cunit u).present ≠ 0))) (fun u s =>
    let s := s.put (K.unitSerial u) (s.cunit u).present
    (s.when (s.cunit u).changed (State.put (K.unitState u) 3)).modUnit u (fun x => { x with changed := false }))).ok

/-- SERIAL_ACCEPT (R275). -/
def execSerialAccept (sess : Nat) (s : State) : Out :=
  .next (s.hostWrite K.chainSerialMap (oneByte sess 1) (fun _ s => s.acceptSerials))

/-! ### Sweeps (R278 to R282) -/

/-- Window of a filter in ns (Table 10-5). -/
def filterWindow : Nat → Nat
  | 0 => 100000
  | 1 => 800000
  | 2 => 6400000
  | _ => 51200000

/-- Filter of a kind (Table 10-4). -/
def State.kindFilter (s : State) (kind : Nat) : Nat :=
  if kind = 1 then s.getN K.chainPeriodicFilter else if kind = 2 then 3 else 0

/-- L of R280 in ns. -/
def State.leadOf (s : State) (filter : Nat) : Nat := max (s.getN K.chainSweepLead * us) (filterWindow filter / 2 + 200000)

/-- First tick boundary at or after an FT (R19). -/
def tickUp (t : Nat) : Nat := (t + 999) / 1000 * 1000

/-- Two instants within 2 ms. -/
def within2ms (a b : Nat) : Bool := decide (a ≤ b + 2 * ms) && decide (b ≤ a + 2 * ms)

/-- Plan a sweep. A periodic one near a clove or host sweep is skipped (R282). -/
def State.planSweep (kind sample : Nat) (periodic : Bool) (s : State) : State :=
  let w : Sweep := { id := 0, kind := kind, filter := s.kindFilter kind, sample := sample, periodic := periodic, sent := false,
                     marks := Vector.replicate 32 none }
  if periodic then
    if s.chn.sweeps.any (fun x : Sweep => !x.periodic && within2ms x.sample sample || decide (x.sample = sample)) then s
    else s.modChain (fun c => { c with sweeps := c.sweeps ++ [w] })
  else s.modChain (fun c => { c with
    sweeps := c.sweeps.filter (fun x => x.sent || !x.periodic || !within2ms x.sample sample) ++ [w] })

/-- A sweep asked for by a clove or the host at a time: the first tick boundary at or after it plus L (R280). -/
def State.askSweep (kind at_ : Nat) (s : State) : State := s.planSweep kind (tickUp (at_ + s.leadOf (s.kindFilter kind))) false

/-- SWEEP_PERIODIC (R280): the next whole multiple of the sweep period that leaves the lead. -/
def execSweepPeriodic (s : State) : Out :=
  let period := s.getN K.chainSweepPeriod * ms
  let first := s.ft + s.leadOf (s.kindFilter 1)
  .next (s.planSweep 1 ((first + period - 1) / period * period) true)

/-- SWEEP_REQUEST (R280): kind 1 to 4. -/
def execSweepRequest (w : HostWrite) (s : State) : Out :=
  .next (s.hostWrite K.chainSweepRequest w (fun v s => (s.askSweep v.toNat s.ft).ok))

/-- Mark every unmarked configured unit of a sweep missed. -/
def State.missRest (w : Sweep) (s : State) : Sweep :=
  { w with marks := s.configured.foldl (fun m u => if (m[u]).isNone then m.set u (some 3) else m) w.marks }

/-- Change a sweep that has been sent. -/
def State.modSweep (id : Nat) (f : Sweep → Sweep) (s : State) : State :=
  s.modChain (fun c => { c with sweeps := c.sweeps.map (fun x => if x.sent ∧ x.id = id then f x else x) })

/-- Sweeps sent and not yet completed, oldest first. -/
def State.sentSweeps (s : State) : List Sweep := s.chn.sweeps.filter (·.sent)

/-- A third sweep while two are unread: the oldest's unread results are lost (R282). -/
def State.loseOldest (s : State) : State :=
  match s.sentSweeps with
  | x :: _ :: _ =>
    let lost := s.configured.any (fun u => (x.marks[u]).isNone)
    let s := s.modSweep x.id (s.missRest)
    s.when lost (fun s => (s.inc K.chainSweepsIncomplete).raise Cause.sweepIncomplete (args0 [(x.id, 2)]))
  | _ => s

/-- The planned sweep whose frame is due: sample instant less L has come. -/
def State.dueSweep (s : State) : Option Sweep :=
  s.chn.sweeps.find? (fun x : Sweep => !x.sent && decide (x.sample ≤ s.ft + s.leadOf x.filter))

/-- Payload of a SWEEP frame (R271). -/
def Sweep.payload (x : Sweep) (now : Nat) : List Byte := paySweep x.id x.kind x.filter now (x.sample / 500 % 2 ^ 32)

/-- Length of a test in ns (R293, R297). -/
def testTime (kind : Nat) : Nat := if kind = 3 then 34 * ms else 400 * ms

/-- FT at which the results of a sweep are ready: 50 µs after its window ends, which follows an open-wire test at once (R279,
R293). -/
def Sweep.readyAt (x : Sweep) : Nat :=
  if x.kind = 3 then x.sample + testTime 3 + filterWindow x.filter + 50000 else x.sample + filterWindow x.filter / 2 + 50000

/-- Is the result of a sweep a test result alone (Table 10-4)? -/
def Sweep.testOnly (x : Sweep) : Bool := decide (x.kind = 4)

/-- SWEEP (R280): the frame leaves, from CHA in RING, from both ends while broken. A sweep of kind 3 or 4 tests every unit
within reach. -/
def execSweep (s : State) : Out :=
  match s.dueSweep with
  | none => .next s
  | some x =>
    let s := s.loseOldest
    let id := (s.chn.nextId + 1) % 65536
    let y := { x with id := id, sent := true }
    let s := s.modChain (fun c => { c with nextId := id, sweeps := c.sweeps.map (fun z => if z = x then y else z) })
    let s := s.when (decide (3 ≤ x.kind)) (fun s => s.each (s.configured.filter (fun u => !s.isStale u)) (fun u =>
      State.modUnit u (fun z => { z with testOn := some (id, x.sample + testTime x.kind) })))
    .next (s.chainBroadcast 0x02 (y.payload s.chainTime))

/-- SWEEP_RESEND (R280): in RING, from CHB, with the same id and sample chain time. -/
def execSweepResend (s : State) : Out :=
  match s.sentSweeps.getLast? with
  | some x => .next (s.when (s.chainIs 2) (State.chainSend false 0x02 0 0 (x.payload s.chainTime)))
  | none => .next s

/-- The end a unit is read from, true for CHA, none out of reach of both: in RING positions 1 to ⌈N/2⌉ from CHA and the rest
from CHB (R280), beyond a break from the other end (R286, R287). -/
def State.readEnd (s : State) (u : Fin 32) : Option Bool :=
  let x := s.cunit u
  if x.missA && x.missB then none
  else if x.missA then some false
  else if x.missB then some true
  else some (decide (u.val < if s.chainIs 3 then s.getN K.chainBreakAfter else (s.unitCount + 1) / 2))

/-- Is a unit the nearest of those that an end has still to read in a sweep (R280)? -/
def State.nearest (s : State) (fromA : Bool) (u : Fin 32) (x : Sweep) : Bool :=
  s.configured.all (fun v => !decide (s.readEnd v = some fromA) || (x.marks[v]).isSome ||
    (if fromA then decide (u.val ≤ v.val) else decide (v.val ≤ u.val)))

/-- CHAIN_READ (R280, R293): the result of a test that is over; else the oldest sweep of which the unit has no mark, once its
results are ready, nearer units first. -/
def execChainRead (fromA : Bool) (u : Fin 32) (s : State) : Out :=
  if s.readEnd u ≠ some fromA then .next s
  else
    match (s.cunit u).testOn.filter (fun t => decide (t.2 ≤ s.ft)) with
    | some t => .next (s.chainCommand fromA u 0x03 2 (leBytes 2 t.1))
    | none =>
      match s.sentSweeps.find? (fun x : Sweep => (x.marks[u]).isNone && !x.testOnly) with
      | some x =>
        if x.readyAt ≤ s.ft ∧ s.nearest fromA u x then .next (s.chainCommand fromA u 0x03 0 (leBytes 2 x.id)) else .next s
      | none => .next s

/-! ### Limits (R285, R294) -/

/-- Is inner wire w of a unit open? -/
def State.wireOpen (s : State) (u : Fin 32) (w : Nat) : Bool := (s.getN (K.unitOpenWireMap u)).testBit w

/-- The cells of a result as reported: pairs around an open inner wire as halves of their sum, an end cell by wire 0 or 16
as the block less the other 15 (R294). In 100 µV. -/
def State.reportCells (s : State) (u : Fin 32) (cells : Vector Nat 16) (block : Nat) : Vector Nat 16 :=
  let total := cells.toList.sum
  let half := fun w : Nat => rheNat ((cells.toList.getD (w - 1) 0) + (cells.toList.getD w 0)) 2
  Vector.ofFn (fun k : Fin 16 =>
    if k.val = 0 ∧ s.wireOpen u 0 then block * 10 - (total - cells[k])
    else if k.val = 15 ∧ s.wireOpen u 16 then block * 10 - (total - cells[k])
    else if 1 ≤ k.val ∧ s.wireOpen u k.val then half k.val
    else if k.val + 1 ≤ 15 ∧ s.wireOpen u (k.val + 1) then half (k.val + 1)
    else cells[k])

/-- Is a cell one of a pair around an open inner wire: its levels move 50 mV inwards (R294)? -/
def State.halved (s : State) (u : Fin 32) (k : Nat) : Bool :=
  (decide (1 ≤ k) && s.wireOpen u k) || (decide (k + 1 ≤ 15) && s.wireOpen u (k + 1))

/-- A cell level in 100 µV. -/
def State.level (s : State) (key : Nat) (inward : Int) : Int := s.get key * 10 + inward * 500

/-- Bits of the cells for which a test holds. -/
def cellBits (p : Fin 16 → Bool) : BitVec 16 :=
  (List.finRange 16).foldl (fun m k => if p k then m ||| (1#16 <<< k.val) else m) 0

/-- Start a trip, once (R285). -/
def State.startTrip (u : Fin 32) (low high temp : Bool) (s : State) : State :=
  let c := s.chn
  let cell := (low && !c.lowTrip) || (high && !c.highTrip)
  let s := s.modChain (fun c => { c with
    lowTrip := c.lowTrip || low, highTrip := c.highTrip || high, tempTrip := c.tempTrip || temp
    lowOk := if low then none else c.lowOk, highOk := if high then none else c.highOk, tempOk := if temp then none else c.tempOk })
  let s := s.when cell (State.raise Cause.cellLimitTrip (args (u.val + 1) [(bitsOf [low, high], 1)]))
  let s := s.when (temp && !c.tempTrip) (State.raiseOn Cause.cellTempTrip (u.val + 1))
  s.showLimits

/-- Since when every value concerned has lain within its warning level. -/
def okSince (now : Nat) (bad : Bool) (old : Option Nat) : Option Nat := if bad then none else some (old.getD now)

/-- What a result or an ALERT says of a unit's limits: cells beyond their trip levels, warnings, which trips it starts
(R284, R285). -/
structure LimitView where
  low : BitVec 16
  high : BitVec 16
  warnLow : Bool
  warnHigh : Bool
  tempWarn : Bool
  tempTrip : Bool
  tripLow : Bool
  tripHigh : Bool
  deriving DecidableEq, Repr

/-- A unit's values against the levels (R285, R294). -/
def State.limitView (u : Fin 32) (s : State) : LimitView :=
  let x := s.cunit u
  let inward := fun k : Fin 16 => if s.halved u k.val then (1 : Int) else 0
  let v := fun k : Fin 16 => ((x.cells[k] : Nat) : Int)
  let low := cellBits (fun k => decide (v k < s.level K.limitCellTripLow (inward k)))
  let high := cellBits (fun k => decide (s.level K.limitCellTripHigh (-inward k) < v k))
  let hot := fun key : Nat => x.temps.toList.any (fun t => decide (s.get key ≤ t))
  { low := low, high := high
    warnLow := decide (cellBits (fun k => decide (v k ≤ s.level K.limitCellWarningLow (inward k))) ≠ 0)
    warnHigh := decide (cellBits (fun k => decide (s.level K.limitCellWarningHigh (-inward k) ≤ v k)) ≠ 0)
    tempWarn := hot K.limitTemperatureWarning, tempTrip := hot K.limitTemperatureTrip
    tripLow := decide (low &&& x.wasLow ≠ 0), tripHigh := decide (high &&& x.wasHigh ≠ 0) }

/-- The view of an ALERT: beyond a trip level is beyond the warning level, and every trip starts at once (R284, R285). -/
def ChainAlert.view (r : ChainAlert) : LimitView :=
  let temp := decide (r.temp ≠ 0)
  { low := r.low, high := r.high, warnLow := decide (r.low ≠ 0), warnHigh := decide (r.high ≠ 0), tempWarn := temp
    tempTrip := temp, tripLow := decide (r.low ≠ 0), tripHigh := decide (r.high ≠ 0) }

/-- The limit rules on a unit (R285): warning bits and causes, trips, and since when every value lies within its level. -/
def State.judgeUnit (u : Fin 32) (w : LimitView) (s : State) : State :=
  let old := s.getN (K.unitStatus u)
  let s := s.modUnit u (fun y => { y with
    wasLow := w.low, wasHigh := w.high, lowBad := w.warnLow, highBad := w.warnHigh, tempBad := w.tempWarn })
  let s := s.when ((w.warnLow || w.warnHigh) && !old.testBit 3) (State.raiseOn Cause.cellWarning (u.val + 1))
  let s := s.when (w.tempWarn && !old.testBit 4) (State.raiseOn Cause.cellTempWarning (u.val + 1))
  let s := (((s.unitBit u 3 (w.warnLow || w.warnHigh)).unitBit u 4 w.tempWarn).unitBit u 5
    (decide (w.low ≠ 0) || decide (w.high ≠ 0))).unitBit u 6 w.tempTrip
  let s := s.when (w.tripLow || w.tripHigh || w.tempTrip) (State.startTrip u w.tripLow w.tripHigh w.tempTrip)
  let any := fun f : UnitSt → Bool => s.configured.any (fun v => !s.isStale v && f (s.cunit v))
  s.modChain (fun c => { c with
    lowOk := okSince s.now (any (·.lowBad)) c.lowOk
    highOk := okSince s.now (any (·.highBad)) c.highOk
    tempOk := okSince s.now (any (·.tempBad)) c.tempOk })

/-- The limit rules on a valid result of a unit. -/
def State.applyLimits (u : Fin 32) (s : State) : State := s.judgeUnit u (s.limitView u)

/-- CELL_LIMIT_RELEASED (R285): 10 s within the warning levels. Kinds: 0 low, 1 high, 2 temperature. -/
def execCellLimitReleased (kind : Fin 3) (s : State) : Out :=
  let c := s.chn
  let on := match kind.val with | 0 => c.lowTrip | 1 => c.highTrip | _ => c.tempTrip
  let ok := match kind.val with | 0 => c.lowOk | 1 => c.highOk | _ => c.tempOk
  let due := match ok with | some t => decide (t + 10 * sec ≤ s.now) | none => false
  if on && due then
    let s := s.modChain (fun c => match kind.val with
      | 0 => { c with lowTrip := false }
      | 1 => { c with highTrip := false }
      | _ => { c with tempTrip := false })
    .next ((s.showLimits.raise Cause.cellLimitReleased (args0 [(kind, 1)])).when (s.socModeIs 2) State.enterRecovery)
  else .next s

/-! ### Sense wires (R291 to R294) -/

/-- Insertion sort of naturals. -/
def insertNat (a : Nat) : List Nat → List Nat
  | [] => [a]
  | b :: rest => if a ≤ b then a :: b :: rest else b :: insertNat a rest

def sortNats (l : List Nat) : List Nat := l.foldr insertNat []

/-- Median of the 16 cells in 50 µV units: the two middle values added. -/
def median2 (l : List Nat) : Nat :=
  let t := sortNats l
  t.getD 7 0 + t.getD 8 0

/-- Order a test on a unit. -/
def State.orderTest (u : Fin 32) (kind : Nat) (s : State) : State := s.modUnit u (fun x => { x with testing := some kind })

/-- Deviation of a cell from the median, doubled, in 100 µV (R292). -/
def devOf (cells : Vector Nat 16) (k : Nat) : Int := 2 * (cells.toList.getD k 0 : Nat) - (median2 cells.toList : Nat)

/-- Does wire w (1 to 15) show the open-wire signature (R292)? -/
def State.signature (s : State) (cells : Vector Nat 16) (w : Nat) : Bool :=
  let a := devOf cells (w - 1)
  let b := devOf cells w
  let delta := 20 * s.get K.limitOpenWireDelta
  (decide (a < 0 ∧ 0 < b) || decide (0 < a ∧ b < 0)) && decide (delta ≤ a.natAbs) && decide (delta ≤ b.natAbs) &&
  decide (((a + b).natAbs : Int) ≤ 20 * s.get K.limitPairTolerance)

/-- The sum mismatch of a result in mV (R291). -/
def sumMismatch (cells : Vector Nat 16) (block : Nat) : Int := rheDiv (cells.toList.sum : Nat) 10 - block

/-- The sense-wire rules on a valid result (R291, R292). -/
def State.applyWires (u : Fin 32) (s : State) : State :=
  let x := s.cunit u
  let m := sumMismatch x.cells x.block
  let bad := decide (s.get K.limitSumTolerance < (m.natAbs : Int))
  let old := s.getN (K.unitStatus u)
  let s := s.put (K.unitSumMismatch u) (clampInt (-32768) 32767 m)
  let s := s.when (bad && !old.testBit 7) (State.raise Cause.sumMismatch (args (u.val + 1) [(toUnsigned 32 m, 4)]))
  let s := (s.unitBit u 7 bad).when bad (State.orderTest u 3)
  let sign := fun w : Nat => !bad && s.signature x.cells w
  let s := s.modUnit u (fun y => { y with
    signs := Vector.ofFn (fun w : Fin 17 => if 1 ≤ w.val ∧ w.val ≤ 15 ∧ sign w.val then y.signs[w] + 1 else 0) })
  let count := s.getN K.limitSuspectCount
  let s := s.each (List.finRange 17) (fun w s =>
    let y := s.cunit u
    if count ≤ y.signs[w] ∧ !y.suspect.getLsbD w.val ∧ !s.wireOpen u w.val then
      (((s.modUnit u (fun y => { y with suspect := y.suspect ||| (1#17 <<< w.val) })).orderTest u 3).raise
        Cause.senseWireSuspect (args (u.val + 1) [(w, 1)]))
    else s)
  let s := s.unitBit u 8 (decide ((s.cunit u).suspect ≠ 0))
  let lone := fun k : Nat => !bad && decide (20 * s.get K.limitOpenWireDelta ≤ ((devOf x.cells k).natAbs : Int)) &&
    !(decide (1 ≤ k) && s.signature x.cells k) && !(decide (k + 1 ≤ 15) && s.signature x.cells (k + 1))
  s.each ((List.range 16).filter lone) (fun k s => s.raise Cause.cellDeviation (args (16 * u.val + k) []))

/-- What a RESULT brings (R280): the result is kept and marked; its sweep's completion evaluates it. A result of a sweep the unit did not hold marks it missed (R282). -/
def State.takeResult (fromA : Bool) (u : Fin 32) (r : ChainResult) (s : State) : State :=
  match s.sentSweeps.find? (fun x : Sweep => decide (x.id = r.sweep.toNat)) with
  | none =>
    match s.sentSweeps with
    | x :: _ => (s.modSweep x.id (fun x => { x with marks := x.marks.set u (some 3) })).unitBit u 0 true
    | [] => s
  | some x =>
    let ok := r.flags.getLsbD 0
    let s := s.modSweep x.id (fun x => { x with marks := x.marks.set u (some (if !ok then 3 else if fromA then 0 else 1)) })
    let s := ((s.unitBit u 0 (!ok)).unitBit u 1 false).put (K.unitPath u) (if fromA then 0 else 1)
    if !ok then s
    else
      let cells := s.reportCells u (r.cells.map BitVec.toNat) r.block.toNat
      let s := s.modUnit u (fun y => { y with
        valid := true, cells := cells, block := r.block.toNat, temps := r.temps.map BitVec.toInt })
      let s := ((s.put (K.unitBlockVoltage u) r.block.toNat).put (K.unitResultFT u) x.sample).put (K.unitBalancing u)
        r.balancing.toNat
      (s.unitBit u 2 (r.balancing.getLsbD 15)).showTransfers

/-- RESULT (R270, R271). -/
def execResult (fromA : Bool) (u : Fin 32) (frame : List Byte) (s : State) : Out :=
  .next (s.chainResponse u 0x83 56 frame (fun b => State.takeResult fromA u (.ofBytes b)))

/-- A wire found open or intact by a test (R293, R294). -/
def State.wireVerdict (u : Fin 32) (wires : BitVec 32) (w : Fin 17) (s : State) : State :=
  let open_ := wires.getLsbD w.val
  let was := s.wireOpen u w.val
  let suspect := (s.cunit u).suspect.getLsbD w.val
  let map := s.getN (K.unitOpenWireMap u)
  let s := s.modUnit u (fun y => { y with suspect := y.suspect &&& ~~~(1#17 <<< w.val), signs := y.signs.set w 0 })
  if open_ ∧ !was then
    (s.put (K.unitOpenWireMap u) ((map ||| 2 ^ w.val : Nat) : Int)).raise Cause.senseWireOpen (args (u.val + 1) [(w, 1)])
  else if !open_ ∧ (was ∨ suspect) then
    let s := (s.put (K.unitOpenWireMap u) ((if was then map - 2 ^ w.val else map : Nat) : Int)).raise Cause.senseWireCleared
      (args (u.val + 1) [(w, 1)])
    s.when (suspect && !was) (fun s =>
      (s.raise Cause.cellDeviation (args (16 * u.val + w.val - 1) [])).raise Cause.cellDeviation (args (16 * u.val + w.val) []))
  else s

/-- What a TEST_RESULT brings (R293, R294, R297): kind 3 wires, kind 4 switches. It is the result of a switch test sweep. -/
def State.takeTest (fromA : Bool) (u : Fin 32) (r : ChainTestResult) (s : State) : State :=
  let s := s.modUnit u (fun x => { x with testOn := none })
  let s := s.modSweep r.sweep.toNat (fun x =>
    if x.testOnly && (x.marks[u]).isNone then { x with marks := x.marks.set u (some (if fromA then 0 else 1)) } else x)
  if r.kind.toNat = 3 then
    let s := s.each (List.finRange 17) (State.wireVerdict u r.wires)
    (s.unitBit u 8 (decide ((s.cunit u).suspect ≠ 0))).unitBit u 9 (decide (s.getN (K.unitOpenWireMap u) ≠ 0))
  else
    let old := BitVec.ofNat 32 (s.getN (K.unitSwitchFaultMap u))
    let s := s.put (K.unitSwitchFaultMap u) r.switches.toNat
    let s := s.unitBit u 10 (decide (r.switches ≠ 0))
    s.when (decide (r.switches &&& ~~~old ≠ 0)) (State.raise Cause.balanceSwitchFault
      (args (u.val + 1) [(r.switches.toNat, 4)]))

/-- TEST_RESULT (R271). -/
def execTestResult (fromA : Bool) (u : Fin 32) (frame : List Byte) (s : State) : Out :=
  .next (s.chainResponse u 0x87 16 frame (fun b => State.takeTest fromA u (.ofBytes b)))

/-- A unit is unreachable from an end, and so is every unit beyond it (R286). -/
def State.cutOff (fromA : Bool) (u : Fin 32) (s : State) : State :=
  s.each (s.configured.filter (fun v => if fromA then decide (u.val ≤ v.val) else decide (v.val ≤ u.val)))
    (fun v => State.modUnit v (fun x => if fromA then { x with missA := true } else { x with missB := true }))

/-- A unit out of reach of both ends: during bring-up absent (R275), else stale, in every sweep not read (R286). -/
def State.outOfReach (u : Fin 32) (s : State) : State :=
  if s.chainIs 1 then
    s.when (decide (s.unitStateOf u ≠ 1)) (fun s => (s.put (K.unitState u) 1).raiseOn Cause.chainUnitMissing (u.val + 1))
  else
    (s.makeStale u).modChain (fun x => { x with
      sweeps := x.sweeps.map (fun w => if w.sent ∧ (w.marks[u]).isNone then { w with marks := w.marks.set u (some 2) } else w) })

/-- Has every configured position been tried in some sweep sent? -/
def State.allTried (s : State) : Bool :=
  s.sentSweeps.any (fun x : Sweep => s.configured.all (fun u => (x.marks[u]).isSome))

/-- CHAIN_RESPONSE_TIMEOUT (R273, R286): the deadline has passed (R99). The command is retried once with the same sequence; a
second miss makes the unit unreachable from that end. -/
def execChainResponseTimeout (fromA : Bool) (u : Fin 32) (s : State) : Out :=
  match s.chn.cmds.find? (fun c : ChainCmd => decide (c.unit_ = u.val) && decide (c.fromA = fromA) && decide (c.due < s.now)) with
  | none => .next s
  | some c =>
    if !c.retried then
      let d := { c with retried := true, due := responseDue s.now c.payload.length (s.hopOf u fromA) }
      let f : ChainFrame := { type := c.type, hop := s.hopOf u fromA, flags := c.flags, seq := c.seq, payload := c.payload }
      let s := s.modChain (fun x => { x with cmds := x.cmds.map (fun e => if e = c then d else e) })
      .next ((s.inc K.chainTransactionsRetried).chainDrive fromA f.line)
    else
      let s := (s.modChain (fun x => { x with cmds := x.cmds.filter (fun d => decide (d ≠ c)) })).cutOff fromA u
      let out := s.configured.filter (fun v => (s.cunit v).missA && (s.cunit v).missB)
      let s := (s.each out State.outOfReach).showStale
      .next (s.when (s.allTried && s.broken) State.judgeBreaks)

/-! ### Breaks (R286 to R290) -/

/-- LOOP_SEND (R274, R287): 2 ms after the wake pattern, and every 1 s while the ring is broken. -/
def execLoopSend (s : State) : Out :=
  .next (s.when ((s.chainIs 1 || s.chainIs 3 || s.chainIs 4) && decide (s.chn.loopAt ≤ s.now)) (fun s =>
    (s.modChain (fun c => { c with loopOk := false, loopAt := s.now + sec })).chainSend true 0x0A 255 0 (payTime s.chainTime)))

/-- LOOP (R274): it has reached the far end, its start delimiter a delay after its departure; in time by the deadline of
Table 10-3. -/
def execLoop (frame : List Byte) (delay : Nat) (s : State) : Out :=
  .next (s.chainHear 0x0A 4 frame (fun _ s =>
    let ok := decide (delay ≤ 20000 + 2000 * s.unitCount)
    (s.modChain (fun c => { c with loopOk := ok })).when ok (State.put K.chainLoopDelay delay)))

/-- Is a position one to bring back when the ring closes: stale, asleep or beyond a break (R290)? -/
def State.toRestore (s : State) (u : Fin 32) : Bool :=
  decide (4 ≤ s.unitStateOf u) || (s.cunit u).missA || (s.cunit u).missB

/-- CHAIN_RESTORED (R290): the units are woken, checked by ENUM and configured; a stale one serves again unless its IDENT says
otherwise. -/
def execChainRestored (s : State) : Out :=
  if (s.chainIs 3 || s.chainIs 4) && s.chn.loopOk then
    let recover := s.chainIs 4 && s.socModeIs 2
    let back := s.configured.filter s.toRestore
    let s := s.chainWakeUp.each back (fun u s =>
      let s := (s.chainCommand true u 0x04 0 []).chainCommand true u 0x05 0 (s.configPayload u)
      (s.when (decide (s.unitStateOf u = 5) || decide (s.unitStateOf u = 4)) (State.put (K.unitState u) 3)).modUnit u
        (fun x => { x with missA := false, missB := false, staleSince := if s.unitStateOf u = 6 then x.staleSince else none }))
    let s := ((s.put K.chainChainState 2).put K.chainBreakAfter 0).chainBroadcast 0x01 (payTime s.chainTime)
    .next ((s.showStale.raise0 Cause.chainRestored).when recover State.enterRecovery)
  else .next s

/-- CHAIN_STALE_TIMEOUT (R289). -/
def execChainStaleTimeout (s : State) : Out :=
  let limit := s.getN K.chainStaleTimeout * sec
  let due := s.configured.any (fun u => s.isStale u && (match (s.cunit u).staleSince with
    | some t => decide (t + limit ≤ s.now)
    | none => false))
  if due && !s.chn.staleSaid then
    let s := s.modChain (fun c => { c with staleSaid := true, staleBlock := decide (s.get K.chainStaleAction = 1) })
    .next (s.showLimits.raise Cause.chainStaleTimeout (args0 [(s.getN K.chainStaleMap, 4)]))
  else .next s

/-- A unit falls asleep, its transfer with it (R283). -/
def State.unitSleeps (u : Fin 32) (s : State) : State :=
  (s.when (decide (s.unitStateOf u = 3)) (State.put (K.unitState u) 4)).put (K.unitBalancing u) 0

/-- SLEEP to every unit, from the master (R283). -/
def State.sleepAll (s : State) : State :=
  ((((s.chainBroadcast 0x09 []).each s.configured State.unitSleeps).put K.chainChainState 5).showTransfers)

/-- SLEEP (R283): by broadcast, or to one unit from the end that reads it. -/
def execSleep (unit_ : Option (Fin 32)) (s : State) : Out :=
  match unit_ with
  | some u =>
    let a := (s.readEnd u).getD true
    .next ((s.chainSend a 0x09 (s.hopOf u a) 0 []).unitSleeps u).showTransfers
  | none => .next s.sleepAll

/-- What an ALERT says (R284): counted against the unit that sent it; its bitmaps act as results for the limits. -/
def State.takeAlert (r : ChainAlert) (s : State) : State :=
  match s.configured.find? (fun u : Fin 32 => decide (s.getN (K.unitSerial u) = r.serial.toNat)) with
  | none => s
  | some u =>
    (((s.inc (K.unitAlerts u)).unitBit u 1 true).raise Cause.csuAlert
      (args (u.val + 1) [(r.low.toNat, 2), (r.high.toNat, 2), (r.temp.toNat, 1)])).judgeUnit u r.view

/-- ALERT (R271). -/
def execAlert (frame : List Byte) (s : State) : Out :=
  .next (s.chainHear 0x0B 16 frame (fun f => State.takeAlert (.ofBytes f.payload)))

/-! ### Tests and balancing (R293, R295 to R297) -/

/-- CHAIN_TEST (R293): kind 3 or 4, on one unit, under the next sweep id; the test ordered on it has begun (DESIGN CHOICE,
notes/assumptions/115). -/
def execChainTest (fromA : Bool) (u : Fin 32) (switches : Bool) (s : State) : Out :=
  let kind := if switches then 4 else 3
  let id := (s.chn.nextId + 1) % 65536
  let s := (s.modChain (fun c => { c with nextId := id })).chainCommand fromA u 0x07 0 (payTest kind id)
  .next ((s.modUnit u (fun x => { x with testing := none, testOn := some (id, s.ft + testTime kind) })).put (K.unitBalancing u) 0).showTransfers

/-- OPEN_WIRE_INTERVAL (R293): a sweep of kind 3 every open-wire test interval; 0 is off. -/
def execOpenWireInterval (s : State) : Out :=
  let n := s.getN K.chainOpenWireTestInterval
  if n ≠ 0 ∧ s.chn.openWireAt + n * 60 * sec ≤ s.now then
    .next ((s.modChain (fun c => { c with openWireAt := s.now })).askSweep 3 s.ft)
  else .next s

/-- SWITCH_TEST_INTERVAL (R297): within 60 s of step 9, then every switch test interval; 0 is off. -/
def execSwitchTestInterval (s : State) : Out :=
  let n := s.getN K.balSwitchTestInterval
  let first := decide (s.chn.switchAt = 0)
  if n ≠ 0 ∧ (first ∨ s.chn.switchAt + n * 3600 * sec ≤ s.now) then
    .next ((s.modChain (fun c => { c with switchAt := max s.now 1 })).askSweep 4 s.ft)
  else .next s

/-- Are a cell's transfers in a direction inhibited (R296)? -/
def State.inhibited (s : State) (u : Fin 32) (k : Fin 16) (toBlock : Bool) : Bool :=
  let x := s.cunit u
  let wires := BitVec.ofNat 17 (s.getN (K.unitOpenWireMap u)) ||| x.suspect
  let bit := if toBlock then 16 + k.val else k.val
  let st := s.getN (K.unitStatus u)
  wires.getLsbD k.val || wires.getLsbD (k.val + 1) || (s.getN (K.unitSwitchFaultMap u)).testBit bit ||
  st.testBit 3 || st.testBit 4 || st.testBit 5 || st.testBit 6 || x.testOn.isSome

/-- BALANCE (R271, R296): start a transfer of a running unit, or stop it. A duration beyond its U16 is cut to it (DESIGN CHOICE,
notes/assumptions/115). -/
def State.balance (fromA : Bool) (u : Fin 32) (cell : Option (Fin 16 × Bool)) (ms_ : Nat) (s : State) : State :=
  match cell with
  | none =>
    ((s.chainCommand fromA u 0x06 0 (payBalance 255 0 0)).put (K.unitBalancing u) 0).showTransfers
  | some (k, toBlock) =>
    if !s.getB K.balBalancingEnable || s.inhibited u k toBlock || decide (s.unitStateOf u ≠ 3) then s
    else
      let word : Nat := k.val + (if toBlock then 0 else 16) + 32768
      ((s.chainCommand fromA u 0x06 0 (payBalance k.val (if toBlock then 0 else 1) (min ms_ 65535))).put (K.unitBalancing u) word).showTransfers

/-- BALANCE. -/
def execBalance (fromA : Bool) (u : Fin 32) (cell : Option (Fin 16 × Bool)) (duration : Nat) (s : State) : Out :=
  .next (s.balance fromA u cell duration)

end Sys2Proof.Machine
end

