-- ==== Sys2Proof/Machine/SafArith.lean ====
section
/-! DEFINITION. Saffron arithmetic and operators (spec/08, R215 to R221): one function per operator over the memories of
the engine. Vectors are lists of Q15 integers. -/

namespace Sys2Proof.Machine

/-! ### Number formats -/

/-- Value of a weight block: mantissas in order (Tables 8-3, 8-4). -/
def bx8 (bytes : List Byte) : List Int := bytes.map BitVec.toInt
def bx4 (bytes : List Byte) : List Int :=
  bytes.flatMap (fun b => [(b.setWidth 4).toInt, ((b >>> 4).setWidth 4).toInt])

/-- S of a block: the exact sum of mantissas times activations (R216). -/
def dotBlock : List Int → List Int → Int
  | m :: ms, a :: as => m * a + dotBlock ms as
  | _, _ => 0

/-- An accumulation step in ACC40: the saturated sum, and whether it saturated (R216, R219). -/
def accAdd (acc : Int × Nat) (x : Int) : Int × Nat :=
  let t := acc.1 + x
  (sat40 t, if sat40 t = t then acc.2 else acc.2 + 1)

/-- Requantisation: y = sat15(rhe(A 2^(sh − 16))) (R217); the Bool says it saturated. -/
def requant (a : Int) (sh : Int) : Int × Bool :=
  let t := shiftRhe a (sh - 16)
  (sat15 t, decide (sat15 t ≠ t))

/-- An activation table applied (R218). -/
def tableAt (t : List Int) (x : Int) : Int :=
  let u := (x + 32768).toNat
  let i := u / 256
  let lo := t.getD i 0
  lo + rheDiv ((t.getD (i + 1) 0 - lo) * (u % 256 : Nat)) 256

/-- Least whole number of parts. -/
def ceilDiv (a b : Nat) : Nat := (a + b - 1) / b

/-! ### Memories (R213, R254) -/

/-- Regions of a tile, numbered as in the tile-contents records; 4 is the stream buffers. -/
abbrev regFastMant : Nat := 1
abbrev regFastExp : Nat := 2
abbrev regFastParam : Nat := 3
abbrev regStream : Nat := 4
abbrev regSlowParam : Nat := 5

/-- Address of a byte of tile SRAM. -/
def sramKey (tile region offset : Nat) : Nat := (tile * 8 + region) * 2097152 + offset

def SafMem.byte (m : SafMem) (tile region offset : Nat) : Nat := (m.sram.get zeroDflt (sramKey tile region offset)).toNat
def SafMem.putByte (tile region offset : Nat) (v : Nat) (m : SafMem) : SafMem :=
  { m with sram := m.sram.put zeroDflt (sramKey tile region offset) (v % 256 : Nat) }

/-- n bytes of a region, least-significant first, as a number; and written. -/
def SafMem.word (m : SafMem) (tile region offset : Nat) : Nat → Nat
  | 0 => 0
  | n + 1 => m.byte tile region offset + 256 * m.word tile region (offset + 1) n
def SafMem.putWord (tile region offset : Nat) : Nat → Nat → SafMem → SafMem
  | 0, _, m => m
  | n + 1, v, m => SafMem.putWord tile region (offset + 1) n (v / 256) (m.putByte tile region offset v)

/-- Signed words of 2 and 4 bytes. -/
def SafMem.q15 (m : SafMem) (tile region offset : Nat) : Int := toSigned 16 (m.word tile region offset 2)
def SafMem.q31 (m : SafMem) (tile region offset : Nat) : Int := toSigned 32 (m.word tile region offset 4)
def SafMem.putQ15 (tile region offset : Nat) (v : Int) (m : SafMem) : SafMem := m.putWord tile region offset 2 (toUnsigned 16 v)
def SafMem.putQ31 (tile region offset : Nat) (v : Int) (m : SafMem) : SafMem := m.putWord tile region offset 4 (toUnsigned 32 v)

/-- What a stage runs in: its image, its tier, the feature vector, where its exchange scratch begins. -/
structure StageEnv where
  img : SafImage
  fast : Bool
  feat : List Int
  exchBase : Nat

/-- The tier's parameters region (DESIGN CHOICE, notes/assumptions/54). -/
def StageEnv.param (e : StageEnv) : Nat := if e.fast then regFastParam else regSlowParam

/-- Space and offset of a buffer reference (Table 9-7). -/
def refSpace (r : BitVec 32) : Nat := r.toNat / 2 ^ 28
def refOffset (r : BitVec 32) : Nat := r.toNat % 2 ^ 28

/-- An element of a buffer: element e of the vector, which in tile scratch is element l of a tile's own (R254)
(DESIGN CHOICE, notes/assumptions/54). -/
def readEl (env : StageEnv) (m : SafMem) (r : BitVec 32) (tile e l : Nat) : Int :=
  let o := refOffset r
  match refSpace r with
  | 0 => env.feat.getD (o + e) 0
  | 1 => env.feat.getD (o + e) 0
  | 2 => m.exch.get zeroDflt (env.exchBase + o + e)
  | 3 => m.q15 tile env.param (2 * (o + l))
  | 4 => m.ctx.get zeroDflt (o + e)
  | _ => m.outVec.get zeroDflt (o + e)

/-- Write an element of a buffer (DESIGN CHOICE, notes/assumptions/54). -/
def writeEl (env : StageEnv) (r : BitVec 32) (tile e l : Nat) (v : Int) (m : SafMem) : SafMem :=
  let o := refOffset r
  match refSpace r with
  | 2 => { m with exch := m.exch.put zeroDflt (env.exchBase + o + e) v }
  | 3 => m.putQ15 tile env.param (2 * (o + l)) v
  | 4 => { m with ctxNext := m.ctxNext.put zeroDflt (o + e) v }
  | 5 => { m with outVec := m.outVec.put zeroDflt (o + e) v }
  | _ => m

/-- Kinds of saturation counted per tile (R219). -/
inductive SatKind where
  | acc | store | scan
  deriving DecidableEq, Repr

/-- Memories with the saturations met: logical tile, kind, count. -/
structure StageOut where
  mem : SafMem
  sats : List (Nat × SatKind × Nat)

/-- Note saturations, if any. -/
def StageOut.sat (tile : Nat) (k : SatKind) (n : Nat) (o : StageOut) : StageOut :=
  if n = 0 then o else { o with sats := o.sats ++ [(tile, k, n)] }

/-- A result stands in a row accumulator of its tile, the rows of a tile in turn, with the saturations met on the way
(R212, R216, R219) (DESIGN CHOICE, notes/assumptions/54). -/
def StageOut.accum (tile l : Nat) (a : Int × Nat) (o : StageOut) : StageOut :=
  ({ o with mem := { o.mem with acc := o.mem.acc.put zeroDflt (64 * tile + l % 64) a.1 } }).sat tile .acc a.2

/-- Store an element with its store saturation. -/
def StageOut.store (env : StageEnv) (r : BitVec 32) (tile e l : Nat) (v : Int × Bool) (o : StageOut) : StageOut :=
  ({ o with mem := writeEl env r tile e l v.1 o.mem }).sat tile .store (if v.2 then 1 else 0)

/-- Shift sh of a stage. -/
def SafStage.sh (st : SafStage) : Int := st.shift.toInt

/-- Elements per tile of a vector of n spread over the stage's tiles; tile and place of an element (R220, R221). -/
def SafStage.per (st : SafStage) (n : Nat) : Nat := ceilDiv n st.count
def SafStage.tileOf (st : SafStage) (n e : Nat) : Nat := st.first + e / st.per n
def SafStage.localOf (st : SafStage) (n e : Nat) : Nat := e % st.per n

/-! ### MV (R215 to R217) -/

/-- The block b of row l (counted on its tile) of an MV: mantissas and exponent. Streamed weights stand in the stream
buffers, mantissa blocks first (R253) (DESIGN CHOICE, notes/assumptions/54). -/
def mvBlock (m : SafMem) (st : SafStage) (tile l b nb rows : Nat) : List Int × Nat :=
  let four := st.flags.getLsbD 0
  let size := if four then 16 else 32
  let streamed := st.flags.getLsbD 2
  let half := if streamed then (st.off2 % 2) * 196608 else 0
  let mreg := if streamed then regStream else regFastMant
  let moff := (if streamed then half else st.off1) + (l * nb + b) * size
  let ereg := if streamed then regStream else regFastExp
  let eoff := (if streamed then half + rows * nb * size else st.off2) + l * nb + b
  let bytes := (List.range size).map (fun i => BitVec.ofNat 8 (m.byte tile mreg (moff + i)))
  (if four then bx4 bytes else bx8 bytes, m.byte tile ereg eoff % 32)

/-- Activations of a block, padded with zeros beyond n (R215). -/
def mvSlice (env : StageEnv) (m : SafMem) (st : SafStage) (tile b : Nat) : List Int :=
  (List.range 32).map (fun k => if 32 * b + k < st.d2 then readEl env m st.inA tile (32 * b + k) (32 * b + k) else 0)

/-- A row of an MV: its accumulator and saturations (R216). -/
def mvRow (env : StageEnv) (m : SafMem) (st : SafStage) (r : Nat) : Int × Nat :=
  let tile := st.tileOf st.d1 r
  let l := st.localOf st.d1 r
  let nb := ceilDiv st.d2 32
  let bias := if st.flags.getLsbD 1 then m.q31 tile env.param (st.off3 + 4 * l) else 0
  (List.range nb).foldl (fun acc b =>
    let w := mvBlock m st tile l b nb (st.per st.d1)
    accAdd acc (dotBlock w.1 (mvSlice env m st tile b) * (2 ^ (w.2 + 1) : Nat))) (bias, 0)

/-- Deliver the data of a streamed stage to the stream buffers of its tiles (R226, R253). -/
def deliverStream (env : StageEnv) (st : SafStage) (m : SafMem) : SafMem :=
  if st.flags.getLsbD 2 then
    match env.img.descs[st.off2]? with
    | none => m
    | some d =>
      (List.range d.count).foldl (fun m i =>
        ((env.img.segment.drop (d.offset + i * d.perTile)).take d.perTile |>.zip (List.range d.perTile)).foldl
          (fun m p => m.putByte (d.first + i) regStream ((st.off2 % 2) * 196608 + p.2) p.1.toNat) m) m
  else m

/-- MV: y = W x + b, requantised. -/
def opMv (env : StageEnv) (st : SafStage) (m0 : SafMem) : StageOut :=
  let m := deliverStream env st m0
  (List.range st.d1).foldl (fun o r =>
    let tile := st.tileOf st.d1 r
    let a := mvRow env m st r
    (o.accum tile (st.localOf st.d1 r) a).store env st.out tile r (st.localOf st.d1 r) (requant a.1 st.sh)) { mem := m, sats := [] }

/-! ### CONV and SCAN (R220) -/

/-- CONV: the taps of a channel lie together from offset 1, the last k − 1 inputs, newest first, from offset 2. -/
def opConv (env : StageEnv) (st : SafStage) (m0 : SafMem) : StageOut :=
  let c := st.d1
  let k := st.d2
  (List.range c).foldl (fun o ch =>
    let tile := st.tileOf c ch
    let l := st.localOf c ch
    let x := readEl env m0 st.inA tile ch l
    let past := fun i : Nat => m0.q15 tile env.param (st.off2 + 2 * (l * (k - 1) + i))
    let tap := fun i : Nat => m0.q15 tile env.param (st.off1 + 2 * (l * k + i))
    let acc := (List.range k).foldl (fun acc i => accAdd acc (mulQ15 (tap i) (if i = 0 then x else past (i - 1)))) ((0 : Int), 0)
    let o := (o.accum tile l acc).store env st.out tile ch l (requant acc.1 st.sh)
    { o with mem := (List.range (k - 1)).foldl (fun m i =>
        m.putQ15 tile env.param (st.off2 + 2 * (l * (k - 1) + i)) (if i = 0 then x else past (i - 1))) o.mem })
    { mem := m0, sats := [] }

/-- SCAN: a, b and c for each state element, then d for each channel, from offset 1; h from offset 2
(DESIGN CHOICE, notes/assumptions/54). -/
def opScan (env : StageEnv) (st : SafStage) (m0 : SafMem) : StageOut :=
  let d := st.d1
  let n := st.d2
  let p := st.per d
  (List.range d).foldl (fun o ch =>
    let tile := st.tileOf d ch
    let l := st.localOf d ch
    let x := readEl env m0 st.inA tile ch l
    let prm := fun j i : Nat => m0.q15 tile env.param (st.off1 + 2 * (j * p * n + l * n + i))
    let dcoef := m0.q15 tile env.param (st.off1 + 2 * (3 * p * n + l))
    let step := fun i : Nat =>
      let t := mulQ15Q31 (prm 0 i) (m0.q31 tile env.param (st.off2 + 4 * (l * n + i))) + mulQ15 (prm 1 i) x
      (sat31 t, decide (sat31 t ≠ t))
    let hs := (List.range n).map step
    let acc := (List.range n).foldl (fun acc i => accAdd acc (mulQ15Q31 (prm 2 i) ((hs.map (·.1)).getD i 0))) ((0 : Int), 0)
    let acc := accAdd acc (mulQ15 dcoef x)
    let o := ((o.sat tile .scan (hs.filter (·.2)).length).accum tile l acc).store env st.out tile ch l (requant acc.1 st.sh)
    { o with mem := (List.range n).foldl (fun m i =>
        m.putQ31 tile env.param (st.off2 + 4 * (l * n + i)) ((hs.map (·.1)).getD i 0)) o.mem })
    { mem := m0, sats := [] }

/-! ### Elementwise operators (R217, R218, R220) -/

/-- Apply a function to each element of a vector of n spread over the stage's tiles. -/
def opMap (env : StageEnv) (st : SafStage) (f : Int → Int → Int) (m0 : SafMem) : StageOut :=
  let n := st.d1
  (List.range n).foldl (fun o e =>
    let tile := st.tileOf n e
    let l := st.localOf n e
    let t := f (readEl env m0 st.inA tile e l) (readEl env m0 st.inB tile e l)
    o.store env st.out tile e l (sat15 t, decide (sat15 t ≠ t))) { mem := m0, sats := [] }

/-- The stage's table. -/
def StageEnv.tableOf (env : StageEnv) (st : SafStage) : List Int := env.img.tables.getD st.table []

/-- GATE: y = x ⊙ z, or x ⊙ T(z) (DESIGN CHOICE, notes/assumptions/54). -/
def opGate (env : StageEnv) (st : SafStage) (m0 : SafMem) : StageOut :=
  opMap env st (fun x z => rheDiv (x * (if st.flags.getLsbD 3 then tableAt (env.tableOf st) z else z)) 32768) m0

/-- EW: y = x + z, or T(x). -/
def opEw (env : StageEnv) (st : SafStage) (m0 : SafMem) : StageOut :=
  opMap env st (fun x z => if st.flags.getLsbD 3 then tableAt (env.tableOf st) x else x + z) m0

/-- RMSN: y = x g rsqrt(mean(x²) + ε); the reciprocal square root in Q15 is open within 2 LSB (R218)
(DEDUCED, notes/assumptions/6). -/
def opRmsn (env : StageEnv) (st : SafStage) (m0 : SafMem) : StageOut :=
  let n := st.d1
  let xs := (List.range n).map (fun e => readEl env m0 st.inA (st.tileOf n e) e (st.localOf n e))
  let sq := (xs.map (fun x => mulQ15 x x)).sum
  let eps := fun tile : Nat => m0.q31 tile env.param (st.off1 + 2 * st.per n)
  (List.range n).foldl (fun o e =>
    let tile := st.tileOf n e
    let l := st.localOf n e
    let g := m0.q15 tile env.param (st.off1 + 2 * l)
    let r := Config.saffronTable 0 (rheDiv sq n + eps tile)
    let t := rheDiv (xs.getD e 0 * g * r) 1073741824
    o.store env st.out tile e l (sat15 t, decide (sat15 t ≠ t))) { mem := m0, sats := [] }

/-- ATTN: single-query attention; N keys of d elements, then N values, from input B. The exponential and the reciprocal in
Q15 are open within 2 LSB (R218) (DEDUCED, notes/assumptions/6). -/
def opAttn (env : StageEnv) (st : SafStage) (m0 : SafMem) : StageOut :=
  let n := st.d1
  let d := st.d2
  let q := (List.range d).map (fun i => readEl env m0 st.inA st.first i i)
  let key := fun j i : Nat => readEl env m0 st.inB st.first (j * d + i) (j * d + i)
  let val := fun j i : Nat => readEl env m0 st.inB st.first (n * d + j * d + i) (n * d + j * d + i)
  let accs := (List.range n).map (fun j =>
    (List.range d).foldl (fun acc i => accAdd acc (mulQ15 (q.getD i 0) (key j i))) ((0 : Int), 0))
  let ss := accs.map (fun a => (requant a.1 st.sh).1)
  let top := ss.foldl max (-32768)
  let ps := ss.map (fun x => Config.saffronTable 1 (x - top))
  let recip := Config.saffronTable 2 ps.sum
  let o : StageOut := ((List.range n).zip accs).foldl (fun o p =>
    (o.accum (st.tileOf n p.1) (st.localOf n p.1) p.2).sat (st.tileOf n p.1) .store (if (requant p.2.1 st.sh).2 then 1 else 0))
    { mem := m0, sats := [] }
  (List.range d).foldl (fun o i =>
    let acc := (List.range n).foldl (fun acc j => accAdd acc (mulQ15 (ps.getD j 0) (val j i))) ((0 : Int), 0)
    let t := rheDiv (acc.1 * recip) 2147483648
    (o.accum st.first i acc).store env st.out st.first i i (sat15 t, decide (sat15 t ≠ t))) o

/-- EXCH: the source vector, spread over the stage's tiles, to every tile of the next stage (DEDUCED, notes/assumptions/6). -/
def opExch (env : StageEnv) (st : SafStage) (next : Option SafStage) (m0 : SafMem) : StageOut :=
  let n := st.d1
  let dest := match next with
    | some x => (List.range x.count).map (fun i => x.first + i)
    | none => (List.range st.count).map (fun i => st.first + i)
  let dest := if refSpace st.out = 3 then dest else [st.first]
  { mem := (List.range n).foldl (fun m e =>
      let v := readEl env m0 st.inA (st.tileOf n e) e (st.localOf n e)
      dest.foldl (fun m t => writeEl env st.out t e e v m) m) m0, sats := [] }

/-- Run a stage (R220). -/
def runStage (env : StageEnv) (st : SafStage) (next : Option SafStage) (m : SafMem) : StageOut :=
  match st.op with
  | 1 => opMv env st m
  | 2 => opConv env st m
  | 3 => opScan env st m
  | 4 => opGate env st m
  | 5 => opEw env st m
  | 6 => opRmsn env st m
  | 7 => opAttn env st m
  | 8 => opExch env st next m
  | _ => { mem := m, sats := [] }

/-- Run stages one after another (R221). -/
def runStages (env : StageEnv) : List SafStage → SafMem → StageOut
  | [], m => { mem := m, sats := [] }
  | st :: rest, m =>
    let a := runStage env st rest.head? m
    let b := runStages env rest a.mem
    { mem := b.mem, sats := a.sats ++ b.sats }

/-- Worst case of a stage in SAF cycles (R220). -/
def SafStage.cycles (st : SafStage) : Nat :=
  let t := st.count
  let lanes := fun n : Nat => ceilDiv (ceilDiv n t) 32
  match st.op with
  | 1 => lanes st.d1 * ceilDiv st.d2 32 + 12
  | 2 => lanes st.d1 * st.d2 + 12
  | 3 => lanes (st.d1 * st.d2) * 3 + 12
  | 4 => lanes st.d1 + 8
  | 5 => lanes st.d1 + 8
  | 6 => 2 * lanes st.d1 + 24 + (if 1 < t then 28 else 0)
  | 7 => 2 * lanes st.d1 * ceilDiv st.d2 32 + 48 + (if 1 < t then 40 else 0)
  | 8 => 20 + ceilDiv st.d1 32
  | _ => 0

end Sys2Proof.Machine
end

