-- ==== Sys2Proof/Machine/SafAdmit.lean ====
section
/-! DEFINITION. Admission of Saffron images: format checks, resource checks, the report (spec/09, R255 to R259). -/

namespace Sys2Proof.Machine

/-- The live state an admission is checked against (R257). -/
structure Live where
  partner : Option SafImage
  usable : Nat
  slowTick : Nat
  legacy : Bool
  /-- Residence bytes occupied other than the target. -/
  occupied : Nat
  target : Nat

/-- A format fault (R259): reason, section kind, index, value, limit. -/
structure FormatFault where
  reason : Nat
  section_ : Nat
  index : Nat
  value : Nat
  limit : Nat
  deriving DecidableEq, Repr

/-- A resource entry (Table 9-8): id, result, unit, tile, requested, available. -/
structure ResEntry where
  id : Nat
  result : Nat
  unit_ : Nat
  tile : Nat
  requested : Nat
  available : Nat
  deriving DecidableEq, Repr

/-! ### Figures recomputed from the body (R258) -/

def SafImage.fast (i : SafImage) : Bool := decide (i.tier = 1)
def SafImage.readsCtx (i : SafImage) : Bool := i.flags.getLsbD 0
def SafImage.writesCtx (i : SafImage) : Bool := i.flags.getLsbD 1

/-- The tier's worst case: the sum over its stages; a slow stage's declared figure stands (R258). -/
def SafImage.tierCycles (i : SafImage) : Nat :=
  (i.stages.map (fun st => if i.fast then st.cycles else max st.cycles st.worst)).sum

/-- Window samples (R234). -/
def SafImage.windowSamples (i : SafImage) : Nat := (i.windows.map (·.len)).sum

/-- Decimation of a code. -/
def decimation (code : Nat) : Nat := 10 ^ code

/-- Stream bytes per slow tick (R258). -/
def SafImage.streams (i : SafImage) : Nat :=
  (i.descs.map (fun d => d.perTile * d.count)).sum + (i.windows.map (fun w => w.len * decimation w.dec * 2)).sum

/-- Largest of a list of naturals. -/
def maxNat (l : List Nat) : Nat := l.foldl max 0

/-- Bytes of an image's regions on a logical tile. -/
def SafImage.tileBytes (i : SafImage) (t : Nat) : Nat :=
  match i.decls[t]? with
  | some d => if i.fast then d.mantissa + d.exponent + d.fastParam else d.buffers + d.slowParam
  | none => 0

/-- The tier's own parameters bytes on a tile. -/
def SafImage.paramBytes (i : SafImage) (t : Nat) : Nat :=
  match i.decls[t]? with
  | some d => if i.fast then d.fastParam else d.slowParam
  | none => 0

/-- Total of a tile with both tiers (SRAM_TOTAL). -/
def sramOn (i : SafImage) (p : Option SafImage) (t : Nat) : Nat :=
  32768 + i.tileBytes t + (p.map (fun x : SafImage => x.tileBytes t)).getD 0

/-- The logical tile with the largest total, the first among equals. -/
def largestTile (i : SafImage) (p : Option SafImage) : Nat :=
  (List.range 64).foldl (fun b t => if sramOn i p b < sramOn i p t then t else b) 0

/-! ### Features (R232) -/

/-- Fields of a feature map entry (Table 8-8). -/
def featKind (e : BitVec 32) : Nat := e.toNat / 2 ^ 28
def featIndex (e : BitVec 32) : Nat := e.toNat / 65536 % 4096
def featField (e : BitVec 32) : Nat := e.toNat / 4096 % 16
def featShift (e : BitVec 32) : Int := ((e >>> 8).setWidth 4).toInt
def featAge (e : BitVec 32) : Bool := e.getLsbD 0

/-- Is the entry valid: kind, index and field in Table 8-9, reserved bits zero? -/
def featValid (e : BitVec 32) : Bool :=
  let i := featIndex e
  let f := featField e
  decide (e.toNat / 2 % 128 = 0) &&
  match featKind e with
  | 0 => decide (f = 0)
  | 1 => decide (i < 48) && decide (f = 0)
  | 2 => decide (i < 192) && decide (f ≤ 5)
  | 3 => decide (i < 24) && decide (f ≤ 2)
  | 4 => decide (i < 8) && decide (f ≤ 3)
  | 5 => decide (i < 16) && decide (f = 0)
  | 6 => decide (f ≤ 8)
  | 7 => decide (1 ≤ i) && decide (i ≤ 1024) && decide (f ≤ 1)
  | 8 => decide (f = 0)
  | 9 => decide (f ≤ 4)
  | _ => false

/-! ### Format checks (Table 9-9) -/

/-- A fault when a condition holds. -/
def faultIf (c : Bool) (reason sec index value limit : Nat) : List FormatFault :=
  if c then [{ reason := reason, section_ := sec, index := index, value := value, limit := limit }] else []

/-- Does the directory list a kind? -/
def SafImage.has (i : SafImage) (kind : Nat) : Bool := i.dir.any (fun d => decide (d.kind = kind))

/-- Does the image stream weights? -/
def SafImage.streamed (i : SafImage) : Bool := i.stages.any (fun st => st.flags.getLsbD 2)

/-- Sections the tier requires, and forbids (Table 9-2). -/
def SafImage.required (i : SafImage) : List Nat :=
  [1, 2, 3, 7] ++ (if i.fast then [4] else []) ++ (if 0 < i.nTables then [5] else []) ++
  (if !i.fast ∧ 0 < i.nWindows then [6] else []) ++ (if !i.fast ∧ i.streamed then [8, 9] else [])
def SafImage.forbidden (i : SafImage) : List Nat := if i.fast then [6, 8, 9] else [4]

/-- Do two sections overlap? -/
def SafSection.overlaps (a b : SafSection) : Bool :=
  decide (a.offset < b.offset + b.length) && decide (b.offset < a.offset + a.length)

/-- Section faults (reason 4). -/
def SafImage.sectionFaults (i : SafImage) : List FormatFault :=
  (i.required.filter (fun k => !i.has k)).flatMap (fun k => faultIf true 4 k 0xFFFF 0 0) ++
  ((List.range i.dir.length).zip i.dir).flatMap (fun p =>
    let d := p.2
    let later := i.dir.drop (p.1 + 1)
    faultIf (decide (d.kind = 0) || decide (9 < d.kind) || i.forbidden.contains d.kind || decide (i.bodyBytes < d.offset + d.length)
      || later.any (fun e => decide (e.kind = d.kind)) || later.any d.overlaps) 4 d.kind p.1 0 0)

/-- Elements that a stage reads from A and B, and writes. -/
def SafStage.extents (st : SafStage) : Nat × Nat × Nat :=
  match st.op with
  | 4 => (st.d1, st.d1, st.d1)
  | 5 => (st.d1, if st.flags.getLsbD 3 then 0 else st.d1, st.d1)
  | 1 => (st.d2, 0, st.d1)
  | 7 => (st.d2, 2 * st.d1 * st.d2, st.d2)
  | _ => (st.d1, 0, st.d1)

/-- Tiles of a stage; tiles its output goes to: those of the next stage for EXCH. -/
def SafStage.tiles (st : SafStage) : List Nat := (List.range st.count).map (st.first + ·)
def SafStage.outTiles (st : SafStage) (next : Option SafStage) : List Nat :=
  match next with
  | some x => if st.op = 8 then x.tiles else st.tiles
  | none => st.tiles

/-- Is a reference of n elements, on these tiles, beyond its space (reason 8)? -/
def SafImage.refBeyond (i : SafImage) (st : SafStage) (tiles : List Nat) (whole : Bool) (r : BitVec 32) (n : Nat) : Bool :=
  let stop := refOffset r + n
  if n = 0 then false
  else match refSpace r with
    | 0 => decide (2048 < stop)
    | 1 => decide (32768 < stop)
    | 2 => decide (i.exchBytes < 2 * stop)
    | 3 =>
      let each := if whole then n else st.per n
      tiles.any (fun t => decide (i.paramBytes t < 2 * (refOffset r + each)))
    | 4 => decide (i.ctxBytes < 2 * stop)
    | 5 => decide (4096 < stop)
    | _ => false

/-- Sizes in bytes that a stage's offsets imply on one tile: (region, offset, size) (R252). -/
def SafStage.uses (st : SafStage) (fast : Bool) : List (Nat × Nat × Nat) :=
  let p := if fast then regFastParam else regSlowParam
  let per := st.per st.d1
  let nb := ceilDiv st.d2 32
  let bias := if st.flags.getLsbD 1 then [(p, st.off3, 4 * per)] else []
  match st.op with
  | 1 =>
    if st.flags.getLsbD 2 then bias
    else [(regFastMant, st.off1, per * nb * (if st.flags.getLsbD 0 then 16 else 32)), (regFastExp, st.off2, per * nb)] ++ bias
  | 2 => [(p, st.off1, 2 * per * st.d2), (p, st.off2, 2 * per * (st.d2 - 1))]
  | 3 => [(p, st.off1, 2 * (3 * per * st.d2 + per)), (p, st.off2, 4 * per * st.d2)]
  | 6 => [(p, st.off1, 2 * per + 4)]
  | _ => []

/-- Declared bytes of a region on a tile. -/
def SafImage.regionBytes (i : SafImage) (t region : Nat) : Nat :=
  match i.decls[t]? with
  | some d => match region with
    | 1 => d.mantissa
    | 2 => d.exponent
    | 3 => d.fastParam
    | 4 => d.buffers
    | 5 => d.slowParam
    | _ => 0
  | none => 0

/-- Is a dimension outside the limits of R220 (reason 7)? -/
def SafStage.badDims (st : SafStage) : Bool :=
  decide (st.d1 = 0) ||
  match st.op with
  | 1 => decide (st.d2 = 0)
  | 2 => decide (st.d2 < 2) || decide (64 < st.d2)
  | 3 => !([1, 2, 4, 8, 16, 32, 64].contains st.d2)
  | 6 => decide (8192 < st.d1)
  | 7 => decide (4096 < st.d1) || decide (st.d2 = 0) || decide (256 < st.d2)
  | _ => false

/-- Bytes of mantissas, and of exponents, of an MV on one tile (R215, R253). -/
def SafStage.mantissas (st : SafStage) : Nat := st.per st.d1 * ceilDiv st.d2 32 * (if st.flags.getLsbD 0 then 16 else 32)
def SafStage.exponents (st : SafStage) : Nat := st.per st.d1 * ceilDiv st.d2 32

/-- The stream descriptor of a streamed stage. -/
def SafImage.streamData (i : SafImage) (st : SafStage) : Option StreamDesc :=
  if st.flags.getLsbD 2 then i.descs[st.off2]? else none

/-- Has an exponent byte that streams to a tile of the stage a reserved bit set (R215)? -/
def SafImage.badStream (i : SafImage) (st : SafStage) : Bool :=
  match i.streamData st with
  | some d => (List.range d.count).any (fun t =>
      ((i.segment.drop (d.offset + t * d.perTile + st.mantissas)).take st.exponents).any (fun b => decide (32 ≤ b.toNat)))
  | none => false

/-- Faults of a stage. -/
def SafImage.stageFaults (i : SafImage) (n : Nat) (st : SafStage) (next : Option SafStage) : List FormatFault :=
  let x := st.extents
  let refs := [(st.inA, x.1), (st.inB, x.2.1), (st.out, x.2.2)]
  -- an MV or ATTN reads whole vectors on every tile, and EXCH leaves a whole vector on each
  let all := decide (st.op = 1) || decide (st.op = 7)
  let sp := fun r : BitVec 32 => refSpace r
  faultIf (decide (st.op = 0) || decide (8 < st.op) || decide (st.flags.toNat / 16 ≠ 0) || st.spare ||
    refs.any (fun r => decide (6 ≤ sp r.1))) 5 2 n st.op 0 ++
  faultIf (if i.fast then st.flags.getLsbD 2 || decide (sp st.out = 4) || decide (sp st.inA = 1) || decide (sp st.inB = 1) ||
        decide (sp st.inA = 5) || decide (sp st.out ≤ 1)
      else decide (st.op = 7) || decide (sp st.out = 5) || decide (sp st.inA = 4) || decide (sp st.inB = 4) ||
        decide (sp st.inA = 0 ∧ 0 < x.1) || decide (sp st.inB = 0 ∧ 0 < x.2.1) || decide (sp st.out ≤ 1) ||
        (decide (st.op = 1) && !st.flags.getLsbD 2)) 6 2 n st.op 0 ++
  faultIf st.badDims 7 2 n st.d1 st.d2 ++
  faultIf (i.refBeyond st st.tiles all st.inA x.1 || i.refBeyond st st.tiles all st.inB x.2.1 ||
    i.refBeyond st (st.outTiles next) (decide (st.op = 7) || decide (st.op = 8)) st.out x.2.2) 8 2 n 0 0 ++
  faultIf (st.tiles.any (fun t => (st.uses i.fast).any (fun u => decide (i.regionBytes t u.1 < u.2.1 + u.2.2))) ||
    (i.streamData st).any (fun d => st.tiles.any (fun t => decide (i.regionBytes t regStream < 2 * d.perTile)))) 9 2 n 0 0 ++
  faultIf (if i.fast then decide (st.worst ≠ st.cycles) else decide (st.worst < st.cycles)) 10 2 n st.worst st.cycles ++
  faultIf (st.flags.getLsbD 2 && (match i.descs[st.off2]? with
    | some d => decide (d.first ≠ st.first) || decide (d.count ≠ st.count) || decide (d.stage ≠ n) ||
        decide (d.perTile < st.mantissas + st.exponents) || decide (i.segment.length < d.offset + d.count * d.perTile)
    | none => true)) 11 9 n st.off2 i.descs.length ++
  faultIf (decide (st.count = 0) || decide (64 < st.count) || decide (i.tiles < st.first + st.count) ||
    (st.flags.getLsbD 3 && decide (i.nTables ≤ st.table))) 14 2 n (st.first + st.count) i.tiles

/-- Each stage with its number and its successor. -/
def stageTriples (n : Nat) : List SafStage → List (Nat × SafStage × Option SafStage)
  | [] => []
  | st :: rest => (n, st, rest.head?) :: stageTriples (n + 1) rest

/-- Exponent bytes of the image with a reserved bit set (R215): the records of region 2, and the streamed segment. -/
def SafImage.badExponents (i : SafImage) : Bool :=
  i.contents.any (fun r => decide (r.region = regFastExp) && r.data.any (fun b => decide (32 ≤ b.toNat))) ||
  i.stages.any i.badStream

/-- Has a declaration of a tile the other tier's fields set (R251)? -/
def SafImage.foreign (i : SafImage) (d : TileDecl) : Bool :=
  if i.fast then decide (d.buffers ≠ 0) || decide (d.slowParam ≠ 0)
  else decide (d.mantissa ≠ 0) || decide (d.exponent ≠ 0) || decide (d.fastParam ≠ 0)

/-- All format faults, in image order (R259). The other tier's fields of a declaration count as reserved ones
(DESIGN CHOICE, notes/assumptions/114). -/
def formatFaults (i : SafImage) (l : Live) : List FormatFault :=
  faultIf (!i.hashesOk) 1 0 0xFFFF 0 0 ++
  faultIf (decide (i.version.toNat / 16 ≠ 1)) 2 0 0xFFFF i.version.toNat 0x10 ++
  faultIf (decide (i.tier ≠ 1 ∧ i.tier ≠ 2) || decide ((i.tier = 1) ≠ (l.target < 2))) 3 0 0xFFFF i.tier l.target ++
  faultIf (i.spare || decide (i.flags.toNat / 4 ≠ 0)) 5 0 0xFFFF i.flags.toNat 0 ++
  faultIf (if i.fast then i.writesCtx || decide (i.nWindows ≠ 0) else i.readsCtx) 6 0 0xFFFF i.flags.toNat 0 ++
  faultIf (decide (i.tiles = 0) || decide (64 < i.tiles) || decide (i.decls.length ≠ i.tiles) || decide (i.nStages = 0) ||
    decide (1024 < i.nStages) || decide (i.stages.length ≠ i.nStages) || decide (i.nFeatures = 0) ||
    decide ((if i.fast then 2048 else 32768) < i.nFeatures) || decide (i.features.length ≠ i.nFeatures) ||
    decide (i.tables.length ≠ i.nTables) || i.tables.any (fun t => decide (t.length ≠ 257)) ||
    decide (i.windows.length ≠ i.nWindows) || decide (2097152 < i.ctxBytes) || decide (i.dir.length = 0) ||
    decide (16 < i.dir.length)) 14 0 0xFFFF i.tiles 64 ++
  i.sectionFaults ++
  faultIf (i.decls.any i.foreign) 5 1 0xFFFF 0 0 ++
  faultIf i.badExponents 5 7 0xFFFF 0 0 ++
  (stageTriples 0 i.stages).flatMap (fun t => i.stageFaults t.1 t.2.1 t.2.2) ++
  ((List.range i.contents.length).zip i.contents).flatMap (fun p =>
    faultIf (!([regFastMant, regFastExp, regFastParam, regSlowParam].contains p.2.region)) 5 7 p.1 p.2.region 0 ++
    faultIf (decide (i.regionBytes p.2.tile p.2.region < p.2.offset + p.2.len)) 9 7 p.1 p.2.offset 0 ++
    faultIf (decide (p.2.data.length < p.2.len)) 14 7 p.1 p.2.len 0) ++
  faultIf (decide (i.worst ≠ i.tierCycles)) 10 0 0xFFFF i.worst i.tierCycles ++
  faultIf (decide (i.streamBytes ≠ i.streams)) 11 0 0xFFFF i.streamBytes i.streams ++
  faultIf (i.fast && decide (i.outputs.length ≠ 65)) 12 4 0xFFFF i.outputs.length 65 ++
  faultIf (match l.partner with
    | some p => (i.fast && i.readsCtx && p.writesCtx && decide (i.layout ≠ p.layout)) ||
        (!i.fast && i.writesCtx && p.readsCtx && decide (i.layout ≠ p.layout))
    | none => false) 13 0 0xFFFF 0 0 ++
  ((List.range i.windows.length).zip i.windows).flatMap (fun p =>
    faultIf (decide (48 ≤ p.2.chan) || decide (3 < p.2.dec) || decide (p.2.len = 0) || decide (4096 < p.2.len)) 14 6 p.1 p.2.len 4096)

/-! ### Resource checks (Table 9-8) -/

/-- An entry: not applicable, not evaluated, fits or over. -/
def resEntry (id unit_ tile : Nat) (applies evaluated : Bool) (req avail : Nat) : ResEntry :=
  { id := id, unit_ := unit_, tile := tile, requested := if applies then req else 0, available := if applies then avail else 0
    result := if !applies then 2 else if !evaluated then 3 else if avail < req then 1 else 0 }

/-- All sixteen, in id order. -/
def resChecks (i : SafImage) (l : Live) : List ResEntry :=
  let f := i.fast
  let decl := i.has 1
  let w := i.tierCycles
  let p := l.partner
  let big := largestTile i p
  let budget := fun wf : Nat => (1536 - wf) * l.slowTick
  [ resEntry 1 1 255 true true i.tiles l.usable,
    resEntry 2 2 big true decl (sramOn i p big) 1572864,
    resEntry 3 2 255 f decl (maxNat (i.decls.map (·.mantissa))) 786432,
    resEntry 4 2 255 f decl (maxNat (i.decls.map (·.exponent))) 24576,
    resEntry 5 2 255 (!f) decl (maxNat (i.decls.map (·.buffers))) 393216,
    resEntry 6 3 255 true (i.has 2) w (if f then 1296 else budget ((p.map SafImage.tierCycles).getD 0)),
    resEntry 7 3 255 (f && p.isSome) (i.has 2) ((p.map SafImage.tierCycles).getD 0) (budget w),
    resEntry 8 2 255 (!f) (!i.streamed || i.has 9) i.streams (1083750 * l.slowTick),
    resEntry 9 2 255 true true i.resBytes (25769803776 - l.occupied),
    resEntry 10 1 255 true (i.has 3) i.features.length (if f then 2048 else 32768 - i.windowSamples),
    resEntry 11 1 255 true (i.has 3)
      (i.features.filter (fun e => !featValid e || (!f && decide (featKind e = 8)))).length 0,
    resEntry 12 2 255 true true (if f && !i.readsCtx then 0 else i.ctxBytes)
      (if f then (p.map (fun x => if x.writesCtx then x.ctxBytes else 0)).getD 0 else 2097152),
    resEntry 13 1 255 true true i.nTables 16,
    resEntry 14 1 255 (!f) true i.nWindows 16,
    resEntry 15 2 255 true true i.exchBytes (3751936 - (p.map (·.exchBytes)).getD 0),
    resEntry 16 1 255 (f && l.legacy) true i.tiles 16 ]

/-- The image is admitted only if every check passes (R256). -/
def admits (i : SafImage) (l : Live) : Bool :=
  (formatFaults i l).isEmpty && (resChecks i l).all (fun e => decide (e.result = 0) || decide (e.result = 2))

/-- The report of an admission (R259). -/
def admissionReport (i : SafImage) (l : Live) (occasion ft : Nat) : List Byte :=
  let fs := (formatFaults i l).take 12
  let ok := admits i l
  let head := [16#8, BitVec.ofNat 8 i.tier, if ok then 0 else 1, BitVec.ofNat 8 (min (formatFaults i l).length 255)] ++
    leBytes 4 i.id.toNat ++ leBytes 2 i.imageVersion.toNat ++ leBytes 1 occasion ++ leBytes 1 l.target ++ leBytes 8 ft ++
    List.replicate 12 0
  let res := (resChecks i l).flatMap (fun e => leBytes 1 e.id ++ leBytes 1 e.result ++ leBytes 1 e.unit_ ++ leBytes 1 e.tile ++
    List.replicate 4 0 ++ leBytes 8 e.requested ++ leBytes 8 e.available ++ leBytes 8 (e.requested - e.available))
  let sat := fun n : Nat => leBytes 2 (min n 0xFFFF)
  let flt := fs.flatMap (fun x => leBytes 1 x.reason ++ leBytes 1 x.section_ ++ sat x.index ++ sat x.value ++ sat x.limit)
  head ++ res ++ flt ++ List.replicate (96 - flt.length) 0

/-- Load an image's regions into the tiles: unwritten bytes are zero (R250). -/
def loadRegions (i : SafImage) (m : SafMem) : SafMem :=
  let own := fun region : Nat => if i.fast then decide (region ≤ 3) else decide (4 ≤ region)
  let m := { m with sram := m.sram.filter (fun e => !own (e.1 / 2097152 % 8)) }
  i.contents.foldl (fun m r =>
    (r.data.zip (List.range r.data.length)).foldl (fun m p => m.putByte r.tile r.region (r.offset + p.2) p.1.toNat) m) m

end Sys2Proof.Machine
end

