-- ==== Sys2Proof/Machine/Soc.lean ====
section
/-! DEFINITION. The state-of-charge estimator: counting, correction, rests, floor and ceiling, modes, quiet windows, the
capacity test, the learned-value journal; the completion of a sweep and the balancing pass, which rest on it (spec/11,
spec/10 R280, R295). -/

namespace Sys2Proof.Machine

/-! ### Cells -/

def allCells : List (Fin 512) := List.finRange 512

def State.cell (s : State) (k : Fin 512) : CellSt := s.soc.cells[k]
def State.modCell (k : Fin 512) (f : CellSt → CellSt) (s : State) : State :=
  s.modSoc (fun e => { e with cells := e.cells.set k (f (e.cells[k])) })

/-- Cells of the configured units. -/
def State.cellsIn (s : State) : List (Fin 512) := allCells.filter (fun k : Fin 512 => decide (k.val < 16 * s.unitCount))

/-- Cell k of a unit. -/
def cellIndex (u : Fin 32) (k : Fin 16) : Fin 512 := ⟨16 * u.val + k.val, by omega⟩
def unitOf (k : Fin 512) : Fin 32 := ⟨k.val / 16, by omega⟩

/-- Charge of 0.001 % of a cell, in µA µs. -/
def CellSt.perMilli (c : CellSt) : Nat := c.cap * 36000000

/-- State of charge of a cell in 0.001 % (R299). -/
def State.socOf (s : State) (k : Fin 512) : Int :=
  let c := s.cell k
  rheDiv (c.charge - s.soc.drawn) c.perMilli

/-- Move a cell's charge content so that its state of charge becomes m, in 0.001 %. -/
def State.setCell (k : Fin 512) (m : Int) (s : State) : State :=
  s.modCell k (fun c => { c with charge := m * c.perMilli + s.soc.drawn })

/-- Mean of a list of integers, rounded. -/
def meanInt (l : List Int) : Int := rheDiv l.sum l.length

/-- Lowest and highest of a list, 0 when empty. -/
def minOf : List Int → Int
  | [] => 0
  | x :: rest => rest.foldl min x
def maxOf : List Int → Int
  | [] => 0
  | x :: rest => rest.foldl max x

/-- String state of charge in 0.001 % (R299). -/
def State.stringSoc (s : State) : Int := meanInt (s.cellsIn.map s.socOf)

/-- Mean learned capacity in mAh. -/
def State.meanCap (s : State) : Nat :=
  let l := s.cellsIn
  rheNat (l.map (fun k => (s.cell k).cap)).sum l.length

/-! ### The open-circuit table (0x6205) -/

/-- Entry i of the table in mV: the open-circuit voltage at i times 1.5625 % (DESIGN CHOICE, notes/assumptions/47). -/
def State.ocv (s : State) (i : Nat) : Nat := leNat (((s.getBytes K.socOpenCircuitTable 132).drop (2 * i)).take 2)

/-- The rest correction in µV per mA. -/
def State.restCorrection (s : State) : Nat := leNat (((s.getBytes K.socOpenCircuitTable 132).drop 130).take 2)

/-- Read the table backwards at a voltage in nV: model state of charge in 0.001 % and the slope's rise over its segment in
mV (R300). Outside the table its ends hold (DESIGN CHOICE, notes/assumptions/47). -/
def State.modelOf (s : State) (nv : Int) : Int × Nat :=
  let v := fun i : Nat => (s.ocv i : Int) * 1000000
  let rise := fun i : Nat => s.ocv (i + 1) - s.ocv i
  if nv < v 0 then (0, rise 0)
  else
    match (List.range 64).find? (fun i => decide (v i ≤ nv) && decide (nv < v (i + 1))) with
    | some i => (rheDiv ((i : Int) * 3125 * (v (i + 1) - v i) + 3125 * (nv - v i)) (2 * (v (i + 1) - v i)).toNat, rise i)
    | none => (100000, rise 63)

/-- Is the slope of a segment at least the minimum slope (R300)? -/
def State.steep (s : State) (rise : Nat) : Bool := decide (s.getN K.socCfgMinimumSlope * 15625 ≤ rise * 10000)

/-- Rest-equivalent voltage of a cell in nV: V − I R (R300). Voltage in 100 µV, current in mA
(DEDUCED, notes/assumptions/45). -/
def State.restVoltage (s : State) (k : Fin 512) (v : Nat) (iw : Int) : Int :=
  (v : Int) * 100000 - rheDiv (iw * (s.cell k).res) 1000000

/-- The same with the rest correction (R302) (DEDUCED, notes/assumptions/45). -/
def State.relaxedVoltage (s : State) (k : Fin 512) (v : Nat) (iw : Int) : Int :=
  s.restVoltage k v iw - iw * s.restCorrection * 1000

/-- May a cell be corrected (R300): its unit answered, no open or suspect wire at it, not reported as a half? -/
def State.correctable (s : State) (marks : Vector (Option Nat) 32) (k : Fin 512) : Bool :=
  let u := unitOf k
  let w := k.val % 16
  let x := s.cunit u
  let sus := fun i : Nat => x.suspect.getLsbD i || s.wireOpen u i
  (match marks[u] with | some p => decide (p ≤ 1) | none => false) && !s.isStale u && !sus w && !sus (w + 1) && !s.halved u w

/-- The latest voltage of a cell in 100 µV. -/
def State.cellVolt (s : State) (k : Fin 512) : Nat := (s.cunit (unitOf k)).cells.toList.getD (k.val % 16) 0

/-! ### Deviation, floor and ceiling (R301 to R304) -/

/-- Whole square root by its bits from bit n - 1 down. -/
def sqrtBits : Nat → Nat → Nat → Nat
  | 0, r, _ => r
  | n + 1, r, x => if (r + 2 ^ n) * (r + 2 ^ n) ≤ x then sqrtBits n (r + 2 ^ n) x else sqrtBits n r x

/-- σ of a unit in 0.001 % (R301). -/
def State.sigmaOf (s : State) (u : Fin 32) : Nat :=
  let x := s.soc.sigma[u]
  let drift := rheNat (s.getN K.socCfgOffsetUncertainty * 100 * (s.now - x.restAt)) (s.meanCap * 3600 * sec)
  sqrtBits 32 0 (x.atRest * x.atRest + drift * drift)

/-- The published σ: the largest over the configured units (R301). -/
def State.sigma (s : State) : Nat := (s.configured.map s.sigmaOf).foldl max 0

/-- String energy in kJ: capacities times the open-circuit voltage at 50 % (R303). -/
def State.stringEnergy (s : State) : Nat := 
  rheNat ((s.cellsIn.map (fun k => (s.cell k).cap)).sum * s.ocv 32 * 36) 10000000

/-- The taper margin in 0.001 % (R303, R305): whole in the taper modes, then removed at the restore rate. -/
def State.taperMargin (s : State) : Int :=
  let m : Int := s.getN K.taperTaperMargin * 10
  if inTaper (s.getN K.socMode) then m
  else match s.soc.taperLeft with
    | some t => max (m - (rheNat (s.getN K.taperRestoreRate * 10 * (s.now - t)) (60 * sec))) 0
    | none => 0

/-- A 0.001 % value published in 0.01 %, held to 16 bits. -/
def percent2 (x : Int) : Int := clampInt 0 65535 (rheDiv x 10)

/-- Form and publish the floor and ceiling in force (R299, R303, R304) (DESIGN CHOICE, notes/assumptions/48). -/
def State.formSocLimits (s : State) : State :=
  let all := s.cellsIn.map s.socOf
  let lo := minOf all
  let hi := maxOf all
  let mean := meanInt all
  let test := s.socModeIs 3
  let low : Int := s.getN (if test then K.testTestLow else K.socCfgWindowLow) * 10
  let high : Int := s.getN (if test then K.testTestHigh else K.socCfgWindowHigh) * 10
  let sg := s.sigma
  let energy := s.stringEnergy
  let s := s.put K.socStringEnergy energy
  -- a string energy of zero leaves the quotient open
  let free := s.freeNat % 100001
  let reserve : Int := if test then 0 else if energy = 0 then free else rheDiv (s.getN K.socCfgRideThroughReserve * 100000 : Nat) energy
  let s := s.when (!test && decide (energy = 0)) State.useFree
  let u := clampInt (s.getN K.socCfgMarginMinimum * 10 : Nat) (s.getN K.socCfgMarginMaximum * 10 : Nat) (3 * sg)
  let taper := s.taperMargin
  let floorAt := fun u : Int => low + reserve + u + (mean - lo) + taper
  let ceilAt := fun u : Int => high - u - (hi - mean) - taper
  let band : Int := s.getN K.socCfgMinimumBand * 10
  let short := band - (ceilAt u - floorAt u)
  let limited := decide (0 < short)
  let u' := if limited then max (u - (short + 1) / 2) 0 else u
  let met := decide (band ≤ ceilAt u' - floorAt u')
  let mid := rheDiv (ceilAt u' + floorAt u') 2
  let fl := if met then floorAt u' else mid
  let ce := if met then ceilAt u' else mid
  let s := (((s.put K.socLowestCell (percent2 lo)).put K.socHighestCell (percent2 hi)).put K.soc (min sg 65535 : Nat)).put
    K.socMarginU (percent2 u')
  let s := (s.put K.socFloorInForce (percent2 fl)).put K.socCeilingInForce (percent2 ce)
  let said := s.soc.marginSaid
  ((s.modSoc (fun e => { e with marginSaid := limited })).socFlag 1 limited).when (limited && !said)
    (State.raise0 Cause.socMarginAtLimit)

/-! ### Every tick (R299, R302, R305, R308) -/

/-- String current of the control sample in µA. -/
def State.stringMicro (s : State) : Int := rheDiv (s.get (K.chanControlSample 43) * s.get (K.chanFullScale 43) * 1000) 32768

/-- The voltage loop's demand i_v in mA: output port 3 of core 1 (R194). -/
def State.loopDemand (s : State) : Int := rheDiv (Sparse.get zeroDflt (s.card.cores[1]).ports 3 * 2000000) 2147483648

/-- Running transfers: unit, cell, direction (R295). -/
def State.transfers (s : State) : List (Fin 32) :=
  s.configured.filter (fun u : Fin 32 => (s.getN (K.unitBalancing u)).testBit 15)

/-- The storage soft-start rate in µA per tick (R131). -/
def State.liftRate (s : State) : Nat := s.getN (K.convSoftStartRate 1)

/-- A cap after its window: raised at the soft-start rate until it binds no more (R305). -/
def State.lift (s : State) : Option Nat → Option Nat
  | some c => if s.limitOtherwise .storage * 1000 ≤ c + s.liftRate then none else some (c + s.liftRate)
  | none => none

/-- Is a quiet hold in progress? -/
def State.quietHolding (s : State) : Bool := decide (s.getN K.quietQuietRequest = 3)

/-- A window over: back to none, or to requested while a request stands. -/
def State.quietIdle (s : State) : State := s.put K.quietQuietRequest (if s.soc.asked then 1 else 0)

/-- The count of a tick (R299), and what balancing moves between cells in it (R313). -/
def State.socCount (i : Int) (moving : List (Fin 32)) (s : State) : State :=
  let s := s.modSoc (fun e => { e with
    drawn := e.drawn + (i - s.get K.socCurrentOffset)
    throughput := e.throughput + (rheDiv i 1000).natAbs
    moved := e.moved + 2000 * moving.length })
  s.each moving (fun u s =>
    let w := s.getN (K.unitBalancing u)
    let d : Int := if w.testBit 4 then 2000000 else -2000000
    s.modCell (cellIndex u ⟨w % 16, by omega⟩) (fun c => { c with charge := c.charge + d, xfer := c.xfer + d }))

/-- What the count shows. -/
def State.socShow (s : State) : State :=
  let s := s.when (decide (s.getN K.socMode ≠ 0)) (fun s => s.put K.socStringStateOfCharge (percent2 s.stringSoc))
  (s.put K.socChargeThroughput (rheNat s.soc.throughput 1000000)).put K.balChargeMoved (rheNat s.soc.moved 1000000)

/-- The runs of a tick (R302, R308) (DESIGN CHOICE, notes/assumptions/116). -/
def State.socRuns (i : Int) (rest : Bool) (s : State) : State :=
  let inBurst := (s.conv .storage).burst
  let demand := s.loopDemand
  let restCurrent := s.getN K.socCfgRestCurrent
  s.modSoc (fun e => { e with
    restRun := if rest then e.restRun + 1 else 0
    restSweep := if rest then e.restSweep else none
    restSample := if rest then e.restSample else none
    quietRun := if i.natAbs ≤ 20000000 then e.quietRun + 1 else 0
    demandRun := if (restCurrent : Int) < demand then e.demandRun + 1 else 0
    burstTicks := if inBurst then e.burstTicks + 1 else 0
    burstMean := if rest then e.burstMean else none })

/-- Mean of channel 43 over the last second in µA: this tick's control sample and those of the ring before it (R302). -/
def State.lastSecond (s : State) : Int :=
  let samples := s.get (K.chanControlSample 43) :: (s.saf.wave.take 999999).map (fun l => l.getD 43 0)
  rheDiv (samples.sum * s.get (K.chanFullScale 43) * 1000) (32768 * 1000000)

/-- The end of the rest time, and of every further one (R302): a REST sweep, and the mean of the last second if it was spent in
burst. -/
def State.restTimeOver (s : State) : State :=
  let s := s.askSweep 2 s.ft
  s.modSoc (fun e => { e with
    restSample := (s.chn.sweeps.getLast?).map (·.sample)
    burstMean := if 1000000 ≤ e.burstTicks then some s.lastSecond else none })

/-- The caps of TAPER (R305) and of a quiet window's hold (R308). -/
def State.socCaps (s : State) : State :=
  let taper := inTaper (s.getN K.socMode)
  let holding := s.quietHolding
  s.modPow (fun p => { p with
    taperCap := if taper then some (s.getN K.taperTaperCurrent * 1000) else s.lift p.taperCap
    holdCap := if holding then some (s.getN K.socCfgRestCurrent * 1000) else s.lift p.holdCap })

/-- One tick of the estimator (DEDUCED, notes/assumptions/41). -/
def State.socTick (s : State) : State :=
  let i := s.stringMicro
  let moving := s.transfers
  let s := (s.socCount i moving).socShow
  let rest := decide (i.natAbs ≤ s.getN K.socCfgRestCurrent * 1000) && moving.isEmpty
  let s := s.socRuns i rest
  -- a REST sweep at every whole rest time of a rest
  let run := s.soc.restRun
  let span := s.getN K.socCfgRestTime * 1000000
  let s := (s.when (decide (0 < run) && decide (run % span = 0)) State.restTimeOver).socCaps
  -- the end of a window whose hold had begun (R308)
  s.when (decide (2 ≤ s.getN K.quietQuietRequest) && s.soc.holdBegan && decide (s.getN K.quietWindowEnd ≤ s.ft)) State.quietIdle

/-! ### Learning at a sweep (R300, R306, R310) -/

/-- Correction of a cell by the model (R300), or its forming from the table (R306) (DEDUCED, notes/assumptions/45). -/
def State.correctCell (iw : Int) (k : Fin 512) (s : State) : State :=
  let m := s.modelOf (s.restVoltage k (s.cellVolt k) iw)
  let c := s.cell k
  match s.soc.forming with
  | some true => s.setCell k m.1
  | _ =>
    if s.steep m.2 then
      let diff := m.1 * c.perMilli - (c.charge - s.soc.drawn)
      s.modCell k (fun c => { c with charge := c.charge + rheDiv (s.get K.socCfgCorrectionGain * diff) 32768 })
    else s

/-- R_k moves towards ΔV / ΔI with a time constant of 24 h (R310) (DEDUCED, notes/assumptions/45 and 46). -/
def State.learnResistance (iw : Int) (k : Fin 512) (s : State) : State :=
  match s.soc.prevCells.getD k.val none with
  | none => s
  | some v =>
    let di := iw - s.soc.prevCurrent
    -- 100 µV over mA in pΩ
    let dv := ((s.cellVolt k : Nat) : Int) - (v : Int)
    let r := rheDiv ((if di < 0 then -dv else dv) * 100000000000) di.natAbs
    let dt := min (s.now - s.soc.prevAt) (24 * 3600 * sec)
    s.modCell k (fun c => { c with
      res := (clampInt 0 65535000000 (c.res + rheDiv ((r - c.res) * dt) (24 * 3600 * sec))).toNat })

/-- The estimator at a completed sweep (R299, R300, R305, R306, R310) (DESIGN CHOICE, notes/assumptions/49 and 116). -/
def State.estimate (w : Sweep) (iw : Int) (s : State) : State :=
  let cells := s.cellsIn.filter (s.correctable w.marks)
  let big := decide (100000 ≤ (iw - s.soc.prevCurrent).natAbs)
  let s := s.when big (fun s => s.each cells (State.learnResistance iw))
  let s := s.modSoc (fun e => { e with
    prevCurrent := iw, prevAt := s.now
    prevCells := allCells.map (fun k => if cells.contains k then some (s.cellVolt k) else none) })
  let formed := decide (w.kind = 2) && s.soc.forming.isSome
  let s := s.when (decide (s.getN K.socMode ≠ 0) || formed) (fun s => s.each cells (State.correctCell iw))
  -- the estimate is formed at the REST sweep (R306)
  let s := s.when formed (fun s =>
    let s := s.modSoc (fun e => { e with forming := none })
    s.when (s.socModeIs 0) (fun s => (s.setSocMode 1).requestQuiet))
  -- START and RECOVERY end at the taper exit (Table 11-1)
  let s := s.when ((s.socModeIs 1 || s.socModeIs 4) && s.soc.forming.isNone && decide (s.sigma ≤ s.getN K.taperTaperExit))
    (State.setSocMode 2)
  s.when (decide (s.getN K.socMode ≠ 0)) State.formSocLimits

/-- Weight, times 8 W², of a control sample j µs from the middle of a sinc3 window of W µs: three boxes of W/3 in a row (R279,
R281) (DESIGN CHOICE, notes/assumptions/115). -/
def sincWeight (w j : Nat) : Int :=
  if 6 * j ≤ w then 6 * (w : Int) ^ 2 - 72 * (j : Int) ^ 2
  else if 2 * j ≤ w then (3 * (w : Int) - 6 * j) ^ 2
  else 0

/-- Sinc3 average of a channel's samples in the waveform history ring over the window of a sweep, in units of its full scale
(R281). The ring's first entry is of the latest tick boundary; what it does not hold reads as 0 (R235). -/
def State.windowMean (c : Fin 48) (x : Sweep) (s : State) : Int :=
  let w := filterWindow x.filter / 1000
  let middle := s.ft / 1000 - x.sample / 1000
  let at_ := fun i : Nat => ((s.saf.wave[i]?).map (fun l => l.getD c 0)).getD 0
  let span := (List.range (w + 1)).map (fun i => (i + middle - w / 2, sincWeight w (if i ≤ w / 2 then w / 2 - i else i - w / 2)))
  let total := (span.map (·.2)).sum
  rheDiv ((span.map (fun e => e.2 * at_ e.1)).sum * s.get (K.chanFullScale c)) (32768 * total).toNat

/-- SWEEP_COMPLETE (R280 to R282, R286, R291): every configured position has a result or is stale or missed. -/
def execSweepComplete (s : State) : Out :=
  match s.sentSweeps.find? (fun w : Sweep => s.configured.all (fun u => (w.marks[u]).isSome)) with
  | none => .next s
  | some w =>
    let current := s.windowMean 43 w
    let string := s.windowMean 42 w
    let s := s.modChain (fun c => { c with sweeps := c.sweeps.filter (fun x => decide (x ≠ w)) })
    let s := ((((s.inc K.chainSweepsCompleted).put K.sweepSweepId w.id).put K.sweepKind w.kind).put K.sweepSampleFT
      w.sample).put K.sweepFilter w.filter
    let s := (s.put K.sweepWindowCurrent current).put K.sweepCompletedFT s.ft
    let s := s.putBytes K.sweepPaths (allUnits.map (fun u =>
      BitVec.ofNat 8 (if u.val < s.unitCount then (w.marks[u]).getD 3 else 4)))
    let blocks : Int := ((s.configured.map (fun u => (s.cunit u).block)).sum : Nat)
    let fresh := s.configured.all (fun u => !s.isStale u)
    let mismatch := fresh && decide (string < 200 * (blocks - string).natAbs)
    let s := s.when mismatch (State.raise Cause.stringSumMismatch
      (args0 [(toUnsigned 32 blocks, 4), (toUnsigned 32 string, 4)]))
    let s := s.when s.broken State.judgeBreaks
    -- the limit and sense-wire rules on every valid result of the sweep (R285, R291, R292)
    let s := s.each (s.configured.filter (fun u => decide ((w.marks[u]).getD 3 ≤ 1))) (fun u s => (s.applyLimits u).applyWires u)
    let s := s.estimate w current
    let s := s.when (decide (w.kind = 2)) (fun s =>
      let marks := allUnits.map (fun u => (w.marks[u]).getD 3)
      (s.modSoc (fun e => { e with restSweep := if e.restSample = some w.sample then some marks else e.restSweep })).modChain (fun c =>
        { c with rest := s.cellsIn.map s.cellVolt }))
    .next s

/-! ### Rests (R302, R309) -/

/-- A trigger of the journal (R312); a later one joins one that waits (DESIGN CHOICE, notes/assumptions/116). -/
def State.journalTrigger (atHalt afterRest : Bool) (s : State) : State :=
  s.modSoc (fun e => match e.trigger with
    | some t => { e with trigger := some (t.1 || atHalt, t.2 || afterRest) }
    | none => { e with trigger := some (atHalt, afterRest), retries := 0, triedAt := s.now })

/-- Charge counted into a cell since the count began. -/
def State.countedOf (s : State) (k : Fin 512) : Int := (s.cell k).xfer - s.soc.drawn

/-- C_k a quarter of the way to the measured capacity, by at most 2 % (R309). -/
def learnCap (cap : Nat) (counted dm : Int) : Nat :=
  if dm = 0 then cap
  else
    let found := rheDiv ((if dm < 0 then -counted else counted)) (dm.natAbs * 36000000)
    (clampInt 0 65535 (cap + clampInt (-(cap * 2 / 100 : Nat)) (cap * 2 / 100 : Nat) (rheDiv (found - cap) 4))).toNat

/-- A rest during a capacity test (R309) that has set the cells given: the first end taken, or the second, which learns the
capacities of the cells that both have set. -/
def State.testAtRest (cells : List (Fin 512)) (s : State) : State :=
  let mean := s.stringSoc
  let low := decide (mean ≤ 12000)
  let high := decide (88000 ≤ mean)
  if !s.socModeIs 3 || !(low || high) then s
  else
    match s.soc.testRest with
    | none =>
      let t : TestRest := { low := low, model := allCells.map (fun k => if cells.contains k then some (s.socOf k) else none), counted := allCells.map s.countedOf }
      (s.modSoc (fun e => { e with testRest := some t })).put K.testTestState (if low then 2 else 3)
    | some t =>
      if t.low = low then s
      else
        let s := s.each cells (fun k s =>
          match t.model.getD k.val none with
          | none => s
          | some m0 =>
            let m := s.socOf k
            let n := learnCap (s.cell k).cap (s.countedOf k - t.counted.getD k.val 0) (m - m0)
            (s.modCell k (fun c => { c with cap := n })).setCell k m)
        let s := (s.modSoc (fun e => { e with testRest := none, tests := e.tests + 1 })).raise0 Cause.capacityLearned
        let s := (s.put K.testTestState 4).raise0 Cause.testDone
        (s.journalTrigger false true).enterRecovery

/-- The cells a REST sweep sets, `marks` its mark of each unit. -/
def State.restList (marks : List Nat) (s : State) : List (Fin 512) :=
  s.cellsIn.filter (s.correctable (Vector.ofFn (fun u : Fin 32 => some (marks.getD u.val 3))))

/-- Cells set to their model state of charge with the rest correction (R302). -/
def State.restCells (cells : List (Fin 512)) (s : State) : State :=
  let iw := s.get K.sweepWindowCurrent
  s.each cells (fun k s => s.setCell k (s.modelOf (s.relaxedVoltage k (s.cellVolt k) iw)).1)

/-- What a rest leaves known: the spread of each unit, the current offset (R302, R309). -/
def State.restKnown (marks : List Nat) (s : State) : State :=
  let reached := fun u : Fin 32 => decide (marks.getD u.val 3 ≤ 1)
  let dev := s.getN K.socCfgRestDeviation
  let count := s.unitCount
  let now := s.now
  let s := s.modSoc (fun e => { e with
    sigma := Vector.ofFn (fun u : Fin 32 =>
      if u.val < count ∧ reached u then { atRest := dev, restAt := now } else e.sigma[u])
    restSweep := none, restSample := none, lastRestAt := now, asked := false })
  match s.soc.burstMean with
  | some m => s.put K.socCurrentOffset (clampInt (s.get K.socCurrentOffset - 50000) (s.get K.socCurrentOffset + 50000) m)
  | none => s

/-- The request and the hold end with a rest (R307, R308). -/
def State.restEnds (s : State) : State :=
  let st : Nat := s.getN K.quietQuietRequest
  if st = 1 then s.put K.quietQuietRequest 0 else if st = 3 then s.put K.quietQuietRequest 2 else s

/-- SOC_REST_TAKEN (R302): the rest time is over and its REST sweep is complete. Floor and ceiling follow at the next sweep
(R299). -/
def execSocRestTaken (s : State) : Out :=
  match s.soc.restSweep with
  | none => .next s
  | some marks =>
    let cells := s.restList marks
    let s := (s.restCells cells).restKnown marks
    let s := ((s.put K.socLastRest s.ft).inc K.socRests).raise0 Cause.socRestTaken
    let s := (s.socFlag 0 false).restEnds
    let s := s.when (s.socModeIs 1 || s.socModeIs 4) (State.setSocMode 2)
    let s := s.when (!s.soc.restSinceStart) (fun s =>
      (s.modSoc (fun e => { e with restSinceStart := true })).journalTrigger false true)
    .next (s.testAtRest cells)

/-- TAPER_TIMEOUT (R305, Table 11-1). -/
def execTaperTimeout (s : State) : Out :=
  if (s.socModeIs 1 || s.socModeIs 4) ∧ s.soc.modeAt + s.getN K.taperTaperTimeout * 60 * sec ≤ s.now then
    .next ((s.raise0 Cause.taperTimeout).setSocMode 2)
  else .next s

/-! ### Quiet windows (R307, R308) -/

/-- QUIET_WINDOW_REQUESTED (R307). -/
def execQuietWindowRequested (s : State) : Out :=
  let due := s.socModeIs 1 || s.socModeIs 4 ||
    (decide (s.getN K.socMode ≠ 0) && decide (s.soc.lastRestAt + s.getN K.socCfgRequestTime * 60 * sec ≤ s.now))
  .next (s.when due State.requestQuiet)

/-- SOC_UNCERTAIN (R307). -/
def execSocUncertain (s : State) : Out :=
  let due := decide (s.soc.lastRestAt + s.getN K.socCfgUncertainTime * 60 * sec ≤ s.now)
  if due ∧ !(s.getN K.socEstimateFlags).testBit 0 then .next ((s.socFlag 0 true).raise0 Cause.socUncertain) else .next s

/-- Open a quiet window of a duration in ms from an FT (R308): the later end stands. -/
def State.openQuiet (at_ ms_ : Nat) (s : State) : State :=
  let isOpen := decide (2 ≤ s.getN K.quietQuietRequest)
  let s := s.put K.quietWindowEnd ((if isOpen then max (s.getN K.quietWindowEnd) (at_ + ms_ * ms) else at_ + ms_ * ms : Nat) : Int)
  if isOpen then s
  else (s.put K.quietQuietRequest 2).modSoc (fun e => { e with holdBegan := false })

/-- QUIET_WINDOW_WRITE (R308). -/
def execQuietWindowWrite (w : HostWrite) (s : State) : Out :=
  .next (s.hostWrite K.quietQuietWindow w (fun v s => (s.openQuiet s.ft v.toNat).ok))

/-- QUIET_HOLD_BEGIN (R308). -/
def execQuietHoldBegin (s : State) : Out :=
  let waits := decide (s.getN K.testTestState = 2) || decide (s.getN K.testTestState = 3)
  if s.getN K.quietQuietRequest = 2 ∧ !s.soc.holdBegan ∧ 1000000 ≤ s.soc.quietRun ∧ s.getN K.limitLimitState = 0 ∧ !waits then
    let s := (s.put K.quietQuietRequest 3).inc K.quietWindowsUsed
    .next ((s.modSoc (fun e => { e with holdBegan := true })).modPow (fun p => { p with
      holdCap := some (s.getN K.socCfgRestCurrent * 1000) }))
  else .next s

/-- QUIET_WINDOW_ABANDONED (R308): the demand exceeds the rest current for 1 ms, or the bus leaves its reference by more than
10 V. -/
def execQuietWindowAbandoned (s : State) : Out :=
  let away := decide (10000 < (s.busMilli - (s.pow.refMicro : Int) / 1000).natAbs)
  if s.quietHolding && (decide (1000 ≤ s.soc.demandRun) || away) then
    .next (((s.put K.quietQuietRequest 2).inc K.quietHoldsAbandoned).raise0 Cause.quietWindowAbandoned)
  else .next s

/-- QUIET_WINDOW_MISSED (R308). -/
def execQuietWindowMissed (s : State) : Out :=
  if s.getN K.quietQuietRequest = 2 ∧ !s.soc.holdBegan ∧ s.getN K.quietWindowEnd ≤ s.ft then
    .next ((s.quietIdle.inc K.quietWindowsMissed).raise0 Cause.quietWindowMissed)
  else .next s

/-! ### Capacity test and reset (R305, R309) -/

/-- A write of 0x6203.01: TEST_START in NORMAL only, TEST_ABORT (DESIGN CHOICE, notes/assumptions/51). -/
def State.testCommand (v : Int) (s : State) : State × Nat :=
  if v = 1 then
    if s.socModeIs 2 then
      (((s.put K.testTestState 1).modSoc (fun e => { e with testAt := s.now, testRest := none })).setSocMode 3).ok
    else s.refuse Cause.functionRunning
  else if s.socModeIs 3 then s.enterRecovery.ok
  else s.ok

/-- TEST_START. -/
def execTestStart (sess : Nat) (s : State) : Out := .next (s.hostWrite K.testTestCommand (oneByte sess 1) State.testCommand)

/-- TEST_ABORT. -/
def execTestAbort (sess : Nat) (s : State) : Out := .next (s.hostWrite K.testTestCommand (oneByte sess 2) State.testCommand)

/-- CAPACITY_TEST_TIMEOUT (R309); a hold in progress completes first (Table 11-3). -/
def execCapacityTestTimeout (s : State) : Out :=
  if s.socModeIs 3 ∧ s.soc.testAt + s.getN K.testTestTimeout * 60 * sec ≤ s.now ∧ !s.quietHolding then
    .next s.enterRecovery
  else .next s

/-- ESTIMATE_RESET (R305, Table 11-3): s_k from R300 as at start without a slot (DESIGN CHOICE, notes/assumptions/49). -/
def State.estimateReset (s : State) : State × Nat :=
  let s := s.modSoc (fun e => { e with
    forming := some true
    sigma := Vector.replicate 32 { atRest := 10000, restAt := s.now } })
  (s.askSweep 2 s.ft).enterRecovery.ok

/-- ESTIMATE_RESET. -/
def execEstimateReset (sess : Nat) (s : State) : Out :=
  .next (s.hostWrite K.socEstimateReset (oneByte sess 1) (fun _ s => s.estimateReset))

/-! ### The journal (R311 to R314) -/

/-- Is sequence a newer than b by the rule of R104? -/
def journalNewer (a b : Nat) : Bool :=
  let d := (a + 2 ^ 32 - b % 2 ^ 32) % 2 ^ 32
  decide (d ≠ 0) && decide (d < 2 ^ 31)

/-- The record of a slot. -/
def JournalSlot.record : JournalSlot → Option JournalRec
  | .valid r => some r
  | _ => none

/-- State of a slot as 0x6210.03 and .04 show it. -/
def JournalSlot.code : JournalSlot → Nat
  | .valid _ => 0
  | .torn => 1
  | .empty => 2

/-- Does slot B hold the newest valid record? -/
def SocState.newestIsB (e : SocState) : Bool :=
  match e.slotA.record, e.slotB.record with
  | _, none => false
  | none, some _ => true
  | some a, some b => journalNewer b.seq a.seq

/-- The newest valid record (R314). -/
def SocState.newest (e : SocState) : Option JournalRec := if e.newestIsB then e.slotB.record else e.slotA.record

/-- Show the slots. -/
def State.showSlots (s : State) : State :=
  let s := (s.put K.journalSlotAState s.soc.slotA.code).put K.journalSlotBState s.soc.slotB.code
  s.put K.journalNewestSequence ((s.soc.newest.map (·.seq)).getD 0)

/-- The record that a write would make now (Table 11-2). -/
def State.journalRecord (s : State) (atHalt afterRest : Bool) : JournalRec :=
  { atHalt := atHalt, afterRest := afterRest, cells := 16 * s.unitCount
    seq := ((s.soc.newest.map (fun r => r.seq + 1)).getD 1) % 2 ^ 32
    ft := if s.time.mode = .invalid then 0 else s.ft, hours := s.getN K.moduleOperatingHours, soc := s.getN K.socStringStateOfCharge, sigma := min s.sigma 65535
    lastRest := s.getN K.socLastRest, offset := s.get K.socCurrentOffset, throughput := s.getN K.socChargeThroughput
    tests := s.soc.tests
    caps := allCells.map (fun k => min (s.cell k).cap 65535)
    ress := allCells.map (fun k => min (rheNat (s.cell k).res 1000000) 65535)
    socs := allCells.map (fun k => (percent2 (s.socOf k)).toNat) }

/-- JOURNAL_INTERVAL (R312). -/
def execJournalInterval (s : State) : Out :=
  if s.soc.lastWriteAt + s.getN K.journalJournalInterval * 60 * sec ≤ s.now ∧ s.soc.trigger.isNone then
    .next (s.journalTrigger false false)
  else .next s

/-- WRITE_NOW (R312). -/
def execWriteNow (sess : Nat) (s : State) : Out :=
  .next (s.hostWrite K.journalWriteNow (oneByte sess 1) (fun _ s => (s.journalTrigger false false).ok))

/-- May a write start now (R313)? -/
def State.mayJournal (s : State) : Bool :=
  decide (s.getN K.journalJournalThreshold ≤ s.getN K.supplyHoldEnergy) && decide (11400 ≤ s.getN K.supplyV12) &&
  !s.md.onHold && !s.md.mainLoss

/-- A trigger is given up until the next one (R313). -/
def State.skipJournal (s : State) : State :=
  ((s.modSoc (fun e => { e with trigger := none, retries := 0 })).inc K.journalWritesSkipped).raise0 Cause.journalSkipped

/-- Put a slot. -/
def State.setSlot (b : Bool) (x : JournalSlot) (s : State) : State :=
  (s.modSoc (fun e => if b then { e with slotB := x } else { e with slotA := x })).showSlots

/-- JOURNAL_WRITE_START (R313, R314): the slot that does not hold the newest valid record is written, and is torn until the
write completes. -/
def execJournalWriteStart (s : State) : Out :=
  match s.soc.trigger, s.soc.writing with
  | some t, none =>
    if s.mayJournal then
      let b := !s.soc.newestIsB && s.soc.newest.isSome
      let r := s.journalRecord t.1 t.2
      .next (s.modSoc (fun e => { e with trigger := none, retries := 0, writing := some (b, r) }) |>.setSlot b .torn)
    else if t.1 || s.md.mainLoss || s.md.onHold then .next s.skipJournal
    else .next (s.modSoc (fun e => { e with triedAt := s.now }))
  | _, _ => .next s

/-- JOURNAL_RETRY (R313): every 1 s for 60 s. -/
def execJournalRetry (s : State) : Out :=
  match s.soc.trigger, s.soc.writing with
  | some _, none =>
    if s.soc.triedAt + sec ≤ s.now then
      if 60 ≤ s.soc.retries + 1 ∧ !s.mayJournal then .next s.skipJournal
      else execJournalWriteStart (s.modSoc (fun e => { e with retries := e.retries + 1, triedAt := s.now }))
    else .next s
  | _, _ => .next s

/-- JOURNAL_WRITTEN (R312). -/
def execJournalWritten (s : State) : Out :=
  match s.soc.writing with
  | none => .next s
  | some (b, r) =>
    let s := (s.modSoc (fun e => { e with writing := none, lastWriteAt := s.now })).setSlot b (.valid r)
    .next ((((s.inc K.journalWrites).put K.journalLastWrite s.ft).raise Cause.journalWritten (args0 [(r.seq, 4)])))

/-- Step 8 of the start (R306, R314): the journal is read and a REST sweep asked for; JOURNAL_SLOT_TORN for each torn
slot, JOURNAL_EMPTY with no valid one (DESIGN CHOICE, notes/assumptions/116). -/
def State.socStart (s : State) : State :=
  let e := s.soc
  let s := s.when (decide (e.slotA = .torn)) (State.raiseOn Cause.journalSlotTorn 0)
  let s := s.when (decide (e.slotB = .torn)) (State.raiseOn Cause.journalSlotTorn 1)
  let s := s.showSlots
  let dev := s.getN K.taperStartDeviation
  let s := s.modSoc (fun e => { e with drawn := 0, lastRestAt := s.now, restSinceStart := false, lastWriteAt := s.now })
  let s := match e.newest with
    | some r =>
      let cells := Vector.ofFn (fun k : Fin 512 =>
        let cap := r.caps.getD k.val 0
        { charge := (r.socs.getD k.val 0 : Nat) * 10 * (cap * 36000000 : Nat), cap := cap
          res := r.ress.getD k.val 0 * 1000000, xfer := 0 : CellSt })
      let s := s.modSoc (fun e => { e with
        cells := cells, forming := some false, tests := r.tests, throughput := r.throughput * 1000000
        sigma := Vector.replicate 32 { atRest := max r.sigma dev, restAt := s.now } })
      (s.put K.socCurrentOffset r.offset).put K.socLastRest r.lastRest
    | none =>
      let s := s.modSoc (fun e => { e with
        cells := Vector.replicate 512 { charge := 0, cap := 40000, res := 1000000000, xfer := 0 }, forming := some true
        sigma := Vector.replicate 32 { atRest := 10000, restAt := s.now } })
      s.raise0 Cause.journalEmpty
  s.askSweep 2 s.ft

/-! ### Balancing (R295) -/

/-- δ of the string's cells in 0.01 %, by the estimator or by the rest voltages; none when balancing waits. The number is
the reference of 0x6020.07 (DESIGN CHOICE, notes/assumptions/50). -/
def State.deltas (s : State) : Nat × List (Fin 512 × Int) :=
  if s.getN K.socMode ≠ 0 then
    let mean := s.stringSoc
    (0, s.cellsIn.map (fun k => (k, rheDiv (s.socOf k - mean) 10)))
  else if s.chn.rest.length = 16 * s.unitCount ∧ s.chn.rest ≠ [] then
    let mean := meanInt (s.chn.rest.map Int.ofNat)
    (1, s.cellsIn.map (fun k => (k, rheDiv ((((s.chn.rest.getD k.val 0 : Nat) : Int) - mean) * 10000) (max mean 1).toNat)))
  else (2, [])

/-- The most deviant cell of a list, the first among equals. -/
def mostDeviant : List (Fin 512 × Int) → Option (Fin 512 × Int)
  | [] => none
  | x :: rest => some (rest.foldl (fun b y => if b.2.natAbs < y.2.natAbs then y else b) x)

/-- The balancing pass on one unit (R295). -/
def State.balanceUnit (d : List (Fin 512 × Int)) (u : Fin 32) (s : State) : State :=
  let fromA := decide (s.getN (K.unitPath u) ≠ 1)
  let word := s.getN (K.unitBalancing u)
  let own := d.filter (fun e => decide (unitOf e.1 = u) && !s.inhibited u ⟨e.1.val % 16, by omega⟩ (decide (0 < e.2)))
  match mostDeviant own with
  | none => s.when (word.testBit 15) (State.balance fromA u none 0)
  | some (k, x) =>
    let busy := word.testBit 15 && decide (word % 16 = k.val % 16)
    if s.getN K.balStartThreshold ≤ x.natAbs ∨ (busy ∧ s.getN K.balStopThreshold < x.natAbs) then
      s.balance fromA u (some (⟨k.val % 16, by omega⟩, decide (0 < x))) ((s.getN K.balBalancingInterval + 1) * 1000)
    else s.balance fromA u none 0

/-- BALANCING_INTERVAL (R295) (DESIGN CHOICE, notes/assumptions/50). -/
def execBalancingInterval (s : State) : Out :=
  if s.getB K.chainChainMaster && s.getB K.balBalancingEnable &&
      decide (s.chn.balanceAt + s.getN K.balBalancingInterval * sec ≤ s.now) then
    let d := s.deltas
    let s := (s.put K.balReference d.1).modChain (fun c => { c with balanceAt := s.now })
    .next (s.when (decide (d.1 ≠ 2)) (fun s =>
      s.each (s.configured.filter (fun u => decide (s.unitStateOf u = 3))) (State.balanceUnit d.2)))
  else .next s

end Sys2Proof.Machine
end

