-- ==== Sys2Proof/Machine/Saffron.lean ====
section
/-! DEFINITION. The Saffron engine: tiles and rotation, features, the fast and slow tiers, divergence and trust, images,
residences and swaps (spec/08, spec/09). -/

namespace Sys2Proof.Machine

/-! ### Tiles (R212, R243, R244) -/

def allTiles : List (Fin 64) := List.finRange 64
def allRes : List (Fin 6) := List.finRange 6

def State.modSaf (f : SafState → SafState) (s : State) : State := { s with saf := f s.saf }

/-- Failed tile map (0x5000.04). -/
def State.tileFailed (s : State) (t : Nat) : Bool := (s.getN K.safFailedTileMap).testBit t

/-- The offline tile, 255 for none (0x5030.03). -/
def State.offline (s : State) : Nat := s.getN K.rotOfflineTile

/-- Is a tile held out of use: failed or offline? -/
def State.tileOut (s : State) (t : Nat) : Bool := s.tileFailed t || decide (s.offline = t)

/-- Physical tiles usable now, ascending. -/
def State.usableTiles (s : State) : List (Fin 64) := allTiles.filter (fun t : Fin 64 => !s.tileOut t.val)

/-- The physical tile of a logical one. -/
def State.physical (s : State) (l : Nat) : Option (Fin 64) := allTiles.find? (fun t : Fin 64 => decide (s.getN (K.tileLogicalTile t) = l))

/-- Tile states (Table 8-15) and the count of usable tiles. -/
def State.showTiles (s : State) : State :=
  let off := s.safEnable = 0
  let s := s.put K.safUsableTiles s.usableTiles.length
  s.each allTiles (fun t s => s.put (K.tileState t)
    (if s.tileFailed t then 4 else if off then 0
     else if s.offline = t.val then (match s.saf.rotation with | .copying _ _ => 3 | _ => 2)
     else if s.getN (K.tileLogicalTile t) < 64 then 1 else 5))

/-- Logical tiles that the images in force number. -/
def State.tilesInForce (s : State) : Nat :=
  maxNat ((allRes.filter (fun r : Fin 6 => decide (s.getN (K.resState r) = 3))).map (fun r => ((s.saf.res[r]).map (·.tiles)).getD 0))

/-- Give every logical tile that the images in force number a physical tile, the free usable ones in ascending order; the
physical tile of any other becomes free (R212). -/
def State.mapTiles (s : State) : State :=
  let n := s.tilesInForce
  let s := s.each allTiles (fun t s => s.when (decide (n ≤ s.getN (K.tileLogicalTile t))) (State.put (K.tileLogicalTile t) 255))
  s.each (List.range n) (fun l s =>
    if (s.physical l).isSome then s
    else match s.usableTiles.find? (fun t : Fin 64 => decide (s.getN (K.tileLogicalTile t.val) = 255)) with
      | some t => s.put (K.tileLogicalTile t) l
      | none => s)

/-! ### Images in force (R247) -/

def State.resImg (s : State) (r : Option (Fin 6)) : Option SafImage :=
  match r with
  | some r => s.saf.res[r]
  | none => none

def State.fastImg (s : State) : Option SafImage := s.resImg (s.resInForce true)
def State.slowImg (s : State) : Option SafImage := s.resImg (s.resInForce false)

/-- Slow tick in µs (0x5002.01); is the fabric time at a slow boundary (R225)? -/
def State.slowTick (s : State) : Nat := s.getN K.safSlowTick
/-- The model's choice (DESIGN CHOICE, notes/assumptions/55). -/
def State.atSlowBoundary (s : State) : Bool := decide (s.ft / 1000 % s.slowTick = 0)

/-- Show the figures of the images in force. -/
def State.showImages (s : State) : State :=
  let f := s.fastImg
  let w := s.slowImg
  let num := fun o : Option Nat => ((o.getD 0 : Nat) : Int)
  let s := ((s.put K.safFastTilesDeclared (num (f.map (·.tiles)))).put K.safFastWorstCase (num (f.map SafImage.tierCycles))).put
    K.safFastFeatures (num (f.map (·.nFeatures)))
  let s := ((s.put K.safSlowWorstCase (num (w.map SafImage.tierCycles))).put K.safSlowFeatures (num (w.map (·.nFeatures)))).put
    K.safStreamDeclared (num (w.map SafImage.streams))
  (s.put K.safSlowCyclesAvailable ((1536 - (f.map SafImage.tierCycles).getD 0) * s.slowTick : Nat)).put K.safStreamBudget
    (1083750 * s.slowTick : Nat)

/-! ### Divergence and trust (R238 to R242) -/

/-- Set or clear a divergence bit of 0x5020.01: 0 error, 1 chips, 2 forced (DESIGN CHOICE, notes/assumptions/53). -/
def State.setDiv (bit : Nat) (on : Bool) (s : State) : State :=
  let old := s.getN K.divDivergenceState
  let new := if on then old ||| 2 ^ bit else old &&& (255 - 2 ^ bit)
  if new = old then s
  else
    let s := s.put K.divDivergenceState new
    let s := s.when (decide (old = 0)) (State.inc K.divDivergenceEpisodes)
    if on then s.raise Cause.saffronDivergence (args0 [(bit, 1)])
    else s.when (decide (new = 0)) (State.raise0 Cause.saffronAgreement)

/-- Number of untrusted chips. -/
def State.untrustedCount (s : State) : Nat := ((List.range 192).filter (fun c => s.saf.untrusted.getLsbD c)).length

/-- Show the untrusted map and count, and follow the time at or below half the limit (R241). -/
def State.showTrust (s : State) : State :=
  let n := s.untrustedCount
  let s := (s.put K.divUntrustedCount n).putBytes K.divUntrustedMap (leBytes 24 s.saf.untrusted.toNat)
  let low := decide (2 * n ≤ s.getN K.divUntrustedLimit)
  let s := s.modSaf (fun x => { x with lowSince := if low then some (x.lowSince.getD s.now) else none })
  s.when (decide (s.getN K.divUntrustedLimit < n)) (State.setDiv 1 true)

/-- ESTIMATE_UNTRUSTED (R240): its frames, one in 10 µs, have disagreed for the untrusted time. -/
def execEstimateUntrusted (t : Fin 24) (k : Fin 8) (s : State) : Out :=
  let c := chipOf t k
  if s.getN K.divUntrustedTime * 100 ≤ (s.tray t).disagree[k] ∧ !s.saf.untrusted.getLsbD c then
    .next ((s.modSaf (fun x => { x with untrusted := x.untrusted ||| (1#192 <<< c) })).showTrust.raise Cause.estimateUntrusted
      (args c []))
  else .next s

/-- ESTIMATE_TRUSTED (R240). -/
def execEstimateTrusted (t : Fin 24) (k : Fin 8) (s : State) : Out :=
  let c := chipOf t k
  if s.getN K.divTrustReturnTime * 100 ≤ (s.tray t).agree[k] ∧ s.saf.untrusted.getLsbD c then
    .next ((s.modSaf (fun x => { x with untrusted := x.untrusted &&& ~~~(1#192 <<< c) })).showTrust.raise Cause.estimateTrusted
      (args c []))
  else .next s

/-- DIV_CHIPS_CLEAR (R241) (DESIGN CHOICE, notes/assumptions/53). -/
def execDivChipsClear (s : State) : Out :=
  match s.saf.lowSince with
  | some t => if t + 10 * ms ≤ s.now then .next (s.setDiv 1 false) else .next s
  | none => .next s

/-- The error monitor at a boundary (R238). The newest history entry is this boundary's (DESIGN CHOICE, notes/assumptions/53). -/
def State.errorMonitor (s : State) : State :=
  let h := s.getN K.divErrorHorizon
  let back := h + s.getN K.divErrorLag
  let load := s.controlMilli 45
  let term := match s.saf.hist[back]? with
    | some e => e.set.map (fun f => (rheDiv (f.values.getD h 0 * 2000000) 32768 - load).natAbs)
    | none => none
  let errs := (term :: s.saf.errs).take 1024
  let present := errs.filterMap id
  let mean := if present.isEmpty then 0 else (rheDiv (present.sum : Nat) present.length).toNat
  let s := s.put K.divMeanAbsoluteError (min mean (2 ^ 32 - 1) : Nat)
  let low := decide (mean ≤ s.getN K.divErrorClearThreshold)
  let run := if low then min (s.saf.clearRun + 1) 4096 else 0
  let s := s.modSaf (fun x => { x with errs := errs, clearRun := run })
  if s.getN K.divErrorSetThreshold < mean then s.setDiv 0 true
  else if decide (4096 ≤ run) then s.setDiv 0 false
  else s

/-! ### Saturations (R219) -/

/-- The first saturation anywhere in any second is recorded. -/
def State.noteSaturation (s : State) : State :=
  let second := s.ft / sec
  if s.saf.satSaid = some second then s
  else (s.modSaf (fun x => { x with satSaid := some second })).raise0 Cause.saffronSaturation

/-- Count the saturations of a stage or a tier on the physical tiles. -/
def State.countSats (l : List (Nat × SatKind × Nat)) (s : State) : State :=
  let s := s.each l (fun e s =>
    match s.physical e.1 with
    | some t => s.countBy 32 (match e.2.1 with
        | .acc => K.tileAccumulatorSaturations t
        | .store => K.tileStoreSaturations t
        | .scan => K.tileScanSaturations t) e.2.2
    | none => s)
  s.when (!l.isEmpty) State.noteSaturation

/-! ### Features (R231 to R234) -/

/-- Time in ticks since a local time, as a Q15 integer. -/
def State.ageTicks (s : State) (at_ : Nat) : Int := ((min (rheNat (s.now - at_) us) 32767 : Nat) : Int)

/-- A quantity as Q15 of a full scale, saturating. -/
def q15Of (x : Int) (full : Nat) : Int := sat15 (rheDiv (x * 32768) full)

/-- A flag as a feature. -/
def flagQ (b : Bool) : Int := if b then 0x7FFF else 0

/-- Is the tray, or the chip, of a feature source there (R232)? -/
def State.featPresent (s : State) (kind i : Nat) : Bool :=
  match kind with
  | 2 => decide (2 ≤ s.trayStateOf (i / 8)) && (s.getN (K.trayChipsPresent (i / 8))).testBit (i % 8)
  | 3 => decide (2 ≤ s.trayStateOf i)
  | _ => true

/-- Value of a feature source that is there (Table 8-9), before it saturates to Q15. -/
def State.featValue (s : State) (kind i field : Nat) : Int :=
  let port := fun p : Nat => s.card.snap.ports.get zeroDflt p
  let q15Of := fun (x : Int) (full : Nat) => rheDiv (x * 32768) full
  match kind with
  | 1 => port i
  | 2 =>
    let p := s.get (K.chipMeasuredPower i)
    let trusted := !s.saf.untrusted.getLsbD i
    match field with
    | 0 => q15Of p 4000
    | 1 => q15Of (if trusted then s.get (K.chipActivityEstimate i) else p) 4000
    | 2 => flagQ trusted
    | 3 => q15Of (s.get (K.chipCeilingInForce i) % 32768) 4000
    | 4 => q15Of (s.get (K.chipFloorInForce i)) 4000
    | _ => flagQ (s.chipThrottled i)
  | 3 =>
    match field with
    | 0 => q15Of (s.get (K.trayTrayPower i)) 32000
    | 1 => flagQ (decide (s.get (K.trayCoolant i) = 0))
    | _ => flagQ (decide (2 ≤ s.trayStateOf i))
  | 4 =>
    match s.saf.marks[i]? with
    | none => 0
    | some m =>
      match field with
      | 0 => ((m.fire : Int) - s.ft) / 1000
      | 1 => q15Of m.watts 1000000
      | 2 => rheDiv m.duration 16
      | _ => if m.active then 0x7FFF else 0x4000
  | 5 => toSigned 16 (((s.card.cloveRegs.toList.getD i 0).toNat) / 65536)
  | 6 =>
    match field with
    | 0 => q15Of (rheDiv (s.busMilli * s.controlMilli 45) 1000000) 1000000
    | 1 => rheDiv (port 0x45) 65536
    | 2 => q15Of (s.get K.ledgerUpRampInForce) 100000
    | 3 => q15Of (s.get K.ledgerDownRampInForce) 100000
    | 4 => port 0x46
    | 5 => port 0x47
    | 6 => port 0x48
    | 7 => port 0x42
    | _ => port 0x40
  | 7 =>
    match s.saf.hist[i]? with
    | none => 0
    | some e => if field = 0 then (e.set.map (fun f => f.values.getD 0 0)).getD 0 else e.load
  | 8 => s.saf.mem.ctx.get zeroDflt i
  | 9 =>
    match field with
    | 0 => s.get K.safContextAge
    | 1 => flagQ s.saf.staleSaid
    | 2 => s.get K.divUntrustedCount
    | 3 => flagQ (s.getB K.legacyEnable)
    | _ => ((s.ft / 1000 % 32768 : Nat) : Int)
  | _ => 0

/-- The source value of a feature as a Q15 quantity, and whether it saturated (R231); an absent source gives 0 (R232). -/
def State.featSource (s : State) (kind i field : Nat) : Int × Bool :=
  let t := if s.featPresent kind i then s.featValue kind i field else 0
  (sat15 t, decide (sat15 t ≠ t))

/-- Age of a feature source in ticks: tray and chip fields count from the frame that brought them. -/
def State.featAgeOf (s : State) (kind i field : Nat) : Int :=
  let tray := fun (t : Nat) (status : Bool) =>
    if h : t < 24 then s.ageTicks (if status then (s.tray ⟨t, h⟩).statusAt else (s.tray ⟨t, h⟩).reportAt) else 0
  match kind with
  | 2 => if field ≤ 1 then tray (i / 8) false else if field = 5 then tray (i / 8) true else 0
  | 3 => tray i false
  | 7 => min i 32767
  | 8 => min (s.getN K.safContextAge * s.slowTick) 32767
  | _ => 0

/-- A feature element: its source times 2^SHIFT, saturated, and how many saturations it took (R231). -/
def State.feature (s : State) (e : BitVec 32) : Int × Nat :=
  let v := if featAge e then (s.featAgeOf (featKind e) (featIndex e) (featField e), false)
    else s.featSource (featKind e) (featIndex e) (featField e)
  let t := shiftRhe v.1 (featShift e)
  (sat15 t, (if v.2 then 1 else 0) + (if sat15 t = t then 0 else 1))

/-- A waveform window (R234): means of D consecutive samples, oldest first, ending at this boundary. -/
def State.windowOf (s : State) (w : SafWindow) : List Int :=
  let d := decimation w.dec
  let at_ := fun i : Nat => ((s.saf.wave[i]?).map (fun l => l.getD w.chan 0)).getD 0
  (List.range w.len).map (fun j =>
    let start := (w.len - 1 - j) * d
    rheDiv ((List.range d).map (fun i => at_ (start + i))).sum d)

/-- Gather a feature vector; saturations are counted (R231). -/
def State.gather (i : SafImage) (s : State) : List Int × State :=
  let fs := i.features.map s.feature
  let n := (fs.map (·.2)).sum
  let v := fs.map (·.1) ++ i.windows.flatMap s.windowOf
  (v, s.when (decide (0 < n)) (fun s => (s.countBy 32 K.safGathererSaturations n).noteSaturation))

/-! ### The fast tier (R222, R223, R236, R237) -/

/-- Environment of a tier's stages: the fast image's exchange scratch lies above the slow image's (R254). -/
def State.stageEnv (s : State) (i : SafImage) (feat : List Int) : StageEnv :=
  { img := i, fast := i.fast, feat := feat, exchBase := if i.fast then (s.slowImg.map (fun x => x.exchBytes / 2)).getD 0 else 0 }

/-- An element of the output map: the named output times 2^SHIFT, saturated (Table 8-10). -/
def outputEntry (m : SafMem) (e : BitVec 16) : Int × Bool :=
  let t := shiftRhe (m.outVec.get zeroDflt (e.toNat % 4096)) ((e >>> 12).setWidth 4).toInt
  (sat15 t, decide (sat15 t ≠ t))

/-- Forecast status word of the set staged at this boundary (Table 8-11, R239). -/
def State.forecastStatus (s : State) : Nat :=
  let d := s.getN K.divDivergenceState
  (bitsOf [d.testBit 0, decide (d ≠ 0), d.testBit 1, d.testBit 2, s.saf.staleSaid, s.slowImg.isNone,
    (match s.saf.rotation with | .copying _ _ => true | _ => false)])

/-- Put the set in force into 0x5100. -/
def State.showSet (f : ForecastSet) (s : State) : State :=
  let s := (s.putBytes K.fsetForecastValues (f.values.flatMap (fun v => leBytes 2 (toUnsigned 16 v)))).put K.fsetConfidence f.conf
  ((s.put K.fsetForecastStatus f.status).put K.fsetSetFT f.ft).put K.fsetSetSequence f.seq

/-- FORECAST_PUBLISH (R222): the staged set comes into force at the boundary, or FV is clear. -/
def State.safPublish (s : State) : State :=
  match s.saf.staged with
  | none => (s.modSaf (fun x => { x with now := none })).inc64 K.safBoundariesWithoutSet
  | some f =>
    let seq := (s.saf.setSeq + 1) % 2 ^ 32
    let f := { f with seq := seq, ft := s.ft }
    let s := s.modSaf (fun x => { x with
      now := some f, staged := none, setSeq := seq, overRun := 0
      published := x.published || x.newFast, newFast := false })
    (s.inc64 K.safSetsPublished).showSet f

/-- May the fast tier compute now? -/
def State.fastRuns (s : State) : Bool := decide (s.saf.fastWait = .none) && decide (1 ≤ s.safEnable) && s.fastImg.isSome

/-- A load whose time has come lets its tier compute. -/
def TierWait.due (w : TierWait) (now : Nat) : TierWait :=
  match w with
  | .load t => if t ≤ now then .none else w
  | _ => w

/-- FAST_COMPUTE (R222): features as of the boundary into the buffer of this tick (R214), the stages, the output map, the
staged set (DESIGN CHOICE, notes/assumptions/114). -/
def State.fastCompute (s : State) : State :=
  match s.fastImg with
  | none => s
  | some i =>
    if !s.fastRuns then s
    else
      let g := s.gather i
      let s := g.2
      let o := runStages (s.stageEnv i g.1) i.stages s.saf.mem
      let out := i.outputs.map (outputEntry o.mem)
      let n := (out.filter (·.2)).length
      let f : ForecastSet := {
        values := (out.take 64).map (·.1), conf := max ((out.map (·.1)).getD 64 0) 0, status := s.forecastStatus, seq := 0, ft := 0 }
      let s := (s.modSaf (fun x => { x with mem := o.mem, staged := some f, featNow := g.1, featLast := x.featNow })).countSats o.sats
      let s := s.putMax K.safFastEndHighMark ((128 + i.tierCycles : Nat) : Int)
      s.when (decide (0 < n)) (fun s => (s.countBy 32 K.safOutputMapSaturations n).noteSaturation)

/-- A boundary of the engine once the snapshot is taken: rings, error monitor, loads that end, the frame's compute. -/
def State.safFrame (s : State) : State :=
  let samples := (List.range 48).map (fun c => s.get (K.chanControlSample c))
  let s := s.modSaf (fun x => { x with
    wave := (samples :: x.wave).take 60000000
    hist := ({ set := x.now, load := samples.getD 45 0 } :: x.hist).take 1025
    fastWait := x.fastWait.due s.now
    slowWait := x.slowWait.due s.now })
  s.errorMonitor.fastCompute

/-- Stop the fast tier until the host reloads it (R223). -/
def State.fastStop (s : State) : State :=
  (s.modSaf (fun x => { x with fastWait := .stopped, staged := none })).raise0 Cause.saffronFastStopped

/-- SAFFRON_FAST_OVERRUN (R223): the compute is aborted and no set is staged. -/
def execSaffronFastOverrun (s : State) : Out :=
  if !s.fastRuns then .next s
  else
    let s := (s.modSaf (fun x => { x with staged := none, overRun := x.overRun + 1 })).inc K.safFastOverruns
    let second := s.ft / sec
    let s := s.when (decide (s.saf.overSaid ≠ some second)) (fun s =>
      (s.modSaf (fun x => { x with overSaid := some second })).raise0 Cause.saffronFastOverrun)
    .next (s.when (decide (s.getN K.safOverrunStopCount ≤ s.saf.overRun)) State.fastStop)

/-! ### The slow tier (R225 to R228) -/

/-- May the slow tier compute? -/
def State.slowRuns (s : State) : Bool := decide (s.saf.slowWait = .none) && decide (s.safEnable = 2) && s.slowImg.isSome

/-- The context age moves, and beyond the stale limit CTX_STALE is set and recorded once (R227). -/
def State.setAge (n : Nat) (s : State) : State :=
  let s := s.put K.safContextAge (min n 65535 : Nat)
  let stale := decide (s.getN K.safStaleLimit < n)
  let was := s.saf.staleSaid
  (s.modSaf (fun x => { x with staleSaid := stale })).when (stale && !was) (State.raise0 Cause.saffronContextStale)

/-- SLOW_BOUNDARY (R225, R227). The operand says whether the compute of the previous slow tick has ended
(DESIGN CHOICE, notes/assumptions/114). -/
def execSlowBoundary (ended : Bool) (s : State) : Out :=
  if !s.atSlowBoundary then .next s
  else
    let age := s.getN K.safContextAge
    let s := match s.saf.slowFeat, s.slowImg with
      | some v, some i =>
        if ended then
          let o := runStages (s.stageEnv i v) i.stages s.saf.mem
          let s := s.modSaf (fun x => { x with
            mem := { o.mem with ctx := o.mem.ctxNext, ctxNext := o.mem.ctx }
            published := x.published || x.newSlow, newSlow := false })
          ((s.countSats o.sats).inc64 K.safContextsPublished).setAge 1
        else ((s.inc K.safSlowOverruns).raise0 Cause.saffronSlowOverrun).setAge (age + 1)
      | _, some _ => s.setAge (age + 1)
      | _, none => s
    match s.slowImg with
    | some i =>
      if s.slowRuns then
        let g := s.gather i
        .next (g.2.modSaf (fun x => { x with slowFeat := some g.1 }))
      else .next (s.modSaf (fun x => { x with slowFeat := none }))
    | none => .next s

/-- SAFFRON_STREAM_ERROR (R228): the slow compute is aborted and the region is reloaded from flash
(DESIGN CHOICE, notes/assumptions/114). -/
def execSaffronStreamError (s : State) : Out :=
  if s.slowImg.isNone then .next s
  else
    let s := (s.inc K.safStreamErrors).modSaf (fun x => { x with slowFeat := none, slowWait := .reload })
    .next (s.raise0 Cause.saffronStreamError)

/-- SAFFRON_SLOW_RELOADED (R228): the tier starts again at the next slow boundary with its state zero. -/
def execSaffronSlowReloaded (s : State) : Out :=
  match s.slowImg with
  | some i =>
    if s.saf.slowWait = .reload then
      .next (s.modSaf (fun x => { x with mem := loadRegions i x.mem, slowWait := .none }))
    else .next s
  | none => .next s

/-! ### Operators as steps (R220) -/

/-- Stage n of a tier runs, if the tier runs and the stage's operator is the one named. -/
def State.runOperator (op : Nat) (fast : Bool) (n : Nat) (s : State) : State :=
  match (if fast then s.fastImg else s.slowImg) with
  | none => s
  | some i =>
    match i.stages[n]? with
    | none => s
    | some st =>
      if st.op = op ∧ (if fast then s.fastRuns else s.slowRuns) then
        let feat := if fast then s.saf.featNow else s.saf.slowFeat.getD []
        let o := runStage (s.stageEnv i feat) st (i.stages[n + 1]?) s.saf.mem
        (s.modSaf (fun x => { x with mem := o.mem })).countSats o.sats
      else s

/-- MV. -/
def execMv (fast : Bool) (stage : Nat) (s : State) : Out := .next (s.runOperator 1 fast stage)
/-- CONV. -/
def execConv (fast : Bool) (stage : Nat) (s : State) : Out := .next (s.runOperator 2 fast stage)
/-- SCAN. -/
def execScan (fast : Bool) (stage : Nat) (s : State) : Out := .next (s.runOperator 3 fast stage)
/-- GATE. -/
def execGate (fast : Bool) (stage : Nat) (s : State) : Out := .next (s.runOperator 4 fast stage)
/-- EW. -/
def execEw (fast : Bool) (stage : Nat) (s : State) : Out := .next (s.runOperator 5 fast stage)
/-- RMSN. -/
def execRmsn (fast : Bool) (stage : Nat) (s : State) : Out := .next (s.runOperator 6 fast stage)
/-- ATTN: in the fast tier only (R220). -/
def execAttn (stage : Nat) (s : State) : Out := .next (s.runOperator 7 true stage)
/-- EXCH. -/
def execExch (fast : Bool) (stage : Nat) (s : State) : Out := .next (s.runOperator 8 fast stage)

/-! ### Enabling and gating (R229) -/

/-- The tiers as Enable and the junction leave them: gated tiles hold nothing, a suspended slow tier aborts its compute, the
fast tier reloads after gating. -/
def State.safApply (s : State) : State :=
  let e := s.safEnable
  let s := s.when (decide (e = 0)) (State.modSaf (fun x => { x with
    now := none, staged := none
    fastWait := if x.fastWait = .stopped then .stopped else .reload
    slowWait := if x.slowWait = .stopped then .stopped else .reload }))
  let s := s.when (decide (e < 2)) (State.modSaf (fun x => { x with slowFeat := none }))
  let on := decide (e ≠ 0) && s.md.mode.serves && !s.md.poweredOff && !s.md.heldInReset
  { s with md := { s.md with tilesOn := if on then BitVec.allOnes 64 else 0 } }.showTiles

/-- SAFFRON_ENABLE_WRITE (R229): in force at the next tick boundary (R35). -/
def State.enableSaffron (v : Int) (s : State) : State × Nat :=
  let s := s.put K.safEnable v
  { s with md := { s.md with safDue := true } }.ok

/-- SAFFRON_ENABLE_WRITE. -/
def execSaffronEnableWrite (w : HostWrite) (s : State) : Out := .next (s.hostWrite K.safEnable w State.enableSaffron)

/-- FAST_TIER_RESTART (R229, R244): the fast image is in the tiles again, its state zero; the slow image with it. -/
def execFastTierRestart (s : State) : Out :=
  match s.fastImg with
  | some i =>
    if s.saf.fastWait = .reload ∧ 1 ≤ s.safEnable then
      let s := s.modSaf (fun x => { x with mem := loadRegions i x.mem, fastWait := .none, replacing := false })
      .next (match s.slowImg with
        | some j => s.when (decide (s.saf.slowWait = .reload)) (State.modSaf (fun x => { x with
            mem := loadRegions j x.mem, slowWait := .none }))
        | none => s)
    else .next s
  | none => .next s

/-- Write of 0x5020.02: DIV_FORCED (DESIGN CHOICE, notes/assumptions/53). -/
def State.forceDiv (v : Int) (s : State) : State × Nat := ((s.put K.divForceDivergence v).setDiv 2 (decide (v ≠ 0))).ok

/-! ### Rotation and tile faults (R243 to R245) -/

/-- The next working tile in ascending physical order after t, wrapping: every tile has its turn (R243). -/
def State.nextVictim (s : State) (t : Nat) : Option (Fin 64) :=
  ((List.range 64).map (fun i => (⟨(t + 1 + i) % 64, by omega⟩ : Fin 64))).find? (fun v =>
    !s.tileOut v.val)

/-- TILE_SELF_TEST_DONE (R243): the offline tile has passed; the copy of the next victim begins. -/
def execTileSelfTestDone (s : State) : Out :=
  match s.saf.rotation with
  | .testing since =>
    if since + s.getN K.rotTilePeriod * ms ≤ s.now then
      let s := s.inc (K.tileSelfTestPasses s.offline)
      match s.nextVictim s.offline with
      | some v => .next (s.modSaf (fun x => { x with rotation := .copying v s.now })).showTiles
      | none => .next (s.modSaf (fun x => { x with rotation := .testing s.now }))
    else .next s
  | _ => .next s

/-- ROTATION_HANDOVER (R243): at a slow boundary the tested tile takes over the victim's logical tile. -/
def execRotationHandover (s : State) : Out :=
  match s.saf.rotation with
  | .copying v _ =>
    if s.atSlowBoundary then
      let t := s.offline
      let l := s.get (K.tileLogicalTile v)
      let s := ((s.put (K.tileLogicalTile t) l).put (K.tileLogicalTile v) 255).put K.rotOfflineTile v
      let n := s.saf.rotPass + 1
      let s := s.modSaf (fun x => { x with rotation := .testing s.now, rotPass := n % 64 })
      .next (s.when (decide (n = 64)) (fun s => (s.inc K.rotRotationsCompleted).put K.rotLastFullPass s.ft)).showTiles
    else .next s
  | _ => .next s

/-- Rotation is suspended for want of a spare (R244). -/
def State.suspendRotation (s : State) : State :=
  ((s.modSaf (fun x => { x with rotation := .suspended })).put K.rotOfflineTile 255).raise0 Cause.saffronRotationSuspended

/-- The victim of a copy under way. -/
def Rotation.victim : Rotation → Option Nat
  | .copying v _ => some v
  | _ => none

/-- SAFFRON_TILE_FAILED (R244). -/
def execSaffronTileFailed (t : Fin 64) (selfTest : Bool) (s : State) : Out :=
  if s.tileFailed t then .next s
  else
    let rotating : Bool := match s.saf.rotation with
      | .testing _ => true
      | .copying _ _ => true
      | _ => false
    let spare := s.offline
    let l := s.getN (K.tileLogicalTile t)
    let s := s.put K.safFailedTileMap ((s.getN K.safFailedTileMap ||| 2 ^ t.val : Nat) : Int)
    let s := (s.when selfTest (State.inc K.rotSelfTestFailures)).raise Cause.saffronTileFailed (args t [])
    if spare = t.val then .next (s.suspendRotation.showTiles)
    else
      let s := s.put (K.tileLogicalTile t) 255
      if l = 255 then
        -- the victim of a copy under way: the tested tile is tested again
        .next (s.modSaf (fun x => { x with rotation := if x.rotation.victim = some t.val then .testing s.now else x.rotation })).showTiles
      else if rotating && decide (spare < 64) then
        let s := (s.put (K.tileLogicalTile spare) l).suspendRotation
        .next (s.modSaf (fun x => { x with
          now := none, staged := none, slowFeat := none, replacing := true
          fastWait := if x.fastWait = .stopped then .stopped else .reload
          slowWait := if x.slowWait = .stopped then .stopped else .reload })).showTiles
      else
        let s := s.mapTiles
        let lost : Option SafImage → Bool := fun i => match i with
          | some i => decide (s.usableTiles.length < i.tiles)
          | none => false
        let f := lost s.fastImg
        let w := lost s.slowImg
        let s := s.modSaf (fun x => { x with
          now := none, staged := none, slowFeat := none
          fastWait := if x.fastWait = .stopped ∨ f then .stopped else .reload
          slowWait := if x.slowWait = .stopped ∨ w then .stopped else .reload })
        .next ((s.when f (State.raise0 Cause.saffronFastStopped)).showTiles)

/-- CLEAR_FAILED_WRITE (R244): takes effect after a passing self-test at the next start. -/
def State.clearFailed (v : Int) (s : State) : State × Nat :=
  (s.modSaf (fun x => { x with clearMask := x.clearMask ||| BitVec.ofInt 64 v })).ok

/-- CLEAR_FAILED_WRITE. -/
def execClearFailedWrite (w : HostWrite) (s : State) : Out := .next (s.hostWrite K.safClearFailed w State.clearFailed)

/-- Tiles that the images in force, and a pending one, need. -/
def State.tilesNeeded (s : State) : Nat :=
  let used := allRes.filter (fun r : Fin 6 => decide (s.getN (K.resState r) = 3) || decide (s.getN (K.resState r) = 4))
  maxNat (used.map (fun r => ((s.saf.res[r]).map (·.tiles)).getD 0))

/-- Write of rotation enable (R245, Table 9-10) (DESIGN CHOICE, notes/assumptions/51). -/
def State.rotationWrite (v : Int) (s : State) : State × Nat :=
  if v = s.get K.rotRotationEnable then s.ok
  else if v = 0 then
    -- the held-out tile stands in for a failed one that is being reloaded
    if s.saf.replacing then s.refuse Cause.functionRunning
    else (((s.put K.rotRotationEnable 0).put K.rotOfflineTile 255).modSaf (fun x => { x with rotation := .off })).showTiles.ok
  else
    match (s.usableTiles.filter (fun t : Fin 64 => decide (s.getN (K.tileLogicalTile t.val) = 255))).getLast? with
    | some t =>
      if s.usableTiles.length ≤ s.tilesNeeded then s.refuse Cause.functionRunning
      else (((s.put K.rotRotationEnable 1).put K.rotOfflineTile t).modSaf (fun x => { x with
        rotation := .testing s.now })).showTiles.ok
    | none => s.refuse Cause.functionRunning

/-- ROTATION_ENABLE_WRITE. -/
def execRotationEnableWrite (w : HostWrite) (s : State) : Out := .next (s.hostWrite K.rotRotationEnable w State.rotationWrite)

/-! ### Residences (R247, R255, R257, R265) -/

/-- Residence bytes occupied other than a target. -/
def State.occupiedOther (s : State) (target : Nat) : Nat :=
  ((allRes.filter (fun r : Fin 6 => decide (r.val ≠ target))).map (fun r => ((s.saf.res[r]).map (·.resBytes)).getD 0)).sum

/-- The live state of an admission with a partner (R257). -/
def State.live (s : State) (target : Nat) (partner : Option SafImage) : Live :=
  { partner := partner, usable := s.getN K.safUsableTiles, slowTick := s.slowTick, legacy := s.getB K.legacyEnable
    occupied := s.occupiedOther target, target := target }

/-- The partner image of a load: the residence 0x5410.05 names, else the other tier's image in force (R257)
(DESIGN CHOICE, notes/assumptions/114). -/
def State.partnerOf (s : State) (fast : Bool) : Option SafImage :=
  let n := s.getN K.loadPartnerResidence
  if h : n < 6 then
    if (n < 2) ≠ fast then s.saf.res[n] else (if fast then s.slowImg else s.fastImg)
  else (if fast then s.slowImg else s.fastImg)

/-- Show a residence. -/
def State.showRes (r : Fin 6) (state slot : Nat) (i : Option SafImage) (s : State) : State :=
  let s := (s.modSaf (fun x => { x with res := x.res.set r i })).put (K.resState r) state
  let num := fun f : SafImage → Nat => (((i.map f).getD 0 : Nat) : Int)
  let s := ((s.put (K.resSourceSlot r) slot).put (K.resImageId r) (num (·.id.toNat))).put (K.resImageVersion r) (num (·.imageVersion.toNat))
  let s := ((s.put (K.resResidenceBytes r) (num (·.resBytes))).put (K.resWorstCase r) (num SafImage.tierCycles)).put (K.resStreamBytes r)
    (num (fun i => if i.fast then 0 else i.streams))
  (s.put (K.resLogicalTiles r) (num (·.tiles))).put (K.resContextLayoutId r) (num (·.layout.toNat))

/-- Run an admission and write its report (R256, R259); occasions 1 load, 2 start, 3 swap, 4 slow tick. The causes of a swap
or tick that fails are the caller's. -/
def State.admission (i : SafImage) (l : Live) (occasion : Nat) (s : State) : Bool × State :=
  let ok := admits i l
  let s := s.putBytes K.loadAdmissionReport (admissionReport i l occasion s.ft)
  let s := s.inc (if ok then K.loadImagesAdmitted else K.loadImagesRefused)
  (ok, s.raise (if ok then Cause.saffronImageAdmitted else Cause.saffronImageRefused)
    (args l.target [(i.id.toNat, 4), (i.imageVersion.toNat, 2), (occasion, 1)]))

/-- The image of a model store slot. -/
def State.storeImg (s : State) (slot : Nat) : Option SafImage := (s.saf.store.find? (fun e => decide (e.1 = slot))).map (·.2)

/-- Is a swap at work: its boundary has come, and the first set or context of the incoming image is still to be published or
told (R261)? -/
def State.swapping (s : State) : Bool := s.saf.newFast || s.saf.newSlow || s.saf.published

/-- Command state (0x5410.08): a load under way shows before a swap (DESIGN CHOICE, notes/assumptions/52). -/
def State.showCommand (s : State) : State :=
  s.put K.loadCommandState (if s.saf.loading.isSome then 1 else if s.saf.swap.isSome then 2 else if s.swapping then 3 else 0)

/-- LOAD (R255) (DESIGN CHOICE, notes/assumptions/51 and 52). -/
def State.safLoad (s : State) : State × Nat :=
  let n := s.getN K.loadLoadResidence
  if s.saf.loading.isSome then (s.raise0 Cause.saffronLoadBusy).refuse Cause.saffronLoadBusy
  else if h : n < 6 then
    let r : Fin 6 := ⟨n, h⟩
    match s.storeImg (s.getN K.loadLoadSlot) with
    | none => s.refuse Cause.valueOutOfRange
    | some i =>
      if s.getN (K.resState r) = 3 ∨ s.getN (K.resState r) = 4 then s.refuse Cause.functionRunning
      else if i.fast ≠ decide (n < 2) then s.refuse Cause.saffronImageRefused
      else
        let a := s.admission i (s.live n (s.partnerOf i.fast)) 1
        if a.1 then
          (((a.2.showRes r 1 (s.getN K.loadLoadSlot) (some i)).put K.loadLoadProgress 0).modSaf
            (fun x => { x with loading := some n })).showCommand.ok
        else (a.2.showRes r 5 (s.getN K.loadLoadSlot) none).ok
  else s.refuse Cause.valueOutOfRange

/-- A load under way ends: at the next tick boundary the residence is ADMITTED (DESIGN CHOICE, notes/assumptions/52). -/
def State.safLoadEnd (s : State) : State :=
  match s.saf.loading with
  | some n =>
    (((s.put (K.resState n) 2).put K.loadLoadProgress 100).modSaf (fun x => { x with loading := none })).showCommand
  | none => s

/-- UNLOAD (R265) (DESIGN CHOICE, notes/assumptions/51). -/
def State.safUnload (s : State) : State × Nat :=
  let n := s.getN K.loadLoadResidence
  if h : n < 6 then
    let st := s.getN (K.resState n)
    if (st = 2 ∨ st = 5) ∧ s.getN K.loadPartnerResidence ≠ n then
      ((s.showRes ⟨n, h⟩ 0 255 none).raise Cause.saffronImageUnloaded (args n [])).ok
    else s.refuse Cause.functionRunning
  else s.refuse Cause.valueOutOfRange

/-! ### Swaps (R260 to R263) -/

/-- A refused swap. -/
def State.swapRefused (s : State) : State := (s.inc K.loadSwapsRefusedOrAborted).raise0 Cause.saffronSwapRefused

/-- SWAP_FAST, SWAP_SLOW, SWAP_PAIR: kinds 3, 4, 5 (R260) (DESIGN CHOICE, notes/assumptions/114). -/
def State.safSwap (kind : Nat) (s : State) : State × Nat :=
  let f := s.getN K.loadSwapFastResidence
  let w := s.getN K.loadSwapSlowResidence
  let ready := fun n lo hi : Nat => decide (lo ≤ n) && decide (n ≤ hi) && decide (s.getN (K.resState n) = 2)
  let ok := (decide (kind = 4) || ready f 0 1) && (decide (kind = 3) || ready w 2 5) && s.saf.swap.isNone && !s.swapping
  if !ok then s.swapRefused.refuse Cause.saffronSwapRefused
  else
    let at_ := s.getN K.loadSwapFT
    let late := decide (at_ ≠ 0) && decide (at_ < s.ft)
    let s := s.modSaf (fun x => { x with swap := some { kind := kind, at_ := at_, fast := f, slow := w } })
    let s := s.when (decide (kind ≠ 4)) (State.put (K.resState f) 4)
    let s := s.when (decide (kind ≠ 3)) (State.put (K.resState w) 4)
    (s.showCommand.when late (State.raise0 Cause.saffronSwapLate)).ok

/-- Whole µs to load bytes at the guaranteed rate (R226, R261), in ns (DESIGN CHOICE, notes/assumptions/52). -/
def loadTime (bytes : Nat) : Nat := ceilDiv bytes 1083750 * 1000

/-- The fast image of a residence comes in (R261). -/
def State.installFast (r : Nat) (s : State) : State :=
  match (if h : r < 6 then s.saf.res[r] else none) with
  | none => s
  | some i =>
    let old := (s.resInForce true).map (·.val)
    let s := match old with | some o => s.put (K.resState o) 2 | none => s
    let s := ((s.put (K.resState r) 3).mapTiles).measure 3 7 0 i.id.toNat i.imageVersion.toNat i.bodyHash
    let wait := if s.safEnable = 0 then TierWait.reload else .load (s.now + min (loadTime i.resBytes) (20 * ms))
    s.modSaf (fun x => { x with
      mem := loadRegions i x.mem, fastWait := wait, now := none, staged := none, newFast := true, outFast := old, overRun := 0 })

/-- The slow image of a residence comes in (R261). -/
def State.installSlow (r : Nat) (s : State) : State :=
  match (if h : r < 6 then s.saf.res[r] else none) with
  | none => s
  | some i =>
    let old := (s.resInForce false).map (·.val)
    let s := match old with | some o => s.put (K.resState o) 2 | none => s
    let s := ((s.put (K.resState r) 3).mapTiles).measure 3 7 1 i.id.toNat i.imageVersion.toNat i.bodyHash
    let wait := if s.safEnable < 2 then TierWait.reload else .load (s.now + min (loadTime i.resBytes) (250 * us))
    s.modSaf (fun x => { x with
      mem := loadRegions i x.mem, slowWait := wait, slowFeat := none, newSlow := true, outSlow := old })

/-- Admission of the incoming fast and slow images at a swap, in that order, against the image of the other tier that will be
in force (R261, R262): did both pass? -/
def State.swapAdmits (w : SafSwap) (s : State) : Bool × State :=
  let img := fun r : Nat => if h : r < 6 then s.saf.res[r] else none
  let newF := if w.kind = 4 then s.fastImg else img w.fast
  let newS := if w.kind = 3 then s.slowImg else img w.slow
  let a : Bool × State := if w.kind = 4 then (true, s) else match newF with
    | some i => s.admission i (s.live w.fast newS) 3
    | none => (false, s)
  let b : Bool × State := if w.kind = 3 then (true, a.2) else match newS with
    | some i => a.2.admission i (a.2.live w.slow newF) 3
    | none => (false, a.2)
  (a.1 && b.1, b.2)

/-- A swap both images of which were admitted (R261): they are installed, and a pair swap to another context layout
clears the context. -/
def State.swapInstalls (w : SafSwap) (s : State) : State :=
  let layoutOld := s.slowImg.map (·.layout)
  let s := s.when (decide (w.kind ≠ 4)) (State.installFast w.fast)
  let s := s.when (decide (w.kind ≠ 3)) (State.installSlow w.slow)
  let clear := decide (w.kind = 5) && decide (layoutOld ≠ s.slowImg.map (·.layout))
  let s := s.when clear (fun s => (s.modSaf (fun x => { x with mem := { x.mem with ctx := [] } })).setAge 65535)
  s.showCommand.showImages.showTiles

/-- A swap whose admission failed leaves its images loaded (R261). -/
def State.swapFails (w : SafSwap) (s : State) : State :=
  let s := s.when (decide (w.kind ≠ 4)) (State.put (K.resState w.fast) 2)
  let s := s.when (decide (w.kind ≠ 3)) (State.put (K.resState w.slow) 2)
  s.swapRefused.showCommand

/-- SAFFRON_SWAP_BOUNDARY (R261). -/
def execSaffronSwapBoundary (s : State) : Out :=
  match s.saf.swap with
  | none => .next s
  | some w =>
    if s.ft < w.at_ ∨ (w.kind ≠ 3 ∧ !s.atSlowBoundary) then .next s
    else
      let r := s.swapAdmits w
      let s := r.2.modSaf (fun x => { x with swap := none, published := false })
      .next (if r.1 then s.swapInstalls w else s.swapFails w)

/-- SAFFRON_SWAP_DONE (R261): the first set, or the first context, of the incoming image is published. -/
def execSaffronSwapDone (s : State) : Out :=
  if s.saf.published then
    let s := s.modSaf (fun x => { x with published := false, newFast := false, newSlow := false, outFast := none, outSlow := none })
    .next ((s.inc K.loadSwapsDone).showCommand.raise0 Cause.saffronSwapDone)
  else .next s

/-- Back to an outgoing residence, reloaded with its state zero. -/
def State.restoreRes (fast : Bool) (old : Option Nat) (s : State) : State :=
  match old with
  | none => s
  | some o =>
    let s := match s.resInForce fast with | some r => s.put (K.resState r) 2 | none => s
    let s := s.put (K.resState o) 3
    match (if h : o < 6 then s.saf.res[o] else none) with
    | some i => s.modSaf (fun x => if fast then { x with mem := loadRegions i x.mem, fastWait := .load (s.now + loadTime i.resBytes) }
        else { x with mem := loadRegions i x.mem, slowWait := .load (s.now + loadTime i.resBytes) })
    | none => s

/-- SAFFRON_SWAP_ABORTED (Table 9-10): a tile has failed during the load and the images no longer fit. -/
def execSaffronSwapAborted (s : State) : Out :=
  if s.swapping ∧ s.usableTiles.length < s.tilesNeeded then
    let s := ((s.restoreRes true s.saf.outFast).restoreRes false s.saf.outSlow).modSaf (fun x => { x with
      newFast := false, newSlow := false, outFast := none, outSlow := none, published := false })
    .next ((s.mapTiles.showCommand.inc K.loadSwapsRefusedOrAborted).showImages.showTiles.raise0 Cause.saffronSwapAborted)
  else .next s

/-- A write of 0x5410.03. -/
def State.loadCommandWrite (v : Int) (s : State) : State × Nat :=
  match v.toNat with
  | 1 => s.safLoad
  | 2 => s.safUnload
  | n => s.safSwap n

/-- SAFFRON_LOAD. -/
def execSaffronLoad (sess : Nat) (s : State) : Out := .next (s.hostWrite K.loadCommand (oneByte sess 1) State.loadCommandWrite)
/-- SAFFRON_UNLOAD. -/
def execSaffronUnload (sess : Nat) (s : State) : Out := .next (s.hostWrite K.loadCommand (oneByte sess 2) State.loadCommandWrite)
/-- SWAP_FAST. -/
def execSwapFast (sess : Nat) (s : State) : Out := .next (s.hostWrite K.loadCommand (oneByte sess 3) State.loadCommandWrite)
/-- SWAP_SLOW. -/
def execSwapSlow (sess : Nat) (s : State) : Out := .next (s.hostWrite K.loadCommand (oneByte sess 4) State.loadCommandWrite)
/-- SWAP_PAIR. -/
def execSwapPair (sess : Nat) (s : State) : Out := .next (s.hostWrite K.loadCommand (oneByte sess 5) State.loadCommandWrite)

/-- Write of the slow tick: the slow image in force is admitted against it (R255) (DESIGN CHOICE, notes/assumptions/55). -/
def State.slowTickWrite (v : Int) (s : State) : State × Nat :=
  match s.resInForce false, s.slowImg with
  | some r, some i =>
    let l := { s.live r (s.fastImg) with slowTick := v.toNat }
    let a := s.admission i l 4
    if a.1 then ((a.2.put K.safSlowTick v).showImages).ok
    else (a.2.raise0 Cause.saffronTickRefused).refuse Cause.saffronTickRefused
  | _, _ => ((s.put K.safSlowTick v).showImages).ok

/-- SLOW_TICK_WRITE. -/
def execSlowTickWrite (w : HostWrite) (s : State) : Out := .next (s.hostWrite K.safSlowTick w State.slowTickWrite)

/-! ### At a start (R244, R248) -/

/-- Residences and images in force are lost; cleared tiles return; rotation begins anew. -/
def State.safReset (s : State) : State :=
  let map : Nat := s.getN K.safFailedTileMap &&& (2 ^ 64 - 1 - s.saf.clearMask.toNat)
  let s := s.put K.safFailedTileMap map
  let s := s.each allRes (fun r s => s.showRes r 0 255 none)
  let s := s.each allTiles (fun t s => s.put (K.tileLogicalTile t) 255)
  let on := s.getB K.rotRotationEnable
  let spare := ((allTiles.filter (fun t : Fin 64 => !s.tileFailed t)).getLast?).map (·.val)
  let s := s.put K.rotOfflineTile ((if on then spare.getD 255 else 255 : Nat) : Int)
  let s := s.modSaf (fun x => { x with
    mem := { sram := [], acc := [], exch := [], ctx := [], ctxNext := [], outVec := [] }
    fastWait := .none, slowWait := .none, slowFeat := none, now := none, staged := none, overRun := 0, hist := [], errs := []
    clearRun := 0, wave := [], rotation := if on then .testing s.now else .off, clearMask := 0, replacing := false, swap := none, featNow := [], featLast := []
    newFast := false, newSlow := false, published := false, outFast := none, outSlow := none, loading := none, staleSaid := false })
  (s.put K.loadCommandState 0).showTiles

/-- One residence of the start map (R248). -/
def State.startRes (r : Fin 6) (slot : Nat) (s : State) : State :=
  match s.storeImg slot with
  | none => s
  | some i =>
    let a := s.admission i (s.live r (if r.val < 2 then none else s.fastImg)) 2
    if a.1 then a.2.showRes r 2 slot (some i) else (a.2.showRes r 5 slot none).raiseOn Cause.imageReloadFailed slot

/-- SAFFRON_START_LOAD (R248): the start map in order. -/
def State.safStartLoad (s : State) : State :=
  let s := s.startRes 0 (s.getN K.startMapStartFastSlot)
  let s := s.when (decide (s.getN (K.resState 0) = 2)) (fun s => (s.installFast 0).modSaf (fun x => { x with newFast := false }))
  let s := s.each [(2 : Fin 6), 3, 4, 5] (fun r s => s.startRes r (s.getN (K.startMapStartSlowSlots (r.val - 2))))
  let n := s.getN K.startMapStartSlowInForce
  let s := s.when (decide (n < 6) && decide (s.getN (K.resState n) = 2)) (fun s =>
    (s.installSlow n).modSaf (fun x => { x with newSlow := false }))
  s.showImages.showTiles

end Sys2Proof.Machine
end

