-- ==== Sys2Proof/Machine/Legacy.lean ====
section
/-! DEFINITION. The legacy step table (spec/20). -/

namespace Sys2Proof.Machine

def State.modLeg (f : LegacyState → LegacyState) (s : State) : State := { s with leg := f s.leg }

/-- A refused write of the table (0xB000.07): its cause is raised and is its status. -/
def State.legacyRefuse (cause : Nat) (s : State) : State × Nat := ((s.inc K.legacyWritesRefused).raise0 cause).refuse cause

/-- Set entries 1 to 15, or all 16, to no step. -/
def State.clearEntries (l : List Nat) (s : State) : State := s.each l (fun i s => s.put (K.legacyEntries0To15 i) 0x800)

/-- Does a fast image in force, or of a pending swap, declare more than 16 tiles (R230)? -/
def State.legacyTooBig (s : State) : Bool :=
  [(0 : Fin 6), 1].any (fun r => (decide (s.getN (K.resState r) = 3) || decide (s.getN (K.resState r) = 4)) &&
    decide (16 < ((s.saf.res[r]).map (·.tiles)).getD 0))

/-- A write of Enable (R483). -/
def State.legacyEnableWrite (v : Int) (s : State) : State × Nat :=
  if v ≠ 0 ∧ s.legacyTooBig then s.legacyRefuse Cause.saffronLegacyConflict
  else if v ≠ 0 ∧ (List.range 64).any (fun g => decide (s.getN (K.groupPolicy g) = 1)) then s.legacyRefuse Cause.legacyConflict
  else ((s.put K.legacyEnable v).modLeg (fun l => { l with enabling := some (decide (v ≠ 0)) })).ok

/-- LEGACY_ENABLE. -/
def execLegacyEnable (w : HostWrite) (s : State) : Out := .next (s.hostWrite K.legacyEnable w State.legacyEnableWrite)

/-- Lift the legacy limits and end a running sequence. -/
def State.legacyStop (s : State) : State :=
  ((s.modLeg (fun l => { l with running := false, stepSum := 0, nextPlay := 0 })).modRack (fun r => { r with
    legacyLimit := none })).put K.legacyRunningEntry 255

/-- Enable takes effect at the first tick boundary after the write (R483). -/
def State.legacyTick (s : State) : State :=
  match s.leg.enabling with
  | none => s
  | some on =>
    let s := s.modLeg (fun l => { l with enabling := none })
    if on then
      if s.getN K.legacyState = 0 then (s.put K.legacyState 1).raise0 Cause.legacyEnabled else s
    else if s.getN K.legacyState = 0 then s
    else (((s.legacyStop.clearEntries (List.range 16)).put K.legacyState 0).put K.legacyNextEntry 0).raise0 Cause.legacyDisabled

/-- A write of entry i (R484) with its arrival stamp in FT. -/
def State.legacyEntry (i stamp : Nat) (v : Int) (s : State) : State × Nat :=
  let st := s.getN K.legacyState
  if st = 0 then s.legacyRefuse Cause.legacyNotEnabled
  else if i = 0 then
    let s := ((s.clearEntries ((List.range 16).drop 1)).put (K.legacyEntries0To15 0) v).put K.legacyNextEntry 1
    ((s.put K.legacyActivationFT ((stamp / sec + 1) * sec : Nat)).put K.legacyState 2).ok
  else if st = 2 ∧ s.getN K.legacyNextEntry = i then
    ((s.put (K.legacyEntries0To15 i) v).put K.legacyNextEntry (i + 1 : Nat)).ok
  else s.legacyRefuse Cause.legacyOrder

/-- LEGACY_ENTRY_WRITE (R484). -/
def execLegacyEntryWrite (i : Fin 16) (w : HostWrite) (s : State) : Out :=
  .next (s.hostWrite (K.legacyEntries0To15 i) w (fun v s => s.legacyEntry i s.ft v))

/-- LEGACY_ACTIVATION (R485). -/
def execLegacyActivation (s : State) : Out :=
  if s.getN K.legacyState ≠ 2 ∨ s.ft < s.getN K.legacyActivationFT ∨ s.leg.running then .next s
  else if s.time.mode ≠ .locked ∧ s.time.mode ≠ .holdover then
    .next ((s.put K.legacyState 1).raise0 Cause.legacyTimeInvalid)
  else
    let at_ := s.getN K.legacyActivationFT
    let copy := (List.range 16).flatMap (fun i => leBytes 2 (s.getN (K.legacyEntries0To15 i)))
    let p := (s.chipsIn.map (fun c => s.getN (K.chipMeasuredPower c))).sum
    let s := (s.putBytes K.legacyRunningCopy copy).put K.legacyState 3
    .next ((s.modLeg (fun l => { l with pRef := p, runS := at_, stepSum := 0, nextPlay := 0, running := true })).raise0
      Cause.legacySequenceStarted)

/-- Entry i of the running copy. -/
def State.legacyCopied (s : State) (i : Nat) : Nat :=
  match findBytes s.blobs K.legacyRunningCopy with
  | some l => leNat ((l.drop (2 * i)).take 2)
  | none => 0x800

/-- The notice of an entry at every core with a handler (R486): a RUNNING one takes it, another discards it. -/
def State.legacyNotice (step : Int) (stamp : Nat) (s : State) : State :=
  s.each allCores (fun n s =>
    if (s.core n).state = .running then s.joinNotice 0 step stamp n
    else if ((s.core n).prog.map (·.hasHandler)).getD false then
      (s.inc K.engineNoticesDiscarded).raise Cause.noticeDiscarded (args n [(255, 1)])
    else s)

/-- LEGACY_ENTRY_PLAY (R486): the next entry whose millisecond has come (DESIGN CHOICE, notes/assumptions/57). -/
def execLegacyEntryPlay (s : State) : Out :=
  let i := s.leg.nextPlay
  if !s.leg.running ∨ 16 ≤ i ∨ s.ft < s.leg.runS + i * ms then .next s
  else
    let v := s.legacyCopied i
    let d : Int := (v : Int) - 2048
    let port := s.card.snap.ports.get zeroDflt 0x40
    -- W over V as Q31 of 2,000 A; a reference of zero leaves the quotient open
    let step := if 0 < port then sat31 (rheDiv (d * 600000 * 2147483648 * 32768) (4096 * 2000 * 1000 * port.toNat))
      else toSigned 32 s.freeNat
    let s := s.when (decide (v ≠ 0x800)) (fun s => (s.when (decide (port ≤ 0)) State.useFree).legacyNotice step (s.leg.runS + i * ms))
    let sum := s.leg.stepSum + d
    let n := s.chipsIn.length
    let limit := if n = 0 then none
      else some (rheDiv (max 0 ((s.leg.pRef * 4096 : Nat) + sum * 600000)) (4096 * n)).toNat
    let s := s.modLeg (fun l => { l with stepSum := sum, nextPlay := i + 1 })
    .next ((s.put K.legacyRunningEntry i).modRack (fun r => { r with legacyLimit := limit }))

/-- LEGACY_SEQUENCE_DONE (R486). An arming made meanwhile stands. -/
def execLegacySequenceDone (s : State) : Out :=
  if s.leg.running ∧ s.leg.runS + 16 * ms ≤ s.ft then
    let s := s.legacyStop.inc K.legacySequencesPlayed
    .next ((s.when (decide (s.getN K.legacyState = 3)) (State.put K.legacyState 1)).raise0 Cause.legacySequenceDone)
  else .next s

end Sys2Proof.Machine
end

