-- ==== Sys2Proof/Machine/CloveAct.lean ====
section
/-! DEFINITION. What cloves do when they fire, and the commands of the clove service (spec/04, R100 to R110). -/

namespace Sys2Proof.Machine

/-! ### Actions (Table 4-6) -/

/-- Does core 1 run the standard loop set? -/
def State.standardStorage (s : State) : Bool :=
  match (s.core 1).prog with
  | some p => decide (p.code = .standard) && decide ((s.core 1).state = .running)
  | none => false

/-- Does a SET_REG come after the one in force for its register, by fire FT and then R109 (R159)? -/
def State.regAfter (s : State) (r : Fin 16) (c : Clove) : Bool :=
  match s.card.regBy[r] with
  | some d => !fireBefore c d
  | none => true

/-- SET_REG fires (R159); register 0 is a target write, stamped with the fire FT, while the standard loop set runs
(R198); storage burst ends (R133). -/
def State.setReg (r : Fin 16) (v : BitVec 32) (c : Clove) (s : State) : State :=
  let s := s.wakeBurst.when (s.regAfter r c) (fun s => { s with card := { s.card with
    cloveRegs := s.card.cloveRegs.set r v, regBy := s.card.regBy.set r (some c) } })
  if r.val = 0 ∧ s.standardStorage then
    if 760000 ≤ v.toInt ∧ v.toInt ≤ 840000 then s.setTarget v.toInt c.fireFt.toNat true
    else (s.inc K.loopRegister0Refusals).raise Cause.setpointRefused (args0 [(v.toNat, 4)])
  else s

/-- The action of a clove that fires. CANCEL acts when it is accepted and never fires (R105). -/
def State.cloveAct (c : Clove) (s : State) : State :=
  match c.action.toNat with
  | 1 => s.setReg (c.argA.setWidth 4).toFin (c.argB.setWidth 32) c
  | 2 => s.capAt c.argA.toNat c.fireFt.toNat true
  | 3 => s.fireGroupCap c
  | 4 => s.activateMark c.ref
  | 5 => s.fireLend c
  | 6 => s.fireReturn c
  | 7 => s.askSweep c.argA.toNat c.fireFt.toNat
  | 8 => s.openQuiet c.fireFt.toNat c.argA.toNat
  | _ => s

/-- A scheduled clove fires: it leaves the schedule and acts (R107, R109). -/
def State.fireScheduled (e : SchedClove) (s : State) : State := (s.unschedule e.clove.ref).fireWith State.cloveAct e.clove

/-- The schedule up to a reference, in firing order. -/
def upTo (r : CloveRef) : List SchedClove → List SchedClove
  | [] => []
  | e :: rest => if e.clove.ref = r then [e] else e :: upTo r rest

/-- Scheduled cloves whose fire FT has come fire in the order of R109, from the die (R108), after the loans that are due
(R334). -/
def State.fireDue (s : State) : State :=
  let s := s.promoteDue.expireLoans
  s.each (s.clv.schedule.filter (fun e => e.onDie && decide (e.clove.fireFt.toNat ≤ s.ft))) State.fireScheduled

/-- A scheduled clove of an action, named by its reference, fires if its fire FT lies in the tick under way; those before it
in the order of R109 have fired by then. -/
def State.fireRef (action : Nat) (r : CloveRef) (s : State) : State :=
  let s' := s.promoteDue
  match s'.scheduled? r with
  | some e =>
    if e.clove.action.toNat = action ∧ e.clove.fireFt.toNat < s.ft + 1000 ∧ e.onDie then
      s'.each (upTo r s'.clv.schedule) State.fireScheduled
    else s
  | none => s

/-! ### The commands -/

/-- CLOVE_RECEIVE (R106): a clove and its arrival stamp in FT. -/
def execCloveReceive (c : Clove) (stamp : Nat) (s : State) : Out := .next (s.cloveArrive State.cloveAct c stamp)

/-- A write of 0x2320 with its arrival stamp (R110). -/
def State.inject (b : List Byte) (stamp : Nat) (s : State) : State × Nat :=
  if !s.canOriginate then s.refuse Cause.functionRunning else (s.originateClove State.cloveAct b stamp).ok

/-- A host write of 0x2320 (R110): the response carries the sequence (DESIGN CHOICE, notes/assumptions/26). -/
def State.injectWrite (w : HostWrite) (s : State) : State :=
  s.hostWrite K.cloveCloveInject w (fun _ s =>
    let r := s.inject w.bytes s.ft
    (r.1.when (decide (r.2 = 0)) (State.send (.injected s.clv.nextSeq)), r.2))

/-- CLOVE_INJECT (R110) (DESIGN CHOICE, notes/assumptions/26). -/
def execCloveInject (w : HostWrite) (s : State) : Out := .next (s.injectWrite w)

/-- CLOVE_INSERT (R107, R108): the front clove of queue 32 enters the schedule, or fires at once when its F has passed. -/
def execCloveInsert (s : State) : Out :=
  let t := s.takeItem 32
  match t.2 with
  | none => .next t.1
  | some i =>
    match Clove.ofBytes i.data with
    | none => .next t.1
    | some c =>
      if c.fireFt.toNat ≤ t.1.ft then
        let s := t.1.when (decide (c.action.toNat = 4)) (State.addMark c)
        .next ((s.cloveCount 0x03).fireWith State.cloveAct c)
      else .next (t.1.scheduleClove c i.stamp)

/-- CLOVE_PROMOTE (R108): one of the earliest 4,096 moves from GDDR7 onto the die. -/
def execClovePromote (r : CloveRef) (s : State) : Out :=
  .next (s.modClv (fun v => { v with schedule := (List.range v.schedule.length).zip v.schedule |>.map (fun p =>
    if p.2.clove.ref = r ∧ p.1 < 4096 then { p.2 with onDie := true } else p.2) }))

/-- SET_REG. -/
def execSetReg (r : CloveRef) (s : State) : Out := .next (s.fireRef 1 r)
/-- RACK_CAP. -/
def execRackCap (r : CloveRef) (s : State) : Out := .next (s.fireRef 2 r)
/-- GROUP_CAP (DESIGN CHOICE, notes/assumptions/117). -/
def execGroupCap (r : CloveRef) (s : State) : Out := .next (s.fireRef 3 r)
/-- STEP_MARK (R233). -/
def execStepMark (r : CloveRef) (s : State) : Out := .next (s.fireRef 4 r)
/-- LEDGER_LEND. -/
def execLedgerLend (r : CloveRef) (s : State) : Out := .next (s.fireRef 5 r)
/-- LEDGER_RETURN. -/
def execLedgerReturn (r : CloveRef) (s : State) : Out := .next (s.fireRef 6 r)
/-- SWEEP_START. -/
def execSweepStart (r : CloveRef) (s : State) : Out := .next (s.fireRef 7 r)
/-- QUIET_WINDOW. -/
def execQuietWindow (r : CloveRef) (s : State) : Out := .next (s.fireRef 8 r)

/-- CANCEL (R105): an accepted CANCEL that came in time removes its target. The operand is the CANCEL, with its stamp. -/
def execCancel (c : Clove) (stamp : Nat) (s : State) : Out :=
  .next (if c.action.toNat = 9 then s.cloveArrive State.cloveAct c stamp else s)

/-- Marks at their fire FT plus duration leave the list (R233). -/
def State.expireMarks (s : State) : State :=
  ({ s with saf := { s.saf with marks := s.saf.marks.filter (fun m => decide (s.ft < m.fire + m.duration * us)) } }).showMarks

/-- STEP_MARK_EXPIRY. -/
def execStepMarkExpiry (s : State) : Out := .next s.expireMarks

/-! ### Epoch correction (R98) -/

/-- After a correction a clove whose fire FT lies in the past is a late arrival, late by the correction (R98, R106). -/
def State.rejudge (s : State) : State :=
  s.each (s.clv.schedule.filter (fun e => decide (e.clove.fireFt.toNat < s.ft))) (fun e s =>
    let c := e.clove
    let s := s.unschedule c.ref
    if s.ft ≤ c.fireFt.toNat + s.getN K.cloveLateLimit ∧ c.firesLate then
      ((s.cloveCount 0x04).fireWith State.cloveAct c).raise Cause.cloveFiredLate (cloveArgs c)
    else ((s.dropMark c.ref).cloveCount 0x05).raise Cause.cloveLate (cloveArgs c))

end Sys2Proof.Machine
end

