-- ==== Sys2Proof/Machine/Line.lean ====
section
/-! DEFINITION. The line frame of a Renxel link: sync word, scrambler, forward error correction, sideband nibble (spec/13,
R340 to R342, R365).  Bits are lists of Bool in the order sent. -/

namespace Sys2Proof.Machine

/-! ### Bits and bytes -/

/-- Bits of a number, least-significant first. -/
def lineBits : Nat → Nat → List Bool
  | 0, _ => []
  | n + 1, v => (v % 2 == 1) :: lineBits n (v / 2)

/-- The number of bits, least-significant first. -/
def numOf : List Bool → Nat
  | [] => 0
  | b :: rest => (if b then 1 else 0) + 2 * numOf rest

/-- Bits of bytes, byte 0 first, each least-significant bit first (Table 13-2). -/
def byteBits (l : List Byte) : List Bool := l.flatMap (fun b => lineBits 8 b.toNat)

/-- Cut a list into n pieces of m, the last of them as short as it comes. -/
def pieces {α : Type} (m : Nat) : Nat → List α → List (List α)
  | 0, _ => []
  | n + 1, l => l.take m :: pieces m n (l.drop m)

/-- Bytes of bits, least-significant bit first. -/
def bytesOf (n : Nat) (l : List Bool) : List Byte := (pieces 8 n l).map (fun x => BitVec.ofNat 8 (numOf x))

/-! ### The field GF(2^10) with polynomial x^10 + x^3 + 1 (R341) -/

abbrev Sym := BitVec 10

/-- Times x. -/
def symX (a : Sym) : Sym := if a.getLsbD 9 then (a <<< 1) ^^^ 9 else a <<< 1

/-- Product: the multiples of a by the powers of x whose bit b has. -/
def symMulFrom (b : Sym) : Nat → Nat → Sym → Sym
  | 0, _, _ => 0
  | n + 1, i, a => (if b.getLsbD i then a else 0) ^^^ symMulFrom b n (i + 1) (symX a)

def symMul (a b : Sym) : Sym := symMulFrom b 10 0 a

/-- x to the power n: α^n. -/
def symAlpha : Nat → Sym
  | 0 => 1
  | n + 1 => symX (symAlpha n)

/-- Inverse: the power 2^10 - 2, as the product of the squares a^2, a^4, to a^512. -/
def symInvFrom : Nat → Sym → Sym
  | 0, _ => 1
  | n + 1, a => symMul (symMul a a) (symInvFrom n (symMul a a))

def symInv (a : Sym) : Sym := symInvFrom 9 a

/-! ### The code: 52 data and 4 parity symbols, roots α^0 to α^3 (R341) -/

/-- Coefficients of the generator below x^4, for x^3 down to 1. -/
def genCoeffs : List Sym :=
  let add := fun (p : List Sym) (r : Sym) =>
    -- times (x - r), highest power first
    (p ++ [0]).zipWith (fun a b => a ^^^ symMul b r) (0 :: p)
  ((add (add (add (add [1] (symAlpha 0)) (symAlpha 1)) (symAlpha 2)) (symAlpha 3)).drop 1)

/-- One step of the division by the generator: the remainder register, highest power first. -/
def parityStep (g : List Sym) (r : List Sym) (d : Sym) : List Sym :=
  match r with
  | [] => []
  | top :: rest =>
    let f := top ^^^ d
    (rest ++ [0]).zipWith (fun a c => a ^^^ symMul f c) g

/-- Parity symbols of the data symbols. -/
def parity (data : List Sym) : List Sym := data.foldl (parityStep genCoeffs) [0, 0, 0, 0]

/-- A word at α^k: the first symbol has the highest power. -/
def syndrome (word : List Sym) (k : Nat) : Sym := word.foldl (fun acc d => symMul acc (symAlpha k) ^^^ d) 0

/-- Change one symbol of a word. -/
def addAt (word : List Sym) (i : Nat) (e : Sym) : List Sym := word.set i (word.getD i 0 ^^^ e)

/-- Locator of a place in a word of 56 symbols. -/
def locator (i : Nat) : Sym := symAlpha (55 - i)

/-- A single error that explains the syndromes: place and value. -/
def oneError (s0 s1 s2 s3 : Sym) : Option (Nat × Sym) :=
  ((List.range 56).find? (fun i =>
    let x := locator i
    decide (s1 = symMul s0 x) && decide (s2 = symMul s1 x) && decide (s3 = symMul s2 x))).map (fun i => (i, s0))

/-- Two errors that explain the syndromes. -/
def twoErrors (s0 s1 s2 s3 : Sym) : Option ((Nat × Sym) × (Nat × Sym)) :=
  let xs := (List.range 56).map (fun i => (i, locator i))
  (xs.findSome? (fun p => (xs.find? (fun q =>
      decide (p.1 < q.1) &&
      decide (s2 = symMul (p.2 ^^^ q.2) s1 ^^^ symMul (symMul p.2 q.2) s0) &&
      decide (s3 = symMul (p.2 ^^^ q.2) s2 ^^^ symMul (symMul p.2 q.2) s1))).map (fun q => (p, q)))).map
    (fun pq =>
      let p := pq.1
      let q := pq.2
      let eq := symMul (s1 ^^^ symMul s0 p.2) (symInv (p.2 ^^^ q.2))
      ((p.1, s0 ^^^ eq), (q.1, eq)))

/-- Correct up to 2 symbols: the word and how many were corrected. -/
def correct (word : List Sym) : Option (List Sym × Nat) :=
  let s0 := syndrome word 0
  let s1 := syndrome word 1
  let s2 := syndrome word 2
  let s3 := syndrome word 3
  if s0 = 0 ∧ s1 = 0 ∧ s2 = 0 ∧ s3 = 0 then some (word, 0)
  else
    match oneError s0 s1 s2 s3 with
    | some e => some (addAt word e.1 e.2, 1)
    | none =>
      match twoErrors s0 s1 s2 s3 with
      | some e => some (addAt (addAt word e.1.1 e.1.2) e.2.1 e.2.2, 2)
      | none => none

/-- Data symbols of a flit: its 512 bits and 8 zero bits that are not sent (R341) (DESIGN CHOICE, notes/assumptions/27). -/
def flitSymbols (flit : List Byte) : List Sym :=
  (pieces 10 52 (byteBits flit ++ List.replicate 8 false)).map (fun x => BitVec.ofNat 10 (numOf x))

/-- Bits of symbols (DESIGN CHOICE, notes/assumptions/27). -/
def symBits (l : List Sym) : List Bool := l.flatMap (fun x => lineBits 10 x.toNat)

/-- Body of a frame before scrambling: flit and parity, 552 bits; an abort carries the complement of the parity (R342)
(DESIGN CHOICE, notes/assumptions/27). -/
def bodyBits (flit : List Byte) (abort : Bool) : List Bool :=
  let p := parity (flitSymbols flit)
  byteBits flit ++ symBits (if abort then p.map (fun x => ~~~x) else p)

/-- What a receiver makes of a body (R341, R342). -/
inductive Body where
  | flit (bytes : List Byte) (corrected : Nat)
  | abort
  | uncorrectable
  deriving DecidableEq, Repr

/-- The flit of corrected data symbols; a correction that touches the zero bits which are not sent is none. -/
def symbolFlit (word : List Sym) : Option (List Byte) :=
  let b := symBits (word.take 52)
  if (b.drop 512).any id then none else some (bytesOf 64 (b.take 512))

/-- Decode a descrambled body: an exact abort first, then the code, then an abort with errors (DEDUCED, notes/assumptions/28). -/
def decodeBody (b : List Bool) : Body :=
  let data := (pieces 10 52 (b.take 512 ++ List.replicate 8 false)).map (fun x => (BitVec.ofNat 10 (numOf x) : Sym))
  let par := (pieces 10 4 (b.drop 512)).map (fun x => (BitVec.ofNat 10 (numOf x) : Sym))
  let flipped := par.map (fun x => ~~~x)
  if parity data = flipped then .abort
  else
    let good : Option (List Byte × Nat) := match correct (data ++ par) with
      | some (w, n) => (symbolFlit w).map (fun f => (f, n))
      | none => none
    match good with
    | some (f, n) => .flit f n
    | none =>
      match correct (data ++ flipped) with
      | some (w, _) => if (symbolFlit w).isSome then .abort else .uncorrectable
      | none => .uncorrectable

/-! ### Scrambler x^58 + x^39 + 1 (R341) -/

/-- Bit that the scrambler adds: the line bits 39 and 58 places back. -/
def scrambleBit (st : BitVec 58) : Bool := st.getLsbD 38 ^^ st.getLsbD 57

/-- The state after a line bit. -/
def shiftIn (st : BitVec 58) (b : Bool) : BitVec 58 := (st <<< 1) ||| BitVec.ofNat 58 (if b then 1 else 0)

/-- Scramble bits: line bits and the state after them. -/
def scramble : BitVec 58 → List Bool → List Bool × BitVec 58
  | st, [] => ([], st)
  | st, b :: rest =>
    let o := b ^^ scrambleBit st
    let r := scramble (shiftIn st o) rest
    (o :: r.1, r.2)

/-- Descramble line bits. -/
def descramble : BitVec 58 → List Bool → List Bool × BitVec 58
  | st, [] => ([], st)
  | st, o :: rest =>
    let r := descramble (shiftIn st o) rest
    ((o ^^ scrambleBit st) :: r.1, r.2)

/-! ### Frames (Table 13-2) -/

/-- The sync word 0xB44B, most-significant bit first. -/
def syncBits : List Bool := (lineBits 16 0xB44B).reverse

/-- A frame of a flit, the scrambler state and the sideband byte: its bits and the state after it. -/
def frameOf (st : BitVec 58) (flit : List Byte) (abort : Bool) (side : Byte) : List Bool × BitVec 58 :=
  let r := scramble st (bodyBits flit abort)
  (syncBits ++ r.1 ++ lineBits 8 side.toNat, r.2)

/-- Bits of the sync word that are wrong. -/
def syncWrong (l : List Bool) : Nat := ((l.zip syncBits).filter (fun e => e.1 != e.2)).length

/-- Nibble of a sideband byte (R365): d x 16 + (15 - d). -/
def sideNibble (b : Byte) : Option (BitVec 4) :=
  if b.toNat / 16 + b.toNat % 16 = 15 then some (BitVec.ofNat 4 (b.toNat / 16)) else none

/-- Sideband byte of a nibble. -/
def sideByte (d : BitVec 4) : Byte := BitVec.ofNat 8 (d.toNat * 16 + (15 - d.toNat))

/-- CRC-16 with polynomial 0x1021 and initial value 0xFFFF over bytes (R365). -/
def crc16Bits : Nat → BitVec 16 → BitVec 16
  | 0, c => c
  | n + 1, c => crc16Bits n (if c.getLsbD 15 then (c <<< 1) ^^^ 0x1021 else c <<< 1)

def crc16 (l : List Byte) : BitVec 16 := l.foldl (fun c b => crc16Bits 8 (c ^^^ ((b.setWidth 16 : BitVec 16) <<< (8 : Nat)))) 0xFFFF

end Sys2Proof.Machine
end

