-- ==== Sys2Proof/Machine/Time.lean ====
section
/-! DEFINITION. Fabric time: the time tree, transfer over links, acquisition, holdover, PTP and PPS (spec/04, R84 to
R99). Fine stamps and offsets are counted in units of 1/65,536 ns. -/

namespace Sys2Proof.Machine

abbrev fine : Nat := 65536

def State.modTime (f : TimeSt → TimeSt) (s : State) : State := { s with time := f s.time }

/-- Fabric time as a fine stamp. -/
def State.fineFt (s : State) : Int := (s.ft : Int) * fine

def TimeMode.code : TimeMode → Nat
  | .invalid => 0
  | .acquiring => 1
  | .locked => 2
  | .holdover => 3
  | .degraded => 4

/-- Show the time state, master, steps, upstream and quality (Table 4-7). -/
def State.showTime (s : State) : State :=
  let t := s.time
  let steps : Nat := match t.upstream with
    | some l => ((t.offers.find? (fun o : LinkOffer => decide (o.link = l))).map (fun o => min (o.offer.steps + 1) 255)).getD 255
    | none => if t.isMaster then 0 else 255
  let s := ((s.put K.timeTimeState t.mode.code).put K.timeEpochOffsetE t.e).putB K.timeTAITraceable t.tai
  let s := ((s.put K.timeMasterNode (t.masterNode.getD 0 : Nat)).put K.timeStepsRemoved steps).put K.timeUpstreamLink
    (t.upstream.getD 255 : Nat)
  s.put K.timeQuality t.quality

/-- Enter a time state, with its cause (Table 4-8). -/
def State.enterTime (m : TimeMode) (s : State) : State :=
  if s.time.mode = m then s
  else
    let s := (s.modTime (fun t => { t with
      mode := m, syncRun := 0
      needEpoch := if m = .acquiring then true else t.needEpoch
      acquired := t.acquired || decide (m = .locked)
      lostAt := if m = .holdover then s.ft else t.lostAt
      watch := if m = .locked then t.watch else 0 })).showTime
    match m with
    | .locked => s.raise0 Cause.timeAcquired
    | .holdover => s.raise0 Cause.timeHoldover
    | .degraded => s.raise0 Cause.timeDegraded
    | _ => s

/-! ### The time tree (R86 to R88) -/

/-- PPS_IN gives the second phase: enabled, present, in agreement, not dropped (R91). Edges are present until 1.5 s after the
last (DESIGN CHOICE, notes/assumptions/111). -/
def State.ppsInUse (s : State) : Bool :=
  let p := s.time.ptp
  p.locked && s.getB K.ptpPPSSource && p.ppsPresent && decide (s.now ≤ p.ppsAt + 1500 * ms) && !p.ppsDropped && p.ppsBad.isNone

/-- The module's own quality (Table 4-1). -/
def State.ownQuality (s : State) : Nat :=
  if s.time.ptp.locked then (if s.ppsInUse then 1 else 0)
  else if s.time.isMaster then s.time.quality
  else 4

/-- Candidate tuples compare in the order quality, priority, node (R86). -/
def tupleBefore (a b : Nat × Nat × Nat) : Bool :=
  if a.1 ≠ b.1 then decide (a.1 < b.1) else if a.2.1 ≠ b.2.1 then decide (a.2.1 < b.2.1) else decide (a.2.2 < b.2.2)

def Offer.tuple (o : Offer) : Nat × Nat × Nat := (o.quality, o.priority, o.master)

/-- Offers compare by master, then steps removed, then neighbour (R87). -/
def LinkOffer.before (a b : LinkOffer) : Bool :=
  if a.offer.tuple ≠ b.offer.tuple then tupleBefore a.offer.tuple b.offer.tuple
  else if a.offer.steps ≠ b.offer.steps then decide (a.offer.steps < b.offer.steps)
  else decide (a.neighbour < b.neighbour)

/-- The best of a list of offers. -/
def bestOffer : List LinkOffer → Option LinkOffer
  | [] => none
  | o :: rest => some (rest.foldl (fun b x => if x.before b then x else b) o)

/-- May the module be master: a node id without conflict, a priority below 255 (R86, R356)? -/
def State.mayMaster (s : State) : Bool :=
  s.hasNode && !s.getB K.nodeNodeIdConflict && decide (s.getN K.timeTimePriority ≠ 255)

/-- The own candidate tuple. -/
def State.ownTuple (s : State) : Nat × Nat × Nat := (s.ownQuality, s.getN K.timeTimePriority, s.getN K.nodeNodeId)

/-- Offers heard within 375 ms (R87) that do not name this module. -/
def State.heardOffers (s : State) : List LinkOffer :=
  s.time.offers.filter (fun o : LinkOffer =>
    decide (s.now ≤ o.stamp + 375 * ms) && !(s.hasNode && decide (o.offer.master = s.getN K.nodeNodeId)))

/-- Those of valid time. -/
def State.validOffers (s : State) : List LinkOffer := s.heardOffers.filter (fun o => decide (o.offer.quality ≤ 3))

/-- What R87 chooses: the pinned link, else the best offer unless the module itself is the better candidate. -/
def State.chosen (s : State) : Option LinkOffer :=
  let l := s.validOffers
  match l.find? (fun o => decide (o.link = s.getN K.timePinnedUpstream)) with
  | some o => some o
  | none =>
    match bestOffer l with
    | none => none
    | some o => if s.mayMaster && decide (s.ownQuality ≤ 3) && tupleBefore s.ownTuple o.offer.tuple then none else some o

/-- The master node changes. -/
def State.setMaster (m : Option Nat) (s : State) : State :=
  if s.time.masterNode = m then s
  else
    let old := s.time.masterNode.getD 0xFFFF
    (s.modTime (fun t => { t with masterNode := m })).raise Cause.timeMasterChanged (args0 [(old, 2), (m.getD 0xFFFF, 2)])

/-- The module is master: LOCKED for as long as it is. Out of INVALID it passes ACQUIRING, in which E is set (Table 4-4); its
own time then leaves no phase residual (DESIGN CHOICE, notes/assumptions/111). -/
def State.beMaster (s : State) : State :=
  let q := s.ownQuality
  let s := s.modTime (fun t => { t with isMaster := true, upstream := none, quality := q, tai := decide (q ≤ 1) })
  let s := s.setMaster (some (s.getN K.nodeNodeId))
  let s := s.when (decide (s.time.mode = .invalid)) (State.enterTime .acquiring)
  ((s.modTime (fun t => { t with needEpoch := false })).enterTime .locked).showTime

/-- Take an upstream (R87, Table 4-4). -/
def State.takeUpstream (o : LinkOffer) (s : State) : State :=
  let same := decide (s.time.upstream = some o.link)
  let sameMaster := decide (s.time.masterNode = some o.offer.master)
  let old := s.time.mode
  let s := s.modTime (fun t => { t with
    upstream := some o.link, isMaster := false, quality := o.offer.quality, tai := o.offer.tai
    means := if same then t.means else [], request := if same then t.request else none
    t1 := if same then t.t1 else 0, t2 := if same then t.t2 else 0 })
  let s := s.setMaster (some o.offer.master)
  let s := match old with
    | .locked => if sameMaster then (if same then s else s.modTime (fun t => { t with watch := 16 })) else s.enterTime .acquiring
    | .acquiring => s
    | _ => s.enterTime .acquiring
  s.showTime

/-- Choose again (R87): an upstream, mastership, or holdover without either. A module in ACQUIRING that loses its upstream with
no other offered stays in ACQUIRING without one: Table 4-4 gives no exit (DESIGN CHOICE, notes/assumptions/111). -/
def State.chooseTime (s : State) : State :=
  match s.chosen with
  | some o => s.takeUpstream o
  | none =>
    if s.mayMaster ∧ (s.time.isMaster ∨ s.ownQuality ≤ 3) then s.beMaster
    else
      let s := s.modTime (fun t => { t with upstream := none, isMaster := false })
      (if s.time.mode = .locked then s.enterTime .holdover else s).showTime

/-- Forget a link's offer; the upstream is lost with it. -/
def State.timeLinkDown (link : Nat) (s : State) : State :=
  let s := s.modTime (fun t => { t with offers := t.offers.filter (fun o => decide (o.link ≠ link)) })
  if s.time.upstream = some link then s.chooseTime else s

/-- What the module offers (R87): the best master it knows, with its own steps from it. That is itself as master, or its
upstream's; without either, the best candidate of those heard and itself, which so crosses the domain (R88). -/
def State.offer (s : State) : Offer :=
  let t := s.time
  let own : Offer := { version := 0x10, quality := s.ownQuality, priority := s.getN K.timeTimePriority
                       master := s.getN K.nodeNodeId % 1024, steps := if s.mayMaster then 0 else 255, tai := t.tai }
  let pass := fun (o : LinkOffer) => { o.offer with version := 0x10, steps := min (o.offer.steps + 1) 255 }
  if t.isMaster then own
  else match t.upstream.bind (fun l => t.offers.find? (fun o : LinkOffer => decide (o.link = l))) with
    | some o => { pass o with tai := t.tai }
    | none => match bestOffer s.heardOffers with
      | some o => if s.mayMaster && tupleBefore own.tuple o.offer.tuple then own else pass o
      | none => own

/-- Payload of a timing flit (Table 4-2); stamps in units of 1/65,536 ns. -/
def timingPayload (kind : Nat) (o : Offer) (departure request : Nat) : List Byte :=
  leBytes 1 0x10 ++ leBytes 1 kind ++ leBytes 1 o.steps ++ leBytes 1 o.quality ++ leBytes 2 (o.master % 1024) ++
  leBytes 1 o.priority ++ leBytes 1 (if o.tai then 1 else 0) ++ leBytes 8 (departure / fine) ++ leBytes 2 (departure % fine) ++
  [0, 0] ++ leBytes 8 (request / fine) ++ leBytes 2 (request % fine)

/-- ANNOUNCE_SEND (R87): on every trained link. A timing flit's departure time is written as it leaves (R92, FRAME_SLOT). -/
def execAnnounceSend (s : State) : Out := .next (s.each s.upLinks (fun n s => s.queueTiming n (timingPayload 4 s.offer 0 0)))

/-- ANNOUNCE (R87): an offer of a neighbour on a link, with its arrival stamp. A module never takes time from a tray; another
major version is refused (R5). -/
def execAnnounce (link : Fin 32) (neighbour : Nat) (o : Offer) (s : State) : Out :=
  if s.profile link ≤ 1 ∨ !versionOk o.version then .next s
  else
    let e : LinkOffer := { link := link, neighbour := neighbour, offer := o, stamp := s.now }
    .next (s.modTime (fun t => { t with
      offers := e :: t.offers.filter (fun x => decide (x.link ≠ link.val))
      noOfferSince := if o.quality ≤ 3 then s.now else t.noOfferSince })).chooseTime

/-- UPSTREAM_LOST (R87): 375 ms without ANNOUNCE, or the link dropped. -/
def execUpstreamLost (s : State) : Out :=
  match s.time.upstream with
  | none => .next s
  | some l =>
    let late : Bool := match s.time.offers.find? (fun o : LinkOffer => decide (o.link = l)) with
      | some o => decide (o.stamp + 375 * ms < s.now)
      | none => true
    if late || !s.linkUp l then .next (s.timeLinkDown l) else .next s

/-- FABRIC_TIME_START (R88): no candidate of quality 4 heard comes before the module, by (priority, node id). -/
def execFabricTimeStart (s : State) : Out :=
  let first := s.heardOffers.all (fun o : LinkOffer => tupleBefore (4, s.ownTuple.2) o.offer.tuple)
  if s.time.mode = .invalid ∧ s.mayMaster ∧ s.ownQuality = 4 ∧ s.validOffers.isEmpty ∧ first ∧
      s.time.noOfferSince + 10 * sec ≤ s.now then
    .next (s.modTime (fun t => { t with e := 0, isMaster := true, quality := 3 })).beMaster
  else .next s

/-! ### Transfer over a link (R92 to R94) -/

/-- TIMING_SYNC_SEND (R93): SYNC on each downstream link. -/
def execTimingSyncSend (s : State) : Out :=
  if s.time.mode = .invalid then .next s
  else .next (s.each (s.upLinks.filter (fun n => decide (s.time.upstream ≠ some n))) (fun n s =>
    s.queueTiming n (timingPayload 1 s.offer (s.ft * fine) 0)))

/-- Declared asymmetry of a link in fine units (0x2020, ps). -/
def State.asymmetry (s : State) (link : Nat) : Int := rheDiv (s.get (K.timeLinkAsymmetry link) * fine) 1000

/-- Mean one-way delay over up to 16 exchanges, none before the first. -/
def State.meanDelay (s : State) : Option Int :=
  if s.time.means.isEmpty then none else some (rheDiv s.time.means.sum s.time.means.length)

/-- Fine units to ps. -/
def toPs (x : Int) : Int := rheDiv (x * 1000) fine

/-- The offset from upstream of the latest SYNC (R93); none before its first. -/
def State.upOffset (s : State) : Option Int :=
  match s.time.upstream, s.meanDelay with
  | some l, some m => if s.time.t2 = 0 then none else some ((s.time.t2 : Int) - (s.time.t1 + (m - rheDiv (s.asymmetry l) 2)))
  | _, _ => none

/-- An offset of more than 500 ns moves E by the nearest multiple of 1,000 ns, and TB by the rest on a module without the
mace (R96); the stamps of the exchange under way move with fabric time. After the first acquisition that is an epoch
correction (R98) (DEDUCED, notes/assumptions/22; DESIGN CHOICE, notes/assumptions/23). -/
def State.setEpoch (off : Int) (s : State) : State :=
  if off.natAbs ≤ 500 * fine then s
  else
    let whole := rheDiv off (1000 * fine) * 1000
    let rest := if s.md.pins.maceOut then 0 else rheDiv (off - whole * fine) fine
    let old := s.time.e
    let e := old - whole
    let back := fun t : Nat => if t = 0 then 0 else ((t : Int) - (whole + rest) * fine).toNat
    let s := s.modTime (fun t => { t with
      e := e, tb := ((t.tb : Int) - rest).toNat, t2 := back t.t2
      request := t.request.map (fun r : DelayReq => { r with departure := back r.departure }) })
    -- stamps of the old fabric time order nothing after it (DESIGN CHOICE, notes/assumptions/23)
    let s := { s with card := { s.card with regBy := Vector.replicate 16 none }
                      pow := { s.pow with targetStamp := 0, targetClove := false }
                      rack := { s.rack with capStamp := 0, capClove := false } }
    let s := s.put K.timeEpochOffsetE e
    if s.time.acquired then
      ((s.inc K.timeEpochCorrections).raise Cause.ftEpochCorrected
        (args0 [(toUnsigned 64 old / 1000 % 2 ^ 48, 6), (toUnsigned 64 e / 1000 % 2 ^ 48, 6)])).rejudge
    else s

/-- Steer by the servo: its figure is not given beyond its bounds, so it is a free value within them (R93)
(DESIGN CHOICE, notes/assumptions/21). -/
def State.steer (s : State) : State := (s.put K.timeFrequencySteer ((s.freeNat % 200001 : Nat) - 100000 : Int)).useFree

/-- TIMING_SYNC (R93, R95, R96): departure t1 and arrival t2. -/
def execTimingSync (link : Fin 32) (v : BitVec 8) (t1 t2 : Nat) (s : State) : Out :=
  if s.time.upstream ≠ some link.val ∨ !versionOk v then .next s
  else
    let s := s.modTime (fun t => { t with t1 := t1, t2 := t2 })
    match s.upOffset with
    | none => .next s
    | some off =>
      let s := s.put K.timeOffsetFromUpstream (clampInt (-2147483648) 2147483647 (toPs off))
      let s := (s.when s.time.needEpoch (State.setEpoch off)).modTime (fun t => { t with needEpoch := false })
      let within := decide (off.natAbs ≤ 2 * fine)
      let s := (s.modTime (fun t => { t with syncRun := if within then t.syncRun + 1 else 0 })).steer
      .next (if s.time.mode = .acquiring ∧ 64 ≤ s.time.syncRun then s.enterTime .locked else s)

/-- DELAY_REQ_SEND (R93): every 1 ms, with its departure t3. -/
def execDelayReqSend (t3 : Nat) (s : State) : Out :=
  match s.time.upstream with
  | none => .next s
  | some l => .next ((s.modTime (fun t => { t with request := some { link := l, departure := t3 } })).queueTiming l
      (timingPayload 2 s.offer t3 0))

/-- DELAY_REQ (R93): answered with its arrival time. -/
def execDelayReq (link : Fin 32) (v : BitVec 8) (arrival : Nat) (s : State) : Out :=
  if s.time.mode = .invalid ∨ !versionOk v then .next s else .next (s.queueTiming link (timingPayload 3 s.offer (s.ft * fine) arrival))

/-- DELAY_RESP (R93, R95): t4, the request's arrival at the upstream module. Before the first SYNC of that upstream there is no
mean to form. -/
def execDelayResp (link : Fin 32) (v : BitVec 8) (t4 : Nat) (s : State) : Out :=
  match s.time.request with
  | none => .next s
  | some r =>
    if r.link ≠ link.val ∨ s.time.upstream ≠ some link.val ∨ !versionOk v then .next s
    else if s.time.t2 = 0 then .next (s.modTime (fun t => { t with request := none }))
    else
      let m := rheDiv (((s.time.t2 : Int) - s.time.t1) + ((t4 : Int) - r.departure)) 2
      let s := s.modTime (fun t => { t with request := none, means := (m :: t.means).take 16 })
      let s := s.put (K.timeLinkDelay link) (clampInt 0 4294967295 (toPs (s.meanDelay.getD 0)))
      if s.time.watch = 0 then .next s
      else
        let far : Bool := match s.upOffset with
          | some o => decide (500 * fine < o.natAbs)
          | none => false
        let s := s.modTime (fun t => { t with watch := t.watch - 1 })
        .next (if far && decide (s.time.mode = .locked) then s.enterTime .acquiring else s)

/-! ### Holdover (R95, R97) -/

/-- The error bound in ps (R97): 2,000 while LOCKED, and while INVALID or ACQUIRING, where the specification gives none
(DESIGN CHOICE, notes/assumptions/111). -/
def State.errorBound (s : State) : Nat :=
  match s.time.mode with
  | .holdover | .degraded => min (2000 + rheNat (50000 * (s.ft - s.time.lostAt)) sec) 0xFFFFFFFF
  | _ => 2000

/-- TIME_DEGRADED (R97). -/
def execTimeDegraded (s : State) : Out :=
  if s.time.mode = .holdover ∧ 250000 < s.errorBound then .next (s.enterTime .degraded) else .next s

/-- The master without its source keeps the tree LOCKED at quality 2 (R97). -/
def State.untraceable (s : State) : State :=
  s.when s.time.isMaster (fun s =>
    (s.modTime (fun t => { t with quality := 2, tai := false })).showTime.raise0 Cause.taiUntraceable)

/-- TIME_SOURCE_FAILED (R97): PTP, or PPS_IN while it gives the second phase. -/
def execTimeSourceFailed (pps : Bool) (s : State) : Out :=
  if pps then
    if s.ppsInUse then .next (s.modTime (fun t => { t with ptp := { t.ptp with ppsPresent := false } })).untraceable else .next s
  else if s.time.ptp.locked then
    let s := s.modTime (fun t => { t with ptp := { t.ptp with locked := false } })
    .next (if s.time.isMaster then s.untraceable.chooseTime else s)
  else .next s

/-! ### PTP and PPS (R90, R91) -/

/-- What the best master clock algorithm compares (DESIGN CHOICE, notes/assumptions/24). -/
def GmData.rank (g : GmData) : List Nat :=
  [g.priority1, g.clockClass, g.accuracy, g.variance, g.priority2, g.identity, g.steps]

/-- The port whose grandmaster the algorithm selects across both ports (DESIGN CHOICE, notes/assumptions/24). -/
def State.ptpBest (s : State) : Option Nat :=
  let on := fun p : Nat => (s.getN K.ptpPTPPorts).testBit p
  match s.time.ptp.gm0.filter (fun _ => on 0), s.time.ptp.gm1.filter (fun _ => on 1) with
  | none, none => none
  | some _, none => some 0
  | none, some _ => some 1
  | some a, some b => some (if lexBefore b.rank a.rank then 1 else 0)

/-- IEEE 1588 state of a port: 3 DISABLED, 4 LISTENING, 8 UNCALIBRATED, 9 SLAVE (DESIGN CHOICE, notes/assumptions/24). -/
def State.ptpPortState (s : State) (p : Nat) : Nat :=
  if !(s.getN K.ptpPTPPorts).testBit p then 3
  else if s.ptpBest ≠ some p then 4
  else if s.time.ptp.locked && decide (s.time.ptp.port = p) then 9 else 8

/-- Show the PTP ports and offset (0x2100). -/
def State.showPtp (s : State) : State :=
  let a := s.ptpPortState 0
  let b := s.ptpPortState 1
  let s := s.modTime (fun t => { t with ptp := { t.ptp with port0 := a, port1 := b } })
  (s.put K.ptpPTPPortState (a + 256 * b : Nat)).put K.ptpOffsetFromGrandmaster
    (clampInt (-2147483648) 2147483647 (toPs s.time.ptp.offset))

/-- A port's grandmaster, as its Announces describe it. Another selection unlocks. -/
def State.ptpHear (port : Fin 2) (g : Option GmData) (s : State) : State :=
  let modP := fun (f : PtpState → PtpState) (s : State) => s.modTime (fun t => { t with ptp := f t.ptp })
  let s := modP (fun p => if port.val = 0 then { p with gm0 := g } else { p with gm1 := g }) s
  let lost := s.time.ptp.locked && decide (s.ptpBest ≠ some s.time.ptp.port)
  let s := if lost then (if s.ptpBest.isSome then modP (fun p => { p with locked := false }) s
    else outState (execTimeSourceFailed false s) s) else s
  s.showPtp

/-- The peer-to-peer mechanism is selected (0x2100.03). -/
def State.ptpP2p (s : State) : Bool := decide (s.getN K.ptpDelayMechanism = 2)

/-- PTP_MESSAGE (R90): timestamped on a port. A Sync counts on the selected port, with the delay the selected mechanism
measured, and is answered with that mechanism's request: kind 1 Delay_Req, 2 Pdelay_Req. E changes only as a module leaves
INVALID with its first master time: a master that is LOCKED already is steered (R85, R96), however far PTP time lies from its
own (DESIGN CHOICE, notes/assumptions/24 and 111). -/
def execPtpMessage (port : Fin 2) (domain : Nat) (m : PtpMsg) (s : State) : Out :=
  if !(s.getN K.ptpPTPPorts).testBit port.val ∨ s.getN K.ptpPTPDomain ≠ domain then .next s
  else
    match m with
    | .announce utc gm => .next ((s.ptpHear port (some gm)).put K.timeUTCOffset utc.toInt)
    | .sync origin arrival delay p2p =>
      if s.ptpBest ≠ some port.val ∨ p2p ≠ s.ptpP2p then .next s
      else
        -- the module's time less the grandmaster's
        let off := (arrival : Int) - (origin + delay)
        let s := s.modTime (fun t => { t with
          ptp := { t.ptp with locked := true, port := port.val, offset := off }, noOfferSince := s.now })
        let first := decide (s.time.mode = .invalid) && s.chosen.isNone && s.mayMaster
        let s := ((s.showPtp.send (.ethernet port (if p2p then 2 else 1) [])).when first (State.setEpoch off)).chooseTime
        .next (s.when (s.time.isMaster && !s.ppsInUse) State.steer)
    | .lost => .next (s.ptpHear port none)

/-- PPS_IN_EDGE (R91): a rising edge at a TB stamp in fine units. The edge gives the second phase: what the module's second
lies off it is what the servo of a master on PPS removes. -/
def execPpsInEdge (stamp : Nat) (s : State) : Out :=
  if !s.getB K.ptpPPSSource then .next s
  else
    let whole : Int := (sec * fine : Nat)
    let centred := fun x : Int => let r := x % whole; if 2 * r ≤ whole then r else r - whole
    let own := centred ((stamp : Int) + s.time.e * fine)
    let bad := s.time.ptp.locked && decide (us * fine < (centred (own - s.time.ptp.offset)).natAbs)
    let s := (s.modTime (fun t => { t with ptp := { t.ptp with
      ppsPresent := true, ppsAt := s.now, ppsOffset := own
      ppsBad := if bad then some (t.ptp.ppsBad.getD s.now) else none } })).chooseTime
    .next (s.when (s.time.isMaster && s.ppsInUse) State.steer)

/-- PPS_MISMATCH (R91): disagreement by more than 1 µs for 3 s (DEDUCED, notes/assumptions/12). -/
def execPpsMismatch (s : State) : Out :=
  match s.time.ptp.ppsBad with
  | some t =>
    if t + 3 * sec ≤ s.now ∧ !s.time.ptp.ppsDropped then
      .next ((s.modTime (fun t => { t with ptp := { t.ptp with ppsDropped := true } })).raise0 Cause.ppsMismatch).chooseTime
    else .next s
  | none => .next s

end Sys2Proof.Machine
end

