-- ==== Sys2Proof/Machine/FabricOps.lean ====
section
/-! DEFINITION. The Renxel fabric: what its meanings share: link sequences and tags, credits, sending a flit, link state,
links coming up and going down (spec/13, R345, R350, R354 to R356). -/

namespace Sys2Proof.Machine

/-! ### Sessions of a link -/

/-- A session starts afresh: nothing learnt in an earlier one is reused (spec/13, "Bringing a link up"). -/
def LinkSt.newSession (x : LinkSt) (now : Nat) : LinkSt :=
  { LinkSt.fresh with
    rx := { x.rx with next := 0 }, tx := { x.tx with next := 0 }, enteredAt := now, failSaid := x.failSaid
    backoff := x.backoff, losses := x.losses, upAt := x.upAt, side := { SideSt.none with seq := x.side.seq } }

/-! ### Credits (R345) -/

/-- Is every buffer of a channel taken by flits whose credits have not gone back? -/
def Credit.full (v : Nat) (c : Credit) : Bool := decide (buffersOf v ≤ (c.received + 256 - c.shown) % 256)

def LinkSt.modCredit (v : Nat) (f : Credit → Credit) (x : LinkSt) : LinkSt :=
  { x with credits := Vector.ofFn (fun i : Fin 4 => if i.val = v then f x.credits[i] else x.credits[i]) }

/-- Show credits held (0x2400+n.14). -/
def State.showCredits (n : Fin 32) (s : State) : State :=
  let x := s.link n
  s.put (K.linkCreditsHeld n) ([1, 2, 3].map (fun v => (x.credit v).held v * 256 ^ v)).sum

/-- The freed counts of frames: frozen while a channel is withheld (R402). -/
def State.showFreed (n : Fin 32) (s : State) : State :=
  s.modLink n (fun x => { x with credits := Vector.ofFn (fun v : Fin 4 =>
    let c := x.credits[v]
    if s.withheld n v then c else { c with shown := c.freed }) })

/-! ### Link sequence and tag (R350) -/

/-- Link tag of a flit under a key, salt and full sequence. -/
def linkTag (key salt : List Byte) (seq : Nat) (flit : List Byte) : BitVec 64 :=
  Config.gmac64 key (leBytes 8 seq ++ salt) (flit.take 56)

/-- The full sequence nearest to the expected one with these low 32 bits. -/
def nearest (expected low : Nat) : Nat :=
  let m := 2 ^ 32
  let base := expected / m * m + low
  if base ≤ expected then (if base + m - expected < expected - base then base + m else base)
  else if m ≤ base ∧ expected - (base - m) ≤ base - expected then base - m
  else base

/-! ### Sending (R340, R344, R350) -/

/-- The next sideband byte of a link: part of a message, or no message (R365). -/
def LinkSt.sideNext (x : LinkSt) : Byte × List Byte :=
  match x.side.tx with
  | [] => (0x0F, [])
  | b :: rest => (b, rest)

/-- Send one flit in a frame, or as an abort: stamp sequence, credits and tag, code and scramble it. -/
def State.sendFrameAs (abort : Bool) (n : Fin 32) (flit : List Byte) (s : State) : State :=
  let s := s.showFreed n
  let x := s.link n
  let freed := [0] ++ [1, 2, 3].map (fun v => BitVec.ofNat 8 (x.credit v).shown)
  let head := flit.take 48 ++ leBytes 4 x.tx.next ++ freed
  -- HELLO and SIGN go untagged (R352)
  let keys := if flitType flit = flitAuth ∧ wordAt flit 9 1 ≤ 2 then none else x.keys
  let full := head ++ (match keys with
    | some k => leBytes 8 (linkTag k.keyTx k.saltTx x.tx.next head).toNat
    | none => List.replicate 8 0)
  let side := x.sideNext
  let f := frameOf x.tx.scrambler full abort side.1
  let v := flitChannel flit
  let s := s.modLink n (fun x => { (if v = 0 then x else x.modCredit v (fun c => { c with sent := (c.sent + 1) % 256 })) with
    tx := { scrambler := f.2, next := if keys.isSome then x.tx.next + 1 else x.tx.next }
    side := { x.side with tx := side.2 } })
  (s.showCredits n).send (.frame n (BitVec.ofNat 576 (numOf f.1)))

def State.sendFrame (n : Fin 32) (flit : List Byte) (s : State) : State := s.sendFrameAs false n flit

/-! ### Rekey switches (R353) -/

/-- The transmit direction switches once its sequence has passed the switch sequence. -/
def LinkSt.switchTx (x : LinkSt) : LinkSt :=
  match x.rekey.fresh, x.rekey.switchAt, x.keys with
  | some f, some w, some k =>
    if !x.rekey.txDone && decide (w < x.tx.next) then
      { x with
        keys := some { k with keyTx := f.keyTx, saltTx := f.saltTx }, tx := { x.tx with next := 0 }
        rekey := { x.rekey with txDone := true } }
    else x
  | _, _, _ => x

/-- The receive direction switches to the new key. -/
def LinkSt.switchRx (x : LinkSt) : LinkSt :=
  match x.rekey.fresh, x.keys with
  | some f, some k =>
    { x with
      keys := some { k with keyRx := f.keyRx, saltRx := f.saltRx }, rx := { x.rx with next := 0 }
      rekey := { x.rekey with rxDone := true } }
  | _, _ => x

/-- A rekey whose directions have both switched is over (R353). -/
def State.rekeyEnd (n : Fin 32) (s : State) : State :=
  let x := s.link n
  if x.rekey.txDone && x.rekey.rxDone then
    (s.modLink n (fun x => { x with rekey := { RekeySt.none with nextAt := s.now + s.getN K.fabRekeyInterval * sec } })).inc
      (K.linkRekeys n)
  else s

/-! ### Link state (R356) -/

/-- Peer node of each of the 32 links: none unless PAIR or FABRIC in UP. -/
def State.ownPeers (s : State) : List Nat :=
  (List.range 32).map (fun n => if s.linkUp n && decide (2 ≤ s.profile n) then s.getN (K.linkPeerNode n) else 0xFFFF)

/-- Flood the module's own link state on every PAIR and FABRIC link in UP. -/
def State.flood (s : State) : State :=
  if s.hasNode && !s.getB K.nodeNodeIdConflict then
    let s := s.modFab (fun b => { b with seq := (b.seq + 1) % 2 ^ 32 })
    s.each s.fabricLinks (fun n s => s.send (.linkState n (s.getN K.nodeNodeId) (s.getN K.nodeSerial) s.fab.seq s.ownPeers))
  else s

/-- Own links have changed: flood, and compute the self-routes again (R356, R359). -/
def State.linksChanged (s : State) : State := s.flood.selfRoute

/-! ### Link states (R347 to R355) -/

/-- State codes of 0x2400+n.03. -/
abbrev lkOff : Nat := 0
abbrev lkDown : Nat := 1
abbrev lkTraining : Nat := 2
abbrev lkVersion : Nat := 3
abbrev lkAuth : Nat := 4
abbrev lkUp : Nat := 5
abbrev lkBackoff : Nat := 6

def State.enterLink (n : Fin 32) (st : Nat) (s : State) : State :=
  (s.put (K.linkState n) st).modLink n (fun x => { x with enteredAt := s.now })

/-- Begin to train: both sides send TRAIN (R347). -/
def State.trainLink (n : Fin 32) (s : State) : State :=
  ((s.modLink n (fun x => x.newSession s.now)).enterLink n lkTraining).showCredits n

/-- Wait in BACKOFF (R355) (DESIGN CHOICE, notes/assumptions/33). -/
def State.backOff (n : Fin 32) (double : Bool) (s : State) : State :=
  let s := s.modLink n (fun x =>
    let b := if double then min 1024 (2 * x.backoff) else x.backoff
    { x with keys := none, auth := .none, rekey := .none, timing := [], control := [], backoff := b, waitEnd := s.now + b * ms })
  s.enterLink n lkBackoff

/-- An attempt to bring the link up fails: reason of Table 13-9 and its cause (R347, R349, R352)
(DESIGN CHOICE, notes/assumptions/33). -/
def State.failLink (n : Fin 32) (reason : Nat) (s : State) : State :=
  (s.put (K.linkLastDownReason n) reason).backOff n true

/-- Flits waiting to be sent are looked up once more, and dropped without a route (R354). -/
def State.requeue (n : Fin 32) (s : State) : State :=
  s.each [1, 2, 3] (fun v s =>
    let q := txQueue n v
    let x := s.queue q
    let s := (s.setQueue { x with items := [] }).watermark q
    s.each x.items (fun i s => s.sendBy { s.lookup i.data none with here := false } i.data false))

/-- Neither pair link is UP (R362, R439). -/
def State.pairDown (n : Fin 32) (s : State) : State :=
  if s.profile n = 2 ∧ s.pairLinks = [] then (s.raise0 Cause.pairLinksDown).goCold else s

/-- A link in UP goes down with a reason (R354) (DESIGN CHOICE, notes/assumptions/33). -/
def State.linkDown (n : Fin 32) (reason : Nat) (s : State) : State :=
  let x := s.link n
  let early := decide (s.now < x.upAt + 10 * sec)
  let long := decide (x.upAt + 60 * sec ≤ s.now)
  let told := decide (reason ∈ [2, 3, 4, 6, 10])
  let s := s.when told (State.sendFrame n (mkFlit flitControl 0 s.sourceNode 0 [0x10, 5, BitVec.ofNat 8 reason]))
  let losses := ((s.now :: x.losses).filter (fun t => decide (s.now ≤ t + 60 * sec))).take 4
  let s := s.modLink n (fun x => { x with
    backoff := if long then 1 else x.backoff, losses := if losses.length = 4 then [] else losses
    uncorrectable := [], tagFailed := [], badSync := 0, partials := [], side := { x.side with reqs := [], rx := none, tx := [] } })
  let s := ((s.put (K.linkLastDownReason n) reason).inc (K.linkLinkDowns n)).raise Cause.linkDown (args n [(reason, 1)])
  let s := if reason = 6 then (s.modLink n (fun x => { x with keys := none, auth := .none, rekey := .none, timing := [], control := [] })).enterLink n lkDown
    else s.backOff n early
  let s := s.when (decide (losses.length = 4)) (State.raiseOn Cause.linkFlapping n)
  let s := (s.requeue n).linksChanged
  ((s.trayLinkDown n).timeLinkDown n).pairDown n

/-- A link enters UP (R352, R355). -/
def State.enterUp (n : Fin 32) (s : State) : State :=
  let s := (s.enterLink n lkUp).modLink n (fun x => { x with
    upAt := s.now, failSaid := false, sinceCh0 := 3, sinceCh3 := 0
    rekey := { RekeySt.none with nextAt := s.now + s.getN K.fabRekeyInterval * sec } })
  let s := (s.put (K.linkUpSince n) s.ft).raiseOn Cause.linkUp n
  (s.trayLinkUp n).linksChanged

end Sys2Proof.Machine
end

