-- ==== Sys2Proof/Machine/Fabric.lean ====
section
/-! DEFINITION. The Renxel fabric (spec/13): frames received and sent, bringing links up and losing them, rekeys, link
state, routes, retimers. -/

namespace Sys2Proof.Machine

/-! ### Receiving a frame (R340 to R345, R350, R357, R360) -/

/-- What the link sequence and tag of a flit say (R350). `fresh` is a frame under the new key of a rekey. -/
inductive TagCheck where
  | untagged
  | good (seq : Nat) (fresh : Bool)
  | replay
  | bad
  deriving DecidableEq, Repr

def LinkSt.checkTag (x : LinkSt) (flit : List Byte) : TagCheck :=
  match x.keys with
  | none => .untagged
  | some k =>
    let low := wordAt flit 48 4
    let tag := BitVec.ofNat 64 (wordAt flit 56 8)
    let seq := nearest x.rx.next low
    let new : Bool := match x.rekey.fresh with
      | some f => x.rekey.switchAt.isSome && !x.rekey.rxDone && decide (tag = linkTag f.keyRx f.saltRx low flit)
      | none => false
    if new then .good low true
    else if seq < x.rx.next then .replay
    else if tag = linkTag k.keyRx k.saltRx seq flit then .good seq false
    else .bad

/-- May the link carry a flit of this type (R343, R346, R356)?  Before its keys exist, only IDLE, CONTROL and AUTH
(DESIGN CHOICE, notes/assumptions/118). -/
def State.carries (s : State) (n : Fin 32) (flit : List Byte) : Bool :=
  let t := flitType flit
  let p := s.profile n
  (decide (t ≤ 6) && decide (wordAt flit 0 1 / 16 = 1)) &&
  ((s.link n).keys.isSome || decide (t ∈ [flitIdle, flitControl, flitAuth])) &&
  (decide (p ≠ 1) || decide (t ≠ flitClove ∧ t ≠ flitMessage)) &&
  (decide (p ≠ 3) || s.hasNode || decide (flitKind flit = 0))

/-- Drop a flit and count it (0x2400+n.10). -/
def State.dropFlit (n : Fin 32) (s : State) : State := s.inc (K.linkFlitsDropped n)

/-- Add the fragment of a MESSAGE (R348); a message to a queue other than 33 or 34 is dropped whole (R394)
(DESIGN CHOICE, notes/assumptions/31). -/
def State.fragment (n : Fin 32) (flit : List Byte) (stamp : Nat) (s : State) : State :=
  let v := flitChannel flit
  let src := flitSource flit
  let num := wordAt flit 7 1
  let p := flitPayload flit
  let flags := wordAt flit 6 1
  let same := fun (f : Fragmented) => decide (f.source = src) && decide (f.channel = v) && decide (f.number = num)
  let others := (s.link n).partials.filter (fun f => !same f)
  let put := fun (l : List Fragmented) (s : State) => s.modLink n (fun x => { x with partials := l })
  let finish := fun (f : Fragmented) (s : State) =>
    if flags.testBit 3 then
      (put others s).when (decide (f.length ≤ 4096) && decide (f.length ≤ f.bytes.length))
        (State.enqueue f.queue (if v = 2 then 4 else 0) stamp (f.bytes.take f.length))
    else put (f :: others) s
  if flags.testBit 2 then
    let q := wordAt p 0 2
    if q = 33 ∨ q = 34 then
      finish { source := src, channel := v, number := num, queue := q, length := wordAt p 2 2, bytes := p.drop 4 } s
    else (put others s).inc K.poolMessagesToClosedQueues
  else
    match (s.link n).partials.find? same with
    | some f => finish { f with bytes := f.bytes ++ p } s
    | none => s

/-- Deliver a flit to this module by its type (R343, R357): CLOVE and TRAY flits enter queue n (Table 15-1)
(DESIGN CHOICE, notes/assumptions/37). -/
def State.deliverFlit (n : Fin 32) (flit : List Byte) (stamp : Nat) (s : State) : State :=
  let t := flitType flit
  if t = flitIdle then s
  else if t = flitClove ∨ t = flitTray then s.enqueue n 0 stamp flit
  else if t = flitMessage then s.fragment n flit stamp
  else s.send (.delivered n flit)

/-- Take the credits that a good frame returns (R345). -/
def State.takeCredits (n : Fin 32) (flit : List Byte) (s : State) : State :=
  (s.modLink n (fun x => [1, 2, 3].foldl (fun (x : LinkSt) v =>
    x.modCredit v (fun c => { c with peerFreed := wordAt flit (52 + v) 1 })) x)).showCredits n

/-- Take a receive buffer of the flit's channel and free it again as the flit moves on (R345); false: none is free
(DESIGN CHOICE, notes/assumptions/29). -/
def State.takeBuffer (n : Fin 32) (v : Nat) (s : State) : State × Bool :=
  if v = 0 then (s, true)
  else
    let full := ((s.link n).credit v).full v
    let s := s.modLink n (fun x => x.modCredit v (fun c => { c with received := (c.received + 1) % 256, freed := (c.freed + 1) % 256 }))
    (s, !full)

/-- A flit whose tag is good: buffer, then delivery and forwarding by the route lookup (R357, R360). -/
def State.acceptFlit (n : Fin 32) (flit : List Byte) (stamp : Nat) (s : State) : State :=
  if !s.carries n flit then s.dropFlit n
  else
    let r := s.takeBuffer n (flitChannel flit)
    let s := r.1
    if !r.2 then s.dropFlit n
    else
      let t := flitType flit
      if t ≠ flitClove ∧ t ≠ flitMessage then s.deliverFlit n flit stamp
      else
        let l := s.lookup flit (some n)
        let s := s.when l.here (State.deliverFlit n flit stamp)
        s.sendBy l flit true

/-- A tag failure (R350, R354, R360): counted; a flit already on its way out ends as an abort on each outgoing link
(DESIGN CHOICE, notes/assumptions/38). -/
def State.tagFailure (n : Fin 32) (flit : List Byte) (s : State) : State :=
  let s := s.inc (K.linkTagFailures n)
  let out : List Nat := if s.carries n flit && decide (flitType flit ∈ [flitClove, flitMessage]) then
    (s.lookup flit (some n)).links else []
  let s := s.each out (fun m s => (s.inc K.fabAbortsSent).send (.abort m))
  let s := s.modLink n (fun x => { x with tagFailed := ((s.now :: x.tagFailed).filter (fun t => decide (s.now < t + ms))).take 16 })
  if s.linkUp n ∧ (s.link n).tagFailed.length = 16 then (s.raiseOn Cause.linkTagBurst n).linkDown n 4 else s

/-- A decoded flit: its sequence and tag, then its credits and the flit itself (DESIGN CHOICE, notes/assumptions/38). -/
def State.receiveFlit (n : Fin 32) (flit : List Byte) (stamp : Nat) (s : State) : State :=
  match (s.link n).checkTag flit with
  | .replay => s.dropFlit n
  | .bad => s.tagFailure n flit
  | .untagged => s.acceptFlit n flit stamp
  | .good seq new =>
    let s := (s.modLink n (fun x =>
      let x := if new then x.switchRx else x
      { x with rx := { x.rx with next := seq + 1 } })).rekeyEnd n
    (s.takeCredits n flit).acceptFlit n flit stamp

def State.modSide (n : Fin 32) (f : SideSt → SideSt) (s : State) : State := s.modLink n (fun x => { x with side := f x.side })

/-- The value of a register of retimer 1 or 2 (t = 0 or 1), kept in 0x2500+n. -/
def State.retimerValue (n : Fin 32) (t reg v : Nat) (s : State) : State :=
  let s := s.putMax (K.retimerRetimersFound n) (t + 1 : Nat)
  let half := s.getN (K.retimerRetimerSerial n t)
  match reg with
  | 0x0000 => s.put (K.retimerRetimerIdentity n t) v
  | 0x0001 => s.put (K.retimerRetimerSerial n t) (half / 2 ^ 32 * 2 ^ 32 + v : Nat)
  | 0x0002 => s.put (K.retimerRetimerSerial n t) (half % 2 ^ 32 + 2 ^ 32 * v : Nat)
  | 0x0003 => (s.put (K.retimerCableId n) v).modSide n (fun x => { x with
      cables := if t = 0 then (v + 1, x.cables.2) else (x.cables.1, v + 1) })
  | 0x0010 => s.put (K.retimerRetimerTemperature n t) (toSigned 16 v)
  | 0x0011 => s.put (K.retimerRetimerEyeMargin n t) v
  | 0x0012 =>
    let old := s.getN (K.retimerRetimerStatus n)
    s.put (K.retimerRetimerStatus n) (if t = 0 then old / 256 * 256 + v % 256 else old % 256 + 256 * (v % 256) : Nat)
  | 0x0030 => s.put (K.retimerRetimerLatency n t) v
  | _ => s

/-- RETIMER_HOT and RETIMER_CABLE_MISMATCH after new readings (R366), each once while its condition lasts. Cables are held
plus 1, so that 0 is none. -/
def State.retimerCauses (n : Fin 32) (s : State) : State :=
  let x := (s.link n).side
  let st := s.getN (K.retimerRetimerStatus n)
  let hot := [0, 1].any (fun t => decide (1000 ≤ s.get (K.retimerRetimerTemperature n t)) || st.testBit (8 * t + 2))
  let differ := decide (x.cables.1 ≠ 0) && decide (x.cables.2 ≠ 0) && decide (x.cables.1 ≠ x.cables.2)
  let s := s.when (hot && !x.hot) (State.raiseOn Cause.retimerHot n)
  let s := s.when (differ && !x.mismatch) (State.raise Cause.retimerCableMismatch
    (args n [(x.cables.1 - 1, 4), (x.cables.2 - 1, 4)]))
  s.modSide n (fun y => { y with hot := hot, mismatch := differ })

/-- A sideband message (R365, R366): 16 bytes; a wrong CRC is counted; requests that reach a module are ignored
(DESIGN CHOICE, notes/assumptions/39). -/
def State.sidebandIn (n : Fin 32) (b : List Byte) (s : State) : State :=
  if (crc16 (b.take 14)).toNat ≠ wordAt b 14 2 then s.inc (K.retimerSidebandErrors n)
  else if wordAt b 1 1 ≠ 0x81 ∨ !s.linkUp n ∨ wordAt b 0 1 / 16 ≠ 1 then s
  else
    match (s.link n).side.reqs.find? (fun r : SideReq => decide (r.seq = wordAt b 3 1)) with
    | none => s
    | some r =>
      let s := s.modSide n (fun x => { x with
        reqs := x.reqs.filter (fun y => decide (y.seq ≠ r.seq))
        missed := if r.retimer = 1 then (0, x.missed.2) else (x.missed.1, 0)
        lost := if r.retimer = 1 then (false, x.lost.2) else (x.lost.1, false) })
      (s.retimerValue n (r.retimer - 1) r.reg (wordAt b 6 4)).retimerCauses n

/-- Bytes of nibbles, high first (R365). -/
def nibbleBytes : List (BitVec 4) → List Byte
  | h :: l :: rest => BitVec.ofNat 8 (16 * h.toNat + l.toNat) :: nibbleBytes rest
  | _ => []

/-- The sideband byte of a frame (R365): nibbles of a message are kept until it is whole, and it is acted on. -/
def State.sidebandByte (n : Fin 32) (b : Byte) (s : State) : State :=
  if s.profile n ≠ 3 then s
  else if b = 0x55 then s.modLink n (fun x => { x with side := { x.side with rx := some [] } })
  else
    match sideNibble b with
    | none => (s.modLink n (fun x => { x with side := { x.side with rx := none } })).inc (K.retimerSidebandErrors n)
    | some d =>
      match (s.link n).side.rx with
      | none => s
      | some l =>
        let l := l ++ [d]
        if l.length = 32 then (s.modSide n (fun x => { x with rx := none })).sidebandIn n (nibbleBytes l)
        else s.modSide n (fun x => { x with rx := some l })

/-- Frame lock and polarity from the sync word (R340, R347), and sync loss (R354). -/
def State.syncWord (n : Fin 32) (wrong : Nat) (s : State) : State :=
  let s := s.modLink n (fun x => { x with
    syncRun := if wrong = 0 then x.syncRun + 1 else 0
    locked := x.locked || (decide (wrong = 0) && decide (64 ≤ x.syncRun + 1))
    badSync := if 2 < wrong then x.badSync + 1 else 0 })
  if s.linkUp n ∧ 8 ≤ (s.link n).badSync then s.linkDown n 2 else s

/-- The flit of a descrambled body (R341, R342, R354) (DEDUCED, notes/assumptions/28). -/
def State.receiveBody (n : Fin 32) (body : List Bool) (stamp : Nat) (s : State) : State :=
  match decodeBody body with
  | .abort => s.inc (K.linkAbortsReceived n)
  | .uncorrectable =>
    let s := (s.inc (K.linkUncorrectableFrames n)).modLink n (fun x => { x with
      uncorrectable := ((s.now :: x.uncorrectable).filter (fun t => decide (s.now < t + ms))).take 16 })
    if s.linkUp n ∧ (s.link n).uncorrectable.length = 16 then s.linkDown n 3 else s
  | .flit f k => (s.countBy 64 (K.linkSymbolsCorrected n) k).receiveFlit n f stamp

/-- LINK_FRAME_RECEIVE (R340): 576 bits, bit 0 the first received, with the arrival FT. -/
def execLinkFrameReceive (n : Fin 32) (frame : BitVec 576) (stamp : Nat) (s : State) : Out :=
  let st := s.linkStateOf n
  if st < lkTraining ∨ st = lkBackoff then .next s
  else
    let raw := lineBits 576 frame.toNat
    let inv := s.getB (K.linkPolarityInverted n)
    let seen := if inv then raw.map not else raw
    let turn := decide (syncWrong (seen.take 16) = 16)
    let bits := if turn then seen.map not else seen
    let s := (s.inc64 (K.linkFramesReceived n)).putB (K.linkPolarityInverted n) (inv != turn)
    let s := s.syncWord n (syncWrong (bits.take 16))
    let d := descramble (s.link n).rx.scrambler ((bits.drop 16).take 552)
    let s := s.modLink n (fun x => { x with rx := { x.rx with scrambler := d.2 } })
    let s := s.sidebandByte n (BitVec.ofNat 8 (numOf (bits.drop 568)))
    if s.linkStateOf n < lkTraining ∨ s.linkStateOf n = lkBackoff then .next s
    else .next (s.receiveBody n d.1 stamp)

/-! ### Sending a frame (R344) -/

/-- Does a channel hold a credit and a flit that may be sent? (DESIGN CHOICE, notes/assumptions/32). -/
def State.eligible (n : Fin 32) (v : Nat) (s : State) : Bool :=
  decide (0 < ((s.link n).credit v).held v) && (s.readable (s.queue (txQueue n v)) (fun _ => false)).isSome

/-- Send the front flit of a channel's transmit queue; a poisoned one as an abort (R405)
(DESIGN CHOICE, notes/assumptions/32). -/
def State.sendChannel (n : Fin 32) (v : Nat) (s : State) : State :=
  let q := txQueue n v
  let x := s.queue q
  match s.readable x (fun _ => false) with
  | some i =>
    let s := (s.setQueue { x with items := x.items.filter (fun y => decide (y.id ≠ i.id)) }).watermark q
    s.sendFrameAs i.poison n (padTo 64 i.data)
  | none => s

/-- Flit of a link that is not yet UP (R347, R349, R352): training and version flits repeat; AUTH flits go once. -/
def State.sendBringUp (n : Fin 32) (s : State) : State :=
  let x := s.link n
  let st := s.linkStateOf n
  if st = lkTraining then
    s.sendFrame n (mkFlit flitControl 0 s.sourceNode 0 [0x10, if x.locked then 2 else 1])
  else if st = lkVersion then
    let shelf := s.getN K.nodeNodeId
    let slot : Nat := if s.md.pins.slotB then 1 else 0
    s.sendFrame n (mkFlit flitControl 0 s.sourceNode 0
      ([0x10, 3] ++ leBytes 2 2 ++ leBytes 4 0 ++ leBytes 1 (s.profile n) ++ leBytes 2 shelf ++ leBytes 1 n.val ++
       leBytes 8 (s.getN K.nodeSerial) ++ leBytes 1 slot))
  else
    match x.control with
    | f :: rest => (s.modLink n (fun x => { x with control := rest })).sendFrame n f
    | [] => s.sendFrame n (mkFlit flitIdle 0 s.sourceNode 0 [])

/-- A TIMING flit leaves: its departure is written into it, and a DELAY_REQ's is t3 of its exchange (R92, R93). -/
def State.sendTiming (n : Fin 32) (f : List Byte) (s : State) : State :=
  let mine := decide ((f.getD 9 0).toNat = 2)
  let s' := s.when mine (fun s => { s with time := { s.time with request := s.time.request.map (fun r : DelayReq =>
    if r.link = n.val then { r with departure := s.ft * 65536 } else r) } })
  s'.sendFrame n (stampDeparture s.ft f)

/-- FRAME_SLOT (R344): a TIMING flit that is due, another channel 0 flit, channels 1, 2 and 3 by their credits, else IDLE
(DESIGN CHOICE, notes/assumptions/32). -/
def execFrameSlot (n : Fin 32) (s : State) : Out :=
  let st := s.linkStateOf n
  if st < lkTraining ∨ st = lkBackoff then .next s
  else if st ≠ lkUp then .next (s.sendBringUp n)
  else
    let s := (s.modLink n LinkSt.switchTx).rekeyEnd n
    let x := s.link n
    let ch0 := decide (3 ≤ x.sinceCh0)
    let note := fun (v : Option Nat) (s : State) => s.modLink n (fun x => { x with
      sinceCh0 := if v = some 0 then 0 else min 3 (x.sinceCh0 + 1)
      sinceCh3 := if v = some 3 then 0 else min 32 (x.sinceCh3 + 1) })
    match ch0, x.timing, x.control with
    | true, f :: rest, _ => .next (note (some 0) ((s.modLink n (fun x => { x with timing := rest })).sendTiming n f))
    | true, [], f :: rest => .next (note (some 0) ((s.modLink n (fun x => { x with control := rest })).sendFrame n f))
    | _, _, _ =>
      let first := if 30 ≤ x.sinceCh3 then [3, 1, 2] else [1, 2, 3]
      match first.find? (fun v => s.eligible n v) with
      | some v => .next (note (some v) (s.sendChannel n v))
      | none => .next (note none (s.sendFrame n (mkFlit flitIdle 0 s.sourceNode 0 [])))

/-! ### Training and version (R347, R349, R363) -/

/-- The payload of a CONTROL flit (Table 13-6): a version major other than 1, or a reserved kind, is dropped and counted (R5);
a payload of another kind is not this command's. -/
def State.controlHear (n : Fin 32) (kind : Nat) (b : List Byte) (act : State → State) (s : State) : State :=
  if wordAt b 0 1 / 16 ≠ 1 ∨ !decide (1 ≤ wordAt b 1 1 ∧ wordAt b 1 1 ≤ 5) then s.dropFlit n
  else s.when (decide (wordAt b 1 1 = kind)) act

/-- TRAIN (R347): carries training until frame lock; lock itself is found by the sync words. -/
def execTrain (n : Fin 32) (payload : List Byte) (s : State) : Out :=
  .next (s.controlHear n 1 payload (fun s =>
    s.when (decide (s.linkStateOf n = lkTraining)) (State.modLink n (fun x => { x with doneSeen := 0 }))))

/-- What a TRAIN_DONE says (R347): with frame lock and 8 of them the link enters VERSION. -/
def State.takeTrainDone (n : Fin 32) (s : State) : State :=
  if s.linkStateOf n ≠ lkTraining then s
  else
    let s := s.modLink n (fun x => { x with doneSeen := x.doneSeen + 1 })
    let x := s.link n
    if x.locked && decide (8 ≤ x.doneSeen) then s.enterLink n lkVersion else s

/-- TRAIN_DONE (R347). -/
def execTrainDone (n : Fin 32) (payload : List Byte) (s : State) : Out :=
  .next (s.controlHear n 2 payload (State.takeTrainDone n))

/-- Data of an AUTH exchange in fragments of 34 bytes (R352). -/
def State.sendAuth (n : Fin 32) (kind : Nat) (data : List Byte) (s : State) : State :=
  let count := (data.length + 33) / 34
  s.each ((List.range count).zip (pieces 34 count data)) (fun e s =>
    s.queueControl n flitAuth ([0x10, BitVec.ofNat 8 kind] ++ leBytes 2 e.1 ++ leBytes 2 count ++ e.2))

/-- The nonce and ephemeral public key of a HELLO: 129 bytes the specification leaves to chance (free values). -/
def State.ephemeral (s : State) : List Byte := leBytes 129 s.freeNat

/-- Send the own HELLO with the certificate chain (R352). -/
def State.sendHello (n : Fin 32) (s : State) : State :=
  let h := s.ephemeral ++ s.getBytes K.secIdentityCertificate 0
  ((s.useFree).modLink n (fun x => { x with auth := { x.auth with ownHello := some h } })).sendAuth n 1 h

/-- A PAIR peer reports the same shelf id, or none, and the other slot (R363). -/
def State.pairFits (v : VersionSaid) (s : State) : Bool :=
  (decide (v.node = 0xFFFF) || (s.hasNode && decide (v.node.toNat / 2 = s.getN K.nodeNodeId / 2))) &&
  decide (v.slot = if s.md.pins.slotB then 0 else 1)

/-- VERSION (Table 13-6). -/
def VersionSaid.ofBytes (b : List Byte) : VersionSaid where
  majors := BitVec.ofNat 16 (wordAt b 2 2)
  minors := BitVec.ofNat 32 (wordAt b 4 4)
  profile := BitVec.ofNat 8 (wordAt b 8 1)
  node := BitVec.ofNat 16 (wordAt b 9 2)
  link := BitVec.ofNat 8 (wordAt b 11 1)
  serial := BitVec.ofNat 64 (wordAt b 12 8)
  slot := BitVec.ofNat 8 (wordAt b 20 1)

/-- The version both sides use (R349): the highest common major, which is 1, and the lower of the two highest minors, which is
this part's 0. -/
abbrev linkVersionUsed : Nat := 0x10

/-- What a VERSION says (R349): major 1 is the only one this part supports. -/
def State.takeVersion (n : Fin 32) (v : VersionSaid) (s : State) : State :=
  if s.linkStateOf n ≠ lkVersion then s
  else if !v.majors.getLsbD 1 then (s.raiseOn Cause.linkVersionFail n).failLink n 8
  else if v.profile.toNat ≠ s.profile n ∨ (s.profile n = 2 ∧ !s.pairFits v) then
    (s.raiseOn Cause.linkPeerRefused n).failLink n 9
  else
    let s := (((s.put (K.linkPeerNode n) v.node.toNat).put (K.linkPeerSerial n) v.serial.toNat).put (K.linkPeerLink n)
      v.link.toNat).put (K.linkVersion n) linkVersionUsed
    let s := s.when (decide (s.profile n = 2)) (State.put K.pairPartnerSerial v.serial.toNat)
    (s.enterLink n lkAuth).sendHello n

/-- LINK_VERSION (R349). -/
def execLinkVersion (n : Fin 32) (payload : List Byte) (s : State) : Out :=
  .next (s.controlHear n 3 payload (State.takeVersion n (.ofBytes payload)))

/-- LINK_TRAIN_FAIL (R347): not UP to VERSION within 20 ms; recorded once for an episode. -/
def execLinkTrainFail (n : Fin 32) (s : State) : Out :=
  let x := s.link n
  if s.linkStateOf n ≠ lkTraining ∨ s.now ≤ x.enteredAt + 20 * ms then .next s
  else
    let s := s.when (!x.failSaid) (fun s => (s.modLink n (fun x => { x with failSaid := true })).raiseOn Cause.linkTrainFail n)
    .next (s.failLink n 7)

/-! ### Credits (R345) -/

/-- CREDIT_SYNC_SEND: cumulative sent counts of channels 1 to 3 (Table 13-6). -/
def execCreditSyncSend (s : State) : Out :=
  .next (s.each ((List.finRange 32).filter (fun n : Fin 32 => s.linkUp n)) (fun n s =>
    s.queueControl n flitControl ([0x10, 4] ++ [1, 2, 3].map (fun v => BitVec.ofNat 8 ((s.link n).credit v).sent))))

/-- CREDIT_SYNC: what was sent and not received was lost on the line, and is freed. -/
def execCreditSync (n : Fin 32) (payload : List Byte) (s : State) : Out :=
  let fix := fun (v : Nat) (c : Credit) =>
    let sent := wordAt payload (1 + v) 1
    let lost := (sent + 256 - c.received) % 256
    { c with received := sent, freed := (c.freed + lost) % 256 }
  .next (s.controlHear n 4 payload (State.modLink n (fun x =>
    ((x.modCredit 1 (fix 1)).modCredit 2 (fix 2)).modCredit 3 (fix 3))))

/-! ### Authentication (R350 to R352) -/

/-- Is this end low: the lower serial (R352)? -/
def State.isLow (n : Fin 32) (s : State) : Bool := decide (s.getN K.nodeSerial < s.getN (K.linkPeerSerial n))

/-- Keys of both directions from the 72 derived bytes: low to high, high to low, then the salts (R352). -/
def linkKeysOf (low : Bool) (b : List Byte) : LinkKeys :=
  let a := b.take 32
  let c := (b.drop 32).take 32
  let sa := (b.drop 64).take 4
  let sc := (b.drop 68).take 4
  if low then { keyTx := a, saltTx := sa, keyRx := c, saltRx := sc } else { keyTx := c, saltTx := sc, keyRx := a, saltRx := sa }

/-- The keys two HELLOs give. -/
def State.deriveKeys (n : Fin 32) (a : AuthSt) (s : State) : Option LinkKeys :=
  match a.ownHello, a.peerHello with
  | some o, some p =>
    some (linkKeysOf (s.isLow n) (if s.isLow n then Config.linkSecret o p else Config.linkSecret p o))
  | _, _ => none

/-- Signature over H: bytes the module's key makes (free values, R352). -/
def State.sendSign (n : Fin 32) (kind : Nat) (extra : List Byte) (s : State) : State :=
  (s.useFree).sendAuth n kind (leBytes 384 s.freeNat ++ extra)

/-- Authentication fails with a reason (R352) (DESIGN CHOICE, notes/assumptions/34 and 118). -/
def State.authFail (n : Fin 32) (reason : Nat) (s : State) : State :=
  (s.raise Cause.linkAuthFail (args n [(reason, 1)])).failLink n 10

/-- HELLO (R352): nonce, ephemeral key and chain, with the serial of its certificate and whether the chain reaches an
anchor with the profile's role in force (DESIGN CHOICE, notes/assumptions/118). -/
def execHello (n : Fin 32) (hello : List Byte) (serial : BitVec 64) (chainOk : Bool) (s : State) : Out :=
  if s.linkStateOf n ≠ lkAuth ∨ (s.link n).auth.peerHello.isSome then .next s
  else if !chainOk then .next (s.noteCert.authFail n 1)
  else
    let s := (s.noteCert.put (K.linkPeerSerial n) serial.toNat).modLink n (fun x => { x with
      peerChain := hello.drop 129, auth := { x.auth with peerHello := some hello, signed := true } })
    .next (s.sendSign n 2 [])

/-- SIGN (R352): with a good signature the keys are derived and FINISHED goes as the first tagged frame. -/
def execSign (n : Fin 32) (sigOk : Bool) (s : State) : Out :=
  let a := (s.link n).auth
  if s.linkStateOf n ≠ lkAuth ∨ a.peerSigned ∨ a.peerHello.isNone then .next s
  else if !sigOk then .next (s.authFail n 2)
  else
    let keys := s.deriveKeys n a
    let s := s.modLink n (fun x => { x with
      keys := keys, auth := { x.auth with peerSigned := true, finSent := true }
      rx := { x.rx with next := 0 }, tx := { x.tx with next := 0 } })
    .next (s.sendAuth n 3 [0])

/-- FINISHED (R352): sent and received, the link is UP. An AUTH payload with a version major other than 1 is dropped (R5). -/
def execFinished (n : Fin 32) (payload : List Byte) (s : State) : Out :=
  let a := (s.link n).auth
  if wordAt payload 0 1 / 16 ≠ 1 then .next (s.dropFlit n)
  else if s.linkStateOf n ≠ lkAuth ∨ !a.finSent ∨ wordAt payload 1 1 ≠ 3 then .next s
  else .next (s.enterUp n)

/-- LINK_AUTH_FAIL (R352): a failed check with its reason, or 20 ms in AUTHENTICATING (DESIGN CHOICE, notes/assumptions/34). -/
def execLinkAuthFail (n : Fin 32) (reason : BitVec 8) (s : State) : Out :=
  .next (if s.linkStateOf n = lkAuth then s.authFail n reason.toNat else s)

/-! ### Rekeys (R353) -/

def State.modRekey (n : Fin 32) (f : RekeySt → RekeySt) (s : State) : State := s.modLink n (fun x => { x with rekey := f x.rekey })

/-- Send the own REKEY_HELLO: fresh ephemeral keys, no certificates. -/
def State.rekeyHello (n : Fin 32) (s : State) : State :=
  let h := s.ephemeral
  ((s.useFree).modRekey n (fun r => { r with auth := some { (r.auth.getD .none) with ownHello := some h } })).sendAuth n 4 h

/-- A rekey fails: the old keys stay; retried after 60 s; the third in a row takes the link down with reason 10. -/
def State.rekeyFail (n : Fin 32) (s : State) : State :=
  let r := (s.link n).rekey
  if 3 ≤ r.failures + 1 then (s.raise Cause.linkAuthFail (args n [(3, 1)])).linkDown n 10
  else s.modRekey n (fun r => { RekeySt.none with failures := r.failures + 1, nextAt := s.now + 60 * sec })

/-- REKEY_START: low starts when the interval is over. -/
def execRekeyStart (n : Fin 32) (s : State) : Out :=
  let r := (s.link n).rekey
  .next (if s.linkUp n ∧ s.isLow n ∧ r.auth.isNone ∧ r.nextAt ≤ s.now then s.rekeyHello n else s)

/-- REKEY_HELLO: high answers with its own; then low signs and names the switch sequence. -/
def execRekeyHello (n : Fin 32) (hello : List Byte) (s : State) : Out :=
  if !s.linkUp n then .next s
  else
    let s := if s.isLow n then s else s.rekeyHello n
    let s := s.modRekey n (fun r => { r with auth := r.auth.map (fun a => { a with peerHello := some hello, signed := true }) })
    let x := s.link n
    if s.isLow n ∧ x.rekey.auth.isSome then
      let at_ := max x.tx.next x.rx.next + 4096
      .next ((s.modRekey n (fun r => { r with switchAt := some at_ })).sendSign n 5 (leBytes 8 at_))
    else .next (s.sendSign n 5 [])

/-- REKEY_SIGN: a good signature readies the new keys; low's names the switch sequence (DEDUCED, notes/assumptions/35). -/
def execRekeySign (n : Fin 32) (sigOk : Bool) (switchAt : BitVec 64) (s : State) : Out :=
  match (s.link n).rekey.auth with
  | none => .next s
  | some a =>
    if !s.linkUp n ∨ a.peerHello.isNone then .next s
    else if !sigOk then .next (s.rekeyFail n)
    else
      let keys := s.deriveKeys n a
      let low := s.isLow n
      .next (s.modRekey n (fun r => { r with fresh := keys, switchAt := if low then r.switchAt else some switchAt.toNat }))

/-- REKEY_SWITCH: each direction past the switch sequence uses its new key (DEDUCED, notes/assumptions/35). -/
def execRekeySwitch (n : Fin 32) (s : State) : Out :=
  if !s.linkUp n then .next s
  else
    let x := s.link n
    let rxDue : Bool := match x.rekey.switchAt with
      | some w => x.rekey.fresh.isSome && !x.rekey.rxDone && decide (w < x.rx.next)
      | none => false
    .next ((s.modLink n (fun x => if rxDue then x.switchTx.switchRx else x.switchTx)).rekeyEnd n)

/-- REKEY_RETRY: an exchange without an end has failed; 60 s after a failure low starts again. -/
def execRekeyRetry (n : Fin 32) (s : State) : Out :=
  let r := (s.link n).rekey
  if !s.linkUp n then .next s
  else if r.auth.isSome ∧ r.fresh.isNone then .next (s.rekeyFail n)
  else if r.auth.isNone ∧ 0 < r.failures ∧ r.nextAt ≤ s.now ∧ s.isLow n then .next (s.rekeyHello n)
  else .next s

/-! ### Link loss and rejoin (R354, R355) -/

/-- LINK_DOWN_FLIT (R354): the peer takes the link down. -/
def execLinkDownFlit (n : Fin 32) (payload : List Byte) (s : State) : Out :=
  .next (s.controlHear n 5 payload (fun s => s.when (s.linkUp n) (State.linkDown n 5)))

/-- LINK_DOWN (R354): with its reason of Table 13-9; a tag burst is recorded as well. -/
def execLinkDown (n : Fin 32) (reason : BitVec 8) (s : State) : Out :=
  if !s.linkUp n then .next s
  else .next ((s.when (decide (reason = 4)) (State.raiseOn Cause.linkTagBurst n)).linkDown n reason.toNat)

/-- LINK_BACKOFF_EXPIRY (R355) (DEDUCED, notes/assumptions/12; DESIGN CHOICE, notes/assumptions/33). -/
def execLinkBackoffExpiry (n : Fin 32) (s : State) : Out :=
  .next (if s.linkStateOf n = lkBackoff ∧ (s.link n).waitEnd ≤ s.now then s.trainLink n else s)

/-- Bring a link's state in line with its profile and Enable: DOWN to TRAINING when enabled. -/
def State.wakeLink (n : Fin 32) (s : State) : State :=
  if s.profile n = 0 then s.put (K.linkState n) lkOff
  else if !s.getB (K.linkEnable n) then (if s.linkStateOf n = lkOff then s.put (K.linkState n) lkDown else s)
  else if s.linkStateOf n ≤ lkDown then s.trainLink n
  else s

/-- What a write of a link's Enable does (0x2400+n.02). -/
def State.linkEnableOwn (n : Fin 32) (v : Int) (s : State) : State × Nat :=
  let s := s.put (K.linkEnable n) v
  let s := if v = 0 then
      (if s.linkUp n then s.linkDown n 6
       else if s.linkStateOf n = lkOff then s
       else (s.modLink n (fun x => { x with keys := none, auth := .none, timing := [], control := [] })).enterLink n lkDown)
    else s.wakeLink n
  s.gateQuads.ok

/-- LINK_ENABLE_WRITE (R354). -/
def execLinkEnableWrite (n : Fin 32) (w : HostWrite) (s : State) : Out :=
  .next (s.hostWrite (K.linkEnable n) w (State.linkEnableOwn n))

/-- What a write of a link's profile does (0x2400+n.01): the link is disabled. -/
def State.linkProfileOwn (n : Fin 32) (v : Int) (s : State) : State × Nat :=
  ((((s.put (K.linkProfile n) v).put (K.linkState n) (if v = 0 then lkOff else lkDown)).wakeLink n).gateQuads).ok

/-! ### Nodes and routes (R356 to R359) -/

/-- LINK_STATE_FLOOD (R356). -/
def execLinkStateFlood (s : State) : Out := .next s.flood

/-- Put an entry in the database, by node. -/
def insertState (e : LinkState) : List LinkState → List LinkState
  | [] => [e]
  | x :: rest => if e.node < x.node then e :: x :: rest else if e.node = x.node then e :: rest else x :: insertState e rest

/-- Another module reports this module's node id (R356). -/
def State.nodeConflict (other : Nat) (s : State) : State :=
  if s.getB K.nodeNodeIdConflict then s
  else (s.putB K.nodeNodeIdConflict true).raise Cause.nodeIdConflict (args (s.getN K.nodeNodeId) [(other, 8)])

/-- LINK_STATE (R356): newer than the entry held, under the sequence rule of R104. -/
def execLinkState (n : Fin 32) (node : BitVec 10) (serial : BitVec 64) (seq : BitVec 32) (peers : Vector (BitVec 16) 32)
    (s : State) : Out :=
  let d := node.toNat
  let own := s.hasNode && decide (d = s.getN K.nodeNodeId)
  if own && decide (serial.toNat = s.getN K.nodeSerial) then .next s
  else
    let s := s.when own (State.nodeConflict serial.toNat)
    let newer : Bool := match s.fab.database.find? (fun x : LinkState => decide (x.node = d)) with
      | some x => seqNewer x.seq seq
      | none => true
    if !newer then .next s
    else
      let e : LinkState := { node := d, serial := serial.toNat, seq := seq, peers := peers.map (·.toNat), heard := s.now }
      let s := (s.modFab (fun b => { b with database := insertState e b.database })).selfRoute
      .next (s.each (s.fabricLinks.filter (fun m => decide (m ≠ n.val))) (fun m s =>
        s.send (.linkState m d serial.toNat seq.toNat (e.peers.toList))))

/-- LINK_STATE_AGE_OUT (R356). -/
def execLinkStateAgeOut (s : State) : Out :=
  let old := fun x : LinkState => decide (x.heard + s.getN K.fabLinkStateAgeLimit * ms < s.now)
  if s.fab.database.any old then
    .next (s.modFab (fun b => { b with database := b.database.filter (fun x => !old x) })).selfRoute
  else .next s

/-- ACTIVATE (R358): arms the pending tables for the activation FT. -/
def State.activateOwn (s : State) : State × Nat := (s.modFab (fun b => { b with armed := true })).ok

def execActivate (sess : Nat) (s : State) : Out :=
  .next (s.hostWrite K.routeRouteCommand (oneByte sess 1) (fun _ s => s.activateOwn))

/-- Put the pending tables in force, whole (R358). -/
def State.activateRoutes (s : State) : State :=
  let s := (s.putBytes K.routeUnicastTableInForce (s.getBytes K.routeUnicastTablePending 2048)).putBytes
    K.routeMulticastTableInForce (s.getBytes K.routeMulticastTablePending 1024)
  let s := (s.modFab (fun b => { b with armed := false, selfSaid := false })).inc K.routeActivations
  (s.raise0 Cause.routesActivated).showRouteSource

/-- At a tick boundary: the first at or after the activation FT; 0 is the next boundary. -/
def State.routesTick (s : State) : State :=
  if s.fab.armed ∧ s.getN K.routeActivationFT ≤ s.ft then s.activateRoutes else s

/-- ROUTES_ACTIVATED (R358). -/
def execRoutesActivated (s : State) : Out := .next s.routesTick

/-- CLEAR_PENDING (R358): the pending tables are empty again. -/
def State.clearPending (s : State) : State × Nat :=
  ((s.putBytes K.routeUnicastTablePending (List.replicate 2048 255)).putBytes K.routeMulticastTablePending
    (List.replicate 1024 0)).ok

def execRouteClearPending (sess : Nat) (s : State) : Out :=
  .next (s.hostWrite K.routeRouteCommand (oneByte sess 2) (fun _ s => s.clearPending))

/-! ### Retimers and margins (R364 to R367) -/

/-- The bytes of a sideband message as they are sent: the start marker and 32 nibbles, high first (R365)
(DESIGN CHOICE, notes/assumptions/39). -/
def sideBytes (m : List Byte) : List Byte :=
  0x55 :: m.flatMap (fun b => [sideByte (BitVec.ofNat 4 (b.toNat / 16)), sideByte (BitVec.ofNat 4 (b.toNat % 16))])

/-- A sideband message (R365): operation, hop, register, value; its CRC follows (DESIGN CHOICE, notes/assumptions/39). -/
def sideMessage (op hop seq reg value : Nat) : List Byte :=
  let b := [0x10] ++ leBytes 1 op ++ leBytes 1 hop ++ leBytes 1 seq ++ leBytes 2 reg ++ leBytes 4 value ++ [0, 0, 0, 0]
  b ++ leBytes 2 (crc16 b).toNat

/-- Send a sideband request to a retimer; an answer is due 10 µs after its last byte has left, a byte in each frame (R366)
(DESIGN CHOICE, notes/assumptions/118). -/
def State.sideRequest (n : Fin 32) (op retimer reg value : Nat) (s : State) : State :=
  let q := (s.link n).side.seq
  s.modSide n (fun x => { x with
    tx := x.tx ++ sideBytes (sideMessage op retimer q reg value)
    reqs := if op = 1 then
        x.reqs ++ [{ seq := q, retimer := retimer, reg := reg, due := s.now + (x.tx.length + 33) * 2048 / 100 + 10000 }]
      else x.reqs
    seq := (q + 1) % 256 })

/-- Registers the module reads (Table 13-8). -/
def retimerRegs : List Nat := [0x0000, 0x0001, 0x0002, 0x0003, 0x0010, 0x0011, 0x0012, 0x0030]

/-- Requests past their deadline are missed, the rest still awaited (R366). -/
def SideSt.settle (now : Nat) (x : SideSt) : SideSt :=
  let late := fun t : Nat => (x.reqs.filter (fun r => decide (r.retimer = t) && decide (r.due < now))).length
  { x with missed := (x.missed.1 + late 1, x.missed.2 + late 2), reqs := x.reqs.filter (fun r => decide (now ≤ r.due)) }

/-- RETIMER_POLL (R366): both retimers of each FABRIC link in UP are read. -/
def execRetimerPoll (s : State) : Out :=
  .next (s.each ((List.finRange 32).filter (fun n : Fin 32 => s.linkUp n && decide (s.profile n = 3))) (fun n s =>
    (s.modSide n (SideSt.settle s.now)).each [1, 2] (fun t s =>
      s.each retimerRegs (fun reg s => s.sideRequest n 1 t reg 0))))

/-- SIDEBAND_MESSAGE (R365) (DESIGN CHOICE, notes/assumptions/39 and 118). -/
def execSidebandMessage (n : Fin 32) (m : Vector Byte 16) (s : State) : Out := .next (s.sidebandIn n m.toList)

/-- RETIMER_LOST (R366): a retimer that answered before has missed 3 requests in a row, once until it answers again. -/
def execRetimerLost (n : Fin 32) (t : Fin 2) (s : State) : Out :=
  let x := (s.link n).side
  let late := (x.reqs.filter (fun r => decide (r.retimer = t.val + 1) && decide (r.due < s.now))).length
  let missed := late + (if t.val = 0 then x.missed.1 else x.missed.2)
  let said := if t.val = 0 then x.lost.1 else x.lost.2
  .next (if s.linkUp n ∧ t.val < s.getN (K.retimerRetimersFound n) ∧ 3 ≤ missed ∧ !said then
    (s.modSide n (fun x => { x with lost := if t.val = 0 then (true, x.lost.2) else (x.lost.1, true) })).raise Cause.retimerLost
      (args n [(t.val + 1, 1)])
    else s)

/-- A command to retimer 1 (0x2500+n.0E): accepted only while the link is disabled (R366); only the module with the lower
node id writes (DESIGN CHOICE, notes/assumptions/36). -/
def State.retimerCommand (n : Fin 32) (v : Int) (s : State) : State × Nat :=
  if s.getB (K.linkEnable n) then s.refuse Cause.functionRunning
  else
    let peer := s.getN (K.linkPeerNode n)
    let lower := decide (peer = 0xFFFF) || decide (s.getN K.nodeNodeId < peer)
    (s.when lower (State.send (.sideband n 1 (if v = 1 then 1 else if v = 2 then 2 else 0)))).ok

/-- RETIMER_RESET, LOOPBACK_ON, LOOPBACK_OFF (R366) (DESIGN CHOICE, notes/assumptions/36). -/
def execRetimerReset (n : Fin 32) (sess : Nat) (s : State) : Out :=
  .next (s.hostWrite (K.retimerRetimerCommand n) (oneByte sess 1) (State.retimerCommand n))

/-- The model's choice (DESIGN CHOICE, notes/assumptions/36). -/
def execLoopbackOn (n : Fin 32) (sess : Nat) (s : State) : Out :=
  .next (s.hostWrite (K.retimerRetimerCommand n) (oneByte sess 2) (State.retimerCommand n))

/-- The model's choice (DESIGN CHOICE, notes/assumptions/36). -/
def execLoopbackOff (n : Fin 32) (sess : Nat) (s : State) : Out :=
  .next (s.hostWrite (K.retimerRetimerCommand n) (oneByte sess 3) (State.retimerCommand n))

/-- EYE_MARGIN_READ (R367): vertical mV and horizontal mUI of each link's receiver. -/
def execEyeMarginRead (margins : Vector (BitVec 16 × BitVec 16) 32) (s : State) : Out :=
  .next (s.each (List.finRange 32) (fun n s =>
    let m := margins[n]
    let low := decide (m.2.toNat < 150)
    (s.put (K.linkEyeMargin n) (m.1.toNat * 65536 + m.2.toNat : Nat)).modLink n (fun x => { x with
      lowSince := if low then some (x.lowSince.getD s.now) else none, lowSaid := low && x.lowSaid })))

/-- LINK_MARGIN_LOW (R367): below 150 mUI for 10 s. -/
def execLinkMarginLow (n : Fin 32) (s : State) : Out :=
  let x := s.link n
  let due : Bool := match x.lowSince with
    | some t => decide (t + 10 * sec ≤ s.now) && !x.lowSaid
    | none => false
  .next (if due then (s.modLink n (fun x => { x with lowSaid := true })).raiseOn Cause.linkMarginLow n else s)

end Sys2Proof.Machine
end

