-- ==== Sys2Proof/Machine/ImageBytes.lean ====
section
/-! DEFINITION. Signed images as they are stored and sent: bytes, least-significant first (R3, R249 to R253, R462). Bytes past
the end of what has come read as zero. -/

namespace Sys2Proof.Machine

/-- The number in n bytes from byte i. -/
def numAt (b : List Byte) (i n : Nat) : Nat := leNat ((b.drop i).take n)

/-- The signed-image header of Table 18-6; `sigOk` is what the signature check finds. -/
def ImageHdr.ofBytes (sigOk : Bool) (b : List Byte) : ImageHdr :=
  { magicOk := decide (b.take 4 = [0x53#8, 0x43, 0x4D, 0x49])
    format := BitVec.ofNat 8 (numAt b 4 1), kind := BitVec.ofNat 8 (numAt b 5 1)
    product := BitVec.ofNat 16 (numAt b 6 2), generation := BitVec.ofNat 8 (numAt b 8 1)
    signer := BitVec.ofNat 8 (numAt b 9 1), flags := BitVec.ofNat 8 (numAt b 10 1)
    reservedZero := decide (numAt b 10 1 / 2 = 0) && zeroAt b 11 1 && zeroAt b 18 2 && zeroAt b 60 68
    counter := BitVec.ofNat 32 (numAt b 12 4), version := BitVec.ofNat 16 (numAt b 16 2)
    bodyLength := BitVec.ofNat 64 (numAt b 20 8)
    bodyHash := Vector.ofFn (fun i : Fin 32 => BitVec.ofNat 8 (numAt b (28 + i.val) 1)), sigOk := sigOk }

/-! ### Sections of a Saffron image (Table 9-2) -/

/-- Records of n bytes; a part of one at the end counts. -/
def records (n : Nat) (b : List Byte) : List (List Byte) := byteRuns n (ceilDiv b.length n) b

def SafSection.ofBytes (b : List Byte) : SafSection :=
  { kind := numAt b 0 1, offset := numAt b 4 4, length := numAt b 8 4 }

/-- Table 9-3. -/
def TileDecl.ofBytes (b : List Byte) : TileDecl :=
  { mantissa := numAt b 0 4, exponent := numAt b 4 4, fastParam := numAt b 8 4, buffers := numAt b 12 4
    slowParam := numAt b 16 4 }

/-- Table 9-4. -/
def SafStage.ofBytes (b : List Byte) : SafStage :=
  let word := fun i : Nat => BitVec.ofNat 32 (numAt b i 4)
  { op := numAt b 0 1, flags := BitVec.ofNat 8 (numAt b 1 1), first := numAt b 2 1, count := numAt b 3 1
    d1 := numAt b 4 4, d2 := numAt b 8 4, inA := word 12, inB := word 16, out := word 20
    shift := BitVec.ofNat 8 (numAt b 24 1), table := numAt b 25 1, off1 := numAt b 28 4, off2 := numAt b 32 4
    off3 := numAt b 40 4, worst := numAt b 36 4, spare := !(zeroAt b 26 2 && zeroAt b 44 4) }

/-- Tile-contents records one after another, their data padded to 4 bytes. -/
def tileRecords : Nat → List Byte → List TileRecord
  | 0, _ => []
  | _, [] => []
  | n + 1, b =>
    let len := numAt b 8 4
    { tile := numAt b 0 1, region := numAt b 1 1, offset := numAt b 4 4, len := len, data := (b.drop 12).take len } ::
      tileRecords n (b.drop (12 + 4 * ceilDiv len 4))

/-- Has a tile-contents record a reserved byte set? -/
def tileRecordsSpare : Nat → List Byte → Bool
  | 0, _ => false
  | _, [] => false
  | n + 1, b => !zeroAt b 2 2 || tileRecordsSpare n (b.drop (12 + 4 * ceilDiv (numAt b 8 4) 4))

/-- Table 9-6. -/
def StreamDesc.ofBytes (b : List Byte) : StreamDesc :=
  { offset := numAt b 0 8, perTile := numAt b 8 4, first := numAt b 12 1, count := numAt b 13 1, stage := numAt b 14 2 }

/-- An activation table: 257 Q15 entries. -/
def tableOfBytes (b : List Byte) : List Int := (records 2 b).map (fun w => toSigned 16 (leNat w))

/-- Bytes of the first section of a kind that the directory lists. -/
def sectionBytes (dir : List SafSection) (b : List Byte) (kind : Nat) : List Byte :=
  match dir.find? (fun d => decide (d.kind = kind)) with
  | some d => (b.drop d.offset).take d.length
  | none => []

/-- A Saffron image body (Tables 9-1 to 9-6); `hashesOk` is what the header and body hash checks find. -/
def SafImage.ofBytes (hashesOk : Bool) (hash b : List Byte) : SafImage :=
  let entries := byteRuns 16 (numAt b 48 1) (b.drop 64)
  let dir := entries.map SafSection.ofBytes
  let sec := sectionBytes dir b
  let decls := records 32 (sec 1)
  let windows := records 8 (sec 6)
  let descs := records 24 (sec 9)
  { hashesOk := hashesOk, version := BitVec.ofNat 8 (numAt b 0 1), tier := numAt b 1 1
    flags := BitVec.ofNat 8 (numAt b 2 1), tiles := numAt b 3 1, id := BitVec.ofNat 32 (numAt b 4 4)
    imageVersion := BitVec.ofNat 16 (numAt b 8 2), nStages := numAt b 10 2, nFeatures := numAt b 12 2
    nTables := numAt b 14 1, nWindows := numAt b 15 1, worst := numAt b 16 4, streamBytes := numAt b 20 8
    layout := BitVec.ofNat 32 (numAt b 28 4), ctxBytes := numAt b 32 4, exchBytes := numAt b 36 4
    resBytes := numAt b 40 8, bodyBytes := b.length, bodyHash := hash
    spare := !zeroAt b 49 15 || entries.any (fun e => !(zeroAt e 1 3 && zeroAt e 12 4)) ||
      decls.any (fun d => !zeroAt d 20 12) || windows.any (fun w => !zeroAt w 4 4) || descs.any (fun d => !zeroAt d 16 8) ||
      tileRecordsSpare (sec 7).length (sec 7)
    dir := dir, decls := decls.map TileDecl.ofBytes, stages := (records 48 (sec 2)).map SafStage.ofBytes
    features := (records 4 (sec 3)).map (fun w => BitVec.ofNat 32 (leNat w))
    outputs := (records 2 (sec 4)).map (fun w => BitVec.ofNat 16 (leNat w))
    tables := (records 514 (sec 5)).map tableOfBytes
    windows := windows.map (fun w => { chan := numAt w 0 1, dec := numAt w 1 1, len := numAt w 2 2 })
    contents := tileRecords (sec 7).length (sec 7), segment := sec 8, descs := descs.map StreamDesc.ofBytes }

/-- The content of a body written to a target of a class (R465); of a bank, which of its five images carry a header that
passes (R62). -/
def ImageBody.ofBytes (cls : Nat) (partsOk : BitVec 5) (hash b : List Byte) : ImageBody :=
  if cls = 1 then .bank partsOk
  else if cls = 2 then .program (.ofBytes true hash b)
  else .model (.ofBytes true hash b)

end Sys2Proof.Machine
end

