-- ==== Sys2Proof/Machine/Queue.lean ====
section
/-! DEFINITION. The message queues (spec/15) and the Ethernet frames that feed them (spec/14, R369 to R371). -/

namespace Sys2Proof.Machine

/-! ### PFC and Ethernet frames (R370, R371, R402) -/

/-- PFC_FRAME (R371): quanta of 512 bit times at 400 Gbit/s for a priority of a port; 0 resumes. Priority 7 is never paused
(PRESUMED, notes/assumptions/119). -/
def execPfcFrame (port : Fin 2) (prio : Fin 8) (quanta : BitVec 16) (s : State) : Out :=
  let s := s.incHalf (K.portPFCFramesReceivedSent port) false
  if prio.val = 7 ∨ !(s.getN (K.portPFCPriorities port)).testBit prio then .next s
  else
    let others := s.host.pausedTx.filter (fun e => !(decide (e.port = port.val) && decide (e.prio = prio.val)))
    let e : PauseTx := { port := port, prio := prio, untilTb := s.now + (quanta.toNat * 128 + 99) / 100 }
    .next { s with host := { s.host with pausedTx := if quanta = 0 then others else e :: others } }

/-- Is a port's link up? -/
def State.portUp (s : State) (port : Nat) : Bool := s.getB (K.portEnable port) && decide (s.get (K.portLinkState port) = 1)

/-- A big-endian field of two bytes of a frame. -/
def be16At (b : List Byte) (i : Nat) : Nat := 256 * (b.getD i 0).toNat + (b.getD (i + 1) 0).toNat

/-- Is a frame one of a protocol of Table 14-1: IPv6 with UDP to port 40960, 319 or 320, ICMPv6, or the hop-by-hop header of
MLD, and no fragment?  The bytes are those from the destination address on, without the 802.1Q tag
(PRESUMED, notes/assumptions/119). -/
def frameServed (b : List Byte) : Bool :=
  let next := (b.getD 20 0).toNat
  decide (be16At b 12 = 0x86DD) &&
  (decide (next = 58) || decide (next = 0) || (decide (next = 17) && [40960, 319, 320].contains (be16At b 56)))

/-- ETHERNET_FRAME (Table 14-1, R371): a good frame of the port's VLAN enters the ingress queue of its PCP; any other, and one
of another protocol, is dropped and counted (R369). -/
def execEthernetFrame (port : Fin 2) (pcp : Fin 8) (vlan : BitVec 12) (fcsOk : Bool) (bytes : List Byte) (stamp : Nat)
    (s : State) : Out :=
  if !s.portUp port then .next s
  else
    let fits := fcsOk && decide (vlan.toNat = s.getN (K.portVLANId port)) && decide (64 ≤ bytes.length) &&
      decide (bytes.length ≤ 9216) && frameServed bytes
    if fits then .next ((s.incHalf (K.portFramesReceivedDropped port) false).enqueue (64 + 8 * port.val + pcp.val) pcp stamp bytes)
    else .next (s.incHalf (K.portFramesReceivedDropped port) true)

/-- PFC_REPEAT (R402): every 40 µs for each queue that is HIGH. -/
def execPfcRepeat (s : State) : Out :=
  .next (s.each (s.que.queues.filter (fun x : Queue => x.high)) (fun x s => s.sendPfc x.q 0xFFFF))

/-! ### Writing and reading (R393, R395 to R397, R399, R400, R405) -/

/-- QUEUE_ITEM_WRITE (R393): the first bytes of an item of a length, or (`more`) further bytes of the item being written
at its priority. What comes for an item that is gone is discarded (R399, R404), and so is what is no item by its length (R392). -/
def execQueueItemWrite (q : Fin 512) (prio : Fin 8) (length : BitVec 14) (bytes : List Byte) (more : Bool) (stamp : Nat)
    (s : State) : Out :=
  if more then
    match (s.queue q).items.find? (fun i => decide (i.prio = prio.val) && !i.complete) with
    | none => .next s
    | some i =>
      let add := bytes.take (i.length - i.written)
      .next (s.growItem q i { i with written := i.written + add.length, data := i.data ++ add })
  else if length.toNat = 0 ∨ 9216 < length.toNat then .next s
  else
    let id := s.que.nextItem
    let add := bytes.take length.toNat
    let s := { s with que := { s.que with nextItem := id + 1 } }
    .next (s.addItem q { id := id, length := length.toNat, written := add.length, prio := prio, stamp := stamp,
                           poison := false, abandoned := false, spilled := 0, started := false, data := add })

/-- Words a read corrected, and an uncorrectable one, which poisons the item (R405). -/
def State.readErrors (q : Nat) (corrected : Nat) (poison : Bool) (s : State) : State :=
  let s := s.when (decide (0 < corrected)) (fun s =>
    let s := s.countBy 64 K.poolCorrectedWords corrected
    if (match s.que.correctedAt with | some t => decide (t + sec ≤ s.now) | none => true) then
      ({ s with que := { s.que with correctedAt := some s.now } }).raiseOn Cause.queueCorrected q
    else s)
  s.when poison (fun s => (s.inc K.poolUncorrectableWords).raiseOn Cause.queuePoison q)

/-- The first item of a queue is poisoned (R405). -/
def State.poisonFirst (q : Nat) (s : State) : State :=
  let x := s.queue q
  match x.items with
  | [] => s
  | i :: rest => s.setQueue { x with items := { i with poison := true } :: rest }

/-- Priorities a transmitter skips: those of an Ethernet port that PFC pauses, and all of a link channel without a credit
(R395). -/
def State.skips (s : State) (q prio : Nat) : Bool :=
  if 176 ≤ q then s.host.pausedTx.any (fun e => decide (e.port = q - 176) && decide (e.prio = prio) && decide (s.now < e.untilTb))
  else if h : 80 ≤ q ∧ q < 176 then
    let n : Fin 32 := ⟨(q - 80) / 3, by omega⟩
    let v := (q - 80) % 3 + 1
    decide (((s.link n).credit v).held v = 0)
  else false

/-- QUEUE_READ (R395 to R397): a consumer reads; a stalling read waits, up to a deadline FT (0: none). The words the read
finds corrected or uncorrectable come with it (PRESUMED, notes/assumptions/119). -/
def execQueueRead (q : Fin 512) (stalling : Bool) (deadline : Nat) (corrected : BitVec 8) (poison : Bool) (s : State) : Out :=
  let x := s.queue q
  match s.readable x (s.skips q) with
  | some i =>
    let s := s.readErrors q corrected.toNat poison
    .next (s.deliver q { i with poison := i.poison || poison })
  | none =>
    if stalling then .next (s.setQueue { x with waiting := some deadline })
    else .next (s.send (.item q none false))

/-- STALLING_READ_DEADLINE (R397): a waiting read whose deadline has passed returns empty. -/
def execStallingReadDeadline (q : Fin 512) (s : State) : Out :=
  let x := s.queue q
  match x.waiting with
  | some d =>
    if d ≠ 0 ∧ d < s.ft then .next ((s.setQueue { x with waiting := none }).send (.item q none false)) else .next s
  | none => .next s

/-- Bring spilled cells back, oldest item first, while the die has room (R400). -/
def State.refill (q : Nat) (s : State) : State :=
  s.each ((s.queue q).items.map (·.id)) (fun id s =>
    let x := s.queue q
    match x.items.find? (fun i => decide (i.id = id)) with
    | none => s
    | some i =>
      if i.spilled = 0 then s
      else if i.spilled ≤ s.dieRoom x then
        s.setQueue { x with items := x.items.map (fun y => if y.id = id then { y with spilled := 0 } else y) }
      else s)

/-- QUEUE_SPILL_REFILL (R400). -/
def execQueueSpillRefill (q : Fin 512) (s : State) : Out := .next (s.refill q).poolCheck

/-- The overflow region is lost (R400, Table 2-5): each spilled item counts as dropped. -/
def State.loseSpilled (s : State) : State :=
  s.each (s.que.queues.map (·.q)) (fun q s =>
    let x := s.queue q
    let lost := x.items.filter (fun i => decide (0 < i.spilled))
    let s := s.setQueue { x with items := x.items.filter (fun i => decide (i.spilled = 0)) }
    (s.each lost (fun i s => (s.dropItem q).abandonTo q i)).watermark q)

/-! ### Flush and faults (R404, R405) -/

/-- FLUSH (R404). -/
def execFlush (q : Fin 512) (sess : Nat) (s : State) : Out :=
  .next (s.hostWrite (K.queueFlush q) (oneByte sess 1) (fun _ s => (s.flushQueue q).ok))

/-- QUEUE_LINK_FAULT (R405): an uncorrectable error in descriptor or link memory; a self-diagnosis failure (R433). -/
def execQueueLinkFault (q : Fin 512) (s : State) : Out :=
  .next (((s.flushQueue q).raiseOn Cause.queueLinkFault q).modPair (fun p => { p with linkFault := true })).diagnose

/-! ### Settings of a queue (R398, R401) -/

/-- Do a queue's watermarks and maximum fit (R401)? -/
def State.watermarksFit (s : State) (q : Nat) : Bool :=
  let hi := s.getN (K.queueHighWatermark q)
  let lo := s.getN (K.queueLowWatermark q)
  let m := s.getN (K.queueMaximumCells q)
  let buffers : Nat := match queueChannels q with
    | v :: _ => buffersOf v
    | [] => 0
  let withholds := decide (s.getN (K.queueCreditMask q) ≠ 0)
  decide (lo < hi) && decide (hi ≤ m) && (!withholds || decide (hi + buffers ≤ m))

/-- What a write to 0x8200+q.04 to .0B does beyond the checks of R382: the value, then the checks of R398 to R401. -/
def State.queueWrite (q sub : Nat) (k : Nat) (v : Int) (s : State) : State × Nat :=
  let t := s.put k v
  if sub = 6 then
    let sum : Int := s.get K.poolGuaranteedTotal - s.get k + v
    if 114688 < sum then s.refuse Cause.valueOutOfRange else ((t.put K.poolGuaranteedTotal sum).poolCheck).driveXoff.ok
  else if (sub = 4 ∨ sub = 5 ∨ sub = 7 ∨ sub = 0x0A) ∧ !t.watermarksFit q then s.refuse Cause.valueOutOfRange
  else if sub = 9 ∧ v ≠ 0 ∧ (q ≤ 32 ∨ (64 ≤ q ∧ q < 80) ∨ (80 ≤ q ∧ q < 176)) then s.refuse Cause.valueOutOfRange
  else (t.watermark q).ok

end Sys2Proof.Machine
end

