-- ==== Sys2Proof/Machine/MaceOps.lean ====
section
/-! DEFINITION. Taking and giving up the mace, planned handovers, and halting (spec/03, R77 and R78; spec/17, R422 to
R432). -/

namespace Sys2Proof.Machine

/-- Bus live: a converter taken over then gets no storage soft start (R131, R425). -/
def State.busLive (s : State) : Bool := decide (760000 ≤ s.busMilli)

/-- Local time of the next tick boundary (R19). -/
def State.nextTick (s : State) : Nat := s.now + s.untilTick

/-- May MACE_OUT rise (R54, R424): claim armed, MACE_IN low for 1 µs at slot A or 3 µs at slot B? -/
def State.mayTake (s : State) : Bool :=
  let wait := if s.md.pins.slotB then 3000 else 1000
  s.getB K.pairClaimArmed && !s.md.pins.maceOut && !s.md.pins.maceIn && !s.md.poweredOff && !s.md.heldInReset &&
  (match s.pair.maceInFell with | some t => decide (t + wait ≤ s.now) | none => true)

/-- A cold standby starts the converters (R425): one it takes over with the bus live gets no soft start of its limit, and feed
power goes on from what the loops have measured (R131) (DESIGN CHOICE, notes/assumptions/112). -/
def State.startTaken (s : State) : State :=
  let pF := s.feedPower
  let live := s.busLive
  let s := s.startConverters
  s.when live (fun s =>
    (s.putFeedPower pF).modConv .storage (fun x => { x with soft := none }))

/-- MACE_OUT rises on a module that did not hold the mace (R425). The coast is measured to an output edge, an instant the
model does not hold: a free value (DESIGN CHOICE, notes/assumptions/60). -/
def State.takeMace (s : State) : State :=
  let hot := decide (s.md.mode = .hotStandby)
  let s := (s.inc K.pairTakeovers).put K.pairLastTakeover s.ft
  let s := (s.put K.pairLastCoast (s.freeNat % 2 ^ 32 : Nat)).useFree
  let s := s.raise Cause.maceTakeover (args0 [(s.getN K.pairPartnerState, 1)])
  let s := ((s.modPins (fun p => { p with maceOut := true })).enterMode .active).armClaim true
  let s := s.modMd (fun m => { m with sdm := Vector.replicate 4 .driving, ctlArmed := true })
  let s := s.modPair (fun p => { p with
    leaseEnd := s.nextTick + 20000, feedEnd := s.nextTick + 3000, handover := none, noTakerSaid := false
    askedAt := none, loadedAt := none, resendAt := none, parts := []
    -- the new holder's mirror log continues the sequence (Table 17-6)
    nextSeq := if p.loadedAt.isSome then p.awaited else max p.awaited (s.getN K.mirrorMirrorSequence + 1) })
  let s := s.when s.busLive (State.modConv .storage (fun x => { x with soft := none, softHeld := false }))
  if hot then
    -- each phase's outputs are released at its next carrier boundary, with the command in force
    s.each allPhases (fun p s => s.modPhase p (fun x =>
      if x.switching then { x with switching := false, pend := if x.pend = .none then .release else x.pend } else x))
  else s.startTaken

/-- Once it sees MACE_IN asserted, a module without the mace stops driving the SD_CLK nets (R49). -/
def State.sdmYield (s : State) : State :=
  s.when (s.md.pins.maceIn && !s.md.pins.maceOut) (State.modMd (fun m => { m with
    sdm := m.sdm.map (fun r : SdmRole => if r = .driving then .listening else r) }))

/-- MACE_OUT falls without a handover (R31, R54, R422): the outputs are forced off under R54 and the phase units run on (R112,
R144) (DEDUCED, notes/assumptions/67). -/
def State.dropMace (s : State) : State :=
  if s.md.pins.maceOut then
    let s := (s.modPins (fun p => { p with maceOut := false })).modMd (fun m => { m with ctlArmed := false })
    let s := (s.armClaim false).modPair (fun p => { p with handover := none })
    (s.when (decide (s.md.mode = .active)) (State.enterMode .coldStandby)).chainRole.sdmYield
  else s.armClaim false

/-! ### Planned handover (R432) -/

/-- The partner's latest record shows it hot, armed and with OK_OUT high, and PEER_OK is asserted, with a pair link UP
(R432, R439). -/
def State.partnerReady (s : State) : Bool :=
  s.md.pins.peerOk && !s.pairLinks.isEmpty &&
  (match s.pair.partner with
   | some r => r.flags.getLsbD 1 && r.flags.getLsbD 2 && r.flags.getLsbD 3
   | none => false)

/-- Start a planned handover: D is the first tick boundary at least 50 µs ahead
(DESIGN CHOICE, notes/assumptions/91 and 120). -/
def State.startHandover (after : AfterHandover) (s : State) : State :=
  let d := (s.ft + 50000 + 999) / 1000 * 1000
  (s.modPair (fun p => { p with handover := some { at_ := d, acked := false, after := after } })).sendPair 6
    (leBytes 2 0 ++ leBytes 8 d)

/-- At D the outgoing module disarms and deasserts MACE_OUT; pulses in progress end as under truncation; commands, carriers
and integrators run on (R432). -/
def State.handOut (s : State) : State :=
  let s := (s.modPins (fun p => { p with maceOut := false })).armClaim false
  let s := s.modMd (fun m => { m with ctlArmed := false })
  let s := s.each allPhases (fun p s => s.modPhase p (fun x => { x with truncNow := x.truncNow || x.switching }))
  let s := (s.enterMode .hotStandby).inc K.pairHandovers
  ((s.modPair (fun p => { p with
    handover := none, awaited := p.nextSeq, loadedAt := some s.now })).raise0 Cause.maceHandoverDone).chainRole

/-! ### Halting (R78) -/

/-- Step 3 of halting: Saffron and the Cardamom cores are gated. -/
def State.haltGate (s : State) : State :=
  let s := s.each allCores (fun n s => s.modCore n (fun c => { c with
    state := .stopped, startPend := false, stopPend := false, swapPend := false, notice := none, taken := none }))
  (s.modMd (fun m => { m with tilesOn := 0, domainsOn := m.domainsOn &&& 0xFFF0 })).safApply

/-- The steps of halting in their order, each once the one before it is done: the journal, the flush, the gating,
SHUTDOWN_COMPLETE. -/
def State.haltStep (s : State) : State :=
  let s := s.when (decide (s.md.haltStage = .journal) && s.soc.trigger.isNone && s.soc.writing.isNone) (fun s =>
    (s.modMd (fun m => { m with haltStage := .flush })).startFlush .haltOrReset)
  s.when (decide (s.md.haltStage = .flush) && s.rcd.flush.isNone) (fun s =>
    (s.modMd (fun m => { m with haltStage := .done })).haltGate.diagnose.raise0 Cause.shutdownComplete)

/-- The module halts: the chain master puts the units to sleep first (R283); OK_OUT low, disarmed; the steps of R78 follow. -/
def State.halt (s : State) : State :=
  let s := s.when (s.getB K.chainChainMaster) State.sleepAll
  let s := ((s.journalTrigger true false).enterMode .halted).modMd (fun m => { m with shutdown := .halted, haltStage := .journal })
  let s := ((s.put K.moduleShutdownProgress 4).armClaim false).modPins (fun p => { p with okOut := false })
  s.diagnose.haltStep

end Sys2Proof.Machine
end

