-- ==== Sys2Proof/Machine/ResetOps.lean ====
section
/-! DEFINITION. What a reset keeps and what it sets (spec/03, R69, R72, R73 and R75). -/

namespace Sys2Proof.Machine

/-- Number of a reset kind (Table 3-5). -/
def ResetKind.code : ResetKind → Nat
  | .powerOn => 0
  | .powerFail => 1
  | .pin => 2
  | .host => 3
  | .watchdog => 4
  | .fatal => 5
  | .thermal => 6
  | .zeroise => 7
  | .startTimeout => 8

/-- In a reset of kind 2 to 8 the core domain stays powered (R73). -/
def ResetKind.coreStays (k : ResetKind) : Bool := decide (2 ≤ k.code)

/-- Does a start that ends in this kind of reset count as failed (R64)? -/
def ResetKind.counts : ResetKind → Bool
  | .watchdog | .fatal | .startTimeout => true
  | _ => false

/-- Objects that a reset keeps though no Notes column says MRAM: trims, the last reset, bank and slot states, key store and
anchors, the serial number, the clove key in force, and readings of the supplies and temperatures
(DESIGN CHOICE, notes/assumptions/58). -/
def keptElsewhere (k : Nat) : Bool :=
  let index := k / 256
  let sub := k % 256
  decide (index = 0xF120) || decide (index = 0xF122) || decide (k = K.moduleLastResetTime) ||
  (decide (index = 0xF100) && decide (sub ≤ 5)) || decide (index = 0xF130) ||
  (decide (0x5300 ≤ index) && decide (index < 0x5310)) || decide (index = 0xA010) || decide (index = 0xA020) ||
  decide (k = K.secSecurityState) || decide (k = K.bankReverts) || decide (k = K.updImagesWrittenRefused) ||
  (decide (0xA400 ≤ index) && decide (index < 0xA404) && (decide (sub = 1) || decide (sub = 3))) ||
  decide (k = K.cloveOriginatingKeyId) || decide (k = K.cloveSequenceCounter) || decide (k = K.nodeSerial)

/-- Is an object kept by a reset (R72: MRAM and flash are kept)? (DESIGN CHOICE, notes/assumptions/58). -/
def keptByReset (k : Nat) : Bool := Dict.keptInMram k || keptElsewhere k

/-- A journal slot write under way completes in resets of kinds 2 to 8; otherwise its slot is torn (R75, R313). The charge that
balancing has moved is kept in MRAM. -/
def SocState.atReset (e : SocState) (stays : Bool) : SocState :=
  let kept : SocState := { SocState.fresh with slotA := e.slotA, slotB := e.slotB, moved := e.moved }
  match e.writing with
  | some (b, r) =>
    let x : JournalSlot := if stays then .valid r else .torn
    if b then { kept with slotB := x } else { kept with slotA := x }
  | none => kept

/-- The recorder after a reset: MRAM stays, the ring is set aside in kinds 2 to 8, staging is lost (R72, R73, R420). -/
def RecState.atReset (r : RecState) (stays : Bool) : RecState :=
  { RecState.fresh with
    mram := r.mram, flushCutAt := r.flushCutAt, ring := if stays then r.ring else [], ringKept := stays && !r.ring.isEmpty }

/-- The module's own state after a reset: MACE_OUT and OK_OUT low, banks, trims and counters kept. With AUX alone no start
condition is met (R59); the thermal trip holds whatever reset comes (R40, R72); a start that the firmware never had, or that
a main loss abandoned, does not count as failed (R64, R75). -/
def ModState.atReset (m : ModState) (k : ResetKind) : ModState :=
  let bank := match m.running with | .b => true | _ => false
  let fails := k.counts && !m.confirmed && m.fwArmed && !m.mainLoss
  let j := if k = .powerOn then .fresh else m.junction
  { ModState.fresh with
    pins := { m.pins with maceOut := false, okOut := false, pfail := false, xoff0 := false, xoff1 := false, ppsOut := false }
    started := m.started || decide (k.code ≤ 1), heldInReset := j.trip, junction := j
    trimLog := m.trimLog, trimDegraded := m.trimDegraded, bankA := m.bankA, bankB := m.bankB, preferB := m.preferB
    descA := m.descA, descB := m.descB
    running := m.running, fwCounter := m.fwCounter, romTestsOk := m.romTestsOk, jtag := m.jtag
    failedBank := if fails then some bank else m.failedBank }

/-- Fabric time after a reset: kept but in a power-on, with no neighbour heard (R69) (DESIGN CHOICE, notes/assumptions/9). -/
def TimeSt.atReset (t : TimeSt) (k : ResetKind) (ft : Nat) : TimeSt :=
  if k = .powerOn then { TimeSt.fresh with refClock := t.refClock }
  else { TimeSt.fresh with
    tb := t.tb, e := t.e, mode := if t.mode = .locked then .holdover else t.mode, tai := t.tai, acquired := t.acquired
    quality := t.quality, lostAt := if t.mode = .locked then ft else t.lostAt, noOfferSince := t.tb, servoInt := t.servoInt, refClock := t.refClock }

/-- The clove service after a reset: keys stay wrapped in MRAM; the sequence counter moves to the next block (R103, R449). -/
def CloveState.atReset (v : CloveState) : CloveState :=
  { CloveState.fresh with
    keys := v.keys, nextSeq := v.reservedTop, reservedTop := v.reservedTop + 65536, wrapped := v.wrapped
    exhaustedSaid := v.exhaustedSaid }

/-- Security after a reset: counters, headers of stored images, what a zeroisation left to do, a latched tamper event. -/
def SecSt.atReset (x : SecSt) : SecSt :=
  { SecSt.fresh with
    keys := x.keys
    programCounter := x.programCounter, modelCounter := x.modelCounter, stored := x.stored, zeroised := x.zeroised
    nextMode := x.nextMode, latched := x.latched }

/-- Everything a reset of a kind sets and keeps (Table 3-5) (DESIGN CHOICE, notes/assumptions/9 and 58). -/
def State.afterReset (k : ResetKind) (s : State) : State :=
  let stays := k.coreStays
  let s' : State :=
    { State.reset with
      objs := s.objs.filter (fun e : Nat × Int => keptByReset e.1)
      blobs := s.blobs.filter (fun e : Nat × List Byte => keptByReset e.1)
      rcd := s.rcd.atReset stays, md := s.md.atReset k, time := s.time.atReset k s.ft, clv := s.clv.atReset
      card := { CardState.fresh with
        store := s.card.store
        cores := s.card.cores.map (fun c : CoreSt => { CoreSt.fresh with saved := c.saved }) }
      cry := s.cry.atReset, soc := s.soc.atReset stays
      saf := { SafState.fresh with store := s.saf.store, clearMask := s.saf.clearMask }
      freeCtr := s.freeCtr, outbox := s.outbox, pending := s.pending }
  let s' := (s'.put K.moduleLastResetKind k.code).put K.moduleLastResetTime s.ft
  (s'.put K.moduleModuleState 0).showTime

/-- A reset with the cause Table 3-5 names, raised once the recorder serves again. -/
def State.resetWith (k : ResetKind) (cause : Nat) (s : State) : State :=
  let s := (s.afterReset k).put K.moduleLastResetCause cause
  s.raise0 cause

/-- The reset of a kind, with the cause Table 3-5 names for it; THERMAL_TRIP and ZEROISED are recorded at the restart. -/
def State.doReset (k : ResetKind) (s : State) : State :=
  match k with
  | .powerOn => s.resetWith .powerOn Cause.powerOn
  | .powerFail => (s.afterReset .powerFail).put K.moduleLastResetCause Cause.mainLoss
  | .pin => s.resetWith .pin Cause.pinReset
  | .host => s.resetWith .host Cause.hostReset
  | .watchdog => s.resetWith .watchdog Cause.watchdogReset
  | .fatal => s.resetWith .fatal Cause.firmwareFatal
  | .thermal => (s.afterReset .thermal).put K.moduleLastResetCause Cause.thermalTrip
  | .zeroise => (s.afterReset .zeroise).put K.moduleLastResetCause Cause.zeroised
  | .startTimeout => s.resetWith .startTimeout Cause.startTimeout

/-- Which of two resets that wait for the end of the main-loss sequence is carried out: the trip, then the zeroisation, then
the earlier (DESIGN CHOICE, notes/assumptions/110). -/
def ResetKind.over_ (k : ResetKind) (w : Option ResetKind) : ResetKind :=
  match w with
  | none => k
  | some x => if x = .thermal ∨ k = .thermal then .thermal else if k = .zeroise then k else x

/-- A reset, or its wait: the main-loss sequence runs to its end first (R31, R75). -/
def State.resetOrWait (k : ResetKind) (s : State) : State :=
  if s.md.mainLoss then s.modMd (fun m => { m with resetWaiting := some (k.over_ m.resetWaiting) }) else s.doReset k

end Sys2Proof.Machine
end

