-- ==== Sys2Proof/Machine/SecOps.lean ====
section
/-! DEFINITION. What security does for other chapters: anti-rollback counters, zeroisation, the error state, header checks
(spec/18, R452 to R455, R463 and R464). -/

namespace Sys2Proof.Machine

def State.modCry (f : SecSt → SecSt) (s : State) : State := { s with cry := f s.cry }

/-! ### Anti-rollback counters (R464) -/

/-- Counter of a class: 1 firmware, 2 program, 3 model. -/
def State.classCounter (s : State) (cls : Nat) : Nat :=
  match cls with
  | 1 => s.md.fwCounter
  | 2 => s.cry.programCounter
  | _ => s.cry.modelCounter

def State.setCounter (cls v : Nat) (s : State) : State :=
  match cls with
  | 1 => s.modMd (fun m => { m with fwCounter := v })
  | 2 => s.modCry (fun x => { x with programCounter := v })
  | _ => s.modCry (fun x => { x with modelCounter := v })

/-! ### The bank descriptor (R62) -/

/-- Codes of 0xA300.03. -/
def BankState.code : BankState → Nat
  | .valid => 0
  | .failed => 2
  | .invalid => 3
  | .empty => 4

/-- Bytes of a slot under its CRC-32: the sequence number, then what it holds (DESIGN CHOICE, notes/assumptions/110). -/
def DescSlot.body (x : DescSlot) : List Byte :=
  leBytes 4 x.seq.toNat ++ leBytes 1 x.desc.preferB.toNat ++ leBytes 1 x.desc.stateA.code ++ leBytes 1 x.desc.stateB.code ++
  leBytes 1 x.desc.failsA ++ leBytes 1 x.desc.failsB

/-- Is a slot valid? -/
def DescSlot.valid (x : DescSlot) : Bool := decide (x.crc = crc32 x.body)

/-- Is slot B the one in force: the valid slot with the higher sequence number? None when neither is valid. -/
def ModState.descB? (m : ModState) : Option Bool :=
  match m.descA.valid, m.descB.valid with
  | false, false => none
  | true, false => some false
  | false, true => some true
  | true, true => some (decide (m.descA.seq.toNat < m.descB.seq.toNat))

def ModState.desc (m : ModState) : BankDesc :=
  { preferB := m.preferB, stateA := m.bankA.state, stateB := m.bankB.state, failsA := m.bankA.failedStarts
    failsB := m.bankB.failedStarts }

/-- Write the descriptor: always the slot that is not in force, with the next sequence number. -/
def ModState.writeDesc (m : ModState) : ModState :=
  let b := (m.descB?).getD true
  let old := if b then m.descB else m.descA
  let x : DescSlot := { seq := old.seq + 1, crc := 0, desc := m.desc }
  let x := { x with crc := crc32 x.body }
  if old.desc = m.desc ∧ old.valid then m else if b then { m with descA := x } else { m with descB := x }

/-- A torn slot reads with a CRC-32 that does not match. -/
def DescSlot.tear (torn : Bool) (x : DescSlot) : DescSlot := if torn then { x with crc := ~~~ crc32 x.body } else x

/-- The ROM reads the descriptor. Without a valid slot no bank is eligible (DESIGN CHOICE, notes/assumptions/110). -/
def ModState.readDesc (torn : BitVec 2) (m : ModState) : ModState :=
  let m := { m with descA := m.descA.tear (torn.getLsbD 0), descB := m.descB.tear (torn.getLsbD 1) }
  match m.descB? with
  | none => { m with bankA := { m.bankA with state := .empty }, bankB := { m.bankB with state := .empty } }
  | some b =>
    let d := if b then m.descB.desc else m.descA.desc
    { m with preferB := d.preferB, bankA := { m.bankA with state := d.stateA, failedStarts := d.failsA }
             bankB := { m.bankB with state := d.stateB, failedStarts := d.failsB } }

/-- Change a bank; what the descriptor holds of it is written with it. -/
def State.modBank (b : Bool) (f : BankSt → BankSt) (s : State) : State :=
  s.modMd (fun m => (if b then { m with bankB := f m.bankB } else { m with bankA := f m.bankA }).writeDesc)

/-- The images of a bank whose header is h, and which of their headers pass (R62): their hashes are those of its body
(DESIGN CHOICE, notes/assumptions/4). -/
def bankParts (h : ImageHdr) (ok : BitVec 5) : Vector BankPart 5 :=
  Vector.ofFn (fun i : Fin 5 =>
    .of i h.version.toNat (Config.bankImageHash h.version.toNat ([1, 2, 4, 5, 6].getD i 0) 0) (ok.getLsbD i))

/-- Make a bank preferred. -/
def State.preferBank (b : Bool) (s : State) : State := s.modMd (fun m => { m with preferB := b }.writeDesc)

/-- Mark a bank below the counter INVALID (R464). -/
def State.markBank (v : Nat) (b : Bool) (s : State) : State :=
  let x := s.md.bank b
  if x.state ≠ .empty ∧ x.state ≠ .invalid ∧ x.rollback < v then
    (s.modBank b (fun x => { x with state := .invalid })).raiseOn Cause.bankRollback b.toNat
  else s

/-- Mark a program or model store slot INVALID through its state (R464, R467). -/
def State.spoilSlot (cls slot : Nat) (s : State) : State :=
  if cls = 2 then
    { s with card := { s.card with store := s.card.store.map (fun e : Nat × ProgImage => if e.1 = slot then (e.1, { e.2 with headerOk := false }) else e) } }
  else
    ({ s with saf := { s.saf with store := s.saf.store.map (fun e : Nat × SafImage => if e.1 = slot then (e.1, { e.2 with hashesOk := false }) else e) } }).put
      (K.slotState slot) 2

/-- Is a slot of a store VALID? -/
def State.slotValid (s : State) (cls slot : Nat) : Bool :=
  if cls = 2 then s.card.store.any (fun e => decide (e.1 = slot) && e.2.headerOk) else decide (s.get (K.slotState slot) = 1)

/-- Mark a stored image below the counter INVALID (R464). -/
def State.markSlot (v : Nat) (h : StoredHdr) (s : State) : State :=
  if h.counter < v ∧ s.slotValid h.cls h.slot then
    (s.spoilSlot h.cls h.slot).raise Cause.imageRollback (args (256 * h.cls + h.slot) [(h.counter, 4)])
  else s

/-- A counter rises: every other stored image of the class below it becomes INVALID (R464). -/
def State.raiseCounter (cls v : Nat) (s : State) : State :=
  if s.classCounter cls < v then
    let s := (s.setCounter cls v).raise Cause.rollbackCommitted (args cls [(v, 4)])
    if cls = 1 then s.each [false, true] (State.markBank v)
    else s.each (s.cry.stored.filter (fun h : StoredHdr => decide (h.cls = cls))) (State.markSlot v)
  else s

/-! ### The signed-image header (R463) -/

/-- Kind a class expects. -/
def kindOf (cls : Nat) : Nat := match cls with | 1 => 1 | 2 => 3 | _ => 7

/-- Is an image signer's key id one the kind accepts (R463, check 5)?  Ids 16 to 19 where installed (0xA020.03). -/
def State.signerOk (s : State) (kind signer : Nat) : Bool :=
  let anchors := s.getBytes K.anchorImageAnchors 2048
  decide (signer ≤ 1) ||
  ((decide (kind = 3) || decide (kind = 7)) && decide (16 ≤ signer) && decide (signer ≤ 19) &&
    (List.range 4).any (fun i => decide ((anchors.getD (512 * i) 0).toNat = signer)))

/-- Which check of R463 a header fails first; 0 when it passes all seven. -/
def State.headerCheck (s : State) (cls capacity : Nat) (h : ImageHdr) : Nat :=
  if !h.magicOk || decide (h.format.toNat / 16 ≠ 1) || !h.reservedZero then 1
  else if h.kind.toNat ≠ kindOf cls then 2
  else if h.product.toNat ≠ 0x03C0 ∨ h.generation.toNat ≠ 1 then 3
  else if capacity < h.bodyLength.toNat then 4
  else if !s.signerOk h.kind.toNat h.signer.toNat then 5
  else if !h.sigOk then 6
  else if h.counter.toNat < s.classCounter cls then 7
  else 0

/-! ### No ACTIVE clove key (R458) -/

/-- With no ACTIVE slot 0x2300.03 reads 255, and CLOVE_ORIGINATION_STOPPED is recorded once an episode (R458). -/
def State.watchKeys (s : State) : State :=
  if (List.range 4).all (fun i => decide (s.getN (K.keyKeyState i) ≠ 2)) then
    (s.put K.cloveOriginatingKeyId 255).when (!s.cry.stoppedSaid && s.md.mode.serves) (fun s =>
      (s.modCry (fun x => { x with stoppedSaid := true })).raise0 Cause.cloveOriginationStopped)
  else s

/-! ### Zeroisation and the error state (R452 to R455) -/

/-- Every link and session falls silent: no key is left to make a tag or a record with (DESIGN CHOICE, notes/assumptions/68). -/
def State.silence (s : State) : State :=
  let s := { s with host := { s.host with sessions := [], assocs := [] } }
  s.each (List.finRange 32) (fun n s => s.when (decide (3 ≤ s.linkStateOf n ∧ s.linkStateOf n ≤ 5)) (fun s =>
    (s.modLink n (fun x => { x with keys := none, auth := .none, rekey := .none, timing := [], control := [] })).enterLink n lkDown))

/-- With AUX alone only the always-on domain runs (R59). -/
def State.auxAlone (s : State) : Bool := !s.md.started || s.md.poweredOff

/-- Zeroisation by a source (R454). Step 3 begins with a reset of kind 7, which a main-loss sequence
under way comes before (R31); with AUX alone it waits for the next start. -/
def State.zeroise (source : Nat) (s : State) : State :=
  let s := s.dropMace.modPins (fun p => { p with maceOut := false })
  let s := (s.modClv (fun v => { v with keys := Vector.replicate 4 none, windows := [] })).silence
  let s := (s.modCry (fun x => { x with keys := none, zeroised := some source, lease := none, quotes := [] })).inc K.secZeroisations
  if s.auxAlone then s else s.resetOrWait .zeroise

/-- New storage, identity and attestation keys are generated: three free values (R454; DESIGN CHOICE,
notes/assumptions/106). -/
def State.newKeys (s : State) : State :=
  let a := s.freeNat
  let s := s.useFree
  let b := s.freeNat
  let s := s.useFree
  let c := s.freeNat
  s.useFree.modCry (fun x => { x with keys := some { storage := a, identity := b, attestation := c } })

/-- Step 3 of a zeroisation at the next start: the module is UNPROVISIONED, with a request for its new identity key (R454,
R455). The request's bytes are free (DESIGN CHOICE, notes/assumptions/106). -/
def State.afterZeroise (s : State) : State :=
  match s.cry.zeroised with
  | none => s
  | some src =>
    let s := s.each (List.range 4) (fun i s => (s.put (K.keyKeyState i) 0).putBytes (K.keyCheckValue i) [0, 0, 0])
    let s := (s.put K.cloveOriginatingKeyId 255).put K.secSecurityState 1
    let s := (s.putBytes K.secIdentityCertificate (List.replicate 2048 0)).putBytes K.secAttestationCertificate
      (List.replicate 2048 0)
    let s := s.newKeys
    let s := (s.putBytes K.secCertificateRequest (leBytes 2048 s.freeNat)).useFree
    let s := (s.raise Cause.zeroised (args0 [(src, 1)])).modCry (fun x => { x with zeroised := none })
    match s.cry.nextMode with
    | some m => ((s.put K.secMode m).modCry (fun x => { x with nextMode := none })).raise Cause.modeChanged (args0 [(m, 1)])
    | none => s

/-- A self-test fails: the error state (R452). The fatal reset follows the recorder flush. -/
def State.cryptoError (s : State) : State :=
  let s := s.raise0 Cause.cryptoSelfTestFailed
  let s := (s.dropMace.modPins (fun p => { p with maceOut := false })).silence
  (s.modCry (fun x => { x with errorPending := true, testing := false })).startFlush .haltOrReset

/-- Once that flush is complete the module resets (R452). -/
def State.afterError (s : State) : State :=
  if s.cry.errorPending ∧ s.rcd.flush.isNone then s.resetOrWait .fatal else s

/-- Security state (0xA000.03): 2 is the error state. -/
def State.securityState (s : State) : Nat := if s.cry.errorPending then 2 else s.getN K.secSecurityState

end Sys2Proof.Machine
end

