-- ==== Sys2Proof/Machine/Supply.lean ====
section
/-! DEFINITION. Supplies, hold-up, trim, junction and clocks (spec/02, R29 to R58). -/

namespace Sys2Proof.Machine

/-! ### Main loss (R31, R32) -/

/-- HOLD_SWITCH_IN (R31): 12V_MAIN, which was present, has fallen below 10.8 V (DESIGN CHOICE, notes/assumptions/116). -/
def execHoldSwitchIn (s : State) : Out :=
  .next (s.when (s.md.started && !s.md.poweredOff) (State.modMd (fun m => { m with onHold := true })))

/-- MAIN_DIP (R31). -/
def execMainDip (s : State) : Out :=
  .next (if s.md.onHold ∧ !s.md.mainLoss then
    ((s.modMd (fun m => { m with onHold := false })).inc K.supplyMainDips).raise0 Cause.mainDip else s)

/-- The shed (Table 2-5): all switched domains but management core 0 and link quad 3 are powered off; GDDR7 is lost, with
sessions, links 0 to 23 and cloves not on the die. -/
def State.shed (s : State) : State :=
  let s := s.modMd (fun m => { m with shed := true, tilesOn := 0, domainsOn := m.domainsOn &&& 0x2010 })
  let s := s.each allCores (fun n s => s.modCore n (fun c => { c with
    state := .stopped, startPend := false, stopPend := false, swapPend := false, notice := none, taken := none }))
  let s := s.each ((List.finRange 32).filter (fun n : Fin 32 => n.val < 24)) (fun n s =>
    s.when (decide (s.linkStateOf n ≠ lkOff)) (fun s =>
      (s.modLink n (fun x => { x with keys := none, auth := .none, rekey := .none, timing := [], control := [] })).enterLink n lkDown))
  let s := { s with host := { s.host with sessions := [], assocs := [] } }
  let s := s.each [0, 1] (fun p s => s.put (K.portLinkState p) 0)
  let s := s.modClv (fun v => { v with schedule := v.schedule.filter (·.onDie) }) |>.showOccupancy
  let s := { s with cry := { s.cry with lease := none, quotes := [] } }
  let s := (s.put K.updLeaseHolder 0).loseSpilled
  s.safApply

/-- MAIN_LOSS (R31): the sequence of Table 2-5 up to its flush. -/
def execMainLoss (s : State) : Out :=
  if s.md.mainLoss ∨ s.md.poweredOff ∨ !s.md.onHold then .next s
  else
    let s := (s.inc K.supplyMainLosses).raise0 Cause.mainLoss |>.disarmAll
    let s := s.modPins (fun p => { p with okOut := false, pfail := true })
    let s := (s.dropMace.modMd (fun m => { m with mainLoss := true, shutdown := .none })).enterMode .mainLoss
    .next ((s.put K.moduleShutdownProgress 0).shed.diagnose.startFlush .powerFail)

/-- POWER_FAIL_RESTART (R31, R75): the flush has ended and main is back; a reset that waited comes instead. -/
def execPowerFailRestart (s : State) : Out :=
  if s.md.mainLoss ∧ !s.md.poweredOff ∧ s.rcd.flush.isNone then .next (s.doReset (s.md.resetWaiting.getD .powerFail))
  else .next s

/-- Number of the first record that a flush has not copied. -/
def RecState.firstUnflushed (r : RecState) : Option Nat :=
  ((r.ring.filter (fun x : Record => !x.flushed)).getLast?).map (·.number)

/-- HOLD_UNDERVOLTAGE (R32): the burst in progress completes and the module powers off; a slot being written stays torn (R313) (DESIGN CHOICE, notes/assumptions/59). -/
def execHoldUndervoltage (s : State) : Out :=
  if s.md.mainLoss ∧ !s.md.poweredOff then
    let s := s.raise0 Cause.holdUndervoltage
    let cut := if s.rcd.flush = some .powerFail then s.rcd.firstUnflushed else s.rcd.flushCutAt
    let s := s.modRcd (fun r => { r with flush := none, flushCutAt := cut })
    let s := s.modPins (fun p => { p with maceOut := false, okOut := false, pfail := false, xoff0 := false, xoff1 := false, ppsOut := false })
    let s := s.modSoc (fun e => { e with writing := none, trigger := none })
    .next (s.modMd (fun m => { m with
      poweredOff := true, started := false, onHold := false, tilesOn := 0, domainsOn := 0, pllLock := 0, sdm := Vector.replicate 4 .off }))
  else .next s

/-! ### Readings (R33, Table 2-13) -/

/-- Energy on HOLD in mJ: C in µF, V in mV (R33). -/
def holdEnergy (c v : Nat) : Nat := (rheDiv (c * (v * v - 81000000) : Nat) 2000000000).toNat

/-- Is 12V_MAIN present: neither on HOLD nor in the main-loss sequence, and started? -/
def State.mainPresent (s : State) : Bool := s.md.started && !s.md.onHold && !s.md.mainLoss && !s.md.poweredOff

/-- A reading of 12V_MAIN in mV: out of its range, its time runs (Table 2-14). -/
def State.readMain (v12 : BitVec 16) (s : State) : State :=
  (s.put K.supplyV12 v12.toNat).noteTimer .mainRange (!s.md.poweredOff && (decide (v12.toNat < 11400) || decide (12600 < v12.toNat)))

/-- A reading of AUX in mV (Table 2-14). -/
def State.readAux (vaux : BitVec 16) (s : State) : State :=
  (s.put K.supplyVAUX vaux.toNat).noteTimer .auxLow (!s.md.poweredOff && decide (vaux.toNat < 3135))

/-- Hold energy too low with main present: its time runs (R33). -/
def State.noteHold (s : State) : State :=
  s.noteTimer .holdLow (decide (s.getN K.supplyHoldEnergy < 1500) && s.mainPresent)

/-- HOLD_ENERGY_PUBLISH (R33): supply readings in mV, input power in 0.1 W. -/
def execHoldEnergyPublish (v12 vaux vhold power : BitVec 16) (s : State) : Out :=
  let s := (((s.readMain v12).readAux vaux).put K.supplyVHOLD vhold.toNat).put K.supplyInputPower power.toNat
  .next (s.put K.supplyHoldEnergy (holdEnergy (s.getN K.supplyHoldCapacitance) vhold.toNat : Nat)).noteHold

/-- HOLD_ENERGY_LOW (R33): for 1 s. -/
def execHoldEnergyLow (s : State) : Out :=
  let s := s.noteHold
  .next (s.when (s.heldFor .holdLow sec) (State.raise0 Cause.holdEnergyLow))

/-- MAIN_OUT_OF_RANGE (Table 2-14): for 10 ms. -/
def execMainOutOfRange (v12 : BitVec 16) (s : State) : Out :=
  let s := s.readMain v12
  .next (s.when (s.heldFor .mainRange (10 * ms)) (State.raise0 Cause.mainOutOfRange))

/-- AUX_LOW (Table 2-14): for 10 ms. -/
def execAuxLow (vaux : BitVec 16) (s : State) : Out :=
  let s := s.readAux vaux
  .next (s.when (s.heldFor .auxLow (10 * ms)) (State.raise0 Cause.auxLow))

/-! ### Supply trim (R36, R37) -/

/-- A trim step of a group: logged, counted, recorded (R37). -/
def State.trimStep (g : Fin 9) (new : Int) (lowest : Nat) (s : State) : State :=
  let old := s.get (K.trimTrim g)
  let e : TrimEntry := { ft := s.ft, group := g, old := old, new := new, lowest := lowest }
  let s := (s.put (K.trimTrim g) new).modMd (fun m => { m with trimLog := (e :: m.trimLog).take 1024 })
  (s.inc K.trimTrimSteps).raise Cause.trimStep
    (args g [(toUnsigned 8 (old / 5), 1), (toUnsigned 8 (new / 5), 1), (lowest, 1)])

/-- A group at +60 mV sees a code of 2 or less (R37). -/
def State.trimLimit (g : Fin 9) (code : Nat) (s : State) : State :=
  if s.get (K.trimTrim g) = 60 ∧ code ≤ 2 ∧ !s.md.trimDegraded.getLsbD g then
    (s.modMd (fun m => { m with trimDegraded := m.trimDegraded ||| (1#9 <<< g.val) })).raiseOn Cause.trimAtLimit g
  else s

/-- TRIM_RAISE (R36): the lowest margin code a monitor of the group reported in a window of 1 ms. A further raise follows
1 ms after the last; at +60 mV the code is judged by R37. -/
def execTrimRaise (g : Fin 9) (code : BitVec 6) (s : State) : Out :=
  if code.toNat ≤ 8 ∧ !s.md.poweredOff then
    let s := s.restartTimer (.trimClear g)
    let v := s.get (K.trimTrim g)
    .next (if 60 ≤ v then s.trimLimit g code.toNat
      else if (s.md.timers.lookup (.trimRaised g)).isNone ∨ s.heldFor (.trimRaised g) ms then
        (s.trimStep g (v + 5) code.toNat).restartTimer (.trimRaised g)
      else s)
  else .next s

/-- TRIM_LOWER (R36): the lowest margin code of the hour. The hour runs from the start, the last code that asked for a raise
and the last step down (DESIGN CHOICE, notes/assumptions/110). -/
def execTrimLower (g : Fin 9) (code : BitVec 6) (s : State) : Out :=
  let from_ := (s.md.timers.lookup (.trimClear g)).getD s.md.startAt
  if 24 ≤ code.toNat ∧ !s.md.poweredOff ∧ from_ + 3600 * sec ≤ s.now then
    let v := s.get (K.trimTrim g)
    .next (s.when (decide (-60 < v)) (fun s => (s.trimStep g (v - 5) code.toNat).restartTimer (.trimClear g)))
  else .next s

/-! ### Junction and coolant (R40, R41) -/

def State.modJunction (f : Junction → Junction) (s : State) : State := s.modMd (fun m => { m with junction := f m.junction })

/-- A reading of the hottest junction monitor in 0.1 degC: at 105 degC or more its time runs (Table 2-8). -/
def State.readJunction (t : Int) (s : State) : State :=
  (s.put K.thermalJunctionMaximum t).noteTimer .junction105 (decide (1050 ≤ t))

/-- JUNCTION_WARNING (Table 2-8). -/
def execJunctionWarning (t : BitVec 16) (s : State) : Out :=
  let s := s.readJunction t.toInt
  .next (if 950 ≤ t.toInt ∧ !s.md.junction.warning then
    (s.modJunction (fun j => { j with warning := true })).raise Cause.junctionWarning (args0 [(t.toNat, 2)]) else s)

/-- Saffron stops, or starts again, at the next tick boundary (R35). -/
def State.safLater (s : State) : State := s.modMd (fun m => { m with safDue := true })

/-- JUNCTION_HIGH (Table 2-8): slow tier suspended from 100 degC, Saffron gated from 103 degC. -/
def execJunctionHigh (t : BitVec 16) (s : State) : Out :=
  let s := s.readJunction t.toInt
  let j := s.md.junction
  let a := decide (1000 ≤ t.toInt) && !j.high100
  let b := decide (1030 ≤ t.toInt) && !j.high103
  .next (if a || b then
    ((s.modJunction (fun j => { j with high100 := j.high100 || a, high103 := j.high103 || b })).raise Cause.junctionHigh
      (args0 [(t.toNat, 2)])).safLater else s)

/-- What JUNCTION_CRITICAL does when it sets in: OK_OUT falls, and the mace goes if the partner is there. -/
def State.sayCritical (a : Args) (s : State) : State :=
  let s := (s.raise Cause.junctionCritical a).diagnose
  s.when (s.md.pins.peerOk && s.md.pins.maceOut) State.dropMace

/-- JUNCTION_CRITICAL (Table 2-8): 105 degC for 1 s, or 108 degC. -/
def execJunctionCritical (t : BitVec 16) (s : State) : Out :=
  let s := s.readJunction t.toInt
  let a := s.heldFor .junction105 sec
  let b := decide (1080 ≤ t.toInt)
  let was := s.md.junction.critical
  let s := s.modJunction (fun j => { j with critical105 := j.critical105 || a, critical108 := j.critical108 || b })
  .next (s.when ((a || b) && !was) (State.sayCritical (args0 [(t.toNat, 2)])))

/-- JUNCTION_CLEAR (R40): each response 5 K below the level that set it. -/
def execJunctionClear (t : BitVec 16) (s : State) : Out :=
  let s := s.readJunction t.toInt
  let above := fun level : Int => decide (level - 50 < t.toInt)
  .next ((s.modJunction (fun j => { j with
    warning := j.warning && above 950, high100 := j.high100 && above 1000, high103 := j.high103 && above 1030
    critical105 := j.critical105 && above 1050, critical108 := j.critical108 && above 1080 })).safLater.diagnose)

/-- THERMAL_TRIP (Table 2-8): outputs off, MACE_OUT low, held in reset; the cause is recorded at the restart. A main-loss
sequence under way runs to its end first (R31). -/
def execThermalTrip (t : BitVec 16) (s : State) : Out :=
  let s := s.readJunction t.toInt
  if 1150 ≤ t.toInt ∧ !s.md.poweredOff then
    .next ((s.modJunction (fun j => { j with trip := true })).resetOrWait .thermal)
  else .next s

/-- THERMAL_TRIP_RELEASE (R72): below 90 degC the reset ends, or, in a main-loss sequence, no longer holds. -/
def execThermalTripRelease (t : BitVec 16) (s : State) : Out :=
  let s := s.readJunction t.toInt
  if s.md.junction.trip ∧ t.toInt < 900 then
    let held := s.md.heldInReset
    let s := s.modMd (fun m => { m with heldInReset := false, junction := .fresh })
    .next (s.when held (State.raise0 Cause.thermalTrip))
  else .next s

/-- The times of the two conditions of R41. -/
def State.noteCoolant (s : State) : State :=
  (s.noteTimer .flowLow (decide (600 ≤ s.getN K.supplyInputPower) && decide (s.getN K.thermalFlowEstimate < 600))).noteTimer
    .inletHigh (decide (450 < s.get K.thermalCoolantInlet))

/-- Coolant and junction readings in 0.1 degC, and the flow in mL/min that R41 estimates from 60 W on. Without a rise of the
coolant the estimate has no stated value: it is free (DESIGN CHOICE, notes/assumptions/61). -/
def State.showThermal (junction inlet outlet : Int) (s : State) : State :=
  let s := ((s.readJunction junction).put K.thermalCoolantInlet inlet).put K.thermalCoolantOutlet outlet
  let p := s.getN K.supplyInputPower
  let s := if p < 600 then s.put K.thermalFlowEstimate 0
    else if outlet ≤ inlet then (s.put K.thermalFlowEstimate (s.freeNat % 65536 : Nat)).useFree
    else s.put K.thermalFlowEstimate (min 65535 (rheDiv (p * 60000 : Nat) (3978 * (outlet - inlet).toNat)))
  s.noteCoolant

/-- COOLANT_FLOW_LOW (R41): for 1 s. -/
def execCoolantFlowLow (s : State) : Out :=
  let s := s.noteCoolant
  .next (s.when (s.heldFor .flowLow sec) (State.raise0 Cause.coolantFlowLow))

/-- COOLANT_INLET_HIGH (R41): for 10 s. -/
def execCoolantInletHigh (s : State) : Out :=
  let s := s.noteCoolant
  .next (s.when (s.heldFor .inletHigh (10 * sec)) (State.raise0 Cause.coolantInletHigh))

/-! ### Clocks (R42 to R49) -/

/-- REFCLK as it is seen: 1 µs without an edge raises REF_CLOCK_LOSS, once while it lasts (R45). -/
def State.refClock (present : Bool) (s : State) : State :=
  let lost := s.time.refClock && !present
  (s.modTime (fun t => { t with refClock := present })).when lost (State.raise0 Cause.refClockLoss)

/-- REF_CLOCK_LOSS (R45). -/
def execRefClockLoss (s : State) : Out := .next (s.refClock false)

/-- PLLs as their lock signals show them; TB, CTL or SAF out of lock fails self-diagnosis (Table 17-4). The SAF bit is taken
as read also while Saffron is stopped with all tiles gated (DESIGN CHOICE, notes/assumptions/110). -/
def State.showPll (lock : BitVec 6) (s : State) : State :=
  (s.modMd (fun m => { m with pllLock := lock })).modPair (fun p => { p with pllBad := decide (lock &&& 7 ≠ 7) })

/-- PLL_UNLOCK (Table 2-14): PLLs in the order of 0xF140.01. -/
def execPllUnlock (p : Fin 6) (s : State) : Out :=
  .next (((s.showPll (s.md.pllLock &&& ~~~(1#6 <<< p.val))).raiseOn Cause.pllUnlock p).diagnose)

/-- SDM_CLOCK_TAKEOVER (R49): no edge on SD_CLKk for 150 ns. -/
def execSdmClockTakeover (k : Fin 4) (s : State) : Out :=
  .next (if s.md.sdm[k] = .listening then
    (s.modMd (fun m => { m with sdm := m.sdm.set k .driving })).raiseOn Cause.sdmClockTakeover k else s)

/-- MACE_LINE_CONFLICT (R54): slot B gives way. -/
def execMaceLineConflict (s : State) : Out :=
  .next (if s.md.pins.maceIn ∧ s.md.pins.maceOut ∧ s.md.pins.slotB then
    (s.dropMace.modMd (fun m => { m with conflict := true })).raise0 Cause.maceLineConflict else s)

/-- PPS_OUT_PULSE (R52): the tick under way holds a whole FT second; the pulse ends 1 ms on. -/
def execPpsOutPulse (s : State) : Out :=
  .next (s.when (decide (s.time.mode ≠ .invalid) && decide (s.ft % sec < 1000) && !s.md.poweredOff)
    (State.modPins (fun p => { p with ppsOut := true })))

/-- BOUNDARY_SCAN_INSTRUCTION (R56), with the level of SERVICE_EN (PRESUMED, notes/assumptions/66). -/
def execBoundaryScanInstruction (i : Jtag) (serviceEn : Bool) (s : State) : Out :=
  let s := s.modPins (fun p => { p with serviceEn := serviceEn })
  let ok := match i with
    | .bypass | .idcode | .samplePreload => true
    | .driving => s.md.pins.rstLow && serviceEn
    | .debug => decide (s.getN K.secMode ≠ 0)
  .next (s.when ok (State.modMd (fun m => { m with jtag := i })))

end Sys2Proof.Machine
end

