-- ==== Sys2Proof/Machine/Start.lean ====
section
/-! DEFINITION. The start sequence, readiness, resets, orderly shutdown and the recovery ROM (spec/03, R59 to R83). -/

namespace Sys2Proof.Machine

/-! ### Starting (R30, R60, R72) -/

/-- START_CONDITION (R30, R60). `allAbsent`: 12V_MAIN, HOLD and AUX had all been absent, which makes it a power-on
(Table 3-5) (DESIGN CHOICE, notes/assumptions/59). -/
def execStartCondition (allAbsent : Bool) (s : State) : Out :=
  if s.md.started then .next s
  else
    let s := if allAbsent then (s.doReset .powerOn).inc K.modulePowerCycleCount else s.doReset .powerFail
    .next (s.modMd (fun m => { m with startAt := s.now }))

/-- The ROM recovers the kept ring (R73): valid records go to MRAM (DESIGN CHOICE, notes/assumptions/62). -/
def State.recoverRing (bad : List Nat) (s : State) : State :=
  if s.rcd.ringKept then
    let lost := (s.rcd.ring.filter (fun r : Record => bad.contains r.number)).length
    let s := s.modRcd (fun r => { r with ringKept := false, ring := r.ring.filter (fun x : Record => !bad.contains x.number) })
    let n := s.rcd.unflushed
    let s := s.flushRing
    let s := s.when (decide (0 < n)) (State.raise Cause.ringRecovered (args0 [(n, 4)]))
    s.when (decide (0 < lost)) (State.raise Cause.ringRecordsLost (args0 [(lost, 4)]))
  else s

/-- The failed-start count of the last failed bank rises; at 3 the bank is FAILED (R64). -/
def State.countFailed (s : State) : State :=
  match s.md.failedBank with
  | none => s
  | some b =>
    let n := (s.md.bank b).failedStarts + 1
    let s := (s.modBank b (fun x => { x with failedStarts := min n 3 })).modMd (fun m => { m with failedBank := none })
    if 3 ≤ n then (s.modBank b (fun x => { x with state := .failed })).raiseOn Cause.bankFailed b.toNat else s

/-- The checks of one bank (R63): the state, and whether it runs. -/
def State.tryBank (b : Bool) (s : State) : State × Bool :=
  let x := s.md.bank b
  let bad := fun cause : Nat =>
    ((s.modBank b (fun x => { x with state := .invalid })).raiseOn cause b.toNat, false)
  if x.state ≠ .valid then (s, false)
  else if !x.magicOk || !x.sigOk then bad Cause.bankHeaderBad
  else if x.rollback < s.md.fwCounter then bad Cause.bankRollback
  else if !x.hashOk then bad Cause.bankBodyBad
  else (s, true)

/-- The ROM selects a bank (R63): the preferred one, else the other; none, the recovery ROM. -/
def State.selectBank (s : State) : State :=
  let p := s.md.preferB
  let a := s.tryBank p
  let runs := fun (b : Bool) (s : State) => s.modMd (fun m => { m with running := if b then .b else .a })
  if a.2 then runs p a.1
  else
    let o := a.1.tryBank (!p)
    if o.2 then ((runs (!p) o.1).inc K.bankReverts).raiseOn Cause.bankRevert (!p).toNat
    else o.1.modMd (fun m => { m with running := .recovery })

/-- The recovery ROM (R79): Saffron, cores, GDDR7, link quads but quad 3, and Ethernet block 1 stay unpowered. -/
def State.enterRecoveryRom (s : State) : State :=
  let s := (s.recordInMram Cause.recoveryEntered (args0 [])).enterMode .recovery
  let s := s.modMd (fun m => { m with tilesOn := 0, domainsOn := 0x2110 })
  -- the links run the ROM's own link controller firmware (R81); Ethernet port 0 is brought up (R80)
  ((s.wakeLink 24).wakeLink 25).put (K.portLinkState 0) 1

/-- One core at a start (R65, R66, R182): its stored program, or the standard loop set, with its dictionary coefficients, when
that fails. Without a standard set whose header passes, the core stays STOPPED (DESIGN CHOICE, notes/assumptions/110). -/
def State.startCore (n : Fin 4) (s : State) : State :=
  let a := s.admitRecord n
  let load := fun (p : Program) (s : State) =>
    (s.enforceOn n p p.state).modCore n (fun c => { c with state := .loading, startPend := true })
  match a.2 with
  | some p => if p.code = .standard ∧ !s.partOk 1 then a.1 else load p a.1
  | none =>
    let s' := a.1.raiseOn Cause.imageReloadFailed (s.getN (K.coreProgramSlot n))
    if s.partOk 1 then load (standardProgram n) s' else s'

/-- M0, M1 and M5 at a start (Table 18-4). -/
def State.measureStart (s : State) : State :=
  let b := s.runningBank
  let s := s.measure 0 1 0xFFFF 0 b.version b.hash
  let s := s.each (b.parts.toList.drop 1) (fun p s => s.measure 1 p.kind 0xFFFF 0 p.version p.hash)
  let s := ((s.measureValue (leBytes 1 (s.getN K.secMode))).measureValue (s.getBytes K.anchorHostAnchors 8192 ++
    s.getBytes K.anchorFabricAnchors 8192 ++ s.getBytes K.anchorImageAnchors 2048)).measureValue
      (s.getBytes K.anchorRevocationList 8192)
  (s.measureValue (s.getBytes K.secIdentityCertificate 2048)).measureValue
    ((List.range 4).flatMap (fun i => s.getBytes (K.keyCheckValue i) 3))

/-- Node id of R356: twice the shelf id plus the slot, none without a shelf id (DESIGN CHOICE, notes/assumptions/107). -/
def State.takeNodeId (s : State) : State :=
  let shelf := s.getN K.nodeShelfId
  s.put K.nodeNodeId (if shelf < 512 then 2 * shelf + s.md.pins.slotB.toNat else 0xFFFF : Nat)

/-- Dither generators at the start of the carriers (R114) (DEDUCED, notes/assumptions/100). -/
def State.seedDither (s : State) : State :=
  let x := 0x9E3779B9#32 ^^^ BitVec.ofNat 32 (if s.getN K.nodeShelfId < 512 then s.getN K.nodeShelfId else 0)
  s.each convs (fun c s => (s.modConv c (fun y => { y with dither := x, period := s.getN (K.convCarrierPeriod c.idx) })).placeOffsets c)

/-- Step 7 of the chain (R274): the chain is to be brought up; the master wakes it once it may send (R268). -/
def State.chainWake (s : State) : State := (s.put K.chainChainState 1).modChain (fun c => { c with loopOk := false })

/-- Steps 5 to 8 as far as the firmware begins them: the domains, the reloads, the links and the chain, the first sweep and
the estimate's journal. A part of the bank whose header fails stays unloaded (DESIGN CHOICE, notes/assumptions/110). -/
def State.firmwareStart (s : State) : State :=
  -- step 5: domains
  let s := (s.modMd (fun m => { m with domainsOn := 0xFFFF, sdm := Vector.replicate 4 .listening })).gateQuads
  -- step 6: reloads
  let s := s.measureStart.takeNodeId
  let s := s.each allCores State.startCore
  let s := (s.seedDither.safReset).modPair (fun p => { p with scrubAt := s.now, healthAt := s.now })
  -- step 7: links and chain
  let s := s.when (s.partOk 3) (fun s => s.each (List.finRange 32) State.wakeLink)
  let s := s.chainWake
  -- step 8: the first sweep and the estimate
  s.socStart.diagnose

/-- Is the work of steps 7 and 8 done: every configured unit enumerated with its firmware verified and one sweep complete?
Where a step does not succeed its time ends it: "done by" t0 + 1.8 s in Table 3-1 (DESIGN CHOICE, notes/assumptions/110). -/
def State.step8Over (s : State) : Bool :=
  s.configured.all (fun u : Fin 32 => decide (s.unitStateOf u = 3) && (s.cunit u).valid) && s.chn.sweeps.isEmpty ||
  decide (s.md.startAt + 1800 * ms ≤ s.now)

/-- Steps 9 and 10 begin (R60): the gates, and the Saffron images if the microcode is loaded. -/
def State.beginStep9 (s : State) : State :=
  let s := (s.enterMode .waiting).modMd (fun m => { m with step9At := some s.now })
  let s := s.when (s.partOk 2) State.safStartLoad
  s.safApply.diagnose

/-- Step 9 begins at the end of step 8, on a firmware that has not stalled. -/
def State.step9 (s : State) : State :=
  s.when (decide (s.md.mode = .loading) && s.md.step9At.isNone && !s.md.stalled && s.step8Over) State.beginStep9

/-- A power-fail flush cut short is recorded at the next start (R416). -/
def State.sayFlushCut (s : State) : State :=
  match s.rcd.flushCutAt with
  | some n => (s.modRcd (fun r => { r with flushCutAt := none })).raise Cause.recorderFlushIncomplete (args0 [(n, 4)])
  | none => s

/-- A tamper event latched with AUX alone is recorded at the next start (R453). -/
def State.sayLatched (s : State) : State :=
  match s.cry.latched with
  | some (i, tb) => (s.modCry (fun x => { x with latched := none })).raise Cause.tamperDetected (args i [(tb, 8)])
  | none => s

/-- START_SEQUENCE (R60 to R66): steps 1 to 8 in order, as far as they begin at one instant of local time; link training,
enumeration and the sweep follow as commands, and step 9 begins at the tick boundary that finds them done. -/
def execStartSequence (i : StartInputs) (s : State) : Out :=
  if !s.md.started ∨ s.md.heldInReset ∨ s.md.mainLoss ∨ s.md.romStopped ∨ s.md.mode ≠ .rom then .next s
  else
    let s := s.modMd (fun m => { m with
      startAt := s.now, pllLock := 63, pins := { m.pins with slotB := i.slotB, rstLow := false }, romTestsOk := !i.testFails })
    if i.testFails then
      .next ((s.recordInMram Cause.selfTestFailed (args0 [])).modMd (fun m => { m with romStopped := true }))
    else
      let s := (s.recoverRing i.ringBad).sayFlushCut.sayLatched.afterZeroise
      let s := (s.modMd (ModState.readDesc i.descTorn)).countFailed.selectBank
      if s.md.running = .recovery then .next s.enterRecoveryRom
      else
        let s := (s.modMd (fun m => { m with
          handoverAt := s.now, fwArmed := true, fwFedAt := s.now, stalled := i.stalls })).enterMode .loading
        .next (if i.stalls then s else s.firmwareStart)

/-! ### Readiness (R67, R68) -/

/-- Sense channels in use: a function other than none (0x3200+c.01). -/
def State.chanInUse (s : State) (c : Fin 48) : Bool := decide (s.getN (K.chanFunction c) ≠ 0)

/-- Gates of Table 3-4, bit by bit. -/
def State.gates (s : State) : Nat :=
  let cell := fun c : Nat => decide (16000 ≤ c) && decide (c ≤ 28000)
  bitsOf [
    allCores.all (fun n => decide ((s.core n).state = .running)),
    allChans.all (fun c => !s.chanInUse c || !(s.chan c).open_),
    decide (s.pow.faultIn &&& ~~~(BitVec.ofNat 20 (s.getN K.faultFaultInputMask)) = 0),
    s.feedInWindow,
    decide (1500 ≤ s.getN K.supplyHoldEnergy),
    decide (s.get K.thermalJunctionMaximum < 950),
    s.configured.all (fun u : Fin 32 => decide (s.unitStateOf u = 3) && (s.cunit u).valid && (s.cunit u).cells.toList.all cell),
    decide (s.getN K.socMode ≠ 0),
    !s.md.conflict]

/-- May the firmware arm the claim (R424): neither failing self-diagnosis, nor UNPROVISIONED, nor in the error state? -/
def State.mayArm (s : State) : Bool := decide (s.diagBits = 0) && decide (s.securityState = 0) && s.md.mode.serves

/-- Claim the mace under R54 while every gate is met (R67): arm, and take it if MACE_IN has been low long enough. -/
def State.claim (s : State) : State :=
  if s.mayArm && decide (s.gates = 511) then
    let s := s.armClaim true
    s.when s.mayTake State.takeMace
  else s

/-- The gates are evaluated on and on (R67): the time they were last met, and no claim of a cold standby without them. -/
def State.watchGates (s : State) : State :=
  if s.md.mode = .coldStandby then
    if s.gates = 511 then s.modMd (fun m => { m with gatesAt := some (m.gatesAt.getD s.now) })
    else (s.modMd (fun m => { m with gatesAt := none })).armClaim false
  else s

/-- GATES_MET (R67, R68). -/
def execGatesMet (s : State) : Out :=
  if s.md.mode = .waiting ∧ s.gates = 511 then
    let s := (s.modMd (fun m => { m with gatesAt := some s.now })).put K.moduleStartTime (rheNat (s.now - s.md.startAt) ms)
    let s := s.enterMode .coldStandby
    let p := s.md.pins
    .next (if p.maceIn then s else if !p.slotB || !p.peerOk then s.claim else s)
  else .next s

/-- SLOT_B_DEFER_EXPIRY (R68). -/
def execSlotBDeferExpiry (s : State) : Out :=
  match s.md.gatesAt with
  | some t =>
    let low := max t (s.pair.maceInFell.getD 0)
    if s.md.mode = .coldStandby ∧ s.md.pins.slotB ∧ !s.md.pins.maceIn ∧ low + s.getN K.moduleSlotBDefer * ms ≤ s.now then .next s.claim
    else .next s
  | none => .next s

/-- PEER_OK_CHANGE (R68, R268, R434): the level of PEER_OK. -/
def execPeerOkChange (level : Bool) (s : State) : Out :=
  let was := s.md.pins.peerOk
  let s := (s.modPins (fun p => { p with peerOk := level })).chainRole
  let s := s.when (was && !level && s.md.pins.maceOut) (State.raise0 Cause.partnerDegraded)
  .next (if !level ∧ s.md.mode = .coldStandby ∧ s.md.pins.slotB ∧ !s.md.pins.maceIn then s.claim else s)

/-- READINESS_TIMEOUT (R67). -/
def execReadinessTimeout (s : State) : Out :=
  match s.md.step9At with
  | some t =>
    if s.md.mode = .waiting ∧ t + 60 * sec ≤ s.now ∧ s.gates ≠ 511 ∧ !s.md.readinessSaid then
      .next ((s.modMd (fun m => { m with readinessSaid := true })).raise Cause.readinessTimeout (args0 [(s.gates, 2)]))
    else .next s
  | none => .next s

/-- START_CONFIRMED (R64); COMMIT_ON_CONFIRM (R464). -/
def execStartConfirmed (s : State) : Out :=
  match s.md.step9At with
  | some t =>
    if !s.md.confirmed ∧ t + 60 * sec ≤ s.now ∧ s.md.running ≠ .recovery ∧ !s.md.mainLoss ∧ !s.md.poweredOff then
      let b := match s.md.running with | .b => true | _ => false
      let s := (s.modBank b (fun x => { x with failedStarts := 0 })).modMd (fun m => { m with confirmed := true })
      let s := s.raiseOn Cause.startConfirmed b.toNat
      .next (s.when (s.md.bank b).commitOnConfirm (State.raiseCounter 1 (s.md.bank b).rollback))
    else .next s
  | none => .next s

/-! ### Resets (R71 to R76) -/

/-- START_TIMEOUT (R71). -/
def execStartTimeout (s : State) : Out :=
  .next (if s.md.mode = .loading ∧ s.md.step9At.isNone ∧ s.md.handoverAt + 10 * sec ≤ s.now then
    s.resetOrWait .startTimeout else s)

/-- PIN_RESET (R72, R75). -/
def execPinReset (s : State) : Out :=
  let s := s.modPins (fun p => { p with rstLow := true })
  .next (if s.md.poweredOff ∨ s.md.heldInReset then s else s.resetOrWait .pin)

/-- WATCHDOG_FIRMWARE_EXPIRY (R74): 100 ms after its last feed. -/
def execWatchdogFirmwareExpiry (s : State) : Out :=
  .next (if s.md.fwArmed ∧ !s.md.poweredOff ∧ s.md.fwFedAt + 100 * ms ≤ s.now then s.resetOrWait .watchdog else s)

/-- WATCHDOG_CONTROL_EXPIRY (R74, R423): 3 µs after its last feed. -/
def execWatchdogControlExpiry (s : State) : Out :=
  .next (if s.md.ctlArmed ∧ s.pair.feedEnd ≤ s.now then s.resetOrWait .watchdog else s)

/-! ### Orderly shutdown (R77, R78) -/

def State.setShutdown (x : Shutdown) (code : Nat) (s : State) : State :=
  (s.modMd (fun m => { m with shutdown := x })).put K.moduleShutdownProgress code

/-- Has the partner halted, or is there none (R77)? A halted module keeps OK_OUT low (R78). -/
def State.partnerHalted (s : State) : Bool :=
  s.pairLinks.isEmpty || !s.md.pins.peerOk || decide (s.getN K.pairPartnerState = 6)

/-- The partner halts first; then the rack cap falls to zero and feed power with it (R77). -/
def State.stopShelfCap (s : State) : State :=
  s.when (decide (s.md.shutdown = .ramping) && !s.md.stopCap && s.partnerHalted) (fun s =>
    (s.setRackCap 0).modMd (fun m => { m with stopCap := true }))

/-- Both converters stopped: the mace is released and the module halts (R77). -/
def State.stopShelfEnd (s : State) : State :=
  s.when (decide (s.md.shutdown = .stopping) && convs.all (fun c => !(s.conv c).on)) (fun s => s.dropMace.halt)

/-- A write of the shutdown command (R77): 1 HANDOVER, 2 STOP_SHELF. A module that waits for its gates halts at once, like
the standby it would be (DESIGN CHOICE, notes/assumptions/110). -/
def State.shutdownCommand (v : Int) (s : State) : State × Nat :=
  let no := (s.raise0 Cause.shutdownRefused).refuse Cause.shutdownRefused
  match s.md.mode with
  | .coldStandby | .hotStandby | .waiting => s.halt.ok
  | .active =>
    if v = 1 then (if s.partnerReady then ((s.startHandover .halt).setShutdown .handingOver 1).ok else no)
    else ((s.sendPair 9 []).setShutdown .ramping 2).stopShelfCap.ok
  | _ => no

/-- SHUTDOWN_HANDOVER (R77). -/
def execShutdownHandover (sess : Nat) (s : State) : Out :=
  .next (s.hostWrite K.moduleShutdownCommand (oneByte sess 1) State.shutdownCommand)

/-- STOP_SHELF (R77) (DESIGN CHOICE, notes/assumptions/110). -/
def execStopShelf (sess : Nat) (s : State) : Out :=
  .next (s.hostWrite K.moduleShutdownCommand (oneByte sess 2) State.shutdownCommand)

/-- Facility feed power in W, by the bus voltage and the feed converter's current. -/
def State.feedWatts (s : State) : Int := rheDiv (s.busMilli * s.controlMilli 44) 1000000

/-- STOP_SHELF_COMPLETE (R77): both converters stop at their carrier boundaries; then the module releases the mace and halts. -/
def execStopShelfComplete (s : State) : Out :=
  .next (if s.md.shutdown = .ramping ∧ s.md.stopCap ∧ s.feedWatts < 2000 ∧ (s.controlMilli 43).natAbs < 5000 then
    ((s.setShutdown .stopping 3).each convs (fun c s => s.modConv c (fun x => { x with stopPend := x.on, waitFeed := false }))).stopShelfEnd
    else s)

/-! ### Banks (R63, R77) -/

/-- A write of Bank retry (0xA300.0A): FAILED becomes VALID with a count of 0; INVALID and EMPTY are refused
(DESIGN CHOICE, notes/assumptions/64). -/
def State.bankRetry (v : Int) (s : State) : State × Nat :=
  let b := decide (v = 1)
  match (s.md.bank b).state with
  | .failed | .valid => (s.modBank b (fun x => { x with state := .valid, failedStarts := 0 })).ok
  | _ => s.refuse Cause.valueOutOfRange

/-- BANK_RETRY. -/
def execBankRetry (w : HostWrite) (s : State) : Out := .next (s.hostWrite K.bankBankRetry w State.bankRetry)

/-! ### The recovery ROM (R79 to R82) -/

/-- RECOVERY_REQUEST (R81): once a second over a pair link in UP, with the module's anti-rollback counter, while no source
holds a download (DESIGN CHOICE, notes/assumptions/120). -/
def execRecoveryRequest (s : State) : Out :=
  let due : Bool := match s.md.recAskedAt with | some t => decide (t + sec ≤ s.now) | none => true
  .next (if s.md.mode = .recovery ∧ s.md.download.isNone ∧ due ∧ !s.pairLinks.isEmpty then
    (s.modMd (fun m => { m with recAskedAt := some s.now })).sendPair 10
      (leBytes 2 0 ++ leBytes 8 s.md.fwCounter) else s)

/-- Bytes of a firmware bank (Table 3-2). -/
abbrev bankBytes : Nat := 100663296

/-- Target of a download: the bank Ethernet names, or the bank with the lower version, A when equal (R81). -/
def State.recoveryTarget (s : State) (src : RecSource) (named : Bool) : Bool :=
  match src with
  | .ethernet => named
  | .pair => decide (s.md.bankB.version < s.md.bankA.version)

/-- May a source download: the pair links may; a session needs role S or E+U (R80, R465)? -/
def State.mayDownload (s : State) (src : RecSource) (sess : Nat) : Bool :=
  match src with
  | .pair => true
  | .ethernet => (s.roleOf sess).testBit 2 || ((s.roleOf sess).testBit 1 && (s.roleOf sess).testBit 4)

/-- A source's header arrives in the recovery ROM (R79, R82): the first that validates holds the download, and the target
is INVALID until it is accepted; the other source is refused with BUSY (DESIGN CHOICE, notes/assumptions/102). -/
def State.recoveryHeader (src : RecSource) (sess : Nat) (named : Bool) (h : ImageHdr) (s : State) : State :=
  let check := s.headerCheck 1 bankBytes h
  if !s.mayDownload src sess then s.send (.status Cause.accessDenied)
  else if s.md.download.isSome then s.send (.status Cause.busy)
  else if check ≠ 0 then s.send (.status (if check = 7 then Cause.imageRollback else Cause.imageHeaderRefused))
  else
    let b := s.recoveryTarget src named
    let x : BankSt := { state := .invalid, failedStarts := 0, version := h.version.toNat, rollback := h.counter.toNat
                        magicOk := true, sigOk := true, hashOk := false, commitOnConfirm := h.flags.getLsbD 0
                        hash := h.bodyHash.toList, parts := bankParts h 0 }
    (s.modBank b (fun _ => x)).modMd (fun m => { m with
      download := some src, downloadB := b, downloadBytes := 0, downloadAt := s.now })

/-- RECOVERY_DATA (R81, R82). -/
def execRecoveryData (m : RecoveryMsg) (s : State) : Out :=
  match m with
  | .request counter =>
    .next (if s.md.mode.serves ∧ s.md.confirmed ∧ counter.toNat ≤ s.md.fwCounter then s.send (.image bankBytes) else s)
  | .header src sess named b sigOk =>
    .next (if s.md.mode = .recovery then s.recoveryHeader src sess named (.ofBytes sigOk b) else s)
  | .body src n =>
    .next (if s.md.mode = .recovery ∧ s.md.download = some src then
      s.modMd (fun m => { m with downloadBytes := m.downloadBytes + n, downloadAt := s.now }) else s)

/-- RECOVERY_SOURCE_TIMEOUT (R82): the holder has sent nothing for 10 s. -/
def execRecoverySourceTimeout (s : State) : Out :=
  .next (if s.md.download.isSome ∧ s.md.downloadAt + 10 * sec < s.now then
    s.modMd (fun m => { m with download := none }) else s)

end Sys2Proof.Machine
end

