-- ==== Sys2Proof/Machine/Security.lean ====
section
/-! DEFINITION. Security, attestation and update (spec/18, R442 to R470). -/

namespace Sys2Proof.Machine

/-! ### Mode, self-tests, tamper, zeroisation (R443, R451 to R455) -/

/-- A mode command (R443): a change of mode zeroises the module and takes effect at the next start. -/
def State.modeCommand (v : Int) (s : State) : State × Nat :=
  let m : Nat := if v = 2 then 1 else 0
  if s.getN K.secMode = m then s.ok
  else ((s.modCry (fun x => { x with nextMode := some m })).zeroise 6).ok

/-- MODE_COMMAND. -/
def execModeCommand (w : HostWrite) (s : State) : Out := .next (s.hostWrite K.secModeCommand w State.modeCommand)

/-- RUN of the self-tests (R451). -/
def State.selfTestRun (s : State) : State × Nat := ((s.put K.secSelfTestResult 1).modCry (fun x => { x with testing := true })).ok

/-- SELF_TEST_RUN. -/
def execSelfTestRun (sess : Nat) (s : State) : Out :=
  .next (s.hostWrite K.secSelfTestCommand (oneByte sess 1) (fun _ s => s.selfTestRun))

/-- SELF_TEST_PASSED (R451). -/
def execSelfTestPassed (s : State) : Out :=
  .next (if s.cry.testing then
    ((s.put K.secSelfTestResult 2).modCry (fun x => { x with testing := false })).raise0 Cause.selfTestPassed else s)

/-- CRYPTO_SELF_TEST_FAILED (R452). -/
def execCryptoSelfTestFailed (s : State) : Out :=
  .next (if s.md.poweredOff ∨ s.cry.errorPending then s else s.cryptoError)

/-- ZEROISE (R454). -/
def execZeroise (sess : Nat) (s : State) : Out :=
  .next (s.hostWrite K.secZeroise (oneByte sess 1) (fun _ s => (s.zeroise 0).ok))

/-- Action of a tamper input (0xA000.08), or of the internal monitors (input 4), which ZEROISE in approved mode and RECORD
otherwise (R453). -/
def State.tamperAction (s : State) (i : Fin 5) : Nat :=
  if i.val < 4 then s.getN K.secTamperActions / 4 ^ i.val % 4 else if s.getN K.secMode = 0 then 2 else 1

/-- TAMPER_DETECTED (R453): inputs 0 to 3, or 4 the internal monitors. With AUX alone the event is latched. -/
def execTamperDetected (i : Fin 5) (s : State) : Out :=
  let s := if i.val < 4 then s.modPins (fun p => { p with tamper := p.tamper ||| BitVec.ofNat 4 (2 ^ i.val) })
    else s.put K.secTamperState 16
  let a := s.tamperAction i
  if a = 0 then .next s
  else
    let s := if s.auxAlone then s.modCry (fun x => { x with latched := some (i.val, s.now) })
      else s.raiseOn Cause.tamperDetected i
    .next (s.when (decide (a = 2)) (State.zeroise (i.val + 1)))

/-! ### Identity and anchors (R446, R455) -/

/-- A write of the identity certificate (R455). The new attestation certificate's bytes are free
(DESIGN CHOICE, notes/assumptions/106). -/
def State.installIdentity (b : List Byte) (s : State) : State × Nat :=
  if Config.identityOk b ((s.cry.keys.map (·.identity)).getD 0) (s.getBytes K.anchorFabricAnchors 8192) (s.getN K.nodeSerial) then
    let s := (s.putBytes K.secIdentityCertificate b).putBytes K.secAttestationCertificate (leBytes 2048 s.freeNat)
    (((s.useFree.put K.secSecurityState 0).raise0 Cause.identityInstalled).measureValue b).ok
  else s.refuse Cause.valueOutOfRange

/-- IDENTITY_CERTIFICATE_WRITE. -/
def execIdentityCertificateWrite (w : HostWrite) (s : State) : Out :=
  .next (s.hostWrite K.secIdentityCertificate w (fun _ s => s.installIdentity w.bytes))

/-- Close a session (R377): its streams, subscription and transfers end with it, nothing placed, and its lease is
released. -/
def State.dropSession (id : Nat) (s : State) : State :=
  match s.session? id with
  | none => s
  | some x =>
    let s := { s with host := { s.host with sessions := s.host.sessions.filter (fun y => decide (y.id ≠ id)) } }
    let s := s.each (x.transfers.filter (·.isWrite)) (fun _ s => s.raise Cause.transferFailed (args id []))
    let s := s.modCry (fun c => { c with
      quotes := c.quotes.filter (fun q => decide (q.sess ≠ id))
      inputs := c.inputs.map (fun i : InputSt => if i.sess = id then { sess := 0, hdr := none, result := 0 } else i) })
    let s := s.each (List.range 4) (fun u s =>
      s.when (x.transfers.any (fun t => decide (t.key = K.imgImage u))) (State.put (K.imgInputState u) 0))
    let s := if s.getN K.updLeaseHolder = id then
        ((s.put K.updLeaseHolder 0).modCry (fun c => { c with lease := none })).raise0 Cause.updateLeaseReleased
      else s
    s.raise Cause.sessionClosed (args id [])

/-- Sessions and UP links whose chain no longer passes R445 are closed (R446): links with reason 10. -/
def State.closeUntrusted (s : State) : State :=
  let revoked := s.getBytes K.anchorRevocationList 8192
  let host := s.getBytes K.anchorHostAnchors 8192
  let fabric := s.getBytes K.anchorFabricAnchors 8192
  let s := s.each ((s.host.sessions.filter (fun x => !Config.chainOk x.chain host revoked s.certTime)).map (·.id)) State.dropSession
  s.each ((List.finRange 32).filter (fun n : Fin 32 => s.linkUp n && !Config.chainOk (s.link n).peerChain fabric revoked s.certTime))
    (fun n s => s.linkDown n 10)

/-- Writes of the anchors and of the revocation list (R446): the last host anchor cannot be removed. -/
def State.anchorsWrite (k : Nat) (b : List Byte) (s : State) : State × Nat :=
  if k = K.anchorHostAnchors ∧ b.all (fun x => decide (x = 0)) then s.refuse Cause.valueOutOfRange
  else
    let s := (s.putBytes k b).measureValue b
    if k = K.anchorImageAnchors then s.ok
    else
      let s := s.noteCert.raise0 Cause.anchorsChanged
      (s.when (decide (k = K.anchorRevocationList)) (State.raise0 Cause.revocationUpdated)).closeUntrusted.ok

/-- ANCHORS_WRITE: 0 host, 1 fabric, 2 image anchors, 3 the revocation list (0xA020). -/
def execAnchorsWrite (i : Fin 4) (w : HostWrite) (s : State) : Out :=
  .next (s.hostWrite (K.anchorHostAnchors + i.val) w (fun _ s => s.anchorsWrite (K.anchorHostAnchors + i.val) w.bytes))

/-! ### Quotes (R461) -/

/-- Nonce, mask and quote of a session. -/
def State.quoteOf (s : State) (sess : Nat) : QuoteSt :=
  (s.cry.quotes.find? (fun q => decide (q.sess = sess))).getD
    { sess := sess, nonce := List.replicate 32 0, mask := 0x3F, asked := false, quote := none }

def State.setQuote (q : QuoteSt) (s : State) : State :=
  s.modCry (fun x => { x with quotes := q :: x.quotes.filter (fun y => decide (y.sess ≠ q.sess)) })

/-- A write of the nonce: a quote is asked for. -/
def State.nonceWrite (sess : Nat) (b : List Byte) (s : State) : State × Nat :=
  (s.setQuote { s.quoteOf sess with nonce := b, asked := true, quote := none }).ok

/-- A write of the register mask. -/
def State.maskWrite (sess : Nat) (v : Int) (s : State) : State × Nat := (s.setQuote { s.quoteOf sess with mask := v.toNat }).ok

/-- NONCE_WRITE. -/
def execNonceWrite (w : HostWrite) (s : State) : Out :=
  .next (s.hostWrite K.attestNonce w (fun _ s => s.nonceWrite w.sess w.bytes))

/-- Bytes 0 to 335 of a quote (Table 18-5). -/
def State.quoteBody (s : State) (q : QuoteSt) : List Byte :=
  let regs := (List.range 8).flatMap (fun x =>
    if q.mask.testBit x then s.cry.regs.toList.getD x [] else List.replicate 32 0)
  [0x10, BitVec.ofNat 8 q.mask] ++ leBytes 1 (s.getN K.secMode) ++ leBytes 1 s.securityState ++ leBytes 8 (s.getN K.nodeSerial) ++
  q.nonce ++ leBytes 8 s.ft ++ leBytes 4 (s.getN K.modulePowerCycleCount) ++ leBytes 4 s.cry.extensions ++
  leBytes 4 s.md.fwCounter ++ leBytes 4 s.cry.programCounter ++ leBytes 4 s.cry.modelCounter ++ List.replicate 8 0 ++ regs

/-- QUOTE_READY (R461): the quote is signed; the signature's bytes are free (DESIGN CHOICE, notes/assumptions/106). -/
def execQuoteReady (sess : Nat) (s : State) : Out :=
  let q := s.quoteOf sess
  .next (if q.asked then
    (s.setQuote { q with asked := false, quote := some (s.quoteBody q ++ leBytes 384 s.freeNat) }).useFree else s)

/-- MEASUREMENT_EXTEND (R459): a register of Table 18-4 with its image or object. -/
def execMeasurementExtend (reg : Fin 6) (kind : BitVec 8) (subject : BitVec 16) (id : BitVec 32) (version : BitVec 16)
    (d : Vector Byte 32) (s : State) : Out :=
  .next (s.measure reg kind.toNat subject.toNat id.toNat version.toNat d.toList)

/-! ### Commit and prefer (R464, R468) -/

/-- A write of COMMIT: class in the high byte, bank or slot in the low one. -/
def State.commit (v : Int) (s : State) : State × Nat :=
  let cls := v.toNat / 256
  let n := v.toNat % 256
  let no := s.refuse Cause.valueOutOfRange
  let go := fun c : Nat => if c < s.classCounter cls then no else (s.raiseCounter cls c).ok
  if cls = 1 then
    let b := decide (n = 1)
    if n ≤ 1 ∧ s.md.confirmed ∧ s.md.running = (if b then .b else .a) then go (s.md.bank b).rollback else no
  else if cls = 2 ∨ cls = 3 then
    match s.cry.stored.find? (fun h => decide (h.cls = cls) && decide (h.slot = n)) with
    | some h => if s.slotValid cls n then go h.counter else no
    | none => no
  else no

/-- COMMIT. -/
def execCommit (w : HostWrite) (s : State) : Out := .next (s.hostWrite K.updCommit w State.commit)

/-- Target of the input that holds the lease. -/
def State.leaseTarget (s : State) : Option Nat := s.cry.lease.map (fun u => s.getN (K.imgTarget u))

/-- A write of PREFER (R468) (DESIGN CHOICE, notes/assumptions/64). -/
def State.prefer (v : Int) (s : State) : State × Nat :=
  let b := decide (v = 1)
  if (s.md.bank b).state ≠ .valid then s.refuse Cause.valueOutOfRange
  else if s.leaseTarget = some (256 + b.toNat) then s.refuse Cause.busy
  else ((s.preferBank b).raiseOn Cause.bankPreferred b.toNat).ok

/-- PREFER. -/
def execPrefer (w : HostWrite) (s : State) : Out := .next (s.hostWrite K.updPrefer w State.prefer)

/-! ### Updating images (R465 to R467) -/

/-- Add 1 to the count of images written, or of images refused (0xA200.05). -/
def State.countImage (refused : Bool) (s : State) : State :=
  let b := s.getBytes K.updImagesWrittenRefused 8
  let a := leNat (b.take 4)
  let c := leNat (b.drop 4)
  let v := (if refused then c else a) + 1
  let full := decide (2 ^ 32 ≤ v)
  let v := if full then s.freeNat else v
  let s := if full then s.useFree else s
  s.putBytes K.updImagesWrittenRefused (if refused then leBytes 4 a ++ leBytes 4 v else leBytes 4 v ++ leBytes 4 c)

/-- Is a target one that R465 lets an input name? 0 if it is, else the status. -/
def State.targetStatus (s : State) (t : Nat) : Nat :=
  let cls := t / 256
  let n := t % 256
  if cls = 1 then
    if 1 < n then Cause.valueOutOfRange
    else if s.md.running = (if n = 1 then .b else .a) then Cause.valueOutOfRange else 0
  else if cls = 2 then (if n < 16 then 0 else Cause.valueOutOfRange)
  else if cls = 3 then
    if 16 ≤ n then Cause.valueOutOfRange
    else if s.saf.loading.isSome && decide (s.getN K.loadLoadSlot = n) then Cause.busy else 0
  else Cause.valueOutOfRange

/-- A write of an input's target: the input must be free. -/
def State.targetWrite (u : Fin 4) (v : Int) (s : State) : State × Nat :=
  let st := s.getN (K.imgInputState u)
  if st = 1 ∨ st = 2 then s.refuse Cause.busy
  else if s.targetStatus v.toNat ≠ 0 then s.refuse (s.targetStatus v.toNat)
  else ((s.put (K.imgTarget u) v).put (K.imgInputState u) 0).ok

/-- Capacity of a target in bytes (R465). -/
def State.capacity (s : State) (t : Nat) : Nat :=
  match t / 256 with
  | 1 => bankBytes
  | 2 => 2 * 1048576
  | _ => 800 * 1048576 - (((List.range 16).filter (fun n => decide (n ≠ t % 256))).map (fun n => s.getN (K.slotBodyBytes n))).sum

/-- May a session update images: role S, or E with the update privilege (R465)? -/
def State.mayUpdate (s : State) (sess : Nat) : Bool :=
  (s.roleOf sess).testBit 2 || ((s.roleOf sess).testBit 1 && (s.roleOf sess).testBit 4)

/-- A block write opens on an input (R465): it awaits the header. -/
def State.openInput (u : Fin 4) (sess : Nat) (s : State) : State × Nat :=
  let st := s.getN (K.imgInputState u)
  let t := s.getN (K.imgTarget u)
  if !s.mayUpdate sess then s.refuse Cause.accessDenied
  else if st = 1 ∨ st = 2 then s.refuse Cause.busy
  else if s.targetStatus t ≠ 0 then s.refuse (s.targetStatus t)
  else
    let s := s.modCry (fun x => { x with inputs := x.inputs.set u { sess := sess, hdr := none, result := 0 } })
    ((s.put (K.imgInputState u) 1).put (K.imgBytesWritten u) 0).ok

/-- End the transfer of an input with a cause or BUSY (R466). -/
def State.endInput (u : Fin 4) (status : Nat) (s : State) : State :=
  let s := s.modCry (fun x => { x with inputs := x.inputs.set u { x.inputs[u] with result := status } })
  (s.put (K.imgInputState u) 4).countImage true

/-- The target becomes INVALID before the first flash write (R467). -/
def State.spoilTarget (t : Nat) (s : State) : State :=
  if t / 256 = 1 then s.modBank (decide (t % 256 = 1)) (fun x => { x with state := .invalid, hashOk := false })
  else s.spoilSlot (t / 256) (t % 256)

/-- IMAGE_HEADER_ARRIVED (R466): the first 512 bytes of an input are there; `sigOk` is what their signature check finds. -/
def execImageHeaderArrived (u : Fin 4) (bytes : List Byte) (sigOk : Bool) (s : State) : Out :=
  let h := ImageHdr.ofBytes sigOk bytes
  if s.getN (K.imgInputState u) ≠ 1 ∨ (s.cry.inputs[u]).hdr.isSome then .next s
  else
    let t := s.getN (K.imgTarget u)
    let check := s.headerCheck (t / 256) (s.capacity t) h
    if check = 7 then .next ((s.raise Cause.imageRollback (args t [(h.counter.toNat, 4)])).endInput u Cause.imageRollback)
    else if check ≠ 0 then .next ((s.raise Cause.imageHeaderRefused (args t [(check, 1)])).endInput u Cause.imageHeaderRefused)
    else if s.cry.lease.isSome then .next (s.endInput u Cause.busy)
    else
      let sess := (s.cry.inputs[u]).sess
      let s := s.modCry (fun x => { x with lease := some u, inputs := x.inputs.set u { x.inputs[u] with hdr := some h } })
      .next (((s.put K.updLeaseHolder sess).put (K.imgInputState u) 2).spoilTarget t)

/-- The lease is released (R466). -/
def State.releaseLease (s : State) : State :=
  ((s.modCry (fun x => { x with lease := none })).put K.updLeaseHolder 0).raise0 Cause.updateLeaseReleased

/-- Put a list entry by its number. -/
def setAt {α : Type} (n : Nat) (x : α) : List (Nat × α) → List (Nat × α)
  | [] => [(n, x)]
  | (m, y) :: rest => if n < m then (n, x) :: (m, y) :: rest else if m = n then (n, x) :: rest else (m, y) :: setAt n x rest

/-- A whole image stands in its target: a bank or slot becomes VALID (R467). -/
def State.acceptImage (t : Nat) (h : ImageHdr) (b : ImageBody) (s : State) : State :=
  let n := t % 256
  let s := if t / 256 = 1 then s else s.modCry (fun x => { x with
    stored := { cls := t / 256, slot := n, counter := h.counter.toNat, hash := h.bodyHash.toList } ::
      x.stored.filter (fun y => !(decide (y.cls = t / 256) && decide (y.slot = n))) })
  match b with
  | .bank ok => s.modBank (decide (n = 1)) (fun _ =>
      { state := .valid, failedStarts := 0, version := h.version.toNat, rollback := h.counter.toNat, magicOk := true
        sigOk := true, hashOk := true, commitOnConfirm := h.flags.getLsbD 0, hash := h.bodyHash.toList
        parts := bankParts h ok })
  | .program img => { s with card := { s.card with
      store := setAt n img s.card.store } }
  | .model img =>
    let s := { s with saf := { s.saf with store := setAt n img s.saf.store } }
    let s := ((s.put (K.slotState n) 1).put (K.slotTier n) img.tier).put (K.slotImageId n) img.id.toNat
    ((s.put (K.slotImageVersion n) img.imageVersion.toNat).put (K.slotBodyBytes n) h.bodyLength.toNat).putBytes
      (K.slotBodyHash n) h.bodyHash.toList

/-- IMAGE_WRITE_END (R467): BLOCK_END of the holder's transfer; `ok` says that length, CRC and body hash pass, `parts` which
images of a bank carry a header that passes. -/
def execImageWriteEnd (u : Fin 4) (ok : Bool) (parts : BitVec 5) (body : List Byte) (s : State) : Out :=
  let t := s.getN (K.imgTarget u)
  match s.cry.lease, (s.cry.inputs[u]).hdr with
  | some v, some h =>
    if v ≠ u then .next s
    else if ok then
      let s := (((s.acceptImage t h (.ofBytes (t / 256) parts h.bodyHash.toList body)).put (K.imgInputState u) 3).put (K.imgBytesWritten u) (h.bodyLength.toNat % 2 ^ 32 : Nat))
      .next (((s.raise Cause.imageWritten (args t [(h.version.toNat, 2)])).countImage false).releaseLease)
    else .next (((s.raiseOn Cause.imageBodyBad t).endInput u Cause.imageBodyBad).releaseLease)
  | _, _ => .next s

/-! ### Clove keys (R456 to R458) -/

def State.keyState (s : State) (i : Fin 4) : Nat := s.getN (K.keyKeyState i)

/-- A write of a key (R456): into an EMPTY slot. -/
def State.installKey (i : Fin 4) (b : List Byte) (s : State) : State × Nat :=
  if s.keyState i ≠ 0 then s.refuse Cause.busy
  else
    let check := Config.keyCheck b
    let s := s.modClv (fun v => { v with keys := v.keys.set i (some b) })
    let s := ((s.put (K.keyKeyState i) 1).putBytes (K.keyCheckValue i) check).raiseOn Cause.cloveKeyInstalled i
    (s.measureValue check).ok

/-- CLOVE_KEY_INSTALL. -/
def execCloveKeyInstall (i : Fin 4) (w : HostWrite) (s : State) : Out :=
  .next (s.hostWrite (K.keyKey i) w (fun _ s => s.installKey i w.bytes))

/-- A write of a key command (R457): 1 ACTIVATE, 2 RETIRE; a later one replaces it. -/
def State.keyCommand (i : Fin 4) (v : Int) (s : State) : State × Nat :=
  if s.keyState i = 0 ∨ (v = 2 ∧ s.keyState i = 2) then s.refuse Cause.valueOutOfRange
  else (s.modCry (fun x => { x with keyCmd := x.keyCmd.set i (some v.toNat) })).ok

/-- KEY_ACTIVATE. -/
def execKeyActivate (i : Fin 4) (sess : Nat) (s : State) : Out :=
  .next (s.hostWrite (K.keyCommand i) (oneByte sess 1) (State.keyCommand i))

/-- KEY_RETIRE. -/
def execKeyRetire (i : Fin 4) (sess : Nat) (s : State) : Out :=
  .next (s.hostWrite (K.keyCommand i) (oneByte sess 2) (State.keyCommand i))

/-- A command that lapses (R457). -/
def State.keyLapse (i : Fin 4) (v : Nat) (s : State) : State := s.raise Cause.cloveKeyCommandLapsed (args i [(v, 1)])

/-- ACTIVATE acts (R457): the sequence restarts at 1. -/
def State.activateKey (i : Fin 4) (s : State) : State :=
  match s.keyState i with
  | 0 => s.keyLapse i 1
  | 1 =>
    let s := s.each ((List.finRange 4).filter (fun j : Fin 4 => decide (s.keyState j = 2))) (fun j s => s.put (K.keyKeyState j) 1)
    let s := (s.put (K.keyKeyState i) 2).put K.cloveOriginatingKeyId i
    let s := (s.modClv (fun v => { v with nextSeq := 1, reservedTop := 65536, wrapped := false, exhaustedSaid := false })).put
      K.cloveSequenceCounter 1
    (s.modCry (fun x => { x with stoppedSaid := false })).raiseOn Cause.cloveKeyActivated i
  | _ => s

/-- RETIRE acts (R457). -/
def State.retireKey (i : Fin 4) (s : State) : State :=
  if s.keyState i = 1 then
    let s := (s.modClv (fun v => { v with keys := v.keys.set i none })).dropWindows i
    let s := ((s.put (K.keyKeyState i) 0).putBytes (K.keyCheckValue i) [0, 0, 0]).raiseOn Cause.cloveKeyRetired i
    s.measureValue [0, 0, 0]
  else s.keyLapse i 2

/-- Pending key commands whose FT has come act: activations first (R457). -/
def State.keyTick (s : State) : State :=
  let due := fun (v : Nat) (i : Fin 4) => decide (s.cry.keyCmd[i] = some v) && decide (s.getN (K.keyCommandFT i) ≤ s.ft)
  let a := (List.finRange 4).filter (due 1)
  let r := (List.finRange 4).filter (due 2)
  let clear := fun (i : Fin 4) (s : State) => s.modCry (fun x => { x with keyCmd := x.keyCmd.set i none })
  let s := s.each a (fun i s => clear i (s.activateKey i))
  (s.each r (fun i s => clear i (s.retireKey i))).watchKeys

/-- KEY_COMMAND_ACT (R457). -/
def execKeyCommandAct (s : State) : Out := .next s.keyTick

end Sys2Proof.Machine
end

