-- ==== Sys2Proof/Machine/View.lean ====
section
/-! DEFINITION. Reading the dictionary: the value of every object as a session sees it (spec/14, R380 and R382).  An object
the model keeps as typed state is shown from there; every other holds what was written to it, else its default. -/

namespace Sys2Proof.Machine

/-! ### Single values -/

/-- Levels at the control contacts (0xF150), bit by bit: nets with _N show the low level of an asserted one, and an open tamper
loop or SLOT_SEL the high level of its pull-up (Table 2-12). -/
def Pins.levels (p : Pins) : Nat :=
  bitsOf [p.maceOut, p.maceIn, p.okOut, p.peerOk, p.slotB, !p.pfail, !p.xoff0, !p.xoff1, p.serviceEn,
    p.tamper.getLsbD 0, p.tamper.getLsbD 1, p.tamper.getLsbD 2, p.tamper.getLsbD 3]

/-- The role shown for the four nets: driving when one is driven, else listening when one is listened to
(DESIGN CHOICE, notes/assumptions/110). -/
def sdmCode (v : Vector SdmRole 4) : Nat :=
  if v.toList.contains .driving then 2 else if v.toList.contains .listening then 1 else 0

def Running.code : Running → Nat
  | .a => 0
  | .b => 1
  | .recovery => 2

/-- Engine state of Saffron (0x5000.02) (DESIGN CHOICE, notes/assumptions/56). -/
def State.safEngine (s : State) : Nat :=
  if s.safEnable = 0 ∧ (s.getN K.safEnable = 0 ∨ s.md.shed ∨ s.md.mode = .halted) then 0
  else if s.safEnable < s.getN K.safEnable then 3
  else if s.saf.fastWait = .stopped ∨ s.saf.slowWait = .stopped then 4
  else if s.fastImg.isNone ∧ s.slowImg.isNone then 1
  else 2

/-- Telemetry load in bytes/s (R388). -/
def Stream.load (x : Stream) : Nat := (16 + x.sampleBytes) * 10000 / max 1 x.period
def State.telemetryLoad (s : State) : Nat := ((s.host.sessions.flatMap (·.streams)).map Stream.load).sum

/-- Objects of one instance that show typed state (DESIGN CHOICE, notes/assumptions/107). -/
def State.singleViews (s : State) : List (Nat × Nat) := [
  (K.powerTilePowerMap, s.md.tilesOn.toNat), (K.powerDomainPowerMap, s.md.domainsOn.toNat),
  (K.clockPLLLockMap, s.md.pllLock.toNat), (K.clockSDMRole, sdmCode s.md.sdm), (K.lineLineState, s.md.pins.levels),
  (K.moduleReadinessGates, s.gates), (K.bankRunningBank, s.md.running.code), (K.bankPreferredBank, s.md.preferB.toNat),
  (K.bankBankAState, s.md.bankA.state.code), (K.bankBankBState, s.md.bankB.state.code),
  (K.bankBankAFailedStarts, s.md.bankA.failedStarts), (K.bankBankBFailedStarts, s.md.bankB.failedStarts),
  (K.bankBankAVersion, s.md.bankA.version), (K.bankBankBVersion, s.md.bankB.version),
  (K.timeFabricTime, s.ft), (K.timeErrorBound, s.errorBound),
  (K.ptpPTPPortState, s.ptpPortState 0 + 256 * s.ptpPortState 1), (K.faultFaultInputLevels, s.pow.faultIn.toNat),
  (K.engineCoresRunning, bitsOf (allCores.map (fun n => decide ((s.core n).state = .running)))),
  (K.safEngineState, s.safEngine), (K.socTimeSinceRest, rheNat (s.now - s.soc.lastRestAt) sec),
  (K.nodeSlot, s.md.pins.slotB.toNat), (K.identSerial, s.getN K.nodeSerial), (K.identFirmwareVersion, s.runningVersion),
  (K.sessSessionsOpen, s.host.sessions.length), (K.sessTelemetryLoad, s.telemetryLoad),
  (K.poolFreeCells, 131072 - (s.que.queues.map Queue.onDie).sum), (K.poolSharedFree, s.sharedFree),
  (K.poolSpilledCells, s.spilledCells), (K.recRecordsInRing, s.rcd.ring.length), (K.recUnflushedRecords, s.rcd.unflushed),
  (K.recRecordsInMRAM, s.rcd.mram.length), (K.recStagingOccupancy, s.rcd.staging.length),
  (K.recFlushState, (s.rcd.flush.map FlushKind.code).getD 0),
  (K.pairLeaseRemaining, if s.md.pins.maceOut then min 65535 (s.pair.leaseEnd - s.now) else 0),
  (K.injCtlPointsArmed, s.inj.points.length), (K.injCtlInjectionsSinceStart, s.inj.seq),
  (K.secSecurityState, s.securityState), (K.secTamperState, s.md.pins.tamper.toNat + s.getN K.secTamperState)]

/-! ### Records of several instances -/

def convView (s : State) (c : Conv) (sub : Nat) : Option Int :=
  match sub with
  | 0x01 => some (match s.convState c with
      | .stopped => 0 | .softStart => 1 | .running => 2 | .burst => 3 | .tripped => 4 | .latched => 5 | .disabled => 6)
  | 0x0C => some (s.currentLimit c)
  | 0x0D => some (s.inService c).length
  | _ => none

def PhaseState.code : PhaseState → Nat
  | .off => 0
  | .starting => 1
  | .run => 2
  | .hiccup => 3
  | .latched => 4
  | .tempStop => 5
  | .burstIdle => 6

/-- The status word of a phase (Table 5-11). -/
def State.phaseStatus (s : State) (p : Fin 20) : Nat :=
  let x := s.phase p
  let mace := s.md.pins.maceOut
  bitsOf [x.switching && mace, !mace, x.truncLast, x.limitedLast, decide (x.state = .hiccup), x.rejoin && x.switching,
    decide (x.state = .burstIdle), x.tempWarn, decide (x.state = .tempStop), decide (x.state = .latched)]

def phaseView (s : State) (p : Fin 20) (sub : Nat) : Option Int :=
  match sub with
  | 0x01 => some (s.phase p).state.code
  | 0x02 => some (s.phaseStatus p)
  | 0x03 => some (match convOf p with | .feed => 0 | .storage => 1)
  | _ => none

/-- Status of a sense channel (0x3200+c.10): OPEN, invalid, in use as partner. -/
def State.chanStatus (s : State) (c : Fin 48) : Nat :=
  bitsOf [(s.chan c).open_, !s.chanValid c,
    allChans.any (fun d : Fin 48 => (s.chan d).switched && decide (s.partner d = some c))]

def SelRec.byte (r : SelRec) : Nat := r.winner + bitsOf [false, false, false, r.tie, r.hi, r.lo, false, true]

def coreView (s : State) (n : Fin 4) (sub : Nat) : Option Int :=
  let c := s.core n
  match sub with
  | 0x01 => some (match c.state with | .stopped => 0 | .loading => 1 | .running => 2 | .faulted => 3)
  | 0x03 => some ((c.prog.map (·.id)).getD 0 : Nat)
  | 0x04 => some ((c.prog.map (·.version)).getD 0 : Nat)
  | 0x08 => some (match c.pendState with | .empty => 0 | .loading => 1 | .admitted => 2 | .refused => 3)
  | 0x0A => some ((c.prog.map (·.mainWorst)).getD 0 : Nat)
  | 0x0B => some ((c.prog.map (·.handlerWorst)).getD 0 : Nat)
  | 0x0D => some (match c.prog with | some p => bitsOf [p.hasHandler, p.hasHold] | none => 0)
  | 0x14 => some (((c.selRecs.filter (fun e => decide (e.1 < 4))).map (fun e => e.2.byte * 256 ^ e.1)).sum : Nat)
  | 0x16 => some (((c.gates.filter (fun e => decide (e.1 < 4))).map (fun e => toUnsigned 16 e.2 * 65536 ^ e.1)).sum : Nat)
  | 0x18 => some (match c.hold with | .closed => 0 | .open_ => 1 | .release => 2)
  | 0x1A => some c.held.length
  | _ => none

/-- Word in force at the coefficient address (0x4200+n.02). -/
def coefView (s : State) (n : Fin 4) (sub : Nat) : Option Int :=
  if sub = 2 then some ((s.core n).coefI (s.getN (K.coefCoefficientAddress n))) else none

def queueView (s : State) (q sub : Nat) : Option Int :=
  let x := s.queue q
  match sub with
  | 0x01 => some (if s.getN (K.queueMaximumCells q) = 0 then 0 else if x.high then 2 else 1)
  | 0x02 => some x.occ
  | 0x03 => some x.items.length
  | _ => none

/-- Link state of a port (0x1100+p.02): a link that is down shows 2 while there is no cage. -/
def portView (s : State) (p : Fin 2) (sub : Nat) : Option Int :=
  if sub = 2 ∧ s.get (K.portLinkState p) = 0 ∧ !s.md.pins.cages[p].present then some 2 else none

/-- The security detectors (Table 19-1). -/
def securityDetector (code : Nat) : Bool :=
  decide (code / 256 = 8) || [0x060A, 0x0626, 0x0627, 0x0710].contains code

def injView (s : State) (i sub : Nat) : Option Int :=
  match sub with
  | 0x01 => some (match s.inj.points.find? (fun p => decide (p.code = injCode i)) with
      | some p => if p.continuous then 2 else 1
      | none => 0)
  | 0x04 => some (if Dict.stimulus.contains (injCode i) then 0 else 1)
  | 0x08 => some (if securityDetector (injCode i) then 1 else 0)
  | _ => none

/-- A numeric object that shows typed state. -/
def State.viewNum (s : State) (k : Nat) : Option Int :=
  let i := k / 256
  let sub := k % 256
  if i = 0x3001 then convView s .feed sub
  else if i = 0x3002 then convView s .storage sub
  else if h : 0x1100 ≤ i ∧ i < 0x1102 then portView s ⟨i - 0x1100, by omega⟩ sub
  else if h : 0x3100 ≤ i ∧ i < 0x3114 then phaseView s ⟨i - 0x3100, by omega⟩ sub
  else if h : 0x3200 ≤ i ∧ i < 0x3230 then (if sub = 0x10 then some (s.chanStatus ⟨i - 0x3200, by omega⟩ : Nat) else none)
  else if h : 0x4100 ≤ i ∧ i < 0x4104 then coreView s ⟨i - 0x4100, by omega⟩ sub
  else if h : 0x4200 ≤ i ∧ i < 0x4204 then coefView s ⟨i - 0x4200, by omega⟩ sub
  else if h : 0x7100 ≤ i ∧ i < 0x7118 then
    if sub = 0x0A then some (match (s.tray ⟨i - 0x7100, by omega⟩).holdShare with
      | some e => (min 65535 (rheNat (e.2 - s.now) ms) : Nat)
      | none => 0) else none
  else if 0x8200 ≤ i ∧ i < 0x8400 then queueView s (i - 0x8200) sub
  else if 0xF400 ≤ i ∧ i < 0xFF00 then injView s (i - 0xF400) sub
  else (s.singleViews.lookup k).map (fun v : Nat => (v : Int))

/-! ### Byte strings -/

def u16s (l : List Nat) : List Byte := l.flatMap (leBytes 2)

/-- ASCII text (R380). -/
def ascii (t : String) : List Byte := t.toList.map (fun c => BitVec.ofNat 8 c.toNat)

/-- An entry of the trim log (0xF121), trims in 5 mV units (Table 2-13) (DESIGN CHOICE, notes/assumptions/70). -/
def TrimEntry.bytes (e : TrimEntry) : List Byte :=
  leBytes 8 e.ft ++ leBytes 1 e.group ++ leBytes 1 (toUnsigned 8 (e.old / 5)) ++ leBytes 1 (toUnsigned 8 (e.new / 5)) ++
  leBytes 1 e.lowest ++ leBytes 4 0

/-- An entry of the schedule view (0x2340): state 0 on the die, 1 in GDDR7 (DESIGN CHOICE, notes/assumptions/69). -/
def SchedClove.bytes (e : SchedClove) : List Byte :=
  e.clove.bytes ++ leBytes 8 e.arrival ++ leBytes 1 (if e.onDie then 0 else 1) ++ leBytes 15 0

/-- An admission report (R181). -/
def coreReportBytes (l : List ReportEntry) : List Byte :=
  [0x10] ++ leBytes 1 l.length ++ leBytes 6 0 ++ (l.take 7).flatMap (fun e =>
    leBytes 1 e.reason ++ leBytes 1 e.part ++ leBytes 2 e.addr ++ leBytes 2 e.requested ++ leBytes 2 e.limit)

/-- The 4,096 bytes of a journal record (Table 11-2) (DESIGN CHOICE, notes/assumptions/70). -/
def JournalRec.bytes (r : JournalRec) : List Byte :=
  let head := [0x10] ++ leBytes 1 (bitsOf [r.atHalt, r.afterRest]) ++ leBytes 2 r.cells ++ leBytes 4 r.seq ++ leBytes 8 r.ft ++
    leBytes 4 r.hours ++ leBytes 2 r.soc ++ leBytes 2 r.sigma ++ leBytes 8 r.lastRest ++ leBytes 4 (toUnsigned 32 r.offset) ++
    leBytes 8 r.throughput ++ leBytes 4 r.tests ++ leBytes 16 0
  let body := padTo 4092 (head ++ u16s r.caps ++ u16s r.ress ++ u16s r.socs)
  body ++ leBytes 4 (crc32 body).toNat

/-- An entry of the loan table (0x7011) (DESIGN CHOICE, notes/assumptions/70). -/
def Loan.bytes (l : Loan) : List Byte :=
  leBytes 2 l.peer ++ leBytes 1 (if l.lent then 1 else 0) ++ leBytes 1 (if l.up then 0 else 1) ++ leBytes 4 l.slice ++
  leBytes 8 l.start ++ leBytes 8 l.ret ++ leBytes 4 l.seq ++ leBytes 4 0

/-- An entry of the link-state view (0x2220) (DESIGN CHOICE, notes/assumptions/70 and 118). -/
def State.linkStateBytes (s : State) (e : LinkState) : List Byte :=
  leBytes 2 e.node ++ leBytes 2 (min 65535 (rheNat (s.now - e.heard) ms)) ++ leBytes 4 e.seq.toNat ++ u16s e.peers.toList ++
  leBytes 56 0

/-- An entry of the session table (0x1200.03) (DESIGN CHOICE, notes/assumptions/70). -/
def Session.bytes (x : Session) : List Byte :=
  leBytes 4 x.id ++ leBytes 1 x.role ++ leBytes 1 x.port ++ leBytes 1 x.version ++ [0] ++ leBytes 2 x.msgSize ++ leBytes 6 0 ++
  leBytes 16 x.peer ++ leBytes 2 x.peerUdp ++ leBytes 6 0 ++ leBytes 8 x.openedAt ++ leBytes 8 x.lastSeen ++
  leBytes 2 x.keepalive ++ leBytes 1 x.streams.length ++ leBytes 1 (if x.mask = 0 then 0 else 1) ++ leBytes 4 0

/-- An entry of the injection log (R479) (DESIGN CHOICE, notes/assumptions/70). -/
def InjEntry.bytes (e : InjEntry) : List Byte :=
  leBytes 8 e.ft ++ leBytes 2 e.code ++ leBytes 1 e.mode ++ leBytes 1 (if e.report then 1 else 0) ++ leBytes 4 e.subject ++
  leBytes 4 e.recNo ++ leBytes 4 e.seq ++ leBytes 8 0

/-- The snapshot list trigger 0 starts with (Table 16-1). -/
def firstSnapshots : List Byte :=
  [0x300003, 0x300101, 0x300201, 0x30010C, 0x30020C, 0x32280E, 0x322B0E, 0x480002, 0x620002, 0x700002, 0xF16001].flatMap
    (fun k => leBytes 2 (k / 256) ++ leBytes 1 (k % 256) ++ [0])

/-- Throttle times of a chip by reason (0x7200+c.0F) (DESIGN CHOICE, notes/assumptions/70). -/
def State.throttleBytes (s : State) (c : Nat) : List Byte :=
  (List.range 9).flatMap (fun r => leBytes 8 (Sparse.get zeroDflt s.rack.throttleTime (c * 16 + r + 1)).toNat)

/-- A map of bits, the first in bit 0 of byte 0. -/
def mapBytes (n : Nat) (p : Nat → Bool) : List Byte :=
  (List.range n).map (fun i => BitVec.ofNat 8 (bitsOf ((List.range 8).map (fun b => p (8 * i + b)))))

/-- Byte-string objects of one instance that show typed state. The trim log shows its newest entry first
(DESIGN CHOICE, notes/assumptions/70). -/
def State.singleBlobs (s : State) (sess : Nat) : List (Nat × List Byte) := [
  (K.trimTrimLog, s.md.trimLog.flatMap TrimEntry.bytes),
  (K.cloveScheduleView, (s.clv.schedule.take 32).flatMap SchedClove.bytes),
  (K.engineCloveRegisters, s.card.prevRegs.toList.flatMap (fun r => leBytes 4 r.toNat)),
  (K.journalJournalView, (s.soc.newest.map JournalRec.bytes).getD []),
  (K.socCellCapacities, u16s (s.cellsIn.map (fun k => (s.cell k).cap))),
  (K.socCellResistances, u16s (s.cellsIn.map (fun k => rheNat (s.cell k).res 1000000))),
  (K.socCellStatesOfCharge, u16s (s.cellsIn.map (fun k => (percent2 (s.socOf k)).toNat))),
  (K.ledgerLoanTable, s.rack.loans.flatMap Loan.bytes),
  (K.fabLinkStateView, s.fab.database.flatMap s.linkStateBytes),
  (K.identVendor, ascii "Bungedel"), (K.identProduct, ascii "SCM-960"), (K.identStepping, ascii "A"),
  (K.identOrderingCode, ascii "SCM960-LQA"),
  (K.identIdentityCertificateHash, Config.sha256 (s.getBytes K.secIdentityCertificate 2048)),
  (K.sessSessionTable, s.host.sessions.flatMap Session.bytes),
  (K.recRecords, (List.range 32).flatMap (fun i => s.recordBytes (((s.session? sess).map (·.cursor)).getD 0 + i))),
  (K.recNewestRecord, s.recordBytes (s.getN K.recNewestNumber)),
  (K.attestNonce, (s.quoteOf sess).nonce),
  (K.attestQuote, (s.quoteOf sess).quote.getD []),
  (K.attestMeasurementRegisters, s.cry.regs.toList.flatMap id),
  (K.attestMeasurementLog, s.cry.log.flatMap id),
  (K.updAntiRollbackCounters, leBytes 4 s.md.fwCounter ++ leBytes 4 s.cry.programCounter ++ leBytes 4 s.cry.modelCounter),
  (K.injCtlPointsArmedMap, s.inj.points.flatMap (fun p => leBytes 2 p.code ++ [0, 0])),
  (K.injCtlInjectionLog, (s.inj.log.take 128).flatMap InjEntry.bytes)]

/-- Byte-string objects of a core: admission report, win counts, held words, state memory, output ports. -/
def State.coreBlob (s : State) (n : Fin 4) (k : Nat) : Option (List Byte) :=
  let c := s.core n
  if k = K.coreAdmissionReport n then some (coreReportBytes c.report)
  else if k = K.coreSelectorWinCounts n then
    some ((List.range 32).flatMap (fun j => leBytes 4 (toUnsigned 32 (c.winCounts.get zeroDflt j))))
  else if k = K.coefHeldWordsView n then
    some (c.held.flatMap (fun e => leBytes 2 e.1 ++ [0, 0] ++ leBytes 4 (toUnsigned 32 e.2)))
  else if k = K.coreStateMemory n then some ((List.range 512).flatMap (fun m => leBytes 8 (toUnsigned 64 (c.viewSm.get zeroDflt m))))
  else if k = K.coreOutputPorts n then
    some ((List.range 64).flatMap (fun p => leBytes 4 (toUnsigned 32 (c.viewPorts.get zeroDflt p))))
  else if k = K.coefCoefficientBlock n then
    some ((List.range 1024).flatMap (fun a => leBytes 4 (toUnsigned 32 (c.coefI a))))
  else none

/-- A byte-string object that shows typed state. -/
def State.viewBytes (s : State) (sess k : Nat) : Option (List Byte) :=
  let i := k / 256
  let sub := k % 256
  if h : 0x4100 ≤ i ∧ i < 0x4500 ∧ i % 256 < 4 then s.coreBlob ⟨i % 256, h.2.2⟩ k
  else if h : 0x6101 ≤ i ∧ i < 0x6121 then
    let u := s.cunit ⟨i - 0x6101, by omega⟩
    if sub = 0x07 then some (u16s u.cells.toList)
    else if sub = 0x09 then some (u.temps.toList.flatMap (fun t => leBytes 2 (toUnsigned 16 t)))
    else none
  else if h : 0x7040 ≤ i ∧ i < 0x7080 then
    if sub = 0x07 then
      let members := s.members ⟨i - 0x7040, by omega⟩
      some (mapBytes 24 (fun c => members.contains c && s.chipThrottled c))
    else none
  else if 0x7200 ≤ i ∧ i < 0x72C0 then (if sub = 0x0F then some (s.throttleBytes (i - 0x7200)) else none)
  else if k = K.trigSnapshotList 0 ∧ (findBytes s.blobs k).isNone then some firstSnapshots
  else (s.singleBlobs sess).lookup k

/-! ### Reading -/

/-- Objects that keep a value per session. -/
def State.sessionNum (s : State) (sess k : Nat) : Option Int :=
  if k = K.attestRegisterMask then some (s.quoteOf sess).mask
  else if k = K.recReadCursor then some (((s.session? sess).map (·.cursor)).getD 0 : Nat)
  else none

/-- Value of a numeric object as a session reads it (DESIGN CHOICE, notes/assumptions/71; DEDUCED, notes/assumptions/99). -/
def State.readNum (s : State) (sess k : Nat) : Int :=
  match s.sessionNum sess k with
  | some v => v
  | none => (s.viewNum k).getD (s.get k)

/-- Bytes of an object on the wire, as a session reads it (R380). -/
def State.readBytes (s : State) (sess k : Nat) : List Byte :=
  match Dict.row? k with
  | none => []
  | some r =>
    if r.ty.isBytes then padTo r.ty.bytes ((s.viewBytes sess k).getD (s.getBytes k r.ty.bytes))
    else leBytes r.ty.bytes (toUnsigned (8 * r.ty.bytes) (s.readNum sess k))

end Sys2Proof.Machine
end

