-- ==== Sys2Proof/Machine/Recorder.lean ====
section
/-! DEFINITION. The event recorder's commands (spec/16). -/

namespace Sys2Proof.Machine

/-! ### Causes and records (R407 to R414) -/

/-- Codes that are only ever a status (R391, R407). -/
def statusOnly (c : Nat) : Bool :=
  decide (c = Cause.objectUnknown) || (decide (Cause.accessMode ≤ c) && decide (c ≤ Cause.busy)) || decide (c = Cause.injectionRefused)

/-- CAUSE_RAISED (R407): a cause with its subject and values. -/
def execCauseRaised (cause : BitVec 16) (subj : BitVec 32) (vals : BitVec 96) (s : State) : Out :=
  .next (if statusOnly cause.toNat then s else s.raise cause.toNat ⟨subj, vals⟩)

/-- Entries of a snapshot list: the keys of its first n objects (0x8410+k.05). -/
def snapshotKeys : Nat → List Byte → List Nat
  | 0, _ => []
  | n + 1, l => (wordAt l 0 2 * 256 + wordAt l 2 1) :: snapshotKeys n (l.drop 4)

/-- The objects trigger k snapshots; 255 has none (R409). -/
def State.snapshotsOf (s : State) (k : Nat) : List Nat :=
  if k < 64 then snapshotKeys (s.getN (K.trigSnapshotCount k)) (s.readBytes 0 (K.trigSnapshotList k)) else []

/-- Build a staged entry into a record, with its trigger's snapshots (R410, R412) (DESIGN CHOICE, notes/assumptions/79). -/
def State.buildRecord (e : StagedCause) (s : State) : State :=
  let keys := s.snapshotsOf e.trigger
  s.writeRecord e (keys.flatMap (s.readBytes 0)) keys.length (decide (e.ft + ms < s.ft / 1000 * 1000))

/-- The ring has room: a record not yet flushed is never overwritten (R415). -/
def State.ringRoom (s : State) : Bool :=
  decide (s.rcd.ring.length < 16384) || (match lastOf s.rcd.ring with | some r => r.flushed | none => true)

/-- RECORDER_EVENTS_LOST takes an entry that frees (R414): the recorder stages it itself, so it is never a repeat. -/
def State.sayLost (s : State) : State :=
  if s.rcd.lostCount = 0 ∨ 64 ≤ s.rcd.staging.length then s
  else
    let c := Cause.recorderEventsLost
    let a := args0 [(s.rcd.lostCount, 4), (s.rcd.lostFirst, 4), (s.rcd.lostLast, 4)]
    let t := s.triggerFor c
    let s := s.modRcd (fun r => { r with lostCount := 0, lostFirst := 0, lostLast := 0 })
    let s := match t with | some k => s.inc (K.trigMatches k) | none => s
    (s.stage { cause := c, ft := s.ft, args := a, trigger := t.getD 255
               flush := (t.map (fun k => s.getB (K.trigFlushOnRecord k))).getD false, repeats := 0, lastRepeatUs := 0 }).preparePush
      (newPush c s.ft a none)

/-- RECORD_BUILD (R410 to R416): the oldest staged entry becomes a record. `offered`: a cause is offered in the same cycle,
and the entry that frees goes to it (DESIGN CHOICE, notes/assumptions/79). -/
def execRecordBuild (offered : Bool) (s : State) : Out :=
  match s.rcd.staging with
  | [] => .next s
  | e :: rest =>
    if !s.ringRoom then .next s
    else
      let s := (s.buildRecord e).modRcd (fun r => { r with staging := rest })
      let s := s.when e.flush (State.startFlush .trigger)
      let s := s.when (decide (8192 ≤ s.rcd.unflushed)) (State.startFlush .background)
      .next (s.when (!offered) State.sayLost)

/-! ### Clearing (R419) -/

/-- Distinct record numbers held. -/
def State.heldRecords (s : State) : Nat :=
  let old := s.getN K.recOldestNumber
  let mram := s.rcd.mram.map (·.number)
  ((mram ++ (s.rcd.ring.map (·.number)).filter (fun n => !mram.contains n)).filter (fun n => decide (old ≤ n))).length

/-- The clear: the oldest number held moves past the newest, the ring empties, RECORDER_CLEARED is written and flushed. -/
def State.clearRecords (w : ClearWaiting) (s : State) : State :=
  let removed := s.heldRecords
  let old := s.getN K.recOldestNumber
  let s := s.modRcd (fun r => { r with ring := [], mram := [], clearWaiting := none })
  let s := (s.put K.recOldestNumber (s.getN K.recNewestNumber + 1 : Nat)).inc K.recClears
  let a := args w.sess [(w.role, 1), (0, 3), (removed, 4), (old, 4)]
  let t := s.triggerFor Cause.recorderCleared
  let s := match t with | some k => s.inc (K.trigMatches k) | none => s
  let s := s.preparePush (newPush Cause.recorderCleared s.ft a none)
  (s.buildRecord { cause := Cause.recorderCleared, ft := s.ft, args := a, trigger := t.getD 255, flush := false, repeats := 0
                   lastRepeatUs := 0 }).startFlush .clear

/-- A write of Clear: role S, or E with the recorder-clear privilege. -/
def State.clearWrite (sess : Nat) (s : State) : State × Nat :=
  let role := s.roleOf sess
  if !role.testBit 3 then (s.raiseDenied sess K.recClear .write).refuse Cause.accessDenied
  else if s.rcd.flush.isSome then (s.modRcd (fun r => { r with clearWaiting := some { sess := sess, role := role } })).ok
  else (s.clearRecords { sess := sess, role := role }).ok

/-- RECORDER_CLEAR (R419). -/
def execRecorderClear (sess : Nat) (s : State) : Out :=
  .next (s.hostWrite K.recClear (oneByte sess 1) (fun _ s => s.clearWrite sess))

/-! ### Flushing (R416) -/

/-- RECORDER_FLUSH: the flush in progress copies what is unflushed. -/
def execRecorderFlush (s : State) : Out := .next (if s.rcd.flush.isSome then s.flushRing else s)

/-- RECORDER_FLUSH_DONE: the flush ends; a clear that waited follows (R419), and so do the reset of R452 and
the last steps of halting (R78). -/
def execRecorderFlushDone (s : State) : Out :=
  if s.rcd.flush.isSome ∧ s.flushOver then
    let s := s.modRcd (fun r => { r with flush := none })
    let s := match s.rcd.clearWaiting with | some w => s.clearRecords w | none => s
    .next s.afterError.haltStep
  else .next s

/-! ### Triggers (R408) -/

/-- Objects and widths a snapshot list may hold: every object present, at most 8 bytes wide, at most 204 bytes in all. -/
def snapshotsFit (keys : List Nat) : Bool :=
  let widths := keys.map (fun k => match Dict.row? k with | some r => r.ty.bytes | none => 9)
  widths.all (fun n => decide (n ≤ 8)) && decide (widths.sum ≤ 204)

/-- A write of a trigger's snapshot list or count: the list in force with it must fit, and the session must be able to read
every object of it. -/
def State.snapshotWrite (sess k n : Nat) (l : List Byte) (f : State → State) (s : State) : State × Nat :=
  let keys := snapshotKeys n l
  if 28 < n ∨ !snapshotsFit keys then s.refuse Cause.valueOutOfRange
  else if keys.any (fun o => match Dict.row? o with | some r => decide (r.acc = .wo) || !mayRead (s.roleOf sess) r.roles | none => false) then
    (s.raiseDenied sess k .write).refuse Cause.accessDenied
  else (f s).ok

end Sys2Proof.Machine
end

