-- ==== Sys2Proof/Machine/PortOps.lean ====
section
/-! DEFINITION. What Ethernet ports and self-diagnosis do for other chapters (spec/14, R370; spec/17, R436). -/

namespace Sys2Proof.Machine

/-- An Ethernet port's link goes down (R370). -/
def State.portDown (p : Fin 2) (s : State) : State :=
  if s.get (K.portLinkState p) = 1 then (s.put (K.portLinkState p) 0).raiseOn Cause.portLinkDown p else s

/-- A port's link returns: duplicate address detection repeats (R370), a neighbour solicitation of ICMPv6. -/
def State.portReturns (p : Fin 2) (s : State) : State :=
  if s.getB (K.portEnable p) ∧ s.get (K.portLinkState p) ≠ 1 then
    ((s.put (K.portLinkState p) 1).raiseOn Cause.portLinkUp p).send (.ethernet p 135 [])
  else s

/-- The port that carries a session. -/
def State.portOf (s : State) (sess : Nat) : Nat := ((s.session? sess).map (·.port)).getD 255

/-- A write of a port's Enable: 0 is refused for the port that carries the request (DESIGN CHOICE, notes/assumptions/72). -/
def State.portEnableWrite (p : Fin 2) (sess : Nat) (v : Int) (s : State) : State × Nat :=
  if v = 0 ∧ s.portOf sess = p.val then s.refuse Cause.valueOutOfRange
  else
    let s := s.put (K.portEnable p) v
    (if v = 0 then s.portDown p else s).ok

/-- Lowest condition of Table 17-4 among bits. -/
def lowestBit (bits : Nat) : Nat := ((List.range 7).find? (fun b => bits.testBit b)).getD 0

/-- An active module whose self-diagnosis fails by some conditions: it hands over to a hot partner, or keeps the mace and
says so once (R436). -/
def State.releaseSelfDiag (bits : Nat) (s : State) : State :=
  if !s.md.pins.maceOut || s.pair.handover.isSome then s
  else if s.partnerReady then
    (s.raiseOn Cause.maceReleasedSelfDiag (lowestBit bits)).startHandover .stay
  else if s.pair.noTakerSaid then s
  else (s.modPair (fun p => { p with noTakerSaid := true })).raise0 Cause.selfDiagNoTaker

/-- Self-diagnosis with conditions beyond those that hold (R433, R436). -/
def State.selfDiag (more : Nat) (s : State) : State :=
  let s := s.diagnose
  let bits := s.diagBits ||| more
  if bits = 0 then s.modPair (fun p => { p with noTakerSaid := false })
  else
    let s := (s.put K.healthSelfDiagnosis bits).modPins (fun p => { p with okOut := false })
    if s.md.pins.maceOut then s.releaseSelfDiag bits else s.armClaim false

end Sys2Proof.Machine
end

