-- ==== Sys2Proof/Machine/Power.lean ====
section
/-! DEFINITION. Meanings of the power stage commands (spec/05). -/

namespace Sys2Proof.Machine

/-- The carrier boundary of a phase: its period ends (limited and truncated flags move on, R136, R140), what waits for the
boundary takes effect (R129, R143, R146, R147, R425), and the pulse of the next period is formed. A fault input that stays
asserted limits that one too (DESIGN CHOICE, notes/assumptions/112). -/
def State.phaseBoundary (p : Fin 20) (s : State) : State :=
  let x := s.phase p
  let c := convOf p
  let held := s.faultHeld p
  let s := s.when x.limitedNow (fun s =>
    (s.inc (K.phaseLimitedPeriods p)).modConv c (fun y => { y with limitedAt := some s.now }))
  let x := { x with limitedLast := x.limitedNow, limitedRun := if x.limitedNow then x.limitedRun + 1 else 0,
                    limitedNow := held, cut := held, faultAt := none,
                    truncLast := x.truncNow, truncNow := s.truncated p }
  match x.pend with
  | .start => (s.setPhase p { x with pend := .none, switching := true, since := s.now }).preBias p false
  | .release => (s.setPhase p { x with pend := .none, switching := true }).beginPulse p
  | .resume =>
    (match c with
     | .feed => s.setPhase p { x with pend := .none, state := .run, switching := true }
     | .storage => s.setPhase p x).beginPulse p
  | .stop => s.setPhase p (if x.state = .latched ∨ x.state = .tempStop then { x with pend := .none } else x.toOff)
  | .takeOut => (s.setPhase p x).phaseOut p
  | .tempStop => s.setPhase p { x.toOff with state := .tempStop }
  | .rejoin =>
    -- the first boundary with the phase in its slot enables the outputs (Table 5-7, third row)
    if s.getN (K.phaseInterleaveOffset p) ≠ s.slot p then s.setPhase p x
    else (s.setPhase p { x with state := .starting, pend := .none, switching := true, since := s.now }).preBias p true
  | .none =>
    -- an ordinary start becomes RUN at the end of its first complete period (R129)
    if x.state = .starting ∧ x.switching ∧ !x.retry ∧ !x.rejoin then
      ((s.setPhase p { x with state := .run }).put (K.phaseTrimWeight p) 32767).beginPulse p
    else (s.setPhase p x).beginPulse p

/-- Every phase of the feed converter in one state goes to another, its outputs on or off. -/
def State.feedPhases (was will : PhaseState) (on : Bool) (s : State) : State :=
  s.each (phasesOf .feed) (fun p s => s.when (decide ((s.phase p).state = was))
    (State.modPhase p (fun x => { x with state := will, switching := on })))

/-- A feed burst packet at a carrier boundary of the converter (R134): it begins there, runs whole periods, at least 4, until
the bus reaches the reference plus the band, and 64 periods end the burst. -/
def State.packetBoundary (s : State) : State :=
  match (s.conv .feed).packet with
  | none => s
  | some n =>
    let s := s.modConv .feed (fun x => { x with packet := some (n + 1) })
    if n = 0 then s.feedPhases .burstIdle .run true
    else if 64 ≤ n then s.burstExit .feed
    else if 4 ≤ n ∧ s.get K.busReferenceInForce + s.get (K.convBurstBand 0) ≤ s.busMilli then
      (s.feedPhases .run .burstIdle false).modConv .feed (fun x => { x with packet := none })
    else s

/-- CARRIER_BOUNDARY (R113, R114): of the converter's master counter, where the converter stops and the next period is drawn,
or of one of its phases. -/
def execCarrierBoundary (c : Conv) (p : Option (Fin 20)) (s : State) : Out :=
  match p with
  | some p => .next (if convOf p = c then s.phaseBoundary p else s)
  | none =>
    let s := s.when (s.conv c).stopPend (State.convOff c)
    let s := (s.drawPeriod c).placeOffsets c
    .next (match c with | .feed => s.packetBoundary | .storage => s)

/-- COMPARE_UPDATE (R116, R118, R119): at counter value pos of a phase. At an update point of the mode the shadow value is
taken, except in the CTL cycle of a fault (R144); a shift moves by at most PER/8 per half period; an on-time moves the
edges of the pulse. -/
def execCompareUpdate (p : Fin 20) (pos : Nat) (s : State) : Out :=
  let x := s.phase p
  let c := convOf p
  let per := (s.conv c).period
  let mode := s.getN (K.convUpdateMode c.idx)
  let edge := decide (pos = 0) || decide (pos = per / 2)
  let point := decide (pos = 0) || (decide (mode = 1) && edge) || decide (mode = 2)
  let fault := match x.faultAt with | some f => decide (ctlCycle f = ctlCycle pos) | none => false
  let taken := point && !fault
  let goal := if taken then x.shadow else x.goal
  let resumes := taken && decide (c = .storage) && decide (x.pend = .resume)
  let s := s.modPhase p (fun x => { x with
    goal := goal, follow := if taken then s.faultHeld p else x.follow
    pend := if resumes then .none else x.pend, state := if resumes then .run else x.state
    switching := x.switching || resumes })
  let cur := s.getN (K.phaseCommandInForce p)
  match c with
  | .feed => .next (if edge then s.put (K.phaseCommandInForce p)
      (if cur ≤ goal then min goal (cur + per / 8) else max goal (cur - per / 8)) else s)
  | .storage =>
    if !taken then .next s
    else
      let w := newPulse (s.getN (K.phaseMinimumPulse p)) (per / 2) pos (x.xOn, x.xOff) (dutyWindow per goal)
      let s := s.put (K.phaseCommandInForce p) goal
      .next (s.when (!(x.cut || s.truncated p)) (State.modPhase p (fun x => { x with xOn := w.1, xOff := w.2 })))

/-- FAULT_INPUT (R44, R136): an edge of a fast fault input, its TB stamp, and the carrier counts there. An unmasked assertion
limits the pulse of every phase that takes it, or stops the phase. -/
def execFaultInput (j : Fin 20) (asserted : Bool) (at_ : Carriers) (stamp : Nat) (s : State) : Out :=
  let bit := 1#20 <<< j.val
  let s := s.modPow (fun w => { w with
    faultIn := if asserted then w.faultIn ||| bit else w.faultIn &&& ~~~bit, faultStamp := w.faultStamp.set j stamp })
  if !asserted || (s.getN K.faultFaultInputMask).testBit j.val then .next s
  else .next (s.each (allPhases.filter (fun p : Fin 20 => decide (s.getN (K.phaseFaultInput p) = j.val))) (fun p s =>
    let pos := s.position at_ p
    let s := s.modPhase p (fun x => { x with limitedNow := true, faultAt := some pos })
    if s.get (K.phaseFaultAction p) = 0 then
      match convOf p with
      | .feed => s.modPhase p (fun x => { x with follow := true })
      | .storage => s.modPhase p (fun x => { x.endPulse pos with cut := true })
    else s.when (s.phase p).state.live (State.enterHiccup p)))

/-- PHASE_HICCUP (R137): the set number of consecutive limited periods is complete. -/
def execPhaseHiccup (p : Fin 20) (s : State) : Out :=
  let x := s.phase p
  let c := convOf p
  if (x.state = .run ∨ x.state = .starting) ∧ s.getN (K.convLimitedPeriodsToHiccup c.idx) ≤ x.limitedRun then
    .next ((s.when ((s.conv c).soft.isSome && !(s.conv c).softHeld) (fun s =>
      (s.modConv c (fun y => { y with softHeld := true })).raiseOn Cause.softStartHeld c.idx)).enterHiccup p)
  else .next s

/-- PHASE_RETRY (R137, R132): the off time has passed; a pre-biased start, and an abandoned ramp restarts. -/
def execPhaseRetry (p : Fin 20) (s : State) : Out :=
  let x := s.phase p
  let c := convOf p
  if x.state = .hiccup ∧ x.since + s.getN (K.convHiccupOffTime c.idx) * ms ≤ s.now ∧ (s.conv c).on then
    let s := (s.modPhase p (fun y => { y with
      state := .starting, pend := if y.rejoin then .rejoin else .start, retry := true, limitedRun := 0, since := s.now })).put
      (K.phaseTrimWeight p) 0
    let first := decide ((s.conv c).soft = none) && (s.inService c).all (fun q => !(s.phase q).state.live || decide (q = p))
    let s := s.modConv c (fun y => { y with stopRule := if y.stopRule = some .trip then none else y.stopRule })
    .next (s.when first (State.softStart c))
  else .next s

/-- PHASE_RETRY_OK (R137): the retry clear time without HICCUP; only a retry records it. -/
def execPhaseRetryOk (p : Fin 20) (s : State) : Out :=
  let x := s.phase p
  if (x.state = .run ∨ x.state = .starting) ∧ x.switching ∧
      x.since + s.getN (K.convRetryClearTime (convOf p).idx) * ms ≤ s.now then
    let s := s.put (K.phaseRetryFailures p) 0
    if x.retry then
      let s := s.modPhase p (fun y => { y with retry := false, state := if y.rejoin then y.state else .run })
      .next ((s.when (!x.rejoin) (State.put (K.phaseTrimWeight p) 32767)).raiseOn Cause.phaseRetryOk p)
    else .next s
  else .next s

/-- CONV_SHORT_CIRCUIT (R138): one protection sample at or beyond the threshold. -/
def execConvShortCircuit (c : Conv) (s : State) : Out :=
  match s.shortChan c with
  | none => .next s
  | some k =>
    let i := s.milli k (s.get (K.chanProtectionSample k))
    if s.get (K.convShortCircuitThreshold c.idx) ≤ i.natAbs ∧ (s.conv c).on then
      .next ((s.raise Cause.convShortCircuit (args c.idx [(toUnsigned 32 i, 4)])).tripConv c)
    else .next s

/-- OVERLOAD_COMPARE (R139), every 1 ms. -/
def execOverloadCompare (c : Conv) (s : State) : Out :=
  let x := s.conv c
  let mean := if x.sumCount = 0 then 0 else (rheDiv x.sumMilli x.sumCount).natAbs
  let above := decide (s.getN (K.convContinuousRating c.idx) < mean)
  let tenths := if above then x.overTenths + 10 else x.overTenths - 1
  let full := decide (s.getN (K.convShortTimeDuration c.idx) * 10 ≤ tenths)
  let begins := full && !x.overClamp
  let clamp := if tenths = 0 then false else x.overClamp || full
  let run := if s.getN (K.convShortTimeRating c.idx) < mean then x.overRun + 1 else 0
  let trips := decide (100 ≤ run)
  let s := s.setConv c { x with sumMilli := 0, sumCount := 0, overTenths := tenths, overClamp := clamp,
                                overRun := if trips then 0 else run }
  let s := s.put (K.convOverloadAccumulator c.idx) (rheDiv tenths 10)
  let s := s.when begins (State.raiseOn Cause.convOverloadLimit c.idx)
  .next (if trips then (s.raiseOn Cause.convOverloadTrip c.idx).tripConv c else s)

/-- Action 1 of a channel (R122, R123): SENSE_LIMIT once per episode. -/
def State.senseLimit (c : Fin 48) (q : Int) (s : State) : State :=
  let x := s.chan c
  let hi := decide (s.get (K.chanProtectionHigh c) < q)
  let lo := decide (q < s.get (K.chanProtectionLow c))
  let beyond := if hi || lo then x.beyond + 1 else 0
  let inside := if hi || lo then 0 else x.inside + 1
  let n := s.getN (K.chanProtectionCount c)
  let fires := !x.limited && decide (n ≤ beyond)
  let limited := if fires then true else if decide (n ≤ inside) then false else x.limited
  let s := s.modChan c (fun y => { y with beyond := beyond, inside := inside, limited := limited })
  s.when fires (State.raise Cause.senseLimit (args c [(if hi then 1 else 0, 1)]))

/-- The bus protection sample in mV as R490 qualifies it: the partner stands for an OPEN or a lone suspect channel. -/
def State.busProtection (s : State) : Option Int :=
  match s.chanWithAction 2 with
  | none => none
  | some c =>
    let own := s.milli c (s.get (K.chanProtectionSample c))
    match s.partner c with
    | none => some own
    | some d =>
      let other := s.milli d (s.get (K.chanProtectionSample d))
      if !s.chanValid c && s.chanValid d then some other
      else if (s.chan c).suspect && !(s.chan d).suspect && s.chanValid d then some other
      else some own

/-- The converters that truncation acts on (R140). -/
def State.truncatable (s : State) : List (Fin 20) :=
  allPhases.filter (fun p => s.getB (K.convTruncationEnable (convOf p).idx))

/-- Truncation begins: every pulse ends at once, and none begins while it lasts (R140). -/
def State.truncBegin (at_ : Carriers) (s : State) : State :=
  (s.modPow (fun w => { w with truncating := true, truncRelease := 0 })).each s.truncatable (fun p s =>
    s.modPhase p (fun x => { (if convOf p = .storage then x.endPulse (s.position at_ p) else x) with truncNow := true }))

/-- Truncation ends: a pulse whose turn-on has not been passed will begin (R140). -/
def State.truncEnd (at_ : Carriers) (s : State) : State :=
  (s.modPow (fun w => { w with truncating := false, truncRelease := 0 })).each s.truncatable (fun p s =>
    let w := dutyWindow (s.conv (convOf p)).period (s.getN (K.phaseCommandInForce p))
    s.when (decide (convOf p = .storage) && !(s.phase p).cut && decide ((s.phase p).xOff = 0) &&
        decide (s.position at_ p < w.1)) (State.modPhase p (fun x => { x with xOn := w.1, xOff := w.2 })))

/-- Truncation (R140). -/
def State.truncation (mv : Int) (at_ : Carriers) (s : State) : State :=
  if s.pow.truncating then
    if mv < s.get K.busTruncationRelease then
      if 2 ≤ s.pow.truncRelease + 1 then s.truncEnd at_
      else s.modPow (fun w => { w with truncRelease := w.truncRelease + 1 })
    else s.modPow (fun w => { w with truncRelease := 0 })
  else if s.get K.busTruncationThreshold ≤ mv then
    ((s.truncBegin at_).inc K.busTruncations).raise Cause.busTruncation (args0 [(mv.toNat, 4)])
  else s

/-- Over-voltage trip (R141): two consecutive samples turn both converters off; the third trip within 60 s latches. -/
def State.overVoltage (mv : Int) (s : State) : State :=
  let run := if s.get K.busOverVoltageTrip ≤ mv then s.pow.ovRun + 1 else 0
  let s := s.modPow (fun w => { w with ovRun := run })
  if run = 2 then
    let trips := s.now :: s.pow.ovTrips.filter (fun t => decide (s.now ≤ t + 60 * sec))
    let s := s.each convs (fun c s => (s.convOff c).modConv c (fun x => { x with stopRule := some .busOv }))
    let s := s.modPow (fun w => { w with ovTrips := trips, ovWaiting := true, busLow := 0 })
    let s := (s.inc K.busOverVoltageTrips).raise Cause.busOvervoltage (args0 [(mv.toNat, 4)])
    if 3 ≤ trips.length then (s.put K.busOverVoltageLatch 1).raise0 Cause.busOvLatched else s
  else s

/-- Four modulator bits reach a channel and its protection path is evaluated (R122, R124); the samples of an OPEN channel are
held (R125). -/
def State.protectChan (bits : Vector (BitVec 4) 48) (c : Fin 48) (s : State) : State :=
  let s := s.modChan c (fun x => ((List.range 4).map (fun i => bits[c].getLsbD i)).foldl (ChanSt.receive s.now) x)
  if (s.chan c).open_ then s
  else
    let q := s.protectionPath c
    let s := (s.put (K.chanProtectionSample c) q.1).when q.2 (State.inc (K.chanSaturations c))
    s.when (decide (s.getN (K.chanProtectionAction c) = 1) && decide (s.getN (K.chanFunction c) ≠ 0)) (State.senseLimit c q.1)

/-- PROTECTION_SAMPLE (R122 to R125, R140, R141, R490), every 4 modulator clocks: the bits received since the last one, the
earliest in bit 0, and the carrier counts (DESIGN CHOICE, notes/assumptions/112). -/
def execProtectionSample (bits : Vector (BitVec 4) 48) (at_ : Carriers) (s : State) : Out :=
  let s := s.each allChans (State.protectChan bits)
  match s.busProtection with
  | none => .next s
  | some mv => .next ((s.truncation mv at_).overVoltage mv)

/-- BUS_OV_RESTART (R141): the bus has stayed below 840 V for 10 ms and no latch stands (DEDUCED, notes/assumptions/12). -/
def execBusOvRestart (s : State) : Out :=
  if s.pow.ovWaiting ∧ 10000 ≤ s.pow.busLow ∧ !s.getB K.busOverVoltageLatch then
    .next ((s.modPow (fun w => { w with ovWaiting := false })).startWaiting
      (convs.filter (fun c => decide ((s.conv c).stopRule = some .busOv))))
  else .next s

/-- Writing 1 clears the over-voltage latch, and 0 changes nothing (R141, R12). The trips before it no longer count towards a
third within 60 s (DESIGN CHOICE, notes/assumptions/112). -/
def State.ovClear (v : Int) (s : State) : State × Nat :=
  if v = 1 then ((s.put K.busOverVoltageLatch 0).modPow (fun x => { x with ovTrips := [] })).ok else s.ok

/-- OV_LATCH_CLEAR (R141, R12). -/
def execOvLatchClear (sess : Nat) (s : State) : Out :=
  .next (s.hostWrite K.busOverVoltageLatch (oneByte sess 1) State.ovClear)

/-- BUS_UNDERVOLTAGE (R141): 100 ticks below the report level, or 100 ticks at or above it
(DESIGN CHOICE, notes/assumptions/20). -/
def execBusUndervoltage (s : State) : Out :=
  if !s.pow.uvInForce ∧ 100 ≤ s.pow.uvLow then
    .next ((s.modPow (fun w => { w with uvInForce := true })).raise Cause.busUndervoltage (args0 [(s.busMilli.toNat, 4)]))
  else if s.pow.uvInForce ∧ 100 ≤ s.pow.uvHigh then .next (s.modPow (fun w => { w with uvInForce := false }))
  else .next s

/-- The feed converter stops at its carrier boundary (R142). -/
def State.feedStop (cause : Nat) (s : State) : State :=
  let x := s.conv .feed
  if x.on && (x.stopRule.isNone || decide (x.stopRule = some .trip)) then
    (s.stopConv .feed .feed).raise cause (args0 [(s.feedMilli.toNat, 4)])
  else s

/-- FEED_UNDERVOLTAGE (R142): below the low level for 1 ms. -/
def execFeedUndervoltage (s : State) : Out :=
  .next (s.when (decide (1000 ≤ s.pow.feedLow)) (State.feedStop Cause.feedUndervoltage))

/-- FEED_OVERVOLTAGE (R142): above the high level for 100 µs. -/
def execFeedOvervoltage (s : State) : Out :=
  .next (s.when (decide (100 ≤ s.pow.feedHigh)) (State.feedStop Cause.feedOvervoltage))

/-- FEED_RESTART (R142, R129): the feed has stayed within its window for the restart delay. -/
def execFeedRestart (s : State) : Out :=
  if s.getN K.feedFeedRestartDelay * 1000 ≤ s.pow.feedOk ∧
      ((s.conv .feed).stopRule = some .feed ∨ (s.conv .feed).waitFeed) then .next s.tryFeed
  else .next s

/-- PHASE_TEMP_SHUTDOWN (R143): at or above the shutdown level for 3 consecutive ticks. -/
def execPhaseTempShutdown (p : Fin 20) (s : State) : Out :=
  let x := s.phase p
  if 3 ≤ x.tempRun ∧ x.inService ∧ x.state ≠ .latched ∧ x.state ≠ .tempStop ∧ x.pend ≠ .tempStop then
    .next ((s.tempStop p).raise Cause.phaseTempShutdown (args p [(toUnsigned 16 (s.phaseTemp p), 2)]))
  else .next s

/-- PHASE_TEMP_RESTART (R143): a phase in TEMP_STOP has cooled to its restart level and rejoins under R147. -/
def execPhaseTempRestart (p : Fin 20) (s : State) : Out :=
  if (s.phase p).state = .tempStop ∧ s.phaseTemp p ≤ s.get (K.phaseTemperatureRestart p) then
    .next ((s.bringBack p).raise Cause.phaseTempRestart (args p [(toUnsigned 16 (s.phaseTemp p), 2)]))
  else .next s

/-- SENSE_SUSPECT (R490): the latest 16 modulator bits of a channel are identical. -/
def execSenseSuspect (c : Fin 48) (s : State) : Out :=
  .next (s.modChan c (fun x => { x with suspect := decide (16 ≤ x.run) }))

/-- With no valid partner an OPEN channel stops what it serves (R125). -/
def State.senseLost (c : Fin 48) (s : State) : State :=
  match s.getN (K.chanProtectionAction c) with
  | 2 => s.each convs (fun k s => s.stopConv k .sense)
  | 4 => if s.getN (K.chanFunction c) = 6 then s.stopConv .storage .sense else s.stopConv .feed .sense
  | 5 => s.stopConv .feed .sense
  | _ =>
    s.each (allPhases.filter (fun p : Fin 20 => decide (s.getN (K.phaseCurrentChannel p) = c.val) ||
        decide (s.getN (K.phaseTemperatureChannel p) = c.val))) (fun p s =>
      if (s.phase p).state = .latched then s
      else if (s.phase p).switching then s.modPhase p (fun x => { x with pend := .takeOut })
      else s.when ((s.phase p).inService) (State.phaseOut p))

/-- SENSE_OPEN (R125): 128 identical modulator bits; the partner takes over, or the channel's user stops. -/
def execSenseOpen (c : Fin 48) (s : State) : Out :=
  if s.getN (K.chanFunction c) = 0 ∨ (s.chan c).open_ ∨ (s.chan c).run < 128 then .next s
  else
    let s := (s.modChan c (fun x => { x with open_ := true })).raiseOn Cause.senseOpen c
    match s.partner c with
    | some d =>
      if s.chanValid d then
        .next ((s.modChan c (fun x => { x with switched := true })).raise Cause.senseSwitched (args c [(d, 1)]))
      else .next (s.senseLost c)
    | none => .next (s.senseLost c)

/-- SENSE_OPEN_CLEAR (R125): 10 ms without such a run; a converter stopped for the channel restarts under R129. -/
def execSenseOpenClear (c : Fin 48) (s : State) : Out :=
  if (s.chan c).open_ ∧ (s.chan c).run < 128 ∧ (s.chan c).runAt + 10 * ms ≤ s.now then
    let s := s.modChan c (fun x => { x with open_ := false, switched := false })
    .next (s.startWaiting (convs.filter (fun k => decide ((s.conv k).stopRule = some .sense) && !s.senseMissing k)))
  else .next s

/-- CONVERTERS_START (R129): on the mace holder, and after a protection stop. -/
def execConvertersStart (s : State) : Out := .next s.startConverters

/-- STORAGE_CONVERTER_START (R129, R131). -/
def execStorageConverterStart (s : State) : Out := .next s.tryStorage

/-- A write of Enable (R491): 0 stops the converter at its carrier boundary, 1 lets it start. -/
def State.enableWrite (c : Conv) (v : Int) (s : State) : State × Nat :=
  let s := s.put (K.convEnable c.idx) v
  if v = 0 then (s.modConv c (fun x => { x with stopPend := x.on, waitFeed := false, waitBus := false })).ok else s.ok

/-- CONVERTER_ENABLE_WRITE (R491). -/
def execConverterEnableWrite (c : Conv) (w : HostWrite) (s : State) : Out :=
  .next (s.hostWrite (K.convEnable c.idx) w (State.enableWrite c))

/-- VOLTAGE_TARGET_WRITE (R126). -/
def execVoltageTargetWrite (w : HostWrite) (s : State) : Out :=
  .next (s.hostWrite K.busVoltageTarget w (fun v s => (s.setTarget v s.ft false).ok))

/-- BURST_ENTER (R133, R134): not within 100 µs of a limited period (R144). -/
def execBurstEnter (c : Conv) (s : State) : Out :=
  let x := s.conv c
  let limited := (s.inService c).any (fun p => (s.phase p).limitedNow) ||
    (match x.limitedAt with | some t => decide (s.now < t + 100 * us) | none => false)
  let can := x.on && !x.burst && x.soft.isNone && s.getB (K.convBurstEnable c.idx) && !limited
  let due := match c with
    | .storage => decide (100 ≤ x.burstRun)
    | .feed => decide (s.pow.feedAvg < s.get (K.convBurstEntry 0)) && (s.conv .storage).burst
  .next (s.when (can && due) (State.burstEnter c))

/-- BURST_EXIT (R133, R134): a condition that ends burst holds; leaving storage burst also ends feed burst. -/
def execBurstExit (c : Conv) (s : State) : Out :=
  if s.burstOver c then
    let s := s.burstExit c
    .next (match c with | .storage => s.burstExit .feed | .feed => s)
  else .next s

/-- FEED_BURST_PACKET (R134): the bus is below the reference minus the band; a packet begins at the next boundary. -/
def execFeedBurstPacket (s : State) : Out :=
  if (s.conv .feed).burst ∧ (s.conv .feed).packet = none ∧
      s.busMilli < s.get K.busReferenceInForce - s.get (K.convBurstBand 0) then
    .next (s.modConv .feed (fun x => { x with packet := some 0 }))
  else .next s

/-- SHARE_TRIM of one converter (R145). -/
def State.shareTrim (c : Conv) (s : State) : State :=
  let running := (phasesOf c).filter (fun p => decide ((s.phase p).state = .run))
  if running.isEmpty then s
  else
    let mean := rheDiv (running.foldl (fun a p => a + s.phaseCurrent p) 0) running.length
    let tmax := s.get (K.convShareTrimLimit c.idx)
    let g := s.get (K.convShareGain c.idx)
    s.each ((phasesOf c).filter (fun p => decide ((s.phase p).state = .run) || decide ((s.phase p).state = .starting)))
      (fun p s' =>
        let t := clampInt (-tmax) tmax (s.get (K.phaseTrim p) + rheDiv (g * (mean - s.phaseCurrent p) * phaseCount c) (s.getN (K.convContinuousRating c.idx)))
        let there := decide (t.natAbs = tmax.natAbs)
        (s'.put (K.phaseTrim p) t).modPhase p (fun x => { x with
          trimLimited := x.trimLimited && there, limitSince := if there then some (x.limitSince.getD s.now) else none }))

/-- SHARE_TRIM (R145), every 100 µs. -/
def execShareTrim (s : State) : Out := .next (s.each convs State.shareTrim)

/-- SHARE_TRIM_AT_LIMIT (R145): a trim has stayed at its limit for 1 s. -/
def execShareTrimAtLimit (p : Fin 20) (s : State) : Out :=
  let t := s.get (K.phaseTrim p)
  let long := match (s.phase p).limitSince with | some a => decide (a + sec ≤ s.now) | none => false
  if long && !(s.phase p).trimLimited then
    .next ((s.modPhase p (fun x => { x with trimLimited := true })).raise Cause.shareTrimAtLimit
      (args p [(toUnsigned 16 t, 2)]))
  else .next s

/-- TAKE_OUT of a phase (R146, Table 5-5): at once in HICCUP or a retry, with the failure count cleared; LATCHED is
unaffected. -/
def State.takeOut (p : Fin 20) (s : State) : State :=
  let x := s.phase p
  if x.state = .latched then s
  else if x.state = .hiccup ∨ x.retry then (s.put (K.phaseRetryFailures p) 0).phaseOut p
  else if x.switching then s.modPhase p (fun y => { y with pend := .takeOut })
  else s.phaseOut p

/-- The first blocking condition of R148, 0 without one. -/
def State.bringBackBlocked (s : State) (p : Fin 20) : Nat :=
  let ok := fun c : Nat => if h : c < 48 then s.chanValid ⟨c, h⟩ else false
  if (s.phase p).state = .latched then Cause.phaseLatched
  else if s.get (K.phaseTemperatureRestart p) < s.phaseTemp p then Cause.phaseTempShutdown
  else if !(ok (s.getN (K.phaseCurrentChannel p)) && ok (s.getN (K.phaseTemperatureChannel p))) then Cause.senseOpen
  else if (s.phase p).state ≠ .off then Cause.functionRunning
  else if !s.getB (K.convEnable (convOf p).idx) then Cause.valueOutOfRange
  else 0

/-- PHASE_REJOINED (R147): the blend time has ended. -/
def execPhaseRejoined (p : Fin 20) (s : State) : Out :=
  let x := s.phase p
  if x.rejoin ∧ x.state = .starting ∧ x.switching ∧
      x.since + s.getN (K.convBlendTime (convOf p).idx) * ms ≤ s.now then
    .next (((s.modPhase p (fun y => { y with state := .run, rejoin := false, retry := false, inService := true })).put
      (K.phaseTrimWeight p) 32767).raiseOn Cause.phaseRejoined p)
  else .next s

/-- CLEAR_LATCH of a phase (R137). -/
def State.clearLatch (p : Fin 20) (s : State) : State :=
  (s.modPhase p (fun x => { x.toOff with inService := false })).put (K.phaseRetryFailures p) 0

/-- The service commands of a phase (R137, R146 to R148): 1 TAKE_OUT, 2 BRING_BACK, 3 CLEAR_LATCH. -/
def State.serviceCommand (p : Fin 20) (v : Int) (s : State) : State × Nat :=
  if v = 1 then (s.takeOut p).ok
  else if v = 2 then (if s.bringBackBlocked p = 0 then (s.bringBack p).ok else s.refuse (s.bringBackBlocked p))
  else if (s.phase p).state = .latched then (s.clearLatch p).ok
  else s.refuse Cause.valueOutOfRange

/-- TAKE_OUT (R146). -/
def execTakeOut (p : Fin 20) (sess : Nat) (s : State) : Out :=
  .next (s.hostWrite (K.phaseServiceCommand p) (oneByte sess 1) (State.serviceCommand p))

/-- BRING_BACK (R147, R148). -/
def execBringBack (p : Fin 20) (sess : Nat) (s : State) : Out :=
  .next (s.hostWrite (K.phaseServiceCommand p) (oneByte sess 2) (State.serviceCommand p))

/-- CLEAR_LATCH (R137): refused for a phase that is not LATCHED. -/
def execClearLatch (p : Fin 20) (sess : Nat) (s : State) : Out :=
  .next (s.hostWrite (K.phaseServiceCommand p) (oneByte sess 3) (State.serviceCommand p))

/-! ### The power stage's part of a tick (R19) -/

/-- One soft-start step per tick: the feed reference in µV at mV/ms, the storage limit in µA at mA/ms (R130 to R132). -/
def State.softTick (c : Conv) (s : State) : State :=
  match (s.conv c).soft with
  | none => s
  | some v =>
    if s.rampHeld c then
      if (s.conv c).softHeld then s
      else (s.modConv c (fun x => { x with softHeld := true })).raiseOn Cause.softStartHeld c.idx
    else
      let v' := v + s.getN (K.convSoftStartRate c.idx)
      let top := match c with
        | .feed => s.getN K.busVoltageTarget * 1000
        | .storage => capBy (s.limitOtherwise .storage * 1000) s.pow.taperCap
      let s := s.modConv c (fun x => { x with softHeld := false, soft := if top ≤ v' then none else some v' })
      match c with
      | .storage => s
      | .feed =>
        let r := if top ≤ v' then top else v'
        let s := (s.modPow (fun w => { w with refMicro := r })).put K.busReferenceInForce ((r / 1000 : Nat) : Int)
        s.showAtTarget.when (decide (top ≤ v')) (State.raiseOn Cause.softStartDone c.idx)

/-- The reference in force moves by the slew rate, outside a soft start (R127); 0x3000.03 shows its whole mV
(DESIGN CHOICE, notes/assumptions/112). -/
def State.refTick (s : State) : State :=
  if (s.conv .feed).soft.isSome then s
  else
    let target := s.get K.busVoltageTarget * 1000
    let r := slewRef s.pow.refMicro target (s.get K.busSlewRate)
    ((s.modPow (fun w => { w with refMicro := r.toNat })).put K.busReferenceInForce (r / 1000)).showAtTarget

/-- Temperatures of a phase (R143): the warning once per episode, the run at or above shutdown. -/
def State.tempTick (p : Fin 20) (s : State) : State :=
  let x := s.phase p
  if !x.inService || decide (x.state = .latched) then s
  else
    let t := s.phaseTemp p
    let warn := decide (s.get (K.phaseTemperatureWarning p) ≤ t)
    let run := if s.get (K.phaseTemperatureShutdown p) ≤ t then x.tempRun + 1 else 0
    let s := s.setPhase p { x with tempWarn := warn, tempRun := run }
    s.when (warn && !x.tempWarn) (State.raise Cause.phaseTempWarning (args p [(toUnsigned 16 t, 2)]))

/-- The trim weight rises linearly over the blend time (R147) (DESIGN CHOICE, notes/assumptions/19). -/
def State.blendTick (p : Fin 20) (s : State) : State :=
  let x := s.phase p
  if x.rejoin && decide (x.state = .starting) && x.switching then
    let span := s.getN (K.convBlendTime (convOf p).idx) * ms
    s.put (K.phaseTrimWeight p) (min 32767 (rheDiv (32767 * (s.now - x.since) : Nat) span))
  else s

/-- Sample a channel's control path over the bits received; an OPEN channel holds its last valid value (R121, R124, R125). -/
def State.sampleTick (c : Fin 48) (s : State) : State :=
  if (s.chan c).open_ then s
  else
    let q := s.controlPath c
    (s.put (K.chanControlSample c) q.1).when q.2 (State.inc (K.chanSaturations c))

/-- Counters that the tick advances: under-voltage, feed window, over-voltage release, overload means, burst run, feed
power average (R133, R134, R139, R141, R142) (DESIGN CHOICE, notes/assumptions/20; DEDUCED, notes/assumptions/41). -/
def State.powerCounters (s : State) : State :=
  let bus := s.busMilli
  let feed := s.feedMilli
  let low := decide (bus < s.get K.busUnderVoltageReport)
  let w := s.pow
  let iFeed := s.controlMilli 44
  let power := rheDiv (bus * iFeed) 1000000
  let block := decide (10000 ≤ w.feedCount + 1)
  let s := s.modPow (fun w => { w with
    uvLow := if low then w.uvLow + 1 else 0
    uvHigh := if low then 0 else w.uvHigh + 1
    busLow := if bus < 840000 then w.busLow + 1 else 0
    feedLow := if feed < s.get K.feedFeedStopLow then w.feedLow + 1 else 0
    feedHigh := if s.get K.feedFeedStopHigh < feed then w.feedHigh + 1 else 0
    feedOk := if s.feedInWindow then w.feedOk + 1 else 0
    feedSum := if block then 0 else w.feedSum + power
    feedCount := if block then 0 else w.feedCount + 1
    feedAvg := if block then rheDiv (w.feedSum + power) 10000 else w.feedAvg })
  let s := s.each convs (fun c s =>
    match s.shortChan c with
    | some k => s.modConv c (fun x => { x with sumMilli := x.sumMilli + s.controlMilli k, sumCount := x.sumCount + 1 })
    | none => s)
  s

/-- The power stage at a tick boundary, before Cardamom evaluates. -/
def State.powerTick (s : State) : State :=
  let s := s.each allChans State.sampleTick
  let s := s.powerCounters.burstTick
  let s := s.each allPhases State.tempTick
  let s := s.each allPhases State.blendTick
  let s := (s.softTick .feed).softTick .storage
  s.refTick

end Sys2Proof.Machine
end

