-- ==== Sys2Proof/Machine/Injection.lean ====
section
/-! DEFINITION. Detectors and injection points (spec/19). -/

namespace Sys2Proof.Machine

/-! ### Stimuli (R472): the condition of each cause treated as met for its subject -/

/-- Apply to a subject in range; a subject out of range names nothing. -/
def onFin (n subj : Nat) (f : Fin n → State → State) (s : State) : State := if h : subj < n then f ⟨subj, h⟩ s else s

def onConv (subj : Nat) (f : Conv → State → State) (s : State) : State :=
  match subj with
  | 0 => f .feed s
  | 1 => f .storage s
  | _ => s

/-- Stimuli of the power stages (0x01). -/
def State.stimulatePower (code subj : Nat) (s : State) : State :=
  match code with
  | 0x0101 => onFin 20 subj (fun p s => s.when (s.phase p).state.live (fun s =>
      outState (execPhaseHiccup p (s.modPhase p (fun x => { x with
        limitedRun := s.getN (K.convLimitedPeriodsToHiccup (convOf p).idx) }))) s)) s
  | 0x0102 => onFin 20 subj (fun p s => s.when (s.phase p).state.live (fun s =>
      (s.modPhase p (fun x => { x with retry := true })).enterHiccup p)) s
  | 0x0104 => onFin 20 subj (fun p s => s.when (s.phase p).state.live (fun s =>
      (s.put (K.phaseRetryFailures p) (s.get (K.convRetryLimit (convOf p).idx))).enterHiccup p)) s
  | 0x0105 => onConv subj (fun c s => s.when (s.conv c).on (fun s => (s.raiseOn Cause.convShortCircuit c.idx).tripConv c)) s
  | 0x0106 => onConv subj (fun c s => s.when (!(s.conv c).overClamp) (fun s =>
      (s.modConv c (fun x => { x with overTenths := s.getN (K.convShortTimeDuration c.idx) * 10, overClamp := true })).raiseOn
        Cause.convOverloadLimit c.idx)) s
  | 0x0107 => onConv subj (fun c s => s.when (s.conv c).on (fun s => (s.raiseOn Cause.convOverloadTrip c.idx).tripConv c)) s
  | 0x0108 => s.when (!s.pow.truncating) (State.truncation (s.get K.busTruncationThreshold) ⟨s.pow.feed.carrier, s.pow.storage.carrier⟩)
  | 0x0109 => (s.modPow (fun w => { w with ovRun := 1 })).overVoltage (s.get K.busOverVoltageTrip)
  | 0x010A => s.when (!s.getB K.busOverVoltageLatch) (fun s =>
      (s.modPow (fun w => { w with ovRun := 1, ovTrips := [s.now, s.now] })).overVoltage (s.get K.busOverVoltageTrip))
  | 0x010B => outState (execBusUndervoltage (s.modPow (fun w => { w with uvLow := 100 }))) s
  | 0x010C => s.feedStop Cause.feedUndervoltage
  | 0x010D => s.feedStop Cause.feedOvervoltage
  | 0x010E => onFin 20 subj (fun p s => s.when (!(s.phase p).tempWarn) (fun s =>
      (s.modPhase p (fun x => { x with tempWarn := true })).raise Cause.phaseTempWarning
        (args p [(toUnsigned 16 (s.phaseTemp p), 2)]))) s
  | 0x010F => onFin 20 subj (fun p s => outState (execPhaseTempShutdown p (s.modPhase p (fun x => { x with tempRun := 3 }))) s) s
  | 0x0111 => onFin 48 subj (fun c s => outState (execSenseOpen c (s.modChan c (fun x => { x with run := 128, runAt := s.now }))) s) s
  | 0x011B => onFin 48 subj (fun c s => s.when (!(s.chan c).limited) (fun s =>
      (s.modChan c (fun x => { x with limited := true })).raise Cause.senseLimit (args c [(1, 1)]))) s
  | _ => s

/-- Stimuli of the package (0x01E0). -/
def State.stimulatePackage (code subj : Nat) (s : State) : State :=
  match code with
  | 0x01E8 => onFin 9 subj (fun g s => s.when (!s.md.trimDegraded.getLsbD g.val) (fun s =>
      (s.modMd (fun m => { m with trimDegraded := m.trimDegraded ||| (1#9 <<< g.val) })).raiseOn Cause.trimAtLimit g)) s
  | 0x01E9 => s.when (!s.md.junction.warning) (fun s =>
      (s.modJunction (fun j => { j with warning := true })).raise0 Cause.junctionWarning)
  | 0x01EA => s.when (!s.md.junction.high100) (fun s =>
      ((s.modJunction (fun j => { j with high100 := true })).raise0 Cause.junctionHigh).safLater)
  | 0x01EB => s.when (!s.md.junction.critical) (fun s =>
      (s.modJunction (fun j => { j with critical105 := true })).sayCritical (args0 []))
  | 0x01ED => s.raise0 Cause.coolantFlowLow
  | 0x01EE => s.raise0 Cause.coolantInletHigh
  | _ => s

/-- Stimuli of Cardamom and Saffron (0x02, 0x03). -/
def State.stimulateEngines (code subj : Nat) (s : State) : State :=
  match code with
  | 0x0201 => onFin 4 subj (fun n s => outState (execCardamomOverrun n s) s) s
  | 0x0203 => onFin 4 subj (fun n s => outState (execCardamomMemCorrected n s) s) s
  | 0x0204 => onFin 4 subj (fun n s => outState (execCardamomMemUncorrectable n s) s) s
  | 0x020C => onFin 4 subj (fun n s =>
      (s.modCore n (fun c => { c with accSats := c.accSats + 1, satRecordedAt := none })).settle n) s
  | 0x0301 => outState (execSaffronFastOverrun (s.modSaf (fun x => { x with overSaid := none }))) s
  | 0x0303 => s.when s.slowImg.isSome (fun s =>
      ((s.inc K.safSlowOverruns).raise0 Cause.saffronSlowOverrun).setAge (s.getN K.safContextAge + 1))
  | 0x0305 => outState (execSaffronStreamError s) s
  | 0x0307 => s.setDiv 0 true
  | 0x0309 => onFin 192 subj (fun c s => s.when (!s.saf.untrusted.getLsbD c.val) (fun s =>
      (s.modSaf (fun x => { x with untrusted := x.untrusted ||| (1#192 <<< c.val) })).showTrust.raiseOn
        Cause.estimateUntrusted c)) s
  | 0x030B => onFin 64 subj (fun t s => outState (execSaffronTileFailed t false s) s) s
  | _ => s

/-- Stimuli of the cell chain (0x04): units are named by position, and the cell by the first byte of the values. -/
def State.stimulateChain (code pos cell : Nat) (s : State) : State :=
  let fresh := fun (u : Fin 32) (bit : Nat) (s : State) => !(s.getN (K.unitStatus u)).testBit bit
  if pos = 0 then s
  else onFin 32 (pos - 1) (fun u s =>
    match code with
    | 0x0403 => s.when (decide (s.unitStateOf u ≠ 1)) (fun s => ((s.put (K.unitState u) 1).raiseOn Cause.chainUnitMissing pos).showStale)
    | 0x0404 => s.when (decide (s.unitStateOf u = 3)) (fun s => ((s.raiseOn Cause.csuFirmwareLost pos).makeStale u).showStale)
    | 0x0406 => ((s.inc (K.unitAlerts u)).unitBit u 1 true).raiseOn Cause.csuAlert pos
    | 0x0407 => s.when (fresh u 3 s) (fun s => (s.raiseOn Cause.cellWarning pos).unitBit u 3 true)
    | 0x0408 => s.when (fresh u 4 s) (fun s => (s.raiseOn Cause.cellTempWarning pos).unitBit u 4 true)
    | 0x0409 => (s.unitBit u 5 true).startTrip u true true false
    | 0x040A => (s.unitBit u 6 true).startTrip u false false true
    | 0x0410 => s.when (fresh u 7 s) (fun s => ((s.raiseOn Cause.sumMismatch pos).unitBit u 7 true).orderTest u 3)
    | 0x0412 => onFin 17 cell (fun w s => s.when (!(s.cunit u).suspect.getLsbD w.val) (fun s =>
        (((s.modUnit u (fun y => { y with suspect := y.suspect ||| (1#17 <<< w.val) })).unitBit u 8 true).orderTest u 3).raise
          Cause.senseWireSuspect (args pos [(w, 1)]))) s
    | _ => s) s

/-- Stimuli of the rack and the fabric (0x05, 0x06). -/
def State.stimulateRack (code subj : Nat) (s : State) : State :=
  match code with
  | 0x0501 => onFin 24 subj (fun t s => s.when (decide (2 ≤ s.trayStateOf t)) (State.trayAbsent t)) s
  | 0x0506 => onFin 24 subj (fun t s => s.when (!s.trayStopped t) (State.coolantStop t (BitVec.ofNat 8 (s.getN (K.trayChipsPresent t))))) s
  | 0x0508 => onFin 192 subj (fun c s => s.raiseOn Cause.chipThrottle c) s
  | 0x0602 => s.when (decide (s.time.mode = .locked)) (State.enterTime .holdover)
  | 0x0607 => s.when (!s.time.ptp.ppsDropped) (fun s =>
      ((s.modTime (fun t => { t with ptp := { t.ptp with ppsDropped := true } })).raise0 Cause.ppsMismatch).chooseTime)
  | 0x060A => (s.cloveCount 0x08).raiseOn Cause.cloveTagBad subj
  | 0x0622 => onFin 32 subj (fun n s => s.when (s.linkUp n) (State.linkDown n 1)) s
  | 0x0627 => onFin 32 subj (fun n s => s.when (s.linkUp n) (fun s => (s.raiseOn Cause.linkTagBurst n).linkDown n 4)) s
  | _ => s

/-- Stimuli of the host ports, security, queues, pair and legacy table (0x07 to 0x0B). -/
def State.stimulateOther (code subj : Nat) (s : State) : State :=
  match code with
  | 0x0715 => onFin 2 subj State.portDown s
  | 0x0801 => outState (execCryptoSelfTestFailed s) s
  | 0x0803 => onFin 5 subj (fun i s => outState (execTamperDetected i s) s) s
  | 0x0901 => onFin 512 subj (fun q s => s.when (!(s.queue q).high) (fun s =>
      ((((s.setQueue { s.queue q with high := true }).inc (K.queueHighEpisodes q)).raiseOn Cause.queueHigh q).sendPfc q
        0xFFFF).driveXoff)) s
  | 0x0905 => s.when (!s.que.poolLow) (fun s =>
      (({ s with que := { s.que with poolLow := true } }).raise Cause.poolLow (args0 [(s.sharedFree, 4)])).driveXoff)
  | 0x0908 => onFin 512 subj (fun q s => (s.poisonFirst q).readErrors q 0 true) s
  | 0x0A04 => s.selfDiag (if subj < 7 then 2 ^ subj else 0)
  | 0x0B08 => s.when (decide (s.getN K.legacyState = 2) && decide (s.getN K.legacyActivationFT ≤ s.ft) && !s.leg.running) (fun s =>
      (s.put K.legacyState 1).raise0 Cause.legacyTimeInvalid)
  | _ => s

/-- A stimulus: the cause it stands for is raised under R477. -/
def State.stimulate (code subj : Nat) (vals : BitVec 96) (s : State) : State :=
  let s := { s with inj := { s.inj with live := some { code := code, subj := BitVec.ofNat 32 subj, vals := vals } } }
  let cell := vals.toNat / 65536 % 256
  let s := match code / 256 with
    | 1 => if code < 0x01E0 then s.stimulatePower code subj else s.stimulatePackage code subj
    | 2 => s.stimulateEngines code subj
    | 3 => s.stimulateEngines code subj
    | 4 => s.stimulateChain code subj cell
    | 5 => s.stimulateRack code subj
    | 6 => s.stimulateRack code subj
    | _ => s.stimulateOther code subj
  { s with inj := { s.inj with live := none } }

/-! ### Acting (R475, R477, R479) -/

/-- Bytes 4 to 15 of an injected cause: the detector's code, then the values (R477). -/
def State.injVals (s : State) (code : Nat) : BitVec 96 :=
  BitVec.ofNat 96 (code + 65536 * leNat (s.getBytes (K.injValues (injIndex code)) 10))

/-- Carry out a point's stimulus or report once. -/
def State.injectOnce (p : InjPoint) (s : State) : State :=
  let subj := s.getN (K.injSubject (injIndex p.code))
  if Dict.stimulus.contains p.code then s.stimulate p.code subj (s.injVals p.code)
  else s.raiseOwn (0x0F00 + p.code % 256) s.ft ⟨BitVec.ofNat 32 subj, s.injVals p.code⟩

/-- An action: counted, logged with the number of the record it joined, carried out (R477, R479). -/
def State.injectAction (p : InjPoint) (s : State) : State :=
  let i := injIndex p.code
  let e : InjEntry := {
    ft := s.ft, code := p.code, mode := if p.continuous then 2 else 1, report := !Dict.stimulus.contains p.code
    subject := s.getN (K.injSubject i), recNo := noRecord, seq := s.inj.seq + 1 }
  let before := s.rcd.ring.head?
  let s := (s.inc (K.injInjections i)).injectOnce p
  let joined := match s.rcd.ring.head? with
    | some r => if some r ≠ before ∧ r.cause = 0x0F00 + p.code % 256 then r.number else noRecord
    | none => noRecord
  { s with inj := { s.inj with seq := s.inj.seq + 1, log := ({ e with recNo := joined } :: s.inj.log).take 128 } }

/-- Change an armed point. -/
def State.modPoint (p : InjPoint) (f : InjPoint → InjPoint) (s : State) : State :=
  { s with inj := { s.inj with points := s.inj.points.map (fun q : InjPoint => if q.code = p.code then f q else q) } }

/-- A point at its boundary: its first action, after which ONCE ends; a continuous stimulus holds its condition met
(DESIGN CHOICE, notes/assumptions/76). -/
def State.injectAt (p : InjPoint) (s : State) : State :=
  if !s.injArmed p.code || decide (s.ft < p.nextAt) then s
  else if p.acted then (if Dict.stimulus.contains p.code then s.injectOnce p else s)
  else
    let s := s.injectAction p
    if !s.injArmed p.code then s
    else if p.continuous then
      s.modPoint p (fun q => { q with acted := true, nextAt := s.ft + s.getN (K.injPeriod (injIndex p.code)) * us })
    else s.disarm p

/-- INJECTION_ACT (R475, R476): SERVICE_EN must be high at the boundary (DESIGN CHOICE, notes/assumptions/76). -/
def execInjectionAct (s : State) : Out :=
  .next (if s.md.pins.serviceEn then s.each (s.inj.points.map (fun p : InjPoint =>
    if p.acted && Dict.stimulus.contains p.code then { p with nextAt := 0 } else p)) State.injectAt else s)

/-- INJECTION_REPORT_PERIOD (R475): a continuous report point raises its cause again every period
(DESIGN CHOICE, notes/assumptions/76). -/
def execInjectionReportPeriod (s : State) : Out :=
  .next (if s.md.pins.serviceEn then
    s.each (s.inj.points.filter (fun p : InjPoint => p.acted && decide (p.nextAt ≤ s.ft) && !Dict.stimulus.contains p.code))
      (fun p s => (s.injectAction p).modPoint p (fun q => { q with
        nextAt := p.nextAt + s.getN (K.injPeriod (injIndex p.code)) * us }))
    else s)

/-! ### Arming (R474, R476) -/

/-- A write of an arm object: 0 disarms, 1 ONCE, 2 CONTINUOUS. -/
def State.armWrite (code sess : Nat) (v : Int) (s : State) : State × Nat :=
  let subj := s.getN (K.injSubject (injIndex code))
  if v = 0 then (s.each (s.inj.points.filter (fun p : InjPoint => decide (p.code = code))) State.disarm).ok
  else if !s.md.pins.serviceEn || (securityDetector code && decide (s.getN K.secMode = 0)) ||
      (decide (code = 0x0715) && decide (subj = s.portOf sess)) then s.refuse Cause.injectionRefused
  else if s.injArmed code || decide (16 ≤ s.inj.points.length) then s.refuse Cause.busy
  else
    let at_ := s.getN (K.injStartFT (injIndex code))
    let p : InjPoint := { code := code, continuous := decide (v = 2), nextAt := if at_ = 0 then s.ft / 1000 * 1000 + 1000 else at_
                          acted := false }
    let s := { s with inj := { s.inj with points := s.inj.points ++ [p] } }
    (s.raise Cause.injectionArmed (args subj [(code, 2)])).ok

/-- INJECTION_ONCE. -/
def execInjectionOnce (i : Fin 2816) (sess : Nat) (s : State) : Out :=
  .next (s.hostWrite (K.injArm i) (oneByte sess 1) (State.armWrite (injCode i) sess))

/-- INJECTION_CONTINUOUS. -/
def execInjectionContinuous (i : Fin 2816) (sess : Nat) (s : State) : Out :=
  .next (s.hostWrite (K.injArm i) (oneByte sess 2) (State.armWrite (injCode i) sess))

/-- INJECTION_DISARM. -/
def execInjectionDisarm (i : Fin 2816) (sess : Nat) (s : State) : Out :=
  .next (s.hostWrite (K.injArm i) (oneByte sess 0) (State.armWrite (injCode i) sess))

/-- DISARM_ALL (R476): it needs no SERVICE_EN. -/
def execDisarmAll (sess : Nat) (s : State) : Out :=
  .next (s.hostWrite K.injCtlDisarmAll (oneByte sess 1) (fun _ s => s.disarmAll.ok))

/-- SERVICE_EN_LOW (R476). -/
def execServiceEnLow (s : State) : Out := .next (if s.md.pins.serviceEn then s else s.disarmAll)

end Sys2Proof.Machine
end

