-- ==== Sys2Proof/Machine/Resets.lean ====
section
/-! DEFINITION. Resets that flush the recorder first, and the command that ends a recovery (spec/03, R72, R73, R76, R79). -/

namespace Sys2Proof.Machine

/-! ### Host and fatal resets (R72, R73, R76) -/

/-- Every staged cause becomes a record, oldest first, and is copied to MRAM with the ring (R416). -/
def State.drain (s : State) : State :=
  let todo := s.rcd.staging
  let s := (s.modRcd (fun r => { r with staging := [] })).flushRing
  s.each todo (fun e s => (s.buildRecord e).flushRing)

/-- The ring is flushed before the reset begins (R73, R416). -/
def State.flushedReset (k : ResetKind) (s : State) : State := (s.startFlush .haltOrReset).drain.resetOrWait k

/-- A write of the reset command (R76): 1 RESET, 2 RESET_FORCE. A holder resets only through a handover to a hot partner. -/
def State.resetCommand (v : Int) (s : State) : State × Nat :=
  if v = 2 ∨ !s.md.pins.maceOut then (s.flushedReset .host).ok
  else if s.partnerReady then (s.startHandover .reset).ok
  else (s.raise0 Cause.shutdownRefused).refuse Cause.shutdownRefused

/-- HOST_RESET (R76). -/
def execHostReset (sess : Nat) (s : State) : Out := .next (s.hostWrite K.moduleResetCommand (oneByte sess 1) State.resetCommand)

/-- RESET_FORCE (R76). -/
def execResetForce (sess : Nat) (s : State) : Out := .next (s.hostWrite K.moduleResetCommand (oneByte sess 2) State.resetCommand)

/-- FIRMWARE_FATAL (R72, R73), while the firmware runs; in a main-loss sequence the reset waits (R31). -/
def execFirmwareFatal (s : State) : Out :=
  .next (if s.md.fwArmed ∧ !s.md.poweredOff then (if s.md.mainLoss then s.resetOrWait .fatal else s.flushedReset .fatal) else s)

/-! ### The end of a recovery (R79) -/

/-- RECOVERY_IMAGE_ACCEPTED (R79): the download is complete; its body hash decides. An accepted bank is VALID and preferred,
and a host reset follows (DESIGN CHOICE, notes/assumptions/102). -/
def execRecoveryImageAccepted (hashOk : Bool) (partsOk : BitVec 5) (s : State) : Out :=
  if s.md.mode = .recovery ∧ s.md.download.isSome then
    let b := s.md.downloadB
    if hashOk then
      let s := s.modBank b (fun x => { x with
        state := .valid, failedStarts := 0, hashOk := true
        parts := Vector.ofFn (fun i : Fin 5 => { x.parts[i] with headerOk := partsOk.getLsbD i }) })
      let s := (s.preferBank b).modMd (fun m => { m with download := none })
      .next ((s.recordInMram Cause.recoveryImageAccepted (args b.toNat [])).flushedReset .host)
    else .next ((s.modMd (fun m => { m with download := none })).send (.status Cause.imageBodyBad))
  else .next s

end Sys2Proof.Machine
end

