-- ==== Sys2Proof/Machine/Writes.lean ====
section
/-! DEFINITION. What a checked write does, for every object (spec/14, R382: the owning chapter's own checks and effect), and
REGISTER_WRITE. -/

namespace Sys2Proof.Machine

/-! ### Objects the tables hold against one another -/

/-- Objects that stay above another one: the object and the one below it (Notes of the object tables)
(DESIGN CHOICE, notes/assumptions/80). -/
def orderedPairs : List (Nat × Nat) := [
  (K.busTruncationThreshold, K.busTruncationRelease), (K.busOverVoltageTrip, K.busTruncationThreshold),
  (K.divErrorSetThreshold, K.divErrorClearThreshold), (K.limitCellWarningLow, K.limitCellTripLow),
  (K.limitCellTripHigh, K.limitCellWarningHigh), (K.limitTemperatureTrip, K.limitTemperatureWarning),
  (K.balStartThreshold, K.balStopThreshold), (K.rackGroupCapLifetime, K.rackGroupCapRefresh)]

/-- Those pairs, with each phase's temperature shutdown above its restart (Table 5-6). -/
def orderedWith (k : Nat) : List (Nat × Nat) :=
  if 0x3100 ≤ k / 256 ∧ k / 256 < 0x3114 then
    [(K.phaseTemperatureShutdown (k / 256 - 0x3100), K.phaseTemperatureRestart (k / 256 - 0x3100))]
  else orderedPairs

/-- Does a value keep its object's order with the objects it is paired with?  Both sides of a pair are held to it
(DESIGN CHOICE, notes/assumptions/80). -/
def State.keepsOrder (s : State) (k : Nat) (v : Int) : Bool :=
  (orderedWith k).all (fun p : Nat × Nat =>
    (!decide (p.1 = k) || decide (s.get p.2 < v)) && (!decide (p.2 = k) || decide (v < s.get p.1)))

/-- Values a row's range cannot say: an even storage carrier period of at least 26,668 (R113), no update mode 2 for feed
(Table 5-1), PCP codes 0 to 6 in bytes 0 to 2 (0x1100+p.09), tap codes 0 to 63 (0x2400+n.13), tamper actions 0 to 2
(0xA000.08) (DESIGN CHOICE, notes/assumptions/81). -/
def fieldsFit (k v : Nat) : Bool :=
  if k = K.convCarrierPeriod 1 then decide (26668 ≤ v) && decide (v % 2 = 0)
  else if k = K.convUpdateMode 0 then decide (v ≠ 2)
  else if k = K.portPCPMap 0 ∨ k = K.portPCPMap 1 then (List.range 3).all (fun i => decide (v / 256 ^ i % 256 ≤ 6))
  else if 0x2400 ≤ k / 256 ∧ k / 256 < 0x2420 ∧ k % 256 = 0x13 then
    (List.range 3).all (fun i => decide (v / 256 ^ i % 256 ≤ 63))
  else if k = K.secTamperActions then (List.range 4).all (fun i => decide (v / 4 ^ i % 4 ≤ 2))
  else true

/-- The bindings of protection actions to channels (R123): a write of an action must suit the channel's function and the other
holders, and a write of a function the action the channel holds. -/
def State.bindsFit (s : State) (k v : Nat) : Bool :=
  if h : 0x3200 ≤ k / 256 ∧ k / 256 < 0x3230 then
    let c : Fin 48 := ⟨k / 256 - 0x3200, by omega⟩
    if k % 256 = 0x0D then s.mayBind c v (s.getN (K.chanFunction c))
    else if k % 256 = 0x01 then s.mayBind c (s.getN (K.chanProtectionAction c)) v
    else true
  else true

/-- A write that only sets its object's value (DESIGN CHOICE, notes/assumptions/80). -/
def State.plainWrite (k : Nat) (b : List Byte) (v : Int) (s : State) : State × Nat :=
  match Dict.row? k with
  | some r =>
    if r.ty.isBytes then (s.putBytes k b).ok
    else if s.keepsOrder k v && fieldsFit k v.toNat && s.bindsFit k v.toNat then (s.put k v).ok
    else s.refuse Cause.valueOutOfRange
  | none => s.refuse Cause.objectUnknown

/-! ### Single objects -/

/-- A write of Close session (R377): an id that names no open session is refused. -/
def State.closeWrite (v : Int) (s : State) : State × Nat :=
  match s.session? v.toNat with
  | some x => (s.dropSession x.id).ok
  | none => s.refuse Cause.valueOutOfRange

/-- A write of the read cursor, which each session has its own of (R418). -/
def State.cursorWrite (sess : Nat) (v : Int) (s : State) : State × Nat :=
  (s.modSession sess (fun x => { x with cursor := v.toNat })).ok

/-- RETRY (R435): the attempts count from 0 again (DESIGN CHOICE, notes/assumptions/89). -/
def State.retryCatchUp (s : State) : State :=
  (s.put K.ckptCatchUpAttempts 0).modPair (fun p => { p with askedAt := none, loadedAt := none })

/-- A write that sets its object's value, and what shows at once what follows from it. -/
def State.writeAndShow (k : Nat) (b : List Byte) (v : Int) (show_ : State → State) (s : State) : State × Nat :=
  let r := s.plainWrite k b v
  (r.1.when (decide (r.2 = 0)) show_, r.2)

/-- Objects of one instance with an effect of their own. -/
def State.singleWrite (k : Nat) (w : HostWrite) (stamp : Nat) (v : Int) (s : State) : Option (State × Nat) :=
  match ([
    (K.moduleResetCommand, fun s => State.resetCommand v s), (K.moduleShutdownCommand, fun s => State.shutdownCommand v s),
    (K.bankBankRetry, fun s => State.bankRetry v s), (K.cloveCloveInject, fun s => State.inject w.bytes stamp s),
    (K.timeTimePriority, fun s => (((s.put K.timeTimePriority v).chooseTime).ok)),
    (K.timePinnedUpstream, fun s => (((s.put K.timePinnedUpstream v).chooseTime).ok)),
    (K.busVoltageTarget, fun s => (State.setTarget v stamp false s).ok), (K.busOverVoltageLatch, fun s => State.ovClear v s),
    (K.safEnable, fun s => State.enableSaffron v s), (K.safClearFailed, fun s => State.clearFailed v s),
    (K.safSlowTick, fun s => State.slowTickWrite v s), (K.divForceDivergence, fun s => State.forceDiv v s),
    (K.rotRotationEnable, fun s => State.rotationWrite v s), (K.loadCommand, fun s => State.loadCommandWrite v s),
    (K.chainSerialMap, fun s => State.acceptSerials s), (K.chainSweepRequest, fun s => (State.askSweep v.toNat stamp s).ok),
    (K.socEstimateReset, fun s => State.estimateReset s), (K.testTestCommand, fun s => State.testCommand v s),
    (K.quietQuietWindow, fun s => (State.openQuiet stamp v.toNat s).ok),
    (K.journalWriteNow, fun s => (State.journalTrigger false false s).ok),
    (K.rackRackCap, fun s => (State.capAt v.toNat stamp false s).ok),
    (K.routeRouteCommand, fun s => if v = 1 then State.activateOwn s else State.clearPending s),
    (K.sessCloseSession, fun s => State.closeWrite v s), (K.recClear, fun s => State.clearWrite w.sess s),
    (K.recReadCursor, fun s => State.cursorWrite w.sess v s), (K.ckptCatchUpRetry, fun s => (State.retryCatchUp s).ok),
    (K.secModeCommand, fun s => State.modeCommand v s), (K.secSelfTestCommand, fun s => State.selfTestRun s),
    (K.secZeroise, fun s => (State.zeroise 0 s).ok), (K.secIdentityCertificate, fun s => State.installIdentity w.bytes s),
    (K.attestNonce, fun s => State.nonceWrite w.sess w.bytes s), (K.attestRegisterMask, fun s => State.maskWrite w.sess v s),
    (K.updCommit, fun s => State.commit v s), (K.updPrefer, fun s => State.prefer v s),
    (K.ledgerOwnUpAllowance, fun s => State.writeAndShow k w.bytes v State.ledgerShow s),
    (K.ledgerOwnDownAllowance, fun s => State.writeAndShow k w.bytes v State.ledgerShow s),
    (K.poolPoolLowThreshold, fun s => State.writeAndShow k w.bytes v (fun s => s.poolCheck.driveXoff) s),
    (K.poolPoolLowPin, fun s => State.writeAndShow k w.bytes v State.driveXoff s),
    (K.divUntrustedLimit, fun s => State.writeAndShow k w.bytes v State.showTrust s),
    (K.injCtlDisarmAll, fun s => (State.disarmAll s).ok), (K.legacyEnable, fun s => State.legacyEnableWrite v s)
    ] : List (Nat × (State → State × Nat))).lookup k with
  | some f => some (f s)
  | none => none

/-! ### Objects of an array -/

/-- Index offset of an array object, in range. -/
def instOf (n base index : Nat) : Option (Fin n) :=
  if h : base ≤ index ∧ index - base < n then some ⟨index - base, h.2⟩ else none

/-- Objects of the power stages and Cardamom with an effect of their own. -/
def State.unitWrite (k : Nat) (w : HostWrite) (v : Int) (s : State) : Option (State × Nat) :=
  let index := k / 256
  let sub := k % 256
  if index = 0x3001 ∧ sub = 2 then some (s.enableWrite .feed v)
  else if index = 0x3002 ∧ sub = 2 then some (s.enableWrite .storage v)
  else if sub = 0x15 ∧ 0x3100 ≤ index ∧ index < 0x3114 then
    (instOf 20 0x3100 index).map (fun p => State.serviceCommand p v s)
  else if sub = 0x05 ∧ 0x4100 ≤ index ∧ index < 0x4104 then (instOf 4 0x4100 index).map (fun n => State.coreCommand n v s)
  else if sub = 0x17 ∧ 0x4100 ≤ index ∧ index < 0x4104 then (instOf 4 0x4100 index).map (fun n => State.holdCommand n v s)
  else if 0x4200 ≤ index ∧ index < 0x4204 then
    match sub with
    | 2 => (instOf 4 0x4200 index).map (fun n => State.coefWords n k w.sess [v] s)
    | 3 => (instOf 4 0x4200 index).map (fun n => State.coefBlock n w.sess w.bytes s)
    | 4 => (instOf 4 0x4200 index).map (fun n => State.persist n v s)
    | _ => none
  else none

/-- Objects of the rack manager, links and retimers with an effect of their own. -/
def State.rackWrite (k : Nat) (w : HostWrite) (v : Int) (s : State) : Option (State × Nat) :=
  let index := k / 256
  let sub := k % 256
  if 0x7040 ≤ index ∧ index < 0x7080 then
    match sub with
    | 1 => (instOf 64 0x7040 index).map (fun g => State.policyWrite g v s)
    | 4 => (instOf 64 0x7040 index).map (fun g => State.membersWrite g w.bytes s)
    | _ => none
  else if sub = 6 ∧ 0x7100 ≤ index ∧ index < 0x7118 then (instOf 24 0x7100 index).map (fun t => State.coolantClear t s)
  else if 0x2400 ≤ index ∧ index < 0x2420 then
    match sub with
    | 1 => (instOf 32 0x2400 index).map (fun n => State.linkProfileOwn n v s)
    | 2 => (instOf 32 0x2400 index).map (fun n => State.linkEnableOwn n v s)
    | _ => none
  else if sub = 0x0E ∧ 0x2500 ≤ index ∧ index < 0x2520 then (instOf 32 0x2500 index).map (fun n => State.retimerCommand n v s)
  else if sub = 1 ∧ 0x1100 ≤ index ∧ index < 0x1102 then
    (instOf 2 0x1100 index).map (fun p => State.portEnableWrite p w.sess v s)
  else none

/-- Snapshot list and count of a trigger: what is written must fit with the other (R408). -/
def State.triggerWrite (i : Nat) (k : Nat) (w : HostWrite) (v : Int) (s : State) : Option (State × Nat) :=
  match k % 256 with
  | 5 => some (s.snapshotWrite w.sess k (s.getN (K.trigSnapshotCount i)) w.bytes (State.putBytes k w.bytes))
  | 6 => some (s.snapshotWrite w.sess k v.toNat (s.readBytes 0 (K.trigSnapshotList i)) (State.put k v))
  | _ => none

/-- Objects of queues, triggers, image inputs, keys, injection points and the legacy table with an effect of their own. -/
def State.serviceWrite (k : Nat) (w : HostWrite) (stamp : Nat) (v : Int) (s : State) : Option (State × Nat) :=
  let index := k / 256
  let sub := k % 256
  if 0x8200 ≤ index ∧ index < 0x8400 then
    if sub = 0x0C then (instOf 512 0x8200 index).map (fun q => (State.flushQueue q s).ok)
    else some (s.queueWrite (index - 0x8200) sub k v)
  else if 0x8410 ≤ index ∧ index < 0x8450 then s.triggerWrite (index - 0x8410) k w v
  else if 0xA210 ≤ index ∧ index < 0xA214 ∧ sub = 1 then (instOf 4 0xA210 index).map (fun u => State.targetWrite u v s)
  else if 0xA400 ≤ index ∧ index < 0xA404 then
    match sub with
    | 2 => (instOf 4 0xA400 index).map (fun i => State.installKey i w.bytes s)
    | 5 => (instOf 4 0xA400 index).map (fun i => State.keyCommand i v s)
    | _ => none
  else if index = 0xA020 then some (s.anchorsWrite k w.bytes)
  else if 0xF400 ≤ index ∧ index < 0xFF00 ∧ sub = 1 then some (State.armWrite (injCode (index - 0xF400)) w.sess v s)
  else if index = 0xB001 then some (s.legacyEntry (sub - 1) stamp v)
  else none

/-- Objects read and written by block transfer only (R384, flag bit 2 of R381). -/
def blockOnly (k : Nat) : Bool :=
  decide (k = K.trimTrimLog) || decide (k = K.recRecords) || decide (k = K.attestMeasurementLog) ||
  (decide (0xA210 ≤ k / 256) && decide (k / 256 < 0xA214) && decide (k % 256 = 2)) || decide (k = K.injCtlInjectionLog)

/-- What a write that has passed R382 does: the owning chapter's own checks, and its effect. `stamp` is its arrival. -/
def State.ownWrite (k : Nat) (w : HostWrite) (stamp : Nat) (v : Int) (s : State) : State × Nat :=
  match s.singleWrite k w stamp v with
  | some r => r
  | none =>
    match s.unitWrite k w v with
    | some r => r
    | none =>
      match s.rackWrite k w v with
      | some r => r
      | none =>
        match s.serviceWrite k w stamp v with
        | some r => r
        | none => s.plainWrite k w.bytes v

/-- REGISTER_WRITE (R382): a host write to an object that has no row of its own. An object of block transfers only refuses
it (R384) (DEDUCED, notes/assumptions/101). -/
def execRegisterWrite (k : Nat) (w : HostWrite) (s : State) : Out :=
  if k = K.cloveCloveInject then .next (s.injectWrite w)
  else .next (s.hostWrite k w (fun v s => if blockOnly k then s.refuse Cause.typeOrLength else s.ownWrite k w s.ft v))

end Sys2Proof.Machine
end

