-- ==== Sys2Proof/Machine/HostOps.lean ====
section
/-! DEFINITION. Responses to host requests (spec/14, R378 and R379). -/

namespace Sys2Proof.Machine

/-! ### Messages to the host (R371, R373, R376) -/

/-- A Celeluo message: the header of Table 14-3, then its body. -/
def hostMsg (type flags reqId status : Nat) (body : List Byte) : List Byte :=
  [0x10, BitVec.ofNat 8 type, BitVec.ofNat 8 flags, 0] ++ leBytes 4 reqId ++ leBytes 2 status ++ leBytes 2 body.length ++
  leBytes 4 0 ++ body

/-- The messages of a response: RESPONSE set on each, MORE on all but the last. -/
def respMsgs (type reqId status : Nat) : List (List Byte) → List (List Byte)
  | [] => []
  | [b] => [hostMsg type 1 reqId status b]
  | b :: rest => hostMsg type 3 reqId status b :: respMsgs type reqId status rest

/-- Kinds of traffic of 0x1100+p.09, by the byte that holds their PCP. -/
inductive Traffic where
  | response | telemetry | blockData
  deriving DecidableEq, Repr

def Traffic.byte : Traffic → Nat
  | .response => 0
  | .telemetry => 1
  | .blockData => 2

/-- PCP of a kind of traffic on a port. -/
def State.pcpOf (s : State) (k : Traffic) (p : Nat) : Nat := s.getN (K.portPCPMap p) / 256 ^ k.byte % 256

/-- Does a port carry anything: its link is up (R370), and the recovery ROM serves port 0 alone (R80)?
(DESIGN CHOICE, notes/assumptions/83). -/
def State.portCarries (s : State) (p : Nat) : Bool :=
  decide (s.get (K.portLinkState p) = 1) && (decide (s.md.mode ≠ .recovery) || decide (p = 0))

/-- Where messages of a session go: to where its latest datagram came from (R376). -/
def Session.dest (x : Session) (pcp : Nat) : HostDest :=
  { sess := x.id, port := x.port, pcp := pcp, peer := x.peer, udp := x.peerUdp }

/-- A message leaves for a session, if its port carries anything (R370, R376). -/
def State.sendHost (sess : Nat) (k : Traffic) (msg : List Byte) (s : State) : State :=
  match s.session? sess with
  | some x => if s.portCarries x.port then s.send (.host (x.dest (s.pcpOf k x.port)) msg) else s
  | none => s

/-- A response leaves for its session. -/
def State.sendResp (sess type : Nat) (r : Resp) (s : State) : State :=
  s.each (respMsgs type r.reqId r.status r.bodies) (fun m s => s.sendHost sess .response m)

/-! ### Responses (R378, R379) -/

/-- Body of a WRITE or BLOCK_END response: index, sub. -/
def keyBody (k : Nat) : List Byte := leBytes 2 (k / 256) ++ leBytes 1 (k % 256)

/-- A response goes out, is kept with the last 64 of its session (R379), and a refusal is counted (0x1200.07)
(DESIGN CHOICE, notes/assumptions/5 and 87). -/
def State.respond (sess type reqId status : Nat) (bodies : List (List Byte)) (s : State) : State :=
  let r : Resp := { reqId := reqId, status := status, bodies := bodies }
  let s := s.modSession sess (fun x => { x with kept := (r :: x.kept).take 64 })
  (s.sendResp sess type r).when (decide (status ≠ 0)) (State.inc K.sessRequestsRefused)

/-- Body that goes with a status: what succeeded, the mace held with NOT_MACE_HOLDER (R383), else nothing
(DESIGN CHOICE, notes/assumptions/87). -/
def State.bodyFor (s : State) (status : Nat) (body : List Byte) : List Byte :=
  if status = 0 then body
  else if status = Cause.notMaceHolder then leBytes 1 s.md.pins.maceOut.toNat
  else []

/-- How a mirrored write names the request it answers: message type and request id. -/
def replyOf (type reqId : Nat) : Nat := 256 * reqId + type

/-- Answer a mirrored write that has come into force, on the module that took it (R383). -/
def State.answerMirror (m : Mirror) (status : Nat) (s : State) : State :=
  match m.reply with
  | none => s
  | some 0 => State.answer (s, status)
  | some n =>
    if (s.session? m.sess).isSome then
      s.respond m.sess (n % 256) (n / 256) status [s.bodyFor status (keyBody m.key)]
    else s

/-- A write of a request that waits for its effect boundary, or for its words to be in force, is answered in that request's
name. -/
def State.nameReply (sess reply : Nat) (s : State) : State :=
  let s := s.modPair (fun p =>
    { p with waiting := mapLast (fun m : Mirror => if m.sess = sess then { m with reply := some reply } else m) p.waiting })
  { s with card := { s.card with cores := s.card.cores.map (fun c : CoreSt => { c with
    owed := mapLast (fun o : OwedReply => if o.sess = sess ∧ o.reply = 0 then { o with reply := reply } else o) c.owed }) } }

/-- The word writes a core owes an answer are answered once no word waits (R175). -/
def State.answerWords (n : Fin 4) (s : State) : State :=
  if (s.core n).waiting.isEmpty then
    (s.each (s.core n).owed (fun o s =>
      if o.reply = 0 then State.answer (s, 0)
      else if (s.session? o.sess).isSome then s.respond o.sess (o.reply % 256) (o.reply / 256) 0 [keyBody o.key]
      else s)).modCore n (fun c => { c with owed := [] })
  else s

end Sys2Proof.Machine
end

