-- ==== Sys2Proof/Machine/HostReq.lean ====
section
/-! DEFINITION. Requests of a session and the parts they share: return addresses, kept responses, reading, descriptors,
transfers (spec/14, R373 to R389). -/

namespace Sys2Proof.Machine

/-! ### Requests (R374 to R379) -/

def State.modHost (f : HostState → HostState) (s : State) : State := { s with host := f s.host }

/-- A datagram that is no message: dropped, counted, and said once a second (R373) (DESIGN CHOICE, notes/assumptions/85). -/
def State.malformed (s : State) : State :=
  let s := s.inc K.sessMalformedDatagrams
  let due := match s.host.malformedAt with | some t => decide (t + sec ≤ s.now) | none => true
  s.when due (fun s => (s.modHost (fun h => { h with malformedAt := some s.now })).raise0 Cause.messageMalformed)

/-- An authenticated datagram arrives: everything for its session now goes back where it came from (R376, R377). -/
def State.heard (h : ReqHdr) (s : State) : State :=
  s.modSession h.sess (fun x => { x with
    lastSeen := s.ft, seenAt := s.now, port := h.port, peer := h.peer.toNat, peerUdp := h.udp.toNat })

/-- Is a request a repeat of one whose mirrored write has not come into force yet? -/
def State.inFlight (s : State) (sess reqId : Nat) : Bool :=
  s.pair.waiting.any (fun m => decide (m.sess = sess) && (match m.reply with
    | some n => decide (n ≠ 0) && decide (n / 256 = reqId)
    | none => false)) ||
  allCores.any (fun n => (s.core n).owed.any (fun o =>
    decide (o.sess = sess) && decide (o.reply ≠ 0) && decide (o.reply / 256 = reqId)))

/-- What a request does and answers: the state, the status, the bodies of its response. -/
abbrev Answer := State × Nat × List (List Byte)

/-- Is a header one of this protocol: a major of 1 (R5), and RESPONSE as the message has it? -/
def ReqHdr.fits (h : ReqHdr) (resp : Bool) : Bool := decide (h.version.toNat / 16 = 1) && (h.flags.getLsbD 0 == resp)

/-- A message before OPEN is answered PROTOCOL_VERSION (R374), out of the port it came by. -/
def State.notOpen (type : Nat) (h : ReqHdr) (s : State) : State :=
  (s.send (.host { sess := h.sess, port := h.port, pcp := s.pcpOf .response h.port, peer := h.peer.toNat, udp := h.udp.toNat }
    (hostMsg type 1 h.reqId.toNat Cause.protocolVersion []))).inc K.sessRequestsRefused

/-- A message of a session, with a body of some bytes, comes by a port that carries (R370): before OPEN it is answered
(R374); one that is no message, or larger than the session's message size, is dropped as malformed (R373, R375)
(DESIGN CHOICE, notes/assumptions/83). -/
def State.fromSession (type len : Nat) (resp : Bool) (h : ReqHdr) (act : Session → State → State) (s : State) : State :=
  if !s.portCarries h.port then s
  else
    match s.session? h.sess with
    | none =>
      if s.host.assocs.any (fun a => decide (a.id = h.sess) && a.done) then
        if !h.fits resp then s.malformed else if resp then s else s.notOpen type h
      else s
    | some x =>
      let s := s.heard h
      if !h.fits resp ∨ x.msgSize < 16 + len then s.malformed else act x s

/-- A request of a type: a kept request id is answered again and not acted on (R379); otherwise it is carried out, and
answered now or once its write is in force (R378) (DESIGN CHOICE, notes/assumptions/83). -/
def State.hostRequest (type len : Nat) (h : ReqHdr) (act : Session → State → Answer) (s : State) : State :=
  s.fromSession type len false h (fun x s =>
    let id := h.reqId.toNat
    match x.kept.find? (fun r : Resp => decide (r.reqId = id)) with
    | some r => s.sendResp h.sess type r
    | none =>
      if s.inFlight h.sess id then s
      else
        let r := act x s
        if r.2.1 = deferred then r.1.nameReply h.sess (replyOf type id) else r.1.respond h.sess type id r.2.1 r.2.2)

/-- Refuse a request. -/
def State.refuseWith (status : Nat) (s : State) : Answer := (s, status, [s.bodyFor status []])

/-! ### Reading (R382, R384, R489) -/

/-- Type code of an object, 0 without one (Table 14-5). -/
def typeCode (k : Nat) : Nat := match Dict.row? k with | some r => r.ty.code | none => 0

/-- Width of an object's value on the wire. -/
def wireBytes (k : Nat) : Nat := match Dict.row? k with | some r => r.ty.bytes | none => 0

/-- The checks of R382 on reading an object in a session, then its chapter's own: a quote that is not ready is refused with
BUSY (R461). -/
def State.readCheck (s : State) (x : Session) (k : Nat) : Nat :=
  let st := s.checkRead x.role k
  if st ≠ 0 then st else if k = K.attestQuote ∧ (s.quoteOf x.id).quote.isNone then Cause.busy else 0

/-- Status of a READ of an object: R382, then block transfer alone, then the message size (R384). -/
def State.readStatus (s : State) (x : Session) (k : Nat) : Nat :=
  let st := s.readCheck x k
  if st ≠ 0 then st
  else if blockOnly k ∨ x.msgSize < 20 + wireBytes k then Cause.typeOrLength
  else 0

/-- Entry of a READ_LIST response (R489). A value must leave room in one message of its own. -/
def State.listEntry (s : State) (x : Session) (k : Nat) : List Byte :=
  let st := s.readCheck x k
  let st := if st ≠ 0 then st else if blockOnly k ∨ x.msgSize < 22 + wireBytes k then Cause.typeOrLength else 0
  if st = 0 then keyBody k ++ leBytes 1 (typeCode k) ++ leBytes 2 0 ++ s.readBytes x.id k
  else keyBody k ++ leBytes 1 0 ++ leBytes 2 st

/-- Entries into message bodies, none straddling two. -/
def packEntries (room : Nat) : List (List Byte) → List Byte → List (List Byte)
  | [], cur => [cur]
  | e :: rest, cur =>
    if cur.length + e.length ≤ room ∨ cur.isEmpty then packEntries room rest (cur ++ e) else cur :: packEntries room rest e

/-- Raise ACCESS_DENIED for each denied entry. -/
def State.raiseDeniedReads (x : Session) (keys : List Nat) (s : State) : State :=
  s.each keys (fun k s => s.when (decide (s.checkRead x.role k = Cause.accessDenied)) (State.raiseDenied x.id k .read))

/-! ### Descriptors (R381) -/

/-- Lower bound of the cause block of the chapter that lists an object. -/
def causeBlock (index : Nat) : Nat :=
  if index < 0x2000 then 0x0701
  else if index < 0x2200 then 0x0600
  else if index < 0x2300 then 0x0620
  else if index < 0x2400 then 0x0600
  else if index < 0x3000 then 0x0620
  else if index < 0x4000 then 0x0101
  else if index < 0x4800 then 0x0201
  else if index < 0x5000 then 0x0220
  else if index < 0x5300 then 0x0301
  else if index < 0x6000 then 0x0320
  else if index < 0x6200 then 0x0401
  else if index < 0x7000 then 0x0420
  else if index < 0x8000 then 0x0501
  else if index < 0x8400 then 0x0901
  else if index < 0x9000 then 0x0920
  else if index < 0xA000 then 0x0A01
  else if 0xA300 ≤ index ∧ index < 0xA400 then 0x0860
  else if index < 0xB000 then 0x0801
  else if index < 0xF100 then 0x0B01
  else if index < 0xF160 then 0x01E0
  else if index < 0xF400 then 0x0860
  else 0x0820

/-- The descriptor of an object: type, size, access, roles, flags, minimum, maximum, default, cause block. -/
def descriptor (k : Nat) (r : Dict.Row) : List Byte :=
  let values := (if r.lo ≤ r.hi then [r.lo, r.hi] else []) ++ r.allow
  let bound := fun (v : Int) => leBytes 8 (toUnsigned 64 (if r.ty.isBytes then 0 else v))
  leBytes 1 r.ty.code ++ leBytes 4 r.ty.bytes ++ leBytes 1 r.acc.code ++ leBytes 1 (r.roles % 8) ++
  leBytes 1 (bitsOf [r.mram, r.mirrored, blockOnly k]) ++
  bound (values.foldl min (values.headD 0)) ++ bound (values.foldl max (values.headD 0)) ++ bound (Dict.default k) ++
  leBytes 2 (causeBlock (k / 256))

/-! ### Block transfers (R384) -/

def Session.transfer? (x : Session) (id : Nat) : Option Transfer := x.transfers.find? (fun t => decide (t.id = id))

def State.modTransfer (sess id : Nat) (f : Transfer → Transfer) (s : State) : State :=
  s.modSession sess (fun x => { x with transfers := x.transfers.map (fun t => if t.id = id then f t else t) })

def State.dropTransfer (sess id : Nat) (s : State) : State :=
  s.modSession sess (fun x => { x with transfers := x.transfers.filter (fun t => decide (t.id ≠ id)) })

/-- Chunks of a read from `sent` up to the window of 64 beyond the acknowledged offset, at most n of them. -/
def chunksOf (t : Transfer) : Nat → Nat → List (Nat × List Byte)
  | 0, _ => []
  | n + 1, off =>
    if t.total ≤ off ∨ t.next + 64 * t.chunk ≤ off ∨ t.chunk = 0 then []
    else (off, (t.bytes.drop off).take t.chunk) :: chunksOf t n (off + t.chunk)

/-- Send what the window allows of a read transfer (R384). -/
def State.sendChunks (sess : Nat) (t : Transfer) (s : State) : State :=
  let l := chunksOf t 64 t.sent
  let s := s.each l (fun c s => s.sendHost sess .blockData (hostMsg 8 0 0 0 (leBytes 2 t.id ++ leBytes 2 0 ++ leBytes 4 c.1 ++ c.2)))
  let done := min t.total (t.sent + l.length * t.chunk)
  s.modTransfer sess t.id (fun t => { t with sent := done })

/-- Acknowledge the next offset a write transfer needs. -/
def State.ackTransfer (sess id next : Nat) (s : State) : State :=
  s.sendHost sess .blockData (hostMsg 9 0 0 0 (leBytes 2 id ++ leBytes 2 0 ++ leBytes 4 next))

/-- The image input an object is, if it is one. -/
def imageInput (k : Nat) : Option (Fin 4) := if k % 256 = 2 then instOf 4 0xA210 (k / 256) else none

/-- Checks on opening a write transfer (R382, R384): those that do not rest on the value. -/
def State.checkBlockWrite (s : State) (role k total : Nat) : Nat :=
  match Dict.row? k with
  | none => Cause.objectUnknown
  | some r =>
    if s.romHides k true then Cause.objectUnknown
    else if !mayWrite role r.roles then Cause.accessDenied
    else if r.acc = .ro then Cause.accessMode
    else if (if variableLength k || (imageInput k).isSome then decide (r.ty.bytes < total) else decide (total ≠ r.ty.bytes)) then
      Cause.typeOrLength
    else if r.mirrored && s.notHolder then Cause.notMaceHolder
    else if r.mram && s.md.mainLoss then Cause.persistRefused
    else if s.blockWriteOpen k then Cause.busy
    else 0

/-- Open a transfer of a session and answer its id, chunk size and length. -/
def State.openTransfer (x : Session) (k : Nat) (write : Bool) (total chunk : Nat) (bytes : List Byte) (s : State) : Answer :=
  let id := s.host.nextTransfer
  let t : Transfer := { id := id, key := k, isWrite := write, total := total, chunk := min chunk (x.msgSize - 32), bytes := bytes
                        next := 0, sent := 0, lastActive := s.now }
  let s := s.modHost (fun h => { h with nextTransfer := (id + 1) % 65536 })
  let s := s.modSession x.id (fun x => { x with transfers := x.transfers ++ [t] })
  (s, 0, [leBytes 2 id ++ leBytes 2 t.chunk ++ leBytes 4 total])

/-- A read transfer begins: its first chunks follow the response that names it. -/
def State.beginTransfer (sess id : Nat) (s : State) : State :=
  match (s.session? sess).bind (fun x : Session => x.transfer? id) with
  | some t => if t.isWrite then s else s.sendChunks sess t
  | none => s

/-- Transfers open in the whole module. -/
def State.transfersOpen (s : State) : Nat := (s.host.sessions.map (fun x => x.transfers.length)).sum

/-- An abandoned write to an image input frees the input and the lease (R466). -/
def State.freeInput (k : Nat) (s : State) : State :=
  match imageInput k with
  | none => s
  | some u =>
    let s := s.when (decide (s.cry.lease = some u)) State.releaseLease
    (s.modCry (fun x => { x with inputs := x.inputs.set u { sess := 0, hdr := none, result := 0 } })).put (K.imgInputState u) 0

/-! ### Events (R386) -/

/-- The push that tells of causes lost to a full window (DESIGN CHOICE, notes/assumptions/88). -/
def lostPush (n ft : Nat) : Push :=
  { newPush Cause.eventsLost ft (args0 []) (some noRecord) with repeats := n }

/-- Body of an EVENT: cause, repeat count, FT, record number, arguments (R386). -/
def Push.body (p : Push) : List Byte :=
  leBytes 2 p.cause ++ leBytes 2 p.repeats ++ leBytes 8 p.ft ++ leBytes 4 (p.recNo.getD noRecord) ++
  leBytes 4 p.args.subj.toNat ++ leBytes 12 p.args.vals.toNat

/-- Send a push with its push sequence. -/
def State.sendPush (sess : Nat) (p : Push) (s : State) : State := s.sendHost sess .response (hostMsg 0x0C 0 p.seq 0 p.body)

/-- When a slot of the window frees, EVENTS_LOST takes it ahead of anything newer (DESIGN CHOICE, notes/assumptions/88). -/
def State.fillLost (id : Nat) (s : State) : State :=
  s.modSession id (fun x =>
    if 0 < x.lost ∧ x.unsent.length + x.unacked.length < 64 then
      { x with unsent := x.unsent ++ [lostPush x.lost s.ft], lost := 0 }
    else x)

/-! ### Telemetry (R388, R389) -/

/-- May an object stand in a stream of a role? -/
def State.streamable (s : State) (role k : Nat) : Bool :=
  decide (s.checkRead role k = 0) &&
  (match Dict.row? k with | some r => !r.ty.isBytes || decide (r.ty.bytes ≤ 64) | none => false)

/-- Sum of (16 + sample bytes) / period over streams, as a fraction of bytes per 100 µs. -/
def loadOf (l : List (Nat × Nat)) : Nat × Nat :=
  l.foldl (fun f x => (f.1 * x.2 + (16 + x.1) * f.2, f.2 * x.2)) (0, 1)

/-- Do streams exceed 200 MB/s, that is 20,000 bytes per 100 µs? -/
def overloaded (l : List (Nat × Nat)) : Bool := decide (20000 * (loadOf l).2 < (loadOf l).1)

/-- Is sending on a priority of a port paused (R371)? -/
def State.txPaused (s : State) (port prio : Nat) : Bool :=
  s.host.pausedTx.any (fun e => decide (e.port = port) && decide (e.prio = prio) && decide (s.now < e.untilTb))

/-- Bytes of one sample block. -/
def State.sampleBlock (x : Session) (t : Stream) (s : State) : List Byte :=
  leBytes 8 s.ft ++ leBytes 4 t.seq ++ leBytes 4 0 ++ t.keys.flatMap (s.readBytes x.id)

/-- Is a batch full: one more block would not fit the message, or 1 ms of sampling, or 255 samples? -/
def batchFull (x : Session) (t : Stream) (n : Nat) : Bool :=
  decide (x.msgSize < 20 + (n + 1) * (16 + t.sampleBytes)) || decide (10 ≤ n * t.period) || decide (255 ≤ n)

end Sys2Proof.Machine
end

