-- ==== Sys2Proof/Machine/Host.lean ====
section
/-! DEFINITION. The commands of the host ports: DTLS, sessions, the messages of the Celeluo protocol, ports (spec/14). -/

namespace Sys2Proof.Machine

/-! ### DTLS (R372) -/

/-- Do the host ports serve DTLS: the firmware or the recovery ROM runs, and no cryptographic output is stopped (R452)? -/
def State.servesDtls (s : State) : Bool :=
  (s.md.mode.serves || decide (s.md.mode = .halted) || decide (s.md.mode = .recovery)) && !s.md.poweredOff &&
  decide (s.securityState ≠ 2)

/-- Handshakes in progress. -/
def State.handshakes (s : State) : Nat := (s.host.assocs.filter (fun a => !a.done)).length

/-- CLIENT_HELLO (R372): a first ClientHello earns a HelloRetryRequest with a cookie, and no state; beyond 4 handshakes it
is ignored. -/
def execClientHello (port : Fin 2) (peer : BitVec 128) (s : State) : Out :=
  .next (if s.servesDtls ∧ s.portCarries port ∧ s.handshakes < 4 then s.send (.dtls 0 1 [(port.val : Int), peer.toNat]) else s)

/-- Role byte a certificate's role grants (R372, R444): role S includes both privileges; none without a known role. -/
def roleByte (r : BitVec 8) : Nat :=
  if r.getLsbD 2 then 0x1C
  else if r.getLsbD 1 then 2 + (r.toNat / 8 % 4) * 8
  else if r.getLsbD 0 then 1
  else 0

/-- A handshake fails: counted, DTLS_AUTH_FAIL with its alert (R372) (DESIGN CHOICE, notes/assumptions/78). -/
def State.handshakeFails (id alert : Nat) (s : State) : State :=
  let s := s.modHost (fun h => { h with assocs := h.assocs.filter (fun a => decide (a.id ≠ id)) })
  (s.inc K.sessHandshakesFailed).raise Cause.dtlsAuthFail (args0 [(alert, 1)])

/-- Is a client chain accepted (R445)? -/
def State.hostChainOk (s : State) (chain : List Byte) : Bool :=
  Config.chainOk chain (s.getBytes K.anchorHostAnchors 8192) (s.getBytes K.anchorRevocationList 8192) s.certTime

/-- DTLS_HANDSHAKE (R372): the ClientHello with its cookie takes one of 4 places; the client's last flight ends the
handshake. A chain that fails R445 has an alert the specification does not name
(DESIGN CHOICE, notes/assumptions/77 and 78). -/
def execDtlsHandshake (m : DtlsMsg) (s : State) : Out :=
  match m with
  | .cookieHello port peer cookieOk =>
    .next (if s.servesDtls ∧ s.portCarries port ∧ cookieOk ∧ s.handshakes < 4 then
      let a : Assoc := { id := s.host.nextSession, port := port, peer := peer.toNat, done := false, role := 0, chain := [] }
      (s.modHost (fun h => { h with assocs := h.assocs ++ [a], nextSession := h.nextSession + 1 })).send (.dtls a.id 2 [])
    else s)
  | .finish assoc chain role alert =>
    if !s.host.assocs.any (fun a => decide (a.id = assoc) && !a.done) then .next s
    else if alert ≠ 0 then .next (s.handshakeFails assoc alert.toNat)
    else
      let s := s.noteCert
      if s.hostChainOk chain ∧ roleByte role ≠ 0 then
        .next ((s.modHost (fun h => { h with
          assocs := h.assocs.map (fun a => if a.id = assoc then { a with done := true, role := roleByte role, chain := chain } else a) })).send
            (.dtls assoc 3 []))
      else .next (s.useFree.handshakeFails assoc (s.freeNat % 256))

/-! ### Sessions (R374 to R377) -/

/-- Message size of a session (R375). -/
def State.messageSize (s : State) (port want : Nat) : Nat :=
  max 1024 (min (min want 8192) (s.getN (K.portMTU port) - 128) / 16 * 16)

/-- Keepalive interval granted (R377). -/
def keepaliveOf (want : Nat) : Nat := if want = 0 then 10 else min want 300

/-- An OPEN that fails: its status, SESSION_REFUSED, and the association is closed (R374, R377). -/
def State.refuseOpen (h : ReqHdr) (status : Nat) (s : State) : State :=
  let s := (s.send (.host { sess := h.sess, port := h.port, pcp := s.pcpOf .response h.port, peer := h.peer.toNat, udp := h.udp.toNat }
    (hostMsg 1 1 h.reqId.toNat status []))).inc K.sessRequestsRefused
  (s.modHost (fun x => { x with assocs := x.assocs.filter (fun a => decide (a.id ≠ h.sess)) })).raise Cause.sessionRefused
    (args h.sess [(status, 2)])

/-- The session an OPEN makes (DESIGN CHOICE, notes/assumptions/77). -/
def State.newSession (h : ReqHdr) (a : Assoc) (want keepalive : Nat) (s : State) : Session :=
  { id := a.id, role := a.role, port := h.port, peer := h.peer.toNat, peerUdp := h.udp.toNat, version := 0x10
    msgSize := s.messageSize h.port want, keepalive := keepaliveOf keepalive, openedAt := s.ft, lastSeen := s.ft, seenAt := s.now
    mask := 0, excluded := [], unsent := [], unacked := [], lost := 0, nextPush := 0, kept := [], transfers := [], streams := []
    cursor := 0, chain := a.chain }

/-- Body of an OPEN response (Table 14-4). -/
def State.openBody (x : Session) (s : State) : List Byte :=
  leBytes 1 x.version ++ leBytes 1 x.role ++ leBytes 2 x.msgSize ++ leBytes 4 x.id ++ leBytes 8 (s.getN K.nodeSerial) ++
  leBytes 1 s.md.mode.code ++ leBytes 1 s.md.pins.maceOut.toNat ++ leBytes 2 x.keepalive ++ leBytes 20 0

/-- OPEN (R374, R375, R377) (DESIGN CHOICE, notes/assumptions/77 and 104). -/
def execOpen (h : ReqHdr) (majors : BitVec 16) (_minors : BitVec 32) (size keepalive : BitVec 16) (s : State) : Out :=
  if (s.session? h.sess).isSome then .next (s.hostRequest 1 12 h (fun _ s => s.refuseWith Cause.messageMalformed))
  else
    match s.host.assocs.find? (fun a => decide (a.id = h.sess) && a.done) with
    | none => .next s
    | some a =>
      if !s.portCarries h.port then .next s
      else if !h.fits false then .next s.malformed
      else if !majors.getLsbD 1 then .next (s.refuseOpen h Cause.protocolVersion)
      else if s.getN K.sessSessionLimit ≤ s.host.sessions.length then .next (s.refuseOpen h Cause.busy)
      else
        let x := s.newSession h a size.toNat keepalive.toNat
        let s := s.modHost (fun y => { y with
          assocs := y.assocs.filter (fun b => decide (b.id ≠ h.sess)), sessions := y.sessions ++ [x] })
        .next ((s.respond x.id 1 h.reqId.toNat 0 [s.openBody x]).raise Cause.sessionOpened (args x.id [(x.role, 1)]))

/-- CLOSE (R377). -/
def execClose (h : ReqHdr) (s : State) : Out :=
  let t := s.hostRequest 2 0 h (fun _ s => (s, 0, [[]]))
  .next (if s.portCarries h.port ∧ h.fits false then t.dropSession h.sess else t)

/-- KEEPALIVE (R377). -/
def execKeepalive (h : ReqHdr) (s : State) : Out := .next (s.hostRequest 0x0F 0 h (fun _ s => (s, 0, [[]])))

/-- SESSION_TIMEOUT (R377): no authenticated datagram for three keepalive intervals. -/
def execSessionTimeout (sess : Nat) (s : State) : Out :=
  match s.session? sess with
  | some x => .next (if x.seenAt + 3 * x.keepalive * sec < s.now then s.dropSession sess else s)
  | none => .next s

/-- CLOSE_SESSION_WRITE (R377). -/
def execCloseSessionWrite (w : HostWrite) (s : State) : Out := .next (s.hostWrite K.sessCloseSession w State.closeWrite)

/-! ### Reading and writing (R378, R382, R383, R489) -/

/-- READ (R382). -/
def execRead (h : ReqHdr) (key : BitVec 24) (s : State) : Out :=
  .next (s.hostRequest 3 4 h (fun x s =>
    let k := key.toNat
    let st := s.readStatus x k
    if st = 0 then (s, 0, [keyBody k ++ leBytes 1 (typeCode k) ++ s.readBytes x.id k])
    else (s.when (decide (st = Cause.accessDenied)) (State.raiseDenied x.id k .read)).refuseWith st))

/-- Body of the answer to a write: index and sub, and after a clove injection its sequence (R110; notes/assumptions/5). -/
def writeBody (k seq : Nat) : List Byte := keyBody k ++ (if k = K.cloveCloveInject then leBytes 4 seq else [])

/-- WRITE (R378, R383): a message beyond the session's size is dropped as malformed (R375).  The response to a clove injection
carries its sequence after index and sub (R110; notes/assumptions/5) (DEDUCED, notes/assumptions/101). -/
def execWrite (h : ReqHdr) (key : BitVec 24) (value : List Byte) (s : State) : Out :=
  .next (s.hostRequest 4 (4 + value.length) h (fun _ s =>
    let k := key.toNat
    let w : HostWrite := { sess := h.sess, bytes := value }
    let r := s.checked k w (fun v s => if blockOnly k then s.refuse Cause.typeOrLength else s.ownWrite k w s.ft v)
    (r.1, r.2, [r.1.bodyFor r.2 (writeBody k s.clv.nextSeq)])))

/-- READ_LIST (R489): up to 64 objects, entry by entry (DESIGN CHOICE, notes/assumptions/85). -/
def execReadList (h : ReqHdr) (keys : List (BitVec 24)) (s : State) : Out :=
  .next (s.hostRequest 5 (4 * keys.length) h (fun x s =>
    if 64 < keys.length then s.refuseWith Cause.messageMalformed
    else
      let ks := keys.map BitVec.toNat
      let bodies := packEntries (x.msgSize - 16) (ks.map (s.listEntry x)) []
      (s.raiseDeniedReads x ks, 0, bodies)))

/-- DESCRIBE (R381) (DESIGN CHOICE, notes/assumptions/105). -/
def execDescribe (h : ReqHdr) (key : BitVec 24) (s : State) : Out :=
  .next (s.hostRequest 6 4 h (fun _ s =>
    let k := key.toNat
    match Dict.row? k with
    | some r => if s.romHides k false then s.refuseWith Cause.objectUnknown else (s, 0, [descriptor k r])
    | none => s.refuseWith Cause.objectUnknown))

/-! ### Block transfer (R384) -/

/-- The answer to BLOCK_OPEN (R384). -/
def State.openBlock (h : ReqHdr) (key : BitVec 24) (write : Bool) (total : BitVec 32) (chunk : BitVec 16) (s : State) : State :=
  s.hostRequest 7 10 h (fun x s =>
    let k := key.toNat
    let st := if write then s.checkBlockWrite x.role k total.toNat else s.readCheck x k
    if st ≠ 0 then (s.when (decide (st = Cause.accessDenied)) (State.raiseDenied x.id k .blockTransfer)).refuseWith st
    else if chunk = 0 then s.refuseWith Cause.valueOutOfRange
    else if 4 ≤ x.transfers.length ∨ 16 ≤ s.transfersOpen then s.refuseWith Cause.busy
    else if !write then
      let b := s.readBytes x.id k
      s.openTransfer x k false b.length chunk.toNat b
    else
      match imageInput k with
      | none => s.openTransfer x k true total.toNat chunk.toNat []
      | some u =>
        let r := s.openInput u x.id
        if r.2 = 0 then r.1.openTransfer x k true total.toNat chunk.toNat [] else r.1.refuseWith r.2)

/-- BLOCK_OPEN (R384): it is answered, and the chunks of a read follow (DESIGN CHOICE, notes/assumptions/84). -/
def execBlockOpen (h : ReqHdr) (key : BitVec 24) (write : Bool) (total : BitVec 32) (chunk : BitVec 16) (s : State) : Out :=
  let t := s.openBlock h key write total chunk
  .next (if t.host.nextTransfer = s.host.nextTransfer then t else t.beginTransfer h.sess s.host.nextTransfer)

/-- BLOCK_DATA (R384): a chunk of a write. The chunk at the offset needed is held aside; the receiver acknowledges
(DESIGN CHOICE, notes/assumptions/84). -/
def execBlockData (h : ReqHdr) (id : BitVec 16) (offset : BitVec 32) (data : List Byte) (s : State) : Out :=
  .next (s.fromSession 8 (8 + data.length) false h (fun x s =>
    match x.transfer? id.toNat with
    | none => s
    | some t =>
      if !t.isWrite then s
      else
        let fits := decide (offset.toNat = t.next) && decide (data.length ≤ t.chunk) && decide (t.next + data.length ≤ t.total)
        let t' : Transfer := if fits then { t with bytes := t.bytes ++ data, next := t.next + data.length } else t
        let s := s.modTransfer x.id t.id (fun _ => { t' with lastActive := s.now })
        let s := match imageInput t.key with
          | some u => s.put (K.imgBytesWritten u) (if s.getN (K.imgInputState u) = 2 then (t'.next - 512 : Nat) else 0)
          | none => s
        s.ackTransfer x.id t.id t'.next))

/-- BLOCK_ACK (R384): the next offset the host needs of a read; what it repeats is sent again from there
(DESIGN CHOICE, notes/assumptions/84). -/
def execBlockAck (h : ReqHdr) (id : BitVec 16) (next : BitVec 32) (s : State) : Out :=
  .next (s.fromSession 9 8 false h (fun x s =>
    match x.transfer? id.toNat with
    | none => s
    | some t =>
      if t.isWrite ∨ t.sent < next.toNat ∨ next.toNat < t.next then s
      else
        let t' := { t with next := next.toNat, sent := if next.toNat = t.next then next.toNat else t.sent, lastActive := s.now }
        (s.modTransfer x.id t.id (fun _ => t')).sendChunks x.id t'))

/-- A write transfer that fails at its end: nothing changes, TRANSFER_FAILED (DESIGN CHOICE, notes/assumptions/86). -/
def State.failTransfer (sess : Nat) (s : State) : State := s.raise Cause.transferFailed (args sess [])

/-- BLOCK_END of an image input (R466, R467): a failed header's cause, or the end of the body; `img` is what the checks of the
body hash and of a bank's own images find. -/
def State.endImage (u : Fin 4) (whole : Bool) (img : Bool × BitVec 5) (body : List Byte) (s : State) : State × Nat :=
  match s.getN (K.imgInputState u) with
  | 4 => (s, (s.cry.inputs[u]).result)
  | 2 =>
    let s := outState (execImageWriteEnd u (whole && img.1) img.2 body s) s
    (s, if s.getN (K.imgInputState u) = 3 then 0 else Cause.imageBodyBad)
  | _ =>
    -- in the recovery ROM the image stands in the target bank (R79)
    if s.md.mode = .recovery then
      (s.put (K.imgInputState u) 0, if whole ∧ img.1 ∧ s.md.download = some .ethernet then 0 else Cause.imageBodyBad)
    else ((s.failTransfer (s.cry.inputs[u]).sess).freeInput (K.imgImage u), Cause.transferFailed)

/-- BLOCK_END (R384): the object is applied whole under R382 when length and CRC are right
(DESIGN CHOICE, notes/assumptions/84). -/
def execBlockEnd (h : ReqHdr) (id : BitVec 16) (crc : BitVec 32) (img : Bool × BitVec 5) (s : State) : Out :=
  .next (s.hostRequest 0x0A 8 h (fun x s =>
    match x.transfer? id.toNat with
    | none => s.refuseWith Cause.valueOutOfRange
    | some t =>
      let s := s.dropTransfer x.id t.id
      let whole := decide (t.bytes.length = t.total) && decide (crc32 t.bytes = crc)
      if !t.isWrite then (s, 0, [keyBody t.key])
      else match imageInput t.key with
        | some u =>
          let r := s.endImage u whole img (t.bytes.drop 512)
          (r.1, r.2, [r.1.bodyFor r.2 (keyBody t.key)])
        | none =>
          if !whole then (s.failTransfer x.id).refuseWith Cause.transferFailed
          else
            let w : HostWrite := { sess := x.id, bytes := t.bytes }
            let r := s.checked t.key w (fun v s => s.ownWrite t.key w s.ft v)
            (r.1, r.2, [r.1.bodyFor r.2 (writeBody t.key s.clv.nextSeq)])))

/-- TRANSFER_TIMEOUT (R384): no data or acknowledgement for 10 s (DESIGN CHOICE, notes/assumptions/86). -/
def execTransferTimeout (sess : Nat) (id : BitVec 16) (s : State) : Out :=
  match s.session? sess with
  | none => .next s
  | some x =>
    match x.transfer? id.toNat with
    | none => .next s
    | some t =>
      if s.now ≤ t.lastActive + 10 * sec then .next s
      else
        let s := (s.dropTransfer sess t.id).raise Cause.transferTimeout (args sess [(t.key / 256, 2), (t.key % 256, 1)])
        .next (s.when t.isWrite (fun s => (s.failTransfer sess).freeInput t.key))

/-! ### Events (R385 to R387) -/

/-- SUBSCRIBE (R385): the filter from now on; mask 0 ends the subscription (DESIGN CHOICE, notes/assumptions/85). The
recovery ROM has no such service (R80; notes/assumptions/82). -/
def execSubscribe (h : ReqHdr) (mask : BitVec 16) (excluded : List (BitVec 16)) (s : State) : Out :=
  .next (s.hostRequest 0x0B (2 + 2 * excluded.length) h (fun x s =>
    if s.md.mode = .recovery then s.refuseWith Cause.objectUnknown
    else if 16 < excluded.length then s.refuseWith Cause.messageMalformed
    else
      (s.modSession x.id (fun x => { x with
        mask := mask.toNat, excluded := excluded.map BitVec.toNat
        unsent := if mask = 0 then [] else x.unsent, unacked := if mask = 0 then [] else x.unacked
        lost := if mask = 0 then 0 else x.lost }), 0, [[]])))

/-- EVENT (R386, R387): the oldest unsent push leaves, once its record has its number. -/
def execEvent (sess : Nat) (s : State) : Out :=
  match s.session? sess with
  | none => .next s
  | some x =>
    match x.unsent with
    | [] => .next s
    | p :: rest =>
      if p.recNo.isNone ∨ !s.portCarries x.port then .next s
      else
        let p' := { p with seq := x.nextPush, sentAt := s.now, againAt := s.now }
        let s := s.modSession sess (fun x => { x with
          unsent := rest, unacked := x.unacked ++ [p'], nextPush := (x.nextPush + 1) % 2 ^ 32 })
        .next (s.sendPush sess p')

/-- EVENT_ACK (R386): the request id is the push sequence; a slot frees. -/
def execEventAck (h : ReqHdr) (s : State) : Out :=
  .next (s.fromSession 0x0C 0 true h (fun x s =>
    (s.modSession x.id (fun x => { x with unacked := x.unacked.filter (fun p => decide (p.seq ≠ h.reqId.toNat)) })).fillLost x.id))

/-- Is a push due to be sent again (R386)? -/
def Push.dueAgain (now : Nat) (p : Push) : Bool := decide (p.againAt + 100 * ms ≤ now)

/-- EVENT_RESEND (R386): a push is sent again 100 ms after it was last sent, in order of push sequence. -/
def execEventResend (sess : Nat) (s : State) : Out :=
  match s.session? sess with
  | none => .next s
  | some x =>
    if !s.portCarries x.port then .next s
    else
      let t := s.modSession sess (fun x => { x with
        unacked := x.unacked.map (fun p => if p.dueAgain s.now then { p with againAt := s.now } else p) })
      .next (t.each (x.unacked.filter (Push.dueAgain s.now)) (fun p s => s.sendPush sess p))

/-- EVENT_PUSH_TIMEOUT (R386): a push unacknowledged after 30 s closes the session. -/
def execEventPushTimeout (sess : Nat) (s : State) : Out :=
  match s.session? sess with
  | none => .next s
  | some x => .next (if x.unacked.any (fun p => decide (p.sentAt + 30 * sec < s.now)) then s.dropSession sess else s)

/-! ### Telemetry (R388, R389) -/

/-- STREAM (R388): START or STOP (DESIGN CHOICE, notes/assumptions/84). The recovery ROM has no such service (R80;
notes/assumptions/82). -/
def execStream (h : ReqHdr) (start : Bool) (id : BitVec 8) (period phase : BitVec 32) (keys : List (BitVec 24)) (s : State) : Out :=
  .next (s.hostRequest 0x0D (12 + 4 * keys.length) h (fun x s =>
    let ks := keys.map BitVec.toNat
    let others := s.host.sessions.flatMap (fun y => y.streams.filter (fun t => !(decide (y.id = x.id) && decide (t.id = id.toNat))))
    let bytes := (ks.map wireBytes).sum
    let body := leBytes 1 id.toNat ++ leBytes 3 0 ++ leBytes 4 bytes
    let stopped := s.modSession x.id (fun x => { x with streams := x.streams.filter (fun t => decide (t.id ≠ id.toNat)) })
    if s.md.mode = .recovery then s.refuseWith Cause.objectUnknown
    else if !start then (stopped, 0, [leBytes 1 id.toNat ++ leBytes 7 0])
    else if period = 0 ∨ 600000 < period.toNat then s.refuseWith Cause.valueOutOfRange
    else if ks.any (fun k => !s.streamable x.role k) ∨ 64 < ks.length ∨ 8 ≤ others.length ∨
        overloaded ((bytes, period.toNat) :: others.map (fun t => (t.sampleBytes, t.period))) then
      ((s.raiseDeniedReads x ks).raise Cause.streamRefused (args x.id [(id.toNat, 1)])).refuseWith Cause.streamRefused
    else
      let t : Stream := { id := id.toNat, period := period.toNat, phase := phase.toNat, keys := ks, sampleBytes := bytes
                          seq := 0, sent := 0, batch := [] }
      (stopped.modSession x.id (fun x => { x with streams := x.streams ++ [t] }), 0, [body])))

/-- TELEMETRY (R389): a stream samples at an FT congruent to its phase, and sends its batch when that is full; a paused
priority drops whole samples, and so does a message size that one sample exceeds (PRESUMED, notes/assumptions/119). -/
def execTelemetry (sess : Nat) (id : BitVec 8) (s : State) : Out :=
  match s.session? sess with
  | none => .next s
  | some x =>
    match x.streams.find? (fun t => decide (t.id = id.toNat)) with
    | none => .next s
    | some t =>
      let p := t.period * 100000
      if s.ft % p ≠ t.phase * us % p then .next s
      else
        let batch := t.batch ++ [s.sampleBlock x t]
        let setStream := fun (t : Stream) (s : State) => s.modSession sess (fun x => { x with
          streams := x.streams.map (fun y => if y.id = id.toNat then t else y) })
        if !batchFull x t batch.length then .next (setStream { t with seq := t.seq + 1, batch := batch } s)
        else if s.txPaused x.port (s.pcpOf .telemetry x.port) ∨ !s.portCarries x.port ∨ x.msgSize < 36 + t.sampleBytes then
          .next ((setStream { t with seq := t.seq + 1, batch := [] } s).countBy 32 K.sessTelemetrySamplesDropped batch.length)
        else
          .next ((setStream { t with seq := t.seq + 1, sent := t.sent + 1, batch := [] } s).sendHost
            sess .telemetry (hostMsg 0x0E 0 t.sent 0 (leBytes 1 t.id ++ leBytes 1 batch.length ++ leBytes 2 0 ++ batch.flatten)))

/-! ### Ports (R369, R370) -/

/-- PORT_LINK_DOWN (R370). -/
def execPortLinkDown (p : Fin 2) (s : State) : Out := .next (s.portDown p)

/-- PORT_LINK_UP (R370). -/
def execPortLinkUp (p : Fin 2) (s : State) : Out := .next (s.portReturns p)

/-- PORT_ENABLE_WRITE (R369). -/
def execPortEnableWrite (p : Fin 2) (w : HostWrite) (s : State) : Out :=
  .next (s.hostWrite (K.portEnable p) w (State.portEnableWrite p w.sess))

end Sys2Proof.Machine
end

