-- ==== Sys2Proof/Machine/PairOps.lean ====
section
/-! DEFINITION. Tick records, their comparison, checkpoints and health bodies of the pair (spec/17, R427 to R440). -/

namespace Sys2Proof.Machine

/-! ### The tick record (Table 17-3) -/

/-- An output port as published by the core that owns it (R161): command ports by 0x00 to 0x02, limit ports by 0x10 to
0x1F. -/
def State.outPort (s : State) (p : Nat) : Int :=
  match s.card.cores.toList.find? (fun c : CoreSt =>
    match c.prog with
    | some g => if p < 3 then g.portsOwned.getLsbD p else g.limitPorts.getLsbD (p - 16)
    | none => false) with
  | some c => Sparse.get zeroDflt c.ports p
  | none => 0

/-- CRC-32 over the cloves fired in the tick, in firing order; 0 with none. -/
def cloveDigest (l : List CloveRef) : BitVec 32 :=
  if l.isEmpty then 0 else crc32 (l.flatMap (fun r => leBytes 2 r.shelf ++ leBytes 1 r.key ++ leBytes 4 r.seq))

/-- Image id in force of a tier, 0 with none. -/
def State.imageInForce (s : State) (fast : Bool) : Nat :=
  match s.resInForce fast with
  | some r => s.getN (K.resImageId r)
  | none => 0

/-- CRC-32 over the program ids and versions of the cores, then the image ids in force. -/
def State.programDigest (s : State) : BitVec 32 :=
  crc32 (s.card.cores.toList.flatMap (fun c : CoreSt =>
      leBytes 4 ((c.prog.map (·.id)).getD 0) ++ leBytes 2 ((c.prog.map (·.version)).getD 0)) ++
    leBytes 4 (s.imageInForce true) ++ leBytes 4 (s.imageInForce false))

/-- The module's own record of the tick under way. -/
def State.tickRecord (s : State) : TickRec := {
  flags := BitVec.ofNat 8 (bitsOf [s.md.pins.maceOut, decide (s.md.mode = .hotStandby), s.md.pins.okOut, s.getB K.pairClaimArmed])
  ft := BitVec.ofNat 64 (s.ft / 1000 * 1000)
  mirrorSeq := BitVec.ofNat 32 (s.getN K.mirrorMirrorSequence)
  cloveDigest := cloveDigest s.pair.fired
  trayCycle := BitVec.ofInt 32 ((s.rack.cycle : Int) - 1)
  trayMap := s.rack.judged
  sweep := BitVec.ofNat 16 (s.getN K.sweepSweepId)
  programDigest := s.programDigest
  feedCarrier := BitVec.ofNat 32 s.pow.feed.carrier
  storageCarrier := BitVec.ofNat 32 s.pow.storage.carrier
  commands := Vector.ofFn (fun i : Fin 3 => BitVec.ofInt 16 (s.outPort i))
  limits := Vector.ofFn (fun i : Fin 16 => BitVec.ofInt 32 (s.outPort (16 + i)))
  selection := BitVec.ofNat 8 (s.getN K.loopStorageSelection) }

/-- Input fields that differ (0x9010.07): mirror, clove, tray, sweep, program (DESIGN CHOICE, notes/assumptions/75). -/
def TickRec.mismatch (a b : TickRec) : Nat :=
  bitsOf [decide (a.mirrorSeq ≠ b.mirrorSeq), decide (a.cloveDigest ≠ b.cloveDigest),
    decide (a.trayCycle ≠ b.trayCycle) || decide (a.trayMap ≠ b.trayMap), decide (a.sweep ≠ b.sweep),
    decide (a.programDigest ≠ b.programDigest)]

/-- W of a limit port, in Q31 of 1,000 kW. -/
def limitWatts (v : BitVec 32) : Int := rheDiv (v.toInt * 1000000) 2147483648

/-- Do two records diverge (R428): a command port by more than its tolerance, or a limit port by more than its own? -/
def TickRec.diverges (a b : TickRec) (command limit : Nat) : Bool :=
  (List.finRange 3).any (fun i : Fin 3 => decide (command < ((a.commands[i]).toInt - (b.commands[i]).toInt).natAbs)) ||
  (List.finRange 16).any (fun i : Fin 16 => decide (limit < (limitWatts a.limits[i] - limitWatts b.limits[i]).natAbs))

/-- The partner's state as its flags show it (0x9000.03). -/
def TickRec.state (r : TickRec) : Nat := if r.flags.getLsbD 0 then 5 else if r.flags.getLsbD 1 then 4 else 3

/-! ### Runs of ticks (R428, R435) -/

/-- A cold standby that has proved step becomes hot (R435). -/
def State.maybeHot (s : State) : State :=
  if s.md.mode = .coldStandby ∧ s.pair.loadedAt.isSome ∧ s.getN K.pairHotThreshold ≤ s.getN K.pairMatchingRun ∧ s.pair.aligned then
    (((s.enterMode .hotStandby).put K.ckptCatchUpAttempts 0).raise0 Cause.pairHot).diagnose
  else s

/-- A tick's input vectors compared: the run of mismatching ticks, or the matching run. -/
def State.countInputs (fields : Nat) (s : State) : State :=
  if fields = 0 then
    let run : Nat := if s.pair.aligned || s.md.pins.maceOut then min 65535 (s.getN K.pairMatchingRun + 1) else 0
    ((s.modPair (fun p => { p with badRun := 0, badSaid := false, missRun := 0, missSaid := false })).put K.pairMatchingRun run).maybeHot
  else
    let old := if s.pair.badRun = 0 then 0 else s.getN K.pairMismatchFields
    let s := ((s.inc64 K.pairInputMismatches).put K.pairMismatchFields (old ||| fields : Nat)).put K.pairMatchingRun 0
    s.modPair (fun p => { p with badRun := p.badRun + 1, missRun := 0, missSaid := false })

/-- A tick's outputs compared: PAIR_DIVERGENCE after the divergence count, PAIR_AGREEMENT after 1,000 ticks within
tolerance. -/
def State.countOutputs (diverges : Bool) (s : State) : State :=
  if diverges then
    let s := (s.inc64 K.pairDivergentTicks).modPair (fun p => { p with divRun := p.divRun + 1, agreeRun := 0 })
    s.when (decide (s.getN K.pairDivergenceCount ≤ s.pair.divRun) && !s.pair.diverged) (fun s =>
      ((s.modPair (fun p => { p with diverged := true })).inc K.pairDivergenceEpisodes).raise0 Cause.pairDivergence)
  else
    let s := s.modPair (fun p => { p with divRun := 0, agreeRun := p.agreeRun + 1 })
    s.when (decide (1000 ≤ s.pair.agreeRun) && s.pair.diverged) (fun s =>
      (s.modPair (fun p => { p with diverged := false })).raise0 Cause.pairAgreement)

/-- Compare the partner's record with the own record of the same tick, once (R428) (DESIGN CHOICE, notes/assumptions/75). -/
def State.compareRecords (own theirs : TickRec) (s : State) : State :=
  let s := s.modPair (fun p => { p with compared := (theirs.ft.toNat :: p.compared).take 64 })
  let s := s.countInputs (own.mismatch theirs)
  s.countOutputs (own.diverges theirs (s.getN K.pairCommandTolerance) (s.getN K.pairLimitTolerance))

/-- Compare the partner's latest record when the own one of its tick is there. -/
def State.tryCompare (s : State) : State :=
  match s.pair.partner with
  | none => s
  | some r =>
    if s.pair.compared.contains r.ft.toNat then s
    else match s.pair.own.find? (fun o : TickRec => decide (o.ft = r.ft)) with
      | some o => s.compareRecords o r
      | none => s

/-! ### Checkpoints (R435, R437) -/

/-- Objects a checkpoint carries beside typed state (Table 17-5): the bus target, reference and sequence; trims and failure
counts; the estimator; budgets, levels and tray states (DESIGN CHOICE, notes/assumptions/92). -/
def inCheckpoint (k : Nat) : Bool :=
  let index := k / 256
  let sub := k % 256
  (decide (index = 0x3000) && [1, 3, 4, 5].contains sub) ||
  (decide (0x3100 ≤ index) && decide (index < 0x3114) && [7, 8, 0x12].contains sub) ||
  decide (index = 0x6200) || (decide (index = 0x6204) && decide (sub < 7)) ||
  (decide (index = 0x7000) && [2, 3, 4, 5, 6, 7, 8, 9, 0x0A].contains sub) ||
  (decide (index = 0x7010) && [3, 4, 5, 6, 7, 8, 9, 0x0A, 0x0B].contains sub) ||
  (decide (0x7040 ≤ index) && decide (index < 0x7080) && [5, 6].contains sub) ||
  (decide (0x7100 ≤ index) && decide (index < 0x7118) && [1, 5, 8, 0x0B].contains sub) ||
  (decide (0x7200 ≤ index) && decide (index < 0x72C0) && [5, 6, 7].contains sub)

/-- The state of Table 17-5 as of the boundary (DESIGN CHOICE, notes/assumptions/92). -/
def State.checkpoint (full : Bool) (s : State) : Checkpoint := {
  boundary := s.ft
  memories := s.card.cores.map (fun c : CoreSt => c.sm)
  ports := s.card.cores.map (fun c : CoreSt => c.ports)
  cloveRegs := s.card.cloveRegs
  loop := s.lp
  refMicro := s.pow.refMicro
  phases := s.pow.phases, feed := s.pow.feed, storage := s.pow.storage
  soc := s.soc
  trays := s.rack.trays, groups := s.rack.groups, loans := s.rack.loans
  objs := s.objs.filter (fun e : Nat × Int => inCheckpoint e.1)
  nextSeq := s.clv.nextSeq
  mirrorSeq := s.getN K.mirrorMirrorSequence
  schedule := if full then some (s.clv.schedule, s.clv.windows) else none }

/-- A converter's state with the standby's own carrier kept: a carrier is aligned under R429, not loaded, and its generator
follows each checkpoint (R114). -/
def ConvSt.loaded (own c : ConvSt) : ConvSt :=
  { c with period := own.period, carrier := own.carrier, align := own.align, dither := own.dither, draws := own.draws }

/-- n steps of the dither generator. -/
def xorshifts : Nat → BitVec 32 → BitVec 32
  | 0, x => x
  | n + 1, x => xorshifts n (xorshift x)

/-- Boundaries of the checkpoint period are marked with the periods each converter has drawn by then (R114). -/
def State.markDraws (s : State) : State :=
  s.when (decide (s.time.mode ≠ .invalid) && decide (s.ft % (s.getN K.ckptCheckpointPeriod * ms) = 0)) (State.modPair (fun p =>
    { p with marks := ({ ft := s.ft, feed := s.pow.feed.draws, storage := s.pow.storage.draws } :: p.marks).take 64 }))

/-- A standby takes the generator states of a checkpoint, those of the periods in force at its boundary, and advances them by
its own carrier boundaries since (R114) (DESIGN CHOICE, notes/assumptions/120). -/
def State.takeDither (c : Checkpoint) (s : State) : State :=
  match s.pair.marks.find? (fun m => decide (m.ft = c.boundary)) with
  | none => s
  | some m =>
    let s := s.modConv .feed (fun x => { x with dither := xorshifts (x.draws - m.feed) c.feed.dither })
    s.modConv .storage (fun x => { x with dither := xorshifts (x.draws - m.storage) c.storage.dither })

/-- Two windows of one source and key: the newer high, and what either has seen (DESIGN CHOICE, notes/assumptions/92). -/
def SeqWindow.join (a b : SeqWindow) : SeqWindow :=
  if seqNewer a.high b.high then { b with seen := b.seen ||| (a.seen <<< (b.high - a.high).toNat) }
  else { a with seen := a.seen ||| (b.seen <<< (a.high - b.high).toNat) }

/-- Windows joined by source and key. -/
def joinWindows (own theirs : List SeqWindow) : List SeqWindow :=
  theirs.map (fun t => match own.find? (fun w => decide (w.shelf = t.shelf) && decide (w.key = t.key)) with
    | some w => t.join w
    | none => t) ++
  own.filter (fun w => !theirs.any (fun t => decide (t.shelf = w.shelf) && decide (t.key = w.key)))

/-- The checkpoint's pending cloves join the schedule: an own clove its windows have seen is a duplicate (R104, R435). -/
def State.mergeSchedule (l : List SchedClove) (ws : List SeqWindow) (s : State) : State :=
  let seen := fun c : Clove => ws.any (fun w => decide (w.shelf = c.shelf) && decide (w.key = c.key.val) && w.dup c.seq)
  let own := s.clv.schedule.filter (fun e => !seen e.clove)
  let s := s.modClv (fun v => { v with windows := joinWindows v.windows ws, schedule := own })
  s.each l (fun e s => s.scheduleClove e.clove e.arrival)

/-- The counter moves to the next block above the one the partner's checkpoint carries, unless it stands above that already
(R103). -/
def State.aboveSequence (n : Nat) (s : State) : State :=
  let top := (n / 65536 + 1) * 65536
  if top ≤ s.clv.nextSeq then s
  else (s.modClv (fun v => { v with
    nextSeq := top % 2 ^ 32, reservedTop := top + 65536, wrapped := v.wrapped || decide (2 ^ 32 ≤ top) })).put
      K.cloveSequenceCounter (top % 2 ^ 32 : Nat)

/-- Put a checkpoint's state in force (R435) (DESIGN CHOICE, notes/assumptions/92 and 111). -/
def State.loadCheckpoint (c : Checkpoint) (s : State) : State :=
  let cores := Vector.ofFn (fun n : Fin 4 => { s.card.cores[n] with sm := c.memories[n], ports := c.ports[n] })
  let s := { s with
    card := { s.card with cores := cores, cloveRegs := c.cloveRegs }
    lp := c.loop, soc := c.soc
    rack := { s.rack with trays := c.trays, groups := c.groups, loans := c.loans } }
  let s := s.modPow (fun w => { w with
    refMicro := c.refMicro, phases := c.phases, feed := w.feed.loaded c.feed, storage := w.storage.loaded c.storage })
  let s := { s with objs := s.objs.filter (fun e : Nat × Int => !inCheckpoint e.1) }
  let s := s.each c.objs (fun e s => s.put e.1 e.2)
  let s := s.aboveSequence c.nextSeq
  let s := s.put K.mirrorMirrorSequence c.mirrorSeq
  match c.schedule with
  | some (l, ws) => s.mergeSchedule l ws
  | none => s

/-- A cold standby with an active partner and a pair link asks for a full checkpoint, at most three times (R435). -/
def State.askCheckpoint (s : State) : State :=
  if s.md.mode = .coldStandby ∧ s.md.pins.maceIn ∧ !s.pairLinks.isEmpty ∧ s.pair.askedAt.isNone ∧ s.pair.loadedAt.isNone ∧
     s.getN K.ckptCatchUpAttempts < 3 then
    ((s.modPair (fun p => { p with askedAt := some s.now, held := none, segments := 0 })).sendPair 5 []).put
      K.ckptCatchUpAttempts (s.getN K.ckptCatchUpAttempts + 1 : Nat)
  else s

/-! ### Mirrors (R430, R431) -/

/-- Does sequence a come before b? -/
def mirrorBefore (a b : Nat) : Bool := decide (a % 2 ^ 32 ≠ b % 2 ^ 32) && decide ((b + 2 ^ 32 - a % 2 ^ 32) % 2 ^ 32 < 2 ^ 31)

/-- Insert a mirror by its sequence. -/
def insertMirror (m : Mirror) : List Mirror → List Mirror
  | [] => [m]
  | x :: rest => if m.seq = x.seq then x :: rest else if mirrorBefore m.seq x.seq then m :: x :: rest else x :: insertMirror m rest

/-- The first sequence from n on that is not among the mirrors. -/
def firstMissing (l : List Mirror) (n : Nat) : Nat :=
  l.foldl (fun n m => if m.seq = n then (n + 1) % 2 ^ 32 else n) n

/-- Carry out a mirrored write and answer it. -/
def State.applyMirror (m : Mirror) (s : State) : State :=
  let v := match Dict.row? m.key with | some r => wireValue r.ty m.value | none => 0
  let r := s.ownWrite m.key { sess := m.sess, bytes := m.value } m.arrival v
  r.1.answerMirror m r.2

/-- A mirror comes into force; one that has acted at once only moves the sequence on. -/
def State.takeEffect (m : Mirror) (s : State) : State :=
  let s := if actsAtOnce m.key then s else s.applyMirror m
  s.put K.mirrorMirrorSequence m.seq

/-- Mirrors in sequence order whose effect boundary has come. -/
def State.dueMirrors (s : State) : List Mirror :=
  s.pair.waiting.takeWhile (fun m => mirrorBefore m.seq (if s.md.pins.maceOut then s.pair.nextSeq else s.pair.awaited) &&
    decide (m.effect ≤ s.ft))

/-- Bring the due mirrors into force (R430). -/
def State.mirrorEffect (s : State) : State :=
  let due := s.dueMirrors
  let s := s.modPair (fun p => { p with waiting := p.waiting.drop due.length })
  s.each due State.takeEffect

/-- Mirrors that have come into order on a standby: one that acts at once acts; one whose E has passed acts at once and is
late (R431). -/
def State.advanceMirrors (s : State) : State :=
  let first := s.pair.awaited
  let next := firstMissing s.pair.waiting first
  let ready := s.pair.waiting.filter (fun m => !mirrorBefore m.seq first && mirrorBefore m.seq next)
  let s := s.modPair (fun p => { p with awaited := next })
  let s := s.each (ready.filter (fun m => actsAtOnce m.key)) State.applyMirror
  let late := (ready.filter (fun m => decide (m.effect < s.ft / 1000 * 1000))).length
  let s := s.when (decide (0 < late)) (fun s => (s.countBy 32 K.mirrorMirrorsLate late).raise0 Cause.mirrorLate)
  s.when (decide (0 < late)) State.mirrorEffect

/-- A gap in the sequence asks for the first missing mirror again (R431) (DESIGN CHOICE, notes/assumptions/120). -/
def State.checkGap (s : State) : State :=
  if s.pair.waiting.any (fun m => mirrorBefore s.pair.awaited m.seq) then
    if s.pair.resendAt.isSome then s
    else (s.modPair (fun p => { p with resendAt := some s.now })).sendPair 3
      (leBytes 2 0 ++ leBytes 4 s.pair.awaited)
  else s.modPair (fun p => { p with resendAt := none })

/-! ### Health (R440, Table 17-7) -/

/-- The worst link and its horizontal margin, over UP links; 255 and 0 with none. -/
def State.worstLink (s : State) : Nat × Nat :=
  s.upLinks.foldl (fun w n =>
    let m := s.getN (K.linkEyeMargin n) % 65536
    if w.1 = 255 ∨ m < w.2 then (n, m) else w) (255, 0)

/-- The 64 bytes of the module's own HEALTH. -/
def State.healthBytes (s : State) : List Byte :=
  let last := s.getN K.ckptLastCheckpoint
  leBytes 1 0x10 ++ leBytes 1 8 ++ leBytes 1 s.md.mode.code ++
  leBytes 1 (bitsOf [s.md.pins.okOut, s.getB K.pairClaimArmed, decide (s.md.mode = .hotStandby)]) ++
  leBytes 4 (s.getN K.healthSelfDiagnosis) ++ leBytes 2 s.md.trimDegraded.toNat ++
  leBytes 1 ((List.range 64).filter (fun t => (s.getN K.safFailedTileMap).testBit t)).length ++
  leBytes 1 s.worstLink.1 ++ leBytes 2 s.worstLink.2 ++ leBytes 2 0 ++ leBytes 8 (s.getN K.rotLastFullPass) ++
  leBytes 8 ((s.pair.scrubAt : Int) + s.time.e).toNat ++ leBytes 4 s.pair.corrected ++ leBytes 4 s.pair.uncorrectable ++
  leBytes 4 (s.getN K.pairDivergenceEpisodes) ++ leBytes 2 (if last = 0 then 0xFFFF else min 0xFFFF (rheNat (s.ft - last) ms)) ++
  leBytes 2 (min 0xFFFF (s.getN K.mirrorMirrorGaps)) ++ leBytes 8 s.ft ++ leBytes 8 0

end Sys2Proof.Machine
end

