-- ==== Sys2Proof/Machine/Pair.lean ====
section
/-! DEFINITION. The commands of the pair: tick records, mirrors, checkpoints, handovers, health, and the mace lines
(spec/17). -/

namespace Sys2Proof.Machine

/-! ### Mace lines and lease (R422 to R425, R49) -/

/-- MACE_IN has been low for the time R54 asks: an armed module takes over, also one that has become cold by R439; another
cold standby claims under R68. -/
def State.maceInLow (s : State) : State :=
  let s := (s.modPins (fun p => { p with maceIn := false })).modPair (fun p => { p with maceInFell := none })
  if s.md.pins.maceOut then s
  else if s.mayTake then s.takeMace
  else if s.md.mode = .coldStandby ∧ (!s.md.pins.slotB ∨ !s.md.pins.peerOk) then s.claim
  else s

/-- MACE_TAKEOVER (R425). -/
def execMaceTakeover (s : State) : Out := .next s.maceInLow

/-- LEASE_EXPIRY (R422): 20 µs without a renewal. -/
def execLeaseExpiry (s : State) : Out :=
  .next (if s.md.pins.maceOut ∧ s.pair.leaseEnd ≤ s.now then s.dropMace else s)

/-- MACE_IN_ASSERTED (R49, R268): the partner holds the mace; a cold standby armed under R68 is so no more (R424). -/
def execMaceInAsserted (s : State) : Out :=
  let s := (s.modPins (fun p => { p with maceIn := true })).modPair (fun p => { p with maceInFell := none })
  if s.md.pins.maceOut then .next s
  else .next ((s.when (decide (s.md.mode = .coldStandby)) (State.armClaim false)).chainRole.sdmYield)

/-! ### Tick records (R427 to R429) -/

/-- TICK_RECORD_SEND (R427). -/
def execTickRecordSend (s : State) : Out :=
  if s.md.mode.serves then
    let r := s.tickRecord
    let s := s.modPair (fun p => { p with own := (r :: p.own).take 64, fired := [] })
    .next ((s.sendPair 1 r.rest).tryCompare)
  else .next s

/-- What a partner's record says (R427, R428): a first copy is compared with the own record of its tick; an active module
that fails self-diagnosis hands over as soon as a hot partner appears (R436). -/
def State.takeTickRecord (r : TickRec) (s : State) : State :=
  if s.pair.compared.contains r.ft.toNat || decide (s.pair.partner = some r) then s
  else
    let s := (((s.modPair (fun p => { p with partner := some r })).put K.pairPartnerState r.state).tryCompare).askCheckpoint
    if s.md.pins.maceOut ∧ s.getN K.healthSelfDiagnosis ≠ 0 then s.releaseSelfDiag (s.getN K.healthSelfDiagnosis) else s

/-- TICK_RECORD (R428). -/
def execTickRecord (body : List Byte) (s : State) : Out :=
  .next (s.pairHear 1 120 body (State.takeTickRecord (TickRec.ofBytes body)))

/-- TICK_RECORD_MISSING (R428): no record of a tick by its FT + 10 µs; it does not match
(DESIGN CHOICE, notes/assumptions/75). -/
def execTickRecordMissing (ft : BitVec 64) (s : State) : Out :=
  let f := ft.toNat
  if s.pair.compared.contains f ∨ s.ft ≤ f + 10000 ∨ !s.md.mode.serves then .next s
  else
    let s := ((s.inc64 K.pairRecordsMissing).inc64 K.pairInputMismatches).put K.pairMatchingRun 0
    let s := s.modPair (fun p => { p with
      compared := (f :: p.compared).take 64, badRun := p.badRun + 1, missRun := p.missRun + 1, divRun := 0, agreeRun := 0 })
    .next (s.when (decide (1000 ≤ s.pair.missRun) && !s.pair.missSaid && !s.pairLinks.isEmpty) (fun s =>
      (s.modPair (fun p => { p with missSaid := true })).raise0 Cause.pairRecordsMissing))

/-- PAIR_INPUT_MISMATCH (R428): mismatches or missing records for 10 ms together. -/
def execPairInputMismatch (s : State) : Out :=
  .next (if 10000 ≤ s.pair.badRun ∧ !s.pair.badSaid then
    (s.modPair (fun p => { p with badSaid := true })).raise Cause.pairInputMismatch (args0 [(s.getN K.pairMismatchFields, 1)])
  else s)

/-- CARRIER_ALIGN_FAIL (R429). -/
def execCarrierAlignFail (s : State) : Out :=
  match s.pair.offSince with
  | some t =>
    .next (if t + 100 * ms ≤ s.now ∧ !s.pair.offSaid ∧ !s.md.pins.maceOut then
      (s.modPair (fun p => { p with offSaid := true })).raise0 Cause.carrierAlignFail else s)
  | none => .next s

/-! ### Mirrors (R430, R431) -/

/-- A part of a mirror arrives; a mirror whose parts are all present joins the others in sequence order. A standby that has
not caught up keeps it for its checkpoint. -/
def State.takeMirrorPart (x : MirrorPart) (s : State) : State :=
  let seq := x.seq.toNat
  if s.md.pins.maceOut || s.pair.waiting.any (fun m => decide (m.seq = seq)) ||
     (s.pair.loadedAt.isSome && mirrorBefore seq s.pair.awaited) then s
  else
    let mine := x :: s.pair.parts.filter (fun y => decide (y.seq = x.seq) && decide (y.part ≠ x.part))
    let parts := x :: s.pair.parts.filter (fun y => !(decide (y.seq = x.seq) && decide (y.part = x.part)))
    if mine.length ≤ x.parts.toNat then s.modPair (fun p => { p with parts := parts })
    else
      let value := (List.range (x.parts.toNat + 1)).flatMap (fun i =>
        ((mine.find? (fun y : MirrorPart => decide (y.part.toNat = i))).map (·.value)).getD [])
      let m : Mirror := { seq := seq, arrival := x.arrival.toNat, effect := x.effect.toNat
                          key := x.index.toNat * 256 + x.sub.toNat, value := value, sess := 0, reply := none }
      let s := s.modPair (fun p => { p with
        parts := parts.filter (fun y => decide (y.seq ≠ x.seq)), waiting := insertMirror m p.waiting })
      if s.pair.loadedAt.isSome then s.advanceMirrors.checkGap else s

/-- MIRROR (R430, R431). -/
def execMirror (body : List Byte) (s : State) : Out :=
  .next (s.pairHear 2 (32 + wordAt body 28 2) body (State.takeMirrorPart (MirrorPart.ofBytes body)))

/-- MIRROR_EFFECT (R430): at an effect boundary, on both modules. A standby still catching up applies none. -/
def execMirrorEffect (s : State) : Out :=
  .next (if s.md.pins.maceOut ∨ s.pair.loadedAt.isSome then s.mirrorEffect else s)

/-- MIRROR_RESEND (R431): the log is sent again from a sequence on (DESIGN CHOICE, notes/assumptions/73 and 120). -/
def execMirrorResend (body : List Byte) (s : State) : Out :=
  .next (s.pairHear 3 8 body (fun s =>
    s.each ((s.pair.log.filter (fun m => !mirrorBefore m.seq (wordAt body 4 4))).reverse) State.sendMirror))

/-- MIRROR_GAP (R431): no answer within 1 ms; a hot standby becomes cold and catches up. -/
def execMirrorGap (s : State) : Out :=
  match s.pair.resendAt with
  | some t =>
    if t + ms ≤ s.now ∧ !s.md.pins.maceOut then
      let s := (s.inc K.mirrorMirrorGaps).raise0 Cause.mirrorGap
      .next (((s.modPair (fun p => { p with resendAt := none, parts := [], waiting := [] })).goCold).armClaim false |>.askCheckpoint)
    else .next s
  | none => .next s

/-! ### Checkpoints and catching up (R435, R437) -/

/-- CHECKPOINT_PERIOD (R437). The size and so the streaming time are free within Table 17-5's worst case
(DESIGN CHOICE, notes/assumptions/74). -/
def execCheckpointPeriod (s : State) : Out :=
  let period := s.getN K.ckptCheckpointPeriod * ms
  if !s.md.pins.maceOut ∨ s.time.mode = .invalid ∨ s.ft % period ≠ 0 then .next s
  else if s.now < s.pair.streamEnd then .next (s.inc K.ckptCheckpointsSkipped)
  else
    let full := s.pair.fullNext
    let size := s.freeNat % (if full then 9437185 else 1048577)
    let c := s.checkpoint full
    let s := s.useFree.modPair (fun p => { p with fullNext := false, streamEnd := s.now + size * 5 / 2 })
    let s := (s.put K.ckptLastCheckpoint s.ft).put K.ckptLastCheckpointSize size
    .next (s.when (!s.pairLinks.isEmpty) (fun s => (s.send (.checkpoint c)).inc K.ckptCheckpointsSent))

/-- CHECKPOINT (R437): a segment arrives, the last one with the whole checkpoint and its CRC-32's verdict. -/
def execCheckpoint (last : Option Checkpoint) (crcOk : Bool) (size : BitVec 32) (s : State) : Out :=
  if s.md.pins.maceOut then .next s
  else match last with
    | none => .next (s.modPair (fun p => { p with segments := p.segments + 1 }))
    | some c =>
      let s := s.modPair (fun p => { p with segments := 0 })
      .next (if crcOk then
        (((s.modPair (fun p => { p with held := some c })).takeDither c).put K.ckptLastCheckpoint c.boundary).put K.ckptLastCheckpointSize size.toNat
      else s)

/-- CHECKPOINT_REQUEST (R435): the next checkpoint is full. -/
def execCheckpointRequest (body : List Byte) (s : State) : Out :=
  .next (s.pairHear 5 2 body (fun s => s.when s.md.pins.maceOut (State.modPair (fun p => { p with fullNext := true }))))

/-- CHECKPOINT_LOADED (R435): a full checkpoint comes into force at a tick boundary, then every mirror whose E lies after
it. -/
def execCheckpointLoaded (s : State) : Out :=
  match s.pair.held with
  | none => .next s
  | some c =>
    if s.md.mode ≠ .coldStandby ∨ s.pair.askedAt.isNone ∨ s.pair.loadedAt.isSome ∨ c.schedule.isNone then .next s
    else
      let s := s.loadCheckpoint c
      let s := s.modPair (fun p => { p with
        loadedAt := some s.now, awaited := (c.mirrorSeq + 1) % 2 ^ 32
        waiting := p.waiting.filter (fun m => decide (c.boundary < m.effect)) })
      let s := (s.put K.pairMatchingRun 0).raise0 Cause.checkpointLoaded
      .next s.advanceMirrors.checkGap

/-- CATCH_UP_TIMEOUT (R435): not hot 10 s after loading. -/
def execCatchUpTimeout (s : State) : Out :=
  match s.pair.loadedAt with
  | some t =>
    if s.md.mode = .coldStandby ∧ t + 10 * sec ≤ s.now then
      let s := s.modPair (fun p => { p with loadedAt := none, askedAt := none })
      .next (if 3 ≤ s.getN K.ckptCatchUpAttempts then s.raise0 Cause.pairSyncFailed else s.askCheckpoint)
    else .next s
  | none => .next s

/-- CATCH_UP_RETRY (R435) (DESIGN CHOICE, notes/assumptions/89). -/
def execCatchUpRetry (sess : Nat) (s : State) : Out :=
  .next (s.hostWrite K.ckptCatchUpRetry (oneByte sess 1) (fun _ s => s.retryCatchUp.askCheckpoint.ok))

/-! ### Planned handover (R432) -/

/-- HANDOVER (R432): the standby answers if it is hot and armed (DESIGN CHOICE, notes/assumptions/120). -/
def execHandover (body : List Byte) (s : State) : Out :=
  .next (s.pairHear 6 12 body (fun s =>
    let d := wordAt body 4 8
    s.when (decide (s.md.mode = .hotStandby) && s.getB K.pairClaimArmed) (fun s =>
      (s.modPair (fun p => { p with handover := some { at_ := d, acked := true, after := .stay } })).sendPair 7
        (leBytes 2 0 ++ leBytes 8 d))))

/-- HANDOVER_ACK (R432) (DESIGN CHOICE, notes/assumptions/120). -/
def execHandoverAck (body : List Byte) (s : State) : Out :=
  .next (s.pairHear 7 12 body (fun s =>
    match s.pair.handover with
    | some h =>
      s.when (s.md.pins.maceOut && decide (h.at_ = wordAt body 4 8)) (State.modPair (fun p =>
        { p with handover := some { h with acked := true } }))
    | none => s))

/-- MACE_HANDOVER_ABORTED (R432): no ACK by D − 20 µs, or the partner is no longer ready to answer
(DESIGN CHOICE, notes/assumptions/91). -/
def execMaceHandoverAborted (s : State) : Out :=
  match s.pair.handover with
  | some h =>
    if s.md.pins.maceOut ∧ !h.acked ∧ (h.at_ ≤ s.ft + 20000 ∨ !s.partnerReady) then
      .next (((s.modPair (fun p => { p with handover := none })).setShutdown .none 0).raise0 Cause.maceHandoverAborted)
    else .next s
  | none => .next s

/-- MACE_HANDOVER_DONE (R432): at D the outgoing module gives up the mace, and stays, halts (R77) or resets (R76); the
standby takes over once MACE_IN has been low for R54's time. -/
def execMaceHandoverDone (s : State) : Out :=
  match s.pair.handover with
  | none => .next s
  | some h =>
    if !h.acked ∨ s.ft < h.at_ then .next s
    else if s.md.pins.maceOut then
      let s := s.handOut
      .next (match h.after with
        | .stay => s
        | .halt => s.halt
        | .reset => s.flushedReset .host)
    else
      let s := (s.modPins (fun p => { p with maceIn := false })).modPair (fun p => { p with maceInFell := none })
      if s.mayTake then .next ((s.takeMace.inc K.pairHandovers).raise0 Cause.maceHandoverDone)
      else .next s

/-- STOP_SHELF_MESSAGE (R77): the partner halts. -/
def execStopShelfMessage (body : List Byte) (s : State) : Out :=
  .next (s.pairHear 9 2 body (fun s => s.when (s.md.mode.serves && !s.md.pins.maceOut) State.halt))

/-! ### Self-diagnosis and health (R433 to R440) -/

/-- SELF_DIAG_FAILURE (R436): the conditions of Table 17-4 as they stand. -/
def execSelfDiagFailure (s : State) : Out := .next (s.selfDiag 0)

/-- HEALTH_SEND (R440). -/
def execHealthSend (s : State) : Out :=
  let b := s.healthBytes
  let s := (s.putBytes K.healthOwnHealth b).modPair (fun p => { p with corrected := 0, uncorrectable := 0 })
  .next (s.sendPair 8 (b.drop 2))

/-- What a HEALTH report says (R440): PARTNER_DEGRADED for a self-diagnosis bit or a trim flag newly set. -/
def State.takeHealth (b : List Byte) (s : State) : State :=
  let diag := wordAt b 4 4
  let trims := wordAt b 8 2 % 512
  let newTrims := trims &&& (trims ^^^ (trims &&& s.pair.seenTrims))
  let s := (s.putBytes K.healthPartnerHealth (b.take 64)).modPair (fun p => { p with
    healthAt := s.now, healthSaid := false, seenTrims := trims })
  s.when (decide (diag ≠ 0) || decide (newTrims ≠ 0)) (State.raise Cause.partnerDegraded (args0 [(diag, 4), (trims, 2)]))

/-- HEALTH (R440): the first copy of a report (R427). -/
def execHealth (body : List Byte) (s : State) : Out :=
  .next (s.pairHear 8 64 body (fun s =>
    s.when (decide (s.getBytes K.healthPartnerHealth 64 ≠ body.take 64)) (State.takeHealth body)))

/-- PARTNER_HEALTH_MISSING (R440): no report for 300 ms, on a shelf with a partner (DESIGN CHOICE, notes/assumptions/90). -/
def execPartnerHealthMissing (s : State) : Out :=
  .next (if s.pair.healthAt + 300 * ms < s.now ∧ !s.pair.healthSaid ∧ s.hasPartner ∧ s.md.mode.serves then
    ((s.modPair (fun p => { p with healthSaid := true })).inc K.healthHealthReportsMissed).raise0 Cause.partnerHealthMissing
  else s)

/-- GDDR7_SCRUB (R434): a pass ends, with the words it corrected and could not, and whether one of the latter stands in the
checkpoint or mirror region (Table 17-4) (DESIGN CHOICE, notes/assumptions/93). -/
def execGddr7Scrub (corrected uncorrectable : BitVec 32) (region : Bool) (s : State) : Out :=
  .next (s.modPair (fun p => { p with
    scrubAt := s.now, corrected := p.corrected + corrected.toNat, uncorrectable := p.uncorrectable + uncorrectable.toNat
    regionBad := region && decide (uncorrectable ≠ 0) })).diagnose

end Sys2Proof.Machine
end

