-- ==== Sys2Proof/Machine/Tick.lean ====
section
/-! DEFINITION. The tick boundary (R19): what every tick does, in the order of one tick (spec/01, Table 1-2). -/

namespace Sys2Proof.Machine

/-! ### Time and readings -/

/-- One hour in units of 1/1,024: the operating hours of 0xF160 count in them. -/
abbrev hourUnit : Nat := 3515625000

/-- Time runs on to the next tick boundary (R19); operating hours count the units passed
(DESIGN CHOICE, notes/assumptions/10). -/
def State.runToTick (s : State) : State :=
  let old := s.now
  let s := { s with time := { s.time with tb := s.time.tb + s.untilTick } }
  s.when (decide (old / hourUnit < s.now / hourUnit)) (State.inc K.moduleOperatingHours)

/-- Contacts and sensors as they read at the boundary. A fall of MACE_IN keeps its time (R54). -/
def State.readings (i : TickInputs) (s : State) : State :=
  let fell := s.md.pins.maceIn && !i.maceIn
  let s := s.modPair (fun p => { p with maceInFell := if i.maceIn then none else if fell then some s.now else p.maceInFell })
  let cage := fun (n : Nat) (c : Cage) => { c with present := i.cagePresent.getLsbD n, int := i.cageInt.getLsbD n }
  let s := (s.modPins (fun p => { p with
    maceIn := i.maceIn, serviceEn := i.serviceEn, tamper := i.tamper, ppsIn := i.ppsIn
    cages := Vector.ofFn (fun n : Fin 2 => cage n.val p.cages[n]) })).sdmYield
  let s := s.when (s.md.pins.ppsOut && decide (ms ≤ s.ft % sec)) (State.modPins (fun p => { p with ppsOut := false }))
  let s := (s.showThermal i.junction.toInt i.inlet.toInt i.outlet.toInt).showPll i.pllLock
  s.refClock i.refClock

/-! ### The input snapshot (R157 to R160, Table 6-4) -/

/-- Q31 of a full scale, saturating. -/
def q31Of (x full : Nat) : Int := sat31 (rheDiv (x * 2 ^ 31 : Nat) full)

/-- Hottest phase of a converter in Q15 of 200 degC. -/
def State.hottest (s : State) (c : Conv) : Int :=
  q15Of ((phasesOf c).foldl (fun (m : Int) (p : Fin 20) => max m (s.phaseTemp p)) (-100000)) 2000

/-- Bits as a 16-bit port reads them. -/
def portBits (l : List Bool) : Int := toSigned 16 (bitsOf l)

/-- State of charge, floor and ceiling as ports 0x46 to 0x48 (R285, R289, R299, R303) (DESIGN CHOICE, notes/assumptions/95). -/
def State.socPorts (s : State) : List (Nat × Int) :=
  let trips := s.getN K.limitLimitState
  let both := trips.testBit 2 || trips.testBit 3
  let low := trips.testBit 0 || both
  let high := trips.testBit 1 || both
  [(0x46, q15Of (s.get K.socStringStateOfCharge) 10000),
   (0x47, q15Of (if low then 10000 else s.get K.socFloorInForce) 10000),
   (0x48, q15Of (if high then 0 else s.get K.socCeilingInForce) 10000)]

/-- Input ports as latched at the boundary (Table 6-4). Ports 0x70 to 0x73 read the notice record a slot took
(DESIGN CHOICE, notes/assumptions/95). -/
def State.inputPorts (s : State) : List (Nat × Int) :=
  allChans.map (fun c : Fin 48 => (c.val, s.get (K.chanControlSample c))) ++
  (List.finRange 16).map (fun r : Fin 16 => (0x30 + r.val, (s.card.cloveRegs[r]).toInt)) ++
  [(0x40, q15Of s.pow.refMicro 1000000000), (0x41, q15Of (s.currentLimit .feed) 2000000),
   (0x42, q15Of (s.currentLimit .storage) 2000000), (0x43, q31Of (s.getN K.ledgerUpRampInForce) sec),
   (0x44, q31Of (s.getN K.ledgerDownRampInForce) sec), (0x45, q31Of (s.getN K.rackRackCapInForce) 1000000)] ++
  s.socPorts ++
  [(0x49, s.hottest .storage), (0x4A, s.hottest .feed),
   (0x60, portBits [s.md.pins.maceOut, s.convRuns .feed, s.convRuns .storage, (s.conv .storage).burst, (s.conv .feed).burst,
      decide (s.getN K.legacyState ≠ 0), (s.conv .feed).soft.isSome, (s.conv .storage).soft.isSome])] ++
  (List.range 3).map (fun w : Nat => (0x61 + w,
    portBits ((List.finRange 16).map (fun b : Fin 16 => !(s.pow.chans.toList.map (·.open_)).getD (16 * w + b.val) true)))) ++
  [(0x64, toSigned 16 (s.ft / 1000)),
   (0x65, portBits ((phasesOf .feed).map (fun p : Fin 20 => decide ((s.phase p).state = .run)))),
   (0x66, portBits ((phasesOf .storage).map (fun p : Fin 20 => decide ((s.phase p).state = .run))))] ++
  allCores.flatMap (fun n : Fin 4 => (List.range 16).map (fun w : Nat =>
    (0x80 + 16 * n.val + w, (s.core n).ports.get zeroDflt (0x20 + w))))

/-- INPUT_SNAPSHOT (R157): every input port, the clove registers and the forecast set in force, at once
(DESIGN CHOICE, notes/assumptions/95). -/
def State.snapshot (s : State) : Snapshot :=
  { ports := s.inputPorts.foldl (fun (m : Sparse) (e : Nat × Int) => m.put zeroDflt e.1 e.2) []
    fv := s.saf.now.isSome
    conf := (s.saf.now.map (·.conf)).getD 0
    forecast := (s.saf.now.map (·.values)).getD []
    diverged := (s.saf.now.map (fun f : ForecastSet => f.status.testBit 1)).getD false
    ffEnable := s.getB K.engineFeedForwardEnable }

def State.takeSnapshot (s : State) : State := { s with card := { s.card with snap := s.snapshot } }

/-! ### The lease (R422, R423) -/

/-- Did every RUNNING core that owns a converter command port end its main evaluation by its deadline? -/
def State.coresMet (s : State) (ended : BitVec 4) : Bool :=
  allCores.all (fun n : Fin 4 =>
    let c := s.core n
    let owns : Bool := match c.prog with | some p => p.owns .feed || p.owns .storage | none => false
    !(decide (c.state = .running) && owns) || ended.getLsbD n.val)

/-- LEASE_RENEWAL (R422): for 20 µs when both conditions held in the tick just ended; the first alone feeds the control
stage for 3 µs (R423). -/
def State.renewLease (i : TickInputs) (s : State) : State :=
  if s.md.pins.maceOut && s.coresMet i.ended then
    s.modPair (fun p => { p with feedEnd := s.now + 3000, leaseEnd := if i.heartbeat then s.now + 20000 else p.leaseEnd })
  else s

/-! ### Carrier alignment (R429) -/

/-- Δ reduced modulo a period into -P/2 to +P/2 (DEDUCED, notes/assumptions/94). -/
def reduced (d : Int) (p : Nat) : Int :=
  let r := d % (p : Int)
  if 2 * r ≤ p then r else r - p

/-- CARRIER_ALIGN (R429): a standby takes its difference from the active module's record of the same boundary, once per
record (DESIGN CHOICE, notes/assumptions/75; DEDUCED, notes/assumptions/94). -/
def State.alignCarriers (s : State) : State :=
  if s.md.pins.maceOut then s else
  match s.pair.partner with
  | none => s
  | some r =>
    if !r.flags.getLsbD 0 || decide (s.pair.alignFrom = r.ft.toNat) then s else
    match s.pair.own.find? (fun o : TickRec => decide (o.ft = r.ft)) with
    | none => s
    | some o =>
      let df := reduced ((o.feedCarrier.toNat : Int) - r.feedCarrier.toNat) (s.conv .feed).period
      let ds := reduced ((o.storageCarrier.toNat : Int) - r.storageCarrier.toNat) (s.conv .storage).period
      let ok := decide (df.natAbs ≤ 4) && decide (ds.natAbs ≤ 4)
      let s := s.modConv .feed (fun x => { x with align := clampInt (-2) 2 df })
      let s := s.modConv .storage (fun x => { x with align := clampInt (-2) 2 ds })
      s.modPair (fun p => { p with
        alignFrom := r.ft.toNat
        aligned := ok
        offSince := if ok then none else some (p.offSince.getD s.now)
        offSaid := if ok then false else p.offSaid })

/-! ### The tick -/

/-- What a tick does on a module whose firmware runs (DESIGN CHOICE, notes/assumptions/11). -/
def State.tickBody (i : TickInputs) (s : State) : State :=
  let s := s.step9.watchGates.watchKeys.stopShelfCap.stopShelfEnd.routesTick
  let s := s.when s.md.safDue (fun s => (s.modMd (fun m => { m with safDue := false })).safApply)
  let s := s.safLoadEnd
  let s := (s.renewLease i).fireDue.safPublish
  let s := s.powerTick
  let s := (s.modConv .feed (fun x => { x with carrier := i.feedCarrier })).modConv .storage
    (fun x => { x with carrier := i.storageCarrier })
  let s := s.legacyTick.socTick
  let s := s.takeSnapshot.expireMarks.safFrame
  let s := s.each allCores State.coreTick
  let s := { s with card := { s.card with prevRegs := s.card.cloveRegs } }
  s.rackTick.alignCarriers.markDraws

/-- TICK_BOUNDARY (R19): the tick under way ends in the cores' windows, the module runs on to the boundary and does what a
tick does; without firmware only time and the
readings move (DESIGN CHOICE, notes/assumptions/10 and 11 and 110). -/
def execTickBoundary (i : TickInputs) (s : State) : Out :=
  let s := s.each allCores (fun n s => (s.coreWindow n).answerWords n)
  let s := (s.runToTick.readings i).haltStep
  let s := s.when i.heartbeat (fun s => s.modMd (fun m => { m with fwFedAt := s.now }))
  .next (if s.md.mode.serves && !s.md.poweredOff && !s.md.heldInReset then (s.tickBody i).diagnose else s.diagnose)

end Sys2Proof.Machine
end

