-- ==== Sys2Proof/Machine/Dispatch.lean ====
section
/-! DEFINITION. The dispatcher: every command to its meaning. -/

namespace Sys2Proof.Machine

/-- Carry out a command on everything but the queue. -/
def exec (i : Instr) (s : State) : Host.Outcome State Fault Refusal :=
  match i with
  | .registerWrite k w => Sys2Proof.Machine.execRegisterWrite k w s
  | .tickBoundary inp => Sys2Proof.Machine.execTickBoundary inp s
  | .startSequence x => Sys2Proof.Machine.execStartSequence x s
  | .startCondition allAbsent => Sys2Proof.Machine.execStartCondition allAbsent s
  | .gatesMet => Sys2Proof.Machine.execGatesMet s
  | .slotBDeferExpiry => Sys2Proof.Machine.execSlotBDeferExpiry s
  | .readinessTimeout => Sys2Proof.Machine.execReadinessTimeout s
  | .startConfirmed => Sys2Proof.Machine.execStartConfirmed s
  | .startTimeout => Sys2Proof.Machine.execStartTimeout s
  | .pinReset => Sys2Proof.Machine.execPinReset s
  | .hostReset sess => Sys2Proof.Machine.execHostReset sess s
  | .resetForce sess => Sys2Proof.Machine.execResetForce sess s
  | .firmwareFatal => Sys2Proof.Machine.execFirmwareFatal s
  | .watchdogControlExpiry => Sys2Proof.Machine.execWatchdogControlExpiry s
  | .watchdogFirmwareExpiry => Sys2Proof.Machine.execWatchdogFirmwareExpiry s
  | .shutdownHandover sess => Sys2Proof.Machine.execShutdownHandover sess s
  | .stopShelf sess => Sys2Proof.Machine.execStopShelf sess s
  | .stopShelfComplete => Sys2Proof.Machine.execStopShelfComplete s
  | .bankRetry w => Sys2Proof.Machine.execBankRetry w s
  | .recoveryRequest => Sys2Proof.Machine.execRecoveryRequest s
  | .recoveryData m => Sys2Proof.Machine.execRecoveryData m s
  | .recoveryImageAccepted hashOk partsOk => Sys2Proof.Machine.execRecoveryImageAccepted hashOk partsOk s
  | .recoverySourceTimeout => Sys2Proof.Machine.execRecoverySourceTimeout s
  | .holdSwitchIn => Sys2Proof.Machine.execHoldSwitchIn s
  | .mainDip => Sys2Proof.Machine.execMainDip s
  | .mainLoss => Sys2Proof.Machine.execMainLoss s
  | .powerFailRestart => Sys2Proof.Machine.execPowerFailRestart s
  | .holdUndervoltage => Sys2Proof.Machine.execHoldUndervoltage s
  | .holdEnergyPublish v12 vaux vhold power => Sys2Proof.Machine.execHoldEnergyPublish v12 vaux vhold power s
  | .holdEnergyLow => Sys2Proof.Machine.execHoldEnergyLow s
  | .mainOutOfRange v12 => Sys2Proof.Machine.execMainOutOfRange v12 s
  | .auxLow vaux => Sys2Proof.Machine.execAuxLow vaux s
  | .trimRaise g code => Sys2Proof.Machine.execTrimRaise g code s
  | .trimLower g code => Sys2Proof.Machine.execTrimLower g code s
  | .junctionWarning t => Sys2Proof.Machine.execJunctionWarning t s
  | .junctionHigh t => Sys2Proof.Machine.execJunctionHigh t s
  | .junctionCritical t => Sys2Proof.Machine.execJunctionCritical t s
  | .junctionClear t => Sys2Proof.Machine.execJunctionClear t s
  | .thermalTrip t => Sys2Proof.Machine.execThermalTrip t s
  | .thermalTripRelease t => Sys2Proof.Machine.execThermalTripRelease t s
  | .coolantFlowLow => Sys2Proof.Machine.execCoolantFlowLow s
  | .coolantInletHigh => Sys2Proof.Machine.execCoolantInletHigh s
  | .refClockLoss => Sys2Proof.Machine.execRefClockLoss s
  | .pllUnlock p => Sys2Proof.Machine.execPllUnlock p s
  | .sdmClockTakeover k => Sys2Proof.Machine.execSdmClockTakeover k s
  | .maceLineConflict => Sys2Proof.Machine.execMaceLineConflict s
  | .maceTakeover => Sys2Proof.Machine.execMaceTakeover s
  | .leaseExpiry => Sys2Proof.Machine.execLeaseExpiry s
  | .ppsOutPulse => Sys2Proof.Machine.execPpsOutPulse s
  | .boundaryScanInstruction x serviceEn => Sys2Proof.Machine.execBoundaryScanInstruction x serviceEn s
  | .tamperDetected x => Sys2Proof.Machine.execTamperDetected x s
  | .announceSend => Sys2Proof.Machine.execAnnounceSend s
  | .announce link neighbour o => Sys2Proof.Machine.execAnnounce link neighbour o s
  | .upstreamLost => Sys2Proof.Machine.execUpstreamLost s
  | .fabricTimeStart => Sys2Proof.Machine.execFabricTimeStart s
  | .timingSyncSend => Sys2Proof.Machine.execTimingSyncSend s
  | .timingSync link v t1 t2 => Sys2Proof.Machine.execTimingSync link v t1 t2 s
  | .delayReqSend t3 => Sys2Proof.Machine.execDelayReqSend t3 s
  | .delayReq link v arrival => Sys2Proof.Machine.execDelayReq link v arrival s
  | .delayResp link v t4 => Sys2Proof.Machine.execDelayResp link v t4 s
  | .timeDegraded => Sys2Proof.Machine.execTimeDegraded s
  | .ptpMessage port domain m => Sys2Proof.Machine.execPtpMessage port domain m s
  | .ppsInEdge stamp => Sys2Proof.Machine.execPpsInEdge stamp s
  | .ppsMismatch => Sys2Proof.Machine.execPpsMismatch s
  | .cloveReceive c stamp => Sys2Proof.Machine.execCloveReceive c stamp s
  | .cloveInject w => Sys2Proof.Machine.execCloveInject w s
  | .cloveInsert => Sys2Proof.Machine.execCloveInsert s
  | .clovePromote r => Sys2Proof.Machine.execClovePromote r s
  | .setReg r => Sys2Proof.Machine.execSetReg r s
  | .rackCap r => Sys2Proof.Machine.execRackCap r s
  | .groupCap r => Sys2Proof.Machine.execGroupCap r s
  | .stepMark r => Sys2Proof.Machine.execStepMark r s
  | .stepMarkExpiry => Sys2Proof.Machine.execStepMarkExpiry s
  | .ledgerLend r => Sys2Proof.Machine.execLedgerLend r s
  | .ledgerReturn r => Sys2Proof.Machine.execLedgerReturn r s
  | .loanExpiry => Sys2Proof.Machine.execLoanExpiry s
  | .sweepStart r => Sys2Proof.Machine.execSweepStart r s
  | .quietWindow r => Sys2Proof.Machine.execQuietWindow r s
  | .cancel c stamp => Sys2Proof.Machine.execCancel c stamp s
  | .carrierBoundary c p => Sys2Proof.Machine.execCarrierBoundary c p s
  | .compareUpdate p pos => Sys2Proof.Machine.execCompareUpdate p pos s
  | .faultInput j asserted at_ stamp => Sys2Proof.Machine.execFaultInput j asserted at_ stamp s
  | .phaseHiccup p => Sys2Proof.Machine.execPhaseHiccup p s
  | .phaseRetry p => Sys2Proof.Machine.execPhaseRetry p s
  | .phaseRetryOk p => Sys2Proof.Machine.execPhaseRetryOk p s
  | .convShortCircuit c => Sys2Proof.Machine.execConvShortCircuit c s
  | .overloadCompare c => Sys2Proof.Machine.execOverloadCompare c s
  | .protectionSample bits at_ => Sys2Proof.Machine.execProtectionSample bits at_ s
  | .busOvRestart => Sys2Proof.Machine.execBusOvRestart s
  | .ovLatchClear sess => Sys2Proof.Machine.execOvLatchClear sess s
  | .busUndervoltage => Sys2Proof.Machine.execBusUndervoltage s
  | .feedUndervoltage => Sys2Proof.Machine.execFeedUndervoltage s
  | .feedOvervoltage => Sys2Proof.Machine.execFeedOvervoltage s
  | .feedRestart => Sys2Proof.Machine.execFeedRestart s
  | .phaseTempShutdown p => Sys2Proof.Machine.execPhaseTempShutdown p s
  | .phaseTempRestart p => Sys2Proof.Machine.execPhaseTempRestart p s
  | .senseSuspect c => Sys2Proof.Machine.execSenseSuspect c s
  | .senseOpen c => Sys2Proof.Machine.execSenseOpen c s
  | .senseOpenClear c => Sys2Proof.Machine.execSenseOpenClear c s
  | .convertersStart => Sys2Proof.Machine.execConvertersStart s
  | .storageConverterStart => Sys2Proof.Machine.execStorageConverterStart s
  | .converterEnableWrite c w => Sys2Proof.Machine.execConverterEnableWrite c w s
  | .voltageTargetWrite w => Sys2Proof.Machine.execVoltageTargetWrite w s
  | .burstEnter c => Sys2Proof.Machine.execBurstEnter c s
  | .burstExit c => Sys2Proof.Machine.execBurstExit c s
  | .feedBurstPacket => Sys2Proof.Machine.execFeedBurstPacket s
  | .shareTrim => Sys2Proof.Machine.execShareTrim s
  | .shareTrimAtLimit p => Sys2Proof.Machine.execShareTrimAtLimit p s
  | .takeOut p sess => Sys2Proof.Machine.execTakeOut p sess s
  | .bringBack p sess => Sys2Proof.Machine.execBringBack p sess s
  | .phaseRejoined p => Sys2Proof.Machine.execPhaseRejoined p s
  | .clearLatch p sess => Sys2Proof.Machine.execClearLatch p sess s
  | .eventSlot n => Sys2Proof.Machine.execEventSlot n s
  | .notice tray step stamp => Sys2Proof.Machine.execNotice tray step stamp s
  | .cardamomOverrun n => Sys2Proof.Machine.execCardamomOverrun n s
  | .nop n => Sys2Proof.Machine.execNop n s
  | .endEval n => Sys2Proof.Machine.execEnd n s
  | .ldk n d imm => Sys2Proof.Machine.execLdk n d imm s
  | .ldi n d p => Sys2Proof.Machine.execLdi n d p s
  | .ldil n a p => Sys2Proof.Machine.execLdil n a p s
  | .ldc n a k => Sys2Proof.Machine.execLdc n a k s
  | .lds n a m => Sys2Proof.Machine.execLds n a m s
  | .sts n a m => Sys2Proof.Machine.execSts n a m s
  | .satd n a d sh => Sys2Proof.Machine.execSatd n a d sh s
  | .out n d p => Sys2Proof.Machine.execOut n d p s
  | .outl n a p => Sys2Proof.Machine.execOutl n a p s
  | .mova n a b => Sys2Proof.Machine.execMova n a b s
  | .clr n a => Sys2Proof.Machine.execClr n a s
  | .mpy n a d k => Sys2Proof.Machine.execMpy n a d k s
  | .mac n a d k => Sys2Proof.Machine.execMac n a d k s
  | .msu n a d k => Sys2Proof.Machine.execMsu n a d k s
  | .macd n a d e => Sys2Proof.Machine.execMacd n a d e s
  | .adda n a b => Sys2Proof.Machine.execAdda n a b s
  | .suba n a b => Sys2Proof.Machine.execSuba n a b s
  | .addd n a d => Sys2Proof.Machine.execAddd n a d s
  | .subd n a d => Sys2Proof.Machine.execSubd n a d s
  | .sha n a sh => Sys2Proof.Machine.execSha n a sh s
  | .abs n a => Sys2Proof.Machine.execAbs n a s
  | .neg n a => Sys2Proof.Machine.execNeg n a s
  | .lim n a k => Sys2Proof.Machine.execLim n a k s
  | .sela n a b q => Sys2Proof.Machine.execSela n a b q s
  | .tsta n a => Sys2Proof.Machine.execTsta n a s
  | .tstp n p b => Sys2Proof.Machine.execTstp n p b s
  | .skipc n q c => Sys2Proof.Machine.execSkipc n q c s
  | .integ n a d k m => Sys2Proof.Machine.execInteg n a d k m s
  | .minsel n a h w m => Sys2Proof.Machine.execMinsel n a h w m s
  | .maxsel n a h w m => Sys2Proof.Machine.execMaxsel n a h w m s
  | .slew n a k m => Sys2Proof.Machine.execSlew n a k m s
  | .lut n a d k => Sys2Proof.Machine.execLut n a d k s
  | .ffw n a k j => Sys2Proof.Machine.execFfw n a k j s
  | .coefficientWrite n w => Sys2Proof.Machine.execCoefficientWrite n w s
  | .coefficientBlockWrite n w => Sys2Proof.Machine.execCoefficientBlockWrite n w s
  | .holdOpen n sess => Sys2Proof.Machine.execHoldOpen n sess s
  | .holdRelease n sess => Sys2Proof.Machine.execHoldRelease n sess s
  | .holdReleased n => Sys2Proof.Machine.execHoldReleased n s
  | .holdAbandon n sess => Sys2Proof.Machine.execHoldAbandon n sess s
  | .holdTimeout n => Sys2Proof.Machine.execHoldTimeout n s
  | .cardamomLoad n sess => Sys2Proof.Machine.execCardamomLoad n sess s
  | .coreSwap n sess => Sys2Proof.Machine.execCoreSwap n sess s
  | .programSwapped n => Sys2Proof.Machine.execProgramSwapped n s
  | .coreStop n sess => Sys2Proof.Machine.execCoreStop n sess s
  | .coreStart n sess => Sys2Proof.Machine.execCoreStart n sess s
  | .clearPending n sess => Sys2Proof.Machine.execClearPending n sess s
  | .coefSave n sess => Sys2Proof.Machine.execCoefSave n sess s
  | .coefDiscard n sess => Sys2Proof.Machine.execCoefDiscard n sess s
  | .cardamomMemCorrected n => Sys2Proof.Machine.execCardamomMemCorrected n s
  | .cardamomMemUncorrectable n => Sys2Proof.Machine.execCardamomMemUncorrectable n s
  | .feedOverdraw => Sys2Proof.Machine.execFeedOverdraw s
  | .capSurplus => Sys2Proof.Machine.execCapSurplus s
  | .storageLimitBinding => Sys2Proof.Machine.execStorageLimitBinding s
  | .socFloorBinding => Sys2Proof.Machine.execSocFloorBinding s
  | .socCeilingBinding => Sys2Proof.Machine.execSocCeilingBinding s
  | .thermalDerate => Sys2Proof.Machine.execThermalDerate s
  | .mv fast stage => Sys2Proof.Machine.execMv fast stage s
  | .convStage fast stage => Sys2Proof.Machine.execConv fast stage s
  | .scan fast stage => Sys2Proof.Machine.execScan fast stage s
  | .gate fast stage => Sys2Proof.Machine.execGate fast stage s
  | .ew fast stage => Sys2Proof.Machine.execEw fast stage s
  | .rmsn fast stage => Sys2Proof.Machine.execRmsn fast stage s
  | .attn stage => Sys2Proof.Machine.execAttn stage s
  | .exch fast stage => Sys2Proof.Machine.execExch fast stage s
  | .saffronFastOverrun => Sys2Proof.Machine.execSaffronFastOverrun s
  | .slowBoundary ended => Sys2Proof.Machine.execSlowBoundary ended s
  | .saffronStreamError => Sys2Proof.Machine.execSaffronStreamError s
  | .saffronSlowReloaded => Sys2Proof.Machine.execSaffronSlowReloaded s
  | .saffronEnableWrite w => Sys2Proof.Machine.execSaffronEnableWrite w s
  | .fastTierRestart => Sys2Proof.Machine.execFastTierRestart s
  | .estimateUntrusted t k => Sys2Proof.Machine.execEstimateUntrusted t k s
  | .estimateTrusted t k => Sys2Proof.Machine.execEstimateTrusted t k s
  | .divChipsClear => Sys2Proof.Machine.execDivChipsClear s
  | .tileSelfTestDone => Sys2Proof.Machine.execTileSelfTestDone s
  | .rotationHandover => Sys2Proof.Machine.execRotationHandover s
  | .saffronTileFailed t selfTest => Sys2Proof.Machine.execSaffronTileFailed t selfTest s
  | .clearFailedWrite w => Sys2Proof.Machine.execClearFailedWrite w s
  | .rotationEnableWrite w => Sys2Proof.Machine.execRotationEnableWrite w s
  | .saffronLoad sess => Sys2Proof.Machine.execSaffronLoad sess s
  | .saffronUnload sess => Sys2Proof.Machine.execSaffronUnload sess s
  | .swapFast sess => Sys2Proof.Machine.execSwapFast sess s
  | .swapSlow sess => Sys2Proof.Machine.execSwapSlow sess s
  | .swapPair sess => Sys2Proof.Machine.execSwapPair sess s
  | .saffronSwapBoundary => Sys2Proof.Machine.execSaffronSwapBoundary s
  | .saffronSwapDone => Sys2Proof.Machine.execSaffronSwapDone s
  | .saffronSwapAborted => Sys2Proof.Machine.execSaffronSwapAborted s
  | .slowTickWrite w => Sys2Proof.Machine.execSlowTickWrite w s
  | .chainMasterChanged => Sys2Proof.Machine.execChainMasterChanged s
  | .chainSync => Sys2Proof.Machine.execChainSync s
  | .sweepPeriodic => Sys2Proof.Machine.execSweepPeriodic s
  | .sweepRequest w => Sys2Proof.Machine.execSweepRequest w s
  | .sweep => Sys2Proof.Machine.execSweep s
  | .sweepResend => Sys2Proof.Machine.execSweepResend s
  | .chainRead fromA u => Sys2Proof.Machine.execChainRead fromA u s
  | .result fromA u frame => Sys2Proof.Machine.execResult fromA u frame s
  | .testResult fromA u frame => Sys2Proof.Machine.execTestResult fromA u frame s
  | .chainResponseTimeout fromA u => Sys2Proof.Machine.execChainResponseTimeout fromA u s
  | .sweepComplete => Sys2Proof.Machine.execSweepComplete s
  | .cellLimitReleased kind => Sys2Proof.Machine.execCellLimitReleased kind s
  | .loopSend => Sys2Proof.Machine.execLoopSend s
  | .chainRestored => Sys2Proof.Machine.execChainRestored s
  | .chainStaleTimeout => Sys2Proof.Machine.execChainStaleTimeout s
  | .enum fromA u => Sys2Proof.Machine.execEnum fromA u s
  | .ident fromA u frame => Sys2Proof.Machine.execIdent fromA u frame s
  | .config fromA u => Sys2Proof.Machine.execConfig fromA u s
  | .balance fromA u cell duration => Sys2Proof.Machine.execBalance fromA u cell duration s
  | .chainTest fromA u switches => Sys2Proof.Machine.execChainTest fromA u switches s
  | .ack u frame => Sys2Proof.Machine.execAck u frame s
  | .chainLoad fromA unit_ offset total data => Sys2Proof.Machine.execChainLoad fromA unit_ offset total data s
  | .sleep unit_ => Sys2Proof.Machine.execSleep unit_ s
  | .loop frame delay => Sys2Proof.Machine.execLoop frame delay s
  | .alert frame => Sys2Proof.Machine.execAlert frame s
  | .balancingInterval => Sys2Proof.Machine.execBalancingInterval s
  | .openWireInterval => Sys2Proof.Machine.execOpenWireInterval s
  | .switchTestInterval => Sys2Proof.Machine.execSwitchTestInterval s
  | .serialAccept sess => Sys2Proof.Machine.execSerialAccept sess s
  | .socRestTaken => Sys2Proof.Machine.execSocRestTaken s
  | .taperTimeout => Sys2Proof.Machine.execTaperTimeout s
  | .quietWindowRequested => Sys2Proof.Machine.execQuietWindowRequested s
  | .socUncertain => Sys2Proof.Machine.execSocUncertain s
  | .quietWindowWrite w => Sys2Proof.Machine.execQuietWindowWrite w s
  | .quietHoldBegin => Sys2Proof.Machine.execQuietHoldBegin s
  | .quietWindowAbandoned => Sys2Proof.Machine.execQuietWindowAbandoned s
  | .quietWindowMissed => Sys2Proof.Machine.execQuietWindowMissed s
  | .testStart sess => Sys2Proof.Machine.execTestStart sess s
  | .testAbort sess => Sys2Proof.Machine.execTestAbort sess s
  | .capacityTestTimeout => Sys2Proof.Machine.execCapacityTestTimeout s
  | .estimateReset sess => Sys2Proof.Machine.execEstimateReset sess s
  | .journalInterval => Sys2Proof.Machine.execJournalInterval s
  | .writeNow sess => Sys2Proof.Machine.execWriteNow sess s
  | .journalWriteStart => Sys2Proof.Machine.execJournalWriteStart s
  | .journalRetry => Sys2Proof.Machine.execJournalRetry s
  | .journalWritten => Sys2Proof.Machine.execJournalWritten s
  | .trayReport t payload stamp => Sys2Proof.Machine.execTrayReport t payload stamp s
  | .trayStatus t payload stamp => Sys2Proof.Machine.execTrayStatus t payload stamp s
  | .trayIdent t payload => Sys2Proof.Machine.execTrayIdent t payload s
  | .stepNotice t payload stamp => Sys2Proof.Machine.execStepNotice t payload stamp s
  | .trayCycleBoundary => Sys2Proof.Machine.execTrayCycleBoundary s
  | .admitTray t => Sys2Proof.Machine.execAdmit t s
  | .flapHoldExpired t => Sys2Proof.Machine.execFlapHoldExpired t s
  | .coolantClear t sess => Sys2Proof.Machine.execCoolantClear t sess s
  | .groupCapRefresh g => Sys2Proof.Machine.execGroupCapRefresh g s
  | .groupRelease g => Sys2Proof.Machine.execGroupRelease g s
  | .groupCapLapse g => Sys2Proof.Machine.execGroupCapLapse g s
  | .ledgerProjection => Sys2Proof.Machine.execLedgerProjection s
  | .rackCapWrite w => Sys2Proof.Machine.execRackCapWrite w s
  | .linkFrameReceive n frame stamp => Sys2Proof.Machine.execLinkFrameReceive n frame stamp s
  | .train n payload => Sys2Proof.Machine.execTrain n payload s
  | .trainDone n payload => Sys2Proof.Machine.execTrainDone n payload s
  | .linkVersion n payload => Sys2Proof.Machine.execLinkVersion n payload s
  | .creditSyncSend => Sys2Proof.Machine.execCreditSyncSend s
  | .creditSync n payload => Sys2Proof.Machine.execCreditSync n payload s
  | .linkDownFlit n payload => Sys2Proof.Machine.execLinkDownFlit n payload s
  | .hello n hello serial chainOk => Sys2Proof.Machine.execHello n hello serial chainOk s
  | .sign n sigOk => Sys2Proof.Machine.execSign n sigOk s
  | .finished n payload => Sys2Proof.Machine.execFinished n payload s
  | .linkTrainFail n => Sys2Proof.Machine.execLinkTrainFail n s
  | .linkAuthFail n reason => Sys2Proof.Machine.execLinkAuthFail n reason s
  | .rekeyStart n => Sys2Proof.Machine.execRekeyStart n s
  | .rekeyHello n hello => Sys2Proof.Machine.execRekeyHello n hello s
  | .rekeySign n sigOk switchAt => Sys2Proof.Machine.execRekeySign n sigOk switchAt s
  | .rekeySwitch n => Sys2Proof.Machine.execRekeySwitch n s
  | .rekeyRetry n => Sys2Proof.Machine.execRekeyRetry n s
  | .linkDown n reason => Sys2Proof.Machine.execLinkDown n reason s
  | .linkBackoffExpiry n => Sys2Proof.Machine.execLinkBackoffExpiry n s
  | .linkEnableWrite n w => Sys2Proof.Machine.execLinkEnableWrite n w s
  | .linkStateFlood => Sys2Proof.Machine.execLinkStateFlood s
  | .linkState n node serial seq peers => Sys2Proof.Machine.execLinkState n node serial seq peers s
  | .linkStateAgeOut => Sys2Proof.Machine.execLinkStateAgeOut s
  | .activate sess => Sys2Proof.Machine.execActivate sess s
  | .routesActivated => Sys2Proof.Machine.execRoutesActivated s
  | .routeClearPending sess => Sys2Proof.Machine.execRouteClearPending sess s
  | .retimerPoll => Sys2Proof.Machine.execRetimerPoll s
  | .sidebandMessage n m => Sys2Proof.Machine.execSidebandMessage n m s
  | .retimerLost n t => Sys2Proof.Machine.execRetimerLost n t s
  | .retimerReset n sess => Sys2Proof.Machine.execRetimerReset n sess s
  | .loopbackOn n sess => Sys2Proof.Machine.execLoopbackOn n sess s
  | .loopbackOff n sess => Sys2Proof.Machine.execLoopbackOff n sess s
  | .eyeMarginRead margins => Sys2Proof.Machine.execEyeMarginRead margins s
  | .linkMarginLow n => Sys2Proof.Machine.execLinkMarginLow n s
  | .clientHello port peer => Sys2Proof.Machine.execClientHello port peer s
  | .openSession h majors minors size keepalive => Sys2Proof.Machine.execOpen h majors minors size keepalive s
  | .closeSession h => Sys2Proof.Machine.execClose h s
  | .readObject h key => Sys2Proof.Machine.execRead h key s
  | .writeObject h key value => Sys2Proof.Machine.execWrite h key value s
  | .readList h keys => Sys2Proof.Machine.execReadList h keys s
  | .describe h key => Sys2Proof.Machine.execDescribe h key s
  | .blockOpen h key write total chunk => Sys2Proof.Machine.execBlockOpen h key write total chunk s
  | .blockData h id offset data => Sys2Proof.Machine.execBlockData h id offset data s
  | .blockAck h id next => Sys2Proof.Machine.execBlockAck h id next s
  | .blockEnd h id crc img => Sys2Proof.Machine.execBlockEnd h id crc img s
  | .transferTimeout sess id => Sys2Proof.Machine.execTransferTimeout sess id s
  | .subscribe h mask excluded => Sys2Proof.Machine.execSubscribe h mask excluded s
  | .event sess => Sys2Proof.Machine.execEvent sess s
  | .eventAck h => Sys2Proof.Machine.execEventAck h s
  | .eventResend sess => Sys2Proof.Machine.execEventResend sess s
  | .eventPushTimeout sess => Sys2Proof.Machine.execEventPushTimeout sess s
  | .stream h start id period phase keys => Sys2Proof.Machine.execStream h start id period phase keys s
  | .telemetry sess id => Sys2Proof.Machine.execTelemetry sess id s
  | .keepalive h => Sys2Proof.Machine.execKeepalive h s
  | .sessionTimeout sess => Sys2Proof.Machine.execSessionTimeout sess s
  | .closeSessionWrite w => Sys2Proof.Machine.execCloseSessionWrite w s
  | .portLinkDown p => Sys2Proof.Machine.execPortLinkDown p s
  | .portLinkUp p => Sys2Proof.Machine.execPortLinkUp p s
  | .portEnableWrite p w => Sys2Proof.Machine.execPortEnableWrite p w s
  | .pfcFrame port prio quanta => Sys2Proof.Machine.execPfcFrame port prio quanta s
  | .ethernetFrame port pcp vlan fcsOk bytes stamp => Sys2Proof.Machine.execEthernetFrame port pcp vlan fcsOk bytes stamp s
  | .queueItemWrite q prio length bytes more stamp => Sys2Proof.Machine.execQueueItemWrite q prio length bytes more stamp s
  | .queueRead q stalling deadline corrected poison => Sys2Proof.Machine.execQueueRead q stalling deadline corrected poison s
  | .stallingReadDeadline q => Sys2Proof.Machine.execStallingReadDeadline q s
  | .pfcRepeat => Sys2Proof.Machine.execPfcRepeat s
  | .queueSpillRefill q => Sys2Proof.Machine.execQueueSpillRefill q s
  | .flush q sess => Sys2Proof.Machine.execFlush q sess s
  | .queueLinkFault q => Sys2Proof.Machine.execQueueLinkFault q s
  | .causeRaised cause subj vals => Sys2Proof.Machine.execCauseRaised cause subj vals s
  | .recordBuild offered => Sys2Proof.Machine.execRecordBuild offered s
  | .recorderFlush => Sys2Proof.Machine.execRecorderFlush s
  | .recorderFlushDone => Sys2Proof.Machine.execRecorderFlushDone s
  | .recorderClear sess => Sys2Proof.Machine.execRecorderClear sess s
  | .tickRecordSend => Sys2Proof.Machine.execTickRecordSend s
  | .tickRecord body => Sys2Proof.Machine.execTickRecord body s
  | .tickRecordMissing ft => Sys2Proof.Machine.execTickRecordMissing ft s
  | .pairInputMismatch => Sys2Proof.Machine.execPairInputMismatch s
  | .carrierAlignFail => Sys2Proof.Machine.execCarrierAlignFail s
  | .mirror body => Sys2Proof.Machine.execMirror body s
  | .mirrorEffect => Sys2Proof.Machine.execMirrorEffect s
  | .mirrorResend body => Sys2Proof.Machine.execMirrorResend body s
  | .mirrorGap => Sys2Proof.Machine.execMirrorGap s
  | .checkpointPeriod => Sys2Proof.Machine.execCheckpointPeriod s
  | .checkpoint last crcOk size => Sys2Proof.Machine.execCheckpoint last crcOk size s
  | .checkpointRequest body => Sys2Proof.Machine.execCheckpointRequest body s
  | .checkpointLoaded => Sys2Proof.Machine.execCheckpointLoaded s
  | .catchUpTimeout => Sys2Proof.Machine.execCatchUpTimeout s
  | .catchUpRetry sess => Sys2Proof.Machine.execCatchUpRetry sess s
  | .handover body => Sys2Proof.Machine.execHandover body s
  | .handoverAck body => Sys2Proof.Machine.execHandoverAck body s
  | .maceHandoverAborted => Sys2Proof.Machine.execMaceHandoverAborted s
  | .maceHandoverDone => Sys2Proof.Machine.execMaceHandoverDone s
  | .stopShelfMessage body => Sys2Proof.Machine.execStopShelfMessage body s
  | .selfDiagFailure => Sys2Proof.Machine.execSelfDiagFailure s
  | .healthSend => Sys2Proof.Machine.execHealthSend s
  | .health body => Sys2Proof.Machine.execHealth body s
  | .partnerHealthMissing => Sys2Proof.Machine.execPartnerHealthMissing s
  | .gddr7Scrub corrected uncorrectable region => Sys2Proof.Machine.execGddr7Scrub corrected uncorrectable region s
  | .modeCommand w => Sys2Proof.Machine.execModeCommand w s
  | .selfTestRun sess => Sys2Proof.Machine.execSelfTestRun sess s
  | .selfTestPassed => Sys2Proof.Machine.execSelfTestPassed s
  | .cryptoSelfTestFailed => Sys2Proof.Machine.execCryptoSelfTestFailed s
  | .zeroise sess => Sys2Proof.Machine.execZeroise sess s
  | .identityCertificateWrite w => Sys2Proof.Machine.execIdentityCertificateWrite w s
  | .anchorsWrite x w => Sys2Proof.Machine.execAnchorsWrite x w s
  | .nonceWrite w => Sys2Proof.Machine.execNonceWrite w s
  | .quoteReady sess => Sys2Proof.Machine.execQuoteReady sess s
  | .measurementExtend reg kind subject id version d => Sys2Proof.Machine.execMeasurementExtend reg kind subject id version d s
  | .commit w => Sys2Proof.Machine.execCommit w s
  | .prefer w => Sys2Proof.Machine.execPrefer w s
  | .imageHeaderArrived u bytes sigOk => Sys2Proof.Machine.execImageHeaderArrived u bytes sigOk s
  | .imageWriteEnd u ok parts body => Sys2Proof.Machine.execImageWriteEnd u ok parts body s
  | .cloveKeyInstall x w => Sys2Proof.Machine.execCloveKeyInstall x w s
  | .keyActivate x sess => Sys2Proof.Machine.execKeyActivate x sess s
  | .keyRetire x sess => Sys2Proof.Machine.execKeyRetire x sess s
  | .keyCommandAct => Sys2Proof.Machine.execKeyCommandAct s
  | .injectionOnce x sess => Sys2Proof.Machine.execInjectionOnce x sess s
  | .injectionContinuous x sess => Sys2Proof.Machine.execInjectionContinuous x sess s
  | .injectionDisarm x sess => Sys2Proof.Machine.execInjectionDisarm x sess s
  | .disarmAll sess => Sys2Proof.Machine.execDisarmAll sess s
  | .serviceEnLow => Sys2Proof.Machine.execServiceEnLow s
  | .injectionAct => Sys2Proof.Machine.execInjectionAct s
  | .injectionReportPeriod => Sys2Proof.Machine.execInjectionReportPeriod s
  | .legacyEnable w => Sys2Proof.Machine.execLegacyEnable w s
  | .legacyEntryWrite x w => Sys2Proof.Machine.execLegacyEntryWrite x w s
  | .legacyActivation => Sys2Proof.Machine.execLegacyActivation s
  | .legacyEntryPlay => Sys2Proof.Machine.execLegacyEntryPlay s
  | .legacySequenceDone => Sys2Proof.Machine.execLegacySequenceDone s
  | .maceInAsserted => Sys2Proof.Machine.execMaceInAsserted s
  | .peerOkChange level => Sys2Proof.Machine.execPeerOkChange level s
  | .timeSourceFailed pps => Sys2Proof.Machine.execTimeSourceFailed pps s
  | .frameSlot n => Sys2Proof.Machine.execFrameSlot n s
  | .dtlsHandshake m => Sys2Proof.Machine.execDtlsHandshake m s

end Sys2Proof.Machine
end

