-- ==== Sys2Proof/Safety.lean ====
section
/-! DEFINITION. The terms the claims use: what it is for a command to answer, for a state's stores to be sound, and for a
command to be one that carries itself out. -/

namespace Sys2Proof.Machine

/-- The command answers a next state, of which P holds. -/
def Does (i : Instr) (s : State) (P : State → Prop) : Prop := ∃ t, exec i s = .next t ∧ P t


/-- Keys of the byte-string objects strictly rise. -/
def rising : List (Nat × List Byte) → Bool
  | [] => true
  | [_] => true
  | (a, _) :: (b, v) :: rest => decide (a < b) && rising ((b, v) :: rest)

/-- The recorder's stores are within their sizes (R413, R415, R417). -/
def RecState.bounded (r : RecState) : Prop := r.staging.length ≤ 64 ∧ r.ring.length ≤ 16384 ∧ r.mram.length ≤ 131072

def State.sane (s : State) : Prop := Sparse.wf Dict.default s.objs = true ∧ rising s.blobs = true ∧ s.rcd.bounded

/-- What no command and nothing it calls undoes: the queue is left alone, no free value is used twice, a message sent stays
sent, and the stores stay sane. -/
structure Keeps (s t : State) : Prop where
  pending : t.pending = s.pending
  free : s.freeCtr ≤ t.freeCtr
  sent : s.outbox <:+ t.outbox
  sane : s.sane → t.sane

/-! ### Host writes (R382) -/

/-- Is an object's write mirrored while a pair link is UP (R383, R430)? -/
def mirroredObject (k : Nat) : Bool := (match Dict.row? k with | some r => r.mirrored | none => false) || actsAtOnce k

/-- A host write passes the checks of R382, and the module applies it alone: the object is not mirrored, or no pair link
mirrors it (R383). -/
def State.takes (s : State) (k : Nat) (w : HostWrite) : Prop :=
  s.checkWrite (s.roleOf w.sess) k w.bytes = 0 ∧ (mirroredObject k && s.mirrors) = false

/-- The same for a command of one byte. -/
def State.takesByte (s : State) (k sess : Nat) (v : Byte) : Prop := s.takes k (oneByte sess v)

/-- Success is the one answer a command sends. -/
def saidOk (s t : State) : Prop := t.outbox = .status 0 :: s.outbox

/-- A 32-bit counter counts by n: below its width it is the sum; beyond it the value is free. -/
def counts (s t : State) (k n : Nat) : Prop := s.get k + n < 2 ^ 32 → t.get k = s.get k + n


/-! ### Cardamom (spec/06) -/

/-- A core that issues instructions: RUNNING, and no SKIPC in effect (R168). -/
def State.issues (s : State) (n : Fin 4) : Prop := (s.core n).state = .running ∧ (s.core n).skip = 0

/-- The bank of the evaluation a core is in. -/
def State.bankOf (s : State) (n : Fin 4) : Bank := (s.core n).bank

/-- The ACC40 range: what an accumulator result is saturated to (R163, R164). -/
def limit40 (x : Int) : Int := max (min x 549755813887) (-549755813888)

/-- A bank whose accumulator a takes the result y, with Z and N from it (Table 6-7). -/
def Bank.result (b : Bank) (a : Fin 8) (y : Int) : Bank :=
  { b with acc := b.acc.set a (BitVec.ofInt 40 y), z := decide (y = 0), n := decide (y < 0) }

/-- A bank whose accumulator a takes x saturated to ACC40, with Z, N and V (R164). -/
def Bank.satResult (b : Bank) (a : Fin 8) (x : Int) : Bank :=
  { b.result a (limit40 x) with v := decide (limit40 x ≠ x) }

/-- A bank whose accumulator a takes x clamped between limits, the upper one first, with Z, N and L (R166). -/
def Bank.clampResult (b : Bank) (a : Fin 8) (x hi lo : Int) : Bank :=
  { b.result a (max (min x hi) lo) with l := decide (max (min x hi) lo ≠ x) }

/-- Port writes of the evaluation a core is in that wait for its END (Table 6-5). -/
def CoreSt.awaitsEnd (c : CoreSt) : List (Nat × Int) := if c.inHandler then c.unpublishedH else c.unpublished

/-- Does a write of an output port act at once: a command port or an exchange word (Table 6-5)? -/
def actsNow (p : Nat) : Bool := decide (p < 2) || (decide (0x20 ≤ p) && decide (p < 0x30))

/-- Words in order into a store of words. -/
def putWords (m : Sparse) (ws : List (Nat × Int)) : Sparse := ws.foldl (fun m e => m.put zeroDflt e.1 e.2) m

/-- An instruction leaves a core's bank as given. -/
def BankIs (i : Instr) (s : State) (n : Fin 4) (b : Bank) : Prop := Does i s (fun t => t.bankOf n = b)

/-- The command that issues an instruction on a core. -/
def rowOf (n : Fin 4) : CInstr → Instr
  | .nop => .nop n
  | .endEval => .endEval n
  | .ldk d imm => .ldk n d imm
  | .ldi d p => .ldi n d p
  | .ldil a p => .ldil n a p
  | .ldc a k => .ldc n a k
  | .lds a m => .lds n a m
  | .sts a m => .sts n a m
  | .satd a d sh => .satd n a d sh
  | .out d p => .out n d p
  | .outl a p => .outl n a p
  | .mova a b => .mova n a b
  | .clr a => .clr n a
  | .mpy a d k => .mpy n a d k
  | .mac a d k => .mac n a d k
  | .msu a d k => .msu n a d k
  | .macd a d e => .macd n a d e
  | .adda a b => .adda n a b
  | .suba a b => .suba n a b
  | .addd a d => .addd n a d
  | .subd a d => .subd n a d
  | .sha a sh => .sha n a sh
  | .abs a => .abs n a
  | .neg a => .neg n a
  | .lim a k => .lim n a k
  | .sela a b q => .sela n a b q
  | .tsta a => .tsta n a
  | .tstp p b => .tstp n p b
  | .skipc q c => .skipc n q c
  | .integ a d k m => .integ n a d k m
  | .minsel a h w m => .minsel n a h w m
  | .maxsel a h w m => .maxsel n a h w m
  | .slew a k m => .slew n a k m
  | .lut a d k => .lut n a d k
  | .ffw a k j => .ffw n a k j

/-- State words an instruction writes (R168 to R172). -/
def storeSet : CInstr → List Nat
  | .sts _ m | .integ _ _ _ m | .slew _ _ m => [m.val]
  | .minsel _ _ w m | .maxsel _ _ w m =>
    ((List.finRange 8).filter (fun i : Fin 8 => w.getLsbD i.val)).map (fun i => m.val + 2 * i.val + 1)
  | _ => []

/-- Does an instruction write a command port (Table 6-5)? -/
def writesCommand : CInstr → Bool
  | .out _ p => decide (p.val < 2)
  | .outl _ p => decide (p.val < 2)
  | _ => false

/-! ### The cell chain (spec/10) -/

/-- The line of a frame that leaves next: type, hop, flags, payload, under the next sequence number (Table 10-1, R269). -/
def State.chainLine (s : State) (type hop flags : Nat) (payload : List Byte) : List Bool :=
  ({ type := type, hop := hop, flags := flags, seq := s.chn.nextSeq, payload := payload } : ChainFrame).line

/-- One chain frame without flags is sent: end, type, hop, payload. -/
def chainSent (s t : State) (fromA : Bool) (type hop : Nat) (payload : List Byte) : Prop :=
  t.outbox = .chain fromA (s.chainLine type hop 0 payload) :: s.outbox

/-- A received frame passes the checks of R270 and has a type and a payload of a length (R271). -/
def heard (b : List Byte) (type len : Nat) (f : ChainFrame) : Prop :=
  ChainFrame.ofBytes b = some f ∧ f.type = type ∧ f.payload.length = len

/-- An unsent sweep of a kind is planned by clove or host at the first tick boundary its lead allows after an FT (R280). -/
def sweepPlanned (s t : State) (kind at_ : Nat) : Prop :=
  ∃ x ∈ t.chn.sweeps, x.kind = kind ∧ x.periodic = false ∧ x.sent = false ∧ x.sample % 1000 = 0 ∧
    at_ + s.leadOf (s.kindFilter kind) ≤ x.sample ∧ x.sample < at_ + s.leadOf (s.kindFilter kind) + 1000

/-- One frame is broadcast: from CHA, and under the next number from CHB too while the ring is broken (R280, R287). -/
def broadcastSent (s t : State) (type : Nat) (payload : List Byte) : Prop :=
  t.outbox = (if s.chainIs 3 || s.chainIs 4 then
      [OutMsg.chain false (({ type := type, hop := 0, flags := 0, seq := (s.chn.nextSeq + 1) % 65536, payload := payload } :
        ChainFrame).line)]
    else []) ++ .chain true (s.chainLine type 0 0 payload) :: s.outbox

/-! ### Cloves and time (spec/04) -/

/-- A scheduled clove of an action, named by its reference, on the die once what is due there has moved, fires in the tick
under way (R107, R108). -/
def State.fires (s : State) (r : CloveRef) (code : Nat) (c : Clove) : Prop :=
  ∃ e, s.promoteDue.scheduled? r = some e ∧ e.clove = c ∧ e.onDie = true ∧ c.action.toNat = code ∧ c.fireFt.toNat < s.ft + 1000

/-- The state in which a scheduled clove fires: those before it in the order of R109 have fired. -/
def State.turnOf (s : State) (r : CloveRef) : State :=
  s.promoteDue.each (upTo r s.promoteDue.clv.schedule).dropLast State.fireScheduled

/-- A clove that fired has left the schedule and is told to the partner. -/
def gone (r : CloveRef) (t : State) : Prop := (∀ e ∈ t.clv.schedule, e.clove.ref ≠ r) ∧ r ∈ t.pair.fired

/-- Success is the last answer sent. -/
def saidLast (s t : State) : Prop := ∃ l, t.outbox = .status 0 :: (l ++ s.outbox)

/-- Link n has a timing flit with this payload in line behind what waited. -/
def timingQueued (s t : State) (n : Fin 32) (payload : List Byte) : Prop :=
  (t.link n).timing = (s.link n).timing ++ [mkFlit flitTiming 0 s.sourceNode 0 payload]

/-! ### Answers (spec/14) -/

/-- One answer is sent, a refusal with this status, and the refusal is counted. -/
def refusedWith (s t : State) (status : Nat) : Prop := t.outbox = .status status :: s.outbox ∧ counts s t K.sessRequestsRefused 1

/-- The number a write carries, least-significant byte first. -/
def HostWrite.num (w : HostWrite) : Nat := leNat w.bytes

/-! ### Saffron (spec/08, spec/09) -/

/-- Stage n of a tier's image in force may run: its record, its operator. -/
def State.stageIs (s : State) (fast : Bool) (n op : Nat) (i : SafImage) (st : SafStage) : Prop :=
  (if fast then s.fastImg else s.slowImg) = some i ∧ i.stages[n]? = some st ∧ st.op = op ∧
  (if fast then s.fastRuns else s.slowRuns) = true

/-- What the tier's stages read. -/
def State.tierEnv (s : State) (fast : Bool) (i : SafImage) : StageEnv :=
  s.stageEnv i (if fast then s.saf.featNow else s.saf.slowFeat.getD [])

/-- The place an element of a stage's output is written to, read there (Table 9-7). -/
def outEl (env : StageEnv) (m : SafMem) (r : BitVec 32) (tile e l : Nat) : Int :=
  match refSpace r with
  | 2 => m.exch.get zeroDflt (env.exchBase + refOffset r + e)
  | 3 => m.q15 tile env.param (2 * (refOffset r + l))
  | 4 => m.ctxNext.get zeroDflt (refOffset r + e)
  | _ => m.outVec.get zeroDflt (refOffset r + e)

/-- The Q15 range (R163). -/
def limit15 (x : Int) : Int := max (min x 32767) (-32768)

/-- A stage leaves a vector of d1 elements in a writable output that lies within a tile's memory. -/
def stageGives (env : StageEnv) (st : SafStage) (t : State) (y : Nat → Int) : Prop :=
  2 ≤ refSpace st.out → refSpace st.out ≤ 5 → 0 < st.count → refOffset st.out + st.per st.d1 ≤ 786432 →
  ∀ e < st.d1, outEl env t.saf.mem st.out (st.tileOf st.d1 e) e (st.localOf st.d1 e) = y e

/-- Element e of a stage's input. -/
def stageIn (env : StageEnv) (st : SafStage) (s : State) (r : BitVec 32) (e : Nat) : Int :=
  readEl env s.saf.mem r (st.tileOf st.d1 e) e (st.localOf st.d1 e)

/-! ### Links (spec/13) -/

/-- One frame leaves on a link. -/
def framed (s t : State) (n : Fin 32) : Prop := ∃ b, t.outbox = .frame n b :: s.outbox

/-- An attempt to bring link n up has failed with a reason: BACKOFF, without keys (R355, Table 13-9). -/
def failedUp (t : State) (n : Fin 32) (reason : Nat) : Prop :=
  t.linkStateOf n = 6 ∧ t.getN (K.linkLastDownReason n) = reason ∧ (t.link n).keys = none

/-- Link n has gone down with a reason: DOWN by its Enable, else BACKOFF, and counted (R354). -/
def downed (s t : State) (n : Fin 32) (reason : Nat) : Prop :=
  t.linkStateOf n = (if reason = 6 then 1 else 6) ∧ t.getN (K.linkLastDownReason n) = reason ∧ counts s t (K.linkLinkDowns n) 1

/-- A CONTROL or AUTH payload of this major and of a kind (Table 13-6, R352). -/
def payloadIs (b : List Byte) (kind : Nat) : Prop := wordAt b 0 1 / 16 = 1 ∧ wordAt b 1 1 = kind

/-! ### Requests of a session (spec/14) -/

/-- A new request of an open session, with a body of some bytes, arrives over a port whose link is up, in the form and within
the size of a message (R370, R373 to R375, R379). -/
def State.asks (s : State) (h : ReqHdr) (x : Session) (len : Nat) : Prop :=
  s.session? h.sess = some x ∧ s.portCarries h.port = true ∧ h.fits false = true ∧ 16 + len ≤ x.msgSize ∧
  x.kept.find? (fun r : Resp => decide (r.reqId = h.reqId.toNat)) = none ∧ s.inFlight h.sess h.reqId.toNat = false

/-- The response to a request is what the command sends last, to where the request came from: message type, status, bodies
(R376, R378). -/
def answered (s t : State) (h : ReqHdr) (type status : Nat) (bodies : List (List Byte)) : Prop :=
  ∃ l d, d.sess = h.sess ∧ d.port = h.port.val ∧ d.peer = h.peer.toNat ∧ d.udp = h.udp.toNat ∧
    t.outbox = (respMsgs type h.reqId.toNat status bodies).reverse.map (OutMsg.host d) ++ (l ++ s.outbox)

/-- A session is open, and P holds of it. -/
def State.hasSession (s : State) (sess : Nat) (P : Session → Prop) : Prop := ∃ y, s.session? sess = some y ∧ P y

/-- Where a message back to the sender of one goes, under the PCP of a kind of traffic (R371, R376). -/
def State.backTo (s : State) (h : ReqHdr) (k : Traffic) : HostDest :=
  { sess := h.sess, port := h.port, pcp := s.pcpOf k h.port, peer := h.peer.toNat, udp := h.udp.toNat }

/-! ### Pair messages (spec/17) -/

/-- A pair message of this major, of a kind, as long as its body (R427). -/
def pairIs (b : List Byte) (kind len : Nat) : Prop := wordAt b 0 1 / 16 = 1 ∧ wordAt b 1 1 = kind ∧ len ≤ b.length

/-- A pair message of a kind as it leaves: every pair link that is UP, its queue priority, version, kind, the rest. -/
def State.pairMsg (s : State) (kind : Nat) (rest : List Byte) : OutMsg :=
  .pair s.pairLinks (pairPrio kind) ([0x10, BitVec.ofNat 8 kind] ++ rest)

/-! ### Start and resets (spec/03) -/

/-- A reset of a kind has begun: the module stands in the ROM with MACE_OUT and OK_OUT low and no session, and shows kind and
cause (R72, Table 3-5). -/
def resetTo (t : State) (kind cause : Nat) : Prop :=
  t.md.mode = .rom ∧ t.md.pins.maceOut = false ∧ t.md.pins.okOut = false ∧ t.host.sessions = [] ∧
  t.getN K.moduleLastResetKind = kind ∧ t.getN K.moduleLastResetCause = cause

/-- The module holds the mace as the active module (R425). -/
def State.holdsMace (t : State) : Prop := t.md.pins.maceOut = true ∧ t.md.mode = .active

/-- Nothing but MACE_IN keeps the module from claiming the mace (R54, R424). -/
def State.mayClaim (s : State) : Prop :=
  s.diagBits = 0 ∧ s.securityState = 0 ∧ s.md.pins.maceOut = false ∧ s.md.pins.maceIn = false ∧ s.pair.maceInFell = none ∧
  s.md.poweredOff = false ∧ s.md.heldInReset = false

/-- The bank passes the checks of R63. -/
def ModState.bankRuns (m : ModState) (b : Bool) : Prop :=
  (m.bank b).state = .valid ∧ (m.bank b).magicOk = true ∧ (m.bank b).sigOk = true ∧ (m.bank b).hashOk = true ∧
  m.fwCounter ≤ (m.bank b).rollback

/-! ### Commands that leave the control of power alone -/

/-- Engines, converters, chain, estimate, rack, loops, cloves, time, links and keys are as they were. -/
structure SameControl (s t : State) : Prop where
  card : t.card = s.card
  pow : t.pow = s.pow
  saf : t.saf = s.saf
  soc : t.soc = s.soc
  rack : t.rack = s.rack
  chn : t.chn = s.chn
  lp : t.lp = s.lp
  leg : t.leg = s.leg
  clv : t.clv = s.clv
  time : t.time = s.time
  fab : t.fab = s.fab
  cry : t.cry = s.cry

/-- Requests that read, subscriptions and pushes, telemetry, the queues, the recorder, health and checkpoints, and readings
of the supplies. -/
def observes : Instr → Bool
  | .clientHello .. | .openSession .. | .keepalive .. | .readObject .. | .readList .. | .describe .. | .blockData ..
  | .blockAck .. | .subscribe .. | .event .. | .eventAck .. | .eventResend .. | .stream .. | .telemetry .. => true
  | .pfcFrame .. | .ethernetFrame .. | .queueItemWrite .. | .queueRead .. | .stallingReadDeadline .. | .pfcRepeat
  | .queueSpillRefill .. => true
  | .causeRaised .. | .recordBuild .. | .recorderFlush => true
  | .healthSend | .health .. | .partnerHealthMissing | .gddr7Scrub .. | .checkpointPeriod | .checkpoint none _ _
  | .checkpointRequest .. => true
  | .holdEnergyPublish .. | .holdEnergyLow | .mainOutOfRange .. | .auxLow .. | .trimRaise .. | .trimLower ..
  | .coolantFlowLow | .coolantInletHigh => true
  | _ => false

end Sys2Proof.Machine
end

