-- ==== Sys2Proof/Certificates/Slice0/Obligations.lean ====
section
/-! DEFINITION. The statements for the provers. -/

open Sys2Proof Sys2Proof.Machine

/-- O1. On a RUNNING core that skips nothing, LDK, LDI, LDIL, LDC, LDS, MOVA, CLR, SELA, TSTA and TSTP answer a next
state in which the bank of the evaluation is the old one but for the destination and the flags Table 6-8 lists;
SKIPC sets how many instructions are skipped exactly when its condition holds, and NOP leaves the bank alone.
Its conclusions say that exec answers a next state, with the effect, for: NOP, LDK, LDI, LDIL, LDC, LDS, MOVA,
CLR, SELA, TSTA, TSTP, SKIPC. (06_cardamom_engine.md, R168, R157) -/
def Obligations.CardamomMovesLoadTheirOperand : Prop :=
  ∀ (s : State) (n : Fin 4), s.issues n →
    let c := s.core n
    let b := s.bankOf n
    let f := s.card.snap
    BankIs (.nop n) s n b ∧
    (∀ d imm, BankIs (.ldk n d imm) s n { b with dat := b.dat.set d imm }) ∧
    (∀ d p, BankIs (.ldi n d p) s n { b with dat := b.dat.set d (BitVec.ofNat 16 (c.inBits f p)) }) ∧
    (∀ a p, BankIs (.ldil n a p) s n (b.result a
      (if wideIn p then toSigned 32 (c.inBits f p) else toSigned 16 (c.inBits f p) * 65536))) ∧
    (∀ a k, BankIs (.ldc n a k) s n (b.result a (c.coefI k))) ∧
    (∀ a m, BankIs (.lds n a m) s n (b.result a (c.smI m))) ∧
    (∀ a e : Fin 8, BankIs (.mova n a e) s n (b.result a (c.accI e))) ∧
    (∀ a, BankIs (.clr n a) s n (b.result a 0)) ∧
    (∀ (a e : Fin 8) q, BankIs (.sela n a e q) s n
      (if c.cond f.fv q then { b with acc := b.acc.set a b.acc[e] } else b)) ∧
    (∀ a, BankIs (.tsta n a) s n { b with z := decide (c.accI a = 0), n := decide (c.accI a < 0) }) ∧
    (∀ p i, BankIs (.tstp n p i) s n { b with t := (c.inBits f p).testBit i }) ∧
    (∀ q (k : BitVec 4), Does (.skipc n q k) s (fun t => t.bankOf n = b ∧
      (t.core n).skip = if c.cond f.fv q then k.toNat else 0))

/-- O2. On a RUNNING core that skips nothing, MPY, MAC, MSU, MACD, ADDA, SUBA, ADDD, SUBD, SHA, ABS and NEG answer a
next state whose bank is the old one with the destination accumulator at the product or sum of Table 6-8,
products rounded half-even to Q31, sums saturated to ACC40 with V set exactly when the saturation changed the
value; SATD stores the accumulator times 2^(sh - 16), rounded and saturated to Q15. Its conclusions say that
exec answers a next state, with the effect, for: MPY, MAC, MSU, MACD, ADDA, SUBA, ADDD, SUBD, SHA, ABS, NEG,
SATD. (06_cardamom_engine.md, R164, R165, R168) -/
def Obligations.CardamomArithmeticRoundsAndSaturates : Prop :=
  ∀ (s : State) (n : Fin 4), s.issues n →
    let c := s.core n
    let b := s.bankOf n
    (∀ a d k, BankIs (.mpy n a d k) s n (b.result a (rheDiv (c.datI d * c.coefI k) 32768))) ∧
    (∀ a d k, BankIs (.mac n a d k) s n (b.satResult a (c.accI a + rheDiv (c.datI d * c.coefI k) 32768))) ∧
    (∀ a d k, BankIs (.msu n a d k) s n (b.satResult a (c.accI a - rheDiv (c.datI d * c.coefI k) 32768))) ∧
    (∀ a d e, BankIs (.macd n a d e) s n (b.satResult a (c.accI a + 2 * (c.datI d * c.datI e)))) ∧
    (∀ a e : Fin 8, BankIs (.adda n a e) s n (b.satResult a (c.accI a + c.accI e))) ∧
    (∀ a e : Fin 8, BankIs (.suba n a e) s n (b.satResult a (c.accI a - c.accI e))) ∧
    (∀ a d, BankIs (.addd n a d) s n (b.satResult a (c.accI a + c.datI d * 65536))) ∧
    (∀ a d, BankIs (.subd n a d) s n (b.satResult a (c.accI a - c.datI d * 65536))) ∧
    (∀ a (sh : BitVec 4), BankIs (.sha n a sh) s n (b.satResult a
      (if 0 ≤ sh.toInt then c.accI a * (2 ^ sh.toInt.toNat : Nat) else rheDiv (c.accI a) (2 ^ (-sh.toInt).toNat)))) ∧
    (∀ a, BankIs (.abs n a) s n (b.satResult a (if c.accI a < 0 then -c.accI a else c.accI a))) ∧
    (∀ a, BankIs (.neg n a) s n (b.satResult a (-c.accI a))) ∧
    (∀ a d (sh : BitVec 4), BankIs (.satd n a d sh) s n
      (let x := rheDiv (c.accI a) (2 ^ (16 - sh.toInt).toNat)
       let y := max (min x 32767) (-32768)
       { b with dat := b.dat.set d (BitVec.ofInt 16 y), v := decide (y ≠ x) }))

/-- O3. On a RUNNING core that skips nothing: STS puts the accumulator in its state word; OUT and OUTL put the
value, OUTL saturated to Q31 with V, on a command port or an exchange word at once and on any other port among
the writes of their evaluation that wait for END; END publishes the waiting writes in order and ends the
evaluation. Its conclusions say that exec answers a next state, with the effect, for: STS, OUT, OUTL, END.
(06_cardamom_engine.md, R161, R162, R165, R168) -/
def Obligations.CardamomStoresReachPortsAndStateMemory : Prop :=
  ∀ (s : State) (n : Fin 4), s.issues n →
    let c := s.core n
    let b := s.bankOf n
    (∀ a m, Does (.sts n a m) s (fun t => t.bankOf n = b ∧ (t.core n).sm = c.sm.put zeroDflt m.val (c.accI a))) ∧
    (∀ d (p : Fin 64), Does (.out n d p) s (fun t => t.bankOf n = b ∧
      (if actsNow p then (t.core n).ports = c.ports.put zeroDflt p.val (c.datI d) ∧ (t.core n).awaitsEnd = c.awaitsEnd
       else (t.core n).ports = c.ports ∧ (t.core n).awaitsEnd = c.awaitsEnd ++ [(p.val, c.datI d)]))) ∧
    (∀ a (p : Fin 64), Does (.outl n a p) s (fun t =>
      let y := max (min (c.accI a) 2147483647) (-2147483648)
      t.bankOf n = { b with v := decide (y ≠ c.accI a) } ∧
      (if actsNow p then (t.core n).ports = c.ports.put zeroDflt p.val y ∧ (t.core n).awaitsEnd = c.awaitsEnd
       else (t.core n).ports = c.ports ∧ (t.core n).awaitsEnd = c.awaitsEnd ++ [(p.val, y)]))) ∧
    Does (.endEval n) s (fun t => (t.core n).inHandler = false ∧ (t.core n).ports = putWords c.ports c.awaitsEnd ∧
      (if c.inHandler then (t.core n).unpublishedH = [] ∧ (t.core n).unpublished = c.unpublished
       else (t.core n).unpublished = [] ∧ (t.core n).unpublishedH = c.unpublishedH))

/-- O4. On a RUNNING core that skips nothing: LIM clamps to C[K], then C[K+1]; INTEG adds the rounded drive and
tracking products to its state word, saturates, clamps, and leaves the result in the word and the accumulator;
SLEW moves its state word towards the accumulator by at most the rates, which are never below zero, with AT and
L; LUT interpolates its 33-word table; FFW adds the forecast value times gain times gate, the gate being zero
without a valid set, on divergence or with feed-forward off. Its conclusions say that exec answers a next state,
with the effect, for: LIM, INTEG, SLEW, LUT, FFW. (06_cardamom_engine.md, R166, R169, R172, R173, R174) -/
def Obligations.CardamomClampsAndIntegrates : Prop :=
  ∀ (s : State) (n : Fin 4), s.issues n →
    let c := s.core n
    let b := s.bankOf n
    let f := s.card.snap
    (∀ a (k : Fin 1024), BankIs (.lim n a k) s n (b.clampResult a (c.accI a) (c.coefI k) (c.coefI (k.val + 1)))) ∧
    (∀ a d (k : Fin 1024) (m : Fin 512), Does (.integ n a d k m) s (fun t =>
      let raw := c.smI m + rheDiv (c.datI d * c.coefI k) 32768 + rheDiv (c.smI (m.val + 1) * c.coefI (k.val + 1)) 2147483648
      let y := max (min (limit40 raw) (c.coefI (k.val + 2))) (c.coefI (k.val + 3))
      t.bankOf n = { b.clampResult a (limit40 raw) (c.coefI (k.val + 2)) (c.coefI (k.val + 3)) with
        v := decide (limit40 raw ≠ raw) } ∧
      (t.core n).sm = c.sm.put zeroDflt m.val (limit40 y))) ∧
    (∀ a (k : Fin 1024) (m : Fin 512), Does (.slew n a k m) s (fun t =>
      let d := c.accI a - c.smI m
      let up := max (c.coefI k) 0
      let dn := max (c.coefI (k.val + 1)) 0
      let y := if up < d then c.smI m + up else if d < -dn then c.smI m - dn else c.accI a
      let reached := decide (-dn ≤ d) && decide (d ≤ up)
      t.bankOf n = { b.result a y with l := !reached, at_ := reached } ∧
      (t.core n).sm = c.sm.put zeroDflt m.val (limit40 y))) ∧
    (∀ a d (k : Fin 1024), BankIs (.lut n a d k) s n
      (let u := (c.datI d + 32768).toNat
       let lo := c.coefI (k.val + u / 2048)
       b.result a (lo + rheDiv ((c.coefI (k.val + u / 2048 + 1) - lo) * (u % 2048 : Nat)) 2048))) ∧
    (∀ a (k : Fin 1024) (j : Fin 64), BankIs (.ffw n a k j) s n
      (let g := if f.fv = true ∧ f.diverged = false ∧ f.ffEnable = true then
          max (min (rheDiv ((f.conf * 65536 - c.coefI k) * (c.coefI (k.val + 1) * 32)) 2147483648) 2147483647) 0 else 0
       b.satResult a (c.accI a + rheDiv (f.forecast.getD j.val 0 * rheDiv (g * c.coefI (k.val + 2)) 2147483648) 32768)))

/-- O5. On a RUNNING core that skips nothing, with w a candidate of the mask that is best (lowest for MINSEL,
highest for MAXSEL) and better than every lower-numbered candidate, the accumulator takes w's value clamped by
D(H) then D(H+1), with Z, N and L; the state word S + 2i + 1 of every candidate i is zero when i ties with w and
otherwise the clamped value less the candidate's, held to ACC40; and every other state word reads as before. Its
conclusions say that exec answers a next state, with the effect, for: MINSEL, MAXSEL. (06_cardamom_engine.md,
R170, R171) -/
def Obligations.CardamomSelectorsPassTheBestCandidate : Prop :=
  ∀ (s : State) (n : Fin 4) (a : Fin 8) (h : Fin 16) (mask : BitVec 8) (m : Fin 512) (w : Fin 8), s.issues n →
    mask.getLsbD w = true →
    let c := s.core n
    let b := s.bankOf n
    let hi := c.datI h * 65536
    let lo := c.datI ⟨(h.val + 1) % 16, Nat.mod_lt _ (by decide)⟩ * 65536
    let u := max (min (c.accI w) hi) lo
    let after : State → Prop := fun t =>
      t.bankOf n = b.clampResult a (c.accI w) hi lo ∧
      (∀ i : Fin 8, mask.getLsbD i = true → (t.core n).smI (m.val + 2 * i.val + 1) =
        if i ≠ w ∧ c.accI i = c.accI w then 0 else limit40 (u - c.accI i)) ∧
      (∀ j, (∀ i : Fin 8, mask.getLsbD i = true → j ≠ m.val + 2 * i.val + 1) → (t.core n).smI j = c.smI j)
    ((∀ i : Fin 8, mask.getLsbD i = true → c.accI w ≤ c.accI i ∧ (i < w → c.accI w < c.accI i)) →
      Does (.minsel n a h mask m) s after) ∧
    ((∀ i : Fin 8, mask.getLsbD i = true → c.accI i ≤ c.accI w ∧ (i < w → c.accI i < c.accI w)) →
      Does (.maxsel n a h mask m) s after)

/-- O6. While a RUNNING core still has instructions to skip, each of the 35 instructions answers a next state with
one fewer to skip and with the bank, state memory, coefficients and ports of the core as they were.
(06_cardamom_engine.md, R168, R170) -/
def Obligations.SkippedInstructionOnlyUsesUpTheSkip : Prop :=
  ∀ (s : State) (n : Fin 4) (i : CInstr), (s.core n).state = .running → 0 < (s.core n).skip →
    Does (rowOf n i) s (fun t => (t.core n).skip = (s.core n).skip - 1 ∧ t.bankOf n = s.bankOf n ∧
      (t.core n).sm = (s.core n).sm ∧ (t.core n).coef = (s.core n).coef ∧ (t.core n).ports = (s.core n).ports ∧
      (t.core n).unpublished = (s.core n).unpublished ∧ (t.core n).unpublishedH = (s.core n).unpublishedH)

/-- O7. For each of the 35 instructions, whenever it answers a next state: every other core, every coefficient,
every state word outside the instruction's own set, the snapshot, the clove registers and the program store read
as before; all of the module outside the Cardamom engine, the objects, the recorder, the pushes and the power
stages is unchanged; and the power stages are unchanged too unless the instruction writes a command port.
(06_cardamom_engine.md, R168, R157, R161) -/
def Obligations.CardamomInstructionFrame : Prop :=
  ∀ (s t : State) (n : Fin 4) (i : CInstr), exec (rowOf n i) s = .next t →
    (∀ m : Fin 4, m ≠ n → t.core m = s.core m) ∧
    (t.core n).coef = (s.core n).coef ∧ (t.core n).prog = (s.core n).prog ∧ (t.core n).state = (s.core n).state ∧
    (∀ j, j ∉ storeSet i → (t.core n).smI j = (s.core n).smI j) ∧
    t.card.snap = s.card.snap ∧ t.card.cloveRegs = s.card.cloveRegs ∧ t.card.store = s.card.store ∧
    (writesCommand i = false → (s.core n).emitted = [] → t.pow = s.pow) ∧
    t.blobs = s.blobs ∧ t.que = s.que ∧ t.md = s.md ∧ t.time = s.time ∧ t.clv = s.clv ∧ t.lp = s.lp ∧ t.fab = s.fab ∧
    t.pair = s.pair ∧ t.cry = s.cry ∧ t.inj = s.inj ∧ t.chn = s.chn ∧ t.soc = s.soc ∧ t.saf = s.saf ∧ t.rack = s.rack ∧
    t.leg = s.leg ∧ t.outbox = s.outbox ∧ t.pending = s.pending

/-- O8. Decoding the word of any Cardamom instruction, with every operand at every value its field admits, gives
that instruction back; and a word that decodes to an instruction is the word of that instruction, so reserved
opcodes and words with a bit set in an unused field decode to nothing. LDK D3 := 0x1234, MAC A1 D2 C[5], INTEG
A0 D1 C[4] S[2], SKIPC condition 8 by 3 and TSTP port 0x40 bit 5 are decoded from words laid out by Tables 6-6
and 6-8; a reserved opcode and an END with a bit set decode to nothing. (06_cardamom_engine.md, R167, R168) -/
def Obligations.CardamomWordRoundTrip : Prop :=
  (∀ i : CInstr, decodeWord (encodeWord i) = some i) ∧ (∀ w i, decodeWord w = some i → encodeWord i = w) ∧
    decodeWord 0b00001000000110000001001000110100#32 = some (.ldk 3 0x1234) ∧
    decodeWord 0b00111000100100000001010000000000#32 = some (.mac 1 2 5) ∧
    decodeWord 0b01110100000010000001000000000010#32 = some (.integ 0 1 4 2) ∧
    decodeWord 0b01110000000001000000000000000011#32 = some (.skipc 8 3) ∧
    decodeWord 0b01101100000000000000101001000000#32 = some (.tstp 0x40 5) ∧
    decodeWord 0b10001100000000000000000000000000#32 = none ∧
    decodeWord 0b00000100000000000000000000000001#32 = none

/-- O9. For every numerator and every positive denominator the rounded quotient is within half of the exact one, and
where the exact one lies halfway it is even. (R9) -/
def Obligations.RoundingIsHalfEven : Prop :=
  ∀ (a : Int) (d : Nat), 0 < d →
    2 * (rheDiv a d * d - a) ≤ d ∧ -(d : Int) ≤ 2 * (rheDiv a d * d - a) ∧
    ((2 * (rheDiv a d * d - a) = d ∨ 2 * (rheDiv a d * d - a) = -(d : Int)) → rheDiv a d % 2 = 0)

/-- O10. HOLD_OPEN on a core whose program declares the facility opens an empty hold; HOLD_RELEASE of an open hold
asks for its release; HOLD_RELEASED, once due, puts the held words in force in order, then the words that waited
behind them, and closes the hold; HOLD_ABANDON and HOLD_TIMEOUT close the hold without the held words; each host
command is answered with success. Its conclusions say that exec answers a next state, with the effect, for:
HOLD_OPEN, HOLD_RELEASE, HOLD_ABANDON, HOLD_RELEASED, HOLD_TIMEOUT. (06_cardamom_engine.md, R178, R175) -/
def Obligations.HoldFacilityOpensReleasesAndCloses : Prop :=
  ∀ (s : State) (n : Fin 4) (sess : Nat),
    let c := s.core n
    (s.takesByte (K.coreHoldCommand n) sess 1 → (∃ p, c.prog = some p ∧ p.hasHold = true) → c.hold = .closed →
      Does (.holdOpen n sess) s (fun t => t.core n = { c with hold := .open_, held := [], holdOpenedAt := s.now } ∧ saidOk s t)) ∧
    (s.takesByte (K.coreHoldCommand n) sess 2 → c.hold = .open_ →
      Does (.holdRelease n sess) s (fun t => t.core n = { c with hold := .release } ∧ saidOk s t)) ∧
    (s.takesByte (K.coreHoldCommand n) sess 3 → c.hold ≠ .closed →
      Does (.holdAbandon n sess) s (fun t => (t.core n).hold = .closed ∧ (t.core n).held = [] ∧
        (t.core n).coef = putWords c.coef c.waiting ∧ saidOk s t)) ∧
    (c.hold = .release → (s.getN (K.coreReleaseFT n) = 0 ∨ s.getN (K.coreReleaseFT n) ≤ s.ft) →
      Does (.holdReleased n) s (fun t => (t.core n).hold = .closed ∧ (t.core n).held = [] ∧ (t.core n).waiting = [] ∧
        (t.core n).coef = putWords c.coef (c.held ++ c.waiting))) ∧
    (c.hold = .open_ → c.holdOpenedAt + s.getN K.engineHoldTimeout * 1000000 < s.now →
      Does (.holdTimeout n) s (fun t => (t.core n).hold = .closed ∧ (t.core n).held = [] ∧
        (t.core n).coef = putWords c.coef c.waiting))

/-- O11. A coefficient write that passes R382 puts its word in force at the core's coefficient address when no hold
is open or being released and the core is idle with no word waiting, and success is answered; else the word
waits and its answer is owed. With a hold open the word goes to the hold buffer, or is refused with
HOLD_OVERFLOW as the 65th. A block of k words puts its words in force in ascending address order; the address
moves past them, staying at 1,023. Where these rules leave a point open it follows the choices of the model in
log entries 16, 17. Its conclusions say that exec answers a next state, with the effect, for: COEFFICIENT_WRITE,
COEFFICIENT_BLOCK_WRITE. (06_cardamom_engine.md, R175, R176, R178, 14_host_dictionary.md) -/
def Obligations.CoefficientWordsReachTheirCore : Prop :=
  ∀ (s : State) (n : Fin 4) (w : HostWrite),
    let c := s.core n
    let a := s.getN (K.coefCoefficientAddress n)
    let v := toSigned 32 (leNat w.bytes)
    (s.takes (K.coefCoefficientWord n) w → c.hold ≠ .open_ → c.waits = true →
      Does (.coefficientWrite n w) s (fun t => (t.core n).coef = c.coef ∧ (t.core n).waiting = c.waiting ++ [(a, v)] ∧
        (t.core n).owed = c.owed ++ [{ sess := w.sess, key := K.coefCoefficientWord n, reply := 0 }] ∧
        t.getN (K.coefCoefficientAddress n) = min (a + 1) 1023 ∧ t.outbox = s.outbox)) ∧
    (s.takes (K.coefCoefficientWord n) w → c.hold = .open_ → 64 ≤ c.held.length →
      Does (.coefficientWrite n w) s (fun t => (t.core n).coef = c.coef ∧ (t.core n).held = c.held ∧
        t.outbox = .status Cause.holdOverflow :: s.outbox)) ∧
    (s.takes (K.coefCoefficientWord n) w → c.hold = .closed → c.waits = false →
      Does (.coefficientWrite n w) s (fun t => (t.core n).coef = c.coef.put zeroDflt a v ∧
        t.getN (K.coefCoefficientAddress n) = min (a + 1) 1023 ∧ saidOk s t)) ∧
    (s.takes (K.coefCoefficientWord n) w → c.hold = .open_ → c.held.length < 64 →
      Does (.coefficientWrite n w) s (fun t => (t.core n).coef = c.coef ∧ (t.core n).held = c.held ++ [(a, v)] ∧
        t.getN (K.coefCoefficientAddress n) = min (a + 1) 1023 ∧ saidOk s t)) ∧
    (let ws := wordsOf w.bytes
     s.takes (K.coefCoefficientBlock n) w → c.hold = .closed → c.waits = false → w.bytes.length % 4 = 0 → ws ≠ [] →
      a + ws.length ≤ 1024 →
      Does (.coefficientBlockWrite n w) s (fun t =>
        (t.core n).coef = putWords c.coef (((List.range ws.length).zip ws).map (fun e => (a + e.1, e.2))) ∧
        t.getN (K.coefCoefficientAddress n) = min (a + ws.length) 1023 ∧ saidOk s t))

/-- O12. CARDAMOM_LOAD admits what the slot names into the pending banks, with the words saved for its id, or shows
it refused; CORE_SWAP of an admitted program with no hold arms the swap, and PROGRAM_SWAPPED at its time puts
the program in force; CORE_STOP of a running core that owns no running converter and CORE_START of a stopped
core with a program act at the next boundary; CLEAR_PENDING empties the pending banks; COEF_SAVE keeps the
coefficients under the program's id and COEF_DISCARD drops them. Where these rules leave a point open it follows
the choices of the model in log entry 17. Its conclusions say that exec answers a next state, with the effect,
for: CARDAMOM_LOAD, CORE_SWAP, PROGRAM_SWAPPED, CORE_STOP, CORE_START, CLEAR_PENDING, COEF_SAVE, COEF_DISCARD.
(06_cardamom_engine.md, R183, R184, R185, R181) -/
def Obligations.CoreCommandsLoadSwapStopAndStart : Prop :=
  ∀ (s : State) (n : Fin 4) (sess : Nat),
    let c := s.core n
    (s.takesByte (K.coreCommand n) sess 1 →
      Does (.cardamomLoad n sess) s (fun t => (t.core n).pendProg = (s.admitProgram n).1.map (fun p => { p with coef := c.coefFor p }) ∧ (t.core n).prog = c.prog ∧
        (t.core n).pendState = (if (s.admitProgram n).1.isSome then .admitted else .refused) ∧ saidOk s t)) ∧
    (s.takesByte (K.coreCommand n) sess 2 → c.pendState = .admitted → c.hold = .closed →
      (s.getN (K.coreSwapFT n) = 0 ∨ s.ft ≤ s.getN (K.coreSwapFT n)) →
      Does (.coreSwap n sess) s (fun t => t.core n = { c with swapPend := true, swapLate := false } ∧ saidOk s t)) ∧
    (∀ p, c.pendProg = some p → c.swapPend = true → (c.swapLate = true ∨ s.getN (K.coreSwapFT n) ≤ s.ft) →
      Does (.programSwapped n) s (fun t => (t.core n).prog = some p ∧ (t.core n).pendProg = none ∧
        (t.core n).swapPend = false ∧ (t.core n).coef = p.coef)) ∧
    (s.takesByte (K.coreCommand n) sess 3 → c.state = .running → s.convRuns .feed = false → s.convRuns .storage = false →
      Does (.coreStop n sess) s (fun t => t.core n = { c with stopPend := true, startPend := false } ∧ saidOk s t)) ∧
    (s.takesByte (K.coreCommand n) sess 4 → c.state = .stopped → c.prog.isSome = true →
      Does (.coreStart n sess) s (fun t => t.core n = { c with startPend := true } ∧ saidOk s t)) ∧
    (s.takesByte (K.coreCommand n) sess 5 →
      Does (.clearPending n sess) s (fun t => (t.core n).pendProg = none ∧ (t.core n).pendState = .empty ∧
        (t.core n).swapPend = false ∧ saidOk s t)) ∧
    (∀ p, s.takesByte (K.coefPersist n) sess 1 → c.prog = some p → c.saved.length < 16 →
      Does (.coefSave n sess) s (fun t => (t.core n).saved.find? (fun e => decide (e.1 = p.id)) = some (p.id, c.coef) ∧ saidOk s t)) ∧
    (∀ p, s.takesByte (K.coefPersist n) sess 2 → c.prog = some p →
      Does (.coefDiscard n sess) s (fun t => (t.core n).saved = c.saved.filter (fun e => decide (e.1 ≠ p.id)) ∧ saidOk s t))

/-- O13. NOTICE from a tray opens a record of one notice, with its step, arrival and tray, on every RUNNING core
whose mask names the tray and whose program has a handler, or joins the pending record with the steps summed and
saturated; a core whose mask does not name the tray is left alone. EVENT_SLOT on a RUNNING core with a pending
record runs its handler and leaves no record pending, counting the notices handled. Its conclusions say that
exec answers a next state, with the effect, for: NOTICE, EVENT_SLOT. (06_cardamom_engine.md, R153, R156) -/
def Obligations.NoticesReachTheCoresThatListen : Prop :=
  ∀ (s : State) (n : Fin 4) (tray : Fin 24) (step : BitVec 32) (stamp : Nat),
    let c := s.core n
    (∀ p, c.maskInForce.getLsbD tray = true → c.state = .running → c.prog = some p → p.hasHandler = true → c.notice = none →
      Does (.notice tray step stamp) s (fun t => (t.core n).notice =
        some { count := 1, step := step.toInt, stamp := stamp % 2 ^ 32, trays := 1#24 <<< tray.val })) ∧
    (∀ p r, c.maskInForce.getLsbD tray = true → c.state = .running → c.prog = some p → p.hasHandler = true → c.notice = some r →
      Does (.notice tray step stamp) s (fun t => (t.core n).notice =
        some { r with count := r.count + 1, step := max (min (r.step + step.toInt) 2147483647) (-2147483648),
                      trays := r.trays ||| (1#24 <<< tray.val) })) ∧
    (c.maskInForce.getLsbD tray = false → Does (.notice tray step stamp) s (fun t => t.core n = c)) ∧
    (∀ p r, c.state = .running → c.prog = some p → c.notice = some r →
      Does (.eventSlot n) s (fun t => (t.core n).notice = none ∧ (t.core n).prog = some p ∧
        counts s t (K.coreNoticesHandled n) r.count))

/-- O14. CARDAMOM_OVERRUN of a RUNNING core and CARDAMOM_MEM_UNCORRECTABLE leave the core FAULTED with its writes
unpublished, its pending start, stop and notice dropped and its published ports as they were;
CARDAMOM_MEM_CORRECTED counts one corrected error and leaves the cores alone. Its conclusions say that exec
answers a next state, with the effect, for: CARDAMOM_OVERRUN, CARDAMOM_MEM_UNCORRECTABLE,
CARDAMOM_MEM_CORRECTED. (06_cardamom_engine.md, R155, R187) -/
def Obligations.CoreFaultsAbortTheEvaluation : Prop :=
  ∀ (s : State) (n : Fin 4),
    let faulted : State → Prop := fun t => (t.core n).state = .faulted ∧ (t.core n).unpublished = [] ∧
      (t.core n).unpublishedH = [] ∧ (t.core n).todo = [] ∧ (t.core n).notice = none ∧ (t.core n).stopPend = false ∧ (t.core n).startPend = false ∧
      (t.core n).ports = (s.core n).ports ∧ (t.core n).prog = (s.core n).prog
    ((s.core n).state = .running → Does (.cardamomOverrun n) s faulted) ∧
    Does (.cardamomMemUncorrectable n) s faulted ∧
    (Does (.cardamomMemCorrected n) s (fun t => t.card = s.card ∧ counts s t (K.coreMemoryErrorsCorrected n) 1))

/-- O15. CARRIER_BOUNDARY of a converter that is to stop turns it off with every phase not LATCHED or in TEMP_STOP;
without dither the next period is the set one, less what aligns it. At its own boundary a phase that is to start
switches, one that starts ordinarily and has switched for a period becomes RUN, and limited periods are counted.
COMPARE_UPDATE takes the shadow value at the update points of the mode, not in the cycle of a fault, a feed
shift moving by at most an eighth of the period. FAULT_INPUT marks the input with its stamp and limits, or sends
to HICCUP, each phase that takes an unmasked one. Where these rules leave a point open it follows the choices of
the model in log entry 112. Its conclusions say that exec answers a next state, with the effect, for:
CARRIER_BOUNDARY, COMPARE_UPDATE, FAULT_INPUT. (05_power_stage_control.md, R113, R118, R129, R136, R137, R142) -/
def Obligations.CarrierBoundariesMoveThePhases : Prop :=
  ∀ (s : State) (c : Conv) (p j : Fin 20) (pos stamp : Nat) (at_ : Carriers),
    let x := s.phase p
    let cur := s.getN (K.phaseCommandInForce p)
    let per := (s.conv (convOf p)).period
    let mode := s.getN (K.convUpdateMode (convOf p).idx)
    let edge := pos = 0 ∨ pos = per / 2
    let goal := if pos = 0 ∨ (mode = 1 ∧ edge) ∨ mode = 2 then x.shadow else x.goal
    let free := (s.getN K.faultFaultInputMask).testBit j = false ∧ s.getN (K.phaseFaultInput p) = j
    ((s.conv c).stopPend = true → Does (.carrierBoundary c none) s (fun t => (t.conv c).on = false ∧
      ∀ q ∈ phasesOf c, (t.phase q).state = .off ∨ (t.phase q).state = .latched ∨ (t.phase q).state = .tempStop)) ∧
    ((s.conv c).stopPend = false → s.getN (K.convDither c.idx) = 0 → Does (.carrierBoundary c none) s (fun t =>
      (t.conv c).period = ((s.getN (K.convCarrierPeriod c.idx) : Int) - (s.conv c).align).toNat ∧ (t.conv c).align = 0)) ∧
    (p ∈ phasesOf c → Does (.carrierBoundary c (some p)) s (fun t =>
      (x.limitedNow = true → counts s t (K.phaseLimitedPeriods p) 1) ∧
      (x.pend = .none → (t.phase p).limitedLast = x.limitedNow ∧
        (t.phase p).limitedRun = (if x.limitedNow then x.limitedRun + 1 else 0) ∧
        (x.state = .starting → x.switching = true → x.retry = false → x.rejoin = false →
          (t.phase p).state = .run ∧ t.get (K.phaseTrimWeight p) = 32767)) ∧
      (x.pend = .start → (t.phase p).switching = true ∧ (t.phase p).pend = .none ∧ t.get (K.phaseTrimWeight p) = 0) ∧
      (x.pend = .takeOut → (t.phase p).state = .off ∧ (t.phase p).inService = false) ∧
      (x.pend = .tempStop → (t.phase p).state = .tempStop ∧ (t.phase p).switching = false))) ∧
    Does (.compareUpdate p pos) s (fun t =>
      (x.faultAt = none → (t.phase p).goal = goal ∧ t.getN (K.phaseCommandInForce p) =
        match convOf p with
        | .storage => if pos = 0 ∨ (mode = 1 ∧ edge) ∨ mode = 2 then x.shadow else cur
        | .feed => if edge then (if cur ≤ goal then min goal (cur + per / 8) else max goal (cur - per / 8)) else cur) ∧
      (x.faultAt = some pos → (t.phase p).goal = x.goal)) ∧
    Does (.faultInput j true at_ stamp) s (fun t => t.pow.faultIn = s.pow.faultIn ||| (1#20 <<< j.val) ∧
      t.pow.faultStamp[j] = stamp ∧
      ((s.getN K.faultFaultInputMask).testBit j = true → t.pow.phases = s.pow.phases) ∧
      (free → (t.phase p).limitedNow = true ∧ (t.phase p).faultAt = some (s.position at_ p)) ∧
      (free → s.get (K.phaseFaultAction p) = 0 →
        match convOf p with | .feed => (t.phase p).follow = true | .storage => (t.phase p).cut = true) ∧
      (free → s.get (K.phaseFaultAction p) ≠ 0 → x.state.live = true →
        (t.phase p).state = .hiccup ∨ (t.phase p).state = .latched)) ∧
    Does (.faultInput j false at_ stamp) s (fun t => t.pow.faultIn = s.pow.faultIn &&& ~~~(1#20 <<< j.val) ∧
      t.pow.faultStamp[j] = stamp ∧ t.pow.phases = s.pow.phases)

/-- O16. PHASE_HICCUP of a phase in RUN or STARTING at its limited-period count enters HICCUP, a failed retry being
counted, and LATCHED at the retry limit; PHASE_RETRY after the off time makes it STARTING with trim weight zero;
PHASE_RETRY_OK makes it RUN with no failures; PHASE_TEMP_SHUTDOWN takes it to TEMP_STOP, at its boundary while
it switches; PHASE_TEMP_RESTART brings it back; PHASE_REJOINED ends the blend. Its conclusions say that exec
answers a next state, with the effect, for: PHASE_HICCUP, PHASE_RETRY, PHASE_RETRY_OK, PHASE_TEMP_SHUTDOWN,
PHASE_TEMP_RESTART, PHASE_REJOINED. (05_power_stage_control.md, R137, R143, R147) -/
def Obligations.PhasesHiccupRetryAndRejoin : Prop :=
  ∀ (s : State) (p : Fin 20),
    let x := s.phase p
    let c := convOf p
    let fails := s.getN (K.phaseRetryFailures p) + (if x.retry then 1 else 0)
    ((x.state = .run ∨ x.state = .starting) → s.getN (K.convLimitedPeriodsToHiccup c.idx) ≤ x.limitedRun →
      Does (.phaseHiccup p) s (fun t => (t.phase p).switching = false ∧ (t.phase p).since = s.now ∧
        (t.phase p).state = (if s.getN (K.convRetryLimit c.idx) ≤ fails then .latched else .hiccup) ∧
        t.getN (K.phaseRetryFailures p) = fails)) ∧
    (x.state = .hiccup → x.since + s.getN (K.convHiccupOffTime c.idx) * 1000000 ≤ s.now → (s.conv c).on = true →
      Does (.phaseRetry p) s (fun t => (t.phase p).state = .starting ∧ (t.phase p).retry = true ∧
        (t.phase p).pend = (if x.rejoin then .rejoin else .start) ∧
        t.get (K.phaseTrimWeight p) = 0)) ∧
    ((x.state = .run ∨ x.state = .starting) → x.switching = true → x.retry = true → x.rejoin = false →
      x.since + s.getN (K.convRetryClearTime c.idx) * 1000000 ≤ s.now →
      Does (.phaseRetryOk p) s (fun t => (t.phase p).state = .run ∧ (t.phase p).retry = false ∧
        t.get (K.phaseRetryFailures p) = 0 ∧ t.get (K.phaseTrimWeight p) = 32767)) ∧
    (3 ≤ x.tempRun → x.inService = true → x.state ≠ .latched → x.state ≠ .tempStop → x.pend ≠ .tempStop →
      Does (.phaseTempShutdown p) s (fun t =>
        if x.switching then (t.phase p).pend = .tempStop ∧ (t.phase p).state = x.state else (t.phase p).state = .tempStop)) ∧
    (x.state = .tempStop → s.phaseTemp p ≤ s.get (K.phaseTemperatureRestart p) →
      Does (.phaseTempRestart p) s (fun t => (t.phase p).state = .off ∧
        (if (s.conv c).on then (t.phase p).pend = .rejoin ∧ (t.conv c).moving = true else (t.phase p).inService = true))) ∧
    (x.rejoin = true → x.state = .starting → x.switching = true →
      x.since + s.getN (K.convBlendTime c.idx) * 1000000 ≤ s.now →
      Does (.phaseRejoined p) s (fun t => (t.phase p).state = .run ∧ (t.phase p).rejoin = false ∧
        (t.phase p).inService = true ∧ t.get (K.phaseTrimWeight p) = 32767))

/-- O17. TAKE_OUT of a phase in HICCUP or a retry takes it to OFF and out of service at once with its failures
cleared, of any other switching phase at its carrier boundary; BRING_BACK of an unblocked phase begins the
sequence of R147, or with its converter stopped puts it in service; CLEAR_LATCH of a LATCHED phase takes it to
OFF, out of service, with its failures cleared; each is answered with success. Its conclusions say that exec
answers a next state, with the effect, for: TAKE_OUT, BRING_BACK, CLEAR_LATCH. (05_power_stage_control.md, R137,
R146, R147, R148) -/
def Obligations.PhaseServiceCommandsAct : Prop :=
  ∀ (s : State) (p : Fin 20) (sess : Nat),
    let x := s.phase p
    (s.takesByte (K.phaseServiceCommand p) sess 1 → x.state ≠ .latched →
      Does (.takeOut p sess) s (fun t => saidOk s t ∧
        (x.state = .hiccup ∨ x.retry = true → (t.phase p).state = .off ∧ (t.phase p).inService = false ∧
          t.get (K.phaseRetryFailures p) = 0) ∧
        (x.state ≠ .hiccup → x.retry = false → x.switching = true → (t.phase p).pend = .takeOut ∧ (t.phase p).state = x.state) ∧
        (x.state ≠ .hiccup → x.retry = false → x.switching = false → (t.phase p).state = .off ∧ (t.phase p).inService = false))) ∧
    (s.takesByte (K.phaseServiceCommand p) sess 2 → s.bringBackBlocked p = 0 →
      Does (.bringBack p sess) s (fun t => saidOk s t ∧ (t.phase p).state = .off ∧
        (if (s.conv (convOf p)).on then (t.phase p).rejoin = true ∧ (t.phase p).pend = .rejoin
         else (t.phase p).inService = true))) ∧
    (s.takesByte (K.phaseServiceCommand p) sess 3 → x.state = .latched →
      Does (.clearLatch p sess) s (fun t => saidOk s t ∧ (t.phase p).state = .off ∧ (t.phase p).inService = false ∧
        t.get (K.phaseRetryFailures p) = 0))

/-- O18. CONV_SHORT_CIRCUIT with the converter on and its channel at or beyond the threshold leaves every live phase
in HICCUP or LATCHED, and the converter, unless none of its phases can run any more, under a trip.
OVERLOAD_COMPARE moves the accumulator up by 1 ms above the continuous rating and down by 0.1 ms otherwise, sets
the clamp when it is full and lifts it at zero, and trips after 100 comparisons in a row above the short-time
rating. Its conclusions say that exec answers a next state, with the effect, for: CONV_SHORT_CIRCUIT,
OVERLOAD_COMPARE. (05_power_stage_control.md, R138, R139) -/
def Obligations.ConvertersTripOnShortCircuitAndOverload : Prop :=
  ∀ (s : State) (c : Conv),
    (∀ k, s.shortChan c = some k → (s.conv c).on = true →
      s.get (K.convShortCircuitThreshold c.idx) ≤ (s.milli k (s.get (K.chanProtectionSample k))).natAbs →
      Does (.convShortCircuit c) s (fun t => ((t.conv c).on = true → (t.conv c).stopRule = some .trip) ∧
        ∀ p ∈ phasesOf c, (s.phase p).state.live = true → (t.phase p).state = .hiccup ∨ (t.phase p).state = .latched)) ∧
    (let x := s.conv c
     let mean := if x.sumCount = 0 then 0 else (rheDiv x.sumMilli x.sumCount).natAbs
     let tenths := if s.getN (K.convContinuousRating c.idx) < mean then x.overTenths + 10 else x.overTenths - 1
     let full := s.getN (K.convShortTimeDuration c.idx) * 10 ≤ tenths
     Does (.overloadCompare c) s (fun t => (t.conv c).overTenths = tenths ∧ (t.conv c).sumCount = 0 ∧
       ((t.conv c).overClamp = true ↔ tenths ≠ 0 ∧ (x.overClamp = true ∨ full)) ∧
       (s.getN (K.convShortTimeRating c.idx) < mean → x.overRun = 99 → ((t.conv c).on = true → (t.conv c).stopRule = some .trip) ∧
         ∀ p ∈ phasesOf c, (s.phase p).state.live = true → (t.phase p).state = .hiccup ∨ (t.phase p).state = .latched)))

/-- O19. PROTECTION_SAMPLE takes four modulator bits into every channel and leaves, in the protection sample of each
one not OPEN, its gain times (twice the density of ones in its sinc3 window less one), rounded, plus its offset,
clamped to Q15, where gain 0x4000 is 1; and when the lone bus channel's value is at or above the over-voltage
trip for the second sample in a row, both converters are off and wait for R141. BUS_OV_RESTART after 10 ms below
840 V with no latch ends the wait and lifts that stop of a converter that may start. Where these rules leave a
point open it follows the choices of the model in log entry 112. Its conclusions say that exec answers a next
state, with the effect, for: PROTECTION_SAMPLE, BUS_OV_RESTART. (05_power_stage_control.md, R124, R141) -/
def Obligations.ProtectionSamplesFollowR124AndTripTheBus : Prop :=
  ∀ (s : State) (bits : Vector (BitVec 4) 48) (at_ : Carriers),
    let heard : Fin 48 → ChanSt := fun c =>
      ((List.range 4).map (fun i => bits[c].getLsbD i)).foldl (ChanSt.receive s.now) (s.chan c)
    let value : Fin 48 → Int := fun c =>
      let n := s.getN (K.chanProtectionRatio c)
      if (s.chan c).open_ then s.get (K.chanProtectionSample c)
      else max (min (rheDiv (s.get (K.chanGain c) * (2 * ((heard c).ones 3 n : Int) - (n ^ 3 : Nat)) * 2) (n ^ 3) +
        s.get (K.chanOffset c)) 32767) (-32768)
    Does (.protectionSample bits at_) s (fun t =>
      (∀ c : Fin 48, t.get (K.chanProtectionSample c) = value c ∧ (t.chan c).bits = (heard c).bits ∧
        (t.chan c).suspect = (heard c).suspect) ∧
      (∀ c, s.chanWithAction 2 = some c → s.partner c = none → s.pow.ovRun = 1 →
        s.get K.busOverVoltageTrip ≤ s.milli c (value c) →
        (t.conv .feed).on = false ∧ (t.conv .storage).on = false ∧ t.pow.ovWaiting = true)) ∧
    (s.pow.ovWaiting = true → 10000 ≤ s.pow.busLow → s.get K.busOverVoltageLatch = 0 →
      Does .busOvRestart s (fun t => t.pow.ovWaiting = false ∧
        ∀ c : Conv, (s.conv c).stopRule = some .busOv → s.mayStart c = true → (t.conv c).stopRule = none))

/-- O20. BUS_UNDERVOLTAGE takes the report into force after 100 ticks below the level and out of it after 100 ticks
above; FEED_UNDERVOLTAGE after 1 ms and FEED_OVERVOLTAGE after 100 us stop a running feed converter at its
carrier boundary; FEED_RESTART after the restart delay lifts that stop of a converter that may start, and starts
it with the feed in its window; OV_LATCH_CLEAR clears the over-voltage latch and the trips it counted. Where
these rules leave a point open it follows the choices of the model in log entries 20, 112. Its conclusions say
that exec answers a next state, with the effect, for: BUS_UNDERVOLTAGE, FEED_UNDERVOLTAGE, FEED_OVERVOLTAGE,
FEED_RESTART, OV_LATCH_CLEAR. (05_power_stage_control.md, R141, R142) -/
def Obligations.BusAndFeedLimitsAreReported : Prop :=
  ∀ (s : State) (sess : Nat),
    (s.pow.uvInForce = false → 100 ≤ s.pow.uvLow → Does .busUndervoltage s (fun t => t.pow.uvInForce = true)) ∧
    (s.pow.uvInForce = true → 100 ≤ s.pow.uvHigh → Does .busUndervoltage s (fun t => t.pow.uvInForce = false)) ∧
    ((s.conv .feed).on = true → (s.conv .feed).stopRule = none ∨ (s.conv .feed).stopRule = some .trip →
      (1000 ≤ s.pow.feedLow → Does .feedUndervoltage s (fun t =>
        (t.conv .feed).stopPend = true ∧ (t.conv .feed).stopRule = some .feed)) ∧
      (100 ≤ s.pow.feedHigh → Does .feedOvervoltage s (fun t =>
        (t.conv .feed).stopPend = true ∧ (t.conv .feed).stopRule = some .feed))) ∧
    (s.getN K.feedFeedRestartDelay * 1000 ≤ s.pow.feedOk → s.mayStart .feed = true →
      ((s.conv .feed).stopRule = some .feed ∨ (s.conv .feed).waitFeed = true) →
      Does .feedRestart s (fun t => (t.conv .feed).stopRule = none ∧ (s.feedInWindow = true → (t.conv .feed).on = true))) ∧
    (s.takesByte K.busOverVoltageLatch sess 1 →
      Does (.ovLatchClear sess) s (fun t => t.get K.busOverVoltageLatch = 0 ∧ t.pow.ovTrips = [] ∧ saidOk s t))

/-- O21. SENSE_SUSPECT marks the channel whose latest 16 bits are identical; SENSE_OPEN of a used channel after 128
identical bits marks it OPEN and, with a valid partner, has the partner stand for it; SENSE_OPEN_CLEAR after 10
ms without such a run takes both marks off. Its conclusions say that exec answers a next state, with the effect,
for: SENSE_SUSPECT, SENSE_OPEN, SENSE_OPEN_CLEAR. (05_power_stage_control.md, R125, R490) -/
def Obligations.SenseChannelsOpenAndRecover : Prop :=
  ∀ (s : State) (c : Fin 48),
    Does (.senseSuspect c) s (fun t => t.chan c = { s.chan c with suspect := decide (16 ≤ (s.chan c).run) } ∧
      ∀ d, d ≠ c → t.chan d = s.chan d) ∧
    (s.getN (K.chanFunction c) ≠ 0 → (s.chan c).open_ = false → 128 ≤ (s.chan c).run →
      Does (.senseOpen c) s (fun t => (t.chan c).open_ = true ∧
        ∀ d, s.partner c = some d → d ≠ c → (s.chan d).open_ = false → (t.chan c).switched = true)) ∧
    ((s.chan c).open_ = true → (s.chan c).run < 128 → (s.chan c).runAt + 10000000 ≤ s.now →
      Does (.senseOpenClear c) s (fun t => (t.chan c).open_ = false ∧ (t.chan c).switched = false))

/-- O22. CONVERTERS_START starts a feed converter that may start with its feed in the window;
STORAGE_CONVERTER_START starts a storage converter that may start once the bus has 760 V, with its current limit
from zero; a write of Enable takes effect and 0 stops the converter at its boundary; an accepted target of no
older stamp is in force as the target, its sequence counted and At target telling whether the reference is
there. Its conclusions say that exec answers a next state, with the effect, for: CONVERTERS_START,
STORAGE_CONVERTER_START, CONVERTER_ENABLE_WRITE, VOLTAGE_TARGET_WRITE. (05_power_stage_control.md, R126, R127,
R129, R131, R491) -/
def Obligations.ConvertersStartAndTakeTheirCommands : Prop :=
  ∀ (s : State) (w : HostWrite),
    (s.mayStart .feed = true → s.feedInWindow = true →
      ((s.conv .feed).waitFeed = false ∨ s.getN K.feedFeedRestartDelay * 1000 ≤ s.pow.feedOk) →
      Does .convertersStart s (fun t => (t.conv .feed).on = true ∧ (t.conv .feed).stopRule = none)) ∧
    (s.mayStart .storage = true → 760000 ≤ s.busMilli →
      Does .storageConverterStart s (fun t => (t.conv .storage).on = true ∧ (t.conv .storage).soft = some 0)) ∧
    (∀ c : Conv, s.takes (K.convEnable c.idx) w → w.bytes = [0] →
      Does (.converterEnableWrite c w) s (fun t => t.get (K.convEnable c.idx) = 0 ∧ (t.conv c).stopPend = (s.conv c).on ∧
        (t.conv c).waitFeed = false ∧ saidOk s t)) ∧
    (∀ c : Conv, s.takes (K.convEnable c.idx) w → w.bytes = [1] →
      Does (.converterEnableWrite c w) s (fun t => t.get (K.convEnable c.idx) = 1 ∧ t.pow = s.pow ∧ saidOk s t)) ∧
    (s.takes K.busVoltageTarget w →
      Does (.voltageTargetWrite w) s (fun t => counts s t K.busTargetSequence 1 ∧ saidOk s t ∧ t.get K.busVoltageTarget =
        (if s.pow.targetStamp < s.ft ∨ (s.pow.targetStamp = s.ft ∧ s.pow.targetClove = false) then (leNat w.bytes : Int)
         else s.get K.busVoltageTarget) ∧
        t.get K.busAtTarget = (if (s.pow.refMicro : Int) = t.get K.busVoltageTarget * 1000 then 1 else 0)))

/-- O23. BURST_ENTER of a converter that may burst and is due idles every running phase; BURST_EXIT, once a
condition that ends it holds, ends the burst with every idle phase to resume, a storage exit ending the feed's
too; FEED_BURST_PACKET begins a packet when the bus is below the band. SHARE_TRIM moves each running phase's
trim by the gain times its distance from the mean, scaled, within the limit; SHARE_TRIM_AT_LIMIT marks a trim
that has been at its limit for 1 s. Where these rules leave a point open it follows the choices of the model in
log entry 112. Its conclusions say that exec answers a next state, with the effect, for: BURST_ENTER,
BURST_EXIT, FEED_BURST_PACKET, SHARE_TRIM, SHARE_TRIM_AT_LIMIT. (05_power_stage_control.md, R133, R134, R145) -/
def Obligations.BurstAndSharingMoveThePhases : Prop :=
  ∀ (s : State) (c : Conv) (p : Fin 20), p ∈ phasesOf c →
    let x := s.conv c
    let due := match c with
      | .storage => 100 ≤ x.burstRun
      | .feed => s.pow.feedAvg < s.get (K.convBurstEntry 0) ∧ (s.conv .storage).burst = true
    let run := (phasesOf c).filter (fun q => decide ((s.phase q).state = .run))
    let mean := rheDiv (run.map s.phaseCurrent).sum run.length
    let tmax := s.get (K.convShareTrimLimit c.idx)
    (x.on = true → x.burst = false → x.soft = none → s.get (K.convBurstEnable c.idx) ≠ 0 → due →
      (∀ q ∈ s.inService c, (s.phase q).limitedNow = false) → (∀ a, x.limitedAt = some a → a + 100000 ≤ s.now) →
      Does (.burstEnter c) s (fun t => (t.conv c).burst = true ∧ ((s.phase p).state = .run → (t.phase p).state = .burstIdle))) ∧
    (x.burst = true → s.burstOver c = true → Does (.burstExit c) s (fun t => (t.conv c).burst = false ∧
      (t.conv .feed).burst = false)) ∧
    (x.burst = true → s.burstOver c = true → (s.phase p).state = .burstIdle → Does (.burstExit c) s (fun t => (t.phase p).pend = .resume)) ∧
    ((s.conv .feed).burst = true → (s.conv .feed).packet = none →
      s.busMilli < s.get K.busReferenceInForce - s.get (K.convBurstBand 0) →
      Does .feedBurstPacket s (fun t => (t.conv .feed).packet = some 0)) ∧
    ((s.phase p).state = .run →
      Does .shareTrim s (fun t => t.get (K.phaseTrim p) = max (min (s.get (K.phaseTrim p) +
        rheDiv (s.get (K.convShareGain c.idx) * (mean - s.phaseCurrent p) * phaseCount c) (s.getN (K.convContinuousRating c.idx)))
          tmax) (-tmax))) ∧
    (∀ a, (s.phase p).limitSince = some a → a + 1000000000 ≤ s.now → (s.phase p).trimLimited = false →
      Does (.shareTrimAtLimit p) s (fun t => (t.phase p).trimLimited = true))

/-- O24. A clove for this node, shelf or group is refused and counted for its version, an empty key slot or a wrong
tag before it is marked seen, a duplicate is counted and nothing else done, and for an invalid time, a reserved
argument, a fire FT too close and not within the late limit of an action that fires late, one beyond the
horizon, or a full schedule it is marked seen, refused and counted. A clove for none of them, and no loan of the
own shelf, changes nothing. Its conclusions say that exec answers a next state, with the effect, for:
CLOVE_RECEIVE. (04_fabric_time_and_cloves.md, R104, R106) -/
def Obligations.ClovesAreTestedInTheOrderOfR106 : Prop :=
  ∀ (s : State) (c : Clove) (a : Nat),
    let n := fun sub : Nat => K.cloveCloveCounters (sub - 1)
    let refused := fun (sub : Nat) (t : State) => t.clv = s.clv ∧ counts s t (n sub) 1
    let seen := fun (sub : Nat) (t : State) => t.clv = (s.markSeen c).clv ∧ counts s t (n sub) 1
    let timed := s.time.mode = .locked ∨ s.time.mode = .holdover
    (s.addressed c = false → s.ownLedger c = false → exec (.cloveReceive c a) s = .next s) ∧
    (s.addressed c = true →
      (c.version.toNat / 16 ≠ 1 → Does (.cloveReceive c a) s (refused 0x0C)) ∧
      (c.version.toNat / 16 = 1 → s.clv.keys[c.key] = none → Does (.cloveReceive c a) s (refused 0x0F)) ∧
      ∀ key, c.version.toNat / 16 = 1 → s.clv.keys[c.key] = some key →
        (c.tag ≠ c.tagFor key → Does (.cloveReceive c a) s (refused 0x08)) ∧
        (c.tag = c.tagFor key → s.duplicate c = true →
          Does (.cloveReceive c a) s (fun t => refused 0x07 t ∧ t.que = s.que ∧ t.rcd = s.rcd ∧ t.host = s.host)) ∧
        (c.tag = c.tagFor key → s.duplicate c = false →
          (¬timed → Does (.cloveReceive c a) s (seen 0x09)) ∧
          (timed → c.argsReserved = true → Does (.cloveReceive c a) s (seen 0x0C)) ∧
          (timed → c.argsReserved = false → c.fireFt.toNat < a + 200 →
            (c.firesLate = false ∨ c.fireFt.toNat + s.getN K.cloveLateLimit < a) → Does (.cloveReceive c a) s (seen 0x05)) ∧
          (timed → c.argsReserved = false → a + 200 ≤ c.fireFt.toNat → c.action.toNat ≠ 9 →
            (s.getN K.cloveHorizon * 1000000 < c.fireFt.toNat - a → Does (.cloveReceive c a) s (seen 0x06)) ∧
            (c.fireFt.toNat - a ≤ s.getN K.cloveHorizon * 1000000 → 65536 ≤ s.cloveOccupancy →
              Does (.cloveReceive c a) s (seen 0x0A)))))

/-- O25. CLOVE_RECEIVE of a clove that passes the tests puts its 40 bytes at priority 6 behind what waits in queue
32, given a free cell; CLOVE_INSERT of the front item enters it in the schedule while its fire FT lies ahead,
else it fires at once; CLOVE_PROMOTE marks its clove, of the earliest 4,096, as on the die and moves nothing;
CANCEL takes the clove with the same shelf, key and fire FT out; CLOVE_INJECT that may originate uses the
shelf's next sequence and is answered with that sequence and success. Where these rules leave a point open it
follows the choices of the model in log entries 25, 26. Its conclusions say that exec answers a next state, with
the effect, for: CLOVE_RECEIVE, CLOVE_INSERT, CLOVE_PROMOTE, CANCEL, CLOVE_INJECT.
(04_fabric_time_and_cloves.md, R103, R105, R106, R108, R110) -/
def Obligations.ClovesArePlacedScheduledAndCancelled : Prop :=
  ∀ (s : State) (c : Clove) (a : Nat) (r : CloveRef) (w : HostWrite),
    (s.cloveTest c a = .place → (s.queue 32).waiting = none → 1 ≤ s.dieRoom (s.queue 32) →
      Does (.cloveReceive c a) s (fun t => t.clv = (s.markSeen c).clv ∧ ∃ i : QItem,
        (t.queue 32).items = (s.queue 32).items ++ [i] ∧ i.data = c.bytes ∧ i.prio = 6 ∧ i.stamp = a ∧ i.complete = true)) ∧
    (∀ i, s.readable (s.queue 32) (fun _ => false) = some i → i.poison = false → Clove.ofBytes i.data = some c →
      s.ft < c.fireFt.toNat → s.clv.schedule.length < 65536 →
      Does .cloveInsert s (fun t => t.clv.schedule.length = s.clv.schedule.length + 1 ∧
        (∃ e ∈ t.clv.schedule, e.clove = c ∧ e.arrival = i.stamp) ∧ (∀ j ∈ (t.queue 32).items, j.id ≠ i.id))) ∧
    (∀ i, s.readable (s.queue 32) (fun _ => false) = some i → i.poison = false → Clove.ofBytes i.data = some c →
      c.fireFt.toNat ≤ s.ft → Does .cloveInsert s (fun t => c.ref ∈ t.pair.fired ∧ counts s t (K.cloveCloveCounters 2) 1)) ∧
    Does (.clovePromote r) s (fun t => t.clv.schedule.map (·.clove) = s.clv.schedule.map (·.clove) ∧
      ∀ e ∈ t.clv.schedule.take 4096, e.clove.ref = r → e.onDie = true) ∧
    (∀ e, s.cloveTest c a = .cancel → s.scheduled? { shelf := c.shelf, key := c.key, seq := c.argA.toNat } = some e →
      e.clove.fireFt = c.fireFt →
      Does (.cancel c a) s (fun t => (∀ x ∈ t.clv.schedule, x.clove.ref ≠ e.clove.ref) ∧
        (∀ x ∈ s.clv.schedule, x.clove.ref ≠ e.clove.ref → x ∈ t.clv.schedule) ∧ counts s t (K.cloveCloveCounters 10) 1)) ∧
    (s.takes K.cloveCloveInject w → s.canOriginate = true →
      Does (.cloveInject w) s (fun t => (∃ l, t.outbox = .status 0 ::
          .injected s.clv.nextSeq :: (l ++ s.outbox)) ∧
        t.clv.nextSeq = (s.clv.nextSeq + 1) % 2 ^ 32))

/-- O26. A scheduled clove whose fire FT lies in the tick fires after those before it in the order of R109, leaves
the schedule and acts: SET_REG writes its clove register unless a later one has, and register 0 within 760 to
840 V moves the bus target while the standard loop set runs; RACK_CAP is the rack cap in force, unless a later
one is; GROUP_CAP sets or releases its shelf's level in each group of that campus id; STEP_MARK's mark becomes
active; SWEEP_START plans a sweep at the first tick boundary after its lead; QUIET_WINDOW opens a window or
extends it. Its conclusions say that exec answers a next state, with the effect, for: SET_REG, RACK_CAP,
GROUP_CAP, STEP_MARK, SWEEP_START, QUIET_WINDOW. (04_fabric_time_and_cloves.md, R107, R159, R198, R204, R233,
R308, R331) -/
def Obligations.ClovesActWhenTheyFire : Prop :=
  ∀ (s : State) (r : CloveRef) (c : Clove),
    let n : Fin 16 := (c.argA.setWidth 4).toFin
    let v : BitVec 32 := c.argB.setWidth 32
    let fire := c.fireFt.toNat
    let u := s.turnOf r
    (s.fires r 1 c → Does (.setReg r) s (fun t => gone r t ∧
      t.card.cloveRegs = (if u.regAfter n c then u.card.cloveRegs.set n v else u.card.cloveRegs) ∧
      (n = 0 → u.standardStorage = true → 760000 ≤ v.toInt → v.toInt ≤ 840000 →
        t.get K.busVoltageTarget = if u.pow.targetStamp ≤ fire then v.toInt else u.get K.busVoltageTarget) ∧
      (n = 0 → u.standardStorage = true → v.toInt < 760000 ∨ 840000 < v.toInt →
        t.get K.busVoltageTarget = u.get K.busVoltageTarget ∧ counts u t K.loopRegister0Refusals 1))) ∧
    (s.fires r 2 c → Does (.rackCap r) s (fun t => gone r t ∧
      t.get K.rackRackCapInForce = if u.rack.capStamp ≤ fire then (c.argA.toNat : Int) else u.get K.rackRackCapInForce)) ∧
    (s.fires r 3 c → Does (.groupCap r) s (fun t => gone r t ∧ ∀ g : Fin 64,
      let level := c.argB.toNat % 65536
      (u.getN (K.groupCampusGroupId g) ≠ c.argA.toNat % 65536 ∨ c.argA.toNat % 65536 = 0 → t.group g = u.group g) ∧
      (u.getN (K.groupCampusGroupId g) = c.argA.toNat % 65536 → c.argA.toNat % 65536 ≠ 0 →
        (level ≠ 0xFFFF → ({ shelf := c.shelf, level := level, at_ := u.now } : RemoteLevel) ∈ (t.group g).remote) ∧
        (∀ x ∈ (t.group g).remote, x.shelf = c.shelf → level ≠ 0xFFFF ∧ x.level = level)))) ∧
    (s.fires r 4 c → Does (.stepMark r) s (fun t => gone r t ∧ t.saf.marks.length = u.saf.marks.length ∧
      ∀ m ∈ t.saf.marks, m.isOf r = true → m.active = true)) ∧
    (s.fires r 7 c → Does (.sweepStart r) s (fun t => gone r t ∧ ∃ x ∈ t.chn.sweeps, x.kind = c.argA.toNat ∧
      x.periodic = false ∧ x.sent = false ∧ x.sample % 1000 = 0 ∧
      fire + u.leadOf (u.kindFilter c.argA.toNat) ≤ x.sample ∧ x.sample < fire + u.leadOf (u.kindFilter c.argA.toNat) + 1000)) ∧
    (s.fires r 8 c → Does (.quietWindow r) s (fun t => gone r t ∧
      (u.getN K.quietQuietRequest < 2 → t.getN K.quietQuietRequest = 2 ∧ t.soc.holdBegan = false ∧
        t.getN K.quietWindowEnd = fire + c.argA.toNat * 1000000) ∧
      (2 ≤ u.getN K.quietQuietRequest → t.getN K.quietQuietRequest = u.getN K.quietQuietRequest ∧
        t.getN K.quietWindowEnd = max (u.getN K.quietWindowEnd) (fire + c.argA.toNat * 1000000))))

/-- O27. LEDGER_LEND and LEDGER_RETURN that fire first end the loans due at their fire FT. LEDGER_LEND, with fewer
than 64 loans left, adds one with the clove's direction, slice, start and return, lent when the source is the
own shelf; LEDGER_RETURN ends one matching loan, borrowed where the source is the own shelf and lent where it is
the borrower, and no other; LOAN_EXPIRY leaves exactly the loans whose return FT lies ahead; STEP_MARK_EXPIRY
exactly the marks whose duration has not passed. The ledger shows the number of loans. Its conclusions say that
exec answers a next state, with the effect, for: LEDGER_LEND, LEDGER_RETURN, LOAN_EXPIRY, STEP_MARK_EXPIRY.
(12_rack_budget.md, R233, R333, R334) -/
def Obligations.LoansAndMarksComeAndGo : Prop :=
  ∀ (s : State) (r : CloveRef) (c : Clove),
    let u := s.turnOf r
    let loans := u.rack.loans.filter (fun l => decide (c.fireFt.toNat < l.ret))
    (s.fires r 5 c → loans.length < 64 → Does (.ledgerLend r) s (fun t => gone r t ∧ ∃ l : Loan,
      t.rack.loans = loans ++ [l] ∧ l.slice = c.argA.toNat % 2 ^ 31 ∧ (l.up = true ↔ c.argA.getLsbD 31 = false) ∧
      l.start = c.fireFt.toNat ∧ l.ret = c.argB.toNat ∧ (l.lent = true ↔ c.shelf = u.shelfId) ∧
      t.getN K.ledgerLoans = loans.length + 1)) ∧
    (∀ l ∈ loans, s.fires r 6 c →
      (if c.shelf = u.shelfId then l.lent = false ∧ l.peer = c.destShelf else l.lent = true ∧ l.peer = c.shelf) →
      (l.up = true ↔ c.argA.getLsbD 31 = false) → l.slice = c.argA.toNat % 2 ^ 31 →
      Does (.ledgerReturn r) s (fun t => gone r t ∧ t.rack.loans.length + 1 = loans.length ∧
        (∀ x ∈ loans, x.lent ≠ l.lent ∨ x.slice ≠ l.slice ∨ x.up ≠ l.up → x ∈ t.rack.loans) ∧
        t.getN K.ledgerLoans = t.rack.loans.length)) ∧
    Does .loanExpiry s (fun t => (∀ l, l ∈ t.rack.loans ↔ l ∈ s.rack.loans ∧ s.ft < l.ret) ∧
      t.getN K.ledgerLoans = t.rack.loans.length) ∧
    Does .stepMarkExpiry s (fun t => (∀ m, m ∈ t.saf.marks ↔ m ∈ s.saf.marks ∧ s.ft < m.fire + m.duration * 1000) ∧
      t.getN K.safStepMarks = t.saf.marks.length)

/-- O28. ANNOUNCE on a link that carries no tray records one offer for the link, and makes it the upstream of a
module without time, other offers or mastership; UPSTREAM_LOST drops the offers of a lost link and, without
another, a locked module holds over; FABRIC_TIME_START makes the first candidate master, locked with E = 0 at
quality 3; TIME_DEGRADED follows the error bound of R97; a failed PTP or PPS source leaves a master locked at
quality 2 without TAI. Where these rules leave a point open it follows the choices of the model in log entry
111. Its conclusions say that exec answers a next state, with the effect, for: ANNOUNCE, UPSTREAM_LOST,
FABRIC_TIME_START, TIME_DEGRADED, TIME_SOURCE_FAILED. (04_fabric_time_and_cloves.md, R86, R87, R88, R97) -/
def Obligations.TimeSpreadsOverTheTree : Prop :=
  ∀ (s : State) (link : Fin 32) (neighbour l : Nat) (o : Offer),
    (2 ≤ s.profile link → versionOk o.version = true → Does (.announce link neighbour o) s (fun t =>
      t.time.offers = { link := link, neighbour := neighbour, offer := o, stamp := s.now } ::
        s.time.offers.filter (fun x => decide (x.link ≠ link.val)) ∧
      (s.time.offers = [] → s.time.mode = .invalid → o.quality ≤ 3 → s.hasNode = false → s.time.isMaster = false →
        t.time.upstream = some link.val ∧ t.time.mode = .acquiring ∧ t.time.masterNode = some o.master))) ∧
    (s.time.upstream = some l → s.linkUp l = false → Does .upstreamLost s (fun t =>
      (∀ x ∈ t.time.offers, x.link ≠ l ∧ x ∈ s.time.offers) ∧
      ((∀ x ∈ s.time.offers, x.link = l) → s.time.mode = .locked → s.time.isMaster = false → s.mayMaster = false →
        t.time.mode = .holdover ∧ t.time.upstream = none ∧ t.time.lostAt = s.ft))) ∧
    (s.time.mode = .invalid → s.mayMaster = true → s.ownQuality = 4 → s.time.offers = [] →
      s.time.noOfferSince + 10000000000 ≤ s.now →
      Does .fabricTimeStart s (fun t => t.time.mode = .locked ∧ t.time.isMaster = true ∧ t.time.e = 0 ∧ t.time.quality = 3 ∧
        t.ft = s.now)) ∧
    (s.time.mode = .holdover →
      (s.time.lostAt + 4961 * 1000000 ≤ s.ft → Does .timeDegraded s (fun t => t.time.mode = .degraded)) ∧
      (s.ft < s.time.lostAt + 4959 * 1000000 → exec .timeDegraded s = .next s)) ∧
    (s.ppsInUse = true → Does (.timeSourceFailed true) s (fun t => t.time.ptp.ppsPresent = false ∧
      (s.time.isMaster = true → t.time.quality = 2 ∧ t.time.tai = false))) ∧
    (s.time.ptp.locked = true → Does (.timeSourceFailed false) s (fun t => t.time.ptp.locked = false ∧
      (s.time.isMaster = true → s.mayMaster = true → s.time.offers = [] → t.time.isMaster = true ∧ t.time.mode = .locked ∧ t.time.quality = 2 ∧
        t.time.tai = false)))

/-- O29. ANNOUNCE_SEND puts an offer in line on every UP link and TIMING_SYNC_SEND a SYNC on every UP link but the
upstream; DELAY_REQ_SEND asks upstream and remembers its departure; DELAY_REQ is answered with its arrival.
TIMING_SYNC keeps the stamps, shows the offset of R93 and locks at the 64th one in a row within 2 ns; DELAY_RESP
adds ((t2 - t1) + (t4 - t3)) / 2 to the up to 16 means. Where these rules leave a point open it follows the
choices of the model in log entries 21, 22, 23. Its conclusions say that exec answers a next state, with the
effect, for: ANNOUNCE_SEND, TIMING_SYNC_SEND, DELAY_REQ_SEND, TIMING_SYNC, DELAY_RESP, DELAY_REQ.
(04_fabric_time_and_cloves.md, R87, R92, R93, R95, R96) -/
def Obligations.TimeIsTransferredOverLinks : Prop :=
  ∀ (s : State) (link : Fin 32) (t1 t2 t3 t4 arrival : Nat),
    let v : BitVec 8 := 0x10
    Does .announceSend s (fun t => ∀ n : Fin 32, if s.linkUp n then timingQueued s t n (timingPayload 4 s.offer 0 0)
      else t.link n = s.link n) ∧
    (s.time.mode ≠ .invalid → Does .timingSyncSend s (fun t => ∀ n : Fin 32,
      if s.linkUp n = true ∧ s.time.upstream ≠ some n.val then timingQueued s t n (timingPayload 1 s.offer (s.ft * 65536) 0)
      else t.link n = s.link n)) ∧
    (s.time.upstream = some link.val →
      Does (.delayReqSend t3) s (fun t => t.time.request = some { link := link, departure := t3 } ∧
        timingQueued s t link (timingPayload 2 s.offer t3 0)) ∧
      (s.time.needEpoch = false → t2 ≠ 0 → Does (.timingSync link v t1 t2) s (fun t => t.time.t1 = t1 ∧ t.time.t2 = t2 ∧
        ∀ m, s.meanDelay = some m →
          let off : Int := t2 - (t1 + (m - rheDiv (s.asymmetry link) 2))
          t.get K.timeOffsetFromUpstream = max (min (toPs off) 2147483647) (-2147483648) ∧
          (off.natAbs ≤ 131072 → 63 ≤ s.time.syncRun → s.time.mode = .acquiring → t.time.mode = .locked))) ∧
      (∀ r, s.time.request = some r → r.link = link.val → s.time.t2 ≠ 0 →
        Does (.delayResp link v t4) s (fun t => t.time.request = none ∧
          t.time.means = (rheDiv (((s.time.t2 : Int) - s.time.t1) + ((t4 : Int) - r.departure)) 2 :: s.time.means).take 16))) ∧
    (s.time.mode ≠ .invalid → Does (.delayReq link v arrival) s (fun t =>
      timingQueued s t link (timingPayload 3 s.offer (s.ft * 65536) arrival)))

/-- O30. PTP_MESSAGE of the enabled port and domain: an announce gives the UTC offset and the port's grandmaster; a
sync of the selected port by the selected mechanism locks the clock, gives the offset from the grandmaster and
is answered with a delay request; a loss on the port in use unlocks it. PPS_IN_EDGE marks PPS present while it
is a source. PPS_MISMATCH drops PPS after 3 s of disagreement. Where these rules leave a point open it follows
the choices of the model in log entries 21, 24, 111. Its conclusions say that exec answers a next state, with
the effect, for: PTP_MESSAGE, PPS_IN_EDGE, PPS_MISMATCH. (04_fabric_time_and_cloves.md, R90, R91) -/
def Obligations.PtpAndPpsDisciplineTheModule : Prop :=
  ∀ (s : State) (port : Fin 2) (domain : Nat) (utc : BitVec 16) (origin arrival stamp b : Nat) (delay : Int)
      (gm : GmData) (p2p : Bool),
    ((s.getN K.ptpPTPPorts).testBit port.val = true → s.getN K.ptpPTPDomain = domain →
      Does (.ptpMessage port domain (.announce utc gm)) s (fun t => t.get K.timeUTCOffset = utc.toInt ∧
        (if port.val = 0 then t.time.ptp.gm0 else t.time.ptp.gm1) = some gm) ∧
      (s.ptpBest = some port.val → p2p = s.ptpP2p →
        Does (.ptpMessage port domain (.sync origin arrival delay p2p)) s (fun t => t.time.ptp.locked = true ∧
          t.time.ptp.port = port.val ∧ OutMsg.ethernet port (if p2p then 2 else 1) [] ∈ t.outbox ∧ t.time.ptp.offset = arrival - (origin + delay))) ∧
      (s.time.ptp.locked = true → s.time.ptp.port = port.val →
        Does (.ptpMessage port domain .lost) s (fun t => t.time.ptp.locked = false))) ∧
    (s.getB K.ptpPPSSource = true → Does (.ppsInEdge stamp) s (fun t => t.time.ptp.ppsPresent = true ∧ t.time.ptp.ppsAt = s.now)) ∧
    (s.time.ptp.ppsBad = some b → b + 3000000000 ≤ s.now → s.time.ptp.ppsDropped = false →
      Does .ppsMismatch s (fun t => t.time.ptp.ppsDropped = true))

/-- O31. FEED_OVERDRAW and CAP_SURPLUS open their episodes once the quantity has stayed above zero for the hold
time, the first one counted; a selection code in force for the binding report time opens its episode: 1 or 4 by
STORAGE_LIMIT_BINDING, 2 by SOC_FLOOR_BINDING, 5 by SOC_CEILING_BINDING, 3 or 6 by THERMAL_DERATE. Its
conclusions say that exec answers a next state, with the effect, for: FEED_OVERDRAW, CAP_SURPLUS,
STORAGE_LIMIT_BINDING, SOC_FLOOR_BINDING, SOC_CEILING_BINDING, THERMAL_DERATE. (07_smoothing_loops.md, R196,
R197, R205, R206) -/
def Obligations.LoopConditionsOpenTheirEpisodes : Prop :=
  ∀ (s : State),
    let opened : State → Prop := fun t => (s.lp.bindCode, 0) ∈ t.lp.bindOpen ∧ ∀ e ∈ s.lp.bindOpen, e ∈ t.lp.bindOpen
    let k := s.lp.bindCode
    (s.lp.odEpisode = false → s.getN K.loopOverdrawHold ≤ s.lp.odRun →
      Does .feedOverdraw s (fun t => t.lp.odEpisode = true ∧ counts s t K.loopOverdrawEpisodes 1)) ∧
    (s.lp.suEpisode = false → s.getN K.loopOverdrawHold ≤ s.lp.suRun →
      Does .capSurplus s (fun t => t.lp.suEpisode = true)) ∧
    (s.getN K.loopBindingReportTime * 1000 ≤ s.lp.bindRun → (∀ e ∈ s.lp.bindOpen, e.1 ≠ k) →
      (k = 1 ∨ k = 4 → Does .storageLimitBinding s opened) ∧ (k = 2 → Does .socFloorBinding s opened) ∧
      (k = 5 → Does .socCeilingBinding s opened) ∧ (k = 3 ∨ k = 6 → Does .thermalDerate s opened))

/-- O32. LEGACY_ENABLE with neither conflict waits for the boundary; LEGACY_ENTRY_WRITE of entry 0 clears the rest
and arms for the next whole second, of the next entry in LOADING it is taken, out of order refused with
LEGACY_ORDER; LEGACY_ACTIVATION at the activation FT with valid time takes the copy and runs; LEGACY_ENTRY_PLAY
adds its step and forms the limit per chip; LEGACY_SEQUENCE_DONE after 16 ms lifts it and returns to IDLE. Its
conclusions say that exec answers a next state, with the effect, for: LEGACY_ENABLE, LEGACY_ENTRY_WRITE,
LEGACY_ACTIVATION, LEGACY_ENTRY_PLAY, LEGACY_SEQUENCE_DONE. (20_legacy_step_table.md, R483, R484, R485, R486) -/
def Obligations.LegacyTableIsLoadedAndPlayed : Prop :=
  ∀ (s : State) (w : HostWrite) (i : Fin 16),
    let st := s.getN K.legacyState
    let e := fun (t : State) (j : Nat) => t.get (K.legacyEntries0To15 j)
    (s.takes K.legacyEnable w → s.legacyTooBig = false → (∀ g < 64, s.getN (K.groupPolicy g) ≠ 1) →
      Does (.legacyEnable w) s (fun t => saidOk s t ∧ t.get K.legacyEnable = w.num ∧
        t.leg.enabling = some (decide (w.num ≠ 0)) ∧ t.getN K.legacyState = st)) ∧
    (s.takes (K.legacyEntries0To15 i) w → st ≠ 0 →
      (i = 0 → Does (.legacyEntryWrite i w) s (fun t => saidOk s t ∧ e t 0 = w.num ∧ (∀ j, 1 ≤ j → j < 16 → e t j = 0x800) ∧
        t.getN K.legacyState = 2 ∧ t.getN K.legacyNextEntry = 1 ∧
        t.getN K.legacyActivationFT = (s.ft / 1000000000 + 1) * 1000000000)) ∧
      (i ≠ 0 → st = 2 → s.getN K.legacyNextEntry = i → Does (.legacyEntryWrite i w) s (fun t => saidOk s t ∧
        e t i = w.num ∧ (∀ j < 16, j ≠ i.val → e t j = e s j) ∧ t.getN K.legacyNextEntry = i + 1)) ∧
      (i ≠ 0 → st ≠ 2 ∨ s.getN K.legacyNextEntry ≠ i → Does (.legacyEntryWrite i w) s (fun t =>
        t.outbox = .status Cause.legacyOrder :: s.outbox ∧ (∀ j < 16, e t j = e s j)))) ∧
    (st = 2 → s.getN K.legacyActivationFT ≤ s.ft → s.leg.running = false → s.time.mode = .locked ∨ s.time.mode = .holdover →
      Does .legacyActivation s (fun t => t.getN K.legacyState = 3 ∧ t.leg.running = true ∧ t.leg.nextPlay = 0 ∧
        t.leg.runS = s.getN K.legacyActivationFT ∧ t.leg.pRef = (s.chipsIn.map (fun c => s.getN (K.chipMeasuredPower c))).sum ∧
        ∀ j < 16, t.legacyCopied j = s.getN (K.legacyEntries0To15 j) % 65536)) ∧
    (s.leg.running = true → s.leg.nextPlay = i → s.leg.runS + i * 1000000 ≤ s.ft →
      Does .legacyEntryPlay s (fun t => t.leg.nextPlay = i + 1 ∧ t.getN K.legacyRunningEntry = i ∧
        t.leg.stepSum = s.leg.stepSum + (s.legacyCopied i - 2048) ∧
        (s.chipsIn ≠ [] → t.rack.legacyLimit = some (rheDiv (max 0 ((s.leg.pRef * 4096 : Nat) + t.leg.stepSum * 600000))
          (4096 * s.chipsIn.length)).toNat))) ∧
    (s.leg.running = true → s.leg.runS + 16000000 ≤ s.ft →
      Does .legacySequenceDone s (fun t => t.leg.running = false ∧ t.rack.legacyLimit = none ∧
        t.getN K.legacyRunningEntry = 255 ∧ t.getN K.legacyState = (if st = 3 then 1 else st) ∧
        counts s t K.legacySequencesPlayed 1))

/-- O33. A frame of another major version or of a reserved kind is dropped and counted. TRAY_IDENT takes a TRAINING
or IDENTIFIED tray to IDENTIFIED with its maxima; TRAY_REPORT that counts gives each slot's measured power and
the tray's, and the sixteenth valid one in IDENTIFIED admits it; TRAY_STATUS gives the throttled map;
STEP_NOTICE is delivered only from ADMITTING or ADMITTED. ADMIT is sent with the tray state; COOLANT_CLEAR and
FLAP_HOLD_EXPIRED end a stop and a held share. Where these rules leave a point open it follows the choices of
the model in log entries 43, 117. Its conclusions say that exec answers a next state, with the effect, for:
STEP_NOTICE, TRAY_IDENT, TRAY_REPORT, TRAY_STATUS, ADMIT, COOLANT_CLEAR, FLAP_HOLD_EXPIRED. (12_rack_budget.md,
R316, R318, R319, R320, R321, R331, R332) -/
def Obligations.TrayFramesAreTakenIn : Prop :=
  ∀ (s : State) (t : Fin 24) (b : List Byte) (stamp sess : Nat),
    let st := s.trayStateOf t
    let frame := fun kind : Nat => wordAt b 0 1 / 16 = 1 ∧ wordAt b 1 1 = kind
    let r := TrayReport.ofBytes b
    let u := TrayStatus.ofBytes b
    let d := TrayIdent.ofBytes b
    let n := StepNotice.ofBytes b
    (wordAt b 0 1 / 16 ≠ 1 ∨ wordAt b 1 1 ∉ trayKinds →
      ∀ i ∈ [Instr.stepNotice t b stamp, .trayIdent t b, .trayReport t b stamp, .trayStatus t b stamp],
        Does i s (fun x => counts s x (K.trayFramesDropped t) 1 ∧ x.card = s.card ∧ x.rack = s.rack)) ∧
    (frame 4 → st < 3 → Does (.stepNotice t b stamp) s (fun x => counts s x (K.trayFramesDropped t) 1 ∧ x.card = s.card)) ∧
    (frame 4 → 3 ≤ st → Does (.stepNotice t b stamp) s (fun x => counts s x (K.trayNotices t) 1 ∧
      ∀ (m : Fin 4) p, (s.core m).prog = some p → p.hasHandler = true → (s.core m).maskInForce.getLsbD t = true →
        (s.core m).state = .running → (s.core m).notice = none →
        ∃ y, (x.core m).notice = some y ∧ y.count = 1 ∧ y.stamp = stamp % 2 ^ 32 ∧
          y.step = max (min (rheDiv (n.step.toInt * 2147483648) 2000000) 2147483647) (-2147483648))) ∧
    (frame 3 → st = 1 ∨ st = 2 → Does (.trayIdent t b) s (fun x => x.trayStateOf t = 2 ∧
      (x.tray t).serial = d.serial.toNat ∧ x.getN (K.trayChipsPresent t) = d.present.toNat ∧
      ∀ k : Fin 8, x.getN (K.chipChipMaximum (chipOf t k)) = (d.maxima[k]).toNat)) ∧
    (frame 1 → st ≠ 0 → r.cycle.toNat = s.rack.cycle % 2 ^ 32 → stamp ≤ (s.rack.cycle + 1) * 10000 →
      (s.tray t).got = false → Does (.trayReport t b stamp) s (fun x => (x.tray t).got = true ∧ (x.tray t).missedRun = 0 ∧
        (∀ k : Fin 8, x.getN (K.chipMeasuredPower (chipOf t k)) = if r.present.getLsbD k then (r.power[k]).toNat else 0) ∧
        (st = 2 → 15 ≤ (s.tray t).validRun → x.trayStateOf t = 3))) ∧
    (frame 2 → st ≠ 0 → Does (.trayStatus t b stamp) s (fun x => (x.tray t).throttled = u.throttled ∧
      (x.tray t).statusAt = s.now)) ∧
    Does (.admitTray t) s (fun x => (x.tray t).seq = ((s.tray t).seq + 1) % 2 ^ 32 ∧
      (s.originates = true → x.outbox = .tray (s.getN (K.trayLink t))
        (payAdmit s.shelfId (s.tray t).seq (s.getN (K.trayState t))) :: s.outbox)) ∧
    (s.takesByte (K.trayCoolantClear t) sess 1 → 2 ≤ s.getN (K.trayCoolant t) →
      ((s.tray t).loss = false → Does (.coolantClear t sess) s (fun x => saidOk s x ∧ x.getN (K.trayCoolant t) = 0)) ∧
      ((s.tray t).loss = true → Does (.coolantClear t sess) s (fun x => refusedWith s x Cause.functionRunning ∧
        x.getN (K.trayCoolant t) = s.getN (K.trayCoolant t)))) ∧
    (∀ h, (s.tray t).holdShare = some h → h.2 ≤ s.now → Does (.flapHoldExpired t) s (fun x => (x.tray t).holdShare = none))

/-- O34. TRAY_CYCLE_BOUNDARY at a fabric time that is a multiple of 10 us, not yet acted on, begins the next cycle;
a tray whose report has been missed a third time in a row is ABSENT; afterwards each chip of an ADMITTING or
ADMITTED tray has a ceiling that is a stop or at most its maximum, and a floor of at most its ceiling. At any
other time it changes nothing. Where these rules leave a point open it follows the choices of the model in log
entries 40, 41. Its conclusions say that exec answers a next state, with the effect, for: TRAY_CYCLE_BOUNDARY.
(12_rack_budget.md, R320, R324, R325, R332) -/
def Obligations.TrayCycleBoundaryJudgesAndLimits : Prop :=
  ∀ (s : State),
    (s.ft % 10000 = 0 → s.rack.boundary ≠ some s.ft → Does .trayCycleBoundary s (fun x =>
      x.rack.cycle = s.ft / 10000 ∧ x.rack.boundary = some s.ft ∧
      (∀ t : Fin 24, 2 ≤ s.trayStateOf t → (s.tray t).got = false → 2 ≤ (s.tray t).missedRun →
        x.trayStateOf t = 0 ∧ counts s x (K.trayAbsences t) 1) ∧
      (∀ c < 192, x.chipIn c = true →
        (x.getN (K.chipCeilingInForce c) = 0x8000 ∨ x.getN (K.chipCeilingInForce c) ≤ x.getN (K.chipChipMaximum c)) ∧
        x.getN (K.chipFloorInForce c) ≤ x.getN (K.chipCeilingInForce c) % 0x8000))) ∧
    (s.ft % 10000 ≠ 0 ∨ s.rack.boundary = some s.ft → exec .trayCycleBoundary s = .next s)

/-- O35. GROUP_CAP_REFRESH of a held level originates it again once the refresh time has passed; GROUP_RELEASE after
the release hold clears the local level; GROUP_CAP_LAPSE drops remote levels not renewed for the lifetime;
LEDGER_PROJECTION publishes the need of R335 or none; RACK_CAP_WRITE puts its watts in force, unless a cap of a
later stamp is. Where these rules leave a point open it follows the choices of the model in log entries 25, 42,
117. Its conclusions say that exec answers a next state, with the effect, for: GROUP_CAP_REFRESH, GROUP_RELEASE,
GROUP_CAP_LAPSE, LEDGER_PROJECTION, RACK_CAP_WRITE. (12_rack_budget.md, R204, R330, R331, R335) -/
def Obligations.GroupsLedgerAndRackCapAct : Prop :=
  ∀ (s : State) (g : Fin 64) (w : HostWrite),
    let x := s.group g
    (x.episode = true → x.sentAt + s.getN K.rackGroupCapRefresh * 1000000 ≤ s.now → s.canOriginate = true →
      s.getN (K.groupCampusGroupId g) ≠ 0 →
      Does (.groupCapRefresh g) s (fun t => (t.group g).sentAt = s.now ∧
        (t.group g).sentLevel = some (s.getN (K.groupLocalLevel g)) ∧ t.clv.nextSeq = (s.clv.nextSeq + 1) % 2 ^ 32)) ∧
    (x.episode = true → (s.members g).any s.chipThrottled = false →
      x.lastThrottle + s.getN K.rackReleaseHold * 1000000 ≤ s.now →
      Does (.groupRelease g) s (fun t => (t.group g).episode = false ∧ t.getN (K.groupLocalLevel g) = 0xFFFFFFFF)) ∧
    Does (.groupCapLapse g) s (fun t => (∀ e, e ∈ (t.group g).remote ↔
        e ∈ x.remote ∧ s.now < e.at_ + s.getN K.rackGroupCapLifetime * 1000000) ∧
      (∀ e ∈ (t.group g).remote, t.getN (K.groupRemoteLevel g) ≤ e.level)) ∧
    (let d := rheDiv (s.lp.pT * 4000) 2147483648 - rheDiv (s.lp.pF * 4000) 2147483648
     let r : Int := s.getN (if 0 < d then K.ledgerUpRampInForce else K.ledgerDownRampInForce)
     let soc := s.get K.socStringStateOfCharge
     let head := rheDiv ((if 0 < d then soc - s.get K.socFloorInForce else s.get K.socCeilingInForce - soc) *
       (s.get K.socStringEnergy * 1000)) 10000
     let hd := rheDiv (head * s.get K.ledgerNeedMargin) 100
     Does .ledgerProjection s (fun t =>
       (d ≠ 0 ∧ 2 * r * hd < d * d → t.getN K.ledgerNeedDirection = (if 0 < d then 1 else 2) ∧
         (0 < hd → t.get K.ledgerNeedSlice = max (min (rheDiv (d * d) (2 * hd).toNat - r) (2 ^ 32 - 1)) 0)) ∧
       (¬(d ≠ 0 ∧ 2 * r * hd < d * d) → t.get K.ledgerNeedDirection = 0 ∧ t.get K.ledgerNeedSlice = 0))) ∧
    (s.takes K.rackRackCap w → Does (.rackCapWrite w) s (fun t => saidOk s t ∧
      if s.rack.capStamp < s.ft ∨ (s.rack.capStamp = s.ft ∧ s.rack.capClove = false) then
        t.get K.rackRackCapInForce = w.num ∧ t.get K.rackRackCap = w.num
      else t.get K.rackRackCapInForce = s.get K.rackRackCapInForce ∧ t.get K.rackRackCap = s.get K.rackRackCap))

/-- O36. As chain master: ENUM, CONFIG, CHAIN_TEST, CHAIN_LOAD, BALANCE and CHAIN_READ send their frame, preamble
and start delimiter before it in Manchester code, to the unit's hop, SLEEP to a unit or to all, LOOP_SEND and
CHAIN_SYNC their chain time, SWEEP the due sweep under the next id and SWEEP_RESEND the latest again from CHB,
and each leaves its effect on the unit; a broadcast leaves from both ends while the ring is broken. A module
that is not chain master sends nothing by any of them. That TEST goes under the next sweep id and that a
duration is cut to its U16 are the model's choices (log entry 115). Its conclusions say that exec answers a next
state, with the effect, for: ENUM, CONFIG, CHAIN_TEST, CHAIN_LOAD, BALANCE, CHAIN_READ, SLEEP, LOOP_SEND,
CHAIN_SYNC, SWEEP, SWEEP_RESEND. (10_cell_chain.md, R268, R269, R271, R273, R274, R280, R283, R287, R293, R296,
R297) -/
def Obligations.ChainFramesLeaveTheMaster : Prop :=
  ∀ (s : State) (a : Bool) (u : Fin 32) (k : Fin 16) (off total ms_ : Nat) (data : List Byte) (sw : Bool),
    let hop := s.hopOf u a
    let end_ := (s.readEnd u).getD true
    (s.getB K.chainChainMaster = false →
      ∀ i ∈ [Instr.enum a u, Instr.config a u, Instr.chainTest a u sw, Instr.chainLoad a (some u) off total data,
          Instr.chainLoad a none off total data, Instr.balance a u none ms_, Instr.balance a u (some (k, sw)) ms_,
          Instr.chainRead a u, Instr.sleep (some u), Instr.sleep none, Instr.loopSend, Instr.chainSync, Instr.sweep,
          Instr.sweepResend],
        Does i s (fun t => t.outbox = s.outbox)) ∧
    (s.getB K.chainChainMaster = true →
      Does (.enum a u) s (fun t => chainSent s t a 4 hop [] ∧ ∃ c ∈ t.chn.cmds, c.unit_ = u ∧ c.type = 4 ∧ c.retried = false ∧
        c.seq = s.chn.nextSeq ∧ c.due = responseDue s.now 0 hop) ∧
      Does (.config a u) s (fun t => chainSent s t a 5 hop (s.configPayload u) ∧
        t.getN (K.unitHopsFromCHA u) = u + 1 ∧ t.getN (K.unitHopsFromCHB u) = s.unitCount - u) ∧
      Does (.chainTest a u sw) s (fun t =>
        chainSent s t a 7 hop (payTest (if sw then 4 else 3) ((s.chn.nextId + 1) % 65536)) ∧ (t.cunit u).testing = none ∧
        (t.cunit u).testOn = some ((s.chn.nextId + 1) % 65536, s.ft + (if sw then 400000000 else 34000000)) ∧
        t.get (K.unitBalancing u) = 0) ∧
      Does (.chainLoad a (some u) off total data) s (fun t => chainSent s t a 8 hop (payLoad off total data)) ∧
      Does (.chainLoad a none off total data) s (fun t => chainSent s t a 8 0 (payLoad off total data)) ∧
      Does (.balance a u none ms_) s (fun t => chainSent s t a 6 hop (payBalance 255 0 0) ∧ t.get (K.unitBalancing u) = 0) ∧
      (s.getB K.balBalancingEnable = true → s.inhibited u k sw = false → s.unitStateOf u = 3 →
        Does (.balance a u (some (k, sw)) ms_) s (fun t =>
          chainSent s t a 6 hop (payBalance k (if sw then 0 else 1) (min ms_ 65535)) ∧
          t.getN (K.unitBalancing u) = k + (if sw then 0 else 16) + 32768)) ∧
      (∀ id e, s.readEnd u = some a → (s.cunit u).testOn = some (id, e) → e ≤ s.ft → Does (.chainRead a u) s (fun t =>
        t.outbox = .chain a (s.chainLine 3 hop 2 (leBytes 2 id)) :: s.outbox)) ∧
      (∀ x, s.readEnd u = some a → (∀ p, (s.cunit u).testOn = some p → s.ft < p.2) →
        s.sentSweeps.find? (fun y => (y.marks[u]).isNone && !y.testOnly) = some x → x.readyAt ≤ s.ft → s.nearest a u x = true →
        Does (.chainRead a u) s (fun t => chainSent s t a 3 hop (leBytes 2 x.id))) ∧
      Does (.sleep (some u)) s (fun t => chainSent s t end_ 9 (s.hopOf u end_) [] ∧ t.get (K.unitBalancing u) = 0 ∧
        (s.unitStateOf u = 3 → t.unitStateOf u = 4)) ∧
      Does (.sleep none) s (fun t => broadcastSent s t 9 [] ∧ t.chainIs 5 = true ∧
        ∀ v ∈ s.configured, s.unitStateOf v = 3 → t.unitStateOf v = 4) ∧
      (s.chainIs 1 = true ∨ s.chainIs 3 = true ∨ s.chainIs 4 = true → s.chn.loopAt ≤ s.now → Does .loopSend s (fun t =>
        chainSent s t true 10 255 (payTime s.chainTime) ∧ t.chn.loopOk = false)) ∧
      Does .chainSync s (fun t => broadcastSent s t 1 (payTime s.chainTime) ∧ (s.chainIs 1 = true →
        t.getN K.chainChainState = if s.chn.loopOk then 2
          else if s.configured.any (fun v => (s.cunit v).missA && (s.cunit v).missB) then 4 else 3)) ∧
      (∀ x, s.dueSweep = some x → Does .sweep s (fun t =>
        broadcastSent s t 2 (({ x with id := (s.chn.nextId + 1) % 65536 } : Sweep).payload s.chainTime) ∧
        ∃ y ∈ t.chn.sweeps, y.sent = true ∧ y.id = (s.chn.nextId + 1) % 65536 ∧ y.sample = x.sample ∧ y.kind = x.kind)) ∧
      (∀ x, s.chainIs 2 = true → s.sentSweeps.getLast? = some x → Does .sweepResend s (fun t =>
        chainSent s t false 2 0 (x.payload s.chainTime))))

/-- O37. A frame that fails its checks is dropped and counted. A response that a listener hears, or that echoes a
command in flight, acts: IDENT with the recorded serial and the bank's firmware makes its unit RUNNING, without
that firmware LOADING or, in service, stale; another serial makes it ABSENT until SERIAL_ACCEPT takes it; RESULT
marks its sweep and keeps cells, block and time; TEST_RESULT gives the open-wire or switch map; ACK ends the
command it echoes; LOOP in time gives the loop delay; ALERT is counted and trips; CHAIN_RESPONSE_TIMEOUT retries
once and then makes the unit unreachable from that end, stale from both. SWEEP_COMPLETE publishes the sweep.
Which responses the module acts on is the model's choice (log entry 115). Its conclusions say that exec answers
a next state, with the effect, for: IDENT, SERIAL_ACCEPT, RESULT, TEST_RESULT, ACK, LOOP, ALERT,
CHAIN_RESPONSE_TIMEOUT, SWEEP_COMPLETE. (10_cell_chain.md, R65, R268, R270, R271, R273, R275, R280, R284, R286,
R293, R294) -/
def Obligations.ChainAnswersAreTakenIn : Prop :=
  ∀ (s : State) (a : Bool) (u : Fin 32) (b : List Byte) (f : ChainFrame) (x : Sweep) (c : ChainCmd) (delay sess : Nat),
    let known := s.getN (K.unitSerial u)
    let i := ChainIdent.ofBytes f.payload
    let r := ChainResult.ofBytes f.payload
    let q := ChainTestResult.ofBytes f.payload
    let al := ChainAlert.ofBytes f.payload
    (ChainFrame.ofBytes b = none → ∀ j ∈ [Instr.ident a u b, Instr.result a u b, Instr.testResult a u b, Instr.ack u b,
      Instr.loop b delay, Instr.alert b], Does j s (fun t => counts s t K.chainFramesDropped 1 ∧ t.chn = s.chn)) ∧
    (heard b 0x84 48 f → s.chainExpects u f = true → known = 0 ∨ known = i.serial.toNat → Does (.ident a u b) s (fun t =>
      t.getN (K.unitSerial u) = i.serial.toNat ∧ (t.cunit u).changed = false ∧ t.getN (K.unitPath u) = (if a then 0 else 1) ∧
      (s.csuVerified i = true → t.unitStateOf u = 3 ∧ (t.cunit u).reloads = 0 ∧ (t.cunit u).staleSince = none) ∧
      (s.csuVerified i = false → i.running = true ∨ s.chainIs 1 = true → t.unitStateOf u = if 3 ≤ (s.cunit u).reloads then 1 else 2) ∧
      (i.running = false → s.chainIs 0 = false → s.chainIs 1 = false → 5 ≤ t.unitStateOf u))) ∧
    (heard b 0x84 48 f → s.chainExpects u f = true → known ≠ 0 → known ≠ i.serial.toNat → Does (.ident a u b) s (fun t =>
      t.unitStateOf u = 1 ∧ t.getN (K.unitSerial u) = known ∧ (t.cunit u).changed = true ∧
      (t.cunit u).present = i.serial.toNat)) ∧
    (s.takesByte K.chainSerialMap sess 1 → Does (.serialAccept sess) s (fun t => saidOk s t ∧
      ∀ v ∈ s.configured, (s.cunit v).present ≠ 0 → t.getN (K.unitSerial v) = (s.cunit v).present ∧ (t.cunit v).changed = false)) ∧
    (heard b 0x83 56 f → s.chainExpects u f = true → s.sentSweeps.find? (fun y => decide (y.id = r.sweep.toNat)) = some x →
      Does (.result a u b) s (fun t => (∀ y ∈ t.chn.sweeps, y.sent = true → y.id = r.sweep.toNat →
          y.marks[u] = some (if r.flags.getLsbD 0 then (if a then 0 else 1) else 3)) ∧
        (r.flags.getLsbD 0 = true → (t.cunit u).valid = true ∧ (t.cunit u).block = r.block.toNat ∧
          t.getN (K.unitResultFT u) = x.sample ∧
          (s.getN (K.unitOpenWireMap u) = 0 → ∀ j : Fin 16, (t.cunit u).cells[j] = (r.cells[j]).toNat)))) ∧
    (heard b 0x87 16 f → s.chainExpects u f = true → Does (.testResult a u b) s (fun t => (t.cunit u).testOn = none ∧
      (q.kind.toNat = 3 → ∀ w : Fin 17, t.wireOpen u w = q.wires.getLsbD w) ∧
      (q.kind.toNat ≠ 3 → t.getN (K.unitSwitchFaultMap u) = q.switches.toNat))) ∧
    (heard b 0x85 2 f → s.chainExpects u f = true → Does (.ack u b) s (fun t =>
      ∀ d, d ∈ t.chn.cmds ↔ d ∈ s.chn.cmds ∧ ¬(d.unit_ = u ∧ d.type + 128 = f.type ∧ d.seq = f.seq))) ∧
    (heard b 0x0A 4 f → Does (.loop b delay) s (fun t => if delay ≤ 20000 + 2000 * s.unitCount then
      t.chn.loopOk = true ∧ t.getN K.chainLoopDelay = delay
      else t.chn.loopOk = false ∧ t.get K.chainLoopDelay = s.get K.chainLoopDelay)) ∧
    (heard b 0x0B 16 f → s.configured.find? (fun v : Fin 32 => decide (s.getN (K.unitSerial v) = al.serial.toNat)) = some u →
      Does (.alert b) s (fun t => counts s t (K.unitAlerts u) 1 ∧ (al.low ≠ 0 → t.chn.lowTrip = true) ∧
        (al.high ≠ 0 → t.chn.highTrip = true) ∧ (al.temp ≠ 0 → t.chn.tempTrip = true))) ∧
    (s.chn.cmds.find? (fun d => decide (d.unit_ = u.val) && decide (d.fromA = a) && decide (d.due < s.now)) = some c →
      (c.retried = false → Does (.chainResponseTimeout a u) s (fun t => counts s t K.chainTransactionsRetried 1 ∧
        { c with retried := true, due := responseDue s.now c.payload.length (s.hopOf u a) } ∈ t.chn.cmds ∧
        (s.getB K.chainChainMaster = true → t.outbox =
          .chain a (({ type := c.type, hop := s.hopOf u a, flags := c.flags, seq := c.seq,
                       payload := c.payload } : ChainFrame).line) :: s.outbox))) ∧
      (c.retried = true → u ∈ s.configured → Does (.chainResponseTimeout a u) s (fun t => c ∉ t.chn.cmds ∧
        (if a then (t.cunit u).missA else (t.cunit u).missB) = true ∧
        ((if a then (s.cunit u).missB else (s.cunit u).missA) = true → s.isStale u = false → s.chainIs 1 = false →
          t.unitStateOf u = 5 ∧ (t.cunit u).staleSince = some s.now)))) ∧
    (s.sentSweeps.find? (fun w => s.configured.all (fun v => (w.marks[v]).isSome)) = some x →
      Does .sweepComplete s (fun t => x ∉ t.chn.sweeps ∧ counts s t K.chainSweepsCompleted 1 ∧
        t.getN K.sweepSweepId = x.id ∧ t.get K.sweepWindowCurrent = s.windowMean 43 x))

/-- O38. CHAIN_MASTER_CHANGED makes a module that should be master one; SWEEP_PERIODIC plans kind 1 at a whole
multiple of the period after the lead, SWEEP_REQUEST its kind at the next boundary; CELL_LIMIT_RELEASED lifts a
trip 10 s within the warning levels, and NORMAL becomes RECOVERY; CHAIN_RESTORED returns to RING;
CHAIN_STALE_TIMEOUT blocks when the action says so; the test and balancing intervals start again. Where these
rules leave a point open it follows the choices of the model in log entries 50, 115. Its conclusions say that
exec answers a next state, with the effect, for: CHAIN_MASTER_CHANGED, SWEEP_PERIODIC, SWEEP_REQUEST,
CELL_LIMIT_RELEASED, CHAIN_RESTORED, CHAIN_STALE_TIMEOUT, OPEN_WIRE_INTERVAL, SWITCH_TEST_INTERVAL,
BALANCING_INTERVAL. (10_cell_chain.md, R268, R280, R285, R289, R290, R293, R295, R297) -/
def Obligations.ChainTimersAndReleasesAct : Prop :=
  ∀ (s : State) (kind : Fin 3) (t0 : Nat) (u : Fin 32) (w : HostWrite),
    let trip := fun (t : State) (j : Fin 3) => match j.val with | 0 => t.chn.lowTrip | 1 => t.chn.highTrip | _ => t.chn.tempTrip
    let ok := match kind.val with | 0 => s.chn.lowOk | 1 => s.chn.highOk | _ => s.chn.tempOk
    let period := s.getN K.chainSweepPeriod * 1000000
    (s.masterDue = true → Does .chainMasterChanged s (fun t => t.getB K.chainChainMaster = true)) ∧
    (s.chn.sweeps = [] → 0 < period → Does .sweepPeriodic s (fun t => ∃ x, t.chn.sweeps = [x] ∧ x.kind = 1 ∧ x.periodic = true ∧
      x.sample % period = 0 ∧ s.ft + s.leadOf (s.kindFilter 1) ≤ x.sample ∧ x.sample < s.ft + s.leadOf (s.kindFilter 1) + period)) ∧
    (s.takes K.chainSweepRequest w → Does (.sweepRequest w) s (fun t => saidOk s t ∧ sweepPlanned s t w.num s.ft)) ∧
    (trip s kind = true → ok = some t0 → t0 + 10000000000 ≤ s.now → Does (.cellLimitReleased kind) s (fun t =>
      trip t kind = false ∧ (∀ j, j ≠ kind → trip t j = trip s j) ∧ (t.getN K.limitLimitState).testBit kind = false ∧
        (s.socModeIs 2 = true → t.socModeIs 4 = true))) ∧
    (s.chainIs 3 = true ∨ s.chainIs 4 = true → s.chn.loopOk = true → Does .chainRestored s (fun t => t.chainIs 2 = true ∧
      t.get K.chainBreakAfter = 0 ∧ (u ∈ s.configured → (t.cunit u).missA = false ∧ (t.cunit u).missB = false ∧
        (s.unitStateOf u = 5 → t.unitStateOf u = 3)))) ∧
    (u ∈ s.configured → s.isStale u = true → (s.cunit u).staleSince = some t0 →
      t0 + s.getN K.chainStaleTimeout * 1000000000 ≤ s.now → s.chn.staleSaid = false →
      Does .chainStaleTimeout s (fun t => t.chn.staleSaid = true ∧ t.chn.staleBlock = decide (s.get K.chainStaleAction = 1) ∧
        (t.getN K.limitLimitState).testBit 3 = t.chn.staleBlock)) ∧
    (s.getN K.chainOpenWireTestInterval ≠ 0 →
      s.chn.openWireAt + s.getN K.chainOpenWireTestInterval * 60 * 1000000000 ≤ s.now →
      Does .openWireInterval s (fun t => t.chn.openWireAt = s.now ∧ sweepPlanned s t 3 s.ft)) ∧
    (s.getN K.balSwitchTestInterval ≠ 0 →
      s.chn.switchAt = 0 ∨ s.chn.switchAt + s.getN K.balSwitchTestInterval * 3600 * 1000000000 ≤ s.now →
      Does .switchTestInterval s (fun t => t.chn.switchAt = max s.now 1 ∧ sweepPlanned s t 4 s.ft)) ∧
    (s.getB K.chainChainMaster = true → s.getB K.balBalancingEnable = true →
      s.chn.balanceAt + s.getN K.balBalancingInterval * 1000000000 ≤ s.now →
      Does .balancingInterval s (fun t => t.chn.balanceAt = s.now ∧ (s.getN K.socMode ≠ 0 → t.get K.balReference = 0) ∧
        (s.getN K.socMode = 0 → s.chn.rest = [] → t.get K.balReference = 2)))

/-- O39. SOC_REST_TAKEN is counted, sets each cell that its REST sweep may correct to the table's state of charge,
and no other, sets each reached unit's deviation and takes START or RECOVERY to NORMAL with the request over;
TAPER_TIMEOUT does the last alone; QUIET_WINDOW_REQUESTED publishes the duration and asks once; SOC_UNCERTAIN
sets its flag; QUIET_WINDOW_WRITE opens or extends; QUIET_HOLD_BEGIN caps the current; an abandoned hold leaves
the window open, a missed window ends. Where these rules leave a point open it follows the choices of the model
in log entries 45, 47. Its conclusions say that exec answers a next state, with the effect, for: SOC_REST_TAKEN,
TAPER_TIMEOUT, QUIET_WINDOW_REQUESTED, SOC_UNCERTAIN, QUIET_WINDOW_WRITE, QUIET_HOLD_BEGIN,
QUIET_WINDOW_ABANDONED, QUIET_WINDOW_MISSED. (11_state_of_charge.md, R301, R302, R305, R307, R308) -/
def Obligations.RestsTapersAndQuietWindowsMove : Prop :=
  ∀ (s : State) (marks : List Nat) (w : HostWrite),
    let m := s.getN K.socMode
    let q := s.getN K.quietQuietRequest
    (s.soc.restSweep = some marks →
      Does .socRestTaken s (fun t => t.soc.restSweep = none ∧ counts s t K.socRests 1 ∧ t.getN K.socLastRest = s.ft ∧
        (m ≠ 3 → ∀ k, if k ∈ s.restList marks then (t.cell k).charge = (s.cell k).perMilli * (s.modelOf
            (s.relaxedVoltage k (s.cellVolt k) (s.get K.sweepWindowCurrent))).1 + s.soc.drawn
          else t.cell k = s.cell k) ∧
        (∀ u ∈ s.configured, marks.getD u.val 3 ≤ 1 → t.soc.sigma[u] = { atRest := s.getN K.socCfgRestDeviation, restAt := s.now }) ∧
        (m = 1 ∨ m = 4 → t.getN K.socMode = 2 ∧ (q = 1 → t.getN K.quietQuietRequest = 0) ∧
          (q = 3 → t.getN K.quietQuietRequest = 2)))) ∧
    (m = 1 ∨ m = 4 → s.soc.modeAt + s.getN K.taperTaperTimeout * 60 * 1000000000 ≤ s.now →
      Does .taperTimeout s (fun t => t.getN K.socMode = 2 ∧ t.soc.taperLeft = some s.now)) ∧
    (m = 1 ∨ m = 4 ∨ (m ≠ 0 ∧ s.soc.lastRestAt + s.getN K.socCfgRequestTime * 60 * 1000000000 ≤ s.now) →
      Does .quietWindowRequested s (fun t => t.soc.asked = true ∧
        t.getN K.quietDurationRequested = (s.getN K.socCfgRestTime + 60) * 1000 ∧ (q = 0 → t.getN K.quietQuietRequest = 1))) ∧
    (s.soc.lastRestAt + s.getN K.socCfgUncertainTime * 60 * 1000000000 ≤ s.now →
      Does .socUncertain s (fun t => (t.getN K.socEstimateFlags).testBit 0 = true)) ∧
    (s.takes K.quietQuietWindow w → Does (.quietWindowWrite w) s (fun t => saidOk s t ∧
      (q < 2 → t.getN K.quietQuietRequest = 2 ∧ t.soc.holdBegan = false ∧ t.getN K.quietWindowEnd = s.ft + w.num * 1000000) ∧
      (2 ≤ q → t.getN K.quietQuietRequest = q ∧ t.getN K.quietWindowEnd = max (s.getN K.quietWindowEnd) (s.ft + w.num * 1000000)))) ∧
    (q = 2 → s.soc.holdBegan = false → 1000000 ≤ s.soc.quietRun → s.getN K.limitLimitState = 0 →
      s.getN K.testTestState ≠ 2 → s.getN K.testTestState ≠ 3 →
      Does .quietHoldBegin s (fun t => t.getN K.quietQuietRequest = 3 ∧ t.soc.holdBegan = true ∧
        t.pow.holdCap = some (s.getN K.socCfgRestCurrent * 1000) ∧ counts s t K.quietWindowsUsed 1)) ∧
    (q = 3 → 1000 ≤ s.soc.demandRun ∨ 10000 < (s.busMilli - (s.pow.refMicro : Int) / 1000).natAbs →
      Does .quietWindowAbandoned s (fun t => t.getN K.quietQuietRequest = 2 ∧
      counts s t K.quietHoldsAbandoned 1)) ∧
    (q = 2 → s.soc.holdBegan = false → s.getN K.quietWindowEnd ≤ s.ft → Does .quietWindowMissed s (fun t =>
      t.getN K.quietQuietRequest = (if s.soc.asked then 1 else 0) ∧ counts s t K.quietWindowsMissed 1))

/-- O40. TEST_START acts in NORMAL and is refused elsewhere; TEST_ABORT and CAPACITY_TEST_TIMEOUT end a test in
RECOVERY; ESTIMATE_RESET forms the estimate again after a sweep. A journal trigger waits; JOURNAL_WRITE_START,
or a retry, writes the slot that does not hold the newest record, under the next sequence, so that the newest
record stands until JOURNAL_WRITTEN; a trigger at a halt or after the last retry is skipped and counted. That
the first sequence is 1 is the model's choice (log entry 116). Where these rules leave a point open it follows
the choices of the model in log entries 49, 51. Its conclusions say that exec answers a next state, with the
effect, for: TEST_START, TEST_ABORT, CAPACITY_TEST_TIMEOUT, ESTIMATE_RESET, JOURNAL_INTERVAL, WRITE_NOW,
JOURNAL_WRITE_START, JOURNAL_RETRY, JOURNAL_WRITTEN. (11_state_of_charge.md, R305, R309, R311, R312, R313, R314) -/
def Obligations.TestsResetsAndTheJournalRun : Prop :=
  ∀ (s : State) (sess : Nat) (b : Bool) (r : JournalRec) (tr : Bool × Bool),
    let m := s.getN K.socMode
    let begun := fun t : State => t.soc.trigger = none ∧ t.soc.newest = s.soc.newest ∧ ∃ x : Bool × JournalRec, t.soc.writing = some x ∧
      x.2.seq = ((s.soc.newest.map (fun y => y.seq + 1)).getD 1) % 2 ^ 32 ∧ x.2.atHalt = tr.1 ∧
      (if x.1 then t.soc.slotB else t.soc.slotA) = .torn
    let skipped := fun t : State => t.soc.trigger = none ∧ t.soc.writing = none ∧ counts s t K.journalWritesSkipped 1
    (s.takesByte K.testTestCommand sess 1 →
      (m = 2 → Does (.testStart sess) s (fun t => saidOk s t ∧ t.getN K.socMode = 3 ∧ t.getN K.testTestState = 1)) ∧
      (m ≠ 2 → Does (.testStart sess) s (fun t => refusedWith s t Cause.functionRunning ∧ t.soc = s.soc))) ∧
    (s.takesByte K.testTestCommand sess 2 → m = 3 → 1 ≤ s.getN K.testTestState → s.getN K.testTestState ≤ 3 →
      Does (.testAbort sess) s (fun t => saidOk s t ∧ t.getN K.socMode = 4 ∧ t.getN K.testTestState = 5 ∧ t.soc.testRest = none)) ∧
    (m = 3 → s.soc.testAt + s.getN K.testTestTimeout * 60 * 1000000000 ≤ s.now → s.getN K.quietQuietRequest ≠ 3 →
      Does .capacityTestTimeout s (fun t => t.getN K.socMode = 4)) ∧
    (s.takesByte K.socEstimateReset sess 1 → Does (.estimateReset sess) s (fun t => saidOk s t ∧ t.soc.forming = some true ∧
      t.getN K.socMode = 4 ∧ sweepPlanned s t 2 s.ft)) ∧
    (s.soc.trigger = none →
      (s.soc.lastWriteAt + s.getN K.journalJournalInterval * 60 * 1000000000 ≤ s.now →
        Does .journalInterval s (fun t => t.soc.trigger = some (false, false))) ∧
      (s.takesByte K.journalWriteNow sess 1 → Does (.writeNow sess) s (fun t => saidOk s t ∧
        t.soc.trigger = some (false, false)))) ∧
    (s.soc.trigger = some tr → s.soc.writing = none →
      (s.mayJournal = true → Does .journalWriteStart s begun) ∧
      (s.mayJournal = false → tr.1 = true → Does .journalWriteStart s skipped) ∧
      (s.soc.triedAt + 1000000000 ≤ s.now →
        (s.mayJournal = true → Does .journalRetry s begun) ∧
        (s.mayJournal = false → 59 ≤ s.soc.retries → Does .journalRetry s skipped) ∧
        (s.mayJournal = false → s.soc.retries < 59 → tr.1 = false → s.md.mainLoss = false → s.md.onHold = false →
          Does .journalRetry s (fun t => t.soc.trigger = some tr ∧ t.soc.retries = s.soc.retries + 1 ∧ t.soc.triedAt = s.now)))) ∧
    (s.soc.writing = some (b, r) → Does .journalWritten s (fun t => t.soc.writing = none ∧ t.soc.lastWriteAt = s.now ∧
      (if b then t.soc.slotB else t.soc.slotA) = .valid r ∧ (if b then t.soc.slotA = s.soc.slotA else t.soc.slotB = s.soc.slotB) ∧
      counts s t K.journalWrites 1 ∧ t.getN K.journalLastWrite = s.ft))

/-- O41. Where stage n of a running tier is the operator, it leaves in each output element: MV the requantised row;
GATE the rounded product x z or x T(z); EW the sum x + z or T(x); RMSN x g times the reciprocal square root;
EXCH its source, each held to Q15; and CONV, SCAN and ATTN leave the memories their operator computes, tap
history and scan state among them. Its conclusions say that exec answers a next state, with the effect, for: MV,
CONV, SCAN, GATE, EW, RMSN, ATTN, EXCH. (08_saffron_engine.md, R216, R217, R218, R220) -/
def Obligations.SaffronOperatorsComputeTheirElements : Prop :=
  ∀ (s : State) (fast : Bool) (n : Nat) (i : SafImage) (st : SafStage),
    let env := s.tierEnv fast i
    let x := stageIn env st s st.inA
    let z := stageIn env st s st.inB
    let tab := tableAt (env.tableOf st)
    let sum := ((List.range st.d1).map (fun e => x e * x e * 2)).sum
    (s.stageIs fast n 1 i st → Does (.mv fast n) s (fun t => stageGives env st t (fun e =>
      limit15 (shiftRhe (mvRow env (deliverStream env st s.saf.mem) st e).1 (st.sh - 16))))) ∧
    (s.stageIs fast n 2 i st → Does (.convStage fast n) s (fun t => t.saf.mem = (opConv env st s.saf.mem).mem)) ∧
    (s.stageIs fast n 3 i st → Does (.scan fast n) s (fun t => t.saf.mem = (opScan env st s.saf.mem).mem)) ∧
    (s.stageIs fast n 4 i st → Does (.gate fast n) s (fun t => stageGives env st t (fun e =>
      limit15 (rheDiv (x e * (if st.flags.getLsbD 3 then tab (z e) else z e)) 32768)))) ∧
    (s.stageIs fast n 5 i st → Does (.ew fast n) s (fun t => stageGives env st t (fun e =>
      limit15 (if st.flags.getLsbD 3 then tab (x e) else x e + z e)))) ∧
    (s.stageIs fast n 6 i st → Does (.rmsn fast n) s (fun t => stageGives env st t (fun e =>
      let tile := st.tileOf st.d1 e
      let g := s.saf.mem.q15 tile env.param (st.off1 + 2 * st.localOf st.d1 e)
      let eps := s.saf.mem.q31 tile env.param (st.off1 + 2 * st.per st.d1)
      limit15 (rheDiv (x e * g * Config.saffronTable 0 (rheDiv sum st.d1 + eps)) 1073741824)))) ∧
    (s.stageIs true n 7 i st → Does (.attn n) s (fun t =>
      t.saf.mem = (opAttn (s.tierEnv true i) st s.saf.mem).mem)) ∧
    (s.stageIs fast n 8 i st → refSpace st.out ≠ 3 → Does (.exch fast n) s (fun t => stageGives env st t x))

/-- O42. SAFFRON_FAST_OVERRUN unstages the set and stops the tier at the stop count; SLOW_BOUNDARY publishes an
ended compute's context with age 1, or counts an overrun and ages it, and gathers anew; a stream error aborts
the compute until the region is reloaded; Enable is taken and waits for the next tick boundary;
FAST_TIER_RESTART lets the tiers compute; ESTIMATE_UNTRUSTED and _TRUSTED move the chip's bit, DIV_CHIPS setting
beyond the limit and cleared by DIV_CHIPS_CLEAR. Where these rules leave a point open it follows the choices of
the model in log entries 53, 114. Its conclusions say that exec answers a next state, with the effect, for:
SAFFRON_FAST_OVERRUN, SLOW_BOUNDARY, SAFFRON_STREAM_ERROR, SAFFRON_SLOW_RELOADED, SAFFRON_ENABLE_WRITE,
FAST_TIER_RESTART, ESTIMATE_UNTRUSTED, ESTIMATE_TRUSTED, DIV_CHIPS_CLEAR. (08_saffron_engine.md, R223, R225,
R227, R228, R229, R240, R241) -/
def Obligations.SaffronTiersPublishAndStop : Prop :=
  ∀ (s : State) (w : HostWrite) (t0 : Nat) (i : SafImage) (v : List Int) (tr : Fin 24) (k : Fin 8),
    let age := s.getN K.safContextAge
    (s.fastRuns = true → Does .saffronFastOverrun s (fun t => t.saf.staged = none ∧ t.saf.overRun = s.saf.overRun + 1 ∧
      counts s t K.safFastOverruns 1 ∧ (s.getN K.safOverrunStopCount ≤ s.saf.overRun + 1 → t.saf.fastWait = .stopped))) ∧
    (s.atSlowBoundary = true → s.slowImg = some i → s.saf.slowFeat = some v →
      Does (.slowBoundary true) s (fun t => t.getN K.safContextAge = 1 ∧
        t.saf.mem.ctx = (runStages (s.stageEnv i v) i.stages s.saf.mem).mem.ctxNext ∧
        (t.saf.slowFeat.isSome = true ↔ s.slowRuns = true)) ∧
      Does (.slowBoundary false) s (fun t => t.getN K.safContextAge = min (age + 1) 65535 ∧ t.saf.mem = s.saf.mem ∧
        counts s t K.safSlowOverruns 1)) ∧
    (s.slowImg = some i →
      Does .saffronStreamError s (fun t => t.saf.slowFeat = none ∧ t.saf.slowWait = .reload ∧ counts s t K.safStreamErrors 1) ∧
      (s.saf.slowWait = .reload → Does .saffronSlowReloaded s (fun t => t.saf.slowWait = .none ∧
        t.saf.mem = loadRegions i s.saf.mem))) ∧
    (s.takes K.safEnable w → Does (.saffronEnableWrite w) s (fun t => saidOk s t ∧ t.get K.safEnable = w.num ∧
      t.md.safDue = true ∧ t.md.tilesOn = s.md.tilesOn ∧ t.saf = s.saf)) ∧
    (s.fastImg = some i → s.saf.fastWait = .reload → 1 ≤ s.safEnable → Does .fastTierRestart s (fun t =>
      t.saf.fastWait = .none ∧ (s.slowImg.isSome = true → s.saf.slowWait = .reload → t.saf.slowWait = .none))) ∧
    (s.getN K.divUntrustedTime * 100 ≤ (s.tray tr).disagree[k] → s.saf.untrusted.getLsbD (chipOf tr k) = false →
      Does (.estimateUntrusted tr k) s (fun t => t.saf.untrusted = s.saf.untrusted ||| (1#192 <<< chipOf tr k) ∧
        t.getN K.divUntrustedCount = t.untrustedCount ∧
        (s.getN K.divUntrustedLimit < t.untrustedCount → (t.getN K.divDivergenceState).testBit 1 = true))) ∧
    (s.getN K.divTrustReturnTime * 100 ≤ (s.tray tr).agree[k] → s.saf.untrusted.getLsbD (chipOf tr k) = true →
      Does (.estimateTrusted tr k) s (fun t => t.saf.untrusted = s.saf.untrusted &&& ~~~(1#192 <<< chipOf tr k) ∧
        t.getN K.divUntrustedCount = t.untrustedCount)) ∧
    (s.saf.lowSince = some t0 → t0 + 10000000 ≤ s.now → Does .divChipsClear s (fun t =>
      (t.getN K.divDivergenceState).testBit 1 = false))

/-- O43. TILE_SELF_TEST_DONE after the tile period counts the pass and copies the next victim; ROTATION_HANDOVER at
a slow boundary gives the tested tile the victim's logical tile and takes the victim offline;
SAFFRON_TILE_FAILED maps the tile as failed, and a failed spare suspends rotation; CLEAR_FAILED_WRITE waits for
the start; rotation is switched off and on; a slow tick that the slow image in force does not meet is refused.
Where these rules leave a point open it follows the choices of the model in log entries 51, 55. Its conclusions
say that exec answers a next state, with the effect, for: TILE_SELF_TEST_DONE, ROTATION_HANDOVER,
SAFFRON_TILE_FAILED, CLEAR_FAILED_WRITE, ROTATION_ENABLE_WRITE, SLOW_TICK_WRITE. (08_saffron_engine.md, R243,
R244, R245, R255) -/
def Obligations.TilesRotateAndFail : Prop :=
  ∀ (s : State) (v u : Fin 64) (since : Nat) (selfTest : Bool) (w : HostWrite) (r : Fin 6) (i : SafImage),
    (s.saf.rotation = .testing since → since + s.getN K.rotTilePeriod * 1000000 ≤ s.now → s.nextVictim s.offline = some v →
      Does .tileSelfTestDone s (fun t => t.saf.rotation = .copying v s.now ∧ counts s t (K.tileSelfTestPasses s.offline) 1)) ∧
    (s.saf.rotation = .copying v since → s.atSlowBoundary = true → Does .rotationHandover s (fun t =>
      t.saf.rotation = .testing s.now ∧ t.offline = v ∧ t.getN (K.tileLogicalTile v) = 255 ∧
      (s.offline ≠ v → t.get (K.tileLogicalTile s.offline) = s.get (K.tileLogicalTile v)))) ∧
    (s.tileFailed u = false → Does (.saffronTileFailed u selfTest) s (fun t => t.tileFailed u = true ∧
      (selfTest = true → counts s t K.rotSelfTestFailures 1) ∧
      (s.offline = u → t.saf.rotation = .suspended ∧ t.offline = 255))) ∧
    (s.takes K.safClearFailed w → Does (.clearFailedWrite w) s (fun t => saidOk s t ∧
      t.saf.clearMask = s.saf.clearMask ||| BitVec.ofNat 64 w.num ∧ t.objs = s.objs)) ∧
    (s.takes K.rotRotationEnable w →
      (w.num = 0 → s.get K.rotRotationEnable ≠ 0 → s.saf.replacing = false → Does (.rotationEnableWrite w) s (fun t =>
        saidOk s t ∧ t.saf.rotation = .off ∧ t.offline = 255 ∧ t.get K.rotRotationEnable = 0)) ∧
      (w.num = 1 → s.get K.rotRotationEnable = 0 → s.tilesNeeded < s.usableTiles.length →
        (s.usableTiles.filter (fun x : Fin 64 => decide (s.getN (K.tileLogicalTile x.val) = 255))).getLast? = some v →
        Does (.rotationEnableWrite w) s (fun t => saidOk s t ∧ t.saf.rotation = .testing s.now ∧ t.offline = v ∧
          t.get K.rotRotationEnable = 1))) ∧
    (s.takes K.safSlowTick w →
      (s.resInForce false = none → Does (.slowTickWrite w) s (fun t => saidOk s t ∧ t.get K.safSlowTick = w.num)) ∧
      (s.resInForce false = some r → s.saf.res[r] = some i →
        (admits i { s.live r s.fastImg with slowTick := w.num } = true →
          Does (.slowTickWrite w) s (fun t => saidOk s t ∧ t.get K.safSlowTick = w.num)) ∧
        (admits i { s.live r s.fastImg with slowTick := w.num } = false →
          Does (.slowTickWrite w) s (fun t => refusedWith s t Cause.saffronTickRefused ∧ t.get K.safSlowTick = s.get K.safSlowTick))))

/-- O44. With the command object writable and the load residence naming residence n: in state ADMITTED (2) or
REFUSED (5), and not the partner of 0x5410.05, the residence is EMPTY afterwards and holds no image; in state
IN_FORCE (3) or SWAP_PENDING (4), or as the partner, the command is refused with FUNCTION_RUNNING and the
residence stays as it is. Its conclusions say that exec answers a next state, with the effect, for:
SAFFRON_UNLOAD. (R265) -/
def Obligations.UnloadEmptiesAResidence : Prop :=
  ∀ (s : State) (sess : Nat) (n : Fin 6), s.takesByte K.loadCommand sess 2 → s.getN K.loadLoadResidence = n →
    let st := s.getN (K.resState n)
    (st = 2 ∨ st = 5 → s.getN K.loadPartnerResidence ≠ n → Does (.saffronUnload sess) s (fun t => saidOk s t ∧
      t.getN (K.resState n) = 0 ∧ t.saf.res[n] = none)) ∧
    (st = 3 ∨ st = 4 ∨ s.getN K.loadPartnerResidence = n → Does (.saffronUnload sess) s (fun t =>
      refusedWith s t Cause.functionRunning ∧ t.getN (K.resState n) = st ∧ t.saf.res[n] = s.saf.res[n]))

/-- O45. SAFFRON_LOAD of a stored image of the residence's tier begins a load when admission passes and marks the
residence REFUSED otherwise; a load under way makes it busy. SWAP_FAST, SWAP_SLOW and SWAP_PAIR of ADMITTED
residences with nothing pending wait for their boundary and are refused otherwise. SAFFRON_SWAP_BOUNDARY at the
effective FT installs a fast image that passes admission again, or returns to idle; SAFFRON_SWAP_DONE and
_ABORTED end the swap. Where these rules leave a point open it follows the choices of the model in log entries
51, 52, 114. Its conclusions say that exec answers a next state, with the effect, for: SAFFRON_LOAD, SWAP_FAST,
SWAP_SLOW, SWAP_PAIR, SAFFRON_SWAP_BOUNDARY, SAFFRON_SWAP_DONE, SAFFRON_SWAP_ABORTED. (09_saffron_models.md,
R255, R256, R260, R261) -/
def Obligations.ImagesAreLoadedAndSwapped : Prop :=
  ∀ (s : State) (sess : Nat) (n : Fin 6) (i : SafImage) (w : SafSwap),
    let f := s.getN K.loadSwapFastResidence
    let l := s.getN K.loadSwapSlowResidence
    let readyF := f ≤ 1 ∧ s.getN (K.resState f) = 2
    let readyS := 2 ≤ l ∧ l ≤ 5 ∧ s.getN (K.resState l) = 2
    let idle := s.saf.swap = none ∧ s.swapping = false
    let shows : Nat → State → Prop := fun c t => t.getN K.loadCommandState = if s.saf.loading.isSome then 1 else c
    let pends : Nat → State → Prop := fun k t => saidOk s t ∧ shows 2 t ∧
      t.saf.swap = some { kind := k, at_ := s.getN K.loadSwapFT, fast := f, slow := l }
    let refused : State → Prop := fun t => t.outbox = .status Cause.saffronSwapRefused :: s.outbox ∧ t.saf.swap = s.saf.swap ∧
      counts s t K.loadSwapsRefusedOrAborted 1
    (s.takesByte K.loadCommand sess 1 → s.getN K.loadLoadResidence = n → s.saf.loading = none →
      s.storeImg (s.getN K.loadLoadSlot) = some i → s.getN (K.resState n) ≠ 3 → s.getN (K.resState n) ≠ 4 →
      i.fast = decide (n.val < 2) →
      Does (.saffronLoad sess) s (fun t => saidOk s t ∧
        if admits i (s.live n (s.partnerOf i.fast)) then t.getN (K.resState n) = 1 ∧ t.getN K.loadCommandState = 1 ∧
          t.saf.res[n] = some i ∧ t.saf.loading = some n.val
        else t.getN (K.resState n) = 5 ∧ t.saf.res[n] = none)) ∧
    (s.takesByte K.loadCommand sess 1 → s.saf.loading.isSome = true → Does (.saffronLoad sess) s (fun t =>
      refusedWith s t Cause.saffronLoadBusy ∧ t.saf.res = s.saf.res)) ∧
    (s.takesByte K.loadCommand sess 3 →
      (readyF → idle → Does (.swapFast sess) s (fun t => pends 3 t ∧ t.getN (K.resState f) = 4)) ∧
      (¬(readyF ∧ idle) → Does (.swapFast sess) s refused)) ∧
    (s.takesByte K.loadCommand sess 4 →
      (readyS → idle → Does (.swapSlow sess) s (fun t => pends 4 t ∧ t.getN (K.resState l) = 4)) ∧
      (¬(readyS ∧ idle) → Does (.swapSlow sess) s refused)) ∧
    (s.takesByte K.loadCommand sess 5 →
      (readyF → readyS → idle → Does (.swapPair sess) s (fun t => pends 5 t ∧ t.getN (K.resState f) = 4 ∧
        t.getN (K.resState l) = 4)) ∧
      (¬(readyF ∧ readyS ∧ idle) → Does (.swapPair sess) s refused)) ∧
    (s.saf.swap = some w → w.at_ ≤ s.ft → w.kind = 3 → w.fast = n →
      ((s.swapAdmits w).1 = true → Does .saffronSwapBoundary s (fun t => t.saf.swap = none ∧ shows 3 t ∧
        t.getN (K.resState n) = 3)) ∧
      ((s.swapAdmits w).1 = false → Does .saffronSwapBoundary s (fun t => t.saf.swap = none ∧
        shows (if s.saf.newFast || s.saf.newSlow then 3 else 0) t ∧
        t.getN (K.resState n) = 2))) ∧
    (s.saf.published = true → Does .saffronSwapDone s (fun t => shows (if s.saf.swap.isSome then 2 else 0) t ∧
      t.swapping = false ∧ counts s t K.loadSwapsDone 1)) ∧
    (s.swapping = true → s.usableTiles.length < s.tilesNeeded → Does .saffronSwapAborted s (fun t =>
      shows (if s.saf.swap.isSome then 2 else 0) t ∧ t.swapping = false ∧ t.saf.outFast = none ∧
      counts s t K.loadSwapsRefusedOrAborted 1))

/-- O46. A CONTROL or AUTH payload of another version major is dropped and counted. LINK_FRAME_RECEIVE with its sync
word right counts the frame and an abort, an uncorrectable body or a replay, and takes sequence and credits of a
good IDLE flit; FRAME_SLOT sends a frame of a link that trains or is up, a due TIMING flit first; TRAIN_DONE,
LINK_VERSION, HELLO, SIGN and FINISHED lead the link to UP, and each check that fails leads to BACKOFF with its
reason; CREDIT_SYNC makes good what was lost. Where these rules leave a point open it follows the choices of the
model in log entries 32, 34, 118. Its conclusions say that exec answers a next state, with the effect, for:
LINK_FRAME_RECEIVE, FRAME_SLOT, TRAIN, TRAIN_DONE, LINK_TRAIN_FAIL, LINK_VERSION, HELLO, SIGN, FINISHED,
LINK_AUTH_FAIL, CREDIT_SYNC_SEND, CREDIT_SYNC. (13_renxel_fabric.md, R340, R342, R344, R345, R347, R349, R352,
R354) -/
def Obligations.LinksTrainAuthenticateAndCarry : Prop :=
  ∀ (s : State) (n : Fin 32) (frame : BitVec 576) (stamp : Nat) (p : List Byte),
    let x := s.link n
    let st := s.linkStateOf n
    let bits := lineBits 576 frame.toNat
    let body := (descramble x.rx.scrambler ((bits.drop 16).take 552)).1
    (st < 2 ∨ st = 6 → Does (.linkFrameReceive n frame stamp) s (fun t => t = s) ∧ Does (.frameSlot n) s (fun t => t = s)) ∧
    (wordAt p 0 1 / 16 ≠ 1 → ∀ i ∈ [Instr.train n p, Instr.trainDone n p, Instr.linkVersion n p, Instr.creditSync n p,
      Instr.linkDownFlit n p, Instr.finished n p], Does i s (fun t => counts s t (K.linkFlitsDropped n) 1 ∧ t.fab = s.fab)) ∧
    (st = 5 → s.getB (K.linkPolarityInverted n) = false → syncWrong (bits.take 16) = 0 →
      (decodeBody body = .abort → Does (.linkFrameReceive n frame stamp) s (fun t => t.outbox = s.outbox ∧ t.que = s.que ∧
        counts s t (K.linkAbortsReceived n) 1 ∧
        (s.get (K.linkFramesReceived n) + 1 < 2 ^ 64 → t.get (K.linkFramesReceived n) = s.get (K.linkFramesReceived n) + 1))) ∧
      (decodeBody body = .uncorrectable → x.uncorrectable.length < 15 → Does (.linkFrameReceive n frame stamp) s (fun t =>
        counts s t (K.linkUncorrectableFrames n) 1 ∧ t.que = s.que ∧ t.linkStateOf n = 5)) ∧
      (∀ f k, decodeBody body = .flit f k →
        (x.checkTag f = .replay → Does (.linkFrameReceive n frame stamp) s (fun t => t.que = s.que ∧
          counts s t (K.linkFlitsDropped n) 1)) ∧
        (∀ seq new, x.checkTag f = .good seq new → flitType f = 0 → Does (.linkFrameReceive n frame stamp) s (fun t =>
          t.que = s.que ∧ (t.link n).rx.next = seq + 1 ∧
          ∀ v ∈ [1, 2, 3], ((t.link n).credit v).peerFreed = wordAt f (52 + v) 1)))) ∧
    (st = 2 ∨ st = 3 ∨ st = 4 → Does (.frameSlot n) s (fun t => framed s t n)) ∧
    (st = 5 → 3 ≤ x.sinceCh0 →
      (∀ f rest, x.timing = f :: rest → Does (.frameSlot n) s (fun t => framed s t n ∧ (t.link n).timing = rest)) ∧
      (∀ f rest, x.timing = [] → x.control = f :: rest → Does (.frameSlot n) s (fun t => framed s t n ∧
        (t.link n).control = rest ∧ (t.link n).sinceCh0 = 0))) ∧
    (st = 2 → (payloadIs p 1 → Does (.train n p) s (fun t => (t.link n).doneSeen = 0 ∧ t.linkStateOf n = 2)) ∧
      (payloadIs p 2 → Does (.trainDone n p) s (fun t => t.linkStateOf n = if x.locked = true ∧ 7 ≤ x.doneSeen then 3 else 2)) ∧
      (x.enteredAt + 20000000 < s.now → Does (.linkTrainFail n) s (fun t => failedUp t n 7 ∧ (t.link n).failSaid = true))) ∧
    (st = 3 → payloadIs p 3 → let v := VersionSaid.ofBytes p
      (v.majors.getLsbD 1 = false → Does (.linkVersion n p) s (fun t => failedUp t n 8)) ∧
      (v.majors.getLsbD 1 = true → v.profile.toNat ≠ s.profile n ∨ (s.profile n = 2 ∧ s.pairFits v = false) →
        Does (.linkVersion n p) s (fun t => failedUp t n 9)) ∧
      (v.majors.getLsbD 1 = true → v.profile.toNat = s.profile n → (s.profile n = 2 → s.pairFits v = true) →
        Does (.linkVersion n p) s (fun t => t.linkStateOf n = 4 ∧ t.getN (K.linkPeerNode n) = v.node.toNat ∧
          t.getN (K.linkPeerSerial n) = v.serial.toNat ∧ t.getN (K.linkPeerLink n) = v.link.toNat ∧
          t.getN (K.linkVersion n) = 16))) ∧
    (st = 4 → ∀ (hello : List Byte) (serial : BitVec 64) (r : BitVec 8),
      (x.auth.peerHello = none →
        Does (.hello n hello serial false) s (fun t => failedUp t n 10) ∧
        Does (.hello n hello serial true) s (fun t => t.getN (K.linkPeerSerial n) = serial.toNat ∧
          (t.link n).auth.peerHello = some hello ∧ x.control.length < (t.link n).control.length)) ∧
      (x.auth.peerHello.isSome = true → x.auth.peerSigned = false →
        Does (.sign n false) s (fun t => failedUp t n 10) ∧
        Does (.sign n true) s (fun t => (t.link n).keys = s.deriveKeys n x.auth ∧ (t.link n).auth.finSent = true ∧
          x.control.length < (t.link n).control.length)) ∧
      (x.auth.finSent = true → payloadIs p 3 → Does (.finished n p) s (fun t => t.linkStateOf n = 5 ∧ (t.link n).upAt = s.now ∧
        t.getN (K.linkUpSince n) = s.ft)) ∧
      Does (.linkAuthFail n r) s (fun t => failedUp t n 10)) ∧
    (st = 5 → Does .creditSyncSend s (fun t => (t.link n).control = x.control ++
      [mkFlit 4 0 s.sourceNode 0 ([0x10, 4] ++ [1, 2, 3].map (fun v => BitVec.ofNat 8 (x.credit v).sent))])) ∧
    (payloadIs p 4 → Does (.creditSync n p) s (fun t => ∀ v ∈ [1, 2, 3], ((t.link n).credit v).received = wordAt p (1 + v) 1 ∧
      ((t.link n).credit v).freed = ((x.credit v).freed + (wordAt p (1 + v) 1 + 256 - (x.credit v).received) % 256) % 256))

/-- O47. A rekey starts, names its switch sequence, derives fresh keys, switches each direction past it and retries;
a link leaves UP for BACKOFF or, disabled, DOWN and trains again when its wait ends; link state is flooded,
kept, forwarded and aged out; ACTIVATE and its boundary put the pending route tables in force and CLEAR_PENDING
empties them; retimers are read, lost, commanded only while the link is disabled, and margins kept. Where these
rules leave a point open it follows the choices of the model in log entries 30, 33, 35, 36, 39. Its conclusions
say that exec answers a next state, with the effect, for: REKEY_START, REKEY_HELLO, REKEY_SIGN, REKEY_SWITCH,
REKEY_RETRY, LINK_DOWN_FLIT, LINK_DOWN, LINK_ENABLE_WRITE, LINK_BACKOFF_EXPIRY, LINK_STATE_FLOOD, LINK_STATE,
LINK_STATE_AGE_OUT, ACTIVATE, ROUTES_ACTIVATED, ROUTE_CLEAR_PENDING, RETIMER_POLL, SIDEBAND_MESSAGE,
RETIMER_LOST, RETIMER_RESET, LOOPBACK_ON, LOOPBACK_OFF, EYE_MARGIN_READ, LINK_MARGIN_LOW. (13_renxel_fabric.md,
R353, R354, R355, R356, R358, R365, R366, R367) -/
def Obligations.LinksRekeyFallAndRoute : Prop :=
  ∀ (s : State) (n : Fin 32) (w : HostWrite) (sess : Nat) (p : List Byte),
    let x := s.link n
    let r := x.rekey
    let st := s.linkStateOf n
    let up := st = 5
    let cmd : Nat → State → Prop := fun v t => if s.getB (K.linkEnable n) then refusedWith s t Cause.functionRunning
      else if s.getN (K.linkPeerNode n) = 0xFFFF ∨ s.getN K.nodeNodeId < s.getN (K.linkPeerNode n) then
        t.outbox = .status 0 :: .sideband n 1 v :: s.outbox
      else saidOk s t
    let old := fun e : LinkState => decide (e.heard + s.getN K.fabLinkStateAgeLimit * 1000000 < s.now)
    (up → (s.isLow n = true → r.auth = none → r.nextAt ≤ s.now → Does (.rekeyStart n) s (fun t =>
        ∃ a h, (t.link n).rekey.auth = some a ∧ a.ownHello = some h)) ∧
      (∀ hello, s.isLow n = true → r.auth.isSome = true → Does (.rekeyHello n hello) s (fun t =>
        (t.link n).rekey.switchAt = some (max x.tx.next x.rx.next + 4096))) ∧
      (∀ hello, s.isLow n = false → Does (.rekeyHello n hello) s (fun t =>
        ∃ a, (t.link n).rekey.auth = some a ∧ a.peerHello = some hello ∧ a.ownHello.isSome = true)) ∧
      (∀ a at_, r.auth = some a → a.peerHello.isSome = true →
        Does (.rekeySign n true at_) s (fun t => (t.link n).rekey.fresh = s.deriveKeys n a ∧
          (s.isLow n = false → (t.link n).rekey.switchAt = some at_.toNat)) ∧
        (r.failures < 2 → Does (.rekeySign n false at_) s (fun t => (t.link n).rekey.failures = r.failures + 1 ∧
          (t.link n).rekey.nextAt = s.now + 60000000000 ∧ (t.link n).keys = x.keys))) ∧
      (∀ f k at_, r.fresh = some f → x.keys = some k → r.switchAt = some at_ → r.txDone = false → at_ < x.tx.next →
        Does (.rekeySwitch n) s (fun t => ∃ k', (t.link n).keys = some k' ∧ k'.keyTx = f.keyTx ∧ k'.saltTx = f.saltTx ∧
          (t.link n).tx.next = 0 ∧ (x.rx.next ≤ at_ → k'.keyRx = k.keyRx))) ∧
      (r.auth.isSome = true → r.fresh = none → r.failures < 2 → Does (.rekeyRetry n) s (fun t =>
        (t.link n).rekey.failures = r.failures + 1 ∧ (t.link n).rekey.auth = none)) ∧
      (payloadIs p 5 → Does (.linkDownFlit n p) s (fun t => downed s t n 5)) ∧
      (∀ q : BitVec 8, Does (.linkDown n q) s (fun t => downed s t n q.toNat)) ∧
      (s.takes (K.linkEnable n) w → w.num = 0 → Does (.linkEnableWrite n w) s (fun t => downed s t n 6 ∧ saidLast s t))) ∧
    (st = 6 → x.waitEnd ≤ s.now → Does (.linkBackoffExpiry n) s (fun t => t.linkStateOf n = 2 ∧ (t.link n).keys = none ∧
      (t.link n).locked = false)) ∧
    (s.takes (K.linkEnable n) w → st = 1 → s.profile n ≠ 0 → w.num = 1 → Does (.linkEnableWrite n w) s (fun t =>
      saidOk s t ∧ t.linkStateOf n = 2)) ∧
    (s.hasNode = true → s.getB K.nodeNodeIdConflict = false → Does .linkStateFlood s (fun t =>
      t.fab.seq = (s.fab.seq + 1) % 2 ^ 32 ∧
      ∀ m ∈ s.fabricLinks, OutMsg.linkState m (s.getN K.nodeNodeId) (s.getN K.nodeSerial) t.fab.seq s.ownPeers ∈ t.outbox)) ∧
    (∀ (d : BitVec 10) (ser : BitVec 64) (q : BitVec 32) (peers : Vector (BitVec 16) 32),
      (s.hasNode = true → d.toNat ≠ s.getN K.nodeNodeId) →
      (∀ e, s.fab.database.find? (fun e : LinkState => decide (e.node = d.toNat)) = some e → seqNewer e.seq q = true) →
      Does (.linkState n d ser q peers) s (fun t =>
        (∃ e, t.fab.database.find? (fun e : LinkState => decide (e.node = d.toNat)) = some e ∧ e.seq = q ∧
          e.peers = peers.map (·.toNat) ∧ e.heard = s.now) ∧
        ∀ m ∈ s.fabricLinks, m ≠ n → OutMsg.linkState m d.toNat ser.toNat q.toNat (peers.map (·.toNat)).toList ∈ t.outbox)) ∧
    Does .linkStateAgeOut s (fun t => t.fab.database = s.fab.database.filter (fun e => !old e)) ∧
    (s.takesByte K.routeRouteCommand sess 1 → Does (.activate sess) s (fun t => saidOk s t ∧ t.fab.armed = true)) ∧
    (s.fab.armed = true → s.getN K.routeActivationFT ≤ s.ft → Does .routesActivated s (fun t => t.fab.armed = false ∧
      t.getBytes K.routeUnicastTableInForce 2048 = s.getBytes K.routeUnicastTablePending 2048 ∧
      t.getBytes K.routeMulticastTableInForce 1024 = s.getBytes K.routeMulticastTablePending 1024 ∧
      counts s t K.routeActivations 1)) ∧
    (s.takesByte K.routeRouteCommand sess 2 → Does (.routeClearPending sess) s (fun t => saidOk s t ∧
      t.getBytes K.routeUnicastTablePending 2048 = List.replicate 2048 255 ∧
      t.getBytes K.routeMulticastTablePending 1024 = List.replicate 1024 0)) ∧
    (up → s.profile n = 3 → Does .retimerPoll s (fun t =>
      (t.link n).side.reqs.length = (x.side.settle s.now).reqs.length + 16 ∧
      (t.link n).side.missed = (x.side.settle s.now).missed)) ∧
    (∀ m : Vector Byte 16,
      ((crc16 (m.toList.take 14)).toNat ≠ wordAt m.toList 14 2 → Does (.sidebandMessage n m) s (fun t =>
        counts s t (K.retimerSidebandErrors n) 1)) ∧
      (∀ q, (crc16 (m.toList.take 14)).toNat = wordAt m.toList 14 2 → wordAt m.toList 1 1 = 0x81 → up →
        wordAt m.toList 0 1 / 16 = 1 → x.side.reqs.find? (fun y : SideReq => decide (y.seq = wordAt m.toList 3 1)) = some q →
        q.reg = 0x30 → q.retimer = 1 ∨ q.retimer = 2 → Does (.sidebandMessage n m) s (fun t =>
          t.getN (K.retimerRetimerLatency n (q.retimer - 1)) = wordAt m.toList 6 4))) ∧
    (∀ y : Fin 2, up → y.val < s.getN (K.retimerRetimersFound n) →
      3 ≤ (if y.val = 0 then (x.side.settle s.now).missed.1 else (x.side.settle s.now).missed.2) →
      (if y.val = 0 then x.side.lost.1 else x.side.lost.2) = false → Does (.retimerLost n y) s (fun t =>
      (if y.val = 0 then (t.link n).side.lost.1 else (t.link n).side.lost.2) = true ∧
      t.rcd = (s.raise Cause.retimerLost (args n [(y.val + 1, 1)])).rcd)) ∧
    ((s.takesByte (K.retimerRetimerCommand n) sess 1 → Does (.retimerReset n sess) s (cmd 1)) ∧
      (s.takesByte (K.retimerRetimerCommand n) sess 2 → Does (.loopbackOn n sess) s (cmd 2)) ∧
      (s.takesByte (K.retimerRetimerCommand n) sess 3 → Does (.loopbackOff n sess) s (cmd 0))) ∧
    (∀ ms_ : Vector (BitVec 16 × BitVec 16) 32, Does (.eyeMarginRead ms_) s (fun t =>
      t.getN (K.linkEyeMargin n) = ms_[n].1.toNat * 65536 + ms_[n].2.toNat)) ∧
    (∀ t0, x.lowSince = some t0 → t0 + 10000000000 ≤ s.now → x.lowSaid = false → Does (.linkMarginLow n) s (fun t =>
      (t.link n).lowSaid = true ∧ t.objs = (s.raiseOn Cause.linkMarginLow n).objs))

/-- O48. CLIENT_HELLO earns a cookie and no state; a handshake takes a place and ends with its role, or fails and is
counted; OPEN makes a session with its role or is refused with BUSY at the limit; a request id already answered
is answered again with nothing done; READ, READ_LIST, DESCRIBE and WRITE are checked, carried out and answered;
SUBSCRIBE sets the filter; pushes leave in order, are acknowledged, and repeated 100 ms after their last
sending; timeouts, CLOSE and Close session end a session. Where these rules leave a point open it follows the
choices of the model in log entries 77, 78, 84, 88, 104. Its conclusions say that exec answers a next state,
with the effect, for: CLIENT_HELLO, DTLS_HANDSHAKE, OPEN, KEEPALIVE, CLOSE, READ, DESCRIBE, WRITE, READ_LIST,
SUBSCRIBE, EVENT_ACK, EVENT, EVENT_RESEND, EVENT_PUSH_TIMEOUT, SESSION_TIMEOUT, CLOSE_SESSION_WRITE.
(14_host_dictionary.md, R372, R374, R375, R377, R379, R381, R382, R385, R386, R489) -/
def Obligations.SessionsOpenReadWriteAndPush : Prop :=
  ∀ (s : State) (h : ReqHdr) (x : Session) (sess : Nat) (w : HostWrite) (key : BitVec 24),
    let k := key.toNat
    let heard := s.heard h
    (∀ (p : Fin 2) (peer : BitVec 128), s.servesDtls = true → s.portCarries p = true → s.handshakes < 4 →
      Does (.clientHello p peer) s (fun t => t.outbox = .dtls 0 1 [(p.val : Int), peer.toNat] :: s.outbox ∧ t.host = s.host) ∧
      Does (.dtlsHandshake (.cookieHello p peer true)) s (fun t => t.handshakes = s.handshakes + 1 ∧
        ∃ a ∈ t.host.assocs, a.id = s.host.nextSession ∧ a.done = false)) ∧
    (∀ (a : Nat) (chain : List Byte) (role alert : BitVec 8),
      s.host.assocs.any (fun b => decide (b.id = a) && !b.done) = true → alert ≠ 0 →
      Does (.dtlsHandshake (.finish a chain role alert)) s (fun t => counts s t K.sessHandshakesFailed 1 ∧
        ∀ b ∈ t.host.assocs, b.id ≠ a)) ∧
    (∀ (a : Nat) (chain : List Byte) (role : BitVec 8),
      s.host.assocs.any (fun b => decide (b.id = a) && !b.done) = true →
      Does (.dtlsHandshake (.finish a chain role 0)) s (fun t => if s.noteCert.hostChainOk chain = true ∧ roleByte role ≠ 0 then
        ∃ b ∈ t.host.assocs, b.id = a ∧ b.done = true ∧ b.role = roleByte role ∧ b.chain = chain
        else counts s t K.sessHandshakesFailed 1 ∧ ∀ b ∈ t.host.assocs, b.id ≠ a)) ∧
    (∀ (a : Assoc) (majors : BitVec 16) (minors : BitVec 32) (size keep : BitVec 16), s.session? h.sess = none →
      s.host.assocs.find? (fun b => decide (b.id = h.sess) && b.done) = some a → s.portCarries h.port = true →
      h.fits false = true → majors.getLsbD 1 = true →
      (s.host.sessions.length < s.getN K.sessSessionLimit → Does (.openSession h majors minors size keep) s (fun t =>
        t.hasSession h.sess (fun y => y.role = a.role ∧ y.mask = 0 ∧ y.keepalive = keepaliveOf keep.toNat ∧
          y.msgSize = s.messageSize h.port size.toNat))) ∧
      (s.getN K.sessSessionLimit ≤ s.host.sessions.length → Does (.openSession h majors minors size keep) s (fun t =>
        t.session? h.sess = none ∧ answered s t h 1 Cause.busy [[]]))) ∧
    (∀ r img, s.session? h.sess = some x → s.portCarries h.port = true → h.fits false = true → 24 ≤ x.msgSize →
      x.kept.find? (fun r : Resp => decide (r.reqId = h.reqId.toNat)) = some r →
      ∀ e ∈ ([(3, .readObject h key), (5, .readList h []), (6, .describe h key), (0x0B, .subscribe h 1 []), (0x0F, .keepalive h),
          (0x0A, .blockEnd h 0 0 img)] : List (Nat × Instr)),
        Does e.2 s (fun t => answered s t h e.1 r.status r.bodies ∧ t.outbox.length = s.outbox.length + r.bodies.length ∧
          t.objs = s.objs ∧ t.blobs = s.blobs)) ∧
    (s.asks h x 0 → Does (.keepalive h) s (fun t => answered s t h 15 0 [[]] ∧ t.hasSession h.sess (fun y => y.seenAt = s.now ∧
        y.kept.find? (fun r : Resp => decide (r.reqId = h.reqId.toNat)) = some ⟨h.reqId.toNat, 0, [[]]⟩)) ∧
      Does (.closeSession h) s (fun t => answered s t h 2 0 [[]] ∧ t.session? h.sess = none)) ∧
    (s.asks h x 4 →
      (s.readStatus x k = 0 → Does (.readObject h key) s (fun t => t.objs = s.objs ∧ t.blobs = s.blobs ∧
        answered s t h 3 0 [keyBody k ++ leBytes 1 (typeCode k) ++ heard.readBytes x.id k])) ∧
      (s.readStatus x k ≠ 0 → s.readStatus x k ≠ Cause.accessDenied → Does (.readObject h key) s (fun t =>
        ∃ b, answered s t h 3 (s.readStatus x k) b ∧ counts s t K.sessRequestsRefused 1)) ∧
      (∀ r, Dict.row? k = some r → s.romHides k false = false → Does (.describe h key) s (fun t =>
        answered s t h 6 0 [descriptor k r])) ∧
      (Dict.row? k = none → Does (.describe h key) s (fun t => answered s t h 6 Cause.objectUnknown [[]]))) ∧
    (∀ value : List Byte, s.asks h x (4 + value.length) →
        let bad := s.checkWrite x.role k value
        (bad ≠ 0 → bad ≠ Cause.accessDenied → Does (.writeObject h key value) s (fun t => t.blobs = s.blobs ∧
          ∃ b, answered s t h 4 bad b ∧ counts s t K.sessRequestsRefused 1)) ∧
        (k = K.recRepeatWindow → bad = 0 → (mirroredObject k && s.mirrors) = false → Does (.writeObject h key value) s (fun t =>
          answered s t h 4 0 [keyBody k] ∧ t.getN k = leNat value))) ∧
    (∀ keys : List (BitVec 24), s.asks h x (4 * keys.length) →
        (64 < keys.length → Does (.readList h keys) s (fun t => answered s t h 5 Cause.messageMalformed [[]])) ∧
        (keys.length ≤ 64 → (∀ q ∈ keys, s.checkRead x.role q.toNat ≠ Cause.accessDenied) → Does (.readList h keys) s (fun t =>
          t.objs = s.objs ∧ answered s t h 5 0
            (packEntries (x.msgSize - 16) (keys.map (fun q => heard.listEntry x q.toNat)) [])))) ∧
    (∀ (mask : BitVec 16) (ex : List (BitVec 16)), s.asks h x (2 + 2 * ex.length) → s.md.mode ≠ .recovery → ex.length ≤ 16 →
      Does (.subscribe h mask ex) s (fun t =>
        answered s t h 11 0 [[]] ∧ t.hasSession h.sess (fun y => y.mask = mask.toNat ∧ y.excluded = ex.map BitVec.toNat ∧
          (mask = 0 → y.unsent = [])))) ∧
    (s.session? h.sess = some x → s.portCarries h.port = true → h.fits true = true → 16 ≤ x.msgSize → Does (.eventAck h) s (fun t =>
      t.hasSession h.sess (fun y => y.unacked = x.unacked.filter (fun p => decide (p.seq ≠ h.reqId.toNat))))) ∧
    (s.session? sess = some x →
      let push := fun (p : Push) (seq : Nat) => OutMsg.host (x.dest (s.pcpOf .response x.port)) (hostMsg 12 0 seq 0 p.body)
      (∀ p rest, x.unsent = p :: rest → p.recNo.isSome = true → s.portCarries x.port = true → Does (.event sess) s (fun t =>
        t.outbox = push p x.nextPush :: s.outbox ∧
        t.hasSession sess (fun y => y.unsent = rest ∧ y.nextPush = (x.nextPush + 1) % 2 ^ 32 ∧
          y.unacked = x.unacked ++ [{ p with seq := x.nextPush, sentAt := s.now, againAt := s.now }]))) ∧
      (s.portCarries x.port = true → Does (.eventResend sess) s (fun t =>
        t.outbox = ((x.unacked.filter (Push.dueAgain s.now)).map (fun p => push p p.seq)).reverse ++ s.outbox)) ∧
      ((∃ p ∈ x.unacked, p.sentAt + 30000000000 < s.now) → Does (.eventPushTimeout sess) s (fun t => t.session? sess = none)) ∧
      (x.seenAt + 3 * x.keepalive * 1000000000 < s.now → Does (.sessionTimeout sess) s (fun t => t.session? sess = none)) ∧
      (s.takes K.sessCloseSession w → w.num = sess → Does (.closeSessionWrite w) s (fun t => saidOk s t ∧
        t.session? sess = none)))

/-- O49. BLOCK_OPEN of a readable object keeps its snapshot in a transfer and answers its id; BLOCK_DATA holds the
chunk needed aside and acknowledges; BLOCK_ACK moves a read on; BLOCK_END ends a transfer and applies a whole
object alone; a transfer without data for 10 s goes. STREAM starts and stops a stream within its limits;
TELEMETRY samples at its phase and sends a full batch, or drops it and counts its samples while it may not leave
(a batch larger than a message: log entry 119). A port's link falls, returns and is disabled, but never the port
that carries the request. REGISTER_WRITE of a plain object sets it. Where these rules leave a point open it
follows the choices of the model in log entries 72, 84, 86. Its conclusions say that exec answers a next state,
with the effect, for: BLOCK_OPEN, BLOCK_END, STREAM, BLOCK_DATA, BLOCK_ACK, TRANSFER_TIMEOUT, TELEMETRY,
PORT_LINK_DOWN, PORT_LINK_UP, PORT_ENABLE_WRITE, REGISTER_WRITE. (14_host_dictionary.md, R369, R370, R382, R384,
R388, R389) -/
def Obligations.TransfersStreamsAndPortsWork : Prop :=
  ∀ (s : State) (h : ReqHdr) (x : Session) (p : Fin 2) (w : HostWrite),
    let heard := s.heard h
    (s.asks h x 10 →
      (∀ (key : BitVec 24) (chunk : BitVec 16), s.readCheck x key.toNat = 0 → chunk ≠ 0 → x.transfers.length < 4 →
        s.transfersOpen < 16 → s.host.nextTransfer < 65536 → Does (.blockOpen h key false 0 chunk) s (fun t =>
          t.hasSession h.sess (fun y => ∃ tr ∈ y.transfers, tr.id = s.host.nextTransfer ∧ tr.key = key.toNat ∧
            tr.isWrite = false ∧ tr.bytes = heard.readBytes x.id key.toNat))) ∧
      (∀ (key : BitVec 24) (total : BitVec 32) (chunk : BitVec 16), s.checkBlockWrite x.role key.toNat total.toNat = 0 →
        chunk ≠ 0 → x.transfers.length < 4 → s.transfersOpen < 16 → s.host.nextTransfer < 65536 → imageInput key.toNat = none →
        x.transfer? s.host.nextTransfer = none → Does (.blockOpen h key true total chunk) s (fun t => answered s t h 7 0 [leBytes 2 s.host.nextTransfer ++
            leBytes 2 (min chunk.toNat (x.msgSize - 32)) ++ leBytes 4 total.toNat] ∧
          t.hasSession h.sess (fun y => ∃ tr ∈ y.transfers, tr.id = s.host.nextTransfer ∧ tr.key = key.toNat ∧
            tr.isWrite = true ∧ tr.total = total.toNat ∧ tr.bytes = [])))) ∧
    (s.asks h x 8 → ∀ (id : BitVec 16) (crc : BitVec 32) (img : Bool × BitVec 5) (tr : Transfer), x.transfer? id.toNat = some tr →
        let whole := tr.bytes.length = tr.total ∧ crc32 tr.bytes = crc
        let dropped := heard.dropTransfer x.id tr.id
        (tr.isWrite = false → Does (.blockEnd h id crc img) s (fun t => answered s t h 10 0 [keyBody tr.key] ∧
          t.hasSession h.sess (fun y => y.transfer? id.toNat = none))) ∧
        (tr.isWrite = true → imageInput tr.key = none → ¬whole → Does (.blockEnd h id crc img) s (fun t =>
          answered s t h 10 Cause.transferFailed [[]] ∧ t.blobs = s.blobs ∧
          t.hasSession h.sess (fun y => y.transfer? id.toNat = none))) ∧
        (tr.isWrite = true → tr.key = K.recRepeatWindow → whole → dropped.takes tr.key ⟨x.id, tr.bytes⟩ →
          Does (.blockEnd h id crc img) s (fun t => answered s t h 10 0 [keyBody tr.key] ∧ t.getN tr.key = leNat tr.bytes))) ∧
    (∀ (id : BitVec 8) (period phase : BitVec 32) (keys : List (BitVec 24)), s.asks h x (12 + 4 * keys.length) →
        s.md.mode ≠ .recovery →
        let ks := keys.map BitVec.toNat
        let bytes := (ks.map wireBytes).sum
        let others := s.host.sessions.flatMap (fun y => y.streams.filter (fun u => !(decide (y.id = x.id) && decide (u.id = id.toNat))))
        Does (.stream h false id period phase keys) s (fun t => answered s t h 13 0 [leBytes 1 id.toNat ++ leBytes 7 0] ∧
          t.hasSession h.sess (fun y => ∀ u ∈ y.streams, u.id ≠ id.toNat)) ∧
        (0 < period.toNat → period.toNat ≤ 600000 → (∀ k ∈ ks, s.streamable x.role k = true) → ks.length ≤ 64 → others.length < 8 →
          overloaded ((bytes, period.toNat) :: others.map (fun u => (u.sampleBytes, u.period))) = false →
          Does (.stream h true id period phase keys) s (fun t =>
            answered s t h 13 0 [leBytes 1 id.toNat ++ leBytes 3 0 ++ leBytes 4 bytes] ∧
            t.hasSession h.sess (fun y => ∃ u ∈ y.streams, u.id = id.toNat ∧ u.period = period.toNat ∧ u.phase = phase.toNat ∧
              u.keys = ks ∧ u.batch = [])))) ∧
    (s.session? h.sess = some x → ∀ (id : BitVec 16) (tr : Transfer),
      x.transfer? id.toNat = some tr →
      (∀ (off : BitVec 32) (data : List Byte), s.portCarries h.port = true → h.fits false = true → tr.isWrite = true → 24 + data.length ≤ x.msgSize → imageInput tr.key = none →
        (off.toNat = tr.next → data.length ≤ tr.chunk → tr.next + data.length ≤ tr.total →
          Does (.blockData h id off data) s (fun t =>
            t.outbox = .host (s.backTo h .blockData) (hostMsg 9 0 0 0 (leBytes 2 tr.id ++ leBytes 2 0 ++
              leBytes 4 (tr.next + data.length))) :: s.outbox ∧
            t.hasSession h.sess (fun y => ∃ u, y.transfer? id.toNat = some u ∧ u.bytes = tr.bytes ++ data ∧
              u.next = tr.next + data.length ∧ u.lastActive = s.now))) ∧
        (off.toNat ≠ tr.next → Does (.blockData h id off data) s (fun t =>
          t.outbox = .host (s.backTo h .blockData) (hostMsg 9 0 0 0 (leBytes 2 tr.id ++ leBytes 2 0 ++
            leBytes 4 tr.next)) :: s.outbox ∧
          t.hasSession h.sess (fun y => ∃ u, y.transfer? id.toNat = some u ∧ u.bytes = tr.bytes)))) ∧
      (∀ next : BitVec 32, s.portCarries h.port = true → h.fits false = true → 24 ≤ x.msgSize → tr.isWrite = false → tr.next ≤ next.toNat → next.toNat ≤ tr.sent → Does (.blockAck h id next) s (fun t =>
        t.hasSession h.sess (fun y => ∃ u, y.transfer? id.toNat = some u ∧ u.next = next.toNat ∧ u.lastActive = s.now))) ∧
      (tr.lastActive + 10000000000 < s.now → Does (.transferTimeout h.sess id) s (fun t =>
        t.hasSession h.sess (fun y => y.transfer? id.toNat = none)))) ∧
    (∀ (id : BitVec 8) (st : Stream), s.session? h.sess = some x → x.streams.find? (fun u => decide (u.id = id.toNat)) = some st →
      s.ft % (st.period * 100000) = st.phase * 1000 % (st.period * 100000) →
      let batch := st.batch ++ [s.sampleBlock x st]
      (batchFull x st batch.length = false → Does (.telemetry h.sess id) s (fun t => t.outbox = s.outbox ∧
        t.hasSession h.sess (fun y => ∃ u ∈ y.streams, u.id = id.toNat ∧ u.batch = batch ∧ u.seq = st.seq + 1))) ∧
      (batchFull x st batch.length = true → Does (.telemetry h.sess id) s (fun t =>
        if s.txPaused x.port (s.pcpOf .telemetry x.port) = false ∧ s.portCarries x.port = true ∧ 36 + st.sampleBytes ≤ x.msgSize then
          t.outbox = .host (x.dest (s.pcpOf .telemetry x.port))
            (hostMsg 14 0 st.sent 0 (leBytes 1 st.id ++ leBytes 1 batch.length ++ leBytes 2 0 ++ batch.flatten)) :: s.outbox
        else t.outbox = s.outbox ∧ counts s t K.sessTelemetrySamplesDropped batch.length))) ∧
    (s.get (K.portLinkState p) = 1 → Does (.portLinkDown p) s (fun t => t.get (K.portLinkState p) = 0)) ∧
    (s.getB (K.portEnable p) = true → s.get (K.portLinkState p) = 0 → Does (.portLinkUp p) s (fun t =>
      t.get (K.portLinkState p) = 1 ∧ t.outbox = .ethernet p 135 [] :: s.outbox)) ∧
    (s.takes (K.portEnable p) w →
      (w.num = 0 → s.portOf w.sess = p → Does (.portEnableWrite p w) s (fun t => refusedWith s t Cause.valueOutOfRange)) ∧
      (w.num = 0 → s.portOf w.sess ≠ p → Does (.portEnableWrite p w) s (fun t => saidOk s t ∧ t.get (K.portEnable p) = 0 ∧
        t.get (K.portLinkState p) ≠ 1)) ∧
      (w.num = 1 → Does (.portEnableWrite p w) s (fun t => saidOk s t ∧ t.get (K.portEnable p) = 1))) ∧
    (s.takes K.recRepeatWindow w → Does (.registerWrite K.recRepeatWindow w) s (fun t => saidOk s t ∧
      t.getN K.recRepeatWindow = w.num)) ∧
    (∀ k, s.checkWrite (s.roleOf w.sess) k w.bytes ≠ 0 → s.checkWrite (s.roleOf w.sess) k w.bytes ≠ Cause.accessDenied →
      Does (.registerWrite k w) s (fun t => refusedWith s t (s.checkWrite (s.roleOf w.sess) k w.bytes) ∧ t.blobs = s.blobs ∧
        (k ≠ K.sessRequestsRefused → t.get k = s.get k)))

/-- O50. QUEUE_ITEM_WRITE and a good ETHERNET_FRAME append an item where the pool has room; without room the item is
dropped and counted. QUEUE_READ delivers the readable item, one that is not yet whole staying as begun, a
poisoned one marked, and counted where its consumer drops it, or waits or returns empty; a passed deadline ends
the wait. A HIGH ingress queue repeats its PFC frame; a received PFC frame pauses and resumes its priority,
never 7. Spilled cells come back; FLUSH and a link fault empty the queue. Where these rules leave a point open
it follows the choices of the model in log entries 31, 119. Its conclusions say that exec answers a next state,
with the effect, for: QUEUE_ITEM_WRITE, ETHERNET_FRAME, QUEUE_READ, STALLING_READ_DEADLINE, PFC_REPEAT,
PFC_FRAME, QUEUE_SPILL_REFILL, FLUSH, QUEUE_LINK_FAULT. (15_message_queues.md, 14_host_dictionary.md, R371,
R393, R395, R396, R397, R399, R400, R402, R404, R405) -/
def Obligations.QueuesTakeAndDeliverItems : Prop :=
  ∀ (s : State) (q : Fin 512) (prio : Fin 8) (port : Fin 2) (stamp sess : Nat) (bytes : List Byte),
    let x := s.queue q
    let new := s.que.nextItem
    let item : List Byte → Nat → Nat → QItem := fun data length spilled =>
      QItem.mk new length data.length prio stamp false false spilled false data
    let inq := 64 + 8 * port.val + prio.val
    let good : BitVec 12 → Prop := fun vlan => vlan.toNat = s.getN (K.portVLANId port) ∧ 64 ≤ bytes.length ∧ bytes.length ≤ 9216 ∧
      frameServed bytes = true
    (∀ (length : BitVec 14) (k : Nat), 1 ≤ length.toNat → length.toNat ≤ 9216 →
      (x.waiting = none → s.room x (cellsOf (bytes.take length.toNat).length) = some k →
        Does (.queueItemWrite q prio length bytes false stamp) s
          (fun t => (t.queue q).items = x.items ++ [item (bytes.take length.toNat) length.toNat k])) ∧
      (s.room x (cellsOf (bytes.take length.toNat).length) = none → Does (.queueItemWrite q prio length bytes false stamp) s
        (fun t => (t.queue q).items = x.items ∧ counts s t (K.queueItemsDropped q) 1))) ∧
    (∀ (length : BitVec 14) (i : QItem) (k : Nat), x.items.find? (fun y => decide (y.prio = prio.val) && !y.complete) = some i →
      i.started = false → x.waiting = none →
      let add := bytes.take (i.length - i.written)
      s.room x (cellsOf (i.written + add.length) - i.cells) = some k → Does (.queueItemWrite q prio length bytes true stamp) s
        (fun t => (t.queue q).items = x.items.map (fun y => if y.id = i.id then { i with
          written := i.written + add.length, data := i.data ++ add, spilled := i.spilled + k } else y))) ∧
    (∀ vlan : BitVec 12, s.portUp port = true →
      (∀ k, good vlan → (s.queue inq).waiting = none →
        s.room (s.queue inq) (cellsOf bytes.length) = some k → Does (.ethernetFrame port prio vlan true bytes stamp) s
          (fun t => (t.queue inq).items = (s.queue inq).items ++ [item bytes bytes.length k])) ∧
      (¬good vlan → Does (.ethernetFrame port prio vlan true bytes stamp) s (fun t => t.que = s.que)) ∧
      Does (.ethernetFrame port prio vlan false bytes stamp) s (fun t => t.que = s.que)) ∧
    (∀ (deadline : Nat) (stall : Bool),
      (∀ i, s.readable x (s.skips q) = some i →
        Does (.queueRead q stall deadline 0 false) s (fun t =>
          (∃ l, t.outbox = l ++ .item q (some i) i.abandoned :: s.outbox) ∧
          (t.queue q).items = if i.complete then x.items.filter (fun y => decide (y.id ≠ i.id))
            else x.items.map (fun y => if y.id = i.id then { y with started := true } else y)) ∧
        Does (.queueRead q stall deadline 0 true) s (fun t => counts s t K.poolUncorrectableWords 1 ∧
          (q.val < 80 → counts s t (K.queuePoisonedItems q) 1) ∧
          ∃ l, t.outbox = l ++ .item q (some { i with poison := true }) i.abandoned :: s.outbox)) ∧
      (s.readable x (s.skips q) = none →
        Does (.queueRead q true deadline 0 false) s (fun t => (t.queue q).waiting = some deadline ∧ t.outbox = s.outbox) ∧
        Does (.queueRead q false deadline 0 false) s (fun t => t.outbox = .item q none false :: s.outbox)) ∧
      (x.waiting = some deadline → deadline ≠ 0 → deadline < s.ft → Does (.stallingReadDeadline q) s (fun t =>
        t.outbox = .item q none false :: s.outbox ∧ (t.queue q).waiting = none))) ∧
    (∀ p, x.high = true → pfcOf q = some p → (s.getN (K.portPFCPriorities p.1)).testBit p.2 = true → Does .pfcRepeat s (fun t =>
      OutMsg.pfc p.1 p.2 0xFFFF ∈ t.outbox)) ∧
    (∀ quanta : BitVec 16,
      (prio.val = 7 → Does (.pfcFrame port prio quanta) s (fun t => t.host = s.host)) ∧
      (prio.val ≠ 7 → (s.getN (K.portPFCPriorities port)).testBit prio = true → Does (.pfcFrame port prio quanta) s (fun t =>
        t.txPaused port prio = decide (quanta ≠ 0) ∧
        ∀ p r : Nat, (p, r) ≠ (port.val, prio.val) → t.txPaused p r = s.txPaused p r))) ∧
    (∀ i, x.items = [i] → 0 < i.spilled → i.spilled ≤ s.dieRoom x → Does (.queueSpillRefill q) s (fun t =>
      (t.queue q).items = [{ i with spilled := 0 }])) ∧
    (s.takesByte (K.queueFlush q) sess 1 → Does (.flush q sess) s (fun t => saidLast s t ∧ (t.queue q).items = [] ∧
      (t.queue q).high = false ∧ counts s t (K.queueFlushes q) 1)) ∧
    Does (.queueLinkFault q) s (fun t => (t.queue q).items = [] ∧ t.pair.linkFault = true)

/-- O51. CAUSE_RAISED of a cause that trigger k is the lowest to match counts the match and, with nothing held to
repeat, stages it with that trigger; the same cause again within the repeat window adds a repeat to the newest
staged entry; with staging full it is counted as not staged. RECORD_BUILD makes the oldest entry the newest
record under the next number. RECORDER_FLUSH flushes the ring, RECORDER_FLUSH_DONE ends the flush.
RECORDER_CLEAR needs the privilege, empties ring and region and leaves the one record of itself. Where these
rules leave a point open it follows the choices of the model in log entry 79. Its conclusions say that exec
answers a next state, with the effect, for: CAUSE_RAISED, RECORD_BUILD, RECORDER_FLUSH, RECORDER_FLUSH_DONE,
RECORDER_CLEAR. (16_event_recorder.md, R407, R408, R410, R413, R414, R416, R419) -/
def Obligations.CausesBecomeRecords : Prop :=
  ∀ (s : State) (c : BitVec 16) (subj : BitVec 32) (vals : BitVec 96) (sess : Nat),
    let a : Args := ⟨subj, vals⟩
    (s.inj.live = none → statusOnly c.toNat = false →
      (∀ k, s.triggerFor c.toNat = some k →
        (s.rcd.staging = [] → s.rcd.ring = [] → Does (.causeRaised c subj vals) s (fun t => counts s t (K.trigMatches k) 1 ∧
          t.rcd.staging = [StagedCause.mk c.toNat s.ft a k (s.getB (K.trigFlushOnRecord k)) 0 0])) ∧
        (∀ e, s.rcd.staging = [e] → e.takes s.repeatWindow c.toNat s.ft a = true → Does (.causeRaised c subj vals) s (fun t =>
          t.rcd.staging = [{ e with repeats := e.repeats + 1, lastRepeatUs := repeatUs e.ft s.ft }] ∧ t.rcd.ring = s.rcd.ring)) ∧
        (s.rcd.staging.length = 64 → s.rcd.ring = [] → (∀ e ∈ s.rcd.staging, e.cause ≠ c.toNat) →
          Does (.causeRaised c subj vals) s (fun t => t.rcd.staging = s.rcd.staging ∧ counts s t K.recCausesNotStaged 1 ∧
            t.rcd.lostCount = s.rcd.lostCount + 1))) ∧
      (s.triggerFor c.toNat = none → alwaysRecorded c.toNat = false → Does (.causeRaised c subj vals) s (fun t =>
        t.rcd = s.rcd))) ∧
    (statusOnly c.toNat = true → Does (.causeRaised c subj vals) s (fun t => t = s)) ∧
    (∀ e rest offered, s.rcd.staging = e :: rest → s.ringRoom = true → (offered = false → s.rcd.lostCount = 0) →
      Does (.recordBuild offered) s (fun t => t.rcd.staging = rest ∧
      t.getN K.recNewestNumber = s.getN K.recNewestNumber + 1 ∧
      ∃ r l, t.rcd.ring = r :: l ∧ r.number = s.getN K.recNewestNumber + 1 ∧ r.cause = e.cause ∧ r.ft = e.ft ∧
        r.args = e.args ∧ r.repeats = e.repeats ∧ r.flushed = false)) ∧
    (s.rcd.flush.isSome = true →
      Does .recorderFlush s (fun t => t.rcd.ring = s.rcd.ring.map (fun r => { r with flushed := true })) ∧
      (s.flushOver = true → s.rcd.clearWaiting = none → s.cry.errorPending = false → s.md.haltStage ≠ .journal →
        Does .recorderFlushDone s (fun t => t.rcd.flush = none ∧ (s.md.haltStage = .flush → t.md.haltStage = .done)))) ∧
    (s.takesByte K.recClear sess 1 →
      ((s.roleOf sess).testBit 3 = true → s.rcd.flush = none → Does (.recorderClear sess) s (fun t => saidOk s t ∧
        t.rcd.mram = [] ∧ (∃ r, t.rcd.ring = [r] ∧ r.cause = Cause.recorderCleared ∧ r.number = s.getN K.recNewestNumber + 1) ∧
        counts s t K.recClears 1)) ∧
      ((s.roleOf sess).testBit 3 = false → Does (.recorderClear sess) s (fun t => refusedWith s t Cause.accessDenied)))

/-- O52. TICK_RECORD_SEND keeps and sends the record; TICK_RECORD compares it with the own one of its tick, a
mismatch ending the matching run; a missing record counts as one. A host write of a mirrored object waits, on
the holder too, as the mirror of the next sequence; a mirror received whole waits; at its boundary it is applied
and the sequence moves; the log is sent again; a gap unanswered makes a hot standby cold. Health reports are
sent, taken in once and missed; a message of another version major does nothing; self-diagnosis drops OK_OUT or
hands over. Where these rules leave a point open it follows the choices of the model in log entries 63, 73, 75,
120. Its conclusions say that exec answers a next state, with the effect, for: TICK_RECORD_SEND, TICK_RECORD,
TICK_RECORD_MISSING, PAIR_INPUT_MISMATCH, CARRIER_ALIGN_FAIL, REGISTER_WRITE, MIRROR, MIRROR_EFFECT,
MIRROR_RESEND, MIRROR_GAP, SELF_DIAG_FAILURE, HEALTH_SEND, HEALTH, PARTNER_HEALTH_MISSING, GDDR7_SCRUB.
(17_active_standby.md, R383, R427, R428, R429, R430, R431, R433, R436, R440) -/
def Obligations.ThePairComparesAndMirrors : Prop :=
  ∀ (s : State) (o : TickRec) (f : BitVec 64) (b : List Byte) (m : Mirror) (w : HostWrite) (t0 : Nat)
    (c u : BitVec 32) (bad : Bool),
    let p := s.pair
    let r := TickRec.ofBytes b
    let x := MirrorPart.ofBytes b
    let mismatches : State → Prop := fun t => t.getN K.pairMatchingRun = 0 ∧
      (s.get K.pairInputMismatches + 1 < 2 ^ 64 → t.get K.pairInputMismatches = s.get K.pairInputMismatches + 1)
    (s.md.mode.serves = true → Does .tickRecordSend s (fun t => t.pair.own = (s.tickRecord :: p.own).take 64 ∧ t.pair.fired = [] ∧
      (s.pairLinks ≠ [] → s.pairMsg 1 s.tickRecord.rest ∈ t.outbox))) ∧
    (pairIs b 1 120 → s.md.pins.maceOut = false → p.compared.contains r.ft.toNat = false → p.partner ≠ some r →
      p.own.find? (fun y : TickRec => decide (y.ft = r.ft)) = some o → Does (.tickRecord b) s (fun t => t.pair.partner = some r ∧
        t.getN K.pairPartnerState = r.state ∧ (o.mismatch r ≠ 0 → mismatches t) ∧
        (o.mismatch r = 0 → p.aligned = true → t.getN K.pairMatchingRun = min 65535 (s.getN K.pairMatchingRun + 1)))) ∧
    (p.compared.contains f.toNat = false → f.toNat + 10000 < s.ft → s.md.mode.serves = true →
      Does (.tickRecordMissing f) s (fun t => mismatches t ∧ t.pair.missRun = p.missRun + 1 ∧ t.pair.badRun = p.badRun + 1)) ∧
    (10000 ≤ p.badRun → p.badSaid = false → Does .pairInputMismatch s (fun t => t.pair.badSaid = true ∧
      t.rcd = (s.raise Cause.pairInputMismatch (args0 [(s.getN K.pairMismatchFields, 1)])).rcd)) ∧
    (p.offSince = some t0 → t0 + 100000000 ≤ s.now → p.offSaid = false → s.md.pins.maceOut = false →
      Does .carrierAlignFail s (fun t => t.pair.offSaid = true ∧ t.rcd = (s.raise0 Cause.carrierAlignFail).rcd)) ∧
    (s.checkWrite (s.roleOf w.sess) K.loopOverdrawHold w.bytes = 0 → s.mirrors = true →
      Does (.registerWrite K.loopOverdrawHold w) s (fun t => t.objs = s.objs ∧ t.pair.nextSeq = (p.nextSeq + 1) % 2 ^ 32 ∧
        ∃ y ∈ t.pair.waiting, y.seq = p.nextSeq ∧ y.key = K.loopOverdrawHold ∧ y.value = w.bytes ∧ y.effect = s.effectBoundary)) ∧
    (pairIs b 2 (32 + wordAt b 28 2) → s.md.pins.maceOut = false → (∀ y ∈ p.waiting, y.seq ≠ x.seq.toNat) → p.loadedAt = none → x.part = 0 → x.parts = 0 →
      Does (.mirror b) s (fun t => ∃ y ∈ t.pair.waiting, y.seq = x.seq.toNat ∧ y.key = x.index.toNat * 256 + x.sub.toNat ∧
        y.value = x.value ∧ y.effect = x.effect.toNat ∧ y.arrival = x.arrival.toNat)) ∧
    (s.md.pins.maceOut = true ∨ p.loadedAt.isSome = true → s.dueMirrors = [m] → m.key = K.loopOverdrawHold →
      Does .mirrorEffect s (fun t => t.getN K.loopOverdrawHold = leNat m.value ∧ t.getN K.mirrorMirrorSequence = m.seq ∧
        t.pair.waiting = p.waiting.drop 1)) ∧
    (pairIs b 3 8 → s.pairLinks ≠ [] → Does (.mirrorResend b) s (fun t => ∀ y ∈ p.log, mirrorBefore y.seq (wordAt b 4 4) = false →
      y.value.length ≤ mirrorChunk → s.pairMsg 2 (y.rest 0 1 y.value) ∈ t.outbox)) ∧
    (p.resendAt = some t0 → t0 + 1000000 ≤ s.now → s.md.pins.maceOut = false → Does .mirrorGap s (fun t =>
      t.pair.waiting = [] ∧ t.pair.resendAt = none ∧ counts s t K.mirrorMirrorGaps 1 ∧
      (s.md.mode = .hotStandby → t.md.mode = .coldStandby))) ∧
    (s.diagBits ≠ 0 → s.md.pins.maceOut = false → Does .selfDiagFailure s (fun t => t.md.pins.okOut = false ∧
      t.getN K.healthSelfDiagnosis = s.diagBits ∧ t.getB K.pairClaimArmed = false)) ∧
    (s.diagBits ≠ 0 → s.md.pins.maceOut = true → p.handover = none → Does .selfDiagFailure s (fun t => t.md.pins.okOut = false ∧
      t.md.pins.maceOut = true ∧ (s.partnerReady = true → t.pair.handover.isSome = true) ∧
      (s.partnerReady = false → t.pair.handover = none ∧ t.pair.noTakerSaid = true))) ∧
    Does .healthSend s (fun t => t.getBytes K.healthOwnHealth 64 = s.healthBytes ∧ t.pair.corrected = 0 ∧
      (s.pairLinks ≠ [] → t.outbox = s.pairMsg 8 (s.healthBytes.drop 2) :: s.outbox)) ∧
    (pairIs b 8 64 →
      (s.getBytes K.healthPartnerHealth 64 ≠ b.take 64 → Does (.health b) s (fun t =>
        t.getBytes K.healthPartnerHealth 64 = b.take 64 ∧ t.pair.healthAt = s.now ∧ t.pair.healthSaid = false ∧
        t.pair.seenTrims = wordAt b 8 2 % 512)) ∧
      (s.getBytes K.healthPartnerHealth 64 = b.take 64 → Does (.health b) s (fun t => t = s))) ∧
    (wordAt b 0 1 / 16 ≠ 1 → ∀ i ∈ [Instr.tickRecord b, Instr.mirror b, Instr.mirrorResend b, Instr.checkpointRequest b,
      Instr.handover b, Instr.handoverAck b, Instr.health b, Instr.stopShelfMessage b], Does i s (fun t => t = s)) ∧
    (p.healthAt + 300000000 < s.now → p.healthSaid = false → s.hasPartner = true → s.md.mode.serves = true →
      Does .partnerHealthMissing s (fun t => t.pair.healthSaid = true ∧ counts s t K.healthHealthReportsMissed 1)) ∧
    Does (.gddr7Scrub c u bad) s (fun t => t.pair.scrubAt = s.now ∧ t.pair.corrected = p.corrected + c.toNat ∧
      t.pair.uncorrectable = p.uncorrectable + u.toNat ∧ (t.pair.regionBad = true ↔ bad = true ∧ u ≠ 0))

/-- O53. CHECKPOINT_PERIOD takes a checkpoint or skips one while a stream runs; a full one asked for is held and
loaded, which restores engine memories, loop and estimate and moves the sequence to a block above; a timeout
asks again, RETRY resets the attempts. HANDOVER is answered by a hot armed standby, acknowledged, aborted, or
done at D: the holder gives up the mace and the standby takes it. A claim with MACE_IN low takes over; a lease
that ends and a line conflict at slot B drop the mace. Where these rules leave a point open it follows the
choices of the model in log entries 67, 74, 89, 91, 92, 120. Its conclusions say that exec answers a next state,
with the effect, for: CHECKPOINT_PERIOD, CHECKPOINT, CHECKPOINT_REQUEST, CHECKPOINT_LOADED, CATCH_UP_TIMEOUT,
CATCH_UP_RETRY, HANDOVER, HANDOVER_ACK, MACE_HANDOVER_ABORTED, MACE_HANDOVER_DONE, STOP_SHELF_MESSAGE,
MACE_IN_ASSERTED, PEER_OK_CHANGE, MACE_TAKEOVER, LEASE_EXPIRY, MACE_LINE_CONFLICT. (17_active_standby.md,
03_start_up_reset_recovery.md, 02_package_pins_power.md, R49, R54, R77, R422, R424, R425, R432, R435, R437) -/
def Obligations.TheMaceChangesHands : Prop :=
  ∀ (s : State) (c : Checkpoint) (b : HandoverSt) (t0 sess : Nat) (ok level : Bool) (size : BitVec 32) (m : List Byte) (n : Fin 4),
    let p := s.pair
    let d := wordAt m 4 8
    let full := p.fullNext
    let free := s.md.poweredOff = false ∧ s.md.heldInReset = false
    let holds := State.holdsMace
    (s.md.pins.maceOut = true → s.time.mode ≠ .invalid → s.ft % (s.getN K.ckptCheckpointPeriod * 1000000) = 0 →
      (s.now < p.streamEnd → Does .checkpointPeriod s (fun t => counts s t K.ckptCheckpointsSkipped 1 ∧ t.outbox = s.outbox)) ∧
      (p.streamEnd ≤ s.now → Does .checkpointPeriod s (fun t => t.getN K.ckptLastCheckpoint = s.ft ∧ t.pair.fullNext = false ∧
        (s.pairLinks ≠ [] → t.outbox = .checkpoint (s.checkpoint full) :: s.outbox ∧ counts s t K.ckptCheckpointsSent 1)))) ∧
    (s.md.pins.maceOut = false → Does (.checkpoint none ok size) s (fun t => t.pair.segments = p.segments + 1) ∧
      Does (.checkpoint (some c) true size) s (fun t => t.pair.held = some c ∧ t.getN K.ckptLastCheckpoint = c.boundary) ∧
      Does (.checkpoint (some c) false size) s (fun t => t.pair.held = p.held ∧ t.objs = s.objs)) ∧
    (pairIs m 5 2 → s.md.pins.maceOut = true → Does (.checkpointRequest m) s (fun t => t.pair.fullNext = true)) ∧
    (p.held = some c → s.md.mode = .coldStandby → p.askedAt.isSome = true → p.loadedAt = none → c.schedule.isSome = true →
      p.waiting = [] → Does .checkpointLoaded s (fun t => t.pair.loadedAt = some s.now ∧ t.getN K.pairMatchingRun = 0 ∧
        t.pair.awaited = (c.mirrorSeq + 1) % 2 ^ 32 ∧ (t.core n).sm = c.memories[n] ∧ t.lp = c.loop ∧ t.soc = c.soc ∧
        t.clv.nextSeq = if (c.nextSeq / 65536 + 1) * 65536 ≤ s.clv.nextSeq then s.clv.nextSeq
          else (c.nextSeq / 65536 + 1) * 65536 % 2 ^ 32)) ∧
    (p.loadedAt = some t0 → s.md.mode = .coldStandby → t0 + 10000000000 ≤ s.now → Does .catchUpTimeout s (fun t =>
      t.pair.loadedAt = none ∧ (s.getN K.ckptCatchUpAttempts < 3 → s.md.pins.maceIn = true → s.pairLinks ≠ [] →
        t.pair.askedAt = some s.now ∧ t.getN K.ckptCatchUpAttempts = s.getN K.ckptCatchUpAttempts + 1))) ∧
    (s.takesByte K.ckptCatchUpRetry sess 1 → Does (.catchUpRetry sess) s (fun t => saidLast s t ∧ t.pair.loadedAt = none ∧
      t.getN K.ckptCatchUpAttempts ≤ 1)) ∧
    (pairIs m 6 12 → s.md.mode = .hotStandby → s.getB K.pairClaimArmed = true → s.pairLinks ≠ [] →
      Does (.handover m) s (fun t => t.outbox = s.pairMsg 7 (leBytes 2 0 ++ leBytes 8 d) :: s.outbox ∧
        t.pair.handover = some ⟨d, true, .stay⟩)) ∧
    (p.handover = some b →
      (pairIs m 7 12 → s.md.pins.maceOut = true → b.at_ = d → Does (.handoverAck m) s (fun t =>
        t.pair.handover = some { b with acked := true })) ∧
      (s.md.pins.maceOut = true → b.acked = false → b.at_ ≤ s.ft + 20000 ∨ s.partnerReady = false →
        Does .maceHandoverAborted s (fun t => t.pair.handover = none ∧ t.md.pins.maceOut = true)) ∧
      (b.acked = true → b.at_ ≤ s.ft →
        (s.md.pins.maceOut = true → b.after = .stay → Does .maceHandoverDone s (fun t => t.md.pins.maceOut = false ∧
          t.md.mode = .hotStandby ∧ t.getB K.pairClaimArmed = false ∧ counts s t K.pairHandovers 1)) ∧
        (s.md.pins.maceOut = false → s.getB K.pairClaimArmed = true → free → Does .maceHandoverDone s (fun t => holds t ∧
          counts s t K.pairHandovers 1)))) ∧
    (pairIs m 9 2 → s.md.mode.serves = true → s.md.pins.maceOut = false → Does (.stopShelfMessage m) s (fun t => t.md.mode = .halted ∧
      t.md.pins.okOut = false ∧ t.getN K.moduleShutdownProgress = 4)) ∧
    Does .maceInAsserted s (fun t => t.md.pins.maceIn = true ∧ t.md.pins.maceOut = s.md.pins.maceOut) ∧
    Does (.peerOkChange level) s (fun t => t.md.pins.peerOk = level) ∧
    (s.md.pins.maceOut = false → s.getB K.pairClaimArmed = true → free → Does .maceTakeover s (fun t => holds t ∧
      counts s t K.pairTakeovers 1 ∧ t.getN K.pairLastTakeover = s.ft)) ∧
    (s.md.pins.maceOut = true → Does .maceTakeover s (fun t => t.getN K.pairTakeovers = s.getN K.pairTakeovers)) ∧
    (s.md.pins.maceOut = true → p.leaseEnd ≤ s.now → Does .leaseExpiry s (fun t => t.md.pins.maceOut = false ∧
      t.getB K.pairClaimArmed = false ∧ (s.md.mode = .active → t.md.mode = .coldStandby))) ∧
    (s.md.pins.maceIn = true → s.md.pins.maceOut = true → s.md.pins.slotB = true → Does .maceLineConflict s (fun t =>
      t.md.pins.maceOut = false ∧ t.md.conflict = true))

/-- O54. START_SEQUENCE reads the bank descriptor, loads the preferred bank that passes its checks, stops in the ROM
on a failed self-test, and enters the recovery ROM when no bank is VALID; GATES_MET leaves waiting and claims at
slot A; slot B claims after its deferral while its gates hold; starts are confirmed after 60 s; each reset leads
to the ROM with its kind and cause, or waits for a main-loss sequence; HANDOVER and STOP_SHELF shut down in
their steps; BANK_RETRY, and the recovery ROM's requests, downloads and acceptance, act on the banks. The
module's choices of logs 59, 64, 102 and 110 are the model's. Its conclusions say that exec answers a next
state, with the effect, for: START_SEQUENCE, START_CONDITION, GATES_MET, SLOT_B_DEFER_EXPIRY, READINESS_TIMEOUT,
START_CONFIRMED, START_TIMEOUT, PIN_RESET, HOST_RESET, RESET_FORCE, FIRMWARE_FATAL, WATCHDOG_FIRMWARE_EXPIRY,
WATCHDOG_CONTROL_EXPIRY, SHUTDOWN_HANDOVER, STOP_SHELF, STOP_SHELF_COMPLETE, BANK_RETRY, RECOVERY_REQUEST,
RECOVERY_DATA, RECOVERY_IMAGE_ACCEPTED, RECOVERY_SOURCE_TIMEOUT. (03_start_up_reset_recovery.md, R60, R63, R64,
R67, R68, R71, R72, R74, R76, R77, R79) -/
def Obligations.StartsResetsAndShutdowns : Prop :=
  ∀ (s : State) (i : StartInputs) (sess t0 : Nat) (w : HostWrite) (src : RecSource) (hb : List Byte) (sg : Bool) (n : Nat)
    (c : BitVec 32) (ok : BitVec 5),
    let m := s.md
    let d := m.downloadB
    let r := m.readDesc i.descTorn
    (m.started = true → m.heldInReset = false → m.mainLoss = false → m.romStopped = false → m.mode = .rom →
      (i.testFails = true → Does (.startSequence i) s (fun t => t.md.romStopped = true ∧ t.md.mode = .rom)) ∧
      (i.testFails = false → s.cry.zeroised = none → m.failedBank = none →
        (r.bankRuns r.preferB → Does (.startSequence i) s (fun t => t.md.mode = .loading ∧
          t.md.running = (if r.preferB then .b else .a) ∧ t.md.stalled = i.stalls)) ∧
        (r.bankA.state ≠ .valid → r.bankB.state ≠ .valid → Does (.startSequence i) s (fun t => t.md.mode = .recovery ∧
          t.md.running = .recovery ∧ t.md.tilesOn = 0 ∧ t.getN (K.portLinkState 0) = 1)))) ∧
    (m.started = false → Does (.startCondition true) s (fun t => resetTo t 0 Cause.powerOn ∧ t.md.started = true ∧
        counts s t K.modulePowerCycleCount 1) ∧
      Does (.startCondition false) s (fun t => resetTo t 1 Cause.mainLoss ∧ t.md.started = true)) ∧
    (m.mode = .waiting → s.gates = 511 →
      (m.pins.maceIn = true → Does .gatesMet s (fun t => t.md.mode = .coldStandby ∧ t.md.gatesAt = some s.now)) ∧
      (s.mayClaim → m.pins.slotB = false → Does .gatesMet s State.holdsMace)) ∧
    (m.gatesAt = some t0 → m.mode = .coldStandby → m.pins.slotB = true → s.mayClaim → s.gates = 511 →
      t0 + s.getN K.moduleSlotBDefer * 1000000 ≤ s.now → Does .slotBDeferExpiry s State.holdsMace) ∧
    (m.step9At = some t0 → t0 + 60000000000 ≤ s.now →
      (m.mode = .waiting → s.gates ≠ 511 → m.readinessSaid = false → Does .readinessTimeout s (fun t =>
        t.md.readinessSaid = true ∧ t.rcd = (s.raise Cause.readinessTimeout (args0 [(s.gates, 2)])).rcd)) ∧
      (m.confirmed = false → m.running ≠ .recovery → m.mainLoss = false → m.poweredOff = false → Does .startConfirmed s (fun t => t.md.confirmed = true ∧
        (t.md.bank (decide (m.running = .b))).failedStarts = 0))) ∧
    (m.mode = .loading → m.step9At = none → m.handoverAt + 10000000000 ≤ s.now → m.mainLoss = false →
      Does .startTimeout s (fun t => resetTo t 8 Cause.startTimeout ∧ (m.confirmed = false → m.fwArmed = true → t.md.failedBank = some (decide (m.running = .b))))) ∧
    Does .pinReset s (fun t => t.md.pins.rstLow = true) ∧
    (m.poweredOff = false → m.heldInReset = false →
      (m.mainLoss = true → Does .pinReset s (fun t => t.md.resetWaiting = some (ResetKind.pin.over_ m.resetWaiting) ∧
        t.md.mode = m.mode)) ∧
      (m.mainLoss = false → Does .pinReset s (fun t => resetTo t 2 Cause.pinReset ∧ t.md.pins.rstLow = true))) ∧
    (s.takesByte K.moduleResetCommand sess 1 →
      (m.pins.maceOut = false → m.mainLoss = false → Does (.hostReset sess) s (fun t => resetTo t 3 Cause.hostReset ∧ saidLast s t)) ∧
      (m.pins.maceOut = true → s.partnerReady = true → Does (.hostReset sess) s (fun t => saidLast s t ∧
        ∃ x, t.pair.handover = some x ∧ x.after = .reset ∧ s.ft + 50000 ≤ x.at_ ∧ x.at_ % 1000 = 0)) ∧
      (m.pins.maceOut = true → s.partnerReady = false → Does (.hostReset sess) s (fun t =>
        refusedWith s t Cause.shutdownRefused ∧ t.md = m))) ∧
    (s.takesByte K.moduleResetCommand sess 2 → m.mainLoss = false → Does (.resetForce sess) s (fun t => resetTo t 3 Cause.hostReset ∧ saidLast s t)) ∧
    (m.fwArmed = true → m.poweredOff = false →
      (m.mainLoss = true → Does .firmwareFatal s (fun t => t.md.resetWaiting = some (ResetKind.fatal.over_ m.resetWaiting))) ∧
      (m.mainLoss = false → Does .firmwareFatal s (fun t => resetTo t 5 Cause.firmwareFatal)) ∧
      (m.mainLoss = false → m.fwFedAt + 100000000 ≤ s.now → Does .watchdogFirmwareExpiry s (fun t =>
        resetTo t 4 Cause.watchdogReset))) ∧
    (m.ctlArmed = true → m.mainLoss = false → s.pair.feedEnd ≤ s.now → Does .watchdogControlExpiry s (fun t => resetTo t 4 Cause.watchdogReset)) ∧
    (s.takesByte K.moduleShutdownCommand sess 1 →
      (m.mode = .coldStandby ∨ m.mode = .hotStandby ∨ m.mode = .waiting → Does (.shutdownHandover sess) s (fun t =>
        saidLast s t ∧ t.md.mode = .halted ∧ t.getN K.moduleShutdownProgress = 4)) ∧
      (m.mode = .active → s.partnerReady = true → Does (.shutdownHandover sess) s (fun t => saidLast s t ∧
        t.getN K.moduleShutdownProgress = 1 ∧ ∃ x, t.pair.handover = some x ∧ x.after = .halt)) ∧
      (m.mode = .active → s.partnerReady = false → Does (.shutdownHandover sess) s (fun t =>
        refusedWith s t Cause.shutdownRefused))) ∧
    (s.takesByte K.moduleShutdownCommand sess 2 → m.mode = .active → Does (.stopShelf sess) s (fun t =>
      t.outbox = .status 0 :: (if s.pairLinks = [] then s.outbox else s.pairMsg 9 [] :: s.outbox) ∧
      t.getN K.moduleShutdownProgress = 2 ∧ (s.partnerHalted = true → m.stopCap = false → t.getN K.rackRackCap = 0))) ∧
    (m.shutdown = .ramping → m.stopCap = true → s.feedWatts < 2000 → (s.controlMilli 43).natAbs < 5000 →
      ((∃ x, (s.conv x).on = true) → Does .stopShelfComplete s (fun t => t.getN K.moduleShutdownProgress = 3 ∧
        ∀ x, (s.conv x).on = true → (t.conv x).stopPend = true)) ∧
      ((∀ x, (s.conv x).on = false) → Does .stopShelfComplete s (fun t =>
        t.md.mode = .halted ∧ t.md.pins.maceOut = false ∧ t.getN K.moduleShutdownProgress = 4))) ∧
    (s.takes K.bankBankRetry w → let x := decide (w.num = 1)
      ((m.bank x).state = .failed → Does (.bankRetry w) s (fun t => saidOk s t ∧ (t.md.bank x).state = .valid ∧
        (t.md.bank x).failedStarts = 0 ∧ t.md.bank (!x) = m.bank (!x))) ∧
      ((m.bank x).state = .invalid ∨ (m.bank x).state = .empty → Does (.bankRetry w) s (fun t =>
        refusedWith s t Cause.valueOutOfRange ∧ t.md = m))) ∧
    (m.mode = .recovery →
      (m.download = none → ((∀ t0, m.recAskedAt = some t0 → t0 + 1000000000 ≤ s.now) → s.pairLinks ≠ [] →
          Does .recoveryRequest s (fun t => t.md.recAskedAt = some s.now ∧
            t.outbox = s.pairMsg 10 (leBytes 2 0 ++ leBytes 8 m.fwCounter) :: s.outbox)) ∧
        (∀ named, s.mayDownload src sess = true → s.headerCheck 1 bankBytes (ImageHdr.ofBytes sg hb) = 0 →
          Does (.recoveryData (.header src sess named hb sg)) s (fun t => t.md.download = some src ∧
            t.md.downloadB = s.recoveryTarget src named ∧ (t.md.bank (s.recoveryTarget src named)).state = .invalid))) ∧
      (∀ named, m.download.isSome = true → s.mayDownload src sess = true →
        Does (.recoveryData (.header src sess named hb sg)) s (fun t => t.outbox = .status Cause.busy :: s.outbox ∧ t.md = m)) ∧
      (m.download = some src → Does (.recoveryData (.body src n)) s (fun t => t.md.downloadBytes = m.downloadBytes + n ∧
        t.md.downloadAt = s.now)) ∧
      (m.download.isSome = true → m.mainLoss = false → Does (.recoveryImageAccepted true ok) s (fun t => resetTo t 3 Cause.hostReset ∧
          t.md.preferB = d ∧ (t.md.bank d).state = .valid) ∧
        Does (.recoveryImageAccepted false ok) s (fun t => t.md.download = none ∧
          t.outbox = .status Cause.imageBodyBad :: s.outbox))) ∧
    (m.mode.serves = true → m.confirmed = true → c.toNat ≤ m.fwCounter → Does (.recoveryData (.request c)) s (fun t =>
      t.outbox = .image bankBytes :: s.outbox)) ∧
    (m.download.isSome = true → m.downloadAt + 10000000000 < s.now → Does .recoverySourceTimeout s (fun t =>
      t.md.download = none))

/-- O55. HOLD_SWITCH_IN, MAIN_DIP, MAIN_LOSS, POWER_FAIL_RESTART and HOLD_UNDERVOLTAGE follow a main loss to its
end; readings are shown, and those out of range for their time raised; a trim steps by 5 mV, logged; junction
levels respond and clear 5 K below their own level; the thermal trip holds the module in reset; clock losses,
PPS_OUT, boundary scan and tamper inputs act; TICK_BOUNDARY takes the readings, runs time on to the next whole
microsecond, feeds the firmware stage by its heartbeat and leaves self-diagnosis as it stands. The choices of
logs 10, 11, 59, 66 and 110 are the model's. Its conclusions say that exec answers a next state, with the
effect, for: HOLD_SWITCH_IN, MAIN_DIP, MAIN_LOSS, POWER_FAIL_RESTART, HOLD_UNDERVOLTAGE, HOLD_ENERGY_PUBLISH,
HOLD_ENERGY_LOW, MAIN_OUT_OF_RANGE, AUX_LOW, TRIM_RAISE, TRIM_LOWER, JUNCTION_WARNING, JUNCTION_HIGH,
JUNCTION_CRITICAL, JUNCTION_CLEAR, THERMAL_TRIP, THERMAL_TRIP_RELEASE, COOLANT_FLOW_LOW, COOLANT_INLET_HIGH,
REF_CLOCK_LOSS, PLL_UNLOCK, SDM_CLOCK_TAKEOVER, PPS_OUT_PULSE, BOUNDARY_SCAN_INSTRUCTION, TAMPER_DETECTED,
TICK_BOUNDARY. (02_package_pins_power.md, 01_shelf_and_module.md, R19, R31, R33, R36, R37, R40, R41, R52, R56,
R453) -/
def Obligations.SuppliesClocksAndTicks : Prop :=
  ∀ (s : State) (v12 vaux vh pw tj : BitVec 16) (g : Fin 9) (code : BitVec 6) (p : Fin 6) (x : Fin 5) (i : TickInputs) (j : Jtag)
    (sv : Bool) (q : Fin 4),
    let m := s.md
    let k := K.trimTrim g
    let deg := tj.toInt
    let lock := m.pllLock &&& ~~~(1#6 <<< p.val)
    let tamper := s.tamperAction x
    let ended := s.each allCores (fun n s => (s.coreWindow n).answerWords n)
    let ticked := ended.runToTick.readings i
    let fed := if i.heartbeat then ticked.haltStep.modMd (fun m => { m with fwFedAt := ticked.now }) else ticked.haltStep
    let due := fun (x : Timer) (d : Nat) => ∃ t0, m.timers.lookup x = some t0 ∧ t0 + d ≤ s.now
    (m.started = true → m.poweredOff = false → Does .holdSwitchIn s (fun t => t.md.onHold = true)) ∧
    (m.onHold = true → m.mainLoss = false → Does .mainDip s (fun t => t.md.onHold = false ∧ counts s t K.supplyMainDips 1)) ∧
    (m.onHold = true → m.mainLoss = false → m.poweredOff = false → Does .mainLoss s (fun t => t.md.mainLoss = true ∧
      t.md.mode = .mainLoss ∧ t.md.pins.maceOut = false ∧ t.md.pins.okOut = false ∧ t.md.pins.pfail = true ∧
      t.host.sessions = [] ∧ t.rcd.flush = some .powerFail ∧ counts s t K.supplyMainLosses 1)) ∧
    (m.mainLoss = true → m.poweredOff = false →
      (∀ kind : ResetKind, s.rcd.flush = none → m.resetWaiting = some kind → Does .powerFailRestart s (fun t => t.md.mode = .rom ∧
        t.md.pins.maceOut = false ∧ t.getN K.moduleLastResetKind = kind.code)) ∧
      (s.rcd.flush = none → m.resetWaiting = none → Does .powerFailRestart s (fun t => resetTo t 1 Cause.mainLoss)) ∧
      Does .holdUndervoltage s (fun t => t.md.poweredOff = true ∧ t.md.started = false ∧ t.md.domainsOn = 0 ∧
        t.md.pins.maceOut = false)) ∧
    Does (.holdEnergyPublish v12 vaux vh pw) s (fun t => t.getN K.supplyV12 = v12.toNat ∧ t.getN K.supplyVHOLD = vh.toNat ∧
      t.getN K.supplyHoldEnergy = holdEnergy (s.getN K.supplyHoldCapacitance) vh.toNat) ∧
    (s.getN K.supplyHoldEnergy < 1500 → s.mainPresent = true → due .holdLow 1000000000 →
      Does .holdEnergyLow s (fun t => t = s.raise0 Cause.holdEnergyLow)) ∧
    (m.poweredOff = false →
      (v12.toNat < 11400 ∨ 12600 < v12.toNat → due .mainRange 10000000 → Does (.mainOutOfRange v12) s (fun t =>
        t = (s.put K.supplyV12 v12.toNat).raise0 Cause.mainOutOfRange)) ∧
      (vaux.toNat < 3135 → due .auxLow 10000000 → Does (.auxLow vaux) s (fun t => t = (s.put K.supplyVAUX vaux.toNat).raise0 Cause.auxLow)) ∧
      (code.toNat ≤ 8 → s.get k < 60 → (m.timers.lookup (.trimRaised g) = none ∨ due (.trimRaised g) 1000000) → Does (.trimRaise g code) s (fun t => t.get k = s.get k + 5 ∧ counts s t K.trimTrimSteps 1 ∧
        ∃ e l, t.md.trimLog = e :: l ∧ e.group = g ∧ e.old = s.get k ∧ e.new = s.get k + 5)) ∧
      (code.toNat ≤ 2 → s.get k = 60 → Does (.trimRaise g code) s (fun t => t.get k = 60 ∧
        t.md.trimDegraded.getLsbD g = true)) ∧
      (24 ≤ code.toNat → -60 < s.get k → (m.timers.lookup (.trimClear g)).getD m.startAt + 3600000000000 ≤ s.now → Does (.trimLower g code) s (fun t => t.get k = s.get k - 5 ∧
        counts s t K.trimTrimSteps 1))) ∧
    Does (.junctionWarning tj) s (fun t => t.get K.thermalJunctionMaximum = deg ∧ (950 ≤ deg → t.md.junction.warning = true)) ∧
    Does (.junctionHigh tj) s (fun t => (1000 ≤ deg → t.md.junction.high100 = true ∧ t.safEnable ≤ 1 ∧
        (m.junction.high100 = false → t.md.safDue = true)) ∧
      (1030 ≤ deg → t.md.junction.high103 = true ∧ t.safEnable = 0 ∧ (m.junction.high103 = false → t.md.safDue = true))) ∧
    (1080 ≤ deg ∨ (1050 ≤ deg ∧ due .junction105 1000000000) → m.junction.critical = false → Does (.junctionCritical tj) s (fun t => t.md.junction.critical = true ∧
      (m.pins.peerOk = true → t.md.pins.maceOut = false))) ∧
    Does (.junctionClear tj) s (fun t => (t.md.junction.warning = true ↔ m.junction.warning = true ∧ 900 < deg) ∧
      (t.md.junction.high103 = true ↔ m.junction.high103 = true ∧ 980 < deg) ∧
      (t.md.junction.critical105 = true ↔ m.junction.critical105 = true ∧ 1000 < deg) ∧
      (t.md.junction.critical108 = true ↔ m.junction.critical108 = true ∧ 1030 < deg)) ∧
    (1150 ≤ deg → m.poweredOff = false →
      (m.mainLoss = false → Does (.thermalTrip tj) s (fun t => resetTo t 6 Cause.thermalTrip ∧ t.md.heldInReset = true)) ∧
      (m.mainLoss = true → Does (.thermalTrip tj) s (fun t => t.md.resetWaiting = some .thermal))) ∧
    (m.junction.trip = true → deg < 900 → Does (.thermalTripRelease tj) s (fun t => t.md.heldInReset = false)) ∧
    (600 ≤ s.getN K.supplyInputPower → s.getN K.thermalFlowEstimate < 600 → due .flowLow 1000000000 →
      Does .coolantFlowLow s (fun t => t.rcd = (s.raise0 Cause.coolantFlowLow).rcd)) ∧
    (450 < s.get K.thermalCoolantInlet → due .inletHigh 10000000000 →
      Does .coolantInletHigh s (fun t => t.rcd = (s.raise0 Cause.coolantInletHigh).rcd)) ∧
    (s.time.refClock = true → Does .refClockLoss s (fun t => t.time.refClock = false)) ∧
    Does (.pllUnlock p) s (fun t => t.md.pllLock = lock ∧ (p.val < 3 → t.pair.pllBad = true)) ∧
    (m.sdm[q] = .listening → Does (.sdmClockTakeover q) s (fun t => t.md.sdm[q] = .driving ∧ ∀ z : Fin 4, z ≠ q → t.md.sdm[z] = m.sdm[z])) ∧
    (s.time.mode ≠ .invalid → s.ft % 1000000000 < 1000 → m.poweredOff = false → Does .ppsOutPulse s (fun t =>
      t.md.pins.ppsOut = true)) ∧
    Does (.boundaryScanInstruction j sv) s (fun t => t.md.pins.serviceEn = sv ∧
      (j = .bypass ∨ j = .idcode ∨ j = .samplePreload → t.md.jtag = j) ∧
      (j = .driving → t.md.jtag = if m.pins.rstLow = true ∧ sv = true then .driving else m.jtag) ∧
      (j = .debug → s.getN K.secMode = 0 → t.md.jtag = m.jtag)) ∧
    (tamper ≠ 2 → Does (.tamperDetected x) s (fun t => (x.val < 4 → t.md.pins.tamper.getLsbD x.val = true) ∧
      (x.val = 4 → t.getN K.secTamperState = 16))) ∧
    (tamper = 2 → Does (.tamperDetected x) s (fun t => t.clv.keys = Vector.replicate 4 none ∧
      t.cry.zeroised = some (x.val + 1) ∧ (s.auxAlone = false → m.mainLoss = false → resetTo t 7 Cause.zeroised))) ∧
    (ticked.now = s.now + s.untilTick ∧ (s.time.mode ≠ .invalid → (ticked.time.tb + ticked.time.e) % 1000 = 0) ∧
      ticked.md.pins.maceIn = i.maceIn ∧ ticked.md.pins.tamper = i.tamper ∧ ticked.time.refClock = i.refClock ∧
      Does (.tickBoundary i) s (fun t => t.getN K.healthSelfDiagnosis = t.diagBits ∧
        t = (if fed.md.mode.serves = true ∧ fed.md.poweredOff = false ∧ fed.md.heldInReset = false then fed.tickBody i else fed).diagnose))

/-- O56. A change of mode and ZEROISE destroy the clove keys; a failed crypto self-test is the error state; identity
and anchors are checked and kept; a nonce asks for a quote; a measurement extends its register and the log;
COMMIT raises the firmware counter and PREFER picks a VALID bank; an image header takes the one lease and
BLOCK_END releases it; keys are installed, activated and retired at their FT. Points are armed only with
SERVICE_EN high, act at their boundary, report by period and are disarmed. Where these rules leave a point open
it follows the choices of the model in log entries 64, 65, 76, 106. Its conclusions say that exec answers a next
state, with the effect, for: MODE_COMMAND, ZEROISE, SELF_TEST_RUN, SELF_TEST_PASSED, CRYPTO_SELF_TEST_FAILED,
IDENTITY_CERTIFICATE_WRITE, ANCHORS_WRITE, NONCE_WRITE, QUOTE_READY, MEASUREMENT_EXTEND, COMMIT, PREFER,
IMAGE_HEADER_ARRIVED, IMAGE_WRITE_END, CLOVE_KEY_INSTALL, KEY_ACTIVATE, KEY_RETIRE, KEY_COMMAND_ACT,
INJECTION_ONCE, INJECTION_CONTINUOUS, INJECTION_DISARM, DISARM_ALL, SERVICE_EN_LOW, INJECTION_ACT,
INJECTION_REPORT_PERIOD. (18_security_update.md, 19_detectors_injection.md, R443, R452, R454, R455, R457, R459,
R461, R464, R466, R475) -/
def Obligations.SecurityUpdatesAndStimuli : Prop :=
  ∀ (s : State) (w : HostWrite) (sess : Nat) (a : Fin 4) (h : ImageHdr) (hb body : List Byte) (sg : Bool) (parts : BitVec 5)
    (i : Fin 2816) (p : InjPoint),
    let code := injCode i
    let bankB := decide (w.num = 257)
    let target := s.getN (K.imgTarget a)
    let hd := ImageHdr.ofBytes sg hb
    let check := s.headerCheck (target / 256) (s.capacity target) hd
    let refuses := s.md.pins.serviceEn = false ∨ (securityDetector code = true ∧ s.getN K.secMode = 0) ∨
      (code = 0x0715 ∧ s.getN (K.injSubject (injIndex code)) = s.portOf sess)
    let armed : Bool → State → Prop := fun c t => saidOk s t ∧ ∃ q ∈ t.inj.points, q.code = code ∧ q.continuous = c ∧ q.acted = false ∧
      (s.getN (K.injStartFT (injIndex code)) = 0 → s.ft < q.nextAt ∧ q.nextAt % 1000 = 0)
    let gone : State → Nat → Prop := fun t src => t.clv.keys = Vector.replicate 4 none ∧ t.cry.zeroised = some src ∧
      t.md.pins.maceOut = false ∧ t.host.sessions = []
    (s.takes K.secModeCommand w → let m : Nat := if w.num = 2 then 1 else 0
      (s.getN K.secMode = m → Does (.modeCommand w) s (fun t => saidOk s t ∧ t.clv = s.clv ∧ t.objs = s.objs)) ∧
      (s.getN K.secMode ≠ m → Does (.modeCommand w) s (fun t => saidLast s t ∧ gone t 6 ∧ t.cry.nextMode = some m))) ∧
    (s.takesByte K.secZeroise sess 1 → Does (.zeroise sess) s (fun t => saidLast s t ∧ gone t 0 ∧
      (s.auxAlone = false → s.md.mainLoss = false → resetTo t 7 Cause.zeroised))) ∧
    (s.takesByte K.secSelfTestCommand sess 1 → Does (.selfTestRun sess) s (fun t => saidOk s t ∧ t.cry.testing = true ∧
      t.getN K.secSelfTestResult = 1)) ∧
    (s.cry.testing = true → Does .selfTestPassed s (fun t => t.cry.testing = false ∧ t.getN K.secSelfTestResult = 2)) ∧
    (s.md.poweredOff = false → s.cry.errorPending = false → Does .cryptoSelfTestFailed s (fun t => t.securityState = 2 ∧
      t.md.pins.maceOut = false ∧ t.host.sessions = [] ∧ t.rcd.flush.isSome = true)) ∧
    (s.takes K.secIdentityCertificate w → Does (.identityCertificateWrite w) s (fun t =>
      if Config.identityOk w.bytes ((s.cry.keys.map (·.identity)).getD 0) (s.getBytes K.anchorFabricAnchors 8192)
          (s.getN K.nodeSerial) = true then saidOk s t ∧ t.getN K.secSecurityState = 0 ∧ t.getBytes K.secIdentityCertificate 2048 = w.bytes
      else refusedWith s t Cause.valueOutOfRange ∧ t.blobs = s.blobs)) ∧
    (s.takes (K.anchorHostAnchors + a.val) w →
      (a.val ≠ 0 ∨ (∃ x ∈ w.bytes, x ≠ 0) → Does (.anchorsWrite a w) s (fun t => saidLast s t ∧
        t.getBytes (K.anchorHostAnchors + a.val) 8192 = w.bytes)) ∧
      (a.val = 0 → (∀ x ∈ w.bytes, x = 0) → Does (.anchorsWrite a w) s (fun t => refusedWith s t Cause.valueOutOfRange))) ∧
    (s.takes K.attestNonce w → Does (.nonceWrite w) s (fun t => saidOk s t ∧ (t.quoteOf w.sess).nonce = w.bytes ∧
      (t.quoteOf w.sess).asked = true ∧ (t.quoteOf w.sess).quote = none)) ∧
    ((s.quoteOf sess).asked = true → Does (.quoteReady sess) s (fun t => (t.quoteOf sess).asked = false ∧
      ∃ q, (t.quoteOf sess).quote = some q ∧ q.take (s.quoteBody (s.quoteOf sess)).length = s.quoteBody (s.quoteOf sess))) ∧
    (∀ (r : Fin 6) (kind : BitVec 8) (sub : BitVec 16) (id : BitVec 32) (ver : BitVec 16) (d : Vector Byte 32),
      Does (.measurementExtend r kind sub id ver d) s (fun t =>
        t.cry.regs[r.val]? = (s.cry.regs[r.val]?).map (fun x => Config.sha256 (x ++ d.toList)) ∧
        t.cry.extensions = s.cry.extensions + 1 ∧
        t.cry.log.length = if s.cry.log.length < 4096 then s.cry.log.length + 1 else s.cry.log.length)) ∧
    (s.takes K.updCommit w → w.num = 256 ∨ w.num = 257 → s.md.confirmed = true → s.md.running = (if bankB then .b else .a) →
      (s.md.fwCounter ≤ (s.md.bank bankB).rollback → Does (.commit w) s (fun t => saidOk s t ∧
        t.md.fwCounter = (s.md.bank bankB).rollback)) ∧
      ((s.md.bank bankB).rollback < s.md.fwCounter → Does (.commit w) s (fun t => refusedWith s t Cause.valueOutOfRange ∧
        t.md = s.md))) ∧
    (s.takes K.updPrefer w → let x := decide (w.num = 1)
      ((s.md.bank x).state = .valid → s.cry.lease = none → Does (.prefer w) s (fun t => saidOk s t ∧ t.md.preferB = x)) ∧
      ((s.md.bank x).state ≠ .valid → Does (.prefer w) s (fun t => refusedWith s t Cause.valueOutOfRange ∧ t.md = s.md))) ∧
    (s.getN (K.imgInputState a) = 1 → (s.cry.inputs[a]).hdr = none →
      (check = 0 → s.cry.lease = none → Does (.imageHeaderArrived a hb sg) s (fun t => t.cry.lease = some a ∧
        t.getN (K.imgInputState a) = 2 ∧ t.getN K.updLeaseHolder = (s.cry.inputs[a]).sess ∧ (t.cry.inputs[a]).hdr = some hd)) ∧
      (check ≠ 0 ∨ s.cry.lease.isSome = true → Does (.imageHeaderArrived a hb sg) s (fun t => t.cry.lease = s.cry.lease ∧
        t.getN (K.imgInputState a) = 4))) ∧
    (s.cry.lease = some a → (s.cry.inputs[a]).hdr = some h →
      Does (.imageWriteEnd a true parts body) s (fun t => t.cry.lease = none ∧ t.getN (K.imgInputState a) = 3) ∧
      Does (.imageWriteEnd a false parts body) s (fun t => t.cry.lease = none ∧ t.getN (K.imgInputState a) = 4)) ∧
    (s.takes (K.keyKey a) w →
      (s.keyState a = 0 → Does (.cloveKeyInstall a w) s (fun t => saidOk s t ∧ t.keyState a = 1 ∧
        t.clv.keys[a] = some w.bytes)) ∧
      (s.keyState a ≠ 0 → Does (.cloveKeyInstall a w) s (fun t => refusedWith s t Cause.busy ∧ t.clv = s.clv))) ∧
    (s.takesByte (K.keyCommand a) sess 1 → s.keyState a ≠ 0 → Does (.keyActivate a sess) s (fun t => saidOk s t ∧
      t.cry.keyCmd[a] = some 1)) ∧
    (s.takesByte (K.keyCommand a) sess 2 →
      (s.keyState a = 1 → Does (.keyRetire a sess) s (fun t => saidOk s t ∧ t.cry.keyCmd[a] = some 2)) ∧
      (s.keyState a = 2 → Does (.keyRetire a sess) s (fun t => refusedWith s t Cause.valueOutOfRange ∧ t.cry = s.cry))) ∧
    (s.getN (K.keyCommandFT a) ≤ s.ft → (∀ j : Fin 4, j ≠ a → s.cry.keyCmd[j] = none) → s.keyState a = 1 →
      (s.cry.keyCmd[a] = some 1 → Does .keyCommandAct s (fun t => t.keyState a = 2 ∧ t.clv.nextSeq = 1 ∧
        t.getN K.cloveOriginatingKeyId = a ∧ t.cry.keyCmd[a] = none)) ∧
      (s.cry.keyCmd[a] = some 2 → Does .keyCommandAct s (fun t => t.keyState a = 0 ∧ t.clv.keys[a] = none ∧
        t.cry.keyCmd[a] = none))) ∧
    (s.takesByte (K.injArm i) sess 1 →
      (refuses → Does (.injectionOnce i sess) s (fun t => refusedWith s t Cause.injectionRefused ∧ t.inj = s.inj)) ∧
      (¬ refuses → s.injArmed code = false → s.inj.points.length < 16 → Does (.injectionOnce i sess) s (armed false))) ∧
    (s.takesByte (K.injArm i) sess 2 →
      (refuses → Does (.injectionContinuous i sess) s (fun t => refusedWith s t Cause.injectionRefused ∧ t.inj = s.inj)) ∧
      (¬ refuses → s.injArmed code = false → s.inj.points.length < 16 → Does (.injectionContinuous i sess) s (armed true))) ∧
    (s.takesByte (K.injArm i) sess 0 → Does (.injectionDisarm i sess) s (fun t => saidOk s t ∧ t.injArmed code = false)) ∧
    (s.takesByte K.injCtlDisarmAll sess 1 → Does (.disarmAll sess) s (fun t => saidOk s t ∧ t.inj.points = [])) ∧
    (s.md.pins.serviceEn = false → Does .serviceEnLow s (fun t => t.inj.points = [])) ∧
    (s.md.pins.serviceEn = true → s.inj.points = [p] → p.nextAt ≤ s.ft → Dict.stimulus.contains p.code = false →
      (p.acted = false → Does .injectionAct s (fun t => counts s t (K.injInjections (injIndex p.code)) 1 ∧
        t.inj.seq = s.inj.seq + 1 ∧ (∃ e l, t.inj.log = e :: l ∧ e.code = p.code ∧ e.seq = s.inj.seq + 1 ∧ e.ft = s.ft) ∧
        (p.continuous = false → t.inj.points = []))) ∧
      (p.acted = true → Does .injectionReportPeriod s (fun t => counts s t (K.injInjections (injIndex p.code)) 1 ∧
        ∃ q, t.inj.points = [q] ∧ q.nextAt = p.nextAt + s.getN (K.injPeriod (injIndex p.code)) * 1000)))

/-- O57. Every request that only reads, every subscription, push and telemetry sample, every use of the queues, of
the recorder and of the health and checkpoint exchange, and every supply and coolant reading answers a next
state in which engines, converters, cell chain, estimate, rack budget, loops, legacy table, cloves, fabric time,
links and keys are as they were: the frame of these commands, in every state and for every operand. A whole
checkpoint that arrives changes of them only the states of the dither generators (R114). Its conclusions say
that exec answers a next state, with the effect, for: CHECKPOINT. (14_host_dictionary.md, 15_message_queues.md,
16_event_recorder.md, 17_active_standby.md, 02_package_pins_power.md) -/
def Obligations.ObservingLeavesThePowerControlAlone : Prop :=
  (∀ (i : Instr) (s : State), observes i = true → Does i s (SameControl s)) ∧
    ∀ (s : State) (c : Checkpoint) (crcOk : Bool) (size : BitVec 32), Does (.checkpoint (some c) crcOk size) s (fun t =>
      SameControl { s with pow := t.pow } t ∧ t.pow.phases = s.pow.phases ∧ t.pow.chans = s.pow.chans ∧
      ∀ x, ∃ d, t.conv x = { s.conv x with dither := d })

/-- O58. For every command c and state s: with c at the front of the queue, a step is exec of c on the state with
the rest of the queue; with an empty queue a step leaves the state as it is, which is the model's choice of
notes/assumptions/1. (01_shelf_and_module.md, 95_what_each_step_holds.md) -/
def Obligations.AStepRunsTheFrontCommand : Prop :=
  ∀ (c : Instr) (s : State) (rest : List Instr),
    (s.pending = c :: rest → step s = exec c { s with pending := rest }) ∧ (s.pending = [] → step s = .next s)

/-- O59. State.reset meets the invariant of the stores; the module stands in the ROM with MACE_OUT and OK_OUT low,
fabric time is invalid and reads 0, no command, session, queue item, scheduled clove, armed point or record is
there, no core runs, the unicast table in force holds no entry, and objects read the defaults their tables give.
(03_start_up_reset_recovery.md, 04_fabric_time_and_cloves.md, 13_renxel_fabric.md, 15_message_queues.md,
16_event_recorder.md, R59, R72, R84) -/
def Obligations.ResetLeavesTheModuleInTheRom : Prop :=
  State.reset.sane ∧ State.reset.pending = [] ∧ State.reset.md.mode = .rom ∧ State.reset.md.pins.maceOut = false ∧
    State.reset.md.pins.okOut = false ∧ State.reset.time.mode = .invalid ∧ State.reset.ft = 0 ∧ State.reset.host.sessions = [] ∧
    State.reset.que.queues = [] ∧ State.reset.clv.schedule = [] ∧ State.reset.inj.points = [] ∧ State.reset.rcd.ring = [] ∧
    (∀ n : Fin 4, (State.reset.core n).state = .stopped) ∧
    State.reset.getBytes K.routeUnicastTableInForce 2048 = List.replicate 2048 255 ∧
    State.reset.get K.recRepeatWindow = 1000 ∧ State.reset.get K.loopOverdrawHold = 100

/-- O60. From every state a step answers a next state, never a fault or a refusal. It takes exactly the front
command from the queue; what has been sent stays sent; no free value is used twice; and when the stores are
sound (objects in canonical form, byte objects at rising keys, staging at most 64, the ring at most 16,384 and
the MRAM region at most 131,072 records) they are sound afterwards. (01_shelf_and_module.md,
14_host_dictionary.md, 16_event_recorder.md, R382, R413, R415, R417) -/
def Obligations.EveryStepCompletesAndKeepsTheStoresSound : Prop :=
  ∀ s : State, ∃ t, step s = .next t ∧ t.pending = s.pending.tail ∧ s.outbox <:+ t.outbox ∧ s.freeCtr ≤ t.freeCtr ∧
    (s.sane → t.sane)
end

