-- ==== Sys2Proof/Laws/Sparse.lean ====
section
/-! SUPPORT. The object stores keep their canonical form: addresses strictly rising, no entry equal to its default. -/

namespace Sys2Proof.Machine
theorem Sparse.sorted_iff (m : Sparse) : Sparse.sorted m = true ↔ m.Pairwise (fun x y => x.1 < y.1) := by
  induction m with
  | nil => simp [Sparse.sorted]
  | cons e rest ih =>
    cases rest with
    | nil => simp [Sparse.sorted]
    | cons f r =>
      obtain ⟨a, u⟩ := e
      obtain ⟨b, v⟩ := f
      simp only [Sparse.sorted, Bool.and_eq_true, decide_eq_true_eq, ih, List.pairwise_cons, List.mem_cons]
      constructor
      · rintro ⟨h, h2, h3⟩
        refine ⟨?_, h2, h3⟩
        rintro x (rfl | hx)
        · exact h
        · exact Nat.lt_trans h (h2 x hx)
      · rintro ⟨h, h2, h3⟩
        exact ⟨h _ (Or.inl rfl), h2, h3⟩

theorem Sparse.wf_iff (d : Nat → Int) (m : Sparse) :
    Sparse.wf d m = true ↔ m.Pairwise (fun x y => x.1 < y.1) ∧ ∀ e ∈ m, e.2 ≠ d e.1 := by
  simp [Sparse.wf, Sparse.sorted_iff]

theorem Sparse.mem_erase {m : Sparse} {k : Nat} {e : Nat × Int} (h : e ∈ Sparse.erase m k) : e ∈ m := by
  induction m with
  | nil => simp [Sparse.erase] at h
  | cons x rest ih =>
    obtain ⟨a, v⟩ := x
    simp only [Sparse.erase] at h
    split at h
    · exact List.mem_cons_of_mem _ (ih h)
    · rcases List.mem_cons.1 h with h | h
      · exact h ▸ List.mem_cons_self
      · exact List.mem_cons_of_mem _ (ih h)

theorem Sparse.mem_insert {m : Sparse} {k : Nat} {v : Int} {e : Nat × Int} (h : e ∈ Sparse.insert m k v) :
    e = (k, v) ∨ e ∈ m := by
  induction m with
  | nil => simpa [Sparse.insert] using h
  | cons x rest ih =>
    obtain ⟨a, w⟩ := x
    simp only [Sparse.insert] at h
    split at h
    · simpa using h
    · split at h
      · rcases List.mem_cons.1 h with h | h
        · exact Or.inl h
        · exact Or.inr (List.mem_cons_of_mem _ h)
      · rcases List.mem_cons.1 h with h | h
        · exact Or.inr (h ▸ List.mem_cons_self)
        · rcases ih h with h | h
          · exact Or.inl h
          · exact Or.inr (List.mem_cons_of_mem _ h)

theorem Sparse.erase_rising {m : Sparse} (k : Nat) (h : m.Pairwise (fun x y => x.1 < y.1)) :
    (Sparse.erase m k).Pairwise (fun x y => x.1 < y.1) := by
  induction m with
  | nil => exact h
  | cons x rest ih =>
    obtain ⟨a, v⟩ := x
    simp only [Sparse.erase]
    rw [List.pairwise_cons] at h
    split
    · exact ih h.2
    · exact List.pairwise_cons.2 ⟨fun e he => h.1 e (Sparse.mem_erase he), ih h.2⟩

theorem Sparse.insert_rising {m : Sparse} (k : Nat) (v : Int) (h : m.Pairwise (fun x y => x.1 < y.1)) :
    (Sparse.insert m k v).Pairwise (fun x y => x.1 < y.1) := by
  induction m with
  | nil => simp [Sparse.insert]
  | cons x rest ih =>
    obtain ⟨a, w⟩ := x
    simp only [Sparse.insert]
    rw [List.pairwise_cons] at h
    split
    · rename_i hk
      refine List.pairwise_cons.2 ⟨?_, List.pairwise_cons.2 h⟩
      intro e he
      rcases List.mem_cons.1 he with rfl | he
      · exact hk
      · exact Nat.lt_trans hk (h.1 e he)
    · split
      · rename_i hk
        subst hk
        exact List.pairwise_cons.2 h
      · refine List.pairwise_cons.2 ⟨?_, ih h.2⟩
        intro e he
        rcases Sparse.mem_insert he with rfl | he
        · simp only; omega
        · exact h.1 e he

theorem Sparse.put_wf (d : Nat → Int) (m : Sparse) (k : Nat) (v : Int) (h : Sparse.wf d m = true) :
    Sparse.wf d (Sparse.put d m k v) = true := by
  rw [Sparse.wf_iff] at *
  unfold Sparse.put
  split
  · exact ⟨Sparse.erase_rising k h.1, fun e he => h.2 e (Sparse.mem_erase he)⟩
  · refine ⟨Sparse.insert_rising k v h.1, fun e he => ?_⟩
    rcases Sparse.mem_insert he with rfl | he
    · assumption
    · exact h.2 e he

theorem Sparse.filter_wf (d : Nat → Int) (m : Sparse) (p : Nat × Int → Bool) (h : Sparse.wf d m = true) :
    Sparse.wf d (m.filter p) = true := by
  rw [Sparse.wf_iff] at *
  exact ⟨h.1.filter p, fun e he => h.2 e (List.mem_filter.1 he).1⟩

theorem rising_iff (m : List (Nat × List Byte)) : rising m = true ↔ m.Pairwise (fun x y => x.1 < y.1) := by
  induction m with
  | nil => simp [rising]
  | cons e rest ih =>
    cases rest with
    | nil => simp [rising]
    | cons f r =>
      obtain ⟨a, u⟩ := e
      obtain ⟨b, v⟩ := f
      simp only [rising, Bool.and_eq_true, decide_eq_true_eq, ih, List.pairwise_cons, List.mem_cons]
      constructor
      · rintro ⟨h, h2, h3⟩
        refine ⟨?_, h2, h3⟩
        rintro x (rfl | hx)
        · exact h
        · exact Nat.lt_trans h (h2 x hx)
      · rintro ⟨h, h2, h3⟩
        exact ⟨h _ (Or.inl rfl), h2, h3⟩

theorem mem_insertBytes {m : List (Nat × List Byte)} {k : Nat} {v : List Byte} {e : Nat × List Byte}
    (h : e ∈ insertBytes m k v) : e = (k, v) ∨ e ∈ m := by
  induction m with
  | nil => simpa [insertBytes] using h
  | cons x rest ih =>
    obtain ⟨a, w⟩ := x
    simp only [insertBytes] at h
    split at h
    · simpa using h
    · split at h
      · rcases List.mem_cons.1 h with h | h
        · exact Or.inl h
        · exact Or.inr (List.mem_cons_of_mem _ h)
      · rcases List.mem_cons.1 h with h | h
        · exact Or.inr (h ▸ List.mem_cons_self)
        · rcases ih h with h | h
          · exact Or.inl h
          · exact Or.inr (List.mem_cons_of_mem _ h)

theorem insertBytes_rising (m : List (Nat × List Byte)) (k : Nat) (v : List Byte) (h : rising m = true) :
    rising (insertBytes m k v) = true := by
  rw [rising_iff] at *
  induction m with
  | nil => simp [insertBytes]
  | cons x rest ih =>
    obtain ⟨a, w⟩ := x
    simp only [insertBytes]
    rw [List.pairwise_cons] at h
    split
    · rename_i hk
      refine List.pairwise_cons.2 ⟨?_, List.pairwise_cons.2 h⟩
      intro e he
      rcases List.mem_cons.1 he with rfl | he
      · exact hk
      · exact Nat.lt_trans hk (h.1 e he)
    · split
      · rename_i hk
        subst hk
        exact List.pairwise_cons.2 h
      · refine List.pairwise_cons.2 ⟨?_, ih h.2⟩
        intro e he
        rcases mem_insertBytes he with rfl | he
        · simp only; omega
        · exact h.1 e he

theorem filter_rising (m : List (Nat × List Byte)) (p : Nat × List Byte → Bool) (h : rising m = true) :
    rising (m.filter p) = true := by
  rw [rising_iff] at *
  exact h.filter p

theorem mapLast_length {α : Type} (f : α → α) (l : List α) : (mapLast f l).length = l.length := by
  induction l with
  | nil => rfl
  | cons x rest ih =>
    cases rest with
    | nil => rfl
    | cons y r => simp only [mapLast, List.length_cons, ih]


end Sys2Proof.Machine
end

