-- ==== Sys2Proof/Laws/State.lean ====
section
/-! SUPPORT. What each update of State changes, field by field. -/

namespace Sys2Proof.Machine

@[simp] theorem State.put_objs (k : Nat) (v : Int) (s : State) : (s.put k v).objs = s.objs.put Dict.default k v := rfl
@[simp] theorem State.put_blobs (k : Nat) (v : Int) (s : State) : (s.put k v).blobs = s.blobs := rfl
@[simp] theorem State.put_rcd (k : Nat) (v : Int) (s : State) : (s.put k v).rcd = s.rcd := rfl
@[simp] theorem State.put_host (k : Nat) (v : Int) (s : State) : (s.put k v).host = s.host := rfl
@[simp] theorem State.put_que (k : Nat) (v : Int) (s : State) : (s.put k v).que = s.que := rfl
@[simp] theorem State.put_md (k : Nat) (v : Int) (s : State) : (s.put k v).md = s.md := rfl
@[simp] theorem State.put_time (k : Nat) (v : Int) (s : State) : (s.put k v).time = s.time := rfl
@[simp] theorem State.put_clv (k : Nat) (v : Int) (s : State) : (s.put k v).clv = s.clv := rfl
@[simp] theorem State.put_pow (k : Nat) (v : Int) (s : State) : (s.put k v).pow = s.pow := rfl
@[simp] theorem State.put_card (k : Nat) (v : Int) (s : State) : (s.put k v).card = s.card := rfl
@[simp] theorem State.put_lp (k : Nat) (v : Int) (s : State) : (s.put k v).lp = s.lp := rfl
@[simp] theorem State.put_fab (k : Nat) (v : Int) (s : State) : (s.put k v).fab = s.fab := rfl
@[simp] theorem State.put_pair (k : Nat) (v : Int) (s : State) : (s.put k v).pair = s.pair := rfl
@[simp] theorem State.put_cry (k : Nat) (v : Int) (s : State) : (s.put k v).cry = s.cry := rfl
@[simp] theorem State.put_inj (k : Nat) (v : Int) (s : State) : (s.put k v).inj = s.inj := rfl
@[simp] theorem State.put_chn (k : Nat) (v : Int) (s : State) : (s.put k v).chn = s.chn := rfl
@[simp] theorem State.put_soc (k : Nat) (v : Int) (s : State) : (s.put k v).soc = s.soc := rfl
@[simp] theorem State.put_saf (k : Nat) (v : Int) (s : State) : (s.put k v).saf = s.saf := rfl
@[simp] theorem State.put_rack (k : Nat) (v : Int) (s : State) : (s.put k v).rack = s.rack := rfl
@[simp] theorem State.put_leg (k : Nat) (v : Int) (s : State) : (s.put k v).leg = s.leg := rfl
@[simp] theorem State.put_freeCtr (k : Nat) (v : Int) (s : State) : (s.put k v).freeCtr = s.freeCtr := rfl
@[simp] theorem State.put_outbox (k : Nat) (v : Int) (s : State) : (s.put k v).outbox = s.outbox := rfl
@[simp] theorem State.put_pending (k : Nat) (v : Int) (s : State) : (s.put k v).pending = s.pending := rfl
@[simp] theorem State.putB_blobs (k : Nat) (b : Bool) (s : State) : (s.putB k b).blobs = s.blobs := rfl
@[simp] theorem State.putB_rcd (k : Nat) (b : Bool) (s : State) : (s.putB k b).rcd = s.rcd := rfl
@[simp] theorem State.putB_host (k : Nat) (b : Bool) (s : State) : (s.putB k b).host = s.host := rfl
@[simp] theorem State.putB_que (k : Nat) (b : Bool) (s : State) : (s.putB k b).que = s.que := rfl
@[simp] theorem State.putB_md (k : Nat) (b : Bool) (s : State) : (s.putB k b).md = s.md := rfl
@[simp] theorem State.putB_time (k : Nat) (b : Bool) (s : State) : (s.putB k b).time = s.time := rfl
@[simp] theorem State.putB_clv (k : Nat) (b : Bool) (s : State) : (s.putB k b).clv = s.clv := rfl
@[simp] theorem State.putB_pow (k : Nat) (b : Bool) (s : State) : (s.putB k b).pow = s.pow := rfl
@[simp] theorem State.putB_card (k : Nat) (b : Bool) (s : State) : (s.putB k b).card = s.card := rfl
@[simp] theorem State.putB_lp (k : Nat) (b : Bool) (s : State) : (s.putB k b).lp = s.lp := rfl
@[simp] theorem State.putB_fab (k : Nat) (b : Bool) (s : State) : (s.putB k b).fab = s.fab := rfl
@[simp] theorem State.putB_pair (k : Nat) (b : Bool) (s : State) : (s.putB k b).pair = s.pair := rfl
@[simp] theorem State.putB_cry (k : Nat) (b : Bool) (s : State) : (s.putB k b).cry = s.cry := rfl
@[simp] theorem State.putB_inj (k : Nat) (b : Bool) (s : State) : (s.putB k b).inj = s.inj := rfl
@[simp] theorem State.putB_chn (k : Nat) (b : Bool) (s : State) : (s.putB k b).chn = s.chn := rfl
@[simp] theorem State.putB_soc (k : Nat) (b : Bool) (s : State) : (s.putB k b).soc = s.soc := rfl
@[simp] theorem State.putB_saf (k : Nat) (b : Bool) (s : State) : (s.putB k b).saf = s.saf := rfl
@[simp] theorem State.putB_rack (k : Nat) (b : Bool) (s : State) : (s.putB k b).rack = s.rack := rfl
@[simp] theorem State.putB_leg (k : Nat) (b : Bool) (s : State) : (s.putB k b).leg = s.leg := rfl
@[simp] theorem State.putB_freeCtr (k : Nat) (b : Bool) (s : State) : (s.putB k b).freeCtr = s.freeCtr := rfl
@[simp] theorem State.putB_outbox (k : Nat) (b : Bool) (s : State) : (s.putB k b).outbox = s.outbox := rfl
@[simp] theorem State.putB_pending (k : Nat) (b : Bool) (s : State) : (s.putB k b).pending = s.pending := rfl
@[simp] theorem State.putBytes_objs (k : Nat) (v : List Byte) (s : State) : (s.putBytes k v).objs = s.objs := rfl
@[simp] theorem State.putBytes_blobs (k : Nat) (v : List Byte) (s : State) : (s.putBytes k v).blobs = insertBytes s.blobs k v := rfl
@[simp] theorem State.putBytes_rcd (k : Nat) (v : List Byte) (s : State) : (s.putBytes k v).rcd = s.rcd := rfl
@[simp] theorem State.putBytes_host (k : Nat) (v : List Byte) (s : State) : (s.putBytes k v).host = s.host := rfl
@[simp] theorem State.putBytes_que (k : Nat) (v : List Byte) (s : State) : (s.putBytes k v).que = s.que := rfl
@[simp] theorem State.putBytes_md (k : Nat) (v : List Byte) (s : State) : (s.putBytes k v).md = s.md := rfl
@[simp] theorem State.putBytes_time (k : Nat) (v : List Byte) (s : State) : (s.putBytes k v).time = s.time := rfl
@[simp] theorem State.putBytes_clv (k : Nat) (v : List Byte) (s : State) : (s.putBytes k v).clv = s.clv := rfl
@[simp] theorem State.putBytes_pow (k : Nat) (v : List Byte) (s : State) : (s.putBytes k v).pow = s.pow := rfl
@[simp] theorem State.putBytes_card (k : Nat) (v : List Byte) (s : State) : (s.putBytes k v).card = s.card := rfl
@[simp] theorem State.putBytes_lp (k : Nat) (v : List Byte) (s : State) : (s.putBytes k v).lp = s.lp := rfl
@[simp] theorem State.putBytes_fab (k : Nat) (v : List Byte) (s : State) : (s.putBytes k v).fab = s.fab := rfl
@[simp] theorem State.putBytes_pair (k : Nat) (v : List Byte) (s : State) : (s.putBytes k v).pair = s.pair := rfl
@[simp] theorem State.putBytes_cry (k : Nat) (v : List Byte) (s : State) : (s.putBytes k v).cry = s.cry := rfl
@[simp] theorem State.putBytes_inj (k : Nat) (v : List Byte) (s : State) : (s.putBytes k v).inj = s.inj := rfl
@[simp] theorem State.putBytes_chn (k : Nat) (v : List Byte) (s : State) : (s.putBytes k v).chn = s.chn := rfl
@[simp] theorem State.putBytes_soc (k : Nat) (v : List Byte) (s : State) : (s.putBytes k v).soc = s.soc := rfl
@[simp] theorem State.putBytes_saf (k : Nat) (v : List Byte) (s : State) : (s.putBytes k v).saf = s.saf := rfl
@[simp] theorem State.putBytes_rack (k : Nat) (v : List Byte) (s : State) : (s.putBytes k v).rack = s.rack := rfl
@[simp] theorem State.putBytes_leg (k : Nat) (v : List Byte) (s : State) : (s.putBytes k v).leg = s.leg := rfl
@[simp] theorem State.putBytes_freeCtr (k : Nat) (v : List Byte) (s : State) : (s.putBytes k v).freeCtr = s.freeCtr := rfl
@[simp] theorem State.putBytes_outbox (k : Nat) (v : List Byte) (s : State) : (s.putBytes k v).outbox = s.outbox := rfl
@[simp] theorem State.putBytes_pending (k : Nat) (v : List Byte) (s : State) : (s.putBytes k v).pending = s.pending := rfl
@[simp] theorem State.useFree_objs (s : State) : (s.useFree ).objs = s.objs := rfl
@[simp] theorem State.useFree_blobs (s : State) : (s.useFree ).blobs = s.blobs := rfl
@[simp] theorem State.useFree_rcd (s : State) : (s.useFree ).rcd = s.rcd := rfl
@[simp] theorem State.useFree_host (s : State) : (s.useFree ).host = s.host := rfl
@[simp] theorem State.useFree_que (s : State) : (s.useFree ).que = s.que := rfl
@[simp] theorem State.useFree_md (s : State) : (s.useFree ).md = s.md := rfl
@[simp] theorem State.useFree_time (s : State) : (s.useFree ).time = s.time := rfl
@[simp] theorem State.useFree_clv (s : State) : (s.useFree ).clv = s.clv := rfl
@[simp] theorem State.useFree_pow (s : State) : (s.useFree ).pow = s.pow := rfl
@[simp] theorem State.useFree_card (s : State) : (s.useFree ).card = s.card := rfl
@[simp] theorem State.useFree_lp (s : State) : (s.useFree ).lp = s.lp := rfl
@[simp] theorem State.useFree_fab (s : State) : (s.useFree ).fab = s.fab := rfl
@[simp] theorem State.useFree_pair (s : State) : (s.useFree ).pair = s.pair := rfl
@[simp] theorem State.useFree_cry (s : State) : (s.useFree ).cry = s.cry := rfl
@[simp] theorem State.useFree_inj (s : State) : (s.useFree ).inj = s.inj := rfl
@[simp] theorem State.useFree_chn (s : State) : (s.useFree ).chn = s.chn := rfl
@[simp] theorem State.useFree_soc (s : State) : (s.useFree ).soc = s.soc := rfl
@[simp] theorem State.useFree_saf (s : State) : (s.useFree ).saf = s.saf := rfl
@[simp] theorem State.useFree_rack (s : State) : (s.useFree ).rack = s.rack := rfl
@[simp] theorem State.useFree_leg (s : State) : (s.useFree ).leg = s.leg := rfl
@[simp] theorem State.useFree_freeCtr (s : State) : (s.useFree ).freeCtr = s.freeCtr + 1 := rfl
@[simp] theorem State.useFree_outbox (s : State) : (s.useFree ).outbox = s.outbox := rfl
@[simp] theorem State.useFree_pending (s : State) : (s.useFree ).pending = s.pending := rfl
@[simp] theorem State.send_objs (m : OutMsg) (s : State) : (s.send m).objs = s.objs := rfl
@[simp] theorem State.send_blobs (m : OutMsg) (s : State) : (s.send m).blobs = s.blobs := rfl
@[simp] theorem State.send_rcd (m : OutMsg) (s : State) : (s.send m).rcd = s.rcd := rfl
@[simp] theorem State.send_host (m : OutMsg) (s : State) : (s.send m).host = s.host := rfl
@[simp] theorem State.send_que (m : OutMsg) (s : State) : (s.send m).que = s.que := rfl
@[simp] theorem State.send_md (m : OutMsg) (s : State) : (s.send m).md = s.md := rfl
@[simp] theorem State.send_time (m : OutMsg) (s : State) : (s.send m).time = s.time := rfl
@[simp] theorem State.send_clv (m : OutMsg) (s : State) : (s.send m).clv = s.clv := rfl
@[simp] theorem State.send_pow (m : OutMsg) (s : State) : (s.send m).pow = s.pow := rfl
@[simp] theorem State.send_card (m : OutMsg) (s : State) : (s.send m).card = s.card := rfl
@[simp] theorem State.send_lp (m : OutMsg) (s : State) : (s.send m).lp = s.lp := rfl
@[simp] theorem State.send_fab (m : OutMsg) (s : State) : (s.send m).fab = s.fab := rfl
@[simp] theorem State.send_pair (m : OutMsg) (s : State) : (s.send m).pair = s.pair := rfl
@[simp] theorem State.send_cry (m : OutMsg) (s : State) : (s.send m).cry = s.cry := rfl
@[simp] theorem State.send_inj (m : OutMsg) (s : State) : (s.send m).inj = s.inj := rfl
@[simp] theorem State.send_chn (m : OutMsg) (s : State) : (s.send m).chn = s.chn := rfl
@[simp] theorem State.send_soc (m : OutMsg) (s : State) : (s.send m).soc = s.soc := rfl
@[simp] theorem State.send_saf (m : OutMsg) (s : State) : (s.send m).saf = s.saf := rfl
@[simp] theorem State.send_rack (m : OutMsg) (s : State) : (s.send m).rack = s.rack := rfl
@[simp] theorem State.send_leg (m : OutMsg) (s : State) : (s.send m).leg = s.leg := rfl
@[simp] theorem State.send_freeCtr (m : OutMsg) (s : State) : (s.send m).freeCtr = s.freeCtr := rfl
@[simp] theorem State.send_outbox (m : OutMsg) (s : State) : (s.send m).outbox = m :: s.outbox := rfl
@[simp] theorem State.send_pending (m : OutMsg) (s : State) : (s.send m).pending = s.pending := rfl
@[simp] theorem State.modRcd_objs (f : RecState → RecState) (s : State) : (s.modRcd f).objs = s.objs := rfl
@[simp] theorem State.modRcd_blobs (f : RecState → RecState) (s : State) : (s.modRcd f).blobs = s.blobs := rfl
@[simp] theorem State.modRcd_rcd (f : RecState → RecState) (s : State) : (s.modRcd f).rcd = f s.rcd := rfl
@[simp] theorem State.modRcd_host (f : RecState → RecState) (s : State) : (s.modRcd f).host = s.host := rfl
@[simp] theorem State.modRcd_que (f : RecState → RecState) (s : State) : (s.modRcd f).que = s.que := rfl
@[simp] theorem State.modRcd_md (f : RecState → RecState) (s : State) : (s.modRcd f).md = s.md := rfl
@[simp] theorem State.modRcd_time (f : RecState → RecState) (s : State) : (s.modRcd f).time = s.time := rfl
@[simp] theorem State.modRcd_clv (f : RecState → RecState) (s : State) : (s.modRcd f).clv = s.clv := rfl
@[simp] theorem State.modRcd_pow (f : RecState → RecState) (s : State) : (s.modRcd f).pow = s.pow := rfl
@[simp] theorem State.modRcd_card (f : RecState → RecState) (s : State) : (s.modRcd f).card = s.card := rfl
@[simp] theorem State.modRcd_lp (f : RecState → RecState) (s : State) : (s.modRcd f).lp = s.lp := rfl
@[simp] theorem State.modRcd_fab (f : RecState → RecState) (s : State) : (s.modRcd f).fab = s.fab := rfl
@[simp] theorem State.modRcd_pair (f : RecState → RecState) (s : State) : (s.modRcd f).pair = s.pair := rfl
@[simp] theorem State.modRcd_cry (f : RecState → RecState) (s : State) : (s.modRcd f).cry = s.cry := rfl
@[simp] theorem State.modRcd_inj (f : RecState → RecState) (s : State) : (s.modRcd f).inj = s.inj := rfl
@[simp] theorem State.modRcd_chn (f : RecState → RecState) (s : State) : (s.modRcd f).chn = s.chn := rfl
@[simp] theorem State.modRcd_soc (f : RecState → RecState) (s : State) : (s.modRcd f).soc = s.soc := rfl
@[simp] theorem State.modRcd_saf (f : RecState → RecState) (s : State) : (s.modRcd f).saf = s.saf := rfl
@[simp] theorem State.modRcd_rack (f : RecState → RecState) (s : State) : (s.modRcd f).rack = s.rack := rfl
@[simp] theorem State.modRcd_leg (f : RecState → RecState) (s : State) : (s.modRcd f).leg = s.leg := rfl
@[simp] theorem State.modRcd_freeCtr (f : RecState → RecState) (s : State) : (s.modRcd f).freeCtr = s.freeCtr := rfl
@[simp] theorem State.modRcd_outbox (f : RecState → RecState) (s : State) : (s.modRcd f).outbox = s.outbox := rfl
@[simp] theorem State.modRcd_pending (f : RecState → RecState) (s : State) : (s.modRcd f).pending = s.pending := rfl
@[simp] theorem State.modHost_objs (f : HostState → HostState) (s : State) : (s.modHost f).objs = s.objs := rfl
@[simp] theorem State.modHost_blobs (f : HostState → HostState) (s : State) : (s.modHost f).blobs = s.blobs := rfl
@[simp] theorem State.modHost_rcd (f : HostState → HostState) (s : State) : (s.modHost f).rcd = s.rcd := rfl
@[simp] theorem State.modHost_host (f : HostState → HostState) (s : State) : (s.modHost f).host = f s.host := rfl
@[simp] theorem State.modHost_que (f : HostState → HostState) (s : State) : (s.modHost f).que = s.que := rfl
@[simp] theorem State.modHost_md (f : HostState → HostState) (s : State) : (s.modHost f).md = s.md := rfl
@[simp] theorem State.modHost_time (f : HostState → HostState) (s : State) : (s.modHost f).time = s.time := rfl
@[simp] theorem State.modHost_clv (f : HostState → HostState) (s : State) : (s.modHost f).clv = s.clv := rfl
@[simp] theorem State.modHost_pow (f : HostState → HostState) (s : State) : (s.modHost f).pow = s.pow := rfl
@[simp] theorem State.modHost_card (f : HostState → HostState) (s : State) : (s.modHost f).card = s.card := rfl
@[simp] theorem State.modHost_lp (f : HostState → HostState) (s : State) : (s.modHost f).lp = s.lp := rfl
@[simp] theorem State.modHost_fab (f : HostState → HostState) (s : State) : (s.modHost f).fab = s.fab := rfl
@[simp] theorem State.modHost_pair (f : HostState → HostState) (s : State) : (s.modHost f).pair = s.pair := rfl
@[simp] theorem State.modHost_cry (f : HostState → HostState) (s : State) : (s.modHost f).cry = s.cry := rfl
@[simp] theorem State.modHost_inj (f : HostState → HostState) (s : State) : (s.modHost f).inj = s.inj := rfl
@[simp] theorem State.modHost_chn (f : HostState → HostState) (s : State) : (s.modHost f).chn = s.chn := rfl
@[simp] theorem State.modHost_soc (f : HostState → HostState) (s : State) : (s.modHost f).soc = s.soc := rfl
@[simp] theorem State.modHost_saf (f : HostState → HostState) (s : State) : (s.modHost f).saf = s.saf := rfl
@[simp] theorem State.modHost_rack (f : HostState → HostState) (s : State) : (s.modHost f).rack = s.rack := rfl
@[simp] theorem State.modHost_leg (f : HostState → HostState) (s : State) : (s.modHost f).leg = s.leg := rfl
@[simp] theorem State.modHost_freeCtr (f : HostState → HostState) (s : State) : (s.modHost f).freeCtr = s.freeCtr := rfl
@[simp] theorem State.modHost_outbox (f : HostState → HostState) (s : State) : (s.modHost f).outbox = s.outbox := rfl
@[simp] theorem State.modHost_pending (f : HostState → HostState) (s : State) : (s.modHost f).pending = s.pending := rfl
@[simp] theorem State.modMd_objs (f : ModState → ModState) (s : State) : (s.modMd f).objs = s.objs := rfl
@[simp] theorem State.modMd_blobs (f : ModState → ModState) (s : State) : (s.modMd f).blobs = s.blobs := rfl
@[simp] theorem State.modMd_rcd (f : ModState → ModState) (s : State) : (s.modMd f).rcd = s.rcd := rfl
@[simp] theorem State.modMd_host (f : ModState → ModState) (s : State) : (s.modMd f).host = s.host := rfl
@[simp] theorem State.modMd_que (f : ModState → ModState) (s : State) : (s.modMd f).que = s.que := rfl
@[simp] theorem State.modMd_md (f : ModState → ModState) (s : State) : (s.modMd f).md = f s.md := rfl
@[simp] theorem State.modMd_time (f : ModState → ModState) (s : State) : (s.modMd f).time = s.time := rfl
@[simp] theorem State.modMd_clv (f : ModState → ModState) (s : State) : (s.modMd f).clv = s.clv := rfl
@[simp] theorem State.modMd_pow (f : ModState → ModState) (s : State) : (s.modMd f).pow = s.pow := rfl
@[simp] theorem State.modMd_card (f : ModState → ModState) (s : State) : (s.modMd f).card = s.card := rfl
@[simp] theorem State.modMd_lp (f : ModState → ModState) (s : State) : (s.modMd f).lp = s.lp := rfl
@[simp] theorem State.modMd_fab (f : ModState → ModState) (s : State) : (s.modMd f).fab = s.fab := rfl
@[simp] theorem State.modMd_pair (f : ModState → ModState) (s : State) : (s.modMd f).pair = s.pair := rfl
@[simp] theorem State.modMd_cry (f : ModState → ModState) (s : State) : (s.modMd f).cry = s.cry := rfl
@[simp] theorem State.modMd_inj (f : ModState → ModState) (s : State) : (s.modMd f).inj = s.inj := rfl
@[simp] theorem State.modMd_chn (f : ModState → ModState) (s : State) : (s.modMd f).chn = s.chn := rfl
@[simp] theorem State.modMd_soc (f : ModState → ModState) (s : State) : (s.modMd f).soc = s.soc := rfl
@[simp] theorem State.modMd_saf (f : ModState → ModState) (s : State) : (s.modMd f).saf = s.saf := rfl
@[simp] theorem State.modMd_rack (f : ModState → ModState) (s : State) : (s.modMd f).rack = s.rack := rfl
@[simp] theorem State.modMd_leg (f : ModState → ModState) (s : State) : (s.modMd f).leg = s.leg := rfl
@[simp] theorem State.modMd_freeCtr (f : ModState → ModState) (s : State) : (s.modMd f).freeCtr = s.freeCtr := rfl
@[simp] theorem State.modMd_outbox (f : ModState → ModState) (s : State) : (s.modMd f).outbox = s.outbox := rfl
@[simp] theorem State.modMd_pending (f : ModState → ModState) (s : State) : (s.modMd f).pending = s.pending := rfl
@[simp] theorem State.modTime_objs (f : TimeSt → TimeSt) (s : State) : (s.modTime f).objs = s.objs := rfl
@[simp] theorem State.modTime_blobs (f : TimeSt → TimeSt) (s : State) : (s.modTime f).blobs = s.blobs := rfl
@[simp] theorem State.modTime_rcd (f : TimeSt → TimeSt) (s : State) : (s.modTime f).rcd = s.rcd := rfl
@[simp] theorem State.modTime_host (f : TimeSt → TimeSt) (s : State) : (s.modTime f).host = s.host := rfl
@[simp] theorem State.modTime_que (f : TimeSt → TimeSt) (s : State) : (s.modTime f).que = s.que := rfl
@[simp] theorem State.modTime_md (f : TimeSt → TimeSt) (s : State) : (s.modTime f).md = s.md := rfl
@[simp] theorem State.modTime_time (f : TimeSt → TimeSt) (s : State) : (s.modTime f).time = f s.time := rfl
@[simp] theorem State.modTime_clv (f : TimeSt → TimeSt) (s : State) : (s.modTime f).clv = s.clv := rfl
@[simp] theorem State.modTime_pow (f : TimeSt → TimeSt) (s : State) : (s.modTime f).pow = s.pow := rfl
@[simp] theorem State.modTime_card (f : TimeSt → TimeSt) (s : State) : (s.modTime f).card = s.card := rfl
@[simp] theorem State.modTime_lp (f : TimeSt → TimeSt) (s : State) : (s.modTime f).lp = s.lp := rfl
@[simp] theorem State.modTime_fab (f : TimeSt → TimeSt) (s : State) : (s.modTime f).fab = s.fab := rfl
@[simp] theorem State.modTime_pair (f : TimeSt → TimeSt) (s : State) : (s.modTime f).pair = s.pair := rfl
@[simp] theorem State.modTime_cry (f : TimeSt → TimeSt) (s : State) : (s.modTime f).cry = s.cry := rfl
@[simp] theorem State.modTime_inj (f : TimeSt → TimeSt) (s : State) : (s.modTime f).inj = s.inj := rfl
@[simp] theorem State.modTime_chn (f : TimeSt → TimeSt) (s : State) : (s.modTime f).chn = s.chn := rfl
@[simp] theorem State.modTime_soc (f : TimeSt → TimeSt) (s : State) : (s.modTime f).soc = s.soc := rfl
@[simp] theorem State.modTime_saf (f : TimeSt → TimeSt) (s : State) : (s.modTime f).saf = s.saf := rfl
@[simp] theorem State.modTime_rack (f : TimeSt → TimeSt) (s : State) : (s.modTime f).rack = s.rack := rfl
@[simp] theorem State.modTime_leg (f : TimeSt → TimeSt) (s : State) : (s.modTime f).leg = s.leg := rfl
@[simp] theorem State.modTime_freeCtr (f : TimeSt → TimeSt) (s : State) : (s.modTime f).freeCtr = s.freeCtr := rfl
@[simp] theorem State.modTime_outbox (f : TimeSt → TimeSt) (s : State) : (s.modTime f).outbox = s.outbox := rfl
@[simp] theorem State.modTime_pending (f : TimeSt → TimeSt) (s : State) : (s.modTime f).pending = s.pending := rfl
@[simp] theorem State.modClv_objs (f : CloveState → CloveState) (s : State) : (s.modClv f).objs = s.objs := rfl
@[simp] theorem State.modClv_blobs (f : CloveState → CloveState) (s : State) : (s.modClv f).blobs = s.blobs := rfl
@[simp] theorem State.modClv_rcd (f : CloveState → CloveState) (s : State) : (s.modClv f).rcd = s.rcd := rfl
@[simp] theorem State.modClv_host (f : CloveState → CloveState) (s : State) : (s.modClv f).host = s.host := rfl
@[simp] theorem State.modClv_que (f : CloveState → CloveState) (s : State) : (s.modClv f).que = s.que := rfl
@[simp] theorem State.modClv_md (f : CloveState → CloveState) (s : State) : (s.modClv f).md = s.md := rfl
@[simp] theorem State.modClv_time (f : CloveState → CloveState) (s : State) : (s.modClv f).time = s.time := rfl
@[simp] theorem State.modClv_clv (f : CloveState → CloveState) (s : State) : (s.modClv f).clv = f s.clv := rfl
@[simp] theorem State.modClv_pow (f : CloveState → CloveState) (s : State) : (s.modClv f).pow = s.pow := rfl
@[simp] theorem State.modClv_card (f : CloveState → CloveState) (s : State) : (s.modClv f).card = s.card := rfl
@[simp] theorem State.modClv_lp (f : CloveState → CloveState) (s : State) : (s.modClv f).lp = s.lp := rfl
@[simp] theorem State.modClv_fab (f : CloveState → CloveState) (s : State) : (s.modClv f).fab = s.fab := rfl
@[simp] theorem State.modClv_pair (f : CloveState → CloveState) (s : State) : (s.modClv f).pair = s.pair := rfl
@[simp] theorem State.modClv_cry (f : CloveState → CloveState) (s : State) : (s.modClv f).cry = s.cry := rfl
@[simp] theorem State.modClv_inj (f : CloveState → CloveState) (s : State) : (s.modClv f).inj = s.inj := rfl
@[simp] theorem State.modClv_chn (f : CloveState → CloveState) (s : State) : (s.modClv f).chn = s.chn := rfl
@[simp] theorem State.modClv_soc (f : CloveState → CloveState) (s : State) : (s.modClv f).soc = s.soc := rfl
@[simp] theorem State.modClv_saf (f : CloveState → CloveState) (s : State) : (s.modClv f).saf = s.saf := rfl
@[simp] theorem State.modClv_rack (f : CloveState → CloveState) (s : State) : (s.modClv f).rack = s.rack := rfl
@[simp] theorem State.modClv_leg (f : CloveState → CloveState) (s : State) : (s.modClv f).leg = s.leg := rfl
@[simp] theorem State.modClv_freeCtr (f : CloveState → CloveState) (s : State) : (s.modClv f).freeCtr = s.freeCtr := rfl
@[simp] theorem State.modClv_outbox (f : CloveState → CloveState) (s : State) : (s.modClv f).outbox = s.outbox := rfl
@[simp] theorem State.modClv_pending (f : CloveState → CloveState) (s : State) : (s.modClv f).pending = s.pending := rfl
@[simp] theorem State.modPow_objs (f : PowerState → PowerState) (s : State) : (s.modPow f).objs = s.objs := rfl
@[simp] theorem State.modPow_blobs (f : PowerState → PowerState) (s : State) : (s.modPow f).blobs = s.blobs := rfl
@[simp] theorem State.modPow_rcd (f : PowerState → PowerState) (s : State) : (s.modPow f).rcd = s.rcd := rfl
@[simp] theorem State.modPow_host (f : PowerState → PowerState) (s : State) : (s.modPow f).host = s.host := rfl
@[simp] theorem State.modPow_que (f : PowerState → PowerState) (s : State) : (s.modPow f).que = s.que := rfl
@[simp] theorem State.modPow_md (f : PowerState → PowerState) (s : State) : (s.modPow f).md = s.md := rfl
@[simp] theorem State.modPow_time (f : PowerState → PowerState) (s : State) : (s.modPow f).time = s.time := rfl
@[simp] theorem State.modPow_clv (f : PowerState → PowerState) (s : State) : (s.modPow f).clv = s.clv := rfl
@[simp] theorem State.modPow_pow (f : PowerState → PowerState) (s : State) : (s.modPow f).pow = f s.pow := rfl
@[simp] theorem State.modPow_card (f : PowerState → PowerState) (s : State) : (s.modPow f).card = s.card := rfl
@[simp] theorem State.modPow_lp (f : PowerState → PowerState) (s : State) : (s.modPow f).lp = s.lp := rfl
@[simp] theorem State.modPow_fab (f : PowerState → PowerState) (s : State) : (s.modPow f).fab = s.fab := rfl
@[simp] theorem State.modPow_pair (f : PowerState → PowerState) (s : State) : (s.modPow f).pair = s.pair := rfl
@[simp] theorem State.modPow_cry (f : PowerState → PowerState) (s : State) : (s.modPow f).cry = s.cry := rfl
@[simp] theorem State.modPow_inj (f : PowerState → PowerState) (s : State) : (s.modPow f).inj = s.inj := rfl
@[simp] theorem State.modPow_chn (f : PowerState → PowerState) (s : State) : (s.modPow f).chn = s.chn := rfl
@[simp] theorem State.modPow_soc (f : PowerState → PowerState) (s : State) : (s.modPow f).soc = s.soc := rfl
@[simp] theorem State.modPow_saf (f : PowerState → PowerState) (s : State) : (s.modPow f).saf = s.saf := rfl
@[simp] theorem State.modPow_rack (f : PowerState → PowerState) (s : State) : (s.modPow f).rack = s.rack := rfl
@[simp] theorem State.modPow_leg (f : PowerState → PowerState) (s : State) : (s.modPow f).leg = s.leg := rfl
@[simp] theorem State.modPow_freeCtr (f : PowerState → PowerState) (s : State) : (s.modPow f).freeCtr = s.freeCtr := rfl
@[simp] theorem State.modPow_outbox (f : PowerState → PowerState) (s : State) : (s.modPow f).outbox = s.outbox := rfl
@[simp] theorem State.modPow_pending (f : PowerState → PowerState) (s : State) : (s.modPow f).pending = s.pending := rfl
@[simp] theorem State.modLoop_objs (f : LoopState → LoopState) (s : State) : (s.modLoop f).objs = s.objs := rfl
@[simp] theorem State.modLoop_blobs (f : LoopState → LoopState) (s : State) : (s.modLoop f).blobs = s.blobs := rfl
@[simp] theorem State.modLoop_rcd (f : LoopState → LoopState) (s : State) : (s.modLoop f).rcd = s.rcd := rfl
@[simp] theorem State.modLoop_host (f : LoopState → LoopState) (s : State) : (s.modLoop f).host = s.host := rfl
@[simp] theorem State.modLoop_que (f : LoopState → LoopState) (s : State) : (s.modLoop f).que = s.que := rfl
@[simp] theorem State.modLoop_md (f : LoopState → LoopState) (s : State) : (s.modLoop f).md = s.md := rfl
@[simp] theorem State.modLoop_time (f : LoopState → LoopState) (s : State) : (s.modLoop f).time = s.time := rfl
@[simp] theorem State.modLoop_clv (f : LoopState → LoopState) (s : State) : (s.modLoop f).clv = s.clv := rfl
@[simp] theorem State.modLoop_pow (f : LoopState → LoopState) (s : State) : (s.modLoop f).pow = s.pow := rfl
@[simp] theorem State.modLoop_card (f : LoopState → LoopState) (s : State) : (s.modLoop f).card = s.card := rfl
@[simp] theorem State.modLoop_lp (f : LoopState → LoopState) (s : State) : (s.modLoop f).lp = f s.lp := rfl
@[simp] theorem State.modLoop_fab (f : LoopState → LoopState) (s : State) : (s.modLoop f).fab = s.fab := rfl
@[simp] theorem State.modLoop_pair (f : LoopState → LoopState) (s : State) : (s.modLoop f).pair = s.pair := rfl
@[simp] theorem State.modLoop_cry (f : LoopState → LoopState) (s : State) : (s.modLoop f).cry = s.cry := rfl
@[simp] theorem State.modLoop_inj (f : LoopState → LoopState) (s : State) : (s.modLoop f).inj = s.inj := rfl
@[simp] theorem State.modLoop_chn (f : LoopState → LoopState) (s : State) : (s.modLoop f).chn = s.chn := rfl
@[simp] theorem State.modLoop_soc (f : LoopState → LoopState) (s : State) : (s.modLoop f).soc = s.soc := rfl
@[simp] theorem State.modLoop_saf (f : LoopState → LoopState) (s : State) : (s.modLoop f).saf = s.saf := rfl
@[simp] theorem State.modLoop_rack (f : LoopState → LoopState) (s : State) : (s.modLoop f).rack = s.rack := rfl
@[simp] theorem State.modLoop_leg (f : LoopState → LoopState) (s : State) : (s.modLoop f).leg = s.leg := rfl
@[simp] theorem State.modLoop_freeCtr (f : LoopState → LoopState) (s : State) : (s.modLoop f).freeCtr = s.freeCtr := rfl
@[simp] theorem State.modLoop_outbox (f : LoopState → LoopState) (s : State) : (s.modLoop f).outbox = s.outbox := rfl
@[simp] theorem State.modLoop_pending (f : LoopState → LoopState) (s : State) : (s.modLoop f).pending = s.pending := rfl
@[simp] theorem State.modFab_objs (f : FabricSt → FabricSt) (s : State) : (s.modFab f).objs = s.objs := rfl
@[simp] theorem State.modFab_blobs (f : FabricSt → FabricSt) (s : State) : (s.modFab f).blobs = s.blobs := rfl
@[simp] theorem State.modFab_rcd (f : FabricSt → FabricSt) (s : State) : (s.modFab f).rcd = s.rcd := rfl
@[simp] theorem State.modFab_host (f : FabricSt → FabricSt) (s : State) : (s.modFab f).host = s.host := rfl
@[simp] theorem State.modFab_que (f : FabricSt → FabricSt) (s : State) : (s.modFab f).que = s.que := rfl
@[simp] theorem State.modFab_md (f : FabricSt → FabricSt) (s : State) : (s.modFab f).md = s.md := rfl
@[simp] theorem State.modFab_time (f : FabricSt → FabricSt) (s : State) : (s.modFab f).time = s.time := rfl
@[simp] theorem State.modFab_clv (f : FabricSt → FabricSt) (s : State) : (s.modFab f).clv = s.clv := rfl
@[simp] theorem State.modFab_pow (f : FabricSt → FabricSt) (s : State) : (s.modFab f).pow = s.pow := rfl
@[simp] theorem State.modFab_card (f : FabricSt → FabricSt) (s : State) : (s.modFab f).card = s.card := rfl
@[simp] theorem State.modFab_lp (f : FabricSt → FabricSt) (s : State) : (s.modFab f).lp = s.lp := rfl
@[simp] theorem State.modFab_fab (f : FabricSt → FabricSt) (s : State) : (s.modFab f).fab = f s.fab := rfl
@[simp] theorem State.modFab_pair (f : FabricSt → FabricSt) (s : State) : (s.modFab f).pair = s.pair := rfl
@[simp] theorem State.modFab_cry (f : FabricSt → FabricSt) (s : State) : (s.modFab f).cry = s.cry := rfl
@[simp] theorem State.modFab_inj (f : FabricSt → FabricSt) (s : State) : (s.modFab f).inj = s.inj := rfl
@[simp] theorem State.modFab_chn (f : FabricSt → FabricSt) (s : State) : (s.modFab f).chn = s.chn := rfl
@[simp] theorem State.modFab_soc (f : FabricSt → FabricSt) (s : State) : (s.modFab f).soc = s.soc := rfl
@[simp] theorem State.modFab_saf (f : FabricSt → FabricSt) (s : State) : (s.modFab f).saf = s.saf := rfl
@[simp] theorem State.modFab_rack (f : FabricSt → FabricSt) (s : State) : (s.modFab f).rack = s.rack := rfl
@[simp] theorem State.modFab_leg (f : FabricSt → FabricSt) (s : State) : (s.modFab f).leg = s.leg := rfl
@[simp] theorem State.modFab_freeCtr (f : FabricSt → FabricSt) (s : State) : (s.modFab f).freeCtr = s.freeCtr := rfl
@[simp] theorem State.modFab_outbox (f : FabricSt → FabricSt) (s : State) : (s.modFab f).outbox = s.outbox := rfl
@[simp] theorem State.modFab_pending (f : FabricSt → FabricSt) (s : State) : (s.modFab f).pending = s.pending := rfl
@[simp] theorem State.modPair_objs (f : PairSt → PairSt) (s : State) : (s.modPair f).objs = s.objs := rfl
@[simp] theorem State.modPair_blobs (f : PairSt → PairSt) (s : State) : (s.modPair f).blobs = s.blobs := rfl
@[simp] theorem State.modPair_rcd (f : PairSt → PairSt) (s : State) : (s.modPair f).rcd = s.rcd := rfl
@[simp] theorem State.modPair_host (f : PairSt → PairSt) (s : State) : (s.modPair f).host = s.host := rfl
@[simp] theorem State.modPair_que (f : PairSt → PairSt) (s : State) : (s.modPair f).que = s.que := rfl
@[simp] theorem State.modPair_md (f : PairSt → PairSt) (s : State) : (s.modPair f).md = s.md := rfl
@[simp] theorem State.modPair_time (f : PairSt → PairSt) (s : State) : (s.modPair f).time = s.time := rfl
@[simp] theorem State.modPair_clv (f : PairSt → PairSt) (s : State) : (s.modPair f).clv = s.clv := rfl
@[simp] theorem State.modPair_pow (f : PairSt → PairSt) (s : State) : (s.modPair f).pow = s.pow := rfl
@[simp] theorem State.modPair_card (f : PairSt → PairSt) (s : State) : (s.modPair f).card = s.card := rfl
@[simp] theorem State.modPair_lp (f : PairSt → PairSt) (s : State) : (s.modPair f).lp = s.lp := rfl
@[simp] theorem State.modPair_fab (f : PairSt → PairSt) (s : State) : (s.modPair f).fab = s.fab := rfl
@[simp] theorem State.modPair_pair (f : PairSt → PairSt) (s : State) : (s.modPair f).pair = f s.pair := rfl
@[simp] theorem State.modPair_cry (f : PairSt → PairSt) (s : State) : (s.modPair f).cry = s.cry := rfl
@[simp] theorem State.modPair_inj (f : PairSt → PairSt) (s : State) : (s.modPair f).inj = s.inj := rfl
@[simp] theorem State.modPair_chn (f : PairSt → PairSt) (s : State) : (s.modPair f).chn = s.chn := rfl
@[simp] theorem State.modPair_soc (f : PairSt → PairSt) (s : State) : (s.modPair f).soc = s.soc := rfl
@[simp] theorem State.modPair_saf (f : PairSt → PairSt) (s : State) : (s.modPair f).saf = s.saf := rfl
@[simp] theorem State.modPair_rack (f : PairSt → PairSt) (s : State) : (s.modPair f).rack = s.rack := rfl
@[simp] theorem State.modPair_leg (f : PairSt → PairSt) (s : State) : (s.modPair f).leg = s.leg := rfl
@[simp] theorem State.modPair_freeCtr (f : PairSt → PairSt) (s : State) : (s.modPair f).freeCtr = s.freeCtr := rfl
@[simp] theorem State.modPair_outbox (f : PairSt → PairSt) (s : State) : (s.modPair f).outbox = s.outbox := rfl
@[simp] theorem State.modPair_pending (f : PairSt → PairSt) (s : State) : (s.modPair f).pending = s.pending := rfl
@[simp] theorem State.modCry_objs (f : SecSt → SecSt) (s : State) : (s.modCry f).objs = s.objs := rfl
@[simp] theorem State.modCry_blobs (f : SecSt → SecSt) (s : State) : (s.modCry f).blobs = s.blobs := rfl
@[simp] theorem State.modCry_rcd (f : SecSt → SecSt) (s : State) : (s.modCry f).rcd = s.rcd := rfl
@[simp] theorem State.modCry_host (f : SecSt → SecSt) (s : State) : (s.modCry f).host = s.host := rfl
@[simp] theorem State.modCry_que (f : SecSt → SecSt) (s : State) : (s.modCry f).que = s.que := rfl
@[simp] theorem State.modCry_md (f : SecSt → SecSt) (s : State) : (s.modCry f).md = s.md := rfl
@[simp] theorem State.modCry_time (f : SecSt → SecSt) (s : State) : (s.modCry f).time = s.time := rfl
@[simp] theorem State.modCry_clv (f : SecSt → SecSt) (s : State) : (s.modCry f).clv = s.clv := rfl
@[simp] theorem State.modCry_pow (f : SecSt → SecSt) (s : State) : (s.modCry f).pow = s.pow := rfl
@[simp] theorem State.modCry_card (f : SecSt → SecSt) (s : State) : (s.modCry f).card = s.card := rfl
@[simp] theorem State.modCry_lp (f : SecSt → SecSt) (s : State) : (s.modCry f).lp = s.lp := rfl
@[simp] theorem State.modCry_fab (f : SecSt → SecSt) (s : State) : (s.modCry f).fab = s.fab := rfl
@[simp] theorem State.modCry_pair (f : SecSt → SecSt) (s : State) : (s.modCry f).pair = s.pair := rfl
@[simp] theorem State.modCry_cry (f : SecSt → SecSt) (s : State) : (s.modCry f).cry = f s.cry := rfl
@[simp] theorem State.modCry_inj (f : SecSt → SecSt) (s : State) : (s.modCry f).inj = s.inj := rfl
@[simp] theorem State.modCry_chn (f : SecSt → SecSt) (s : State) : (s.modCry f).chn = s.chn := rfl
@[simp] theorem State.modCry_soc (f : SecSt → SecSt) (s : State) : (s.modCry f).soc = s.soc := rfl
@[simp] theorem State.modCry_saf (f : SecSt → SecSt) (s : State) : (s.modCry f).saf = s.saf := rfl
@[simp] theorem State.modCry_rack (f : SecSt → SecSt) (s : State) : (s.modCry f).rack = s.rack := rfl
@[simp] theorem State.modCry_leg (f : SecSt → SecSt) (s : State) : (s.modCry f).leg = s.leg := rfl
@[simp] theorem State.modCry_freeCtr (f : SecSt → SecSt) (s : State) : (s.modCry f).freeCtr = s.freeCtr := rfl
@[simp] theorem State.modCry_outbox (f : SecSt → SecSt) (s : State) : (s.modCry f).outbox = s.outbox := rfl
@[simp] theorem State.modCry_pending (f : SecSt → SecSt) (s : State) : (s.modCry f).pending = s.pending := rfl
@[simp] theorem State.modChain_objs (f : ChainState → ChainState) (s : State) : (s.modChain f).objs = s.objs := rfl
@[simp] theorem State.modChain_blobs (f : ChainState → ChainState) (s : State) : (s.modChain f).blobs = s.blobs := rfl
@[simp] theorem State.modChain_rcd (f : ChainState → ChainState) (s : State) : (s.modChain f).rcd = s.rcd := rfl
@[simp] theorem State.modChain_host (f : ChainState → ChainState) (s : State) : (s.modChain f).host = s.host := rfl
@[simp] theorem State.modChain_que (f : ChainState → ChainState) (s : State) : (s.modChain f).que = s.que := rfl
@[simp] theorem State.modChain_md (f : ChainState → ChainState) (s : State) : (s.modChain f).md = s.md := rfl
@[simp] theorem State.modChain_time (f : ChainState → ChainState) (s : State) : (s.modChain f).time = s.time := rfl
@[simp] theorem State.modChain_clv (f : ChainState → ChainState) (s : State) : (s.modChain f).clv = s.clv := rfl
@[simp] theorem State.modChain_pow (f : ChainState → ChainState) (s : State) : (s.modChain f).pow = s.pow := rfl
@[simp] theorem State.modChain_card (f : ChainState → ChainState) (s : State) : (s.modChain f).card = s.card := rfl
@[simp] theorem State.modChain_lp (f : ChainState → ChainState) (s : State) : (s.modChain f).lp = s.lp := rfl
@[simp] theorem State.modChain_fab (f : ChainState → ChainState) (s : State) : (s.modChain f).fab = s.fab := rfl
@[simp] theorem State.modChain_pair (f : ChainState → ChainState) (s : State) : (s.modChain f).pair = s.pair := rfl
@[simp] theorem State.modChain_cry (f : ChainState → ChainState) (s : State) : (s.modChain f).cry = s.cry := rfl
@[simp] theorem State.modChain_inj (f : ChainState → ChainState) (s : State) : (s.modChain f).inj = s.inj := rfl
@[simp] theorem State.modChain_chn (f : ChainState → ChainState) (s : State) : (s.modChain f).chn = f s.chn := rfl
@[simp] theorem State.modChain_soc (f : ChainState → ChainState) (s : State) : (s.modChain f).soc = s.soc := rfl
@[simp] theorem State.modChain_saf (f : ChainState → ChainState) (s : State) : (s.modChain f).saf = s.saf := rfl
@[simp] theorem State.modChain_rack (f : ChainState → ChainState) (s : State) : (s.modChain f).rack = s.rack := rfl
@[simp] theorem State.modChain_leg (f : ChainState → ChainState) (s : State) : (s.modChain f).leg = s.leg := rfl
@[simp] theorem State.modChain_freeCtr (f : ChainState → ChainState) (s : State) : (s.modChain f).freeCtr = s.freeCtr := rfl
@[simp] theorem State.modChain_outbox (f : ChainState → ChainState) (s : State) : (s.modChain f).outbox = s.outbox := rfl
@[simp] theorem State.modChain_pending (f : ChainState → ChainState) (s : State) : (s.modChain f).pending = s.pending := rfl
@[simp] theorem State.modSoc_objs (f : SocState → SocState) (s : State) : (s.modSoc f).objs = s.objs := rfl
@[simp] theorem State.modSoc_blobs (f : SocState → SocState) (s : State) : (s.modSoc f).blobs = s.blobs := rfl
@[simp] theorem State.modSoc_rcd (f : SocState → SocState) (s : State) : (s.modSoc f).rcd = s.rcd := rfl
@[simp] theorem State.modSoc_host (f : SocState → SocState) (s : State) : (s.modSoc f).host = s.host := rfl
@[simp] theorem State.modSoc_que (f : SocState → SocState) (s : State) : (s.modSoc f).que = s.que := rfl
@[simp] theorem State.modSoc_md (f : SocState → SocState) (s : State) : (s.modSoc f).md = s.md := rfl
@[simp] theorem State.modSoc_time (f : SocState → SocState) (s : State) : (s.modSoc f).time = s.time := rfl
@[simp] theorem State.modSoc_clv (f : SocState → SocState) (s : State) : (s.modSoc f).clv = s.clv := rfl
@[simp] theorem State.modSoc_pow (f : SocState → SocState) (s : State) : (s.modSoc f).pow = s.pow := rfl
@[simp] theorem State.modSoc_card (f : SocState → SocState) (s : State) : (s.modSoc f).card = s.card := rfl
@[simp] theorem State.modSoc_lp (f : SocState → SocState) (s : State) : (s.modSoc f).lp = s.lp := rfl
@[simp] theorem State.modSoc_fab (f : SocState → SocState) (s : State) : (s.modSoc f).fab = s.fab := rfl
@[simp] theorem State.modSoc_pair (f : SocState → SocState) (s : State) : (s.modSoc f).pair = s.pair := rfl
@[simp] theorem State.modSoc_cry (f : SocState → SocState) (s : State) : (s.modSoc f).cry = s.cry := rfl
@[simp] theorem State.modSoc_inj (f : SocState → SocState) (s : State) : (s.modSoc f).inj = s.inj := rfl
@[simp] theorem State.modSoc_chn (f : SocState → SocState) (s : State) : (s.modSoc f).chn = s.chn := rfl
@[simp] theorem State.modSoc_soc (f : SocState → SocState) (s : State) : (s.modSoc f).soc = f s.soc := rfl
@[simp] theorem State.modSoc_saf (f : SocState → SocState) (s : State) : (s.modSoc f).saf = s.saf := rfl
@[simp] theorem State.modSoc_rack (f : SocState → SocState) (s : State) : (s.modSoc f).rack = s.rack := rfl
@[simp] theorem State.modSoc_leg (f : SocState → SocState) (s : State) : (s.modSoc f).leg = s.leg := rfl
@[simp] theorem State.modSoc_freeCtr (f : SocState → SocState) (s : State) : (s.modSoc f).freeCtr = s.freeCtr := rfl
@[simp] theorem State.modSoc_outbox (f : SocState → SocState) (s : State) : (s.modSoc f).outbox = s.outbox := rfl
@[simp] theorem State.modSoc_pending (f : SocState → SocState) (s : State) : (s.modSoc f).pending = s.pending := rfl
@[simp] theorem State.modSaf_objs (f : SafState → SafState) (s : State) : (s.modSaf f).objs = s.objs := rfl
@[simp] theorem State.modSaf_blobs (f : SafState → SafState) (s : State) : (s.modSaf f).blobs = s.blobs := rfl
@[simp] theorem State.modSaf_rcd (f : SafState → SafState) (s : State) : (s.modSaf f).rcd = s.rcd := rfl
@[simp] theorem State.modSaf_host (f : SafState → SafState) (s : State) : (s.modSaf f).host = s.host := rfl
@[simp] theorem State.modSaf_que (f : SafState → SafState) (s : State) : (s.modSaf f).que = s.que := rfl
@[simp] theorem State.modSaf_md (f : SafState → SafState) (s : State) : (s.modSaf f).md = s.md := rfl
@[simp] theorem State.modSaf_time (f : SafState → SafState) (s : State) : (s.modSaf f).time = s.time := rfl
@[simp] theorem State.modSaf_clv (f : SafState → SafState) (s : State) : (s.modSaf f).clv = s.clv := rfl
@[simp] theorem State.modSaf_pow (f : SafState → SafState) (s : State) : (s.modSaf f).pow = s.pow := rfl
@[simp] theorem State.modSaf_card (f : SafState → SafState) (s : State) : (s.modSaf f).card = s.card := rfl
@[simp] theorem State.modSaf_lp (f : SafState → SafState) (s : State) : (s.modSaf f).lp = s.lp := rfl
@[simp] theorem State.modSaf_fab (f : SafState → SafState) (s : State) : (s.modSaf f).fab = s.fab := rfl
@[simp] theorem State.modSaf_pair (f : SafState → SafState) (s : State) : (s.modSaf f).pair = s.pair := rfl
@[simp] theorem State.modSaf_cry (f : SafState → SafState) (s : State) : (s.modSaf f).cry = s.cry := rfl
@[simp] theorem State.modSaf_inj (f : SafState → SafState) (s : State) : (s.modSaf f).inj = s.inj := rfl
@[simp] theorem State.modSaf_chn (f : SafState → SafState) (s : State) : (s.modSaf f).chn = s.chn := rfl
@[simp] theorem State.modSaf_soc (f : SafState → SafState) (s : State) : (s.modSaf f).soc = s.soc := rfl
@[simp] theorem State.modSaf_saf (f : SafState → SafState) (s : State) : (s.modSaf f).saf = f s.saf := rfl
@[simp] theorem State.modSaf_rack (f : SafState → SafState) (s : State) : (s.modSaf f).rack = s.rack := rfl
@[simp] theorem State.modSaf_leg (f : SafState → SafState) (s : State) : (s.modSaf f).leg = s.leg := rfl
@[simp] theorem State.modSaf_freeCtr (f : SafState → SafState) (s : State) : (s.modSaf f).freeCtr = s.freeCtr := rfl
@[simp] theorem State.modSaf_outbox (f : SafState → SafState) (s : State) : (s.modSaf f).outbox = s.outbox := rfl
@[simp] theorem State.modSaf_pending (f : SafState → SafState) (s : State) : (s.modSaf f).pending = s.pending := rfl
@[simp] theorem State.modRack_objs (f : RackState → RackState) (s : State) : (s.modRack f).objs = s.objs := rfl
@[simp] theorem State.modRack_blobs (f : RackState → RackState) (s : State) : (s.modRack f).blobs = s.blobs := rfl
@[simp] theorem State.modRack_rcd (f : RackState → RackState) (s : State) : (s.modRack f).rcd = s.rcd := rfl
@[simp] theorem State.modRack_host (f : RackState → RackState) (s : State) : (s.modRack f).host = s.host := rfl
@[simp] theorem State.modRack_que (f : RackState → RackState) (s : State) : (s.modRack f).que = s.que := rfl
@[simp] theorem State.modRack_md (f : RackState → RackState) (s : State) : (s.modRack f).md = s.md := rfl
@[simp] theorem State.modRack_time (f : RackState → RackState) (s : State) : (s.modRack f).time = s.time := rfl
@[simp] theorem State.modRack_clv (f : RackState → RackState) (s : State) : (s.modRack f).clv = s.clv := rfl
@[simp] theorem State.modRack_pow (f : RackState → RackState) (s : State) : (s.modRack f).pow = s.pow := rfl
@[simp] theorem State.modRack_card (f : RackState → RackState) (s : State) : (s.modRack f).card = s.card := rfl
@[simp] theorem State.modRack_lp (f : RackState → RackState) (s : State) : (s.modRack f).lp = s.lp := rfl
@[simp] theorem State.modRack_fab (f : RackState → RackState) (s : State) : (s.modRack f).fab = s.fab := rfl
@[simp] theorem State.modRack_pair (f : RackState → RackState) (s : State) : (s.modRack f).pair = s.pair := rfl
@[simp] theorem State.modRack_cry (f : RackState → RackState) (s : State) : (s.modRack f).cry = s.cry := rfl
@[simp] theorem State.modRack_inj (f : RackState → RackState) (s : State) : (s.modRack f).inj = s.inj := rfl
@[simp] theorem State.modRack_chn (f : RackState → RackState) (s : State) : (s.modRack f).chn = s.chn := rfl
@[simp] theorem State.modRack_soc (f : RackState → RackState) (s : State) : (s.modRack f).soc = s.soc := rfl
@[simp] theorem State.modRack_saf (f : RackState → RackState) (s : State) : (s.modRack f).saf = s.saf := rfl
@[simp] theorem State.modRack_rack (f : RackState → RackState) (s : State) : (s.modRack f).rack = f s.rack := rfl
@[simp] theorem State.modRack_leg (f : RackState → RackState) (s : State) : (s.modRack f).leg = s.leg := rfl
@[simp] theorem State.modRack_freeCtr (f : RackState → RackState) (s : State) : (s.modRack f).freeCtr = s.freeCtr := rfl
@[simp] theorem State.modRack_outbox (f : RackState → RackState) (s : State) : (s.modRack f).outbox = s.outbox := rfl
@[simp] theorem State.modRack_pending (f : RackState → RackState) (s : State) : (s.modRack f).pending = s.pending := rfl
@[simp] theorem State.modLeg_objs (f : LegacyState → LegacyState) (s : State) : (s.modLeg f).objs = s.objs := rfl
@[simp] theorem State.modLeg_blobs (f : LegacyState → LegacyState) (s : State) : (s.modLeg f).blobs = s.blobs := rfl
@[simp] theorem State.modLeg_rcd (f : LegacyState → LegacyState) (s : State) : (s.modLeg f).rcd = s.rcd := rfl
@[simp] theorem State.modLeg_host (f : LegacyState → LegacyState) (s : State) : (s.modLeg f).host = s.host := rfl
@[simp] theorem State.modLeg_que (f : LegacyState → LegacyState) (s : State) : (s.modLeg f).que = s.que := rfl
@[simp] theorem State.modLeg_md (f : LegacyState → LegacyState) (s : State) : (s.modLeg f).md = s.md := rfl
@[simp] theorem State.modLeg_time (f : LegacyState → LegacyState) (s : State) : (s.modLeg f).time = s.time := rfl
@[simp] theorem State.modLeg_clv (f : LegacyState → LegacyState) (s : State) : (s.modLeg f).clv = s.clv := rfl
@[simp] theorem State.modLeg_pow (f : LegacyState → LegacyState) (s : State) : (s.modLeg f).pow = s.pow := rfl
@[simp] theorem State.modLeg_card (f : LegacyState → LegacyState) (s : State) : (s.modLeg f).card = s.card := rfl
@[simp] theorem State.modLeg_lp (f : LegacyState → LegacyState) (s : State) : (s.modLeg f).lp = s.lp := rfl
@[simp] theorem State.modLeg_fab (f : LegacyState → LegacyState) (s : State) : (s.modLeg f).fab = s.fab := rfl
@[simp] theorem State.modLeg_pair (f : LegacyState → LegacyState) (s : State) : (s.modLeg f).pair = s.pair := rfl
@[simp] theorem State.modLeg_cry (f : LegacyState → LegacyState) (s : State) : (s.modLeg f).cry = s.cry := rfl
@[simp] theorem State.modLeg_inj (f : LegacyState → LegacyState) (s : State) : (s.modLeg f).inj = s.inj := rfl
@[simp] theorem State.modLeg_chn (f : LegacyState → LegacyState) (s : State) : (s.modLeg f).chn = s.chn := rfl
@[simp] theorem State.modLeg_soc (f : LegacyState → LegacyState) (s : State) : (s.modLeg f).soc = s.soc := rfl
@[simp] theorem State.modLeg_saf (f : LegacyState → LegacyState) (s : State) : (s.modLeg f).saf = s.saf := rfl
@[simp] theorem State.modLeg_rack (f : LegacyState → LegacyState) (s : State) : (s.modLeg f).rack = s.rack := rfl
@[simp] theorem State.modLeg_leg (f : LegacyState → LegacyState) (s : State) : (s.modLeg f).leg = f s.leg := rfl
@[simp] theorem State.modLeg_freeCtr (f : LegacyState → LegacyState) (s : State) : (s.modLeg f).freeCtr = s.freeCtr := rfl
@[simp] theorem State.modLeg_outbox (f : LegacyState → LegacyState) (s : State) : (s.modLeg f).outbox = s.outbox := rfl
@[simp] theorem State.modLeg_pending (f : LegacyState → LegacyState) (s : State) : (s.modLeg f).pending = s.pending := rfl
@[simp] theorem State.setCore_objs (n : Fin 4) (c : CoreSt) (s : State) : (s.setCore n c).objs = s.objs := rfl
@[simp] theorem State.setCore_blobs (n : Fin 4) (c : CoreSt) (s : State) : (s.setCore n c).blobs = s.blobs := rfl
@[simp] theorem State.setCore_rcd (n : Fin 4) (c : CoreSt) (s : State) : (s.setCore n c).rcd = s.rcd := rfl
@[simp] theorem State.setCore_host (n : Fin 4) (c : CoreSt) (s : State) : (s.setCore n c).host = s.host := rfl
@[simp] theorem State.setCore_que (n : Fin 4) (c : CoreSt) (s : State) : (s.setCore n c).que = s.que := rfl
@[simp] theorem State.setCore_md (n : Fin 4) (c : CoreSt) (s : State) : (s.setCore n c).md = s.md := rfl
@[simp] theorem State.setCore_time (n : Fin 4) (c : CoreSt) (s : State) : (s.setCore n c).time = s.time := rfl
@[simp] theorem State.setCore_clv (n : Fin 4) (c : CoreSt) (s : State) : (s.setCore n c).clv = s.clv := rfl
@[simp] theorem State.setCore_pow (n : Fin 4) (c : CoreSt) (s : State) : (s.setCore n c).pow = s.pow := rfl
@[simp] theorem State.setCore_card (n : Fin 4) (c : CoreSt) (s : State) : (s.setCore n c).card = { s.card with cores := s.card.cores.set n c } := rfl
@[simp] theorem State.setCore_lp (n : Fin 4) (c : CoreSt) (s : State) : (s.setCore n c).lp = s.lp := rfl
@[simp] theorem State.setCore_fab (n : Fin 4) (c : CoreSt) (s : State) : (s.setCore n c).fab = s.fab := rfl
@[simp] theorem State.setCore_pair (n : Fin 4) (c : CoreSt) (s : State) : (s.setCore n c).pair = s.pair := rfl
@[simp] theorem State.setCore_cry (n : Fin 4) (c : CoreSt) (s : State) : (s.setCore n c).cry = s.cry := rfl
@[simp] theorem State.setCore_inj (n : Fin 4) (c : CoreSt) (s : State) : (s.setCore n c).inj = s.inj := rfl
@[simp] theorem State.setCore_chn (n : Fin 4) (c : CoreSt) (s : State) : (s.setCore n c).chn = s.chn := rfl
@[simp] theorem State.setCore_soc (n : Fin 4) (c : CoreSt) (s : State) : (s.setCore n c).soc = s.soc := rfl
@[simp] theorem State.setCore_saf (n : Fin 4) (c : CoreSt) (s : State) : (s.setCore n c).saf = s.saf := rfl
@[simp] theorem State.setCore_rack (n : Fin 4) (c : CoreSt) (s : State) : (s.setCore n c).rack = s.rack := rfl
@[simp] theorem State.setCore_leg (n : Fin 4) (c : CoreSt) (s : State) : (s.setCore n c).leg = s.leg := rfl
@[simp] theorem State.setCore_freeCtr (n : Fin 4) (c : CoreSt) (s : State) : (s.setCore n c).freeCtr = s.freeCtr := rfl
@[simp] theorem State.setCore_outbox (n : Fin 4) (c : CoreSt) (s : State) : (s.setCore n c).outbox = s.outbox := rfl
@[simp] theorem State.setCore_pending (n : Fin 4) (c : CoreSt) (s : State) : (s.setCore n c).pending = s.pending := rfl
@[simp] theorem State.modCore_objs (n : Fin 4) (f : CoreSt → CoreSt) (s : State) : (s.modCore n f).objs = s.objs := rfl
@[simp] theorem State.modCore_blobs (n : Fin 4) (f : CoreSt → CoreSt) (s : State) : (s.modCore n f).blobs = s.blobs := rfl
@[simp] theorem State.modCore_rcd (n : Fin 4) (f : CoreSt → CoreSt) (s : State) : (s.modCore n f).rcd = s.rcd := rfl
@[simp] theorem State.modCore_host (n : Fin 4) (f : CoreSt → CoreSt) (s : State) : (s.modCore n f).host = s.host := rfl
@[simp] theorem State.modCore_que (n : Fin 4) (f : CoreSt → CoreSt) (s : State) : (s.modCore n f).que = s.que := rfl
@[simp] theorem State.modCore_md (n : Fin 4) (f : CoreSt → CoreSt) (s : State) : (s.modCore n f).md = s.md := rfl
@[simp] theorem State.modCore_time (n : Fin 4) (f : CoreSt → CoreSt) (s : State) : (s.modCore n f).time = s.time := rfl
@[simp] theorem State.modCore_clv (n : Fin 4) (f : CoreSt → CoreSt) (s : State) : (s.modCore n f).clv = s.clv := rfl
@[simp] theorem State.modCore_pow (n : Fin 4) (f : CoreSt → CoreSt) (s : State) : (s.modCore n f).pow = s.pow := rfl
@[simp] theorem State.modCore_lp (n : Fin 4) (f : CoreSt → CoreSt) (s : State) : (s.modCore n f).lp = s.lp := rfl
@[simp] theorem State.modCore_fab (n : Fin 4) (f : CoreSt → CoreSt) (s : State) : (s.modCore n f).fab = s.fab := rfl
@[simp] theorem State.modCore_pair (n : Fin 4) (f : CoreSt → CoreSt) (s : State) : (s.modCore n f).pair = s.pair := rfl
@[simp] theorem State.modCore_cry (n : Fin 4) (f : CoreSt → CoreSt) (s : State) : (s.modCore n f).cry = s.cry := rfl
@[simp] theorem State.modCore_inj (n : Fin 4) (f : CoreSt → CoreSt) (s : State) : (s.modCore n f).inj = s.inj := rfl
@[simp] theorem State.modCore_chn (n : Fin 4) (f : CoreSt → CoreSt) (s : State) : (s.modCore n f).chn = s.chn := rfl
@[simp] theorem State.modCore_soc (n : Fin 4) (f : CoreSt → CoreSt) (s : State) : (s.modCore n f).soc = s.soc := rfl
@[simp] theorem State.modCore_saf (n : Fin 4) (f : CoreSt → CoreSt) (s : State) : (s.modCore n f).saf = s.saf := rfl
@[simp] theorem State.modCore_rack (n : Fin 4) (f : CoreSt → CoreSt) (s : State) : (s.modCore n f).rack = s.rack := rfl
@[simp] theorem State.modCore_leg (n : Fin 4) (f : CoreSt → CoreSt) (s : State) : (s.modCore n f).leg = s.leg := rfl
@[simp] theorem State.modCore_freeCtr (n : Fin 4) (f : CoreSt → CoreSt) (s : State) : (s.modCore n f).freeCtr = s.freeCtr := rfl
@[simp] theorem State.modCore_outbox (n : Fin 4) (f : CoreSt → CoreSt) (s : State) : (s.modCore n f).outbox = s.outbox := rfl
@[simp] theorem State.modCore_pending (n : Fin 4) (f : CoreSt → CoreSt) (s : State) : (s.modCore n f).pending = s.pending := rfl
@[simp] theorem State.setPhase_objs (p : Fin 20) (x : Phase) (s : State) : (s.setPhase p x).objs = s.objs := rfl
@[simp] theorem State.setPhase_blobs (p : Fin 20) (x : Phase) (s : State) : (s.setPhase p x).blobs = s.blobs := rfl
@[simp] theorem State.setPhase_rcd (p : Fin 20) (x : Phase) (s : State) : (s.setPhase p x).rcd = s.rcd := rfl
@[simp] theorem State.setPhase_host (p : Fin 20) (x : Phase) (s : State) : (s.setPhase p x).host = s.host := rfl
@[simp] theorem State.setPhase_que (p : Fin 20) (x : Phase) (s : State) : (s.setPhase p x).que = s.que := rfl
@[simp] theorem State.setPhase_md (p : Fin 20) (x : Phase) (s : State) : (s.setPhase p x).md = s.md := rfl
@[simp] theorem State.setPhase_time (p : Fin 20) (x : Phase) (s : State) : (s.setPhase p x).time = s.time := rfl
@[simp] theorem State.setPhase_clv (p : Fin 20) (x : Phase) (s : State) : (s.setPhase p x).clv = s.clv := rfl
@[simp] theorem State.setPhase_pow (p : Fin 20) (x : Phase) (s : State) : (s.setPhase p x).pow = { s.pow with phases := s.pow.phases.set p x } := rfl
@[simp] theorem State.setPhase_card (p : Fin 20) (x : Phase) (s : State) : (s.setPhase p x).card = s.card := rfl
@[simp] theorem State.setPhase_lp (p : Fin 20) (x : Phase) (s : State) : (s.setPhase p x).lp = s.lp := rfl
@[simp] theorem State.setPhase_fab (p : Fin 20) (x : Phase) (s : State) : (s.setPhase p x).fab = s.fab := rfl
@[simp] theorem State.setPhase_pair (p : Fin 20) (x : Phase) (s : State) : (s.setPhase p x).pair = s.pair := rfl
@[simp] theorem State.setPhase_cry (p : Fin 20) (x : Phase) (s : State) : (s.setPhase p x).cry = s.cry := rfl
@[simp] theorem State.setPhase_inj (p : Fin 20) (x : Phase) (s : State) : (s.setPhase p x).inj = s.inj := rfl
@[simp] theorem State.setPhase_chn (p : Fin 20) (x : Phase) (s : State) : (s.setPhase p x).chn = s.chn := rfl
@[simp] theorem State.setPhase_soc (p : Fin 20) (x : Phase) (s : State) : (s.setPhase p x).soc = s.soc := rfl
@[simp] theorem State.setPhase_saf (p : Fin 20) (x : Phase) (s : State) : (s.setPhase p x).saf = s.saf := rfl
@[simp] theorem State.setPhase_rack (p : Fin 20) (x : Phase) (s : State) : (s.setPhase p x).rack = s.rack := rfl
@[simp] theorem State.setPhase_leg (p : Fin 20) (x : Phase) (s : State) : (s.setPhase p x).leg = s.leg := rfl
@[simp] theorem State.setPhase_freeCtr (p : Fin 20) (x : Phase) (s : State) : (s.setPhase p x).freeCtr = s.freeCtr := rfl
@[simp] theorem State.setPhase_outbox (p : Fin 20) (x : Phase) (s : State) : (s.setPhase p x).outbox = s.outbox := rfl
@[simp] theorem State.setPhase_pending (p : Fin 20) (x : Phase) (s : State) : (s.setPhase p x).pending = s.pending := rfl
@[simp] theorem State.modPhase_objs (p : Fin 20) (f : Phase → Phase) (s : State) : (s.modPhase p f).objs = s.objs := rfl
@[simp] theorem State.modPhase_blobs (p : Fin 20) (f : Phase → Phase) (s : State) : (s.modPhase p f).blobs = s.blobs := rfl
@[simp] theorem State.modPhase_rcd (p : Fin 20) (f : Phase → Phase) (s : State) : (s.modPhase p f).rcd = s.rcd := rfl
@[simp] theorem State.modPhase_host (p : Fin 20) (f : Phase → Phase) (s : State) : (s.modPhase p f).host = s.host := rfl
@[simp] theorem State.modPhase_que (p : Fin 20) (f : Phase → Phase) (s : State) : (s.modPhase p f).que = s.que := rfl
@[simp] theorem State.modPhase_md (p : Fin 20) (f : Phase → Phase) (s : State) : (s.modPhase p f).md = s.md := rfl
@[simp] theorem State.modPhase_time (p : Fin 20) (f : Phase → Phase) (s : State) : (s.modPhase p f).time = s.time := rfl
@[simp] theorem State.modPhase_clv (p : Fin 20) (f : Phase → Phase) (s : State) : (s.modPhase p f).clv = s.clv := rfl
@[simp] theorem State.modPhase_card (p : Fin 20) (f : Phase → Phase) (s : State) : (s.modPhase p f).card = s.card := rfl
@[simp] theorem State.modPhase_lp (p : Fin 20) (f : Phase → Phase) (s : State) : (s.modPhase p f).lp = s.lp := rfl
@[simp] theorem State.modPhase_fab (p : Fin 20) (f : Phase → Phase) (s : State) : (s.modPhase p f).fab = s.fab := rfl
@[simp] theorem State.modPhase_pair (p : Fin 20) (f : Phase → Phase) (s : State) : (s.modPhase p f).pair = s.pair := rfl
@[simp] theorem State.modPhase_cry (p : Fin 20) (f : Phase → Phase) (s : State) : (s.modPhase p f).cry = s.cry := rfl
@[simp] theorem State.modPhase_inj (p : Fin 20) (f : Phase → Phase) (s : State) : (s.modPhase p f).inj = s.inj := rfl
@[simp] theorem State.modPhase_chn (p : Fin 20) (f : Phase → Phase) (s : State) : (s.modPhase p f).chn = s.chn := rfl
@[simp] theorem State.modPhase_soc (p : Fin 20) (f : Phase → Phase) (s : State) : (s.modPhase p f).soc = s.soc := rfl
@[simp] theorem State.modPhase_saf (p : Fin 20) (f : Phase → Phase) (s : State) : (s.modPhase p f).saf = s.saf := rfl
@[simp] theorem State.modPhase_rack (p : Fin 20) (f : Phase → Phase) (s : State) : (s.modPhase p f).rack = s.rack := rfl
@[simp] theorem State.modPhase_leg (p : Fin 20) (f : Phase → Phase) (s : State) : (s.modPhase p f).leg = s.leg := rfl
@[simp] theorem State.modPhase_freeCtr (p : Fin 20) (f : Phase → Phase) (s : State) : (s.modPhase p f).freeCtr = s.freeCtr := rfl
@[simp] theorem State.modPhase_outbox (p : Fin 20) (f : Phase → Phase) (s : State) : (s.modPhase p f).outbox = s.outbox := rfl
@[simp] theorem State.modPhase_pending (p : Fin 20) (f : Phase → Phase) (s : State) : (s.modPhase p f).pending = s.pending := rfl
@[simp] theorem State.modChan_objs (c : Fin 48) (f : ChanSt → ChanSt) (s : State) : (s.modChan c f).objs = s.objs := rfl
@[simp] theorem State.modChan_blobs (c : Fin 48) (f : ChanSt → ChanSt) (s : State) : (s.modChan c f).blobs = s.blobs := rfl
@[simp] theorem State.modChan_rcd (c : Fin 48) (f : ChanSt → ChanSt) (s : State) : (s.modChan c f).rcd = s.rcd := rfl
@[simp] theorem State.modChan_host (c : Fin 48) (f : ChanSt → ChanSt) (s : State) : (s.modChan c f).host = s.host := rfl
@[simp] theorem State.modChan_que (c : Fin 48) (f : ChanSt → ChanSt) (s : State) : (s.modChan c f).que = s.que := rfl
@[simp] theorem State.modChan_md (c : Fin 48) (f : ChanSt → ChanSt) (s : State) : (s.modChan c f).md = s.md := rfl
@[simp] theorem State.modChan_time (c : Fin 48) (f : ChanSt → ChanSt) (s : State) : (s.modChan c f).time = s.time := rfl
@[simp] theorem State.modChan_clv (c : Fin 48) (f : ChanSt → ChanSt) (s : State) : (s.modChan c f).clv = s.clv := rfl
@[simp] theorem State.modChan_pow (c : Fin 48) (f : ChanSt → ChanSt) (s : State) : (s.modChan c f).pow = { s.pow with chans := s.pow.chans.set c (f s.pow.chans[c]) } := rfl
@[simp] theorem State.modChan_card (c : Fin 48) (f : ChanSt → ChanSt) (s : State) : (s.modChan c f).card = s.card := rfl
@[simp] theorem State.modChan_lp (c : Fin 48) (f : ChanSt → ChanSt) (s : State) : (s.modChan c f).lp = s.lp := rfl
@[simp] theorem State.modChan_fab (c : Fin 48) (f : ChanSt → ChanSt) (s : State) : (s.modChan c f).fab = s.fab := rfl
@[simp] theorem State.modChan_pair (c : Fin 48) (f : ChanSt → ChanSt) (s : State) : (s.modChan c f).pair = s.pair := rfl
@[simp] theorem State.modChan_cry (c : Fin 48) (f : ChanSt → ChanSt) (s : State) : (s.modChan c f).cry = s.cry := rfl
@[simp] theorem State.modChan_inj (c : Fin 48) (f : ChanSt → ChanSt) (s : State) : (s.modChan c f).inj = s.inj := rfl
@[simp] theorem State.modChan_chn (c : Fin 48) (f : ChanSt → ChanSt) (s : State) : (s.modChan c f).chn = s.chn := rfl
@[simp] theorem State.modChan_soc (c : Fin 48) (f : ChanSt → ChanSt) (s : State) : (s.modChan c f).soc = s.soc := rfl
@[simp] theorem State.modChan_saf (c : Fin 48) (f : ChanSt → ChanSt) (s : State) : (s.modChan c f).saf = s.saf := rfl
@[simp] theorem State.modChan_rack (c : Fin 48) (f : ChanSt → ChanSt) (s : State) : (s.modChan c f).rack = s.rack := rfl
@[simp] theorem State.modChan_leg (c : Fin 48) (f : ChanSt → ChanSt) (s : State) : (s.modChan c f).leg = s.leg := rfl
@[simp] theorem State.modChan_freeCtr (c : Fin 48) (f : ChanSt → ChanSt) (s : State) : (s.modChan c f).freeCtr = s.freeCtr := rfl
@[simp] theorem State.modChan_outbox (c : Fin 48) (f : ChanSt → ChanSt) (s : State) : (s.modChan c f).outbox = s.outbox := rfl
@[simp] theorem State.modChan_pending (c : Fin 48) (f : ChanSt → ChanSt) (s : State) : (s.modChan c f).pending = s.pending := rfl
@[simp] theorem State.modSession_objs (id : Nat) (f : Session → Session) (s : State) : (s.modSession id f).objs = s.objs := rfl
@[simp] theorem State.modSession_blobs (id : Nat) (f : Session → Session) (s : State) : (s.modSession id f).blobs = s.blobs := rfl
@[simp] theorem State.modSession_rcd (id : Nat) (f : Session → Session) (s : State) : (s.modSession id f).rcd = s.rcd := rfl
@[simp] theorem State.modSession_host (id : Nat) (f : Session → Session) (s : State) : (s.modSession id f).host = { s.host with sessions := s.host.sessions.map (fun x : Session => if x.id = id then f x else x) } := rfl
@[simp] theorem State.modSession_que (id : Nat) (f : Session → Session) (s : State) : (s.modSession id f).que = s.que := rfl
@[simp] theorem State.modSession_md (id : Nat) (f : Session → Session) (s : State) : (s.modSession id f).md = s.md := rfl
@[simp] theorem State.modSession_time (id : Nat) (f : Session → Session) (s : State) : (s.modSession id f).time = s.time := rfl
@[simp] theorem State.modSession_clv (id : Nat) (f : Session → Session) (s : State) : (s.modSession id f).clv = s.clv := rfl
@[simp] theorem State.modSession_pow (id : Nat) (f : Session → Session) (s : State) : (s.modSession id f).pow = s.pow := rfl
@[simp] theorem State.modSession_card (id : Nat) (f : Session → Session) (s : State) : (s.modSession id f).card = s.card := rfl
@[simp] theorem State.modSession_lp (id : Nat) (f : Session → Session) (s : State) : (s.modSession id f).lp = s.lp := rfl
@[simp] theorem State.modSession_fab (id : Nat) (f : Session → Session) (s : State) : (s.modSession id f).fab = s.fab := rfl
@[simp] theorem State.modSession_pair (id : Nat) (f : Session → Session) (s : State) : (s.modSession id f).pair = s.pair := rfl
@[simp] theorem State.modSession_cry (id : Nat) (f : Session → Session) (s : State) : (s.modSession id f).cry = s.cry := rfl
@[simp] theorem State.modSession_inj (id : Nat) (f : Session → Session) (s : State) : (s.modSession id f).inj = s.inj := rfl
@[simp] theorem State.modSession_chn (id : Nat) (f : Session → Session) (s : State) : (s.modSession id f).chn = s.chn := rfl
@[simp] theorem State.modSession_soc (id : Nat) (f : Session → Session) (s : State) : (s.modSession id f).soc = s.soc := rfl
@[simp] theorem State.modSession_saf (id : Nat) (f : Session → Session) (s : State) : (s.modSession id f).saf = s.saf := rfl
@[simp] theorem State.modSession_rack (id : Nat) (f : Session → Session) (s : State) : (s.modSession id f).rack = s.rack := rfl
@[simp] theorem State.modSession_leg (id : Nat) (f : Session → Session) (s : State) : (s.modSession id f).leg = s.leg := rfl
@[simp] theorem State.modSession_freeCtr (id : Nat) (f : Session → Session) (s : State) : (s.modSession id f).freeCtr = s.freeCtr := rfl
@[simp] theorem State.modSession_outbox (id : Nat) (f : Session → Session) (s : State) : (s.modSession id f).outbox = s.outbox := rfl
@[simp] theorem State.modSession_pending (id : Nat) (f : Session → Session) (s : State) : (s.modSession id f).pending = s.pending := rfl
@[simp] theorem State.modPoint_objs (p : InjPoint) (f : InjPoint → InjPoint) (s : State) : (s.modPoint p f).objs = s.objs := rfl
@[simp] theorem State.modPoint_blobs (p : InjPoint) (f : InjPoint → InjPoint) (s : State) : (s.modPoint p f).blobs = s.blobs := rfl
@[simp] theorem State.modPoint_rcd (p : InjPoint) (f : InjPoint → InjPoint) (s : State) : (s.modPoint p f).rcd = s.rcd := rfl
@[simp] theorem State.modPoint_host (p : InjPoint) (f : InjPoint → InjPoint) (s : State) : (s.modPoint p f).host = s.host := rfl
@[simp] theorem State.modPoint_que (p : InjPoint) (f : InjPoint → InjPoint) (s : State) : (s.modPoint p f).que = s.que := rfl
@[simp] theorem State.modPoint_md (p : InjPoint) (f : InjPoint → InjPoint) (s : State) : (s.modPoint p f).md = s.md := rfl
@[simp] theorem State.modPoint_time (p : InjPoint) (f : InjPoint → InjPoint) (s : State) : (s.modPoint p f).time = s.time := rfl
@[simp] theorem State.modPoint_clv (p : InjPoint) (f : InjPoint → InjPoint) (s : State) : (s.modPoint p f).clv = s.clv := rfl
@[simp] theorem State.modPoint_pow (p : InjPoint) (f : InjPoint → InjPoint) (s : State) : (s.modPoint p f).pow = s.pow := rfl
@[simp] theorem State.modPoint_card (p : InjPoint) (f : InjPoint → InjPoint) (s : State) : (s.modPoint p f).card = s.card := rfl
@[simp] theorem State.modPoint_lp (p : InjPoint) (f : InjPoint → InjPoint) (s : State) : (s.modPoint p f).lp = s.lp := rfl
@[simp] theorem State.modPoint_fab (p : InjPoint) (f : InjPoint → InjPoint) (s : State) : (s.modPoint p f).fab = s.fab := rfl
@[simp] theorem State.modPoint_pair (p : InjPoint) (f : InjPoint → InjPoint) (s : State) : (s.modPoint p f).pair = s.pair := rfl
@[simp] theorem State.modPoint_cry (p : InjPoint) (f : InjPoint → InjPoint) (s : State) : (s.modPoint p f).cry = s.cry := rfl
@[simp] theorem State.modPoint_chn (p : InjPoint) (f : InjPoint → InjPoint) (s : State) : (s.modPoint p f).chn = s.chn := rfl
@[simp] theorem State.modPoint_soc (p : InjPoint) (f : InjPoint → InjPoint) (s : State) : (s.modPoint p f).soc = s.soc := rfl
@[simp] theorem State.modPoint_saf (p : InjPoint) (f : InjPoint → InjPoint) (s : State) : (s.modPoint p f).saf = s.saf := rfl
@[simp] theorem State.modPoint_rack (p : InjPoint) (f : InjPoint → InjPoint) (s : State) : (s.modPoint p f).rack = s.rack := rfl
@[simp] theorem State.modPoint_leg (p : InjPoint) (f : InjPoint → InjPoint) (s : State) : (s.modPoint p f).leg = s.leg := rfl
@[simp] theorem State.modPoint_freeCtr (p : InjPoint) (f : InjPoint → InjPoint) (s : State) : (s.modPoint p f).freeCtr = s.freeCtr := rfl
@[simp] theorem State.modPoint_outbox (p : InjPoint) (f : InjPoint → InjPoint) (s : State) : (s.modPoint p f).outbox = s.outbox := rfl
@[simp] theorem State.modPoint_pending (p : InjPoint) (f : InjPoint → InjPoint) (s : State) : (s.modPoint p f).pending = s.pending := rfl
@[simp] theorem State.modJunction_objs (f : Junction → Junction) (s : State) : (s.modJunction f).objs = s.objs := rfl
@[simp] theorem State.modJunction_blobs (f : Junction → Junction) (s : State) : (s.modJunction f).blobs = s.blobs := rfl
@[simp] theorem State.modJunction_rcd (f : Junction → Junction) (s : State) : (s.modJunction f).rcd = s.rcd := rfl
@[simp] theorem State.modJunction_host (f : Junction → Junction) (s : State) : (s.modJunction f).host = s.host := rfl
@[simp] theorem State.modJunction_que (f : Junction → Junction) (s : State) : (s.modJunction f).que = s.que := rfl
@[simp] theorem State.modJunction_time (f : Junction → Junction) (s : State) : (s.modJunction f).time = s.time := rfl
@[simp] theorem State.modJunction_clv (f : Junction → Junction) (s : State) : (s.modJunction f).clv = s.clv := rfl
@[simp] theorem State.modJunction_pow (f : Junction → Junction) (s : State) : (s.modJunction f).pow = s.pow := rfl
@[simp] theorem State.modJunction_card (f : Junction → Junction) (s : State) : (s.modJunction f).card = s.card := rfl
@[simp] theorem State.modJunction_lp (f : Junction → Junction) (s : State) : (s.modJunction f).lp = s.lp := rfl
@[simp] theorem State.modJunction_fab (f : Junction → Junction) (s : State) : (s.modJunction f).fab = s.fab := rfl
@[simp] theorem State.modJunction_pair (f : Junction → Junction) (s : State) : (s.modJunction f).pair = s.pair := rfl
@[simp] theorem State.modJunction_cry (f : Junction → Junction) (s : State) : (s.modJunction f).cry = s.cry := rfl
@[simp] theorem State.modJunction_inj (f : Junction → Junction) (s : State) : (s.modJunction f).inj = s.inj := rfl
@[simp] theorem State.modJunction_chn (f : Junction → Junction) (s : State) : (s.modJunction f).chn = s.chn := rfl
@[simp] theorem State.modJunction_soc (f : Junction → Junction) (s : State) : (s.modJunction f).soc = s.soc := rfl
@[simp] theorem State.modJunction_saf (f : Junction → Junction) (s : State) : (s.modJunction f).saf = s.saf := rfl
@[simp] theorem State.modJunction_rack (f : Junction → Junction) (s : State) : (s.modJunction f).rack = s.rack := rfl
@[simp] theorem State.modJunction_leg (f : Junction → Junction) (s : State) : (s.modJunction f).leg = s.leg := rfl
@[simp] theorem State.modJunction_freeCtr (f : Junction → Junction) (s : State) : (s.modJunction f).freeCtr = s.freeCtr := rfl
@[simp] theorem State.modJunction_outbox (f : Junction → Junction) (s : State) : (s.modJunction f).outbox = s.outbox := rfl
@[simp] theorem State.modJunction_pending (f : Junction → Junction) (s : State) : (s.modJunction f).pending = s.pending := rfl
@[simp] theorem State.modPins_objs (f : Pins → Pins) (s : State) : (s.modPins f).objs = s.objs := rfl
@[simp] theorem State.modPins_blobs (f : Pins → Pins) (s : State) : (s.modPins f).blobs = s.blobs := rfl
@[simp] theorem State.modPins_rcd (f : Pins → Pins) (s : State) : (s.modPins f).rcd = s.rcd := rfl
@[simp] theorem State.modPins_host (f : Pins → Pins) (s : State) : (s.modPins f).host = s.host := rfl
@[simp] theorem State.modPins_que (f : Pins → Pins) (s : State) : (s.modPins f).que = s.que := rfl
@[simp] theorem State.modPins_time (f : Pins → Pins) (s : State) : (s.modPins f).time = s.time := rfl
@[simp] theorem State.modPins_clv (f : Pins → Pins) (s : State) : (s.modPins f).clv = s.clv := rfl
@[simp] theorem State.modPins_pow (f : Pins → Pins) (s : State) : (s.modPins f).pow = s.pow := rfl
@[simp] theorem State.modPins_card (f : Pins → Pins) (s : State) : (s.modPins f).card = s.card := rfl
@[simp] theorem State.modPins_lp (f : Pins → Pins) (s : State) : (s.modPins f).lp = s.lp := rfl
@[simp] theorem State.modPins_fab (f : Pins → Pins) (s : State) : (s.modPins f).fab = s.fab := rfl
@[simp] theorem State.modPins_pair (f : Pins → Pins) (s : State) : (s.modPins f).pair = s.pair := rfl
@[simp] theorem State.modPins_cry (f : Pins → Pins) (s : State) : (s.modPins f).cry = s.cry := rfl
@[simp] theorem State.modPins_inj (f : Pins → Pins) (s : State) : (s.modPins f).inj = s.inj := rfl
@[simp] theorem State.modPins_chn (f : Pins → Pins) (s : State) : (s.modPins f).chn = s.chn := rfl
@[simp] theorem State.modPins_soc (f : Pins → Pins) (s : State) : (s.modPins f).soc = s.soc := rfl
@[simp] theorem State.modPins_saf (f : Pins → Pins) (s : State) : (s.modPins f).saf = s.saf := rfl
@[simp] theorem State.modPins_rack (f : Pins → Pins) (s : State) : (s.modPins f).rack = s.rack := rfl
@[simp] theorem State.modPins_leg (f : Pins → Pins) (s : State) : (s.modPins f).leg = s.leg := rfl
@[simp] theorem State.modPins_freeCtr (f : Pins → Pins) (s : State) : (s.modPins f).freeCtr = s.freeCtr := rfl
@[simp] theorem State.modPins_outbox (f : Pins → Pins) (s : State) : (s.modPins f).outbox = s.outbox := rfl
@[simp] theorem State.modPins_pending (f : Pins → Pins) (s : State) : (s.modPins f).pending = s.pending := rfl
@[simp] theorem State.modBank_objs (b : Bool) (f : BankSt → BankSt) (s : State) : (s.modBank b f).objs = s.objs := rfl
@[simp] theorem State.modBank_blobs (b : Bool) (f : BankSt → BankSt) (s : State) : (s.modBank b f).blobs = s.blobs := rfl
@[simp] theorem State.modBank_rcd (b : Bool) (f : BankSt → BankSt) (s : State) : (s.modBank b f).rcd = s.rcd := rfl
@[simp] theorem State.modBank_host (b : Bool) (f : BankSt → BankSt) (s : State) : (s.modBank b f).host = s.host := rfl
@[simp] theorem State.modBank_que (b : Bool) (f : BankSt → BankSt) (s : State) : (s.modBank b f).que = s.que := rfl
@[simp] theorem State.modBank_time (b : Bool) (f : BankSt → BankSt) (s : State) : (s.modBank b f).time = s.time := rfl
@[simp] theorem State.modBank_clv (b : Bool) (f : BankSt → BankSt) (s : State) : (s.modBank b f).clv = s.clv := rfl
@[simp] theorem State.modBank_pow (b : Bool) (f : BankSt → BankSt) (s : State) : (s.modBank b f).pow = s.pow := rfl
@[simp] theorem State.modBank_card (b : Bool) (f : BankSt → BankSt) (s : State) : (s.modBank b f).card = s.card := rfl
@[simp] theorem State.modBank_lp (b : Bool) (f : BankSt → BankSt) (s : State) : (s.modBank b f).lp = s.lp := rfl
@[simp] theorem State.modBank_fab (b : Bool) (f : BankSt → BankSt) (s : State) : (s.modBank b f).fab = s.fab := rfl
@[simp] theorem State.modBank_pair (b : Bool) (f : BankSt → BankSt) (s : State) : (s.modBank b f).pair = s.pair := rfl
@[simp] theorem State.modBank_cry (b : Bool) (f : BankSt → BankSt) (s : State) : (s.modBank b f).cry = s.cry := rfl
@[simp] theorem State.modBank_inj (b : Bool) (f : BankSt → BankSt) (s : State) : (s.modBank b f).inj = s.inj := rfl
@[simp] theorem State.modBank_chn (b : Bool) (f : BankSt → BankSt) (s : State) : (s.modBank b f).chn = s.chn := rfl
@[simp] theorem State.modBank_soc (b : Bool) (f : BankSt → BankSt) (s : State) : (s.modBank b f).soc = s.soc := rfl
@[simp] theorem State.modBank_saf (b : Bool) (f : BankSt → BankSt) (s : State) : (s.modBank b f).saf = s.saf := rfl
@[simp] theorem State.modBank_rack (b : Bool) (f : BankSt → BankSt) (s : State) : (s.modBank b f).rack = s.rack := rfl
@[simp] theorem State.modBank_leg (b : Bool) (f : BankSt → BankSt) (s : State) : (s.modBank b f).leg = s.leg := rfl
@[simp] theorem State.modBank_freeCtr (b : Bool) (f : BankSt → BankSt) (s : State) : (s.modBank b f).freeCtr = s.freeCtr := rfl
@[simp] theorem State.modBank_outbox (b : Bool) (f : BankSt → BankSt) (s : State) : (s.modBank b f).outbox = s.outbox := rfl
@[simp] theorem State.modBank_pending (b : Bool) (f : BankSt → BankSt) (s : State) : (s.modBank b f).pending = s.pending := rfl
@[simp] theorem State.modSweep_objs (id : Nat) (f : Sweep → Sweep) (s : State) : (s.modSweep id f).objs = s.objs := rfl
@[simp] theorem State.modSweep_blobs (id : Nat) (f : Sweep → Sweep) (s : State) : (s.modSweep id f).blobs = s.blobs := rfl
@[simp] theorem State.modSweep_rcd (id : Nat) (f : Sweep → Sweep) (s : State) : (s.modSweep id f).rcd = s.rcd := rfl
@[simp] theorem State.modSweep_host (id : Nat) (f : Sweep → Sweep) (s : State) : (s.modSweep id f).host = s.host := rfl
@[simp] theorem State.modSweep_que (id : Nat) (f : Sweep → Sweep) (s : State) : (s.modSweep id f).que = s.que := rfl
@[simp] theorem State.modSweep_md (id : Nat) (f : Sweep → Sweep) (s : State) : (s.modSweep id f).md = s.md := rfl
@[simp] theorem State.modSweep_time (id : Nat) (f : Sweep → Sweep) (s : State) : (s.modSweep id f).time = s.time := rfl
@[simp] theorem State.modSweep_clv (id : Nat) (f : Sweep → Sweep) (s : State) : (s.modSweep id f).clv = s.clv := rfl
@[simp] theorem State.modSweep_pow (id : Nat) (f : Sweep → Sweep) (s : State) : (s.modSweep id f).pow = s.pow := rfl
@[simp] theorem State.modSweep_card (id : Nat) (f : Sweep → Sweep) (s : State) : (s.modSweep id f).card = s.card := rfl
@[simp] theorem State.modSweep_lp (id : Nat) (f : Sweep → Sweep) (s : State) : (s.modSweep id f).lp = s.lp := rfl
@[simp] theorem State.modSweep_fab (id : Nat) (f : Sweep → Sweep) (s : State) : (s.modSweep id f).fab = s.fab := rfl
@[simp] theorem State.modSweep_pair (id : Nat) (f : Sweep → Sweep) (s : State) : (s.modSweep id f).pair = s.pair := rfl
@[simp] theorem State.modSweep_cry (id : Nat) (f : Sweep → Sweep) (s : State) : (s.modSweep id f).cry = s.cry := rfl
@[simp] theorem State.modSweep_inj (id : Nat) (f : Sweep → Sweep) (s : State) : (s.modSweep id f).inj = s.inj := rfl
@[simp] theorem State.modSweep_soc (id : Nat) (f : Sweep → Sweep) (s : State) : (s.modSweep id f).soc = s.soc := rfl
@[simp] theorem State.modSweep_saf (id : Nat) (f : Sweep → Sweep) (s : State) : (s.modSweep id f).saf = s.saf := rfl
@[simp] theorem State.modSweep_rack (id : Nat) (f : Sweep → Sweep) (s : State) : (s.modSweep id f).rack = s.rack := rfl
@[simp] theorem State.modSweep_leg (id : Nat) (f : Sweep → Sweep) (s : State) : (s.modSweep id f).leg = s.leg := rfl
@[simp] theorem State.modSweep_freeCtr (id : Nat) (f : Sweep → Sweep) (s : State) : (s.modSweep id f).freeCtr = s.freeCtr := rfl
@[simp] theorem State.modSweep_outbox (id : Nat) (f : Sweep → Sweep) (s : State) : (s.modSweep id f).outbox = s.outbox := rfl
@[simp] theorem State.modSweep_pending (id : Nat) (f : Sweep → Sweep) (s : State) : (s.modSweep id f).pending = s.pending := rfl
@[simp] theorem State.modUnit_objs (u : Fin 32) (f : UnitSt → UnitSt) (s : State) : (s.modUnit u f).objs = s.objs := rfl
@[simp] theorem State.modUnit_blobs (u : Fin 32) (f : UnitSt → UnitSt) (s : State) : (s.modUnit u f).blobs = s.blobs := rfl
@[simp] theorem State.modUnit_rcd (u : Fin 32) (f : UnitSt → UnitSt) (s : State) : (s.modUnit u f).rcd = s.rcd := rfl
@[simp] theorem State.modUnit_host (u : Fin 32) (f : UnitSt → UnitSt) (s : State) : (s.modUnit u f).host = s.host := rfl
@[simp] theorem State.modUnit_que (u : Fin 32) (f : UnitSt → UnitSt) (s : State) : (s.modUnit u f).que = s.que := rfl
@[simp] theorem State.modUnit_md (u : Fin 32) (f : UnitSt → UnitSt) (s : State) : (s.modUnit u f).md = s.md := rfl
@[simp] theorem State.modUnit_time (u : Fin 32) (f : UnitSt → UnitSt) (s : State) : (s.modUnit u f).time = s.time := rfl
@[simp] theorem State.modUnit_clv (u : Fin 32) (f : UnitSt → UnitSt) (s : State) : (s.modUnit u f).clv = s.clv := rfl
@[simp] theorem State.modUnit_pow (u : Fin 32) (f : UnitSt → UnitSt) (s : State) : (s.modUnit u f).pow = s.pow := rfl
@[simp] theorem State.modUnit_card (u : Fin 32) (f : UnitSt → UnitSt) (s : State) : (s.modUnit u f).card = s.card := rfl
@[simp] theorem State.modUnit_lp (u : Fin 32) (f : UnitSt → UnitSt) (s : State) : (s.modUnit u f).lp = s.lp := rfl
@[simp] theorem State.modUnit_fab (u : Fin 32) (f : UnitSt → UnitSt) (s : State) : (s.modUnit u f).fab = s.fab := rfl
@[simp] theorem State.modUnit_pair (u : Fin 32) (f : UnitSt → UnitSt) (s : State) : (s.modUnit u f).pair = s.pair := rfl
@[simp] theorem State.modUnit_cry (u : Fin 32) (f : UnitSt → UnitSt) (s : State) : (s.modUnit u f).cry = s.cry := rfl
@[simp] theorem State.modUnit_inj (u : Fin 32) (f : UnitSt → UnitSt) (s : State) : (s.modUnit u f).inj = s.inj := rfl
@[simp] theorem State.modUnit_soc (u : Fin 32) (f : UnitSt → UnitSt) (s : State) : (s.modUnit u f).soc = s.soc := rfl
@[simp] theorem State.modUnit_saf (u : Fin 32) (f : UnitSt → UnitSt) (s : State) : (s.modUnit u f).saf = s.saf := rfl
@[simp] theorem State.modUnit_rack (u : Fin 32) (f : UnitSt → UnitSt) (s : State) : (s.modUnit u f).rack = s.rack := rfl
@[simp] theorem State.modUnit_leg (u : Fin 32) (f : UnitSt → UnitSt) (s : State) : (s.modUnit u f).leg = s.leg := rfl
@[simp] theorem State.modUnit_freeCtr (u : Fin 32) (f : UnitSt → UnitSt) (s : State) : (s.modUnit u f).freeCtr = s.freeCtr := rfl
@[simp] theorem State.modUnit_outbox (u : Fin 32) (f : UnitSt → UnitSt) (s : State) : (s.modUnit u f).outbox = s.outbox := rfl
@[simp] theorem State.modUnit_pending (u : Fin 32) (f : UnitSt → UnitSt) (s : State) : (s.modUnit u f).pending = s.pending := rfl
@[simp] theorem State.modCell_objs (k : Fin 512) (f : CellSt → CellSt) (s : State) : (s.modCell k f).objs = s.objs := rfl
@[simp] theorem State.modCell_blobs (k : Fin 512) (f : CellSt → CellSt) (s : State) : (s.modCell k f).blobs = s.blobs := rfl
@[simp] theorem State.modCell_rcd (k : Fin 512) (f : CellSt → CellSt) (s : State) : (s.modCell k f).rcd = s.rcd := rfl
@[simp] theorem State.modCell_host (k : Fin 512) (f : CellSt → CellSt) (s : State) : (s.modCell k f).host = s.host := rfl
@[simp] theorem State.modCell_que (k : Fin 512) (f : CellSt → CellSt) (s : State) : (s.modCell k f).que = s.que := rfl
@[simp] theorem State.modCell_md (k : Fin 512) (f : CellSt → CellSt) (s : State) : (s.modCell k f).md = s.md := rfl
@[simp] theorem State.modCell_time (k : Fin 512) (f : CellSt → CellSt) (s : State) : (s.modCell k f).time = s.time := rfl
@[simp] theorem State.modCell_clv (k : Fin 512) (f : CellSt → CellSt) (s : State) : (s.modCell k f).clv = s.clv := rfl
@[simp] theorem State.modCell_pow (k : Fin 512) (f : CellSt → CellSt) (s : State) : (s.modCell k f).pow = s.pow := rfl
@[simp] theorem State.modCell_card (k : Fin 512) (f : CellSt → CellSt) (s : State) : (s.modCell k f).card = s.card := rfl
@[simp] theorem State.modCell_lp (k : Fin 512) (f : CellSt → CellSt) (s : State) : (s.modCell k f).lp = s.lp := rfl
@[simp] theorem State.modCell_fab (k : Fin 512) (f : CellSt → CellSt) (s : State) : (s.modCell k f).fab = s.fab := rfl
@[simp] theorem State.modCell_pair (k : Fin 512) (f : CellSt → CellSt) (s : State) : (s.modCell k f).pair = s.pair := rfl
@[simp] theorem State.modCell_cry (k : Fin 512) (f : CellSt → CellSt) (s : State) : (s.modCell k f).cry = s.cry := rfl
@[simp] theorem State.modCell_inj (k : Fin 512) (f : CellSt → CellSt) (s : State) : (s.modCell k f).inj = s.inj := rfl
@[simp] theorem State.modCell_chn (k : Fin 512) (f : CellSt → CellSt) (s : State) : (s.modCell k f).chn = s.chn := rfl
@[simp] theorem State.modCell_saf (k : Fin 512) (f : CellSt → CellSt) (s : State) : (s.modCell k f).saf = s.saf := rfl
@[simp] theorem State.modCell_rack (k : Fin 512) (f : CellSt → CellSt) (s : State) : (s.modCell k f).rack = s.rack := rfl
@[simp] theorem State.modCell_leg (k : Fin 512) (f : CellSt → CellSt) (s : State) : (s.modCell k f).leg = s.leg := rfl
@[simp] theorem State.modCell_freeCtr (k : Fin 512) (f : CellSt → CellSt) (s : State) : (s.modCell k f).freeCtr = s.freeCtr := rfl
@[simp] theorem State.modCell_outbox (k : Fin 512) (f : CellSt → CellSt) (s : State) : (s.modCell k f).outbox = s.outbox := rfl
@[simp] theorem State.modCell_pending (k : Fin 512) (f : CellSt → CellSt) (s : State) : (s.modCell k f).pending = s.pending := rfl
@[simp] theorem State.setCell_objs (k : Fin 512) (m : Int) (s : State) : (s.setCell k m).objs = s.objs := rfl
@[simp] theorem State.setCell_blobs (k : Fin 512) (m : Int) (s : State) : (s.setCell k m).blobs = s.blobs := rfl
@[simp] theorem State.setCell_rcd (k : Fin 512) (m : Int) (s : State) : (s.setCell k m).rcd = s.rcd := rfl
@[simp] theorem State.setCell_host (k : Fin 512) (m : Int) (s : State) : (s.setCell k m).host = s.host := rfl
@[simp] theorem State.setCell_que (k : Fin 512) (m : Int) (s : State) : (s.setCell k m).que = s.que := rfl
@[simp] theorem State.setCell_md (k : Fin 512) (m : Int) (s : State) : (s.setCell k m).md = s.md := rfl
@[simp] theorem State.setCell_time (k : Fin 512) (m : Int) (s : State) : (s.setCell k m).time = s.time := rfl
@[simp] theorem State.setCell_clv (k : Fin 512) (m : Int) (s : State) : (s.setCell k m).clv = s.clv := rfl
@[simp] theorem State.setCell_pow (k : Fin 512) (m : Int) (s : State) : (s.setCell k m).pow = s.pow := rfl
@[simp] theorem State.setCell_card (k : Fin 512) (m : Int) (s : State) : (s.setCell k m).card = s.card := rfl
@[simp] theorem State.setCell_lp (k : Fin 512) (m : Int) (s : State) : (s.setCell k m).lp = s.lp := rfl
@[simp] theorem State.setCell_fab (k : Fin 512) (m : Int) (s : State) : (s.setCell k m).fab = s.fab := rfl
@[simp] theorem State.setCell_pair (k : Fin 512) (m : Int) (s : State) : (s.setCell k m).pair = s.pair := rfl
@[simp] theorem State.setCell_cry (k : Fin 512) (m : Int) (s : State) : (s.setCell k m).cry = s.cry := rfl
@[simp] theorem State.setCell_inj (k : Fin 512) (m : Int) (s : State) : (s.setCell k m).inj = s.inj := rfl
@[simp] theorem State.setCell_chn (k : Fin 512) (m : Int) (s : State) : (s.setCell k m).chn = s.chn := rfl
@[simp] theorem State.setCell_saf (k : Fin 512) (m : Int) (s : State) : (s.setCell k m).saf = s.saf := rfl
@[simp] theorem State.setCell_rack (k : Fin 512) (m : Int) (s : State) : (s.setCell k m).rack = s.rack := rfl
@[simp] theorem State.setCell_leg (k : Fin 512) (m : Int) (s : State) : (s.setCell k m).leg = s.leg := rfl
@[simp] theorem State.setCell_freeCtr (k : Fin 512) (m : Int) (s : State) : (s.setCell k m).freeCtr = s.freeCtr := rfl
@[simp] theorem State.setCell_outbox (k : Fin 512) (m : Int) (s : State) : (s.setCell k m).outbox = s.outbox := rfl
@[simp] theorem State.setCell_pending (k : Fin 512) (m : Int) (s : State) : (s.setCell k m).pending = s.pending := rfl
@[simp] theorem State.modSide_objs (n : Fin 32) (f : SideSt → SideSt) (s : State) : (s.modSide n f).objs = s.objs := rfl
@[simp] theorem State.modSide_blobs (n : Fin 32) (f : SideSt → SideSt) (s : State) : (s.modSide n f).blobs = s.blobs := rfl
@[simp] theorem State.modSide_rcd (n : Fin 32) (f : SideSt → SideSt) (s : State) : (s.modSide n f).rcd = s.rcd := rfl
@[simp] theorem State.modSide_host (n : Fin 32) (f : SideSt → SideSt) (s : State) : (s.modSide n f).host = s.host := rfl
@[simp] theorem State.modSide_que (n : Fin 32) (f : SideSt → SideSt) (s : State) : (s.modSide n f).que = s.que := rfl
@[simp] theorem State.modSide_md (n : Fin 32) (f : SideSt → SideSt) (s : State) : (s.modSide n f).md = s.md := rfl
@[simp] theorem State.modSide_time (n : Fin 32) (f : SideSt → SideSt) (s : State) : (s.modSide n f).time = s.time := rfl
@[simp] theorem State.modSide_clv (n : Fin 32) (f : SideSt → SideSt) (s : State) : (s.modSide n f).clv = s.clv := rfl
@[simp] theorem State.modSide_pow (n : Fin 32) (f : SideSt → SideSt) (s : State) : (s.modSide n f).pow = s.pow := rfl
@[simp] theorem State.modSide_card (n : Fin 32) (f : SideSt → SideSt) (s : State) : (s.modSide n f).card = s.card := rfl
@[simp] theorem State.modSide_lp (n : Fin 32) (f : SideSt → SideSt) (s : State) : (s.modSide n f).lp = s.lp := rfl
@[simp] theorem State.modSide_pair (n : Fin 32) (f : SideSt → SideSt) (s : State) : (s.modSide n f).pair = s.pair := rfl
@[simp] theorem State.modSide_cry (n : Fin 32) (f : SideSt → SideSt) (s : State) : (s.modSide n f).cry = s.cry := rfl
@[simp] theorem State.modSide_inj (n : Fin 32) (f : SideSt → SideSt) (s : State) : (s.modSide n f).inj = s.inj := rfl
@[simp] theorem State.modSide_chn (n : Fin 32) (f : SideSt → SideSt) (s : State) : (s.modSide n f).chn = s.chn := rfl
@[simp] theorem State.modSide_soc (n : Fin 32) (f : SideSt → SideSt) (s : State) : (s.modSide n f).soc = s.soc := rfl
@[simp] theorem State.modSide_saf (n : Fin 32) (f : SideSt → SideSt) (s : State) : (s.modSide n f).saf = s.saf := rfl
@[simp] theorem State.modSide_rack (n : Fin 32) (f : SideSt → SideSt) (s : State) : (s.modSide n f).rack = s.rack := rfl
@[simp] theorem State.modSide_leg (n : Fin 32) (f : SideSt → SideSt) (s : State) : (s.modSide n f).leg = s.leg := rfl
@[simp] theorem State.modSide_freeCtr (n : Fin 32) (f : SideSt → SideSt) (s : State) : (s.modSide n f).freeCtr = s.freeCtr := rfl
@[simp] theorem State.modSide_outbox (n : Fin 32) (f : SideSt → SideSt) (s : State) : (s.modSide n f).outbox = s.outbox := rfl
@[simp] theorem State.modSide_pending (n : Fin 32) (f : SideSt → SideSt) (s : State) : (s.modSide n f).pending = s.pending := rfl
@[simp] theorem State.modLink_objs (n : Fin 32) (f : LinkSt → LinkSt) (s : State) : (s.modLink n f).objs = s.objs := rfl
@[simp] theorem State.modLink_blobs (n : Fin 32) (f : LinkSt → LinkSt) (s : State) : (s.modLink n f).blobs = s.blobs := rfl
@[simp] theorem State.modLink_rcd (n : Fin 32) (f : LinkSt → LinkSt) (s : State) : (s.modLink n f).rcd = s.rcd := rfl
@[simp] theorem State.modLink_host (n : Fin 32) (f : LinkSt → LinkSt) (s : State) : (s.modLink n f).host = s.host := rfl
@[simp] theorem State.modLink_que (n : Fin 32) (f : LinkSt → LinkSt) (s : State) : (s.modLink n f).que = s.que := rfl
@[simp] theorem State.modLink_md (n : Fin 32) (f : LinkSt → LinkSt) (s : State) : (s.modLink n f).md = s.md := rfl
@[simp] theorem State.modLink_time (n : Fin 32) (f : LinkSt → LinkSt) (s : State) : (s.modLink n f).time = s.time := rfl
@[simp] theorem State.modLink_clv (n : Fin 32) (f : LinkSt → LinkSt) (s : State) : (s.modLink n f).clv = s.clv := rfl
@[simp] theorem State.modLink_pow (n : Fin 32) (f : LinkSt → LinkSt) (s : State) : (s.modLink n f).pow = s.pow := rfl
@[simp] theorem State.modLink_card (n : Fin 32) (f : LinkSt → LinkSt) (s : State) : (s.modLink n f).card = s.card := rfl
@[simp] theorem State.modLink_lp (n : Fin 32) (f : LinkSt → LinkSt) (s : State) : (s.modLink n f).lp = s.lp := rfl
@[simp] theorem State.modLink_pair (n : Fin 32) (f : LinkSt → LinkSt) (s : State) : (s.modLink n f).pair = s.pair := rfl
@[simp] theorem State.modLink_cry (n : Fin 32) (f : LinkSt → LinkSt) (s : State) : (s.modLink n f).cry = s.cry := rfl
@[simp] theorem State.modLink_inj (n : Fin 32) (f : LinkSt → LinkSt) (s : State) : (s.modLink n f).inj = s.inj := rfl
@[simp] theorem State.modLink_chn (n : Fin 32) (f : LinkSt → LinkSt) (s : State) : (s.modLink n f).chn = s.chn := rfl
@[simp] theorem State.modLink_soc (n : Fin 32) (f : LinkSt → LinkSt) (s : State) : (s.modLink n f).soc = s.soc := rfl
@[simp] theorem State.modLink_saf (n : Fin 32) (f : LinkSt → LinkSt) (s : State) : (s.modLink n f).saf = s.saf := rfl
@[simp] theorem State.modLink_rack (n : Fin 32) (f : LinkSt → LinkSt) (s : State) : (s.modLink n f).rack = s.rack := rfl
@[simp] theorem State.modLink_leg (n : Fin 32) (f : LinkSt → LinkSt) (s : State) : (s.modLink n f).leg = s.leg := rfl
@[simp] theorem State.modLink_freeCtr (n : Fin 32) (f : LinkSt → LinkSt) (s : State) : (s.modLink n f).freeCtr = s.freeCtr := rfl
@[simp] theorem State.modLink_outbox (n : Fin 32) (f : LinkSt → LinkSt) (s : State) : (s.modLink n f).outbox = s.outbox := rfl
@[simp] theorem State.modLink_pending (n : Fin 32) (f : LinkSt → LinkSt) (s : State) : (s.modLink n f).pending = s.pending := rfl
@[simp] theorem State.modRekey_objs (n : Fin 32) (f : RekeySt → RekeySt) (s : State) : (s.modRekey n f).objs = s.objs := rfl
@[simp] theorem State.modRekey_blobs (n : Fin 32) (f : RekeySt → RekeySt) (s : State) : (s.modRekey n f).blobs = s.blobs := rfl
@[simp] theorem State.modRekey_rcd (n : Fin 32) (f : RekeySt → RekeySt) (s : State) : (s.modRekey n f).rcd = s.rcd := rfl
@[simp] theorem State.modRekey_host (n : Fin 32) (f : RekeySt → RekeySt) (s : State) : (s.modRekey n f).host = s.host := rfl
@[simp] theorem State.modRekey_que (n : Fin 32) (f : RekeySt → RekeySt) (s : State) : (s.modRekey n f).que = s.que := rfl
@[simp] theorem State.modRekey_md (n : Fin 32) (f : RekeySt → RekeySt) (s : State) : (s.modRekey n f).md = s.md := rfl
@[simp] theorem State.modRekey_time (n : Fin 32) (f : RekeySt → RekeySt) (s : State) : (s.modRekey n f).time = s.time := rfl
@[simp] theorem State.modRekey_clv (n : Fin 32) (f : RekeySt → RekeySt) (s : State) : (s.modRekey n f).clv = s.clv := rfl
@[simp] theorem State.modRekey_pow (n : Fin 32) (f : RekeySt → RekeySt) (s : State) : (s.modRekey n f).pow = s.pow := rfl
@[simp] theorem State.modRekey_card (n : Fin 32) (f : RekeySt → RekeySt) (s : State) : (s.modRekey n f).card = s.card := rfl
@[simp] theorem State.modRekey_lp (n : Fin 32) (f : RekeySt → RekeySt) (s : State) : (s.modRekey n f).lp = s.lp := rfl
@[simp] theorem State.modRekey_pair (n : Fin 32) (f : RekeySt → RekeySt) (s : State) : (s.modRekey n f).pair = s.pair := rfl
@[simp] theorem State.modRekey_cry (n : Fin 32) (f : RekeySt → RekeySt) (s : State) : (s.modRekey n f).cry = s.cry := rfl
@[simp] theorem State.modRekey_inj (n : Fin 32) (f : RekeySt → RekeySt) (s : State) : (s.modRekey n f).inj = s.inj := rfl
@[simp] theorem State.modRekey_chn (n : Fin 32) (f : RekeySt → RekeySt) (s : State) : (s.modRekey n f).chn = s.chn := rfl
@[simp] theorem State.modRekey_soc (n : Fin 32) (f : RekeySt → RekeySt) (s : State) : (s.modRekey n f).soc = s.soc := rfl
@[simp] theorem State.modRekey_saf (n : Fin 32) (f : RekeySt → RekeySt) (s : State) : (s.modRekey n f).saf = s.saf := rfl
@[simp] theorem State.modRekey_rack (n : Fin 32) (f : RekeySt → RekeySt) (s : State) : (s.modRekey n f).rack = s.rack := rfl
@[simp] theorem State.modRekey_leg (n : Fin 32) (f : RekeySt → RekeySt) (s : State) : (s.modRekey n f).leg = s.leg := rfl
@[simp] theorem State.modRekey_freeCtr (n : Fin 32) (f : RekeySt → RekeySt) (s : State) : (s.modRekey n f).freeCtr = s.freeCtr := rfl
@[simp] theorem State.modRekey_outbox (n : Fin 32) (f : RekeySt → RekeySt) (s : State) : (s.modRekey n f).outbox = s.outbox := rfl
@[simp] theorem State.modRekey_pending (n : Fin 32) (f : RekeySt → RekeySt) (s : State) : (s.modRekey n f).pending = s.pending := rfl
@[simp] theorem State.setQueue_objs (x : Queue) (s : State) : (s.setQueue x).objs = s.objs := rfl
@[simp] theorem State.setQueue_blobs (x : Queue) (s : State) : (s.setQueue x).blobs = s.blobs := rfl
@[simp] theorem State.setQueue_rcd (x : Queue) (s : State) : (s.setQueue x).rcd = s.rcd := rfl
@[simp] theorem State.setQueue_host (x : Queue) (s : State) : (s.setQueue x).host = s.host := rfl
@[simp] theorem State.setQueue_md (x : Queue) (s : State) : (s.setQueue x).md = s.md := rfl
@[simp] theorem State.setQueue_time (x : Queue) (s : State) : (s.setQueue x).time = s.time := rfl
@[simp] theorem State.setQueue_clv (x : Queue) (s : State) : (s.setQueue x).clv = s.clv := rfl
@[simp] theorem State.setQueue_pow (x : Queue) (s : State) : (s.setQueue x).pow = s.pow := rfl
@[simp] theorem State.setQueue_card (x : Queue) (s : State) : (s.setQueue x).card = s.card := rfl
@[simp] theorem State.setQueue_lp (x : Queue) (s : State) : (s.setQueue x).lp = s.lp := rfl
@[simp] theorem State.setQueue_fab (x : Queue) (s : State) : (s.setQueue x).fab = s.fab := rfl
@[simp] theorem State.setQueue_pair (x : Queue) (s : State) : (s.setQueue x).pair = s.pair := rfl
@[simp] theorem State.setQueue_cry (x : Queue) (s : State) : (s.setQueue x).cry = s.cry := rfl
@[simp] theorem State.setQueue_inj (x : Queue) (s : State) : (s.setQueue x).inj = s.inj := rfl
@[simp] theorem State.setQueue_chn (x : Queue) (s : State) : (s.setQueue x).chn = s.chn := rfl
@[simp] theorem State.setQueue_soc (x : Queue) (s : State) : (s.setQueue x).soc = s.soc := rfl
@[simp] theorem State.setQueue_saf (x : Queue) (s : State) : (s.setQueue x).saf = s.saf := rfl
@[simp] theorem State.setQueue_rack (x : Queue) (s : State) : (s.setQueue x).rack = s.rack := rfl
@[simp] theorem State.setQueue_leg (x : Queue) (s : State) : (s.setQueue x).leg = s.leg := rfl
@[simp] theorem State.setQueue_freeCtr (x : Queue) (s : State) : (s.setQueue x).freeCtr = s.freeCtr := rfl
@[simp] theorem State.setQueue_outbox (x : Queue) (s : State) : (s.setQueue x).outbox = s.outbox := rfl
@[simp] theorem State.setQueue_pending (x : Queue) (s : State) : (s.setQueue x).pending = s.pending := rfl
@[simp] theorem State.modTray_objs (t : Fin 24) (f : TraySt → TraySt) (s : State) : (s.modTray t f).objs = s.objs := rfl
@[simp] theorem State.modTray_blobs (t : Fin 24) (f : TraySt → TraySt) (s : State) : (s.modTray t f).blobs = s.blobs := rfl
@[simp] theorem State.modTray_rcd (t : Fin 24) (f : TraySt → TraySt) (s : State) : (s.modTray t f).rcd = s.rcd := rfl
@[simp] theorem State.modTray_host (t : Fin 24) (f : TraySt → TraySt) (s : State) : (s.modTray t f).host = s.host := rfl
@[simp] theorem State.modTray_que (t : Fin 24) (f : TraySt → TraySt) (s : State) : (s.modTray t f).que = s.que := rfl
@[simp] theorem State.modTray_md (t : Fin 24) (f : TraySt → TraySt) (s : State) : (s.modTray t f).md = s.md := rfl
@[simp] theorem State.modTray_time (t : Fin 24) (f : TraySt → TraySt) (s : State) : (s.modTray t f).time = s.time := rfl
@[simp] theorem State.modTray_clv (t : Fin 24) (f : TraySt → TraySt) (s : State) : (s.modTray t f).clv = s.clv := rfl
@[simp] theorem State.modTray_pow (t : Fin 24) (f : TraySt → TraySt) (s : State) : (s.modTray t f).pow = s.pow := rfl
@[simp] theorem State.modTray_card (t : Fin 24) (f : TraySt → TraySt) (s : State) : (s.modTray t f).card = s.card := rfl
@[simp] theorem State.modTray_lp (t : Fin 24) (f : TraySt → TraySt) (s : State) : (s.modTray t f).lp = s.lp := rfl
@[simp] theorem State.modTray_fab (t : Fin 24) (f : TraySt → TraySt) (s : State) : (s.modTray t f).fab = s.fab := rfl
@[simp] theorem State.modTray_pair (t : Fin 24) (f : TraySt → TraySt) (s : State) : (s.modTray t f).pair = s.pair := rfl
@[simp] theorem State.modTray_cry (t : Fin 24) (f : TraySt → TraySt) (s : State) : (s.modTray t f).cry = s.cry := rfl
@[simp] theorem State.modTray_inj (t : Fin 24) (f : TraySt → TraySt) (s : State) : (s.modTray t f).inj = s.inj := rfl
@[simp] theorem State.modTray_chn (t : Fin 24) (f : TraySt → TraySt) (s : State) : (s.modTray t f).chn = s.chn := rfl
@[simp] theorem State.modTray_soc (t : Fin 24) (f : TraySt → TraySt) (s : State) : (s.modTray t f).soc = s.soc := rfl
@[simp] theorem State.modTray_saf (t : Fin 24) (f : TraySt → TraySt) (s : State) : (s.modTray t f).saf = s.saf := rfl
@[simp] theorem State.modTray_leg (t : Fin 24) (f : TraySt → TraySt) (s : State) : (s.modTray t f).leg = s.leg := rfl
@[simp] theorem State.modTray_freeCtr (t : Fin 24) (f : TraySt → TraySt) (s : State) : (s.modTray t f).freeCtr = s.freeCtr := rfl
@[simp] theorem State.modTray_outbox (t : Fin 24) (f : TraySt → TraySt) (s : State) : (s.modTray t f).outbox = s.outbox := rfl
@[simp] theorem State.modTray_pending (t : Fin 24) (f : TraySt → TraySt) (s : State) : (s.modTray t f).pending = s.pending := rfl
@[simp] theorem State.modGroup_objs (g : Fin 64) (f : GroupSt → GroupSt) (s : State) : (s.modGroup g f).objs = s.objs := rfl
@[simp] theorem State.modGroup_blobs (g : Fin 64) (f : GroupSt → GroupSt) (s : State) : (s.modGroup g f).blobs = s.blobs := rfl
@[simp] theorem State.modGroup_rcd (g : Fin 64) (f : GroupSt → GroupSt) (s : State) : (s.modGroup g f).rcd = s.rcd := rfl
@[simp] theorem State.modGroup_host (g : Fin 64) (f : GroupSt → GroupSt) (s : State) : (s.modGroup g f).host = s.host := rfl
@[simp] theorem State.modGroup_que (g : Fin 64) (f : GroupSt → GroupSt) (s : State) : (s.modGroup g f).que = s.que := rfl
@[simp] theorem State.modGroup_md (g : Fin 64) (f : GroupSt → GroupSt) (s : State) : (s.modGroup g f).md = s.md := rfl
@[simp] theorem State.modGroup_time (g : Fin 64) (f : GroupSt → GroupSt) (s : State) : (s.modGroup g f).time = s.time := rfl
@[simp] theorem State.modGroup_clv (g : Fin 64) (f : GroupSt → GroupSt) (s : State) : (s.modGroup g f).clv = s.clv := rfl
@[simp] theorem State.modGroup_pow (g : Fin 64) (f : GroupSt → GroupSt) (s : State) : (s.modGroup g f).pow = s.pow := rfl
@[simp] theorem State.modGroup_card (g : Fin 64) (f : GroupSt → GroupSt) (s : State) : (s.modGroup g f).card = s.card := rfl
@[simp] theorem State.modGroup_lp (g : Fin 64) (f : GroupSt → GroupSt) (s : State) : (s.modGroup g f).lp = s.lp := rfl
@[simp] theorem State.modGroup_fab (g : Fin 64) (f : GroupSt → GroupSt) (s : State) : (s.modGroup g f).fab = s.fab := rfl
@[simp] theorem State.modGroup_pair (g : Fin 64) (f : GroupSt → GroupSt) (s : State) : (s.modGroup g f).pair = s.pair := rfl
@[simp] theorem State.modGroup_cry (g : Fin 64) (f : GroupSt → GroupSt) (s : State) : (s.modGroup g f).cry = s.cry := rfl
@[simp] theorem State.modGroup_inj (g : Fin 64) (f : GroupSt → GroupSt) (s : State) : (s.modGroup g f).inj = s.inj := rfl
@[simp] theorem State.modGroup_chn (g : Fin 64) (f : GroupSt → GroupSt) (s : State) : (s.modGroup g f).chn = s.chn := rfl
@[simp] theorem State.modGroup_soc (g : Fin 64) (f : GroupSt → GroupSt) (s : State) : (s.modGroup g f).soc = s.soc := rfl
@[simp] theorem State.modGroup_saf (g : Fin 64) (f : GroupSt → GroupSt) (s : State) : (s.modGroup g f).saf = s.saf := rfl
@[simp] theorem State.modGroup_leg (g : Fin 64) (f : GroupSt → GroupSt) (s : State) : (s.modGroup g f).leg = s.leg := rfl
@[simp] theorem State.modGroup_freeCtr (g : Fin 64) (f : GroupSt → GroupSt) (s : State) : (s.modGroup g f).freeCtr = s.freeCtr := rfl
@[simp] theorem State.modGroup_outbox (g : Fin 64) (f : GroupSt → GroupSt) (s : State) : (s.modGroup g f).outbox = s.outbox := rfl
@[simp] theorem State.modGroup_pending (g : Fin 64) (f : GroupSt → GroupSt) (s : State) : (s.modGroup g f).pending = s.pending := rfl
@[simp] theorem State.setQuote_objs (q : QuoteSt) (s : State) : (s.setQuote q).objs = s.objs := rfl
@[simp] theorem State.setQuote_blobs (q : QuoteSt) (s : State) : (s.setQuote q).blobs = s.blobs := rfl
@[simp] theorem State.setQuote_rcd (q : QuoteSt) (s : State) : (s.setQuote q).rcd = s.rcd := rfl
@[simp] theorem State.setQuote_host (q : QuoteSt) (s : State) : (s.setQuote q).host = s.host := rfl
@[simp] theorem State.setQuote_que (q : QuoteSt) (s : State) : (s.setQuote q).que = s.que := rfl
@[simp] theorem State.setQuote_md (q : QuoteSt) (s : State) : (s.setQuote q).md = s.md := rfl
@[simp] theorem State.setQuote_time (q : QuoteSt) (s : State) : (s.setQuote q).time = s.time := rfl
@[simp] theorem State.setQuote_clv (q : QuoteSt) (s : State) : (s.setQuote q).clv = s.clv := rfl
@[simp] theorem State.setQuote_pow (q : QuoteSt) (s : State) : (s.setQuote q).pow = s.pow := rfl
@[simp] theorem State.setQuote_card (q : QuoteSt) (s : State) : (s.setQuote q).card = s.card := rfl
@[simp] theorem State.setQuote_lp (q : QuoteSt) (s : State) : (s.setQuote q).lp = s.lp := rfl
@[simp] theorem State.setQuote_fab (q : QuoteSt) (s : State) : (s.setQuote q).fab = s.fab := rfl
@[simp] theorem State.setQuote_pair (q : QuoteSt) (s : State) : (s.setQuote q).pair = s.pair := rfl
@[simp] theorem State.setQuote_inj (q : QuoteSt) (s : State) : (s.setQuote q).inj = s.inj := rfl
@[simp] theorem State.setQuote_chn (q : QuoteSt) (s : State) : (s.setQuote q).chn = s.chn := rfl
@[simp] theorem State.setQuote_soc (q : QuoteSt) (s : State) : (s.setQuote q).soc = s.soc := rfl
@[simp] theorem State.setQuote_saf (q : QuoteSt) (s : State) : (s.setQuote q).saf = s.saf := rfl
@[simp] theorem State.setQuote_rack (q : QuoteSt) (s : State) : (s.setQuote q).rack = s.rack := rfl
@[simp] theorem State.setQuote_leg (q : QuoteSt) (s : State) : (s.setQuote q).leg = s.leg := rfl
@[simp] theorem State.setQuote_freeCtr (q : QuoteSt) (s : State) : (s.setQuote q).freeCtr = s.freeCtr := rfl
@[simp] theorem State.setQuote_outbox (q : QuoteSt) (s : State) : (s.setQuote q).outbox = s.outbox := rfl
@[simp] theorem State.setQuote_pending (q : QuoteSt) (s : State) : (s.setQuote q).pending = s.pending := rfl
@[simp] theorem State.modTransfer_objs (sess : Nat) (id : Nat) (f : Transfer → Transfer) (s : State) : (s.modTransfer sess id f).objs = s.objs := rfl
@[simp] theorem State.modTransfer_blobs (sess : Nat) (id : Nat) (f : Transfer → Transfer) (s : State) : (s.modTransfer sess id f).blobs = s.blobs := rfl
@[simp] theorem State.modTransfer_rcd (sess : Nat) (id : Nat) (f : Transfer → Transfer) (s : State) : (s.modTransfer sess id f).rcd = s.rcd := rfl
@[simp] theorem State.modTransfer_que (sess : Nat) (id : Nat) (f : Transfer → Transfer) (s : State) : (s.modTransfer sess id f).que = s.que := rfl
@[simp] theorem State.modTransfer_md (sess : Nat) (id : Nat) (f : Transfer → Transfer) (s : State) : (s.modTransfer sess id f).md = s.md := rfl
@[simp] theorem State.modTransfer_time (sess : Nat) (id : Nat) (f : Transfer → Transfer) (s : State) : (s.modTransfer sess id f).time = s.time := rfl
@[simp] theorem State.modTransfer_clv (sess : Nat) (id : Nat) (f : Transfer → Transfer) (s : State) : (s.modTransfer sess id f).clv = s.clv := rfl
@[simp] theorem State.modTransfer_pow (sess : Nat) (id : Nat) (f : Transfer → Transfer) (s : State) : (s.modTransfer sess id f).pow = s.pow := rfl
@[simp] theorem State.modTransfer_card (sess : Nat) (id : Nat) (f : Transfer → Transfer) (s : State) : (s.modTransfer sess id f).card = s.card := rfl
@[simp] theorem State.modTransfer_lp (sess : Nat) (id : Nat) (f : Transfer → Transfer) (s : State) : (s.modTransfer sess id f).lp = s.lp := rfl
@[simp] theorem State.modTransfer_fab (sess : Nat) (id : Nat) (f : Transfer → Transfer) (s : State) : (s.modTransfer sess id f).fab = s.fab := rfl
@[simp] theorem State.modTransfer_pair (sess : Nat) (id : Nat) (f : Transfer → Transfer) (s : State) : (s.modTransfer sess id f).pair = s.pair := rfl
@[simp] theorem State.modTransfer_cry (sess : Nat) (id : Nat) (f : Transfer → Transfer) (s : State) : (s.modTransfer sess id f).cry = s.cry := rfl
@[simp] theorem State.modTransfer_inj (sess : Nat) (id : Nat) (f : Transfer → Transfer) (s : State) : (s.modTransfer sess id f).inj = s.inj := rfl
@[simp] theorem State.modTransfer_chn (sess : Nat) (id : Nat) (f : Transfer → Transfer) (s : State) : (s.modTransfer sess id f).chn = s.chn := rfl
@[simp] theorem State.modTransfer_soc (sess : Nat) (id : Nat) (f : Transfer → Transfer) (s : State) : (s.modTransfer sess id f).soc = s.soc := rfl
@[simp] theorem State.modTransfer_saf (sess : Nat) (id : Nat) (f : Transfer → Transfer) (s : State) : (s.modTransfer sess id f).saf = s.saf := rfl
@[simp] theorem State.modTransfer_rack (sess : Nat) (id : Nat) (f : Transfer → Transfer) (s : State) : (s.modTransfer sess id f).rack = s.rack := rfl
@[simp] theorem State.modTransfer_leg (sess : Nat) (id : Nat) (f : Transfer → Transfer) (s : State) : (s.modTransfer sess id f).leg = s.leg := rfl
@[simp] theorem State.modTransfer_freeCtr (sess : Nat) (id : Nat) (f : Transfer → Transfer) (s : State) : (s.modTransfer sess id f).freeCtr = s.freeCtr := rfl
@[simp] theorem State.modTransfer_outbox (sess : Nat) (id : Nat) (f : Transfer → Transfer) (s : State) : (s.modTransfer sess id f).outbox = s.outbox := rfl
@[simp] theorem State.modTransfer_pending (sess : Nat) (id : Nat) (f : Transfer → Transfer) (s : State) : (s.modTransfer sess id f).pending = s.pending := rfl
@[simp] theorem State.numberPushes_objs (cause : Nat) (n : Nat) (a : Args) (s : State) : (s.numberPushes cause n a).objs = s.objs := rfl
@[simp] theorem State.numberPushes_blobs (cause : Nat) (n : Nat) (a : Args) (s : State) : (s.numberPushes cause n a).blobs = s.blobs := rfl
@[simp] theorem State.numberPushes_rcd (cause : Nat) (n : Nat) (a : Args) (s : State) : (s.numberPushes cause n a).rcd = s.rcd := rfl
@[simp] theorem State.numberPushes_que (cause : Nat) (n : Nat) (a : Args) (s : State) : (s.numberPushes cause n a).que = s.que := rfl
@[simp] theorem State.numberPushes_md (cause : Nat) (n : Nat) (a : Args) (s : State) : (s.numberPushes cause n a).md = s.md := rfl
@[simp] theorem State.numberPushes_time (cause : Nat) (n : Nat) (a : Args) (s : State) : (s.numberPushes cause n a).time = s.time := rfl
@[simp] theorem State.numberPushes_clv (cause : Nat) (n : Nat) (a : Args) (s : State) : (s.numberPushes cause n a).clv = s.clv := rfl
@[simp] theorem State.numberPushes_pow (cause : Nat) (n : Nat) (a : Args) (s : State) : (s.numberPushes cause n a).pow = s.pow := rfl
@[simp] theorem State.numberPushes_card (cause : Nat) (n : Nat) (a : Args) (s : State) : (s.numberPushes cause n a).card = s.card := rfl
@[simp] theorem State.numberPushes_lp (cause : Nat) (n : Nat) (a : Args) (s : State) : (s.numberPushes cause n a).lp = s.lp := rfl
@[simp] theorem State.numberPushes_fab (cause : Nat) (n : Nat) (a : Args) (s : State) : (s.numberPushes cause n a).fab = s.fab := rfl
@[simp] theorem State.numberPushes_pair (cause : Nat) (n : Nat) (a : Args) (s : State) : (s.numberPushes cause n a).pair = s.pair := rfl
@[simp] theorem State.numberPushes_cry (cause : Nat) (n : Nat) (a : Args) (s : State) : (s.numberPushes cause n a).cry = s.cry := rfl
@[simp] theorem State.numberPushes_inj (cause : Nat) (n : Nat) (a : Args) (s : State) : (s.numberPushes cause n a).inj = s.inj := rfl
@[simp] theorem State.numberPushes_chn (cause : Nat) (n : Nat) (a : Args) (s : State) : (s.numberPushes cause n a).chn = s.chn := rfl
@[simp] theorem State.numberPushes_soc (cause : Nat) (n : Nat) (a : Args) (s : State) : (s.numberPushes cause n a).soc = s.soc := rfl
@[simp] theorem State.numberPushes_saf (cause : Nat) (n : Nat) (a : Args) (s : State) : (s.numberPushes cause n a).saf = s.saf := rfl
@[simp] theorem State.numberPushes_rack (cause : Nat) (n : Nat) (a : Args) (s : State) : (s.numberPushes cause n a).rack = s.rack := rfl
@[simp] theorem State.numberPushes_leg (cause : Nat) (n : Nat) (a : Args) (s : State) : (s.numberPushes cause n a).leg = s.leg := rfl
@[simp] theorem State.numberPushes_freeCtr (cause : Nat) (n : Nat) (a : Args) (s : State) : (s.numberPushes cause n a).freeCtr = s.freeCtr := rfl
@[simp] theorem State.numberPushes_outbox (cause : Nat) (n : Nat) (a : Args) (s : State) : (s.numberPushes cause n a).outbox = s.outbox := rfl
@[simp] theorem State.numberPushes_pending (cause : Nat) (n : Nat) (a : Args) (s : State) : (s.numberPushes cause n a).pending = s.pending := rfl
@[simp] theorem State.nameReply_objs (sess : Nat) (reply : Nat) (s : State) : (s.nameReply sess reply).objs = s.objs := rfl
@[simp] theorem State.nameReply_blobs (sess : Nat) (reply : Nat) (s : State) : (s.nameReply sess reply).blobs = s.blobs := rfl
@[simp] theorem State.nameReply_rcd (sess : Nat) (reply : Nat) (s : State) : (s.nameReply sess reply).rcd = s.rcd := rfl
@[simp] theorem State.nameReply_host (sess : Nat) (reply : Nat) (s : State) : (s.nameReply sess reply).host = s.host := rfl
@[simp] theorem State.nameReply_que (sess : Nat) (reply : Nat) (s : State) : (s.nameReply sess reply).que = s.que := rfl
@[simp] theorem State.nameReply_md (sess : Nat) (reply : Nat) (s : State) : (s.nameReply sess reply).md = s.md := rfl
@[simp] theorem State.nameReply_time (sess : Nat) (reply : Nat) (s : State) : (s.nameReply sess reply).time = s.time := rfl
@[simp] theorem State.nameReply_clv (sess : Nat) (reply : Nat) (s : State) : (s.nameReply sess reply).clv = s.clv := rfl
@[simp] theorem State.nameReply_pow (sess : Nat) (reply : Nat) (s : State) : (s.nameReply sess reply).pow = s.pow := rfl
@[simp] theorem State.nameReply_lp (sess : Nat) (reply : Nat) (s : State) : (s.nameReply sess reply).lp = s.lp := rfl
@[simp] theorem State.nameReply_fab (sess : Nat) (reply : Nat) (s : State) : (s.nameReply sess reply).fab = s.fab := rfl
@[simp] theorem State.nameReply_cry (sess : Nat) (reply : Nat) (s : State) : (s.nameReply sess reply).cry = s.cry := rfl
@[simp] theorem State.nameReply_inj (sess : Nat) (reply : Nat) (s : State) : (s.nameReply sess reply).inj = s.inj := rfl
@[simp] theorem State.nameReply_chn (sess : Nat) (reply : Nat) (s : State) : (s.nameReply sess reply).chn = s.chn := rfl
@[simp] theorem State.nameReply_soc (sess : Nat) (reply : Nat) (s : State) : (s.nameReply sess reply).soc = s.soc := rfl
@[simp] theorem State.nameReply_saf (sess : Nat) (reply : Nat) (s : State) : (s.nameReply sess reply).saf = s.saf := rfl
@[simp] theorem State.nameReply_rack (sess : Nat) (reply : Nat) (s : State) : (s.nameReply sess reply).rack = s.rack := rfl
@[simp] theorem State.nameReply_leg (sess : Nat) (reply : Nat) (s : State) : (s.nameReply sess reply).leg = s.leg := rfl
@[simp] theorem State.nameReply_freeCtr (sess : Nat) (reply : Nat) (s : State) : (s.nameReply sess reply).freeCtr = s.freeCtr := rfl
@[simp] theorem State.nameReply_outbox (sess : Nat) (reply : Nat) (s : State) : (s.nameReply sess reply).outbox = s.outbox := rfl
@[simp] theorem State.nameReply_pending (sess : Nat) (reply : Nat) (s : State) : (s.nameReply sess reply).pending = s.pending := rfl
@[simp] theorem State.setConv_objs (c : Conv) (x : ConvSt) (s : State) : (s.setConv c x).objs = s.objs := by cases c <;> rfl
@[simp] theorem State.setConv_blobs (c : Conv) (x : ConvSt) (s : State) : (s.setConv c x).blobs = s.blobs := by cases c <;> rfl
@[simp] theorem State.setConv_rcd (c : Conv) (x : ConvSt) (s : State) : (s.setConv c x).rcd = s.rcd := by cases c <;> rfl
@[simp] theorem State.setConv_host (c : Conv) (x : ConvSt) (s : State) : (s.setConv c x).host = s.host := by cases c <;> rfl
@[simp] theorem State.setConv_que (c : Conv) (x : ConvSt) (s : State) : (s.setConv c x).que = s.que := by cases c <;> rfl
@[simp] theorem State.setConv_md (c : Conv) (x : ConvSt) (s : State) : (s.setConv c x).md = s.md := by cases c <;> rfl
@[simp] theorem State.setConv_time (c : Conv) (x : ConvSt) (s : State) : (s.setConv c x).time = s.time := by cases c <;> rfl
@[simp] theorem State.setConv_clv (c : Conv) (x : ConvSt) (s : State) : (s.setConv c x).clv = s.clv := by cases c <;> rfl
@[simp] theorem State.setConv_card (c : Conv) (x : ConvSt) (s : State) : (s.setConv c x).card = s.card := by cases c <;> rfl
@[simp] theorem State.setConv_lp (c : Conv) (x : ConvSt) (s : State) : (s.setConv c x).lp = s.lp := by cases c <;> rfl
@[simp] theorem State.setConv_fab (c : Conv) (x : ConvSt) (s : State) : (s.setConv c x).fab = s.fab := by cases c <;> rfl
@[simp] theorem State.setConv_pair (c : Conv) (x : ConvSt) (s : State) : (s.setConv c x).pair = s.pair := by cases c <;> rfl
@[simp] theorem State.setConv_cry (c : Conv) (x : ConvSt) (s : State) : (s.setConv c x).cry = s.cry := by cases c <;> rfl
@[simp] theorem State.setConv_inj (c : Conv) (x : ConvSt) (s : State) : (s.setConv c x).inj = s.inj := by cases c <;> rfl
@[simp] theorem State.setConv_chn (c : Conv) (x : ConvSt) (s : State) : (s.setConv c x).chn = s.chn := by cases c <;> rfl
@[simp] theorem State.setConv_soc (c : Conv) (x : ConvSt) (s : State) : (s.setConv c x).soc = s.soc := by cases c <;> rfl
@[simp] theorem State.setConv_saf (c : Conv) (x : ConvSt) (s : State) : (s.setConv c x).saf = s.saf := by cases c <;> rfl
@[simp] theorem State.setConv_rack (c : Conv) (x : ConvSt) (s : State) : (s.setConv c x).rack = s.rack := by cases c <;> rfl
@[simp] theorem State.setConv_leg (c : Conv) (x : ConvSt) (s : State) : (s.setConv c x).leg = s.leg := by cases c <;> rfl
@[simp] theorem State.setConv_freeCtr (c : Conv) (x : ConvSt) (s : State) : (s.setConv c x).freeCtr = s.freeCtr := by cases c <;> rfl
@[simp] theorem State.setConv_outbox (c : Conv) (x : ConvSt) (s : State) : (s.setConv c x).outbox = s.outbox := by cases c <;> rfl
@[simp] theorem State.setConv_pending (c : Conv) (x : ConvSt) (s : State) : (s.setConv c x).pending = s.pending := by cases c <;> rfl
@[simp] theorem State.modConv_objs (c : Conv) (f : ConvSt → ConvSt) (s : State) : (s.modConv c f).objs = s.objs := by cases c <;> rfl
@[simp] theorem State.modConv_blobs (c : Conv) (f : ConvSt → ConvSt) (s : State) : (s.modConv c f).blobs = s.blobs := by cases c <;> rfl
@[simp] theorem State.modConv_rcd (c : Conv) (f : ConvSt → ConvSt) (s : State) : (s.modConv c f).rcd = s.rcd := by cases c <;> rfl
@[simp] theorem State.modConv_host (c : Conv) (f : ConvSt → ConvSt) (s : State) : (s.modConv c f).host = s.host := by cases c <;> rfl
@[simp] theorem State.modConv_que (c : Conv) (f : ConvSt → ConvSt) (s : State) : (s.modConv c f).que = s.que := by cases c <;> rfl
@[simp] theorem State.modConv_md (c : Conv) (f : ConvSt → ConvSt) (s : State) : (s.modConv c f).md = s.md := by cases c <;> rfl
@[simp] theorem State.modConv_time (c : Conv) (f : ConvSt → ConvSt) (s : State) : (s.modConv c f).time = s.time := by cases c <;> rfl
@[simp] theorem State.modConv_clv (c : Conv) (f : ConvSt → ConvSt) (s : State) : (s.modConv c f).clv = s.clv := by cases c <;> rfl
@[simp] theorem State.modConv_card (c : Conv) (f : ConvSt → ConvSt) (s : State) : (s.modConv c f).card = s.card := by cases c <;> rfl
@[simp] theorem State.modConv_lp (c : Conv) (f : ConvSt → ConvSt) (s : State) : (s.modConv c f).lp = s.lp := by cases c <;> rfl
@[simp] theorem State.modConv_fab (c : Conv) (f : ConvSt → ConvSt) (s : State) : (s.modConv c f).fab = s.fab := by cases c <;> rfl
@[simp] theorem State.modConv_pair (c : Conv) (f : ConvSt → ConvSt) (s : State) : (s.modConv c f).pair = s.pair := by cases c <;> rfl
@[simp] theorem State.modConv_cry (c : Conv) (f : ConvSt → ConvSt) (s : State) : (s.modConv c f).cry = s.cry := by cases c <;> rfl
@[simp] theorem State.modConv_inj (c : Conv) (f : ConvSt → ConvSt) (s : State) : (s.modConv c f).inj = s.inj := by cases c <;> rfl
@[simp] theorem State.modConv_chn (c : Conv) (f : ConvSt → ConvSt) (s : State) : (s.modConv c f).chn = s.chn := by cases c <;> rfl
@[simp] theorem State.modConv_soc (c : Conv) (f : ConvSt → ConvSt) (s : State) : (s.modConv c f).soc = s.soc := by cases c <;> rfl
@[simp] theorem State.modConv_saf (c : Conv) (f : ConvSt → ConvSt) (s : State) : (s.modConv c f).saf = s.saf := by cases c <;> rfl
@[simp] theorem State.modConv_rack (c : Conv) (f : ConvSt → ConvSt) (s : State) : (s.modConv c f).rack = s.rack := by cases c <;> rfl
@[simp] theorem State.modConv_leg (c : Conv) (f : ConvSt → ConvSt) (s : State) : (s.modConv c f).leg = s.leg := by cases c <;> rfl
@[simp] theorem State.modConv_freeCtr (c : Conv) (f : ConvSt → ConvSt) (s : State) : (s.modConv c f).freeCtr = s.freeCtr := by cases c <;> rfl
@[simp] theorem State.modConv_outbox (c : Conv) (f : ConvSt → ConvSt) (s : State) : (s.modConv c f).outbox = s.outbox := by cases c <;> rfl
@[simp] theorem State.modConv_pending (c : Conv) (f : ConvSt → ConvSt) (s : State) : (s.modConv c f).pending = s.pending := by cases c <;> rfl

end Sys2Proof.Machine
end

