-- ==== Sys2Proof/Laws/Ops.lean ====
section
/-! SUPPORT. What the shared operations of Machine/Ops.lean can do: counting changes objects and perhaps the next free
value; raising a cause changes objects, the recorder and the sessions' pushes as well; nothing else moves. -/

namespace Sys2Proof.Machine

/-- All but the objects, the recorder, the sessions and the next free value are the same. -/
structure Noted (s t : State) : Prop where
  blobs : t.blobs = s.blobs
  que : t.que = s.que
  md : t.md = s.md
  time : t.time = s.time
  clv : t.clv = s.clv
  pow : t.pow = s.pow
  card : t.card = s.card
  lp : t.lp = s.lp
  fab : t.fab = s.fab
  pair : t.pair = s.pair
  cry : t.cry = s.cry
  inj : t.inj = s.inj
  chn : t.chn = s.chn
  soc : t.soc = s.soc
  saf : t.saf = s.saf
  rack : t.rack = s.rack
  leg : t.leg = s.leg
  outbox : t.outbox = s.outbox
  pending : t.pending = s.pending

theorem Noted.rfl {s : State} : Noted s s := by constructor <;> rfl

theorem Noted.trans {s t u : State} (h : Noted s t) (g : Noted t u) : Noted s u := by
  constructor
  · exact g.blobs.trans h.blobs
  · exact g.que.trans h.que
  · exact g.md.trans h.md
  · exact g.time.trans h.time
  · exact g.clv.trans h.clv
  · exact g.pow.trans h.pow
  · exact g.card.trans h.card
  · exact g.lp.trans h.lp
  · exact g.fab.trans h.fab
  · exact g.pair.trans h.pair
  · exact g.cry.trans h.cry
  · exact g.inj.trans h.inj
  · exact g.chn.trans h.chn
  · exact g.soc.trans h.soc
  · exact g.saf.trans h.saf
  · exact g.rack.trans h.rack
  · exact g.leg.trans h.leg
  · exact g.outbox.trans h.outbox
  · exact g.pending.trans h.pending

theorem Noted.when {s t : State} {b : Bool} {f : State → State} (h : Noted s t) (hf : Noted t (f t)) : Noted s (t.when b f) := by
  unfold State.when
  split
  · exact h.trans hf
  · exact h

theorem State.put_noted (k : Nat) (v : Int) (s : State) : Noted s (s.put k v) := by constructor <;> rfl
theorem State.putB_noted (k : Nat) (b : Bool) (s : State) : Noted s (s.putB k b) := by constructor <;> rfl
theorem State.useFree_noted (s : State) : Noted s s.useFree := by constructor <;> rfl

theorem State.countBy_noted (b k n : Nat) (s : State) : Noted s (s.countBy b k n) := by
  unfold State.countBy
  split
  · exact State.put_noted _ _ _
  · exact (State.put_noted _ _ _).trans (State.useFree_noted _)

theorem State.inc_noted (k : Nat) (s : State) : Noted s (s.inc k) := State.countBy_noted _ _ _ _
theorem State.inc64_noted (k : Nat) (s : State) : Noted s (s.inc64 k) := State.countBy_noted _ _ _ _

theorem State.putMax_noted (k : Nat) (v : Int) (s : State) : Noted s (s.putMax k v) := by
  unfold State.putMax
  split
  · exact State.put_noted _ _ _
  · exact Noted.rfl

theorem State.preparePush_noted (p : Push) (s : State) : Noted s (s.preparePush p) := by
  unfold State.preparePush
  exact Noted.when (by constructor <;> rfl) (State.countBy_noted _ _ _ _)

theorem State.setRcd_noted (r : RecState) (s : State) : Noted s { s with rcd := r } := by constructor <;> rfl

theorem State.stage_noted (e : StagedCause) (s : State) : Noted s (s.stage e) := by
  unfold State.stage
  exact (State.setRcd_noted _ _).trans (State.putMax_noted _ _ _)

theorem State.notStaged_noted (ft : Nat) (s : State) : Noted s (s.notStaged ft) := by
  unfold State.notStaged
  exact (State.setRcd_noted _ _).trans (State.inc_noted _ _)

theorem State.offerNew_noted (c ft : Nat) (a : Args) (t : Option Nat) (s : State) :
    Noted s (State.offerCause.offerNew c ft a t s) := by
  unfold State.offerCause.offerNew
  split
  · exact (State.stage_noted _ _).trans (State.preparePush_noted _ _)
  · exact (State.notStaged_noted _ _).trans (State.preparePush_noted _ _)

theorem State.offerNext_noted (c ft : Nat) (a : Args) (t : Option Nat) (s : State) :
    Noted s (State.offerCause.offerNext c ft a t s) := by
  unfold State.offerCause.offerNext
  have hn := State.offerNew_noted c ft a t s
  dsimp only
  split
  · split
    · exact (State.setRcd_noted _ _).trans (State.preparePush_noted _ _)
    · exact hn
  · exact hn

theorem State.offerCause_noted (c ft : Nat) (a : Args) (t : Option Nat) (s : State) : Noted s (s.offerCause c ft a t) := by
  unfold State.offerCause
  have hn := State.offerNext_noted c ft a t s
  dsimp only
  split
  · split
    · exact (State.setRcd_noted _ _).trans (State.preparePush_noted _ _)
    · exact hn
  · exact hn

theorem State.raiseOwn_noted (c ft : Nat) (a : Args) (s : State) : Noted s (s.raiseOwn c ft a) := by
  unfold State.raiseOwn
  split
  · exact (State.inc_noted _ _).trans (State.offerCause_noted _ _ _ _ _)
  · split
    · exact State.offerCause_noted _ _ _ _ _
    · exact State.preparePush_noted _ _

theorem State.raiseAt_noted (c ft : Nat) (a : Args) (s : State) : Noted s (s.raiseAt c ft a) := by
  unfold State.raiseAt
  split
  · split <;> exact State.raiseOwn_noted _ _ _ _
  · exact State.raiseOwn_noted _ _ _ _

theorem State.raise_noted (c : Nat) (a : Args) (s : State) : Noted s (s.raise c a) := State.raiseAt_noted _ _ _ _
theorem State.raiseOn_noted (c subj : Nat) (s : State) : Noted s (s.raiseOn c subj) := State.raise_noted _ _ _
theorem State.raise0_noted (c : Nat) (s : State) : Noted s (s.raise0 c) := State.raise_noted _ _ _

@[simp] theorem State.countBy_blobs (b k n : Nat) (s : State) : (s.countBy b k n).blobs = s.blobs := (State.countBy_noted _ _ _ _).blobs
@[simp] theorem State.countBy_que (b k n : Nat) (s : State) : (s.countBy b k n).que = s.que := (State.countBy_noted _ _ _ _).que
@[simp] theorem State.countBy_md (b k n : Nat) (s : State) : (s.countBy b k n).md = s.md := (State.countBy_noted _ _ _ _).md
@[simp] theorem State.countBy_time (b k n : Nat) (s : State) : (s.countBy b k n).time = s.time := (State.countBy_noted _ _ _ _).time
@[simp] theorem State.countBy_clv (b k n : Nat) (s : State) : (s.countBy b k n).clv = s.clv := (State.countBy_noted _ _ _ _).clv
@[simp] theorem State.countBy_pow (b k n : Nat) (s : State) : (s.countBy b k n).pow = s.pow := (State.countBy_noted _ _ _ _).pow
@[simp] theorem State.countBy_card (b k n : Nat) (s : State) : (s.countBy b k n).card = s.card := (State.countBy_noted _ _ _ _).card
@[simp] theorem State.countBy_lp (b k n : Nat) (s : State) : (s.countBy b k n).lp = s.lp := (State.countBy_noted _ _ _ _).lp
@[simp] theorem State.countBy_fab (b k n : Nat) (s : State) : (s.countBy b k n).fab = s.fab := (State.countBy_noted _ _ _ _).fab
@[simp] theorem State.countBy_pair (b k n : Nat) (s : State) : (s.countBy b k n).pair = s.pair := (State.countBy_noted _ _ _ _).pair
@[simp] theorem State.countBy_cry (b k n : Nat) (s : State) : (s.countBy b k n).cry = s.cry := (State.countBy_noted _ _ _ _).cry
@[simp] theorem State.countBy_inj (b k n : Nat) (s : State) : (s.countBy b k n).inj = s.inj := (State.countBy_noted _ _ _ _).inj
@[simp] theorem State.countBy_chn (b k n : Nat) (s : State) : (s.countBy b k n).chn = s.chn := (State.countBy_noted _ _ _ _).chn
@[simp] theorem State.countBy_soc (b k n : Nat) (s : State) : (s.countBy b k n).soc = s.soc := (State.countBy_noted _ _ _ _).soc
@[simp] theorem State.countBy_saf (b k n : Nat) (s : State) : (s.countBy b k n).saf = s.saf := (State.countBy_noted _ _ _ _).saf
@[simp] theorem State.countBy_rack (b k n : Nat) (s : State) : (s.countBy b k n).rack = s.rack := (State.countBy_noted _ _ _ _).rack
@[simp] theorem State.countBy_leg (b k n : Nat) (s : State) : (s.countBy b k n).leg = s.leg := (State.countBy_noted _ _ _ _).leg
@[simp] theorem State.countBy_outbox (b k n : Nat) (s : State) : (s.countBy b k n).outbox = s.outbox := (State.countBy_noted _ _ _ _).outbox
@[simp] theorem State.countBy_pending (b k n : Nat) (s : State) : (s.countBy b k n).pending = s.pending := (State.countBy_noted _ _ _ _).pending

@[simp] theorem State.inc_blobs (k : Nat) (s : State) : (s.inc k).blobs = s.blobs := (State.inc_noted _ _).blobs
@[simp] theorem State.inc_que (k : Nat) (s : State) : (s.inc k).que = s.que := (State.inc_noted _ _).que
@[simp] theorem State.inc_md (k : Nat) (s : State) : (s.inc k).md = s.md := (State.inc_noted _ _).md
@[simp] theorem State.inc_time (k : Nat) (s : State) : (s.inc k).time = s.time := (State.inc_noted _ _).time
@[simp] theorem State.inc_clv (k : Nat) (s : State) : (s.inc k).clv = s.clv := (State.inc_noted _ _).clv
@[simp] theorem State.inc_pow (k : Nat) (s : State) : (s.inc k).pow = s.pow := (State.inc_noted _ _).pow
@[simp] theorem State.inc_card (k : Nat) (s : State) : (s.inc k).card = s.card := (State.inc_noted _ _).card
@[simp] theorem State.inc_lp (k : Nat) (s : State) : (s.inc k).lp = s.lp := (State.inc_noted _ _).lp
@[simp] theorem State.inc_fab (k : Nat) (s : State) : (s.inc k).fab = s.fab := (State.inc_noted _ _).fab
@[simp] theorem State.inc_pair (k : Nat) (s : State) : (s.inc k).pair = s.pair := (State.inc_noted _ _).pair
@[simp] theorem State.inc_cry (k : Nat) (s : State) : (s.inc k).cry = s.cry := (State.inc_noted _ _).cry
@[simp] theorem State.inc_inj (k : Nat) (s : State) : (s.inc k).inj = s.inj := (State.inc_noted _ _).inj
@[simp] theorem State.inc_chn (k : Nat) (s : State) : (s.inc k).chn = s.chn := (State.inc_noted _ _).chn
@[simp] theorem State.inc_soc (k : Nat) (s : State) : (s.inc k).soc = s.soc := (State.inc_noted _ _).soc
@[simp] theorem State.inc_saf (k : Nat) (s : State) : (s.inc k).saf = s.saf := (State.inc_noted _ _).saf
@[simp] theorem State.inc_rack (k : Nat) (s : State) : (s.inc k).rack = s.rack := (State.inc_noted _ _).rack
@[simp] theorem State.inc_leg (k : Nat) (s : State) : (s.inc k).leg = s.leg := (State.inc_noted _ _).leg
@[simp] theorem State.inc_outbox (k : Nat) (s : State) : (s.inc k).outbox = s.outbox := (State.inc_noted _ _).outbox
@[simp] theorem State.inc_pending (k : Nat) (s : State) : (s.inc k).pending = s.pending := (State.inc_noted _ _).pending

@[simp] theorem State.inc64_blobs (k : Nat) (s : State) : (s.inc64 k).blobs = s.blobs := (State.inc64_noted _ _).blobs
@[simp] theorem State.inc64_que (k : Nat) (s : State) : (s.inc64 k).que = s.que := (State.inc64_noted _ _).que
@[simp] theorem State.inc64_md (k : Nat) (s : State) : (s.inc64 k).md = s.md := (State.inc64_noted _ _).md
@[simp] theorem State.inc64_time (k : Nat) (s : State) : (s.inc64 k).time = s.time := (State.inc64_noted _ _).time
@[simp] theorem State.inc64_clv (k : Nat) (s : State) : (s.inc64 k).clv = s.clv := (State.inc64_noted _ _).clv
@[simp] theorem State.inc64_pow (k : Nat) (s : State) : (s.inc64 k).pow = s.pow := (State.inc64_noted _ _).pow
@[simp] theorem State.inc64_card (k : Nat) (s : State) : (s.inc64 k).card = s.card := (State.inc64_noted _ _).card
@[simp] theorem State.inc64_lp (k : Nat) (s : State) : (s.inc64 k).lp = s.lp := (State.inc64_noted _ _).lp
@[simp] theorem State.inc64_fab (k : Nat) (s : State) : (s.inc64 k).fab = s.fab := (State.inc64_noted _ _).fab
@[simp] theorem State.inc64_pair (k : Nat) (s : State) : (s.inc64 k).pair = s.pair := (State.inc64_noted _ _).pair
@[simp] theorem State.inc64_cry (k : Nat) (s : State) : (s.inc64 k).cry = s.cry := (State.inc64_noted _ _).cry
@[simp] theorem State.inc64_inj (k : Nat) (s : State) : (s.inc64 k).inj = s.inj := (State.inc64_noted _ _).inj
@[simp] theorem State.inc64_chn (k : Nat) (s : State) : (s.inc64 k).chn = s.chn := (State.inc64_noted _ _).chn
@[simp] theorem State.inc64_soc (k : Nat) (s : State) : (s.inc64 k).soc = s.soc := (State.inc64_noted _ _).soc
@[simp] theorem State.inc64_saf (k : Nat) (s : State) : (s.inc64 k).saf = s.saf := (State.inc64_noted _ _).saf
@[simp] theorem State.inc64_rack (k : Nat) (s : State) : (s.inc64 k).rack = s.rack := (State.inc64_noted _ _).rack
@[simp] theorem State.inc64_leg (k : Nat) (s : State) : (s.inc64 k).leg = s.leg := (State.inc64_noted _ _).leg
@[simp] theorem State.inc64_outbox (k : Nat) (s : State) : (s.inc64 k).outbox = s.outbox := (State.inc64_noted _ _).outbox
@[simp] theorem State.inc64_pending (k : Nat) (s : State) : (s.inc64 k).pending = s.pending := (State.inc64_noted _ _).pending

@[simp] theorem State.putMax_blobs (k : Nat) (v : Int) (s : State) : (s.putMax k v).blobs = s.blobs := (State.putMax_noted _ _ _).blobs
@[simp] theorem State.putMax_que (k : Nat) (v : Int) (s : State) : (s.putMax k v).que = s.que := (State.putMax_noted _ _ _).que
@[simp] theorem State.putMax_md (k : Nat) (v : Int) (s : State) : (s.putMax k v).md = s.md := (State.putMax_noted _ _ _).md
@[simp] theorem State.putMax_time (k : Nat) (v : Int) (s : State) : (s.putMax k v).time = s.time := (State.putMax_noted _ _ _).time
@[simp] theorem State.putMax_clv (k : Nat) (v : Int) (s : State) : (s.putMax k v).clv = s.clv := (State.putMax_noted _ _ _).clv
@[simp] theorem State.putMax_pow (k : Nat) (v : Int) (s : State) : (s.putMax k v).pow = s.pow := (State.putMax_noted _ _ _).pow
@[simp] theorem State.putMax_card (k : Nat) (v : Int) (s : State) : (s.putMax k v).card = s.card := (State.putMax_noted _ _ _).card
@[simp] theorem State.putMax_lp (k : Nat) (v : Int) (s : State) : (s.putMax k v).lp = s.lp := (State.putMax_noted _ _ _).lp
@[simp] theorem State.putMax_fab (k : Nat) (v : Int) (s : State) : (s.putMax k v).fab = s.fab := (State.putMax_noted _ _ _).fab
@[simp] theorem State.putMax_pair (k : Nat) (v : Int) (s : State) : (s.putMax k v).pair = s.pair := (State.putMax_noted _ _ _).pair
@[simp] theorem State.putMax_cry (k : Nat) (v : Int) (s : State) : (s.putMax k v).cry = s.cry := (State.putMax_noted _ _ _).cry
@[simp] theorem State.putMax_inj (k : Nat) (v : Int) (s : State) : (s.putMax k v).inj = s.inj := (State.putMax_noted _ _ _).inj
@[simp] theorem State.putMax_chn (k : Nat) (v : Int) (s : State) : (s.putMax k v).chn = s.chn := (State.putMax_noted _ _ _).chn
@[simp] theorem State.putMax_soc (k : Nat) (v : Int) (s : State) : (s.putMax k v).soc = s.soc := (State.putMax_noted _ _ _).soc
@[simp] theorem State.putMax_saf (k : Nat) (v : Int) (s : State) : (s.putMax k v).saf = s.saf := (State.putMax_noted _ _ _).saf
@[simp] theorem State.putMax_rack (k : Nat) (v : Int) (s : State) : (s.putMax k v).rack = s.rack := (State.putMax_noted _ _ _).rack
@[simp] theorem State.putMax_leg (k : Nat) (v : Int) (s : State) : (s.putMax k v).leg = s.leg := (State.putMax_noted _ _ _).leg
@[simp] theorem State.putMax_outbox (k : Nat) (v : Int) (s : State) : (s.putMax k v).outbox = s.outbox := (State.putMax_noted _ _ _).outbox
@[simp] theorem State.putMax_pending (k : Nat) (v : Int) (s : State) : (s.putMax k v).pending = s.pending := (State.putMax_noted _ _ _).pending

@[simp] theorem State.preparePush_blobs (p : Push) (s : State) : (s.preparePush p).blobs = s.blobs := (State.preparePush_noted _ _).blobs
@[simp] theorem State.preparePush_que (p : Push) (s : State) : (s.preparePush p).que = s.que := (State.preparePush_noted _ _).que
@[simp] theorem State.preparePush_md (p : Push) (s : State) : (s.preparePush p).md = s.md := (State.preparePush_noted _ _).md
@[simp] theorem State.preparePush_time (p : Push) (s : State) : (s.preparePush p).time = s.time := (State.preparePush_noted _ _).time
@[simp] theorem State.preparePush_clv (p : Push) (s : State) : (s.preparePush p).clv = s.clv := (State.preparePush_noted _ _).clv
@[simp] theorem State.preparePush_pow (p : Push) (s : State) : (s.preparePush p).pow = s.pow := (State.preparePush_noted _ _).pow
@[simp] theorem State.preparePush_card (p : Push) (s : State) : (s.preparePush p).card = s.card := (State.preparePush_noted _ _).card
@[simp] theorem State.preparePush_lp (p : Push) (s : State) : (s.preparePush p).lp = s.lp := (State.preparePush_noted _ _).lp
@[simp] theorem State.preparePush_fab (p : Push) (s : State) : (s.preparePush p).fab = s.fab := (State.preparePush_noted _ _).fab
@[simp] theorem State.preparePush_pair (p : Push) (s : State) : (s.preparePush p).pair = s.pair := (State.preparePush_noted _ _).pair
@[simp] theorem State.preparePush_cry (p : Push) (s : State) : (s.preparePush p).cry = s.cry := (State.preparePush_noted _ _).cry
@[simp] theorem State.preparePush_inj (p : Push) (s : State) : (s.preparePush p).inj = s.inj := (State.preparePush_noted _ _).inj
@[simp] theorem State.preparePush_chn (p : Push) (s : State) : (s.preparePush p).chn = s.chn := (State.preparePush_noted _ _).chn
@[simp] theorem State.preparePush_soc (p : Push) (s : State) : (s.preparePush p).soc = s.soc := (State.preparePush_noted _ _).soc
@[simp] theorem State.preparePush_saf (p : Push) (s : State) : (s.preparePush p).saf = s.saf := (State.preparePush_noted _ _).saf
@[simp] theorem State.preparePush_rack (p : Push) (s : State) : (s.preparePush p).rack = s.rack := (State.preparePush_noted _ _).rack
@[simp] theorem State.preparePush_leg (p : Push) (s : State) : (s.preparePush p).leg = s.leg := (State.preparePush_noted _ _).leg
@[simp] theorem State.preparePush_outbox (p : Push) (s : State) : (s.preparePush p).outbox = s.outbox := (State.preparePush_noted _ _).outbox
@[simp] theorem State.preparePush_pending (p : Push) (s : State) : (s.preparePush p).pending = s.pending := (State.preparePush_noted _ _).pending

@[simp] theorem State.raiseOwn_blobs (c ft : Nat) (a : Args) (s : State) : (s.raiseOwn c ft a).blobs = s.blobs := (State.raiseOwn_noted _ _ _ _).blobs
@[simp] theorem State.raiseOwn_que (c ft : Nat) (a : Args) (s : State) : (s.raiseOwn c ft a).que = s.que := (State.raiseOwn_noted _ _ _ _).que
@[simp] theorem State.raiseOwn_md (c ft : Nat) (a : Args) (s : State) : (s.raiseOwn c ft a).md = s.md := (State.raiseOwn_noted _ _ _ _).md
@[simp] theorem State.raiseOwn_time (c ft : Nat) (a : Args) (s : State) : (s.raiseOwn c ft a).time = s.time := (State.raiseOwn_noted _ _ _ _).time
@[simp] theorem State.raiseOwn_clv (c ft : Nat) (a : Args) (s : State) : (s.raiseOwn c ft a).clv = s.clv := (State.raiseOwn_noted _ _ _ _).clv
@[simp] theorem State.raiseOwn_pow (c ft : Nat) (a : Args) (s : State) : (s.raiseOwn c ft a).pow = s.pow := (State.raiseOwn_noted _ _ _ _).pow
@[simp] theorem State.raiseOwn_card (c ft : Nat) (a : Args) (s : State) : (s.raiseOwn c ft a).card = s.card := (State.raiseOwn_noted _ _ _ _).card
@[simp] theorem State.raiseOwn_lp (c ft : Nat) (a : Args) (s : State) : (s.raiseOwn c ft a).lp = s.lp := (State.raiseOwn_noted _ _ _ _).lp
@[simp] theorem State.raiseOwn_fab (c ft : Nat) (a : Args) (s : State) : (s.raiseOwn c ft a).fab = s.fab := (State.raiseOwn_noted _ _ _ _).fab
@[simp] theorem State.raiseOwn_pair (c ft : Nat) (a : Args) (s : State) : (s.raiseOwn c ft a).pair = s.pair := (State.raiseOwn_noted _ _ _ _).pair
@[simp] theorem State.raiseOwn_cry (c ft : Nat) (a : Args) (s : State) : (s.raiseOwn c ft a).cry = s.cry := (State.raiseOwn_noted _ _ _ _).cry
@[simp] theorem State.raiseOwn_inj (c ft : Nat) (a : Args) (s : State) : (s.raiseOwn c ft a).inj = s.inj := (State.raiseOwn_noted _ _ _ _).inj
@[simp] theorem State.raiseOwn_chn (c ft : Nat) (a : Args) (s : State) : (s.raiseOwn c ft a).chn = s.chn := (State.raiseOwn_noted _ _ _ _).chn
@[simp] theorem State.raiseOwn_soc (c ft : Nat) (a : Args) (s : State) : (s.raiseOwn c ft a).soc = s.soc := (State.raiseOwn_noted _ _ _ _).soc
@[simp] theorem State.raiseOwn_saf (c ft : Nat) (a : Args) (s : State) : (s.raiseOwn c ft a).saf = s.saf := (State.raiseOwn_noted _ _ _ _).saf
@[simp] theorem State.raiseOwn_rack (c ft : Nat) (a : Args) (s : State) : (s.raiseOwn c ft a).rack = s.rack := (State.raiseOwn_noted _ _ _ _).rack
@[simp] theorem State.raiseOwn_leg (c ft : Nat) (a : Args) (s : State) : (s.raiseOwn c ft a).leg = s.leg := (State.raiseOwn_noted _ _ _ _).leg
@[simp] theorem State.raiseOwn_outbox (c ft : Nat) (a : Args) (s : State) : (s.raiseOwn c ft a).outbox = s.outbox := (State.raiseOwn_noted _ _ _ _).outbox
@[simp] theorem State.raiseOwn_pending (c ft : Nat) (a : Args) (s : State) : (s.raiseOwn c ft a).pending = s.pending := (State.raiseOwn_noted _ _ _ _).pending

@[simp] theorem State.raiseAt_blobs (c ft : Nat) (a : Args) (s : State) : (s.raiseAt c ft a).blobs = s.blobs := (State.raiseAt_noted _ _ _ _).blobs
@[simp] theorem State.raiseAt_que (c ft : Nat) (a : Args) (s : State) : (s.raiseAt c ft a).que = s.que := (State.raiseAt_noted _ _ _ _).que
@[simp] theorem State.raiseAt_md (c ft : Nat) (a : Args) (s : State) : (s.raiseAt c ft a).md = s.md := (State.raiseAt_noted _ _ _ _).md
@[simp] theorem State.raiseAt_time (c ft : Nat) (a : Args) (s : State) : (s.raiseAt c ft a).time = s.time := (State.raiseAt_noted _ _ _ _).time
@[simp] theorem State.raiseAt_clv (c ft : Nat) (a : Args) (s : State) : (s.raiseAt c ft a).clv = s.clv := (State.raiseAt_noted _ _ _ _).clv
@[simp] theorem State.raiseAt_pow (c ft : Nat) (a : Args) (s : State) : (s.raiseAt c ft a).pow = s.pow := (State.raiseAt_noted _ _ _ _).pow
@[simp] theorem State.raiseAt_card (c ft : Nat) (a : Args) (s : State) : (s.raiseAt c ft a).card = s.card := (State.raiseAt_noted _ _ _ _).card
@[simp] theorem State.raiseAt_lp (c ft : Nat) (a : Args) (s : State) : (s.raiseAt c ft a).lp = s.lp := (State.raiseAt_noted _ _ _ _).lp
@[simp] theorem State.raiseAt_fab (c ft : Nat) (a : Args) (s : State) : (s.raiseAt c ft a).fab = s.fab := (State.raiseAt_noted _ _ _ _).fab
@[simp] theorem State.raiseAt_pair (c ft : Nat) (a : Args) (s : State) : (s.raiseAt c ft a).pair = s.pair := (State.raiseAt_noted _ _ _ _).pair
@[simp] theorem State.raiseAt_cry (c ft : Nat) (a : Args) (s : State) : (s.raiseAt c ft a).cry = s.cry := (State.raiseAt_noted _ _ _ _).cry
@[simp] theorem State.raiseAt_inj (c ft : Nat) (a : Args) (s : State) : (s.raiseAt c ft a).inj = s.inj := (State.raiseAt_noted _ _ _ _).inj
@[simp] theorem State.raiseAt_chn (c ft : Nat) (a : Args) (s : State) : (s.raiseAt c ft a).chn = s.chn := (State.raiseAt_noted _ _ _ _).chn
@[simp] theorem State.raiseAt_soc (c ft : Nat) (a : Args) (s : State) : (s.raiseAt c ft a).soc = s.soc := (State.raiseAt_noted _ _ _ _).soc
@[simp] theorem State.raiseAt_saf (c ft : Nat) (a : Args) (s : State) : (s.raiseAt c ft a).saf = s.saf := (State.raiseAt_noted _ _ _ _).saf
@[simp] theorem State.raiseAt_rack (c ft : Nat) (a : Args) (s : State) : (s.raiseAt c ft a).rack = s.rack := (State.raiseAt_noted _ _ _ _).rack
@[simp] theorem State.raiseAt_leg (c ft : Nat) (a : Args) (s : State) : (s.raiseAt c ft a).leg = s.leg := (State.raiseAt_noted _ _ _ _).leg
@[simp] theorem State.raiseAt_outbox (c ft : Nat) (a : Args) (s : State) : (s.raiseAt c ft a).outbox = s.outbox := (State.raiseAt_noted _ _ _ _).outbox
@[simp] theorem State.raiseAt_pending (c ft : Nat) (a : Args) (s : State) : (s.raiseAt c ft a).pending = s.pending := (State.raiseAt_noted _ _ _ _).pending

@[simp] theorem State.raise_blobs (c : Nat) (a : Args) (s : State) : (s.raise c a).blobs = s.blobs := (State.raise_noted _ _ _).blobs
@[simp] theorem State.raise_que (c : Nat) (a : Args) (s : State) : (s.raise c a).que = s.que := (State.raise_noted _ _ _).que
@[simp] theorem State.raise_md (c : Nat) (a : Args) (s : State) : (s.raise c a).md = s.md := (State.raise_noted _ _ _).md
@[simp] theorem State.raise_time (c : Nat) (a : Args) (s : State) : (s.raise c a).time = s.time := (State.raise_noted _ _ _).time
@[simp] theorem State.raise_clv (c : Nat) (a : Args) (s : State) : (s.raise c a).clv = s.clv := (State.raise_noted _ _ _).clv
@[simp] theorem State.raise_pow (c : Nat) (a : Args) (s : State) : (s.raise c a).pow = s.pow := (State.raise_noted _ _ _).pow
@[simp] theorem State.raise_card (c : Nat) (a : Args) (s : State) : (s.raise c a).card = s.card := (State.raise_noted _ _ _).card
@[simp] theorem State.raise_lp (c : Nat) (a : Args) (s : State) : (s.raise c a).lp = s.lp := (State.raise_noted _ _ _).lp
@[simp] theorem State.raise_fab (c : Nat) (a : Args) (s : State) : (s.raise c a).fab = s.fab := (State.raise_noted _ _ _).fab
@[simp] theorem State.raise_pair (c : Nat) (a : Args) (s : State) : (s.raise c a).pair = s.pair := (State.raise_noted _ _ _).pair
@[simp] theorem State.raise_cry (c : Nat) (a : Args) (s : State) : (s.raise c a).cry = s.cry := (State.raise_noted _ _ _).cry
@[simp] theorem State.raise_inj (c : Nat) (a : Args) (s : State) : (s.raise c a).inj = s.inj := (State.raise_noted _ _ _).inj
@[simp] theorem State.raise_chn (c : Nat) (a : Args) (s : State) : (s.raise c a).chn = s.chn := (State.raise_noted _ _ _).chn
@[simp] theorem State.raise_soc (c : Nat) (a : Args) (s : State) : (s.raise c a).soc = s.soc := (State.raise_noted _ _ _).soc
@[simp] theorem State.raise_saf (c : Nat) (a : Args) (s : State) : (s.raise c a).saf = s.saf := (State.raise_noted _ _ _).saf
@[simp] theorem State.raise_rack (c : Nat) (a : Args) (s : State) : (s.raise c a).rack = s.rack := (State.raise_noted _ _ _).rack
@[simp] theorem State.raise_leg (c : Nat) (a : Args) (s : State) : (s.raise c a).leg = s.leg := (State.raise_noted _ _ _).leg
@[simp] theorem State.raise_outbox (c : Nat) (a : Args) (s : State) : (s.raise c a).outbox = s.outbox := (State.raise_noted _ _ _).outbox
@[simp] theorem State.raise_pending (c : Nat) (a : Args) (s : State) : (s.raise c a).pending = s.pending := (State.raise_noted _ _ _).pending

@[simp] theorem State.raiseOn_blobs (c subj : Nat) (s : State) : (s.raiseOn c subj).blobs = s.blobs := (State.raiseOn_noted _ _ _).blobs
@[simp] theorem State.raiseOn_que (c subj : Nat) (s : State) : (s.raiseOn c subj).que = s.que := (State.raiseOn_noted _ _ _).que
@[simp] theorem State.raiseOn_md (c subj : Nat) (s : State) : (s.raiseOn c subj).md = s.md := (State.raiseOn_noted _ _ _).md
@[simp] theorem State.raiseOn_time (c subj : Nat) (s : State) : (s.raiseOn c subj).time = s.time := (State.raiseOn_noted _ _ _).time
@[simp] theorem State.raiseOn_clv (c subj : Nat) (s : State) : (s.raiseOn c subj).clv = s.clv := (State.raiseOn_noted _ _ _).clv
@[simp] theorem State.raiseOn_pow (c subj : Nat) (s : State) : (s.raiseOn c subj).pow = s.pow := (State.raiseOn_noted _ _ _).pow
@[simp] theorem State.raiseOn_card (c subj : Nat) (s : State) : (s.raiseOn c subj).card = s.card := (State.raiseOn_noted _ _ _).card
@[simp] theorem State.raiseOn_lp (c subj : Nat) (s : State) : (s.raiseOn c subj).lp = s.lp := (State.raiseOn_noted _ _ _).lp
@[simp] theorem State.raiseOn_fab (c subj : Nat) (s : State) : (s.raiseOn c subj).fab = s.fab := (State.raiseOn_noted _ _ _).fab
@[simp] theorem State.raiseOn_pair (c subj : Nat) (s : State) : (s.raiseOn c subj).pair = s.pair := (State.raiseOn_noted _ _ _).pair
@[simp] theorem State.raiseOn_cry (c subj : Nat) (s : State) : (s.raiseOn c subj).cry = s.cry := (State.raiseOn_noted _ _ _).cry
@[simp] theorem State.raiseOn_inj (c subj : Nat) (s : State) : (s.raiseOn c subj).inj = s.inj := (State.raiseOn_noted _ _ _).inj
@[simp] theorem State.raiseOn_chn (c subj : Nat) (s : State) : (s.raiseOn c subj).chn = s.chn := (State.raiseOn_noted _ _ _).chn
@[simp] theorem State.raiseOn_soc (c subj : Nat) (s : State) : (s.raiseOn c subj).soc = s.soc := (State.raiseOn_noted _ _ _).soc
@[simp] theorem State.raiseOn_saf (c subj : Nat) (s : State) : (s.raiseOn c subj).saf = s.saf := (State.raiseOn_noted _ _ _).saf
@[simp] theorem State.raiseOn_rack (c subj : Nat) (s : State) : (s.raiseOn c subj).rack = s.rack := (State.raiseOn_noted _ _ _).rack
@[simp] theorem State.raiseOn_leg (c subj : Nat) (s : State) : (s.raiseOn c subj).leg = s.leg := (State.raiseOn_noted _ _ _).leg
@[simp] theorem State.raiseOn_outbox (c subj : Nat) (s : State) : (s.raiseOn c subj).outbox = s.outbox := (State.raiseOn_noted _ _ _).outbox
@[simp] theorem State.raiseOn_pending (c subj : Nat) (s : State) : (s.raiseOn c subj).pending = s.pending := (State.raiseOn_noted _ _ _).pending

@[simp] theorem State.raise0_blobs (c : Nat) (s : State) : (s.raise0 c).blobs = s.blobs := (State.raise0_noted _ _).blobs
@[simp] theorem State.raise0_que (c : Nat) (s : State) : (s.raise0 c).que = s.que := (State.raise0_noted _ _).que
@[simp] theorem State.raise0_md (c : Nat) (s : State) : (s.raise0 c).md = s.md := (State.raise0_noted _ _).md
@[simp] theorem State.raise0_time (c : Nat) (s : State) : (s.raise0 c).time = s.time := (State.raise0_noted _ _).time
@[simp] theorem State.raise0_clv (c : Nat) (s : State) : (s.raise0 c).clv = s.clv := (State.raise0_noted _ _).clv
@[simp] theorem State.raise0_pow (c : Nat) (s : State) : (s.raise0 c).pow = s.pow := (State.raise0_noted _ _).pow
@[simp] theorem State.raise0_card (c : Nat) (s : State) : (s.raise0 c).card = s.card := (State.raise0_noted _ _).card
@[simp] theorem State.raise0_lp (c : Nat) (s : State) : (s.raise0 c).lp = s.lp := (State.raise0_noted _ _).lp
@[simp] theorem State.raise0_fab (c : Nat) (s : State) : (s.raise0 c).fab = s.fab := (State.raise0_noted _ _).fab
@[simp] theorem State.raise0_pair (c : Nat) (s : State) : (s.raise0 c).pair = s.pair := (State.raise0_noted _ _).pair
@[simp] theorem State.raise0_cry (c : Nat) (s : State) : (s.raise0 c).cry = s.cry := (State.raise0_noted _ _).cry
@[simp] theorem State.raise0_inj (c : Nat) (s : State) : (s.raise0 c).inj = s.inj := (State.raise0_noted _ _).inj
@[simp] theorem State.raise0_chn (c : Nat) (s : State) : (s.raise0 c).chn = s.chn := (State.raise0_noted _ _).chn
@[simp] theorem State.raise0_soc (c : Nat) (s : State) : (s.raise0 c).soc = s.soc := (State.raise0_noted _ _).soc
@[simp] theorem State.raise0_saf (c : Nat) (s : State) : (s.raise0 c).saf = s.saf := (State.raise0_noted _ _).saf
@[simp] theorem State.raise0_rack (c : Nat) (s : State) : (s.raise0 c).rack = s.rack := (State.raise0_noted _ _).rack
@[simp] theorem State.raise0_leg (c : Nat) (s : State) : (s.raise0 c).leg = s.leg := (State.raise0_noted _ _).leg
@[simp] theorem State.raise0_outbox (c : Nat) (s : State) : (s.raise0 c).outbox = s.outbox := (State.raise0_noted _ _).outbox
@[simp] theorem State.raise0_pending (c : Nat) (s : State) : (s.raise0 c).pending = s.pending := (State.raise0_noted _ _).pending

/-! ### Reading after writing -/

theorem Sparse.find_insert (m : Sparse) (k : Nat) (v : Int) (j : Nat) :
    (Sparse.insert m k v).find? j = if j = k then some v else m.find? j := by
  induction m with
  | nil => simp [Sparse.insert, Sparse.find?, eq_comm]
  | cons e rest ih =>
    obtain ⟨a, w⟩ := e
    simp only [Sparse.insert]
    split
    · simp [Sparse.find?, eq_comm]
    · split
      · rename_i h
        subst h
        simp only [Sparse.find?]
        split
        · rename_i hj; rw [if_pos hj.symm]
        · rename_i hj; rw [if_neg (fun e => hj e.symm)]
      · simp only [Sparse.find?, ih]
        split <;> simp_all

theorem Sparse.find_erase_other (m : Sparse) (k j : Nat) (h : j ≠ k) : (Sparse.erase m k).find? j = m.find? j := by
  induction m with
  | nil => rfl
  | cons e rest ih =>
    obtain ⟨a, w⟩ := e
    simp only [Sparse.erase]
    split
    · rename_i hk
      simp only [Sparse.find?, ih]
      rw [if_neg]
      intro e
      exact h (e.symm.trans hk)
    · simp only [Sparse.find?, ih]

theorem Sparse.find_erase_same (m : Sparse) (k : Nat) : (Sparse.erase m k).find? k = none := by
  induction m with
  | nil => rfl
  | cons e rest ih =>
    obtain ⟨a, w⟩ := e
    simp only [Sparse.erase]
    split
    · exact ih
    · simp only [Sparse.find?]
      rw [if_neg (by assumption)]
      exact ih

/-- A write leaves every other address alone. -/
theorem Sparse.get_put_other (d : Nat → Int) (m : Sparse) (k j : Nat) (v : Int) (h : j ≠ k) :
    (Sparse.put d m k v).get d j = m.get d j := by
  unfold Sparse.put
  split
  · unfold Sparse.get; rw [Sparse.find_erase_other _ _ _ h]
  · unfold Sparse.get; rw [Sparse.find_insert, if_neg h]

/-- A read after a write to the same address gives the value written. -/
theorem Sparse.get_put_same (d : Nat → Int) (m : Sparse) (k : Nat) (v : Int) :
    (Sparse.put d m k v).get d k = v := by
  unfold Sparse.put
  split
  · rename_i hv
    unfold Sparse.get
    rw [Sparse.find_erase_same, hv]
  · unfold Sparse.get; rw [Sparse.find_insert, if_pos rfl]

theorem State.get_put_other (k j : Nat) (v : Int) (s : State) (h : j ≠ k) : (s.put k v).get j = s.get j :=
  Sparse.get_put_other _ _ _ _ _ h

theorem State.get_put_same (k : Nat) (v : Int) (s : State) : (s.put k v).get k = v :=
  Sparse.get_put_same _ _ _ _

/-- The bytes of an object after a write of another, and of itself. -/
theorem findBytes_insert (m : List (Nat × List Byte)) (k : Nat) (v : List Byte) (j : Nat) :
    findBytes (insertBytes m k v) j = if j = k then some v else findBytes m j := by
  induction m with
  | nil => simp [insertBytes, findBytes, eq_comm]
  | cons e rest ih =>
    obtain ⟨a, w⟩ := e
    simp only [insertBytes]
    split
    · simp [findBytes, eq_comm]
    · split
      · rename_i h
        subst h
        simp only [findBytes]
        split
        · rename_i hj; rw [if_pos hj.symm]
        · rename_i hj; rw [if_neg (fun e => hj e.symm)]
      · simp only [findBytes, ih]
        split <;> simp_all

@[simp] theorem State.get_send (m : OutMsg) (s : State) (k : Nat) : (s.send m).get k = s.get k := rfl
@[simp] theorem State.get_useFree (s : State) (k : Nat) : s.useFree.get k = s.get k := rfl

theorem State.get_countBy_other (b k n j : Nat) (s : State) (h : j ≠ k) : (s.countBy b k n).get j = s.get j := by
  unfold State.countBy
  split
  · exact State.get_put_other _ _ _ _ h
  · exact State.get_put_other _ _ _ _ h

/-- A counter below its width counts. -/
theorem State.get_countBy_same (b k n : Nat) (s : State) (hb : s.get k + n < 2 ^ b) :
    (s.countBy b k n).get k = s.get k + n := by
  unfold State.countBy
  rw [if_pos hb, State.get_put_same]

/-- Is an object one that raising a cause writes (R386, R408, R413, R414)? -/
def noting (k : Nat) : Bool :=
  decide (k = K.sessEventsLost) || decide (k = K.recStagingHighMark) || decide (k = K.recCausesNotStaged) ||
  (List.range 64).any (fun i => decide (k = K.trigMatches i))

theorem State.get_putMax_other (k j : Nat) (v : Int) (s : State) (h : j ≠ k) : (s.putMax k v).get j = s.get j := by
  unfold State.putMax
  split
  · exact State.get_put_other _ _ _ _ h
  · rfl

theorem State.get_preparePush (p : Push) (s : State) (k : Nat) (h : k ≠ K.sessEventsLost) :
    (s.preparePush p).get k = s.get k := by
  unfold State.preparePush State.when
  dsimp only
  split
  · exact State.get_countBy_other _ _ _ _ _ h
  · rfl

theorem State.get_stage (e : StagedCause) (s : State) (k : Nat) (h : k ≠ K.recStagingHighMark) :
    (s.stage e).get k = s.get k := by
  unfold State.stage
  exact State.get_putMax_other _ _ _ _ h

theorem State.get_offerCause (c ft : Nat) (a : Args) (t : Option Nat) (s : State) (k : Nat) (h1 : k ≠ K.sessEventsLost)
    (h2 : k ≠ K.recStagingHighMark) (h3 : k ≠ K.recCausesNotStaged) : (s.offerCause c ft a t).get k = s.get k := by
  have hnew : (State.offerCause.offerNew c ft a t s).get k = s.get k := by
    unfold State.offerCause.offerNew
    split
    · rw [State.get_preparePush _ _ _ h1, State.get_stage _ _ _ h2]
    · rw [State.get_preparePush _ _ _ h1]
      unfold State.notStaged State.inc
      exact State.get_countBy_other _ _ _ _ _ h3
  have hnext : (State.offerCause.offerNext c ft a t s).get k = s.get k := by
    unfold State.offerCause.offerNext
    dsimp only
    split
    · split
      · rw [State.get_preparePush _ _ _ h1]; rfl
      · exact hnew
    · exact hnew
  unfold State.offerCause
  dsimp only
  split
  · split
    · rw [State.get_preparePush _ _ _ h1]; rfl
    · exact hnext
  · exact hnext

/-- Raising a cause leaves every other object alone. -/
theorem State.get_raiseOwn (c ft : Nat) (a : Args) (s : State) (k : Nat) (h : noting k = false) :
    (s.raiseOwn c ft a).get k = s.get k := by
  simp only [noting, Bool.or_eq_false_iff, decide_eq_false_iff_not, List.any_eq_false, List.mem_range,
    decide_eq_true_eq] at h
  obtain ⟨⟨⟨h1, h2⟩, h3⟩, h4⟩ := h
  unfold State.raiseOwn
  split
  · rename_i i hi
    rw [State.get_offerCause _ _ _ _ _ _ h1 h2 h3]
    refine State.get_countBy_other _ _ _ _ _ (h4 i ?_)
    exact List.mem_range.1 (List.mem_of_find?_eq_some hi)
  · split
    · exact State.get_offerCause _ _ _ _ _ _ h1 h2 h3
    · exact State.get_preparePush _ _ _ h1

theorem State.get_raiseAt (c ft : Nat) (a : Args) (s : State) (k : Nat) (h : noting k = false) :
    (s.raiseAt c ft a).get k = s.get k := by
  unfold State.raiseAt
  split
  · split <;> exact State.get_raiseOwn _ _ _ _ _ h
  · exact State.get_raiseOwn _ _ _ _ _ h

theorem State.get_raise (c : Nat) (a : Args) (s : State) (k : Nat) (h : noting k = false) :
    (s.raise c a).get k = s.get k := State.get_raiseAt _ _ _ _ _ h
theorem State.get_raiseOn (c subj : Nat) (s : State) (k : Nat) (h : noting k = false) :
    (s.raiseOn c subj).get k = s.get k := State.get_raise _ _ _ _ h
theorem State.get_raise0 (c : Nat) (s : State) (k : Nat) (h : noting k = false) :
    (s.raise0 c).get k = s.get k := State.get_raise _ _ _ _ h

end Sys2Proof.Machine
end

