-- ==== Sys2Proof/Laws/Card.lean ====
section
/-! SUPPORT. Cores in the state, and what settling an instruction leaves (spec/06). -/

namespace Sys2Proof.Machine

@[simp] theorem State.core_setCore_same (n : Fin 4) (c : CoreSt) (s : State) : (s.setCore n c).core n = c := by
  simp [State.core]

theorem State.core_setCore_other (n m : Fin 4) (c : CoreSt) (s : State) (h : m ≠ n) : (s.setCore n c).core m = s.core m := by
  have : n.val ≠ m.val := fun e => h (Fin.ext e.symm)
  simp [State.core, Vector.getElem_set_ne, this]

/-- The engine is the same. -/
theorem State.when_card (b : Bool) (f : State → State) (s : State) (h : ∀ t, (f t).card = t.card) : (s.when b f).card = s.card := by
  unfold State.when
  split
  · exact h _
  · rfl

theorem State.each_card {α : Type} (l : List α) (f : α → State → State) (s : State) (h : ∀ a t, (f a t).card = t.card) :
    (s.each l f).card = s.card := by
  unfold State.each
  induction l generalizing s with
  | nil => rfl
  | cons a l ih => exact (ih _).trans (h _ _)

theorem State.commandWrite_card (c : Conv) (v : Int) (s : State) : (s.commandWrite c v).card = s.card := by
  unfold State.commandWrite
  refine (State.each_card _ _ _ fun p t => ?_).trans (State.modConv_card _ _ _)
  exact (State.when_card _ _ _ fun _ => State.inc_card _ _).trans (State.modPhase_card _ _ _)

/-- A core whose counts have been handed over and whose port writes have reached the phase units. -/
def CoreSt.settled (c : CoreSt) (now : Nat) : CoreSt :=
  { c with
    accSats := 0, storeSats := 0, clamps := 0, emitted := []
    satRecordedAt := if decide (0 < c.accSats) && (match c.satRecordedAt with | some t => decide (t + sec ≤ now) | none => true)
      then some now else c.satRecordedAt }

theorem State.settle_card (n : Fin 4) (s : State) : (s.settle n).card = (s.setCore n ((s.core n).settled s.now)).card := by
  unfold State.settle
  refine (State.when_card _ _ _ fun _ => State.raiseOn_card _ _ _).trans ?_
  refine (State.each_card _ _ _ fun _ _ => State.commandWrite_card _ _ _).trans ?_
  refine (State.when_card _ _ _ fun _ => State.countBy_card _ _ _ _).trans ?_
  refine (State.when_card _ _ _ fun _ => State.countBy_card _ _ _ _).trans ?_
  exact State.when_card _ _ _ fun _ => State.countBy_card _ _ _ _

theorem State.core_settle_same (n : Fin 4) (s : State) : (s.settle n).core n = (s.core n).settled s.now := by
  unfold State.core
  rw [State.settle_card]
  exact State.core_setCore_same _ _ _

theorem State.core_settle_other (n m : Fin 4) (s : State) (h : m ≠ n) : (s.settle n).core m = s.core m := by
  unfold State.core
  rw [State.settle_card]
  exact State.core_setCore_other _ _ _ _ h

/-- A RUNNING core that issues an instruction holds what the instruction leaves, settled. -/
theorem State.core_issue (n : Fin 4) (i : CInstr) (s : State) (h : (s.core n).state = .running) :
    (s.issue n i).core n = ((s.core n).exec1 s.card.snap i).settled s.now := by
  unfold State.issue
  rw [if_pos h, State.core_settle_same]
  simp only [State.modCore, State.core_setCore_same]
  rfl

theorem State.core_issue_other (n m : Fin 4) (i : CInstr) (s : State) (h : m ≠ n) : (s.issue n i).core m = s.core m := by
  unfold State.issue
  split
  · rw [State.core_settle_other _ _ _ h]
    exact State.core_setCore_other _ _ _ _ h
  · rfl

@[simp] theorem CoreSt.bank_settled (c : CoreSt) (t : Nat) : (c.settled t).bank = c.bank := rfl
@[simp] theorem CoreSt.sm_settled (c : CoreSt) (t : Nat) : (c.settled t).sm = c.sm := rfl
@[simp] theorem CoreSt.coef_settled (c : CoreSt) (t : Nat) : (c.settled t).coef = c.coef := rfl
@[simp] theorem CoreSt.ports_settled (c : CoreSt) (t : Nat) : (c.settled t).ports = c.ports := rfl
@[simp] theorem CoreSt.unpublished_settled (c : CoreSt) (t : Nat) : (c.settled t).unpublished = c.unpublished := rfl
@[simp] theorem CoreSt.skip_settled (c : CoreSt) (t : Nat) : (c.settled t).skip = c.skip := rfl
@[simp] theorem CoreSt.inHandler_settled (c : CoreSt) (t : Nat) : (c.settled t).inHandler = c.inHandler := rfl
@[simp] theorem CoreSt.prog_settled (c : CoreSt) (t : Nat) : (c.settled t).prog = c.prog := rfl
@[simp] theorem CoreSt.state_settled (c : CoreSt) (t : Nat) : (c.settled t).state = c.state := rfl

@[simp] theorem CoreSt.bank_spend (k : Nat) (c : CoreSt) : (c.spend k).bank = c.bank := rfl
@[simp] theorem CoreSt.sm_spend (k : Nat) (c : CoreSt) : (c.spend k).sm = c.sm := rfl
@[simp] theorem CoreSt.coef_spend (k : Nat) (c : CoreSt) : (c.spend k).coef = c.coef := rfl
@[simp] theorem CoreSt.ports_spend (k : Nat) (c : CoreSt) : (c.spend k).ports = c.ports := rfl
@[simp] theorem CoreSt.unpublished_spend (k : Nat) (c : CoreSt) : (c.spend k).unpublished = c.unpublished := rfl
@[simp] theorem CoreSt.skip_spend (k : Nat) (c : CoreSt) : (c.spend k).skip = c.skip := rfl
@[simp] theorem CoreSt.inHandler_spend (k : Nat) (c : CoreSt) : (c.spend k).inHandler = c.inHandler := rfl
@[simp] theorem CoreSt.prog_spend (k : Nat) (c : CoreSt) : (c.spend k).prog = c.prog := rfl
@[simp] theorem CoreSt.state_spend (k : Nat) (c : CoreSt) : (c.spend k).state = c.state := rfl
@[simp] theorem CoreSt.accSats_spend (k : Nat) (c : CoreSt) : (c.spend k).accSats = c.accSats := rfl
@[simp] theorem CoreSt.emitted_spend (k : Nat) (c : CoreSt) : (c.spend k).emitted = c.emitted := rfl
@[simp] theorem CoreSt.accI_spend (k : Nat) (c : CoreSt) (a : Fin 8) : (c.spend k).accI a = c.accI a := rfl
@[simp] theorem CoreSt.datI_spend (k : Nat) (c : CoreSt) (d : Fin 16) : (c.spend k).datI d = c.datI d := rfl
@[simp] theorem CoreSt.coefI_spend (k : Nat) (c : CoreSt) (j : Nat) : (c.spend k).coefI j = c.coefI j := rfl
@[simp] theorem CoreSt.smI_spend (k : Nat) (c : CoreSt) (m : Nat) : (c.spend k).smI m = c.smI m := rfl
@[simp] theorem CoreSt.inPort_spend (k : Nat) (c : CoreSt) (f : Snapshot) (p : Nat) : (c.spend k).inPort f p = c.inPort f p := rfl
@[simp] theorem CoreSt.inBits_spend (k : Nat) (c : CoreSt) (f : Snapshot) (p : Nat) : (c.spend k).inBits f p = c.inBits f p := rfl
@[simp] theorem CoreSt.cond_spend (k : Nat) (c : CoreSt) (fv : Bool) (q : BitVec 4) : (c.spend k).cond fv q = c.cond fv q := rfl

/-! ### The bank of a core -/

@[simp] theorem CoreSt.bank_setBank (c : CoreSt) (b : Bank) : (c.setBank b).bank = b := by
  unfold CoreSt.setBank CoreSt.bank
  split <;> simp_all

@[simp] theorem CoreSt.sm_setBank (c : CoreSt) (b : Bank) : (c.setBank b).sm = c.sm := by
  unfold CoreSt.setBank
  split <;> rfl

@[simp] theorem CoreSt.coef_setBank (c : CoreSt) (b : Bank) : (c.setBank b).coef = c.coef := by
  unfold CoreSt.setBank
  split <;> rfl

@[simp] theorem CoreSt.ports_setBank (c : CoreSt) (b : Bank) : (c.setBank b).ports = c.ports := by
  unfold CoreSt.setBank
  split <;> rfl

@[simp] theorem CoreSt.unpublished_setBank (c : CoreSt) (b : Bank) : (c.setBank b).unpublished = c.unpublished := by
  unfold CoreSt.setBank
  split <;> rfl

@[simp] theorem CoreSt.skip_setBank (c : CoreSt) (b : Bank) : (c.setBank b).skip = c.skip := by
  unfold CoreSt.setBank
  split <;> rfl

@[simp] theorem CoreSt.bank_countAcc (c : CoreSt) (b : Bool) : (c.countAcc b).bank = c.bank := by
  unfold CoreSt.countAcc
  split <;> rfl

@[simp] theorem CoreSt.bank_countStore (c : CoreSt) (b : Bool) : (c.countStore b).bank = c.bank := by
  unfold CoreSt.countStore
  split <;> rfl

@[simp] theorem CoreSt.bank_countClamp (c : CoreSt) (b : Bool) : (c.countClamp b).bank = c.bank := by
  unfold CoreSt.countClamp
  split <;> rfl

@[simp] theorem CoreSt.sm_countClamp (c : CoreSt) (b : Bool) : (c.countClamp b).sm = c.sm := by
  unfold CoreSt.countClamp
  split <;> rfl

@[simp] theorem CoreSt.sm_countAcc (c : CoreSt) (b : Bool) : (c.countAcc b).sm = c.sm := by
  unfold CoreSt.countAcc
  split <;> rfl

@[simp] theorem CoreSt.ports_countStore (c : CoreSt) (b : Bool) : (c.countStore b).ports = c.ports := by
  unfold CoreSt.countStore
  split <;> rfl

@[simp] theorem CoreSt.unpublished_countStore (c : CoreSt) (b : Bool) : (c.countStore b).unpublished = c.unpublished := by
  unfold CoreSt.countStore
  split <;> rfl

@[simp] theorem CoreSt.bank_setSm (c : CoreSt) (m : Nat) (x : Int) : (c.setSm m x).bank = c.bank := rfl
@[simp] theorem CoreSt.sm_setSm (c : CoreSt) (m : Nat) (x : Int) : (c.setSm m x).sm = c.sm.put zeroDflt m (sat40 x) := rfl

@[simp] theorem CoreSt.bank_outPort (c : CoreSt) (p : Nat) (v : Int) : (c.outPort p v).bank = c.bank := by
  unfold CoreSt.outPort
  repeat' split
  all_goals rfl

end Sys2Proof.Machine
end

