-- ==== Sys2Proof/Laws/Keeps.lean ====
section
/-! SUPPORT. How Keeps (Safety.lean) is composed: each operation has one lemma f_keeps in the files Keeps<Part>.lean. -/

namespace Sys2Proof.Machine

/-- A command answers a next state and keeps. -/
def KeepsOut (s : State) (o : Out) : Prop := ∃ t, o = .next t ∧ Keeps s t
theorem KeepsOut.next {s t : State} (h : Keeps s t) : KeepsOut s (.next t) := ⟨t, rfl, h⟩
def KeepsSome (s : State) (o : Option (State × Nat)) : Prop := ∀ r, o = some r → Keeps s r.1
theorem KeepsSome.none {s : State} : KeepsSome s none := fun _ h => nomatch h
theorem KeepsSome.some {s : State} {r : State × Nat} (h : Keeps s r.1) : KeepsSome s (some r) := fun _ e => Option.some.inj e ▸ h
theorem KeepsSome.map {α : Type} {s : State} {o : Option α} {f : α → State × Nat} (h : ∀ a, Keeps s (f a).1) :
    KeepsSome s (o.map f) := by
  intro r hr
  cases o with
  | none => exact absurd hr (by simp)
  | some a => exact Option.some.inj hr ▸ h a
/-- Every operation of a list keeps. -/
def KeepsAll (s : State) (l : List (Nat × (State → State × Nat))) : Prop := ∀ e ∈ l, ∀ t, Keeps s t → Keeps s (e.2 t).1
theorem KeepsAll.nil {s : State} : KeepsAll s [] := fun _ h => nomatch h
theorem KeepsAll.cons {s : State} {k : Nat} {f : State → State × Nat} {l} (h : ∀ t, Keeps s t → Keeps s (f t).1) (hl : KeepsAll s l) :
    KeepsAll s ((k, f) :: l) := by
  intro e he
  rcases List.mem_cons.1 he with rfl | he
  · exact h
  · exact hl e he
theorem KeepsAll.lookup {s : State} {l : List (Nat × (State → State × Nat))} {k : Nat} (h : KeepsAll s l) :
    ∀ f, l.lookup k = some f → ∀ t, Keeps s t → Keeps s (f t).1 := by
  induction l with
  | nil => intro f hf; exact absurd hf (by simp)
  | cons e rest ih =>
    intro f hf
    obtain ⟨a, g⟩ := e
    rw [List.lookup_cons] at hf
    split at hf
    · exact Option.some.inj hf ▸ h _ List.mem_cons_self
    · exact ih (fun e he => h e (List.mem_cons_of_mem _ he)) f hf
theorem KeepsSome.ofFind {s t : State} {o : Option (State → State × Nat)}
    (h : ∀ f, o = Option.some f → ∀ u, Keeps s u → Keeps s (f u).1) (ht : Keeps s t) :
    KeepsSome s (match o with | .some f => .some (f t) | .none => .none) := by
  cases o with
  | none => exact KeepsSome.none
  | some f => exact KeepsSome.some (h f rfl t ht)
theorem Keeps.mk_eq {s t : State} {a b c d e f g h i j k l m n o p q : _} :
    Keeps s (State.mk t.objs t.blobs t.rcd a b c d e f g h i j k l m n o p q t.freeCtr t.outbox t.pending) = Keeps s t :=
  propext ⟨fun H => ⟨H.pending, H.free, H.sent, H.sane⟩, fun H => ⟨H.pending, H.free, H.sent, H.sane⟩⟩
theorem Keeps.setRcd {s t : State} {r : RecState} (h : Keeps s t) (hr : s.sane → t.rcd.bounded → r.bounded) : Keeps s { t with rcd := r } :=
  ⟨h.pending, h.free, h.sent, fun hs => ⟨(h.sane hs).1, (h.sane hs).2.1, hr hs (h.sane hs).2.2⟩⟩
theorem Keeps.filterObjs {s t : State} (p : Nat × Int → Bool) (h : Keeps s t) : Keeps s { t with objs := t.objs.filter p } :=
  ⟨h.pending, h.free, h.sent, fun hs => ⟨Sparse.filter_wf _ _ _ (h.sane hs).1, (h.sane hs).2⟩⟩

end Sys2Proof.Machine
end

