-- ==== Sys2Proof/Laws/KeepsBase.lean ====
section
/-! SUPPORT. What Keeps (Safety.lean) says of the shared operations, power stages and Cardamom loops: one lemma for each operation. -/

namespace Sys2Proof.Machine

theorem State.when_keeps (x0 : Bool) (x1 : State → State) (x2 : State) {s0 : State} (h1 : ∀ y0, Keeps s0 y0 → Keeps s0 (x1 y0)) (h2 : Keeps s0 x2) : Keeps s0 (State.when x0 x1 x2) := by
  unfold State.when
  try dsimp only
  repeat' (first | with_reducible assumption  | with_reducible apply h1 | simp only [Keeps.mk_eq] | split | (intro _) )

theorem State.each_keeps {x0 : Type} (x1 : List x0) (x2 : x0 → State → State) (x3 : State) {s0 : State} (h2 : ∀ y0 y1, Keeps s0 y1 → Keeps s0 (x2 y0 y1)) (h3 : Keeps s0 x3) : Keeps s0 (@State.each x0 x1 x2 x3) := by
  unfold State.each
  induction x1 generalizing x3 with
  | nil => exact h3
  | cons a l ih => exact ih _ (h2 a x3 h3)

theorem outState_keeps (o : Out) (s : State) {s0 : State} (h : Keeps s0 s) (ho : KeepsOut s0 o) : Keeps s0 (outState o s) := by
  obtain ⟨t, rfl, ht⟩ := ho
  exact ht

theorem State.put_keeps (x0 : Nat) (x1 : Int) (x2 : State) {s0 : State} (h2 : Keeps s0 x2) : Keeps s0 (State.put x0 x1 x2) := by
  exact ⟨h2.pending, h2.free, h2.sent, fun h => ⟨Sparse.put_wf _ _ _ _ (h2.sane h).1, (h2.sane h).2⟩⟩

theorem State.putB_keeps (x0 : Nat) (x1 : Bool) (x2 : State) {s0 : State} (h2 : Keeps s0 x2) : Keeps s0 (State.putB x0 x1 x2) := by
  unfold State.putB
  try dsimp only
  repeat' (first | with_reducible assumption | with_reducible apply State.put_keeps | simp only [Keeps.mk_eq] | split | (intro _) )

theorem State.putBytes_keeps (x0 : Nat) (x1 : List Byte) (x2 : State) {s0 : State} (h2 : Keeps s0 x2) : Keeps s0 (State.putBytes x0 x1 x2) := by
  exact ⟨h2.pending, h2.free, h2.sent, fun h => ⟨(h2.sane h).1, insertBytes_rising _ _ _ (h2.sane h).2.1, (h2.sane h).2.2⟩⟩

theorem State.useFree_keeps (x0 : State) {s0 : State} (h0 : Keeps s0 x0) : Keeps s0 (State.useFree x0) := by
  exact ⟨h0.pending, Nat.le_succ_of_le h0.free, h0.sent, h0.sane⟩

theorem State.countBy_keeps (x0 : Nat) (x1 : Nat) (x2 : Nat) (x3 : State) {s0 : State} (h3 : Keeps s0 x3) : Keeps s0 (State.countBy x0 x1 x2 x3) := by
  unfold State.countBy
  try dsimp only
  repeat' (first | with_reducible assumption | with_reducible apply State.put_keeps | with_reducible apply State.useFree_keeps | simp only [Keeps.mk_eq] | split | (intro _) )

theorem State.inc_keeps (x0 : Nat) (x1 : State) {s0 : State} (h1 : Keeps s0 x1) : Keeps s0 (State.inc x0 x1) := by
  unfold State.inc
  try dsimp only
  repeat' (first | with_reducible assumption | with_reducible apply State.countBy_keeps | simp only [Keeps.mk_eq] | split | (intro _) )

theorem State.inc64_keeps (x0 : Nat) (x1 : State) {s0 : State} (h1 : Keeps s0 x1) : Keeps s0 (State.inc64 x0 x1) := by
  unfold State.inc64
  try dsimp only
  repeat' (first | with_reducible assumption | with_reducible apply State.countBy_keeps | simp only [Keeps.mk_eq] | split | (intro _) )

theorem State.putMax_keeps (x0 : Nat) (x1 : Int) (x2 : State) {s0 : State} (h2 : Keeps s0 x2) : Keeps s0 (State.putMax x0 x1 x2) := by
  unfold State.putMax
  try dsimp only
  repeat' (first | with_reducible assumption | with_reducible apply State.put_keeps | simp only [Keeps.mk_eq] | split | (intro _) )

theorem State.noteTimer_keeps (x0 : Timer) (x1 : Bool) (x2 : State) {s0 : State} (h2 : Keeps s0 x2) : Keeps s0 (State.noteTimer x0 x1 x2) := by
  unfold State.noteTimer
  try dsimp only
  repeat' (first | with_reducible assumption  | simp only [Keeps.mk_eq] | split | (intro _) )

theorem State.restartTimer_keeps (x0 : Timer) (x1 : State) {s0 : State} (h1 : Keeps s0 x1) : Keeps s0 (State.restartTimer x0 x1) := by
  unfold State.restartTimer
  try dsimp only
  repeat' (first | with_reducible assumption | with_reducible apply State.noteTimer_keeps | simp only [Keeps.mk_eq] | split | (intro _) )

theorem State.send_keeps (x0 : OutMsg) (x1 : State) {s0 : State} (h1 : Keeps s0 x1) : Keeps s0 (State.send x0 x1) := by
  exact ⟨h1.pending, h1.free, h1.sent.trans (List.suffix_cons _ _), h1.sane⟩

theorem State.preparePush_keeps (x0 : Push) (x1 : State) {s0 : State} (h1 : Keeps s0 x1) : Keeps s0 (State.preparePush x0 x1) := by
  unfold State.preparePush
  try dsimp only
  repeat' (first | with_reducible assumption | with_reducible apply State.when_keeps | with_reducible apply State.countBy_keeps | simp only [Keeps.mk_eq] | split | (intro _) )

theorem State.stage_keeps (e : StagedCause) (s : State) {s0 : State} (h : Keeps s0 s)
    (hl : s.rcd.staging.length < 64) : Keeps s0 (s.stage e) := by
  unfold State.stage
  refine State.putMax_keeps _ _ _ (Keeps.setRcd h fun _ hb => ⟨?_, hb.2⟩)
  simp only [List.length_append, List.length_cons, List.length_nil]
  omega

theorem State.notStaged_keeps (x0 : Nat) (x1 : State) {s0 : State} (h1 : Keeps s0 x1) : Keeps s0 (State.notStaged x0 x1) := by
  unfold State.notStaged
  exact State.inc_keeps _ _ (Keeps.setRcd h1 fun _ hb => hb)

theorem State.offerNew_keeps (c ft : Nat) (a : Args) (t : Option Nat) (s : State) {s0 : State} (h : Keeps s0 s) :
    Keeps s0 (State.offerCause.offerNew c ft a t s) := by
  unfold State.offerCause.offerNew
  split
  · rename_i hl
    exact State.preparePush_keeps _ _ (State.stage_keeps _ _ h hl)
  · exact State.preparePush_keeps _ _ (State.notStaged_keeps _ _ h)

theorem State.offerNext_keeps (c ft : Nat) (a : Args) (t : Option Nat) (s : State) {s0 : State} (h : Keeps s0 s) :
    Keeps s0 (State.offerCause.offerNext c ft a t s) := by
  unfold State.offerCause.offerNext
  have hn := State.offerNew_keeps c ft a t s h
  dsimp only
  split
  · rename_i r rest hr
    split
    · exact State.preparePush_keeps _ _ (Keeps.setRcd h fun _ hb => ⟨hb.1, by simpa [hr] using hb.2.1, hb.2.2⟩)
    · exact hn
  · exact hn

theorem State.offerCause_keeps (c ft : Nat) (a : Args) (t : Option Nat) (s : State) {s0 : State} (h : Keeps s0 s) :
    Keeps s0 (s.offerCause c ft a t) := by
  unfold State.offerCause
  have hn := State.offerNext_keeps c ft a t s h
  dsimp only
  split
  · split
    · exact State.preparePush_keeps _ _ (Keeps.setRcd h fun _ hb => ⟨by simpa [mapLast_length] using hb.1, hb.2⟩)
    · exact hn
  · exact hn

theorem State.raiseOwn_keeps (x0 : Nat) (x1 : Nat) (x2 : Args) (x3 : State) {s0 : State} (h3 : Keeps s0 x3) : Keeps s0 (State.raiseOwn x0 x1 x2 x3) := by
  unfold State.raiseOwn
  try dsimp only
  repeat' (first | with_reducible assumption | with_reducible apply State.offerCause_keeps | with_reducible apply State.inc_keeps | with_reducible apply State.preparePush_keeps | simp only [Keeps.mk_eq] | split | (intro _) )

theorem State.raiseAt_keeps (x0 : Nat) (x1 : Nat) (x2 : Args) (x3 : State) {s0 : State} (h3 : Keeps s0 x3) : Keeps s0 (State.raiseAt x0 x1 x2 x3) := by
  unfold State.raiseAt
  try dsimp only
  repeat' (first | with_reducible assumption | with_reducible apply State.raiseOwn_keeps | simp only [Keeps.mk_eq] | split | (intro _) )

theorem State.raise_keeps (x0 : Nat) (x1 : Args) (x2 : State) {s0 : State} (h2 : Keeps s0 x2) : Keeps s0 (State.raise x0 x1 x2) := by
  unfold State.raise
  try dsimp only
  repeat' (first | with_reducible assumption | with_reducible apply State.raiseAt_keeps | simp only [Keeps.mk_eq] | split | (intro _) )

theorem State.raiseOn_keeps (x0 : Nat) (x1 : Nat) (x2 : State) {s0 : State} (h2 : Keeps s0 x2) : Keeps s0 (State.raiseOn x0 x1 x2) := by
  unfold State.raiseOn
  try dsimp only
  repeat' (first | with_reducible assumption | with_reducible apply State.raise_keeps | simp only [Keeps.mk_eq] | split | (intro _) )

theorem State.raise0_keeps (x0 : Nat) (x1 : State) {s0 : State} (h1 : Keeps s0 x1) : Keeps s0 (State.raise0 x0 x1) := by
  unfold State.raise0
  try dsimp only
  repeat' (first | with_reducible assumption | with_reducible apply State.raise_keeps | simp only [Keeps.mk_eq] | split | (intro _) )

theorem State.refuse_keeps (x0 : Nat) (x1 : State) {s0 : State} (h1 : Keeps s0 x1) : Keeps s0 (State.refuse x0 x1).1 := by
  unfold State.refuse
  try dsimp only
  repeat' (first | with_reducible assumption  | simp only [Keeps.mk_eq] | split | (intro _) )

theorem State.ok_keeps (x0 : State) {s0 : State} (h0 : Keeps s0 x0) : Keeps s0 (State.ok x0).1 := by
  unfold State.ok
  try dsimp only
  repeat' (first | with_reducible assumption  | simp only [Keeps.mk_eq] | split | (intro _) )

theorem State.setPhase_keeps (x0 : Fin 20) (x1 : Phase) (x2 : State) {s0 : State} (h2 : Keeps s0 x2) : Keeps s0 (State.setPhase x0 x1 x2) := by
  unfold State.setPhase
  try dsimp only
  repeat' (first | with_reducible assumption  | simp only [Keeps.mk_eq] | split | (intro _) )

theorem State.modPhase_keeps (x0 : Fin 20) (x1 : Phase → Phase) (x2 : State) {s0 : State} (h2 : Keeps s0 x2) : Keeps s0 (State.modPhase x0 x1 x2) := by
  unfold State.modPhase
  try dsimp only
  repeat' (first | with_reducible assumption | with_reducible apply State.setPhase_keeps | simp only [Keeps.mk_eq] | split | (intro _) )

theorem State.setConv_keeps (x0 : Conv) (x1 : ConvSt) (x2 : State) {s0 : State} (h2 : Keeps s0 x2) : Keeps s0 (State.setConv x0 x1 x2) := by
  unfold State.setConv
  try dsimp only
  repeat' (first | with_reducible assumption  | simp only [Keeps.mk_eq] | split | (intro _) )

theorem State.modConv_keeps (x0 : Conv) (x1 : ConvSt → ConvSt) (x2 : State) {s0 : State} (h2 : Keeps s0 x2) : Keeps s0 (State.modConv x0 x1 x2) := by
  unfold State.modConv
  try dsimp only
  repeat' (first | with_reducible assumption | with_reducible apply State.setConv_keeps | simp only [Keeps.mk_eq] | split | (intro _) )

theorem State.modChan_keeps (x0 : Fin 48) (x1 : ChanSt → ChanSt) (x2 : State) {s0 : State} (h2 : Keeps s0 x2) : Keeps s0 (State.modChan x0 x1 x2) := by
  unfold State.modChan
  try dsimp only
  repeat' (first | with_reducible assumption  | simp only [Keeps.mk_eq] | split | (intro _) )

theorem State.modPow_keeps (x0 : PowerState → PowerState) (x1 : State) {s0 : State} (h1 : Keeps s0 x1) : Keeps s0 (State.modPow x0 x1) := by
  unfold State.modPow
  try dsimp only
  repeat' (first | with_reducible assumption  | simp only [Keeps.mk_eq] | split | (intro _) )

theorem State.drawPeriod_keeps (x0 : Conv) (x1 : State) {s0 : State} (h1 : Keeps s0 x1) : Keeps s0 (State.drawPeriod x0 x1) := by
  unfold State.drawPeriod
  try dsimp only
  repeat' (first | with_reducible assumption | with_reducible apply State.modConv_keeps | simp only [Keeps.mk_eq] | split | (intro _) )

theorem State.placeOffsets_keeps (x0 : Conv) (x1 : State) {s0 : State} (h1 : Keeps s0 x1) : Keeps s0 (State.placeOffsets x0 x1) := by
  unfold State.placeOffsets
  try dsimp only
  repeat' (first | with_reducible assumption | with_reducible apply State.each_keeps | with_reducible apply State.put_keeps | with_reducible apply State.modConv_keeps | simp only [Keeps.mk_eq] | split | (intro _) )

theorem State.beginPulse_keeps (x0 : Fin 20) (x1 : State) {s0 : State} (h1 : Keeps s0 x1) : Keeps s0 (State.beginPulse x0 x1) := by
  unfold State.beginPulse
  try dsimp only
  repeat' (first | with_reducible assumption | with_reducible apply State.modPhase_keeps | simp only [Keeps.mk_eq] | split | (intro _) )

theorem State.phaseOut_keeps (x0 : Fin 20) (x1 : State) {s0 : State} (h1 : Keeps s0 x1) : Keeps s0 (State.phaseOut x0 x1) := by
  unfold State.phaseOut
  try dsimp only
  repeat' (first | with_reducible assumption | with_reducible apply State.raiseOn_keeps | with_reducible apply State.modConv_keeps | with_reducible apply State.modPhase_keeps | simp only [Keeps.mk_eq] | split | (intro _) )

theorem State.enterHiccup_keeps (x0 : Fin 20) (x1 : State) {s0 : State} (h1 : Keeps s0 x1) : Keeps s0 (State.enterHiccup x0 x1) := by
  unfold State.enterHiccup
  try dsimp only
  repeat' (first | with_reducible assumption | with_reducible apply State.raiseOn_keeps | with_reducible apply State.inc_keeps | with_reducible apply State.when_keeps | with_reducible apply State.raise_keeps | with_reducible apply State.put_keeps | with_reducible apply State.modPhase_keeps | with_reducible apply State.modConv_keeps | simp only [Keeps.mk_eq] | split | (intro _) )

theorem State.tripConv_keeps (x0 : Conv) (x1 : State) {s0 : State} (h1 : Keeps s0 x1) : Keeps s0 (State.tripConv x0 x1) := by
  unfold State.tripConv
  try dsimp only
  repeat' (first | with_reducible assumption | with_reducible apply State.each_keeps | with_reducible apply State.when_keeps | with_reducible apply State.enterHiccup_keeps | with_reducible apply State.modConv_keeps | simp only [Keeps.mk_eq] | split | (intro _) )

theorem State.convOff_keeps (x0 : Conv) (x1 : State) {s0 : State} (h1 : Keeps s0 x1) : Keeps s0 (State.convOff x0 x1) := by
  unfold State.convOff
  try dsimp only
  repeat' (first | with_reducible assumption | with_reducible apply State.each_keeps | with_reducible apply State.modPhase_keeps | with_reducible apply State.modConv_keeps | simp only [Keeps.mk_eq] | split | (intro _) )

theorem State.stopConv_keeps (x0 : Conv) (x1 : StopRule) (x2 : State) {s0 : State} (h2 : Keeps s0 x2) : Keeps s0 (State.stopConv x0 x1 x2) := by
  unfold State.stopConv
  try dsimp only
  repeat' (first | with_reducible assumption | with_reducible apply State.modConv_keeps | simp only [Keeps.mk_eq] | split | (intro _) )

theorem State.startPhases_keeps (x0 : Conv) (x1 : State) {s0 : State} (h1 : Keeps s0 x1) : Keeps s0 (State.startPhases x0 x1) := by
  unfold State.startPhases
  try dsimp only
  repeat' (first | with_reducible assumption | with_reducible apply State.each_keeps | with_reducible apply State.put_keeps | with_reducible apply State.modPhase_keeps | simp only [Keeps.mk_eq] | split | (intro _) )

theorem State.showAtTarget_keeps (x0 : State) {s0 : State} (h0 : Keeps s0 x0) : Keeps s0 (State.showAtTarget x0) := by
  unfold State.showAtTarget
  try dsimp only
  repeat' (first | with_reducible assumption | with_reducible apply State.putB_keeps | simp only [Keeps.mk_eq] | split | (intro _) )

theorem State.putFeedPower_keeps (x0 : Int) (x1 : State) {s0 : State} (h1 : Keeps s0 x1) : Keeps s0 (State.putFeedPower x0 x1) := by
  unfold State.putFeedPower
  try dsimp only
  repeat' (first | with_reducible assumption  | simp only [Keeps.mk_eq] | split | (intro _) )

theorem State.softStart_keeps (x0 : Conv) (x1 : State) {s0 : State} (h1 : Keeps s0 x1) : Keeps s0 (State.softStart x0 x1) := by
  unfold State.softStart
  try dsimp only
  repeat' (first | with_reducible assumption | with_reducible apply State.modConv_keeps | with_reducible apply State.showAtTarget_keeps | with_reducible apply State.put_keeps | with_reducible apply State.modPow_keeps | with_reducible apply State.putFeedPower_keeps | simp only [Keeps.mk_eq] | split | (intro _) )

theorem State.startConv_keeps (x0 : Conv) (x1 : State) {s0 : State} (h1 : Keeps s0 x1) : Keeps s0 (State.startConv x0 x1) := by
  unfold State.startConv
  try dsimp only
  repeat' (first | with_reducible assumption | with_reducible apply State.modConv_keeps | with_reducible apply State.softStart_keeps | with_reducible apply State.startPhases_keeps | simp only [Keeps.mk_eq] | split | (intro _) )

theorem State.tryFeed_keeps (x0 : State) {s0 : State} (h0 : Keeps s0 x0) : Keeps s0 (State.tryFeed x0) := by
  unfold State.tryFeed
  try dsimp only
  repeat' (first | with_reducible assumption | with_reducible apply State.startConv_keeps | with_reducible apply State.modConv_keeps | simp only [Keeps.mk_eq] | split | (intro _) )

theorem State.tryStorage_keeps (x0 : State) {s0 : State} (h0 : Keeps s0 x0) : Keeps s0 (State.tryStorage x0) := by
  unfold State.tryStorage
  try dsimp only
  repeat' (first | with_reducible assumption | with_reducible apply State.startConv_keeps | with_reducible apply State.modConv_keeps | simp only [Keeps.mk_eq] | split | (intro _) )

theorem State.startConverters_keeps (x0 : State) {s0 : State} (h0 : Keeps s0 x0) : Keeps s0 (State.startConverters x0) := by
  unfold State.startConverters
  try dsimp only
  repeat' (first | with_reducible assumption | with_reducible apply State.tryStorage_keeps | with_reducible apply State.tryFeed_keeps | simp only [Keeps.mk_eq] | split | (intro _) )

theorem State.startWaiting_keeps (x0 : List Conv) (x1 : State) {s0 : State} (h1 : Keeps s0 x1) : Keeps s0 (State.startWaiting x0 x1) := by
  unfold State.startWaiting
  try dsimp only
  repeat' (first | with_reducible assumption | with_reducible apply State.when_keeps | with_reducible apply State.tryStorage_keeps | with_reducible apply State.tryFeed_keeps | simp only [Keeps.mk_eq] | split | (intro _) )

theorem State.commandWrite_keeps (x0 : Conv) (x1 : Int) (x2 : State) {s0 : State} (h2 : Keeps s0 x2) : Keeps s0 (State.commandWrite x0 x1 x2) := by
  unfold State.commandWrite
  try dsimp only
  repeat' (first | with_reducible assumption | with_reducible apply State.modConv_keeps | with_reducible apply State.each_keeps | with_reducible apply State.when_keeps | with_reducible apply State.inc_keeps | with_reducible apply State.modPhase_keeps | simp only [Keeps.mk_eq] | split | (intro _) )

theorem State.preBias_keeps (x0 : Fin 20) (x1 : Bool) (x2 : State) {s0 : State} (h2 : Keeps s0 x2) : Keeps s0 (State.preBias x0 x1 x2) := by
  unfold State.preBias
  try dsimp only
  repeat' (first | with_reducible assumption | with_reducible apply State.put_keeps | with_reducible apply State.beginPulse_keeps | with_reducible apply State.modPhase_keeps | simp only [Keeps.mk_eq] | split | (intro _) )

theorem State.setTarget_keeps (x0 : Int) (x1 : Nat) (x2 : Bool) (x3 : State) {s0 : State} (h3 : Keeps s0 x3) : Keeps s0 (State.setTarget x0 x1 x2 x3) := by
  unfold State.setTarget
  try dsimp only
  repeat' (first | with_reducible assumption | with_reducible apply State.when_keeps | with_reducible apply State.put_keeps | with_reducible apply State.showAtTarget_keeps | with_reducible apply State.inc_keeps | simp only [Keeps.mk_eq] | split | (intro _) )

theorem State.burstExit_keeps (x0 : Conv) (x1 : State) {s0 : State} (h1 : Keeps s0 x1) : Keeps s0 (State.burstExit x0 x1) := by
  unfold State.burstExit
  try dsimp only
  repeat' (first | with_reducible assumption | with_reducible apply State.each_keeps | with_reducible apply State.when_keeps | with_reducible apply State.modPhase_keeps | with_reducible apply State.raiseOn_keeps | with_reducible apply State.modConv_keeps | simp only [Keeps.mk_eq] | split | (intro _) )

theorem State.burstTick_keeps (x0 : State) {s0 : State} (h0 : Keeps s0 x0) : Keeps s0 (State.burstTick x0) := by
  unfold State.burstTick
  try dsimp only
  repeat' (first | with_reducible assumption | with_reducible apply State.modConv_keeps | simp only [Keeps.mk_eq] | split | (intro _) )

theorem State.wakeBurst_keeps (x0 : State) {s0 : State} (h0 : Keeps s0 x0) : Keeps s0 (State.wakeBurst x0) := by
  unfold State.wakeBurst
  try dsimp only
  repeat' (first | with_reducible assumption | with_reducible apply State.when_keeps | with_reducible apply State.modPow_keeps | simp only [Keeps.mk_eq] | split | (intro _) )

theorem State.burstEnter_keeps (x0 : Conv) (x1 : State) {s0 : State} (h1 : Keeps s0 x1) : Keeps s0 (State.burstEnter x0 x1) := by
  unfold State.burstEnter
  try dsimp only
  repeat' (first | with_reducible assumption | with_reducible apply State.each_keeps | with_reducible apply State.when_keeps | with_reducible apply State.modPhase_keeps | with_reducible apply State.raiseOn_keeps | with_reducible apply State.modPow_keeps | with_reducible apply State.modConv_keeps | simp only [Keeps.mk_eq] | split | (intro _) )

theorem State.tempStop_keeps (x0 : Fin 20) (x1 : State) {s0 : State} (h1 : Keeps s0 x1) : Keeps s0 (State.tempStop x0 x1) := by
  unfold State.tempStop
  try dsimp only
  repeat' (first | with_reducible assumption | with_reducible apply State.modPhase_keeps | simp only [Keeps.mk_eq] | split | (intro _) )

theorem State.bringBack_keeps (x0 : Fin 20) (x1 : State) {s0 : State} (h1 : Keeps s0 x1) : Keeps s0 (State.bringBack x0 x1) := by
  unfold State.bringBack
  try dsimp only
  repeat' (first | with_reducible assumption | with_reducible apply State.put_keeps | with_reducible apply State.modConv_keeps | with_reducible apply State.modPhase_keeps | simp only [Keeps.mk_eq] | split | (intro _) )

theorem State.setCore_keeps (x0 : Fin 4) (x1 : CoreSt) (x2 : State) {s0 : State} (h2 : Keeps s0 x2) : Keeps s0 (State.setCore x0 x1 x2) := by
  unfold State.setCore
  try dsimp only
  repeat' (first | with_reducible assumption  | simp only [Keeps.mk_eq] | split | (intro _) )

theorem State.modCore_keeps (x0 : Fin 4) (x1 : CoreSt → CoreSt) (x2 : State) {s0 : State} (h2 : Keeps s0 x2) : Keeps s0 (State.modCore x0 x1 x2) := by
  unfold State.modCore
  try dsimp only
  repeat' (first | with_reducible assumption | with_reducible apply State.setCore_keeps | simp only [Keeps.mk_eq] | split | (intro _) )

theorem State.measure_keeps (x0 : Nat) (x1 : Nat) (x2 : Nat) (x3 : Nat) (x4 : Nat) (x5 : List Byte) (x6 : State) {s0 : State} (h6 : Keeps s0 x6) : Keeps s0 (State.measure x0 x1 x2 x3 x4 x5 x6) := by
  unfold State.measure
  try dsimp only
  repeat' (first | with_reducible assumption | with_reducible apply State.when_keeps | with_reducible apply State.raise0_keeps | simp only [Keeps.mk_eq] | split | (intro _) )

theorem State.measureValue_keeps (x0 : List Byte) (x1 : State) {s0 : State} (h1 : Keeps s0 x1) : Keeps s0 (State.measureValue x0 x1) := by
  unfold State.measureValue
  try dsimp only
  repeat' (first | with_reducible assumption | with_reducible apply State.measure_keeps | simp only [Keeps.mk_eq] | split | (intro _) )

theorem State.noteCert_keeps (x0 : State) {s0 : State} (h0 : Keeps s0 x0) : Keeps s0 (State.noteCert x0) := by
  unfold State.noteCert
  try dsimp only
  repeat' (first | with_reducible assumption | with_reducible apply State.raise0_keeps | simp only [Keeps.mk_eq] | split | (intro _) )

theorem State.settle_keeps (x0 : Fin 4) (x1 : State) {s0 : State} (h1 : Keeps s0 x1) : Keeps s0 (State.settle x0 x1) := by
  unfold State.settle
  try dsimp only
  repeat' (first | with_reducible assumption | with_reducible apply State.setCore_keeps | with_reducible apply State.when_keeps | with_reducible apply State.countBy_keeps | with_reducible apply State.each_keeps | with_reducible apply State.commandWrite_keeps | with_reducible apply State.raiseOn_keeps | simp only [Keeps.mk_eq] | split | (intro _) )

theorem State.faultCore_keeps (x0 : Fin 4) (x1 : State) {s0 : State} (h1 : Keeps s0 x1) : Keeps s0 (State.faultCore x0 x1) := by
  unfold State.faultCore
  try dsimp only
  repeat' (first | with_reducible assumption | with_reducible apply State.setCore_keeps | with_reducible apply State.each_keeps | with_reducible apply State.stopConv_keeps | with_reducible apply State.raiseOn_keeps | simp only [Keeps.mk_eq] | split | (intro _) )

theorem State.runCore_keeps (x0 : Fin 4) (x1 : State) {s0 : State} (h1 : Keeps s0 x1) : Keeps s0 (State.runCore x0 x1) := by
  unfold State.runCore
  try dsimp only
  repeat' (first | with_reducible assumption | with_reducible apply State.modCore_keeps | with_reducible apply State.raiseOn_keeps | with_reducible apply State.startWaiting_keeps | simp only [Keeps.mk_eq] | split | (intro _) )

theorem State.enforceOn_keeps (x0 : Fin 4) (x1 : Program) (x2 : Sparse) (x3 : State) {s0 : State} (h3 : Keeps s0 x3) : Keeps s0 (State.enforceOn x0 x1 x2 x3) := by
  unfold State.enforceOn
  try dsimp only
  repeat' (first | with_reducible assumption | with_reducible apply State.put_keeps | with_reducible apply State.modCore_keeps | with_reducible apply State.measure_keeps | simp only [Keeps.mk_eq] | split | (intro _) )

theorem State.releaseHold_keeps (x0 : Fin 4) (x1 : State) {s0 : State} (h1 : Keeps s0 x1) : Keeps s0 (State.releaseHold x0 x1) := by
  unfold State.releaseHold
  try dsimp only
  repeat' (first | with_reducible assumption | with_reducible apply State.when_keeps | with_reducible apply State.raiseOn_keeps | with_reducible apply State.modCore_keeps | simp only [Keeps.mk_eq] | split | (intro _) )

theorem State.joinNotice_keeps (x0 : BitVec 24) (x1 : Int) (x2 : Nat) (x3 : Fin 4) (x4 : State) {s0 : State} (h4 : Keeps s0 x4) : Keeps s0 (State.joinNotice x0 x1 x2 x3 x4) := by
  unfold State.joinNotice
  try dsimp only
  repeat' (first | with_reducible assumption | with_reducible apply State.setCore_keeps | with_reducible apply State.when_keeps | with_reducible apply State.inc_keeps | simp only [Keeps.mk_eq] | split | (intro _) )

theorem State.noticeAt_keeps (x0 : Fin 24) (x1 : Int) (x2 : Nat) (x3 : Fin 4) (x4 : State) {s0 : State} (h4 : Keeps s0 x4) : Keeps s0 (State.noticeAt x0 x1 x2 x3 x4) := by
  unfold State.noticeAt
  try dsimp only
  repeat' (first | with_reducible assumption | with_reducible apply State.raise_keeps | with_reducible apply State.inc_keeps | with_reducible apply State.joinNotice_keeps | simp only [Keeps.mk_eq] | split | (intro _) )

theorem State.notice_keeps (x0 : Fin 24) (x1 : Int) (x2 : Nat) (x3 : State) {s0 : State} (h3 : Keeps s0 x3) : Keeps s0 (State.notice x0 x1 x2 x3) := by
  unfold State.notice
  try dsimp only
  repeat' (first | with_reducible assumption | with_reducible apply State.each_keeps | with_reducible apply State.noticeAt_keeps | with_reducible apply State.wakeBurst_keeps | simp only [Keeps.mk_eq] | split | (intro _) )

theorem State.modLoop_keeps (x0 : LoopState → LoopState) (x1 : State) {s0 : State} (h1 : Keeps s0 x1) : Keeps s0 (State.modLoop x0 x1) := by
  unfold State.modLoop
  try dsimp only
  repeat' (first | with_reducible assumption  | simp only [Keeps.mk_eq] | split | (intro _) )

theorem State.noteSelection_keeps (x0 : Nat) (x1 : State) {s0 : State} (h1 : Keeps s0 x1) : Keeps s0 (State.noteSelection x0 x1) := by
  unfold State.noteSelection
  try dsimp only
  repeat' (first | with_reducible assumption | with_reducible apply State.inc64_keeps | with_reducible apply State.put_keeps | with_reducible apply State.modLoop_keeps | simp only [Keeps.mk_eq] | split | (intro _) )

theorem State.noteOverdraw_keeps (x0 : Int) (x1 : Int) (x2 : State) {s0 : State} (h2 : Keeps s0 x2) : Keeps s0 (State.noteOverdraw x0 x1 x2) := by
  unfold State.noteOverdraw
  try dsimp only
  repeat' (first | with_reducible assumption | with_reducible apply State.put_keeps | with_reducible apply State.when_keeps | with_reducible apply State.inc64_keeps | with_reducible apply State.modLoop_keeps | simp only [Keeps.mk_eq] | split | (intro _) )

theorem State.standardMain_keeps (x0 : Fin 4) (x1 : State) {s0 : State} (h1 : Keeps s0 x1) : Keeps s0 (State.standardMain x0 x1) := by
  unfold State.standardMain
  try dsimp only
  repeat' (first | with_reducible assumption | with_reducible apply State.put_keeps | with_reducible apply State.modLoop_keeps | with_reducible apply State.setCore_keeps | with_reducible apply State.noteSelection_keeps | with_reducible apply State.when_keeps | with_reducible apply State.inc_keeps | with_reducible apply State.noteOverdraw_keeps | simp only [Keeps.mk_eq] | split | (intro _) )

theorem execFeedOverdraw_keeps (x0 : State) {s0 : State} (h0 : Keeps s0 x0) : KeepsOut s0 (execFeedOverdraw x0) := by
  unfold execFeedOverdraw
  try dsimp only
  repeat' (first | with_reducible assumption  | with_reducible apply KeepsOut.next| with_reducible apply State.raise_keeps | with_reducible apply State.inc_keeps | with_reducible apply State.modLoop_keeps | simp only [Keeps.mk_eq] | split | (intro _) )

theorem execCapSurplus_keeps (x0 : State) {s0 : State} (h0 : Keeps s0 x0) : KeepsOut s0 (execCapSurplus x0) := by
  unfold execCapSurplus
  try dsimp only
  repeat' (first | with_reducible assumption  | with_reducible apply KeepsOut.next| with_reducible apply State.raise0_keeps | with_reducible apply State.modLoop_keeps | simp only [Keeps.mk_eq] | split | (intro _) )

theorem State.binding_keeps (x0 : List Nat) (x1 : Nat) (x2 : State) {s0 : State} (h2 : Keeps s0 x2) : Keeps s0 (State.binding x0 x1 x2) := by
  unfold State.binding
  try dsimp only
  repeat' (first | with_reducible assumption | with_reducible apply State.raise_keeps | with_reducible apply State.modLoop_keeps | simp only [Keeps.mk_eq] | split | (intro _) )

theorem execStorageLimitBinding_keeps (x0 : State) {s0 : State} (h0 : Keeps s0 x0) : KeepsOut s0 (execStorageLimitBinding x0) := by
  unfold execStorageLimitBinding
  try dsimp only
  repeat' (first | with_reducible assumption  | with_reducible apply KeepsOut.next| with_reducible apply State.binding_keeps | simp only [Keeps.mk_eq] | split | (intro _) )

theorem execSocFloorBinding_keeps (x0 : State) {s0 : State} (h0 : Keeps s0 x0) : KeepsOut s0 (execSocFloorBinding x0) := by
  unfold execSocFloorBinding
  try dsimp only
  repeat' (first | with_reducible assumption  | with_reducible apply KeepsOut.next| with_reducible apply State.binding_keeps | simp only [Keeps.mk_eq] | split | (intro _) )

theorem execSocCeilingBinding_keeps (x0 : State) {s0 : State} (h0 : Keeps s0 x0) : KeepsOut s0 (execSocCeilingBinding x0) := by
  unfold execSocCeilingBinding
  try dsimp only
  repeat' (first | with_reducible assumption  | with_reducible apply KeepsOut.next| with_reducible apply State.binding_keeps | simp only [Keeps.mk_eq] | split | (intro _) )

theorem execThermalDerate_keeps (x0 : State) {s0 : State} (h0 : Keeps s0 x0) : KeepsOut s0 (execThermalDerate x0) := by
  unfold execThermalDerate
  try dsimp only
  repeat' (first | with_reducible assumption  | with_reducible apply KeepsOut.next| with_reducible apply State.binding_keeps | simp only [Keeps.mk_eq] | split | (intro _) )

theorem State.disarm_keeps (x0 : InjPoint) (x1 : State) {s0 : State} (h1 : Keeps s0 x1) : Keeps s0 (State.disarm x0 x1) := by
  unfold State.disarm
  try dsimp only
  repeat' (first | with_reducible assumption | with_reducible apply State.raise_keeps | simp only [Keeps.mk_eq] | split | (intro _) )

theorem State.disarmAll_keeps (x0 : State) {s0 : State} (h0 : Keeps s0 x0) : Keeps s0 (State.disarmAll x0) := by
  unfold State.disarmAll
  try dsimp only
  repeat' (first | with_reducible assumption | with_reducible apply State.each_keeps | with_reducible apply State.disarm_keeps | simp only [Keeps.mk_eq] | split | (intro _) )

end Sys2Proof.Machine
end

