-- ==== Sys2Proof/Laws/KeepsCard.lean ====
section
/-! SUPPORT. What Keeps (Safety.lean) says of queues, routes, access, Cardamom and cloves: one lemma for each operation. -/

namespace Sys2Proof.Machine

theorem State.setQueue_keeps (x0 : Queue) (x1 : State) {s0 : State} (h1 : Keeps s0 x1) : Keeps s0 (State.setQueue x0 x1) := by
  unfold State.setQueue
  try dsimp only
  repeat' (first | with_reducible assumption  | simp only [Keeps.mk_eq] | split | (intro _) )

theorem State.driveXoff_keeps (x0 : State) {s0 : State} (h0 : Keeps s0 x0) : Keeps s0 (State.driveXoff x0) := by
  unfold State.driveXoff
  try dsimp only
  repeat' (first | with_reducible assumption  | simp only [Keeps.mk_eq] | split | (intro _) )

theorem State.incHalf_keeps (x0 : Nat) (x1 : Bool) (x2 : State) {s0 : State} (h2 : Keeps s0 x2) : Keeps s0 (State.incHalf x0 x1 x2) := by
  unfold State.incHalf
  try dsimp only
  repeat' (first | with_reducible assumption | with_reducible apply State.useFree_keeps | with_reducible apply State.putBytes_keeps | simp only [Keeps.mk_eq] | split | (intro _) )

theorem State.sendPfc_keeps (x0 : Nat) (x1 : Nat) (x2 : State) {s0 : State} (h2 : Keeps s0 x2) : Keeps s0 (State.sendPfc x0 x1 x2) := by
  unfold State.sendPfc
  try dsimp only
  repeat' (first | with_reducible assumption | with_reducible apply State.send_keeps | with_reducible apply State.incHalf_keeps | simp only [Keeps.mk_eq] | split | (intro _) )

theorem State.poolCheck_keeps (x0 : State) {s0 : State} (h0 : Keeps s0 x0) : Keeps s0 (State.poolCheck x0) := by
  unfold State.poolCheck
  try dsimp only
  repeat' (first | with_reducible assumption | with_reducible apply State.raise_keeps | simp only [Keeps.mk_eq] | split | (intro _) )

theorem State.watermark_keeps (x0 : Nat) (x1 : State) {s0 : State} (h1 : Keeps s0 x1) : Keeps s0 (State.watermark x0 x1) := by
  unfold State.watermark
  try dsimp only
  repeat' (first | with_reducible assumption | with_reducible apply State.putMax_keeps | with_reducible apply State.sendPfc_keeps | with_reducible apply State.raise_keeps | with_reducible apply State.inc_keeps | with_reducible apply State.setQueue_keeps | with_reducible apply State.driveXoff_keeps | with_reducible apply State.poolCheck_keeps | simp only [Keeps.mk_eq] | split | (intro _) )

theorem State.dropItem_keeps (x0 : Nat) (x1 : State) {s0 : State} (h1 : Keeps s0 x1) : Keeps s0 (State.dropItem x0 x1) := by
  unfold State.dropItem
  try dsimp only
  repeat' (first | with_reducible assumption | with_reducible apply State.inc_keeps | with_reducible apply State.raiseOn_keeps | with_reducible apply State.setQueue_keeps | simp only [Keeps.mk_eq] | split | (intro _) )

theorem State.deliver_keeps (x0 : Nat) (x1 : QItem) (x2 : State) {s0 : State} (h2 : Keeps s0 x2) : Keeps s0 (State.deliver x0 x1 x2) := by
  unfold State.deliver
  try dsimp only
  repeat' (first | with_reducible assumption | with_reducible apply State.when_keeps | with_reducible apply State.inc_keeps | with_reducible apply State.watermark_keeps | with_reducible apply State.send_keeps | with_reducible apply State.setQueue_keeps | simp only [Keeps.mk_eq] | split | (intro _) )

theorem State.wakeRead_keeps (x0 : Nat) (x1 : State) {s0 : State} (h1 : Keeps s0 x1) : Keeps s0 (State.wakeRead x0 x1) := by
  unfold State.wakeRead
  try dsimp only
  repeat' (first | with_reducible assumption | with_reducible apply State.deliver_keeps | simp only [Keeps.mk_eq] | split | (intro _) )

theorem State.abandonTo_keeps (x0 : Nat) (x1 : QItem) (x2 : State) {s0 : State} (h2 : Keeps s0 x2) : Keeps s0 (State.abandonTo x0 x1 x2) := by
  unfold State.abandonTo
  try dsimp only
  repeat' (first | with_reducible assumption | with_reducible apply State.when_keeps | with_reducible apply State.send_keeps | simp only [Keeps.mk_eq] | split | (intro _) )

theorem State.itemGrown_keeps (x0 : Nat) (x1 : QItem) (x2 : State) {s0 : State} (h2 : Keeps s0 x2) : Keeps s0 (State.itemGrown x0 x1 x2) := by
  unfold State.itemGrown
  try dsimp only
  repeat' (first | with_reducible assumption | with_reducible apply State.watermark_keeps | with_reducible apply State.when_keeps | with_reducible apply State.inc64_keeps | with_reducible apply State.deliver_keeps | with_reducible apply State.wakeRead_keeps | simp only [Keeps.mk_eq] | split | (intro _) )

theorem State.putItem_keeps (x0 : Nat) (x1 : Nat) (x2 : QItem) (x3 : QItem → List QItem) (x4 : List QItem) (x5 : State) {s0 : State} (h5 : Keeps s0 x5) : Keeps s0 (State.putItem x0 x1 x2 x3 x4 x5) := by
  unfold State.putItem
  try dsimp only
  repeat' (first | with_reducible assumption | with_reducible apply State.itemGrown_keeps | with_reducible apply State.setQueue_keeps | with_reducible apply State.watermark_keeps | with_reducible apply State.abandonTo_keeps | with_reducible apply State.dropItem_keeps | simp only [Keeps.mk_eq] | split | (intro _) )

theorem State.addItem_keeps (x0 : Nat) (x1 : QItem) (x2 : State) {s0 : State} (h2 : Keeps s0 x2) : Keeps s0 (State.addItem x0 x1 x2) := by
  unfold State.addItem
  try dsimp only
  repeat' (first | with_reducible assumption | with_reducible apply State.putItem_keeps | simp only [Keeps.mk_eq] | split | (intro _) )

theorem State.growItem_keeps (x0 : Nat) (x1 : QItem) (x2 : QItem) (x3 : State) {s0 : State} (h3 : Keeps s0 x3) : Keeps s0 (State.growItem x0 x1 x2 x3) := by
  unfold State.growItem
  try dsimp only
  repeat' (first | with_reducible assumption | with_reducible apply State.putItem_keeps | simp only [Keeps.mk_eq] | split | (intro _) )

theorem State.enqueue_keeps (x0 : Nat) (x1 : Nat) (x2 : Nat) (x3 : List Byte) (x4 : State) {s0 : State} (h4 : Keeps s0 x4) : Keeps s0 (State.enqueue x0 x1 x2 x3 x4) := by
  unfold State.enqueue
  try dsimp only
  repeat' (first | with_reducible assumption | with_reducible apply State.addItem_keeps | simp only [Keeps.mk_eq] | split | (intro _) )

theorem State.flushQueue_keeps (x0 : Nat) (x1 : State) {s0 : State} (h1 : Keeps s0 x1) : Keeps s0 (State.flushQueue x0 x1) := by
  unfold State.flushQueue
  try dsimp only
  repeat' (first | with_reducible assumption | with_reducible apply State.setQueue_keeps | with_reducible apply State.each_keeps | with_reducible apply State.abandonTo_keeps | with_reducible apply State.when_keeps | with_reducible apply State.sendPfc_keeps | with_reducible apply State.raise_keeps | with_reducible apply State.driveXoff_keeps | with_reducible apply State.poolCheck_keeps | with_reducible apply State.raiseOn_keeps | with_reducible apply State.inc_keeps | simp only [Keeps.mk_eq] | split | (intro _) )

theorem State.abandonItem_keeps (x0 : Nat) (x1 : Nat) (x2 : State) {s0 : State} (h2 : Keeps s0 x2) : Keeps s0 (State.abandonItem x0 x1 x2) := by
  unfold State.abandonItem
  try dsimp only
  repeat' (first | with_reducible assumption | with_reducible apply State.setQueue_keeps | with_reducible apply State.watermark_keeps | with_reducible apply State.abandonTo_keeps | simp only [Keeps.mk_eq] | split | (intro _) )

theorem State.emptyQueues_keeps (x0 : State) {s0 : State} (h0 : Keeps s0 x0) : Keeps s0 (State.emptyQueues x0) := by
  unfold State.emptyQueues
  try dsimp only
  repeat' (first | with_reducible assumption  | simp only [Keeps.mk_eq] | split | (intro _) )

theorem State.takeItem_keeps (x0 : Nat) (x1 : State) {s0 : State} (h1 : Keeps s0 x1) : Keeps s0 (State.takeItem x0 x1).1 := by
  unfold State.takeItem
  try dsimp only
  repeat' (first | with_reducible assumption | with_reducible apply State.watermark_keeps | with_reducible apply State.setQueue_keeps | with_reducible apply State.inc_keeps | simp only [Keeps.mk_eq] | split | (intro _) )

theorem State.modFab_keeps (x0 : FabricSt → FabricSt) (x1 : State) {s0 : State} (h1 : Keeps s0 x1) : Keeps s0 (State.modFab x0 x1) := by
  unfold State.modFab
  try dsimp only
  repeat' (first | with_reducible assumption  | simp only [Keeps.mk_eq] | split | (intro _) )

theorem State.modLink_keeps (x0 : Fin 32) (x1 : LinkSt → LinkSt) (x2 : State) {s0 : State} (h2 : Keeps s0 x2) : Keeps s0 (State.modLink x0 x1 x2) := by
  unfold State.modLink
  try dsimp only
  repeat' (first | with_reducible assumption | with_reducible apply State.modFab_keeps | simp only [Keeps.mk_eq] | split | (intro _) )

theorem State.showRouteSource_keeps (x0 : State) {s0 : State} (h0 : Keeps s0 x0) : Keeps s0 (State.showRouteSource x0) := by
  unfold State.showRouteSource
  try dsimp only
  repeat' (first | with_reducible assumption | with_reducible apply State.put_keeps | simp only [Keeps.mk_eq] | split | (intro _) )

theorem State.selfRoute_keeps (x0 : State) {s0 : State} (h0 : Keeps s0 x0) : Keeps s0 (State.selfRoute x0) := by
  unfold State.selfRoute
  try dsimp only
  repeat' (first | with_reducible assumption | with_reducible apply State.showRouteSource_keeps | with_reducible apply State.modFab_keeps | with_reducible apply State.putBytes_keeps | simp only [Keeps.mk_eq] | split | (intro _) )

theorem State.dropNoRoute_keeps (x0 : State) {s0 : State} (h0 : Keeps s0 x0) : Keeps s0 (State.dropNoRoute x0) := by
  unfold State.dropNoRoute
  try dsimp only
  repeat' (first | with_reducible assumption | with_reducible apply State.inc_keeps | with_reducible apply State.raise0_keeps | with_reducible apply State.modFab_keeps | simp only [Keeps.mk_eq] | split | (intro _) )

theorem State.saySelf_keeps (x0 : State) {s0 : State} (h0 : Keeps s0 x0) : Keeps s0 (State.saySelf x0) := by
  unfold State.saySelf
  try dsimp only
  repeat' (first | with_reducible assumption | with_reducible apply State.raise0_keeps | with_reducible apply State.modFab_keeps | simp only [Keeps.mk_eq] | split | (intro _) )

theorem State.transmit_keeps (x0 : List Byte) (x1 : Bool) (x2 : Nat) (x3 : State) {s0 : State} (h3 : Keeps s0 x3) : Keeps s0 (State.transmit x0 x1 x2 x3) := by
  unfold State.transmit
  try dsimp only
  repeat' (first | with_reducible assumption | with_reducible apply State.inc_keeps | with_reducible apply State.when_keeps | with_reducible apply State.inc64_keeps | with_reducible apply State.enqueue_keeps | simp only [Keeps.mk_eq] | split | (intro _) )

theorem State.sendBy_keeps (x0 : Lookup) (x1 : List Byte) (x2 : Bool) (x3 : State) {s0 : State} (h3 : Keeps s0 x3) : Keeps s0 (State.sendBy x0 x1 x2 x3) := by
  unfold State.sendBy
  try dsimp only
  repeat' (first | with_reducible assumption | with_reducible apply State.dropNoRoute_keeps | with_reducible apply State.each_keeps | with_reducible apply State.transmit_keeps | with_reducible apply State.when_keeps | with_reducible apply State.saySelf_keeps | simp only [Keeps.mk_eq] | split | (intro _) )

theorem State.originateFlit_keeps (x0 : List Byte) (x1 : State) {s0 : State} (h1 : Keeps s0 x1) : Keeps s0 (State.originateFlit x0 x1) := by
  unfold State.originateFlit
  try dsimp only
  repeat' (first | with_reducible assumption | with_reducible apply State.sendBy_keeps | simp only [Keeps.mk_eq] | split | (intro _) )

theorem State.pairFlit_keeps (x0 : List Byte) (x1 : State) {s0 : State} (h1 : Keeps s0 x1) : Keeps s0 (State.pairFlit x0 x1) := by
  unfold State.pairFlit
  try dsimp only
  repeat' (first | with_reducible assumption | with_reducible apply State.each_keeps | with_reducible apply State.transmit_keeps | simp only [Keeps.mk_eq] | split | (intro _) )

theorem State.queueTiming_keeps (x0 : Nat) (x1 : List Byte) (x2 : State) {s0 : State} (h2 : Keeps s0 x2) : Keeps s0 (State.queueTiming x0 x1 x2) := by
  unfold State.queueTiming
  try dsimp only
  repeat' (first | with_reducible assumption | with_reducible apply State.modLink_keeps | simp only [Keeps.mk_eq] | split | (intro _) )

theorem State.queueControl_keeps (x0 : Fin 32) (x1 : Nat) (x2 : List Byte) (x3 : State) {s0 : State} (h3 : Keeps s0 x3) : Keeps s0 (State.queueControl x0 x1 x2 x3) := by
  unfold State.queueControl
  try dsimp only
  repeat' (first | with_reducible assumption | with_reducible apply State.modLink_keeps | simp only [Keeps.mk_eq] | split | (intro _) )

theorem State.sendPair_keeps (x0 : Nat) (x1 : List Byte) (x2 : State) {s0 : State} (h2 : Keeps s0 x2) : Keeps s0 (State.sendPair x0 x1 x2) := by
  unfold State.sendPair
  try dsimp only
  repeat' (first | with_reducible assumption | with_reducible apply State.send_keeps | simp only [Keeps.mk_eq] | split | (intro _) )

theorem State.pairHear_keeps (x0 : Nat) (x1 : Nat) (x2 : List Byte) (x3 : State → State) (x4 : State) {s0 : State} (h3 : ∀ y0, Keeps s0 y0 → Keeps s0 (x3 y0)) (h4 : Keeps s0 x4) : Keeps s0 (State.pairHear x0 x1 x2 x3 x4) := by
  unfold State.pairHear
  try dsimp only
  repeat' (first | with_reducible assumption  | with_reducible apply h3 | simp only [Keeps.mk_eq] | split | (intro _) )

theorem State.modSession_keeps (x0 : Nat) (x1 : Session → Session) (x2 : State) {s0 : State} (h2 : Keeps s0 x2) : Keeps s0 (State.modSession x0 x1 x2) := by
  unfold State.modSession
  try dsimp only
  repeat' (first | with_reducible assumption  | simp only [Keeps.mk_eq] | split | (intro _) )

theorem State.raiseDenied_keeps (x0 : Nat) (x1 : Nat) (x2 : AccessKind) (x3 : State) {s0 : State} (h3 : Keeps s0 x3) : Keeps s0 (State.raiseDenied x0 x1 x2 x3) := by
  unfold State.raiseDenied
  try dsimp only
  repeat' (first | with_reducible assumption | with_reducible apply State.when_keeps | with_reducible apply State.raise_keeps | simp only [Keeps.mk_eq] | split | (intro _) )

theorem State.sendMirror_keeps (x0 : Mirror) (x1 : State) {s0 : State} (h1 : Keeps s0 x1) : Keeps s0 (State.sendMirror x0 x1) := by
  unfold State.sendMirror
  try dsimp only
  repeat' (first | with_reducible assumption | with_reducible apply State.each_keeps | with_reducible apply State.sendPair_keeps | simp only [Keeps.mk_eq] | split | (intro _) )

theorem State.newMirror_keeps (x0 : Nat) (x1 : HostWrite) (x2 : State) {s0 : State} (h2 : Keeps s0 x2) : Keeps s0 (State.newMirror x0 x1 x2) := by
  unfold State.newMirror
  try dsimp only
  repeat' (first | with_reducible assumption | with_reducible apply State.sendMirror_keeps | simp only [Keeps.mk_eq] | split | (intro _) )

theorem State.checked_keeps (x0 : Nat) (x1 : HostWrite) (x2 : Int → State → State × Nat) (x3 : State) {s0 : State} (h2 : ∀ y0 y1, Keeps s0 y1 → Keeps s0 (x2 y0 y1).1) (h3 : Keeps s0 x3) : Keeps s0 (State.checked x0 x1 x2 x3).1 := by
  unfold State.checked
  try dsimp only
  repeat' (first | with_reducible assumption | with_reducible apply State.raiseDenied_keeps | with_reducible apply State.newMirror_keeps | with_reducible apply h2 | simp only [Keeps.mk_eq] | split | (intro _) )

theorem State.answer_keeps (r : State × Nat) {s0 : State} (h : Keeps s0 r.1) : Keeps s0 (State.answer r) := by
  unfold State.answer
  dsimp only
  exact State.when_keeps _ _ _ (fun _ => State.inc_keeps _ _) (State.send_keeps _ _ h)

theorem State.hostWrite_keeps (k : Nat) (w : HostWrite) (own : Int → State → State × Nat) (s : State) {s0 : State}
    (ho : ∀ v t, Keeps s0 t → Keeps s0 (own v t).1) (h : Keeps s0 s) : Keeps s0 (s.hostWrite k w own) := by
  unfold State.hostWrite
  dsimp only
  split
  · exact State.checked_keeps _ _ _ _ ho h
  · exact State.answer_keeps _ (State.checked_keeps _ _ _ _ ho h)

theorem State.overrun_keeps (x0 : Fin 4) (x1 : State) {s0 : State} (h1 : Keeps s0 x1) : Keeps s0 (State.overrun x0 x1) := by
  unfold State.overrun
  try dsimp only
  repeat' (first | with_reducible assumption | with_reducible apply State.faultCore_keeps | with_reducible apply State.raiseOn_keeps | with_reducible apply State.inc_keeps | simp only [Keeps.mk_eq] | split | (intro _) )

theorem State.runHandler_keeps (x0 : Fin 4) (x1 : NoticeRec) (x2 : State) {s0 : State} (h2 : Keeps s0 x2) : Keeps s0 (State.runHandler x0 x1 x2) := by
  unfold State.runHandler
  try dsimp only
  repeat' (first | with_reducible assumption | with_reducible apply State.countBy_keeps | with_reducible apply State.settle_keeps | with_reducible apply State.setCore_keeps | with_reducible apply State.when_keeps | with_reducible apply State.overrun_keeps | simp only [Keeps.mk_eq] | split | (intro _) )

theorem State.eventSlot_keeps (x0 : Fin 4) (x1 : State) {s0 : State} (h1 : Keeps s0 x1) : Keeps s0 (State.eventSlot x0 x1) := by
  unfold State.eventSlot
  try dsimp only
  repeat' (first | with_reducible assumption | with_reducible apply State.runHandler_keeps | simp only [Keeps.mk_eq] | split | (intro _) )

theorem State.mainEnd_keeps (x0 : Fin 4) (x1 : State) {s0 : State} (h1 : Keeps s0 x1) : Keeps s0 (State.mainEnd x0 x1) := by
  unfold State.mainEnd
  try dsimp only
  repeat' (first | with_reducible assumption | with_reducible apply State.putMax_keeps | with_reducible apply State.overrun_keeps | simp only [Keeps.mk_eq] | split | (intro _) )

theorem State.mainEval_keeps (x0 : Fin 4) (x1 : State) {s0 : State} (h1 : Keeps s0 x1) : Keeps s0 (State.mainEval x0 x1) := by
  unfold State.mainEval
  try dsimp only
  repeat' (first | with_reducible assumption | with_reducible apply State.settle_keeps | with_reducible apply State.standardMain_keeps | with_reducible apply State.useFree_keeps | with_reducible apply State.putMax_keeps | with_reducible apply State.modCore_keeps | with_reducible apply State.mainEnd_keeps | simp only [Keeps.mk_eq] | split | (intro _) )

theorem State.resumeMain_keeps (x0 : Fin 4) (x1 : State) {s0 : State} (h1 : Keeps s0 x1) : Keeps s0 (State.resumeMain x0 x1) := by
  unfold State.resumeMain
  try dsimp only
  repeat' (first | with_reducible assumption | with_reducible apply State.mainEnd_keeps | with_reducible apply State.settle_keeps | with_reducible apply State.setCore_keeps | simp only [Keeps.mk_eq] | split | (intro _) )

theorem execEventSlot_keeps (x0 : Fin 4) (x1 : State) {s0 : State} (h1 : Keeps s0 x1) : KeepsOut s0 (execEventSlot x0 x1) := by
  unfold execEventSlot
  try dsimp only
  repeat' (first | with_reducible assumption  | with_reducible apply KeepsOut.next| with_reducible apply State.when_keeps | with_reducible apply State.modCore_keeps | with_reducible apply State.resumeMain_keeps | with_reducible apply State.eventSlot_keeps | simp only [Keeps.mk_eq] | split | (intro _) )

theorem State.coreWindow_keeps (x0 : Fin 4) (x1 : State) {s0 : State} (h1 : Keeps s0 x1) : Keeps s0 (State.coreWindow x0 x1) := by
  unfold State.coreWindow
  try dsimp only
  repeat' (first | with_reducible assumption | with_reducible apply State.releaseHold_keeps | with_reducible apply State.resumeMain_keeps | with_reducible apply State.modCore_keeps | simp only [Keeps.mk_eq] | split | (intro _) )

theorem State.coreBoundary_keeps (x0 : Fin 4) (x1 : State) {s0 : State} (h1 : Keeps s0 x1) : Keeps s0 (State.coreBoundary x0 x1) := by
  unfold State.coreBoundary
  try dsimp only
  repeat' (first | with_reducible assumption | with_reducible apply State.when_keeps | with_reducible apply State.raiseOn_keeps | with_reducible apply State.modCore_keeps | with_reducible apply State.runCore_keeps | simp only [Keeps.mk_eq] | split | (intro _) )

theorem State.swapNow_keeps (x0 : Fin 4) (x1 : State) {s0 : State} (h1 : Keeps s0 x1) : Keeps s0 (State.swapNow x0 x1) := by
  unfold State.swapNow
  try dsimp only
  repeat' (first | with_reducible assumption | with_reducible apply State.raise_keeps | with_reducible apply State.enforceOn_keeps | simp only [Keeps.mk_eq] | split | (intro _) )

theorem State.coreTick_keeps (x0 : Fin 4) (x1 : State) {s0 : State} (h1 : Keeps s0 x1) : Keeps s0 (State.coreTick x0 x1) := by
  unfold State.coreTick
  try dsimp only
  repeat' (first | with_reducible assumption | with_reducible apply State.coreBoundary_keeps | with_reducible apply State.swapNow_keeps | with_reducible apply State.when_keeps | with_reducible apply State.eventSlot_keeps | with_reducible apply State.mainEval_keeps | simp only [Keeps.mk_eq] | split | (intro _) )

theorem execNotice_keeps (x0 : Fin 24) (x1 : BitVec 32) (x2 : Nat) (x3 : State) {s0 : State} (h3 : Keeps s0 x3) : KeepsOut s0 (execNotice x0 x1 x2 x3) := by
  unfold execNotice
  try dsimp only
  repeat' (first | with_reducible assumption  | with_reducible apply KeepsOut.next| with_reducible apply State.notice_keeps | simp only [Keeps.mk_eq] | split | (intro _) )

theorem execCardamomOverrun_keeps (x0 : Fin 4) (x1 : State) {s0 : State} (h1 : Keeps s0 x1) : KeepsOut s0 (execCardamomOverrun x0 x1) := by
  unfold execCardamomOverrun
  try dsimp only
  repeat' (first | with_reducible assumption  | with_reducible apply KeepsOut.next| with_reducible apply State.when_keeps | with_reducible apply State.overrun_keeps | simp only [Keeps.mk_eq] | split | (intro _) )

theorem State.issue_keeps (x0 : Fin 4) (x1 : CInstr) (x2 : State) {s0 : State} (h2 : Keeps s0 x2) : Keeps s0 (State.issue x0 x1 x2) := by
  unfold State.issue
  try dsimp only
  repeat' (first | with_reducible assumption | with_reducible apply State.settle_keeps | with_reducible apply State.modCore_keeps | simp only [Keeps.mk_eq] | split | (intro _) )

theorem execNop_keeps (x0 : Fin 4) (x1 : State) {s0 : State} (h1 : Keeps s0 x1) : KeepsOut s0 (execNop x0 x1) := by
  unfold execNop
  try dsimp only
  repeat' (first | with_reducible assumption  | with_reducible apply KeepsOut.next| with_reducible apply State.issue_keeps | simp only [Keeps.mk_eq] | split | (intro _) )

theorem execEnd_keeps (x0 : Fin 4) (x1 : State) {s0 : State} (h1 : Keeps s0 x1) : KeepsOut s0 (execEnd x0 x1) := by
  unfold execEnd
  try dsimp only
  repeat' (first | with_reducible assumption  | with_reducible apply KeepsOut.next| with_reducible apply State.issue_keeps | simp only [Keeps.mk_eq] | split | (intro _) )

theorem execLdk_keeps (x0 : Fin 4) (x1 : Fin 16) (x2 : BitVec 16) (x3 : State) {s0 : State} (h3 : Keeps s0 x3) : KeepsOut s0 (execLdk x0 x1 x2 x3) := by
  unfold execLdk
  try dsimp only
  repeat' (first | with_reducible assumption  | with_reducible apply KeepsOut.next| with_reducible apply State.issue_keeps | simp only [Keeps.mk_eq] | split | (intro _) )

theorem execLdi_keeps (x0 : Fin 4) (x1 : Fin 16) (x2 : Fin 256) (x3 : State) {s0 : State} (h3 : Keeps s0 x3) : KeepsOut s0 (execLdi x0 x1 x2 x3) := by
  unfold execLdi
  try dsimp only
  repeat' (first | with_reducible assumption  | with_reducible apply KeepsOut.next| with_reducible apply State.issue_keeps | simp only [Keeps.mk_eq] | split | (intro _) )

theorem execLdil_keeps (x0 : Fin 4) (x1 : Fin 8) (x2 : Fin 256) (x3 : State) {s0 : State} (h3 : Keeps s0 x3) : KeepsOut s0 (execLdil x0 x1 x2 x3) := by
  unfold execLdil
  try dsimp only
  repeat' (first | with_reducible assumption  | with_reducible apply KeepsOut.next| with_reducible apply State.issue_keeps | simp only [Keeps.mk_eq] | split | (intro _) )

theorem execLdc_keeps (x0 : Fin 4) (x1 : Fin 8) (x2 : Fin 1024) (x3 : State) {s0 : State} (h3 : Keeps s0 x3) : KeepsOut s0 (execLdc x0 x1 x2 x3) := by
  unfold execLdc
  try dsimp only
  repeat' (first | with_reducible assumption  | with_reducible apply KeepsOut.next| with_reducible apply State.issue_keeps | simp only [Keeps.mk_eq] | split | (intro _) )

theorem execLds_keeps (x0 : Fin 4) (x1 : Fin 8) (x2 : Fin 512) (x3 : State) {s0 : State} (h3 : Keeps s0 x3) : KeepsOut s0 (execLds x0 x1 x2 x3) := by
  unfold execLds
  try dsimp only
  repeat' (first | with_reducible assumption  | with_reducible apply KeepsOut.next| with_reducible apply State.issue_keeps | simp only [Keeps.mk_eq] | split | (intro _) )

theorem execSts_keeps (x0 : Fin 4) (x1 : Fin 8) (x2 : Fin 512) (x3 : State) {s0 : State} (h3 : Keeps s0 x3) : KeepsOut s0 (execSts x0 x1 x2 x3) := by
  unfold execSts
  try dsimp only
  repeat' (first | with_reducible assumption  | with_reducible apply KeepsOut.next| with_reducible apply State.issue_keeps | simp only [Keeps.mk_eq] | split | (intro _) )

theorem execSatd_keeps (x0 : Fin 4) (x1 : Fin 8) (x2 : Fin 16) (x3 : BitVec 4) (x4 : State) {s0 : State} (h4 : Keeps s0 x4) : KeepsOut s0 (execSatd x0 x1 x2 x3 x4) := by
  unfold execSatd
  try dsimp only
  repeat' (first | with_reducible assumption  | with_reducible apply KeepsOut.next| with_reducible apply State.issue_keeps | simp only [Keeps.mk_eq] | split | (intro _) )

theorem execOut_keeps (x0 : Fin 4) (x1 : Fin 16) (x2 : Fin 64) (x3 : State) {s0 : State} (h3 : Keeps s0 x3) : KeepsOut s0 (execOut x0 x1 x2 x3) := by
  unfold execOut
  try dsimp only
  repeat' (first | with_reducible assumption  | with_reducible apply KeepsOut.next| with_reducible apply State.issue_keeps | simp only [Keeps.mk_eq] | split | (intro _) )

theorem execOutl_keeps (x0 : Fin 4) (x1 : Fin 8) (x2 : Fin 64) (x3 : State) {s0 : State} (h3 : Keeps s0 x3) : KeepsOut s0 (execOutl x0 x1 x2 x3) := by
  unfold execOutl
  try dsimp only
  repeat' (first | with_reducible assumption  | with_reducible apply KeepsOut.next| with_reducible apply State.issue_keeps | simp only [Keeps.mk_eq] | split | (intro _) )

theorem execMova_keeps (x0 : Fin 4) (x1 : Fin 8) (x2 : Fin 8) (x3 : State) {s0 : State} (h3 : Keeps s0 x3) : KeepsOut s0 (execMova x0 x1 x2 x3) := by
  unfold execMova
  try dsimp only
  repeat' (first | with_reducible assumption  | with_reducible apply KeepsOut.next| with_reducible apply State.issue_keeps | simp only [Keeps.mk_eq] | split | (intro _) )

theorem execClr_keeps (x0 : Fin 4) (x1 : Fin 8) (x2 : State) {s0 : State} (h2 : Keeps s0 x2) : KeepsOut s0 (execClr x0 x1 x2) := by
  unfold execClr
  try dsimp only
  repeat' (first | with_reducible assumption  | with_reducible apply KeepsOut.next| with_reducible apply State.issue_keeps | simp only [Keeps.mk_eq] | split | (intro _) )

theorem execMpy_keeps (x0 : Fin 4) (x1 : Fin 8) (x2 : Fin 16) (x3 : Fin 1024) (x4 : State) {s0 : State} (h4 : Keeps s0 x4) : KeepsOut s0 (execMpy x0 x1 x2 x3 x4) := by
  unfold execMpy
  try dsimp only
  repeat' (first | with_reducible assumption  | with_reducible apply KeepsOut.next| with_reducible apply State.issue_keeps | simp only [Keeps.mk_eq] | split | (intro _) )

theorem execMac_keeps (x0 : Fin 4) (x1 : Fin 8) (x2 : Fin 16) (x3 : Fin 1024) (x4 : State) {s0 : State} (h4 : Keeps s0 x4) : KeepsOut s0 (execMac x0 x1 x2 x3 x4) := by
  unfold execMac
  try dsimp only
  repeat' (first | with_reducible assumption  | with_reducible apply KeepsOut.next| with_reducible apply State.issue_keeps | simp only [Keeps.mk_eq] | split | (intro _) )

theorem execMsu_keeps (x0 : Fin 4) (x1 : Fin 8) (x2 : Fin 16) (x3 : Fin 1024) (x4 : State) {s0 : State} (h4 : Keeps s0 x4) : KeepsOut s0 (execMsu x0 x1 x2 x3 x4) := by
  unfold execMsu
  try dsimp only
  repeat' (first | with_reducible assumption  | with_reducible apply KeepsOut.next| with_reducible apply State.issue_keeps | simp only [Keeps.mk_eq] | split | (intro _) )

theorem execMacd_keeps (x0 : Fin 4) (x1 : Fin 8) (x2 : Fin 16) (x3 : Fin 16) (x4 : State) {s0 : State} (h4 : Keeps s0 x4) : KeepsOut s0 (execMacd x0 x1 x2 x3 x4) := by
  unfold execMacd
  try dsimp only
  repeat' (first | with_reducible assumption  | with_reducible apply KeepsOut.next| with_reducible apply State.issue_keeps | simp only [Keeps.mk_eq] | split | (intro _) )

theorem execAdda_keeps (x0 : Fin 4) (x1 : Fin 8) (x2 : Fin 8) (x3 : State) {s0 : State} (h3 : Keeps s0 x3) : KeepsOut s0 (execAdda x0 x1 x2 x3) := by
  unfold execAdda
  try dsimp only
  repeat' (first | with_reducible assumption  | with_reducible apply KeepsOut.next| with_reducible apply State.issue_keeps | simp only [Keeps.mk_eq] | split | (intro _) )

theorem execSuba_keeps (x0 : Fin 4) (x1 : Fin 8) (x2 : Fin 8) (x3 : State) {s0 : State} (h3 : Keeps s0 x3) : KeepsOut s0 (execSuba x0 x1 x2 x3) := by
  unfold execSuba
  try dsimp only
  repeat' (first | with_reducible assumption  | with_reducible apply KeepsOut.next| with_reducible apply State.issue_keeps | simp only [Keeps.mk_eq] | split | (intro _) )

theorem execAddd_keeps (x0 : Fin 4) (x1 : Fin 8) (x2 : Fin 16) (x3 : State) {s0 : State} (h3 : Keeps s0 x3) : KeepsOut s0 (execAddd x0 x1 x2 x3) := by
  unfold execAddd
  try dsimp only
  repeat' (first | with_reducible assumption  | with_reducible apply KeepsOut.next| with_reducible apply State.issue_keeps | simp only [Keeps.mk_eq] | split | (intro _) )

theorem execSubd_keeps (x0 : Fin 4) (x1 : Fin 8) (x2 : Fin 16) (x3 : State) {s0 : State} (h3 : Keeps s0 x3) : KeepsOut s0 (execSubd x0 x1 x2 x3) := by
  unfold execSubd
  try dsimp only
  repeat' (first | with_reducible assumption  | with_reducible apply KeepsOut.next| with_reducible apply State.issue_keeps | simp only [Keeps.mk_eq] | split | (intro _) )

theorem execSha_keeps (x0 : Fin 4) (x1 : Fin 8) (x2 : BitVec 4) (x3 : State) {s0 : State} (h3 : Keeps s0 x3) : KeepsOut s0 (execSha x0 x1 x2 x3) := by
  unfold execSha
  try dsimp only
  repeat' (first | with_reducible assumption  | with_reducible apply KeepsOut.next| with_reducible apply State.issue_keeps | simp only [Keeps.mk_eq] | split | (intro _) )

theorem execAbs_keeps (x0 : Fin 4) (x1 : Fin 8) (x2 : State) {s0 : State} (h2 : Keeps s0 x2) : KeepsOut s0 (execAbs x0 x1 x2) := by
  unfold execAbs
  try dsimp only
  repeat' (first | with_reducible assumption  | with_reducible apply KeepsOut.next| with_reducible apply State.issue_keeps | simp only [Keeps.mk_eq] | split | (intro _) )

theorem execNeg_keeps (x0 : Fin 4) (x1 : Fin 8) (x2 : State) {s0 : State} (h2 : Keeps s0 x2) : KeepsOut s0 (execNeg x0 x1 x2) := by
  unfold execNeg
  try dsimp only
  repeat' (first | with_reducible assumption  | with_reducible apply KeepsOut.next| with_reducible apply State.issue_keeps | simp only [Keeps.mk_eq] | split | (intro _) )

theorem execLim_keeps (x0 : Fin 4) (x1 : Fin 8) (x2 : Fin 1024) (x3 : State) {s0 : State} (h3 : Keeps s0 x3) : KeepsOut s0 (execLim x0 x1 x2 x3) := by
  unfold execLim
  try dsimp only
  repeat' (first | with_reducible assumption  | with_reducible apply KeepsOut.next| with_reducible apply State.issue_keeps | simp only [Keeps.mk_eq] | split | (intro _) )

theorem execSela_keeps (x0 : Fin 4) (x1 : Fin 8) (x2 : Fin 8) (x3 : BitVec 4) (x4 : State) {s0 : State} (h4 : Keeps s0 x4) : KeepsOut s0 (execSela x0 x1 x2 x3 x4) := by
  unfold execSela
  try dsimp only
  repeat' (first | with_reducible assumption  | with_reducible apply KeepsOut.next| with_reducible apply State.issue_keeps | simp only [Keeps.mk_eq] | split | (intro _) )

theorem execTsta_keeps (x0 : Fin 4) (x1 : Fin 8) (x2 : State) {s0 : State} (h2 : Keeps s0 x2) : KeepsOut s0 (execTsta x0 x1 x2) := by
  unfold execTsta
  try dsimp only
  repeat' (first | with_reducible assumption  | with_reducible apply KeepsOut.next| with_reducible apply State.issue_keeps | simp only [Keeps.mk_eq] | split | (intro _) )

theorem execTstp_keeps (x0 : Fin 4) (x1 : Fin 256) (x2 : Fin 32) (x3 : State) {s0 : State} (h3 : Keeps s0 x3) : KeepsOut s0 (execTstp x0 x1 x2 x3) := by
  unfold execTstp
  try dsimp only
  repeat' (first | with_reducible assumption  | with_reducible apply KeepsOut.next| with_reducible apply State.issue_keeps | simp only [Keeps.mk_eq] | split | (intro _) )

theorem execSkipc_keeps (x0 : Fin 4) (x1 : BitVec 4) (x2 : BitVec 4) (x3 : State) {s0 : State} (h3 : Keeps s0 x3) : KeepsOut s0 (execSkipc x0 x1 x2 x3) := by
  unfold execSkipc
  try dsimp only
  repeat' (first | with_reducible assumption  | with_reducible apply KeepsOut.next| with_reducible apply State.issue_keeps | simp only [Keeps.mk_eq] | split | (intro _) )

theorem execInteg_keeps (x0 : Fin 4) (x1 : Fin 8) (x2 : Fin 16) (x3 : Fin 1024) (x4 : Fin 512) (x5 : State) {s0 : State} (h5 : Keeps s0 x5) : KeepsOut s0 (execInteg x0 x1 x2 x3 x4 x5) := by
  unfold execInteg
  try dsimp only
  repeat' (first | with_reducible assumption  | with_reducible apply KeepsOut.next| with_reducible apply State.issue_keeps | simp only [Keeps.mk_eq] | split | (intro _) )

theorem execMinsel_keeps (x0 : Fin 4) (x1 : Fin 8) (x2 : Fin 16) (x3 : BitVec 8) (x4 : Fin 512) (x5 : State) {s0 : State} (h5 : Keeps s0 x5) : KeepsOut s0 (execMinsel x0 x1 x2 x3 x4 x5) := by
  unfold execMinsel
  try dsimp only
  repeat' (first | with_reducible assumption  | with_reducible apply KeepsOut.next| with_reducible apply State.issue_keeps | simp only [Keeps.mk_eq] | split | (intro _) )

theorem execMaxsel_keeps (x0 : Fin 4) (x1 : Fin 8) (x2 : Fin 16) (x3 : BitVec 8) (x4 : Fin 512) (x5 : State) {s0 : State} (h5 : Keeps s0 x5) : KeepsOut s0 (execMaxsel x0 x1 x2 x3 x4 x5) := by
  unfold execMaxsel
  try dsimp only
  repeat' (first | with_reducible assumption  | with_reducible apply KeepsOut.next| with_reducible apply State.issue_keeps | simp only [Keeps.mk_eq] | split | (intro _) )

theorem execSlew_keeps (x0 : Fin 4) (x1 : Fin 8) (x2 : Fin 1024) (x3 : Fin 512) (x4 : State) {s0 : State} (h4 : Keeps s0 x4) : KeepsOut s0 (execSlew x0 x1 x2 x3 x4) := by
  unfold execSlew
  try dsimp only
  repeat' (first | with_reducible assumption  | with_reducible apply KeepsOut.next| with_reducible apply State.issue_keeps | simp only [Keeps.mk_eq] | split | (intro _) )

theorem execLut_keeps (x0 : Fin 4) (x1 : Fin 8) (x2 : Fin 16) (x3 : Fin 1024) (x4 : State) {s0 : State} (h4 : Keeps s0 x4) : KeepsOut s0 (execLut x0 x1 x2 x3 x4) := by
  unfold execLut
  try dsimp only
  repeat' (first | with_reducible assumption  | with_reducible apply KeepsOut.next| with_reducible apply State.issue_keeps | simp only [Keeps.mk_eq] | split | (intro _) )

theorem execFfw_keeps (x0 : Fin 4) (x1 : Fin 8) (x2 : Fin 1024) (x3 : Fin 64) (x4 : State) {s0 : State} (h4 : Keeps s0 x4) : KeepsOut s0 (execFfw x0 x1 x2 x3 x4) := by
  unfold execFfw
  try dsimp only
  repeat' (first | with_reducible assumption  | with_reducible apply KeepsOut.next| with_reducible apply State.issue_keeps | simp only [Keeps.mk_eq] | split | (intro _) )

theorem State.coefWords_keeps (x0 : Fin 4) (x1 : Nat) (x2 : Nat) (x3 : List Int) (x4 : State) {s0 : State} (h4 : Keeps s0 x4) : Keeps s0 (State.coefWords x0 x1 x2 x3 x4).1 := by
  unfold State.coefWords
  try dsimp only
  repeat' (first | with_reducible assumption | with_reducible apply State.setCore_keeps | with_reducible apply State.put_keeps | with_reducible apply State.countBy_keeps | with_reducible apply State.raiseOn_keeps | with_reducible apply State.modCore_keeps | with_reducible apply State.ok_keeps | simp only [Keeps.mk_eq] | split | (intro _) )

theorem execCoefficientWrite_keeps (x0 : Fin 4) (x1 : HostWrite) (x2 : State) {s0 : State} (h2 : Keeps s0 x2) : KeepsOut s0 (execCoefficientWrite x0 x1 x2) := by
  unfold execCoefficientWrite
  try dsimp only
  repeat' (first | with_reducible assumption  | with_reducible apply KeepsOut.next| with_reducible apply State.hostWrite_keeps | with_reducible apply State.coefWords_keeps | simp only [Keeps.mk_eq] | split | (intro _) )

theorem State.coefBlock_keeps (x0 : Fin 4) (x1 : Nat) (x2 : List Byte) (x3 : State) {s0 : State} (h3 : Keeps s0 x3) : Keeps s0 (State.coefBlock x0 x1 x2 x3).1 := by
  unfold State.coefBlock
  try dsimp only
  repeat' (first | with_reducible assumption | with_reducible apply State.refuse_keeps | with_reducible apply State.coefWords_keeps | simp only [Keeps.mk_eq] | split | (intro _) )

theorem execCoefficientBlockWrite_keeps (x0 : Fin 4) (x1 : HostWrite) (x2 : State) {s0 : State} (h2 : Keeps s0 x2) : KeepsOut s0 (execCoefficientBlockWrite x0 x1 x2) := by
  unfold execCoefficientBlockWrite
  try dsimp only
  repeat' (first | with_reducible assumption  | with_reducible apply KeepsOut.next| with_reducible apply State.hostWrite_keeps | with_reducible apply State.coefBlock_keeps | simp only [Keeps.mk_eq] | split | (intro _) )

theorem State.coreRefuse_keeps (x0 : Fin 4) (x1 : State) {s0 : State} (h1 : Keeps s0 x1) : Keeps s0 (State.coreRefuse x0 x1).1 := by
  unfold State.coreRefuse
  try dsimp only
  repeat' (first | with_reducible assumption | with_reducible apply State.refuse_keeps | with_reducible apply State.raiseOn_keeps | simp only [Keeps.mk_eq] | split | (intro _) )

theorem State.holdCommand_keeps (x0 : Fin 4) (x1 : Int) (x2 : State) {s0 : State} (h2 : Keeps s0 x2) : Keeps s0 (State.holdCommand x0 x1 x2).1 := by
  unfold State.holdCommand
  try dsimp only
  repeat' (first | with_reducible assumption | with_reducible apply State.coreRefuse_keeps | with_reducible apply State.ok_keeps | with_reducible apply State.setCore_keeps | simp only [Keeps.mk_eq] | split | (intro _) )

theorem execHoldOpen_keeps (x0 : Fin 4) (x1 : Nat) (x2 : State) {s0 : State} (h2 : Keeps s0 x2) : KeepsOut s0 (execHoldOpen x0 x1 x2) := by
  unfold execHoldOpen
  try dsimp only
  repeat' (first | with_reducible assumption  | with_reducible apply KeepsOut.next| with_reducible apply State.hostWrite_keeps | with_reducible apply State.holdCommand_keeps | simp only [Keeps.mk_eq] | split | (intro _) )

theorem execHoldRelease_keeps (x0 : Fin 4) (x1 : Nat) (x2 : State) {s0 : State} (h2 : Keeps s0 x2) : KeepsOut s0 (execHoldRelease x0 x1 x2) := by
  unfold execHoldRelease
  try dsimp only
  repeat' (first | with_reducible assumption  | with_reducible apply KeepsOut.next| with_reducible apply State.hostWrite_keeps | with_reducible apply State.holdCommand_keeps | simp only [Keeps.mk_eq] | split | (intro _) )

theorem execHoldAbandon_keeps (x0 : Fin 4) (x1 : Nat) (x2 : State) {s0 : State} (h2 : Keeps s0 x2) : KeepsOut s0 (execHoldAbandon x0 x1 x2) := by
  unfold execHoldAbandon
  try dsimp only
  repeat' (first | with_reducible assumption  | with_reducible apply KeepsOut.next| with_reducible apply State.hostWrite_keeps | with_reducible apply State.holdCommand_keeps | simp only [Keeps.mk_eq] | split | (intro _) )

theorem execHoldReleased_keeps (x0 : Fin 4) (x1 : State) {s0 : State} (h1 : Keeps s0 x1) : KeepsOut s0 (execHoldReleased x0 x1) := by
  unfold execHoldReleased
  try dsimp only
  repeat' (first | with_reducible assumption  | with_reducible apply KeepsOut.next| with_reducible apply State.releaseHold_keeps | simp only [Keeps.mk_eq] | split | (intro _) )

theorem execHoldTimeout_keeps (x0 : Fin 4) (x1 : State) {s0 : State} (h1 : Keeps s0 x1) : KeepsOut s0 (execHoldTimeout x0 x1) := by
  unfold execHoldTimeout
  try dsimp only
  repeat' (first | with_reducible assumption  | with_reducible apply KeepsOut.next| with_reducible apply State.when_keeps | with_reducible apply State.raiseOn_keeps | with_reducible apply State.setCore_keeps | simp only [Keeps.mk_eq] | split | (intro _) )

theorem State.admitRecord_keeps (x0 : Fin 4) (x1 : State) {s0 : State} (h1 : Keeps s0 x1) : Keeps s0 (State.admitRecord x0 x1).1 := by
  unfold State.admitRecord
  try dsimp only
  repeat' (first | with_reducible assumption | with_reducible apply State.raise_keeps | with_reducible apply State.putBytes_keeps | with_reducible apply State.modCore_keeps | simp only [Keeps.mk_eq] | split | (intro _) )

theorem State.coreLoad_keeps (x0 : Fin 4) (x1 : State) {s0 : State} (h1 : Keeps s0 x1) : Keeps s0 (State.coreLoad x0 x1) := by
  unfold State.coreLoad
  try dsimp only
  repeat' (first | with_reducible assumption | with_reducible apply State.modCore_keeps | with_reducible apply State.admitRecord_keeps | simp only [Keeps.mk_eq] | split | (intro _) )

theorem State.coreCommand_keeps (x0 : Fin 4) (x1 : Int) (x2 : State) {s0 : State} (h2 : Keeps s0 x2) : Keeps s0 (State.coreCommand x0 x1 x2).1 := by
  unfold State.coreCommand
  try dsimp only
  repeat' (first | with_reducible assumption | with_reducible apply State.ok_keeps | with_reducible apply State.coreLoad_keeps | with_reducible apply State.coreRefuse_keeps | with_reducible apply State.setCore_keeps | with_reducible apply State.when_keeps | with_reducible apply State.raiseOn_keeps | with_reducible apply State.modCore_keeps | with_reducible apply State.enforceOn_keeps | simp only [Keeps.mk_eq] | split | (intro _) )

theorem execCardamomLoad_keeps (x0 : Fin 4) (x1 : Nat) (x2 : State) {s0 : State} (h2 : Keeps s0 x2) : KeepsOut s0 (execCardamomLoad x0 x1 x2) := by
  unfold execCardamomLoad
  try dsimp only
  repeat' (first | with_reducible assumption  | with_reducible apply KeepsOut.next| with_reducible apply State.hostWrite_keeps | with_reducible apply State.coreCommand_keeps | simp only [Keeps.mk_eq] | split | (intro _) )

theorem execCoreSwap_keeps (x0 : Fin 4) (x1 : Nat) (x2 : State) {s0 : State} (h2 : Keeps s0 x2) : KeepsOut s0 (execCoreSwap x0 x1 x2) := by
  unfold execCoreSwap
  try dsimp only
  repeat' (first | with_reducible assumption  | with_reducible apply KeepsOut.next| with_reducible apply State.hostWrite_keeps | with_reducible apply State.coreCommand_keeps | simp only [Keeps.mk_eq] | split | (intro _) )

theorem execCoreStop_keeps (x0 : Fin 4) (x1 : Nat) (x2 : State) {s0 : State} (h2 : Keeps s0 x2) : KeepsOut s0 (execCoreStop x0 x1 x2) := by
  unfold execCoreStop
  try dsimp only
  repeat' (first | with_reducible assumption  | with_reducible apply KeepsOut.next| with_reducible apply State.hostWrite_keeps | with_reducible apply State.coreCommand_keeps | simp only [Keeps.mk_eq] | split | (intro _) )

theorem execCoreStart_keeps (x0 : Fin 4) (x1 : Nat) (x2 : State) {s0 : State} (h2 : Keeps s0 x2) : KeepsOut s0 (execCoreStart x0 x1 x2) := by
  unfold execCoreStart
  try dsimp only
  repeat' (first | with_reducible assumption  | with_reducible apply KeepsOut.next| with_reducible apply State.hostWrite_keeps | with_reducible apply State.coreCommand_keeps | simp only [Keeps.mk_eq] | split | (intro _) )

theorem execClearPending_keeps (x0 : Fin 4) (x1 : Nat) (x2 : State) {s0 : State} (h2 : Keeps s0 x2) : KeepsOut s0 (execClearPending x0 x1 x2) := by
  unfold execClearPending
  try dsimp only
  repeat' (first | with_reducible assumption  | with_reducible apply KeepsOut.next| with_reducible apply State.hostWrite_keeps | with_reducible apply State.coreCommand_keeps | simp only [Keeps.mk_eq] | split | (intro _) )

theorem execProgramSwapped_keeps (x0 : Fin 4) (x1 : State) {s0 : State} (h1 : Keeps s0 x1) : KeepsOut s0 (execProgramSwapped x0 x1) := by
  unfold execProgramSwapped
  try dsimp only
  repeat' (first | with_reducible assumption  | with_reducible apply KeepsOut.next| with_reducible apply State.swapNow_keeps | simp only [Keeps.mk_eq] | split | (intro _) )

theorem State.persist_keeps (x0 : Fin 4) (x1 : Int) (x2 : State) {s0 : State} (h2 : Keeps s0 x2) : Keeps s0 (State.persist x0 x1 x2).1 := by
  unfold State.persist
  try dsimp only
  repeat' (first | with_reducible assumption | with_reducible apply State.coreRefuse_keeps | with_reducible apply State.ok_keeps | with_reducible apply State.setCore_keeps | with_reducible apply State.raise_keeps | simp only [Keeps.mk_eq] | split | (intro _) )

theorem execCoefSave_keeps (x0 : Fin 4) (x1 : Nat) (x2 : State) {s0 : State} (h2 : Keeps s0 x2) : KeepsOut s0 (execCoefSave x0 x1 x2) := by
  unfold execCoefSave
  try dsimp only
  repeat' (first | with_reducible assumption  | with_reducible apply KeepsOut.next| with_reducible apply State.hostWrite_keeps | with_reducible apply State.persist_keeps | simp only [Keeps.mk_eq] | split | (intro _) )

theorem execCoefDiscard_keeps (x0 : Fin 4) (x1 : Nat) (x2 : State) {s0 : State} (h2 : Keeps s0 x2) : KeepsOut s0 (execCoefDiscard x0 x1 x2) := by
  unfold execCoefDiscard
  try dsimp only
  repeat' (first | with_reducible assumption  | with_reducible apply KeepsOut.next| with_reducible apply State.hostWrite_keeps | with_reducible apply State.persist_keeps | simp only [Keeps.mk_eq] | split | (intro _) )

theorem execCardamomMemCorrected_keeps (x0 : Fin 4) (x1 : State) {s0 : State} (h1 : Keeps s0 x1) : KeepsOut s0 (execCardamomMemCorrected x0 x1) := by
  unfold execCardamomMemCorrected
  try dsimp only
  repeat' (first | with_reducible assumption  | with_reducible apply KeepsOut.next| with_reducible apply State.raiseOn_keeps | with_reducible apply State.inc_keeps | simp only [Keeps.mk_eq] | split | (intro _) )

theorem execCardamomMemUncorrectable_keeps (x0 : Fin 4) (x1 : State) {s0 : State} (h1 : Keeps s0 x1) : KeepsOut s0 (execCardamomMemUncorrectable x0 x1) := by
  unfold execCardamomMemUncorrectable
  try dsimp only
  repeat' (first | with_reducible assumption  | with_reducible apply KeepsOut.next| with_reducible apply State.faultCore_keeps | with_reducible apply State.raiseOn_keeps | simp only [Keeps.mk_eq] | split | (intro _) )

theorem State.modClv_keeps (x0 : CloveState → CloveState) (x1 : State) {s0 : State} (h1 : Keeps s0 x1) : Keeps s0 (State.modClv x0 x1) := by
  unfold State.modClv
  try dsimp only
  repeat' (first | with_reducible assumption  | simp only [Keeps.mk_eq] | split | (intro _) )

theorem State.markSeen_keeps (x0 : Clove) (x1 : State) {s0 : State} (h1 : Keeps s0 x1) : Keeps s0 (State.markSeen x0 x1) := by
  unfold State.markSeen
  try dsimp only
  repeat' (first | with_reducible assumption | with_reducible apply State.modClv_keeps | simp only [Keeps.mk_eq] | split | (intro _) )

theorem State.dropWindows_keeps (x0 : Nat) (x1 : State) {s0 : State} (h1 : Keeps s0 x1) : Keeps s0 (State.dropWindows x0 x1) := by
  unfold State.dropWindows
  try dsimp only
  repeat' (first | with_reducible assumption | with_reducible apply State.modClv_keeps | simp only [Keeps.mk_eq] | split | (intro _) )

theorem State.cloveCount_keeps (x0 : Nat) (x1 : State) {s0 : State} (h1 : Keeps s0 x1) : Keeps s0 (State.cloveCount x0 x1) := by
  unfold State.cloveCount
  try dsimp only
  repeat' (first | with_reducible assumption | with_reducible apply State.inc_keeps | simp only [Keeps.mk_eq] | split | (intro _) )

theorem State.showOccupancy_keeps (x0 : State) {s0 : State} (h0 : Keeps s0 x0) : Keeps s0 (State.showOccupancy x0) := by
  unfold State.showOccupancy
  try dsimp only
  repeat' (first | with_reducible assumption | with_reducible apply State.putMax_keeps | with_reducible apply State.put_keeps | simp only [Keeps.mk_eq] | split | (intro _) )

theorem State.showMarks_keeps (x0 : State) {s0 : State} (h0 : Keeps s0 x0) : Keeps s0 (State.showMarks x0) := by
  unfold State.showMarks
  try dsimp only
  repeat' (first | with_reducible assumption | with_reducible apply State.put_keeps | simp only [Keeps.mk_eq] | split | (intro _) )

theorem State.addMark_keeps (x0 : Clove) (x1 : State) {s0 : State} (h1 : Keeps s0 x1) : Keeps s0 (State.addMark x0 x1) := by
  unfold State.addMark
  try dsimp only
  repeat' (first | with_reducible assumption | with_reducible apply State.when_keeps | with_reducible apply State.raise0_keeps | with_reducible apply State.showMarks_keeps | simp only [Keeps.mk_eq] | split | (intro _) )

theorem State.dropMark_keeps (x0 : CloveRef) (x1 : State) {s0 : State} (h1 : Keeps s0 x1) : Keeps s0 (State.dropMark x0 x1) := by
  unfold State.dropMark
  try dsimp only
  repeat' (first | with_reducible assumption | with_reducible apply State.showMarks_keeps | simp only [Keeps.mk_eq] | split | (intro _) )

theorem State.activateMark_keeps (x0 : CloveRef) (x1 : State) {s0 : State} (h1 : Keeps s0 x1) : Keeps s0 (State.activateMark x0 x1) := by
  unfold State.activateMark
  try dsimp only
  repeat' (first | with_reducible assumption  | simp only [Keeps.mk_eq] | split | (intro _) )

theorem State.scheduleClove_keeps (x0 : Clove) (x1 : Nat) (x2 : State) {s0 : State} (h2 : Keeps s0 x2) : Keeps s0 (State.scheduleClove x0 x1 x2) := by
  unfold State.scheduleClove
  try dsimp only
  repeat' (first | with_reducible assumption | with_reducible apply State.when_keeps | with_reducible apply State.addMark_keeps | with_reducible apply State.showOccupancy_keeps | with_reducible apply State.modClv_keeps | simp only [Keeps.mk_eq] | split | (intro _) )

theorem State.promoteDue_keeps (x0 : State) {s0 : State} (h0 : Keeps s0 x0) : Keeps s0 (State.promoteDue x0) := by
  unfold State.promoteDue
  try dsimp only
  repeat' (first | with_reducible assumption | with_reducible apply State.modClv_keeps | simp only [Keeps.mk_eq] | split | (intro _) )

theorem State.unschedule_keeps (x0 : CloveRef) (x1 : State) {s0 : State} (h1 : Keeps s0 x1) : Keeps s0 (State.unschedule x0 x1) := by
  unfold State.unschedule
  try dsimp only
  repeat' (first | with_reducible assumption | with_reducible apply State.showOccupancy_keeps | with_reducible apply State.modClv_keeps | simp only [Keeps.mk_eq] | split | (intro _) )

theorem State.cancelClove_keeps (x0 : Clove) (x1 : State) {s0 : State} (h1 : Keeps s0 x1) : Keeps s0 (State.cancelClove x0 x1) := by
  unfold State.cancelClove
  try dsimp only
  repeat' (first | with_reducible assumption | with_reducible apply State.cloveCount_keeps | with_reducible apply State.dropMark_keeps | with_reducible apply State.unschedule_keeps | with_reducible apply State.abandonItem_keeps | simp only [Keeps.mk_eq] | split | (intro _) )

theorem State.noteFire_keeps (x0 : Nat) (x1 : State) {s0 : State} (h1 : Keeps s0 x1) : Keeps s0 (State.noteFire x0 x1) := by
  unfold State.noteFire
  try dsimp only
  repeat' (first | with_reducible assumption | with_reducible apply State.modClv_keeps | with_reducible apply State.when_keeps | with_reducible apply State.raise_keeps | simp only [Keeps.mk_eq] | split | (intro _) )

theorem State.recordFire_keeps (x0 : Clove) (x1 : State) {s0 : State} (h1 : Keeps s0 x1) : Keeps s0 (State.recordFire x0 x1) := by
  unfold State.recordFire
  try dsimp only
  repeat' (first | with_reducible assumption | with_reducible apply State.when_keeps | with_reducible apply State.raise_keeps | simp only [Keeps.mk_eq] | split | (intro _) )

theorem State.nextSequence_keeps (x0 : State) {s0 : State} (h0 : Keeps s0 x0) : Keeps s0 (State.nextSequence x0) := by
  unfold State.nextSequence
  try dsimp only
  repeat' (first | with_reducible assumption | with_reducible apply State.modClv_keeps | with_reducible apply State.when_keeps | with_reducible apply State.raise0_keeps | with_reducible apply State.put_keeps | simp only [Keeps.mk_eq] | split | (intro _) )

theorem State.fireWith_keeps (x0 : Clove → State → State) (x1 : Clove) (x2 : State) {s0 : State} (h0 : ∀ y0 y1, Keeps s0 y1 → Keeps s0 (x0 y0 y1)) (h2 : Keeps s0 x2) : Keeps s0 (State.fireWith x0 x1 x2) := by
  unfold State.fireWith
  try dsimp only
  repeat' (first | with_reducible assumption | with_reducible apply State.recordFire_keeps | with_reducible apply State.cloveCount_keeps | with_reducible apply State.noteFire_keeps | with_reducible apply h0 | simp only [Keeps.mk_eq] | split | (intro _) )

theorem State.cloveArrive_keeps (x0 : Clove → State → State) (x1 : Clove) (x2 : Nat) (x3 : State) {s0 : State} (h0 : ∀ y0 y1, Keeps s0 y1 → Keeps s0 (x0 y0 y1)) (h3 : Keeps s0 x3) : Keeps s0 (State.cloveArrive x0 x1 x2 x3) := by
  unfold State.cloveArrive
  try dsimp only
  repeat' (first | with_reducible assumption | with_reducible apply State.markSeen_keeps | with_reducible apply State.when_keeps | with_reducible apply State.pairFlit_keeps | with_reducible apply State.cloveCount_keeps | with_reducible apply State.raise_keeps | with_reducible apply State.fireWith_keeps | with_reducible apply State.cancelClove_keeps | with_reducible apply State.enqueue_keeps | with_reducible apply h0 | simp only [Keeps.mk_eq] | split | (intro _) )

theorem State.originateClove_keeps (x0 : Clove → State → State) (x1 : List Byte) (x2 : Nat) (x3 : State) {s0 : State} (h0 : ∀ y0 y1, Keeps s0 y1 → Keeps s0 (x0 y0 y1)) (h3 : Keeps s0 x3) : Keeps s0 (State.originateClove x0 x1 x2 x3) := by
  unfold State.originateClove
  try dsimp only
  repeat' (first | with_reducible assumption | with_reducible apply State.nextSequence_keeps | with_reducible apply State.when_keeps | with_reducible apply State.originateFlit_keeps | with_reducible apply State.cloveArrive_keeps | with_reducible apply h0 | simp only [Keeps.mk_eq] | split | (intro _) )

end Sys2Proof.Machine
end

