-- ==== Sys2Proof/Laws/KeepsChain.lean ====
section
/-! SUPPORT. What Keeps (Safety.lean) says of the rack, the cell chain and the estimator: one lemma for each operation. -/

namespace Sys2Proof.Machine

theorem State.modRack_keeps (x0 : RackState → RackState) (x1 : State) {s0 : State} (h1 : Keeps s0 x1) : Keeps s0 (State.modRack x0 x1) := by
  unfold State.modRack
  try dsimp only
  repeat' (first | with_reducible assumption  | simp only [Keeps.mk_eq] | split | (intro _) )

theorem State.modTray_keeps (x0 : Fin 24) (x1 : TraySt → TraySt) (x2 : State) {s0 : State} (h2 : Keeps s0 x2) : Keeps s0 (State.modTray x0 x1 x2) := by
  unfold State.modTray
  try dsimp only
  repeat' (first | with_reducible assumption | with_reducible apply State.modRack_keeps | simp only [Keeps.mk_eq] | split | (intro _) )

theorem State.traySend_keeps (x0 : Fin 24) (x1 : Nat → List Byte) (x2 : State) {s0 : State} (h2 : Keeps s0 x2) : Keeps s0 (State.traySend x0 x1 x2) := by
  unfold State.traySend
  try dsimp only
  repeat' (first | with_reducible assumption | with_reducible apply State.when_keeps | with_reducible apply State.send_keeps | with_reducible apply State.modTray_keeps | simp only [Keeps.mk_eq] | split | (intro _) )

theorem State.sendLimits_keeps (x0 : Fin 24) (x1 : State) {s0 : State} (h1 : Keeps s0 x1) : Keeps s0 (State.sendLimits x0 x1) := by
  unfold State.sendLimits
  try dsimp only
  repeat' (first | with_reducible assumption | with_reducible apply State.traySend_keeps | simp only [Keeps.mk_eq] | split | (intro _) )

theorem State.sendAdmit_keeps (x0 : Fin 24) (x1 : State) {s0 : State} (h1 : Keeps s0 x1) : Keeps s0 (State.sendAdmit x0 x1) := by
  unfold State.sendAdmit
  try dsimp only
  repeat' (first | with_reducible assumption | with_reducible apply State.traySend_keeps | simp only [Keeps.mk_eq] | split | (intro _) )

theorem State.setTrayState_keeps (x0 : Fin 24) (x1 : Nat) (x2 : State) {s0 : State} (h2 : Keeps s0 x2) : Keeps s0 (State.setTrayState x0 x1 x2) := by
  unfold State.setTrayState
  try dsimp only
  repeat' (first | with_reducible assumption | with_reducible apply State.put_keeps | with_reducible apply State.when_keeps | with_reducible apply State.sendAdmit_keeps | simp only [Keeps.mk_eq] | split | (intro _) )

theorem State.dropFrame_keeps (x0 : Fin 24) (x1 : State) {s0 : State} (h1 : Keeps s0 x1) : Keeps s0 (State.dropFrame x0 x1) := by
  unfold State.dropFrame
  try dsimp only
  repeat' (first | with_reducible assumption | with_reducible apply State.inc_keeps | simp only [Keeps.mk_eq] | split | (intro _) )

theorem State.trayHear_keeps (x0 : Fin 24) (x1 : Nat) (x2 : List Byte) (x3 : State → State) (x4 : State) {s0 : State} (h3 : ∀ y0, Keeps s0 y0 → Keeps s0 (x3 y0)) (h4 : Keeps s0 x4) : Keeps s0 (State.trayHear x0 x1 x2 x3 x4) := by
  unfold State.trayHear
  try dsimp only
  repeat' (first | with_reducible assumption | with_reducible apply State.dropFrame_keeps | with_reducible apply State.when_keeps | with_reducible apply h3 | simp only [Keeps.mk_eq] | split | (intro _) )

theorem State.ledgerShow_keeps (x0 : State) {s0 : State} (h0 : Keeps s0 x0) : Keeps s0 (State.ledgerShow x0) := by
  unfold State.ledgerShow
  try dsimp only
  repeat' (first | with_reducible assumption | with_reducible apply State.put_keeps | simp only [Keeps.mk_eq] | split | (intro _) )

theorem State.expireLoansAt_keeps (x0 : Nat) (x1 : State) {s0 : State} (h1 : Keeps s0 x1) : Keeps s0 (State.expireLoansAt x0 x1) := by
  unfold State.expireLoansAt
  try dsimp only
  repeat' (first | with_reducible assumption | with_reducible apply State.ledgerShow_keeps | with_reducible apply State.modRack_keeps | simp only [Keeps.mk_eq] | split | (intro _) )

theorem State.fireLend_keeps (x0 : Clove) (x1 : State) {s0 : State} (h1 : Keeps s0 x1) : Keeps s0 (State.fireLend x0 x1) := by
  unfold State.fireLend
  try dsimp only
  repeat' (first | with_reducible assumption | with_reducible apply State.expireLoansAt_keeps | with_reducible apply State.raise_keeps | with_reducible apply State.ledgerShow_keeps | with_reducible apply State.modRack_keeps | with_reducible apply State.when_keeps | simp only [Keeps.mk_eq] | split | (intro _) )

theorem State.fireReturn_keeps (x0 : Clove) (x1 : State) {s0 : State} (h1 : Keeps s0 x1) : Keeps s0 (State.fireReturn x0 x1) := by
  unfold State.fireReturn
  try dsimp only
  repeat' (first | with_reducible assumption | with_reducible apply State.expireLoansAt_keeps | with_reducible apply State.ledgerShow_keeps | with_reducible apply State.modRack_keeps | simp only [Keeps.mk_eq] | split | (intro _) )

theorem State.expireLoans_keeps (x0 : State) {s0 : State} (h0 : Keeps s0 x0) : Keeps s0 (State.expireLoans x0) := by
  unfold State.expireLoans
  try dsimp only
  repeat' (first | with_reducible assumption | with_reducible apply State.expireLoansAt_keeps | simp only [Keeps.mk_eq] | split | (intro _) )

theorem execLoanExpiry_keeps (x0 : State) {s0 : State} (h0 : Keeps s0 x0) : KeepsOut s0 (execLoanExpiry x0) := by
  unfold execLoanExpiry
  try dsimp only
  repeat' (first | with_reducible assumption  | with_reducible apply KeepsOut.next| with_reducible apply State.expireLoans_keeps | simp only [Keeps.mk_eq] | split | (intro _) )

theorem execLedgerProjection_keeps (x0 : State) {s0 : State} (h0 : Keeps s0 x0) : KeepsOut s0 (execLedgerProjection x0) := by
  unfold execLedgerProjection
  try dsimp only
  repeat' (first | with_reducible assumption  | with_reducible apply KeepsOut.next| with_reducible apply State.put_keeps | with_reducible apply State.useFree_keeps | with_reducible apply State.when_keeps | with_reducible apply State.raise_keeps | with_reducible apply State.modRack_keeps | simp only [Keeps.mk_eq] | split | (intro _) )

theorem State.setRackCap_keeps (x0 : Nat) (x1 : State) {s0 : State} (h1 : Keeps s0 x1) : Keeps s0 (State.setRackCap x0 x1) := by
  unfold State.setRackCap
  try dsimp only
  repeat' (first | with_reducible assumption | with_reducible apply State.put_keeps | simp only [Keeps.mk_eq] | split | (intro _) )

theorem State.capAt_keeps (x0 : Nat) (x1 : Nat) (x2 : Bool) (x3 : State) {s0 : State} (h3 : Keeps s0 x3) : Keeps s0 (State.capAt x0 x1 x2 x3) := by
  unfold State.capAt
  try dsimp only
  repeat' (first | with_reducible assumption | with_reducible apply State.when_keeps | with_reducible apply State.setRackCap_keeps | with_reducible apply State.modRack_keeps | simp only [Keeps.mk_eq] | split | (intro _) )

theorem execRackCapWrite_keeps (x0 : HostWrite) (x1 : State) {s0 : State} (h1 : Keeps s0 x1) : KeepsOut s0 (execRackCapWrite x0 x1) := by
  unfold execRackCapWrite
  try dsimp only
  repeat' (first | with_reducible assumption  | with_reducible apply KeepsOut.next| with_reducible apply State.hostWrite_keeps | with_reducible apply State.ok_keeps | with_reducible apply State.capAt_keeps | simp only [Keeps.mk_eq] | split | (intro _) )

theorem State.modGroup_keeps (x0 : Fin 64) (x1 : GroupSt → GroupSt) (x2 : State) {s0 : State} (h2 : Keeps s0 x2) : Keeps s0 (State.modGroup x0 x1 x2) := by
  unfold State.modGroup
  try dsimp only
  repeat' (first | with_reducible assumption | with_reducible apply State.modRack_keeps | simp only [Keeps.mk_eq] | split | (intro _) )

theorem State.showRemote_keeps (x0 : Fin 64) (x1 : State) {s0 : State} (h1 : Keeps s0 x1) : Keeps s0 (State.showRemote x0 x1) := by
  unfold State.showRemote
  try dsimp only
  repeat' (first | with_reducible assumption | with_reducible apply State.put_keeps | simp only [Keeps.mk_eq] | split | (intro _) )

theorem State.fireGroupCap_keeps (x0 : Clove) (x1 : State) {s0 : State} (h1 : Keeps s0 x1) : Keeps s0 (State.fireGroupCap x0 x1) := by
  unfold State.fireGroupCap
  try dsimp only
  repeat' (first | with_reducible assumption | with_reducible apply State.each_keeps | with_reducible apply State.showRemote_keeps | with_reducible apply State.modGroup_keeps | simp only [Keeps.mk_eq] | split | (intro _) )

theorem State.sendGroupCap_keeps (x0 : Fin 64) (x1 : Nat) (x2 : Nat) (x3 : State) {s0 : State} (h3 : Keeps s0 x3) : Keeps s0 (State.sendGroupCap x0 x1 x2 x3) := by
  unfold State.sendGroupCap
  try dsimp only
  repeat' (first | with_reducible assumption | with_reducible apply State.modGroup_keeps | with_reducible apply State.originateClove_keeps | with_reducible apply State.fireGroupCap_keeps | simp only [Keeps.mk_eq] | split | (intro _) )

theorem State.regroup_keeps (x0 : Fin 64) (x1 : Nat) (x2 : State) {s0 : State} (h2 : Keeps s0 x2) : Keeps s0 (State.regroup x0 x1 x2) := by
  unfold State.regroup
  try dsimp only
  repeat' (first | with_reducible assumption | with_reducible apply State.when_keeps | with_reducible apply State.modGroup_keeps | with_reducible apply State.put_keeps | with_reducible apply State.raise_keeps | with_reducible apply State.inc_keeps | with_reducible apply State.sendGroupCap_keeps | simp only [Keeps.mk_eq] | split | (intro _) )

theorem execGroupCapRefresh_keeps (x0 : Fin 64) (x1 : State) {s0 : State} (h1 : Keeps s0 x1) : KeepsOut s0 (execGroupCapRefresh x0 x1) := by
  unfold execGroupCapRefresh
  try dsimp only
  repeat' (first | with_reducible assumption  | with_reducible apply KeepsOut.next| with_reducible apply State.when_keeps | with_reducible apply State.sendGroupCap_keeps | simp only [Keeps.mk_eq] | split | (intro _) )

theorem execGroupRelease_keeps (x0 : Fin 64) (x1 : State) {s0 : State} (h1 : Keeps s0 x1) : KeepsOut s0 (execGroupRelease x0 x1) := by
  unfold execGroupRelease
  try dsimp only
  repeat' (first | with_reducible assumption  | with_reducible apply KeepsOut.next| with_reducible apply State.modGroup_keeps | with_reducible apply State.put_keeps | with_reducible apply State.raiseOn_keeps | with_reducible apply State.sendGroupCap_keeps | simp only [Keeps.mk_eq] | split | (intro _) )

theorem execGroupCapLapse_keeps (x0 : Fin 64) (x1 : State) {s0 : State} (h1 : Keeps s0 x1) : KeepsOut s0 (execGroupCapLapse x0 x1) := by
  unfold execGroupCapLapse
  try dsimp only
  repeat' (first | with_reducible assumption  | with_reducible apply KeepsOut.next| with_reducible apply State.showRemote_keeps | with_reducible apply State.modGroup_keeps | simp only [Keeps.mk_eq] | split | (intro _) )

theorem State.policyWrite_keeps (x0 : Fin 64) (x1 : Int) (x2 : State) {s0 : State} (h2 : Keeps s0 x2) : Keeps s0 (State.policyWrite x0 x1 x2).1 := by
  unfold State.policyWrite
  try dsimp only
  repeat' (first | with_reducible assumption | with_reducible apply State.refuse_keeps | with_reducible apply State.raiseOn_keeps | with_reducible apply State.put_keeps | with_reducible apply State.ok_keeps | with_reducible apply State.when_keeps | with_reducible apply State.modGroup_keeps | simp only [Keeps.mk_eq] | split | (intro _) )

theorem State.membersWrite_keeps (x0 : Fin 64) (x1 : List Byte) (x2 : State) {s0 : State} (h2 : Keeps s0 x2) : Keeps s0 (State.membersWrite x0 x1 x2).1 := by
  unfold State.membersWrite
  try dsimp only
  repeat' (first | with_reducible assumption | with_reducible apply State.refuse_keeps | with_reducible apply State.each_keeps | with_reducible apply State.put_keeps | with_reducible apply State.ok_keeps | with_reducible apply State.putBytes_keeps | simp only [Keeps.mk_eq] | split | (intro _) )

theorem State.trayAbsent_keeps (x0 : Fin 24) (x1 : State) {s0 : State} (h1 : Keeps s0 x1) : Keeps s0 (State.trayAbsent x0 x1) := by
  unfold State.trayAbsent
  try dsimp only
  repeat' (first | with_reducible assumption | with_reducible apply State.modTray_keeps | with_reducible apply State.each_keeps | with_reducible apply State.put_keeps | with_reducible apply State.raiseOn_keeps | with_reducible apply State.setTrayState_keeps | with_reducible apply State.inc_keeps | with_reducible apply State.regroup_keeps | simp only [Keeps.mk_eq] | split | (intro _) )

theorem State.trayLinkDown_keeps (x0 : Nat) (x1 : State) {s0 : State} (h1 : Keeps s0 x1) : Keeps s0 (State.trayLinkDown x0 x1) := by
  unfold State.trayLinkDown
  try dsimp only
  repeat' (first | with_reducible assumption | with_reducible apply State.each_keeps | with_reducible apply State.put_keeps | with_reducible apply State.trayAbsent_keeps | simp only [Keeps.mk_eq] | split | (intro _) )

theorem State.trayLinkUp_keeps (x0 : Nat) (x1 : State) {s0 : State} (h1 : Keeps s0 x1) : Keeps s0 (State.trayLinkUp x0 x1) := by
  unfold State.trayLinkUp
  try dsimp only
  repeat' (first | with_reducible assumption | with_reducible apply State.each_keeps | with_reducible apply State.when_keeps | with_reducible apply State.put_keeps | simp only [Keeps.mk_eq] | split | (intro _) )

theorem execFlapHoldExpired_keeps (x0 : Fin 24) (x1 : State) {s0 : State} (h1 : Keeps s0 x1) : KeepsOut s0 (execFlapHoldExpired x0 x1) := by
  unfold execFlapHoldExpired
  try dsimp only
  repeat' (first | with_reducible assumption  | with_reducible apply KeepsOut.next| with_reducible apply State.when_keeps | with_reducible apply State.raise_keeps | with_reducible apply State.modTray_keeps | simp only [Keeps.mk_eq] | split | (intro _) )

theorem State.admitTray_keeps (x0 : Fin 24) (x1 : State) {s0 : State} (h1 : Keeps s0 x1) : Keeps s0 (State.admitTray x0 x1) := by
  unfold State.admitTray
  try dsimp only
  repeat' (first | with_reducible assumption | with_reducible apply State.when_keeps | with_reducible apply State.raise_keeps | with_reducible apply State.put_keeps | with_reducible apply State.modTray_keeps | with_reducible apply State.setTrayState_keeps | with_reducible apply State.raiseOn_keeps | simp only [Keeps.mk_eq] | split | (intro _) )

theorem State.takeTrayIdent_keeps (x0 : Fin 24) (x1 : TrayIdent) (x2 : State) {s0 : State} (h2 : Keeps s0 x2) : Keeps s0 (State.takeTrayIdent x0 x1 x2) := by
  unfold State.takeTrayIdent
  try dsimp only
  repeat' (first | with_reducible assumption | with_reducible apply State.modTray_keeps | with_reducible apply State.each_keeps | with_reducible apply State.put_keeps | simp only [Keeps.mk_eq] | split | (intro _) )

theorem execTrayIdent_keeps (x0 : Fin 24) (x1 : List Byte) (x2 : State) {s0 : State} (h2 : Keeps s0 x2) : KeepsOut s0 (execTrayIdent x0 x1 x2) := by
  unfold execTrayIdent
  try dsimp only
  repeat' (first | with_reducible assumption  | with_reducible apply KeepsOut.next| with_reducible apply State.trayHear_keeps | with_reducible apply State.takeTrayIdent_keeps | simp only [Keeps.mk_eq] | split | (intro _) )

theorem State.attributeEnergy_keeps (x0 : Nat) (x1 : Nat) (x2 : State) {s0 : State} (h2 : Keeps s0 x2) : Keeps s0 (State.attributeEnergy x0 x1 x2) := by
  unfold State.attributeEnergy
  try dsimp only
  repeat' (first | with_reducible assumption | with_reducible apply State.modRack_keeps | with_reducible apply State.put_keeps | with_reducible apply State.when_keeps | with_reducible apply State.countBy_keeps | simp only [Keeps.mk_eq] | split | (intro _) )

theorem State.coolantStop_keeps (x0 : Fin 24) (x1 : BitVec 8) (x2 : State) {s0 : State} (h2 : Keeps s0 x2) : Keeps s0 (State.coolantStop x0 x1 x2) := by
  unfold State.coolantStop
  try dsimp only
  repeat' (first | with_reducible assumption | with_reducible apply State.modTray_keeps | with_reducible apply State.put_keeps | with_reducible apply State.each_keeps | with_reducible apply State.raiseOn_keeps | with_reducible apply State.sendLimits_keeps | simp only [Keeps.mk_eq] | split | (intro _) )

theorem State.coolantFlags_keeps (x0 : Fin 24) (x1 : BitVec 8) (x2 : BitVec 8) (x3 : State) {s0 : State} (h3 : Keeps s0 x3) : Keeps s0 (State.coolantFlags x0 x1 x2 x3) := by
  unfold State.coolantFlags
  try dsimp only
  repeat' (first | with_reducible assumption | with_reducible apply State.modTray_keeps | with_reducible apply State.coolantStop_keeps | with_reducible apply State.put_keeps | simp only [Keeps.mk_eq] | split | (intro _) )

theorem State.trustRuns_keeps (x0 : Fin 24) (x1 : TrayReport) (x2 : State) {s0 : State} (h2 : Keeps s0 x2) : Keeps s0 (State.trustRuns x0 x1 x2) := by
  unfold State.trustRuns
  try dsimp only
  repeat' (first | with_reducible assumption | with_reducible apply State.modTray_keeps | simp only [Keeps.mk_eq] | split | (intro _) )

theorem State.takeTrayReport_keeps (x0 : Fin 24) (x1 : TrayReport) (x2 : Nat) (x3 : State) {s0 : State} (h3 : Keeps s0 x3) : Keeps s0 (State.takeTrayReport x0 x1 x2 x3) := by
  unfold State.takeTrayReport
  try dsimp only
  repeat' (first | with_reducible assumption | with_reducible apply State.coolantFlags_keeps | with_reducible apply State.put_keeps | with_reducible apply State.each_keeps | with_reducible apply State.trustRuns_keeps | with_reducible apply State.modTray_keeps | with_reducible apply State.when_keeps | with_reducible apply State.attributeEnergy_keeps | with_reducible apply State.admitTray_keeps | simp only [Keeps.mk_eq] | split | (intro _) )

theorem execTrayReport_keeps (x0 : Fin 24) (x1 : List Byte) (x2 : Nat) (x3 : State) {s0 : State} (h3 : Keeps s0 x3) : KeepsOut s0 (execTrayReport x0 x1 x2 x3) := by
  unfold execTrayReport
  try dsimp only
  repeat' (first | with_reducible assumption  | with_reducible apply KeepsOut.next| with_reducible apply State.trayHear_keeps | with_reducible apply State.takeTrayReport_keeps | simp only [Keeps.mk_eq] | split | (intro _) )

theorem State.chipStatus_keeps (x0 : Fin 24) (x1 : TrayStatus) (x2 : Fin 8) (x3 : State) {s0 : State} (h3 : Keeps s0 x3) : Keeps s0 (State.chipStatus x0 x1 x2 x3) := by
  unfold State.chipStatus
  try dsimp only
  repeat' (first | with_reducible assumption | with_reducible apply State.put_keeps | with_reducible apply State.raise_keeps | with_reducible apply State.modTray_keeps | simp only [Keeps.mk_eq] | split | (intro _) )

theorem State.takeTrayStatus_keeps (x0 : Fin 24) (x1 : TrayStatus) (x2 : Nat) (x3 : State) {s0 : State} (h3 : Keeps s0 x3) : Keeps s0 (State.takeTrayStatus x0 x1 x2 x3) := by
  unfold State.takeTrayStatus
  try dsimp only
  repeat' (first | with_reducible assumption | with_reducible apply State.each_keeps | with_reducible apply State.chipStatus_keeps | with_reducible apply State.modTray_keeps | with_reducible apply State.regroup_keeps | simp only [Keeps.mk_eq] | split | (intro _) )

theorem execTrayStatus_keeps (x0 : Fin 24) (x1 : List Byte) (x2 : Nat) (x3 : State) {s0 : State} (h3 : Keeps s0 x3) : KeepsOut s0 (execTrayStatus x0 x1 x2 x3) := by
  unfold execTrayStatus
  try dsimp only
  repeat' (first | with_reducible assumption  | with_reducible apply KeepsOut.next| with_reducible apply State.trayHear_keeps | with_reducible apply State.takeTrayStatus_keeps | simp only [Keeps.mk_eq] | split | (intro _) )

theorem State.takeStepNotice_keeps (x0 : Fin 24) (x1 : StepNotice) (x2 : Nat) (x3 : State) {s0 : State} (h3 : Keeps s0 x3) : Keeps s0 (State.takeStepNotice x0 x1 x2 x3) := by
  unfold State.takeStepNotice
  try dsimp only
  repeat' (first | with_reducible assumption | with_reducible apply State.dropFrame_keeps | with_reducible apply State.notice_keeps | with_reducible apply State.inc_keeps | simp only [Keeps.mk_eq] | split | (intro _) )

theorem execStepNotice_keeps (x0 : Fin 24) (x1 : List Byte) (x2 : Nat) (x3 : State) {s0 : State} (h3 : Keeps s0 x3) : KeepsOut s0 (execStepNotice x0 x1 x2 x3) := by
  unfold execStepNotice
  try dsimp only
  repeat' (first | with_reducible assumption  | with_reducible apply KeepsOut.next| with_reducible apply State.trayHear_keeps | with_reducible apply State.takeStepNotice_keeps | simp only [Keeps.mk_eq] | split | (intro _) )

theorem State.coolantClear_keeps (x0 : Fin 24) (x1 : State) {s0 : State} (h1 : Keeps s0 x1) : Keeps s0 (State.coolantClear x0 x1).1 := by
  unfold State.coolantClear
  try dsimp only
  repeat' (first | with_reducible assumption | with_reducible apply State.refuse_keeps | with_reducible apply State.ok_keeps | with_reducible apply State.raiseOn_keeps | with_reducible apply State.put_keeps | simp only [Keeps.mk_eq] | split | (intro _) )

theorem execCoolantClear_keeps (x0 : Fin 24) (x1 : Nat) (x2 : State) {s0 : State} (h2 : Keeps s0 x2) : KeepsOut s0 (execCoolantClear x0 x1 x2) := by
  unfold execCoolantClear
  try dsimp only
  repeat' (first | with_reducible assumption  | with_reducible apply KeepsOut.next| with_reducible apply State.hostWrite_keeps | with_reducible apply State.coolantClear_keeps | simp only [Keeps.mk_eq] | split | (intro _) )

theorem execAdmit_keeps (x0 : Fin 24) (x1 : State) {s0 : State} (h1 : Keeps s0 x1) : KeepsOut s0 (execAdmit x0 x1) := by
  unfold execAdmit
  try dsimp only
  repeat' (first | with_reducible assumption  | with_reducible apply KeepsOut.next| with_reducible apply State.sendAdmit_keeps | simp only [Keeps.mk_eq] | split | (intro _) )

theorem State.missReport_keeps (x0 : Fin 24) (x1 : State) {s0 : State} (h1 : Keeps s0 x1) : Keeps s0 (State.missReport x0 x1) := by
  unfold State.missReport
  try dsimp only
  repeat' (first | with_reducible assumption | with_reducible apply State.modTray_keeps | with_reducible apply State.inc_keeps | with_reducible apply State.when_keeps | with_reducible apply State.each_keeps | with_reducible apply State.attributeEnergy_keeps | with_reducible apply State.trayAbsent_keeps | simp only [Keeps.mk_eq] | split | (intro _) )

theorem State.judgeReports_keeps (x0 : State) {s0 : State} (h0 : Keeps s0 x0) : Keeps s0 (State.judgeReports x0) := by
  unfold State.judgeReports
  try dsimp only
  repeat' (first | with_reducible assumption | with_reducible apply State.modRack_keeps | with_reducible apply State.each_keeps | with_reducible apply State.modTray_keeps | with_reducible apply State.missReport_keeps | simp only [Keeps.mk_eq] | split | (intro _) )

theorem State.rampTray_keeps (x0 : Nat) (x1 : Fin 24) (x2 : State) {s0 : State} (h2 : Keeps s0 x2) : Keeps s0 (State.rampTray x0 x1 x2) := by
  unfold State.rampTray
  try dsimp only
  repeat' (first | with_reducible assumption | with_reducible apply State.modTray_keeps | with_reducible apply State.put_keeps | with_reducible apply State.raiseOn_keeps | with_reducible apply State.setTrayState_keeps | simp only [Keeps.mk_eq] | split | (intro _) )

theorem State.rampAll_keeps (x0 : State) {s0 : State} (h0 : Keeps s0 x0) : Keeps s0 (State.rampAll x0) := by
  unfold State.rampAll
  try dsimp only
  repeat' (first | with_reducible assumption | with_reducible apply State.each_keeps | with_reducible apply State.rampTray_keeps | simp only [Keeps.mk_eq] | split | (intro _) )

theorem State.addThrottle_keeps (x0 : Nat) (x1 : Nat) (x2 : State) {s0 : State} (h2 : Keeps s0 x2) : Keeps s0 (State.addThrottle x0 x1 x2) := by
  unfold State.addThrottle
  try dsimp only
  repeat' (first | with_reducible assumption | with_reducible apply State.modRack_keeps | simp only [Keeps.mk_eq] | split | (intro _) )

theorem State.formLimits_keeps (x0 : State) {s0 : State} (h0 : Keeps s0 x0) : Keeps s0 (State.formLimits x0) := by
  unfold State.formLimits
  dsimp only
  refine State.each_keeps _ _ _ (fun c t ht => State.sendLimits_keeps _ _ ht) ?_
  iterate 8 refine State.put_keeps _ _ _ ?_
  refine State.each_keeps _ _ _ (fun c t ht => State.put_keeps _ _ _ ht) ?_
  refine State.each_keeps _ _ _ (fun c t ht => ?_) ?_
  · exact State.when_keeps _ _ _ (fun u hu => State.addThrottle_keeps _ _ _ hu)
      (State.addThrottle_keeps _ _ _ (State.put_keeps _ _ _ (State.put_keeps _ _ _ ht)))
  · exact State.modRack_keeps _ _ (State.when_keeps _ _ _ (fun u hu => State.raise0_keeps _ _ hu) h0)

theorem execTrayCycleBoundary_keeps (x0 : State) {s0 : State} (h0 : Keeps s0 x0) : KeepsOut s0 (execTrayCycleBoundary x0) := by
  unfold execTrayCycleBoundary
  try dsimp only
  repeat' (first | with_reducible assumption  | with_reducible apply KeepsOut.next| with_reducible apply State.judgeReports_keeps | with_reducible apply State.modRack_keeps | with_reducible apply State.formLimits_keeps | with_reducible apply State.rampAll_keeps | simp only [Keeps.mk_eq] | split | (intro _) )

theorem State.rackTick_keeps (x0 : State) {s0 : State} (h0 : Keeps s0 x0) : Keeps s0 (State.rackTick x0) := by
  unfold State.rackTick
  try dsimp only
  repeat' (first | with_reducible assumption | with_reducible apply State.modRack_keeps | simp only [Keeps.mk_eq] | split | (intro _) )

theorem State.modSoc_keeps (x0 : SocState → SocState) (x1 : State) {s0 : State} (h1 : Keeps s0 x1) : Keeps s0 (State.modSoc x0 x1) := by
  unfold State.modSoc
  try dsimp only
  repeat' (first | with_reducible assumption  | simp only [Keeps.mk_eq] | split | (intro _) )

theorem State.socFlag_keeps (x0 : Nat) (x1 : Bool) (x2 : State) {s0 : State} (h2 : Keeps s0 x2) : Keeps s0 (State.socFlag x0 x1 x2) := by
  unfold State.socFlag
  try dsimp only
  repeat' (first | with_reducible assumption | with_reducible apply State.put_keeps | simp only [Keeps.mk_eq] | split | (intro _) )

theorem State.setSocMode_keeps (x0 : Nat) (x1 : State) {s0 : State} (h1 : Keeps s0 x1) : Keeps s0 (State.setSocMode x0 x1) := by
  unfold State.setSocMode
  try dsimp only
  repeat' (first | with_reducible assumption | with_reducible apply State.put_keeps | with_reducible apply State.modSoc_keeps | with_reducible apply State.when_keeps | with_reducible apply State.modPow_keeps | with_reducible apply State.raise_keeps | with_reducible apply State.socFlag_keeps | simp only [Keeps.mk_eq] | split | (intro _) )

theorem State.abortTest_keeps (x0 : State) {s0 : State} (h0 : Keeps s0 x0) : Keeps s0 (State.abortTest x0) := by
  unfold State.abortTest
  try dsimp only
  repeat' (first | with_reducible assumption | with_reducible apply State.raise0_keeps | with_reducible apply State.modSoc_keeps | with_reducible apply State.put_keeps | simp only [Keeps.mk_eq] | split | (intro _) )

theorem State.requestQuiet_keeps (x0 : State) {s0 : State} (h0 : Keeps s0 x0) : Keeps s0 (State.requestQuiet x0) := by
  unfold State.requestQuiet
  try dsimp only
  repeat' (first | with_reducible assumption | with_reducible apply State.put_keeps | with_reducible apply State.when_keeps | with_reducible apply State.raise0_keeps | with_reducible apply State.modSoc_keeps | simp only [Keeps.mk_eq] | split | (intro _) )

theorem State.enterRecovery_keeps (x0 : State) {s0 : State} (h0 : Keeps s0 x0) : Keeps s0 (State.enterRecovery x0) := by
  unfold State.enterRecovery
  try dsimp only
  repeat' (first | with_reducible assumption | with_reducible apply State.requestQuiet_keeps | with_reducible apply State.setSocMode_keeps | with_reducible apply State.abortTest_keeps | simp only [Keeps.mk_eq] | split | (intro _) )

theorem State.modRcd_keeps (f : RecState → RecState) (s : State) {s0 : State} (h : Keeps s0 s)
    (hf : s0.sane → s.rcd.bounded → (f s.rcd).bounded) : Keeps s0 (s.modRcd f) := Keeps.setRcd h hf

theorem State.startFlush_keeps (x0 : FlushKind) (x1 : State) {s0 : State} (h1 : Keeps s0 x1) : Keeps s0 (State.startFlush x0 x1) := by
  unfold State.startFlush
  try dsimp only
  repeat' (first | with_reducible assumption | with_reducible apply State.inc_keeps | with_reducible apply State.modRcd_keeps | exact fun _ hb => hb | exact fun _ hb => ⟨hb.1, Nat.zero_le _, Nat.zero_le _⟩ | simp only [Keeps.mk_eq] | split | (intro _) )

theorem State.copyRecord_keeps (x0 : Record) (x1 : State) {s0 : State} (h1 : Keeps s0 x1) : Keeps s0 (State.copyRecord x0 x1) := by
  unfold State.copyRecord
  dsimp only
  refine State.when_keeps _ _ _ (fun _ => State.inc_keeps _ _) (State.modRcd_keeps _ _ h1 fun _ hb => ⟨hb.1, hb.2.1, ?_⟩)
  simp only [List.length_take]
  omega

theorem State.showOldest_keeps (x0 : State) {s0 : State} (h0 : Keeps s0 x0) : Keeps s0 (State.showOldest x0) := by
  unfold State.showOldest
  try dsimp only
  repeat' (first | with_reducible assumption | with_reducible apply State.put_keeps | simp only [Keeps.mk_eq] | split | (intro _) )

theorem State.flushRing_keeps (x0 : State) {s0 : State} (h0 : Keeps s0 x0) : Keeps s0 (State.flushRing x0) := by
  unfold State.flushRing
  dsimp only
  refine State.showOldest_keeps _ (State.modRcd_keeps _ _ (State.each_keeps _ _ _ (fun e t ht => State.copyRecord_keeps e t ht) h0) fun _ hb => ⟨hb.1, ?_, hb.2.2⟩)
  simpa using hb.2.1

theorem State.numberPushes_keeps (x0 : Nat) (x1 : Nat) (x2 : Args) (x3 : State) {s0 : State} (h3 : Keeps s0 x3) : Keeps s0 (State.numberPushes x0 x1 x2 x3) := by
  unfold State.numberPushes
  try dsimp only
  repeat' (first | with_reducible assumption  | simp only [Keeps.mk_eq] | split | (intro _) )

theorem State.writeRecord_keeps (x0 : StagedCause) (x1 : List Byte) (x2 : Nat) (x3 : Bool) (x4 : State) {s0 : State} (h4 : Keeps s0 x4) : Keeps s0 (State.writeRecord x0 x1 x2 x3 x4) := by
  unfold State.writeRecord
  dsimp only
  refine State.showOldest_keeps _ (State.numberPushes_keeps _ _ _ _ ?_)
  rw [Keeps.mk_eq]
  refine State.put_keeps _ _ _ (State.modRcd_keeps _ _ h4 fun _ hb => ⟨hb.1, ?_, hb.2.2⟩)
  simp only [List.length_take]
  omega

theorem State.recordInMram_keeps (x0 : Nat) (x1 : Args) (x2 : State) {s0 : State} (h2 : Keeps s0 x2) : Keeps s0 (State.recordInMram x0 x1 x2) := by
  unfold State.recordInMram
  try dsimp only
  repeat' (first | with_reducible assumption | with_reducible apply State.inc_keeps | with_reducible apply State.preparePush_keeps | with_reducible apply State.flushRing_keeps | with_reducible apply State.writeRecord_keeps | simp only [Keeps.mk_eq] | split | (intro _) )

theorem State.modMd_keeps (x0 : ModState → ModState) (x1 : State) {s0 : State} (h1 : Keeps s0 x1) : Keeps s0 (State.modMd x0 x1) := by
  unfold State.modMd
  try dsimp only
  repeat' (first | with_reducible assumption  | simp only [Keeps.mk_eq] | split | (intro _) )

theorem State.modPins_keeps (x0 : Pins → Pins) (x1 : State) {s0 : State} (h1 : Keeps s0 x1) : Keeps s0 (State.modPins x0 x1) := by
  unfold State.modPins
  try dsimp only
  repeat' (first | with_reducible assumption | with_reducible apply State.modMd_keeps | simp only [Keeps.mk_eq] | split | (intro _) )

theorem State.enterMode_keeps (x0 : ModMode) (x1 : State) {s0 : State} (h1 : Keeps s0 x1) : Keeps s0 (State.enterMode x0 x1) := by
  unfold State.enterMode
  try dsimp only
  repeat' (first | with_reducible assumption | with_reducible apply State.put_keeps | with_reducible apply State.modMd_keeps | simp only [Keeps.mk_eq] | split | (intro _) )

theorem State.modPair_keeps (x0 : PairSt → PairSt) (x1 : State) {s0 : State} (h1 : Keeps s0 x1) : Keeps s0 (State.modPair x0 x1) := by
  unfold State.modPair
  try dsimp only
  repeat' (first | with_reducible assumption  | simp only [Keeps.mk_eq] | split | (intro _) )

theorem State.goCold_keeps (x0 : State) {s0 : State} (h0 : Keeps s0 x0) : Keeps s0 (State.goCold x0) := by
  unfold State.goCold
  try dsimp only
  repeat' (first | with_reducible assumption | with_reducible apply State.modPair_keeps | with_reducible apply State.raise0_keeps | with_reducible apply State.put_keeps | with_reducible apply State.enterMode_keeps | simp only [Keeps.mk_eq] | split | (intro _) )

theorem State.armClaim_keeps (x0 : Bool) (x1 : State) {s0 : State} (h1 : Keeps s0 x1) : Keeps s0 (State.armClaim x0 x1) := by
  unfold State.armClaim
  try dsimp only
  repeat' (first | with_reducible assumption | with_reducible apply State.putB_keeps | simp only [Keeps.mk_eq] | split | (intro _) )

theorem State.diagnose_keeps (x0 : State) {s0 : State} (h0 : Keeps s0 x0) : Keeps s0 (State.diagnose x0) := by
  unfold State.diagnose
  try dsimp only
  repeat' (first | with_reducible assumption | with_reducible apply State.modPins_keeps | with_reducible apply State.put_keeps | with_reducible apply State.armClaim_keeps | simp only [Keeps.mk_eq] | split | (intro _) )

theorem State.gateQuads_keeps (x0 : State) {s0 : State} (h0 : Keeps s0 x0) : Keeps s0 (State.gateQuads x0) := by
  unfold State.gateQuads
  try dsimp only
  repeat' (first | with_reducible assumption | with_reducible apply State.modMd_keeps | simp only [Keeps.mk_eq] | split | (intro _) )

theorem State.modChain_keeps (x0 : ChainState → ChainState) (x1 : State) {s0 : State} (h1 : Keeps s0 x1) : Keeps s0 (State.modChain x0 x1) := by
  unfold State.modChain
  try dsimp only
  repeat' (first | with_reducible assumption  | simp only [Keeps.mk_eq] | split | (intro _) )

theorem State.modUnit_keeps (x0 : Fin 32) (x1 : UnitSt → UnitSt) (x2 : State) {s0 : State} (h2 : Keeps s0 x2) : Keeps s0 (State.modUnit x0 x1 x2) := by
  unfold State.modUnit
  try dsimp only
  repeat' (first | with_reducible assumption | with_reducible apply State.modChain_keeps | simp only [Keeps.mk_eq] | split | (intro _) )

theorem State.chainDrive_keeps (x0 : Bool) (x1 : List Bool) (x2 : State) {s0 : State} (h2 : Keeps s0 x2) : Keeps s0 (State.chainDrive x0 x1 x2) := by
  unfold State.chainDrive
  try dsimp only
  repeat' (first | with_reducible assumption | with_reducible apply State.when_keeps | with_reducible apply State.send_keeps | simp only [Keeps.mk_eq] | split | (intro _) )

theorem State.chainSend_keeps (x0 : Bool) (x1 : Nat) (x2 : Nat) (x3 : Nat) (x4 : List Byte) (x5 : State) {s0 : State} (h5 : Keeps s0 x5) : Keeps s0 (State.chainSend x0 x1 x2 x3 x4 x5) := by
  unfold State.chainSend
  try dsimp only
  repeat' (first | with_reducible assumption | with_reducible apply State.when_keeps | with_reducible apply State.chainDrive_keeps | with_reducible apply State.modChain_keeps | simp only [Keeps.mk_eq] | split | (intro _) )

theorem State.chainBroadcast_keeps (x0 : Nat) (x1 : List Byte) (x2 : State) {s0 : State} (h2 : Keeps s0 x2) : Keeps s0 (State.chainBroadcast x0 x1 x2) := by
  unfold State.chainBroadcast
  try dsimp only
  repeat' (first | with_reducible assumption | with_reducible apply State.chainSend_keeps | with_reducible apply State.when_keeps | simp only [Keeps.mk_eq] | split | (intro _) )

theorem State.chainWakeUp_keeps (x0 : State) {s0 : State} (h0 : Keeps s0 x0) : Keeps s0 (State.chainWakeUp x0) := by
  unfold State.chainWakeUp
  try dsimp only
  repeat' (first | with_reducible assumption | with_reducible apply State.chainDrive_keeps | with_reducible apply State.modChain_keeps | simp only [Keeps.mk_eq] | split | (intro _) )

theorem State.chainCommand_keeps (x0 : Bool) (x1 : Fin 32) (x2 : Nat) (x3 : Nat) (x4 : List Byte) (x5 : State) {s0 : State} (h5 : Keeps s0 x5) : Keeps s0 (State.chainCommand x0 x1 x2 x3 x4 x5) := by
  unfold State.chainCommand
  try dsimp only
  repeat' (first | with_reducible assumption | with_reducible apply State.when_keeps | with_reducible apply State.chainSend_keeps | with_reducible apply State.modChain_keeps | simp only [Keeps.mk_eq] | split | (intro _) )

theorem State.chainHear_keeps (x0 : Nat) (x1 : Nat) (x2 : List Byte) (x3 : ChainFrame → State → State) (x4 : State) {s0 : State} (h3 : ∀ y0 y1, Keeps s0 y1 → Keeps s0 (x3 y0 y1)) (h4 : Keeps s0 x4) : Keeps s0 (State.chainHear x0 x1 x2 x3 x4) := by
  unfold State.chainHear
  try dsimp only
  repeat' (first | with_reducible assumption | with_reducible apply State.inc_keeps | with_reducible apply h3 | simp only [Keeps.mk_eq] | split | (intro _) )

theorem State.chainResponse_keeps (x0 : Fin 32) (x1 : Nat) (x2 : Nat) (x3 : List Byte) (x4 : List Byte → State → State) (x5 : State) {s0 : State} (h4 : ∀ y0 y1, Keeps s0 y1 → Keeps s0 (x4 y0 y1)) (h5 : Keeps s0 x5) : Keeps s0 (State.chainResponse x0 x1 x2 x3 x4 x5) := by
  unfold State.chainResponse
  try dsimp only
  repeat' (first | with_reducible assumption | with_reducible apply State.chainHear_keeps | with_reducible apply State.when_keeps | with_reducible apply State.modChain_keeps | with_reducible apply h4 | simp only [Keeps.mk_eq] | split | (intro _) )

theorem execChainMasterChanged_keeps (x0 : State) {s0 : State} (h0 : Keeps s0 x0) : KeepsOut s0 (execChainMasterChanged x0) := by
  unfold execChainMasterChanged
  try dsimp only
  repeat' (first | with_reducible assumption  | with_reducible apply KeepsOut.next| with_reducible apply State.raise0_keeps | with_reducible apply State.put_keeps | with_reducible apply State.when_keeps | with_reducible apply State.chainWakeUp_keeps | simp only [Keeps.mk_eq] | split | (intro _) )

theorem State.chainRole_keeps (x0 : State) {s0 : State} (h0 : Keeps s0 x0) : Keeps s0 (State.chainRole x0) := by
  unfold State.chainRole
  try dsimp only
  repeat' (first | with_reducible assumption | with_reducible apply State.when_keeps | with_reducible apply State.put_keeps | simp only [Keeps.mk_eq] | split | (intro _) )

theorem execEnum_keeps (x0 : Bool) (x1 : Fin 32) (x2 : State) {s0 : State} (h2 : Keeps s0 x2) : KeepsOut s0 (execEnum x0 x1 x2) := by
  unfold execEnum
  try dsimp only
  repeat' (first | with_reducible assumption  | with_reducible apply KeepsOut.next| with_reducible apply State.chainCommand_keeps | simp only [Keeps.mk_eq] | split | (intro _) )

theorem execConfig_keeps (x0 : Bool) (x1 : Fin 32) (x2 : State) {s0 : State} (h2 : Keeps s0 x2) : KeepsOut s0 (execConfig x0 x1 x2) := by
  unfold execConfig
  try dsimp only
  repeat' (first | with_reducible assumption  | with_reducible apply KeepsOut.next| with_reducible apply State.put_keeps | with_reducible apply State.chainCommand_keeps | simp only [Keeps.mk_eq] | split | (intro _) )

theorem execAck_keeps (x0 : Fin 32) (x1 : List Byte) (x2 : State) {s0 : State} (h2 : Keeps s0 x2) : KeepsOut s0 (execAck x0 x1 x2) := by
  unfold execAck
  try dsimp only
  repeat' (first | with_reducible assumption  | with_reducible apply KeepsOut.next| with_reducible apply State.chainResponse_keeps | simp only [Keeps.mk_eq] | split | (intro _) )

theorem execChainLoad_keeps (x0 : Bool) (x1 : Option (Fin 32)) (x2 : Nat) (x3 : Nat) (x4 : List Byte) (x5 : State) {s0 : State} (h5 : Keeps s0 x5) : KeepsOut s0 (execChainLoad x0 x1 x2 x3 x4 x5) := by
  unfold execChainLoad
  try dsimp only
  repeat' (first | with_reducible assumption  | with_reducible apply KeepsOut.next| with_reducible apply State.chainSend_keeps | with_reducible apply State.modUnit_keeps | simp only [Keeps.mk_eq] | split | (intro _) )

theorem State.unitBit_keeps (x0 : Fin 32) (x1 : Nat) (x2 : Bool) (x3 : State) {s0 : State} (h3 : Keeps s0 x3) : Keeps s0 (State.unitBit x0 x1 x2 x3) := by
  unfold State.unitBit
  try dsimp only
  repeat' (first | with_reducible assumption | with_reducible apply State.put_keeps | simp only [Keeps.mk_eq] | split | (intro _) )

theorem State.showTransfers_keeps (x0 : State) {s0 : State} (h0 : Keeps s0 x0) : Keeps s0 (State.showTransfers x0) := by
  unfold State.showTransfers
  try dsimp only
  repeat' (first | with_reducible assumption | with_reducible apply State.put_keeps | simp only [Keeps.mk_eq] | split | (intro _) )

theorem State.showLimits_keeps (x0 : State) {s0 : State} (h0 : Keeps s0 x0) : Keeps s0 (State.showLimits x0) := by
  unfold State.showLimits
  try dsimp only
  repeat' (first | with_reducible assumption | with_reducible apply State.put_keeps | simp only [Keeps.mk_eq] | split | (intro _) )

theorem State.showStale_keeps (x0 : State) {s0 : State} (h0 : Keeps s0 x0) : Keeps s0 (State.showStale x0) := by
  unfold State.showStale
  try dsimp only
  repeat' (first | with_reducible assumption | with_reducible apply State.put_keeps | with_reducible apply State.showLimits_keeps | with_reducible apply State.when_keeps | with_reducible apply State.modChain_keeps | simp only [Keeps.mk_eq] | split | (intro _) )

theorem State.makeStale_keeps (x0 : Fin 32) (x1 : State) {s0 : State} (h1 : Keeps s0 x1) : Keeps s0 (State.makeStale x0 x1) := by
  unfold State.makeStale
  try dsimp only
  repeat' (first | with_reducible assumption | with_reducible apply State.modUnit_keeps | with_reducible apply State.put_keeps | simp only [Keeps.mk_eq] | split | (intro _) )

theorem State.judgeBreaks_keeps (x0 : State) {s0 : State} (h0 : Keeps s0 x0) : Keeps s0 (State.judgeBreaks x0) := by
  unfold State.judgeBreaks
  try dsimp only
  repeat' (first | with_reducible assumption | with_reducible apply State.raise_keeps | with_reducible apply State.put_keeps | with_reducible apply State.showStale_keeps | simp only [Keeps.mk_eq] | split | (intro _) )

theorem execChainSync_keeps (x0 : State) {s0 : State} (h0 : Keeps s0 x0) : KeepsOut s0 (execChainSync x0) := by
  unfold execChainSync
  try dsimp only
  repeat' (first | with_reducible assumption  | with_reducible apply KeepsOut.next| with_reducible apply State.chainBroadcast_keeps | with_reducible apply State.when_keeps | with_reducible apply State.put_keeps | with_reducible apply State.judgeBreaks_keeps | simp only [Keeps.mk_eq] | split | (intro _) )

theorem State.identify_keeps (x0 : Bool) (x1 : Fin 32) (x2 : ChainIdent) (x3 : State) {s0 : State} (h3 : Keeps s0 x3) : Keeps s0 (State.identify x0 x1 x2 x3) := by
  unfold State.identify
  try dsimp only
  repeat' (first | with_reducible assumption | with_reducible apply State.put_keeps | with_reducible apply State.putBytes_keeps | with_reducible apply State.when_keeps | with_reducible apply State.raise_keeps | with_reducible apply State.modUnit_keeps | with_reducible apply State.showStale_keeps | with_reducible apply State.makeStale_keeps | with_reducible apply State.raiseOn_keeps | simp only [Keeps.mk_eq] | split | (intro _) )

theorem execIdent_keeps (x0 : Bool) (x1 : Fin 32) (x2 : List Byte) (x3 : State) {s0 : State} (h3 : Keeps s0 x3) : KeepsOut s0 (execIdent x0 x1 x2 x3) := by
  unfold execIdent
  try dsimp only
  repeat' (first | with_reducible assumption  | with_reducible apply KeepsOut.next| with_reducible apply State.chainResponse_keeps | with_reducible apply State.identify_keeps | simp only [Keeps.mk_eq] | split | (intro _) )

theorem State.acceptSerials_keeps (x0 : State) {s0 : State} (h0 : Keeps s0 x0) : Keeps s0 (State.acceptSerials x0).1 := by
  unfold State.acceptSerials
  try dsimp only
  repeat' (first | with_reducible assumption | with_reducible apply State.ok_keeps | with_reducible apply State.each_keeps | with_reducible apply State.put_keeps | with_reducible apply State.modUnit_keeps | with_reducible apply State.when_keeps | simp only [Keeps.mk_eq] | split | (intro _) )

theorem execSerialAccept_keeps (x0 : Nat) (x1 : State) {s0 : State} (h1 : Keeps s0 x1) : KeepsOut s0 (execSerialAccept x0 x1) := by
  unfold execSerialAccept
  try dsimp only
  repeat' (first | with_reducible assumption  | with_reducible apply KeepsOut.next| with_reducible apply State.hostWrite_keeps | with_reducible apply State.acceptSerials_keeps | simp only [Keeps.mk_eq] | split | (intro _) )

theorem State.planSweep_keeps (x0 : Nat) (x1 : Nat) (x2 : Bool) (x3 : State) {s0 : State} (h3 : Keeps s0 x3) : Keeps s0 (State.planSweep x0 x1 x2 x3) := by
  unfold State.planSweep
  try dsimp only
  repeat' (first | with_reducible assumption | with_reducible apply State.modChain_keeps | simp only [Keeps.mk_eq] | split | (intro _) )

theorem State.askSweep_keeps (x0 : Nat) (x1 : Nat) (x2 : State) {s0 : State} (h2 : Keeps s0 x2) : Keeps s0 (State.askSweep x0 x1 x2) := by
  unfold State.askSweep
  try dsimp only
  repeat' (first | with_reducible assumption | with_reducible apply State.planSweep_keeps | simp only [Keeps.mk_eq] | split | (intro _) )

theorem execSweepPeriodic_keeps (x0 : State) {s0 : State} (h0 : Keeps s0 x0) : KeepsOut s0 (execSweepPeriodic x0) := by
  unfold execSweepPeriodic
  try dsimp only
  repeat' (first | with_reducible assumption  | with_reducible apply KeepsOut.next| with_reducible apply State.planSweep_keeps | simp only [Keeps.mk_eq] | split | (intro _) )

theorem execSweepRequest_keeps (x0 : HostWrite) (x1 : State) {s0 : State} (h1 : Keeps s0 x1) : KeepsOut s0 (execSweepRequest x0 x1) := by
  unfold execSweepRequest
  try dsimp only
  repeat' (first | with_reducible assumption  | with_reducible apply KeepsOut.next| with_reducible apply State.hostWrite_keeps | with_reducible apply State.ok_keeps | with_reducible apply State.askSweep_keeps | simp only [Keeps.mk_eq] | split | (intro _) )

theorem State.modSweep_keeps (x0 : Nat) (x1 : Sweep → Sweep) (x2 : State) {s0 : State} (h2 : Keeps s0 x2) : Keeps s0 (State.modSweep x0 x1 x2) := by
  unfold State.modSweep
  try dsimp only
  repeat' (first | with_reducible assumption | with_reducible apply State.modChain_keeps | simp only [Keeps.mk_eq] | split | (intro _) )

theorem State.loseOldest_keeps (x0 : State) {s0 : State} (h0 : Keeps s0 x0) : Keeps s0 (State.loseOldest x0) := by
  unfold State.loseOldest
  try dsimp only
  repeat' (first | with_reducible assumption | with_reducible apply State.modSweep_keeps | with_reducible apply State.when_keeps | with_reducible apply State.raise_keeps | with_reducible apply State.inc_keeps | simp only [Keeps.mk_eq] | split | (intro _) )

theorem execSweep_keeps (x0 : State) {s0 : State} (h0 : Keeps s0 x0) : KeepsOut s0 (execSweep x0) := by
  unfold execSweep
  try dsimp only
  repeat' (first | with_reducible assumption  | with_reducible apply KeepsOut.next| with_reducible apply State.loseOldest_keeps | with_reducible apply State.modChain_keeps | with_reducible apply State.when_keeps | with_reducible apply State.each_keeps | with_reducible apply State.modUnit_keeps | with_reducible apply State.chainBroadcast_keeps | simp only [Keeps.mk_eq] | split | (intro _) )

theorem execSweepResend_keeps (x0 : State) {s0 : State} (h0 : Keeps s0 x0) : KeepsOut s0 (execSweepResend x0) := by
  unfold execSweepResend
  try dsimp only
  repeat' (first | with_reducible assumption  | with_reducible apply KeepsOut.next| with_reducible apply State.when_keeps | with_reducible apply State.chainSend_keeps | simp only [Keeps.mk_eq] | split | (intro _) )

theorem execChainRead_keeps (x0 : Bool) (x1 : Fin 32) (x2 : State) {s0 : State} (h2 : Keeps s0 x2) : KeepsOut s0 (execChainRead x0 x1 x2) := by
  unfold execChainRead
  try dsimp only
  repeat' (first | with_reducible assumption  | with_reducible apply KeepsOut.next| with_reducible apply State.chainCommand_keeps | simp only [Keeps.mk_eq] | split | (intro _) )

theorem State.startTrip_keeps (x0 : Fin 32) (x1 : Bool) (x2 : Bool) (x3 : Bool) (x4 : State) {s0 : State} (h4 : Keeps s0 x4) : Keeps s0 (State.startTrip x0 x1 x2 x3 x4) := by
  unfold State.startTrip
  try dsimp only
  repeat' (first | with_reducible assumption | with_reducible apply State.modChain_keeps | with_reducible apply State.when_keeps | with_reducible apply State.raise_keeps | with_reducible apply State.raiseOn_keeps | with_reducible apply State.showLimits_keeps | simp only [Keeps.mk_eq] | split | (intro _) )

theorem State.judgeUnit_keeps (x0 : Fin 32) (x1 : LimitView) (x2 : State) {s0 : State} (h2 : Keeps s0 x2) : Keeps s0 (State.judgeUnit x0 x1 x2) := by
  unfold State.judgeUnit
  try dsimp only
  repeat' (first | with_reducible assumption | with_reducible apply State.modUnit_keeps | with_reducible apply State.when_keeps | with_reducible apply State.raiseOn_keeps | with_reducible apply State.unitBit_keeps | with_reducible apply State.startTrip_keeps | with_reducible apply State.modChain_keeps | simp only [Keeps.mk_eq] | split | (intro _) )

theorem State.applyLimits_keeps (x0 : Fin 32) (x1 : State) {s0 : State} (h1 : Keeps s0 x1) : Keeps s0 (State.applyLimits x0 x1) := by
  unfold State.applyLimits
  try dsimp only
  repeat' (first | with_reducible assumption | with_reducible apply State.judgeUnit_keeps | simp only [Keeps.mk_eq] | split | (intro _) )

theorem execCellLimitReleased_keeps (x0 : Fin 3) (x1 : State) {s0 : State} (h1 : Keeps s0 x1) : KeepsOut s0 (execCellLimitReleased x0 x1) := by
  unfold execCellLimitReleased
  try dsimp only
  repeat' (first | with_reducible assumption  | with_reducible apply KeepsOut.next| with_reducible apply State.modChain_keeps | with_reducible apply State.when_keeps | with_reducible apply State.enterRecovery_keeps | with_reducible apply State.raise_keeps | with_reducible apply State.showLimits_keeps | simp only [Keeps.mk_eq] | split | (intro _) )

theorem State.orderTest_keeps (x0 : Fin 32) (x1 : Nat) (x2 : State) {s0 : State} (h2 : Keeps s0 x2) : Keeps s0 (State.orderTest x0 x1 x2) := by
  unfold State.orderTest
  try dsimp only
  repeat' (first | with_reducible assumption | with_reducible apply State.modUnit_keeps | simp only [Keeps.mk_eq] | split | (intro _) )

theorem State.applyWires_keeps (x0 : Fin 32) (x1 : State) {s0 : State} (h1 : Keeps s0 x1) : Keeps s0 (State.applyWires x0 x1) := by
  unfold State.applyWires
  try dsimp only
  repeat' (first | with_reducible assumption | with_reducible apply State.put_keeps | with_reducible apply State.when_keeps | with_reducible apply State.raise_keeps | with_reducible apply State.orderTest_keeps | with_reducible apply State.unitBit_keeps | with_reducible apply State.modUnit_keeps | with_reducible apply State.each_keeps | simp only [Keeps.mk_eq] | split | (intro _) )

theorem State.takeResult_keeps (x0 : Bool) (x1 : Fin 32) (x2 : ChainResult) (x3 : State) {s0 : State} (h3 : Keeps s0 x3) : Keeps s0 (State.takeResult x0 x1 x2 x3) := by
  unfold State.takeResult
  try dsimp only
  repeat' (first | with_reducible assumption | with_reducible apply State.unitBit_keeps | with_reducible apply State.modSweep_keeps | with_reducible apply State.put_keeps | with_reducible apply State.modUnit_keeps | with_reducible apply State.showTransfers_keeps | simp only [Keeps.mk_eq] | split | (intro _) )

theorem execResult_keeps (x0 : Bool) (x1 : Fin 32) (x2 : List Byte) (x3 : State) {s0 : State} (h3 : Keeps s0 x3) : KeepsOut s0 (execResult x0 x1 x2 x3) := by
  unfold execResult
  try dsimp only
  repeat' (first | with_reducible assumption  | with_reducible apply KeepsOut.next| with_reducible apply State.chainResponse_keeps | with_reducible apply State.takeResult_keeps | simp only [Keeps.mk_eq] | split | (intro _) )

theorem State.wireVerdict_keeps (x0 : Fin 32) (x1 : BitVec 32) (x2 : Fin 17) (x3 : State) {s0 : State} (h3 : Keeps s0 x3) : Keeps s0 (State.wireVerdict x0 x1 x2 x3) := by
  unfold State.wireVerdict
  try dsimp only
  repeat' (first | with_reducible assumption | with_reducible apply State.modUnit_keeps | with_reducible apply State.raise_keeps | with_reducible apply State.put_keeps | with_reducible apply State.when_keeps | simp only [Keeps.mk_eq] | split | (intro _) )

theorem State.takeTest_keeps (x0 : Bool) (x1 : Fin 32) (x2 : ChainTestResult) (x3 : State) {s0 : State} (h3 : Keeps s0 x3) : Keeps s0 (State.takeTest x0 x1 x2 x3) := by
  unfold State.takeTest
  try dsimp only
  repeat' (first | with_reducible assumption | with_reducible apply State.modUnit_keeps | with_reducible apply State.modSweep_keeps | with_reducible apply State.each_keeps | with_reducible apply State.wireVerdict_keeps | with_reducible apply State.unitBit_keeps | with_reducible apply State.put_keeps | with_reducible apply State.when_keeps | with_reducible apply State.raise_keeps | simp only [Keeps.mk_eq] | split | (intro _) )

theorem execTestResult_keeps (x0 : Bool) (x1 : Fin 32) (x2 : List Byte) (x3 : State) {s0 : State} (h3 : Keeps s0 x3) : KeepsOut s0 (execTestResult x0 x1 x2 x3) := by
  unfold execTestResult
  try dsimp only
  repeat' (first | with_reducible assumption  | with_reducible apply KeepsOut.next| with_reducible apply State.chainResponse_keeps | with_reducible apply State.takeTest_keeps | simp only [Keeps.mk_eq] | split | (intro _) )

theorem State.cutOff_keeps (x0 : Bool) (x1 : Fin 32) (x2 : State) {s0 : State} (h2 : Keeps s0 x2) : Keeps s0 (State.cutOff x0 x1 x2) := by
  unfold State.cutOff
  try dsimp only
  repeat' (first | with_reducible assumption | with_reducible apply State.each_keeps | with_reducible apply State.modUnit_keeps | simp only [Keeps.mk_eq] | split | (intro _) )

theorem State.outOfReach_keeps (x0 : Fin 32) (x1 : State) {s0 : State} (h1 : Keeps s0 x1) : Keeps s0 (State.outOfReach x0 x1) := by
  unfold State.outOfReach
  try dsimp only
  repeat' (first | with_reducible assumption | with_reducible apply State.when_keeps | with_reducible apply State.raiseOn_keeps | with_reducible apply State.put_keeps | with_reducible apply State.modChain_keeps | with_reducible apply State.makeStale_keeps | simp only [Keeps.mk_eq] | split | (intro _) )

theorem execChainResponseTimeout_keeps (x0 : Bool) (x1 : Fin 32) (x2 : State) {s0 : State} (h2 : Keeps s0 x2) : KeepsOut s0 (execChainResponseTimeout x0 x1 x2) := by
  unfold execChainResponseTimeout
  try dsimp only
  repeat' (first | with_reducible assumption  | with_reducible apply KeepsOut.next| with_reducible apply State.modChain_keeps | with_reducible apply State.chainDrive_keeps | with_reducible apply State.inc_keeps | with_reducible apply State.cutOff_keeps | with_reducible apply State.showStale_keeps | with_reducible apply State.each_keeps | with_reducible apply State.outOfReach_keeps | with_reducible apply State.when_keeps | with_reducible apply State.judgeBreaks_keeps | simp only [Keeps.mk_eq] | split | (intro _) )

theorem execLoopSend_keeps (x0 : State) {s0 : State} (h0 : Keeps s0 x0) : KeepsOut s0 (execLoopSend x0) := by
  unfold execLoopSend
  try dsimp only
  repeat' (first | with_reducible assumption  | with_reducible apply KeepsOut.next| with_reducible apply State.when_keeps | with_reducible apply State.chainSend_keeps | with_reducible apply State.modChain_keeps | simp only [Keeps.mk_eq] | split | (intro _) )

theorem execLoop_keeps (x0 : List Byte) (x1 : Nat) (x2 : State) {s0 : State} (h2 : Keeps s0 x2) : KeepsOut s0 (execLoop x0 x1 x2) := by
  unfold execLoop
  try dsimp only
  repeat' (first | with_reducible assumption  | with_reducible apply KeepsOut.next| with_reducible apply State.chainHear_keeps | with_reducible apply State.when_keeps | with_reducible apply State.put_keeps | with_reducible apply State.modChain_keeps | simp only [Keeps.mk_eq] | split | (intro _) )

theorem execChainRestored_keeps (x0 : State) {s0 : State} (h0 : Keeps s0 x0) : KeepsOut s0 (execChainRestored x0) := by
  unfold execChainRestored
  try dsimp only
  repeat' (first | with_reducible assumption  | with_reducible apply KeepsOut.next| with_reducible apply State.each_keeps | with_reducible apply State.chainCommand_keeps | with_reducible apply State.modUnit_keeps | with_reducible apply State.when_keeps | with_reducible apply State.put_keeps | with_reducible apply State.chainWakeUp_keeps | with_reducible apply State.chainBroadcast_keeps | with_reducible apply State.enterRecovery_keeps | with_reducible apply State.raise0_keeps | with_reducible apply State.showStale_keeps | simp only [Keeps.mk_eq] | split | (intro _) )

theorem execChainStaleTimeout_keeps (x0 : State) {s0 : State} (h0 : Keeps s0 x0) : KeepsOut s0 (execChainStaleTimeout x0) := by
  unfold execChainStaleTimeout
  try dsimp only
  repeat' (first | with_reducible assumption  | with_reducible apply KeepsOut.next| with_reducible apply State.modChain_keeps | with_reducible apply State.raise_keeps | with_reducible apply State.showLimits_keeps | simp only [Keeps.mk_eq] | split | (intro _) )

theorem State.unitSleeps_keeps (x0 : Fin 32) (x1 : State) {s0 : State} (h1 : Keeps s0 x1) : Keeps s0 (State.unitSleeps x0 x1) := by
  unfold State.unitSleeps
  try dsimp only
  repeat' (first | with_reducible assumption | with_reducible apply State.put_keeps | with_reducible apply State.when_keeps | simp only [Keeps.mk_eq] | split | (intro _) )

theorem State.sleepAll_keeps (x0 : State) {s0 : State} (h0 : Keeps s0 x0) : Keeps s0 (State.sleepAll x0) := by
  unfold State.sleepAll
  try dsimp only
  repeat' (first | with_reducible assumption | with_reducible apply State.showTransfers_keeps | with_reducible apply State.put_keeps | with_reducible apply State.each_keeps | with_reducible apply State.unitSleeps_keeps | with_reducible apply State.chainBroadcast_keeps | simp only [Keeps.mk_eq] | split | (intro _) )

theorem execSleep_keeps (x0 : Option (Fin 32)) (x1 : State) {s0 : State} (h1 : Keeps s0 x1) : KeepsOut s0 (execSleep x0 x1) := by
  unfold execSleep
  try dsimp only
  repeat' (first | with_reducible assumption  | with_reducible apply KeepsOut.next| with_reducible apply State.showTransfers_keeps | with_reducible apply State.unitSleeps_keeps | with_reducible apply State.chainSend_keeps | with_reducible apply State.sleepAll_keeps | simp only [Keeps.mk_eq] | split | (intro _) )

theorem State.takeAlert_keeps (x0 : ChainAlert) (x1 : State) {s0 : State} (h1 : Keeps s0 x1) : Keeps s0 (State.takeAlert x0 x1) := by
  unfold State.takeAlert
  try dsimp only
  repeat' (first | with_reducible assumption | with_reducible apply State.judgeUnit_keeps | with_reducible apply State.raise_keeps | with_reducible apply State.unitBit_keeps | with_reducible apply State.inc_keeps | simp only [Keeps.mk_eq] | split | (intro _) )

theorem execAlert_keeps (x0 : List Byte) (x1 : State) {s0 : State} (h1 : Keeps s0 x1) : KeepsOut s0 (execAlert x0 x1) := by
  unfold execAlert
  try dsimp only
  repeat' (first | with_reducible assumption  | with_reducible apply KeepsOut.next| with_reducible apply State.chainHear_keeps | with_reducible apply State.takeAlert_keeps | simp only [Keeps.mk_eq] | split | (intro _) )

theorem execChainTest_keeps (x0 : Bool) (x1 : Fin 32) (x2 : Bool) (x3 : State) {s0 : State} (h3 : Keeps s0 x3) : KeepsOut s0 (execChainTest x0 x1 x2 x3) := by
  unfold execChainTest
  try dsimp only
  repeat' (first | with_reducible assumption  | with_reducible apply KeepsOut.next| with_reducible apply State.chainCommand_keeps | with_reducible apply State.modChain_keeps | with_reducible apply State.showTransfers_keeps | with_reducible apply State.put_keeps | with_reducible apply State.modUnit_keeps | simp only [Keeps.mk_eq] | split | (intro _) )

theorem execOpenWireInterval_keeps (x0 : State) {s0 : State} (h0 : Keeps s0 x0) : KeepsOut s0 (execOpenWireInterval x0) := by
  unfold execOpenWireInterval
  try dsimp only
  repeat' (first | with_reducible assumption  | with_reducible apply KeepsOut.next| with_reducible apply State.askSweep_keeps | with_reducible apply State.modChain_keeps | simp only [Keeps.mk_eq] | split | (intro _) )

theorem execSwitchTestInterval_keeps (x0 : State) {s0 : State} (h0 : Keeps s0 x0) : KeepsOut s0 (execSwitchTestInterval x0) := by
  unfold execSwitchTestInterval
  try dsimp only
  repeat' (first | with_reducible assumption  | with_reducible apply KeepsOut.next| with_reducible apply State.askSweep_keeps | with_reducible apply State.modChain_keeps | simp only [Keeps.mk_eq] | split | (intro _) )

theorem State.balance_keeps (x0 : Bool) (x1 : Fin 32) (x2 : Option (Fin 16 × Bool)) (x3 : Nat) (x4 : State) {s0 : State} (h4 : Keeps s0 x4) : Keeps s0 (State.balance x0 x1 x2 x3 x4) := by
  unfold State.balance
  try dsimp only
  repeat' (first | with_reducible assumption | with_reducible apply State.showTransfers_keeps | with_reducible apply State.put_keeps | with_reducible apply State.chainCommand_keeps | simp only [Keeps.mk_eq] | split | (intro _) )

theorem execBalance_keeps (x0 : Bool) (x1 : Fin 32) (x2 : Option (Fin 16 × Bool)) (x3 : Nat) (x4 : State) {s0 : State} (h4 : Keeps s0 x4) : KeepsOut s0 (execBalance x0 x1 x2 x3 x4) := by
  unfold execBalance
  try dsimp only
  repeat' (first | with_reducible assumption  | with_reducible apply KeepsOut.next| with_reducible apply State.balance_keeps | simp only [Keeps.mk_eq] | split | (intro _) )

theorem State.modCell_keeps (x0 : Fin 512) (x1 : CellSt → CellSt) (x2 : State) {s0 : State} (h2 : Keeps s0 x2) : Keeps s0 (State.modCell x0 x1 x2) := by
  unfold State.modCell
  try dsimp only
  repeat' (first | with_reducible assumption | with_reducible apply State.modSoc_keeps | simp only [Keeps.mk_eq] | split | (intro _) )

theorem State.setCell_keeps (x0 : Fin 512) (x1 : Int) (x2 : State) {s0 : State} (h2 : Keeps s0 x2) : Keeps s0 (State.setCell x0 x1 x2) := by
  unfold State.setCell
  try dsimp only
  repeat' (first | with_reducible assumption | with_reducible apply State.modCell_keeps | simp only [Keeps.mk_eq] | split | (intro _) )

theorem State.formSocLimits_keeps (x0 : State) {s0 : State} (h0 : Keeps s0 x0) : Keeps s0 (State.formSocLimits x0) := by
  unfold State.formSocLimits
  try dsimp only
  repeat' (first | with_reducible assumption | with_reducible apply State.put_keeps | with_reducible apply State.when_keeps | with_reducible apply State.useFree_keeps | with_reducible apply State.raise0_keeps | with_reducible apply State.socFlag_keeps | with_reducible apply State.modSoc_keeps | simp only [Keeps.mk_eq] | split | (intro _) )

theorem State.quietIdle_keeps (x0 : State) {s0 : State} (h0 : Keeps s0 x0) : Keeps s0 (State.quietIdle x0) := by
  unfold State.quietIdle
  try dsimp only
  repeat' (first | with_reducible assumption | with_reducible apply State.put_keeps | simp only [Keeps.mk_eq] | split | (intro _) )

theorem State.socCount_keeps (x0 : Int) (x1 : List (Fin 32)) (x2 : State) {s0 : State} (h2 : Keeps s0 x2) : Keeps s0 (State.socCount x0 x1 x2) := by
  unfold State.socCount
  try dsimp only
  repeat' (first | with_reducible assumption | with_reducible apply State.modSoc_keeps | with_reducible apply State.each_keeps | with_reducible apply State.modCell_keeps | simp only [Keeps.mk_eq] | split | (intro _) )

theorem State.socShow_keeps (x0 : State) {s0 : State} (h0 : Keeps s0 x0) : Keeps s0 (State.socShow x0) := by
  unfold State.socShow
  try dsimp only
  repeat' (first | with_reducible assumption | with_reducible apply State.when_keeps | with_reducible apply State.put_keeps | simp only [Keeps.mk_eq] | split | (intro _) )

theorem State.socRuns_keeps (x0 : Int) (x1 : Bool) (x2 : State) {s0 : State} (h2 : Keeps s0 x2) : Keeps s0 (State.socRuns x0 x1 x2) := by
  unfold State.socRuns
  try dsimp only
  repeat' (first | with_reducible assumption | with_reducible apply State.modSoc_keeps | simp only [Keeps.mk_eq] | split | (intro _) )

theorem State.restTimeOver_keeps (x0 : State) {s0 : State} (h0 : Keeps s0 x0) : Keeps s0 (State.restTimeOver x0) := by
  unfold State.restTimeOver
  try dsimp only
  repeat' (first | with_reducible assumption | with_reducible apply State.askSweep_keeps | with_reducible apply State.modSoc_keeps | simp only [Keeps.mk_eq] | split | (intro _) )

theorem State.socCaps_keeps (x0 : State) {s0 : State} (h0 : Keeps s0 x0) : Keeps s0 (State.socCaps x0) := by
  unfold State.socCaps
  try dsimp only
  repeat' (first | with_reducible assumption | with_reducible apply State.modPow_keeps | simp only [Keeps.mk_eq] | split | (intro _) )

theorem State.socTick_keeps (x0 : State) {s0 : State} (h0 : Keeps s0 x0) : Keeps s0 (State.socTick x0) := by
  unfold State.socTick
  try dsimp only
  repeat' (first | with_reducible assumption | with_reducible apply State.socShow_keeps | with_reducible apply State.socCount_keeps | with_reducible apply State.socRuns_keeps | with_reducible apply State.socCaps_keeps | with_reducible apply State.when_keeps | with_reducible apply State.restTimeOver_keeps | with_reducible apply State.quietIdle_keeps | simp only [Keeps.mk_eq] | split | (intro _) )

theorem State.correctCell_keeps (x0 : Int) (x1 : Fin 512) (x2 : State) {s0 : State} (h2 : Keeps s0 x2) : Keeps s0 (State.correctCell x0 x1 x2) := by
  unfold State.correctCell
  try dsimp only
  repeat' (first | with_reducible assumption | with_reducible apply State.setCell_keeps | with_reducible apply State.modCell_keeps | simp only [Keeps.mk_eq] | split | (intro _) )

theorem State.learnResistance_keeps (x0 : Int) (x1 : Fin 512) (x2 : State) {s0 : State} (h2 : Keeps s0 x2) : Keeps s0 (State.learnResistance x0 x1 x2) := by
  unfold State.learnResistance
  try dsimp only
  repeat' (first | with_reducible assumption | with_reducible apply State.modCell_keeps | simp only [Keeps.mk_eq] | split | (intro _) )

theorem State.estimate_keeps (x0 : Sweep) (x1 : Int) (x2 : State) {s0 : State} (h2 : Keeps s0 x2) : Keeps s0 (State.estimate x0 x1 x2) := by
  unfold State.estimate
  try dsimp only
  repeat' (first | with_reducible assumption | with_reducible apply State.when_keeps | with_reducible apply State.each_keeps | with_reducible apply State.learnResistance_keeps | with_reducible apply State.modSoc_keeps | with_reducible apply State.correctCell_keeps | with_reducible apply State.requestQuiet_keeps | with_reducible apply State.setSocMode_keeps | with_reducible apply State.formSocLimits_keeps | simp only [Keeps.mk_eq] | split | (intro _) )

theorem execSweepComplete_keeps (x0 : State) {s0 : State} (h0 : Keeps s0 x0) : KeepsOut s0 (execSweepComplete x0) := by
  unfold execSweepComplete
  try dsimp only
  repeat' (first | with_reducible assumption  | with_reducible apply KeepsOut.next| with_reducible apply State.modChain_keeps | with_reducible apply State.put_keeps | with_reducible apply State.inc_keeps | with_reducible apply State.putBytes_keeps | with_reducible apply State.when_keeps | with_reducible apply State.raise_keeps | with_reducible apply State.judgeBreaks_keeps | with_reducible apply State.each_keeps | with_reducible apply State.applyWires_keeps | with_reducible apply State.applyLimits_keeps | with_reducible apply State.estimate_keeps | with_reducible apply State.modSoc_keeps | simp only [Keeps.mk_eq] | split | (intro _) )

theorem State.journalTrigger_keeps (x0 : Bool) (x1 : Bool) (x2 : State) {s0 : State} (h2 : Keeps s0 x2) : Keeps s0 (State.journalTrigger x0 x1 x2) := by
  unfold State.journalTrigger
  try dsimp only
  repeat' (first | with_reducible assumption | with_reducible apply State.modSoc_keeps | simp only [Keeps.mk_eq] | split | (intro _) )

theorem State.testAtRest_keeps (x0 : List (Fin 512)) (x1 : State) {s0 : State} (h1 : Keeps s0 x1) : Keeps s0 (State.testAtRest x0 x1) := by
  unfold State.testAtRest
  try dsimp only
  repeat' (first | with_reducible assumption | with_reducible apply State.put_keeps | with_reducible apply State.modSoc_keeps | with_reducible apply State.each_keeps | with_reducible apply State.setCell_keeps | with_reducible apply State.modCell_keeps | with_reducible apply State.raise0_keeps | with_reducible apply State.enterRecovery_keeps | with_reducible apply State.journalTrigger_keeps | simp only [Keeps.mk_eq] | split | (intro _) )

theorem State.restCells_keeps (x0 : List (Fin 512)) (x1 : State) {s0 : State} (h1 : Keeps s0 x1) : Keeps s0 (State.restCells x0 x1) := by
  unfold State.restCells
  try dsimp only
  repeat' (first | with_reducible assumption | with_reducible apply State.each_keeps | with_reducible apply State.setCell_keeps | simp only [Keeps.mk_eq] | split | (intro _) )

theorem State.restKnown_keeps (x0 : List Nat) (x1 : State) {s0 : State} (h1 : Keeps s0 x1) : Keeps s0 (State.restKnown x0 x1) := by
  unfold State.restKnown
  try dsimp only
  repeat' (first | with_reducible assumption | with_reducible apply State.modSoc_keeps | with_reducible apply State.put_keeps | simp only [Keeps.mk_eq] | split | (intro _) )

theorem State.restEnds_keeps (x0 : State) {s0 : State} (h0 : Keeps s0 x0) : Keeps s0 (State.restEnds x0) := by
  unfold State.restEnds
  try dsimp only
  repeat' (first | with_reducible assumption | with_reducible apply State.put_keeps | simp only [Keeps.mk_eq] | split | (intro _) )

theorem execSocRestTaken_keeps (x0 : State) {s0 : State} (h0 : Keeps s0 x0) : KeepsOut s0 (execSocRestTaken x0) := by
  unfold execSocRestTaken
  try dsimp only
  repeat' (first | with_reducible assumption  | with_reducible apply KeepsOut.next| with_reducible apply State.restKnown_keeps | with_reducible apply State.restCells_keeps | with_reducible apply State.raise0_keeps | with_reducible apply State.inc_keeps | with_reducible apply State.put_keeps | with_reducible apply State.restEnds_keeps | with_reducible apply State.socFlag_keeps | with_reducible apply State.when_keeps | with_reducible apply State.setSocMode_keeps | with_reducible apply State.journalTrigger_keeps | with_reducible apply State.modSoc_keeps | with_reducible apply State.testAtRest_keeps | simp only [Keeps.mk_eq] | split | (intro _) )

theorem execTaperTimeout_keeps (x0 : State) {s0 : State} (h0 : Keeps s0 x0) : KeepsOut s0 (execTaperTimeout x0) := by
  unfold execTaperTimeout
  try dsimp only
  repeat' (first | with_reducible assumption  | with_reducible apply KeepsOut.next| with_reducible apply State.setSocMode_keeps | with_reducible apply State.raise0_keeps | simp only [Keeps.mk_eq] | split | (intro _) )

theorem execQuietWindowRequested_keeps (x0 : State) {s0 : State} (h0 : Keeps s0 x0) : KeepsOut s0 (execQuietWindowRequested x0) := by
  unfold execQuietWindowRequested
  try dsimp only
  repeat' (first | with_reducible assumption  | with_reducible apply KeepsOut.next| with_reducible apply State.when_keeps | with_reducible apply State.requestQuiet_keeps | simp only [Keeps.mk_eq] | split | (intro _) )

theorem execSocUncertain_keeps (x0 : State) {s0 : State} (h0 : Keeps s0 x0) : KeepsOut s0 (execSocUncertain x0) := by
  unfold execSocUncertain
  try dsimp only
  repeat' (first | with_reducible assumption  | with_reducible apply KeepsOut.next| with_reducible apply State.raise0_keeps | with_reducible apply State.socFlag_keeps | simp only [Keeps.mk_eq] | split | (intro _) )

theorem State.openQuiet_keeps (x0 : Nat) (x1 : Nat) (x2 : State) {s0 : State} (h2 : Keeps s0 x2) : Keeps s0 (State.openQuiet x0 x1 x2) := by
  unfold State.openQuiet
  try dsimp only
  repeat' (first | with_reducible assumption | with_reducible apply State.put_keeps | with_reducible apply State.modSoc_keeps | simp only [Keeps.mk_eq] | split | (intro _) )

theorem execQuietWindowWrite_keeps (x0 : HostWrite) (x1 : State) {s0 : State} (h1 : Keeps s0 x1) : KeepsOut s0 (execQuietWindowWrite x0 x1) := by
  unfold execQuietWindowWrite
  try dsimp only
  repeat' (first | with_reducible assumption  | with_reducible apply KeepsOut.next| with_reducible apply State.hostWrite_keeps | with_reducible apply State.ok_keeps | with_reducible apply State.openQuiet_keeps | simp only [Keeps.mk_eq] | split | (intro _) )

theorem execQuietHoldBegin_keeps (x0 : State) {s0 : State} (h0 : Keeps s0 x0) : KeepsOut s0 (execQuietHoldBegin x0) := by
  unfold execQuietHoldBegin
  try dsimp only
  repeat' (first | with_reducible assumption  | with_reducible apply KeepsOut.next| with_reducible apply State.inc_keeps | with_reducible apply State.put_keeps | with_reducible apply State.modPow_keeps | with_reducible apply State.modSoc_keeps | simp only [Keeps.mk_eq] | split | (intro _) )

theorem execQuietWindowAbandoned_keeps (x0 : State) {s0 : State} (h0 : Keeps s0 x0) : KeepsOut s0 (execQuietWindowAbandoned x0) := by
  unfold execQuietWindowAbandoned
  try dsimp only
  repeat' (first | with_reducible assumption  | with_reducible apply KeepsOut.next| with_reducible apply State.raise0_keeps | with_reducible apply State.inc_keeps | with_reducible apply State.put_keeps | simp only [Keeps.mk_eq] | split | (intro _) )

theorem execQuietWindowMissed_keeps (x0 : State) {s0 : State} (h0 : Keeps s0 x0) : KeepsOut s0 (execQuietWindowMissed x0) := by
  unfold execQuietWindowMissed
  try dsimp only
  repeat' (first | with_reducible assumption  | with_reducible apply KeepsOut.next| with_reducible apply State.raise0_keeps | with_reducible apply State.inc_keeps | with_reducible apply State.quietIdle_keeps | simp only [Keeps.mk_eq] | split | (intro _) )

theorem State.testCommand_keeps (x0 : Int) (x1 : State) {s0 : State} (h1 : Keeps s0 x1) : Keeps s0 (State.testCommand x0 x1).1 := by
  unfold State.testCommand
  try dsimp only
  repeat' (first | with_reducible assumption | with_reducible apply State.ok_keeps | with_reducible apply State.setSocMode_keeps | with_reducible apply State.modSoc_keeps | with_reducible apply State.put_keeps | with_reducible apply State.refuse_keeps | with_reducible apply State.enterRecovery_keeps | simp only [Keeps.mk_eq] | split | (intro _) )

theorem execTestStart_keeps (x0 : Nat) (x1 : State) {s0 : State} (h1 : Keeps s0 x1) : KeepsOut s0 (execTestStart x0 x1) := by
  unfold execTestStart
  try dsimp only
  repeat' (first | with_reducible assumption  | with_reducible apply KeepsOut.next| with_reducible apply State.hostWrite_keeps | with_reducible apply State.testCommand_keeps | simp only [Keeps.mk_eq] | split | (intro _) )

theorem execTestAbort_keeps (x0 : Nat) (x1 : State) {s0 : State} (h1 : Keeps s0 x1) : KeepsOut s0 (execTestAbort x0 x1) := by
  unfold execTestAbort
  try dsimp only
  repeat' (first | with_reducible assumption  | with_reducible apply KeepsOut.next| with_reducible apply State.hostWrite_keeps | with_reducible apply State.testCommand_keeps | simp only [Keeps.mk_eq] | split | (intro _) )

theorem execCapacityTestTimeout_keeps (x0 : State) {s0 : State} (h0 : Keeps s0 x0) : KeepsOut s0 (execCapacityTestTimeout x0) := by
  unfold execCapacityTestTimeout
  try dsimp only
  repeat' (first | with_reducible assumption  | with_reducible apply KeepsOut.next| with_reducible apply State.enterRecovery_keeps | simp only [Keeps.mk_eq] | split | (intro _) )

theorem State.estimateReset_keeps (x0 : State) {s0 : State} (h0 : Keeps s0 x0) : Keeps s0 (State.estimateReset x0).1 := by
  unfold State.estimateReset
  try dsimp only
  repeat' (first | with_reducible assumption | with_reducible apply State.modSoc_keeps | with_reducible apply State.ok_keeps | with_reducible apply State.enterRecovery_keeps | with_reducible apply State.askSweep_keeps | simp only [Keeps.mk_eq] | split | (intro _) )

theorem execEstimateReset_keeps (x0 : Nat) (x1 : State) {s0 : State} (h1 : Keeps s0 x1) : KeepsOut s0 (execEstimateReset x0 x1) := by
  unfold execEstimateReset
  try dsimp only
  repeat' (first | with_reducible assumption  | with_reducible apply KeepsOut.next| with_reducible apply State.hostWrite_keeps | with_reducible apply State.estimateReset_keeps | simp only [Keeps.mk_eq] | split | (intro _) )

theorem State.showSlots_keeps (x0 : State) {s0 : State} (h0 : Keeps s0 x0) : Keeps s0 (State.showSlots x0) := by
  unfold State.showSlots
  try dsimp only
  repeat' (first | with_reducible assumption | with_reducible apply State.put_keeps | simp only [Keeps.mk_eq] | split | (intro _) )

theorem execJournalInterval_keeps (x0 : State) {s0 : State} (h0 : Keeps s0 x0) : KeepsOut s0 (execJournalInterval x0) := by
  unfold execJournalInterval
  try dsimp only
  repeat' (first | with_reducible assumption  | with_reducible apply KeepsOut.next| with_reducible apply State.journalTrigger_keeps | simp only [Keeps.mk_eq] | split | (intro _) )

theorem execWriteNow_keeps (x0 : Nat) (x1 : State) {s0 : State} (h1 : Keeps s0 x1) : KeepsOut s0 (execWriteNow x0 x1) := by
  unfold execWriteNow
  try dsimp only
  repeat' (first | with_reducible assumption  | with_reducible apply KeepsOut.next| with_reducible apply State.hostWrite_keeps | with_reducible apply State.ok_keeps | with_reducible apply State.journalTrigger_keeps | simp only [Keeps.mk_eq] | split | (intro _) )

theorem State.skipJournal_keeps (x0 : State) {s0 : State} (h0 : Keeps s0 x0) : Keeps s0 (State.skipJournal x0) := by
  unfold State.skipJournal
  try dsimp only
  repeat' (first | with_reducible assumption | with_reducible apply State.raise0_keeps | with_reducible apply State.inc_keeps | with_reducible apply State.modSoc_keeps | simp only [Keeps.mk_eq] | split | (intro _) )

theorem State.setSlot_keeps (x0 : Bool) (x1 : JournalSlot) (x2 : State) {s0 : State} (h2 : Keeps s0 x2) : Keeps s0 (State.setSlot x0 x1 x2) := by
  unfold State.setSlot
  try dsimp only
  repeat' (first | with_reducible assumption | with_reducible apply State.showSlots_keeps | with_reducible apply State.modSoc_keeps | simp only [Keeps.mk_eq] | split | (intro _) )

theorem execJournalWriteStart_keeps (x0 : State) {s0 : State} (h0 : Keeps s0 x0) : KeepsOut s0 (execJournalWriteStart x0) := by
  unfold execJournalWriteStart
  try dsimp only
  repeat' (first | with_reducible assumption  | with_reducible apply KeepsOut.next| with_reducible apply State.setSlot_keeps | with_reducible apply State.modSoc_keeps | with_reducible apply State.skipJournal_keeps | simp only [Keeps.mk_eq] | split | (intro _) )

theorem execJournalRetry_keeps (x0 : State) {s0 : State} (h0 : Keeps s0 x0) : KeepsOut s0 (execJournalRetry x0) := by
  unfold execJournalRetry
  try dsimp only
  repeat' (first | with_reducible assumption  | with_reducible apply KeepsOut.next| with_reducible apply State.skipJournal_keeps | with_reducible apply execJournalWriteStart_keeps | with_reducible apply State.modSoc_keeps | simp only [Keeps.mk_eq] | split | (intro _) )

theorem execJournalWritten_keeps (x0 : State) {s0 : State} (h0 : Keeps s0 x0) : KeepsOut s0 (execJournalWritten x0) := by
  unfold execJournalWritten
  try dsimp only
  repeat' (first | with_reducible assumption  | with_reducible apply KeepsOut.next| with_reducible apply State.setSlot_keeps | with_reducible apply State.modSoc_keeps | with_reducible apply State.raise_keeps | with_reducible apply State.put_keeps | with_reducible apply State.inc_keeps | simp only [Keeps.mk_eq] | split | (intro _) )

theorem State.socStart_keeps (x0 : State) {s0 : State} (h0 : Keeps s0 x0) : Keeps s0 (State.socStart x0) := by
  unfold State.socStart
  try dsimp only
  repeat' (first | with_reducible assumption | with_reducible apply State.when_keeps | with_reducible apply State.raiseOn_keeps | with_reducible apply State.showSlots_keeps | with_reducible apply State.modSoc_keeps | with_reducible apply State.put_keeps | with_reducible apply State.raise0_keeps | with_reducible apply State.askSweep_keeps | simp only [Keeps.mk_eq] | split | (intro _) )

theorem State.balanceUnit_keeps (x0 : List (Fin 512 × Int)) (x1 : Fin 32) (x2 : State) {s0 : State} (h2 : Keeps s0 x2) : Keeps s0 (State.balanceUnit x0 x1 x2) := by
  unfold State.balanceUnit
  try dsimp only
  repeat' (first | with_reducible assumption | with_reducible apply State.when_keeps | with_reducible apply State.balance_keeps | simp only [Keeps.mk_eq] | split | (intro _) )

theorem execBalancingInterval_keeps (x0 : State) {s0 : State} (h0 : Keeps s0 x0) : KeepsOut s0 (execBalancingInterval x0) := by
  unfold execBalancingInterval
  try dsimp only
  repeat' (first | with_reducible assumption  | with_reducible apply KeepsOut.next| with_reducible apply State.modChain_keeps | with_reducible apply State.put_keeps | with_reducible apply State.when_keeps | with_reducible apply State.each_keeps | with_reducible apply State.balanceUnit_keeps | simp only [Keeps.mk_eq] | split | (intro _) )

end Sys2Proof.Machine
end

