-- ==== Sys2Proof/Laws/KeepsTime.lean ====
section
/-! SUPPORT. What Keeps (Safety.lean) says of Saffron, the legacy table, clove actions and fabric time: one lemma for each operation. -/

namespace Sys2Proof.Machine

theorem State.modSaf_keeps (x0 : SafState → SafState) (x1 : State) {s0 : State} (h1 : Keeps s0 x1) : Keeps s0 (State.modSaf x0 x1) := by
  unfold State.modSaf
  try dsimp only
  repeat' (first | with_reducible assumption  | simp only [Keeps.mk_eq] | split | (intro _) )

theorem State.showTiles_keeps (x0 : State) {s0 : State} (h0 : Keeps s0 x0) : Keeps s0 (State.showTiles x0) := by
  unfold State.showTiles
  try dsimp only
  repeat' (first | with_reducible assumption | with_reducible apply State.put_keeps | with_reducible apply State.each_keeps | simp only [Keeps.mk_eq] | split | (intro _) )

theorem State.mapTiles_keeps (x0 : State) {s0 : State} (h0 : Keeps s0 x0) : Keeps s0 (State.mapTiles x0) := by
  unfold State.mapTiles
  try dsimp only
  repeat' (first | with_reducible assumption | with_reducible apply State.each_keeps | with_reducible apply State.when_keeps | with_reducible apply State.put_keeps | simp only [Keeps.mk_eq] | split | (intro _) )

theorem State.showImages_keeps (x0 : State) {s0 : State} (h0 : Keeps s0 x0) : Keeps s0 (State.showImages x0) := by
  unfold State.showImages
  try dsimp only
  repeat' (first | with_reducible assumption | with_reducible apply State.put_keeps | simp only [Keeps.mk_eq] | split | (intro _) )

theorem State.setDiv_keeps (x0 : Nat) (x1 : Bool) (x2 : State) {s0 : State} (h2 : Keeps s0 x2) : Keeps s0 (State.setDiv x0 x1 x2) := by
  unfold State.setDiv
  try dsimp only
  repeat' (first | with_reducible assumption | with_reducible apply State.put_keeps | with_reducible apply State.when_keeps | with_reducible apply State.inc_keeps | with_reducible apply State.raise_keeps | with_reducible apply State.raise0_keeps | simp only [Keeps.mk_eq] | split | (intro _) )

theorem State.showTrust_keeps (x0 : State) {s0 : State} (h0 : Keeps s0 x0) : Keeps s0 (State.showTrust x0) := by
  unfold State.showTrust
  try dsimp only
  repeat' (first | with_reducible assumption | with_reducible apply State.putBytes_keeps | with_reducible apply State.put_keeps | with_reducible apply State.modSaf_keeps | with_reducible apply State.when_keeps | with_reducible apply State.setDiv_keeps | simp only [Keeps.mk_eq] | split | (intro _) )

theorem execEstimateUntrusted_keeps (x0 : Fin 24) (x1 : Fin 8) (x2 : State) {s0 : State} (h2 : Keeps s0 x2) : KeepsOut s0 (execEstimateUntrusted x0 x1 x2) := by
  unfold execEstimateUntrusted
  try dsimp only
  repeat' (first | with_reducible assumption  | with_reducible apply KeepsOut.next| with_reducible apply State.raise_keeps | with_reducible apply State.showTrust_keeps | with_reducible apply State.modSaf_keeps | simp only [Keeps.mk_eq] | split | (intro _) )

theorem execEstimateTrusted_keeps (x0 : Fin 24) (x1 : Fin 8) (x2 : State) {s0 : State} (h2 : Keeps s0 x2) : KeepsOut s0 (execEstimateTrusted x0 x1 x2) := by
  unfold execEstimateTrusted
  try dsimp only
  repeat' (first | with_reducible assumption  | with_reducible apply KeepsOut.next| with_reducible apply State.raise_keeps | with_reducible apply State.showTrust_keeps | with_reducible apply State.modSaf_keeps | simp only [Keeps.mk_eq] | split | (intro _) )

theorem execDivChipsClear_keeps (x0 : State) {s0 : State} (h0 : Keeps s0 x0) : KeepsOut s0 (execDivChipsClear x0) := by
  unfold execDivChipsClear
  try dsimp only
  repeat' (first | with_reducible assumption  | with_reducible apply KeepsOut.next| with_reducible apply State.setDiv_keeps | simp only [Keeps.mk_eq] | split | (intro _) )

theorem State.errorMonitor_keeps (x0 : State) {s0 : State} (h0 : Keeps s0 x0) : Keeps s0 (State.errorMonitor x0) := by
  unfold State.errorMonitor
  try dsimp only
  repeat' (first | with_reducible assumption | with_reducible apply State.put_keeps | with_reducible apply State.modSaf_keeps | with_reducible apply State.setDiv_keeps | simp only [Keeps.mk_eq] | split | (intro _) )

theorem State.noteSaturation_keeps (x0 : State) {s0 : State} (h0 : Keeps s0 x0) : Keeps s0 (State.noteSaturation x0) := by
  unfold State.noteSaturation
  try dsimp only
  repeat' (first | with_reducible assumption | with_reducible apply State.raise0_keeps | with_reducible apply State.modSaf_keeps | simp only [Keeps.mk_eq] | split | (intro _) )

theorem State.countSats_keeps (x0 : List (Nat × SatKind × Nat)) (x1 : State) {s0 : State} (h1 : Keeps s0 x1) : Keeps s0 (State.countSats x0 x1) := by
  unfold State.countSats
  try dsimp only
  repeat' (first | with_reducible assumption | with_reducible apply State.each_keeps | with_reducible apply State.countBy_keeps | with_reducible apply State.when_keeps | with_reducible apply State.noteSaturation_keeps | simp only [Keeps.mk_eq] | split | (intro _) )

theorem State.gather_keeps (x0 : SafImage) (x1 : State) {s0 : State} (h1 : Keeps s0 x1) : Keeps s0 (State.gather x0 x1).2 := by
  unfold State.gather
  try dsimp only
  repeat' (first | with_reducible assumption | with_reducible apply State.when_keeps | with_reducible apply State.noteSaturation_keeps | with_reducible apply State.countBy_keeps | simp only [Keeps.mk_eq] | split | (intro _) )

theorem State.showSet_keeps (x0 : ForecastSet) (x1 : State) {s0 : State} (h1 : Keeps s0 x1) : Keeps s0 (State.showSet x0 x1) := by
  unfold State.showSet
  try dsimp only
  repeat' (first | with_reducible assumption | with_reducible apply State.put_keeps | with_reducible apply State.putBytes_keeps | simp only [Keeps.mk_eq] | split | (intro _) )

theorem State.safPublish_keeps (x0 : State) {s0 : State} (h0 : Keeps s0 x0) : Keeps s0 (State.safPublish x0) := by
  unfold State.safPublish
  try dsimp only
  repeat' (first | with_reducible assumption | with_reducible apply State.inc64_keeps | with_reducible apply State.modSaf_keeps | with_reducible apply State.showSet_keeps | simp only [Keeps.mk_eq] | split | (intro _) )

theorem State.fastCompute_keeps (x0 : State) {s0 : State} (h0 : Keeps s0 x0) : Keeps s0 (State.fastCompute x0) := by
  unfold State.fastCompute
  try dsimp only
  repeat' (first | with_reducible assumption | with_reducible apply State.gather_keeps | with_reducible apply State.countSats_keeps | with_reducible apply State.modSaf_keeps | with_reducible apply State.putMax_keeps | with_reducible apply State.when_keeps | with_reducible apply State.noteSaturation_keeps | with_reducible apply State.countBy_keeps | simp only [Keeps.mk_eq] | split | (intro _) )

theorem State.safFrame_keeps (x0 : State) {s0 : State} (h0 : Keeps s0 x0) : Keeps s0 (State.safFrame x0) := by
  unfold State.safFrame
  try dsimp only
  repeat' (first | with_reducible assumption | with_reducible apply State.modSaf_keeps | with_reducible apply State.fastCompute_keeps | with_reducible apply State.errorMonitor_keeps | simp only [Keeps.mk_eq] | split | (intro _) )

theorem State.fastStop_keeps (x0 : State) {s0 : State} (h0 : Keeps s0 x0) : Keeps s0 (State.fastStop x0) := by
  unfold State.fastStop
  try dsimp only
  repeat' (first | with_reducible assumption | with_reducible apply State.raise0_keeps | with_reducible apply State.modSaf_keeps | simp only [Keeps.mk_eq] | split | (intro _) )

theorem execSaffronFastOverrun_keeps (x0 : State) {s0 : State} (h0 : Keeps s0 x0) : KeepsOut s0 (execSaffronFastOverrun x0) := by
  unfold execSaffronFastOverrun
  try dsimp only
  repeat' (first | with_reducible assumption  | with_reducible apply KeepsOut.next| with_reducible apply State.inc_keeps | with_reducible apply State.modSaf_keeps | with_reducible apply State.when_keeps | with_reducible apply State.raise0_keeps | with_reducible apply State.fastStop_keeps | simp only [Keeps.mk_eq] | split | (intro _) )

theorem State.setAge_keeps (x0 : Nat) (x1 : State) {s0 : State} (h1 : Keeps s0 x1) : Keeps s0 (State.setAge x0 x1) := by
  unfold State.setAge
  try dsimp only
  repeat' (first | with_reducible assumption | with_reducible apply State.put_keeps | with_reducible apply State.when_keeps | with_reducible apply State.raise0_keeps | with_reducible apply State.modSaf_keeps | simp only [Keeps.mk_eq] | split | (intro _) )

theorem execSlowBoundary_keeps (x0 : Bool) (x1 : State) {s0 : State} (h1 : Keeps s0 x1) : KeepsOut s0 (execSlowBoundary x0 x1) := by
  unfold execSlowBoundary
  try dsimp only
  repeat' (first | with_reducible assumption  | with_reducible apply KeepsOut.next| with_reducible apply State.modSaf_keeps | with_reducible apply State.setAge_keeps | with_reducible apply State.inc64_keeps | with_reducible apply State.countSats_keeps | with_reducible apply State.raise0_keeps | with_reducible apply State.inc_keeps | with_reducible apply State.gather_keeps | simp only [Keeps.mk_eq] | split | (intro _) )

theorem execSaffronStreamError_keeps (x0 : State) {s0 : State} (h0 : Keeps s0 x0) : KeepsOut s0 (execSaffronStreamError x0) := by
  unfold execSaffronStreamError
  try dsimp only
  repeat' (first | with_reducible assumption  | with_reducible apply KeepsOut.next| with_reducible apply State.modSaf_keeps | with_reducible apply State.inc_keeps | with_reducible apply State.raise0_keeps | simp only [Keeps.mk_eq] | split | (intro _) )

theorem execSaffronSlowReloaded_keeps (x0 : State) {s0 : State} (h0 : Keeps s0 x0) : KeepsOut s0 (execSaffronSlowReloaded x0) := by
  unfold execSaffronSlowReloaded
  try dsimp only
  repeat' (first | with_reducible assumption  | with_reducible apply KeepsOut.next| with_reducible apply State.modSaf_keeps | simp only [Keeps.mk_eq] | split | (intro _) )

theorem State.runOperator_keeps (x0 : Nat) (x1 : Bool) (x2 : Nat) (x3 : State) {s0 : State} (h3 : Keeps s0 x3) : Keeps s0 (State.runOperator x0 x1 x2 x3) := by
  unfold State.runOperator
  try dsimp only
  repeat' (first | with_reducible assumption | with_reducible apply State.countSats_keeps | with_reducible apply State.modSaf_keeps | simp only [Keeps.mk_eq] | split | (intro _) )

theorem execMv_keeps (x0 : Bool) (x1 : Nat) (x2 : State) {s0 : State} (h2 : Keeps s0 x2) : KeepsOut s0 (execMv x0 x1 x2) := by
  unfold execMv
  try dsimp only
  repeat' (first | with_reducible assumption  | with_reducible apply KeepsOut.next| with_reducible apply State.runOperator_keeps | simp only [Keeps.mk_eq] | split | (intro _) )

theorem execConv_keeps (x0 : Bool) (x1 : Nat) (x2 : State) {s0 : State} (h2 : Keeps s0 x2) : KeepsOut s0 (execConv x0 x1 x2) := by
  unfold execConv
  try dsimp only
  repeat' (first | with_reducible assumption  | with_reducible apply KeepsOut.next| with_reducible apply State.runOperator_keeps | simp only [Keeps.mk_eq] | split | (intro _) )

theorem execScan_keeps (x0 : Bool) (x1 : Nat) (x2 : State) {s0 : State} (h2 : Keeps s0 x2) : KeepsOut s0 (execScan x0 x1 x2) := by
  unfold execScan
  try dsimp only
  repeat' (first | with_reducible assumption  | with_reducible apply KeepsOut.next| with_reducible apply State.runOperator_keeps | simp only [Keeps.mk_eq] | split | (intro _) )

theorem execGate_keeps (x0 : Bool) (x1 : Nat) (x2 : State) {s0 : State} (h2 : Keeps s0 x2) : KeepsOut s0 (execGate x0 x1 x2) := by
  unfold execGate
  try dsimp only
  repeat' (first | with_reducible assumption  | with_reducible apply KeepsOut.next| with_reducible apply State.runOperator_keeps | simp only [Keeps.mk_eq] | split | (intro _) )

theorem execEw_keeps (x0 : Bool) (x1 : Nat) (x2 : State) {s0 : State} (h2 : Keeps s0 x2) : KeepsOut s0 (execEw x0 x1 x2) := by
  unfold execEw
  try dsimp only
  repeat' (first | with_reducible assumption  | with_reducible apply KeepsOut.next| with_reducible apply State.runOperator_keeps | simp only [Keeps.mk_eq] | split | (intro _) )

theorem execRmsn_keeps (x0 : Bool) (x1 : Nat) (x2 : State) {s0 : State} (h2 : Keeps s0 x2) : KeepsOut s0 (execRmsn x0 x1 x2) := by
  unfold execRmsn
  try dsimp only
  repeat' (first | with_reducible assumption  | with_reducible apply KeepsOut.next| with_reducible apply State.runOperator_keeps | simp only [Keeps.mk_eq] | split | (intro _) )

theorem execAttn_keeps (x0 : Nat) (x1 : State) {s0 : State} (h1 : Keeps s0 x1) : KeepsOut s0 (execAttn x0 x1) := by
  unfold execAttn
  try dsimp only
  repeat' (first | with_reducible assumption  | with_reducible apply KeepsOut.next| with_reducible apply State.runOperator_keeps | simp only [Keeps.mk_eq] | split | (intro _) )

theorem execExch_keeps (x0 : Bool) (x1 : Nat) (x2 : State) {s0 : State} (h2 : Keeps s0 x2) : KeepsOut s0 (execExch x0 x1 x2) := by
  unfold execExch
  try dsimp only
  repeat' (first | with_reducible assumption  | with_reducible apply KeepsOut.next| with_reducible apply State.runOperator_keeps | simp only [Keeps.mk_eq] | split | (intro _) )

theorem State.safApply_keeps (x0 : State) {s0 : State} (h0 : Keeps s0 x0) : Keeps s0 (State.safApply x0) := by
  unfold State.safApply
  try dsimp only
  repeat' (first | with_reducible assumption | with_reducible apply State.when_keeps | with_reducible apply State.modSaf_keeps | with_reducible apply State.showTiles_keeps | simp only [Keeps.mk_eq] | split | (intro _) )

theorem State.enableSaffron_keeps (x0 : Int) (x1 : State) {s0 : State} (h1 : Keeps s0 x1) : Keeps s0 (State.enableSaffron x0 x1).1 := by
  unfold State.enableSaffron
  try dsimp only
  repeat' (first | with_reducible assumption | with_reducible apply State.put_keeps | with_reducible apply State.ok_keeps | simp only [Keeps.mk_eq] | split | (intro _) )

theorem execSaffronEnableWrite_keeps (x0 : HostWrite) (x1 : State) {s0 : State} (h1 : Keeps s0 x1) : KeepsOut s0 (execSaffronEnableWrite x0 x1) := by
  unfold execSaffronEnableWrite
  try dsimp only
  repeat' (first | with_reducible assumption  | with_reducible apply KeepsOut.next| with_reducible apply State.hostWrite_keeps | with_reducible apply State.enableSaffron_keeps | simp only [Keeps.mk_eq] | split | (intro _) )

theorem execFastTierRestart_keeps (x0 : State) {s0 : State} (h0 : Keeps s0 x0) : KeepsOut s0 (execFastTierRestart x0) := by
  unfold execFastTierRestart
  try dsimp only
  repeat' (first | with_reducible assumption  | with_reducible apply KeepsOut.next| with_reducible apply State.modSaf_keeps | with_reducible apply State.when_keeps | simp only [Keeps.mk_eq] | split | (intro _) )

theorem State.forceDiv_keeps (x0 : Int) (x1 : State) {s0 : State} (h1 : Keeps s0 x1) : Keeps s0 (State.forceDiv x0 x1).1 := by
  unfold State.forceDiv
  try dsimp only
  repeat' (first | with_reducible assumption | with_reducible apply State.ok_keeps | with_reducible apply State.setDiv_keeps | with_reducible apply State.put_keeps | simp only [Keeps.mk_eq] | split | (intro _) )

theorem execTileSelfTestDone_keeps (x0 : State) {s0 : State} (h0 : Keeps s0 x0) : KeepsOut s0 (execTileSelfTestDone x0) := by
  unfold execTileSelfTestDone
  try dsimp only
  repeat' (first | with_reducible assumption  | with_reducible apply KeepsOut.next| with_reducible apply State.inc_keeps | with_reducible apply State.showTiles_keeps | with_reducible apply State.modSaf_keeps | simp only [Keeps.mk_eq] | split | (intro _) )

theorem execRotationHandover_keeps (x0 : State) {s0 : State} (h0 : Keeps s0 x0) : KeepsOut s0 (execRotationHandover x0) := by
  unfold execRotationHandover
  try dsimp only
  repeat' (first | with_reducible assumption  | with_reducible apply KeepsOut.next| with_reducible apply State.put_keeps | with_reducible apply State.modSaf_keeps | with_reducible apply State.showTiles_keeps | with_reducible apply State.when_keeps | with_reducible apply State.inc_keeps | simp only [Keeps.mk_eq] | split | (intro _) )

theorem State.suspendRotation_keeps (x0 : State) {s0 : State} (h0 : Keeps s0 x0) : Keeps s0 (State.suspendRotation x0) := by
  unfold State.suspendRotation
  try dsimp only
  repeat' (first | with_reducible assumption | with_reducible apply State.raise0_keeps | with_reducible apply State.put_keeps | with_reducible apply State.modSaf_keeps | simp only [Keeps.mk_eq] | split | (intro _) )

theorem execSaffronTileFailed_keeps (x0 : Fin 64) (x1 : Bool) (x2 : State) {s0 : State} (h2 : Keeps s0 x2) : KeepsOut s0 (execSaffronTileFailed x0 x1 x2) := by
  unfold execSaffronTileFailed
  try dsimp only
  repeat' (first | with_reducible assumption  | with_reducible apply KeepsOut.next| with_reducible apply State.put_keeps | with_reducible apply State.raise_keeps | with_reducible apply State.when_keeps | with_reducible apply State.inc_keeps | with_reducible apply State.showTiles_keeps | with_reducible apply State.suspendRotation_keeps | with_reducible apply State.modSaf_keeps | with_reducible apply State.mapTiles_keeps | with_reducible apply State.raise0_keeps | simp only [Keeps.mk_eq] | split | (intro _) )

theorem State.clearFailed_keeps (x0 : Int) (x1 : State) {s0 : State} (h1 : Keeps s0 x1) : Keeps s0 (State.clearFailed x0 x1).1 := by
  unfold State.clearFailed
  try dsimp only
  repeat' (first | with_reducible assumption | with_reducible apply State.ok_keeps | with_reducible apply State.modSaf_keeps | simp only [Keeps.mk_eq] | split | (intro _) )

theorem execClearFailedWrite_keeps (x0 : HostWrite) (x1 : State) {s0 : State} (h1 : Keeps s0 x1) : KeepsOut s0 (execClearFailedWrite x0 x1) := by
  unfold execClearFailedWrite
  try dsimp only
  repeat' (first | with_reducible assumption  | with_reducible apply KeepsOut.next| with_reducible apply State.hostWrite_keeps | with_reducible apply State.clearFailed_keeps | simp only [Keeps.mk_eq] | split | (intro _) )

theorem State.rotationWrite_keeps (x0 : Int) (x1 : State) {s0 : State} (h1 : Keeps s0 x1) : Keeps s0 (State.rotationWrite x0 x1).1 := by
  unfold State.rotationWrite
  try dsimp only
  repeat' (first | with_reducible assumption | with_reducible apply State.ok_keeps | with_reducible apply State.refuse_keeps | with_reducible apply State.showTiles_keeps | with_reducible apply State.modSaf_keeps | with_reducible apply State.put_keeps | simp only [Keeps.mk_eq] | split | (intro _) )

theorem execRotationEnableWrite_keeps (x0 : HostWrite) (x1 : State) {s0 : State} (h1 : Keeps s0 x1) : KeepsOut s0 (execRotationEnableWrite x0 x1) := by
  unfold execRotationEnableWrite
  try dsimp only
  repeat' (first | with_reducible assumption  | with_reducible apply KeepsOut.next| with_reducible apply State.hostWrite_keeps | with_reducible apply State.rotationWrite_keeps | simp only [Keeps.mk_eq] | split | (intro _) )

theorem State.showRes_keeps (x0 : Fin 6) (x1 : Nat) (x2 : Nat) (x3 : Option SafImage) (x4 : State) {s0 : State} (h4 : Keeps s0 x4) : Keeps s0 (State.showRes x0 x1 x2 x3 x4) := by
  unfold State.showRes
  try dsimp only
  repeat' (first | with_reducible assumption | with_reducible apply State.put_keeps | with_reducible apply State.modSaf_keeps | simp only [Keeps.mk_eq] | split | (intro _) )

theorem State.admission_keeps (x0 : SafImage) (x1 : Live) (x2 : Nat) (x3 : State) {s0 : State} (h3 : Keeps s0 x3) : Keeps s0 (State.admission x0 x1 x2 x3).2 := by
  unfold State.admission
  try dsimp only
  repeat' (first | with_reducible assumption | with_reducible apply State.putBytes_keeps | with_reducible apply State.inc_keeps | with_reducible apply State.raise_keeps | simp only [Keeps.mk_eq] | split | (intro _) )

theorem State.showCommand_keeps (x0 : State) {s0 : State} (h0 : Keeps s0 x0) : Keeps s0 (State.showCommand x0) := by
  unfold State.showCommand
  try dsimp only
  repeat' (first | with_reducible assumption | with_reducible apply State.put_keeps | simp only [Keeps.mk_eq] | split | (intro _) )

theorem State.safLoad_keeps (x0 : State) {s0 : State} (h0 : Keeps s0 x0) : Keeps s0 (State.safLoad x0).1 := by
  unfold State.safLoad
  try dsimp only
  repeat' (first | with_reducible assumption | with_reducible apply State.refuse_keeps | with_reducible apply State.raise0_keeps | with_reducible apply State.admission_keeps | with_reducible apply State.ok_keeps | with_reducible apply State.showCommand_keeps | with_reducible apply State.modSaf_keeps | with_reducible apply State.put_keeps | with_reducible apply State.showRes_keeps | simp only [Keeps.mk_eq] | split | (intro _) )

theorem State.safLoadEnd_keeps (x0 : State) {s0 : State} (h0 : Keeps s0 x0) : Keeps s0 (State.safLoadEnd x0) := by
  unfold State.safLoadEnd
  try dsimp only
  repeat' (first | with_reducible assumption | with_reducible apply State.showCommand_keeps | with_reducible apply State.modSaf_keeps | with_reducible apply State.put_keeps | simp only [Keeps.mk_eq] | split | (intro _) )

theorem State.safUnload_keeps (x0 : State) {s0 : State} (h0 : Keeps s0 x0) : Keeps s0 (State.safUnload x0).1 := by
  unfold State.safUnload
  try dsimp only
  repeat' (first | with_reducible assumption | with_reducible apply State.ok_keeps | with_reducible apply State.raise_keeps | with_reducible apply State.showRes_keeps | with_reducible apply State.refuse_keeps | simp only [Keeps.mk_eq] | split | (intro _) )

theorem State.swapRefused_keeps (x0 : State) {s0 : State} (h0 : Keeps s0 x0) : Keeps s0 (State.swapRefused x0) := by
  unfold State.swapRefused
  try dsimp only
  repeat' (first | with_reducible assumption | with_reducible apply State.raise0_keeps | with_reducible apply State.inc_keeps | simp only [Keeps.mk_eq] | split | (intro _) )

theorem State.safSwap_keeps (x0 : Nat) (x1 : State) {s0 : State} (h1 : Keeps s0 x1) : Keeps s0 (State.safSwap x0 x1).1 := by
  unfold State.safSwap
  try dsimp only
  repeat' (first | with_reducible assumption | with_reducible apply State.refuse_keeps | with_reducible apply State.swapRefused_keeps | with_reducible apply State.modSaf_keeps | with_reducible apply State.when_keeps | with_reducible apply State.put_keeps | with_reducible apply State.ok_keeps | with_reducible apply State.raise0_keeps | with_reducible apply State.showCommand_keeps | simp only [Keeps.mk_eq] | split | (intro _) )

theorem State.installFast_keeps (x0 : Nat) (x1 : State) {s0 : State} (h1 : Keeps s0 x1) : Keeps s0 (State.installFast x0 x1) := by
  unfold State.installFast
  try dsimp only
  repeat' (first | with_reducible assumption | with_reducible apply State.put_keeps | with_reducible apply State.measure_keeps | with_reducible apply State.mapTiles_keeps | with_reducible apply State.modSaf_keeps | simp only [Keeps.mk_eq] | split | (intro _) )

theorem State.installSlow_keeps (x0 : Nat) (x1 : State) {s0 : State} (h1 : Keeps s0 x1) : Keeps s0 (State.installSlow x0 x1) := by
  unfold State.installSlow
  try dsimp only
  repeat' (first | with_reducible assumption | with_reducible apply State.put_keeps | with_reducible apply State.measure_keeps | with_reducible apply State.mapTiles_keeps | with_reducible apply State.modSaf_keeps | simp only [Keeps.mk_eq] | split | (intro _) )

theorem State.swapAdmits_keeps (x0 : SafSwap) (x1 : State) {s0 : State} (h1 : Keeps s0 x1) : Keeps s0 (State.swapAdmits x0 x1).2 := by
  unfold State.swapAdmits
  try dsimp only
  repeat' (first | with_reducible assumption | with_reducible apply State.admission_keeps | simp only [Keeps.mk_eq] | split | (intro _) )

theorem State.swapInstalls_keeps (x0 : SafSwap) (x1 : State) {s0 : State} (h1 : Keeps s0 x1) : Keeps s0 (State.swapInstalls x0 x1) := by
  unfold State.swapInstalls
  try dsimp only
  repeat' (first | with_reducible assumption | with_reducible apply State.when_keeps | with_reducible apply State.installFast_keeps | with_reducible apply State.installSlow_keeps | with_reducible apply State.setAge_keeps | with_reducible apply State.modSaf_keeps | with_reducible apply State.showTiles_keeps | with_reducible apply State.showImages_keeps | with_reducible apply State.showCommand_keeps | simp only [Keeps.mk_eq] | split | (intro _) )

theorem State.swapFails_keeps (x0 : SafSwap) (x1 : State) {s0 : State} (h1 : Keeps s0 x1) : Keeps s0 (State.swapFails x0 x1) := by
  unfold State.swapFails
  try dsimp only
  repeat' (first | with_reducible assumption | with_reducible apply State.when_keeps | with_reducible apply State.put_keeps | with_reducible apply State.showCommand_keeps | with_reducible apply State.swapRefused_keeps | simp only [Keeps.mk_eq] | split | (intro _) )

theorem execSaffronSwapBoundary_keeps (x0 : State) {s0 : State} (h0 : Keeps s0 x0) : KeepsOut s0 (execSaffronSwapBoundary x0) := by
  unfold execSaffronSwapBoundary
  try dsimp only
  repeat' (first | with_reducible assumption  | with_reducible apply KeepsOut.next| with_reducible apply State.swapAdmits_keeps | with_reducible apply State.modSaf_keeps | with_reducible apply State.swapInstalls_keeps | with_reducible apply State.swapFails_keeps | simp only [Keeps.mk_eq] | split | (intro _) )

theorem execSaffronSwapDone_keeps (x0 : State) {s0 : State} (h0 : Keeps s0 x0) : KeepsOut s0 (execSaffronSwapDone x0) := by
  unfold execSaffronSwapDone
  try dsimp only
  repeat' (first | with_reducible assumption  | with_reducible apply KeepsOut.next| with_reducible apply State.modSaf_keeps | with_reducible apply State.raise0_keeps | with_reducible apply State.showCommand_keeps | with_reducible apply State.inc_keeps | simp only [Keeps.mk_eq] | split | (intro _) )

theorem State.restoreRes_keeps (x0 : Bool) (x1 : Option Nat) (x2 : State) {s0 : State} (h2 : Keeps s0 x2) : Keeps s0 (State.restoreRes x0 x1 x2) := by
  unfold State.restoreRes
  try dsimp only
  repeat' (first | with_reducible assumption | with_reducible apply State.put_keeps | with_reducible apply State.modSaf_keeps | simp only [Keeps.mk_eq] | split | (intro _) )

theorem execSaffronSwapAborted_keeps (x0 : State) {s0 : State} (h0 : Keeps s0 x0) : KeepsOut s0 (execSaffronSwapAborted x0) := by
  unfold execSaffronSwapAborted
  try dsimp only
  repeat' (first | with_reducible assumption  | with_reducible apply KeepsOut.next| with_reducible apply State.modSaf_keeps | with_reducible apply State.restoreRes_keeps | with_reducible apply State.raise0_keeps | with_reducible apply State.showTiles_keeps | with_reducible apply State.showImages_keeps | with_reducible apply State.inc_keeps | with_reducible apply State.showCommand_keeps | with_reducible apply State.mapTiles_keeps | simp only [Keeps.mk_eq] | split | (intro _) )

theorem State.loadCommandWrite_keeps (x0 : Int) (x1 : State) {s0 : State} (h1 : Keeps s0 x1) : Keeps s0 (State.loadCommandWrite x0 x1).1 := by
  unfold State.loadCommandWrite
  try dsimp only
  repeat' (first | with_reducible assumption | with_reducible apply State.safLoad_keeps | with_reducible apply State.safUnload_keeps | with_reducible apply State.safSwap_keeps | simp only [Keeps.mk_eq] | split | (intro _) )

theorem execSaffronLoad_keeps (x0 : Nat) (x1 : State) {s0 : State} (h1 : Keeps s0 x1) : KeepsOut s0 (execSaffronLoad x0 x1) := by
  unfold execSaffronLoad
  try dsimp only
  repeat' (first | with_reducible assumption  | with_reducible apply KeepsOut.next| with_reducible apply State.hostWrite_keeps | with_reducible apply State.loadCommandWrite_keeps | simp only [Keeps.mk_eq] | split | (intro _) )

theorem execSaffronUnload_keeps (x0 : Nat) (x1 : State) {s0 : State} (h1 : Keeps s0 x1) : KeepsOut s0 (execSaffronUnload x0 x1) := by
  unfold execSaffronUnload
  try dsimp only
  repeat' (first | with_reducible assumption  | with_reducible apply KeepsOut.next| with_reducible apply State.hostWrite_keeps | with_reducible apply State.loadCommandWrite_keeps | simp only [Keeps.mk_eq] | split | (intro _) )

theorem execSwapFast_keeps (x0 : Nat) (x1 : State) {s0 : State} (h1 : Keeps s0 x1) : KeepsOut s0 (execSwapFast x0 x1) := by
  unfold execSwapFast
  try dsimp only
  repeat' (first | with_reducible assumption  | with_reducible apply KeepsOut.next| with_reducible apply State.hostWrite_keeps | with_reducible apply State.loadCommandWrite_keeps | simp only [Keeps.mk_eq] | split | (intro _) )

theorem execSwapSlow_keeps (x0 : Nat) (x1 : State) {s0 : State} (h1 : Keeps s0 x1) : KeepsOut s0 (execSwapSlow x0 x1) := by
  unfold execSwapSlow
  try dsimp only
  repeat' (first | with_reducible assumption  | with_reducible apply KeepsOut.next| with_reducible apply State.hostWrite_keeps | with_reducible apply State.loadCommandWrite_keeps | simp only [Keeps.mk_eq] | split | (intro _) )

theorem execSwapPair_keeps (x0 : Nat) (x1 : State) {s0 : State} (h1 : Keeps s0 x1) : KeepsOut s0 (execSwapPair x0 x1) := by
  unfold execSwapPair
  try dsimp only
  repeat' (first | with_reducible assumption  | with_reducible apply KeepsOut.next| with_reducible apply State.hostWrite_keeps | with_reducible apply State.loadCommandWrite_keeps | simp only [Keeps.mk_eq] | split | (intro _) )

theorem State.slowTickWrite_keeps (x0 : Int) (x1 : State) {s0 : State} (h1 : Keeps s0 x1) : Keeps s0 (State.slowTickWrite x0 x1).1 := by
  unfold State.slowTickWrite
  try dsimp only
  repeat' (first | with_reducible assumption | with_reducible apply State.admission_keeps | with_reducible apply State.ok_keeps | with_reducible apply State.showImages_keeps | with_reducible apply State.put_keeps | with_reducible apply State.refuse_keeps | with_reducible apply State.raise0_keeps | simp only [Keeps.mk_eq] | split | (intro _) )

theorem execSlowTickWrite_keeps (x0 : HostWrite) (x1 : State) {s0 : State} (h1 : Keeps s0 x1) : KeepsOut s0 (execSlowTickWrite x0 x1) := by
  unfold execSlowTickWrite
  try dsimp only
  repeat' (first | with_reducible assumption  | with_reducible apply KeepsOut.next| with_reducible apply State.hostWrite_keeps | with_reducible apply State.slowTickWrite_keeps | simp only [Keeps.mk_eq] | split | (intro _) )

theorem State.safReset_keeps (x0 : State) {s0 : State} (h0 : Keeps s0 x0) : Keeps s0 (State.safReset x0) := by
  unfold State.safReset
  try dsimp only
  repeat' (first | with_reducible assumption | with_reducible apply State.put_keeps | with_reducible apply State.each_keeps | with_reducible apply State.showRes_keeps | with_reducible apply State.modSaf_keeps | with_reducible apply State.showTiles_keeps | simp only [Keeps.mk_eq] | split | (intro _) )

theorem State.startRes_keeps (x0 : Fin 6) (x1 : Nat) (x2 : State) {s0 : State} (h2 : Keeps s0 x2) : Keeps s0 (State.startRes x0 x1 x2) := by
  unfold State.startRes
  try dsimp only
  repeat' (first | with_reducible assumption | with_reducible apply State.admission_keeps | with_reducible apply State.showRes_keeps | with_reducible apply State.raiseOn_keeps | simp only [Keeps.mk_eq] | split | (intro _) )

theorem State.safStartLoad_keeps (x0 : State) {s0 : State} (h0 : Keeps s0 x0) : Keeps s0 (State.safStartLoad x0) := by
  unfold State.safStartLoad
  try dsimp only
  repeat' (first | with_reducible assumption | with_reducible apply State.startRes_keeps | with_reducible apply State.when_keeps | with_reducible apply State.modSaf_keeps | with_reducible apply State.installFast_keeps | with_reducible apply State.each_keeps | with_reducible apply State.installSlow_keeps | with_reducible apply State.showTiles_keeps | with_reducible apply State.showImages_keeps | simp only [Keeps.mk_eq] | split | (intro _) )

theorem State.modLeg_keeps (x0 : LegacyState → LegacyState) (x1 : State) {s0 : State} (h1 : Keeps s0 x1) : Keeps s0 (State.modLeg x0 x1) := by
  unfold State.modLeg
  try dsimp only
  repeat' (first | with_reducible assumption  | simp only [Keeps.mk_eq] | split | (intro _) )

theorem State.legacyRefuse_keeps (x0 : Nat) (x1 : State) {s0 : State} (h1 : Keeps s0 x1) : Keeps s0 (State.legacyRefuse x0 x1).1 := by
  unfold State.legacyRefuse
  try dsimp only
  repeat' (first | with_reducible assumption | with_reducible apply State.refuse_keeps | with_reducible apply State.raise0_keeps | with_reducible apply State.inc_keeps | simp only [Keeps.mk_eq] | split | (intro _) )

theorem State.clearEntries_keeps (x0 : List Nat) (x1 : State) {s0 : State} (h1 : Keeps s0 x1) : Keeps s0 (State.clearEntries x0 x1) := by
  unfold State.clearEntries
  try dsimp only
  repeat' (first | with_reducible assumption | with_reducible apply State.each_keeps | with_reducible apply State.put_keeps | simp only [Keeps.mk_eq] | split | (intro _) )

theorem State.legacyEnableWrite_keeps (x0 : Int) (x1 : State) {s0 : State} (h1 : Keeps s0 x1) : Keeps s0 (State.legacyEnableWrite x0 x1).1 := by
  unfold State.legacyEnableWrite
  try dsimp only
  repeat' (first | with_reducible assumption | with_reducible apply State.legacyRefuse_keeps | with_reducible apply State.ok_keeps | with_reducible apply State.modLeg_keeps | with_reducible apply State.put_keeps | simp only [Keeps.mk_eq] | split | (intro _) )

theorem execLegacyEnable_keeps (x0 : HostWrite) (x1 : State) {s0 : State} (h1 : Keeps s0 x1) : KeepsOut s0 (execLegacyEnable x0 x1) := by
  unfold execLegacyEnable
  try dsimp only
  repeat' (first | with_reducible assumption  | with_reducible apply KeepsOut.next| with_reducible apply State.hostWrite_keeps | with_reducible apply State.legacyEnableWrite_keeps | simp only [Keeps.mk_eq] | split | (intro _) )

theorem State.legacyStop_keeps (x0 : State) {s0 : State} (h0 : Keeps s0 x0) : Keeps s0 (State.legacyStop x0) := by
  unfold State.legacyStop
  try dsimp only
  repeat' (first | with_reducible assumption | with_reducible apply State.put_keeps | with_reducible apply State.modRack_keeps | with_reducible apply State.modLeg_keeps | simp only [Keeps.mk_eq] | split | (intro _) )

theorem State.legacyTick_keeps (x0 : State) {s0 : State} (h0 : Keeps s0 x0) : Keeps s0 (State.legacyTick x0) := by
  unfold State.legacyTick
  try dsimp only
  repeat' (first | with_reducible assumption | with_reducible apply State.modLeg_keeps | with_reducible apply State.raise0_keeps | with_reducible apply State.put_keeps | with_reducible apply State.clearEntries_keeps | with_reducible apply State.legacyStop_keeps | simp only [Keeps.mk_eq] | split | (intro _) )

theorem State.legacyEntry_keeps (x0 : Nat) (x1 : Nat) (x2 : Int) (x3 : State) {s0 : State} (h3 : Keeps s0 x3) : Keeps s0 (State.legacyEntry x0 x1 x2 x3).1 := by
  unfold State.legacyEntry
  try dsimp only
  repeat' (first | with_reducible assumption | with_reducible apply State.legacyRefuse_keeps | with_reducible apply State.put_keeps | with_reducible apply State.clearEntries_keeps | with_reducible apply State.ok_keeps | simp only [Keeps.mk_eq] | split | (intro _) )

theorem execLegacyEntryWrite_keeps (x0 : Fin 16) (x1 : HostWrite) (x2 : State) {s0 : State} (h2 : Keeps s0 x2) : KeepsOut s0 (execLegacyEntryWrite x0 x1 x2) := by
  unfold execLegacyEntryWrite
  try dsimp only
  repeat' (first | with_reducible assumption  | with_reducible apply KeepsOut.next| with_reducible apply State.hostWrite_keeps | with_reducible apply State.legacyEntry_keeps | simp only [Keeps.mk_eq] | split | (intro _) )

theorem execLegacyActivation_keeps (x0 : State) {s0 : State} (h0 : Keeps s0 x0) : KeepsOut s0 (execLegacyActivation x0) := by
  unfold execLegacyActivation
  try dsimp only
  repeat' (first | with_reducible assumption  | with_reducible apply KeepsOut.next| with_reducible apply State.raise0_keeps | with_reducible apply State.put_keeps | with_reducible apply State.putBytes_keeps | with_reducible apply State.modLeg_keeps | simp only [Keeps.mk_eq] | split | (intro _) )

theorem State.legacyNotice_keeps (x0 : Int) (x1 : Nat) (x2 : State) {s0 : State} (h2 : Keeps s0 x2) : Keeps s0 (State.legacyNotice x0 x1 x2) := by
  unfold State.legacyNotice
  try dsimp only
  repeat' (first | with_reducible assumption | with_reducible apply State.each_keeps | with_reducible apply State.joinNotice_keeps | with_reducible apply State.raise_keeps | with_reducible apply State.inc_keeps | simp only [Keeps.mk_eq] | split | (intro _) )

theorem execLegacyEntryPlay_keeps (x0 : State) {s0 : State} (h0 : Keeps s0 x0) : KeepsOut s0 (execLegacyEntryPlay x0) := by
  unfold execLegacyEntryPlay
  try dsimp only
  repeat' (first | with_reducible assumption  | with_reducible apply KeepsOut.next| with_reducible apply State.when_keeps | with_reducible apply State.legacyNotice_keeps | with_reducible apply State.useFree_keeps | with_reducible apply State.modLeg_keeps | with_reducible apply State.modRack_keeps | with_reducible apply State.put_keeps | simp only [Keeps.mk_eq] | split | (intro _) )

theorem execLegacySequenceDone_keeps (x0 : State) {s0 : State} (h0 : Keeps s0 x0) : KeepsOut s0 (execLegacySequenceDone x0) := by
  unfold execLegacySequenceDone
  try dsimp only
  repeat' (first | with_reducible assumption  | with_reducible apply KeepsOut.next| with_reducible apply State.inc_keeps | with_reducible apply State.legacyStop_keeps | with_reducible apply State.raise0_keeps | with_reducible apply State.when_keeps | with_reducible apply State.put_keeps | simp only [Keeps.mk_eq] | split | (intro _) )

theorem State.setReg_keeps (x0 : Fin 16) (x1 : BitVec 32) (x2 : Clove) (x3 : State) {s0 : State} (h3 : Keeps s0 x3) : Keeps s0 (State.setReg x0 x1 x2 x3) := by
  unfold State.setReg
  try dsimp only
  repeat' (first | with_reducible assumption | with_reducible apply State.when_keeps | with_reducible apply State.wakeBurst_keeps | with_reducible apply State.setTarget_keeps | with_reducible apply State.raise_keeps | with_reducible apply State.inc_keeps | simp only [Keeps.mk_eq] | split | (intro _) )

theorem State.cloveAct_keeps (x0 : Clove) (x1 : State) {s0 : State} (h1 : Keeps s0 x1) : Keeps s0 (State.cloveAct x0 x1) := by
  unfold State.cloveAct
  try dsimp only
  repeat' (first | with_reducible assumption | with_reducible apply State.setReg_keeps | with_reducible apply State.capAt_keeps | with_reducible apply State.fireGroupCap_keeps | with_reducible apply State.activateMark_keeps | with_reducible apply State.fireLend_keeps | with_reducible apply State.fireReturn_keeps | with_reducible apply State.askSweep_keeps | with_reducible apply State.openQuiet_keeps | simp only [Keeps.mk_eq] | split | (intro _) )

theorem State.fireScheduled_keeps (x0 : SchedClove) (x1 : State) {s0 : State} (h1 : Keeps s0 x1) : Keeps s0 (State.fireScheduled x0 x1) := by
  unfold State.fireScheduled
  try dsimp only
  repeat' (first | with_reducible assumption | with_reducible apply State.fireWith_keeps | with_reducible apply State.cloveAct_keeps | with_reducible apply State.unschedule_keeps | simp only [Keeps.mk_eq] | split | (intro _) )

theorem State.fireDue_keeps (x0 : State) {s0 : State} (h0 : Keeps s0 x0) : Keeps s0 (State.fireDue x0) := by
  unfold State.fireDue
  try dsimp only
  repeat' (first | with_reducible assumption | with_reducible apply State.expireLoans_keeps | with_reducible apply State.promoteDue_keeps | with_reducible apply State.each_keeps | with_reducible apply State.fireScheduled_keeps | simp only [Keeps.mk_eq] | split | (intro _) )

theorem State.fireRef_keeps (x0 : Nat) (x1 : CloveRef) (x2 : State) {s0 : State} (h2 : Keeps s0 x2) : Keeps s0 (State.fireRef x0 x1 x2) := by
  unfold State.fireRef
  try dsimp only
  repeat' (first | with_reducible assumption | with_reducible apply State.promoteDue_keeps | with_reducible apply State.each_keeps | with_reducible apply State.fireScheduled_keeps | simp only [Keeps.mk_eq] | split | (intro _) )

theorem execCloveReceive_keeps (x0 : Clove) (x1 : Nat) (x2 : State) {s0 : State} (h2 : Keeps s0 x2) : KeepsOut s0 (execCloveReceive x0 x1 x2) := by
  unfold execCloveReceive
  try dsimp only
  repeat' (first | with_reducible assumption  | with_reducible apply KeepsOut.next| with_reducible apply State.cloveArrive_keeps | with_reducible apply State.cloveAct_keeps | simp only [Keeps.mk_eq] | split | (intro _) )

theorem State.inject_keeps (x0 : List Byte) (x1 : Nat) (x2 : State) {s0 : State} (h2 : Keeps s0 x2) : Keeps s0 (State.inject x0 x1 x2).1 := by
  unfold State.inject
  try dsimp only
  repeat' (first | with_reducible assumption | with_reducible apply State.refuse_keeps | with_reducible apply State.ok_keeps | with_reducible apply State.originateClove_keeps | with_reducible apply State.cloveAct_keeps | simp only [Keeps.mk_eq] | split | (intro _) )

theorem State.injectWrite_keeps (x0 : HostWrite) (x1 : State) {s0 : State} (h1 : Keeps s0 x1) : Keeps s0 (State.injectWrite x0 x1) := by
  unfold State.injectWrite
  try dsimp only
  repeat' (first | with_reducible assumption | with_reducible apply State.hostWrite_keeps | with_reducible apply State.inject_keeps | with_reducible apply State.when_keeps | with_reducible apply State.send_keeps | simp only [Keeps.mk_eq] | split | (intro _) )

theorem execCloveInject_keeps (x0 : HostWrite) (x1 : State) {s0 : State} (h1 : Keeps s0 x1) : KeepsOut s0 (execCloveInject x0 x1) := by
  unfold execCloveInject
  try dsimp only
  repeat' (first | with_reducible assumption  | with_reducible apply KeepsOut.next| with_reducible apply State.injectWrite_keeps | simp only [Keeps.mk_eq] | split | (intro _) )

theorem execCloveInsert_keeps (x0 : State) {s0 : State} (h0 : Keeps s0 x0) : KeepsOut s0 (execCloveInsert x0) := by
  unfold execCloveInsert
  try dsimp only
  repeat' (first | with_reducible assumption  | with_reducible apply KeepsOut.next| with_reducible apply State.takeItem_keeps | with_reducible apply State.when_keeps | with_reducible apply State.addMark_keeps | with_reducible apply State.fireWith_keeps | with_reducible apply State.cloveAct_keeps | with_reducible apply State.cloveCount_keeps | with_reducible apply State.scheduleClove_keeps | simp only [Keeps.mk_eq] | split | (intro _) )

theorem execClovePromote_keeps (x0 : CloveRef) (x1 : State) {s0 : State} (h1 : Keeps s0 x1) : KeepsOut s0 (execClovePromote x0 x1) := by
  unfold execClovePromote
  try dsimp only
  repeat' (first | with_reducible assumption  | with_reducible apply KeepsOut.next| with_reducible apply State.modClv_keeps | simp only [Keeps.mk_eq] | split | (intro _) )

theorem execSetReg_keeps (x0 : CloveRef) (x1 : State) {s0 : State} (h1 : Keeps s0 x1) : KeepsOut s0 (execSetReg x0 x1) := by
  unfold execSetReg
  try dsimp only
  repeat' (first | with_reducible assumption  | with_reducible apply KeepsOut.next| with_reducible apply State.fireRef_keeps | simp only [Keeps.mk_eq] | split | (intro _) )

theorem execRackCap_keeps (x0 : CloveRef) (x1 : State) {s0 : State} (h1 : Keeps s0 x1) : KeepsOut s0 (execRackCap x0 x1) := by
  unfold execRackCap
  try dsimp only
  repeat' (first | with_reducible assumption  | with_reducible apply KeepsOut.next| with_reducible apply State.fireRef_keeps | simp only [Keeps.mk_eq] | split | (intro _) )

theorem execGroupCap_keeps (x0 : CloveRef) (x1 : State) {s0 : State} (h1 : Keeps s0 x1) : KeepsOut s0 (execGroupCap x0 x1) := by
  unfold execGroupCap
  try dsimp only
  repeat' (first | with_reducible assumption  | with_reducible apply KeepsOut.next| with_reducible apply State.fireRef_keeps | simp only [Keeps.mk_eq] | split | (intro _) )

theorem execStepMark_keeps (x0 : CloveRef) (x1 : State) {s0 : State} (h1 : Keeps s0 x1) : KeepsOut s0 (execStepMark x0 x1) := by
  unfold execStepMark
  try dsimp only
  repeat' (first | with_reducible assumption  | with_reducible apply KeepsOut.next| with_reducible apply State.fireRef_keeps | simp only [Keeps.mk_eq] | split | (intro _) )

theorem execLedgerLend_keeps (x0 : CloveRef) (x1 : State) {s0 : State} (h1 : Keeps s0 x1) : KeepsOut s0 (execLedgerLend x0 x1) := by
  unfold execLedgerLend
  try dsimp only
  repeat' (first | with_reducible assumption  | with_reducible apply KeepsOut.next| with_reducible apply State.fireRef_keeps | simp only [Keeps.mk_eq] | split | (intro _) )

theorem execLedgerReturn_keeps (x0 : CloveRef) (x1 : State) {s0 : State} (h1 : Keeps s0 x1) : KeepsOut s0 (execLedgerReturn x0 x1) := by
  unfold execLedgerReturn
  try dsimp only
  repeat' (first | with_reducible assumption  | with_reducible apply KeepsOut.next| with_reducible apply State.fireRef_keeps | simp only [Keeps.mk_eq] | split | (intro _) )

theorem execSweepStart_keeps (x0 : CloveRef) (x1 : State) {s0 : State} (h1 : Keeps s0 x1) : KeepsOut s0 (execSweepStart x0 x1) := by
  unfold execSweepStart
  try dsimp only
  repeat' (first | with_reducible assumption  | with_reducible apply KeepsOut.next| with_reducible apply State.fireRef_keeps | simp only [Keeps.mk_eq] | split | (intro _) )

theorem execQuietWindow_keeps (x0 : CloveRef) (x1 : State) {s0 : State} (h1 : Keeps s0 x1) : KeepsOut s0 (execQuietWindow x0 x1) := by
  unfold execQuietWindow
  try dsimp only
  repeat' (first | with_reducible assumption  | with_reducible apply KeepsOut.next| with_reducible apply State.fireRef_keeps | simp only [Keeps.mk_eq] | split | (intro _) )

theorem execCancel_keeps (x0 : Clove) (x1 : Nat) (x2 : State) {s0 : State} (h2 : Keeps s0 x2) : KeepsOut s0 (execCancel x0 x1 x2) := by
  unfold execCancel
  try dsimp only
  repeat' (first | with_reducible assumption  | with_reducible apply KeepsOut.next| with_reducible apply State.cloveArrive_keeps | with_reducible apply State.cloveAct_keeps | simp only [Keeps.mk_eq] | split | (intro _) )

theorem State.expireMarks_keeps (x0 : State) {s0 : State} (h0 : Keeps s0 x0) : Keeps s0 (State.expireMarks x0) := by
  unfold State.expireMarks
  try dsimp only
  repeat' (first | with_reducible assumption | with_reducible apply State.showMarks_keeps | simp only [Keeps.mk_eq] | split | (intro _) )

theorem execStepMarkExpiry_keeps (x0 : State) {s0 : State} (h0 : Keeps s0 x0) : KeepsOut s0 (execStepMarkExpiry x0) := by
  unfold execStepMarkExpiry
  try dsimp only
  repeat' (first | with_reducible assumption  | with_reducible apply KeepsOut.next| with_reducible apply State.expireMarks_keeps | simp only [Keeps.mk_eq] | split | (intro _) )

theorem State.rejudge_keeps (x0 : State) {s0 : State} (h0 : Keeps s0 x0) : Keeps s0 (State.rejudge x0) := by
  unfold State.rejudge
  try dsimp only
  repeat' (first | with_reducible assumption | with_reducible apply State.each_keeps | with_reducible apply State.unschedule_keeps | with_reducible apply State.raise_keeps | with_reducible apply State.fireWith_keeps | with_reducible apply State.cloveAct_keeps | with_reducible apply State.cloveCount_keeps | with_reducible apply State.dropMark_keeps | simp only [Keeps.mk_eq] | split | (intro _) )

theorem State.modTime_keeps (x0 : TimeSt → TimeSt) (x1 : State) {s0 : State} (h1 : Keeps s0 x1) : Keeps s0 (State.modTime x0 x1) := by
  unfold State.modTime
  try dsimp only
  repeat' (first | with_reducible assumption  | simp only [Keeps.mk_eq] | split | (intro _) )

theorem State.showTime_keeps (x0 : State) {s0 : State} (h0 : Keeps s0 x0) : Keeps s0 (State.showTime x0) := by
  unfold State.showTime
  try dsimp only
  repeat' (first | with_reducible assumption | with_reducible apply State.putB_keeps | with_reducible apply State.put_keeps | simp only [Keeps.mk_eq] | split | (intro _) )

theorem State.enterTime_keeps (x0 : TimeMode) (x1 : State) {s0 : State} (h1 : Keeps s0 x1) : Keeps s0 (State.enterTime x0 x1) := by
  unfold State.enterTime
  try dsimp only
  repeat' (first | with_reducible assumption | with_reducible apply State.showTime_keeps | with_reducible apply State.modTime_keeps | with_reducible apply State.raise0_keeps | simp only [Keeps.mk_eq] | split | (intro _) )

theorem State.setMaster_keeps (x0 : Option Nat) (x1 : State) {s0 : State} (h1 : Keeps s0 x1) : Keeps s0 (State.setMaster x0 x1) := by
  unfold State.setMaster
  try dsimp only
  repeat' (first | with_reducible assumption | with_reducible apply State.raise_keeps | with_reducible apply State.modTime_keeps | simp only [Keeps.mk_eq] | split | (intro _) )

theorem State.beMaster_keeps (x0 : State) {s0 : State} (h0 : Keeps s0 x0) : Keeps s0 (State.beMaster x0) := by
  unfold State.beMaster
  try dsimp only
  repeat' (first | with_reducible assumption | with_reducible apply State.modTime_keeps | with_reducible apply State.setMaster_keeps | with_reducible apply State.when_keeps | with_reducible apply State.enterTime_keeps | with_reducible apply State.showTime_keeps | simp only [Keeps.mk_eq] | split | (intro _) )

theorem State.takeUpstream_keeps (x0 : LinkOffer) (x1 : State) {s0 : State} (h1 : Keeps s0 x1) : Keeps s0 (State.takeUpstream x0 x1) := by
  unfold State.takeUpstream
  try dsimp only
  repeat' (first | with_reducible assumption | with_reducible apply State.modTime_keeps | with_reducible apply State.setMaster_keeps | with_reducible apply State.enterTime_keeps | with_reducible apply State.showTime_keeps | simp only [Keeps.mk_eq] | split | (intro _) )

theorem State.chooseTime_keeps (x0 : State) {s0 : State} (h0 : Keeps s0 x0) : Keeps s0 (State.chooseTime x0) := by
  unfold State.chooseTime
  try dsimp only
  repeat' (first | with_reducible assumption | with_reducible apply State.takeUpstream_keeps | with_reducible apply State.beMaster_keeps | with_reducible apply State.modTime_keeps | with_reducible apply State.showTime_keeps | with_reducible apply State.enterTime_keeps | simp only [Keeps.mk_eq] | split | (intro _) )

theorem State.timeLinkDown_keeps (x0 : Nat) (x1 : State) {s0 : State} (h1 : Keeps s0 x1) : Keeps s0 (State.timeLinkDown x0 x1) := by
  unfold State.timeLinkDown
  try dsimp only
  repeat' (first | with_reducible assumption | with_reducible apply State.modTime_keeps | with_reducible apply State.chooseTime_keeps | simp only [Keeps.mk_eq] | split | (intro _) )

theorem execAnnounceSend_keeps (x0 : State) {s0 : State} (h0 : Keeps s0 x0) : KeepsOut s0 (execAnnounceSend x0) := by
  unfold execAnnounceSend
  try dsimp only
  repeat' (first | with_reducible assumption  | with_reducible apply KeepsOut.next| with_reducible apply State.each_keeps | with_reducible apply State.queueTiming_keeps | simp only [Keeps.mk_eq] | split | (intro _) )

theorem execAnnounce_keeps (x0 : Fin 32) (x1 : Nat) (x2 : Offer) (x3 : State) {s0 : State} (h3 : Keeps s0 x3) : KeepsOut s0 (execAnnounce x0 x1 x2 x3) := by
  unfold execAnnounce
  try dsimp only
  repeat' (first | with_reducible assumption  | with_reducible apply KeepsOut.next| with_reducible apply State.chooseTime_keeps | with_reducible apply State.modTime_keeps | simp only [Keeps.mk_eq] | split | (intro _) )

theorem execUpstreamLost_keeps (x0 : State) {s0 : State} (h0 : Keeps s0 x0) : KeepsOut s0 (execUpstreamLost x0) := by
  unfold execUpstreamLost
  try dsimp only
  repeat' (first | with_reducible assumption  | with_reducible apply KeepsOut.next| with_reducible apply State.timeLinkDown_keeps | simp only [Keeps.mk_eq] | split | (intro _) )

theorem execFabricTimeStart_keeps (x0 : State) {s0 : State} (h0 : Keeps s0 x0) : KeepsOut s0 (execFabricTimeStart x0) := by
  unfold execFabricTimeStart
  try dsimp only
  repeat' (first | with_reducible assumption  | with_reducible apply KeepsOut.next| with_reducible apply State.beMaster_keeps | with_reducible apply State.modTime_keeps | simp only [Keeps.mk_eq] | split | (intro _) )

theorem execTimingSyncSend_keeps (x0 : State) {s0 : State} (h0 : Keeps s0 x0) : KeepsOut s0 (execTimingSyncSend x0) := by
  unfold execTimingSyncSend
  try dsimp only
  repeat' (first | with_reducible assumption  | with_reducible apply KeepsOut.next| with_reducible apply State.each_keeps | with_reducible apply State.queueTiming_keeps | simp only [Keeps.mk_eq] | split | (intro _) )

theorem State.setEpoch_keeps (x0 : Int) (x1 : State) {s0 : State} (h1 : Keeps s0 x1) : Keeps s0 (State.setEpoch x0 x1) := by
  unfold State.setEpoch
  try dsimp only
  repeat' (first | with_reducible assumption | with_reducible apply State.modTime_keeps | with_reducible apply State.put_keeps | with_reducible apply State.rejudge_keeps | with_reducible apply State.raise_keeps | with_reducible apply State.inc_keeps | simp only [Keeps.mk_eq] | split | (intro _) )

theorem State.steer_keeps (x0 : State) {s0 : State} (h0 : Keeps s0 x0) : Keeps s0 (State.steer x0) := by
  unfold State.steer
  try dsimp only
  repeat' (first | with_reducible assumption | with_reducible apply State.useFree_keeps | with_reducible apply State.put_keeps | simp only [Keeps.mk_eq] | split | (intro _) )

theorem execTimingSync_keeps (x0 : Fin 32) (x1 : BitVec 8) (x2 : Nat) (x3 : Nat) (x4 : State) {s0 : State} (h4 : Keeps s0 x4) : KeepsOut s0 (execTimingSync x0 x1 x2 x3 x4) := by
  unfold execTimingSync
  try dsimp only
  repeat' (first | with_reducible assumption  | with_reducible apply KeepsOut.next| with_reducible apply State.modTime_keeps | with_reducible apply State.put_keeps | with_reducible apply State.when_keeps | with_reducible apply State.setEpoch_keeps | with_reducible apply State.steer_keeps | with_reducible apply State.enterTime_keeps | simp only [Keeps.mk_eq] | split | (intro _) )

theorem execDelayReqSend_keeps (x0 : Nat) (x1 : State) {s0 : State} (h1 : Keeps s0 x1) : KeepsOut s0 (execDelayReqSend x0 x1) := by
  unfold execDelayReqSend
  try dsimp only
  repeat' (first | with_reducible assumption  | with_reducible apply KeepsOut.next| with_reducible apply State.queueTiming_keeps | with_reducible apply State.modTime_keeps | simp only [Keeps.mk_eq] | split | (intro _) )

theorem execDelayReq_keeps (x0 : Fin 32) (x1 : BitVec 8) (x2 : Nat) (x3 : State) {s0 : State} (h3 : Keeps s0 x3) : KeepsOut s0 (execDelayReq x0 x1 x2 x3) := by
  unfold execDelayReq
  try dsimp only
  repeat' (first | with_reducible assumption  | with_reducible apply KeepsOut.next| with_reducible apply State.queueTiming_keeps | simp only [Keeps.mk_eq] | split | (intro _) )

theorem execDelayResp_keeps (x0 : Fin 32) (x1 : BitVec 8) (x2 : Nat) (x3 : State) {s0 : State} (h3 : Keeps s0 x3) : KeepsOut s0 (execDelayResp x0 x1 x2 x3) := by
  unfold execDelayResp
  try dsimp only
  repeat' (first | with_reducible assumption  | with_reducible apply KeepsOut.next| with_reducible apply State.modTime_keeps | with_reducible apply State.put_keeps | with_reducible apply State.enterTime_keeps | simp only [Keeps.mk_eq] | split | (intro _) )

theorem execTimeDegraded_keeps (x0 : State) {s0 : State} (h0 : Keeps s0 x0) : KeepsOut s0 (execTimeDegraded x0) := by
  unfold execTimeDegraded
  try dsimp only
  repeat' (first | with_reducible assumption  | with_reducible apply KeepsOut.next| with_reducible apply State.enterTime_keeps | simp only [Keeps.mk_eq] | split | (intro _) )

theorem State.untraceable_keeps (x0 : State) {s0 : State} (h0 : Keeps s0 x0) : Keeps s0 (State.untraceable x0) := by
  unfold State.untraceable
  try dsimp only
  repeat' (first | with_reducible assumption | with_reducible apply State.when_keeps | with_reducible apply State.raise0_keeps | with_reducible apply State.showTime_keeps | with_reducible apply State.modTime_keeps | simp only [Keeps.mk_eq] | split | (intro _) )

theorem execTimeSourceFailed_keeps (x0 : Bool) (x1 : State) {s0 : State} (h1 : Keeps s0 x1) : KeepsOut s0 (execTimeSourceFailed x0 x1) := by
  unfold execTimeSourceFailed
  try dsimp only
  repeat' (first | with_reducible assumption  | with_reducible apply KeepsOut.next| with_reducible apply State.untraceable_keeps | with_reducible apply State.modTime_keeps | with_reducible apply State.chooseTime_keeps | simp only [Keeps.mk_eq] | split | (intro _) )

theorem State.showPtp_keeps (x0 : State) {s0 : State} (h0 : Keeps s0 x0) : Keeps s0 (State.showPtp x0) := by
  unfold State.showPtp
  try dsimp only
  repeat' (first | with_reducible assumption | with_reducible apply State.modTime_keeps | with_reducible apply State.put_keeps | simp only [Keeps.mk_eq] | split | (intro _) )

theorem State.ptpHear_keeps (x0 : Fin 2) (x1 : Option GmData) (x2 : State) {s0 : State} (h2 : Keeps s0 x2) : Keeps s0 (State.ptpHear x0 x1 x2) := by
  unfold State.ptpHear
  try dsimp only
  repeat' (first | with_reducible assumption | with_reducible apply State.modTime_keeps | with_reducible apply outState_keeps | with_reducible apply execTimeSourceFailed_keeps | with_reducible apply State.showPtp_keeps | simp only [Keeps.mk_eq] | split | (intro _) )

theorem execPtpMessage_keeps (x0 : Fin 2) (x1 : Nat) (x2 : PtpMsg) (x3 : State) {s0 : State} (h3 : Keeps s0 x3) : KeepsOut s0 (execPtpMessage x0 x1 x2 x3) := by
  unfold execPtpMessage
  try dsimp only
  repeat' (first | with_reducible assumption  | with_reducible apply KeepsOut.next| with_reducible apply State.put_keeps | with_reducible apply State.ptpHear_keeps | with_reducible apply State.modTime_keeps | with_reducible apply State.chooseTime_keeps | with_reducible apply State.when_keeps | with_reducible apply State.setEpoch_keeps | with_reducible apply State.send_keeps | with_reducible apply State.showPtp_keeps | with_reducible apply State.steer_keeps | simp only [Keeps.mk_eq] | split | (intro _) )

theorem execPpsInEdge_keeps (x0 : Nat) (x1 : State) {s0 : State} (h1 : Keeps s0 x1) : KeepsOut s0 (execPpsInEdge x0 x1) := by
  unfold execPpsInEdge
  try dsimp only
  repeat' (first | with_reducible assumption  | with_reducible apply KeepsOut.next| with_reducible apply State.chooseTime_keeps | with_reducible apply State.modTime_keeps | with_reducible apply State.when_keeps | with_reducible apply State.steer_keeps | simp only [Keeps.mk_eq] | split | (intro _) )

theorem execPpsMismatch_keeps (x0 : State) {s0 : State} (h0 : Keeps s0 x0) : KeepsOut s0 (execPpsMismatch x0) := by
  unfold execPpsMismatch
  try dsimp only
  repeat' (first | with_reducible assumption  | with_reducible apply KeepsOut.next| with_reducible apply State.chooseTime_keeps | with_reducible apply State.raise0_keeps | with_reducible apply State.modTime_keeps | simp only [Keeps.mk_eq] | split | (intro _) )

end Sys2Proof.Machine
end

