-- ==== Sys2Proof/Laws/KeepsFabric.lean ====
section
/-! SUPPORT. What Keeps (Safety.lean) says of the fabric, queues and the mace: one lemma for each operation. -/

namespace Sys2Proof.Machine

theorem State.showCredits_keeps (x0 : Fin 32) (x1 : State) {s0 : State} (h1 : Keeps s0 x1) : Keeps s0 (State.showCredits x0 x1) := by
  unfold State.showCredits
  try dsimp only
  repeat' (first | with_reducible assumption | with_reducible apply State.put_keeps | simp only [Keeps.mk_eq] | split | (intro _) )

theorem State.showFreed_keeps (x0 : Fin 32) (x1 : State) {s0 : State} (h1 : Keeps s0 x1) : Keeps s0 (State.showFreed x0 x1) := by
  unfold State.showFreed
  try dsimp only
  repeat' (first | with_reducible assumption | with_reducible apply State.modLink_keeps | simp only [Keeps.mk_eq] | split | (intro _) )

theorem State.sendFrameAs_keeps (x0 : Bool) (x1 : Fin 32) (x2 : List Byte) (x3 : State) {s0 : State} (h3 : Keeps s0 x3) : Keeps s0 (State.sendFrameAs x0 x1 x2 x3) := by
  unfold State.sendFrameAs
  try dsimp only
  repeat' (first | with_reducible assumption | with_reducible apply State.showFreed_keeps | with_reducible apply State.modLink_keeps | with_reducible apply State.send_keeps | with_reducible apply State.showCredits_keeps | simp only [Keeps.mk_eq] | split | (intro _) )

theorem State.sendFrame_keeps (x0 : Fin 32) (x1 : List Byte) (x2 : State) {s0 : State} (h2 : Keeps s0 x2) : Keeps s0 (State.sendFrame x0 x1 x2) := by
  unfold State.sendFrame
  try dsimp only
  repeat' (first | with_reducible assumption | with_reducible apply State.sendFrameAs_keeps | simp only [Keeps.mk_eq] | split | (intro _) )

theorem State.rekeyEnd_keeps (x0 : Fin 32) (x1 : State) {s0 : State} (h1 : Keeps s0 x1) : Keeps s0 (State.rekeyEnd x0 x1) := by
  unfold State.rekeyEnd
  try dsimp only
  repeat' (first | with_reducible assumption | with_reducible apply State.inc_keeps | with_reducible apply State.modLink_keeps | simp only [Keeps.mk_eq] | split | (intro _) )

theorem State.flood_keeps (x0 : State) {s0 : State} (h0 : Keeps s0 x0) : Keeps s0 (State.flood x0) := by
  unfold State.flood
  try dsimp only
  repeat' (first | with_reducible assumption | with_reducible apply State.modFab_keeps | with_reducible apply State.each_keeps | with_reducible apply State.send_keeps | simp only [Keeps.mk_eq] | split | (intro _) )

theorem State.linksChanged_keeps (x0 : State) {s0 : State} (h0 : Keeps s0 x0) : Keeps s0 (State.linksChanged x0) := by
  unfold State.linksChanged
  try dsimp only
  repeat' (first | with_reducible assumption | with_reducible apply State.selfRoute_keeps | with_reducible apply State.flood_keeps | simp only [Keeps.mk_eq] | split | (intro _) )

theorem State.enterLink_keeps (x0 : Fin 32) (x1 : Nat) (x2 : State) {s0 : State} (h2 : Keeps s0 x2) : Keeps s0 (State.enterLink x0 x1 x2) := by
  unfold State.enterLink
  try dsimp only
  repeat' (first | with_reducible assumption | with_reducible apply State.modLink_keeps | with_reducible apply State.put_keeps | simp only [Keeps.mk_eq] | split | (intro _) )

theorem State.trainLink_keeps (x0 : Fin 32) (x1 : State) {s0 : State} (h1 : Keeps s0 x1) : Keeps s0 (State.trainLink x0 x1) := by
  unfold State.trainLink
  try dsimp only
  repeat' (first | with_reducible assumption | with_reducible apply State.showCredits_keeps | with_reducible apply State.enterLink_keeps | with_reducible apply State.modLink_keeps | simp only [Keeps.mk_eq] | split | (intro _) )

theorem State.backOff_keeps (x0 : Fin 32) (x1 : Bool) (x2 : State) {s0 : State} (h2 : Keeps s0 x2) : Keeps s0 (State.backOff x0 x1 x2) := by
  unfold State.backOff
  try dsimp only
  repeat' (first | with_reducible assumption | with_reducible apply State.modLink_keeps | with_reducible apply State.enterLink_keeps | simp only [Keeps.mk_eq] | split | (intro _) )

theorem State.failLink_keeps (x0 : Fin 32) (x1 : Nat) (x2 : State) {s0 : State} (h2 : Keeps s0 x2) : Keeps s0 (State.failLink x0 x1 x2) := by
  unfold State.failLink
  try dsimp only
  repeat' (first | with_reducible assumption | with_reducible apply State.backOff_keeps | with_reducible apply State.put_keeps | simp only [Keeps.mk_eq] | split | (intro _) )

theorem State.requeue_keeps (x0 : Fin 32) (x1 : State) {s0 : State} (h1 : Keeps s0 x1) : Keeps s0 (State.requeue x0 x1) := by
  unfold State.requeue
  try dsimp only
  repeat' (first | with_reducible assumption | with_reducible apply State.each_keeps | with_reducible apply State.watermark_keeps | with_reducible apply State.setQueue_keeps | with_reducible apply State.sendBy_keeps | simp only [Keeps.mk_eq] | split | (intro _) )

theorem State.pairDown_keeps (x0 : Fin 32) (x1 : State) {s0 : State} (h1 : Keeps s0 x1) : Keeps s0 (State.pairDown x0 x1) := by
  unfold State.pairDown
  try dsimp only
  repeat' (first | with_reducible assumption | with_reducible apply State.goCold_keeps | with_reducible apply State.raise0_keeps | simp only [Keeps.mk_eq] | split | (intro _) )

theorem State.linkDown_keeps (x0 : Fin 32) (x1 : Nat) (x2 : State) {s0 : State} (h2 : Keeps s0 x2) : Keeps s0 (State.linkDown x0 x1 x2) := by
  unfold State.linkDown
  try dsimp only
  repeat' (first | with_reducible assumption | with_reducible apply State.when_keeps | with_reducible apply State.sendFrame_keeps | with_reducible apply State.modLink_keeps | with_reducible apply State.raise_keeps | with_reducible apply State.inc_keeps | with_reducible apply State.put_keeps | with_reducible apply State.enterLink_keeps | with_reducible apply State.backOff_keeps | with_reducible apply State.raiseOn_keeps | with_reducible apply State.linksChanged_keeps | with_reducible apply State.requeue_keeps | with_reducible apply State.pairDown_keeps | with_reducible apply State.timeLinkDown_keeps | with_reducible apply State.trayLinkDown_keeps | simp only [Keeps.mk_eq] | split | (intro _) )

theorem State.enterUp_keeps (x0 : Fin 32) (x1 : State) {s0 : State} (h1 : Keeps s0 x1) : Keeps s0 (State.enterUp x0 x1) := by
  unfold State.enterUp
  try dsimp only
  repeat' (first | with_reducible assumption | with_reducible apply State.modLink_keeps | with_reducible apply State.enterLink_keeps | with_reducible apply State.raiseOn_keeps | with_reducible apply State.put_keeps | with_reducible apply State.linksChanged_keeps | with_reducible apply State.trayLinkUp_keeps | simp only [Keeps.mk_eq] | split | (intro _) )

theorem State.dropFlit_keeps (x0 : Fin 32) (x1 : State) {s0 : State} (h1 : Keeps s0 x1) : Keeps s0 (State.dropFlit x0 x1) := by
  unfold State.dropFlit
  try dsimp only
  repeat' (first | with_reducible assumption | with_reducible apply State.inc_keeps | simp only [Keeps.mk_eq] | split | (intro _) )

theorem State.fragment_keeps (x0 : Fin 32) (x1 : List Byte) (x2 : Nat) (x3 : State) {s0 : State} (h3 : Keeps s0 x3) : Keeps s0 (State.fragment x0 x1 x2 x3) := by
  unfold State.fragment
  try dsimp only
  repeat' (first | with_reducible assumption | with_reducible apply State.modLink_keeps | with_reducible apply State.when_keeps | with_reducible apply State.enqueue_keeps | with_reducible apply State.inc_keeps | simp only [Keeps.mk_eq] | split | (intro _) )

theorem State.deliverFlit_keeps (x0 : Fin 32) (x1 : List Byte) (x2 : Nat) (x3 : State) {s0 : State} (h3 : Keeps s0 x3) : Keeps s0 (State.deliverFlit x0 x1 x2 x3) := by
  unfold State.deliverFlit
  try dsimp only
  repeat' (first | with_reducible assumption | with_reducible apply State.enqueue_keeps | with_reducible apply State.fragment_keeps | with_reducible apply State.send_keeps | simp only [Keeps.mk_eq] | split | (intro _) )

theorem State.takeCredits_keeps (x0 : Fin 32) (x1 : List Byte) (x2 : State) {s0 : State} (h2 : Keeps s0 x2) : Keeps s0 (State.takeCredits x0 x1 x2) := by
  unfold State.takeCredits
  try dsimp only
  repeat' (first | with_reducible assumption | with_reducible apply State.showCredits_keeps | with_reducible apply State.modLink_keeps | simp only [Keeps.mk_eq] | split | (intro _) )

theorem State.takeBuffer_keeps (x0 : Fin 32) (x1 : Nat) (x2 : State) {s0 : State} (h2 : Keeps s0 x2) : Keeps s0 (State.takeBuffer x0 x1 x2).1 := by
  unfold State.takeBuffer
  try dsimp only
  repeat' (first | with_reducible assumption | with_reducible apply State.modLink_keeps | simp only [Keeps.mk_eq] | split | (intro _) )

theorem State.acceptFlit_keeps (x0 : Fin 32) (x1 : List Byte) (x2 : Nat) (x3 : State) {s0 : State} (h3 : Keeps s0 x3) : Keeps s0 (State.acceptFlit x0 x1 x2 x3) := by
  unfold State.acceptFlit
  try dsimp only
  repeat' (first | with_reducible assumption | with_reducible apply State.dropFlit_keeps | with_reducible apply State.takeBuffer_keeps | with_reducible apply State.deliverFlit_keeps | with_reducible apply State.when_keeps | with_reducible apply State.sendBy_keeps | simp only [Keeps.mk_eq] | split | (intro _) )

theorem State.tagFailure_keeps (x0 : Fin 32) (x1 : List Byte) (x2 : State) {s0 : State} (h2 : Keeps s0 x2) : Keeps s0 (State.tagFailure x0 x1 x2) := by
  unfold State.tagFailure
  try dsimp only
  repeat' (first | with_reducible assumption | with_reducible apply State.inc_keeps | with_reducible apply State.each_keeps | with_reducible apply State.send_keeps | with_reducible apply State.modLink_keeps | with_reducible apply State.linkDown_keeps | with_reducible apply State.raiseOn_keeps | simp only [Keeps.mk_eq] | split | (intro _) )

theorem State.receiveFlit_keeps (x0 : Fin 32) (x1 : List Byte) (x2 : Nat) (x3 : State) {s0 : State} (h3 : Keeps s0 x3) : Keeps s0 (State.receiveFlit x0 x1 x2 x3) := by
  unfold State.receiveFlit
  try dsimp only
  repeat' (first | with_reducible assumption | with_reducible apply State.dropFlit_keeps | with_reducible apply State.tagFailure_keeps | with_reducible apply State.acceptFlit_keeps | with_reducible apply State.rekeyEnd_keeps | with_reducible apply State.modLink_keeps | with_reducible apply State.takeCredits_keeps | simp only [Keeps.mk_eq] | split | (intro _) )

theorem State.modSide_keeps (x0 : Fin 32) (x1 : SideSt → SideSt) (x2 : State) {s0 : State} (h2 : Keeps s0 x2) : Keeps s0 (State.modSide x0 x1 x2) := by
  unfold State.modSide
  try dsimp only
  repeat' (first | with_reducible assumption | with_reducible apply State.modLink_keeps | simp only [Keeps.mk_eq] | split | (intro _) )

theorem State.retimerValue_keeps (x0 : Fin 32) (x1 : Nat) (x2 : Nat) (x3 : Nat) (x4 : State) {s0 : State} (h4 : Keeps s0 x4) : Keeps s0 (State.retimerValue x0 x1 x2 x3 x4) := by
  unfold State.retimerValue
  try dsimp only
  repeat' (first | with_reducible assumption | with_reducible apply State.putMax_keeps | with_reducible apply State.put_keeps | with_reducible apply State.modSide_keeps | simp only [Keeps.mk_eq] | split | (intro _) )

theorem State.retimerCauses_keeps (x0 : Fin 32) (x1 : State) {s0 : State} (h1 : Keeps s0 x1) : Keeps s0 (State.retimerCauses x0 x1) := by
  unfold State.retimerCauses
  try dsimp only
  repeat' (first | with_reducible assumption | with_reducible apply State.when_keeps | with_reducible apply State.raiseOn_keeps | with_reducible apply State.raise_keeps | with_reducible apply State.modSide_keeps | simp only [Keeps.mk_eq] | split | (intro _) )

theorem State.sidebandIn_keeps (x0 : Fin 32) (x1 : List Byte) (x2 : State) {s0 : State} (h2 : Keeps s0 x2) : Keeps s0 (State.sidebandIn x0 x1 x2) := by
  unfold State.sidebandIn
  try dsimp only
  repeat' (first | with_reducible assumption | with_reducible apply State.inc_keeps | with_reducible apply State.modSide_keeps | with_reducible apply State.retimerCauses_keeps | with_reducible apply State.retimerValue_keeps | simp only [Keeps.mk_eq] | split | (intro _) )

theorem State.sidebandByte_keeps (x0 : Fin 32) (x1 : Byte) (x2 : State) {s0 : State} (h2 : Keeps s0 x2) : Keeps s0 (State.sidebandByte x0 x1 x2) := by
  unfold State.sidebandByte
  try dsimp only
  repeat' (first | with_reducible assumption | with_reducible apply State.modLink_keeps | with_reducible apply State.inc_keeps | with_reducible apply State.sidebandIn_keeps | with_reducible apply State.modSide_keeps | simp only [Keeps.mk_eq] | split | (intro _) )

theorem State.syncWord_keeps (x0 : Fin 32) (x1 : Nat) (x2 : State) {s0 : State} (h2 : Keeps s0 x2) : Keeps s0 (State.syncWord x0 x1 x2) := by
  unfold State.syncWord
  try dsimp only
  repeat' (first | with_reducible assumption | with_reducible apply State.modLink_keeps | with_reducible apply State.linkDown_keeps | simp only [Keeps.mk_eq] | split | (intro _) )

theorem State.receiveBody_keeps (x0 : Fin 32) (x1 : List Bool) (x2 : Nat) (x3 : State) {s0 : State} (h3 : Keeps s0 x3) : Keeps s0 (State.receiveBody x0 x1 x2 x3) := by
  unfold State.receiveBody
  try dsimp only
  repeat' (first | with_reducible assumption | with_reducible apply State.inc_keeps | with_reducible apply State.modLink_keeps | with_reducible apply State.linkDown_keeps | with_reducible apply State.receiveFlit_keeps | with_reducible apply State.countBy_keeps | simp only [Keeps.mk_eq] | split | (intro _) )

theorem execLinkFrameReceive_keeps (x0 : Fin 32) (x1 : BitVec 576) (x2 : Nat) (x3 : State) {s0 : State} (h3 : Keeps s0 x3) : KeepsOut s0 (execLinkFrameReceive x0 x1 x2 x3) := by
  unfold execLinkFrameReceive
  try dsimp only
  repeat' (first | with_reducible assumption  | with_reducible apply KeepsOut.next| with_reducible apply State.putB_keeps | with_reducible apply State.inc64_keeps | with_reducible apply State.syncWord_keeps | with_reducible apply State.modLink_keeps | with_reducible apply State.sidebandByte_keeps | with_reducible apply State.receiveBody_keeps | simp only [Keeps.mk_eq] | split | (intro _) )

theorem State.sendChannel_keeps (x0 : Fin 32) (x1 : Nat) (x2 : State) {s0 : State} (h2 : Keeps s0 x2) : Keeps s0 (State.sendChannel x0 x1 x2) := by
  unfold State.sendChannel
  try dsimp only
  repeat' (first | with_reducible assumption | with_reducible apply State.watermark_keeps | with_reducible apply State.setQueue_keeps | with_reducible apply State.sendFrameAs_keeps | simp only [Keeps.mk_eq] | split | (intro _) )

theorem State.sendBringUp_keeps (x0 : Fin 32) (x1 : State) {s0 : State} (h1 : Keeps s0 x1) : Keeps s0 (State.sendBringUp x0 x1) := by
  unfold State.sendBringUp
  try dsimp only
  repeat' (first | with_reducible assumption | with_reducible apply State.sendFrame_keeps | with_reducible apply State.modLink_keeps | simp only [Keeps.mk_eq] | split | (intro _) )

theorem State.sendTiming_keeps (x0 : Fin 32) (x1 : List Byte) (x2 : State) {s0 : State} (h2 : Keeps s0 x2) : Keeps s0 (State.sendTiming x0 x1 x2) := by
  unfold State.sendTiming
  try dsimp only
  repeat' (first | with_reducible assumption | with_reducible apply State.when_keeps | with_reducible apply State.sendFrame_keeps | simp only [Keeps.mk_eq] | split | (intro _) )

theorem execFrameSlot_keeps (x0 : Fin 32) (x1 : State) {s0 : State} (h1 : Keeps s0 x1) : KeepsOut s0 (execFrameSlot x0 x1) := by
  unfold execFrameSlot
  try dsimp only
  repeat' (first | with_reducible assumption  | with_reducible apply KeepsOut.next| with_reducible apply State.sendBringUp_keeps | with_reducible apply State.rekeyEnd_keeps | with_reducible apply State.modLink_keeps | with_reducible apply State.sendTiming_keeps | with_reducible apply State.sendFrame_keeps | with_reducible apply State.sendChannel_keeps | simp only [Keeps.mk_eq] | split | (intro _) )

theorem State.controlHear_keeps (x0 : Fin 32) (x1 : Nat) (x2 : List Byte) (x3 : State → State) (x4 : State) {s0 : State} (h3 : ∀ y0, Keeps s0 y0 → Keeps s0 (x3 y0)) (h4 : Keeps s0 x4) : Keeps s0 (State.controlHear x0 x1 x2 x3 x4) := by
  unfold State.controlHear
  try dsimp only
  repeat' (first | with_reducible assumption | with_reducible apply State.dropFlit_keeps | with_reducible apply State.when_keeps | with_reducible apply h3 | simp only [Keeps.mk_eq] | split | (intro _) )

theorem execTrain_keeps (x0 : Fin 32) (x1 : List Byte) (x2 : State) {s0 : State} (h2 : Keeps s0 x2) : KeepsOut s0 (execTrain x0 x1 x2) := by
  unfold execTrain
  try dsimp only
  repeat' (first | with_reducible assumption  | with_reducible apply KeepsOut.next| with_reducible apply State.controlHear_keeps | with_reducible apply State.when_keeps | with_reducible apply State.modLink_keeps | simp only [Keeps.mk_eq] | split | (intro _) )

theorem State.takeTrainDone_keeps (x0 : Fin 32) (x1 : State) {s0 : State} (h1 : Keeps s0 x1) : Keeps s0 (State.takeTrainDone x0 x1) := by
  unfold State.takeTrainDone
  try dsimp only
  repeat' (first | with_reducible assumption | with_reducible apply State.modLink_keeps | with_reducible apply State.enterLink_keeps | simp only [Keeps.mk_eq] | split | (intro _) )

theorem execTrainDone_keeps (x0 : Fin 32) (x1 : List Byte) (x2 : State) {s0 : State} (h2 : Keeps s0 x2) : KeepsOut s0 (execTrainDone x0 x1 x2) := by
  unfold execTrainDone
  try dsimp only
  repeat' (first | with_reducible assumption  | with_reducible apply KeepsOut.next| with_reducible apply State.controlHear_keeps | with_reducible apply State.takeTrainDone_keeps | simp only [Keeps.mk_eq] | split | (intro _) )

theorem State.sendAuth_keeps (x0 : Fin 32) (x1 : Nat) (x2 : List Byte) (x3 : State) {s0 : State} (h3 : Keeps s0 x3) : Keeps s0 (State.sendAuth x0 x1 x2 x3) := by
  unfold State.sendAuth
  try dsimp only
  repeat' (first | with_reducible assumption | with_reducible apply State.each_keeps | with_reducible apply State.queueControl_keeps | simp only [Keeps.mk_eq] | split | (intro _) )

theorem State.sendHello_keeps (x0 : Fin 32) (x1 : State) {s0 : State} (h1 : Keeps s0 x1) : Keeps s0 (State.sendHello x0 x1) := by
  unfold State.sendHello
  try dsimp only
  repeat' (first | with_reducible assumption | with_reducible apply State.sendAuth_keeps | with_reducible apply State.modLink_keeps | with_reducible apply State.useFree_keeps | simp only [Keeps.mk_eq] | split | (intro _) )

theorem State.takeVersion_keeps (x0 : Fin 32) (x1 : VersionSaid) (x2 : State) {s0 : State} (h2 : Keeps s0 x2) : Keeps s0 (State.takeVersion x0 x1 x2) := by
  unfold State.takeVersion
  try dsimp only
  repeat' (first | with_reducible assumption | with_reducible apply State.failLink_keeps | with_reducible apply State.raiseOn_keeps | with_reducible apply State.put_keeps | with_reducible apply State.when_keeps | with_reducible apply State.sendHello_keeps | with_reducible apply State.enterLink_keeps | simp only [Keeps.mk_eq] | split | (intro _) )

theorem execLinkVersion_keeps (x0 : Fin 32) (x1 : List Byte) (x2 : State) {s0 : State} (h2 : Keeps s0 x2) : KeepsOut s0 (execLinkVersion x0 x1 x2) := by
  unfold execLinkVersion
  try dsimp only
  repeat' (first | with_reducible assumption  | with_reducible apply KeepsOut.next| with_reducible apply State.controlHear_keeps | with_reducible apply State.takeVersion_keeps | simp only [Keeps.mk_eq] | split | (intro _) )

theorem execLinkTrainFail_keeps (x0 : Fin 32) (x1 : State) {s0 : State} (h1 : Keeps s0 x1) : KeepsOut s0 (execLinkTrainFail x0 x1) := by
  unfold execLinkTrainFail
  try dsimp only
  repeat' (first | with_reducible assumption  | with_reducible apply KeepsOut.next| with_reducible apply State.when_keeps | with_reducible apply State.raiseOn_keeps | with_reducible apply State.modLink_keeps | with_reducible apply State.failLink_keeps | simp only [Keeps.mk_eq] | split | (intro _) )

theorem execCreditSyncSend_keeps (x0 : State) {s0 : State} (h0 : Keeps s0 x0) : KeepsOut s0 (execCreditSyncSend x0) := by
  unfold execCreditSyncSend
  try dsimp only
  repeat' (first | with_reducible assumption  | with_reducible apply KeepsOut.next| with_reducible apply State.each_keeps | with_reducible apply State.queueControl_keeps | simp only [Keeps.mk_eq] | split | (intro _) )

theorem execCreditSync_keeps (x0 : Fin 32) (x1 : List Byte) (x2 : State) {s0 : State} (h2 : Keeps s0 x2) : KeepsOut s0 (execCreditSync x0 x1 x2) := by
  unfold execCreditSync
  try dsimp only
  repeat' (first | with_reducible assumption  | with_reducible apply KeepsOut.next| with_reducible apply State.controlHear_keeps | with_reducible apply State.modLink_keeps | simp only [Keeps.mk_eq] | split | (intro _) )

theorem State.sendSign_keeps (x0 : Fin 32) (x1 : Nat) (x2 : List Byte) (x3 : State) {s0 : State} (h3 : Keeps s0 x3) : Keeps s0 (State.sendSign x0 x1 x2 x3) := by
  unfold State.sendSign
  try dsimp only
  repeat' (first | with_reducible assumption | with_reducible apply State.sendAuth_keeps | with_reducible apply State.useFree_keeps | simp only [Keeps.mk_eq] | split | (intro _) )

theorem State.authFail_keeps (x0 : Fin 32) (x1 : Nat) (x2 : State) {s0 : State} (h2 : Keeps s0 x2) : Keeps s0 (State.authFail x0 x1 x2) := by
  unfold State.authFail
  try dsimp only
  repeat' (first | with_reducible assumption | with_reducible apply State.failLink_keeps | with_reducible apply State.raise_keeps | simp only [Keeps.mk_eq] | split | (intro _) )

theorem execHello_keeps (x0 : Fin 32) (x1 : List Byte) (x2 : BitVec 64) (x3 : Bool) (x4 : State) {s0 : State} (h4 : Keeps s0 x4) : KeepsOut s0 (execHello x0 x1 x2 x3 x4) := by
  unfold execHello
  try dsimp only
  repeat' (first | with_reducible assumption  | with_reducible apply KeepsOut.next| with_reducible apply State.authFail_keeps | with_reducible apply State.noteCert_keeps | with_reducible apply State.modLink_keeps | with_reducible apply State.put_keeps | with_reducible apply State.sendSign_keeps | simp only [Keeps.mk_eq] | split | (intro _) )

theorem execSign_keeps (x0 : Fin 32) (x1 : Bool) (x2 : State) {s0 : State} (h2 : Keeps s0 x2) : KeepsOut s0 (execSign x0 x1 x2) := by
  unfold execSign
  try dsimp only
  repeat' (first | with_reducible assumption  | with_reducible apply KeepsOut.next| with_reducible apply State.authFail_keeps | with_reducible apply State.modLink_keeps | with_reducible apply State.sendAuth_keeps | simp only [Keeps.mk_eq] | split | (intro _) )

theorem execFinished_keeps (x0 : Fin 32) (x1 : List Byte) (x2 : State) {s0 : State} (h2 : Keeps s0 x2) : KeepsOut s0 (execFinished x0 x1 x2) := by
  unfold execFinished
  try dsimp only
  repeat' (first | with_reducible assumption  | with_reducible apply KeepsOut.next| with_reducible apply State.dropFlit_keeps | with_reducible apply State.enterUp_keeps | simp only [Keeps.mk_eq] | split | (intro _) )

theorem execLinkAuthFail_keeps (x0 : Fin 32) (x1 : BitVec 8) (x2 : State) {s0 : State} (h2 : Keeps s0 x2) : KeepsOut s0 (execLinkAuthFail x0 x1 x2) := by
  unfold execLinkAuthFail
  try dsimp only
  repeat' (first | with_reducible assumption  | with_reducible apply KeepsOut.next| with_reducible apply State.authFail_keeps | simp only [Keeps.mk_eq] | split | (intro _) )

theorem State.modRekey_keeps (x0 : Fin 32) (x1 : RekeySt → RekeySt) (x2 : State) {s0 : State} (h2 : Keeps s0 x2) : Keeps s0 (State.modRekey x0 x1 x2) := by
  unfold State.modRekey
  try dsimp only
  repeat' (first | with_reducible assumption | with_reducible apply State.modLink_keeps | simp only [Keeps.mk_eq] | split | (intro _) )

theorem State.rekeyHello_keeps (x0 : Fin 32) (x1 : State) {s0 : State} (h1 : Keeps s0 x1) : Keeps s0 (State.rekeyHello x0 x1) := by
  unfold State.rekeyHello
  try dsimp only
  repeat' (first | with_reducible assumption | with_reducible apply State.sendAuth_keeps | with_reducible apply State.modRekey_keeps | with_reducible apply State.useFree_keeps | simp only [Keeps.mk_eq] | split | (intro _) )

theorem State.rekeyFail_keeps (x0 : Fin 32) (x1 : State) {s0 : State} (h1 : Keeps s0 x1) : Keeps s0 (State.rekeyFail x0 x1) := by
  unfold State.rekeyFail
  try dsimp only
  repeat' (first | with_reducible assumption | with_reducible apply State.linkDown_keeps | with_reducible apply State.raise_keeps | with_reducible apply State.modRekey_keeps | simp only [Keeps.mk_eq] | split | (intro _) )

theorem execRekeyStart_keeps (x0 : Fin 32) (x1 : State) {s0 : State} (h1 : Keeps s0 x1) : KeepsOut s0 (execRekeyStart x0 x1) := by
  unfold execRekeyStart
  try dsimp only
  repeat' (first | with_reducible assumption  | with_reducible apply KeepsOut.next| with_reducible apply State.rekeyHello_keeps | simp only [Keeps.mk_eq] | split | (intro _) )

theorem execRekeyHello_keeps (x0 : Fin 32) (x1 : List Byte) (x2 : State) {s0 : State} (h2 : Keeps s0 x2) : KeepsOut s0 (execRekeyHello x0 x1 x2) := by
  unfold execRekeyHello
  try dsimp only
  repeat' (first | with_reducible assumption  | with_reducible apply KeepsOut.next| with_reducible apply State.rekeyHello_keeps | with_reducible apply State.modRekey_keeps | with_reducible apply State.sendSign_keeps | simp only [Keeps.mk_eq] | split | (intro _) )

theorem execRekeySign_keeps (x0 : Fin 32) (x1 : Bool) (x2 : BitVec 64) (x3 : State) {s0 : State} (h3 : Keeps s0 x3) : KeepsOut s0 (execRekeySign x0 x1 x2 x3) := by
  unfold execRekeySign
  try dsimp only
  repeat' (first | with_reducible assumption  | with_reducible apply KeepsOut.next| with_reducible apply State.rekeyFail_keeps | with_reducible apply State.modRekey_keeps | simp only [Keeps.mk_eq] | split | (intro _) )

theorem execRekeySwitch_keeps (x0 : Fin 32) (x1 : State) {s0 : State} (h1 : Keeps s0 x1) : KeepsOut s0 (execRekeySwitch x0 x1) := by
  unfold execRekeySwitch
  try dsimp only
  repeat' (first | with_reducible assumption  | with_reducible apply KeepsOut.next| with_reducible apply State.rekeyEnd_keeps | with_reducible apply State.modLink_keeps | simp only [Keeps.mk_eq] | split | (intro _) )

theorem execRekeyRetry_keeps (x0 : Fin 32) (x1 : State) {s0 : State} (h1 : Keeps s0 x1) : KeepsOut s0 (execRekeyRetry x0 x1) := by
  unfold execRekeyRetry
  try dsimp only
  repeat' (first | with_reducible assumption  | with_reducible apply KeepsOut.next| with_reducible apply State.rekeyFail_keeps | with_reducible apply State.rekeyHello_keeps | simp only [Keeps.mk_eq] | split | (intro _) )

theorem execLinkDownFlit_keeps (x0 : Fin 32) (x1 : List Byte) (x2 : State) {s0 : State} (h2 : Keeps s0 x2) : KeepsOut s0 (execLinkDownFlit x0 x1 x2) := by
  unfold execLinkDownFlit
  try dsimp only
  repeat' (first | with_reducible assumption  | with_reducible apply KeepsOut.next| with_reducible apply State.controlHear_keeps | with_reducible apply State.when_keeps | with_reducible apply State.linkDown_keeps | simp only [Keeps.mk_eq] | split | (intro _) )

theorem execLinkDown_keeps (x0 : Fin 32) (x1 : BitVec 8) (x2 : State) {s0 : State} (h2 : Keeps s0 x2) : KeepsOut s0 (execLinkDown x0 x1 x2) := by
  unfold execLinkDown
  try dsimp only
  repeat' (first | with_reducible assumption  | with_reducible apply KeepsOut.next| with_reducible apply State.linkDown_keeps | with_reducible apply State.when_keeps | with_reducible apply State.raiseOn_keeps | simp only [Keeps.mk_eq] | split | (intro _) )

theorem execLinkBackoffExpiry_keeps (x0 : Fin 32) (x1 : State) {s0 : State} (h1 : Keeps s0 x1) : KeepsOut s0 (execLinkBackoffExpiry x0 x1) := by
  unfold execLinkBackoffExpiry
  try dsimp only
  repeat' (first | with_reducible assumption  | with_reducible apply KeepsOut.next| with_reducible apply State.trainLink_keeps | simp only [Keeps.mk_eq] | split | (intro _) )

theorem State.wakeLink_keeps (x0 : Fin 32) (x1 : State) {s0 : State} (h1 : Keeps s0 x1) : Keeps s0 (State.wakeLink x0 x1) := by
  unfold State.wakeLink
  try dsimp only
  repeat' (first | with_reducible assumption | with_reducible apply State.put_keeps | with_reducible apply State.trainLink_keeps | simp only [Keeps.mk_eq] | split | (intro _) )

theorem State.linkEnableOwn_keeps (x0 : Fin 32) (x1 : Int) (x2 : State) {s0 : State} (h2 : Keeps s0 x2) : Keeps s0 (State.linkEnableOwn x0 x1 x2).1 := by
  unfold State.linkEnableOwn
  try dsimp only
  repeat' (first | with_reducible assumption | with_reducible apply State.put_keeps | with_reducible apply State.linkDown_keeps | with_reducible apply State.enterLink_keeps | with_reducible apply State.modLink_keeps | with_reducible apply State.wakeLink_keeps | with_reducible apply State.ok_keeps | with_reducible apply State.gateQuads_keeps | simp only [Keeps.mk_eq] | split | (intro _) )

theorem execLinkEnableWrite_keeps (x0 : Fin 32) (x1 : HostWrite) (x2 : State) {s0 : State} (h2 : Keeps s0 x2) : KeepsOut s0 (execLinkEnableWrite x0 x1 x2) := by
  unfold execLinkEnableWrite
  try dsimp only
  repeat' (first | with_reducible assumption  | with_reducible apply KeepsOut.next| with_reducible apply State.hostWrite_keeps | with_reducible apply State.linkEnableOwn_keeps | simp only [Keeps.mk_eq] | split | (intro _) )

theorem State.linkProfileOwn_keeps (x0 : Fin 32) (x1 : Int) (x2 : State) {s0 : State} (h2 : Keeps s0 x2) : Keeps s0 (State.linkProfileOwn x0 x1 x2).1 := by
  unfold State.linkProfileOwn
  try dsimp only
  repeat' (first | with_reducible assumption | with_reducible apply State.ok_keeps | with_reducible apply State.gateQuads_keeps | with_reducible apply State.wakeLink_keeps | with_reducible apply State.put_keeps | simp only [Keeps.mk_eq] | split | (intro _) )

theorem execLinkStateFlood_keeps (x0 : State) {s0 : State} (h0 : Keeps s0 x0) : KeepsOut s0 (execLinkStateFlood x0) := by
  unfold execLinkStateFlood
  try dsimp only
  repeat' (first | with_reducible assumption  | with_reducible apply KeepsOut.next| with_reducible apply State.flood_keeps | simp only [Keeps.mk_eq] | split | (intro _) )

theorem State.nodeConflict_keeps (x0 : Nat) (x1 : State) {s0 : State} (h1 : Keeps s0 x1) : Keeps s0 (State.nodeConflict x0 x1) := by
  unfold State.nodeConflict
  try dsimp only
  repeat' (first | with_reducible assumption | with_reducible apply State.raise_keeps | with_reducible apply State.putB_keeps | simp only [Keeps.mk_eq] | split | (intro _) )

theorem execLinkState_keeps (x0 : Fin 32) (x1 : BitVec 10) (x2 : BitVec 64) (x3 : BitVec 32) (x4 : Vector (BitVec 16) 32) (x5 : State) {s0 : State} (h5 : Keeps s0 x5) : KeepsOut s0 (execLinkState x0 x1 x2 x3 x4 x5) := by
  unfold execLinkState
  try dsimp only
  repeat' (first | with_reducible assumption  | with_reducible apply KeepsOut.next| with_reducible apply State.when_keeps | with_reducible apply State.nodeConflict_keeps | with_reducible apply State.selfRoute_keeps | with_reducible apply State.modFab_keeps | with_reducible apply State.each_keeps | with_reducible apply State.send_keeps | simp only [Keeps.mk_eq] | split | (intro _) )

theorem execLinkStateAgeOut_keeps (x0 : State) {s0 : State} (h0 : Keeps s0 x0) : KeepsOut s0 (execLinkStateAgeOut x0) := by
  unfold execLinkStateAgeOut
  try dsimp only
  repeat' (first | with_reducible assumption  | with_reducible apply KeepsOut.next| with_reducible apply State.selfRoute_keeps | with_reducible apply State.modFab_keeps | simp only [Keeps.mk_eq] | split | (intro _) )

theorem State.activateOwn_keeps (x0 : State) {s0 : State} (h0 : Keeps s0 x0) : Keeps s0 (State.activateOwn x0).1 := by
  unfold State.activateOwn
  try dsimp only
  repeat' (first | with_reducible assumption | with_reducible apply State.ok_keeps | with_reducible apply State.modFab_keeps | simp only [Keeps.mk_eq] | split | (intro _) )

theorem execActivate_keeps (x0 : Nat) (x1 : State) {s0 : State} (h1 : Keeps s0 x1) : KeepsOut s0 (execActivate x0 x1) := by
  unfold execActivate
  try dsimp only
  repeat' (first | with_reducible assumption  | with_reducible apply KeepsOut.next| with_reducible apply State.hostWrite_keeps | with_reducible apply State.activateOwn_keeps | simp only [Keeps.mk_eq] | split | (intro _) )

theorem State.activateRoutes_keeps (x0 : State) {s0 : State} (h0 : Keeps s0 x0) : Keeps s0 (State.activateRoutes x0) := by
  unfold State.activateRoutes
  try dsimp only
  repeat' (first | with_reducible assumption | with_reducible apply State.putBytes_keeps | with_reducible apply State.inc_keeps | with_reducible apply State.modFab_keeps | with_reducible apply State.showRouteSource_keeps | with_reducible apply State.raise0_keeps | simp only [Keeps.mk_eq] | split | (intro _) )

theorem State.routesTick_keeps (x0 : State) {s0 : State} (h0 : Keeps s0 x0) : Keeps s0 (State.routesTick x0) := by
  unfold State.routesTick
  try dsimp only
  repeat' (first | with_reducible assumption | with_reducible apply State.activateRoutes_keeps | simp only [Keeps.mk_eq] | split | (intro _) )

theorem execRoutesActivated_keeps (x0 : State) {s0 : State} (h0 : Keeps s0 x0) : KeepsOut s0 (execRoutesActivated x0) := by
  unfold execRoutesActivated
  try dsimp only
  repeat' (first | with_reducible assumption  | with_reducible apply KeepsOut.next| with_reducible apply State.routesTick_keeps | simp only [Keeps.mk_eq] | split | (intro _) )

theorem State.clearPending_keeps (x0 : State) {s0 : State} (h0 : Keeps s0 x0) : Keeps s0 (State.clearPending x0).1 := by
  unfold State.clearPending
  try dsimp only
  repeat' (first | with_reducible assumption | with_reducible apply State.ok_keeps | with_reducible apply State.putBytes_keeps | simp only [Keeps.mk_eq] | split | (intro _) )

theorem execRouteClearPending_keeps (x0 : Nat) (x1 : State) {s0 : State} (h1 : Keeps s0 x1) : KeepsOut s0 (execRouteClearPending x0 x1) := by
  unfold execRouteClearPending
  try dsimp only
  repeat' (first | with_reducible assumption  | with_reducible apply KeepsOut.next| with_reducible apply State.hostWrite_keeps | with_reducible apply State.clearPending_keeps | simp only [Keeps.mk_eq] | split | (intro _) )

theorem State.sideRequest_keeps (x0 : Fin 32) (x1 : Nat) (x2 : Nat) (x3 : Nat) (x4 : Nat) (x5 : State) {s0 : State} (h5 : Keeps s0 x5) : Keeps s0 (State.sideRequest x0 x1 x2 x3 x4 x5) := by
  unfold State.sideRequest
  try dsimp only
  repeat' (first | with_reducible assumption | with_reducible apply State.modSide_keeps | simp only [Keeps.mk_eq] | split | (intro _) )

theorem execRetimerPoll_keeps (x0 : State) {s0 : State} (h0 : Keeps s0 x0) : KeepsOut s0 (execRetimerPoll x0) := by
  unfold execRetimerPoll
  try dsimp only
  repeat' (first | with_reducible assumption  | with_reducible apply KeepsOut.next| with_reducible apply State.each_keeps | with_reducible apply State.sideRequest_keeps | with_reducible apply State.modSide_keeps | simp only [Keeps.mk_eq] | split | (intro _) )

theorem execSidebandMessage_keeps (x0 : Fin 32) (x1 : Vector Byte 16) (x2 : State) {s0 : State} (h2 : Keeps s0 x2) : KeepsOut s0 (execSidebandMessage x0 x1 x2) := by
  unfold execSidebandMessage
  try dsimp only
  repeat' (first | with_reducible assumption  | with_reducible apply KeepsOut.next| with_reducible apply State.sidebandIn_keeps | simp only [Keeps.mk_eq] | split | (intro _) )

theorem execRetimerLost_keeps (x0 : Fin 32) (x1 : Fin 2) (x2 : State) {s0 : State} (h2 : Keeps s0 x2) : KeepsOut s0 (execRetimerLost x0 x1 x2) := by
  unfold execRetimerLost
  try dsimp only
  repeat' (first | with_reducible assumption  | with_reducible apply KeepsOut.next| with_reducible apply State.raise_keeps | with_reducible apply State.modSide_keeps | simp only [Keeps.mk_eq] | split | (intro _) )

theorem State.retimerCommand_keeps (x0 : Fin 32) (x1 : Int) (x2 : State) {s0 : State} (h2 : Keeps s0 x2) : Keeps s0 (State.retimerCommand x0 x1 x2).1 := by
  unfold State.retimerCommand
  try dsimp only
  repeat' (first | with_reducible assumption | with_reducible apply State.refuse_keeps | with_reducible apply State.ok_keeps | with_reducible apply State.when_keeps | with_reducible apply State.send_keeps | simp only [Keeps.mk_eq] | split | (intro _) )

theorem execRetimerReset_keeps (x0 : Fin 32) (x1 : Nat) (x2 : State) {s0 : State} (h2 : Keeps s0 x2) : KeepsOut s0 (execRetimerReset x0 x1 x2) := by
  unfold execRetimerReset
  try dsimp only
  repeat' (first | with_reducible assumption  | with_reducible apply KeepsOut.next| with_reducible apply State.hostWrite_keeps | with_reducible apply State.retimerCommand_keeps | simp only [Keeps.mk_eq] | split | (intro _) )

theorem execLoopbackOn_keeps (x0 : Fin 32) (x1 : Nat) (x2 : State) {s0 : State} (h2 : Keeps s0 x2) : KeepsOut s0 (execLoopbackOn x0 x1 x2) := by
  unfold execLoopbackOn
  try dsimp only
  repeat' (first | with_reducible assumption  | with_reducible apply KeepsOut.next| with_reducible apply State.hostWrite_keeps | with_reducible apply State.retimerCommand_keeps | simp only [Keeps.mk_eq] | split | (intro _) )

theorem execLoopbackOff_keeps (x0 : Fin 32) (x1 : Nat) (x2 : State) {s0 : State} (h2 : Keeps s0 x2) : KeepsOut s0 (execLoopbackOff x0 x1 x2) := by
  unfold execLoopbackOff
  try dsimp only
  repeat' (first | with_reducible assumption  | with_reducible apply KeepsOut.next| with_reducible apply State.hostWrite_keeps | with_reducible apply State.retimerCommand_keeps | simp only [Keeps.mk_eq] | split | (intro _) )

theorem execEyeMarginRead_keeps (x0 : Vector (BitVec 16 × BitVec 16) 32) (x1 : State) {s0 : State} (h1 : Keeps s0 x1) : KeepsOut s0 (execEyeMarginRead x0 x1) := by
  unfold execEyeMarginRead
  try dsimp only
  repeat' (first | with_reducible assumption  | with_reducible apply KeepsOut.next| with_reducible apply State.each_keeps | with_reducible apply State.modLink_keeps | with_reducible apply State.put_keeps | simp only [Keeps.mk_eq] | split | (intro _) )

theorem execLinkMarginLow_keeps (x0 : Fin 32) (x1 : State) {s0 : State} (h1 : Keeps s0 x1) : KeepsOut s0 (execLinkMarginLow x0 x1) := by
  unfold execLinkMarginLow
  try dsimp only
  repeat' (first | with_reducible assumption  | with_reducible apply KeepsOut.next| with_reducible apply State.raiseOn_keeps | with_reducible apply State.modLink_keeps | simp only [Keeps.mk_eq] | split | (intro _) )

theorem execPfcFrame_keeps (x0 : Fin 2) (x1 : Fin 8) (x2 : BitVec 16) (x3 : State) {s0 : State} (h3 : Keeps s0 x3) : KeepsOut s0 (execPfcFrame x0 x1 x2 x3) := by
  unfold execPfcFrame
  try dsimp only
  repeat' (first | with_reducible assumption  | with_reducible apply KeepsOut.next| with_reducible apply State.incHalf_keeps | simp only [Keeps.mk_eq] | split | (intro _) )

theorem execEthernetFrame_keeps (x0 : Fin 2) (x1 : Fin 8) (x2 : BitVec 12) (x3 : Bool) (x4 : List Byte) (x5 : Nat) (x6 : State) {s0 : State} (h6 : Keeps s0 x6) : KeepsOut s0 (execEthernetFrame x0 x1 x2 x3 x4 x5 x6) := by
  unfold execEthernetFrame
  try dsimp only
  repeat' (first | with_reducible assumption  | with_reducible apply KeepsOut.next| with_reducible apply State.enqueue_keeps | with_reducible apply State.incHalf_keeps | simp only [Keeps.mk_eq] | split | (intro _) )

theorem execPfcRepeat_keeps (x0 : State) {s0 : State} (h0 : Keeps s0 x0) : KeepsOut s0 (execPfcRepeat x0) := by
  unfold execPfcRepeat
  try dsimp only
  repeat' (first | with_reducible assumption  | with_reducible apply KeepsOut.next| with_reducible apply State.each_keeps | with_reducible apply State.sendPfc_keeps | simp only [Keeps.mk_eq] | split | (intro _) )

theorem execQueueItemWrite_keeps (x0 : Fin 512) (x1 : Fin 8) (x2 : BitVec 14) (x3 : List Byte) (x4 : Bool) (x5 : Nat) (x6 : State) {s0 : State} (h6 : Keeps s0 x6) : KeepsOut s0 (execQueueItemWrite x0 x1 x2 x3 x4 x5 x6) := by
  unfold execQueueItemWrite
  try dsimp only
  repeat' (first | with_reducible assumption  | with_reducible apply KeepsOut.next| with_reducible apply State.growItem_keeps | with_reducible apply State.addItem_keeps | simp only [Keeps.mk_eq] | split | (intro _) )

theorem State.readErrors_keeps (x0 : Nat) (x1 : Nat) (x2 : Bool) (x3 : State) {s0 : State} (h3 : Keeps s0 x3) : Keeps s0 (State.readErrors x0 x1 x2 x3) := by
  unfold State.readErrors
  try dsimp only
  repeat' (first | with_reducible assumption | with_reducible apply State.when_keeps | with_reducible apply State.countBy_keeps | with_reducible apply State.raiseOn_keeps | with_reducible apply State.inc_keeps | simp only [Keeps.mk_eq] | split | (intro _) )

theorem State.poisonFirst_keeps (x0 : Nat) (x1 : State) {s0 : State} (h1 : Keeps s0 x1) : Keeps s0 (State.poisonFirst x0 x1) := by
  unfold State.poisonFirst
  try dsimp only
  repeat' (first | with_reducible assumption | with_reducible apply State.setQueue_keeps | simp only [Keeps.mk_eq] | split | (intro _) )

theorem execQueueRead_keeps (x0 : Fin 512) (x1 : Bool) (x2 : Nat) (x3 : BitVec 8) (x4 : Bool) (x5 : State) {s0 : State} (h5 : Keeps s0 x5) : KeepsOut s0 (execQueueRead x0 x1 x2 x3 x4 x5) := by
  unfold execQueueRead
  try dsimp only
  repeat' (first | with_reducible assumption  | with_reducible apply KeepsOut.next| with_reducible apply State.readErrors_keeps | with_reducible apply State.deliver_keeps | with_reducible apply State.setQueue_keeps | with_reducible apply State.send_keeps | simp only [Keeps.mk_eq] | split | (intro _) )

theorem execStallingReadDeadline_keeps (x0 : Fin 512) (x1 : State) {s0 : State} (h1 : Keeps s0 x1) : KeepsOut s0 (execStallingReadDeadline x0 x1) := by
  unfold execStallingReadDeadline
  try dsimp only
  repeat' (first | with_reducible assumption  | with_reducible apply KeepsOut.next| with_reducible apply State.send_keeps | with_reducible apply State.setQueue_keeps | simp only [Keeps.mk_eq] | split | (intro _) )

theorem State.refill_keeps (x0 : Nat) (x1 : State) {s0 : State} (h1 : Keeps s0 x1) : Keeps s0 (State.refill x0 x1) := by
  unfold State.refill
  try dsimp only
  repeat' (first | with_reducible assumption | with_reducible apply State.each_keeps | with_reducible apply State.setQueue_keeps | simp only [Keeps.mk_eq] | split | (intro _) )

theorem execQueueSpillRefill_keeps (x0 : Fin 512) (x1 : State) {s0 : State} (h1 : Keeps s0 x1) : KeepsOut s0 (execQueueSpillRefill x0 x1) := by
  unfold execQueueSpillRefill
  try dsimp only
  repeat' (first | with_reducible assumption  | with_reducible apply KeepsOut.next| with_reducible apply State.poolCheck_keeps | with_reducible apply State.refill_keeps | simp only [Keeps.mk_eq] | split | (intro _) )

theorem State.loseSpilled_keeps (x0 : State) {s0 : State} (h0 : Keeps s0 x0) : Keeps s0 (State.loseSpilled x0) := by
  unfold State.loseSpilled
  try dsimp only
  repeat' (first | with_reducible assumption | with_reducible apply State.each_keeps | with_reducible apply State.setQueue_keeps | with_reducible apply State.watermark_keeps | with_reducible apply State.abandonTo_keeps | with_reducible apply State.dropItem_keeps | simp only [Keeps.mk_eq] | split | (intro _) )

theorem execFlush_keeps (x0 : Fin 512) (x1 : Nat) (x2 : State) {s0 : State} (h2 : Keeps s0 x2) : KeepsOut s0 (execFlush x0 x1 x2) := by
  unfold execFlush
  try dsimp only
  repeat' (first | with_reducible assumption  | with_reducible apply KeepsOut.next| with_reducible apply State.hostWrite_keeps | with_reducible apply State.ok_keeps | with_reducible apply State.flushQueue_keeps | simp only [Keeps.mk_eq] | split | (intro _) )

theorem execQueueLinkFault_keeps (x0 : Fin 512) (x1 : State) {s0 : State} (h1 : Keeps s0 x1) : KeepsOut s0 (execQueueLinkFault x0 x1) := by
  unfold execQueueLinkFault
  try dsimp only
  repeat' (first | with_reducible assumption  | with_reducible apply KeepsOut.next| with_reducible apply State.diagnose_keeps | with_reducible apply State.modPair_keeps | with_reducible apply State.raiseOn_keeps | with_reducible apply State.flushQueue_keeps | simp only [Keeps.mk_eq] | split | (intro _) )

theorem State.queueWrite_keeps (x0 : Nat) (x1 : Nat) (x2 : Nat) (x3 : Int) (x4 : State) {s0 : State} (h4 : Keeps s0 x4) : Keeps s0 (State.queueWrite x0 x1 x2 x3 x4).1 := by
  unfold State.queueWrite
  try dsimp only
  repeat' (first | with_reducible assumption | with_reducible apply State.put_keeps | with_reducible apply State.refuse_keeps | with_reducible apply State.ok_keeps | with_reducible apply State.driveXoff_keeps | with_reducible apply State.poolCheck_keeps | with_reducible apply State.watermark_keeps | simp only [Keeps.mk_eq] | split | (intro _) )

theorem State.startTaken_keeps (x0 : State) {s0 : State} (h0 : Keeps s0 x0) : Keeps s0 (State.startTaken x0) := by
  unfold State.startTaken
  try dsimp only
  repeat' (first | with_reducible assumption | with_reducible apply State.startConverters_keeps | with_reducible apply State.when_keeps | with_reducible apply State.modConv_keeps | with_reducible apply State.putFeedPower_keeps | simp only [Keeps.mk_eq] | split | (intro _) )

theorem State.takeMace_keeps (x0 : State) {s0 : State} (h0 : Keeps s0 x0) : Keeps s0 (State.takeMace x0) := by
  unfold State.takeMace
  try dsimp only
  repeat' (first | with_reducible assumption | with_reducible apply State.put_keeps | with_reducible apply State.inc_keeps | with_reducible apply State.useFree_keeps | with_reducible apply State.raise_keeps | with_reducible apply State.armClaim_keeps | with_reducible apply State.enterMode_keeps | with_reducible apply State.modPins_keeps | with_reducible apply State.modMd_keeps | with_reducible apply State.modPair_keeps | with_reducible apply State.when_keeps | with_reducible apply State.modConv_keeps | with_reducible apply State.each_keeps | with_reducible apply State.modPhase_keeps | with_reducible apply State.startTaken_keeps | simp only [Keeps.mk_eq] | split | (intro _) )

theorem State.sdmYield_keeps (x0 : State) {s0 : State} (h0 : Keeps s0 x0) : Keeps s0 (State.sdmYield x0) := by
  unfold State.sdmYield
  try dsimp only
  repeat' (first | with_reducible assumption | with_reducible apply State.when_keeps | with_reducible apply State.modMd_keeps | simp only [Keeps.mk_eq] | split | (intro _) )

theorem State.dropMace_keeps (x0 : State) {s0 : State} (h0 : Keeps s0 x0) : Keeps s0 (State.dropMace x0) := by
  unfold State.dropMace
  try dsimp only
  repeat' (first | with_reducible assumption | with_reducible apply State.modMd_keeps | with_reducible apply State.modPins_keeps | with_reducible apply State.modPair_keeps | with_reducible apply State.armClaim_keeps | with_reducible apply State.sdmYield_keeps | with_reducible apply State.chainRole_keeps | with_reducible apply State.when_keeps | with_reducible apply State.enterMode_keeps | simp only [Keeps.mk_eq] | split | (intro _) )

theorem State.startHandover_keeps (x0 : AfterHandover) (x1 : State) {s0 : State} (h1 : Keeps s0 x1) : Keeps s0 (State.startHandover x0 x1) := by
  unfold State.startHandover
  try dsimp only
  repeat' (first | with_reducible assumption | with_reducible apply State.sendPair_keeps | with_reducible apply State.modPair_keeps | simp only [Keeps.mk_eq] | split | (intro _) )

theorem State.handOut_keeps (x0 : State) {s0 : State} (h0 : Keeps s0 x0) : Keeps s0 (State.handOut x0) := by
  unfold State.handOut
  try dsimp only
  repeat' (first | with_reducible assumption | with_reducible apply State.armClaim_keeps | with_reducible apply State.modPins_keeps | with_reducible apply State.modMd_keeps | with_reducible apply State.each_keeps | with_reducible apply State.modPhase_keeps | with_reducible apply State.inc_keeps | with_reducible apply State.enterMode_keeps | with_reducible apply State.chainRole_keeps | with_reducible apply State.raise0_keeps | with_reducible apply State.modPair_keeps | simp only [Keeps.mk_eq] | split | (intro _) )

theorem State.haltGate_keeps (x0 : State) {s0 : State} (h0 : Keeps s0 x0) : Keeps s0 (State.haltGate x0) := by
  unfold State.haltGate
  try dsimp only
  repeat' (first | with_reducible assumption | with_reducible apply State.each_keeps | with_reducible apply State.modCore_keeps | with_reducible apply State.safApply_keeps | with_reducible apply State.modMd_keeps | simp only [Keeps.mk_eq] | split | (intro _) )

theorem State.haltStep_keeps (x0 : State) {s0 : State} (h0 : Keeps s0 x0) : Keeps s0 (State.haltStep x0) := by
  unfold State.haltStep
  try dsimp only
  repeat' (first | with_reducible assumption | with_reducible apply State.when_keeps | with_reducible apply State.startFlush_keeps | with_reducible apply State.modMd_keeps | with_reducible apply State.raise0_keeps | with_reducible apply State.diagnose_keeps | with_reducible apply State.haltGate_keeps | simp only [Keeps.mk_eq] | split | (intro _) )

theorem State.halt_keeps (x0 : State) {s0 : State} (h0 : Keeps s0 x0) : Keeps s0 (State.halt x0) := by
  unfold State.halt
  try dsimp only
  repeat' (first | with_reducible assumption | with_reducible apply State.when_keeps | with_reducible apply State.sleepAll_keeps | with_reducible apply State.modMd_keeps | with_reducible apply State.enterMode_keeps | with_reducible apply State.journalTrigger_keeps | with_reducible apply State.modPins_keeps | with_reducible apply State.armClaim_keeps | with_reducible apply State.put_keeps | with_reducible apply State.haltStep_keeps | with_reducible apply State.diagnose_keeps | simp only [Keeps.mk_eq] | split | (intro _) )

end Sys2Proof.Machine
end

