-- ==== Sys2Proof/Laws/KeepsStart.lean ====
section
/-! SUPPORT. What Keeps (Safety.lean) says of resets, supply, start, security and the recorder: one lemma for each operation. -/

namespace Sys2Proof.Machine

theorem State.afterReset_keeps (x0 : ResetKind) (x1 : State) {s0 : State} (h1 : Keeps s0 x1) : Keeps s0 (State.afterReset x0 x1) := by
  unfold State.afterReset
  dsimp only
  refine State.showTime_keeps _ (State.put_keeps _ _ _ (State.put_keeps _ _ _ (State.put_keeps _ _ _ ⟨h1.pending, h1.free, h1.sent, fun hs => ?_⟩)))
  obtain ⟨ho, hb, hr⟩ := h1.sane hs
  refine ⟨Sparse.filter_wf _ _ _ ho, filter_rising _ _ hb, ?_⟩
  obtain ⟨_, h2, h3⟩ := hr
  refine ⟨Nat.zero_le _, ?_, h3⟩
  simp only [RecState.atReset]
  split
  · exact h2
  · exact Nat.zero_le _

theorem State.resetWith_keeps (x0 : ResetKind) (x1 : Nat) (x2 : State) {s0 : State} (h2 : Keeps s0 x2) : Keeps s0 (State.resetWith x0 x1 x2) := by
  unfold State.resetWith
  try dsimp only
  repeat' (first | with_reducible assumption | with_reducible apply State.put_keeps | with_reducible apply State.afterReset_keeps | with_reducible apply State.raise0_keeps | simp only [Keeps.mk_eq] | split | (intro _) )

theorem State.doReset_keeps (x0 : ResetKind) (x1 : State) {s0 : State} (h1 : Keeps s0 x1) : Keeps s0 (State.doReset x0 x1) := by
  unfold State.doReset
  try dsimp only
  repeat' (first | with_reducible assumption | with_reducible apply State.resetWith_keeps | with_reducible apply State.put_keeps | with_reducible apply State.afterReset_keeps | simp only [Keeps.mk_eq] | split | (intro _) )

theorem State.resetOrWait_keeps (x0 : ResetKind) (x1 : State) {s0 : State} (h1 : Keeps s0 x1) : Keeps s0 (State.resetOrWait x0 x1) := by
  unfold State.resetOrWait
  try dsimp only
  repeat' (first | with_reducible assumption | with_reducible apply State.modMd_keeps | with_reducible apply State.doReset_keeps | simp only [Keeps.mk_eq] | split | (intro _) )

theorem State.modCry_keeps (x0 : SecSt → SecSt) (x1 : State) {s0 : State} (h1 : Keeps s0 x1) : Keeps s0 (State.modCry x0 x1) := by
  unfold State.modCry
  try dsimp only
  repeat' (first | with_reducible assumption  | simp only [Keeps.mk_eq] | split | (intro _) )

theorem State.setCounter_keeps (x0 : Nat) (x1 : Nat) (x2 : State) {s0 : State} (h2 : Keeps s0 x2) : Keeps s0 (State.setCounter x0 x1 x2) := by
  unfold State.setCounter
  try dsimp only
  repeat' (first | with_reducible assumption | with_reducible apply State.modMd_keeps | with_reducible apply State.modCry_keeps | simp only [Keeps.mk_eq] | split | (intro _) )

theorem State.modBank_keeps (x0 : Bool) (x1 : BankSt → BankSt) (x2 : State) {s0 : State} (h2 : Keeps s0 x2) : Keeps s0 (State.modBank x0 x1 x2) := by
  unfold State.modBank
  try dsimp only
  repeat' (first | with_reducible assumption | with_reducible apply State.modMd_keeps | simp only [Keeps.mk_eq] | split | (intro _) )

theorem State.preferBank_keeps (x0 : Bool) (x1 : State) {s0 : State} (h1 : Keeps s0 x1) : Keeps s0 (State.preferBank x0 x1) := by
  unfold State.preferBank
  try dsimp only
  repeat' (first | with_reducible assumption | with_reducible apply State.modMd_keeps | simp only [Keeps.mk_eq] | split | (intro _) )

theorem State.markBank_keeps (x0 : Nat) (x1 : Bool) (x2 : State) {s0 : State} (h2 : Keeps s0 x2) : Keeps s0 (State.markBank x0 x1 x2) := by
  unfold State.markBank
  try dsimp only
  repeat' (first | with_reducible assumption | with_reducible apply State.raiseOn_keeps | with_reducible apply State.modBank_keeps | simp only [Keeps.mk_eq] | split | (intro _) )

theorem State.spoilSlot_keeps (x0 : Nat) (x1 : Nat) (x2 : State) {s0 : State} (h2 : Keeps s0 x2) : Keeps s0 (State.spoilSlot x0 x1 x2) := by
  unfold State.spoilSlot
  try dsimp only
  repeat' (first | with_reducible assumption | with_reducible apply State.put_keeps | simp only [Keeps.mk_eq] | split | (intro _) )

theorem State.markSlot_keeps (x0 : Nat) (x1 : StoredHdr) (x2 : State) {s0 : State} (h2 : Keeps s0 x2) : Keeps s0 (State.markSlot x0 x1 x2) := by
  unfold State.markSlot
  try dsimp only
  repeat' (first | with_reducible assumption | with_reducible apply State.raise_keeps | with_reducible apply State.spoilSlot_keeps | simp only [Keeps.mk_eq] | split | (intro _) )

theorem State.raiseCounter_keeps (x0 : Nat) (x1 : Nat) (x2 : State) {s0 : State} (h2 : Keeps s0 x2) : Keeps s0 (State.raiseCounter x0 x1 x2) := by
  unfold State.raiseCounter
  try dsimp only
  repeat' (first | with_reducible assumption | with_reducible apply State.raise_keeps | with_reducible apply State.setCounter_keeps | with_reducible apply State.each_keeps | with_reducible apply State.markBank_keeps | with_reducible apply State.markSlot_keeps | simp only [Keeps.mk_eq] | split | (intro _) )

theorem State.watchKeys_keeps (x0 : State) {s0 : State} (h0 : Keeps s0 x0) : Keeps s0 (State.watchKeys x0) := by
  unfold State.watchKeys
  try dsimp only
  repeat' (first | with_reducible assumption | with_reducible apply State.when_keeps | with_reducible apply State.raise0_keeps | with_reducible apply State.modCry_keeps | with_reducible apply State.put_keeps | simp only [Keeps.mk_eq] | split | (intro _) )

theorem State.silence_keeps (x0 : State) {s0 : State} (h0 : Keeps s0 x0) : Keeps s0 (State.silence x0) := by
  unfold State.silence
  try dsimp only
  repeat' (first | with_reducible assumption | with_reducible apply State.each_keeps | with_reducible apply State.when_keeps | with_reducible apply State.enterLink_keeps | with_reducible apply State.modLink_keeps | simp only [Keeps.mk_eq] | split | (intro _) )

theorem State.zeroise_keeps (x0 : Nat) (x1 : State) {s0 : State} (h1 : Keeps s0 x1) : Keeps s0 (State.zeroise x0 x1) := by
  unfold State.zeroise
  try dsimp only
  repeat' (first | with_reducible assumption | with_reducible apply State.modPins_keeps | with_reducible apply State.dropMace_keeps | with_reducible apply State.silence_keeps | with_reducible apply State.modClv_keeps | with_reducible apply State.inc_keeps | with_reducible apply State.modCry_keeps | with_reducible apply State.resetOrWait_keeps | simp only [Keeps.mk_eq] | split | (intro _) )

theorem State.newKeys_keeps (x0 : State) {s0 : State} (h0 : Keeps s0 x0) : Keeps s0 (State.newKeys x0) := by
  unfold State.newKeys
  try dsimp only
  repeat' (first | with_reducible assumption | with_reducible apply State.useFree_keeps | with_reducible apply State.modCry_keeps | simp only [Keeps.mk_eq] | split | (intro _) )

theorem State.afterZeroise_keeps (x0 : State) {s0 : State} (h0 : Keeps s0 x0) : Keeps s0 (State.afterZeroise x0) := by
  unfold State.afterZeroise
  try dsimp only
  repeat' (first | with_reducible assumption | with_reducible apply State.each_keeps | with_reducible apply State.putBytes_keeps | with_reducible apply State.put_keeps | with_reducible apply State.newKeys_keeps | with_reducible apply State.useFree_keeps | with_reducible apply State.modCry_keeps | with_reducible apply State.raise_keeps | simp only [Keeps.mk_eq] | split | (intro _) )

theorem State.cryptoError_keeps (x0 : State) {s0 : State} (h0 : Keeps s0 x0) : Keeps s0 (State.cryptoError x0) := by
  unfold State.cryptoError
  try dsimp only
  repeat' (first | with_reducible assumption | with_reducible apply State.raise0_keeps | with_reducible apply State.silence_keeps | with_reducible apply State.modPins_keeps | with_reducible apply State.dropMace_keeps | with_reducible apply State.startFlush_keeps | with_reducible apply State.modCry_keeps | simp only [Keeps.mk_eq] | split | (intro _) )

theorem State.afterError_keeps (x0 : State) {s0 : State} (h0 : Keeps s0 x0) : Keeps s0 (State.afterError x0) := by
  unfold State.afterError
  try dsimp only
  repeat' (first | with_reducible assumption | with_reducible apply State.resetOrWait_keeps | simp only [Keeps.mk_eq] | split | (intro _) )

theorem execHoldSwitchIn_keeps (x0 : State) {s0 : State} (h0 : Keeps s0 x0) : KeepsOut s0 (execHoldSwitchIn x0) := by
  unfold execHoldSwitchIn
  try dsimp only
  repeat' (first | with_reducible assumption  | with_reducible apply KeepsOut.next| with_reducible apply State.when_keeps | with_reducible apply State.modMd_keeps | simp only [Keeps.mk_eq] | split | (intro _) )

theorem execMainDip_keeps (x0 : State) {s0 : State} (h0 : Keeps s0 x0) : KeepsOut s0 (execMainDip x0) := by
  unfold execMainDip
  try dsimp only
  repeat' (first | with_reducible assumption  | with_reducible apply KeepsOut.next| with_reducible apply State.raise0_keeps | with_reducible apply State.inc_keeps | with_reducible apply State.modMd_keeps | simp only [Keeps.mk_eq] | split | (intro _) )

theorem State.shed_keeps (x0 : State) {s0 : State} (h0 : Keeps s0 x0) : Keeps s0 (State.shed x0) := by
  unfold State.shed
  try dsimp only
  repeat' (first | with_reducible assumption | with_reducible apply State.modMd_keeps | with_reducible apply State.each_keeps | with_reducible apply State.modCore_keeps | with_reducible apply State.when_keeps | with_reducible apply State.enterLink_keeps | with_reducible apply State.modLink_keeps | with_reducible apply State.put_keeps | with_reducible apply State.showOccupancy_keeps | with_reducible apply State.modClv_keeps | with_reducible apply State.loseSpilled_keeps | with_reducible apply State.safApply_keeps | simp only [Keeps.mk_eq] | split | (intro _) )

theorem execMainLoss_keeps (x0 : State) {s0 : State} (h0 : Keeps s0 x0) : KeepsOut s0 (execMainLoss x0) := by
  unfold execMainLoss
  try dsimp only
  repeat' (first | with_reducible assumption  | with_reducible apply KeepsOut.next| with_reducible apply State.disarmAll_keeps | with_reducible apply State.raise0_keeps | with_reducible apply State.inc_keeps | with_reducible apply State.modPins_keeps | with_reducible apply State.enterMode_keeps | with_reducible apply State.modMd_keeps | with_reducible apply State.dropMace_keeps | with_reducible apply State.startFlush_keeps | with_reducible apply State.diagnose_keeps | with_reducible apply State.shed_keeps | with_reducible apply State.put_keeps | simp only [Keeps.mk_eq] | split | (intro _) )

theorem execPowerFailRestart_keeps (x0 : State) {s0 : State} (h0 : Keeps s0 x0) : KeepsOut s0 (execPowerFailRestart x0) := by
  unfold execPowerFailRestart
  try dsimp only
  repeat' (first | with_reducible assumption  | with_reducible apply KeepsOut.next| with_reducible apply State.doReset_keeps | simp only [Keeps.mk_eq] | split | (intro _) )

theorem execHoldUndervoltage_keeps (x0 : State) {s0 : State} (h0 : Keeps s0 x0) : KeepsOut s0 (execHoldUndervoltage x0) := by
  unfold execHoldUndervoltage
  try dsimp only
  repeat' (first | with_reducible assumption  | with_reducible apply KeepsOut.next| with_reducible apply State.raise0_keeps | with_reducible apply State.modRcd_keeps | with_reducible apply State.modPins_keeps | with_reducible apply State.modSoc_keeps | with_reducible apply State.modMd_keeps | exact fun _ hb => hb | exact fun _ hb => ⟨hb.1, Nat.zero_le _, Nat.zero_le _⟩ | simp only [Keeps.mk_eq] | split | (intro _) )

theorem State.readMain_keeps (x0 : BitVec 16) (x1 : State) {s0 : State} (h1 : Keeps s0 x1) : Keeps s0 (State.readMain x0 x1) := by
  unfold State.readMain
  try dsimp only
  repeat' (first | with_reducible assumption | with_reducible apply State.noteTimer_keeps | with_reducible apply State.put_keeps | simp only [Keeps.mk_eq] | split | (intro _) )

theorem State.readAux_keeps (x0 : BitVec 16) (x1 : State) {s0 : State} (h1 : Keeps s0 x1) : Keeps s0 (State.readAux x0 x1) := by
  unfold State.readAux
  try dsimp only
  repeat' (first | with_reducible assumption | with_reducible apply State.noteTimer_keeps | with_reducible apply State.put_keeps | simp only [Keeps.mk_eq] | split | (intro _) )

theorem State.noteHold_keeps (x0 : State) {s0 : State} (h0 : Keeps s0 x0) : Keeps s0 (State.noteHold x0) := by
  unfold State.noteHold
  try dsimp only
  repeat' (first | with_reducible assumption | with_reducible apply State.noteTimer_keeps | simp only [Keeps.mk_eq] | split | (intro _) )

theorem execHoldEnergyPublish_keeps (x0 : BitVec 16) (x1 : BitVec 16) (x2 : BitVec 16) (x3 : BitVec 16) (x4 : State) {s0 : State} (h4 : Keeps s0 x4) : KeepsOut s0 (execHoldEnergyPublish x0 x1 x2 x3 x4) := by
  unfold execHoldEnergyPublish
  try dsimp only
  repeat' (first | with_reducible assumption  | with_reducible apply KeepsOut.next| with_reducible apply State.put_keeps | with_reducible apply State.readAux_keeps | with_reducible apply State.readMain_keeps | with_reducible apply State.noteHold_keeps | simp only [Keeps.mk_eq] | split | (intro _) )

theorem execHoldEnergyLow_keeps (x0 : State) {s0 : State} (h0 : Keeps s0 x0) : KeepsOut s0 (execHoldEnergyLow x0) := by
  unfold execHoldEnergyLow
  try dsimp only
  repeat' (first | with_reducible assumption  | with_reducible apply KeepsOut.next| with_reducible apply State.noteHold_keeps | with_reducible apply State.when_keeps | with_reducible apply State.raise0_keeps | simp only [Keeps.mk_eq] | split | (intro _) )

theorem execMainOutOfRange_keeps (x0 : BitVec 16) (x1 : State) {s0 : State} (h1 : Keeps s0 x1) : KeepsOut s0 (execMainOutOfRange x0 x1) := by
  unfold execMainOutOfRange
  try dsimp only
  repeat' (first | with_reducible assumption  | with_reducible apply KeepsOut.next| with_reducible apply State.readMain_keeps | with_reducible apply State.when_keeps | with_reducible apply State.raise0_keeps | simp only [Keeps.mk_eq] | split | (intro _) )

theorem execAuxLow_keeps (x0 : BitVec 16) (x1 : State) {s0 : State} (h1 : Keeps s0 x1) : KeepsOut s0 (execAuxLow x0 x1) := by
  unfold execAuxLow
  try dsimp only
  repeat' (first | with_reducible assumption  | with_reducible apply KeepsOut.next| with_reducible apply State.readAux_keeps | with_reducible apply State.when_keeps | with_reducible apply State.raise0_keeps | simp only [Keeps.mk_eq] | split | (intro _) )

theorem State.trimStep_keeps (x0 : Fin 9) (x1 : Int) (x2 : Nat) (x3 : State) {s0 : State} (h3 : Keeps s0 x3) : Keeps s0 (State.trimStep x0 x1 x2 x3) := by
  unfold State.trimStep
  try dsimp only
  repeat' (first | with_reducible assumption | with_reducible apply State.modMd_keeps | with_reducible apply State.put_keeps | with_reducible apply State.raise_keeps | with_reducible apply State.inc_keeps | simp only [Keeps.mk_eq] | split | (intro _) )

theorem State.trimLimit_keeps (x0 : Fin 9) (x1 : Nat) (x2 : State) {s0 : State} (h2 : Keeps s0 x2) : Keeps s0 (State.trimLimit x0 x1 x2) := by
  unfold State.trimLimit
  try dsimp only
  repeat' (first | with_reducible assumption | with_reducible apply State.raiseOn_keeps | with_reducible apply State.modMd_keeps | simp only [Keeps.mk_eq] | split | (intro _) )

theorem execTrimRaise_keeps (x0 : Fin 9) (x1 : BitVec 6) (x2 : State) {s0 : State} (h2 : Keeps s0 x2) : KeepsOut s0 (execTrimRaise x0 x1 x2) := by
  unfold execTrimRaise
  try dsimp only
  repeat' (first | with_reducible assumption  | with_reducible apply KeepsOut.next| with_reducible apply State.restartTimer_keeps | with_reducible apply State.trimLimit_keeps | with_reducible apply State.trimStep_keeps | simp only [Keeps.mk_eq] | split | (intro _) )

theorem execTrimLower_keeps (x0 : Fin 9) (x1 : BitVec 6) (x2 : State) {s0 : State} (h2 : Keeps s0 x2) : KeepsOut s0 (execTrimLower x0 x1 x2) := by
  unfold execTrimLower
  try dsimp only
  repeat' (first | with_reducible assumption  | with_reducible apply KeepsOut.next| with_reducible apply State.when_keeps | with_reducible apply State.restartTimer_keeps | with_reducible apply State.trimStep_keeps | simp only [Keeps.mk_eq] | split | (intro _) )

theorem State.modJunction_keeps (x0 : Junction → Junction) (x1 : State) {s0 : State} (h1 : Keeps s0 x1) : Keeps s0 (State.modJunction x0 x1) := by
  unfold State.modJunction
  try dsimp only
  repeat' (first | with_reducible assumption | with_reducible apply State.modMd_keeps | simp only [Keeps.mk_eq] | split | (intro _) )

theorem State.readJunction_keeps (x0 : Int) (x1 : State) {s0 : State} (h1 : Keeps s0 x1) : Keeps s0 (State.readJunction x0 x1) := by
  unfold State.readJunction
  try dsimp only
  repeat' (first | with_reducible assumption | with_reducible apply State.noteTimer_keeps | with_reducible apply State.put_keeps | simp only [Keeps.mk_eq] | split | (intro _) )

theorem execJunctionWarning_keeps (x0 : BitVec 16) (x1 : State) {s0 : State} (h1 : Keeps s0 x1) : KeepsOut s0 (execJunctionWarning x0 x1) := by
  unfold execJunctionWarning
  try dsimp only
  repeat' (first | with_reducible assumption  | with_reducible apply KeepsOut.next| with_reducible apply State.readJunction_keeps | with_reducible apply State.raise_keeps | with_reducible apply State.modJunction_keeps | simp only [Keeps.mk_eq] | split | (intro _) )

theorem State.safLater_keeps (x0 : State) {s0 : State} (h0 : Keeps s0 x0) : Keeps s0 (State.safLater x0) := by
  unfold State.safLater
  try dsimp only
  repeat' (first | with_reducible assumption | with_reducible apply State.modMd_keeps | simp only [Keeps.mk_eq] | split | (intro _) )

theorem execJunctionHigh_keeps (x0 : BitVec 16) (x1 : State) {s0 : State} (h1 : Keeps s0 x1) : KeepsOut s0 (execJunctionHigh x0 x1) := by
  unfold execJunctionHigh
  try dsimp only
  repeat' (first | with_reducible assumption  | with_reducible apply KeepsOut.next| with_reducible apply State.readJunction_keeps | with_reducible apply State.safLater_keeps | with_reducible apply State.raise_keeps | with_reducible apply State.modJunction_keeps | simp only [Keeps.mk_eq] | split | (intro _) )

theorem State.sayCritical_keeps (x0 : Args) (x1 : State) {s0 : State} (h1 : Keeps s0 x1) : Keeps s0 (State.sayCritical x0 x1) := by
  unfold State.sayCritical
  try dsimp only
  repeat' (first | with_reducible assumption | with_reducible apply State.diagnose_keeps | with_reducible apply State.raise_keeps | with_reducible apply State.when_keeps | with_reducible apply State.dropMace_keeps | simp only [Keeps.mk_eq] | split | (intro _) )

theorem execJunctionCritical_keeps (x0 : BitVec 16) (x1 : State) {s0 : State} (h1 : Keeps s0 x1) : KeepsOut s0 (execJunctionCritical x0 x1) := by
  unfold execJunctionCritical
  try dsimp only
  repeat' (first | with_reducible assumption  | with_reducible apply KeepsOut.next| with_reducible apply State.readJunction_keeps | with_reducible apply State.modJunction_keeps | with_reducible apply State.when_keeps | with_reducible apply State.sayCritical_keeps | simp only [Keeps.mk_eq] | split | (intro _) )

theorem execJunctionClear_keeps (x0 : BitVec 16) (x1 : State) {s0 : State} (h1 : Keeps s0 x1) : KeepsOut s0 (execJunctionClear x0 x1) := by
  unfold execJunctionClear
  try dsimp only
  repeat' (first | with_reducible assumption  | with_reducible apply KeepsOut.next| with_reducible apply State.readJunction_keeps | with_reducible apply State.diagnose_keeps | with_reducible apply State.safLater_keeps | with_reducible apply State.modJunction_keeps | simp only [Keeps.mk_eq] | split | (intro _) )

theorem execThermalTrip_keeps (x0 : BitVec 16) (x1 : State) {s0 : State} (h1 : Keeps s0 x1) : KeepsOut s0 (execThermalTrip x0 x1) := by
  unfold execThermalTrip
  try dsimp only
  repeat' (first | with_reducible assumption  | with_reducible apply KeepsOut.next| with_reducible apply State.readJunction_keeps | with_reducible apply State.resetOrWait_keeps | with_reducible apply State.modJunction_keeps | simp only [Keeps.mk_eq] | split | (intro _) )

theorem execThermalTripRelease_keeps (x0 : BitVec 16) (x1 : State) {s0 : State} (h1 : Keeps s0 x1) : KeepsOut s0 (execThermalTripRelease x0 x1) := by
  unfold execThermalTripRelease
  try dsimp only
  repeat' (first | with_reducible assumption  | with_reducible apply KeepsOut.next| with_reducible apply State.readJunction_keeps | with_reducible apply State.modMd_keeps | with_reducible apply State.when_keeps | with_reducible apply State.raise0_keeps | simp only [Keeps.mk_eq] | split | (intro _) )

theorem State.noteCoolant_keeps (x0 : State) {s0 : State} (h0 : Keeps s0 x0) : Keeps s0 (State.noteCoolant x0) := by
  unfold State.noteCoolant
  try dsimp only
  repeat' (first | with_reducible assumption | with_reducible apply State.noteTimer_keeps | simp only [Keeps.mk_eq] | split | (intro _) )

theorem State.showThermal_keeps (x0 : Int) (x1 : Int) (x2 : Int) (x3 : State) {s0 : State} (h3 : Keeps s0 x3) : Keeps s0 (State.showThermal x0 x1 x2 x3) := by
  unfold State.showThermal
  try dsimp only
  repeat' (first | with_reducible assumption | with_reducible apply State.put_keeps | with_reducible apply State.readJunction_keeps | with_reducible apply State.useFree_keeps | with_reducible apply State.noteCoolant_keeps | simp only [Keeps.mk_eq] | split | (intro _) )

theorem execCoolantFlowLow_keeps (x0 : State) {s0 : State} (h0 : Keeps s0 x0) : KeepsOut s0 (execCoolantFlowLow x0) := by
  unfold execCoolantFlowLow
  try dsimp only
  repeat' (first | with_reducible assumption  | with_reducible apply KeepsOut.next| with_reducible apply State.noteCoolant_keeps | with_reducible apply State.when_keeps | with_reducible apply State.raise0_keeps | simp only [Keeps.mk_eq] | split | (intro _) )

theorem execCoolantInletHigh_keeps (x0 : State) {s0 : State} (h0 : Keeps s0 x0) : KeepsOut s0 (execCoolantInletHigh x0) := by
  unfold execCoolantInletHigh
  try dsimp only
  repeat' (first | with_reducible assumption  | with_reducible apply KeepsOut.next| with_reducible apply State.noteCoolant_keeps | with_reducible apply State.when_keeps | with_reducible apply State.raise0_keeps | simp only [Keeps.mk_eq] | split | (intro _) )

theorem State.refClock_keeps (x0 : Bool) (x1 : State) {s0 : State} (h1 : Keeps s0 x1) : Keeps s0 (State.refClock x0 x1) := by
  unfold State.refClock
  try dsimp only
  repeat' (first | with_reducible assumption | with_reducible apply State.when_keeps | with_reducible apply State.raise0_keeps | with_reducible apply State.modTime_keeps | simp only [Keeps.mk_eq] | split | (intro _) )

theorem execRefClockLoss_keeps (x0 : State) {s0 : State} (h0 : Keeps s0 x0) : KeepsOut s0 (execRefClockLoss x0) := by
  unfold execRefClockLoss
  try dsimp only
  repeat' (first | with_reducible assumption  | with_reducible apply KeepsOut.next| with_reducible apply State.refClock_keeps | simp only [Keeps.mk_eq] | split | (intro _) )

theorem State.showPll_keeps (x0 : BitVec 6) (x1 : State) {s0 : State} (h1 : Keeps s0 x1) : Keeps s0 (State.showPll x0 x1) := by
  unfold State.showPll
  try dsimp only
  repeat' (first | with_reducible assumption | with_reducible apply State.modPair_keeps | with_reducible apply State.modMd_keeps | simp only [Keeps.mk_eq] | split | (intro _) )

theorem execPllUnlock_keeps (x0 : Fin 6) (x1 : State) {s0 : State} (h1 : Keeps s0 x1) : KeepsOut s0 (execPllUnlock x0 x1) := by
  unfold execPllUnlock
  try dsimp only
  repeat' (first | with_reducible assumption  | with_reducible apply KeepsOut.next| with_reducible apply State.diagnose_keeps | with_reducible apply State.raiseOn_keeps | with_reducible apply State.showPll_keeps | simp only [Keeps.mk_eq] | split | (intro _) )

theorem execSdmClockTakeover_keeps (x0 : Fin 4) (x1 : State) {s0 : State} (h1 : Keeps s0 x1) : KeepsOut s0 (execSdmClockTakeover x0 x1) := by
  unfold execSdmClockTakeover
  try dsimp only
  repeat' (first | with_reducible assumption  | with_reducible apply KeepsOut.next| with_reducible apply State.raiseOn_keeps | with_reducible apply State.modMd_keeps | simp only [Keeps.mk_eq] | split | (intro _) )

theorem execMaceLineConflict_keeps (x0 : State) {s0 : State} (h0 : Keeps s0 x0) : KeepsOut s0 (execMaceLineConflict x0) := by
  unfold execMaceLineConflict
  try dsimp only
  repeat' (first | with_reducible assumption  | with_reducible apply KeepsOut.next| with_reducible apply State.raise0_keeps | with_reducible apply State.modMd_keeps | with_reducible apply State.dropMace_keeps | simp only [Keeps.mk_eq] | split | (intro _) )

theorem execPpsOutPulse_keeps (x0 : State) {s0 : State} (h0 : Keeps s0 x0) : KeepsOut s0 (execPpsOutPulse x0) := by
  unfold execPpsOutPulse
  try dsimp only
  repeat' (first | with_reducible assumption  | with_reducible apply KeepsOut.next| with_reducible apply State.when_keeps | with_reducible apply State.modPins_keeps | simp only [Keeps.mk_eq] | split | (intro _) )

theorem execBoundaryScanInstruction_keeps (x0 : Jtag) (x1 : Bool) (x2 : State) {s0 : State} (h2 : Keeps s0 x2) : KeepsOut s0 (execBoundaryScanInstruction x0 x1 x2) := by
  unfold execBoundaryScanInstruction
  try dsimp only
  repeat' (first | with_reducible assumption  | with_reducible apply KeepsOut.next| with_reducible apply State.modPins_keeps | with_reducible apply State.when_keeps | with_reducible apply State.modMd_keeps | simp only [Keeps.mk_eq] | split | (intro _) )

theorem execStartCondition_keeps (x0 : Bool) (x1 : State) {s0 : State} (h1 : Keeps s0 x1) : KeepsOut s0 (execStartCondition x0 x1) := by
  unfold execStartCondition
  try dsimp only
  repeat' (first | with_reducible assumption  | with_reducible apply KeepsOut.next| with_reducible apply State.inc_keeps | with_reducible apply State.doReset_keeps | with_reducible apply State.modMd_keeps | simp only [Keeps.mk_eq] | split | (intro _) )

theorem State.recoverRing_keeps (x0 : List Nat) (x1 : State) {s0 : State} (h1 : Keeps s0 x1) : Keeps s0 (State.recoverRing x0 x1) := by
  unfold State.recoverRing
  split
  · dsimp only
    refine State.when_keeps _ _ _ (fun _ => State.raise_keeps _ _ _) (State.when_keeps _ _ _ (fun _ => State.raise_keeps _ _ _)
      (State.flushRing_keeps _ (State.modRcd_keeps _ _ h1 fun _ hb => ⟨hb.1, ?_, hb.2.2⟩)))
    exact Nat.le_trans (List.length_filter_le _ _) hb.2.1
  · exact h1

theorem State.countFailed_keeps (x0 : State) {s0 : State} (h0 : Keeps s0 x0) : Keeps s0 (State.countFailed x0) := by
  unfold State.countFailed
  try dsimp only
  repeat' (first | with_reducible assumption | with_reducible apply State.modMd_keeps | with_reducible apply State.modBank_keeps | with_reducible apply State.raiseOn_keeps | simp only [Keeps.mk_eq] | split | (intro _) )

theorem State.tryBank_keeps (x0 : Bool) (x1 : State) {s0 : State} (h1 : Keeps s0 x1) : Keeps s0 (State.tryBank x0 x1).1 := by
  unfold State.tryBank
  try dsimp only
  repeat' (first | with_reducible assumption | with_reducible apply State.raiseOn_keeps | with_reducible apply State.modBank_keeps | simp only [Keeps.mk_eq] | split | (intro _) )

theorem State.selectBank_keeps (x0 : State) {s0 : State} (h0 : Keeps s0 x0) : Keeps s0 (State.selectBank x0) := by
  unfold State.selectBank
  try dsimp only
  repeat' (first | with_reducible assumption | with_reducible apply State.tryBank_keeps | with_reducible apply State.modMd_keeps | with_reducible apply State.raiseOn_keeps | with_reducible apply State.inc_keeps | simp only [Keeps.mk_eq] | split | (intro _) )

theorem State.enterRecoveryRom_keeps (x0 : State) {s0 : State} (h0 : Keeps s0 x0) : Keeps s0 (State.enterRecoveryRom x0) := by
  unfold State.enterRecoveryRom
  try dsimp only
  repeat' (first | with_reducible assumption | with_reducible apply State.enterMode_keeps | with_reducible apply State.recordInMram_keeps | with_reducible apply State.modMd_keeps | with_reducible apply State.put_keeps | with_reducible apply State.wakeLink_keeps | simp only [Keeps.mk_eq] | split | (intro _) )

theorem State.startCore_keeps (x0 : Fin 4) (x1 : State) {s0 : State} (h1 : Keeps s0 x1) : Keeps s0 (State.startCore x0 x1) := by
  unfold State.startCore
  try dsimp only
  repeat' (first | with_reducible assumption | with_reducible apply State.admitRecord_keeps | with_reducible apply State.modCore_keeps | with_reducible apply State.enforceOn_keeps | with_reducible apply State.raiseOn_keeps | simp only [Keeps.mk_eq] | split | (intro _) )

theorem State.measureStart_keeps (x0 : State) {s0 : State} (h0 : Keeps s0 x0) : Keeps s0 (State.measureStart x0) := by
  unfold State.measureStart
  try dsimp only
  repeat' (first | with_reducible assumption | with_reducible apply State.measure_keeps | with_reducible apply State.each_keeps | with_reducible apply State.measureValue_keeps | simp only [Keeps.mk_eq] | split | (intro _) )

theorem State.takeNodeId_keeps (x0 : State) {s0 : State} (h0 : Keeps s0 x0) : Keeps s0 (State.takeNodeId x0) := by
  unfold State.takeNodeId
  try dsimp only
  repeat' (first | with_reducible assumption | with_reducible apply State.put_keeps | simp only [Keeps.mk_eq] | split | (intro _) )

theorem State.seedDither_keeps (x0 : State) {s0 : State} (h0 : Keeps s0 x0) : Keeps s0 (State.seedDither x0) := by
  unfold State.seedDither
  try dsimp only
  repeat' (first | with_reducible assumption | with_reducible apply State.each_keeps | with_reducible apply State.placeOffsets_keeps | with_reducible apply State.modConv_keeps | simp only [Keeps.mk_eq] | split | (intro _) )

theorem State.chainWake_keeps (x0 : State) {s0 : State} (h0 : Keeps s0 x0) : Keeps s0 (State.chainWake x0) := by
  unfold State.chainWake
  try dsimp only
  repeat' (first | with_reducible assumption | with_reducible apply State.modChain_keeps | with_reducible apply State.put_keeps | simp only [Keeps.mk_eq] | split | (intro _) )

theorem State.firmwareStart_keeps (x0 : State) {s0 : State} (h0 : Keeps s0 x0) : Keeps s0 (State.firmwareStart x0) := by
  unfold State.firmwareStart
  try dsimp only
  repeat' (first | with_reducible assumption | with_reducible apply State.gateQuads_keeps | with_reducible apply State.modMd_keeps | with_reducible apply State.takeNodeId_keeps | with_reducible apply State.measureStart_keeps | with_reducible apply State.each_keeps | with_reducible apply State.startCore_keeps | with_reducible apply State.modPair_keeps | with_reducible apply State.safReset_keeps | with_reducible apply State.seedDither_keeps | with_reducible apply State.when_keeps | with_reducible apply State.wakeLink_keeps | with_reducible apply State.chainWake_keeps | with_reducible apply State.diagnose_keeps | with_reducible apply State.socStart_keeps | simp only [Keeps.mk_eq] | split | (intro _) )

theorem State.beginStep9_keeps (x0 : State) {s0 : State} (h0 : Keeps s0 x0) : Keeps s0 (State.beginStep9 x0) := by
  unfold State.beginStep9
  try dsimp only
  repeat' (first | with_reducible assumption | with_reducible apply State.modMd_keeps | with_reducible apply State.enterMode_keeps | with_reducible apply State.when_keeps | with_reducible apply State.safStartLoad_keeps | with_reducible apply State.diagnose_keeps | with_reducible apply State.safApply_keeps | simp only [Keeps.mk_eq] | split | (intro _) )

theorem State.step9_keeps (x0 : State) {s0 : State} (h0 : Keeps s0 x0) : Keeps s0 (State.step9 x0) := by
  unfold State.step9
  try dsimp only
  repeat' (first | with_reducible assumption | with_reducible apply State.when_keeps | with_reducible apply State.beginStep9_keeps | simp only [Keeps.mk_eq] | split | (intro _) )

theorem State.sayFlushCut_keeps (x0 : State) {s0 : State} (h0 : Keeps s0 x0) : Keeps s0 (State.sayFlushCut x0) := by
  unfold State.sayFlushCut
  try dsimp only
  repeat' (first | with_reducible assumption | with_reducible apply State.raise_keeps | with_reducible apply State.modRcd_keeps | exact fun _ hb => hb | exact fun _ hb => ⟨hb.1, Nat.zero_le _, Nat.zero_le _⟩ | simp only [Keeps.mk_eq] | split | (intro _) )

theorem State.sayLatched_keeps (x0 : State) {s0 : State} (h0 : Keeps s0 x0) : Keeps s0 (State.sayLatched x0) := by
  unfold State.sayLatched
  try dsimp only
  repeat' (first | with_reducible assumption | with_reducible apply State.raise_keeps | with_reducible apply State.modCry_keeps | simp only [Keeps.mk_eq] | split | (intro _) )

theorem execStartSequence_keeps (x0 : StartInputs) (x1 : State) {s0 : State} (h1 : Keeps s0 x1) : KeepsOut s0 (execStartSequence x0 x1) := by
  unfold execStartSequence
  try dsimp only
  repeat' (first | with_reducible assumption  | with_reducible apply KeepsOut.next| with_reducible apply State.modMd_keeps | with_reducible apply State.recordInMram_keeps | with_reducible apply State.afterZeroise_keeps | with_reducible apply State.sayLatched_keeps | with_reducible apply State.sayFlushCut_keeps | with_reducible apply State.recoverRing_keeps | with_reducible apply State.selectBank_keeps | with_reducible apply State.countFailed_keeps | with_reducible apply State.enterRecoveryRom_keeps | with_reducible apply State.enterMode_keeps | with_reducible apply State.firmwareStart_keeps | simp only [Keeps.mk_eq] | split | (intro _) )

theorem State.claim_keeps (x0 : State) {s0 : State} (h0 : Keeps s0 x0) : Keeps s0 (State.claim x0) := by
  unfold State.claim
  try dsimp only
  repeat' (first | with_reducible assumption | with_reducible apply State.armClaim_keeps | with_reducible apply State.when_keeps | with_reducible apply State.takeMace_keeps | simp only [Keeps.mk_eq] | split | (intro _) )

theorem State.watchGates_keeps (x0 : State) {s0 : State} (h0 : Keeps s0 x0) : Keeps s0 (State.watchGates x0) := by
  unfold State.watchGates
  try dsimp only
  repeat' (first | with_reducible assumption | with_reducible apply State.modMd_keeps | with_reducible apply State.armClaim_keeps | simp only [Keeps.mk_eq] | split | (intro _) )

theorem execGatesMet_keeps (x0 : State) {s0 : State} (h0 : Keeps s0 x0) : KeepsOut s0 (execGatesMet x0) := by
  unfold execGatesMet
  try dsimp only
  repeat' (first | with_reducible assumption  | with_reducible apply KeepsOut.next| with_reducible apply State.put_keeps | with_reducible apply State.modMd_keeps | with_reducible apply State.enterMode_keeps | with_reducible apply State.claim_keeps | simp only [Keeps.mk_eq] | split | (intro _) )

theorem execSlotBDeferExpiry_keeps (x0 : State) {s0 : State} (h0 : Keeps s0 x0) : KeepsOut s0 (execSlotBDeferExpiry x0) := by
  unfold execSlotBDeferExpiry
  try dsimp only
  repeat' (first | with_reducible assumption  | with_reducible apply KeepsOut.next| with_reducible apply State.claim_keeps | simp only [Keeps.mk_eq] | split | (intro _) )

theorem execPeerOkChange_keeps (x0 : Bool) (x1 : State) {s0 : State} (h1 : Keeps s0 x1) : KeepsOut s0 (execPeerOkChange x0 x1) := by
  unfold execPeerOkChange
  try dsimp only
  repeat' (first | with_reducible assumption  | with_reducible apply KeepsOut.next| with_reducible apply State.chainRole_keeps | with_reducible apply State.modPins_keeps | with_reducible apply State.when_keeps | with_reducible apply State.raise0_keeps | with_reducible apply State.claim_keeps | simp only [Keeps.mk_eq] | split | (intro _) )

theorem execReadinessTimeout_keeps (x0 : State) {s0 : State} (h0 : Keeps s0 x0) : KeepsOut s0 (execReadinessTimeout x0) := by
  unfold execReadinessTimeout
  try dsimp only
  repeat' (first | with_reducible assumption  | with_reducible apply KeepsOut.next| with_reducible apply State.raise_keeps | with_reducible apply State.modMd_keeps | simp only [Keeps.mk_eq] | split | (intro _) )

theorem execStartConfirmed_keeps (x0 : State) {s0 : State} (h0 : Keeps s0 x0) : KeepsOut s0 (execStartConfirmed x0) := by
  unfold execStartConfirmed
  try dsimp only
  repeat' (first | with_reducible assumption  | with_reducible apply KeepsOut.next| with_reducible apply State.modMd_keeps | with_reducible apply State.modBank_keeps | with_reducible apply State.raiseOn_keeps | with_reducible apply State.when_keeps | with_reducible apply State.raiseCounter_keeps | simp only [Keeps.mk_eq] | split | (intro _) )

theorem execStartTimeout_keeps (x0 : State) {s0 : State} (h0 : Keeps s0 x0) : KeepsOut s0 (execStartTimeout x0) := by
  unfold execStartTimeout
  try dsimp only
  repeat' (first | with_reducible assumption  | with_reducible apply KeepsOut.next| with_reducible apply State.resetOrWait_keeps | simp only [Keeps.mk_eq] | split | (intro _) )

theorem execPinReset_keeps (x0 : State) {s0 : State} (h0 : Keeps s0 x0) : KeepsOut s0 (execPinReset x0) := by
  unfold execPinReset
  try dsimp only
  repeat' (first | with_reducible assumption  | with_reducible apply KeepsOut.next| with_reducible apply State.modPins_keeps | with_reducible apply State.resetOrWait_keeps | simp only [Keeps.mk_eq] | split | (intro _) )

theorem execWatchdogFirmwareExpiry_keeps (x0 : State) {s0 : State} (h0 : Keeps s0 x0) : KeepsOut s0 (execWatchdogFirmwareExpiry x0) := by
  unfold execWatchdogFirmwareExpiry
  try dsimp only
  repeat' (first | with_reducible assumption  | with_reducible apply KeepsOut.next| with_reducible apply State.resetOrWait_keeps | simp only [Keeps.mk_eq] | split | (intro _) )

theorem execWatchdogControlExpiry_keeps (x0 : State) {s0 : State} (h0 : Keeps s0 x0) : KeepsOut s0 (execWatchdogControlExpiry x0) := by
  unfold execWatchdogControlExpiry
  try dsimp only
  repeat' (first | with_reducible assumption  | with_reducible apply KeepsOut.next| with_reducible apply State.resetOrWait_keeps | simp only [Keeps.mk_eq] | split | (intro _) )

theorem State.setShutdown_keeps (x0 : Shutdown) (x1 : Nat) (x2 : State) {s0 : State} (h2 : Keeps s0 x2) : Keeps s0 (State.setShutdown x0 x1 x2) := by
  unfold State.setShutdown
  try dsimp only
  repeat' (first | with_reducible assumption | with_reducible apply State.put_keeps | with_reducible apply State.modMd_keeps | simp only [Keeps.mk_eq] | split | (intro _) )

theorem State.stopShelfCap_keeps (x0 : State) {s0 : State} (h0 : Keeps s0 x0) : Keeps s0 (State.stopShelfCap x0) := by
  unfold State.stopShelfCap
  try dsimp only
  repeat' (first | with_reducible assumption | with_reducible apply State.when_keeps | with_reducible apply State.modMd_keeps | with_reducible apply State.setRackCap_keeps | simp only [Keeps.mk_eq] | split | (intro _) )

theorem State.stopShelfEnd_keeps (x0 : State) {s0 : State} (h0 : Keeps s0 x0) : Keeps s0 (State.stopShelfEnd x0) := by
  unfold State.stopShelfEnd
  try dsimp only
  repeat' (first | with_reducible assumption | with_reducible apply State.when_keeps | with_reducible apply State.halt_keeps | with_reducible apply State.dropMace_keeps | simp only [Keeps.mk_eq] | split | (intro _) )

theorem State.shutdownCommand_keeps (x0 : Int) (x1 : State) {s0 : State} (h1 : Keeps s0 x1) : Keeps s0 (State.shutdownCommand x0 x1).1 := by
  unfold State.shutdownCommand
  try dsimp only
  repeat' (first | with_reducible assumption | with_reducible apply State.refuse_keeps | with_reducible apply State.raise0_keeps | with_reducible apply State.ok_keeps | with_reducible apply State.halt_keeps | with_reducible apply State.setShutdown_keeps | with_reducible apply State.startHandover_keeps | with_reducible apply State.stopShelfCap_keeps | with_reducible apply State.sendPair_keeps | simp only [Keeps.mk_eq] | split | (intro _) )

theorem execShutdownHandover_keeps (x0 : Nat) (x1 : State) {s0 : State} (h1 : Keeps s0 x1) : KeepsOut s0 (execShutdownHandover x0 x1) := by
  unfold execShutdownHandover
  try dsimp only
  repeat' (first | with_reducible assumption  | with_reducible apply KeepsOut.next| with_reducible apply State.hostWrite_keeps | with_reducible apply State.shutdownCommand_keeps | simp only [Keeps.mk_eq] | split | (intro _) )

theorem execStopShelf_keeps (x0 : Nat) (x1 : State) {s0 : State} (h1 : Keeps s0 x1) : KeepsOut s0 (execStopShelf x0 x1) := by
  unfold execStopShelf
  try dsimp only
  repeat' (first | with_reducible assumption  | with_reducible apply KeepsOut.next| with_reducible apply State.hostWrite_keeps | with_reducible apply State.shutdownCommand_keeps | simp only [Keeps.mk_eq] | split | (intro _) )

theorem execStopShelfComplete_keeps (x0 : State) {s0 : State} (h0 : Keeps s0 x0) : KeepsOut s0 (execStopShelfComplete x0) := by
  unfold execStopShelfComplete
  try dsimp only
  repeat' (first | with_reducible assumption  | with_reducible apply KeepsOut.next| with_reducible apply State.stopShelfEnd_keeps | with_reducible apply State.each_keeps | with_reducible apply State.modConv_keeps | with_reducible apply State.setShutdown_keeps | simp only [Keeps.mk_eq] | split | (intro _) )

theorem State.bankRetry_keeps (x0 : Int) (x1 : State) {s0 : State} (h1 : Keeps s0 x1) : Keeps s0 (State.bankRetry x0 x1).1 := by
  unfold State.bankRetry
  try dsimp only
  repeat' (first | with_reducible assumption | with_reducible apply State.ok_keeps | with_reducible apply State.modBank_keeps | with_reducible apply State.refuse_keeps | simp only [Keeps.mk_eq] | split | (intro _) )

theorem execBankRetry_keeps (x0 : HostWrite) (x1 : State) {s0 : State} (h1 : Keeps s0 x1) : KeepsOut s0 (execBankRetry x0 x1) := by
  unfold execBankRetry
  try dsimp only
  repeat' (first | with_reducible assumption  | with_reducible apply KeepsOut.next| with_reducible apply State.hostWrite_keeps | with_reducible apply State.bankRetry_keeps | simp only [Keeps.mk_eq] | split | (intro _) )

theorem execRecoveryRequest_keeps (x0 : State) {s0 : State} (h0 : Keeps s0 x0) : KeepsOut s0 (execRecoveryRequest x0) := by
  unfold execRecoveryRequest
  try dsimp only
  repeat' (first | with_reducible assumption  | with_reducible apply KeepsOut.next| with_reducible apply State.sendPair_keeps | with_reducible apply State.modMd_keeps | simp only [Keeps.mk_eq] | split | (intro _) )

theorem State.recoveryHeader_keeps (x0 : RecSource) (x1 : Nat) (x2 : Bool) (x3 : ImageHdr) (x4 : State) {s0 : State} (h4 : Keeps s0 x4) : Keeps s0 (State.recoveryHeader x0 x1 x2 x3 x4) := by
  unfold State.recoveryHeader
  try dsimp only
  repeat' (first | with_reducible assumption | with_reducible apply State.send_keeps | with_reducible apply State.modMd_keeps | with_reducible apply State.modBank_keeps | simp only [Keeps.mk_eq] | split | (intro _) )

theorem execRecoveryData_keeps (x0 : RecoveryMsg) (x1 : State) {s0 : State} (h1 : Keeps s0 x1) : KeepsOut s0 (execRecoveryData x0 x1) := by
  unfold execRecoveryData
  try dsimp only
  repeat' (first | with_reducible assumption  | with_reducible apply KeepsOut.next| with_reducible apply State.send_keeps | with_reducible apply State.recoveryHeader_keeps | with_reducible apply State.modMd_keeps | simp only [Keeps.mk_eq] | split | (intro _) )

theorem execRecoverySourceTimeout_keeps (x0 : State) {s0 : State} (h0 : Keeps s0 x0) : KeepsOut s0 (execRecoverySourceTimeout x0) := by
  unfold execRecoverySourceTimeout
  try dsimp only
  repeat' (first | with_reducible assumption  | with_reducible apply KeepsOut.next| with_reducible apply State.modMd_keeps | simp only [Keeps.mk_eq] | split | (intro _) )

theorem State.modeCommand_keeps (x0 : Int) (x1 : State) {s0 : State} (h1 : Keeps s0 x1) : Keeps s0 (State.modeCommand x0 x1).1 := by
  unfold State.modeCommand
  try dsimp only
  repeat' (first | with_reducible assumption | with_reducible apply State.ok_keeps | with_reducible apply State.zeroise_keeps | with_reducible apply State.modCry_keeps | simp only [Keeps.mk_eq] | split | (intro _) )

theorem execModeCommand_keeps (x0 : HostWrite) (x1 : State) {s0 : State} (h1 : Keeps s0 x1) : KeepsOut s0 (execModeCommand x0 x1) := by
  unfold execModeCommand
  try dsimp only
  repeat' (first | with_reducible assumption  | with_reducible apply KeepsOut.next| with_reducible apply State.hostWrite_keeps | with_reducible apply State.modeCommand_keeps | simp only [Keeps.mk_eq] | split | (intro _) )

theorem State.selfTestRun_keeps (x0 : State) {s0 : State} (h0 : Keeps s0 x0) : Keeps s0 (State.selfTestRun x0).1 := by
  unfold State.selfTestRun
  try dsimp only
  repeat' (first | with_reducible assumption | with_reducible apply State.ok_keeps | with_reducible apply State.modCry_keeps | with_reducible apply State.put_keeps | simp only [Keeps.mk_eq] | split | (intro _) )

theorem execSelfTestRun_keeps (x0 : Nat) (x1 : State) {s0 : State} (h1 : Keeps s0 x1) : KeepsOut s0 (execSelfTestRun x0 x1) := by
  unfold execSelfTestRun
  try dsimp only
  repeat' (first | with_reducible assumption  | with_reducible apply KeepsOut.next| with_reducible apply State.hostWrite_keeps | with_reducible apply State.selfTestRun_keeps | simp only [Keeps.mk_eq] | split | (intro _) )

theorem execSelfTestPassed_keeps (x0 : State) {s0 : State} (h0 : Keeps s0 x0) : KeepsOut s0 (execSelfTestPassed x0) := by
  unfold execSelfTestPassed
  try dsimp only
  repeat' (first | with_reducible assumption  | with_reducible apply KeepsOut.next| with_reducible apply State.raise0_keeps | with_reducible apply State.modCry_keeps | with_reducible apply State.put_keeps | simp only [Keeps.mk_eq] | split | (intro _) )

theorem execCryptoSelfTestFailed_keeps (x0 : State) {s0 : State} (h0 : Keeps s0 x0) : KeepsOut s0 (execCryptoSelfTestFailed x0) := by
  unfold execCryptoSelfTestFailed
  try dsimp only
  repeat' (first | with_reducible assumption  | with_reducible apply KeepsOut.next| with_reducible apply State.cryptoError_keeps | simp only [Keeps.mk_eq] | split | (intro _) )

theorem execZeroise_keeps (x0 : Nat) (x1 : State) {s0 : State} (h1 : Keeps s0 x1) : KeepsOut s0 (execZeroise x0 x1) := by
  unfold execZeroise
  try dsimp only
  repeat' (first | with_reducible assumption  | with_reducible apply KeepsOut.next| with_reducible apply State.hostWrite_keeps | with_reducible apply State.ok_keeps | with_reducible apply State.zeroise_keeps | simp only [Keeps.mk_eq] | split | (intro _) )

theorem execTamperDetected_keeps (x0 : Fin 5) (x1 : State) {s0 : State} (h1 : Keeps s0 x1) : KeepsOut s0 (execTamperDetected x0 x1) := by
  unfold execTamperDetected
  try dsimp only
  repeat' (first | with_reducible assumption  | with_reducible apply KeepsOut.next| with_reducible apply State.modPins_keeps | with_reducible apply State.put_keeps | with_reducible apply State.modCry_keeps | with_reducible apply State.raiseOn_keeps | with_reducible apply State.when_keeps | with_reducible apply State.zeroise_keeps | simp only [Keeps.mk_eq] | split | (intro _) )

theorem State.installIdentity_keeps (x0 : List Byte) (x1 : State) {s0 : State} (h1 : Keeps s0 x1) : Keeps s0 (State.installIdentity x0 x1).1 := by
  unfold State.installIdentity
  try dsimp only
  repeat' (first | with_reducible assumption | with_reducible apply State.putBytes_keeps | with_reducible apply State.ok_keeps | with_reducible apply State.measureValue_keeps | with_reducible apply State.raise0_keeps | with_reducible apply State.put_keeps | with_reducible apply State.useFree_keeps | with_reducible apply State.refuse_keeps | simp only [Keeps.mk_eq] | split | (intro _) )

theorem execIdentityCertificateWrite_keeps (x0 : HostWrite) (x1 : State) {s0 : State} (h1 : Keeps s0 x1) : KeepsOut s0 (execIdentityCertificateWrite x0 x1) := by
  unfold execIdentityCertificateWrite
  try dsimp only
  repeat' (first | with_reducible assumption  | with_reducible apply KeepsOut.next| with_reducible apply State.hostWrite_keeps | with_reducible apply State.installIdentity_keeps | simp only [Keeps.mk_eq] | split | (intro _) )

theorem State.dropSession_keeps (x0 : Nat) (x1 : State) {s0 : State} (h1 : Keeps s0 x1) : Keeps s0 (State.dropSession x0 x1) := by
  unfold State.dropSession
  try dsimp only
  repeat' (first | with_reducible assumption | with_reducible apply State.each_keeps | with_reducible apply State.raise_keeps | with_reducible apply State.modCry_keeps | with_reducible apply State.when_keeps | with_reducible apply State.put_keeps | with_reducible apply State.raise0_keeps | simp only [Keeps.mk_eq] | split | (intro _) )

theorem State.closeUntrusted_keeps (x0 : State) {s0 : State} (h0 : Keeps s0 x0) : Keeps s0 (State.closeUntrusted x0) := by
  unfold State.closeUntrusted
  try dsimp only
  repeat' (first | with_reducible assumption | with_reducible apply State.each_keeps | with_reducible apply State.dropSession_keeps | with_reducible apply State.linkDown_keeps | simp only [Keeps.mk_eq] | split | (intro _) )

theorem State.anchorsWrite_keeps (x0 : Nat) (x1 : List Byte) (x2 : State) {s0 : State} (h2 : Keeps s0 x2) : Keeps s0 (State.anchorsWrite x0 x1 x2).1 := by
  unfold State.anchorsWrite
  try dsimp only
  repeat' (first | with_reducible assumption | with_reducible apply State.refuse_keeps | with_reducible apply State.measureValue_keeps | with_reducible apply State.putBytes_keeps | with_reducible apply State.ok_keeps | with_reducible apply State.raise0_keeps | with_reducible apply State.noteCert_keeps | with_reducible apply State.closeUntrusted_keeps | with_reducible apply State.when_keeps | simp only [Keeps.mk_eq] | split | (intro _) )

theorem execAnchorsWrite_keeps (x0 : Fin 4) (x1 : HostWrite) (x2 : State) {s0 : State} (h2 : Keeps s0 x2) : KeepsOut s0 (execAnchorsWrite x0 x1 x2) := by
  unfold execAnchorsWrite
  try dsimp only
  repeat' (first | with_reducible assumption  | with_reducible apply KeepsOut.next| with_reducible apply State.hostWrite_keeps | with_reducible apply State.anchorsWrite_keeps | simp only [Keeps.mk_eq] | split | (intro _) )

theorem State.setQuote_keeps (x0 : QuoteSt) (x1 : State) {s0 : State} (h1 : Keeps s0 x1) : Keeps s0 (State.setQuote x0 x1) := by
  unfold State.setQuote
  try dsimp only
  repeat' (first | with_reducible assumption | with_reducible apply State.modCry_keeps | simp only [Keeps.mk_eq] | split | (intro _) )

theorem State.nonceWrite_keeps (x0 : Nat) (x1 : List Byte) (x2 : State) {s0 : State} (h2 : Keeps s0 x2) : Keeps s0 (State.nonceWrite x0 x1 x2).1 := by
  unfold State.nonceWrite
  try dsimp only
  repeat' (first | with_reducible assumption | with_reducible apply State.ok_keeps | with_reducible apply State.setQuote_keeps | simp only [Keeps.mk_eq] | split | (intro _) )

theorem State.maskWrite_keeps (x0 : Nat) (x1 : Int) (x2 : State) {s0 : State} (h2 : Keeps s0 x2) : Keeps s0 (State.maskWrite x0 x1 x2).1 := by
  unfold State.maskWrite
  try dsimp only
  repeat' (first | with_reducible assumption | with_reducible apply State.ok_keeps | with_reducible apply State.setQuote_keeps | simp only [Keeps.mk_eq] | split | (intro _) )

theorem execNonceWrite_keeps (x0 : HostWrite) (x1 : State) {s0 : State} (h1 : Keeps s0 x1) : KeepsOut s0 (execNonceWrite x0 x1) := by
  unfold execNonceWrite
  try dsimp only
  repeat' (first | with_reducible assumption  | with_reducible apply KeepsOut.next| with_reducible apply State.hostWrite_keeps | with_reducible apply State.nonceWrite_keeps | simp only [Keeps.mk_eq] | split | (intro _) )

theorem execQuoteReady_keeps (x0 : Nat) (x1 : State) {s0 : State} (h1 : Keeps s0 x1) : KeepsOut s0 (execQuoteReady x0 x1) := by
  unfold execQuoteReady
  try dsimp only
  repeat' (first | with_reducible assumption  | with_reducible apply KeepsOut.next| with_reducible apply State.useFree_keeps | with_reducible apply State.setQuote_keeps | simp only [Keeps.mk_eq] | split | (intro _) )

theorem execMeasurementExtend_keeps (x0 : Fin 6) (x1 : BitVec 8) (x2 : BitVec 16) (x3 : BitVec 32) (x4 : BitVec 16) (x5 : Vector Byte 32) (x6 : State) {s0 : State} (h6 : Keeps s0 x6) : KeepsOut s0 (execMeasurementExtend x0 x1 x2 x3 x4 x5 x6) := by
  unfold execMeasurementExtend
  try dsimp only
  repeat' (first | with_reducible assumption  | with_reducible apply KeepsOut.next| with_reducible apply State.measure_keeps | simp only [Keeps.mk_eq] | split | (intro _) )

theorem State.commit_keeps (x0 : Int) (x1 : State) {s0 : State} (h1 : Keeps s0 x1) : Keeps s0 (State.commit x0 x1).1 := by
  unfold State.commit
  try dsimp only
  repeat' (first | with_reducible assumption | with_reducible apply State.refuse_keeps | with_reducible apply State.ok_keeps | with_reducible apply State.raiseCounter_keeps | simp only [Keeps.mk_eq] | split | (intro _) )

theorem execCommit_keeps (x0 : HostWrite) (x1 : State) {s0 : State} (h1 : Keeps s0 x1) : KeepsOut s0 (execCommit x0 x1) := by
  unfold execCommit
  try dsimp only
  repeat' (first | with_reducible assumption  | with_reducible apply KeepsOut.next| with_reducible apply State.hostWrite_keeps | with_reducible apply State.commit_keeps | simp only [Keeps.mk_eq] | split | (intro _) )

theorem State.prefer_keeps (x0 : Int) (x1 : State) {s0 : State} (h1 : Keeps s0 x1) : Keeps s0 (State.prefer x0 x1).1 := by
  unfold State.prefer
  try dsimp only
  repeat' (first | with_reducible assumption | with_reducible apply State.refuse_keeps | with_reducible apply State.ok_keeps | with_reducible apply State.raiseOn_keeps | with_reducible apply State.preferBank_keeps | simp only [Keeps.mk_eq] | split | (intro _) )

theorem execPrefer_keeps (x0 : HostWrite) (x1 : State) {s0 : State} (h1 : Keeps s0 x1) : KeepsOut s0 (execPrefer x0 x1) := by
  unfold execPrefer
  try dsimp only
  repeat' (first | with_reducible assumption  | with_reducible apply KeepsOut.next| with_reducible apply State.hostWrite_keeps | with_reducible apply State.prefer_keeps | simp only [Keeps.mk_eq] | split | (intro _) )

theorem State.countImage_keeps (x0 : Bool) (x1 : State) {s0 : State} (h1 : Keeps s0 x1) : Keeps s0 (State.countImage x0 x1) := by
  unfold State.countImage
  try dsimp only
  repeat' (first | with_reducible assumption | with_reducible apply State.useFree_keeps | with_reducible apply State.putBytes_keeps | simp only [Keeps.mk_eq] | split | (intro _) )

theorem State.targetWrite_keeps (x0 : Fin 4) (x1 : Int) (x2 : State) {s0 : State} (h2 : Keeps s0 x2) : Keeps s0 (State.targetWrite x0 x1 x2).1 := by
  unfold State.targetWrite
  try dsimp only
  repeat' (first | with_reducible assumption | with_reducible apply State.refuse_keeps | with_reducible apply State.ok_keeps | with_reducible apply State.put_keeps | simp only [Keeps.mk_eq] | split | (intro _) )

theorem State.openInput_keeps (x0 : Fin 4) (x1 : Nat) (x2 : State) {s0 : State} (h2 : Keeps s0 x2) : Keeps s0 (State.openInput x0 x1 x2).1 := by
  unfold State.openInput
  try dsimp only
  repeat' (first | with_reducible assumption | with_reducible apply State.refuse_keeps | with_reducible apply State.modCry_keeps | with_reducible apply State.ok_keeps | with_reducible apply State.put_keeps | simp only [Keeps.mk_eq] | split | (intro _) )

theorem State.endInput_keeps (x0 : Fin 4) (x1 : Nat) (x2 : State) {s0 : State} (h2 : Keeps s0 x2) : Keeps s0 (State.endInput x0 x1 x2) := by
  unfold State.endInput
  try dsimp only
  repeat' (first | with_reducible assumption | with_reducible apply State.modCry_keeps | with_reducible apply State.countImage_keeps | with_reducible apply State.put_keeps | simp only [Keeps.mk_eq] | split | (intro _) )

theorem State.spoilTarget_keeps (x0 : Nat) (x1 : State) {s0 : State} (h1 : Keeps s0 x1) : Keeps s0 (State.spoilTarget x0 x1) := by
  unfold State.spoilTarget
  try dsimp only
  repeat' (first | with_reducible assumption | with_reducible apply State.modBank_keeps | with_reducible apply State.spoilSlot_keeps | simp only [Keeps.mk_eq] | split | (intro _) )

theorem execImageHeaderArrived_keeps (x0 : Fin 4) (x1 : List Byte) (x2 : Bool) (x3 : State) {s0 : State} (h3 : Keeps s0 x3) : KeepsOut s0 (execImageHeaderArrived x0 x1 x2 x3) := by
  unfold execImageHeaderArrived
  try dsimp only
  repeat' (first | with_reducible assumption  | with_reducible apply KeepsOut.next| with_reducible apply State.endInput_keeps | with_reducible apply State.raise_keeps | with_reducible apply State.modCry_keeps | with_reducible apply State.spoilTarget_keeps | with_reducible apply State.put_keeps | simp only [Keeps.mk_eq] | split | (intro _) )

theorem State.releaseLease_keeps (x0 : State) {s0 : State} (h0 : Keeps s0 x0) : Keeps s0 (State.releaseLease x0) := by
  unfold State.releaseLease
  try dsimp only
  repeat' (first | with_reducible assumption | with_reducible apply State.raise0_keeps | with_reducible apply State.put_keeps | with_reducible apply State.modCry_keeps | simp only [Keeps.mk_eq] | split | (intro _) )

theorem State.acceptImage_keeps (x0 : Nat) (x1 : ImageHdr) (x2 : ImageBody) (x3 : State) {s0 : State} (h3 : Keeps s0 x3) : Keeps s0 (State.acceptImage x0 x1 x2 x3) := by
  unfold State.acceptImage
  try dsimp only
  repeat' (first | with_reducible assumption | with_reducible apply State.modCry_keeps | with_reducible apply State.modBank_keeps | with_reducible apply State.put_keeps | with_reducible apply State.putBytes_keeps | simp only [Keeps.mk_eq] | split | (intro _) )

theorem execImageWriteEnd_keeps (x0 : Fin 4) (x1 : Bool) (x2 : BitVec 5) (x3 : List Byte) (x4 : State) {s0 : State} (h4 : Keeps s0 x4) : KeepsOut s0 (execImageWriteEnd x0 x1 x2 x3 x4) := by
  unfold execImageWriteEnd
  try dsimp only
  repeat' (first | with_reducible assumption  | with_reducible apply KeepsOut.next| with_reducible apply State.put_keeps | with_reducible apply State.acceptImage_keeps | with_reducible apply State.releaseLease_keeps | with_reducible apply State.countImage_keeps | with_reducible apply State.raise_keeps | with_reducible apply State.endInput_keeps | with_reducible apply State.raiseOn_keeps | simp only [Keeps.mk_eq] | split | (intro _) )

theorem State.installKey_keeps (x0 : Fin 4) (x1 : List Byte) (x2 : State) {s0 : State} (h2 : Keeps s0 x2) : Keeps s0 (State.installKey x0 x1 x2).1 := by
  unfold State.installKey
  try dsimp only
  repeat' (first | with_reducible assumption | with_reducible apply State.refuse_keeps | with_reducible apply State.modClv_keeps | with_reducible apply State.raiseOn_keeps | with_reducible apply State.putBytes_keeps | with_reducible apply State.put_keeps | with_reducible apply State.ok_keeps | with_reducible apply State.measureValue_keeps | simp only [Keeps.mk_eq] | split | (intro _) )

theorem execCloveKeyInstall_keeps (x0 : Fin 4) (x1 : HostWrite) (x2 : State) {s0 : State} (h2 : Keeps s0 x2) : KeepsOut s0 (execCloveKeyInstall x0 x1 x2) := by
  unfold execCloveKeyInstall
  try dsimp only
  repeat' (first | with_reducible assumption  | with_reducible apply KeepsOut.next| with_reducible apply State.hostWrite_keeps | with_reducible apply State.installKey_keeps | simp only [Keeps.mk_eq] | split | (intro _) )

theorem State.keyCommand_keeps (x0 : Fin 4) (x1 : Int) (x2 : State) {s0 : State} (h2 : Keeps s0 x2) : Keeps s0 (State.keyCommand x0 x1 x2).1 := by
  unfold State.keyCommand
  try dsimp only
  repeat' (first | with_reducible assumption | with_reducible apply State.refuse_keeps | with_reducible apply State.ok_keeps | with_reducible apply State.modCry_keeps | simp only [Keeps.mk_eq] | split | (intro _) )

theorem execKeyActivate_keeps (x0 : Fin 4) (x1 : Nat) (x2 : State) {s0 : State} (h2 : Keeps s0 x2) : KeepsOut s0 (execKeyActivate x0 x1 x2) := by
  unfold execKeyActivate
  try dsimp only
  repeat' (first | with_reducible assumption  | with_reducible apply KeepsOut.next| with_reducible apply State.hostWrite_keeps | with_reducible apply State.keyCommand_keeps | simp only [Keeps.mk_eq] | split | (intro _) )

theorem execKeyRetire_keeps (x0 : Fin 4) (x1 : Nat) (x2 : State) {s0 : State} (h2 : Keeps s0 x2) : KeepsOut s0 (execKeyRetire x0 x1 x2) := by
  unfold execKeyRetire
  try dsimp only
  repeat' (first | with_reducible assumption  | with_reducible apply KeepsOut.next| with_reducible apply State.hostWrite_keeps | with_reducible apply State.keyCommand_keeps | simp only [Keeps.mk_eq] | split | (intro _) )

theorem State.keyLapse_keeps (x0 : Fin 4) (x1 : Nat) (x2 : State) {s0 : State} (h2 : Keeps s0 x2) : Keeps s0 (State.keyLapse x0 x1 x2) := by
  unfold State.keyLapse
  try dsimp only
  repeat' (first | with_reducible assumption | with_reducible apply State.raise_keeps | simp only [Keeps.mk_eq] | split | (intro _) )

theorem State.activateKey_keeps (x0 : Fin 4) (x1 : State) {s0 : State} (h1 : Keeps s0 x1) : Keeps s0 (State.activateKey x0 x1) := by
  unfold State.activateKey
  try dsimp only
  repeat' (first | with_reducible assumption | with_reducible apply State.keyLapse_keeps | with_reducible apply State.each_keeps | with_reducible apply State.put_keeps | with_reducible apply State.modClv_keeps | with_reducible apply State.raiseOn_keeps | with_reducible apply State.modCry_keeps | simp only [Keeps.mk_eq] | split | (intro _) )

theorem State.retireKey_keeps (x0 : Fin 4) (x1 : State) {s0 : State} (h1 : Keeps s0 x1) : Keeps s0 (State.retireKey x0 x1) := by
  unfold State.retireKey
  try dsimp only
  repeat' (first | with_reducible assumption | with_reducible apply State.dropWindows_keeps | with_reducible apply State.modClv_keeps | with_reducible apply State.raiseOn_keeps | with_reducible apply State.putBytes_keeps | with_reducible apply State.put_keeps | with_reducible apply State.measureValue_keeps | with_reducible apply State.keyLapse_keeps | simp only [Keeps.mk_eq] | split | (intro _) )

theorem State.keyTick_keeps (x0 : State) {s0 : State} (h0 : Keeps s0 x0) : Keeps s0 (State.keyTick x0) := by
  unfold State.keyTick
  try dsimp only
  repeat' (first | with_reducible assumption | with_reducible apply State.modCry_keeps | with_reducible apply State.each_keeps | with_reducible apply State.activateKey_keeps | with_reducible apply State.watchKeys_keeps | with_reducible apply State.retireKey_keeps | simp only [Keeps.mk_eq] | split | (intro _) )

theorem execKeyCommandAct_keeps (x0 : State) {s0 : State} (h0 : Keeps s0 x0) : KeepsOut s0 (execKeyCommandAct x0) := by
  unfold execKeyCommandAct
  try dsimp only
  repeat' (first | with_reducible assumption  | with_reducible apply KeepsOut.next| with_reducible apply State.keyTick_keeps | simp only [Keeps.mk_eq] | split | (intro _) )

theorem execCauseRaised_keeps (x0 : BitVec 16) (x1 : BitVec 32) (x2 : BitVec 96) (x3 : State) {s0 : State} (h3 : Keeps s0 x3) : KeepsOut s0 (execCauseRaised x0 x1 x2 x3) := by
  unfold execCauseRaised
  try dsimp only
  repeat' (first | with_reducible assumption  | with_reducible apply KeepsOut.next| with_reducible apply State.raise_keeps | simp only [Keeps.mk_eq] | split | (intro _) )

theorem State.buildRecord_keeps (x0 : StagedCause) (x1 : State) {s0 : State} (h1 : Keeps s0 x1) : Keeps s0 (State.buildRecord x0 x1) := by
  unfold State.buildRecord
  try dsimp only
  repeat' (first | with_reducible assumption | with_reducible apply State.writeRecord_keeps | simp only [Keeps.mk_eq] | split | (intro _) )

theorem State.sayLost_keeps (x0 : State) {s0 : State} (h0 : Keeps s0 x0) : Keeps s0 (State.sayLost x0) := by
  unfold State.sayLost
  split
  · exact h0
  · rename_i hl
    have inc : ∀ (k : Nat) (t : State), (t.inc k).rcd = t.rcd := by
      intro k t
      unfold State.inc State.countBy
      split <;> rfl
    have hr := State.modRcd_keeps (fun r => { r with lostCount := 0, lostFirst := 0, lostLast := 0 }) x0 h0 fun _ hb => hb
    dsimp only
    refine State.preparePush_keeps _ _ (State.stage_keeps _ _ ?_ ?_)
    · split
      · exact State.inc_keeps _ _ hr
      · exact hr
    · split
      · rw [inc]
        exact Nat.lt_of_not_le fun h => hl (Or.inr h)
      · exact Nat.lt_of_not_le fun h => hl (Or.inr h)

theorem execRecordBuild_keeps (x0 : Bool) (x1 : State) {s0 : State} (h1 : Keeps s0 x1) : KeepsOut s0 (execRecordBuild x0 x1) := by
  unfold execRecordBuild
  split
  · exact KeepsOut.next h1
  · rename_i e rest hr
    split
    · exact KeepsOut.next h1
    · refine KeepsOut.next (State.when_keeps _ _ _ (fun t ht => State.sayLost_keeps t ht) (State.when_keeps _ _ _ (fun t ht => State.startFlush_keeps _ t ht)
        (State.when_keeps _ _ _ (fun t ht => State.startFlush_keeps _ t ht) (State.modRcd_keeps _ _ (State.buildRecord_keeps _ _ h1) fun hs hb => ⟨?_, hb.2⟩))))
      have := (h1.sane hs).2.2.1
      simp only [hr, List.length_cons] at this
      simp only
      omega

theorem State.clearRecords_keeps (x0 : ClearWaiting) (x1 : State) {s0 : State} (h1 : Keeps s0 x1) : Keeps s0 (State.clearRecords x0 x1) := by
  unfold State.clearRecords
  try dsimp only
  repeat' (first | with_reducible assumption | with_reducible apply State.modRcd_keeps | with_reducible apply State.inc_keeps | with_reducible apply State.put_keeps | with_reducible apply State.preparePush_keeps | with_reducible apply State.startFlush_keeps | with_reducible apply State.buildRecord_keeps | exact fun _ hb => hb | exact fun _ hb => ⟨hb.1, Nat.zero_le _, Nat.zero_le _⟩ | simp only [Keeps.mk_eq] | split | (intro _) )

theorem State.clearWrite_keeps (x0 : Nat) (x1 : State) {s0 : State} (h1 : Keeps s0 x1) : Keeps s0 (State.clearWrite x0 x1).1 := by
  unfold State.clearWrite
  try dsimp only
  repeat' (first | with_reducible assumption | with_reducible apply State.refuse_keeps | with_reducible apply State.raiseDenied_keeps | with_reducible apply State.ok_keeps | with_reducible apply State.modRcd_keeps | with_reducible apply State.clearRecords_keeps | exact fun _ hb => hb | exact fun _ hb => ⟨hb.1, Nat.zero_le _, Nat.zero_le _⟩ | simp only [Keeps.mk_eq] | split | (intro _) )

theorem execRecorderClear_keeps (x0 : Nat) (x1 : State) {s0 : State} (h1 : Keeps s0 x1) : KeepsOut s0 (execRecorderClear x0 x1) := by
  unfold execRecorderClear
  try dsimp only
  repeat' (first | with_reducible assumption  | with_reducible apply KeepsOut.next| with_reducible apply State.hostWrite_keeps | with_reducible apply State.clearWrite_keeps | simp only [Keeps.mk_eq] | split | (intro _) )

theorem execRecorderFlush_keeps (x0 : State) {s0 : State} (h0 : Keeps s0 x0) : KeepsOut s0 (execRecorderFlush x0) := by
  unfold execRecorderFlush
  try dsimp only
  repeat' (first | with_reducible assumption  | with_reducible apply KeepsOut.next| with_reducible apply State.flushRing_keeps | simp only [Keeps.mk_eq] | split | (intro _) )

theorem execRecorderFlushDone_keeps (x0 : State) {s0 : State} (h0 : Keeps s0 x0) : KeepsOut s0 (execRecorderFlushDone x0) := by
  unfold execRecorderFlushDone
  try dsimp only
  repeat' (first | with_reducible assumption  | with_reducible apply KeepsOut.next| with_reducible apply State.modRcd_keeps | with_reducible apply State.clearRecords_keeps | with_reducible apply State.haltStep_keeps | with_reducible apply State.afterError_keeps | exact fun _ hb => hb | exact fun _ hb => ⟨hb.1, Nat.zero_le _, Nat.zero_le _⟩ | simp only [Keeps.mk_eq] | split | (intro _) )

theorem State.snapshotWrite_keeps (x0 : Nat) (x1 : Nat) (x2 : Nat) (x3 : List Byte) (x4 : State → State) (x5 : State) {s0 : State} (h4 : ∀ y0, Keeps s0 y0 → Keeps s0 (x4 y0)) (h5 : Keeps s0 x5) : Keeps s0 (State.snapshotWrite x0 x1 x2 x3 x4 x5).1 := by
  unfold State.snapshotWrite
  try dsimp only
  repeat' (first | with_reducible assumption | with_reducible apply State.refuse_keeps | with_reducible apply State.raiseDenied_keeps | with_reducible apply State.ok_keeps | with_reducible apply h4 | simp only [Keeps.mk_eq] | split | (intro _) )

theorem State.drain_keeps (x0 : State) {s0 : State} (h0 : Keeps s0 x0) : Keeps s0 (State.drain x0) := by
  unfold State.drain
  exact State.each_keeps _ _ _ (fun e t ht => State.flushRing_keeps _ (State.buildRecord_keeps e t ht))
    (State.flushRing_keeps _ (State.modRcd_keeps _ _ h0 fun _ hb => ⟨Nat.zero_le _, hb.2⟩))

theorem State.flushedReset_keeps (x0 : ResetKind) (x1 : State) {s0 : State} (h1 : Keeps s0 x1) : Keeps s0 (State.flushedReset x0 x1) := by
  unfold State.flushedReset
  try dsimp only
  repeat' (first | with_reducible assumption | with_reducible apply State.resetOrWait_keeps | with_reducible apply State.drain_keeps | with_reducible apply State.startFlush_keeps | simp only [Keeps.mk_eq] | split | (intro _) )

theorem State.resetCommand_keeps (x0 : Int) (x1 : State) {s0 : State} (h1 : Keeps s0 x1) : Keeps s0 (State.resetCommand x0 x1).1 := by
  unfold State.resetCommand
  try dsimp only
  repeat' (first | with_reducible assumption | with_reducible apply State.ok_keeps | with_reducible apply State.flushedReset_keeps | with_reducible apply State.startHandover_keeps | with_reducible apply State.refuse_keeps | with_reducible apply State.raise0_keeps | simp only [Keeps.mk_eq] | split | (intro _) )

theorem execHostReset_keeps (x0 : Nat) (x1 : State) {s0 : State} (h1 : Keeps s0 x1) : KeepsOut s0 (execHostReset x0 x1) := by
  unfold execHostReset
  try dsimp only
  repeat' (first | with_reducible assumption  | with_reducible apply KeepsOut.next| with_reducible apply State.hostWrite_keeps | with_reducible apply State.resetCommand_keeps | simp only [Keeps.mk_eq] | split | (intro _) )

theorem execResetForce_keeps (x0 : Nat) (x1 : State) {s0 : State} (h1 : Keeps s0 x1) : KeepsOut s0 (execResetForce x0 x1) := by
  unfold execResetForce
  try dsimp only
  repeat' (first | with_reducible assumption  | with_reducible apply KeepsOut.next| with_reducible apply State.hostWrite_keeps | with_reducible apply State.resetCommand_keeps | simp only [Keeps.mk_eq] | split | (intro _) )

theorem execFirmwareFatal_keeps (x0 : State) {s0 : State} (h0 : Keeps s0 x0) : KeepsOut s0 (execFirmwareFatal x0) := by
  unfold execFirmwareFatal
  try dsimp only
  repeat' (first | with_reducible assumption  | with_reducible apply KeepsOut.next| with_reducible apply State.resetOrWait_keeps | with_reducible apply State.flushedReset_keeps | simp only [Keeps.mk_eq] | split | (intro _) )

theorem execRecoveryImageAccepted_keeps (x0 : Bool) (x1 : BitVec 5) (x2 : State) {s0 : State} (h2 : Keeps s0 x2) : KeepsOut s0 (execRecoveryImageAccepted x0 x1 x2) := by
  unfold execRecoveryImageAccepted
  try dsimp only
  repeat' (first | with_reducible assumption  | with_reducible apply KeepsOut.next| with_reducible apply State.modBank_keeps | with_reducible apply State.modMd_keeps | with_reducible apply State.preferBank_keeps | with_reducible apply State.flushedReset_keeps | with_reducible apply State.recordInMram_keeps | with_reducible apply State.send_keeps | simp only [Keeps.mk_eq] | split | (intro _) )

end Sys2Proof.Machine
end

