-- ==== Sys2Proof/Laws/KeepsHost.lean ====
section
/-! SUPPORT. What Keeps (Safety.lean) says of the power stages, injection, host ports, the pair and the tick: one lemma for each operation. -/

namespace Sys2Proof.Machine

theorem State.phaseBoundary_keeps (x0 : Fin 20) (x1 : State) {s0 : State} (h1 : Keeps s0 x1) : Keeps s0 (State.phaseBoundary x0 x1) := by
  unfold State.phaseBoundary
  try dsimp only
  repeat' (first | with_reducible assumption | with_reducible apply State.when_keeps | with_reducible apply State.modConv_keeps | with_reducible apply State.inc_keeps | with_reducible apply State.preBias_keeps | with_reducible apply State.setPhase_keeps | with_reducible apply State.beginPulse_keeps | with_reducible apply State.phaseOut_keeps | with_reducible apply State.put_keeps | simp only [Keeps.mk_eq] | split | (intro _) )

theorem State.feedPhases_keeps (x0 : PhaseState) (x1 : PhaseState) (x2 : Bool) (x3 : State) {s0 : State} (h3 : Keeps s0 x3) : Keeps s0 (State.feedPhases x0 x1 x2 x3) := by
  unfold State.feedPhases
  try dsimp only
  repeat' (first | with_reducible assumption | with_reducible apply State.each_keeps | with_reducible apply State.when_keeps | with_reducible apply State.modPhase_keeps | simp only [Keeps.mk_eq] | split | (intro _) )

theorem State.packetBoundary_keeps (x0 : State) {s0 : State} (h0 : Keeps s0 x0) : Keeps s0 (State.packetBoundary x0) := by
  unfold State.packetBoundary
  try dsimp only
  repeat' (first | with_reducible assumption | with_reducible apply State.modConv_keeps | with_reducible apply State.feedPhases_keeps | with_reducible apply State.burstExit_keeps | simp only [Keeps.mk_eq] | split | (intro _) )

theorem execCarrierBoundary_keeps (x0 : Conv) (x1 : Option (Fin 20)) (x2 : State) {s0 : State} (h2 : Keeps s0 x2) : KeepsOut s0 (execCarrierBoundary x0 x1 x2) := by
  unfold execCarrierBoundary
  try dsimp only
  repeat' (first | with_reducible assumption  | with_reducible apply KeepsOut.next| with_reducible apply State.phaseBoundary_keeps | with_reducible apply State.when_keeps | with_reducible apply State.convOff_keeps | with_reducible apply State.placeOffsets_keeps | with_reducible apply State.drawPeriod_keeps | with_reducible apply State.packetBoundary_keeps | simp only [Keeps.mk_eq] | split | (intro _) )

theorem execCompareUpdate_keeps (x0 : Fin 20) (x1 : Nat) (x2 : State) {s0 : State} (h2 : Keeps s0 x2) : KeepsOut s0 (execCompareUpdate x0 x1 x2) := by
  unfold execCompareUpdate
  try dsimp only
  repeat' (first | with_reducible assumption  | with_reducible apply KeepsOut.next| with_reducible apply State.modPhase_keeps | with_reducible apply State.put_keeps | with_reducible apply State.when_keeps | simp only [Keeps.mk_eq] | split | (intro _) )

theorem execFaultInput_keeps (x0 : Fin 20) (x1 : Bool) (x2 : Carriers) (x3 : Nat) (x4 : State) {s0 : State} (h4 : Keeps s0 x4) : KeepsOut s0 (execFaultInput x0 x1 x2 x3 x4) := by
  unfold execFaultInput
  try dsimp only
  repeat' (first | with_reducible assumption  | with_reducible apply KeepsOut.next| with_reducible apply State.modPow_keeps | with_reducible apply State.each_keeps | with_reducible apply State.modPhase_keeps | with_reducible apply State.when_keeps | with_reducible apply State.enterHiccup_keeps | simp only [Keeps.mk_eq] | split | (intro _) )

theorem execPhaseHiccup_keeps (x0 : Fin 20) (x1 : State) {s0 : State} (h1 : Keeps s0 x1) : KeepsOut s0 (execPhaseHiccup x0 x1) := by
  unfold execPhaseHiccup
  try dsimp only
  repeat' (first | with_reducible assumption  | with_reducible apply KeepsOut.next| with_reducible apply State.enterHiccup_keeps | with_reducible apply State.when_keeps | with_reducible apply State.raiseOn_keeps | with_reducible apply State.modConv_keeps | simp only [Keeps.mk_eq] | split | (intro _) )

theorem execPhaseRetry_keeps (x0 : Fin 20) (x1 : State) {s0 : State} (h1 : Keeps s0 x1) : KeepsOut s0 (execPhaseRetry x0 x1) := by
  unfold execPhaseRetry
  try dsimp only
  repeat' (first | with_reducible assumption  | with_reducible apply KeepsOut.next| with_reducible apply State.put_keeps | with_reducible apply State.modPhase_keeps | with_reducible apply State.modConv_keeps | with_reducible apply State.when_keeps | with_reducible apply State.softStart_keeps | simp only [Keeps.mk_eq] | split | (intro _) )

theorem execPhaseRetryOk_keeps (x0 : Fin 20) (x1 : State) {s0 : State} (h1 : Keeps s0 x1) : KeepsOut s0 (execPhaseRetryOk x0 x1) := by
  unfold execPhaseRetryOk
  try dsimp only
  repeat' (first | with_reducible assumption  | with_reducible apply KeepsOut.next| with_reducible apply State.put_keeps | with_reducible apply State.modPhase_keeps | with_reducible apply State.raiseOn_keeps | with_reducible apply State.when_keeps | simp only [Keeps.mk_eq] | split | (intro _) )

theorem execConvShortCircuit_keeps (x0 : Conv) (x1 : State) {s0 : State} (h1 : Keeps s0 x1) : KeepsOut s0 (execConvShortCircuit x0 x1) := by
  unfold execConvShortCircuit
  try dsimp only
  repeat' (first | with_reducible assumption  | with_reducible apply KeepsOut.next| with_reducible apply State.tripConv_keeps | with_reducible apply State.raise_keeps | simp only [Keeps.mk_eq] | split | (intro _) )

theorem execOverloadCompare_keeps (x0 : Conv) (x1 : State) {s0 : State} (h1 : Keeps s0 x1) : KeepsOut s0 (execOverloadCompare x0 x1) := by
  unfold execOverloadCompare
  try dsimp only
  repeat' (first | with_reducible assumption  | with_reducible apply KeepsOut.next| with_reducible apply State.setConv_keeps | with_reducible apply State.put_keeps | with_reducible apply State.when_keeps | with_reducible apply State.raiseOn_keeps | with_reducible apply State.tripConv_keeps | simp only [Keeps.mk_eq] | split | (intro _) )

theorem State.senseLimit_keeps (x0 : Fin 48) (x1 : Int) (x2 : State) {s0 : State} (h2 : Keeps s0 x2) : Keeps s0 (State.senseLimit x0 x1 x2) := by
  unfold State.senseLimit
  try dsimp only
  repeat' (first | with_reducible assumption | with_reducible apply State.modChan_keeps | with_reducible apply State.when_keeps | with_reducible apply State.raise_keeps | simp only [Keeps.mk_eq] | split | (intro _) )

theorem State.truncBegin_keeps (x0 : Carriers) (x1 : State) {s0 : State} (h1 : Keeps s0 x1) : Keeps s0 (State.truncBegin x0 x1) := by
  unfold State.truncBegin
  try dsimp only
  repeat' (first | with_reducible assumption | with_reducible apply State.each_keeps | with_reducible apply State.modPhase_keeps | with_reducible apply State.modPow_keeps | simp only [Keeps.mk_eq] | split | (intro _) )

theorem State.truncEnd_keeps (x0 : Carriers) (x1 : State) {s0 : State} (h1 : Keeps s0 x1) : Keeps s0 (State.truncEnd x0 x1) := by
  unfold State.truncEnd
  try dsimp only
  repeat' (first | with_reducible assumption | with_reducible apply State.each_keeps | with_reducible apply State.when_keeps | with_reducible apply State.modPhase_keeps | with_reducible apply State.modPow_keeps | simp only [Keeps.mk_eq] | split | (intro _) )

theorem State.truncation_keeps (x0 : Int) (x1 : Carriers) (x2 : State) {s0 : State} (h2 : Keeps s0 x2) : Keeps s0 (State.truncation x0 x1 x2) := by
  unfold State.truncation
  try dsimp only
  repeat' (first | with_reducible assumption | with_reducible apply State.truncEnd_keeps | with_reducible apply State.modPow_keeps | with_reducible apply State.raise_keeps | with_reducible apply State.inc_keeps | with_reducible apply State.truncBegin_keeps | simp only [Keeps.mk_eq] | split | (intro _) )

theorem State.overVoltage_keeps (x0 : Int) (x1 : State) {s0 : State} (h1 : Keeps s0 x1) : Keeps s0 (State.overVoltage x0 x1) := by
  unfold State.overVoltage
  try dsimp only
  repeat' (first | with_reducible assumption | with_reducible apply State.modPow_keeps | with_reducible apply State.each_keeps | with_reducible apply State.modConv_keeps | with_reducible apply State.convOff_keeps | with_reducible apply State.raise_keeps | with_reducible apply State.inc_keeps | with_reducible apply State.raise0_keeps | with_reducible apply State.put_keeps | simp only [Keeps.mk_eq] | split | (intro _) )

theorem State.protectChan_keeps (x0 : Vector (BitVec 4) 48) (x1 : Fin 48) (x2 : State) {s0 : State} (h2 : Keeps s0 x2) : Keeps s0 (State.protectChan x0 x1 x2) := by
  unfold State.protectChan
  try dsimp only
  repeat' (first | with_reducible assumption | with_reducible apply State.modChan_keeps | with_reducible apply State.when_keeps | with_reducible apply State.inc_keeps | with_reducible apply State.put_keeps | with_reducible apply State.senseLimit_keeps | simp only [Keeps.mk_eq] | split | (intro _) )

theorem execProtectionSample_keeps (x0 : Vector (BitVec 4) 48) (x1 : Carriers) (x2 : State) {s0 : State} (h2 : Keeps s0 x2) : KeepsOut s0 (execProtectionSample x0 x1 x2) := by
  unfold execProtectionSample
  try dsimp only
  repeat' (first | with_reducible assumption  | with_reducible apply KeepsOut.next| with_reducible apply State.each_keeps | with_reducible apply State.protectChan_keeps | with_reducible apply State.overVoltage_keeps | with_reducible apply State.truncation_keeps | simp only [Keeps.mk_eq] | split | (intro _) )

theorem execBusOvRestart_keeps (x0 : State) {s0 : State} (h0 : Keeps s0 x0) : KeepsOut s0 (execBusOvRestart x0) := by
  unfold execBusOvRestart
  try dsimp only
  repeat' (first | with_reducible assumption  | with_reducible apply KeepsOut.next| with_reducible apply State.startWaiting_keeps | with_reducible apply State.modPow_keeps | simp only [Keeps.mk_eq] | split | (intro _) )

theorem State.ovClear_keeps (x0 : Int) (x1 : State) {s0 : State} (h1 : Keeps s0 x1) : Keeps s0 (State.ovClear x0 x1).1 := by
  unfold State.ovClear
  try dsimp only
  repeat' (first | with_reducible assumption | with_reducible apply State.ok_keeps | with_reducible apply State.modPow_keeps | with_reducible apply State.put_keeps | simp only [Keeps.mk_eq] | split | (intro _) )

theorem execOvLatchClear_keeps (x0 : Nat) (x1 : State) {s0 : State} (h1 : Keeps s0 x1) : KeepsOut s0 (execOvLatchClear x0 x1) := by
  unfold execOvLatchClear
  try dsimp only
  repeat' (first | with_reducible assumption  | with_reducible apply KeepsOut.next| with_reducible apply State.hostWrite_keeps | with_reducible apply State.ovClear_keeps | simp only [Keeps.mk_eq] | split | (intro _) )

theorem execBusUndervoltage_keeps (x0 : State) {s0 : State} (h0 : Keeps s0 x0) : KeepsOut s0 (execBusUndervoltage x0) := by
  unfold execBusUndervoltage
  try dsimp only
  repeat' (first | with_reducible assumption  | with_reducible apply KeepsOut.next| with_reducible apply State.raise_keeps | with_reducible apply State.modPow_keeps | simp only [Keeps.mk_eq] | split | (intro _) )

theorem State.feedStop_keeps (x0 : Nat) (x1 : State) {s0 : State} (h1 : Keeps s0 x1) : Keeps s0 (State.feedStop x0 x1) := by
  unfold State.feedStop
  try dsimp only
  repeat' (first | with_reducible assumption | with_reducible apply State.raise_keeps | with_reducible apply State.stopConv_keeps | simp only [Keeps.mk_eq] | split | (intro _) )

theorem execFeedUndervoltage_keeps (x0 : State) {s0 : State} (h0 : Keeps s0 x0) : KeepsOut s0 (execFeedUndervoltage x0) := by
  unfold execFeedUndervoltage
  try dsimp only
  repeat' (first | with_reducible assumption  | with_reducible apply KeepsOut.next| with_reducible apply State.when_keeps | with_reducible apply State.feedStop_keeps | simp only [Keeps.mk_eq] | split | (intro _) )

theorem execFeedOvervoltage_keeps (x0 : State) {s0 : State} (h0 : Keeps s0 x0) : KeepsOut s0 (execFeedOvervoltage x0) := by
  unfold execFeedOvervoltage
  try dsimp only
  repeat' (first | with_reducible assumption  | with_reducible apply KeepsOut.next| with_reducible apply State.when_keeps | with_reducible apply State.feedStop_keeps | simp only [Keeps.mk_eq] | split | (intro _) )

theorem execFeedRestart_keeps (x0 : State) {s0 : State} (h0 : Keeps s0 x0) : KeepsOut s0 (execFeedRestart x0) := by
  unfold execFeedRestart
  try dsimp only
  repeat' (first | with_reducible assumption  | with_reducible apply KeepsOut.next| with_reducible apply State.tryFeed_keeps | simp only [Keeps.mk_eq] | split | (intro _) )

theorem execPhaseTempShutdown_keeps (x0 : Fin 20) (x1 : State) {s0 : State} (h1 : Keeps s0 x1) : KeepsOut s0 (execPhaseTempShutdown x0 x1) := by
  unfold execPhaseTempShutdown
  try dsimp only
  repeat' (first | with_reducible assumption  | with_reducible apply KeepsOut.next| with_reducible apply State.raise_keeps | with_reducible apply State.tempStop_keeps | simp only [Keeps.mk_eq] | split | (intro _) )

theorem execPhaseTempRestart_keeps (x0 : Fin 20) (x1 : State) {s0 : State} (h1 : Keeps s0 x1) : KeepsOut s0 (execPhaseTempRestart x0 x1) := by
  unfold execPhaseTempRestart
  try dsimp only
  repeat' (first | with_reducible assumption  | with_reducible apply KeepsOut.next| with_reducible apply State.raise_keeps | with_reducible apply State.bringBack_keeps | simp only [Keeps.mk_eq] | split | (intro _) )

theorem execSenseSuspect_keeps (x0 : Fin 48) (x1 : State) {s0 : State} (h1 : Keeps s0 x1) : KeepsOut s0 (execSenseSuspect x0 x1) := by
  unfold execSenseSuspect
  try dsimp only
  repeat' (first | with_reducible assumption  | with_reducible apply KeepsOut.next| with_reducible apply State.modChan_keeps | simp only [Keeps.mk_eq] | split | (intro _) )

theorem State.senseLost_keeps (x0 : Fin 48) (x1 : State) {s0 : State} (h1 : Keeps s0 x1) : Keeps s0 (State.senseLost x0 x1) := by
  unfold State.senseLost
  try dsimp only
  repeat' (first | with_reducible assumption | with_reducible apply State.each_keeps | with_reducible apply State.stopConv_keeps | with_reducible apply State.modPhase_keeps | with_reducible apply State.when_keeps | with_reducible apply State.phaseOut_keeps | simp only [Keeps.mk_eq] | split | (intro _) )

theorem execSenseOpen_keeps (x0 : Fin 48) (x1 : State) {s0 : State} (h1 : Keeps s0 x1) : KeepsOut s0 (execSenseOpen x0 x1) := by
  unfold execSenseOpen
  try dsimp only
  repeat' (first | with_reducible assumption  | with_reducible apply KeepsOut.next| with_reducible apply State.raiseOn_keeps | with_reducible apply State.modChan_keeps | with_reducible apply State.raise_keeps | with_reducible apply State.senseLost_keeps | simp only [Keeps.mk_eq] | split | (intro _) )

theorem execSenseOpenClear_keeps (x0 : Fin 48) (x1 : State) {s0 : State} (h1 : Keeps s0 x1) : KeepsOut s0 (execSenseOpenClear x0 x1) := by
  unfold execSenseOpenClear
  try dsimp only
  repeat' (first | with_reducible assumption  | with_reducible apply KeepsOut.next| with_reducible apply State.modChan_keeps | with_reducible apply State.startWaiting_keeps | simp only [Keeps.mk_eq] | split | (intro _) )

theorem execConvertersStart_keeps (x0 : State) {s0 : State} (h0 : Keeps s0 x0) : KeepsOut s0 (execConvertersStart x0) := by
  unfold execConvertersStart
  try dsimp only
  repeat' (first | with_reducible assumption  | with_reducible apply KeepsOut.next| with_reducible apply State.startConverters_keeps | simp only [Keeps.mk_eq] | split | (intro _) )

theorem execStorageConverterStart_keeps (x0 : State) {s0 : State} (h0 : Keeps s0 x0) : KeepsOut s0 (execStorageConverterStart x0) := by
  unfold execStorageConverterStart
  try dsimp only
  repeat' (first | with_reducible assumption  | with_reducible apply KeepsOut.next| with_reducible apply State.tryStorage_keeps | simp only [Keeps.mk_eq] | split | (intro _) )

theorem State.enableWrite_keeps (x0 : Conv) (x1 : Int) (x2 : State) {s0 : State} (h2 : Keeps s0 x2) : Keeps s0 (State.enableWrite x0 x1 x2).1 := by
  unfold State.enableWrite
  try dsimp only
  repeat' (first | with_reducible assumption | with_reducible apply State.put_keeps | with_reducible apply State.ok_keeps | with_reducible apply State.modConv_keeps | simp only [Keeps.mk_eq] | split | (intro _) )

theorem execConverterEnableWrite_keeps (x0 : Conv) (x1 : HostWrite) (x2 : State) {s0 : State} (h2 : Keeps s0 x2) : KeepsOut s0 (execConverterEnableWrite x0 x1 x2) := by
  unfold execConverterEnableWrite
  try dsimp only
  repeat' (first | with_reducible assumption  | with_reducible apply KeepsOut.next| with_reducible apply State.hostWrite_keeps | with_reducible apply State.enableWrite_keeps | simp only [Keeps.mk_eq] | split | (intro _) )

theorem execVoltageTargetWrite_keeps (x0 : HostWrite) (x1 : State) {s0 : State} (h1 : Keeps s0 x1) : KeepsOut s0 (execVoltageTargetWrite x0 x1) := by
  unfold execVoltageTargetWrite
  try dsimp only
  repeat' (first | with_reducible assumption  | with_reducible apply KeepsOut.next| with_reducible apply State.hostWrite_keeps | with_reducible apply State.ok_keeps | with_reducible apply State.setTarget_keeps | simp only [Keeps.mk_eq] | split | (intro _) )

theorem execBurstEnter_keeps (x0 : Conv) (x1 : State) {s0 : State} (h1 : Keeps s0 x1) : KeepsOut s0 (execBurstEnter x0 x1) := by
  unfold execBurstEnter
  try dsimp only
  repeat' (first | with_reducible assumption  | with_reducible apply KeepsOut.next| with_reducible apply State.when_keeps | with_reducible apply State.burstEnter_keeps | simp only [Keeps.mk_eq] | split | (intro _) )

theorem execBurstExit_keeps (x0 : Conv) (x1 : State) {s0 : State} (h1 : Keeps s0 x1) : KeepsOut s0 (execBurstExit x0 x1) := by
  unfold execBurstExit
  try dsimp only
  repeat' (first | with_reducible assumption  | with_reducible apply KeepsOut.next| with_reducible apply State.burstExit_keeps | simp only [Keeps.mk_eq] | split | (intro _) )

theorem execFeedBurstPacket_keeps (x0 : State) {s0 : State} (h0 : Keeps s0 x0) : KeepsOut s0 (execFeedBurstPacket x0) := by
  unfold execFeedBurstPacket
  try dsimp only
  repeat' (first | with_reducible assumption  | with_reducible apply KeepsOut.next| with_reducible apply State.modConv_keeps | simp only [Keeps.mk_eq] | split | (intro _) )

theorem State.shareTrim_keeps (x0 : Conv) (x1 : State) {s0 : State} (h1 : Keeps s0 x1) : Keeps s0 (State.shareTrim x0 x1) := by
  unfold State.shareTrim
  try dsimp only
  repeat' (first | with_reducible assumption | with_reducible apply State.each_keeps | with_reducible apply State.modPhase_keeps | with_reducible apply State.put_keeps | simp only [Keeps.mk_eq] | split | (intro _) )

theorem execShareTrim_keeps (x0 : State) {s0 : State} (h0 : Keeps s0 x0) : KeepsOut s0 (execShareTrim x0) := by
  unfold execShareTrim
  try dsimp only
  repeat' (first | with_reducible assumption  | with_reducible apply KeepsOut.next| with_reducible apply State.each_keeps | with_reducible apply State.shareTrim_keeps | simp only [Keeps.mk_eq] | split | (intro _) )

theorem execShareTrimAtLimit_keeps (x0 : Fin 20) (x1 : State) {s0 : State} (h1 : Keeps s0 x1) : KeepsOut s0 (execShareTrimAtLimit x0 x1) := by
  unfold execShareTrimAtLimit
  try dsimp only
  repeat' (first | with_reducible assumption  | with_reducible apply KeepsOut.next| with_reducible apply State.raise_keeps | with_reducible apply State.modPhase_keeps | simp only [Keeps.mk_eq] | split | (intro _) )

theorem State.takeOut_keeps (x0 : Fin 20) (x1 : State) {s0 : State} (h1 : Keeps s0 x1) : Keeps s0 (State.takeOut x0 x1) := by
  unfold State.takeOut
  try dsimp only
  repeat' (first | with_reducible assumption | with_reducible apply State.phaseOut_keeps | with_reducible apply State.put_keeps | with_reducible apply State.modPhase_keeps | simp only [Keeps.mk_eq] | split | (intro _) )

theorem execPhaseRejoined_keeps (x0 : Fin 20) (x1 : State) {s0 : State} (h1 : Keeps s0 x1) : KeepsOut s0 (execPhaseRejoined x0 x1) := by
  unfold execPhaseRejoined
  try dsimp only
  repeat' (first | with_reducible assumption  | with_reducible apply KeepsOut.next| with_reducible apply State.raiseOn_keeps | with_reducible apply State.put_keeps | with_reducible apply State.modPhase_keeps | simp only [Keeps.mk_eq] | split | (intro _) )

theorem State.clearLatch_keeps (x0 : Fin 20) (x1 : State) {s0 : State} (h1 : Keeps s0 x1) : Keeps s0 (State.clearLatch x0 x1) := by
  unfold State.clearLatch
  try dsimp only
  repeat' (first | with_reducible assumption | with_reducible apply State.put_keeps | with_reducible apply State.modPhase_keeps | simp only [Keeps.mk_eq] | split | (intro _) )

theorem State.serviceCommand_keeps (x0 : Fin 20) (x1 : Int) (x2 : State) {s0 : State} (h2 : Keeps s0 x2) : Keeps s0 (State.serviceCommand x0 x1 x2).1 := by
  unfold State.serviceCommand
  try dsimp only
  repeat' (first | with_reducible assumption | with_reducible apply State.ok_keeps | with_reducible apply State.takeOut_keeps | with_reducible apply State.bringBack_keeps | with_reducible apply State.refuse_keeps | with_reducible apply State.clearLatch_keeps | simp only [Keeps.mk_eq] | split | (intro _) )

theorem execTakeOut_keeps (x0 : Fin 20) (x1 : Nat) (x2 : State) {s0 : State} (h2 : Keeps s0 x2) : KeepsOut s0 (execTakeOut x0 x1 x2) := by
  unfold execTakeOut
  try dsimp only
  repeat' (first | with_reducible assumption  | with_reducible apply KeepsOut.next| with_reducible apply State.hostWrite_keeps | with_reducible apply State.serviceCommand_keeps | simp only [Keeps.mk_eq] | split | (intro _) )

theorem execBringBack_keeps (x0 : Fin 20) (x1 : Nat) (x2 : State) {s0 : State} (h2 : Keeps s0 x2) : KeepsOut s0 (execBringBack x0 x1 x2) := by
  unfold execBringBack
  try dsimp only
  repeat' (first | with_reducible assumption  | with_reducible apply KeepsOut.next| with_reducible apply State.hostWrite_keeps | with_reducible apply State.serviceCommand_keeps | simp only [Keeps.mk_eq] | split | (intro _) )

theorem execClearLatch_keeps (x0 : Fin 20) (x1 : Nat) (x2 : State) {s0 : State} (h2 : Keeps s0 x2) : KeepsOut s0 (execClearLatch x0 x1 x2) := by
  unfold execClearLatch
  try dsimp only
  repeat' (first | with_reducible assumption  | with_reducible apply KeepsOut.next| with_reducible apply State.hostWrite_keeps | with_reducible apply State.serviceCommand_keeps | simp only [Keeps.mk_eq] | split | (intro _) )

theorem State.softTick_keeps (x0 : Conv) (x1 : State) {s0 : State} (h1 : Keeps s0 x1) : Keeps s0 (State.softTick x0 x1) := by
  unfold State.softTick
  try dsimp only
  repeat' (first | with_reducible assumption | with_reducible apply State.raiseOn_keeps | with_reducible apply State.modConv_keeps | with_reducible apply State.put_keeps | with_reducible apply State.modPow_keeps | with_reducible apply State.when_keeps | with_reducible apply State.showAtTarget_keeps | simp only [Keeps.mk_eq] | split | (intro _) )

theorem State.refTick_keeps (x0 : State) {s0 : State} (h0 : Keeps s0 x0) : Keeps s0 (State.refTick x0) := by
  unfold State.refTick
  try dsimp only
  repeat' (first | with_reducible assumption | with_reducible apply State.showAtTarget_keeps | with_reducible apply State.put_keeps | with_reducible apply State.modPow_keeps | simp only [Keeps.mk_eq] | split | (intro _) )

theorem State.tempTick_keeps (x0 : Fin 20) (x1 : State) {s0 : State} (h1 : Keeps s0 x1) : Keeps s0 (State.tempTick x0 x1) := by
  unfold State.tempTick
  try dsimp only
  repeat' (first | with_reducible assumption | with_reducible apply State.setPhase_keeps | with_reducible apply State.when_keeps | with_reducible apply State.raise_keeps | simp only [Keeps.mk_eq] | split | (intro _) )

theorem State.blendTick_keeps (x0 : Fin 20) (x1 : State) {s0 : State} (h1 : Keeps s0 x1) : Keeps s0 (State.blendTick x0 x1) := by
  unfold State.blendTick
  try dsimp only
  repeat' (first | with_reducible assumption | with_reducible apply State.put_keeps | simp only [Keeps.mk_eq] | split | (intro _) )

theorem State.sampleTick_keeps (x0 : Fin 48) (x1 : State) {s0 : State} (h1 : Keeps s0 x1) : Keeps s0 (State.sampleTick x0 x1) := by
  unfold State.sampleTick
  try dsimp only
  repeat' (first | with_reducible assumption | with_reducible apply State.when_keeps | with_reducible apply State.inc_keeps | with_reducible apply State.put_keeps | simp only [Keeps.mk_eq] | split | (intro _) )

theorem State.powerCounters_keeps (x0 : State) {s0 : State} (h0 : Keeps s0 x0) : Keeps s0 (State.powerCounters x0) := by
  unfold State.powerCounters
  try dsimp only
  repeat' (first | with_reducible assumption | with_reducible apply State.modPow_keeps | with_reducible apply State.each_keeps | with_reducible apply State.modConv_keeps | simp only [Keeps.mk_eq] | split | (intro _) )

theorem State.powerTick_keeps (x0 : State) {s0 : State} (h0 : Keeps s0 x0) : Keeps s0 (State.powerTick x0) := by
  unfold State.powerTick
  try dsimp only
  repeat' (first | with_reducible assumption | with_reducible apply State.each_keeps | with_reducible apply State.sampleTick_keeps | with_reducible apply State.burstTick_keeps | with_reducible apply State.powerCounters_keeps | with_reducible apply State.tempTick_keeps | with_reducible apply State.blendTick_keeps | with_reducible apply State.softTick_keeps | with_reducible apply State.refTick_keeps | simp only [Keeps.mk_eq] | split | (intro _) )

theorem State.portDown_keeps (x0 : Fin 2) (x1 : State) {s0 : State} (h1 : Keeps s0 x1) : Keeps s0 (State.portDown x0 x1) := by
  unfold State.portDown
  try dsimp only
  repeat' (first | with_reducible assumption | with_reducible apply State.raiseOn_keeps | with_reducible apply State.put_keeps | simp only [Keeps.mk_eq] | split | (intro _) )

theorem State.portReturns_keeps (x0 : Fin 2) (x1 : State) {s0 : State} (h1 : Keeps s0 x1) : Keeps s0 (State.portReturns x0 x1) := by
  unfold State.portReturns
  try dsimp only
  repeat' (first | with_reducible assumption | with_reducible apply State.send_keeps | with_reducible apply State.raiseOn_keeps | with_reducible apply State.put_keeps | simp only [Keeps.mk_eq] | split | (intro _) )

theorem State.portEnableWrite_keeps (x0 : Fin 2) (x1 : Nat) (x2 : Int) (x3 : State) {s0 : State} (h3 : Keeps s0 x3) : Keeps s0 (State.portEnableWrite x0 x1 x2 x3).1 := by
  unfold State.portEnableWrite
  try dsimp only
  repeat' (first | with_reducible assumption | with_reducible apply State.refuse_keeps | with_reducible apply State.put_keeps | with_reducible apply State.ok_keeps | with_reducible apply State.portDown_keeps | simp only [Keeps.mk_eq] | split | (intro _) )

theorem State.releaseSelfDiag_keeps (x0 : Nat) (x1 : State) {s0 : State} (h1 : Keeps s0 x1) : Keeps s0 (State.releaseSelfDiag x0 x1) := by
  unfold State.releaseSelfDiag
  try dsimp only
  repeat' (first | with_reducible assumption | with_reducible apply State.startHandover_keeps | with_reducible apply State.raiseOn_keeps | with_reducible apply State.raise0_keeps | with_reducible apply State.modPair_keeps | simp only [Keeps.mk_eq] | split | (intro _) )

theorem State.selfDiag_keeps (x0 : Nat) (x1 : State) {s0 : State} (h1 : Keeps s0 x1) : Keeps s0 (State.selfDiag x0 x1) := by
  unfold State.selfDiag
  try dsimp only
  repeat' (first | with_reducible assumption | with_reducible apply State.diagnose_keeps | with_reducible apply State.modPair_keeps | with_reducible apply State.modPins_keeps | with_reducible apply State.put_keeps | with_reducible apply State.releaseSelfDiag_keeps | with_reducible apply State.armClaim_keeps | simp only [Keeps.mk_eq] | split | (intro _) )

theorem onFin_keeps (n subj : Nat) (f : Fin n → State → State) (s : State) {s0 : State}
    (hf : ∀ i t, Keeps s0 t → Keeps s0 (f i t)) (h : Keeps s0 s) : Keeps s0 (onFin n subj f s) := by
  unfold onFin
  split
  · exact hf _ _ h
  · exact h

theorem onConv_keeps (x0 : Nat) (x1 : Conv → State → State) (x2 : State) {s0 : State} (h1 : ∀ y0 y1, Keeps s0 y1 → Keeps s0 (x1 y0 y1)) (h2 : Keeps s0 x2) : Keeps s0 (onConv x0 x1 x2) := by
  unfold onConv
  try dsimp only
  repeat' (first | with_reducible assumption  | with_reducible apply h1 | simp only [Keeps.mk_eq] | split | (intro _) )

theorem State.stimulatePower_keeps (x0 : Nat) (x1 : Nat) (x2 : State) {s0 : State} (h2 : Keeps s0 x2) : Keeps s0 (State.stimulatePower x0 x1 x2) := by
  unfold State.stimulatePower
  try dsimp only
  repeat' (first | with_reducible assumption | with_reducible apply onFin_keeps | with_reducible apply State.when_keeps | with_reducible apply outState_keeps | with_reducible apply execPhaseHiccup_keeps | with_reducible apply State.modPhase_keeps | with_reducible apply State.enterHiccup_keeps | with_reducible apply State.put_keeps | with_reducible apply onConv_keeps | with_reducible apply State.tripConv_keeps | with_reducible apply State.raiseOn_keeps | with_reducible apply State.modConv_keeps | with_reducible apply State.truncation_keeps | with_reducible apply State.overVoltage_keeps | with_reducible apply State.modPow_keeps | with_reducible apply execBusUndervoltage_keeps | with_reducible apply State.feedStop_keeps | with_reducible apply State.raise_keeps | with_reducible apply execPhaseTempShutdown_keeps | with_reducible apply execSenseOpen_keeps | with_reducible apply State.modChan_keeps | simp only [Keeps.mk_eq] | split | (intro _) )

theorem State.stimulatePackage_keeps (x0 : Nat) (x1 : Nat) (x2 : State) {s0 : State} (h2 : Keeps s0 x2) : Keeps s0 (State.stimulatePackage x0 x1 x2) := by
  unfold State.stimulatePackage
  try dsimp only
  repeat' (first | with_reducible assumption | with_reducible apply onFin_keeps | with_reducible apply State.when_keeps | with_reducible apply State.raiseOn_keeps | with_reducible apply State.modMd_keeps | with_reducible apply State.raise0_keeps | with_reducible apply State.modJunction_keeps | with_reducible apply State.safLater_keeps | with_reducible apply State.sayCritical_keeps | simp only [Keeps.mk_eq] | split | (intro _) )

theorem State.stimulateEngines_keeps (x0 : Nat) (x1 : Nat) (x2 : State) {s0 : State} (h2 : Keeps s0 x2) : Keeps s0 (State.stimulateEngines x0 x1 x2) := by
  unfold State.stimulateEngines
  try dsimp only
  repeat' (first | with_reducible assumption | with_reducible apply onFin_keeps | with_reducible apply outState_keeps | with_reducible apply execCardamomOverrun_keeps | with_reducible apply execCardamomMemCorrected_keeps | with_reducible apply execCardamomMemUncorrectable_keeps | with_reducible apply State.settle_keeps | with_reducible apply State.modCore_keeps | with_reducible apply execSaffronFastOverrun_keeps | with_reducible apply State.modSaf_keeps | with_reducible apply State.when_keeps | with_reducible apply State.setAge_keeps | with_reducible apply State.raise0_keeps | with_reducible apply State.inc_keeps | with_reducible apply execSaffronStreamError_keeps | with_reducible apply State.setDiv_keeps | with_reducible apply State.raiseOn_keeps | with_reducible apply State.showTrust_keeps | with_reducible apply execSaffronTileFailed_keeps | simp only [Keeps.mk_eq] | split | (intro _) )

theorem State.stimulateChain_keeps (x0 : Nat) (x1 : Nat) (x2 : Nat) (x3 : State) {s0 : State} (h3 : Keeps s0 x3) : Keeps s0 (State.stimulateChain x0 x1 x2 x3) := by
  unfold State.stimulateChain
  try dsimp only
  repeat' (first | with_reducible assumption | with_reducible apply onFin_keeps | with_reducible apply State.when_keeps | with_reducible apply State.showStale_keeps | with_reducible apply State.raiseOn_keeps | with_reducible apply State.put_keeps | with_reducible apply State.makeStale_keeps | with_reducible apply State.unitBit_keeps | with_reducible apply State.inc_keeps | with_reducible apply State.startTrip_keeps | with_reducible apply State.orderTest_keeps | with_reducible apply State.raise_keeps | with_reducible apply State.modUnit_keeps | simp only [Keeps.mk_eq] | split | (intro _) )

theorem State.stimulateRack_keeps (x0 : Nat) (x1 : Nat) (x2 : State) {s0 : State} (h2 : Keeps s0 x2) : Keeps s0 (State.stimulateRack x0 x1 x2) := by
  unfold State.stimulateRack
  try dsimp only
  repeat' (first | with_reducible assumption | with_reducible apply onFin_keeps | with_reducible apply State.when_keeps | with_reducible apply State.trayAbsent_keeps | with_reducible apply State.coolantStop_keeps | with_reducible apply State.raiseOn_keeps | with_reducible apply State.enterTime_keeps | with_reducible apply State.chooseTime_keeps | with_reducible apply State.raise0_keeps | with_reducible apply State.modTime_keeps | with_reducible apply State.cloveCount_keeps | with_reducible apply State.linkDown_keeps | simp only [Keeps.mk_eq] | split | (intro _) )

theorem State.stimulateOther_keeps (x0 : Nat) (x1 : Nat) (x2 : State) {s0 : State} (h2 : Keeps s0 x2) : Keeps s0 (State.stimulateOther x0 x1 x2) := by
  unfold State.stimulateOther
  try dsimp only
  repeat' (first | with_reducible assumption | with_reducible apply onFin_keeps | with_reducible apply State.portDown_keeps | with_reducible apply outState_keeps | with_reducible apply execCryptoSelfTestFailed_keeps | with_reducible apply execTamperDetected_keeps | with_reducible apply State.when_keeps | with_reducible apply State.driveXoff_keeps | with_reducible apply State.sendPfc_keeps | with_reducible apply State.raiseOn_keeps | with_reducible apply State.inc_keeps | with_reducible apply State.setQueue_keeps | with_reducible apply State.raise_keeps | with_reducible apply State.readErrors_keeps | with_reducible apply State.poisonFirst_keeps | with_reducible apply State.selfDiag_keeps | with_reducible apply State.raise0_keeps | with_reducible apply State.put_keeps | simp only [Keeps.mk_eq] | split | (intro _) )

theorem State.stimulate_keeps (x0 : Nat) (x1 : Nat) (x2 : BitVec 96) (x3 : State) {s0 : State} (h3 : Keeps s0 x3) : Keeps s0 (State.stimulate x0 x1 x2 x3) := by
  unfold State.stimulate
  try dsimp only
  repeat' (first | with_reducible assumption | with_reducible apply State.stimulatePower_keeps | with_reducible apply State.stimulatePackage_keeps | with_reducible apply State.stimulateEngines_keeps | with_reducible apply State.stimulateChain_keeps | with_reducible apply State.stimulateRack_keeps | with_reducible apply State.stimulateOther_keeps | simp only [Keeps.mk_eq] | split | (intro _) )

theorem State.injectOnce_keeps (x0 : InjPoint) (x1 : State) {s0 : State} (h1 : Keeps s0 x1) : Keeps s0 (State.injectOnce x0 x1) := by
  unfold State.injectOnce
  try dsimp only
  repeat' (first | with_reducible assumption | with_reducible apply State.stimulate_keeps | with_reducible apply State.raiseOwn_keeps | simp only [Keeps.mk_eq] | split | (intro _) )

theorem State.injectAction_keeps (x0 : InjPoint) (x1 : State) {s0 : State} (h1 : Keeps s0 x1) : Keeps s0 (State.injectAction x0 x1) := by
  unfold State.injectAction
  try dsimp only
  repeat' (first | with_reducible assumption | with_reducible apply State.injectOnce_keeps | with_reducible apply State.inc_keeps | simp only [Keeps.mk_eq] | split | (intro _) )

theorem State.modPoint_keeps (x0 : InjPoint) (x1 : InjPoint → InjPoint) (x2 : State) {s0 : State} (h2 : Keeps s0 x2) : Keeps s0 (State.modPoint x0 x1 x2) := by
  unfold State.modPoint
  try dsimp only
  repeat' (first | with_reducible assumption  | simp only [Keeps.mk_eq] | split | (intro _) )

theorem State.injectAt_keeps (x0 : InjPoint) (x1 : State) {s0 : State} (h1 : Keeps s0 x1) : Keeps s0 (State.injectAt x0 x1) := by
  unfold State.injectAt
  try dsimp only
  repeat' (first | with_reducible assumption | with_reducible apply State.injectOnce_keeps | with_reducible apply State.injectAction_keeps | with_reducible apply State.modPoint_keeps | with_reducible apply State.disarm_keeps | simp only [Keeps.mk_eq] | split | (intro _) )

theorem execInjectionAct_keeps (x0 : State) {s0 : State} (h0 : Keeps s0 x0) : KeepsOut s0 (execInjectionAct x0) := by
  unfold execInjectionAct
  try dsimp only
  repeat' (first | with_reducible assumption  | with_reducible apply KeepsOut.next| with_reducible apply State.each_keeps | with_reducible apply State.injectAt_keeps | simp only [Keeps.mk_eq] | split | (intro _) )

theorem execInjectionReportPeriod_keeps (x0 : State) {s0 : State} (h0 : Keeps s0 x0) : KeepsOut s0 (execInjectionReportPeriod x0) := by
  unfold execInjectionReportPeriod
  try dsimp only
  repeat' (first | with_reducible assumption  | with_reducible apply KeepsOut.next| with_reducible apply State.each_keeps | with_reducible apply State.modPoint_keeps | with_reducible apply State.injectAction_keeps | simp only [Keeps.mk_eq] | split | (intro _) )

theorem State.armWrite_keeps (x0 : Nat) (x1 : Nat) (x2 : Int) (x3 : State) {s0 : State} (h3 : Keeps s0 x3) : Keeps s0 (State.armWrite x0 x1 x2 x3).1 := by
  unfold State.armWrite
  try dsimp only
  repeat' (first | with_reducible assumption | with_reducible apply State.ok_keeps | with_reducible apply State.each_keeps | with_reducible apply State.disarm_keeps | with_reducible apply State.refuse_keeps | with_reducible apply State.raise_keeps | simp only [Keeps.mk_eq] | split | (intro _) )

theorem execInjectionOnce_keeps (x0 : Fin 2816) (x1 : Nat) (x2 : State) {s0 : State} (h2 : Keeps s0 x2) : KeepsOut s0 (execInjectionOnce x0 x1 x2) := by
  unfold execInjectionOnce
  try dsimp only
  repeat' (first | with_reducible assumption  | with_reducible apply KeepsOut.next| with_reducible apply State.hostWrite_keeps | with_reducible apply State.armWrite_keeps | simp only [Keeps.mk_eq] | split | (intro _) )

theorem execInjectionContinuous_keeps (x0 : Fin 2816) (x1 : Nat) (x2 : State) {s0 : State} (h2 : Keeps s0 x2) : KeepsOut s0 (execInjectionContinuous x0 x1 x2) := by
  unfold execInjectionContinuous
  try dsimp only
  repeat' (first | with_reducible assumption  | with_reducible apply KeepsOut.next| with_reducible apply State.hostWrite_keeps | with_reducible apply State.armWrite_keeps | simp only [Keeps.mk_eq] | split | (intro _) )

theorem execInjectionDisarm_keeps (x0 : Fin 2816) (x1 : Nat) (x2 : State) {s0 : State} (h2 : Keeps s0 x2) : KeepsOut s0 (execInjectionDisarm x0 x1 x2) := by
  unfold execInjectionDisarm
  try dsimp only
  repeat' (first | with_reducible assumption  | with_reducible apply KeepsOut.next| with_reducible apply State.hostWrite_keeps | with_reducible apply State.armWrite_keeps | simp only [Keeps.mk_eq] | split | (intro _) )

theorem execDisarmAll_keeps (x0 : Nat) (x1 : State) {s0 : State} (h1 : Keeps s0 x1) : KeepsOut s0 (execDisarmAll x0 x1) := by
  unfold execDisarmAll
  try dsimp only
  repeat' (first | with_reducible assumption  | with_reducible apply KeepsOut.next| with_reducible apply State.hostWrite_keeps | with_reducible apply State.ok_keeps | with_reducible apply State.disarmAll_keeps | simp only [Keeps.mk_eq] | split | (intro _) )

theorem execServiceEnLow_keeps (x0 : State) {s0 : State} (h0 : Keeps s0 x0) : KeepsOut s0 (execServiceEnLow x0) := by
  unfold execServiceEnLow
  try dsimp only
  repeat' (first | with_reducible assumption  | with_reducible apply KeepsOut.next| with_reducible apply State.disarmAll_keeps | simp only [Keeps.mk_eq] | split | (intro _) )

theorem State.plainWrite_keeps (x0 : Nat) (x1 : List Byte) (x2 : Int) (x3 : State) {s0 : State} (h3 : Keeps s0 x3) : Keeps s0 (State.plainWrite x0 x1 x2 x3).1 := by
  unfold State.plainWrite
  try dsimp only
  repeat' (first | with_reducible assumption | with_reducible apply State.ok_keeps | with_reducible apply State.putBytes_keeps | with_reducible apply State.put_keeps | with_reducible apply State.refuse_keeps | simp only [Keeps.mk_eq] | split | (intro _) )

theorem State.closeWrite_keeps (x0 : Int) (x1 : State) {s0 : State} (h1 : Keeps s0 x1) : Keeps s0 (State.closeWrite x0 x1).1 := by
  unfold State.closeWrite
  try dsimp only
  repeat' (first | with_reducible assumption | with_reducible apply State.ok_keeps | with_reducible apply State.dropSession_keeps | with_reducible apply State.refuse_keeps | simp only [Keeps.mk_eq] | split | (intro _) )

theorem State.cursorWrite_keeps (x0 : Nat) (x1 : Int) (x2 : State) {s0 : State} (h2 : Keeps s0 x2) : Keeps s0 (State.cursorWrite x0 x1 x2).1 := by
  unfold State.cursorWrite
  try dsimp only
  repeat' (first | with_reducible assumption | with_reducible apply State.ok_keeps | with_reducible apply State.modSession_keeps | simp only [Keeps.mk_eq] | split | (intro _) )

theorem State.retryCatchUp_keeps (x0 : State) {s0 : State} (h0 : Keeps s0 x0) : Keeps s0 (State.retryCatchUp x0) := by
  unfold State.retryCatchUp
  try dsimp only
  repeat' (first | with_reducible assumption | with_reducible apply State.modPair_keeps | with_reducible apply State.put_keeps | simp only [Keeps.mk_eq] | split | (intro _) )

theorem State.writeAndShow_keeps (x0 : Nat) (x1 : List Byte) (x2 : Int) (x3 : State → State) (x4 : State) {s0 : State} (h3 : ∀ y0, Keeps s0 y0 → Keeps s0 (x3 y0)) (h4 : Keeps s0 x4) : Keeps s0 (State.writeAndShow x0 x1 x2 x3 x4).1 := by
  unfold State.writeAndShow
  try dsimp only
  repeat' (first | with_reducible assumption | with_reducible apply State.plainWrite_keeps | with_reducible apply State.when_keeps | with_reducible apply h3 | simp only [Keeps.mk_eq] | split | (intro _) )

theorem State.singleWrite_keeps (x0 : Nat) (x1 : HostWrite) (x2 : Nat) (x3 : Int) (x4 : State) {s0 : State} (h4 : Keeps s0 x4) :
    KeepsSome s0 (State.singleWrite x0 x1 x2 x3 x4) := by
  unfold State.singleWrite
  split
  case h_2 => exact KeepsSome.none
  rename_i f hf
  refine KeepsSome.some (KeepsAll.lookup ?_ f hf x4 h4)
  clear hf f
  repeat' (first | with_reducible apply KeepsAll.cons | with_reducible apply KeepsAll.nil)
  all_goals intro t ht
  repeat' (first | with_reducible assumption | with_reducible apply State.writeAndShow_keeps | with_reducible apply State.ledgerShow_keeps | with_reducible apply State.driveXoff_keeps | with_reducible apply State.poolCheck_keeps | with_reducible apply State.showTrust_keeps | with_reducible apply State.ok_keeps | with_reducible apply State.disarmAll_keeps | with_reducible apply State.legacyEnableWrite_keeps | with_reducible apply State.nonceWrite_keeps | with_reducible apply State.maskWrite_keeps | with_reducible apply State.commit_keeps | with_reducible apply State.prefer_keeps | with_reducible apply State.retryCatchUp_keeps | with_reducible apply State.modeCommand_keeps | with_reducible apply State.selfTestRun_keeps | with_reducible apply State.zeroise_keeps | with_reducible apply State.installIdentity_keeps | with_reducible apply State.capAt_keeps | with_reducible apply State.activateOwn_keeps | with_reducible apply State.clearPending_keeps | with_reducible apply State.closeWrite_keeps | with_reducible apply State.clearWrite_keeps | with_reducible apply State.cursorWrite_keeps | with_reducible apply State.askSweep_keeps | with_reducible apply State.estimateReset_keeps | with_reducible apply State.testCommand_keeps | with_reducible apply State.openQuiet_keeps | with_reducible apply State.journalTrigger_keeps | with_reducible apply State.slowTickWrite_keeps | with_reducible apply State.forceDiv_keeps | with_reducible apply State.rotationWrite_keeps | with_reducible apply State.loadCommandWrite_keeps | with_reducible apply State.acceptSerials_keeps | with_reducible apply State.chooseTime_keeps | with_reducible apply State.put_keeps | with_reducible apply State.setTarget_keeps | with_reducible apply State.ovClear_keeps | with_reducible apply State.enableSaffron_keeps | with_reducible apply State.clearFailed_keeps | with_reducible apply State.resetCommand_keeps | with_reducible apply State.shutdownCommand_keeps | with_reducible apply State.bankRetry_keeps | with_reducible apply State.inject_keeps | split | (intro _) )

theorem State.unitWrite_keeps (x0 : Nat) (x1 : HostWrite) (x2 : Int) (x3 : State) {s0 : State} (h3 : Keeps s0 x3) : KeepsSome s0 (State.unitWrite x0 x1 x2 x3) := by
  unfold State.unitWrite
  try dsimp only
  repeat' (first | with_reducible assumption  | with_reducible apply KeepsSome.map | with_reducible apply KeepsSome.none | with_reducible apply KeepsSome.some| with_reducible apply State.enableWrite_keeps | with_reducible apply State.serviceCommand_keeps | with_reducible apply State.coreCommand_keeps | with_reducible apply State.holdCommand_keeps | with_reducible apply State.coefWords_keeps | with_reducible apply State.coefBlock_keeps | with_reducible apply State.persist_keeps | simp only [Keeps.mk_eq] | split | (intro _) )

theorem State.rackWrite_keeps (x0 : Nat) (x1 : HostWrite) (x2 : Int) (x3 : State) {s0 : State} (h3 : Keeps s0 x3) : KeepsSome s0 (State.rackWrite x0 x1 x2 x3) := by
  unfold State.rackWrite
  try dsimp only
  repeat' (first | with_reducible assumption  | with_reducible apply KeepsSome.map | with_reducible apply KeepsSome.none | with_reducible apply KeepsSome.some| with_reducible apply State.policyWrite_keeps | with_reducible apply State.membersWrite_keeps | with_reducible apply State.coolantClear_keeps | with_reducible apply State.linkProfileOwn_keeps | with_reducible apply State.linkEnableOwn_keeps | with_reducible apply State.retimerCommand_keeps | with_reducible apply State.portEnableWrite_keeps | simp only [Keeps.mk_eq] | split | (intro _) )

theorem State.triggerWrite_keeps (x0 : Nat) (x1 : Nat) (x2 : HostWrite) (x3 : Int) (x4 : State) {s0 : State} (h4 : Keeps s0 x4) : KeepsSome s0 (State.triggerWrite x0 x1 x2 x3 x4) := by
  unfold State.triggerWrite
  try dsimp only
  repeat' (first | with_reducible assumption  | with_reducible apply KeepsSome.map | with_reducible apply KeepsSome.none | with_reducible apply KeepsSome.some| with_reducible apply State.snapshotWrite_keeps | with_reducible apply State.putBytes_keeps | with_reducible apply State.put_keeps | simp only [Keeps.mk_eq] | split | (intro _) )

theorem State.serviceWrite_keeps (x0 : Nat) (x1 : HostWrite) (x2 : Nat) (x3 : Int) (x4 : State) {s0 : State} (h4 : Keeps s0 x4) : KeepsSome s0 (State.serviceWrite x0 x1 x2 x3 x4) := by
  unfold State.serviceWrite
  try dsimp only
  repeat' (first | with_reducible assumption  | with_reducible apply KeepsSome.map | with_reducible apply KeepsSome.none | with_reducible apply KeepsSome.some| with_reducible apply State.ok_keeps | with_reducible apply State.flushQueue_keeps | with_reducible apply State.queueWrite_keeps | with_reducible apply State.triggerWrite_keeps | with_reducible apply State.targetWrite_keeps | with_reducible apply State.installKey_keeps | with_reducible apply State.keyCommand_keeps | with_reducible apply State.anchorsWrite_keeps | with_reducible apply State.armWrite_keeps | with_reducible apply State.legacyEntry_keeps | simp only [Keeps.mk_eq] | split | (intro _) )

theorem State.ownWrite_keeps (x0 : Nat) (x1 : HostWrite) (x2 : Nat) (x3 : Int) (x4 : State) {s0 : State} (h4 : Keeps s0 x4) : Keeps s0 (State.ownWrite x0 x1 x2 x3 x4).1 := by
  unfold State.ownWrite
  have a := State.singleWrite_keeps x0 x1 x2 x3 x4 h4
  have b := State.unitWrite_keeps x0 x1 x3 x4 h4
  have c := State.rackWrite_keeps x0 x1 x3 x4 h4
  have d := State.serviceWrite_keeps x0 x1 x2 x3 x4 h4
  split
  · exact a _ ‹_›
  · split
    · exact b _ ‹_›
    · split
      · exact c _ ‹_›
      · split
        · exact d _ ‹_›
        · exact State.plainWrite_keeps _ _ _ _ h4

theorem execRegisterWrite_keeps (x0 : Nat) (x1 : HostWrite) (x2 : State) {s0 : State} (h2 : Keeps s0 x2) : KeepsOut s0 (execRegisterWrite x0 x1 x2) := by
  unfold execRegisterWrite
  try dsimp only
  repeat' (first | with_reducible assumption  | with_reducible apply KeepsOut.next| with_reducible apply State.injectWrite_keeps | with_reducible apply State.hostWrite_keeps | with_reducible apply State.refuse_keeps | with_reducible apply State.ownWrite_keeps | simp only [Keeps.mk_eq] | split | (intro _) )

theorem State.sendHost_keeps (x0 : Nat) (x1 : Traffic) (x2 : List Byte) (x3 : State) {s0 : State} (h3 : Keeps s0 x3) : Keeps s0 (State.sendHost x0 x1 x2 x3) := by
  unfold State.sendHost
  try dsimp only
  repeat' (first | with_reducible assumption | with_reducible apply State.send_keeps | simp only [Keeps.mk_eq] | split | (intro _) )

theorem State.sendResp_keeps (x0 : Nat) (x1 : Nat) (x2 : Resp) (x3 : State) {s0 : State} (h3 : Keeps s0 x3) : Keeps s0 (State.sendResp x0 x1 x2 x3) := by
  unfold State.sendResp
  try dsimp only
  repeat' (first | with_reducible assumption | with_reducible apply State.each_keeps | with_reducible apply State.sendHost_keeps | simp only [Keeps.mk_eq] | split | (intro _) )

theorem State.respond_keeps (x0 : Nat) (x1 : Nat) (x2 : Nat) (x3 : Nat) (x4 : List (List Byte)) (x5 : State) {s0 : State} (h5 : Keeps s0 x5) : Keeps s0 (State.respond x0 x1 x2 x3 x4 x5) := by
  unfold State.respond
  try dsimp only
  repeat' (first | with_reducible assumption | with_reducible apply State.modSession_keeps | with_reducible apply State.when_keeps | with_reducible apply State.inc_keeps | with_reducible apply State.sendResp_keeps | simp only [Keeps.mk_eq] | split | (intro _) )

theorem State.answerMirror_keeps (x0 : Mirror) (x1 : Nat) (x2 : State) {s0 : State} (h2 : Keeps s0 x2) : Keeps s0 (State.answerMirror x0 x1 x2) := by
  unfold State.answerMirror
  split
  · exact h2
  · exact State.answer_keeps _ h2
  · split
    · exact State.respond_keeps _ _ _ _ _ _ h2
    · exact h2

theorem State.nameReply_keeps (x0 : Nat) (x1 : Nat) (x2 : State) {s0 : State} (h2 : Keeps s0 x2) : Keeps s0 (State.nameReply x0 x1 x2) := by
  unfold State.nameReply
  try dsimp only
  repeat' (first | with_reducible assumption | with_reducible apply State.modPair_keeps | with_reducible apply State.each_keeps | with_reducible apply State.modCore_keeps | simp only [Keeps.mk_eq] | split | (intro _) )

theorem State.answerWords_keeps (x0 : Fin 4) (x1 : State) {s0 : State} (h1 : Keeps s0 x1) : Keeps s0 (State.answerWords x0 x1) := by
  unfold State.answerWords
  split
  · refine State.modCore_keeps _ _ _ (State.each_keeps _ _ _ (fun o t ht => ?_) h1)
    split
    · exact State.answer_keeps _ ht
    · split
      · exact State.respond_keeps _ _ _ _ _ _ ht
      · exact ht
  · exact h1

theorem State.modHost_keeps (x0 : HostState → HostState) (x1 : State) {s0 : State} (h1 : Keeps s0 x1) : Keeps s0 (State.modHost x0 x1) := by
  unfold State.modHost
  try dsimp only
  repeat' (first | with_reducible assumption  | simp only [Keeps.mk_eq] | split | (intro _) )

theorem State.malformed_keeps (x0 : State) {s0 : State} (h0 : Keeps s0 x0) : Keeps s0 (State.malformed x0) := by
  unfold State.malformed
  try dsimp only
  repeat' (first | with_reducible assumption | with_reducible apply State.inc_keeps | with_reducible apply State.when_keeps | with_reducible apply State.raise0_keeps | with_reducible apply State.modHost_keeps | simp only [Keeps.mk_eq] | split | (intro _) )

theorem State.heard_keeps (x0 : ReqHdr) (x1 : State) {s0 : State} (h1 : Keeps s0 x1) : Keeps s0 (State.heard x0 x1) := by
  unfold State.heard
  try dsimp only
  repeat' (first | with_reducible assumption | with_reducible apply State.modSession_keeps | simp only [Keeps.mk_eq] | split | (intro _) )

theorem State.notOpen_keeps (x0 : Nat) (x1 : ReqHdr) (x2 : State) {s0 : State} (h2 : Keeps s0 x2) : Keeps s0 (State.notOpen x0 x1 x2) := by
  unfold State.notOpen
  try dsimp only
  repeat' (first | with_reducible assumption | with_reducible apply State.inc_keeps | with_reducible apply State.send_keeps | simp only [Keeps.mk_eq] | split | (intro _) )

theorem State.fromSession_keeps (x0 : Nat) (x1 : Nat) (x2 : Bool) (x3 : ReqHdr) (x4 : Session → State → State) (x5 : State) {s0 : State} (h4 : ∀ y0 y1, Keeps s0 y1 → Keeps s0 (x4 y0 y1)) (h5 : Keeps s0 x5) : Keeps s0 (State.fromSession x0 x1 x2 x3 x4 x5) := by
  unfold State.fromSession
  try dsimp only
  repeat' (first | with_reducible assumption | with_reducible apply State.malformed_keeps | with_reducible apply State.notOpen_keeps | with_reducible apply State.heard_keeps | with_reducible apply h4 | simp only [Keeps.mk_eq] | split | (intro _) )

theorem State.hostRequest_keeps (x0 : Nat) (x1 : Nat) (x2 : ReqHdr) (x3 : Session → State → Answer) (x4 : State) {s0 : State} (h3 : ∀ y0 y1, Keeps s0 y1 → Keeps s0 (x3 y0 y1).1) (h4 : Keeps s0 x4) : Keeps s0 (State.hostRequest x0 x1 x2 x3 x4) := by
  unfold State.hostRequest
  try dsimp only
  repeat' (first | with_reducible assumption | with_reducible apply State.fromSession_keeps | with_reducible apply State.sendResp_keeps | with_reducible apply State.nameReply_keeps | with_reducible apply State.respond_keeps | with_reducible apply h3 | simp only [Keeps.mk_eq] | split | (intro _) )

theorem State.refuseWith_keeps (x0 : Nat) (x1 : State) {s0 : State} (h1 : Keeps s0 x1) : Keeps s0 (State.refuseWith x0 x1).1 := by
  unfold State.refuseWith
  try dsimp only
  repeat' (first | with_reducible assumption  | simp only [Keeps.mk_eq] | split | (intro _) )

theorem State.raiseDeniedReads_keeps (x0 : Session) (x1 : List Nat) (x2 : State) {s0 : State} (h2 : Keeps s0 x2) : Keeps s0 (State.raiseDeniedReads x0 x1 x2) := by
  unfold State.raiseDeniedReads
  try dsimp only
  repeat' (first | with_reducible assumption | with_reducible apply State.each_keeps | with_reducible apply State.when_keeps | with_reducible apply State.raiseDenied_keeps | simp only [Keeps.mk_eq] | split | (intro _) )

theorem State.modTransfer_keeps (x0 : Nat) (x1 : Nat) (x2 : Transfer → Transfer) (x3 : State) {s0 : State} (h3 : Keeps s0 x3) : Keeps s0 (State.modTransfer x0 x1 x2 x3) := by
  unfold State.modTransfer
  try dsimp only
  repeat' (first | with_reducible assumption | with_reducible apply State.modSession_keeps | simp only [Keeps.mk_eq] | split | (intro _) )

theorem State.dropTransfer_keeps (x0 : Nat) (x1 : Nat) (x2 : State) {s0 : State} (h2 : Keeps s0 x2) : Keeps s0 (State.dropTransfer x0 x1 x2) := by
  unfold State.dropTransfer
  try dsimp only
  repeat' (first | with_reducible assumption | with_reducible apply State.modSession_keeps | simp only [Keeps.mk_eq] | split | (intro _) )

theorem State.sendChunks_keeps (x0 : Nat) (x1 : Transfer) (x2 : State) {s0 : State} (h2 : Keeps s0 x2) : Keeps s0 (State.sendChunks x0 x1 x2) := by
  unfold State.sendChunks
  try dsimp only
  repeat' (first | with_reducible assumption | with_reducible apply State.each_keeps | with_reducible apply State.sendHost_keeps | with_reducible apply State.modTransfer_keeps | simp only [Keeps.mk_eq] | split | (intro _) )

theorem State.ackTransfer_keeps (x0 : Nat) (x1 : Nat) (x2 : Nat) (x3 : State) {s0 : State} (h3 : Keeps s0 x3) : Keeps s0 (State.ackTransfer x0 x1 x2 x3) := by
  unfold State.ackTransfer
  try dsimp only
  repeat' (first | with_reducible assumption | with_reducible apply State.sendHost_keeps | simp only [Keeps.mk_eq] | split | (intro _) )

theorem State.openTransfer_keeps (x0 : Session) (x1 : Nat) (x2 : Bool) (x3 : Nat) (x4 : Nat) (x5 : List Byte) (x6 : State) {s0 : State} (h6 : Keeps s0 x6) : Keeps s0 (State.openTransfer x0 x1 x2 x3 x4 x5 x6).1 := by
  unfold State.openTransfer
  try dsimp only
  repeat' (first | with_reducible assumption | with_reducible apply State.modHost_keeps | with_reducible apply State.modSession_keeps | simp only [Keeps.mk_eq] | split | (intro _) )

theorem State.beginTransfer_keeps (x0 : Nat) (x1 : Nat) (x2 : State) {s0 : State} (h2 : Keeps s0 x2) : Keeps s0 (State.beginTransfer x0 x1 x2) := by
  unfold State.beginTransfer
  try dsimp only
  repeat' (first | with_reducible assumption | with_reducible apply State.sendChunks_keeps | simp only [Keeps.mk_eq] | split | (intro _) )

theorem State.freeInput_keeps (x0 : Nat) (x1 : State) {s0 : State} (h1 : Keeps s0 x1) : Keeps s0 (State.freeInput x0 x1) := by
  unfold State.freeInput
  try dsimp only
  repeat' (first | with_reducible assumption | with_reducible apply State.when_keeps | with_reducible apply State.releaseLease_keeps | with_reducible apply State.put_keeps | with_reducible apply State.modCry_keeps | simp only [Keeps.mk_eq] | split | (intro _) )

theorem State.sendPush_keeps (x0 : Nat) (x1 : Push) (x2 : State) {s0 : State} (h2 : Keeps s0 x2) : Keeps s0 (State.sendPush x0 x1 x2) := by
  unfold State.sendPush
  try dsimp only
  repeat' (first | with_reducible assumption | with_reducible apply State.sendHost_keeps | simp only [Keeps.mk_eq] | split | (intro _) )

theorem State.fillLost_keeps (x0 : Nat) (x1 : State) {s0 : State} (h1 : Keeps s0 x1) : Keeps s0 (State.fillLost x0 x1) := by
  unfold State.fillLost
  try dsimp only
  repeat' (first | with_reducible assumption | with_reducible apply State.modSession_keeps | simp only [Keeps.mk_eq] | split | (intro _) )

theorem execClientHello_keeps (x0 : Fin 2) (x1 : BitVec 128) (x2 : State) {s0 : State} (h2 : Keeps s0 x2) : KeepsOut s0 (execClientHello x0 x1 x2) := by
  unfold execClientHello
  try dsimp only
  repeat' (first | with_reducible assumption  | with_reducible apply KeepsOut.next| with_reducible apply State.send_keeps | simp only [Keeps.mk_eq] | split | (intro _) )

theorem State.handshakeFails_keeps (x0 : Nat) (x1 : Nat) (x2 : State) {s0 : State} (h2 : Keeps s0 x2) : Keeps s0 (State.handshakeFails x0 x1 x2) := by
  unfold State.handshakeFails
  try dsimp only
  repeat' (first | with_reducible assumption | with_reducible apply State.modHost_keeps | with_reducible apply State.raise_keeps | with_reducible apply State.inc_keeps | simp only [Keeps.mk_eq] | split | (intro _) )

theorem execDtlsHandshake_keeps (x0 : DtlsMsg) (x1 : State) {s0 : State} (h1 : Keeps s0 x1) : KeepsOut s0 (execDtlsHandshake x0 x1) := by
  unfold execDtlsHandshake
  try dsimp only
  repeat' (first | with_reducible assumption  | with_reducible apply KeepsOut.next| with_reducible apply State.send_keeps | with_reducible apply State.modHost_keeps | with_reducible apply State.handshakeFails_keeps | with_reducible apply State.noteCert_keeps | with_reducible apply State.useFree_keeps | simp only [Keeps.mk_eq] | split | (intro _) )

theorem State.refuseOpen_keeps (x0 : ReqHdr) (x1 : Nat) (x2 : State) {s0 : State} (h2 : Keeps s0 x2) : Keeps s0 (State.refuseOpen x0 x1 x2) := by
  unfold State.refuseOpen
  try dsimp only
  repeat' (first | with_reducible assumption | with_reducible apply State.inc_keeps | with_reducible apply State.send_keeps | with_reducible apply State.raise_keeps | with_reducible apply State.modHost_keeps | simp only [Keeps.mk_eq] | split | (intro _) )

theorem execOpen_keeps (x0 : ReqHdr) (x1 : BitVec 16) (x2 : BitVec 32) (x3 : BitVec 16) (x4 : BitVec 16) (x5 : State) {s0 : State} (h5 : Keeps s0 x5) : KeepsOut s0 (execOpen x0 x1 x2 x3 x4 x5) := by
  unfold execOpen
  try dsimp only
  repeat' (first | with_reducible assumption  | with_reducible apply KeepsOut.next| with_reducible apply State.hostRequest_keeps | with_reducible apply State.refuseWith_keeps | with_reducible apply State.malformed_keeps | with_reducible apply State.refuseOpen_keeps | with_reducible apply State.modHost_keeps | with_reducible apply State.raise_keeps | with_reducible apply State.respond_keeps | simp only [Keeps.mk_eq] | split | (intro _) )

theorem execClose_keeps (x0 : ReqHdr) (x1 : State) {s0 : State} (h1 : Keeps s0 x1) : KeepsOut s0 (execClose x0 x1) := by
  unfold execClose
  try dsimp only
  repeat' (first | with_reducible assumption  | with_reducible apply KeepsOut.next| with_reducible apply State.hostRequest_keeps | with_reducible apply State.dropSession_keeps | simp only [Keeps.mk_eq] | split | (intro _) )

theorem execKeepalive_keeps (x0 : ReqHdr) (x1 : State) {s0 : State} (h1 : Keeps s0 x1) : KeepsOut s0 (execKeepalive x0 x1) := by
  unfold execKeepalive
  try dsimp only
  repeat' (first | with_reducible assumption  | with_reducible apply KeepsOut.next| with_reducible apply State.hostRequest_keeps | simp only [Keeps.mk_eq] | split | (intro _) )

theorem execSessionTimeout_keeps (x0 : Nat) (x1 : State) {s0 : State} (h1 : Keeps s0 x1) : KeepsOut s0 (execSessionTimeout x0 x1) := by
  unfold execSessionTimeout
  try dsimp only
  repeat' (first | with_reducible assumption  | with_reducible apply KeepsOut.next| with_reducible apply State.dropSession_keeps | simp only [Keeps.mk_eq] | split | (intro _) )

theorem execCloseSessionWrite_keeps (x0 : HostWrite) (x1 : State) {s0 : State} (h1 : Keeps s0 x1) : KeepsOut s0 (execCloseSessionWrite x0 x1) := by
  unfold execCloseSessionWrite
  try dsimp only
  repeat' (first | with_reducible assumption  | with_reducible apply KeepsOut.next| with_reducible apply State.hostWrite_keeps | with_reducible apply State.closeWrite_keeps | simp only [Keeps.mk_eq] | split | (intro _) )

theorem execRead_keeps (x0 : ReqHdr) (x1 : BitVec 24) (x2 : State) {s0 : State} (h2 : Keeps s0 x2) : KeepsOut s0 (execRead x0 x1 x2) := by
  unfold execRead
  try dsimp only
  repeat' (first | with_reducible assumption  | with_reducible apply KeepsOut.next| with_reducible apply State.hostRequest_keeps | with_reducible apply State.refuseWith_keeps | with_reducible apply State.when_keeps | with_reducible apply State.raiseDenied_keeps | simp only [Keeps.mk_eq] | split | (intro _) )

theorem execWrite_keeps (x0 : ReqHdr) (x1 : BitVec 24) (x2 : List Byte) (x3 : State) {s0 : State} (h3 : Keeps s0 x3) : KeepsOut s0 (execWrite x0 x1 x2 x3) := by
  unfold execWrite
  try dsimp only
  repeat' (first | with_reducible assumption  | with_reducible apply KeepsOut.next| with_reducible apply State.hostRequest_keeps | with_reducible apply State.checked_keeps | with_reducible apply State.refuse_keeps | with_reducible apply State.ownWrite_keeps | simp only [Keeps.mk_eq] | split | (intro _) )

theorem execReadList_keeps (x0 : ReqHdr) (x1 : List (BitVec 24)) (x2 : State) {s0 : State} (h2 : Keeps s0 x2) : KeepsOut s0 (execReadList x0 x1 x2) := by
  unfold execReadList
  try dsimp only
  repeat' (first | with_reducible assumption  | with_reducible apply KeepsOut.next| with_reducible apply State.hostRequest_keeps | with_reducible apply State.refuseWith_keeps | with_reducible apply State.raiseDeniedReads_keeps | simp only [Keeps.mk_eq] | split | (intro _) )

theorem execDescribe_keeps (x0 : ReqHdr) (x1 : BitVec 24) (x2 : State) {s0 : State} (h2 : Keeps s0 x2) : KeepsOut s0 (execDescribe x0 x1 x2) := by
  unfold execDescribe
  try dsimp only
  repeat' (first | with_reducible assumption  | with_reducible apply KeepsOut.next| with_reducible apply State.hostRequest_keeps | with_reducible apply State.refuseWith_keeps | simp only [Keeps.mk_eq] | split | (intro _) )

theorem State.openBlock_keeps (x0 : ReqHdr) (x1 : BitVec 24) (x2 : Bool) (x3 : BitVec 32) (x4 : BitVec 16) (x5 : State) {s0 : State} (h5 : Keeps s0 x5) : Keeps s0 (State.openBlock x0 x1 x2 x3 x4 x5) := by
  unfold State.openBlock
  try dsimp only
  repeat' (first | with_reducible assumption | with_reducible apply State.hostRequest_keeps | with_reducible apply State.refuseWith_keeps | with_reducible apply State.when_keeps | with_reducible apply State.raiseDenied_keeps | with_reducible apply State.openTransfer_keeps | with_reducible apply State.openInput_keeps | simp only [Keeps.mk_eq] | split | (intro _) )

theorem execBlockOpen_keeps (x0 : ReqHdr) (x1 : BitVec 24) (x2 : Bool) (x3 : BitVec 32) (x4 : BitVec 16) (x5 : State) {s0 : State} (h5 : Keeps s0 x5) : KeepsOut s0 (execBlockOpen x0 x1 x2 x3 x4 x5) := by
  unfold execBlockOpen
  try dsimp only
  repeat' (first | with_reducible assumption  | with_reducible apply KeepsOut.next| with_reducible apply State.openBlock_keeps | with_reducible apply State.beginTransfer_keeps | simp only [Keeps.mk_eq] | split | (intro _) )

theorem execBlockData_keeps (x0 : ReqHdr) (x1 : BitVec 16) (x2 : BitVec 32) (x3 : List Byte) (x4 : State) {s0 : State} (h4 : Keeps s0 x4) : KeepsOut s0 (execBlockData x0 x1 x2 x3 x4) := by
  unfold execBlockData
  try dsimp only
  repeat' (first | with_reducible assumption  | with_reducible apply KeepsOut.next| with_reducible apply State.fromSession_keeps | with_reducible apply State.modTransfer_keeps | with_reducible apply State.put_keeps | with_reducible apply State.ackTransfer_keeps | simp only [Keeps.mk_eq] | split | (intro _) )

theorem execBlockAck_keeps (x0 : ReqHdr) (x1 : BitVec 16) (x2 : BitVec 32) (x3 : State) {s0 : State} (h3 : Keeps s0 x3) : KeepsOut s0 (execBlockAck x0 x1 x2 x3) := by
  unfold execBlockAck
  try dsimp only
  repeat' (first | with_reducible assumption  | with_reducible apply KeepsOut.next| with_reducible apply State.fromSession_keeps | with_reducible apply State.sendChunks_keeps | with_reducible apply State.modTransfer_keeps | simp only [Keeps.mk_eq] | split | (intro _) )

theorem State.failTransfer_keeps (x0 : Nat) (x1 : State) {s0 : State} (h1 : Keeps s0 x1) : Keeps s0 (State.failTransfer x0 x1) := by
  unfold State.failTransfer
  try dsimp only
  repeat' (first | with_reducible assumption | with_reducible apply State.raise_keeps | simp only [Keeps.mk_eq] | split | (intro _) )

theorem State.endImage_keeps (x0 : Fin 4) (x1 : Bool) (x2 : Bool × BitVec 5) (x3 : List Byte) (x4 : State) {s0 : State} (h4 : Keeps s0 x4) : Keeps s0 (State.endImage x0 x1 x2 x3 x4).1 := by
  unfold State.endImage
  try dsimp only
  repeat' (first | with_reducible assumption | with_reducible apply outState_keeps | with_reducible apply execImageWriteEnd_keeps | with_reducible apply State.put_keeps | with_reducible apply State.freeInput_keeps | with_reducible apply State.failTransfer_keeps | simp only [Keeps.mk_eq] | split | (intro _) )

theorem execBlockEnd_keeps (x0 : ReqHdr) (x1 : BitVec 16) (x2 : BitVec 32) (x3 : Bool × BitVec 5) (x4 : State) {s0 : State} (h4 : Keeps s0 x4) : KeepsOut s0 (execBlockEnd x0 x1 x2 x3 x4) := by
  unfold execBlockEnd
  try dsimp only
  repeat' (first | with_reducible assumption  | with_reducible apply KeepsOut.next| with_reducible apply State.hostRequest_keeps | with_reducible apply State.refuseWith_keeps | with_reducible apply State.dropTransfer_keeps | with_reducible apply State.endImage_keeps | with_reducible apply State.failTransfer_keeps | with_reducible apply State.checked_keeps | with_reducible apply State.ownWrite_keeps | simp only [Keeps.mk_eq] | split | (intro _) )

theorem execTransferTimeout_keeps (x0 : Nat) (x1 : BitVec 16) (x2 : State) {s0 : State} (h2 : Keeps s0 x2) : KeepsOut s0 (execTransferTimeout x0 x1 x2) := by
  unfold execTransferTimeout
  try dsimp only
  repeat' (first | with_reducible assumption  | with_reducible apply KeepsOut.next| with_reducible apply State.raise_keeps | with_reducible apply State.dropTransfer_keeps | with_reducible apply State.when_keeps | with_reducible apply State.freeInput_keeps | with_reducible apply State.failTransfer_keeps | simp only [Keeps.mk_eq] | split | (intro _) )

theorem execSubscribe_keeps (x0 : ReqHdr) (x1 : BitVec 16) (x2 : List (BitVec 16)) (x3 : State) {s0 : State} (h3 : Keeps s0 x3) : KeepsOut s0 (execSubscribe x0 x1 x2 x3) := by
  unfold execSubscribe
  try dsimp only
  repeat' (first | with_reducible assumption  | with_reducible apply KeepsOut.next| with_reducible apply State.hostRequest_keeps | with_reducible apply State.refuseWith_keeps | with_reducible apply State.modSession_keeps | simp only [Keeps.mk_eq] | split | (intro _) )

theorem execEvent_keeps (x0 : Nat) (x1 : State) {s0 : State} (h1 : Keeps s0 x1) : KeepsOut s0 (execEvent x0 x1) := by
  unfold execEvent
  try dsimp only
  repeat' (first | with_reducible assumption  | with_reducible apply KeepsOut.next| with_reducible apply State.modSession_keeps | with_reducible apply State.sendPush_keeps | simp only [Keeps.mk_eq] | split | (intro _) )

theorem execEventAck_keeps (x0 : ReqHdr) (x1 : State) {s0 : State} (h1 : Keeps s0 x1) : KeepsOut s0 (execEventAck x0 x1) := by
  unfold execEventAck
  try dsimp only
  repeat' (first | with_reducible assumption  | with_reducible apply KeepsOut.next| with_reducible apply State.fromSession_keeps | with_reducible apply State.fillLost_keeps | with_reducible apply State.modSession_keeps | simp only [Keeps.mk_eq] | split | (intro _) )

theorem execEventResend_keeps (x0 : Nat) (x1 : State) {s0 : State} (h1 : Keeps s0 x1) : KeepsOut s0 (execEventResend x0 x1) := by
  unfold execEventResend
  try dsimp only
  repeat' (first | with_reducible assumption  | with_reducible apply KeepsOut.next| with_reducible apply State.modSession_keeps | with_reducible apply State.each_keeps | with_reducible apply State.sendPush_keeps | simp only [Keeps.mk_eq] | split | (intro _) )

theorem execEventPushTimeout_keeps (x0 : Nat) (x1 : State) {s0 : State} (h1 : Keeps s0 x1) : KeepsOut s0 (execEventPushTimeout x0 x1) := by
  unfold execEventPushTimeout
  try dsimp only
  repeat' (first | with_reducible assumption  | with_reducible apply KeepsOut.next| with_reducible apply State.dropSession_keeps | simp only [Keeps.mk_eq] | split | (intro _) )

theorem execStream_keeps (x0 : ReqHdr) (x1 : Bool) (x2 : BitVec 8) (x3 : BitVec 32) (x4 : BitVec 32) (x5 : List (BitVec 24)) (x6 : State) {s0 : State} (h6 : Keeps s0 x6) : KeepsOut s0 (execStream x0 x1 x2 x3 x4 x5 x6) := by
  unfold execStream
  try dsimp only
  repeat' (first | with_reducible assumption  | with_reducible apply KeepsOut.next| with_reducible apply State.hostRequest_keeps | with_reducible apply State.modSession_keeps | with_reducible apply State.refuseWith_keeps | with_reducible apply State.raise_keeps | with_reducible apply State.raiseDeniedReads_keeps | simp only [Keeps.mk_eq] | split | (intro _) )

theorem execTelemetry_keeps (x0 : Nat) (x1 : BitVec 8) (x2 : State) {s0 : State} (h2 : Keeps s0 x2) : KeepsOut s0 (execTelemetry x0 x1 x2) := by
  unfold execTelemetry
  try dsimp only
  repeat' (first | with_reducible assumption  | with_reducible apply KeepsOut.next| with_reducible apply State.modSession_keeps | with_reducible apply State.countBy_keeps | with_reducible apply State.sendHost_keeps | simp only [Keeps.mk_eq] | split | (intro _) )

theorem execPortLinkDown_keeps (x0 : Fin 2) (x1 : State) {s0 : State} (h1 : Keeps s0 x1) : KeepsOut s0 (execPortLinkDown x0 x1) := by
  unfold execPortLinkDown
  try dsimp only
  repeat' (first | with_reducible assumption  | with_reducible apply KeepsOut.next| with_reducible apply State.portDown_keeps | simp only [Keeps.mk_eq] | split | (intro _) )

theorem execPortLinkUp_keeps (x0 : Fin 2) (x1 : State) {s0 : State} (h1 : Keeps s0 x1) : KeepsOut s0 (execPortLinkUp x0 x1) := by
  unfold execPortLinkUp
  try dsimp only
  repeat' (first | with_reducible assumption  | with_reducible apply KeepsOut.next| with_reducible apply State.portReturns_keeps | simp only [Keeps.mk_eq] | split | (intro _) )

theorem execPortEnableWrite_keeps (x0 : Fin 2) (x1 : HostWrite) (x2 : State) {s0 : State} (h2 : Keeps s0 x2) : KeepsOut s0 (execPortEnableWrite x0 x1 x2) := by
  unfold execPortEnableWrite
  try dsimp only
  repeat' (first | with_reducible assumption  | with_reducible apply KeepsOut.next| with_reducible apply State.hostWrite_keeps | with_reducible apply State.portEnableWrite_keeps | simp only [Keeps.mk_eq] | split | (intro _) )

theorem State.maybeHot_keeps (x0 : State) {s0 : State} (h0 : Keeps s0 x0) : Keeps s0 (State.maybeHot x0) := by
  unfold State.maybeHot
  try dsimp only
  repeat' (first | with_reducible assumption | with_reducible apply State.diagnose_keeps | with_reducible apply State.raise0_keeps | with_reducible apply State.put_keeps | with_reducible apply State.enterMode_keeps | simp only [Keeps.mk_eq] | split | (intro _) )

theorem State.countInputs_keeps (x0 : Nat) (x1 : State) {s0 : State} (h1 : Keeps s0 x1) : Keeps s0 (State.countInputs x0 x1) := by
  unfold State.countInputs
  try dsimp only
  repeat' (first | with_reducible assumption | with_reducible apply State.maybeHot_keeps | with_reducible apply State.put_keeps | with_reducible apply State.modPair_keeps | with_reducible apply State.inc64_keeps | simp only [Keeps.mk_eq] | split | (intro _) )

theorem State.countOutputs_keeps (x0 : Bool) (x1 : State) {s0 : State} (h1 : Keeps s0 x1) : Keeps s0 (State.countOutputs x0 x1) := by
  unfold State.countOutputs
  try dsimp only
  repeat' (first | with_reducible assumption | with_reducible apply State.modPair_keeps | with_reducible apply State.inc64_keeps | with_reducible apply State.when_keeps | with_reducible apply State.raise0_keeps | with_reducible apply State.inc_keeps | simp only [Keeps.mk_eq] | split | (intro _) )

theorem State.compareRecords_keeps (x0 : TickRec) (x1 : TickRec) (x2 : State) {s0 : State} (h2 : Keeps s0 x2) : Keeps s0 (State.compareRecords x0 x1 x2) := by
  unfold State.compareRecords
  try dsimp only
  repeat' (first | with_reducible assumption | with_reducible apply State.modPair_keeps | with_reducible apply State.countInputs_keeps | with_reducible apply State.countOutputs_keeps | simp only [Keeps.mk_eq] | split | (intro _) )

theorem State.tryCompare_keeps (x0 : State) {s0 : State} (h0 : Keeps s0 x0) : Keeps s0 (State.tryCompare x0) := by
  unfold State.tryCompare
  try dsimp only
  repeat' (first | with_reducible assumption | with_reducible apply State.compareRecords_keeps | simp only [Keeps.mk_eq] | split | (intro _) )

theorem State.markDraws_keeps (x0 : State) {s0 : State} (h0 : Keeps s0 x0) : Keeps s0 (State.markDraws x0) := by
  unfold State.markDraws
  try dsimp only
  repeat' (first | with_reducible assumption | with_reducible apply State.when_keeps | with_reducible apply State.modPair_keeps | simp only [Keeps.mk_eq] | split | (intro _) )

theorem State.takeDither_keeps (x0 : Checkpoint) (x1 : State) {s0 : State} (h1 : Keeps s0 x1) : Keeps s0 (State.takeDither x0 x1) := by
  unfold State.takeDither
  try dsimp only
  repeat' (first | with_reducible assumption | with_reducible apply State.modConv_keeps | simp only [Keeps.mk_eq] | split | (intro _) )

theorem State.mergeSchedule_keeps (x0 : List SchedClove) (x1 : List SeqWindow) (x2 : State) {s0 : State} (h2 : Keeps s0 x2) : Keeps s0 (State.mergeSchedule x0 x1 x2) := by
  unfold State.mergeSchedule
  try dsimp only
  repeat' (first | with_reducible assumption | with_reducible apply State.modClv_keeps | with_reducible apply State.each_keeps | with_reducible apply State.scheduleClove_keeps | simp only [Keeps.mk_eq] | split | (intro _) )

theorem State.aboveSequence_keeps (x0 : Nat) (x1 : State) {s0 : State} (h1 : Keeps s0 x1) : Keeps s0 (State.aboveSequence x0 x1) := by
  unfold State.aboveSequence
  try dsimp only
  repeat' (first | with_reducible assumption | with_reducible apply State.put_keeps | with_reducible apply State.modClv_keeps | simp only [Keeps.mk_eq] | split | (intro _) )

theorem State.loadCheckpoint_keeps (x0 : Checkpoint) (x1 : State) {s0 : State} (h1 : Keeps s0 x1) : Keeps s0 (State.loadCheckpoint x0 x1) := by
  unfold State.loadCheckpoint
  have key : ∀ u : State, Keeps s0 u → Keeps s0 (u.each x0.objs (fun e s => s.put e.1 e.2)) := fun u hu =>
    State.each_keeps _ _ _ (fun e t ht => State.put_keeps _ _ _ ht) hu
  dsimp only
  split
  · refine State.mergeSchedule_keeps _ _ _ (State.put_keeps _ _ _ (State.aboveSequence_keeps _ _ (key _ ?_)))
    exact Keeps.filterObjs _ (State.modPow_keeps _ _ (by rw [Keeps.mk_eq]; exact h1))
  · refine State.put_keeps _ _ _ (State.aboveSequence_keeps _ _ (key _ ?_))
    exact Keeps.filterObjs _ (State.modPow_keeps _ _ (by rw [Keeps.mk_eq]; exact h1))

theorem State.askCheckpoint_keeps (x0 : State) {s0 : State} (h0 : Keeps s0 x0) : Keeps s0 (State.askCheckpoint x0) := by
  unfold State.askCheckpoint
  try dsimp only
  repeat' (first | with_reducible assumption | with_reducible apply State.put_keeps | with_reducible apply State.sendPair_keeps | with_reducible apply State.modPair_keeps | simp only [Keeps.mk_eq] | split | (intro _) )

theorem State.applyMirror_keeps (x0 : Mirror) (x1 : State) {s0 : State} (h1 : Keeps s0 x1) : Keeps s0 (State.applyMirror x0 x1) := by
  unfold State.applyMirror
  try dsimp only
  repeat' (first | with_reducible assumption | with_reducible apply State.ownWrite_keeps | with_reducible apply State.answerMirror_keeps | simp only [Keeps.mk_eq] | split | (intro _) )

theorem State.takeEffect_keeps (x0 : Mirror) (x1 : State) {s0 : State} (h1 : Keeps s0 x1) : Keeps s0 (State.takeEffect x0 x1) := by
  unfold State.takeEffect
  try dsimp only
  repeat' (first | with_reducible assumption | with_reducible apply State.applyMirror_keeps | with_reducible apply State.put_keeps | simp only [Keeps.mk_eq] | split | (intro _) )

theorem State.mirrorEffect_keeps (x0 : State) {s0 : State} (h0 : Keeps s0 x0) : Keeps s0 (State.mirrorEffect x0) := by
  unfold State.mirrorEffect
  try dsimp only
  repeat' (first | with_reducible assumption | with_reducible apply State.modPair_keeps | with_reducible apply State.each_keeps | with_reducible apply State.takeEffect_keeps | simp only [Keeps.mk_eq] | split | (intro _) )

theorem State.advanceMirrors_keeps (x0 : State) {s0 : State} (h0 : Keeps s0 x0) : Keeps s0 (State.advanceMirrors x0) := by
  unfold State.advanceMirrors
  try dsimp only
  repeat' (first | with_reducible assumption | with_reducible apply State.modPair_keeps | with_reducible apply State.each_keeps | with_reducible apply State.applyMirror_keeps | with_reducible apply State.when_keeps | with_reducible apply State.raise0_keeps | with_reducible apply State.countBy_keeps | with_reducible apply State.mirrorEffect_keeps | simp only [Keeps.mk_eq] | split | (intro _) )

theorem State.checkGap_keeps (x0 : State) {s0 : State} (h0 : Keeps s0 x0) : Keeps s0 (State.checkGap x0) := by
  unfold State.checkGap
  try dsimp only
  repeat' (first | with_reducible assumption | with_reducible apply State.sendPair_keeps | with_reducible apply State.modPair_keeps | simp only [Keeps.mk_eq] | split | (intro _) )

theorem State.maceInLow_keeps (x0 : State) {s0 : State} (h0 : Keeps s0 x0) : Keeps s0 (State.maceInLow x0) := by
  unfold State.maceInLow
  try dsimp only
  repeat' (first | with_reducible assumption | with_reducible apply State.modPair_keeps | with_reducible apply State.modPins_keeps | with_reducible apply State.takeMace_keeps | with_reducible apply State.claim_keeps | simp only [Keeps.mk_eq] | split | (intro _) )

theorem execMaceTakeover_keeps (x0 : State) {s0 : State} (h0 : Keeps s0 x0) : KeepsOut s0 (execMaceTakeover x0) := by
  unfold execMaceTakeover
  try dsimp only
  repeat' (first | with_reducible assumption  | with_reducible apply KeepsOut.next| with_reducible apply State.maceInLow_keeps | simp only [Keeps.mk_eq] | split | (intro _) )

theorem execLeaseExpiry_keeps (x0 : State) {s0 : State} (h0 : Keeps s0 x0) : KeepsOut s0 (execLeaseExpiry x0) := by
  unfold execLeaseExpiry
  try dsimp only
  repeat' (first | with_reducible assumption  | with_reducible apply KeepsOut.next| with_reducible apply State.dropMace_keeps | simp only [Keeps.mk_eq] | split | (intro _) )

theorem execMaceInAsserted_keeps (x0 : State) {s0 : State} (h0 : Keeps s0 x0) : KeepsOut s0 (execMaceInAsserted x0) := by
  unfold execMaceInAsserted
  try dsimp only
  repeat' (first | with_reducible assumption  | with_reducible apply KeepsOut.next| with_reducible apply State.modPair_keeps | with_reducible apply State.modPins_keeps | with_reducible apply State.sdmYield_keeps | with_reducible apply State.chainRole_keeps | with_reducible apply State.when_keeps | with_reducible apply State.armClaim_keeps | simp only [Keeps.mk_eq] | split | (intro _) )

theorem execTickRecordSend_keeps (x0 : State) {s0 : State} (h0 : Keeps s0 x0) : KeepsOut s0 (execTickRecordSend x0) := by
  unfold execTickRecordSend
  try dsimp only
  repeat' (first | with_reducible assumption  | with_reducible apply KeepsOut.next| with_reducible apply State.modPair_keeps | with_reducible apply State.tryCompare_keeps | with_reducible apply State.sendPair_keeps | simp only [Keeps.mk_eq] | split | (intro _) )

theorem State.takeTickRecord_keeps (x0 : TickRec) (x1 : State) {s0 : State} (h1 : Keeps s0 x1) : Keeps s0 (State.takeTickRecord x0 x1) := by
  unfold State.takeTickRecord
  try dsimp only
  repeat' (first | with_reducible assumption | with_reducible apply State.askCheckpoint_keeps | with_reducible apply State.tryCompare_keeps | with_reducible apply State.put_keeps | with_reducible apply State.modPair_keeps | with_reducible apply State.releaseSelfDiag_keeps | simp only [Keeps.mk_eq] | split | (intro _) )

theorem execTickRecord_keeps (x0 : List Byte) (x1 : State) {s0 : State} (h1 : Keeps s0 x1) : KeepsOut s0 (execTickRecord x0 x1) := by
  unfold execTickRecord
  try dsimp only
  repeat' (first | with_reducible assumption  | with_reducible apply KeepsOut.next| with_reducible apply State.pairHear_keeps | with_reducible apply State.takeTickRecord_keeps | simp only [Keeps.mk_eq] | split | (intro _) )

theorem execTickRecordMissing_keeps (x0 : BitVec 64) (x1 : State) {s0 : State} (h1 : Keeps s0 x1) : KeepsOut s0 (execTickRecordMissing x0 x1) := by
  unfold execTickRecordMissing
  try dsimp only
  repeat' (first | with_reducible assumption  | with_reducible apply KeepsOut.next| with_reducible apply State.put_keeps | with_reducible apply State.inc64_keeps | with_reducible apply State.modPair_keeps | with_reducible apply State.when_keeps | with_reducible apply State.raise0_keeps | simp only [Keeps.mk_eq] | split | (intro _) )

theorem execPairInputMismatch_keeps (x0 : State) {s0 : State} (h0 : Keeps s0 x0) : KeepsOut s0 (execPairInputMismatch x0) := by
  unfold execPairInputMismatch
  try dsimp only
  repeat' (first | with_reducible assumption  | with_reducible apply KeepsOut.next| with_reducible apply State.raise_keeps | with_reducible apply State.modPair_keeps | simp only [Keeps.mk_eq] | split | (intro _) )

theorem execCarrierAlignFail_keeps (x0 : State) {s0 : State} (h0 : Keeps s0 x0) : KeepsOut s0 (execCarrierAlignFail x0) := by
  unfold execCarrierAlignFail
  try dsimp only
  repeat' (first | with_reducible assumption  | with_reducible apply KeepsOut.next| with_reducible apply State.raise0_keeps | with_reducible apply State.modPair_keeps | simp only [Keeps.mk_eq] | split | (intro _) )

theorem State.takeMirrorPart_keeps (x0 : MirrorPart) (x1 : State) {s0 : State} (h1 : Keeps s0 x1) : Keeps s0 (State.takeMirrorPart x0 x1) := by
  unfold State.takeMirrorPart
  try dsimp only
  repeat' (first | with_reducible assumption | with_reducible apply State.modPair_keeps | with_reducible apply State.checkGap_keeps | with_reducible apply State.advanceMirrors_keeps | simp only [Keeps.mk_eq] | split | (intro _) )

theorem execMirror_keeps (x0 : List Byte) (x1 : State) {s0 : State} (h1 : Keeps s0 x1) : KeepsOut s0 (execMirror x0 x1) := by
  unfold execMirror
  try dsimp only
  repeat' (first | with_reducible assumption  | with_reducible apply KeepsOut.next| with_reducible apply State.pairHear_keeps | with_reducible apply State.takeMirrorPart_keeps | simp only [Keeps.mk_eq] | split | (intro _) )

theorem execMirrorEffect_keeps (x0 : State) {s0 : State} (h0 : Keeps s0 x0) : KeepsOut s0 (execMirrorEffect x0) := by
  unfold execMirrorEffect
  try dsimp only
  repeat' (first | with_reducible assumption  | with_reducible apply KeepsOut.next| with_reducible apply State.mirrorEffect_keeps | simp only [Keeps.mk_eq] | split | (intro _) )

theorem execMirrorResend_keeps (x0 : List Byte) (x1 : State) {s0 : State} (h1 : Keeps s0 x1) : KeepsOut s0 (execMirrorResend x0 x1) := by
  unfold execMirrorResend
  try dsimp only
  repeat' (first | with_reducible assumption  | with_reducible apply KeepsOut.next| with_reducible apply State.pairHear_keeps | with_reducible apply State.each_keeps | with_reducible apply State.sendMirror_keeps | simp only [Keeps.mk_eq] | split | (intro _) )

theorem execMirrorGap_keeps (x0 : State) {s0 : State} (h0 : Keeps s0 x0) : KeepsOut s0 (execMirrorGap x0) := by
  unfold execMirrorGap
  try dsimp only
  repeat' (first | with_reducible assumption  | with_reducible apply KeepsOut.next| with_reducible apply State.raise0_keeps | with_reducible apply State.inc_keeps | with_reducible apply State.askCheckpoint_keeps | with_reducible apply State.armClaim_keeps | with_reducible apply State.goCold_keeps | with_reducible apply State.modPair_keeps | simp only [Keeps.mk_eq] | split | (intro _) )

theorem execCheckpointPeriod_keeps (x0 : State) {s0 : State} (h0 : Keeps s0 x0) : KeepsOut s0 (execCheckpointPeriod x0) := by
  unfold execCheckpointPeriod
  try dsimp only
  repeat' (first | with_reducible assumption  | with_reducible apply KeepsOut.next| with_reducible apply State.inc_keeps | with_reducible apply State.modPair_keeps | with_reducible apply State.useFree_keeps | with_reducible apply State.put_keeps | with_reducible apply State.when_keeps | with_reducible apply State.send_keeps | simp only [Keeps.mk_eq] | split | (intro _) )

theorem execCheckpoint_keeps (x0 : Option Checkpoint) (x1 : Bool) (x2 : BitVec 32) (x3 : State) {s0 : State} (h3 : Keeps s0 x3) : KeepsOut s0 (execCheckpoint x0 x1 x2 x3) := by
  unfold execCheckpoint
  try dsimp only
  repeat' (first | with_reducible assumption  | with_reducible apply KeepsOut.next| with_reducible apply State.modPair_keeps | with_reducible apply State.put_keeps | with_reducible apply State.takeDither_keeps | simp only [Keeps.mk_eq] | split | (intro _) )

theorem execCheckpointRequest_keeps (x0 : List Byte) (x1 : State) {s0 : State} (h1 : Keeps s0 x1) : KeepsOut s0 (execCheckpointRequest x0 x1) := by
  unfold execCheckpointRequest
  try dsimp only
  repeat' (first | with_reducible assumption  | with_reducible apply KeepsOut.next| with_reducible apply State.pairHear_keeps | with_reducible apply State.when_keeps | with_reducible apply State.modPair_keeps | simp only [Keeps.mk_eq] | split | (intro _) )

theorem execCheckpointLoaded_keeps (x0 : State) {s0 : State} (h0 : Keeps s0 x0) : KeepsOut s0 (execCheckpointLoaded x0) := by
  unfold execCheckpointLoaded
  try dsimp only
  repeat' (first | with_reducible assumption  | with_reducible apply KeepsOut.next| with_reducible apply State.loadCheckpoint_keeps | with_reducible apply State.modPair_keeps | with_reducible apply State.raise0_keeps | with_reducible apply State.put_keeps | with_reducible apply State.checkGap_keeps | with_reducible apply State.advanceMirrors_keeps | simp only [Keeps.mk_eq] | split | (intro _) )

theorem execCatchUpTimeout_keeps (x0 : State) {s0 : State} (h0 : Keeps s0 x0) : KeepsOut s0 (execCatchUpTimeout x0) := by
  unfold execCatchUpTimeout
  try dsimp only
  repeat' (first | with_reducible assumption  | with_reducible apply KeepsOut.next| with_reducible apply State.modPair_keeps | with_reducible apply State.raise0_keeps | with_reducible apply State.askCheckpoint_keeps | simp only [Keeps.mk_eq] | split | (intro _) )

theorem execCatchUpRetry_keeps (x0 : Nat) (x1 : State) {s0 : State} (h1 : Keeps s0 x1) : KeepsOut s0 (execCatchUpRetry x0 x1) := by
  unfold execCatchUpRetry
  try dsimp only
  repeat' (first | with_reducible assumption  | with_reducible apply KeepsOut.next| with_reducible apply State.hostWrite_keeps | with_reducible apply State.ok_keeps | with_reducible apply State.askCheckpoint_keeps | with_reducible apply State.retryCatchUp_keeps | simp only [Keeps.mk_eq] | split | (intro _) )

theorem execHandover_keeps (x0 : List Byte) (x1 : State) {s0 : State} (h1 : Keeps s0 x1) : KeepsOut s0 (execHandover x0 x1) := by
  unfold execHandover
  try dsimp only
  repeat' (first | with_reducible assumption  | with_reducible apply KeepsOut.next| with_reducible apply State.pairHear_keeps | with_reducible apply State.when_keeps | with_reducible apply State.sendPair_keeps | with_reducible apply State.modPair_keeps | simp only [Keeps.mk_eq] | split | (intro _) )

theorem execHandoverAck_keeps (x0 : List Byte) (x1 : State) {s0 : State} (h1 : Keeps s0 x1) : KeepsOut s0 (execHandoverAck x0 x1) := by
  unfold execHandoverAck
  try dsimp only
  repeat' (first | with_reducible assumption  | with_reducible apply KeepsOut.next| with_reducible apply State.pairHear_keeps | with_reducible apply State.when_keeps | with_reducible apply State.modPair_keeps | simp only [Keeps.mk_eq] | split | (intro _) )

theorem execMaceHandoverAborted_keeps (x0 : State) {s0 : State} (h0 : Keeps s0 x0) : KeepsOut s0 (execMaceHandoverAborted x0) := by
  unfold execMaceHandoverAborted
  try dsimp only
  repeat' (first | with_reducible assumption  | with_reducible apply KeepsOut.next| with_reducible apply State.raise0_keeps | with_reducible apply State.setShutdown_keeps | with_reducible apply State.modPair_keeps | simp only [Keeps.mk_eq] | split | (intro _) )

theorem execMaceHandoverDone_keeps (x0 : State) {s0 : State} (h0 : Keeps s0 x0) : KeepsOut s0 (execMaceHandoverDone x0) := by
  unfold execMaceHandoverDone
  try dsimp only
  repeat' (first | with_reducible assumption  | with_reducible apply KeepsOut.next| with_reducible apply State.handOut_keeps | with_reducible apply State.halt_keeps | with_reducible apply State.flushedReset_keeps | with_reducible apply State.modPair_keeps | with_reducible apply State.modPins_keeps | with_reducible apply State.raise0_keeps | with_reducible apply State.inc_keeps | with_reducible apply State.takeMace_keeps | simp only [Keeps.mk_eq] | split | (intro _) )

theorem execStopShelfMessage_keeps (x0 : List Byte) (x1 : State) {s0 : State} (h1 : Keeps s0 x1) : KeepsOut s0 (execStopShelfMessage x0 x1) := by
  unfold execStopShelfMessage
  try dsimp only
  repeat' (first | with_reducible assumption  | with_reducible apply KeepsOut.next| with_reducible apply State.pairHear_keeps | with_reducible apply State.when_keeps | with_reducible apply State.halt_keeps | simp only [Keeps.mk_eq] | split | (intro _) )

theorem execSelfDiagFailure_keeps (x0 : State) {s0 : State} (h0 : Keeps s0 x0) : KeepsOut s0 (execSelfDiagFailure x0) := by
  unfold execSelfDiagFailure
  try dsimp only
  repeat' (first | with_reducible assumption  | with_reducible apply KeepsOut.next| with_reducible apply State.selfDiag_keeps | simp only [Keeps.mk_eq] | split | (intro _) )

theorem execHealthSend_keeps (x0 : State) {s0 : State} (h0 : Keeps s0 x0) : KeepsOut s0 (execHealthSend x0) := by
  unfold execHealthSend
  try dsimp only
  repeat' (first | with_reducible assumption  | with_reducible apply KeepsOut.next| with_reducible apply State.modPair_keeps | with_reducible apply State.putBytes_keeps | with_reducible apply State.sendPair_keeps | simp only [Keeps.mk_eq] | split | (intro _) )

theorem State.takeHealth_keeps (x0 : List Byte) (x1 : State) {s0 : State} (h1 : Keeps s0 x1) : Keeps s0 (State.takeHealth x0 x1) := by
  unfold State.takeHealth
  try dsimp only
  repeat' (first | with_reducible assumption | with_reducible apply State.modPair_keeps | with_reducible apply State.putBytes_keeps | with_reducible apply State.when_keeps | with_reducible apply State.raise_keeps | simp only [Keeps.mk_eq] | split | (intro _) )

theorem execHealth_keeps (x0 : List Byte) (x1 : State) {s0 : State} (h1 : Keeps s0 x1) : KeepsOut s0 (execHealth x0 x1) := by
  unfold execHealth
  try dsimp only
  repeat' (first | with_reducible assumption  | with_reducible apply KeepsOut.next| with_reducible apply State.pairHear_keeps | with_reducible apply State.when_keeps | with_reducible apply State.takeHealth_keeps | simp only [Keeps.mk_eq] | split | (intro _) )

theorem execPartnerHealthMissing_keeps (x0 : State) {s0 : State} (h0 : Keeps s0 x0) : KeepsOut s0 (execPartnerHealthMissing x0) := by
  unfold execPartnerHealthMissing
  try dsimp only
  repeat' (first | with_reducible assumption  | with_reducible apply KeepsOut.next| with_reducible apply State.raise0_keeps | with_reducible apply State.inc_keeps | with_reducible apply State.modPair_keeps | simp only [Keeps.mk_eq] | split | (intro _) )

theorem execGddr7Scrub_keeps (x0 : BitVec 32) (x1 : BitVec 32) (x2 : Bool) (x3 : State) {s0 : State} (h3 : Keeps s0 x3) : KeepsOut s0 (execGddr7Scrub x0 x1 x2 x3) := by
  unfold execGddr7Scrub
  try dsimp only
  repeat' (first | with_reducible assumption  | with_reducible apply KeepsOut.next| with_reducible apply State.diagnose_keeps | with_reducible apply State.modPair_keeps | simp only [Keeps.mk_eq] | split | (intro _) )

theorem State.runToTick_keeps (x0 : State) {s0 : State} (h0 : Keeps s0 x0) : Keeps s0 (State.runToTick x0) := by
  unfold State.runToTick
  try dsimp only
  repeat' (first | with_reducible assumption | with_reducible apply State.when_keeps | with_reducible apply State.inc_keeps | simp only [Keeps.mk_eq] | split | (intro _) )

theorem State.readings_keeps (x0 : TickInputs) (x1 : State) {s0 : State} (h1 : Keeps s0 x1) : Keeps s0 (State.readings x0 x1) := by
  unfold State.readings
  try dsimp only
  repeat' (first | with_reducible assumption | with_reducible apply State.modPair_keeps | with_reducible apply State.sdmYield_keeps | with_reducible apply State.modPins_keeps | with_reducible apply State.when_keeps | with_reducible apply State.showPll_keeps | with_reducible apply State.showThermal_keeps | with_reducible apply State.refClock_keeps | simp only [Keeps.mk_eq] | split | (intro _) )

theorem State.takeSnapshot_keeps (x0 : State) {s0 : State} (h0 : Keeps s0 x0) : Keeps s0 (State.takeSnapshot x0) := by
  unfold State.takeSnapshot
  try dsimp only
  repeat' (first | with_reducible assumption  | simp only [Keeps.mk_eq] | split | (intro _) )

theorem State.renewLease_keeps (x0 : TickInputs) (x1 : State) {s0 : State} (h1 : Keeps s0 x1) : Keeps s0 (State.renewLease x0 x1) := by
  unfold State.renewLease
  try dsimp only
  repeat' (first | with_reducible assumption | with_reducible apply State.modPair_keeps | simp only [Keeps.mk_eq] | split | (intro _) )

theorem State.alignCarriers_keeps (x0 : State) {s0 : State} (h0 : Keeps s0 x0) : Keeps s0 (State.alignCarriers x0) := by
  unfold State.alignCarriers
  try dsimp only
  repeat' (first | with_reducible assumption | with_reducible apply State.modConv_keeps | with_reducible apply State.modPair_keeps | simp only [Keeps.mk_eq] | split | (intro _) )

theorem State.tickBody_keeps (x0 : TickInputs) (x1 : State) {s0 : State} (h1 : Keeps s0 x1) : Keeps s0 (State.tickBody x0 x1) := by
  unfold State.tickBody
  try dsimp only
  repeat' (first | with_reducible assumption | with_reducible apply State.routesTick_keeps | with_reducible apply State.stopShelfEnd_keeps | with_reducible apply State.stopShelfCap_keeps | with_reducible apply State.watchKeys_keeps | with_reducible apply State.watchGates_keeps | with_reducible apply State.step9_keeps | with_reducible apply State.when_keeps | with_reducible apply State.safApply_keeps | with_reducible apply State.modMd_keeps | with_reducible apply State.safLoadEnd_keeps | with_reducible apply State.safPublish_keeps | with_reducible apply State.fireDue_keeps | with_reducible apply State.renewLease_keeps | with_reducible apply State.powerTick_keeps | with_reducible apply State.modConv_keeps | with_reducible apply State.socTick_keeps | with_reducible apply State.legacyTick_keeps | with_reducible apply State.safFrame_keeps | with_reducible apply State.expireMarks_keeps | with_reducible apply State.takeSnapshot_keeps | with_reducible apply State.each_keeps | with_reducible apply State.coreTick_keeps | with_reducible apply State.markDraws_keeps | with_reducible apply State.alignCarriers_keeps | with_reducible apply State.rackTick_keeps | simp only [Keeps.mk_eq] | split | (intro _) )

theorem execTickBoundary_keeps (x0 : TickInputs) (x1 : State) {s0 : State} (h1 : Keeps s0 x1) : KeepsOut s0 (execTickBoundary x0 x1) := by
  unfold execTickBoundary
  try dsimp only
  repeat' (first | with_reducible assumption  | with_reducible apply KeepsOut.next| with_reducible apply State.each_keeps | with_reducible apply State.answerWords_keeps | with_reducible apply State.coreWindow_keeps | with_reducible apply State.haltStep_keeps | with_reducible apply State.readings_keeps | with_reducible apply State.runToTick_keeps | with_reducible apply State.when_keeps | with_reducible apply State.modMd_keeps | with_reducible apply State.diagnose_keeps | with_reducible apply State.tickBody_keeps | simp only [Keeps.mk_eq] | split | (intro _) )

end Sys2Proof.Machine
end

