-- ==== Sys2Proof/Laws/Line.lean ====
section
/-! SUPPORT. Laws of the line frame: what a transmitter builds (spec/13, R340 to R342) is what a receiver reads, for every
flit, every scrambler state and either parity. -/

namespace Sys2Proof.Machine

/-! ### Bits, bytes and pieces -/

@[simp] theorem lineBits_length (n v : Nat) : (lineBits n v).length = n := by
  induction n generalizing v with
  | zero => rfl
  | succ n ih => simp [lineBits, ih]

theorem lineBits_numOf (l : List Bool) : lineBits l.length (numOf l) = l := by
  induction l with
  | nil => rfl
  | cons b l ih =>
    cases b
    · have e : 2 * numOf l / 2 = numOf l := by omega
      simp [lineBits, numOf, e, ih]
    · have e : (1 + 2 * numOf l) / 2 = numOf l := by omega
      have e' : (1 + 2 * numOf l) % 2 = 1 := by omega
      simp [lineBits, numOf, e, e', ih]

theorem numOf_lt (l : List Bool) : numOf l < 2 ^ l.length := by
  induction l with
  | nil => simp [numOf]
  | cons b l ih => cases b <;> simp [numOf, Nat.pow_succ] <;> omega

theorem numOf_lineBits (n v : Nat) : numOf (lineBits n v) = v % 2 ^ n := by
  induction n generalizing v with
  | zero => simp [numOf, lineBits, Nat.mod_one]
  | succ n ih =>
    rw [lineBits, numOf, ih, Nat.pow_succ, Nat.mul_comm (2 ^ n) 2, Nat.mod_mul]
    rcases Nat.mod_two_eq_zero_or_one v with h | h <;> simp [h]

theorem byteBits_length (l : List Byte) : (byteBits l).length = 8 * l.length := by
  induction l with
  | nil => rfl
  | cons b l ih =>
    have e : byteBits (b :: l) = lineBits 8 b.toNat ++ byteBits l := rfl
    rw [e, List.length_append, ih, lineBits_length, List.length_cons]
    omega

theorem symBits_length (l : List Sym) : (symBits l).length = 10 * l.length := by
  induction l with
  | nil => rfl
  | cons b l ih =>
    have e : symBits (b :: l) = lineBits 10 b.toNat ++ symBits l := rfl
    rw [e, List.length_append, ih, lineBits_length, List.length_cons]
    omega

/-- Symbols of bits, and their bits again. -/
theorem symBits_pieces (n : Nat) (l : List Bool) (h : l.length = 10 * n) :
    symBits ((pieces 10 n l).map (fun x => (BitVec.ofNat 10 (numOf x) : Sym))) = l := by
  induction n generalizing l with
  | zero => exact (List.eq_nil_of_length_eq_zero (by omega)).symm
  | succ n ih =>
    have e := ih (l.drop 10) (by simp; omega)
    have len : (l.take 10).length = 10 := by simp; omega
    have lt : numOf (l.take 10) < 1024 := by
      have := numOf_lt (l.take 10)
      rwa [len] at this
    have b : lineBits 10 (BitVec.ofNat 10 (numOf (l.take 10))).toNat = l.take 10 := by
      rw [BitVec.toNat_ofNat, Nat.mod_eq_of_lt lt]
      have := lineBits_numOf (l.take 10)
      rwa [len] at this
    show lineBits 10 (BitVec.ofNat 10 (numOf (l.take 10))).toNat ++ symBits _ = l
    rw [b, e, List.take_append_drop]

theorem pieces_symBits (l : List Sym) :
    (pieces 10 l.length (symBits l)).map (fun x => (BitVec.ofNat 10 (numOf x) : Sym)) = l := by
  induction l with
  | nil => rfl
  | cons a l ih =>
    have t : (lineBits 10 a.toNat ++ symBits l).take 10 = lineBits 10 a.toNat := by simp
    have d : (lineBits 10 a.toNat ++ symBits l).drop 10 = symBits l := by simp
    show BitVec.ofNat 10 (numOf ((lineBits 10 a.toNat ++ symBits l).take 10)) ::
      (pieces 10 l.length ((lineBits 10 a.toNat ++ symBits l).drop 10)).map _ = _
    rw [t, d, ih, numOf_lineBits, Nat.mod_eq_of_lt a.isLt, BitVec.ofNat_toNat, BitVec.setWidth_eq]

theorem bytesOf_byteBits (l : List Byte) : bytesOf l.length (byteBits l) = l := by
  induction l with
  | nil => rfl
  | cons a l ih =>
    have t : (lineBits 8 a.toNat ++ byteBits l).take 8 = lineBits 8 a.toNat := by simp
    have d : (lineBits 8 a.toNat ++ byteBits l).drop 8 = byteBits l := by simp
    show BitVec.ofNat 8 (numOf ((lineBits 8 a.toNat ++ byteBits l).take 8)) ::
      bytesOf l.length ((lineBits 8 a.toNat ++ byteBits l).drop 8) = _
    rw [t, d, ih, numOf_lineBits, Nat.mod_eq_of_lt a.isLt, BitVec.ofNat_toNat, BitVec.setWidth_eq]

/-! ### The field and the code -/

theorem symX_xor (a b : Sym) : symX (a ^^^ b) = symX a ^^^ symX b := by
  unfold symX
  rw [BitVec.getLsbD_xor, BitVec.shiftLeft_xor_distrib]
  cases a.getLsbD 9 <;> cases b.getLsbD 9 <;> simp <;> ext i <;> simp <;> grind

theorem symMulFrom_xor (c : Sym) (n i : Nat) (a b : Sym) :
    symMulFrom c n i (a ^^^ b) = symMulFrom c n i a ^^^ symMulFrom c n i b := by
  induction n generalizing i a b with
  | zero => simp [symMulFrom]
  | succ n ih =>
    simp only [symMulFrom, symX_xor, ih]
    cases c.getLsbD i <;> simp <;> ac_rfl

/-- A product is linear in its first factor. -/
theorem symMul_xor (a b c : Sym) : symMul (a ^^^ b) c = symMul a c ^^^ symMul b c := symMulFrom_xor c 10 0 a b

theorem symMul_zero (c : Sym) : symMul 0#10 c = 0#10 := by
  have h := symMul_xor 0 0 c
  rw [BitVec.xor_self, BitVec.xor_self] at h
  exact h

/-- A symbol is the sum of its bits. -/
theorem sym_bits (f : Sym) :
    f = (List.range 10).foldl (fun a i => a ^^^ (if f.getLsbD i then (1 : Sym) <<< i else 0)) 0 := by
  revert f
  decide +kernel

/-- A linear map that is 0 at each bit is 0. -/
theorem linear_zero (F : Sym → Sym) (add : ∀ a b, F (a ^^^ b) = F a ^^^ F b) (bits : ∀ i, i < 10 → F ((1 : Sym) <<< i) = 0) (f : Sym) :
    F f = 0 := by
  have zero : F 0 = 0 := by
    have h := add 0 0
    rw [BitVec.xor_self, BitVec.xor_self] at h
    exact h
  have all : ∀ (l : List Nat) (a : Sym), (∀ i ∈ l, i < 10) → F a = 0 →
      F (l.foldl (fun a i => a ^^^ (if f.getLsbD i then (1 : Sym) <<< i else 0)) a) = 0 := by
    intro l
    induction l with
    | nil => exact fun a _ h => h
    | cons i l ih =>
      intro a lt h
      refine ih _ (fun j hj => lt j (List.mem_cons_of_mem _ hj)) ?_
      rw [add, h]
      split
      · rw [bits i (lt i List.mem_cons_self)]
        rfl
      · rw [zero]
        rfl
  rw [sym_bits f]
  exact all _ 0 (fun i hi => List.mem_range.mp hi) zero

/-- The four coefficients of the generator. -/
def genCoeff (i : Nat) : Sym := genCoeffs.getD i 0

theorem genCoeffs_eq : genCoeffs = [genCoeff 0, genCoeff 1, genCoeff 2, genCoeff 3] := by decide +kernel

/-- The generator is 0 at each of its roots. -/
theorem generator_root (k : Nat) (hk : k < 4) (f : Sym) :
    symMul (symMul (symMul (symMul f (genCoeff 0)) (symAlpha k) ^^^ symMul f (genCoeff 1)) (symAlpha k) ^^^
        symMul f (genCoeff 2)) (symAlpha k) ^^^ symMul f (genCoeff 3) =
      symMul (symMul (symMul (symMul f (symAlpha k)) (symAlpha k)) (symAlpha k)) (symAlpha k) := by
  have h := linear_zero (fun f =>
    symMul (symMul (symMul (symMul f (genCoeff 0)) (symAlpha k) ^^^ symMul f (genCoeff 1)) (symAlpha k) ^^^
        symMul f (genCoeff 2)) (symAlpha k) ^^^ symMul f (genCoeff 3) ^^^
      symMul (symMul (symMul (symMul f (symAlpha k)) (symAlpha k)) (symAlpha k)) (symAlpha k))
    (fun a b => by simp only [symMul_xor]; ac_rfl)
    (by revert k; decide +kernel) f
  exact BitVec.xor_eq_zero_iff.mp h

/-- Horner's rule from a start. -/
theorem syndrome_append (k : Nat) (w v : List Sym) :
    syndrome (w ++ v) k = v.foldl (fun acc d => symMul acc (symAlpha k) ^^^ d) (syndrome w k) := by
  simp [syndrome]

/-- The remainder register after a symbol. -/
theorem parityStep_eq (a b c d e : Sym) :
    parityStep genCoeffs [a, b, c, d] e =
      [b ^^^ symMul (a ^^^ e) (genCoeff 0), c ^^^ symMul (a ^^^ e) (genCoeff 1), d ^^^ symMul (a ^^^ e) (genCoeff 2),
        symMul (a ^^^ e) (genCoeff 3)] := by
  rw [genCoeffs_eq]
  simp [parityStep]

/-- The register stays four symbols, and at each root it is the data times x^4. -/
theorem parity_root (k : Nat) (hk : k < 4) (l : List Sym) : ∀ (a b c d acc : Sym),
    symMul (symMul (symMul (symMul acc (symAlpha k)) (symAlpha k)) (symAlpha k)) (symAlpha k) =
      symMul (symMul (symMul a (symAlpha k) ^^^ b) (symAlpha k) ^^^ c) (symAlpha k) ^^^ d →
    ∃ a' b' c' d', l.foldl (parityStep genCoeffs) [a, b, c, d] = [a', b', c', d'] ∧
      (let z := l.foldl (fun acc d => symMul acc (symAlpha k) ^^^ d) acc
       symMul (symMul (symMul (symMul z (symAlpha k)) (symAlpha k)) (symAlpha k)) (symAlpha k) =
        symMul (symMul (symMul a' (symAlpha k) ^^^ b') (symAlpha k) ^^^ c') (symAlpha k) ^^^ d') := by
  induction l with
  | nil => exact fun a b c d acc h => ⟨a, b, c, d, rfl, h⟩
  | cons e l ih =>
    intro a b c d acc h
    simp only [List.foldl_cons, parityStep_eq]
    refine ih _ _ _ _ _ ?_
    have g := generator_root k hk (a ^^^ e)
    have g' : symMul (a ^^^ e) (genCoeff 3) =
        symMul (symMul (symMul (symMul (a ^^^ e) (genCoeff 0)) (symAlpha k) ^^^ symMul (a ^^^ e) (genCoeff 1)) (symAlpha k) ^^^
          symMul (a ^^^ e) (genCoeff 2)) (symAlpha k) ^^^
        symMul (symMul (symMul (symMul (a ^^^ e) (symAlpha k)) (symAlpha k)) (symAlpha k)) (symAlpha k) := by
      rw [← g, ← BitVec.xor_assoc, BitVec.xor_self, BitVec.zero_xor]
    have m := congrArg (fun z => symMul z (symAlpha k)) h
    simp only [symMul_xor] at m g' ⊢
    rw [m, g']
    generalize symAlpha k = y
    apply BitVec.xor_eq_zero_iff.mp
    ac_nf
    simp

/-- The parity is four symbols, and with it every syndrome is 0. -/
theorem parity_syndrome (k : Nat) (hk : k < 4) (l : List Sym) : (parity l).length = 4 ∧ syndrome (l ++ parity l) k = 0 := by
  obtain ⟨a, b, c, d, e, h⟩ := parity_root k hk l 0 0 0 0 0 (by simp [symMul_zero])
  have e' : parity l = [a, b, c, d] := e
  refine ⟨by rw [e']; rfl, ?_⟩
  rw [syndrome_append, e']
  simp only [symMul_xor] at h
  simp only [List.foldl_cons, List.foldl_nil, symMul_xor]
  show symMul (symMul (symMul (symMul (l.foldl (fun acc d => symMul acc (symAlpha k) ^^^ d) 0) (symAlpha k)) (symAlpha k)) (symAlpha k))
    (symAlpha k) ^^^ _ ^^^ _ ^^^ _ ^^^ _ = 0
  rw [h]
  apply BitVec.xor_eq_zero_iff.mp
  ac_nf
  simp

/-- A word with its parity needs no correction. -/
theorem correct_parity (l : List Sym) : correct (l ++ parity l) = some (l ++ parity l, 0) := by
  have h := fun k hk => (parity_syndrome k hk l).2
  simp only [correct, h 0 (by decide), h 1 (by decide), h 2 (by decide), h 3 (by decide), and_self, if_true]

/-! ### Bodies and frames -/

theorem flitSymbols_bits (f : List Byte) (h : f.length = 64) : symBits (flitSymbols f) = byteBits f ++ List.replicate 8 false :=
  symBits_pieces 52 _ (by rw [List.length_append, byteBits_length, h]; rfl)

theorem pieces_length {α : Type} (m n : Nat) (l : List α) : (pieces m n l).length = n := by
  induction n generalizing l with
  | zero => rfl
  | succ n ih => simp [pieces, ih]

theorem flitSymbols_length (f : List Byte) : (flitSymbols f).length = 52 := by
  rw [flitSymbols, List.length_map, pieces_length]

theorem parity_length (l : List Sym) : (parity l).length = 4 := (parity_syndrome 0 (by decide) l).1

/-- The symbols of a flit are a flit again. -/
theorem symbolFlit_flitSymbols (f p : List Byte → List Sym) (g : List Byte) (h : g.length = 64) (e : f g = flitSymbols g) :
    symbolFlit (f g ++ p g) = some g := by
  have t : (f g ++ p g).take 52 = flitSymbols g := by
    rw [e, List.take_append_of_le_length (Nat.le_of_eq (flitSymbols_length g).symm), List.take_of_length_le (Nat.le_of_eq (flitSymbols_length g))]
  have len : (byteBits g).length = 512 := by rw [byteBits_length, h]
  have d : (byteBits g ++ List.replicate 8 false).drop 512 = List.replicate 8 false := by rw [← len, List.drop_left]
  have k : (byteBits g ++ List.replicate 8 false).take 512 = byteBits g := by rw [← len, List.take_left]
  have b : bytesOf 64 (byteBits g) = g := by
    have := bytesOf_byteBits g
    rwa [h] at this
  rw [symbolFlit, t, flitSymbols_bits g h]
  simp only [d, k, b]
  rfl

/-- The two parts of a body. -/
theorem bodyBits_parts (f : List Byte) (a : Bool) (h : f.length = 64) :
    ((bodyBits f a).take 512 = byteBits f) ∧ ((bodyBits f a).drop 512 =
      symBits (if a then (parity (flitSymbols f)).map (fun x => ~~~x) else parity (flitSymbols f))) := by
  have len : (byteBits f).length = 512 := by rw [byteBits_length, h]
  exact ⟨by rw [bodyBits, ← len, List.take_left], by rw [bodyBits, ← len, List.drop_left]⟩

/-- The symbols of the parity part of a body. -/
theorem parity_symbols (l : List Sym) (h : l.length = 4) :
    (pieces 10 4 (symBits l)).map (fun x => (BitVec.ofNat 10 (numOf x) : Sym)) = l := by
  have := pieces_symBits l
  rwa [h] at this

theorem complement_ne (l : List Sym) (h : l.length = 4) : l ≠ l.map (fun x => ~~~x) := by
  match l, h with
  | a :: _, _ =>
    intro e
    have e' : a = ~~~a := (List.cons.inj e).1
    have := congrArg (fun x : Sym => x.getLsbD 0) e'
    simp at this

/-- A body is read as the flit it was made of, with nothing corrected. -/
theorem decodeBody_bodyBits (f : List Byte) (h : f.length = 64) : decodeBody (bodyBits f false) = .flit f 0 := by
  have p := parity_length (flitSymbols f)
  have n := complement_ne _ p
  have parts := bodyBits_parts f false h
  have e : (pieces 10 52 (byteBits f ++ List.replicate 8 false)).map (fun x => (BitVec.ofNat 10 (numOf x) : Sym)) = flitSymbols f := rfl
  have s := symbolFlit_flitSymbols flitSymbols (fun g => parity (flitSymbols g)) f h rfl
  simp only [decodeBody, parts.1, parts.2, e, Bool.false_eq_true, if_false, parity_symbols _ p, if_neg n, correct_parity, s, Option.map_some]

/-- A body with the complement of its parity is an abort. -/
theorem decodeBody_abort (f : List Byte) (h : f.length = 64) : decodeBody (bodyBits f true) = .abort := by
  have p := parity_length (flitSymbols f)
  have parts := bodyBits_parts f true h
  have e : (pieces 10 52 (byteBits f ++ List.replicate 8 false)).map (fun x => (BitVec.ofNat 10 (numOf x) : Sym)) = flitSymbols f := rfl
  have c : ((parity (flitSymbols f)).map (fun x => ~~~x)).map (fun x => ~~~x) = parity (flitSymbols f) := by
    rw [List.map_map]
    exact List.map_id'' (fun x => BitVec.not_not) _
  simp only [decodeBody, parts.1, parts.2, e, if_true, parity_symbols _ (by simpa using p : ((parity (flitSymbols f)).map (fun x => ~~~x)).length = 4), c]

@[simp] theorem scramble_length (st : BitVec 58) (l : List Bool) : (scramble st l).1.length = l.length := by
  induction l generalizing st with
  | nil => rfl
  | cons b l ih => simp [scramble, ih]

/-- The receiver's scrambler undoes the transmitter's. -/
theorem descramble_scramble (st : BitVec 58) (l : List Bool) : descramble st (scramble st l).1 = (l, (scramble st l).2) := by
  induction l generalizing st with
  | nil => rfl
  | cons b l ih => simp [scramble, descramble, ih]

theorem bodyBits_length (f : List Byte) (a : Bool) (h : f.length = 64) : (bodyBits f a).length = 552 := by
  have p := parity_length (flitSymbols f)
  cases a <;> simp [bodyBits, byteBits_length, symBits_length, h, p]

/-- A frame has 576 bits: 16 of sync, the scrambled body, and the sideband byte. -/
theorem frameOf_length (st : BitVec 58) (f : List Byte) (a : Bool) (b : Byte) (h : f.length = 64) : (frameOf st f a b).1.length = 576 := by
  simp [frameOf, bodyBits_length f a h, syncBits]

/-- The frame as the word that the link carries. -/
def frameWord (st : BitVec 58) (f : List Byte) (a : Bool) (b : Byte) : BitVec 576 := BitVec.ofNat 576 (numOf (frameOf st f a b).1)

theorem frameWord_bits (st : BitVec 58) (f : List Byte) (a : Bool) (b : Byte) (h : f.length = 64) :
    lineBits 576 (frameWord st f a b).toNat = (frameOf st f a b).1 := by
  have len := frameOf_length st f a b h
  have lt := numOf_lt (frameOf st f a b).1
  rw [len] at lt
  rw [frameWord, BitVec.toNat_ofNat, Nat.mod_eq_of_lt lt]
  have := lineBits_numOf (frameOf st f a b).1
  rwa [len] at this

/-- What a receiver with the transmitter's scrambler state reads from a frame: a right sync word and the body. -/
theorem frameWord_read (st : BitVec 58) (f : List Byte) (a : Bool) (b : Byte) (h : f.length = 64) :
    syncWrong ((lineBits 576 (frameWord st f a b).toNat).take 16) = 0 ∧
      (descramble st (((lineBits 576 (frameWord st f a b).toNat).drop 16).take 552)).1 = bodyBits f a := by
  rw [frameWord_bits st f a b h]
  have l := bodyBits_length f a h
  have s : syncBits.length = 16 := by decide
  have t : (frameOf st f a b).1 = syncBits ++ ((scramble st (bodyBits f a)).1 ++ lineBits 8 b.toNat) := by simp [frameOf]
  refine ⟨?_, ?_⟩
  · rw [t, ← s, List.take_left]
    decide
  · rw [t, ← s, List.drop_left, List.take_append_of_le_length (Nat.le_of_eq ((scramble_length _ _).trans l).symm),
      List.take_of_length_le (Nat.le_of_eq ((scramble_length _ _).trans l)), descramble_scramble]

end Sys2Proof.Machine
end

