-- ==== Sys2Proof/Laws/Memory.lean ====
section
/-! SUPPORT. The memories of the cores and of the Saffron tiles keep the canonical form of their sparse stores, and hold it at
reset. -/

namespace Sys2Proof.Machine

/-- The stores of a core are in canonical form: every address reads 0 unless listed. -/
structure CoreSt.MemWf (c : CoreSt) : Prop where
  coef : Sparse.wf zeroDflt c.coef = true
  sm : Sparse.wf zeroDflt c.sm = true
  ports : Sparse.wf zeroDflt c.ports = true

/-- The memories of Saffron are in canonical form. -/
structure SafMem.Wf (m : SafMem) : Prop where
  sram : Sparse.wf zeroDflt m.sram = true
  acc : Sparse.wf zeroDflt m.acc = true
  exch : Sparse.wf zeroDflt m.exch = true
  ctx : Sparse.wf zeroDflt m.ctx = true
  ctxNext : Sparse.wf zeroDflt m.ctxNext = true
  outVec : Sparse.wf zeroDflt m.outVec = true

theorem CoreSt.setSm_memWf (c : CoreSt) (m : Nat) (x : Int) (h : c.MemWf) : (c.setSm m x).MemWf :=
  ⟨h.coef, Sparse.put_wf _ _ _ _ h.sm, h.ports⟩

theorem CoreSt.coefWord_memWf (c : CoreSt) (e : Nat × Int) (h : c.MemWf) : (c.coefWord e).MemWf :=
  ⟨Sparse.put_wf _ _ _ _ h.coef, h.sm, h.ports⟩

theorem CoreSt.outPort_memWf (c : CoreSt) (p : Nat) (v : Int) (h : c.MemWf) : (c.outPort p v).MemWf := by
  unfold CoreSt.outPort
  repeat' split
  all_goals first
    | exact ⟨h.coef, h.sm, Sparse.put_wf _ _ _ _ h.ports⟩
    | exact ⟨h.coef, h.sm, h.ports⟩

theorem Sparse.foldl_put_wf (d : Nat → Int) (l : List (Nat × Int)) (m : Sparse) (h : Sparse.wf d m = true) :
    Sparse.wf d (l.foldl (fun m e => Sparse.put d m e.1 e.2) m) = true := by
  induction l generalizing m with
  | nil => exact h
  | cons e rest ih => exact ih _ (Sparse.put_wf d m e.1 e.2 h)

theorem CoreSt.publish_memWf (c : CoreSt) (h : c.MemWf) : c.publish.MemWf := by
  unfold CoreSt.publish
  dsimp only
  split
  · exact ⟨h.coef, h.sm, Sparse.foldl_put_wf _ _ _ h.ports⟩
  · exact ⟨h.coef, h.sm, Sparse.foldl_put_wf _ _ _ h.ports⟩

theorem SafMem.putByte_wf (m : SafMem) (tile region offset v : Nat) (h : m.Wf) : (m.putByte tile region offset v).Wf :=
  { h with sram := Sparse.put_wf _ _ _ _ h.sram }

theorem SafMem.putWord_wf (m : SafMem) (tile region offset n v : Nat) (h : m.Wf) :
    (m.putWord tile region offset n v).Wf := by
  induction n generalizing m offset v with
  | zero => exact h
  | succ n ih => exact ih _ _ _ (SafMem.putByte_wf m tile region offset v h)

theorem writeEl_wf (env : StageEnv) (r : BitVec 32) (tile e l : Nat) (v : Int) (m : SafMem) (h : m.Wf) :
    (writeEl env r tile e l v m).Wf := by
  unfold writeEl
  dsimp only
  split
  · exact { h with exch := Sparse.put_wf _ _ _ _ h.exch }
  · exact SafMem.putWord_wf m _ _ _ _ _ h
  · exact { h with ctxNext := Sparse.put_wf _ _ _ _ h.ctxNext }
  · exact { h with outVec := Sparse.put_wf _ _ _ _ h.outVec }
  · exact h

@[simp] theorem StageOut.sat_mem (tile : Nat) (k : SatKind) (n : Nat) (o : StageOut) : (o.sat tile k n).mem = o.mem := by
  unfold StageOut.sat
  split <;> rfl

theorem StageOut.accum_wf (tile l : Nat) (a : Int × Nat) (o : StageOut) (h : o.mem.Wf) : (o.accum tile l a).mem.Wf := by
  unfold StageOut.accum
  rw [StageOut.sat_mem]
  exact { h with acc := Sparse.put_wf _ _ _ _ h.acc }

theorem StageOut.store_wf (env : StageEnv) (r : BitVec 32) (tile e l : Nat) (v : Int × Bool) (o : StageOut) (h : o.mem.Wf) :
    (o.store env r tile e l v).mem.Wf := by
  unfold StageOut.store
  rw [StageOut.sat_mem]
  exact writeEl_wf env r tile e l v.1 o.mem h

/-- A byte written reads back, modulo 256. -/
theorem SafMem.byte_putByte (m : SafMem) (tile region offset v : Nat) :
    (m.putByte tile region offset v).byte tile region offset = v % 256 := by
  unfold SafMem.byte SafMem.putByte
  rw [Sparse.get_put_same]
  rfl

/-- A byte at another address reads as before. -/
theorem SafMem.byte_putByte_other (m : SafMem) (tile region offset v tile' region' offset' : Nat)
    (h : sramKey tile' region' offset' ≠ sramKey tile region offset) :
    (m.putByte tile region offset v).byte tile' region' offset' = m.byte tile' region' offset' := by
  unfold SafMem.byte SafMem.putByte
  rw [Sparse.get_put_other _ _ _ _ _ h]

theorem State.reset_saf_wf : State.reset.saf.mem.Wf := by
  refine ⟨?_, ?_, ?_, ?_, ?_, ?_⟩ <;> decide

theorem State.reset_core_memWf : ∀ n : Fin 4, (State.reset.core n).MemWf := by
  intro n
  refine ⟨?_, ?_, ?_⟩ <;> revert n <;> decide

end Sys2Proof.Machine
end

