-- ==== Sys2Proof/WellFormed.lean ====
section
/-! DEFINITION. Well-formed commands: the values a wire, a frame or a message can carry. -/

namespace Sys2Proof

open Sys2Proof.Machine

/-- A message carries at most 8,192 bytes (spec/14, R375). -/
abbrev maxMessage : Nat := 8192

/-- Times of fabric time are FT64 (spec/04, R84); fine times add 16 bits of fraction (Table 4-2). -/
def ftOk (t : Nat) : Bool := decide (t < 2 ^ 64)
def fineOk (t : Nat) : Bool := decide (t < 2 ^ 80)

/-- The value of a write fits a message. -/
def Machine.HostWrite.wf (w : HostWrite) : Bool := decide (w.bytes.length ≤ maxMessage)

/-- An ANNOUNCE's fields (Table 4-2): quality of Table 4-1, priority, node id, steps. -/
def Machine.Offer.wf (o : Offer) : Bool :=
  decide (o.quality < 256) && decide (o.priority < 256) && decide (o.master < 1024) && decide (o.steps < 256)

/-- A header is 512 bytes (R463). -/
def Machine.RecoveryMsg.wf (m : RecoveryMsg) : Bool :=
  match m with
  | .header _ _ _ b _ => decide (b.length = 512)
  | .request _ | .body _ _ => true

/-- Is a command well formed? -/
def Instr.wf (i : Instr) : Bool :=
  match i with
  | .registerWrite k w => decide (k < 2 ^ 24) && w.wf
  | .writeObject _ _ v => decide (v.length ≤ maxMessage)
  | .blockData _ _ _ d => decide (d.length ≤ maxMessage)
  | .readList _ ks => decide (3 * ks.length ≤ maxMessage)
  | .stream _ _ _ _ _ ks => decide (3 * ks.length ≤ maxMessage)
  | .subscribe _ _ xs => decide (2 * xs.length ≤ maxMessage)
  | .announce _ n o => decide (n < 1024) && o.wf
  | .timingSync _ _ t1 t2 => fineOk t1 && fineOk t2
  | .delayReqSend t3 => fineOk t3
  | .delayReq _ _ t => fineOk t
  | .delayResp _ _ t4 => fineOk t4
  | .ppsInEdge t => fineOk t
  | .ptpMessage _ d _ => decide (d < 256)
  | .cloveReceive _ t => ftOk t
  | .cancel _ t => ftOk t
  | .trayReport _ b t => decide (b.length = 40) && ftOk t
  | .trayStatus _ b t => decide (b.length = 40) && ftOk t
  | .trayIdent _ b => decide (b.length = 40)
  | .stepNotice _ b t => decide (b.length = 40) && ftOk t
  | .notice _ _ t => ftOk t
  | .linkFrameReceive _ _ t => ftOk t
  | .ethernetFrame _ _ _ _ b t => decide (b.length < 65536) && ftOk t
  | .queueItemWrite _ _ l b _ t => decide (b.length ≤ l.toNat) && ftOk t
  | .queueRead _ _ d _ _ => ftOk d
  | .chainLoad _ _ o total d => decide (d.length ≤ 232) && decide (o + d.length ≤ total) && decide (total < 2 ^ 32)
  | .balance _ _ _ d => decide (d < 2 ^ 16)
  | .loop f d => decide (f.length ≤ 65547) && decide (d < 2 ^ 32)
  | .result _ _ f => decide (f.length ≤ 65547)
  | .testResult _ _ f => decide (f.length ≤ 65547)
  | .ident _ _ f => decide (f.length ≤ 65547)
  | .ack _ f => decide (f.length ≤ 65547)
  | .alert f => decide (f.length ≤ 65547)
  | .train _ b => decide (b.length = 40)
  | .trainDone _ b => decide (b.length = 40)
  | .linkVersion _ b => decide (b.length = 40)
  | .creditSync _ b => decide (b.length = 40)
  | .linkDownFlit _ b => decide (b.length = 40)
  | .finished _ b => decide (b.length = 40)
  | .hello _ h _ _ => decide (129 ≤ h.length) && decide (h.length < 65536)
  | .rekeyHello _ h => decide (129 ≤ h.length) && decide (h.length < 65536)
  | .mv _ n => decide (n < 65536)
  | .convStage _ n => decide (n < 65536)
  | .scan _ n => decide (n < 65536)
  | .gate _ n => decide (n < 65536)
  | .ew _ n => decide (n < 65536)
  | .rmsn _ n => decide (n < 65536)
  | .attn n => decide (n < 65536)
  | .exch _ n => decide (n < 65536)
  | .imageHeaderArrived _ b _ => decide (b.length = 512)
  | .recoveryData m => m.wf
  | .bankRetry w => w.wf
  | .cloveInject w => w.wf
  | .converterEnableWrite _ w => w.wf
  | .voltageTargetWrite w => w.wf
  | .coefficientWrite _ w => w.wf
  | .coefficientBlockWrite _ w => w.wf
  | .saffronEnableWrite w => w.wf
  | .clearFailedWrite w => w.wf
  | .rotationEnableWrite w => w.wf
  | .slowTickWrite w => w.wf
  | .sweepRequest w => w.wf
  | .quietWindowWrite w => w.wf
  | .rackCapWrite w => w.wf
  | .linkEnableWrite _ w => w.wf
  | .closeSessionWrite w => w.wf
  | .portEnableWrite _ w => w.wf
  | .modeCommand w => w.wf
  | .identityCertificateWrite w => w.wf
  | .anchorsWrite _ w => w.wf
  | .nonceWrite w => w.wf
  | .commit w => w.wf
  | .prefer w => w.wf
  | .cloveKeyInstall _ w => w.wf
  | .legacyEnable w => w.wf
  | .legacyEntryWrite _ w => w.wf
  | .tickBoundary _ | .startSequence _ | .startCondition _ | .gatesMet | .slotBDeferExpiry | .readinessTimeout
  | .startConfirmed | .startTimeout | .pinReset | .hostReset _ | .resetForce _ | .firmwareFatal
  | .watchdogControlExpiry | .watchdogFirmwareExpiry | .shutdownHandover _ | .stopShelf _ | .stopShelfComplete
  | .recoveryRequest | .recoveryImageAccepted _ _ | .recoverySourceTimeout | .holdSwitchIn | .mainDip
  | .mainLoss | .powerFailRestart | .holdUndervoltage | .holdEnergyPublish _ _ _ _ | .holdEnergyLow
  | .mainOutOfRange _ | .auxLow _ | .trimRaise _ _ | .trimLower _ _ | .junctionWarning _ | .junctionHigh _
  | .junctionCritical _ | .junctionClear _ | .thermalTrip _ | .thermalTripRelease _ | .coolantFlowLow
  | .coolantInletHigh | .refClockLoss | .pllUnlock _ | .sdmClockTakeover _ | .maceLineConflict | .maceTakeover
  | .leaseExpiry | .ppsOutPulse | .boundaryScanInstruction _ _ | .tamperDetected _ | .announceSend | .upstreamLost
  | .fabricTimeStart | .timingSyncSend | .timeDegraded | .ppsMismatch | .cloveInsert | .clovePromote _ | .setReg _
  | .rackCap _ | .groupCap _ | .stepMark _ | .stepMarkExpiry | .ledgerLend _ | .ledgerReturn _ | .loanExpiry
  | .sweepStart _ | .quietWindow _ | .carrierBoundary _ _ | .compareUpdate _ _ | .faultInput _ _ _ _ | .phaseHiccup _
  | .phaseRetry _ | .phaseRetryOk _ | .convShortCircuit _ | .overloadCompare _ | .protectionSample _ _
  | .busOvRestart | .ovLatchClear _ | .busUndervoltage | .feedUndervoltage | .feedOvervoltage | .feedRestart
  | .phaseTempShutdown _ | .phaseTempRestart _ | .senseSuspect _ | .senseOpen _ | .senseOpenClear _
  | .convertersStart | .storageConverterStart | .burstEnter _ | .burstExit _ | .feedBurstPacket | .shareTrim
  | .shareTrimAtLimit _ | .takeOut _ _ | .bringBack _ _ | .phaseRejoined _ | .clearLatch _ _ | .eventSlot _
  | .cardamomOverrun _ | .nop _ | .endEval _ | .ldk _ _ _ | .ldi _ _ _ | .ldil _ _ _ | .ldc _ _ _
  | .lds _ _ _ | .sts _ _ _ | .satd _ _ _ _ | .out _ _ _ | .outl _ _ _ | .mova _ _ _ | .clr _ _ | .mpy _ _ _ _
  | .mac _ _ _ _ | .msu _ _ _ _ | .macd _ _ _ _ | .adda _ _ _ | .suba _ _ _ | .addd _ _ _ | .subd _ _ _ | .sha _ _ _
  | .abs _ _ | .neg _ _ | .lim _ _ _ | .sela _ _ _ _ | .tsta _ _ | .tstp _ _ _ | .skipc _ _ _ | .integ _ _ _ _ _
  | .minsel _ _ _ _ _ | .maxsel _ _ _ _ _ | .slew _ _ _ _ | .lut _ _ _ _ | .ffw _ _ _ _ | .holdOpen _ _
  | .holdRelease _ _ | .holdReleased _ | .holdAbandon _ _ | .holdTimeout _ | .cardamomLoad _ _ | .coreSwap _ _
  | .programSwapped _ | .coreStop _ _ | .coreStart _ _ | .clearPending _ _ | .coefSave _ _ | .coefDiscard _ _
  | .cardamomMemCorrected _ | .cardamomMemUncorrectable _ | .feedOverdraw | .capSurplus | .storageLimitBinding
  | .socFloorBinding | .socCeilingBinding | .thermalDerate | .saffronFastOverrun | .slowBoundary _
  | .saffronStreamError | .saffronSlowReloaded | .fastTierRestart | .estimateUntrusted _ _ | .estimateTrusted _ _
  | .divChipsClear | .tileSelfTestDone | .rotationHandover | .saffronTileFailed _ _ | .saffronLoad _
  | .saffronUnload _ | .swapFast _ | .swapSlow _ | .swapPair _ | .saffronSwapBoundary | .saffronSwapDone
  | .saffronSwapAborted | .chainMasterChanged | .chainSync | .sweepPeriodic | .sweep | .sweepResend | .chainRead _ _
  | .sweepComplete | .chainResponseTimeout _ _ | .cellLimitReleased _ | .loopSend | .chainRestored
  | .chainStaleTimeout | .enum _ _ | .config _ _ | .chainTest _ _ _ | .sleep _
  | .balancingInterval | .openWireInterval | .switchTestInterval | .serialAccept _ | .socRestTaken | .taperTimeout
  | .quietWindowRequested | .socUncertain | .quietHoldBegin | .quietWindowAbandoned | .quietWindowMissed
  | .testStart _ | .testAbort _ | .capacityTestTimeout | .estimateReset _ | .journalInterval | .writeNow _
  | .journalWriteStart | .journalRetry | .journalWritten | .trayCycleBoundary
  | .admitTray _ | .flapHoldExpired _ | .coolantClear _ _ | .groupCapRefresh _ | .groupRelease _ | .groupCapLapse _
  | .ledgerProjection | .creditSyncSend
  | .sign _ _ | .linkTrainFail _ | .linkAuthFail _ _ | .rekeyStart _
  | .rekeySign _ _ _ | .rekeySwitch _ | .rekeyRetry _ | .linkDown _ _ | .linkBackoffExpiry _ | .linkStateFlood
  | .linkState _ _ _ _ _ | .linkStateAgeOut | .activate _ | .routesActivated | .routeClearPending _ | .retimerPoll
  | .sidebandMessage _ _ | .retimerLost _ _ | .retimerReset _ _ | .loopbackOn _ _ | .loopbackOff _ _
  | .eyeMarginRead _ | .linkMarginLow _ | .clientHello _ _ | .openSession _ _ _ _ _ | .closeSession _
  | .readObject _ _ | .describe _ _ | .blockOpen _ _ _ _ _ | .blockAck _ _ _ | .blockEnd _ _ _ _
  | .transferTimeout _ _ | .event _ | .eventAck _ | .eventResend _ | .eventPushTimeout _ | .telemetry _ _
  | .keepalive _ | .sessionTimeout _ | .portLinkDown _ | .portLinkUp _ | .pfcFrame _ _ _ | .stallingReadDeadline _
  | .pfcRepeat | .queueSpillRefill _ | .flush _ _ | .queueLinkFault _ | .causeRaised _ _ _ | .recordBuild _
  | .recorderFlush | .recorderFlushDone | .recorderClear _ | .tickRecordSend | .tickRecord _ | .tickRecordMissing _
  | .pairInputMismatch | .carrierAlignFail | .mirror _ | .mirrorEffect | .mirrorResend _ | .mirrorGap
  | .checkpointPeriod | .checkpoint _ _ _ | .checkpointRequest _ | .checkpointLoaded | .catchUpTimeout
  | .catchUpRetry _ | .handover _ | .handoverAck _ | .maceHandoverAborted | .maceHandoverDone | .stopShelfMessage _
  | .selfDiagFailure | .healthSend | .health _ | .partnerHealthMissing | .gddr7Scrub _ _ _ | .selfTestRun _
  | .selfTestPassed | .cryptoSelfTestFailed | .zeroise _ | .quoteReady _ | .measurementExtend _ _ _ _ _ _
  | .imageWriteEnd _ _ _ _ | .keyActivate _ _ | .keyRetire _ _ | .keyCommandAct
  | .injectionOnce _ _ | .injectionContinuous _ _ | .injectionDisarm _ _ | .disarmAll _ | .serviceEnLow
  | .injectionAct | .injectionReportPeriod | .legacyActivation | .legacyEntryPlay | .legacySequenceDone
  | .maceInAsserted | .peerOkChange _ | .timeSourceFailed _ | .frameSlot _ | .dtlsHandshake _ => true

end Sys2Proof
end

