-- ==== Sys2Proof/Tests/Slice0.lean ====
section
/-! SUPPORT. Tests: ill-formed commands are refused by WellFormed, the spec's worked figures come out, and for every claim
one concrete state and operands meet what it supposes. -/

set_option maxRecDepth 60000

namespace Sys2Proof.Machine

open Sys2Proof

/-! ### WellFormed refuses -/

/-- One byte more than a message carries. -/
def longBytes : List Byte := List.replicate 8193 0
theorem longBytes_long : decide (longBytes.length ≤ maxMessage) = false :=
  decide_eq_false (by rw [longBytes, List.length_replicate]; decide)

def longWrite : HostWrite := { sess := 1, bytes := longBytes }
theorem longWrite_bad : longWrite.wf = false := longBytes_long

def smokeHdr : ReqHdr := { sess := 1, reqId := 0, port := 0, peer := 0, udp := 0 }
def smokeClove : Clove :=
  { version := 0x10, action := 1, flags := 0, keyId := 0, source := 1, dest := 1, seq := 0, fireFt := 0, argA := 0, argB := 0, tag := 0 }

/-- A payload of a flit. -/
def payload40 : List Byte := List.replicate 40 0

/-- Object keys past 24 bits, and values, lists and blocks longer than a message. -/
theorem test_wf_messages :
    (Instr.registerWrite (2 ^ 24) { sess := 1, bytes := [] }).wf = false ∧ (Instr.registerWrite 0 longWrite).wf = false ∧
    (Instr.writeObject smokeHdr 0 longBytes).wf = false ∧ (Instr.blockData smokeHdr 0 0 longBytes).wf = false ∧
    (Instr.readList smokeHdr (List.replicate 2731 0)).wf = false ∧
    (Instr.stream smokeHdr true 0 1 0 (List.replicate 2731 0)).wf = false ∧
    (Instr.subscribe smokeHdr 0 (List.replicate 4097 0)).wf = false := by
  refine ⟨rfl, ?_, longBytes_long, longBytes_long, ?_, ?_, ?_⟩
  · show (decide ((0 : Nat) < 2 ^ 24) && longWrite.wf) = false
    rw [longWrite_bad, Bool.and_false]
  · show decide (3 * (List.replicate 2731 (0 : BitVec 24)).length ≤ maxMessage) = false
    rw [List.length_replicate]; decide
  · show decide (3 * (List.replicate 2731 (0 : BitVec 24)).length ≤ maxMessage) = false
    rw [List.length_replicate]; decide
  · show decide (2 * (List.replicate 4097 (0 : BitVec 16)).length ≤ maxMessage) = false
    rw [List.length_replicate]; decide

/-- Times past 64 bits, fine times past 80 bits, domains past 255, and an offer whose fields no ANNOUNCE holds. -/
theorem test_wf_times :
    (Instr.announce 0 1024 { version := 0x10, quality := 0, priority := 0, master := 0, steps := 0, tai := false }).wf = false ∧
    (Instr.announce 0 0 { version := 0x10, quality := 256, priority := 0, master := 0, steps := 0, tai := false }).wf = false ∧
    (Instr.timingSync 0 0x10 (2 ^ 80) 0).wf = false ∧ (Instr.timingSync 0 0x10 0 (2 ^ 80)).wf = false ∧
    (Instr.delayReqSend (2 ^ 80)).wf = false ∧ (Instr.delayReq 0 0x10 (2 ^ 80)).wf = false ∧
    (Instr.delayResp 0 0x10 (2 ^ 80)).wf = false ∧ (Instr.ppsInEdge (2 ^ 80)).wf = false ∧
    (Instr.ptpMessage 0 256 .lost).wf = false ∧ (Instr.cloveReceive smokeClove (2 ^ 64)).wf = false ∧
    (Instr.cancel smokeClove (2 ^ 64)).wf = false ∧ (Instr.trayReport 0 payload40 (2 ^ 64)).wf = false ∧
    (Instr.trayStatus 0 payload40 (2 ^ 64)).wf = false ∧ (Instr.stepNotice 0 payload40 (2 ^ 64)).wf = false ∧
    (Instr.linkFrameReceive 0 0 (2 ^ 64)).wf = false ∧ (Instr.ethernetFrame 0 0 0 true [] (2 ^ 64)).wf = false ∧
    (Instr.queueItemWrite 0 0 0 [] false (2 ^ 64)).wf = false ∧ (Instr.queueRead 0 true (2 ^ 64) 0 false).wf = false := by
  decide

/-- Frames, payloads, headers and durations past their fields or short of them. -/
theorem test_wf_frames :
    (Instr.queueItemWrite 0 0 0 [0] false 0).wf = false ∧ (Instr.chainLoad true none 1 1 [0]).wf = false ∧
    (Instr.balance true 0 none (2 ^ 16)).wf = false ∧ (Instr.loop [] (2 ^ 32)).wf = false ∧
    (Instr.trayReport 0 [] 0).wf = false ∧ (Instr.trayStatus 0 [] 0).wf = false ∧ (Instr.trayIdent 0 []).wf = false ∧
    (Instr.stepNotice 0 [] 0).wf = false ∧ (Instr.train 0 []).wf = false ∧ (Instr.trainDone 0 []).wf = false ∧
    (Instr.linkVersion 0 []).wf = false ∧ (Instr.creditSync 0 []).wf = false ∧ (Instr.linkDownFlit 0 []).wf = false ∧
    (Instr.finished 0 []).wf = false ∧ (Instr.hello 0 [] 0 true).wf = false ∧ (Instr.rekeyHello 0 []).wf = false ∧
    (Instr.imageHeaderArrived 0 [] true).wf = false ∧ (Instr.recoveryData (.header .pair 0 true [] true)).wf = false := by
  decide

/-- A chain frame longer than any the receiver takes. -/
def longFrame : List Byte := List.replicate 65548 0
theorem longFrame_long : decide (longFrame.length ≤ 65547) = false :=
  decide_eq_false (by rw [longFrame, List.length_replicate]; decide)
theorem test_wf_chain_frames :
    (Instr.result true 0 longFrame).wf = false ∧ (Instr.testResult true 0 longFrame).wf = false ∧
    (Instr.ident true 0 longFrame).wf = false ∧ (Instr.ack 0 longFrame).wf = false ∧ (Instr.alert longFrame).wf = false :=
  ⟨longFrame_long, longFrame_long, longFrame_long, longFrame_long, longFrame_long⟩

/-- Stages past 16 bits. -/
theorem test_wf_stages :
    (Instr.mv true 65536).wf = false ∧ (Instr.convStage true 65536).wf = false ∧ (Instr.scan true 65536).wf = false ∧
    (Instr.gate true 65536).wf = false ∧ (Instr.ew true 65536).wf = false ∧ (Instr.rmsn true 65536).wf = false ∧
    (Instr.attn 65536).wf = false ∧ (Instr.exch true 65536).wf = false := by decide

/-- Writes longer than a message, for every command that carries one. -/
theorem test_wf_writes :
    (Instr.bankRetry longWrite).wf = false ∧ (Instr.cloveInject longWrite).wf = false ∧
    (Instr.converterEnableWrite .feed longWrite).wf = false ∧ (Instr.voltageTargetWrite longWrite).wf = false ∧
    (Instr.coefficientWrite 0 longWrite).wf = false ∧ (Instr.coefficientBlockWrite 0 longWrite).wf = false ∧
    (Instr.saffronEnableWrite longWrite).wf = false ∧ (Instr.clearFailedWrite longWrite).wf = false ∧
    (Instr.rotationEnableWrite longWrite).wf = false ∧ (Instr.slowTickWrite longWrite).wf = false ∧
    (Instr.sweepRequest longWrite).wf = false ∧ (Instr.quietWindowWrite longWrite).wf = false ∧
    (Instr.rackCapWrite longWrite).wf = false ∧ (Instr.linkEnableWrite 0 longWrite).wf = false ∧
    (Instr.closeSessionWrite longWrite).wf = false ∧ (Instr.portEnableWrite 0 longWrite).wf = false ∧
    (Instr.modeCommand longWrite).wf = false ∧ (Instr.identityCertificateWrite longWrite).wf = false ∧
    (Instr.anchorsWrite 0 longWrite).wf = false ∧ (Instr.nonceWrite longWrite).wf = false ∧
    (Instr.commit longWrite).wf = false ∧ (Instr.prefer longWrite).wf = false ∧ (Instr.cloveKeyInstall 0 longWrite).wf = false ∧
    (Instr.legacyEnable longWrite).wf = false ∧ (Instr.legacyEntryWrite 0 longWrite).wf = false :=
  ⟨longWrite_bad, longWrite_bad, longWrite_bad, longWrite_bad, longWrite_bad, longWrite_bad, longWrite_bad, longWrite_bad,
   longWrite_bad, longWrite_bad, longWrite_bad, longWrite_bad, longWrite_bad, longWrite_bad, longWrite_bad, longWrite_bad,
   longWrite_bad, longWrite_bad, longWrite_bad, longWrite_bad, longWrite_bad, longWrite_bad, longWrite_bad, longWrite_bad,
   longWrite_bad⟩

/-! ### Figures of the spec -/

/-- R9: half goes to even. -/
theorem test_round_half_even : rheDiv 5 2 = 2 ∧ rheDiv 7 2 = 4 ∧ rheDiv (-5) 2 = -2 ∧ rheDiv (-7) 2 = -4 ∧ rheDiv 11 4 = 3 := by
  decide

/-- Worked example of spec/02: 54,400 uF at 12 V holds 1.71 J down to 9 V. -/
theorem test_hold_energy : holdEnergy 54400 12000 = 1714 := by decide

/-- Table 6-12, written out bit by bit: OP, A, D, K and S of three instructions of program 1. -/
theorem test_word_integ :
    (0b011101#6 ++ 0b011#3 ++ 0b0010#4 ++ 0b0000010001#10 ++ 0b000100000#9 : BitVec 32) = 0x75902220 ∧
    decodeWord 0x75902220 = some (.integ 3 2 0x011 0x020) ∧ encodeWord (.integ 3 2 0x011 0x020) = 0x75902220 := by decide
theorem test_word_minsel :
    decodeWord 0x78701820 = some (.minsel 0 14 0x03 0x020) ∧ encodeWord (.minsel 0 14 0x03 0x020) = 0x78701820 := by decide
theorem test_word_out : decodeWord 0x24300001 = some (.out 6 1) ∧ encodeWord (.out 6 1) = 0x24300001 := by decide

/-- The INV tables of spec/07: entry 25 stands for 562.5 V, entry 32 for 1,000 V, entries up to 24 saturate. -/
theorem test_inv_entries : invEntry 25 = 0x71C71C72 ∧ invEntry 32 = 0x40000000 ∧ invEntry 24 = 0x7FFFFFFF := by decide

/-- Worked block of spec/08: mantissa -100, activation 16,384, exponent byte 14 bring -53,687,091,200 into the accumulator. -/
theorem test_weight_block :
    bx8 [0x9C] = [-100] ∧ dotBlock (bx8 [0x9C]) [0x4000] = -1638400 ∧
    accAdd (0, 0) (dotBlock (bx8 [0x9C]) [0x4000] * (2 ^ (14 + 1) : Nat)) = (-53687091200, 0) := by decide

/-- R471: SENSE_OPEN (0x0111) is injected through 0xF411, MACE_RELEASED_SELF_DIAG (0x0A04) through 0xFD04. -/
theorem test_injection_objects :
    0xF400 + injIndex 0x0111 = 0xF411 ∧ 0xF400 + injIndex 0x0A04 = 0xFD04 ∧ injCode 0x11 = 0x0111 := by decide

/-- The legacy example of spec/20: entry 0x355 is -175,048.8 W, and 192 chips at 551,040 W come to 1,958 W and 1,047 W. -/
theorem test_legacy_limits :
    rheDiv ((551040 * 4096 : Nat) + ((0x355 : Int) - 2048) * 600000) (4096 * 192) = 1958 ∧
    rheDiv ((551040 * 4096 : Nat) + 2 * ((0x355 : Int) - 2048) * 600000) (4096 * 192) = 1047 := by decide

/-- Cells of 64 bytes (R392). -/
theorem test_cells : cellsOf 64 = 1 ∧ cellsOf 65 = 2 ∧ cellsOf 9216 = 144 := by decide

/-- Check value of the CRC-32 of IEEE 802.3, for the ASCII digits 1 to 9. -/
theorem test_crc32 : crc32 (ascii "123456789") = 0xCBF43926 := by decide

/-- A power-on reset with 12V_MAIN, HOLD and AUX absent before it is recorded and counted (Table 3-5). -/
theorem test_power_on :
    (outState (execStartCondition true State.reset) State.reset).get K.modulePowerCycleCount = 1 ∧
    (outState (execStartCondition true State.reset) State.reset).get K.moduleLastResetCause = 0x086C := by decide

/-! ### The shared claims -/

/-- O57 has commands to speak of. -/
theorem witness_ObservingLeavesThePowerControlAlone : observes .recorderFlush = true := rfl

/-- O58, with a command waiting and with none. -/
theorem witness_AStepRunsTheFrontCommand :
    { State.reset with pending := [Instr.healthSend, .chainSync] }.pending = Instr.healthSend :: [.chainSync] ∧
    State.reset.pending = [] := ⟨rfl, rfl⟩

/-- O60: sound stores. -/
theorem witness_EveryStepCompletesAndKeepsTheStoresSound : State.reset.sane := by
  unfold State.sane RecState.bounded; decide

/-! ### What the claims suppose can be met: one concrete state for each clause -/

/-- A session that holds every role. -/
def wSession : Session :=
  { id := 1, role := 7, port := 0, peer := 9, peerUdp := 5000, version := 1, msgSize := 1200, keepalive := 30, openedAt := 0
    lastSeen := 0, seenAt := 0, mask := 0, excluded := [], unsent := [], unacked := [], lost := 0, nextPush := 0, kept := []
    transfers := [], streams := [], cursor := 0, chain := [] }

/-- The module after reset with that session open, at a late local time. -/
def wHost : State :=
  { State.reset with host := { HostState.fresh with sessions := [wSession] }
                     time := { TimeSt.fresh with tb := 7000000000000 } }

/-- A write of that session. -/
def wWrite (l : List Byte) : HostWrite := { sess := 1, bytes := l }

/-- A program with a handler and a hold facility. -/
def wProg : Program :=
  { id := 3, version := 1, code := .standard, hasHandler := true, hasHold := true, mainWorst := 10, handlerWorst := 10, portsOwned := 0
    limitPorts := 0, noticeMask := 1, coef := [], state := [], coefWords := 4, stateWords := 4, hash := [], names := [] }

/-- Core 0 as given, in a module with a session. -/
def wCore (f : CoreSt → CoreSt) : State := wHost.modCore 0 f

/-- The session's module with node id 4, fabric time locked and clove key 0 loaded. -/
def wNode : State :=
  (((wHost.put K.nodeNodeId 4).modTime (fun t => { t with mode := .locked })).modClv
    (fun v => { v with keys := v.keys.set 0 (some (List.replicate 32 7)) })).put K.cloveOriginatingKeyId 0

/-- A clove of shelf 1 for node 4, its tag moved by d from the right one. -/
def wClove (action : BitVec 8) (fire : Nat) (a : BitVec 32) (b : BitVec 64) (d : BitVec 64) : Clove :=
  let c : Clove := { version := 0x10, action := action, flags := 0, keyId := 0, source := 2, dest := 4, seq := 9
                     fireFt := BitVec.ofNat 64 fire, argA := a, argB := b, tag := 0 }
  { c with tag := c.tagFor (List.replicate 32 7) + d }

/-- A clove that fires in the tick under way. -/
def wDue (action : BitVec 8) (a : BitVec 32) (b : BitVec 64) : Clove := wClove action 7000000000500 a b 0

/-- It is scheduled. -/
def wScheduled (c : Clove) : State :=
  wNode.modClv (fun v => { v with schedule := [{ clove := c, arrival := 0, onDie := true }] })

theorem wClove_tag (action : BitVec 8) (fire : Nat) (a : BitVec 32) (b : BitVec 64) (d : BitVec 64) (h : d ≠ 0) :
    (wClove action fire a b d).tag ≠ (wClove action fire a b d).tagFor (List.replicate 32 7) := by
  intro e
  apply h
  have e' : (wClove action fire a b d).tagFor (List.replicate 32 7) + d = (wClove action fire a b d).tagFor (List.replicate 32 7) := e
  bv_omega

theorem wClove_tag_ok (action : BitVec 8) (fire : Nat) (a : BitVec 32) (b : BitVec 64) :
    (wClove action fire a b 0).tag = (wClove action fire a b 0).tagFor (List.replicate 32 7) :=
  BitVec.add_zero _

/-- The same module 104 days on. -/
def wOld : State := wNode.modTime (fun t => { t with tb := 9000000000000000 })

/-- It is chain master. -/
def wMaster : State := wNode.put K.chainChainMaster 1

/-- A sweep that has been sent and that no unit has answered. -/
def wSweep : Sweep :=
  { id := 7, kind := 1, filter := 1, sample := 6000000000000, periodic := true, sent := true, marks := Vector.replicate 32 none }

def wSwept (w : Sweep) : State := wMaster.modChain (fun c => { c with sweeps := [w] })

/-- A BALANCE in flight to unit 3 from CHA. -/
def wCmd (retried : Bool) : ChainCmd := { fromA := true, type := 6, unit_ := 3, seq := 5, flags := 0, payload := [0, 1, 244, 1], retried := retried, due := 9 }

/-- A journal record. -/
def wJournal : JournalRec :=
  { atHalt := false, afterRest := true, cells := 320, seq := 41, ft := 5, hours := 2, soc := 30000, sigma := 100, lastRest := 1
    offset := 0, throughput := 9, tests := 0, caps := [], ress := [], socs := [] }

/-- A stage of one element: a feature to the output vector. -/
def wStage (op : Nat) : SafStage :=
  { op := op, flags := 0, first := 0, count := 1, d1 := 1, d2 := 2, inA := 0, inB := 0, out := 0x50000000, shift := 0, table := 0
    off1 := 0, off2 := 0, off3 := 0, worst := 9, spare := false }

/-- A fast image with that stage. -/
def wImage (op : Nat) : SafImage :=
  { hashesOk := true, version := 0x10, tier := 1, flags := 0, tiles := 1, id := 5, imageVersion := 1, nStages := 1, nFeatures := 1
    nTables := 0, nWindows := 0, worst := 9, streamBytes := 0, layout := 0, ctxBytes := 0, exchBytes := 0, resBytes := 64
    bodyBytes := 1000, bodyHash := [], spare := false
    dir := [⟨1, 0, 10⟩, ⟨2, 10, 10⟩, ⟨3, 20, 10⟩, ⟨4, 30, 10⟩, ⟨7, 40, 10⟩]
    decls := [{ mantissa := 64, exponent := 8, fastParam := 64, buffers := 0, slowParam := 0 }], stages := [wStage op]
    features := [0], outputs := List.replicate 65 0, tables := [], windows := [], contents := [], segment := [], descs := [] }

/-- A slow image with that stage. -/
def wSlowImage (op : Nat) : SafImage := { wImage op with tier := 2 }

/-- The fast image is in force in residence 0, the slow one in residence 2. -/
def wSaffron (op : Nat) : State :=
  ((wNode.modSaf (fun x => { x with res := (x.res.set 0 (some (wImage op))).set 2 (some (wSlowImage op)) })).put (K.resState 0) 3).put
    (K.resState 2) 3

/-- A slow image that passes admission. -/
def wSlowGood : SafImage :=
  { wImage 5 with tier := 2, ctxBytes := 64, dir := [⟨1, 0, 10⟩, ⟨2, 10, 10⟩, ⟨3, 20, 10⟩, ⟨7, 40, 10⟩], outputs := []
                  decls := [{ mantissa := 0, exponent := 0, fastParam := 0, buffers := 0, slowParam := 64 }]
                  stages := [{ wStage 5 with inA := 0x10000000, inB := 0x10000000, out := 0x40000000 }] }


/-- Link 0, a FABRIC link in the given state. -/
def wLink (st : Nat) (f : LinkSt → LinkSt) : State :=
  ((wNode.put (K.linkState 0) st).put (K.linkProfile 0) 3).modLink 0 f

/-- Link keys, and a link that holds them. -/
def wKeys : LinkKeys := { keyTx := [1], saltTx := [2], keyRx := [3], saltRx := [4] }

/-- The first 56 bytes of an idle flit, link sequence 5. -/
def wFlitHead : List Byte := [0x10, 0, 4, 0, 2, 0, 12, 0] ++ List.replicate 40 0 ++ [5, 0, 0, 0, 0, 1, 2, 3]

/-- The flit with the tag that the receiver's key gives it. -/
def wFlit : List Byte := wFlitHead ++ leBytes 8 (linkTag [3] [4] 5 wFlitHead).toNat

theorem wFlit_take : wFlit.take 56 = wFlitHead := rfl

theorem wFlit_length : wFlit.length = 64 := rfl

theorem leNat_leBytes (n v : Nat) : leNat (leBytes n v) = v % 256 ^ n := by
  induction n generalizing v with
  | zero => simp [leNat, leBytes, Nat.mod_one]
  | succ n ih =>
    rw [leBytes, leNat, ih, Nat.pow_succ, Nat.mul_comm (256 ^ n) 256, Nat.mod_mul, BitVec.toNat_ofNat]

theorem wFlit_tag : (BitVec.ofNat 64 (wordAt wFlit 56 8) : BitVec 64) = linkTag [3] [4] 5 wFlit := by
  have e : linkTag [3] [4] 5 wFlit = linkTag [3] [4] 5 wFlitHead := rfl
  rw [e]
  have l : wordAt wFlit 56 8 = leNat (leBytes 8 (linkTag [3] [4] 5 wFlitHead).toNat) := rfl
  rw [l, leNat_leBytes, Nat.mod_eq_of_lt (show (linkTag [3] [4] 5 wFlitHead).toNat < 256 ^ 8 from BitVec.isLt _), BitVec.ofNat_toNat,
    BitVec.setWidth_eq]

/-- Frame and flit of the receiver's link with expected sequence 5, and a later one. -/
def wGood : State := wLink 5 (fun x => { x with keys := some wKeys, rx := { x.rx with next := 5 } })
def wLate : State := wLink 5 (fun x => { x with keys := some wKeys, rx := { x.rx with next := 6 } })

theorem wFlit_low : wordAt wFlit 48 4 = 5 := rfl

theorem checkTag_old (x : LinkSt) (h : x.keys = some wKeys) (r : x.rekey.fresh = none) :
    x.checkTag wFlit = if nearest x.rx.next 5 < x.rx.next then .replay
      else if (BitVec.ofNat 64 (wordAt wFlit 56 8) : BitVec 64) = linkTag [3] [4] (nearest x.rx.next 5) wFlit
        then .good (nearest x.rx.next 5) false else .bad := by
  simp only [LinkSt.checkTag, h, r, wFlit_low, Bool.false_eq_true, if_false]
  rfl

theorem wFlit_good : (wGood.link 0).checkTag wFlit = .good 5 false := by
  have n : (wGood.link 0).rx.next = 5 := rfl
  have e : nearest 5 5 = 5 := by decide
  rw [checkTag_old _ rfl rfl, n, e, if_neg (by decide), if_pos wFlit_tag]

theorem wFlit_late : (wLate.link 0).checkTag wFlit = .replay := by
  have n : (wLate.link 0).rx.next = 6 := rfl
  have e : nearest 6 5 = 5 := by decide
  rw [checkTag_old _ rfl rfl, n, e, if_pos (by decide)]

/-- What the link reads of a frame. -/
theorem wFrame_read (a : Bool) : decodeBody (descramble 0 (((lineBits 576 (frameWord 0 wFlit a 0).toNat).drop 16).take 552)).1 =
    decodeBody (bodyBits wFlit a) := congrArg decodeBody (frameWord_read 0 wFlit a 0 wFlit_length).2

/-- An active module whose port 0 is up, and its session. -/
def wServe (f : Session → Session) : State :=
  let s := ((wNode.put (K.portLinkState 0) 1).put (K.portEnable 0) 1).put K.sessSessionLimit 8
  ({ s with md := { s.md with mode := .active } }).modSession 1 f

def wReq : ReqHdr := { sess := 1, reqId := 7, port := 0, peer := 9, udp := 5000 }

def wPush : Push := { cause := 0x1001, repeats := 0, ft := 5, recNo := some 3, args := ⟨Args.noSubject, 0⟩, seq := 7, sentAt := 0, againAt := 0 }

/-- A transfer of an object of one byte, and a stream of one object. -/
def wTransfer (write : Bool) (bytes : List Byte) (next : Nat) : Transfer :=
  { id := 3, key := K.recRepeatWindow, isWrite := write, total := 2, chunk := 500, bytes := bytes, next := next, sent := 2, lastActive := 0 }

def wStream (period : Nat) : Stream :=
  { id := 2, period := period, phase := 0, keys := [K.recRepeatWindow], sampleBytes := 2, seq := 4, sent := 1, batch := [] }

/-- An item of ten bytes in queue 5. -/
def wItem : QItem := { id := 900, length := 10, written := 10, prio := 3, stamp := 0, poison := false, abandoned := false, spilled := 1
                       started := false, data := List.replicate 10 1 }

def wQueued (f : Queue → Queue) : State := wNode.setQueue (f (Queue.empty 5))

/-- A cause that waits to be recorded. -/
def wStaged : StagedCause :=
  { cause := 0x1001, ft := 7000000000000, args := ⟨3, 4⟩, trigger := 0, flush := false, repeats := 0, lastRepeatUs := 0 }

/-- Trigger 0 matches it. -/
def wTrigger : State := ((wNode.put (K.trigTriggerEnable 0) 1).put (K.trigMatchKind 0) 0).put (K.trigMatchCause 0) 0x1001

/-- A module of a pair with a link to its partner in UP. -/
def wPair (mode : ModMode) (mace : Bool) (f : PairSt → PairSt) : State :=
  let s := (((wServe id).put (K.linkState 0) 5).put (K.linkProfile 0) 2).modPair (fun p => f { p with scrubAt := 6999000000000 })
  { s with md := { s.md with mode := mode, pins := { s.md.pins with maceOut := mace } } }

/-- Its tick record, the partner's, a mirrored write and a checkpoint. -/
def wRec : TickRec := wNode.tickRecord
def wOther : TickRec := { wRec with cloveDigest := 77 }
def wMirror : Mirror := { seq := 0, arrival := 0, effect := 5, key := K.loopOverdrawHold, value := [100, 0], sess := 0, reply := none }
def wCheckpoint : Checkpoint := wNode.checkpoint true

/-- A module that waits for its gates, all of them met but for those f undoes. -/
def wWaiting (f : ModState → ModState) : State :=
  let s := (((List.range 4).foldl (fun s n => s.modCore (Fin.ofNat 4 n) (fun c => { c with state := .running })) (wServe id)).modPair
    (fun p => { p with scrubAt := 6999000000000 })).put K.supplyHoldEnergy 2000
  let s := (((s.put (K.chanFullScale 41) 1000000).put (K.chanControlSample 41) 26214).put K.chainUnitsConfigured 0).put K.socMode 1
  { s with md := f { s.md with mode := .waiting } }

/-- The module as given, on the start described by f. -/
def wModule (f : ModState → ModState) : State := let s := wServe id; { s with md := f s.md }

/-- A partner ready to take the mace. -/
def wReady : PairSt → PairSt := fun p => { p with partner := some { wRec with flags := 14 } }

/-- A header of a firmware image signed by signer 0. -/
def wHeader : ImageHdr :=
  { magicOk := true, format := 0x10, kind := 1, product := 0x03C0, generation := 1, signer := 0, flags := 0, reservedZero := true
    counter := 9, version := 0x0200, bodyLength := 1000, bodyHash := Vector.replicate 32 5, sigOk := true }

/-- A module with one armed point and SERVICE_EN high. -/
def wArmed (p : InjPoint) : State :=
  let s := (wServe id).modPins (fun q => { q with serviceEn := true })
  { s with inj := { s.inj with points := [p] } }

/-- Carrier counts in which a fault input is asserted. -/
def wCarriers : Carriers := { feed := 10, storage := 20 }

/-- A frame with sequence number 5 from a unit of the chain, its payload the given bytes and then zeros. -/
def wFrame (type n : Nat) (l : List Byte) : ChainFrame :=
  { type := type, hop := 4, flags := 0, seq := 5, payload := l ++ List.replicate (n - l.length) 0 }

/-- A command of that type in flight to unit 3. -/
def wAsked (type : Nat) (s : State) : State := s.modChain (fun c => { c with cmds := [{ wCmd false with type := type }] })

/-- Its 512 bytes (Table 18-6). -/
def wHeaderBytes : List Byte :=
  [0x53, 0x43, 0x4D, 0x49, 0x10, 1, 0xC0, 3, 1, 0, 0, 0, 9, 0, 0, 0, 0, 2, 0, 0] ++ leBytes 8 1000 ++ List.replicate 32 5 ++
  List.replicate 452 0

theorem witness_CardamomMovesLoadTheirOperand : (wCore (fun c => { c with state := .running })).issues 0 :=
  And.intro (by decide) (by decide)

theorem witness_CardamomArithmeticRoundsAndSaturates : (wCore (fun c => { c with state := .running })).issues 0 :=
  And.intro (by decide) (by decide)

theorem witness_CardamomStoresReachPortsAndStateMemory : (wCore (fun c => { c with state := .running })).issues 0 :=
  And.intro (by decide) (by decide)

theorem witness_CardamomClampsAndIntegrates : (wCore (fun c => { c with state := .running })).issues 0 :=
  And.intro (by decide) (by decide)

theorem witness_CardamomSelectorsPassTheBestCandidate :
    (∃ (s : State) (n : Fin 4) (mask : BitVec 8) (w : Fin 8), s.issues n ∧ mask.getLsbD w = true ∧
    let c := s.core n
    (∀ i : Fin 8, mask.getLsbD i = true → c.accI w ≤ c.accI i ∧ (i < w → c.accI w < c.accI i))) ∧
    (∃ (s : State) (n : Fin 4) (mask : BitVec 8) (w : Fin 8), s.issues n ∧ mask.getLsbD w = true ∧
    let c := s.core n
    (∀ i : Fin 8, mask.getLsbD i = true → c.accI i ≤ c.accI w ∧ (i < w → c.accI i < c.accI w))) :=
  ⟨⟨wCore (fun c => { c with state := .running, bankM := { c.bankM with acc := c.bankM.acc.set 1 (-1) } }), 0, 3, 1, And.intro (by decide) (by decide), by decide, by decide⟩,
   ⟨wCore (fun c => { c with state := .running, bankM := { c.bankM with acc := c.bankM.acc.set 1 1 } }), 0, 3, 1, And.intro (by decide) (by decide), by decide, by decide⟩⟩

theorem witness_SkippedInstructionOnlyUsesUpTheSkip :
    (∃ (s : State) (n : Fin 4), (s.core n).state = .running ∧ 0 < (s.core n).skip) :=
  ⟨wCore (fun c => { c with state := .running, skip := 1 }), 0, by decide, by decide⟩

theorem witness_CardamomInstructionFrame :
    (∃ (s t : State) (n : Fin 4) (i : CInstr), exec (rowOf n i) s = .next t) ∧
    (∃ (s : State) (n : Fin 4) (i : CInstr), writesCommand i = false ∧ (s.core n).emitted = []) :=
  ⟨⟨State.reset, _, 0, .nop, rfl⟩, ⟨State.reset, 0, .out 0 2, by decide, by decide⟩⟩

theorem witness_CardamomWordRoundTrip : ∃ w i, decodeWord w = some i := ⟨0b00001000000110000001001000110100#32, .ldk 3 0x1234, by decide⟩

theorem witness_RoundingIsHalfEven : ∃ (a : Int) (d : Nat), 0 < d ∧
    (2 * (rheDiv a d * d - a) = d ∨ 2 * (rheDiv a d * d - a) = -(d : Int)) := ⟨5, 2, by decide, by decide⟩

theorem witness_HoldFacilityOpensReleasesAndCloses :
    (∃ (s : State) (n : Fin 4) (sess : Nat),
    let c := s.core n
    s.takesByte (K.coreHoldCommand n) sess 1 ∧ (∃ p, c.prog = some p ∧ p.hasHold = true) ∧ c.hold = .closed) ∧
    (∃ (s : State) (n : Fin 4) (sess : Nat),
    let c := s.core n
    s.takesByte (K.coreHoldCommand n) sess 2 ∧ c.hold = .open_) ∧
    (∃ (s : State) (n : Fin 4) (sess : Nat),
    let c := s.core n
    s.takesByte (K.coreHoldCommand n) sess 3 ∧ c.hold ≠ .closed) ∧
    (∃ (s : State) (n : Fin 4),
    let c := s.core n
    c.hold = .release ∧ (s.getN (K.coreReleaseFT n) = 0 ∨ s.getN (K.coreReleaseFT n) ≤ s.ft)) ∧
    (∃ (s : State) (n : Fin 4),
    let c := s.core n
    c.hold = .open_ ∧ c.holdOpenedAt + s.getN K.engineHoldTimeout * 1000000 < s.now) :=
  ⟨⟨wCore (fun c => { c with prog := some wProg }), 0, 1, And.intro (by decide) (by decide), ⟨wProg, by decide, by decide⟩, by decide⟩,
   ⟨wCore (fun c => { c with hold := .open_ }), 0, 1, And.intro (by decide) (by decide), by decide⟩,
   ⟨wCore (fun c => { c with hold := .release, held := [(1, 2)] }), 0, 1, And.intro (by decide) (by decide), by decide⟩,
   ⟨wCore (fun c => { c with hold := .release, held := [(1, 2)], waiting := [(1, 3)] }), 0, by decide, by decide⟩,
   ⟨wCore (fun c => { c with hold := .open_, held := [(1, 2)] }), 0, by decide, by decide⟩⟩

theorem witness_CoefficientWordsReachTheirCore :
    (∃ (s : State) (n : Fin 4) (w : HostWrite),
    let c := s.core n
    s.takes (K.coefCoefficientWord n) w ∧ c.hold ≠ .open_ ∧ c.waits = true) ∧
    (∃ (s : State) (n : Fin 4) (w : HostWrite),
    let c := s.core n
    s.takes (K.coefCoefficientWord n) w ∧ c.hold = .open_ ∧ 64 ≤ c.held.length) ∧
    (∃ (s : State) (n : Fin 4) (w : HostWrite),
    let c := s.core n
    s.takes (K.coefCoefficientWord n) w ∧ c.hold = .closed ∧ c.waits = false) ∧
    (∃ (s : State) (n : Fin 4) (w : HostWrite),
    let c := s.core n
    s.takes (K.coefCoefficientWord n) w ∧ c.hold = .open_ ∧ c.held.length < 64) ∧
    (∃ (s : State) (n : Fin 4) (w : HostWrite),
    let c := s.core n
    let a := s.getN (K.coefCoefficientAddress n)
    let ws := wordsOf w.bytes
    s.takes (K.coefCoefficientBlock n) w ∧ c.hold = .closed ∧ c.waits = false ∧ w.bytes.length % 4 = 0 ∧ ws ≠ [] ∧
    a + ws.length ≤ 1024) :=
  ⟨⟨wCore (fun c => { c with hold := .release, waiting := [(1, 2)] }), 0, wWrite [1, 0, 0, 128], And.intro (by decide) (by decide), by decide, by decide⟩,
   ⟨wCore (fun c => { c with hold := .open_, held := List.replicate 64 (1, 2) }), 0, wWrite [1, 0, 0, 128], And.intro (by decide) (by decide), by decide, by decide⟩,
   ⟨wHost.put (K.coefCoefficientAddress 0) 1023, 0, wWrite [1, 0, 0, 128], And.intro (by decide) (by decide), by decide, by decide⟩,
   ⟨wCore (fun c => { c with hold := .open_ }), 0, wWrite [1, 0, 0, 128], And.intro (by decide) (by decide), by decide, by decide⟩,
   ⟨wHost.put (K.coefCoefficientAddress 0) 1022, 0, wWrite [1, 0, 0, 128, 2, 0, 0, 0], And.intro (by decide) (by decide), by decide, by decide, by decide, by decide, by decide⟩⟩

theorem witness_CoreCommandsLoadSwapStopAndStart :
    (∃ (s : State) (n : Fin 4) (sess : Nat), s.takesByte (K.coreCommand n) sess 1) ∧
    (∃ (s : State) (n : Fin 4) (sess : Nat),
    let c := s.core n
    s.takesByte (K.coreCommand n) sess 2 ∧ c.pendState = .admitted ∧ c.hold = .closed ∧
    (s.getN (K.coreSwapFT n) = 0 ∨ s.ft ≤ s.getN (K.coreSwapFT n))) ∧
    (∃ (s : State) (n : Fin 4),
    let c := s.core n
    ∃ p, c.pendProg = some p ∧ c.swapPend = true ∧ (c.swapLate = true ∨ s.getN (K.coreSwapFT n) ≤ s.ft)) ∧
    (∃ (s : State) (n : Fin 4) (sess : Nat),
    let c := s.core n
    s.takesByte (K.coreCommand n) sess 3 ∧ c.state = .running ∧ s.convRuns .feed = false ∧ s.convRuns .storage = false) ∧
    (∃ (s : State) (n : Fin 4) (sess : Nat),
    let c := s.core n
    s.takesByte (K.coreCommand n) sess 4 ∧ c.state = .stopped ∧ c.prog.isSome = true) ∧
    (∃ (s : State) (n : Fin 4) (sess : Nat), s.takesByte (K.coreCommand n) sess 5) ∧
    (∃ (s : State) (n : Fin 4) (sess : Nat),
    let c := s.core n
    ∃ p, s.takesByte (K.coefPersist n) sess 1 ∧ c.prog = some p ∧ c.saved.length < 16) ∧
    (∃ (s : State) (n : Fin 4) (sess : Nat),
    let c := s.core n
    ∃ p, s.takesByte (K.coefPersist n) sess 2 ∧ c.prog = some p) :=
  ⟨⟨wHost, 0, 1, And.intro (by decide) (by decide)⟩,
   ⟨wCore (fun c => { c with pendState := .admitted, pendProg := some wProg }), 0, 1, And.intro (by decide) (by decide), by decide, by decide, by decide⟩,
   ⟨wCore (fun c => { c with pendProg := some wProg, swapPend := true }), 0, wProg, by decide, by decide, by decide⟩,
   ⟨wCore (fun c => { c with state := .running }), 0, 1, And.intro (by decide) (by decide), by decide, by decide, by decide⟩,
   ⟨wCore (fun c => { c with prog := some wProg }), 0, 1, And.intro (by decide) (by decide), by decide, by decide⟩,
   ⟨wCore (fun c => { c with pendProg := some wProg }), 0, 1, And.intro (by decide) (by decide)⟩,
   ⟨wCore (fun c => { c with prog := some wProg, coef := [(2, 7)] }), 0, 1, wProg, And.intro (by decide) (by decide), by decide, by decide⟩,
   ⟨wCore (fun c => { c with prog := some wProg, saved := [(3, [])] }), 0, 1, wProg, And.intro (by decide) (by decide), by decide⟩⟩

theorem witness_NoticesReachTheCoresThatListen :
    (∃ (s : State) (n : Fin 4) (tray : Fin 24),
    let c := s.core n
    ∃ p, c.maskInForce.getLsbD tray = true ∧ c.state = .running ∧ c.prog = some p ∧ p.hasHandler = true ∧
    c.notice = none) ∧
    (∃ (s : State) (n : Fin 4) (tray : Fin 24),
    let c := s.core n
    ∃ p,
    ∃ r, c.maskInForce.getLsbD tray = true ∧ c.state = .running ∧ c.prog = some p ∧ p.hasHandler = true ∧
    c.notice = some r) ∧
    (∃ (s : State) (n : Fin 4) (tray : Fin 24),
    let c := s.core n
    c.maskInForce.getLsbD tray = false) ∧
    (∃ (s : State) (n : Fin 4),
    let c := s.core n
    ∃ p,
    ∃ r, c.state = .running ∧ c.prog = some p ∧ c.notice = some r) :=
  ⟨⟨wCore (fun c => { c with state := .running, prog := some wProg, maskInForce := 1 }), 0, 0, wProg, by decide, by decide, by decide, by decide, by decide⟩,
   ⟨wCore (fun c => { c with state := .running, prog := some wProg, maskInForce := 0x800000, notice := some ({ count := 2, step := 2147483000, stamp := 5, trays := 2 } : NoticeRec) }), 0, 23, wProg, ({ count := 2, step := 2147483000, stamp := 5, trays := 2 } : NoticeRec), by decide, by decide, by decide, by decide, by decide⟩,
   ⟨wCore (fun c => { c with state := .running, prog := some wProg, maskInForce := 1 }), 0, 1, by decide⟩,
   ⟨wCore (fun c => { c with state := .running, prog := some wProg, notice := some ({ count := 2, step := 2147483000, stamp := 5, trays := 2 } : NoticeRec) }), 0, wProg, ({ count := 2, step := 2147483000, stamp := 5, trays := 2 } : NoticeRec), by decide, by decide, by decide⟩⟩

theorem witness_CoreFaultsAbortTheEvaluation :
    (∃ (s : State) (n : Fin 4), (s.core n).state = .running) :=
  ⟨wCore (fun c => { c with state := .running, unpublished := [(3, 1)], ports := [(3, 2)] }), 0, by decide⟩

theorem witness_CarrierBoundariesMoveThePhases :
    (∃ (s : State) (c : Conv), (s.conv c).stopPend = true) ∧
    (∃ (s : State) (c : Conv), (s.conv c).stopPend = false ∧ s.getN (K.convDither c.idx) = 0) ∧
    (∃ (s : State) (c : Conv) (p : Fin 20), p ∈ phasesOf c) :=
  ⟨⟨wHost.modConv .feed (fun x => { x with on := true, stopPend := true }), .feed, by decide⟩,
   ⟨(wHost.modConv .feed (fun x => { x with on := true })).put (K.convDither 0) 0, .feed, by decide, by decide⟩,
   ⟨(wHost.modConv .feed (fun x => { x with on := true })).modPhase 7 (fun x => { x with state := .starting, switching := true, limitedNow := true }), .feed, 7, by decide⟩⟩

theorem witness_PhasesHiccupRetryAndRejoin :
    (∃ (s : State) (p : Fin 20),
    let x := s.phase p
    let c := convOf p
    (x.state = .run ∨ x.state = .starting) ∧ s.getN (K.convLimitedPeriodsToHiccup c.idx) ≤ x.limitedRun) ∧
    (∃ (s : State) (p : Fin 20),
    let x := s.phase p
    let c := convOf p
    x.state = .hiccup ∧ x.since + s.getN (K.convHiccupOffTime c.idx) * 1000000 ≤ s.now ∧ (s.conv c).on = true) ∧
    (∃ (s : State) (p : Fin 20),
    let x := s.phase p
    let c := convOf p
    (x.state = .run ∨ x.state = .starting) ∧ x.switching = true ∧ x.retry = true ∧ x.rejoin = false ∧
    x.since + s.getN (K.convRetryClearTime c.idx) * 1000000 ≤ s.now) ∧
    (∃ (s : State) (p : Fin 20),
    let x := s.phase p
    3 ≤ x.tempRun ∧ x.inService = true ∧ x.state ≠ .latched ∧ x.state ≠ .tempStop ∧ x.pend ≠ .tempStop) ∧
    (∃ (s : State) (p : Fin 20),
    let x := s.phase p
    x.state = .tempStop ∧ s.phaseTemp p ≤ s.get (K.phaseTemperatureRestart p)) ∧
    (∃ (s : State) (p : Fin 20),
    let x := s.phase p
    let c := convOf p
    x.rejoin = true ∧ x.state = .starting ∧ x.switching = true ∧
    x.since + s.getN (K.convBlendTime c.idx) * 1000000 ≤ s.now) :=
  ⟨⟨wHost.modPhase 8 (fun x => { x with state := .run, limitedRun := 100000 }), 8, by decide, by decide⟩,
   ⟨(wHost.modConv .storage (fun x => { x with on := true })).modPhase 8 (fun x => { x with state := .hiccup }), 8, by decide, by decide, by decide⟩,
   ⟨(wHost.modConv .storage (fun x => { x with on := true })).modPhase 8 (fun x => { x with state := .starting, switching := true, retry := true }), 8, by decide, by decide, by decide, by decide, by decide⟩,
   ⟨wHost.modPhase 8 (fun x => { x with state := .run, switching := true, tempRun := 3 }), 8, by decide, by decide, by decide, by decide, by decide⟩,
   ⟨(wHost.modConv .storage (fun x => { x with on := true })).modPhase 8 (fun x => { x with state := .tempStop }), 8, by decide, by decide⟩,
   ⟨(wHost.modConv .storage (fun x => { x with on := true })).modPhase 8 (fun x => { x with state := .starting, switching := true, rejoin := true }), 8, by decide, by decide, by decide, by decide⟩⟩

theorem witness_PhaseServiceCommandsAct :
    (∃ (s : State) (p : Fin 20) (sess : Nat),
    let x := s.phase p
    s.takesByte (K.phaseServiceCommand p) sess 1 ∧ x.state ≠ .latched) ∧
    (∃ (s : State) (p : Fin 20) (sess : Nat), s.takesByte (K.phaseServiceCommand p) sess 2 ∧ s.bringBackBlocked p = 0) ∧
    (∃ (s : State) (p : Fin 20) (sess : Nat),
    let x := s.phase p
    s.takesByte (K.phaseServiceCommand p) sess 3 ∧ x.state = .latched) :=
  ⟨⟨(wHost.modConv .storage (fun x => { x with on := true })).modPhase 8 (fun x => { x with state := .run, switching := true }), 8, 1, And.intro (by decide) (by decide), by decide⟩,
   ⟨wHost.modPhase 8 (fun x => { x with inService := false }), 8, 1, And.intro (by decide) (by decide), by decide⟩,
   ⟨wHost.modPhase 8 (fun x => { x with state := .latched }), 8, 1, And.intro (by decide) (by decide), by decide⟩⟩

theorem witness_ConvertersTripOnShortCircuitAndOverload :
    (∃ (s : State) (c : Conv),
    ∃ k, s.shortChan c = some k ∧ (s.conv c).on = true ∧
    s.get (K.convShortCircuitThreshold c.idx) ≤ (s.milli k (s.get (K.chanProtectionSample k))).natAbs) :=
  ⟨(wHost.modConv .storage (fun x => { x with on := true })).put (K.chanProtectionSample 43) (-32768), .storage, 43, by decide, by decide, by decide⟩

theorem witness_ProtectionSamplesFollowR124AndTripTheBus :
    (∃ (s : State), s.pow.ovWaiting = true ∧ 10000 ≤ s.pow.busLow ∧ s.get K.busOverVoltageLatch = 0) :=
  ⟨wHost.modPow (fun w => { w with ovWaiting := true, busLow := 10000 }), by decide, by decide, by decide⟩

theorem witness_BusAndFeedLimitsAreReported :
    (∃ (s : State), s.pow.uvInForce = false ∧ 100 ≤ s.pow.uvLow) ∧
    (∃ (s : State), s.pow.uvInForce = true ∧ 100 ≤ s.pow.uvHigh) ∧
    (∃ (s : State), (s.conv .feed).on = true ∧ ((s.conv .feed).stopRule = none ∨ (s.conv .feed).stopRule = some .trip) ∧
    1000 ≤ s.pow.feedLow) ∧
    (∃ (s : State), (s.conv .feed).on = true ∧ ((s.conv .feed).stopRule = none ∨ (s.conv .feed).stopRule = some .trip) ∧
    100 ≤ s.pow.feedHigh) ∧
    (∃ (s : State), s.getN K.feedFeedRestartDelay * 1000 ≤ s.pow.feedOk ∧ s.mayStart .feed = true ∧
    ((s.conv .feed).stopRule = some .feed ∨ (s.conv .feed).waitFeed = true)) ∧
    (∃ (s : State) (sess : Nat), s.takesByte K.busOverVoltageLatch sess 1) :=
  ⟨⟨wHost.modPow (fun w => { w with uvLow := 100 }), by decide, by decide⟩,
   ⟨wHost.modPow (fun w => { w with uvInForce := true, uvHigh := 100 }), by decide, by decide⟩,
   ⟨wHost.modPow (fun w => { w with feed := { w.feed with on := true }, feedLow := 1000 }), by decide, by decide, by decide⟩,
   ⟨wHost.modPow (fun w => { w with feed := { w.feed with on := true }, feedHigh := 100 }), by decide, by decide, by decide⟩,
   ⟨wHost.modPow (fun w => { w with feed := { w.feed with stopRule := some .feed }, feedOk := 100000000 }), by decide, by decide, by decide⟩,
   ⟨wHost.put K.busOverVoltageLatch 1, 1, And.intro (by decide) (by decide)⟩⟩

theorem witness_SenseChannelsOpenAndRecover :
    (∃ (s : State) (c : Fin 48), s.getN (K.chanFunction c) ≠ 0 ∧ (s.chan c).open_ = false ∧ 128 ≤ (s.chan c).run) ∧
    (∃ (s : State) (c : Fin 48), (s.chan c).open_ = true ∧ (s.chan c).run < 128 ∧ (s.chan c).runAt + 10000000 ≤ s.now) :=
  ⟨⟨((wHost.put (K.chanFunction 47) 3).put (K.chanRedundantPartner 47) 0).modChan 47 (fun x => { x with run := 128 }), 47, by decide, by decide, by decide⟩,
   ⟨wHost.modChan 0 (fun x => { x with open_ := true }), 0, by decide, by decide, by decide⟩⟩

theorem witness_ConvertersStartAndTakeTheirCommands :
    (∃ (s : State), s.mayStart .feed = true ∧ s.feedInWindow = true ∧
    ((s.conv .feed).waitFeed = false ∨ s.getN K.feedFeedRestartDelay * 1000 ≤ s.pow.feedOk)) ∧
    (∃ (s : State), s.mayStart .storage = true ∧ 760000 ≤ s.busMilli) ∧
    (∃ (s : State) (w : HostWrite) (c : Conv), s.takes (K.convEnable c.idx) w ∧ w.bytes = [0]) ∧
    (∃ (s : State) (w : HostWrite) (c : Conv), s.takes (K.convEnable c.idx) w ∧ w.bytes = [1]) ∧
    (∃ (s : State) (w : HostWrite), s.takes K.busVoltageTarget w) :=
  ⟨⟨(wHost.modPins (fun p => { p with maceOut := true })).put (K.chanControlSample 41) 25000, by decide, by decide, by decide⟩,
   ⟨(wHost.modPins (fun p => { p with maceOut := true })).put (K.chanControlSample 40) 26000, by decide, by decide⟩,
   ⟨wHost.modConv .feed (fun x => { x with on := true }), wWrite [0], .feed, And.intro (by decide) (by decide), by decide⟩,
   ⟨wHost, wWrite [1], .storage, And.intro (by decide) (by decide), by decide⟩,
   ⟨wHost, wWrite (leBytes 4 800000), And.intro (by decide) (by decide)⟩⟩

theorem witness_BurstAndSharingMoveThePhases :
    (∃ (s : State) (c : Conv) (p : Fin 20), p ∈ phasesOf c ∧
    let x := s.conv c
    let due := match c with
      | .storage => 100 ≤ x.burstRun
      | .feed => s.pow.feedAvg < s.get (K.convBurstEntry 0) ∧ (s.conv .storage).burst = true
    x.on = true ∧ x.burst = false ∧ x.soft = none ∧ s.get (K.convBurstEnable c.idx) ≠ 0 ∧ due ∧
    (∀ q ∈ s.inService c, (s.phase q).limitedNow = false) ∧ (∀ a, x.limitedAt = some a → a + 100000 ≤ s.now)) ∧
    (∃ (s : State) (c : Conv) (p : Fin 20), p ∈ phasesOf c ∧
    let x := s.conv c
    x.burst = true ∧ s.burstOver c = true) ∧
    (∃ (s : State) (c : Conv) (p : Fin 20), p ∈ phasesOf c ∧
    let x := s.conv c
    x.burst = true ∧ s.burstOver c = true ∧ (s.phase p).state = .burstIdle) ∧
    (∃ (s : State) (c : Conv) (p : Fin 20), p ∈ phasesOf c ∧ (s.conv .feed).burst = true ∧ (s.conv .feed).packet = none ∧
    s.busMilli < s.get K.busReferenceInForce - s.get (K.convBurstBand 0)) ∧
    (∃ (s : State) (c : Conv) (p : Fin 20), p ∈ phasesOf c ∧
    let run := (phasesOf c).filter (fun q => decide ((s.phase q).state = .run))
    (s.phase p).state = .run) ∧
    (∃ (s : State) (c : Conv) (p : Fin 20), p ∈ phasesOf c ∧
    ∃ a, (s.phase p).limitSince = some a ∧ a + 1000000000 ≤ s.now ∧ (s.phase p).trimLimited = false) :=
  ⟨⟨((wHost.modConv .storage (fun x => { x with on := true, burstRun := 100 })).put (K.convBurstEnable 1) 1).modPhase 8 (fun x => { x with state := .run }), .storage, 8, by decide, by decide, by decide, by decide, by decide, by decide, by decide, by decide⟩,
   ⟨wHost.modConv .storage (fun x => { x with burst := true }), .storage, 19, by decide, by decide, by decide⟩,
   ⟨(wHost.modConv .storage (fun x => { x with burst := true })).modPhase 19 (fun x => { x with state := .burstIdle }), .storage, 19, by decide, by decide, by decide, by decide⟩,
   ⟨(wHost.modConv .feed (fun x => { x with burst := true })).put K.busReferenceInForce 800000, .feed, 0, by decide, by decide, by decide, by decide⟩,
   ⟨(wHost.modPhase 0 (fun x => { x with state := .run })).put (K.chanControlSample 3) 500, .feed, 0, by decide, by decide⟩,
   ⟨(wHost.put (K.phaseTrim 7) (wHost.get (K.convShareTrimLimit 0))).modPhase 7 (fun x => { x with limitSince := some 5 }), .feed, 7, by decide, 5, by decide, by decide, by decide⟩⟩

theorem wFull (l : List SchedClove) (h : 65536 ≤ l.length) (s : State) :
    65536 ≤ (s.modClv (fun v => { v with schedule := l })).cloveOccupancy := Nat.le_trans h (Nat.le_add_right _ _)

theorem witness_ClovesAreTestedInTheOrderOfR106 :
    (∃ (s : State) (c : Clove), s.addressed c = false ∧ s.ownLedger c = false) ∧
    (∃ (s : State) (c : Clove), s.addressed c = true ∧ c.version.toNat / 16 ≠ 1) ∧
    (∃ (s : State) (c : Clove), s.addressed c = true ∧ c.version.toNat / 16 = 1 ∧ s.clv.keys[c.key] = none) ∧
    (∃ (s : State) (c : Clove), s.addressed c = true ∧
    ∃ key, c.version.toNat / 16 = 1 ∧ s.clv.keys[c.key] = some key ∧ c.tag ≠ c.tagFor key) ∧
    (∃ (s : State) (c : Clove), s.addressed c = true ∧
    ∃ key, c.version.toNat / 16 = 1 ∧ s.clv.keys[c.key] = some key ∧ c.tag = c.tagFor key ∧ s.duplicate c = true) ∧
    (∃ (s : State) (c : Clove),
    let timed := s.time.mode = .locked ∨ s.time.mode = .holdover
    s.addressed c = true ∧
    ∃ key, c.version.toNat / 16 = 1 ∧ s.clv.keys[c.key] = some key ∧ c.tag = c.tagFor key ∧ s.duplicate c = false ∧
    ¬timed) ∧
    (∃ (s : State) (c : Clove),
    let timed := s.time.mode = .locked ∨ s.time.mode = .holdover
    s.addressed c = true ∧
    ∃ key, c.version.toNat / 16 = 1 ∧ s.clv.keys[c.key] = some key ∧ c.tag = c.tagFor key ∧ s.duplicate c = false ∧
    timed ∧ c.argsReserved = true) ∧
    (∃ (s : State) (c : Clove) (a : Nat),
    let timed := s.time.mode = .locked ∨ s.time.mode = .holdover
    s.addressed c = true ∧
    ∃ key, c.version.toNat / 16 = 1 ∧ s.clv.keys[c.key] = some key ∧ c.tag = c.tagFor key ∧ s.duplicate c = false ∧
    timed ∧ c.argsReserved = false ∧ c.fireFt.toNat < a + 200 ∧
    (c.firesLate = false ∨ c.fireFt.toNat + s.getN K.cloveLateLimit < a)) ∧
    (∃ (s : State) (c : Clove) (a : Nat),
    let timed := s.time.mode = .locked ∨ s.time.mode = .holdover
    s.addressed c = true ∧
    ∃ key, c.version.toNat / 16 = 1 ∧ s.clv.keys[c.key] = some key ∧ c.tag = c.tagFor key ∧ s.duplicate c = false ∧
    timed ∧ c.argsReserved = false ∧ a + 200 ≤ c.fireFt.toNat ∧ c.action.toNat ≠ 9 ∧
    s.getN K.cloveHorizon * 1000000 < c.fireFt.toNat - a) ∧
    (∃ (s : State) (c : Clove) (a : Nat),
    let timed := s.time.mode = .locked ∨ s.time.mode = .holdover
    s.addressed c = true ∧
    ∃ key, c.version.toNat / 16 = 1 ∧ s.clv.keys[c.key] = some key ∧ c.tag = c.tagFor key ∧ s.duplicate c = false ∧
    timed ∧ c.argsReserved = false ∧ a + 200 ≤ c.fireFt.toNat ∧ c.action.toNat ≠ 9 ∧
    c.fireFt.toNat - a ≤ s.getN K.cloveHorizon * 1000000 ∧ 65536 ≤ s.cloveOccupancy) :=
  ⟨⟨wHost, wClove 1 7000000001000 3 5 0, by decide, by decide⟩,
   ⟨wNode, { wDue 1 3 5 with version := 0x20 }, by decide, by decide⟩,
   ⟨wNode, { wDue 1 3 5 with keyId := 1 }, by decide, by decide, by decide⟩,
   ⟨wNode, wClove 1 7000000001000 3 5 1, by decide, List.replicate 32 7, by decide, by decide, wClove_tag _ _ _ _ _ (by decide)⟩,
   ⟨wNode.modClv (fun v => { v with windows := [{ shelf := 1, key := 0, high := 5000, seen := 0 }] }), wClove 1 7000000001000 3 5 0, by decide, List.replicate 32 7, by decide, by decide, wClove_tag_ok _ _ _ _, by decide⟩,
   ⟨wNode.modTime (fun t => { t with mode := .degraded }), wClove 1 7000000001000 3 5 0, by decide, List.replicate 32 7, by decide, by decide, wClove_tag_ok _ _ _ _, by decide, by decide⟩,
   ⟨wNode, wClove 1 7000000001000 16 5 0, by decide, List.replicate 32 7, by decide, by decide, wClove_tag_ok _ _ _ _, by decide, by decide, by decide⟩,
   ⟨wNode, wClove 4 7000000000100 3 5 0, 7000000000000, by decide, List.replicate 32 7, by decide, by decide, wClove_tag_ok _ _ _ _, by decide, by decide, by decide, by decide, by decide⟩,
   ⟨wNode, wClove 1 17000000000000 3 5 0, 7000000000000, by decide, List.replicate 32 7, by decide, by decide, wClove_tag_ok _ _ _ _, by decide, by decide, by decide, by decide, by decide, by decide⟩,
   ⟨wNode.modClv (fun v => { v with schedule := List.replicate 65536 { clove := wDue 2 0 0, arrival := 0, onDie := false } }), wClove 1 7000000001000 3 5 0, 7000000000000, by decide, List.replicate 32 7, by decide, by decide, wClove_tag_ok _ _ _ _, by decide, by decide, by decide, by decide, by decide, by decide, wFull _ (Nat.le_of_eq List.length_replicate.symm) _⟩⟩

theorem wPlaced : wNode.cloveTest (wClove 1 7000000001000 3 5 0) 7000000000000 = .place := by
  have h : (wClove 1 7000000001000 3 5 0).tag = (wClove 1 7000000001000 3 5 0).tagFor (List.replicate 32 7) :=
    wClove_tag_ok _ _ _ _
  have k : wNode.clv.keys[(wClove 1 7000000001000 3 5 0).key] = some (List.replicate 32 7) := by decide
  unfold State.cloveTest
  simp only [k]
  rw [if_neg (by decide), if_neg (by decide), if_neg (fun n => n h)]
  decide

theorem wCancelled : (wScheduled (wDue 1 3 5)).cloveTest (wClove 9 7000000000500 9 0 0) 7000000000000 = .cancel := by
  have h : (wClove 9 7000000000500 9 0 0).tag = (wClove 9 7000000000500 9 0 0).tagFor (List.replicate 32 7) :=
    wClove_tag_ok _ _ _ _
  have k : (wScheduled (wDue 1 3 5)).clv.keys[(wClove 9 7000000000500 9 0 0).key] = some (List.replicate 32 7) := by decide
  unfold State.cloveTest
  simp only [k]
  rw [if_neg (by decide), if_neg (by decide), if_neg (fun n => n h)]
  decide

theorem witness_ClovesArePlacedScheduledAndCancelled :
    (∃ (s : State) (c : Clove) (a : Nat), s.cloveTest c a = .place ∧ (s.queue 32).waiting = none ∧
    1 ≤ s.dieRoom (s.queue 32)) ∧
    (∃ (s : State) (c : Clove),
    ∃ i, (s.readable (s.queue 32) (fun _ => false) = some i) ∧ i.poison = false ∧ Clove.ofBytes i.data = some c ∧
    s.ft < c.fireFt.toNat ∧ s.clv.schedule.length < 65536) ∧
    (∃ (s : State) (c : Clove),
    ∃ i, (s.readable (s.queue 32) (fun _ => false) = some i) ∧ i.poison = false ∧ Clove.ofBytes i.data = some c ∧
    c.fireFt.toNat ≤ s.ft) ∧
    (∃ (s : State) (c : Clove) (a : Nat),
    ∃ e, s.cloveTest c a = .cancel ∧ s.scheduled? { shelf := c.shelf, key := c.key, seq := c.argA.toNat } = some e ∧
    e.clove.fireFt = c.fireFt) ∧
    (∃ (s : State) (w : HostWrite), s.takes K.cloveCloveInject w ∧ s.canOriginate = true) :=
  ⟨⟨wNode, wClove 1 7000000001000 3 5 0, 7000000000000, wPlaced, by decide, by decide⟩,
   ⟨wNode.setQueue { q := 32, items := [{ id := 5, length := 40, written := 40, prio := 6, stamp := 0, poison := false, abandoned := false, spilled := 0, started := false, data := [0x10, 2, 0, 0, 2, 0, 4, 0, 9, 0, 0, 0, 0, 0, 0, 0, 0, 0, 0, 1, 0, 0, 0, 0, 0, 0, 0, 0, 0, 0, 0, 0, 1, 0, 0, 0, 0, 0, 0, 0] }], high := false, waiting := none, dropRecordedAt := none }, { version := 0x10, action := 2, flags := 0, keyId := 0, source := 2, dest := 4, seq := 9, fireFt := 0x0100000000000000, argA := 0, argB := 0, tag := 1 }, ({ id := 5, length := 40, written := 40, prio := 6, stamp := 0, poison := false, abandoned := false, spilled := 0, started := false, data := [0x10, 2, 0, 0, 2, 0, 4, 0, 9, 0, 0, 0, 0, 0, 0, 0, 0, 0, 0, 1, 0, 0, 0, 0, 0, 0, 0, 0, 0, 0, 0, 0, 1, 0, 0, 0, 0, 0, 0, 0] } : QItem), by decide, by decide, by decide, by decide, by decide⟩,
   ⟨wNode.setQueue { q := 32, items := [{ id := 5, length := 40, written := 40, prio := 6, stamp := 0, poison := false, abandoned := false, spilled := 0, started := false, data := [0x10, 2, 0, 0, 2, 0, 4, 0, 9, 0, 0, 0, 0, 0, 0, 0, 0, 0, 0, 0, 0, 0, 0, 0, 0, 0, 0, 0, 0, 0, 0, 0, 1, 0, 0, 0, 0, 0, 0, 0] }], high := false, waiting := none, dropRecordedAt := none }, { version := 0x10, action := 2, flags := 0, keyId := 0, source := 2, dest := 4, seq := 9, fireFt := 0, argA := 0, argB := 0, tag := 1 }, ({ id := 5, length := 40, written := 40, prio := 6, stamp := 0, poison := false, abandoned := false, spilled := 0, started := false, data := [0x10, 2, 0, 0, 2, 0, 4, 0, 9, 0, 0, 0, 0, 0, 0, 0, 0, 0, 0, 0, 0, 0, 0, 0, 0, 0, 0, 0, 0, 0, 0, 0, 1, 0, 0, 0, 0, 0, 0, 0] } : QItem), by decide, by decide, by decide, by decide⟩,
   ⟨wScheduled (wDue 1 3 5), wClove 9 7000000000500 9 0 0, 7000000000000, ({ clove := wDue 1 3 5, arrival := 0, onDie := true } : SchedClove), wCancelled, rfl, by decide⟩,
   ⟨wNode.modMd (fun m => { m with mode := .active }), wWrite ([1, 0, 4, 0] ++ List.replicate 8 1 ++ [3, 0, 0, 0] ++ List.replicate 8 0 ++ List.replicate 8 0), And.intro (by decide) (by decide), by decide⟩⟩

theorem witness_ClovesActWhenTheyFire :
    (∃ (s : State) (r : CloveRef) (c : Clove), s.fires r 1 c) ∧
    (∃ (s : State) (r : CloveRef) (c : Clove), s.fires r 2 c) ∧
    (∃ (s : State) (r : CloveRef) (c : Clove), s.fires r 3 c) ∧
    (∃ (s : State) (r : CloveRef) (c : Clove), s.fires r 4 c) ∧
    (∃ (s : State) (r : CloveRef) (c : Clove), s.fires r 7 c) ∧
    (∃ (s : State) (r : CloveRef) (c : Clove), s.fires r 8 c) :=
  ⟨⟨wScheduled (wDue 1 0 840000), ⟨1, 0, 9⟩, wDue 1 0 840000, Exists.intro _ (And.intro rfl (And.intro rfl (And.intro rfl (And.intro (by decide) (by decide)))))⟩,
   ⟨wScheduled (wDue 2 3 5), ⟨1, 0, 9⟩, wDue 2 3 5, Exists.intro _ (And.intro rfl (And.intro rfl (And.intro rfl (And.intro (by decide) (by decide)))))⟩,
   ⟨(wScheduled (wDue 3 7 0xFFFF)).put (K.groupCampusGroupId 63) 7, ⟨1, 0, 9⟩, wDue 3 7 0xFFFF, Exists.intro _ (And.intro rfl (And.intro rfl (And.intro rfl (And.intro (by decide) (by decide)))))⟩,
   ⟨wScheduled (wDue 4 3 5), ⟨1, 0, 9⟩, wDue 4 3 5, Exists.intro _ (And.intro rfl (And.intro rfl (And.intro rfl (And.intro (by decide) (by decide)))))⟩,
   ⟨wScheduled (wDue 7 255 5), ⟨1, 0, 9⟩, wDue 7 255 5, Exists.intro _ (And.intro rfl (And.intro rfl (And.intro rfl (And.intro (by decide) (by decide)))))⟩,
   ⟨wScheduled (wDue 8 3 5), ⟨1, 0, 9⟩, wDue 8 3 5, Exists.intro _ (And.intro rfl (And.intro rfl (And.intro rfl (And.intro (by decide) (by decide)))))⟩⟩

theorem witness_LoansAndMarksComeAndGo :
    (∃ (s : State) (r : CloveRef) (c : Clove),
    let u := s.turnOf r
    let loans := u.rack.loans.filter (fun l => decide (c.fireFt.toNat < l.ret))
    s.fires r 5 c ∧ loans.length < 64) ∧
    (∃ (s : State) (r : CloveRef) (c : Clove),
    let u := s.turnOf r
    let loans := u.rack.loans.filter (fun l => decide (c.fireFt.toNat < l.ret))
    ∃ l, l ∈ loans ∧ s.fires r 6 c ∧
    (if c.shelf = u.shelfId then l.lent = false ∧ l.peer = c.destShelf else l.lent = true ∧ l.peer = c.shelf) ∧
    (l.up = true ↔ c.argA.getLsbD 31 = false) ∧ l.slice = c.argA.toNat % 2 ^ 31) :=
  ⟨⟨wScheduled (wDue 5 0x80000003 5), ⟨1, 0, 9⟩, wDue 5 0x80000003 5, Exists.intro _ (And.intro rfl (And.intro rfl (And.intro rfl (And.intro (by decide) (by decide))))), by decide⟩,
   ⟨(wScheduled { wDue 6 3 0 with source := 4, dest := 0x4005 }).modRack (fun k => { k with loans := [({ peer := 5, lent := false, up := true, slice := 3, start := 0, ret := 8000000000000, seq := 1 } : Loan)] }), ⟨2, 0, 9⟩, { wDue 6 3 0 with source := 4, dest := 0x4005 }, ({ peer := 5, lent := false, up := true, slice := 3, start := 0, ret := 8000000000000, seq := 1 } : Loan), by decide, Exists.intro _ (And.intro rfl (And.intro rfl (And.intro rfl (And.intro (by decide) (by decide))))), by decide, by decide, by decide⟩⟩

theorem witness_TimeSpreadsOverTheTree :
    (∃ (s : State) (link : Fin 32) (o : Offer), 2 ≤ s.profile link ∧ versionOk o.version = true) ∧
    (∃ (s : State) (l : Nat), s.time.upstream = some l ∧ s.linkUp l = false) ∧
    (∃ (s : State), s.time.mode = .invalid ∧ s.mayMaster = true ∧ s.ownQuality = 4 ∧ s.time.offers = [] ∧
    s.time.noOfferSince + 10000000000 ≤ s.now) ∧
    (∃ (s : State), s.time.mode = .holdover ∧ s.time.lostAt + 4961 * 1000000 ≤ s.ft) ∧
    (∃ (s : State), s.time.mode = .holdover ∧ s.ft < s.time.lostAt + 4959 * 1000000) ∧
    (∃ (s : State), s.ppsInUse = true) ∧
    (∃ (s : State), s.time.ptp.locked = true) :=
  ⟨⟨wHost.put (K.linkProfile 3) 2, 3, { version := 0x10, quality := 3, priority := 5, master := 8, steps := 0, tai := false }, by decide, by decide⟩,
   ⟨wHost.modTime (fun t => { t with mode := .locked, upstream := some 3, offers := [{ link := 3, neighbour := 9, offer := { version := 0x10, quality := 3, priority := 5, master := 8, steps := 0, tai := false }, stamp := 0 }] }), 3, by decide, by decide⟩,
   ⟨wHost.put K.nodeNodeId 4, by decide, by decide, by decide, by decide, by decide⟩,
   ⟨wHost.modTime (fun t => { t with mode := .holdover, lostAt := 6995039000000 }), by decide, by decide⟩,
   ⟨wHost.modTime (fun t => { t with mode := .holdover, lostAt := 6995041000001 }), by decide, by decide⟩,
   ⟨(wHost.put K.ptpPPSSource 1).modTime (fun t => { t with mode := .locked, isMaster := true, ptp := { t.ptp with locked := true, ppsPresent := true, ppsAt := 7000000000000 } }), by decide⟩,
   ⟨wHost.modTime (fun t => { t with mode := .locked, isMaster := true, ptp := { t.ptp with locked := true } }), by decide⟩⟩

theorem witness_TimeIsTransferredOverLinks :
    (∃ (s : State), s.time.mode ≠ .invalid) ∧
    (∃ (s : State) (link : Fin 32), s.time.upstream = some link.val) ∧
    (∃ (s : State) (link : Fin 32) (t2 : Nat), s.time.upstream = some link.val ∧ s.time.needEpoch = false ∧ t2 ≠ 0) ∧
    (∃ (s : State) (link : Fin 32) (t2 : Nat), s.time.upstream = some link.val ∧
    ∃ r, s.time.request = some r ∧ r.link = link.val ∧ s.time.t2 ≠ 0) ∧
    (∃ (s : State), s.time.mode ≠ .invalid) :=
  ⟨⟨(wNode.put (K.linkState 31) 5).put (K.linkState 0) 5, by decide⟩,
   ⟨wNode.modTime (fun t => { t with upstream := some 31 }), 31, by decide⟩,
   ⟨wNode.modTime (fun t => { t with upstream := some 31, mode := .acquiring, syncRun := 63, means := [0] }), 31, 131072, by decide, by decide, by decide⟩,
   ⟨wNode.modTime (fun t => { t with upstream := some 31, t2 := 4, request := some { link := 31, departure := 5 } }), 31, 131072, by decide, ({ link := 31, departure := 5 } : DelayReq), by decide, by decide, by decide⟩,
   ⟨wNode, by decide⟩⟩

theorem witness_PtpAndPpsDisciplineTheModule :
    (∃ (s : State) (port : Fin 2) (domain : Nat), (s.getN K.ptpPTPPorts).testBit port.val = true ∧
    s.getN K.ptpPTPDomain = domain) ∧
    (∃ (s : State) (port : Fin 2) (domain : Nat) (p2p : Bool), (s.getN K.ptpPTPPorts).testBit port.val = true ∧
    s.getN K.ptpPTPDomain = domain ∧ s.ptpBest = some port.val ∧ p2p = s.ptpP2p) ∧
    (∃ (s : State) (port : Fin 2) (domain : Nat), (s.getN K.ptpPTPPorts).testBit port.val = true ∧
    s.getN K.ptpPTPDomain = domain ∧ s.time.ptp.locked = true ∧ s.time.ptp.port = port.val) ∧
    (∃ (s : State), s.getB K.ptpPPSSource = true) ∧
    (∃ (s : State) (b : Nat), s.time.ptp.ppsBad = some b ∧ b + 3000000000 ≤ s.now ∧ s.time.ptp.ppsDropped = false) :=
  ⟨⟨wNode.put K.ptpPTPPorts 2, 1, 0, by decide, by decide⟩,
   ⟨(wNode.put K.ptpPTPPorts 2).modTime (fun t => { t with ptp := { t.ptp with gm1 := some ({ priority1 := 1, clockClass := 6, accuracy := 1, variance := 1, priority2 := 1, identity := 7, steps := 0 } : GmData) } }), 1, 0, false, by decide, by decide, by decide, by decide⟩,
   ⟨(wNode.put K.ptpPTPPorts 2).modTime (fun t => { t with ptp := { t.ptp with locked := true, port := 1 } }), 1, 0, by decide, by decide, by decide, by decide⟩,
   ⟨wNode.put K.ptpPPSSource 1, by decide⟩,
   ⟨wNode.modTime (fun t => { t with ptp := { t.ptp with ppsBad := some 0 } }), 0, by decide, by decide, by decide⟩⟩

theorem witness_LoopConditionsOpenTheirEpisodes :
    (∃ (s : State), s.lp.odEpisode = false ∧ s.getN K.loopOverdrawHold ≤ s.lp.odRun) ∧
    (∃ (s : State), s.lp.suEpisode = false ∧ s.getN K.loopOverdrawHold ≤ s.lp.suRun) ∧
    (∃ (s : State),
    let k := s.lp.bindCode
    s.getN K.loopBindingReportTime * 1000 ≤ s.lp.bindRun ∧ (∀ e ∈ s.lp.bindOpen, e.1 ≠ k) ∧ (k = 1 ∨ k = 4)) ∧
    (∃ (s : State),
    let k := s.lp.bindCode
    s.getN K.loopBindingReportTime * 1000 ≤ s.lp.bindRun ∧ (∀ e ∈ s.lp.bindOpen, e.1 ≠ k) ∧ k = 2) ∧
    (∃ (s : State),
    let k := s.lp.bindCode
    s.getN K.loopBindingReportTime * 1000 ≤ s.lp.bindRun ∧ (∀ e ∈ s.lp.bindOpen, e.1 ≠ k) ∧ k = 5) ∧
    (∃ (s : State),
    let k := s.lp.bindCode
    s.getN K.loopBindingReportTime * 1000 ≤ s.lp.bindRun ∧ (∀ e ∈ s.lp.bindOpen, e.1 ≠ k) ∧ (k = 3 ∨ k = 6)) :=
  ⟨⟨wHost.modLoop (fun l => { l with odRun := 100000 }), by decide, by decide⟩,
   ⟨wHost.modLoop (fun l => { l with suRun := 100000 }), by decide, by decide⟩,
   ⟨wHost.modLoop (fun l => { l with bindCode := 4, bindRun := 10000000, bindOpen := [(7, 0)] }), by decide, by decide, by decide⟩,
   ⟨wHost.modLoop (fun l => { l with bindCode := 2, bindRun := 10000000, bindOpen := [(7, 0)] }), by decide, by decide, by decide⟩,
   ⟨wHost.modLoop (fun l => { l with bindCode := 5, bindRun := 10000000, bindOpen := [(7, 0)] }), by decide, by decide, by decide⟩,
   ⟨wHost.modLoop (fun l => { l with bindCode := 6, bindRun := 10000000, bindOpen := [(7, 0)] }), by decide, by decide, by decide⟩⟩

theorem witness_LegacyTableIsLoadedAndPlayed :
    (∃ (s : State) (w : HostWrite), s.takes K.legacyEnable w ∧ s.legacyTooBig = false ∧
    (∀ g < 64, s.getN (K.groupPolicy g) ≠ 1)) ∧
    (∃ (s : State) (w : HostWrite) (i : Fin 16),
    let st := s.getN K.legacyState
    s.takes (K.legacyEntries0To15 i) w ∧ st ≠ 0 ∧ i = 0) ∧
    (∃ (s : State) (w : HostWrite) (i : Fin 16),
    let st := s.getN K.legacyState
    s.takes (K.legacyEntries0To15 i) w ∧ st ≠ 0 ∧ i ≠ 0 ∧ st = 2 ∧ s.getN K.legacyNextEntry = i) ∧
    (∃ (s : State) (w : HostWrite) (i : Fin 16),
    let st := s.getN K.legacyState
    s.takes (K.legacyEntries0To15 i) w ∧ st ≠ 0 ∧ i ≠ 0 ∧ (st ≠ 2 ∨ s.getN K.legacyNextEntry ≠ i)) ∧
    (∃ (s : State),
    let st := s.getN K.legacyState
    st = 2 ∧ s.getN K.legacyActivationFT ≤ s.ft ∧ s.leg.running = false ∧
    (s.time.mode = .locked ∨ s.time.mode = .holdover)) ∧
    (∃ (s : State) (i : Fin 16), s.leg.running = true ∧ s.leg.nextPlay = i ∧ s.leg.runS + i * 1000000 ≤ s.ft) ∧
    (∃ (s : State), s.leg.running = true ∧ s.leg.runS + 16000000 ≤ s.ft) :=
  ⟨⟨wHost, wWrite [1], And.intro (by decide) (by decide), by decide, by decide⟩,
   ⟨wNode.put K.legacyState 3, wWrite [1, 0], 0, And.intro (by decide) (by decide), by decide, by decide⟩,
   ⟨(wNode.put K.legacyState 2).put K.legacyNextEntry 15, wWrite [1, 0], 15, And.intro (by decide) (by decide), by decide, by decide, by decide, by decide⟩,
   ⟨(wNode.put K.legacyState 2).put K.legacyNextEntry 15, wWrite [1, 0], 14, And.intro (by decide) (by decide), by decide, by decide, by decide⟩,
   ⟨wNode.put K.legacyState 2, by decide, by decide, by decide, by decide⟩,
   ⟨wNode.modLeg (fun l => { l with running := true, nextPlay := 15, runS := 6000000000000 }), 15, by decide, by decide, by decide⟩,
   ⟨wNode.modLeg (fun l => { l with running := true, runS := 6000000000000 }), by decide, by decide⟩⟩

theorem witness_TrayFramesAreTakenIn :
    (∃ (s : State) (t : Fin 24) (b : List Byte) (stamp : Nat), (wordAt b 0 1 / 16 ≠ 1 ∨ wordAt b 1 1 ∉ trayKinds) ∧
    ∃ i, i ∈ [Instr.stepNotice t b stamp, .trayIdent t b, .trayReport t b stamp, .trayStatus t b stamp]) ∧
    (∃ (s : State) (t : Fin 24) (b : List Byte),
    let st := s.trayStateOf t
    let frame := fun kind : Nat => wordAt b 0 1 / 16 = 1 ∧ wordAt b 1 1 = kind
    frame 4 ∧ st < 3) ∧
    (∃ (s : State) (t : Fin 24) (b : List Byte),
    let st := s.trayStateOf t
    let frame := fun kind : Nat => wordAt b 0 1 / 16 = 1 ∧ wordAt b 1 1 = kind
    frame 4 ∧ 3 ≤ st) ∧
    (∃ (s : State) (t : Fin 24) (b : List Byte),
    let st := s.trayStateOf t
    let frame := fun kind : Nat => wordAt b 0 1 / 16 = 1 ∧ wordAt b 1 1 = kind
    frame 3 ∧ (st = 1 ∨ st = 2)) ∧
    (∃ (s : State) (t : Fin 24) (b : List Byte) (stamp : Nat),
    let st := s.trayStateOf t
    let frame := fun kind : Nat => wordAt b 0 1 / 16 = 1 ∧ wordAt b 1 1 = kind
    let r := TrayReport.ofBytes b
    frame 1 ∧ st ≠ 0 ∧ r.cycle.toNat = s.rack.cycle % 2 ^ 32 ∧ stamp ≤ (s.rack.cycle + 1) * 10000 ∧
    (s.tray t).got = false) ∧
    (∃ (s : State) (t : Fin 24) (b : List Byte),
    let st := s.trayStateOf t
    let frame := fun kind : Nat => wordAt b 0 1 / 16 = 1 ∧ wordAt b 1 1 = kind
    frame 2 ∧ st ≠ 0) ∧
    (∃ (s : State) (t : Fin 24) (sess : Nat), s.takesByte (K.trayCoolantClear t) sess 1 ∧ 2 ≤ s.getN (K.trayCoolant t) ∧
    (s.tray t).loss = false) ∧
    (∃ (s : State) (t : Fin 24) (sess : Nat), s.takesByte (K.trayCoolantClear t) sess 1 ∧ 2 ≤ s.getN (K.trayCoolant t) ∧
    (s.tray t).loss = true) ∧
    (∃ (s : State) (t : Fin 24),
    ∃ h, (s.tray t).holdShare = some h ∧ h.2 ≤ s.now) :=
  ⟨⟨wHost.put (K.trayState 23) 3, 23, List.replicate 40 9, 10000, by decide, .trayReport 23 (List.replicate 40 9) 10000, by decide⟩,
   ⟨wHost.put (K.trayState 23) 2, 23, [0x10, 4, 1, 0, 0, 0] ++ List.replicate 34 1, by decide, by decide⟩,
   ⟨(wCore (fun c => { c with state := .running, prog := some wProg, maskInForce := 0x800000 })).put (K.trayState 23) 3, 23, [0x10, 4, 1, 0, 0, 0] ++ List.replicate 34 1, by decide, by decide⟩,
   ⟨wHost.put (K.trayState 23) 1, 23, [0x10, 3, 1, 0, 0, 0] ++ List.replicate 34 1, by decide, by decide⟩,
   ⟨wHost.put (K.trayState 23) 3, 23, [0x10, 1, 0, 0, 0, 0] ++ List.replicate 34 1, 10000, by decide, by decide, by decide, by decide, by decide⟩,
   ⟨wHost.put (K.trayState 23) 3, 23, [0x10, 2, 1, 0, 0, 0] ++ List.replicate 34 1, by decide, by decide⟩,
   ⟨wHost.put (K.trayCoolant 23) 2, 23, 1, And.intro (by decide) (by decide), by decide, by decide⟩,
   ⟨(wHost.put (K.trayCoolant 23) 2).modTray 23 (fun x => { x with loss := true }), 23, 1, And.intro (by decide) (by decide), by decide, by decide⟩,
   ⟨wHost.modTray 23 (fun x => { x with holdShare := some (500, 7000000000000) }), 23, (500, 7000000000000), by decide, by decide⟩⟩

theorem witness_TrayCycleBoundaryJudgesAndLimits :
    (∃ (s : State), s.ft % 10000 = 0 ∧ s.rack.boundary ≠ some s.ft) ∧
    (∃ (s : State), (s.ft % 10000 ≠ 0 ∨ s.rack.boundary = some s.ft)) :=
  ⟨⟨wNode, by decide, by decide⟩,
   ⟨wNode.modRack (fun k => { k with boundary := some 7000000000000 }), by decide⟩⟩

theorem witness_GroupsLedgerAndRackCapAct :
    (∃ (s : State) (g : Fin 64),
    let x := s.group g
    x.episode = true ∧ x.sentAt + s.getN K.rackGroupCapRefresh * 1000000 ≤ s.now ∧ s.canOriginate = true ∧
    s.getN (K.groupCampusGroupId g) ≠ 0) ∧
    (∃ (s : State) (g : Fin 64),
    let x := s.group g
    x.episode = true ∧ (s.members g).any s.chipThrottled = false ∧
    x.lastThrottle + s.getN K.rackReleaseHold * 1000000 ≤ s.now) ∧
    (∃ (s : State) (w : HostWrite), s.takes K.rackRackCap w) :=
  ⟨⟨((wNode.modMd (fun m => { m with mode := .active })).modGroup 63 (fun x => { x with episode := true })).put (K.groupCampusGroupId 63) 5, 63, by decide, by decide, by decide, by decide⟩,
   ⟨wNode.modGroup 63 (fun x => { x with episode := true }), 63, by decide, by decide, by decide⟩,
   ⟨wNode, wWrite [0, 0, 1, 0], And.intro (by decide) (by decide)⟩⟩

theorem witness_ChainFramesLeaveTheMaster :
    (∃ (s : State) (a : Bool) (u : Fin 32) (k : Fin 16) (off : Nat) (total : Nat) (ms_ : Nat) (data : List Byte) (sw : Bool),
    s.getB K.chainChainMaster = false ∧
    ∃ i,
    i ∈ [Instr.enum a u, Instr.config a u, Instr.chainTest a u sw, Instr.chainLoad a (some u) off total data, Instr.chainLoad a none off total data, Instr.balance a u none ms_, Instr.balance a u (some (k, sw)) ms_, Instr.chainRead a u, Instr.sleep (some u), Instr.sleep none, Instr.loopSend, Instr.chainSync, Instr.sweep, Instr.sweepResend]) ∧
    (∃ (s : State), s.getB K.chainChainMaster = true) ∧
    (∃ (s : State), s.getB K.chainChainMaster = true) ∧
    (∃ (s : State), s.getB K.chainChainMaster = true) ∧
    (∃ (s : State), s.getB K.chainChainMaster = true) ∧
    (∃ (s : State), s.getB K.chainChainMaster = true) ∧
    (∃ (s : State), s.getB K.chainChainMaster = true) ∧
    (∃ (s : State) (u : Fin 32) (k : Fin 16) (sw : Bool), s.getB K.chainChainMaster = true ∧
    s.getB K.balBalancingEnable = true ∧ s.inhibited u k sw = false ∧ s.unitStateOf u = 3) ∧
    (∃ (s : State) (a : Bool) (u : Fin 32), s.getB K.chainChainMaster = true ∧
    ∃ id,
    ∃ e, s.readEnd u = some a ∧ (s.cunit u).testOn = some (id, e) ∧ e ≤ s.ft) ∧
    (∃ (s : State) (a : Bool) (u : Fin 32), s.getB K.chainChainMaster = true ∧
    ∃ x, s.readEnd u = some a ∧ (∀ p, (s.cunit u).testOn = some p → s.ft < p.2) ∧
    (s.sentSweeps.find? (fun y => (y.marks[u]).isNone && !y.testOnly) = some x) ∧ x.readyAt ≤ s.ft ∧
    s.nearest a u x = true) ∧
    (∃ (s : State), s.getB K.chainChainMaster = true) ∧
    (∃ (s : State), s.getB K.chainChainMaster = true) ∧
    (∃ (s : State), s.getB K.chainChainMaster = true ∧ (s.chainIs 1 = true ∨ s.chainIs 3 = true ∨ s.chainIs 4 = true) ∧
    s.chn.loopAt ≤ s.now) ∧
    (∃ (s : State), s.getB K.chainChainMaster = true) ∧
    (∃ (s : State), s.getB K.chainChainMaster = true ∧
    ∃ x, s.dueSweep = some x) ∧
    (∃ (s : State), s.getB K.chainChainMaster = true ∧
    ∃ x, s.chainIs 2 = true ∧ s.sentSweeps.getLast? = some x) :=
  ⟨⟨wNode, true, 3, 15, 0, 100, 500, [], true, by decide, Instr.chainSync, by decide⟩,
   ⟨wMaster, by decide⟩,
   ⟨wMaster, by decide⟩,
   ⟨wMaster, by decide⟩,
   ⟨wMaster, by decide⟩,
   ⟨wMaster, by decide⟩,
   ⟨wMaster, by decide⟩,
   ⟨(wMaster.put K.balBalancingEnable 1).put (K.unitState 3) 3, 3, 15, true, by decide, by decide, by decide, by decide⟩,
   ⟨wMaster.modUnit 3 (fun x => { x with testOn := some (7, 0) }), true, 3, by decide, 7, 0, by decide, by decide, by decide⟩,
   ⟨wSwept wSweep, true, 0, by decide, wSweep, by decide, fun p h => (nomatch (show (none : Option (Nat × Nat)) = some p from h)), by decide, by decide, by decide⟩,
   ⟨wMaster.put (K.unitState 3) 3, by decide⟩,
   ⟨(wMaster.put (K.unitState 3) 3).put K.chainChainState 2, by decide⟩,
   ⟨wMaster.put K.chainChainState 4, by decide, by decide, by decide⟩,
   ⟨wMaster.put K.chainChainState 1, by decide⟩,
   ⟨(wSwept { wSweep with sent := false, sample := 7000000000000 }).put K.chainChainState 2, by decide, { wSweep with sent := false, sample := 7000000000000 }, by decide⟩,
   ⟨(wSwept wSweep).put K.chainChainState 2, by decide, wSweep, by decide, by decide⟩⟩

theorem witness_ChainAnswersAreTakenIn :
    (∃ (s : State) (a : Bool) (u : Fin 32) (b : List Byte) (delay : Nat), ChainFrame.ofBytes b = none ∧
    ∃ j,
    j ∈ [Instr.ident a u b, Instr.result a u b, Instr.testResult a u b, Instr.ack u b, Instr.loop b delay, Instr.alert b]) ∧
    (∃ (s : State) (u : Fin 32) (b : List Byte) (f : ChainFrame),
    let known := s.getN (K.unitSerial u)
    let i := ChainIdent.ofBytes f.payload
    heard b 0x84 48 f ∧ s.chainExpects u f = true ∧ (known = 0 ∨ known = i.serial.toNat)) ∧
    (∃ (s : State) (u : Fin 32) (b : List Byte) (f : ChainFrame),
    let known := s.getN (K.unitSerial u)
    let i := ChainIdent.ofBytes f.payload
    heard b 0x84 48 f ∧ s.chainExpects u f = true ∧ known ≠ 0 ∧ known ≠ i.serial.toNat) ∧
    (∃ (s : State) (sess : Nat), s.takesByte K.chainSerialMap sess 1) ∧
    (∃ (s : State) (u : Fin 32) (b : List Byte) (f : ChainFrame) (x : Sweep),
    let r := ChainResult.ofBytes f.payload
    heard b 0x83 56 f ∧ s.chainExpects u f = true ∧
    (s.sentSweeps.find? (fun y => decide (y.id = r.sweep.toNat)) = some x)) ∧
    (∃ (s : State) (u : Fin 32) (b : List Byte) (f : ChainFrame), heard b 0x87 16 f ∧ s.chainExpects u f = true) ∧
    (∃ (s : State) (u : Fin 32) (b : List Byte) (f : ChainFrame), heard b 0x85 2 f ∧ s.chainExpects u f = true) ∧
    (∃ (s : State) (b : List Byte) (f : ChainFrame), heard b 0x0A 4 f) ∧
    (∃ (s : State) (u : Fin 32) (b : List Byte) (f : ChainFrame),
    let al := ChainAlert.ofBytes f.payload
    heard b 0x0B 16 f ∧
    (s.configured.find? (fun v : Fin 32 => decide (s.getN (K.unitSerial v) = al.serial.toNat)) = some u)) ∧
    (∃ (s : State) (a : Bool) (u : Fin 32) (c : ChainCmd),
    (s.chn.cmds.find? (fun d => decide (d.unit_ = u.val) && decide (d.fromA = a) && decide (d.due < s.now)) = some c) ∧
    c.retried = false) ∧
    (∃ (s : State) (a : Bool) (u : Fin 32) (c : ChainCmd),
    (s.chn.cmds.find? (fun d => decide (d.unit_ = u.val) && decide (d.fromA = a) && decide (d.due < s.now)) = some c) ∧
    c.retried = true ∧ u ∈ s.configured) ∧
    (∃ (s : State) (x : Sweep), (s.sentSweeps.find? (fun w => s.configured.all (fun v => (w.marks[v]).isSome)) = some x)) :=
  ⟨⟨wMaster, true, 3, [], 7, by decide, Instr.ack 3 [], by decide⟩,
   ⟨wAsked 4 wMaster, 3, (wFrame 0x84 48 [99]).bytes, wFrame 0x84 48 [99], And.intro (by decide) (And.intro rfl rfl), by decide, by decide⟩,
   ⟨(wAsked 4 wMaster).put (K.unitSerial 3) 98, 3, (wFrame 0x84 48 [99]).bytes, wFrame 0x84 48 [99], And.intro (by decide) (And.intro rfl rfl), by decide, by decide, by decide⟩,
   ⟨wMaster.modUnit 3 (fun x => { x with present := 5, changed := true }), 1, And.intro (by decide) (by decide)⟩,
   ⟨wAsked 3 (wSwept wSweep), 3, (wFrame 0x83 56 [7, 0, 0, 0, 0, 0, 1, 1]).bytes, wFrame 0x83 56 [7, 0, 0, 0, 0, 0, 1, 1], wSweep, And.intro (by decide) (And.intro rfl rfl), by decide, by decide⟩,
   ⟨wAsked 7 wMaster, 3, (wFrame 0x87 16 [7, 0, 3, 0, 1, 0, 1]).bytes, wFrame 0x87 16 [7, 0, 3, 0, 1, 0, 1], And.intro (by decide) (And.intro rfl rfl), by decide⟩,
   ⟨wAsked 5 wMaster, 3, (wFrame 0x85 2 []).bytes, wFrame 0x85 2 [], And.intro (by decide) (And.intro rfl rfl), by decide⟩,
   ⟨wMaster, (wFrame 0x0A 4 []).bytes, wFrame 0x0A 4 [], And.intro (by decide) (And.intro rfl rfl)⟩,
   ⟨wMaster.put (K.unitSerial 3) 99, 3, (wFrame 0x0B 16 [99, 0, 0, 0, 0, 0, 0, 0, 1, 2, 1]).bytes, wFrame 0x0B 16 [99, 0, 0, 0, 0, 0, 0, 0, 1, 2, 1], And.intro (by decide) (And.intro rfl rfl), by decide⟩,
   ⟨wMaster.modChain (fun c => { c with cmds := [wCmd false] }), true, 3, wCmd false, by decide, by decide⟩,
   ⟨(wMaster.modChain (fun c => { c with cmds := [wCmd true] })).modUnit 3 (fun x => { x with missB := true }), true, 3, wCmd true, by decide, by decide, by decide⟩,
   ⟨wSwept { wSweep with marks := Vector.replicate 32 (some 0) }, { wSweep with marks := Vector.replicate 32 (some 0) }, by decide⟩⟩

theorem witness_ChainTimersAndReleasesAct :
    (∃ (s : State), s.masterDue = true) ∧
    (∃ (s : State),
    let period := s.getN K.chainSweepPeriod * 1000000
    s.chn.sweeps = [] ∧ 0 < period) ∧
    (∃ (s : State) (w : HostWrite), s.takes K.chainSweepRequest w) ∧
    (∃ (s : State) (kind : Fin 3) (t0 : Nat),
    let trip := fun (t : State) (j : Fin 3) => match j.val with | 0 => t.chn.lowTrip | 1 => t.chn.highTrip | _ => t.chn.tempTrip
    let ok := match kind.val with | 0 => s.chn.lowOk | 1 => s.chn.highOk | _ => s.chn.tempOk
    trip s kind = true ∧ ok = some t0 ∧ t0 + 10000000000 ≤ s.now) ∧
    (∃ (s : State), (s.chainIs 3 = true ∨ s.chainIs 4 = true) ∧ s.chn.loopOk = true) ∧
    (∃ (s : State) (t0 : Nat) (u : Fin 32), u ∈ s.configured ∧ s.isStale u = true ∧ (s.cunit u).staleSince = some t0 ∧
    t0 + s.getN K.chainStaleTimeout * 1000000000 ≤ s.now ∧ s.chn.staleSaid = false) ∧
    (∃ (s : State), s.getN K.chainOpenWireTestInterval ≠ 0 ∧
    s.chn.openWireAt + s.getN K.chainOpenWireTestInterval * 60 * 1000000000 ≤ s.now) ∧
    (∃ (s : State), s.getN K.balSwitchTestInterval ≠ 0 ∧
    (s.chn.switchAt = 0 ∨ s.chn.switchAt + s.getN K.balSwitchTestInterval * 3600 * 1000000000 ≤ s.now)) ∧
    (∃ (s : State), s.getB K.chainChainMaster = true ∧ s.getB K.balBalancingEnable = true ∧
    s.chn.balanceAt + s.getN K.balBalancingInterval * 1000000000 ≤ s.now) :=
  ⟨⟨wNode.modPins (fun p => { p with maceOut := true }), by decide⟩,
   ⟨wMaster, by decide, by decide⟩,
   ⟨wMaster, wWrite [4], And.intro (by decide) (by decide)⟩,
   ⟨(wMaster.modChain (fun c => { c with tempTrip := true, lowTrip := true, tempOk := some 6990000000000 })).put K.socMode 2, 2, 6990000000000, by decide, by decide, by decide⟩,
   ⟨((wMaster.modChain (fun c => { c with loopOk := true })).put K.chainChainState 3).put (K.unitState 0) 5, by decide, by decide⟩,
   ⟨(wMaster.put (K.unitState 0) 5).modUnit 0 (fun x => { x with staleSince := some 0 }), 0, 0, by decide, by decide, by decide, by decide, by decide⟩,
   ⟨wOld, by decide, by decide⟩,
   ⟨wOld, by decide, by decide⟩,
   ⟨wMaster.put K.balBalancingEnable 1, by decide, by decide, by decide⟩⟩

theorem witness_RestsTapersAndQuietWindowsMove :
    (∃ (s : State) (marks : List Nat), s.soc.restSweep = some marks) ∧
    (∃ (s : State),
    let m := s.getN K.socMode
    (m = 1 ∨ m = 4) ∧ s.soc.modeAt + s.getN K.taperTaperTimeout * 60 * 1000000000 ≤ s.now) ∧
    (∃ (s : State),
    let m := s.getN K.socMode
    (m = 1 ∨ m = 4 ∨ (m ≠ 0 ∧ s.soc.lastRestAt + s.getN K.socCfgRequestTime * 60 * 1000000000 ≤ s.now))) ∧
    (∃ (s : State), s.soc.lastRestAt + s.getN K.socCfgUncertainTime * 60 * 1000000000 ≤ s.now) ∧
    (∃ (s : State) (w : HostWrite), s.takes K.quietQuietWindow w) ∧
    (∃ (s : State),
    let q := s.getN K.quietQuietRequest
    q = 2 ∧ s.soc.holdBegan = false ∧ 1000000 ≤ s.soc.quietRun ∧ s.getN K.limitLimitState = 0 ∧
    s.getN K.testTestState ≠ 2 ∧ s.getN K.testTestState ≠ 3) ∧
    (∃ (s : State),
    let q := s.getN K.quietQuietRequest
    q = 3 ∧ (1000 ≤ s.soc.demandRun ∨ 10000 < (s.busMilli - (s.pow.refMicro : Int) / 1000).natAbs)) ∧
    (∃ (s : State),
    let q := s.getN K.quietQuietRequest
    q = 2 ∧ s.soc.holdBegan = false ∧ s.getN K.quietWindowEnd ≤ s.ft) :=
  ⟨⟨(wNode.modSoc (fun e => { e with restSweep := some [0, 1, 2, 3], restRun := 100000000000 })).put K.socMode 4, [0, 1, 2, 3], by decide⟩,
   ⟨wOld.put K.socMode 1, by decide, by decide⟩,
   ⟨wOld.put K.socMode 3, by decide⟩,
   ⟨wOld, by decide⟩,
   ⟨wNode.put K.quietQuietRequest 3, wWrite [100, 0, 0, 0], And.intro (by decide) (by decide)⟩,
   ⟨(wNode.put K.quietQuietRequest 2).modSoc (fun e => { e with quietRun := 1000000 }), by decide, by decide, by decide, by decide, by decide, by decide⟩,
   ⟨(wNode.put K.quietQuietRequest 3).modSoc (fun e => { e with demandRun := 1000 }), by decide, by decide⟩,
   ⟨wNode.put K.quietQuietRequest 2, by decide, by decide, by decide⟩⟩

theorem witness_TestsResetsAndTheJournalRun :
    (∃ (s : State) (sess : Nat),
    let m := s.getN K.socMode
    s.takesByte K.testTestCommand sess 1 ∧ m = 2) ∧
    (∃ (s : State) (sess : Nat),
    let m := s.getN K.socMode
    s.takesByte K.testTestCommand sess 1 ∧ m ≠ 2) ∧
    (∃ (s : State) (sess : Nat),
    let m := s.getN K.socMode
    s.takesByte K.testTestCommand sess 2 ∧ m = 3 ∧ 1 ≤ s.getN K.testTestState ∧ s.getN K.testTestState ≤ 3) ∧
    (∃ (s : State),
    let m := s.getN K.socMode
    m = 3 ∧ s.soc.testAt + s.getN K.testTestTimeout * 60 * 1000000000 ≤ s.now ∧ s.getN K.quietQuietRequest ≠ 3) ∧
    (∃ (s : State) (sess : Nat), s.takesByte K.socEstimateReset sess 1) ∧
    (∃ (s : State), s.soc.trigger = none ∧ s.soc.lastWriteAt + s.getN K.journalJournalInterval * 60 * 1000000000 ≤ s.now) ∧
    (∃ (s : State) (sess : Nat), s.soc.trigger = none ∧ s.takesByte K.journalWriteNow sess 1) ∧
    (∃ (s : State) (tr : Bool × Bool), s.soc.trigger = some tr ∧ s.soc.writing = none ∧ s.mayJournal = true) ∧
    (∃ (s : State) (tr : Bool × Bool), s.soc.trigger = some tr ∧ s.soc.writing = none ∧ s.mayJournal = false ∧
    tr.1 = true) ∧
    (∃ (s : State) (tr : Bool × Bool), s.soc.trigger = some tr ∧ s.soc.writing = none ∧
    s.soc.triedAt + 1000000000 ≤ s.now ∧ s.mayJournal = true) ∧
    (∃ (s : State) (tr : Bool × Bool), s.soc.trigger = some tr ∧ s.soc.writing = none ∧
    s.soc.triedAt + 1000000000 ≤ s.now ∧ s.mayJournal = false ∧ 59 ≤ s.soc.retries) ∧
    (∃ (s : State) (tr : Bool × Bool), s.soc.trigger = some tr ∧ s.soc.writing = none ∧
    s.soc.triedAt + 1000000000 ≤ s.now ∧ s.mayJournal = false ∧ s.soc.retries < 59 ∧ tr.1 = false ∧
    s.md.mainLoss = false ∧ s.md.onHold = false) ∧
    (∃ (s : State) (b : Bool) (r : JournalRec), s.soc.writing = some (b, r)) :=
  ⟨⟨wNode.put K.socMode 2, 1, And.intro (by decide) (by decide), by decide⟩,
   ⟨wNode.put K.socMode 1, 1, And.intro (by decide) (by decide), by decide⟩,
   ⟨(wNode.put K.socMode 3).put K.testTestState 3, 1, And.intro (by decide) (by decide), by decide, by decide, by decide⟩,
   ⟨wOld.put K.socMode 3, by decide, by decide, by decide⟩,
   ⟨wNode, 1, And.intro (by decide) (by decide)⟩,
   ⟨wOld, by decide, by decide⟩,
   ⟨wNode, 1, by decide, And.intro (by decide) (by decide)⟩,
   ⟨((wOld.modSoc (fun e => { e with trigger := some (true, false), slotA := .valid wJournal })).put K.supplyHoldEnergy 100000).put K.supplyV12 12000, (true, false), by decide, by decide, by decide⟩,
   ⟨wOld.modSoc (fun e => { e with trigger := some (true, false), slotA := .valid wJournal }), (true, false), by decide, by decide, by decide, by decide⟩,
   ⟨((wOld.modSoc (fun e => { e with trigger := some (true, false), slotA := .valid wJournal })).put K.supplyHoldEnergy 100000).put K.supplyV12 12000, (true, false), by decide, by decide, by decide, by decide⟩,
   ⟨wOld.modSoc (fun e => { e with trigger := some (true, false), slotA := .valid wJournal, retries := 59 }), (true, false), by decide, by decide, by decide, by decide, by decide⟩,
   ⟨wOld.modSoc (fun e => { e with trigger := some (false, true), slotA := .valid wJournal, retries := 58 }), (false, true), by decide, by decide, by decide, by decide, by decide, by decide, by decide, by decide⟩,
   ⟨wNode.modSoc (fun e => { e with writing := some (true, wJournal) }), true, wJournal, by decide⟩⟩

theorem witness_SaffronOperatorsComputeTheirElements :
    (∃ (s : State) (fast : Bool) (n : Nat) (i : SafImage) (st : SafStage), s.stageIs fast n 1 i st) ∧
    (∃ (s : State) (fast : Bool) (n : Nat) (i : SafImage) (st : SafStage), s.stageIs fast n 2 i st) ∧
    (∃ (s : State) (fast : Bool) (n : Nat) (i : SafImage) (st : SafStage), s.stageIs fast n 3 i st) ∧
    (∃ (s : State) (fast : Bool) (n : Nat) (i : SafImage) (st : SafStage), s.stageIs fast n 4 i st) ∧
    (∃ (s : State) (fast : Bool) (n : Nat) (i : SafImage) (st : SafStage), s.stageIs fast n 5 i st) ∧
    (∃ (s : State) (fast : Bool) (n : Nat) (i : SafImage) (st : SafStage), s.stageIs fast n 6 i st) ∧
    (∃ (s : State) (n : Nat) (i : SafImage) (st : SafStage), s.stageIs true n 7 i st) ∧
    (∃ (s : State) (fast : Bool) (n : Nat) (i : SafImage) (st : SafStage), s.stageIs fast n 8 i st ∧ refSpace st.out ≠ 3) :=
  ⟨⟨wSaffron 1, true, 0, wImage 1, wStage 1, And.intro rfl (And.intro rfl (And.intro (by decide) (by decide)))⟩,
   ⟨wSaffron 2, true, 0, wImage 2, wStage 2, And.intro rfl (And.intro rfl (And.intro (by decide) (by decide)))⟩,
   ⟨wSaffron 3, true, 0, wImage 3, wStage 3, And.intro rfl (And.intro rfl (And.intro (by decide) (by decide)))⟩,
   ⟨wSaffron 4, true, 0, wImage 4, wStage 4, And.intro rfl (And.intro rfl (And.intro (by decide) (by decide)))⟩,
   ⟨wSaffron 5, true, 0, wImage 5, wStage 5, And.intro rfl (And.intro rfl (And.intro (by decide) (by decide)))⟩,
   ⟨wSaffron 6, true, 0, wImage 6, wStage 6, And.intro rfl (And.intro rfl (And.intro (by decide) (by decide)))⟩,
   ⟨wSaffron 7, 0, wImage 7, wStage 7, And.intro rfl (And.intro rfl (And.intro (by decide) (by decide)))⟩,
   ⟨wSaffron 8, true, 0, wImage 8, wStage 8, And.intro rfl (And.intro rfl (And.intro (by decide) (by decide))), by decide⟩⟩

theorem witness_SaffronTiersPublishAndStop :
    (∃ (s : State), s.fastRuns = true) ∧
    (∃ (s : State) (i : SafImage) (v : List Int), s.atSlowBoundary = true ∧ s.slowImg = some i ∧ s.saf.slowFeat = some v) ∧
    (∃ (s : State) (i : SafImage) (v : List Int), s.atSlowBoundary = true ∧ s.slowImg = some i ∧ s.saf.slowFeat = some v) ∧
    (∃ (s : State) (i : SafImage), s.slowImg = some i) ∧
    (∃ (s : State) (i : SafImage), s.slowImg = some i ∧ s.saf.slowWait = .reload) ∧
    (∃ (s : State) (w : HostWrite), s.takes K.safEnable w) ∧
    (∃ (s : State) (i : SafImage), s.fastImg = some i ∧ s.saf.fastWait = .reload ∧ 1 ≤ s.safEnable) ∧
    (∃ (s : State) (tr : Fin 24) (k : Fin 8), s.getN K.divUntrustedTime * 100 ≤ (s.tray tr).disagree[k] ∧
    s.saf.untrusted.getLsbD (chipOf tr k) = false) ∧
    (∃ (s : State) (tr : Fin 24) (k : Fin 8), s.getN K.divTrustReturnTime * 100 ≤ (s.tray tr).agree[k] ∧
    s.saf.untrusted.getLsbD (chipOf tr k) = true) ∧
    (∃ (s : State) (t0 : Nat), s.saf.lowSince = some t0 ∧ t0 + 10000000 ≤ s.now) :=
  ⟨⟨wSaffron 5, by decide⟩,
   ⟨(wSaffron 5).modSaf (fun x => { x with slowFeat := some [7] }), wSlowImage 5, [7], by decide, rfl, by decide⟩,
   ⟨(wSaffron 5).modSaf (fun x => { x with slowFeat := some [7] }), wSlowImage 5, [7], by decide, rfl, by decide⟩,
   ⟨wSaffron 5, wSlowImage 5, rfl⟩,
   ⟨(wSaffron 5).modSaf (fun x => { x with slowWait := .reload }), wSlowImage 5, rfl, by decide⟩,
   ⟨wSaffron 5, wWrite [0], And.intro (by decide) (by decide)⟩,
   ⟨(wSaffron 5).modSaf (fun x => { x with fastWait := .reload }), wImage 5, rfl, by decide, by decide⟩,
   ⟨wSaffron 5 |>.modTray 23 (fun x => { x with disagree := x.disagree.set 7 1000000 }), 23, 7, by decide, by decide⟩,
   ⟨((wSaffron 5).modTray 23 (fun x => { x with agree := x.agree.set 7 10000000 })).modSaf (fun x => { x with untrusted := 1 <<< 191 }), 23, 7, by decide, by decide⟩,
   ⟨(wSaffron 5).modSaf (fun x => { x with lowSince := some 0 }), 0, by decide, by decide⟩⟩

theorem witness_TilesRotateAndFail :
    (∃ (s : State) (v : Fin 64) (since : Nat), s.saf.rotation = .testing since ∧
    since + s.getN K.rotTilePeriod * 1000000 ≤ s.now ∧ s.nextVictim s.offline = some v) ∧
    (∃ (s : State) (v : Fin 64) (since : Nat), s.saf.rotation = .copying v since ∧ s.atSlowBoundary = true) ∧
    (∃ (s : State) (u : Fin 64), s.tileFailed u = false) ∧
    (∃ (s : State) (w : HostWrite), s.takes K.safClearFailed w) ∧
    (∃ (s : State) (w : HostWrite), s.takes K.rotRotationEnable w ∧ w.num = 0 ∧ s.get K.rotRotationEnable ≠ 0 ∧
    s.saf.replacing = false) ∧
    (∃ (s : State) (v : Fin 64) (w : HostWrite), s.takes K.rotRotationEnable w ∧ w.num = 1 ∧
    s.get K.rotRotationEnable = 0 ∧ s.tilesNeeded < s.usableTiles.length ∧
    ((s.usableTiles.filter (fun x : Fin 64 => decide (s.getN (K.tileLogicalTile x.val) = 255))).getLast? = some v)) ∧
    (∃ (s : State) (w : HostWrite), s.takes K.safSlowTick w ∧ s.resInForce false = none) ∧
    (∃ (s : State) (w : HostWrite) (r : Fin 6) (i : SafImage), s.takes K.safSlowTick w ∧ s.resInForce false = some r ∧
    s.saf.res[r] = some i ∧ admits i { s.live r s.fastImg with slowTick := w.num } = true) ∧
    (∃ (s : State) (w : HostWrite) (r : Fin 6) (i : SafImage), s.takes K.safSlowTick w ∧ s.resInForce false = some r ∧
    s.saf.res[r] = some i ∧ admits i { s.live r s.fastImg with slowTick := w.num } = false) :=
  ⟨⟨((wSaffron 5).modSaf (fun x => { x with rotation := .testing 0 })).put K.rotOfflineTile 5 |>.put (K.tileLogicalTile 9) 0, 6, 0, by decide, by decide, by decide⟩,
   ⟨(((wSaffron 5).modSaf (fun x => { x with rotation := .copying 9 0 })).put K.rotOfflineTile 5).put (K.tileLogicalTile 9) 0, 9, 0, by decide, by decide⟩,
   ⟨((wSaffron 5).modSaf (fun x => { x with rotation := .testing 0 })).put K.rotOfflineTile 63, 63, by decide⟩,
   ⟨wSaffron 5, wWrite [1, 0, 0, 0, 0, 0, 0, 128], And.intro (by decide) (by decide)⟩,
   ⟨(wSaffron 5).put K.rotRotationEnable 1, wWrite [0], And.intro (by decide) (by decide), by decide, by decide, by decide⟩,
   ⟨(wSaffron 5).put K.rotRotationEnable 0, 63, wWrite [1], And.intro (by decide) (by decide), by decide, by decide, by decide, by decide⟩,
   ⟨wNode, wWrite [250, 0], And.intro (by decide) (by decide), by decide⟩,
   ⟨((wSaffron 5).modSaf (fun x => { x with res := x.res.set 2 (some wSlowGood) })).put K.safEnable 1, wWrite [232, 3], 2, wSlowGood, And.intro (by decide) (by decide), by decide, by decide, by decide⟩,
   ⟨(wSaffron 5).put K.safEnable 1, wWrite [232, 3], 2, wSlowImage 5, And.intro (by decide) (by decide), by decide, by decide, by decide⟩⟩

theorem witness_UnloadEmptiesAResidence :
    (∃ (s : State) (sess : Nat) (n : Fin 6), s.takesByte K.loadCommand sess 2 ∧ s.getN K.loadLoadResidence = n ∧
    let st := s.getN (K.resState n)
    (st = 2 ∨ st = 5) ∧ s.getN K.loadPartnerResidence ≠ n) ∧
    (∃ (s : State) (sess : Nat) (n : Fin 6), s.takesByte K.loadCommand sess 2 ∧ s.getN K.loadLoadResidence = n ∧
    let st := s.getN (K.resState n)
    (st = 3 ∨ st = 4 ∨ s.getN K.loadPartnerResidence = n)) :=
  ⟨⟨((wNode.put K.loadLoadResidence 5).put (K.resState 5) 5), 1, 5, And.intro (by decide) (by decide), by decide, by decide, by decide⟩,
   ⟨((wNode.put K.loadLoadResidence 5).put (K.resState 5) 2).put K.loadPartnerResidence 5, 1, 5, And.intro (by decide) (by decide), by decide, by decide⟩⟩

theorem witness_ImagesAreLoadedAndSwapped :
    (∃ (s : State) (sess : Nat) (n : Fin 6) (i : SafImage), s.takesByte K.loadCommand sess 1 ∧
    s.getN K.loadLoadResidence = n ∧ s.saf.loading = none ∧ s.storeImg (s.getN K.loadLoadSlot) = some i ∧
    s.getN (K.resState n) ≠ 3 ∧ s.getN (K.resState n) ≠ 4 ∧ i.fast = decide (n.val < 2)) ∧
    (∃ (s : State) (sess : Nat), s.takesByte K.loadCommand sess 1 ∧ s.saf.loading.isSome = true) ∧
    (∃ (s : State) (sess : Nat),
    let f := s.getN K.loadSwapFastResidence
    let readyF := f ≤ 1 ∧ s.getN (K.resState f) = 2
    let idle := s.saf.swap = none ∧ s.swapping = false
    s.takesByte K.loadCommand sess 3 ∧ readyF ∧ idle) ∧
    (∃ (s : State) (sess : Nat),
    let f := s.getN K.loadSwapFastResidence
    let readyF := f ≤ 1 ∧ s.getN (K.resState f) = 2
    let idle := s.saf.swap = none ∧ s.swapping = false
    s.takesByte K.loadCommand sess 3 ∧ ¬(readyF ∧ idle)) ∧
    (∃ (s : State) (sess : Nat),
    let l := s.getN K.loadSwapSlowResidence
    let readyS := 2 ≤ l ∧ l ≤ 5 ∧ s.getN (K.resState l) = 2
    let idle := s.saf.swap = none ∧ s.swapping = false
    s.takesByte K.loadCommand sess 4 ∧ readyS ∧ idle) ∧
    (∃ (s : State) (sess : Nat),
    let l := s.getN K.loadSwapSlowResidence
    let readyS := 2 ≤ l ∧ l ≤ 5 ∧ s.getN (K.resState l) = 2
    let idle := s.saf.swap = none ∧ s.swapping = false
    s.takesByte K.loadCommand sess 4 ∧ ¬(readyS ∧ idle)) ∧
    (∃ (s : State) (sess : Nat),
    let f := s.getN K.loadSwapFastResidence
    let l := s.getN K.loadSwapSlowResidence
    let readyF := f ≤ 1 ∧ s.getN (K.resState f) = 2
    let readyS := 2 ≤ l ∧ l ≤ 5 ∧ s.getN (K.resState l) = 2
    let idle := s.saf.swap = none ∧ s.swapping = false
    s.takesByte K.loadCommand sess 5 ∧ readyF ∧ readyS ∧ idle) ∧
    (∃ (s : State) (sess : Nat),
    let f := s.getN K.loadSwapFastResidence
    let l := s.getN K.loadSwapSlowResidence
    let readyF := f ≤ 1 ∧ s.getN (K.resState f) = 2
    let readyS := 2 ≤ l ∧ l ≤ 5 ∧ s.getN (K.resState l) = 2
    let idle := s.saf.swap = none ∧ s.swapping = false
    s.takesByte K.loadCommand sess 5 ∧ ¬(readyF ∧ readyS ∧ idle)) ∧
    (∃ (s : State) (n : Fin 6) (w : SafSwap), s.saf.swap = some w ∧ w.at_ ≤ s.ft ∧ w.kind = 3 ∧ w.fast = n ∧
    (s.swapAdmits w).1 = true) ∧
    (∃ (s : State) (n : Fin 6) (w : SafSwap), s.saf.swap = some w ∧ w.at_ ≤ s.ft ∧ w.kind = 3 ∧ w.fast = n ∧
    (s.swapAdmits w).1 = false) ∧
    (∃ (s : State), s.saf.published = true) ∧
    (∃ (s : State), s.swapping = true ∧ s.usableTiles.length < s.tilesNeeded) :=
  ⟨⟨((wSaffron 5).modSaf (fun x => { x with store := [(3, wImage 5)] })).put K.loadLoadSlot 3 |>.put K.loadLoadResidence 1, 1, 1, wImage 5, And.intro (by decide) (by decide), by decide, by decide, rfl, by decide, by decide, by decide⟩,
   ⟨((wSaffron 5).modSaf (fun x => { x with loading := some 1 })), 1, And.intro (by decide) (by decide), by decide⟩,
   ⟨(((wSaffron 5).put (K.resState 1) 2).put (K.resState 5) 2).put K.loadSwapFastResidence 1 |>.put K.loadSwapSlowResidence 5, 1, And.intro (by decide) (by decide), by decide, by decide⟩,
   ⟨wSaffron 5, 1, And.intro (by decide) (by decide), by decide⟩,
   ⟨(((wSaffron 5).put (K.resState 1) 2).put (K.resState 5) 2).put K.loadSwapFastResidence 1 |>.put K.loadSwapSlowResidence 5, 1, And.intro (by decide) (by decide), by decide, by decide⟩,
   ⟨wSaffron 5, 1, And.intro (by decide) (by decide), by decide⟩,
   ⟨(((wSaffron 5).put (K.resState 1) 2).put (K.resState 5) 2).put K.loadSwapFastResidence 1 |>.put K.loadSwapSlowResidence 5, 1, And.intro (by decide) (by decide), by decide, by decide, by decide⟩,
   ⟨wSaffron 5, 1, And.intro (by decide) (by decide), by decide⟩,
   ⟨((wSaffron 5).modSaf (fun x => { x with res := x.res.set 1 (some (wImage 5)), swap := some { kind := 3, at_ := 0, fast := 1, slow := 2 } })).put (K.resState 1) 4, 1, ({ kind := 3, at_ := 0, fast := 1, slow := 2 } : SafSwap), by decide, by decide, by decide, by decide, by decide⟩,
   ⟨((wSaffron 5).modSaf (fun x => { x with swap := some { kind := 3, at_ := 0, fast := 1, slow := 2 } })).put (K.resState 1) 4, 1, ({ kind := 3, at_ := 0, fast := 1, slow := 2 } : SafSwap), by decide, by decide, by decide, by decide, by decide⟩,
   ⟨((wSaffron 5).modSaf (fun x => { x with published := true })).put K.loadCommandState 3, by decide⟩,
   ⟨((wSaffron 5).modSaf (fun x => { x with newFast := true })).put K.safFailedTileMap 0xFFFFFFFFFFFFFFFF, by decide, by decide⟩⟩

theorem witness_LinksTrainAuthenticateAndCarry :
    (∃ (s : State) (n : Fin 32),
    let st := s.linkStateOf n
    (st < 2 ∨ st = 6)) ∧
    (∃ (s : State) (n : Fin 32),
    let st := s.linkStateOf n
    (st < 2 ∨ st = 6)) ∧
    (∃ (s : State) (n : Fin 32) (p : List Byte), wordAt p 0 1 / 16 ≠ 1 ∧
    ∃ i,
    i ∈ [Instr.train n p, Instr.trainDone n p, Instr.linkVersion n p, Instr.creditSync n p, Instr.linkDownFlit n p, Instr.finished n p]) ∧
    (∃ (s : State) (n : Fin 32) (frame : BitVec 576),
    let x := s.link n
    let st := s.linkStateOf n
    let bits := lineBits 576 frame.toNat
    let body := (descramble x.rx.scrambler ((bits.drop 16).take 552)).1
    st = 5 ∧ s.getB (K.linkPolarityInverted n) = false ∧ syncWrong (bits.take 16) = 0 ∧ decodeBody body = .abort) ∧
    (∃ (s : State) (n : Fin 32) (frame : BitVec 576),
    let x := s.link n
    let st := s.linkStateOf n
    let bits := lineBits 576 frame.toNat
    let body := (descramble x.rx.scrambler ((bits.drop 16).take 552)).1
    st = 5 ∧ s.getB (K.linkPolarityInverted n) = false ∧ syncWrong (bits.take 16) = 0 ∧ decodeBody body = .uncorrectable ∧
    x.uncorrectable.length < 15) ∧
    (∃ (s : State) (n : Fin 32) (frame : BitVec 576),
    let x := s.link n
    let st := s.linkStateOf n
    let bits := lineBits 576 frame.toNat
    let body := (descramble x.rx.scrambler ((bits.drop 16).take 552)).1
    st = 5 ∧ s.getB (K.linkPolarityInverted n) = false ∧ syncWrong (bits.take 16) = 0 ∧
    ∃ f,
    ∃ k, decodeBody body = .flit f k ∧ x.checkTag f = .replay) ∧
    (∃ (s : State) (n : Fin 32) (frame : BitVec 576),
    let x := s.link n
    let st := s.linkStateOf n
    let bits := lineBits 576 frame.toNat
    let body := (descramble x.rx.scrambler ((bits.drop 16).take 552)).1
    st = 5 ∧ s.getB (K.linkPolarityInverted n) = false ∧ syncWrong (bits.take 16) = 0 ∧
    ∃ f,
    ∃ k, decodeBody body = .flit f k ∧
    ∃ seq,
    ∃ new, x.checkTag f = .good seq new ∧ flitType f = 0) ∧
    (∃ (s : State) (n : Fin 32),
    let st := s.linkStateOf n
    (st = 2 ∨ st = 3 ∨ st = 4)) ∧
    (∃ (s : State) (n : Fin 32),
    let x := s.link n
    let st := s.linkStateOf n
    st = 5 ∧ 3 ≤ x.sinceCh0 ∧
    ∃ f,
    ∃ rest, x.timing = f :: rest) ∧
    (∃ (s : State) (n : Fin 32),
    let x := s.link n
    let st := s.linkStateOf n
    st = 5 ∧ 3 ≤ x.sinceCh0 ∧
    ∃ f,
    ∃ rest, x.timing = [] ∧ x.control = f :: rest) ∧
    (∃ (s : State) (n : Fin 32) (p : List Byte),
    let st := s.linkStateOf n
    st = 2 ∧ payloadIs p 1) ∧
    (∃ (s : State) (n : Fin 32) (p : List Byte),
    let st := s.linkStateOf n
    st = 2 ∧ payloadIs p 2) ∧
    (∃ (s : State) (n : Fin 32),
    let x := s.link n
    let st := s.linkStateOf n
    st = 2 ∧ x.enteredAt + 20000000 < s.now) ∧
    (∃ (s : State) (n : Fin 32) (p : List Byte),
    let st := s.linkStateOf n
    st = 3 ∧ payloadIs p 3 ∧
    let v := VersionSaid.ofBytes p
    v.majors.getLsbD 1 = false) ∧
    (∃ (s : State) (n : Fin 32) (p : List Byte),
    let st := s.linkStateOf n
    st = 3 ∧ payloadIs p 3 ∧
    let v := VersionSaid.ofBytes p
    v.majors.getLsbD 1 = true ∧ (v.profile.toNat ≠ s.profile n ∨ (s.profile n = 2 ∧ s.pairFits v = false))) ∧
    (∃ (s : State) (n : Fin 32) (p : List Byte),
    let st := s.linkStateOf n
    st = 3 ∧ payloadIs p 3 ∧
    let v := VersionSaid.ofBytes p
    v.majors.getLsbD 1 = true ∧ v.profile.toNat = s.profile n ∧ (s.profile n = 2 → s.pairFits v = true)) ∧
    (∃ (s : State) (n : Fin 32),
    let x := s.link n
    let st := s.linkStateOf n
    st = 4 ∧ x.auth.peerHello = none) ∧
    (∃ (s : State) (n : Fin 32),
    let x := s.link n
    let st := s.linkStateOf n
    st = 4 ∧ x.auth.peerHello = none) ∧
    (∃ (s : State) (n : Fin 32),
    let x := s.link n
    let st := s.linkStateOf n
    st = 4 ∧ x.auth.peerHello.isSome = true ∧ x.auth.peerSigned = false) ∧
    (∃ (s : State) (n : Fin 32),
    let x := s.link n
    let st := s.linkStateOf n
    st = 4 ∧ x.auth.peerHello.isSome = true ∧ x.auth.peerSigned = false) ∧
    (∃ (s : State) (n : Fin 32) (p : List Byte),
    let x := s.link n
    let st := s.linkStateOf n
    st = 4 ∧ x.auth.finSent = true ∧ payloadIs p 3) ∧
    (∃ (s : State) (n : Fin 32),
    let st := s.linkStateOf n
    st = 4) ∧
    (∃ (s : State) (n : Fin 32),
    let st := s.linkStateOf n
    st = 5) ∧
    (∃ (s : State) (p : List Byte), payloadIs p 4) :=
  ⟨⟨(wLink 1 (fun x => x)), 0, by decide⟩,
   ⟨(wLink 6 (fun x => x)), 0, by decide⟩,
   ⟨(wLink 5 (fun x => x)), 0, [0x20], by decide, Instr.train 0 [0x20], by decide⟩,
   ⟨(wLink 5 (fun x => x)), 0, frameWord 0 wFlit true 0, by decide, by decide, (frameWord_read 0 wFlit true 0 wFlit_length).1, (wFrame_read true).trans (decodeBody_abort wFlit wFlit_length)⟩,
   ⟨(wLink 5 (fun x => x)), 0, frameWord 0 (List.replicate 64 0) false 0 ^^^ 1 <<< 16 ^^^ 1 <<< 300 ^^^ 1 <<< 400, by decide, by decide, by decide +kernel, by decide +kernel, by decide⟩,
   ⟨wLate, 0, frameWord 0 wFlit false 0, by decide, by decide, (frameWord_read 0 wFlit false 0 wFlit_length).1, wFlit, 0, (wFrame_read false).trans (decodeBody_bodyBits wFlit wFlit_length), wFlit_late⟩,
   ⟨wGood, 0, frameWord 0 wFlit false 0, by decide, by decide, (frameWord_read 0 wFlit false 0 wFlit_length).1, wFlit, 0, (wFrame_read false).trans (decodeBody_bodyBits wFlit wFlit_length), 5, false, wFlit_good, rfl⟩,
   ⟨(wLink 3 (fun x => x)), 0, by decide⟩,
   ⟨(wLink 5 (fun x => { x with sinceCh0 := 3, timing := [mkFlit 1 0 2 0 []] })), 0, by decide, by decide, mkFlit 1 0 2 0 [], [], rfl⟩,
   ⟨(wLink 5 (fun x => { x with sinceCh0 := 3, control := [mkFlit 4 0 2 0 []] })), 0, by decide, by decide, mkFlit 4 0 2 0 [], [], by decide, rfl⟩,
   ⟨(wLink 2 (fun x => x)), 0, [0x10, 1], by decide, And.intro (by decide) (by decide)⟩,
   ⟨(wLink 2 (fun x => { x with locked := true, doneSeen := 7 })), 0, [0x10, 2], by decide, And.intro (by decide) (by decide)⟩,
   ⟨(wLink 2 (fun x => x)), 0, by decide, by decide⟩,
   ⟨(wLink 3 (fun x => x)), 0, [0x10, 3, 4, 0, 0, 0, 0, 0, 3, 6, 0, 1, 9], by decide, And.intro (by decide) (by decide), by decide⟩,
   ⟨(wLink 3 (fun x => x)), 0, [0x10, 3, 2, 0, 0, 0, 0, 0, 2, 6, 0, 1, 9], by decide, And.intro (by decide) (by decide), by decide, by decide⟩,
   ⟨(wLink 3 (fun x => x)), 0, [0x10, 3, 2, 0, 0, 0, 0, 0, 3, 6, 0, 1, 9], by decide, And.intro (by decide) (by decide), by decide, by decide, by decide⟩,
   ⟨(wLink 4 (fun x => x)), 0, by decide, by decide⟩,
   ⟨(wLink 4 (fun x => x)), 0, by decide, by decide⟩,
   ⟨(wLink 4 (fun x => { x with auth := { x.auth with peerHello := some [1] } })), 0, by decide, by decide, by decide⟩,
   ⟨(wLink 4 (fun x => { x with auth := { x.auth with peerHello := some [1], ownHello := some [2] } })), 0, by decide, by decide, by decide⟩,
   ⟨(wLink 4 (fun x => { x with auth := { x.auth with peerHello := some [1], finSent := true } })), 0, [0x10, 3], by decide, by decide, And.intro (by decide) (by decide)⟩,
   ⟨(wLink 4 (fun x => x)), 0, by decide⟩,
   ⟨(wLink 5 (fun x => x)), 0, by decide⟩,
   ⟨(wLink 5 (fun x => x)), [0x10, 4, 7, 8, 9], And.intro (by decide) (by decide)⟩⟩

theorem witness_LinksRekeyFallAndRoute :
    (∃ (s : State) (n : Fin 32),
    let x := s.link n
    let r := x.rekey
    let st := s.linkStateOf n
    let up := st = 5
    up ∧ s.isLow n = true ∧ r.auth = none ∧ r.nextAt ≤ s.now) ∧
    (∃ (s : State) (n : Fin 32),
    let x := s.link n
    let r := x.rekey
    let st := s.linkStateOf n
    let up := st = 5
    up ∧ s.isLow n = true ∧ r.auth.isSome = true) ∧
    (∃ (s : State) (n : Fin 32),
    let st := s.linkStateOf n
    let up := st = 5
    up ∧ s.isLow n = false) ∧
    (∃ (s : State) (n : Fin 32),
    let x := s.link n
    let r := x.rekey
    let st := s.linkStateOf n
    let up := st = 5
    up ∧
    ∃ a, r.auth = some a ∧ a.peerHello.isSome = true) ∧
    (∃ (s : State) (n : Fin 32),
    let x := s.link n
    let r := x.rekey
    let st := s.linkStateOf n
    let up := st = 5
    up ∧
    ∃ a, r.auth = some a ∧ a.peerHello.isSome = true ∧ r.failures < 2) ∧
    (∃ (s : State) (n : Fin 32),
    let x := s.link n
    let r := x.rekey
    let st := s.linkStateOf n
    let up := st = 5
    up ∧
    ∃ f,
    ∃ k,
    ∃ (at_ : Nat), r.fresh = some f ∧ x.keys = some k ∧ r.switchAt = some at_ ∧ r.txDone = false ∧ at_ < x.tx.next) ∧
    (∃ (s : State) (n : Fin 32),
    let x := s.link n
    let r := x.rekey
    let st := s.linkStateOf n
    let up := st = 5
    up ∧ r.auth.isSome = true ∧ r.fresh = none ∧ r.failures < 2) ∧
    (∃ (s : State) (n : Fin 32) (p : List Byte),
    let st := s.linkStateOf n
    let up := st = 5
    up ∧ payloadIs p 5) ∧
    (∃ (s : State) (n : Fin 32),
    let st := s.linkStateOf n
    let up := st = 5
    up) ∧
    (∃ (s : State) (n : Fin 32) (w : HostWrite),
    let st := s.linkStateOf n
    let up := st = 5
    up ∧ s.takes (K.linkEnable n) w ∧ w.num = 0) ∧
    (∃ (s : State) (n : Fin 32),
    let x := s.link n
    let st := s.linkStateOf n
    st = 6 ∧ x.waitEnd ≤ s.now) ∧
    (∃ (s : State) (n : Fin 32) (w : HostWrite),
    let st := s.linkStateOf n
    s.takes (K.linkEnable n) w ∧ st = 1 ∧ s.profile n ≠ 0 ∧ w.num = 1) ∧
    (∃ (s : State), s.hasNode = true ∧ s.getB K.nodeNodeIdConflict = false) ∧
    (∃ (s : State) (d : BitVec 10) (q : BitVec 32), (s.hasNode = true → d.toNat ≠ s.getN K.nodeNodeId) ∧
    (∀ e, s.fab.database.find? (fun e : LinkState => decide (e.node = d.toNat)) = some e → seqNewer e.seq q = true)) ∧
    (∃ (s : State) (sess : Nat), s.takesByte K.routeRouteCommand sess 1) ∧
    (∃ (s : State), s.fab.armed = true ∧ s.getN K.routeActivationFT ≤ s.ft) ∧
    (∃ (s : State) (sess : Nat), s.takesByte K.routeRouteCommand sess 2) ∧
    (∃ (s : State) (n : Fin 32),
    let st := s.linkStateOf n
    let up := st = 5
    up ∧ s.profile n = 3) ∧
    (∃ (s : State) (m : Vector Byte 16), (crc16 (m.toList.take 14)).toNat ≠ wordAt m.toList 14 2) ∧
    (∃ (s : State) (n : Fin 32),
    let x := s.link n
    let st := s.linkStateOf n
    let up := st = 5
    ∃ (m : Vector Byte 16),
    ∃ q, (crc16 (m.toList.take 14)).toNat = wordAt m.toList 14 2 ∧ wordAt m.toList 1 1 = 0x81 ∧ up ∧
    wordAt m.toList 0 1 / 16 = 1 ∧
    (x.side.reqs.find? (fun y : SideReq => decide (y.seq = wordAt m.toList 3 1)) = some q) ∧ q.reg = 0x30 ∧
    (q.retimer = 1 ∨ q.retimer = 2)) ∧
    (∃ (s : State) (n : Fin 32),
    let x := s.link n
    let st := s.linkStateOf n
    let up := st = 5
    ∃ (y : Fin 2), up ∧ y.val < s.getN (K.retimerRetimersFound n) ∧
    (3 ≤ (if y.val = 0 then (x.side.settle s.now).missed.1 else (x.side.settle s.now).missed.2)) ∧
    ((if y.val = 0 then x.side.lost.1 else x.side.lost.2) = false)) ∧
    (∃ (s : State) (n : Fin 32) (sess : Nat), s.takesByte (K.retimerRetimerCommand n) sess 1) ∧
    (∃ (s : State) (n : Fin 32) (sess : Nat), s.takesByte (K.retimerRetimerCommand n) sess 2) ∧
    (∃ (s : State) (n : Fin 32) (sess : Nat), s.takesByte (K.retimerRetimerCommand n) sess 3) ∧
    (∃ (s : State) (n : Fin 32),
    let x := s.link n
    ∃ t0, x.lowSince = some t0 ∧ t0 + 10000000000 ≤ s.now ∧ x.lowSaid = false) :=
  ⟨⟨((wLink 5 (fun x => x)).put K.nodeSerial 3 |>.put (K.linkPeerSerial 0) 5), 0, by decide, by decide, by decide, by decide⟩,
   ⟨((wLink 5 (fun x => { x with rekey := { x.rekey with auth := some ({ AuthSt.none with ownHello := some [1], peerHello := some [2] } : AuthSt) } })).put K.nodeSerial 3 |>.put (K.linkPeerSerial 0) 5), 0, by decide, by decide, by decide⟩,
   ⟨((wLink 5 (fun x => x)).put K.nodeSerial 5 |>.put (K.linkPeerSerial 0) 3), 0, by decide, by decide⟩,
   ⟨(wLink 5 (fun x => { x with rekey := { x.rekey with auth := some ({ AuthSt.none with ownHello := some [1], peerHello := some [2] } : AuthSt) } })), 0, by decide, ({ AuthSt.none with ownHello := some [1], peerHello := some [2] } : AuthSt), rfl, by decide⟩,
   ⟨(wLink 5 (fun x => { x with rekey := { x.rekey with auth := some ({ AuthSt.none with ownHello := some [1], peerHello := some [2] } : AuthSt) } })), 0, by decide, ({ AuthSt.none with ownHello := some [1], peerHello := some [2] } : AuthSt), rfl, by decide, by decide⟩,
   ⟨(wLink 5 (fun x => { x with keys := some wKeys, tx := { x.tx with next := 9 }, rekey := { x.rekey with fresh := some wKeys, switchAt := some 5 } })), 0, by decide, wKeys, wKeys, 5, rfl, rfl, rfl, by decide, by decide⟩,
   ⟨(wLink 5 (fun x => { x with rekey := { x.rekey with auth := some ({ AuthSt.none with ownHello := some [1], peerHello := some [2] } : AuthSt) } })), 0, by decide, by decide, by decide, by decide⟩,
   ⟨(wLink 5 (fun x => x)), 0, [0x10, 5], by decide, And.intro (by decide) (by decide)⟩,
   ⟨(wLink 5 (fun x => x)), 0, by decide⟩,
   ⟨(wLink 5 (fun x => x)), 0, wWrite [0], by decide, And.intro (by decide) (by decide), by decide⟩,
   ⟨(wLink 6 (fun x => x)), 0, by decide, by decide⟩,
   ⟨(wLink 1 (fun x => x)), 0, wWrite [1], And.intro (by decide) (by decide), by decide, by decide, by decide⟩,
   ⟨wNode, by decide, by decide⟩,
   ⟨wNode, 9, 7, fun _ => by decide, fun _ h => nomatch h⟩,
   ⟨wNode, 1, And.intro (by decide) (by decide)⟩,
   ⟨wNode.modFab (fun b => { b with armed := true }), by decide, by decide⟩,
   ⟨wNode, 1, And.intro (by decide) (by decide)⟩,
   ⟨(wLink 5 (fun x => x)), 0, by decide, by decide⟩,
   ⟨wNode, Vector.replicate 16 1, by decide⟩,
   ⟨(wLink 5 (fun x => { x with side := { x.side with reqs := [({ seq := 9, retimer := 1, reg := 0x30, due := 0 } : SideReq)] } })), 0, #v[16, 129, 0, 9, 0, 0, 6, 0, 0, 0, 0, 0, 0, 0, 82, 101], ({ seq := 9, retimer := 1, reg := 0x30, due := 0 } : SideReq), by decide, by decide, by decide, by decide, rfl, by decide, .inl rfl⟩,
   ⟨(wLink 5 (fun x => { x with side := { x.side with missed := (3, 0) } })).put (K.retimerRetimersFound 0) 1, 0, 0, by decide, by decide, by decide, by decide⟩,
   ⟨(wLink 1 (fun x => x)).put (K.linkEnable 0) 1, 0, 1, And.intro (by decide) (by decide)⟩,
   ⟨(((wLink 1 (fun x => x)).put (K.linkEnable 0) 0).put (K.linkPeerNode 0) 0xFFFF), 0, 1, And.intro (by decide) (by decide)⟩,
   ⟨(((wLink 1 (fun x => x)).put (K.linkEnable 0) 0).put (K.linkPeerNode 0) 0xFFFF), 0, 1, And.intro (by decide) (by decide)⟩,
   ⟨(wLink 5 (fun x => { x with lowSince := some 0 })), 0, 0, rfl, by decide, by decide⟩⟩

theorem witness_SessionsOpenReadWriteAndPush :
    (∃ (s : State) (p : Fin 2), s.servesDtls = true ∧ s.portCarries p = true ∧ s.handshakes < 4) ∧
    (∃ (s : State) (p : Fin 2), s.servesDtls = true ∧ s.portCarries p = true ∧ s.handshakes < 4) ∧
    (∃ (s : State) (a : Nat) (alert : BitVec 8), (s.host.assocs.any (fun b => decide (b.id = a) && !b.done) = true) ∧
    alert ≠ 0) ∧
    (∃ (s : State) (a : Nat), (s.host.assocs.any (fun b => decide (b.id = a) && !b.done) = true)) ∧
    (∃ (s : State) (h : ReqHdr) (sess : Nat) (a : Assoc) (majors : BitVec 16), s.session? h.sess = none ∧
    (s.host.assocs.find? (fun b => decide (b.id = h.sess) && b.done) = some a) ∧ s.portCarries h.port = true ∧
    h.fits false = true ∧ majors.getLsbD 1 = true ∧ s.host.sessions.length < s.getN K.sessSessionLimit) ∧
    (∃ (s : State) (h : ReqHdr) (sess : Nat) (a : Assoc) (majors : BitVec 16), s.session? h.sess = none ∧
    (s.host.assocs.find? (fun b => decide (b.id = h.sess) && b.done) = some a) ∧ s.portCarries h.port = true ∧
    h.fits false = true ∧ majors.getLsbD 1 = true ∧ s.getN K.sessSessionLimit ≤ s.host.sessions.length) ∧
    (∃ (s : State) (h : ReqHdr) (x : Session) (sess : Nat) (key : BitVec 24) (r : Resp) (img : Bool × BitVec 5),
    s.session? h.sess = some x ∧ s.portCarries h.port = true ∧ h.fits false = true ∧ 24 ≤ x.msgSize ∧
    (x.kept.find? (fun r : Resp => decide (r.reqId = h.reqId.toNat)) = some r) ∧
    ∃ (e : Nat × Instr),
    e ∈ ([(3, .readObject h key), (5, .readList h []), (6, .describe h key), (0x0B, .subscribe h 1 []), (0x0F, .keepalive h), (0x0A, .blockEnd h 0 0 img)] : List (Nat × Instr))) ∧
    (∃ (s : State) (h : ReqHdr) (x : Session), s.asks h x 0) ∧
    (∃ (s : State) (h : ReqHdr) (x : Session), s.asks h x 0) ∧
    (∃ (s : State) (h : ReqHdr) (x : Session) (key : BitVec 24),
    let k := key.toNat
    s.asks h x 4 ∧ s.readStatus x k = 0) ∧
    (∃ (s : State) (h : ReqHdr) (x : Session) (key : BitVec 24),
    let k := key.toNat
    s.asks h x 4 ∧ s.readStatus x k ≠ 0 ∧ s.readStatus x k ≠ Cause.accessDenied) ∧
    (∃ (s : State) (h : ReqHdr) (x : Session) (key : BitVec 24),
    let k := key.toNat
    s.asks h x 4 ∧
    ∃ (r : Dict.Row), Dict.row? k = some r ∧ s.romHides k false = false) ∧
    (∃ (s : State) (h : ReqHdr) (x : Session) (key : BitVec 24),
    let k := key.toNat
    s.asks h x 4 ∧ Dict.row? k = none) ∧
    (∃ (s : State) (h : ReqHdr) (x : Session) (key : BitVec 24),
    let k := key.toNat
    ∃ (value : List Byte), s.asks h x (4 + value.length) ∧
    let bad := s.checkWrite x.role k value
    bad ≠ 0 ∧ bad ≠ Cause.accessDenied) ∧
    (∃ (s : State) (h : ReqHdr) (x : Session) (key : BitVec 24),
    let k := key.toNat
    ∃ (value : List Byte), s.asks h x (4 + value.length) ∧
    let bad := s.checkWrite x.role k value
    k = K.recRepeatWindow ∧ bad = 0 ∧ (mirroredObject k && s.mirrors) = false) ∧
    (∃ (s : State) (h : ReqHdr) (x : Session) (keys : List (BitVec 24)), s.asks h x (4 * keys.length) ∧ 64 < keys.length) ∧
    (∃ (s : State) (h : ReqHdr) (x : Session) (keys : List (BitVec 24)), s.asks h x (4 * keys.length) ∧ keys.length ≤ 64 ∧
    (∀ q ∈ keys, s.checkRead x.role q.toNat ≠ Cause.accessDenied)) ∧
    (∃ (s : State) (h : ReqHdr) (x : Session) (ex : List (BitVec 16)), s.asks h x (2 + 2 * ex.length) ∧
    s.md.mode ≠ .recovery ∧ ex.length ≤ 16) ∧
    (∃ (s : State) (h : ReqHdr) (x : Session) (sess : Nat), s.session? h.sess = some x ∧ s.portCarries h.port = true ∧
    h.fits true = true ∧ 16 ≤ x.msgSize) ∧
    (∃ (s : State) (x : Session) (sess : Nat), s.session? sess = some x ∧
    ∃ (p : Push) (rest : List Push), x.unsent = p :: rest ∧ p.recNo.isSome = true ∧ s.portCarries x.port = true) ∧
    (∃ (s : State) (x : Session) (sess : Nat), s.session? sess = some x ∧ s.portCarries x.port = true) ∧
    (∃ (s : State) (x : Session) (sess : Nat), s.session? sess = some x ∧
    (∃ p ∈ x.unacked, p.sentAt + 30000000000 < s.now)) ∧
    (∃ (s : State) (x : Session) (sess : Nat), s.session? sess = some x ∧ x.seenAt + 3 * x.keepalive * 1000000000 < s.now) ∧
    (∃ (s : State) (x : Session) (sess : Nat) (w : HostWrite), s.session? sess = some x ∧ s.takes K.sessCloseSession w ∧
    w.num = sess) :=
  ⟨⟨wServe id, 0, by decide, by decide, by decide⟩,
   ⟨wServe id, 0, by decide, by decide, by decide⟩,
   ⟨(wServe id).modHost (fun o => { o with assocs := [({ id := 4, port := 0, peer := 9, done := false, role := 1, chain := [] } : Assoc)] }), 4, 42, by decide, by decide⟩,
   ⟨(wServe id).modHost (fun o => { o with assocs := [({ id := 4, port := 0, peer := 9, done := false, role := 1, chain := [] } : Assoc)] }), 4, by decide⟩,
   ⟨(wServe id).modHost (fun o => { o with sessions := [], assocs := [({ id := 1, port := 0, peer := 9, done := true, role := 1, chain := [] } : Assoc)] }), wReq, 1, ({ id := 1, port := 0, peer := 9, done := true, role := 1, chain := [] } : Assoc), 2, by decide, by decide, by decide, by decide, by decide, by decide⟩,
   ⟨((wServe id).modHost (fun o => { o with sessions := [], assocs := [({ id := 1, port := 0, peer := 9, done := true, role := 1, chain := [] } : Assoc)] })).put K.sessSessionLimit 0, wReq, 1, ({ id := 1, port := 0, peer := 9, done := true, role := 1, chain := [] } : Assoc), 2, by decide, by decide, by decide, by decide, by decide, by decide⟩,
   ⟨wServe (fun x => { x with kept := [⟨7, 0, [[1]]⟩] }), wReq, ({ wSession with kept := [⟨7, 0, [[1]]⟩] } : Session), 1, BitVec.ofNat 24 K.recRepeatWindow, ⟨7, 0, [[1]]⟩, (true, 3), rfl, by decide, by decide, by decide, rfl, (3, Instr.readObject wReq (BitVec.ofNat 24 K.recRepeatWindow)), .head _⟩,
   ⟨wServe id, wReq, wSession, And.intro (by decide) (And.intro (by decide) (And.intro (by decide) (by decide)))⟩,
   ⟨wServe id, wReq, wSession, And.intro (by decide) (And.intro (by decide) (And.intro (by decide) (by decide)))⟩,
   ⟨wServe id, wReq, wSession, BitVec.ofNat 24 K.recRepeatWindow, And.intro (by decide) (And.intro (by decide) (And.intro (by decide) (by decide))), by decide⟩,
   ⟨wServe id, wReq, wSession, 0, And.intro (by decide) (And.intro (by decide) (And.intro (by decide) (by decide))), by decide, by decide⟩,
   ⟨wServe id, wReq, wSession, BitVec.ofNat 24 K.recRepeatWindow, And.intro (by decide) (And.intro (by decide) (And.intro (by decide) (by decide))), ((Dict.row? K.recRepeatWindow).get (by decide)), rfl, by decide⟩,
   ⟨wServe id, wReq, wSession, 0, And.intro (by decide) (And.intro (by decide) (And.intro (by decide) (by decide))), by decide⟩,
   ⟨wServe id, wReq, wSession, 0, [50, 0], And.intro (by decide) (And.intro (by decide) (And.intro (by decide) (by decide))), by decide, by decide⟩,
   ⟨wServe id, wReq, wSession, BitVec.ofNat 24 K.recRepeatWindow, [50, 0], And.intro (by decide) (And.intro (by decide) (And.intro (by decide) (by decide))), by decide, by decide, by decide⟩,
   ⟨wServe id, wReq, wSession, List.replicate 65 0, And.intro (by decide) (And.intro (by decide) (And.intro (by decide) (by decide))), by decide⟩,
   ⟨wServe id, wReq, wSession, [0], And.intro (by decide) (And.intro (by decide) (And.intro (by decide) (by decide))), by decide, fun q h => by rw [List.mem_singleton.mp h]; decide⟩,
   ⟨wServe id, wReq, wSession, [], And.intro (by decide) (And.intro (by decide) (And.intro (by decide) (by decide))), by decide, by decide⟩,
   ⟨wServe id, { wReq with flags := 1 }, wSession, 1, rfl, by decide, by decide, by decide⟩,
   ⟨wServe (fun x => { x with unsent := [wPush] }), ({ wSession with unsent := [wPush] } : Session), 1, rfl, wPush, [], rfl, by decide, by decide⟩,
   ⟨wServe (fun x => { x with unacked := [wPush] }), ({ wSession with unacked := [wPush] } : Session), 1, rfl, by decide⟩,
   ⟨wServe (fun x => { x with unacked := [wPush] }), ({ wSession with unacked := [wPush] } : Session), 1, rfl, ⟨wPush, .head _, by decide⟩⟩,
   ⟨wServe id, wSession, 1, rfl, by decide⟩,
   ⟨wServe id, wSession, 1, wWrite [1, 0, 0, 0], rfl, And.intro (by decide) (by decide), by decide⟩⟩

theorem witness_TransfersStreamsAndPortsWork :
    (∃ (s : State) (h : ReqHdr) (x : Session), s.asks h x 10 ∧
    ∃ (key : BitVec 24) (chunk : BitVec 16), s.readCheck x key.toNat = 0 ∧ chunk ≠ 0 ∧ x.transfers.length < 4 ∧
    s.transfersOpen < 16 ∧ s.host.nextTransfer < 65536) ∧
    (∃ (s : State) (h : ReqHdr) (x : Session), s.asks h x 10 ∧
    ∃ (key : BitVec 24) (total : BitVec 32) (chunk : BitVec 16), s.checkBlockWrite x.role key.toNat total.toNat = 0 ∧
    chunk ≠ 0 ∧ x.transfers.length < 4 ∧ s.transfersOpen < 16 ∧ s.host.nextTransfer < 65536 ∧
    imageInput key.toNat = none ∧ x.transfer? s.host.nextTransfer = none) ∧
    (∃ (s : State) (h : ReqHdr) (x : Session), s.asks h x 8 ∧
    ∃ (id : BitVec 16) (tr : Transfer), x.transfer? id.toNat = some tr ∧ tr.isWrite = false) ∧
    (∃ (s : State) (h : ReqHdr) (x : Session), s.asks h x 8 ∧
    ∃ (id : BitVec 16) (crc : BitVec 32) (tr : Transfer), x.transfer? id.toNat = some tr ∧
    let whole := tr.bytes.length = tr.total ∧ crc32 tr.bytes = crc
    tr.isWrite = true ∧ imageInput tr.key = none ∧ ¬whole) ∧
    (∃ (s : State) (h : ReqHdr) (x : Session),
    let heard := s.heard h
    s.asks h x 8 ∧
    ∃ (id : BitVec 16) (crc : BitVec 32) (tr : Transfer), x.transfer? id.toNat = some tr ∧
    let whole := tr.bytes.length = tr.total ∧ crc32 tr.bytes = crc
    let dropped := heard.dropTransfer x.id tr.id
    tr.isWrite = true ∧ tr.key = K.recRepeatWindow ∧ whole ∧ dropped.takes tr.key ⟨x.id, tr.bytes⟩) ∧
    (∃ (s : State) (h : ReqHdr) (x : Session) (keys : List (BitVec 24)), s.asks h x (12 + 4 * keys.length) ∧
    s.md.mode ≠ .recovery) ∧
    (∃ (s : State) (h : ReqHdr) (x : Session) (id : BitVec 8) (period : BitVec 32) (keys : List (BitVec 24)),
    s.asks h x (12 + 4 * keys.length) ∧ s.md.mode ≠ .recovery ∧
    let ks := keys.map BitVec.toNat
    let bytes := (ks.map wireBytes).sum
    let others := s.host.sessions.flatMap (fun y => y.streams.filter (fun u => !(decide (y.id = x.id) && decide (u.id = id.toNat))))
    0 < period.toNat ∧ period.toNat ≤ 600000 ∧ (∀ k ∈ ks, s.streamable x.role k = true) ∧ ks.length ≤ 64 ∧
    others.length < 8 ∧ (overloaded ((bytes, period.toNat) :: others.map (fun u => (u.sampleBytes, u.period))) = false)) ∧
    (∃ (s : State) (h : ReqHdr) (x : Session), s.session? h.sess = some x ∧
    ∃ (id : BitVec 16) (tr : Transfer), x.transfer? id.toNat = some tr ∧
    ∃ (off : BitVec 32) (data : List Byte), s.portCarries h.port = true ∧ h.fits false = true ∧ tr.isWrite = true ∧
    24 + data.length ≤ x.msgSize ∧ imageInput tr.key = none ∧ off.toNat = tr.next ∧ data.length ≤ tr.chunk ∧
    tr.next + data.length ≤ tr.total) ∧
    (∃ (s : State) (h : ReqHdr) (x : Session), s.session? h.sess = some x ∧
    ∃ (id : BitVec 16) (tr : Transfer), x.transfer? id.toNat = some tr ∧
    ∃ (off : BitVec 32) (data : List Byte), s.portCarries h.port = true ∧ h.fits false = true ∧ tr.isWrite = true ∧
    24 + data.length ≤ x.msgSize ∧ imageInput tr.key = none ∧ off.toNat ≠ tr.next) ∧
    (∃ (s : State) (h : ReqHdr) (x : Session), s.session? h.sess = some x ∧
    ∃ (id : BitVec 16) (tr : Transfer), x.transfer? id.toNat = some tr ∧
    ∃ (next : BitVec 32), s.portCarries h.port = true ∧ h.fits false = true ∧ 24 ≤ x.msgSize ∧ tr.isWrite = false ∧
    tr.next ≤ next.toNat ∧ next.toNat ≤ tr.sent) ∧
    (∃ (s : State) (h : ReqHdr) (x : Session), s.session? h.sess = some x ∧
    ∃ (id : BitVec 16) (tr : Transfer), x.transfer? id.toNat = some tr ∧ tr.lastActive + 10000000000 < s.now) ∧
    (∃ (s : State) (h : ReqHdr) (x : Session) (id : BitVec 8) (st : Stream), s.session? h.sess = some x ∧
    (x.streams.find? (fun u => decide (u.id = id.toNat)) = some st) ∧
    s.ft % (st.period * 100000) = st.phase * 1000 % (st.period * 100000) ∧
    let batch := st.batch ++ [s.sampleBlock x st]
    batchFull x st batch.length = false) ∧
    (∃ (s : State) (h : ReqHdr) (x : Session) (id : BitVec 8) (st : Stream), s.session? h.sess = some x ∧
    (x.streams.find? (fun u => decide (u.id = id.toNat)) = some st) ∧
    s.ft % (st.period * 100000) = st.phase * 1000 % (st.period * 100000) ∧
    let batch := st.batch ++ [s.sampleBlock x st]
    batchFull x st batch.length = true) ∧
    (∃ (s : State) (p : Fin 2), s.get (K.portLinkState p) = 1) ∧
    (∃ (s : State) (p : Fin 2), s.getB (K.portEnable p) = true ∧ s.get (K.portLinkState p) = 0) ∧
    (∃ (s : State) (p : Fin 2) (w : HostWrite), s.takes (K.portEnable p) w ∧ w.num = 0 ∧ s.portOf w.sess = p) ∧
    (∃ (s : State) (p : Fin 2) (w : HostWrite), s.takes (K.portEnable p) w ∧ w.num = 0 ∧ s.portOf w.sess ≠ p) ∧
    (∃ (s : State) (p : Fin 2) (w : HostWrite), s.takes (K.portEnable p) w ∧ w.num = 1) ∧
    (∃ (s : State) (w : HostWrite), s.takes K.recRepeatWindow w) ∧
    (∃ (s : State) (w : HostWrite) (k : Nat), s.checkWrite (s.roleOf w.sess) k w.bytes ≠ 0 ∧
    s.checkWrite (s.roleOf w.sess) k w.bytes ≠ Cause.accessDenied) :=
  ⟨⟨wServe id, wReq, wSession, And.intro (by decide) (And.intro (by decide) (And.intro (by decide) (by decide))), BitVec.ofNat 24 K.recRepeatWindow, 100, by decide, by decide, by decide, by decide, by decide⟩,
   ⟨wServe id, wReq, wSession, And.intro (by decide) (And.intro (by decide) (And.intro (by decide) (by decide))), BitVec.ofNat 24 K.recRepeatWindow, 2, 100, by decide, by decide, by decide, by decide, by decide, by decide, rfl⟩,
   ⟨wServe (fun x => { x with transfers := [wTransfer false [1, 0] 0] }), wReq, ({ wSession with transfers := [wTransfer false [1, 0] 0] } : Session), And.intro (by decide) (And.intro (by decide) (And.intro (by decide) (by decide))), 3, wTransfer false [1, 0] 0, rfl, by decide⟩,
   ⟨wServe (fun x => { x with transfers := [wTransfer true [] 0] }), wReq, ({ wSession with transfers := [wTransfer true [] 0] } : Session), And.intro (by decide) (And.intro (by decide) (And.intro (by decide) (by decide))), 3, 0, wTransfer true [] 0, rfl, by decide, by decide, by decide⟩,
   ⟨wServe (fun x => { x with transfers := [wTransfer true [50, 0] 2] }), wReq, ({ wSession with transfers := [wTransfer true [50, 0] 2] } : Session), And.intro (by decide) (And.intro (by decide) (And.intro (by decide) (by decide))), 3, 2896774798, wTransfer true [50, 0] 2, rfl, by decide, by decide, And.intro (by decide) (by decide +kernel), And.intro (by decide) (by decide)⟩,
   ⟨wServe id, wReq, wSession, [], And.intro (by decide) (And.intro (by decide) (And.intro (by decide) (by decide))), by decide⟩,
   ⟨wServe id, wReq, wSession, 3, 10, [BitVec.ofNat 24 K.recRepeatWindow], And.intro (by decide) (And.intro (by decide) (And.intro (by decide) (by decide))), by decide, by decide, by decide, (fun k h => by rw [List.mem_singleton.mp h]; decide), by decide, by decide, by decide⟩,
   ⟨wServe (fun x => { x with transfers := [wTransfer true [] 0] }), wReq, ({ wSession with transfers := [wTransfer true [] 0] } : Session), rfl, 3, wTransfer true [] 0, by decide, 0, [1], by decide, by decide, by decide, by decide, by decide, by decide, by decide, by decide⟩,
   ⟨wServe (fun x => { x with transfers := [wTransfer true [] 0] }), wReq, ({ wSession with transfers := [wTransfer true [] 0] } : Session), rfl, 3, wTransfer true [] 0, by decide, 9, [1], by decide, by decide, by decide, by decide, by decide, by decide⟩,
   ⟨wServe (fun x => { x with transfers := [wTransfer false [1, 0] 0] }), wReq, ({ wSession with transfers := [wTransfer false [1, 0] 0] } : Session), rfl, 3, wTransfer false [1, 0] 0, by decide, 1, by decide, by decide, by decide, by decide, by decide, by decide⟩,
   ⟨wServe (fun x => { x with transfers := [wTransfer true [] 0] }), wReq, ({ wSession with transfers := [wTransfer true [] 0] } : Session), rfl, 3, wTransfer true [] 0, by decide, by decide⟩,
   ⟨wServe (fun x => { x with streams := [wStream 1] }), wReq, ({ wSession with streams := [wStream 1] } : Session), 2, wStream 1, rfl, rfl, by decide, by decide⟩,
   ⟨wServe (fun x => { x with streams := [wStream 10] }), wReq, ({ wSession with streams := [wStream 10] } : Session), 2, wStream 10, rfl, rfl, by decide, by decide⟩,
   ⟨wServe id, 0, by decide⟩,
   ⟨(wServe id).put (K.portLinkState 0) 0, 0, by decide, by decide⟩,
   ⟨wServe id, 0, wWrite [0], And.intro (by decide) (by decide), by decide, by decide⟩,
   ⟨wServe id, 1, wWrite [0], And.intro (by decide) (by decide), by decide, by decide⟩,
   ⟨wServe id, 0, wWrite [1], And.intro (by decide) (by decide), by decide⟩,
   ⟨wServe id, wWrite [50, 0], And.intro (by decide) (by decide)⟩,
   ⟨wServe id, wWrite [0], 0, by decide, by decide⟩⟩

theorem witness_QueuesTakeAndDeliverItems :
    (∃ (s : State) (q : Fin 512) (bytes : List Byte),
    let x := s.queue q
    ∃ (length : BitVec 14) (k : Nat), 1 ≤ length.toNat ∧ length.toNat ≤ 9216 ∧ x.waiting = none ∧
    s.room x (cellsOf (bytes.take length.toNat).length) = some k) ∧
    (∃ (s : State) (q : Fin 512) (bytes : List Byte),
    let x := s.queue q
    ∃ (length : BitVec 14), 1 ≤ length.toNat ∧ length.toNat ≤ 9216 ∧
    s.room x (cellsOf (bytes.take length.toNat).length) = none) ∧
    (∃ (s : State) (q : Fin 512) (prio : Fin 8) (bytes : List Byte),
    let x := s.queue q
    ∃ (length : BitVec 14) (i : QItem) (k : Nat),
    (x.items.find? (fun y => decide (y.prio = prio.val) && !y.complete) = some i) ∧ i.started = false ∧ x.waiting = none ∧
    let add := bytes.take (i.length - i.written)
    s.room x (cellsOf (i.written + add.length) - i.cells) = some k) ∧
    (∃ (s : State) (prio : Fin 8) (port : Fin 2) (bytes : List Byte),
    let inq := 64 + 8 * port.val + prio.val
    let good : BitVec 12 → Prop := fun vlan => vlan.toNat = s.getN (K.portVLANId port) ∧ 64 ≤ bytes.length ∧ bytes.length ≤ 9216 ∧
      frameServed bytes = true
    ∃ (vlan : BitVec 12), s.portUp port = true ∧
    ∃ (k : Nat), good vlan ∧ (s.queue inq).waiting = none ∧ s.room (s.queue inq) (cellsOf bytes.length) = some k) ∧
    (∃ (s : State) (port : Fin 2) (bytes : List Byte),
    let good : BitVec 12 → Prop := fun vlan => vlan.toNat = s.getN (K.portVLANId port) ∧ 64 ≤ bytes.length ∧ bytes.length ≤ 9216 ∧
      frameServed bytes = true
    ∃ (vlan : BitVec 12), s.portUp port = true ∧ ¬good vlan) ∧
    (∃ (s : State) (port : Fin 2), s.portUp port = true) ∧
    (∃ (s : State) (q : Fin 512),
    let x := s.queue q
    ∃ (i : QItem), s.readable x (s.skips q) = some i) ∧
    (∃ (s : State) (q : Fin 512),
    let x := s.queue q
    ∃ (i : QItem), s.readable x (s.skips q) = some i) ∧
    (∃ (s : State) (q : Fin 512),
    let x := s.queue q
    s.readable x (s.skips q) = none) ∧
    (∃ (s : State) (q : Fin 512),
    let x := s.queue q
    s.readable x (s.skips q) = none) ∧
    (∃ (s : State) (q : Fin 512),
    let x := s.queue q
    ∃ (deadline : Nat), x.waiting = some deadline ∧ deadline ≠ 0 ∧ deadline < s.ft) ∧
    (∃ (s : State) (q : Fin 512),
    let x := s.queue q
    ∃ (p : Nat × Nat), x.high = true ∧ pfcOf q = some p ∧ (s.getN (K.portPFCPriorities p.1)).testBit p.2 = true) ∧
    (∃ (s : State) (prio : Fin 8), prio.val = 7) ∧
    (∃ (s : State) (prio : Fin 8) (port : Fin 2), prio.val ≠ 7 ∧ (s.getN (K.portPFCPriorities port)).testBit prio = true) ∧
    (∃ (s : State) (q : Fin 512),
    let x := s.queue q
    ∃ (i : QItem), x.items = [i] ∧ 0 < i.spilled ∧ i.spilled ≤ s.dieRoom x) ∧
    (∃ (s : State) (q : Fin 512) (sess : Nat), s.takesByte (K.queueFlush q) sess 1) :=
  ⟨⟨wNode.put (K.queueGuaranteedCells 5) 8, 5, List.replicate 10 1, 10, 0, by decide, by decide, by decide, by decide⟩,
   ⟨(wNode.put (K.queueMaximumCells 5) 0).put (K.queueGuaranteedCells 5) 0, 5, List.replicate 10 1, 10, by decide, by decide, by decide⟩,
   ⟨((wQueued (fun x => { x with items := [{ wItem with written := 5, data := List.replicate 5 1, spilled := 0 }] })).put (K.queueGuaranteedCells 5) 8), 5, 3, List.replicate 10 1, 10, { wItem with written := 5, data := List.replicate 5 1, spilled := 0 }, 0, by decide, by decide, by decide, by decide⟩,
   ⟨(((wNode.put (K.portEnable 0) 1).put (K.portLinkState 0) 1).put (K.portVLANId 0) 7).put (K.queueGuaranteedCells 67) 8, 3, 0, (List.replicate 12 1 ++ [0x86, 0xDD] ++ List.replicate 6 0 ++ [58] ++ List.replicate 43 0), 7, by decide, 0, ⟨by decide, by decide, by decide, by decide⟩, by decide, by decide⟩,
   ⟨((wNode.put (K.portEnable 0) 1).put (K.portLinkState 0) 1).put (K.portVLANId 0) 7, 0, List.replicate 10 1, 8, by decide, fun h => absurd h.1 (by decide)⟩,
   ⟨((wNode.put (K.portEnable 0) 1).put (K.portLinkState 0) 1).put (K.portVLANId 0) 7, 0, by decide⟩,
   ⟨(wQueued (fun x => { x with items := [wItem] })).put (K.queueGuaranteedCells 5) 8, 5, wItem, rfl⟩,
   ⟨(wQueued (fun x => { x with items := [wItem] })).put (K.queueGuaranteedCells 5) 8, 5, wItem, rfl⟩,
   ⟨wNode, 5, by decide⟩,
   ⟨wNode, 5, by decide⟩,
   ⟨wQueued (fun x => { x with waiting := some 1 }), 5, 1, by decide, by decide, by decide⟩,
   ⟨(wNode.setQueue { Queue.empty 65 with high := true }).put (K.portPFCPriorities 0) 2, 65, (0, 1), by decide, rfl, by decide⟩,
   ⟨wNode, 7, by decide⟩,
   ⟨wNode.put (K.portPFCPriorities 0) 8, 3, 0, by decide, by decide⟩,
   ⟨(wQueued (fun x => { x with items := [wItem] })).put (K.queueGuaranteedCells 5) 8, 5, wItem, rfl, by decide, by decide⟩,
   ⟨wServe id, 5, 1, And.intro (by decide) (by decide)⟩⟩

theorem witness_CausesBecomeRecords :
    (∃ (s : State) (c : BitVec 16), s.inj.live = none ∧ statusOnly c.toNat = false ∧
    ∃ (k : Nat), s.triggerFor c.toNat = some k ∧ s.rcd.staging = [] ∧ s.rcd.ring = []) ∧
    (∃ (s : State) (c : BitVec 16) (subj : BitVec 32) (vals : BitVec 96),
    let a : Args := ⟨subj, vals⟩
    s.inj.live = none ∧ statusOnly c.toNat = false ∧
    ∃ (k : Nat), s.triggerFor c.toNat = some k ∧
    ∃ (e : StagedCause), s.rcd.staging = [e] ∧ e.takes s.repeatWindow c.toNat s.ft a = true) ∧
    (∃ (s : State) (c : BitVec 16), s.inj.live = none ∧ statusOnly c.toNat = false ∧
    ∃ (k : Nat), s.triggerFor c.toNat = some k ∧ s.rcd.staging.length = 64 ∧ s.rcd.ring = [] ∧
    (∀ e ∈ s.rcd.staging, e.cause ≠ c.toNat)) ∧
    (∃ (s : State) (c : BitVec 16), s.inj.live = none ∧ statusOnly c.toNat = false ∧ s.triggerFor c.toNat = none ∧
    alwaysRecorded c.toNat = false) ∧
    (∃ (s : State) (c : BitVec 16), statusOnly c.toNat = true) ∧
    (∃ (s : State) (e : StagedCause) (rest : List StagedCause),
    ∃ offered, s.rcd.staging = e :: rest ∧ s.ringRoom = true ∧ (offered = false → s.rcd.lostCount = 0)) ∧
    (∃ (s : State), s.rcd.flush.isSome = true) ∧
    (∃ (s : State), s.rcd.flush.isSome = true ∧ s.flushOver = true ∧ s.rcd.clearWaiting = none ∧
    s.cry.errorPending = false ∧ s.md.haltStage ≠ .journal) ∧
    (∃ (s : State) (sess : Nat), s.takesByte K.recClear sess 1 ∧ (s.roleOf sess).testBit 3 = true ∧ s.rcd.flush = none) ∧
    (∃ (s : State) (sess : Nat), s.takesByte K.recClear sess 1 ∧ (s.roleOf sess).testBit 3 = false) :=
  ⟨⟨wTrigger, 0x1001, by decide, by decide, 0, by decide, by decide, by decide⟩,
   ⟨wTrigger.modRcd (fun r => { r with staging := [wStaged] }), 0x1001, 3, 4, by decide, by decide, 0, by decide, wStaged, rfl, by decide⟩,
   ⟨wTrigger.modRcd (fun r => { r with staging := List.replicate 64 { wStaged with cause := 9 } }), 0x1001, by decide, by decide, 0, by decide, by decide, by decide, (fun _ h => by rw [(List.mem_replicate.mp h).2]; decide)⟩,
   ⟨wNode, 0x1001, by decide, by decide, by decide, by decide⟩,
   ⟨wNode, 0x0704, by decide⟩,
   ⟨wNode.modRcd (fun r => { r with staging := [wStaged] }), wStaged, [], true, rfl, by decide, by decide⟩,
   ⟨wNode.modRcd (fun r => { r with flush := some .clear }), by decide⟩,
   ⟨wNode.modRcd (fun r => { r with flush := some .clear }), by decide, by decide, by decide, by decide, by decide⟩,
   ⟨wServe (fun x => { x with role := 15 }), 1, And.intro (by decide) (by decide), by decide, by decide⟩,
   ⟨wServe id, 1, And.intro (by decide) (by decide), by decide⟩⟩

theorem witness_ThePairComparesAndMirrors :
    (∃ (s : State), s.md.mode.serves = true) ∧
    (∃ (s : State) (o : TickRec) (b : List Byte),
    let p := s.pair
    let r := TickRec.ofBytes b
    pairIs b 1 120 ∧ s.md.pins.maceOut = false ∧ p.compared.contains r.ft.toNat = false ∧ p.partner ≠ some r ∧
    (p.own.find? (fun y : TickRec => decide (y.ft = r.ft)) = some o)) ∧
    (∃ (s : State) (f : BitVec 64),
    let p := s.pair
    p.compared.contains f.toNat = false ∧ f.toNat + 10000 < s.ft ∧ s.md.mode.serves = true) ∧
    (∃ (s : State),
    let p := s.pair
    10000 ≤ p.badRun ∧ p.badSaid = false) ∧
    (∃ (s : State) (t0 : Nat),
    let p := s.pair
    p.offSince = some t0 ∧ t0 + 100000000 ≤ s.now ∧ p.offSaid = false ∧ s.md.pins.maceOut = false) ∧
    (∃ (s : State) (w : HostWrite), s.checkWrite (s.roleOf w.sess) K.loopOverdrawHold w.bytes = 0 ∧ s.mirrors = true) ∧
    (∃ (s : State) (b : List Byte),
    let p := s.pair
    let x := MirrorPart.ofBytes b
    pairIs b 2 (32 + wordAt b 28 2) ∧ s.md.pins.maceOut = false ∧ (∀ y ∈ p.waiting, y.seq ≠ x.seq.toNat) ∧
    p.loadedAt = none ∧ x.part = 0 ∧ x.parts = 0) ∧
    (∃ (s : State) (m : Mirror),
    let p := s.pair
    (s.md.pins.maceOut = true ∨ p.loadedAt.isSome = true) ∧ s.dueMirrors = [m] ∧ m.key = K.loopOverdrawHold) ∧
    (∃ (s : State) (b : List Byte), pairIs b 3 8 ∧ s.pairLinks ≠ []) ∧
    (∃ (s : State) (t0 : Nat),
    let p := s.pair
    p.resendAt = some t0 ∧ t0 + 1000000 ≤ s.now ∧ s.md.pins.maceOut = false) ∧
    (∃ (s : State), s.diagBits ≠ 0 ∧ s.md.pins.maceOut = false) ∧
    (∃ (s : State),
    let p := s.pair
    s.diagBits ≠ 0 ∧ s.md.pins.maceOut = true ∧ p.handover = none) ∧
    (∃ (s : State) (b : List Byte), pairIs b 8 64 ∧ s.getBytes K.healthPartnerHealth 64 ≠ b.take 64) ∧
    (∃ (s : State) (b : List Byte), pairIs b 8 64 ∧ s.getBytes K.healthPartnerHealth 64 = b.take 64) ∧
    (∃ (s : State) (b : List Byte), wordAt b 0 1 / 16 ≠ 1 ∧
    ∃ i,
    i ∈ [Instr.tickRecord b, Instr.mirror b, Instr.mirrorResend b, Instr.checkpointRequest b, Instr.handover b, Instr.handoverAck b, Instr.health b, Instr.stopShelfMessage b]) ∧
    (∃ (s : State),
    let p := s.pair
    p.healthAt + 300000000 < s.now ∧ p.healthSaid = false ∧ s.hasPartner = true ∧ s.md.mode.serves = true) :=
  ⟨⟨wPair .active true (id), by decide⟩,
   ⟨wPair .hotStandby false (fun p => { p with own := [wRec] }), wRec, ([0x10, 1] ++ wRec.rest), And.intro (by decide) (And.intro (by decide) (by decide)), by decide, by decide, by decide, by decide⟩,
   ⟨wPair .hotStandby false (id), 6000000000000, by decide, by decide, by decide⟩,
   ⟨wPair .hotStandby false (fun p => { p with badRun := 10000 }), by decide, by decide⟩,
   ⟨wPair .hotStandby false (fun p => { p with offSince := some 0 }), 0, rfl, by decide, by decide, by decide⟩,
   ⟨wPair .active true (id), wWrite [100, 0], by decide, by decide⟩,
   ⟨wPair .hotStandby false (id), ([0x10, 2] ++ wMirror.rest 0 1 [100, 0]), And.intro (by decide) (And.intro (by decide) (by decide)), by decide, (fun _ h => nomatch h), by decide, by decide, by decide⟩,
   ⟨wPair .hotStandby false (fun p => { p with waiting := [wMirror], awaited := 1, loadedAt := some 0 }), wMirror, .inr rfl, rfl, by decide⟩,
   ⟨wPair .active true (fun p => { p with log := [wMirror] }), [0x10, 3, 0, 0, 0, 0, 0, 0], And.intro (by decide) (And.intro (by decide) (by decide)), by decide⟩,
   ⟨wPair .hotStandby false (fun p => { p with resendAt := some 0 }), 0, rfl, by decide, by decide⟩,
   ⟨wPair .hotStandby false (fun p => { p with regionBad := true }), by decide, by decide⟩,
   ⟨wPair .active true (fun p => { p with regionBad := true }), by decide, by decide, by decide⟩,
   ⟨wPair .hotStandby false (id), ([0x10, 8] ++ List.replicate 62 1), And.intro (by decide) (And.intro (by decide) (by decide)), by decide⟩,
   ⟨(wPair .hotStandby false (id)).putBytes K.healthPartnerHealth ([0x10, 8] ++ List.replicate 62 1), ([0x10, 8] ++ List.replicate 62 1), And.intro (by decide) (And.intro (by decide) (by decide)), by decide⟩,
   ⟨wPair .hotStandby false (id), [0x20], by decide, Instr.health [0x20], by decide⟩,
   ⟨(wPair .hotStandby false (id)).put K.pairPartnerState 5, by decide, by decide, by decide, by decide⟩⟩

theorem witness_TheMaceChangesHands :
    (∃ (s : State),
    let p := s.pair
    s.md.pins.maceOut = true ∧ s.time.mode ≠ .invalid ∧ s.ft % (s.getN K.ckptCheckpointPeriod * 1000000) = 0 ∧
    s.now < p.streamEnd) ∧
    (∃ (s : State),
    let p := s.pair
    s.md.pins.maceOut = true ∧ s.time.mode ≠ .invalid ∧ s.ft % (s.getN K.ckptCheckpointPeriod * 1000000) = 0 ∧
    p.streamEnd ≤ s.now) ∧
    (∃ (s : State), s.md.pins.maceOut = false) ∧
    (∃ (s : State), s.md.pins.maceOut = false) ∧
    (∃ (s : State), s.md.pins.maceOut = false) ∧
    (∃ (s : State) (m : List Byte), pairIs m 5 2 ∧ s.md.pins.maceOut = true) ∧
    (∃ (s : State) (c : Checkpoint),
    let p := s.pair
    p.held = some c ∧ s.md.mode = .coldStandby ∧ p.askedAt.isSome = true ∧ p.loadedAt = none ∧ c.schedule.isSome = true ∧
    p.waiting = []) ∧
    (∃ (s : State) (t0 : Nat),
    let p := s.pair
    p.loadedAt = some t0 ∧ s.md.mode = .coldStandby ∧ t0 + 10000000000 ≤ s.now) ∧
    (∃ (s : State) (sess : Nat), s.takesByte K.ckptCatchUpRetry sess 1) ∧
    (∃ (s : State) (m : List Byte), pairIs m 6 12 ∧ s.md.mode = .hotStandby ∧ s.getB K.pairClaimArmed = true ∧
    s.pairLinks ≠ []) ∧
    (∃ (s : State) (b : HandoverSt) (m : List Byte),
    let p := s.pair
    let d := wordAt m 4 8
    p.handover = some b ∧ pairIs m 7 12 ∧ s.md.pins.maceOut = true ∧ b.at_ = d) ∧
    (∃ (s : State) (b : HandoverSt),
    let p := s.pair
    p.handover = some b ∧ s.md.pins.maceOut = true ∧ b.acked = false ∧ (b.at_ ≤ s.ft + 20000 ∨ s.partnerReady = false)) ∧
    (∃ (s : State) (b : HandoverSt),
    let p := s.pair
    p.handover = some b ∧ b.acked = true ∧ b.at_ ≤ s.ft ∧ s.md.pins.maceOut = true ∧ b.after = .stay) ∧
    (∃ (s : State) (b : HandoverSt),
    let p := s.pair
    let free := s.md.poweredOff = false ∧ s.md.heldInReset = false
    p.handover = some b ∧ b.acked = true ∧ b.at_ ≤ s.ft ∧ s.md.pins.maceOut = false ∧ s.getB K.pairClaimArmed = true ∧
    free) ∧
    (∃ (s : State) (m : List Byte), pairIs m 9 2 ∧ s.md.mode.serves = true ∧ s.md.pins.maceOut = false) ∧
    (∃ (s : State),
    let free := s.md.poweredOff = false ∧ s.md.heldInReset = false
    s.md.pins.maceOut = false ∧ s.getB K.pairClaimArmed = true ∧ free) ∧
    (∃ (s : State), s.md.pins.maceOut = true) ∧
    (∃ (s : State),
    let p := s.pair
    s.md.pins.maceOut = true ∧ p.leaseEnd ≤ s.now) ∧
    (∃ (s : State), s.md.pins.maceIn = true ∧ s.md.pins.maceOut = true ∧ s.md.pins.slotB = true) :=
  ⟨⟨(wPair .active true (fun p => { p with streamEnd := 8000000000000 })).put K.ckptCheckpointPeriod 1000 |>.modTime (fun t => { t with tb := 7000000000000, mode := .locked }), by decide, by decide, by decide, by decide⟩,
   ⟨(wPair .active true (id)).put K.ckptCheckpointPeriod 1000, by decide, by decide, by decide, by decide⟩,
   ⟨wPair .hotStandby false (id), by decide⟩,
   ⟨wPair .hotStandby false (id), by decide⟩,
   ⟨wPair .hotStandby false (id), by decide⟩,
   ⟨wPair .active true (id), [0x10, 5], And.intro (by decide) (And.intro (by decide) (by decide)), by decide⟩,
   ⟨wPair .coldStandby false (fun p => { p with held := some wCheckpoint, askedAt := some 0 }), wCheckpoint, rfl, by decide, by decide, by decide, by decide, by decide⟩,
   ⟨(wPair .coldStandby false (fun p => { p with loadedAt := some 0 })), 0, rfl, by decide, by decide⟩,
   ⟨wPair .coldStandby false (id), 1, And.intro (by decide) (by decide)⟩,
   ⟨(wPair .hotStandby false (id)).put K.pairClaimArmed 1, ([0x10, 6, 0, 0] ++ leBytes 8 7000000000000), And.intro (by decide) (And.intro (by decide) (by decide)), by decide, by decide, by decide⟩,
   ⟨wPair .active true (fun p => { p with handover := some ({ at_ := 7000000000000, acked := false, after := .stay } : HandoverSt) }), ({ at_ := 7000000000000, acked := false, after := .stay } : HandoverSt), ([0x10, 7, 0, 0] ++ leBytes 8 7000000000000), rfl, And.intro (by decide) (And.intro (by decide) (by decide)), by decide, by decide⟩,
   ⟨wPair .active true (fun p => { p with handover := some ({ at_ := 7000000000000, acked := false, after := .stay } : HandoverSt) }), ({ at_ := 7000000000000, acked := false, after := .stay } : HandoverSt), rfl, by decide, by decide, .inl (by decide)⟩,
   ⟨wPair .active true (fun p => { p with handover := some ({ at_ := 7000000000000, acked := true, after := .stay } : HandoverSt) }), ({ at_ := 7000000000000, acked := true, after := .stay } : HandoverSt), rfl, by decide, by decide, by decide, by decide⟩,
   ⟨(wPair .hotStandby false (fun p => { p with handover := some ({ at_ := 7000000000000, acked := true, after := .stay } : HandoverSt) })).put K.pairClaimArmed 1, ({ at_ := 7000000000000, acked := true, after := .stay } : HandoverSt), rfl, by decide, by decide, by decide, by decide, And.intro (by decide) (by decide)⟩,
   ⟨wPair .hotStandby false (id), [0x10, 9], And.intro (by decide) (And.intro (by decide) (by decide)), by decide, by decide⟩,
   ⟨(wPair .hotStandby false (id)).put K.pairClaimArmed 1, by decide, by decide, And.intro (by decide) (by decide)⟩,
   ⟨wPair .active true (id), by decide⟩,
   ⟨wPair .active true (id), by decide, by decide⟩,
   ⟨(wPair .active true (id)).modPins (fun p => { p with maceIn := true, slotB := true }), by decide, by decide, by decide⟩⟩

theorem witness_StartsResetsAndShutdowns :
    (∃ (s : State) (i : StartInputs),
    let m := s.md
    m.started = true ∧ m.heldInReset = false ∧ m.mainLoss = false ∧ m.romStopped = false ∧ m.mode = .rom ∧
    i.testFails = true) ∧
    (∃ (s : State) (i : StartInputs),
    let m := s.md
    let r := m.readDesc i.descTorn
    m.started = true ∧ m.heldInReset = false ∧ m.mainLoss = false ∧ m.romStopped = false ∧ m.mode = .rom ∧
    i.testFails = false ∧ s.cry.zeroised = none ∧ m.failedBank = none ∧ r.bankRuns r.preferB) ∧
    (∃ (s : State) (i : StartInputs),
    let m := s.md
    let r := m.readDesc i.descTorn
    m.started = true ∧ m.heldInReset = false ∧ m.mainLoss = false ∧ m.romStopped = false ∧ m.mode = .rom ∧
    i.testFails = false ∧ s.cry.zeroised = none ∧ m.failedBank = none ∧ r.bankA.state ≠ .valid ∧ r.bankB.state ≠ .valid) ∧
    (∃ (s : State),
    let m := s.md
    m.started = false) ∧
    (∃ (s : State),
    let m := s.md
    m.started = false) ∧
    (∃ (s : State),
    let m := s.md
    m.mode = .waiting ∧ s.gates = 511 ∧ m.pins.maceIn = true) ∧
    (∃ (s : State),
    let m := s.md
    m.mode = .waiting ∧ s.gates = 511 ∧ s.mayClaim ∧ m.pins.slotB = false) ∧
    (∃ (s : State) (t0 : Nat),
    let m := s.md
    m.gatesAt = some t0 ∧ m.mode = .coldStandby ∧ m.pins.slotB = true ∧ s.mayClaim ∧ s.gates = 511 ∧
    t0 + s.getN K.moduleSlotBDefer * 1000000 ≤ s.now) ∧
    (∃ (s : State) (t0 : Nat),
    let m := s.md
    m.step9At = some t0 ∧ t0 + 60000000000 ≤ s.now ∧ m.mode = .waiting ∧ s.gates ≠ 511 ∧ m.readinessSaid = false) ∧
    (∃ (s : State) (t0 : Nat),
    let m := s.md
    m.step9At = some t0 ∧ t0 + 60000000000 ≤ s.now ∧ m.confirmed = false ∧ m.running ≠ .recovery ∧ m.mainLoss = false ∧
    m.poweredOff = false) ∧
    (∃ (s : State),
    let m := s.md
    m.mode = .loading ∧ m.step9At = none ∧ m.handoverAt + 10000000000 ≤ s.now ∧ m.mainLoss = false) ∧
    (∃ (s : State),
    let m := s.md
    m.poweredOff = false ∧ m.heldInReset = false ∧ m.mainLoss = true) ∧
    (∃ (s : State),
    let m := s.md
    m.poweredOff = false ∧ m.heldInReset = false ∧ m.mainLoss = false) ∧
    (∃ (s : State) (sess : Nat),
    let m := s.md
    s.takesByte K.moduleResetCommand sess 1 ∧ m.pins.maceOut = false ∧ m.mainLoss = false) ∧
    (∃ (s : State) (sess : Nat),
    let m := s.md
    s.takesByte K.moduleResetCommand sess 1 ∧ m.pins.maceOut = true ∧ s.partnerReady = true) ∧
    (∃ (s : State) (sess : Nat),
    let m := s.md
    s.takesByte K.moduleResetCommand sess 1 ∧ m.pins.maceOut = true ∧ s.partnerReady = false) ∧
    (∃ (s : State) (sess : Nat),
    let m := s.md
    s.takesByte K.moduleResetCommand sess 2 ∧ m.mainLoss = false) ∧
    (∃ (s : State),
    let m := s.md
    m.fwArmed = true ∧ m.poweredOff = false ∧ m.mainLoss = true) ∧
    (∃ (s : State),
    let m := s.md
    m.fwArmed = true ∧ m.poweredOff = false ∧ m.mainLoss = false) ∧
    (∃ (s : State),
    let m := s.md
    m.fwArmed = true ∧ m.poweredOff = false ∧ m.mainLoss = false ∧ m.fwFedAt + 100000000 ≤ s.now) ∧
    (∃ (s : State),
    let m := s.md
    m.ctlArmed = true ∧ m.mainLoss = false ∧ s.pair.feedEnd ≤ s.now) ∧
    (∃ (s : State) (sess : Nat),
    let m := s.md
    s.takesByte K.moduleShutdownCommand sess 1 ∧ (m.mode = .coldStandby ∨ m.mode = .hotStandby ∨ m.mode = .waiting)) ∧
    (∃ (s : State) (sess : Nat),
    let m := s.md
    s.takesByte K.moduleShutdownCommand sess 1 ∧ m.mode = .active ∧ s.partnerReady = true) ∧
    (∃ (s : State) (sess : Nat),
    let m := s.md
    s.takesByte K.moduleShutdownCommand sess 1 ∧ m.mode = .active ∧ s.partnerReady = false) ∧
    (∃ (s : State) (sess : Nat),
    let m := s.md
    s.takesByte K.moduleShutdownCommand sess 2 ∧ m.mode = .active) ∧
    (∃ (s : State),
    let m := s.md
    m.shutdown = .ramping ∧ m.stopCap = true ∧ s.feedWatts < 2000 ∧ (s.controlMilli 43).natAbs < 5000 ∧
    (∃ x, (s.conv x).on = true)) ∧
    (∃ (s : State),
    let m := s.md
    m.shutdown = .ramping ∧ m.stopCap = true ∧ s.feedWatts < 2000 ∧ (s.controlMilli 43).natAbs < 5000 ∧
    (∀ x, (s.conv x).on = false)) ∧
    (∃ (s : State) (w : HostWrite),
    let m := s.md
    s.takes K.bankBankRetry w ∧
    let x := decide (w.num = 1)
    (m.bank x).state = .failed) ∧
    (∃ (s : State) (w : HostWrite),
    let m := s.md
    s.takes K.bankBankRetry w ∧
    let x := decide (w.num = 1)
    ((m.bank x).state = .invalid ∨ (m.bank x).state = .empty)) ∧
    (∃ (s : State) (t0 : Nat),
    let m := s.md
    m.mode = .recovery ∧ m.download = none ∧ (∀ t0, m.recAskedAt = some t0 → t0 + 1000000000 ≤ s.now) ∧ s.pairLinks ≠ []) ∧
    (∃ (s : State) (sess : Nat) (src : RecSource) (hb : List Byte) (sg : Bool),
    let m := s.md
    m.mode = .recovery ∧ m.download = none ∧ s.mayDownload src sess = true ∧
    s.headerCheck 1 bankBytes (ImageHdr.ofBytes sg hb) = 0) ∧
    (∃ (s : State) (sess : Nat) (src : RecSource),
    let m := s.md
    m.mode = .recovery ∧ m.download.isSome = true ∧ s.mayDownload src sess = true) ∧
    (∃ (s : State) (src : RecSource),
    let m := s.md
    m.mode = .recovery ∧ m.download = some src) ∧
    (∃ (s : State),
    let m := s.md
    m.mode = .recovery ∧ m.download.isSome = true ∧ m.mainLoss = false) ∧
    (∃ (s : State),
    let m := s.md
    m.mode = .recovery ∧ m.download.isSome = true ∧ m.mainLoss = false) ∧
    (∃ (s : State) (c : BitVec 32),
    let m := s.md
    m.mode.serves = true ∧ m.confirmed = true ∧ c.toNat ≤ m.fwCounter) ∧
    (∃ (s : State),
    let m := s.md
    m.download.isSome = true ∧ m.downloadAt + 10000000000 < s.now) :=
  ⟨⟨wModule (fun m => { m with started := true, mode := .rom }), ({ slotB := false, ringBad := [], stalls := false, testFails := true, descTorn := 0 } : StartInputs), by decide, by decide, by decide, by decide, by decide, by decide⟩,
   ⟨wModule (fun m => { m with started := true, mode := .rom, bankA := { m.bankA with state := .valid, magicOk := true, sigOk := true, hashOk := true } }.writeDesc), ({ slotB := false, ringBad := [], stalls := false, testFails := false, descTorn := 0 } : StartInputs), by decide, by decide, by decide, by decide, by decide, by decide, by decide, by decide, And.intro (by decide) (And.intro (by decide) (And.intro (by decide) (And.intro (by decide) (by decide))))⟩,
   ⟨wModule (fun m => { m with started := true, mode := .rom, bankA := { m.bankA with state := .invalid }, bankB := { m.bankB with state := .invalid } }.writeDesc), ({ slotB := false, ringBad := [], stalls := false, testFails := false, descTorn := 0 } : StartInputs), by decide, by decide, by decide, by decide, by decide, by decide, by decide, by decide, by decide, by decide⟩,
   ⟨wModule (fun m => { m with started := false }), by decide⟩,
   ⟨wModule (fun m => { m with started := false }), by decide⟩,
   ⟨(wWaiting id).modPins (fun p => { p with maceIn := true }), by decide, by decide +kernel, by decide⟩,
   ⟨wWaiting id, by decide, by decide +kernel, And.intro (by decide) (And.intro (by decide) (And.intro (by decide) (And.intro (by decide) (And.intro (by decide) (And.intro (by decide) (by decide)))))), by decide⟩,
   ⟨wWaiting (fun m => { m with gatesAt := some 0 }) |>.modMd (fun m => { m with mode := .coldStandby, pins := { m.pins with slotB := true } }), 0, rfl, by decide, by decide, And.intro (by decide) (And.intro (by decide) (And.intro (by decide) (And.intro (by decide) (And.intro (by decide) (And.intro (by decide) (by decide)))))), by decide +kernel, by decide⟩,
   ⟨wModule (fun m => { m with step9At := some 0, mode := .waiting }), 0, rfl, by decide, by decide, by decide, by decide⟩,
   ⟨wModule (fun m => { m with step9At := some 0, running := .a }), 0, rfl, by decide, by decide, by decide, by decide, by decide⟩,
   ⟨wModule (fun m => { m with mode := .loading }), by decide, by decide, by decide, by decide⟩,
   ⟨wModule (fun m => { m with mainLoss := true }), by decide, by decide, by decide⟩,
   ⟨wModule (fun m => { m with mode := .active }), by decide, by decide, by decide⟩,
   ⟨wPair .hotStandby false (id), 1, And.intro (by decide) (by decide), by decide, by decide⟩,
   ⟨(wPair .active true (wReady)).modPins (fun p => { p with peerOk := true }), 1, And.intro (by decide) (by decide), by decide, by decide⟩,
   ⟨wPair .active true (id), 1, And.intro (by decide) (by decide), by decide, by decide⟩,
   ⟨wPair .active true (id), 1, And.intro (by decide) (by decide), by decide⟩,
   ⟨wModule (fun m => { m with fwArmed := true, mainLoss := true }), by decide, by decide, by decide⟩,
   ⟨wModule (fun m => { m with fwArmed := true }), by decide, by decide, by decide⟩,
   ⟨wModule (fun m => { m with fwArmed := true }), by decide, by decide, by decide, by decide⟩,
   ⟨wModule (fun m => { m with ctlArmed := true }), by decide, by decide, by decide⟩,
   ⟨wPair .hotStandby false (id), 1, And.intro (by decide) (by decide), .inr (.inl rfl)⟩,
   ⟨(wPair .active true (wReady)).modPins (fun p => { p with peerOk := true }), 1, And.intro (by decide) (by decide), by decide, by decide⟩,
   ⟨wPair .active true (id), 1, And.intro (by decide) (by decide), by decide, by decide⟩,
   ⟨wPair .active true (id), 1, And.intro (by decide) (by decide), by decide⟩,
   ⟨(wModule (fun m => { m with shutdown := .ramping, stopCap := true })).modConv .storage (fun c => { c with on := true }), by decide, by decide, by decide, by decide, ⟨.storage, rfl⟩⟩,
   ⟨wModule (fun m => { m with shutdown := .ramping, stopCap := true }), by decide, by decide, by decide, by decide, fun x => by cases x <;> rfl⟩,
   ⟨wModule (fun m => { m with bankB := { m.bankB with state := .failed, failedStarts := 3 } }), wWrite [1], And.intro (by decide) (by decide), by decide⟩,
   ⟨wModule (fun m => { m with bankB := { m.bankB with state := .invalid } }), wWrite [1], And.intro (by decide) (by decide), .inl rfl⟩,
   ⟨wPair .recovery false (id), 0, by decide, by decide, (fun _ h => nomatch h), by decide⟩,
   ⟨wModule (fun m => { m with mode := .recovery }), 1, .pair, wHeaderBytes, true, by decide, by decide, by decide, by decide +kernel⟩,
   ⟨wModule (fun m => { m with mode := .recovery, download := some .ethernet }), 1, .pair, by decide, by decide, by decide⟩,
   ⟨wModule (fun m => { m with mode := .recovery, download := some .pair }), .pair, by decide, by decide⟩,
   ⟨wModule (fun m => { m with mode := .recovery, download := some .pair }), by decide, by decide, by decide⟩,
   ⟨wModule (fun m => { m with mode := .recovery, download := some .pair }), by decide, by decide, by decide⟩,
   ⟨wModule (fun m => { m with confirmed := true, mode := .active }), 0, by decide, by decide, by decide⟩,
   ⟨wModule (fun m => { m with download := some .pair }), by decide, by decide⟩⟩

theorem witness_SuppliesClocksAndTicks :
    (∃ (s : State),
    let m := s.md
    m.started = true ∧ m.poweredOff = false) ∧
    (∃ (s : State),
    let m := s.md
    m.onHold = true ∧ m.mainLoss = false) ∧
    (∃ (s : State),
    let m := s.md
    m.onHold = true ∧ m.mainLoss = false ∧ m.poweredOff = false) ∧
    (∃ (s : State),
    let m := s.md
    m.mainLoss = true ∧ m.poweredOff = false ∧
    ∃ (kind : ResetKind), s.rcd.flush = none ∧ m.resetWaiting = some kind) ∧
    (∃ (s : State),
    let m := s.md
    m.mainLoss = true ∧ m.poweredOff = false ∧ s.rcd.flush = none ∧ m.resetWaiting = none) ∧
    (∃ (s : State),
    let m := s.md
    m.mainLoss = true ∧ m.poweredOff = false) ∧
    (∃ (s : State) (x : Fin 5),
    let m := s.md
    let due := fun (x : Timer) (d : Nat) => ∃ t0, m.timers.lookup x = some t0 ∧ t0 + d ≤ s.now
    s.getN K.supplyHoldEnergy < 1500 ∧ s.mainPresent = true ∧ due .holdLow 1000000000) ∧
    (∃ (s : State) (v12 : BitVec 16) (x : Fin 5),
    let m := s.md
    let due := fun (x : Timer) (d : Nat) => ∃ t0, m.timers.lookup x = some t0 ∧ t0 + d ≤ s.now
    m.poweredOff = false ∧ (v12.toNat < 11400 ∨ 12600 < v12.toNat) ∧ due .mainRange 10000000) ∧
    (∃ (s : State) (vaux : BitVec 16) (x : Fin 5),
    let m := s.md
    let due := fun (x : Timer) (d : Nat) => ∃ t0, m.timers.lookup x = some t0 ∧ t0 + d ≤ s.now
    m.poweredOff = false ∧ vaux.toNat < 3135 ∧ due .auxLow 10000000) ∧
    (∃ (s : State) (g : Fin 9) (code : BitVec 6) (x : Fin 5),
    let m := s.md
    let k := K.trimTrim g
    let due := fun (x : Timer) (d : Nat) => ∃ t0, m.timers.lookup x = some t0 ∧ t0 + d ≤ s.now
    m.poweredOff = false ∧ code.toNat ≤ 8 ∧ s.get k < 60 ∧
    (m.timers.lookup (.trimRaised g) = none ∨ due (.trimRaised g) 1000000)) ∧
    (∃ (s : State) (g : Fin 9) (code : BitVec 6),
    let m := s.md
    let k := K.trimTrim g
    m.poweredOff = false ∧ code.toNat ≤ 2 ∧ s.get k = 60) ∧
    (∃ (s : State) (g : Fin 9) (code : BitVec 6),
    let m := s.md
    let k := K.trimTrim g
    m.poweredOff = false ∧ 24 ≤ code.toNat ∧ -60 < s.get k ∧
    (m.timers.lookup (.trimClear g)).getD m.startAt + 3600000000000 ≤ s.now) ∧
    (∃ (s : State) (tj : BitVec 16) (x : Fin 5),
    let m := s.md
    let deg := tj.toInt
    let due := fun (x : Timer) (d : Nat) => ∃ t0, m.timers.lookup x = some t0 ∧ t0 + d ≤ s.now
    (1080 ≤ deg ∨ (1050 ≤ deg ∧ due .junction105 1000000000)) ∧ m.junction.critical = false) ∧
    (∃ (s : State) (tj : BitVec 16),
    let m := s.md
    let deg := tj.toInt
    1150 ≤ deg ∧ m.poweredOff = false ∧ m.mainLoss = false) ∧
    (∃ (s : State) (tj : BitVec 16),
    let m := s.md
    let deg := tj.toInt
    1150 ≤ deg ∧ m.poweredOff = false ∧ m.mainLoss = true) ∧
    (∃ (s : State) (tj : BitVec 16),
    let m := s.md
    let deg := tj.toInt
    m.junction.trip = true ∧ deg < 900) ∧
    (∃ (s : State) (x : Fin 5),
    let m := s.md
    let due := fun (x : Timer) (d : Nat) => ∃ t0, m.timers.lookup x = some t0 ∧ t0 + d ≤ s.now
    600 ≤ s.getN K.supplyInputPower ∧ s.getN K.thermalFlowEstimate < 600 ∧ due .flowLow 1000000000) ∧
    (∃ (s : State) (x : Fin 5),
    let m := s.md
    let due := fun (x : Timer) (d : Nat) => ∃ t0, m.timers.lookup x = some t0 ∧ t0 + d ≤ s.now
    450 < s.get K.thermalCoolantInlet ∧ due .inletHigh 10000000000) ∧
    (∃ (s : State), s.time.refClock = true) ∧
    (∃ (s : State) (q : Fin 4),
    let m := s.md
    m.sdm[q] = .listening) ∧
    (∃ (s : State),
    let m := s.md
    s.time.mode ≠ .invalid ∧ s.ft % 1000000000 < 1000 ∧ m.poweredOff = false) ∧
    (∃ (s : State) (x : Fin 5),
    let tamper := s.tamperAction x
    tamper ≠ 2) ∧
    (∃ (s : State) (x : Fin 5),
    let tamper := s.tamperAction x
    tamper = 2) ∧
    (∃ (s : State), s.time.mode ≠ .invalid) :=
  ⟨⟨wModule (fun m => { m with started := true }), by decide, by decide⟩,
   ⟨wModule (fun m => { m with onHold := true }), by decide, by decide⟩,
   ⟨wModule (fun m => { m with onHold := true }), by decide, by decide, by decide⟩,
   ⟨wModule (fun m => { m with mainLoss := true, resetWaiting := some .pin }), by decide, by decide, .pin, by decide, rfl⟩,
   ⟨wModule (fun m => { m with mainLoss := true }), by decide, by decide, by decide, by decide⟩,
   ⟨wModule (fun m => { m with mainLoss := true }), by decide, by decide⟩,
   ⟨wModule (fun m => { m with started := true, timers := [(.holdLow, 0)] }), 1, by decide, by decide, ⟨0, rfl, by decide⟩⟩,
   ⟨wModule (fun m => { m with timers := [(.mainRange, 0)] }), 11000, 1, by decide, .inl (by decide), ⟨0, rfl, by decide⟩⟩,
   ⟨wModule (fun m => { m with timers := [(.auxLow, 0)] }), 3000, 1, by decide, by decide, ⟨0, rfl, by decide⟩⟩,
   ⟨wServe id, 2, 8, 1, by decide, by decide, by decide, .inl rfl⟩,
   ⟨(wServe id).put (K.trimTrim 2) 60, 2, 2, by decide, by decide, by decide⟩,
   ⟨wOld, 2, 24, by decide, by decide, by decide, by decide⟩,
   ⟨wServe id, 1080, 1, .inl (by decide), by decide⟩,
   ⟨wServe id, 1150, by decide, by decide, by decide⟩,
   ⟨wModule (fun m => { m with mainLoss := true }), 1150, by decide, by decide, by decide⟩,
   ⟨wModule (fun m => { m with heldInReset := true, junction := { m.junction with trip := true } }), 300, by decide, by decide⟩,
   ⟨(wModule (fun m => { m with timers := [(.flowLow, 0)] })).put K.supplyInputPower 900 |>.put K.thermalFlowEstimate 5, 1, by decide, by decide, ⟨0, rfl, by decide⟩⟩,
   ⟨(wModule (fun m => { m with timers := [(.inletHigh, 0)] })).put K.thermalCoolantInlet 451, 1, by decide, ⟨0, rfl, by decide⟩⟩,
   ⟨(wServe id).modTime (fun t => { t with refClock := true }), by decide⟩,
   ⟨wModule (fun m => { m with sdm := m.sdm.set 2 .listening }), 2, by decide⟩,
   ⟨wServe id, by decide, by decide, by decide⟩,
   ⟨(wServe id).put K.secTamperActions 0, 1, by decide⟩,
   ⟨(wServe id).put K.secTamperActions 8 |>.modMd (fun m => { m with started := true }), 1, by decide⟩,
   ⟨wServe id, by decide⟩⟩

theorem witness_SecurityUpdatesAndStimuli :
    (∃ (s : State) (w : HostWrite), s.takes K.secModeCommand w ∧
    let m : Nat := if w.num = 2 then 1 else 0
    s.getN K.secMode = m) ∧
    (∃ (s : State) (w : HostWrite), s.takes K.secModeCommand w ∧
    let m : Nat := if w.num = 2 then 1 else 0
    s.getN K.secMode ≠ m) ∧
    (∃ (s : State) (sess : Nat), s.takesByte K.secZeroise sess 1) ∧
    (∃ (s : State) (sess : Nat), s.takesByte K.secSelfTestCommand sess 1) ∧
    (∃ (s : State), s.cry.testing = true) ∧
    (∃ (s : State), s.md.poweredOff = false ∧ s.cry.errorPending = false) ∧
    (∃ (s : State) (w : HostWrite), s.takes K.secIdentityCertificate w) ∧
    (∃ (s : State) (w : HostWrite) (a : Fin 4), s.takes (K.anchorHostAnchors + a.val) w ∧
    (a.val ≠ 0 ∨ (∃ x ∈ w.bytes, x ≠ 0))) ∧
    (∃ (s : State) (w : HostWrite) (a : Fin 4), s.takes (K.anchorHostAnchors + a.val) w ∧ a.val = 0 ∧
    (∀ x ∈ w.bytes, x = 0)) ∧
    (∃ (s : State) (w : HostWrite), s.takes K.attestNonce w) ∧
    (∃ (s : State) (sess : Nat), (s.quoteOf sess).asked = true) ∧
    (∃ (s : State) (w : HostWrite) (a : Fin 4),
    let bankB := decide (w.num = 257)
    s.takes K.updCommit w ∧ (w.num = 256 ∨ w.num = 257) ∧ s.md.confirmed = true ∧
    (s.md.running = (if bankB then .b else .a)) ∧ s.md.fwCounter ≤ (s.md.bank bankB).rollback) ∧
    (∃ (s : State) (w : HostWrite) (a : Fin 4),
    let bankB := decide (w.num = 257)
    s.takes K.updCommit w ∧ (w.num = 256 ∨ w.num = 257) ∧ s.md.confirmed = true ∧
    (s.md.running = (if bankB then .b else .a)) ∧ (s.md.bank bankB).rollback < s.md.fwCounter) ∧
    (∃ (s : State) (w : HostWrite), s.takes K.updPrefer w ∧
    let x := decide (w.num = 1)
    (s.md.bank x).state = .valid ∧ s.cry.lease = none) ∧
    (∃ (s : State) (w : HostWrite), s.takes K.updPrefer w ∧
    let x := decide (w.num = 1)
    (s.md.bank x).state ≠ .valid) ∧
    (∃ (s : State) (a : Fin 4) (hb : List Byte) (sg : Bool),
    let target := s.getN (K.imgTarget a)
    let hd := ImageHdr.ofBytes sg hb
    let check := s.headerCheck (target / 256) (s.capacity target) hd
    s.getN (K.imgInputState a) = 1 ∧ (s.cry.inputs[a]).hdr = none ∧ check = 0 ∧ s.cry.lease = none) ∧
    (∃ (s : State) (a : Fin 4) (hb : List Byte) (sg : Bool),
    let target := s.getN (K.imgTarget a)
    let hd := ImageHdr.ofBytes sg hb
    let check := s.headerCheck (target / 256) (s.capacity target) hd
    s.getN (K.imgInputState a) = 1 ∧ (s.cry.inputs[a]).hdr = none ∧ (check ≠ 0 ∨ s.cry.lease.isSome = true)) ∧
    (∃ (s : State) (a : Fin 4) (h : ImageHdr), s.cry.lease = some a ∧ (s.cry.inputs[a]).hdr = some h) ∧
    (∃ (s : State) (a : Fin 4) (h : ImageHdr), s.cry.lease = some a ∧ (s.cry.inputs[a]).hdr = some h) ∧
    (∃ (s : State) (w : HostWrite) (a : Fin 4), s.takes (K.keyKey a) w ∧ s.keyState a = 0) ∧
    (∃ (s : State) (w : HostWrite) (a : Fin 4), s.takes (K.keyKey a) w ∧ s.keyState a ≠ 0) ∧
    (∃ (s : State) (sess : Nat) (a : Fin 4), s.takesByte (K.keyCommand a) sess 1 ∧ s.keyState a ≠ 0) ∧
    (∃ (s : State) (sess : Nat) (a : Fin 4), s.takesByte (K.keyCommand a) sess 2 ∧ s.keyState a = 1) ∧
    (∃ (s : State) (sess : Nat) (a : Fin 4), s.takesByte (K.keyCommand a) sess 2 ∧ s.keyState a = 2) ∧
    (∃ (s : State) (a : Fin 4), s.getN (K.keyCommandFT a) ≤ s.ft ∧ (∀ j : Fin 4, j ≠ a → s.cry.keyCmd[j] = none) ∧
    s.keyState a = 1 ∧ s.cry.keyCmd[a] = some 1) ∧
    (∃ (s : State) (a : Fin 4), s.getN (K.keyCommandFT a) ≤ s.ft ∧ (∀ j : Fin 4, j ≠ a → s.cry.keyCmd[j] = none) ∧
    s.keyState a = 1 ∧ s.cry.keyCmd[a] = some 2) ∧
    (∃ (s : State) (sess : Nat) (i : Fin 2816),
    let code := injCode i
    let refuses := s.md.pins.serviceEn = false ∨ (securityDetector code = true ∧ s.getN K.secMode = 0) ∨
      (code = 0x0715 ∧ s.getN (K.injSubject (injIndex code)) = s.portOf sess)
    s.takesByte (K.injArm i) sess 1 ∧ refuses) ∧
    (∃ (s : State) (sess : Nat) (i : Fin 2816),
    let code := injCode i
    let refuses := s.md.pins.serviceEn = false ∨ (securityDetector code = true ∧ s.getN K.secMode = 0) ∨
      (code = 0x0715 ∧ s.getN (K.injSubject (injIndex code)) = s.portOf sess)
    s.takesByte (K.injArm i) sess 1 ∧ ¬ refuses ∧ s.injArmed code = false ∧ s.inj.points.length < 16) ∧
    (∃ (s : State) (sess : Nat) (i : Fin 2816),
    let code := injCode i
    let refuses := s.md.pins.serviceEn = false ∨ (securityDetector code = true ∧ s.getN K.secMode = 0) ∨
      (code = 0x0715 ∧ s.getN (K.injSubject (injIndex code)) = s.portOf sess)
    s.takesByte (K.injArm i) sess 2 ∧ refuses) ∧
    (∃ (s : State) (sess : Nat) (i : Fin 2816),
    let code := injCode i
    let refuses := s.md.pins.serviceEn = false ∨ (securityDetector code = true ∧ s.getN K.secMode = 0) ∨
      (code = 0x0715 ∧ s.getN (K.injSubject (injIndex code)) = s.portOf sess)
    s.takesByte (K.injArm i) sess 2 ∧ ¬ refuses ∧ s.injArmed code = false ∧ s.inj.points.length < 16) ∧
    (∃ (s : State) (sess : Nat) (i : Fin 2816), s.takesByte (K.injArm i) sess 0) ∧
    (∃ (s : State) (sess : Nat), s.takesByte K.injCtlDisarmAll sess 1) ∧
    (∃ (s : State), s.md.pins.serviceEn = false) ∧
    (∃ (s : State) (i : Fin 2816) (p : InjPoint),
    let code := injCode i
    s.md.pins.serviceEn = true ∧ s.inj.points = [p] ∧ p.nextAt ≤ s.ft ∧ Dict.stimulus.contains p.code = false ∧
    p.acted = false) ∧
    (∃ (s : State) (i : Fin 2816) (p : InjPoint),
    let code := injCode i
    s.md.pins.serviceEn = true ∧ s.inj.points = [p] ∧ p.nextAt ≤ s.ft ∧ Dict.stimulus.contains p.code = false ∧
    p.acted = true) :=
  ⟨⟨wServe id, wWrite [1], And.intro (by decide) (by decide), by decide⟩,
   ⟨wServe id, wWrite [2], And.intro (by decide) (by decide), by decide⟩,
   ⟨wServe id, 1, And.intro (by decide) (by decide)⟩,
   ⟨wServe id, 1, And.intro (by decide) (by decide)⟩,
   ⟨(wServe id).modCry (fun x => { x with testing := true }), by decide⟩,
   ⟨wServe id, by decide, by decide⟩,
   ⟨wServe id, wWrite (List.replicate 2048 1), And.intro (by decide) (by decide)⟩,
   ⟨wServe id, wWrite (List.replicate 2048 0), 2, And.intro (by decide) (by decide), .inl (by decide)⟩,
   ⟨wServe id, wWrite (List.replicate 8192 0), 0, And.intro (by decide) (by decide), by decide, (fun x h => List.eq_of_mem_replicate h)⟩,
   ⟨wServe id, wWrite (List.replicate 32 7), And.intro (by decide) (by decide)⟩,
   ⟨(wServe id).modCry (fun x => { x with quotes := [{ sess := 1, nonce := List.replicate 32 1, mask := 3, asked := true, quote := none }] }), 1, by decide⟩,
   ⟨wModule (fun m => { m with confirmed := true, running := .b, bankB := { m.bankB with rollback := 4 } }), wWrite [1, 1], 2, And.intro (by decide) (by decide), .inr rfl, by decide, by decide, by decide⟩,
   ⟨wModule (fun m => { m with confirmed := true, running := .b, fwCounter := 9, bankB := { m.bankB with rollback := 4 } }), wWrite [1, 1], 2, And.intro (by decide) (by decide), .inr rfl, by decide, by decide, by decide⟩,
   ⟨wModule (fun m => { m with bankB := { m.bankB with state := .valid } }), wWrite [1], And.intro (by decide) (by decide), by decide, by decide⟩,
   ⟨wModule (fun m => { m with bankB := { m.bankB with state := .failed } }), wWrite [1], And.intro (by decide) (by decide), by decide⟩,
   ⟨((wServe id).put (K.imgTarget 2) 256).put (K.imgInputState 2) 1, 2, wHeaderBytes, true, by decide, by decide, by decide, by decide⟩,
   ⟨(((wServe id).put (K.imgTarget 2) 256).put (K.imgInputState 2) 1).modCry (fun x => { x with lease := some 1 }), 2, wHeaderBytes, true, by decide, by decide, by decide⟩,
   ⟨(((wServe id).put (K.imgTarget 2) 256).put (K.imgInputState 2) 1).modCry (fun x => { x with lease := some 2, inputs := x.inputs.set 2 { (x.inputs[2]) with sess := 1, hdr := some wHeader } }), 2, wHeader, by decide, rfl⟩,
   ⟨(((wServe id).put (K.imgTarget 2) 256).put (K.imgInputState 2) 1).modCry (fun x => { x with lease := some 2, inputs := x.inputs.set 2 { (x.inputs[2]) with sess := 1, hdr := some wHeader } }), 2, wHeader, by decide, rfl⟩,
   ⟨wServe id, wWrite (List.replicate 32 7), 2, And.intro (by decide) (by decide), by decide⟩,
   ⟨(wServe id).put (K.keyKeyState 2) 1, wWrite (List.replicate 32 7), 2, And.intro (by decide) (by decide), by decide⟩,
   ⟨(wServe id).put (K.keyKeyState 2) 1, 1, 2, And.intro (by decide) (by decide), by decide⟩,
   ⟨(wServe id).put (K.keyKeyState 2) 1, 1, 2, And.intro (by decide) (by decide), by decide⟩,
   ⟨(wServe id).put (K.keyKeyState 2) 2, 1, 2, And.intro (by decide) (by decide), by decide⟩,
   ⟨((wServe id).put (K.keyKeyState 2) 1).modCry (fun x => { x with keyCmd := x.keyCmd.set 2 (some 1) }), 2, by decide, (by intro j h; revert j; decide), by decide, by decide⟩,
   ⟨((wServe id).put (K.keyKeyState 2) 1).modCry (fun x => { x with keyCmd := x.keyCmd.set 2 (some 2) }), 2, by decide, (by intro j h; revert j; decide), by decide, by decide⟩,
   ⟨wServe id, 1, 1, And.intro (by decide) (by decide), .inl rfl⟩,
   ⟨(wServe id).modPins (fun p => { p with serviceEn := true }), 1, 1, And.intro (by decide) (by decide), (by decide), by decide, by decide⟩,
   ⟨wServe id, 1, 1, And.intro (by decide) (by decide), .inl rfl⟩,
   ⟨(wServe id).modPins (fun p => { p with serviceEn := true }), 1, 1, And.intro (by decide) (by decide), (by decide), by decide, by decide⟩,
   ⟨wServe id, 1, 1, And.intro (by decide) (by decide)⟩,
   ⟨wServe id, 1, And.intro (by decide) (by decide)⟩,
   ⟨wServe id, by decide⟩,
   ⟨wArmed { code := 0x0802, continuous := false, nextAt := 5, acted := false }, 1, ({ code := 0x0802, continuous := false, nextAt := 5, acted := false } : InjPoint), by decide, rfl, by decide, by decide, by decide⟩,
   ⟨wArmed { code := 0x0802, continuous := true, nextAt := 5, acted := true }, 1, ({ code := 0x0802, continuous := true, nextAt := 5, acted := true } : InjPoint), by decide, rfl, by decide, by decide, by decide⟩⟩


end Sys2Proof.Machine
end

section
/-! How the model rounds (R9): `rheDiv` takes the quotient below or the one above, whichever the remainder allows. -/

namespace Sys2Proof.Machine

/-- `rheDiv` rounds down where the remainder is at most half of the divisor and up where it is at least half; at
exactly half, the quotient it takes is the even one. -/
theorem rheDiv_down_or_up (a : Int) (d : Nat) :
    (rheDiv a d = a / d ∧ 2 * (a % d) ≤ d ∧ (2 * (a % d) = d → rheDiv a d % 2 = 0)) ∨
    (rheDiv a d = a / d + 1 ∧ d ≤ 2 * (a % d) ∧ (2 * (a % d) = d → rheDiv a d % 2 = 0)) := by
  unfold rheDiv
  by_cases hlt : 2 * (a % (d : Int)) < d
  · rw [if_pos hlt]; omega
  by_cases hgt : 2 * (a % (d : Int)) > d
  · rw [if_neg hlt, if_pos hgt]; omega
  rw [if_neg hlt, if_neg hgt]
  by_cases heven : a / (d : Int) % 2 = 0
  · rw [if_pos heven]; omega
  · rw [if_neg heven]; omega

/-- Settles O9: the error is minus the remainder where the quotient is rounded down, and the divisor less the
remainder where it is rounded up; both bounds, and the tie, are read off the remainder. -/
theorem roundingIsHalfEven : Obligations.RoundingIsHalfEven := by
  intro a d hd
  have hr : 0 ≤ a % (d : Int) := Int.emod_nonneg a (by omega)
  have hrd : a % (d : Int) < d := Int.emod_lt_of_pos a (by omega)
  have hqr : (d : Int) * (a / d) + a % d = a := Int.mul_ediv_add_emod a d
  obtain ⟨hdown, hle, htie⟩ | ⟨hup, hge, htie⟩ := rheDiv_down_or_up a d
  · have herr : rheDiv a d * d - a = -(a % d) := by rw [hdown]; linarith
    rw [herr]
    exact ⟨by omega, by omega, fun hhalf => htie (by omega)⟩
  · have herr : rheDiv a d * d - a = d - a % d := by rw [hup]; linarith
    rw [herr]
    exact ⟨by omega, by omega, fun hhalf => htie (by omega)⟩

end Sys2Proof.Machine
end

section
/-! What a timer is after it is noted, what a read of an object gives through the combinators, and what the module's own
state is after diagnosis and after the mace is dropped. -/

namespace Sys2Proof.Machine

/-! ### Combinators and reads -/

theorem Does.of_next {i : Instr} {s t : State} {P : State → Prop} (h : exec i s = .next t) (hP : P t) : Does i s P := ⟨t, h, hP⟩

@[simp] theorem State.when_true (f : State → State) (s : State) : s.when true f = f s := rfl
@[simp] theorem State.when_false (f : State → State) (s : State) : s.when false f = s := rfl

/-- What holds before a conditional change, and is kept by the change, holds after it. -/
theorem State.when_preserves {P : State → Prop} {s : State} (b : Bool) {f : State → State} (hs : P s) (hf : P s → P (f s)) :
    P (s.when b f) := by
  cases b with
  | false => exact hs
  | true => exact hf hs

/-- What holds before a loop, and is kept by each of its rounds, holds after it. -/
theorem State.each_preserves {α : Type} {P : State → Prop} {s : State} (l : List α) {f : α → State → State} (hs : P s)
    (hf : ∀ a t, P t → P (f a t)) : P (s.each l f) := by
  unfold State.each
  induction l generalizing s with
  | nil => exact hs
  | cons a l ih => exact ih (hf a s hs)

@[simp] theorem State.get_modMd (f : ModState → ModState) (s : State) (k : Nat) : (s.modMd f).get k = s.get k := rfl
@[simp] theorem State.get_modPins (f : Pins → Pins) (s : State) (k : Nat) : (s.modPins f).get k = s.get k := rfl
@[simp] theorem State.get_modJunction (f : Junction → Junction) (s : State) (k : Nat) : (s.modJunction f).get k = s.get k := rfl
@[simp] theorem State.modPins_md (f : Pins → Pins) (s : State) : (s.modPins f).md = { s.md with pins := f s.md.pins } := rfl
@[simp] theorem State.modJunction_md (f : Junction → Junction) (s : State) :
    (s.modJunction f).md = { s.md with junction := f s.md.junction } := rfl

theorem State.getN_of_get {s : State} {k n : Nat} (h : s.get k = n) : s.getN k = n := by simp [State.getN, h]

theorem State.get_inc_other (k j : Nat) (s : State) (h : j ≠ k) : (s.inc k).get j = s.get j :=
  State.get_countBy_other _ _ _ _ _ h

theorem State.get_putB_other (k j : Nat) (b : Bool) (s : State) (h : j ≠ k) : (s.putB k b).get j = s.get j :=
  State.get_put_other _ _ _ _ h

/-- One more in a counter counts by 1. -/
theorem State.inc_counts (k : Nat) (s : State) : counts s (s.inc k) k 1 := State.get_countBy_same 32 k 1 s

theorem counts_of_get_eq {s t u : State} {k n : Nat} (h : counts s t k n) (hu : u.get k = t.get k) : counts s u k n :=
  fun hb => hu.trans (h hb)

theorem counts_from_get_eq {s t u : State} {k n : Nat} (h : counts t u k n) (hs : t.get k = s.get k) : counts s u k n := by
  unfold counts at *
  rwa [hs] at h

/-! ### Timers -/

/-- The timed conditions after one of them is noted at a local time. -/
def timersNoted (l : List (Timer × Nat)) (t : Timer) (holds : Bool) (now : Nat) : List (Timer × Nat) :=
  if holds then (if (l.lookup t).isSome then l else (t, now) :: l) else l.filter (fun e : Timer × Nat => decide (e.1 ≠ t))

/-- Noting a timed condition changes the list of timers and nothing else. -/
theorem State.noteTimer_eq (t : Timer) (holds : Bool) (s : State) :
    s.noteTimer t holds = s.modMd (fun m => { m with timers := timersNoted m.timers t holds s.now }) := by
  unfold State.noteTimer timersNoted State.modMd
  dsimp only
  split
  · split <;> rfl
  · rfl

theorem lookup_filter_other (l : List (Timer × Nat)) {t u : Timer} (h : u ≠ t) :
    (l.filter (fun e : Timer × Nat => decide (e.1 ≠ t))).lookup u = l.lookup u := by
  induction l with
  | nil => rfl
  | cons e l ih =>
    obtain ⟨a, n⟩ := e
    by_cases ha : a = t
    · subst ha
      simpa [List.lookup_cons, beq_false_of_ne h] using ih
    · simp [ha, List.lookup_cons, ← ih]

/-- The other timers run on. -/
theorem timersNoted_other (l : List (Timer × Nat)) {t u : Timer} (b : Bool) (now : Nat) (h : u ≠ t) :
    (timersNoted l t b now).lookup u = l.lookup u := by
  unfold timersNoted
  split
  · split
    · rfl
    · simp [List.lookup_cons, beq_false_of_ne h]
  · exact lookup_filter_other l h

theorem State.noteTimer_timers_other {t u : Timer} (b : Bool) (s : State) (h : u ≠ t) :
    (s.noteTimer t b).md.timers.lookup u = s.md.timers.lookup u := by
  rw [State.noteTimer_eq]
  exact timersNoted_other _ _ _ h

theorem State.heldFor_eq {s t : State} (x : Timer) (d : Nat) (h : t.md.timers.lookup x = s.md.timers.lookup x)
    (ht : t.time = s.time) : t.heldFor x d = s.heldFor x d := by
  unfold State.heldFor State.now
  rw [h, ht]

/-- A condition that is timed already goes on being timed. -/
theorem State.noteTimer_running {s : State} {t : Timer} {t0 : Nat} (h : s.md.timers.lookup t = some t0) :
    s.noteTimer t true = s := by
  simp [State.noteTimer, h]

theorem State.heldFor_of_due {s : State} {x : Timer} {d : Nat} (h : ∃ t0, s.md.timers.lookup x = some t0 ∧ t0 + d ≤ s.now) :
    s.heldFor x d = true := by
  obtain ⟨t0, hl, ht⟩ := h
  simp [State.heldFor, hl, ht]

theorem State.noteTimer_time (t : Timer) (b : Bool) (s : State) : (s.noteTimer t b).time = s.time := by
  rw [State.noteTimer_eq, State.modMd_time]

theorem State.noteTimer_pins (t : Timer) (b : Bool) (s : State) : (s.noteTimer t b).md.pins = s.md.pins := by
  rw [State.noteTimer_eq, State.modMd_md]

/-- A timer restarted changes the list of timers and nothing else. -/
theorem State.restartTimer_eq (t : Timer) (s : State) : s.restartTimer t =
    s.modMd (fun m => { m with timers := timersNoted (timersNoted m.timers t false s.now) t true s.now }) := by
  unfold State.restartTimer
  rw [State.noteTimer_eq, State.noteTimer_eq]
  rfl

theorem State.restartTimer_timers_other {t u : Timer} (s : State) (h : u ≠ t) :
    (s.restartTimer t).md.timers.lookup u = s.md.timers.lookup u :=
  (State.noteTimer_timers_other _ _ h).trans (State.noteTimer_timers_other _ _ h)

end Sys2Proof.Machine
end

section
/-! What raising a cause, self-diagnosis, dropping the mace and a reset leave. -/

namespace Sys2Proof.Machine

/-! ### Raising a cause opens no session -/

@[simp] theorem State.countBy_host (b k n : Nat) (s : State) : (s.countBy b k n).host = s.host := by
  unfold State.countBy
  split <;> rfl

@[simp] theorem State.inc_host (k : Nat) (s : State) : (s.inc k).host = s.host := State.countBy_host _ _ _ _

@[simp] theorem State.countBy_rcd (b k n : Nat) (s : State) : (s.countBy b k n).rcd = s.rcd := by
  unfold State.countBy
  split <;> rfl

@[simp] theorem State.inc_rcd (k : Nat) (s : State) : (s.inc k).rcd = s.rcd := State.countBy_rcd _ _ _ _

@[simp] theorem State.putMax_host (k : Nat) (v : Int) (s : State) : (s.putMax k v).host = s.host := by
  unfold State.putMax
  split <;> rfl

theorem State.preparePush_sessions_length (p : Push) (s : State) :
    (s.preparePush p).host.sessions.length = s.host.sessions.length := by
  unfold State.preparePush
  refine State.when_preserves (P := fun t => t.host.sessions.length = s.host.sessions.length) _ ?_ fun h => ?_
  · exact List.length_map _
  · rwa [State.countBy_host]

theorem State.offerNew_sessions_length (c ft : Nat) (a : Args) (t : Option Nat) (s : State) :
    (State.offerCause.offerNew c ft a t s).host.sessions.length = s.host.sessions.length := by
  unfold State.offerCause.offerNew
  split <;> rw [State.preparePush_sessions_length]
  · simp [State.stage]
  · simp [State.notStaged]

theorem State.offerCause_sessions_length (c ft : Nat) (a : Args) (t : Option Nat) (s : State) :
    (s.offerCause c ft a t).host.sessions.length = s.host.sessions.length := by
  have hnew := State.offerNew_sessions_length c ft a t s
  have hnext : (State.offerCause.offerNext c ft a t s).host.sessions.length = s.host.sessions.length := by
    unfold State.offerCause.offerNext
    dsimp only
    split
    · split
      · rw [State.preparePush_sessions_length]
      · exact hnew
    · exact hnew
  unfold State.offerCause
  dsimp only
  split
  · split
    · rw [State.preparePush_sessions_length]
    · exact hnext
  · exact hnext

theorem State.raiseOwn_sessions_length (c ft : Nat) (a : Args) (s : State) :
    (s.raiseOwn c ft a).host.sessions.length = s.host.sessions.length := by
  unfold State.raiseOwn
  split
  · rw [State.offerCause_sessions_length, State.inc_host]
  · split
    · exact State.offerCause_sessions_length _ _ _ _ _
    · exact State.preparePush_sessions_length _ _

theorem State.raise_sessions_length (c : Nat) (a : Args) (s : State) :
    (s.raise c a).host.sessions.length = s.host.sessions.length := by
  unfold State.raise State.raiseAt
  split
  · split <;> exact State.raiseOwn_sessions_length _ _ _ _
  · exact State.raiseOwn_sessions_length _ _ _ _

theorem State.raise_sessions_nil {s : State} (c : Nat) (a : Args) (h : s.host.sessions = []) :
    (s.raise c a).host.sessions = [] :=
  List.length_eq_zero_iff.1 ((State.raise_sessions_length c a s).trans (by rw [h]; rfl))

/-! ### Raising a cause does not look at the module's own state -/

theorem State.when_modMd (b : Bool) (f : State → State) (g : ModState → ModState) (s : State)
    (h : f (s.modMd g) = (f s).modMd g) : (s.modMd g).when b f = (s.when b f).modMd g := by
  cases b with
  | false => rfl
  | true => exact h

theorem State.countBy_modMd (b k n : Nat) (g : ModState → ModState) (s : State) :
    (s.modMd g).countBy b k n = (s.countBy b k n).modMd g := by
  unfold State.countBy
  rw [State.get_modMd]
  split <;> rfl

theorem State.preparePush_modMd (p : Push) (g : ModState → ModState) (s : State) :
    (s.modMd g).preparePush p = (s.preparePush p).modMd g := by
  unfold State.preparePush
  exact State.when_modMd _ _ g { s with host := { s.host with sessions := s.host.sessions.map (fun x : Session => x.offer p) } }
    (State.countBy_modMd _ _ _ _ _)

theorem State.putMax_modMd (k : Nat) (v : Int) (g : ModState → ModState) (s : State) :
    (s.modMd g).putMax k v = (s.putMax k v).modMd g := by
  unfold State.putMax
  rw [State.get_modMd]
  split <;> rfl

theorem State.stage_modMd (e : StagedCause) (g : ModState → ModState) (s : State) :
    (s.modMd g).stage e = (s.stage e).modMd g :=
  State.putMax_modMd _ _ g { s with rcd := { s.rcd with staging := s.rcd.staging ++ [e] } }

theorem State.notStaged_modMd (ft : Nat) (g : ModState → ModState) (s : State) :
    (s.modMd g).notStaged ft = (s.notStaged ft).modMd g :=
  State.countBy_modMd _ _ _ g { s with rcd := { s.rcd with
    lostCount := s.rcd.lostCount + 1
    lostFirst := if s.rcd.lostCount = 0 then ft else s.rcd.lostFirst
    lostLast := ft } }

theorem State.offerNew_modMd (c ft : Nat) (a : Args) (t : Option Nat) (g : ModState → ModState) (s : State) :
    State.offerCause.offerNew c ft a t (s.modMd g) = (State.offerCause.offerNew c ft a t s).modMd g := by
  unfold State.offerCause.offerNew
  rw [State.modMd_rcd]
  split
  · rw [← State.preparePush_modMd, ← State.stage_modMd]
    rfl
  · rw [← State.preparePush_modMd, ← State.notStaged_modMd]

theorem State.offerNext_modMd (c ft : Nat) (a : Args) (t : Option Nat) (g : ModState → ModState) (s : State) :
    State.offerCause.offerNext c ft a t (s.modMd g) = (State.offerCause.offerNext c ft a t s).modMd g := by
  have hw : (s.modMd g).repeatWindow = s.repeatWindow := rfl
  unfold State.offerCause.offerNext
  dsimp only
  rw [State.modMd_rcd, hw]
  split
  · split
    · rw [← State.preparePush_modMd]
      rfl
    · exact State.offerNew_modMd _ _ _ _ _ _
  · exact State.offerNew_modMd _ _ _ _ _ _

theorem State.offerCause_modMd (c ft : Nat) (a : Args) (t : Option Nat) (g : ModState → ModState) (s : State) :
    (s.modMd g).offerCause c ft a t = (s.offerCause c ft a t).modMd g := by
  have hw : (s.modMd g).repeatWindow = s.repeatWindow := rfl
  unfold State.offerCause
  dsimp only
  rw [State.modMd_rcd, hw]
  split
  · split
    · rw [← State.preparePush_modMd]
      rfl
    · exact State.offerNext_modMd _ _ _ _ _ _
  · exact State.offerNext_modMd _ _ _ _ _ _

theorem State.raiseOwn_modMd (c ft : Nat) (a : Args) (g : ModState → ModState) (s : State) :
    (s.modMd g).raiseOwn c ft a = (s.raiseOwn c ft a).modMd g := by
  have ht : (s.modMd g).triggerFor c = s.triggerFor c := rfl
  unfold State.raiseOwn
  rw [ht]
  split
  · unfold State.inc
    rw [State.countBy_modMd, State.offerCause_modMd]
  · split
    · exact State.offerCause_modMd _ _ _ _ _ _
    · exact State.preparePush_modMd _ _ _

/-- Raising a cause after a change of the module's own state does what it does before it. -/
theorem State.raise_modMd (c : Nat) (a : Args) (g : ModState → ModState) (s : State) :
    (s.modMd g).raise c a = (s.raise c a).modMd g := by
  have hf : (s.modMd g).ft = s.ft := rfl
  unfold State.raise State.raiseAt
  rw [State.modMd_inj, hf]
  split
  · split <;> exact State.raiseOwn_modMd _ _ _ _ _
  · exact State.raiseOwn_modMd _ _ _ _ _

/-! ### Self-diagnosis (R52, R433) -/

/-- OK_OUT may be high: main is present, the firmware runs and self-diagnosis passes. -/
def State.passes (s : State) : Bool :=
  decide (s.diagBits = 0) && !s.md.mainLoss && !s.md.poweredOff && s.md.mode.serves

/-- What self-diagnosis writes once it has found its conditions. -/
def State.showDiagnosis (conditions : Nat) (ok : Bool) (s : State) : State :=
  let t := (s.put K.healthSelfDiagnosis conditions).modPins (fun p => { p with okOut := ok })
  if !ok && !t.md.pins.maceOut then t.armClaim false
  else if ok && decide (t.md.mode = .hotStandby) then t.armClaim true
  else t

theorem State.diagnose_eq (s : State) : s.diagnose = s.showDiagnosis s.diagBits s.passes := rfl

theorem State.showDiagnosis_noted (d : Nat) (ok : Bool) (s : State) :
    Noted (s.modPins (fun p => { p with okOut := ok })) (s.showDiagnosis d ok) := by
  unfold State.showDiagnosis
  dsimp only
  split
  · constructor <;> rfl
  · split <;> constructor <;> rfl

theorem State.showDiagnosis_host (d : Nat) (ok : Bool) (s : State) : (s.showDiagnosis d ok).host = s.host := by
  unfold State.showDiagnosis
  dsimp only
  split
  · rfl
  · split <;> rfl

/-- Self-diagnosis shows its conditions, and may move the claim; it writes no other object. -/
theorem State.get_showDiagnosis (d : Nat) (ok : Bool) (s : State) (k : Nat) (h : k ≠ K.pairClaimArmed) :
    (s.showDiagnosis d ok).get k = (s.put K.healthSelfDiagnosis d).get k := by
  unfold State.showDiagnosis State.armClaim
  dsimp only
  split
  · exact State.get_putB_other _ _ _ _ h
  · split
    · exact State.get_putB_other _ _ _ _ h
    · rfl

/-- Self-diagnosis drives OK_OUT; besides it writes objects alone. -/
theorem State.diagnose_noted (s : State) : Noted (s.modPins (fun p => { p with okOut := s.passes })) s.diagnose := by
  rw [State.diagnose_eq]
  exact State.showDiagnosis_noted _ _ _

theorem State.diagnose_md (s : State) : s.diagnose.md = { s.md with pins := { s.md.pins with okOut := s.passes } } :=
  s.diagnose_noted.md

theorem State.diagnose_host (s : State) : s.diagnose.host = s.host := State.showDiagnosis_host _ _ _

theorem State.get_diagnose_other (s : State) (k : Nat) (h1 : k ≠ K.healthSelfDiagnosis) (h2 : k ≠ K.pairClaimArmed) :
    s.diagnose.get k = s.get k :=
  (State.get_showDiagnosis _ _ _ _ h2).trans (State.get_put_other _ _ _ _ h1)

theorem State.get_diagnose_same (s : State) : s.diagnose.get K.healthSelfDiagnosis = s.diagBits :=
  (State.get_showDiagnosis _ _ _ _ (by decide)).trans (State.get_put_same _ _ _)

/-- What the conditions of Table 17-4 are read from. -/
theorem State.diagBits_congr {s t : State} (hcard : t.card = s.card) (hsaf : t.saf = s.saf) (hpair : t.pair = s.pair)
    (hj : t.md.junction = s.md.junction) (htime : t.time = s.time) : t.diagBits = s.diagBits := by
  unfold State.diagBits State.now
  rw [hcard, hsaf, hpair, hj, htime]

/-- Self-diagnosis leaves its own conditions as they were. -/
theorem State.diagBits_diagnose (s : State) : s.diagnose.diagBits = s.diagBits := by
  have h := s.diagnose_noted
  refine State.diagBits_congr ?_ ?_ ?_ ?_ ?_
  · rw [h.card, State.modPins_card]
  · rw [h.saf, State.modPins_saf]
  · rw [h.pair, State.modPins_pair]
  · rw [s.diagnose_md]
  · rw [h.time, State.modPins_time]

/-- Self-diagnosis shows the conditions that still hold after it. -/
theorem State.diagnose_shows (s : State) : s.diagnose.getN K.healthSelfDiagnosis = s.diagnose.diagBits := by
  rw [s.diagBits_diagnose]
  exact State.getN_of_get s.get_diagnose_same

/-! ### Giving up the mace (R54) -/

@[simp] theorem State.enterMode_md (m : ModMode) (s : State) : (s.enterMode m).md = { s.md with mode := m } := rfl

theorem State.chainRole_md (s : State) : s.chainRole.md = s.md :=
  State.when_preserves (P := fun t => t.md = s.md) _ rfl fun h => h

/-- The SD_CLK roles of a module that has yielded to MACE_IN (R49). -/
def State.rolesYielded (s : State) : Vector SdmRole 4 :=
  if s.md.pins.maceIn && !s.md.pins.maceOut then s.md.sdm.map (fun r : SdmRole => if r = .driving then .listening else r)
  else s.md.sdm

/-- A module that yields the SD_CLK nets changes its roles there alone. -/
theorem State.sdmYield_eq (s : State) : s.sdmYield = s.modMd (fun m => { m with sdm := s.rolesYielded }) := by
  unfold State.sdmYield State.rolesYielded State.when
  split <;> rfl

/-- Dropping the mace takes MACE_OUT low; of the module's own state only the mode, the control stage of the watchdog and the
SD_CLK roles can move with it. -/
theorem State.dropMace_md (s : State) : ∃ mode ctl roles, s.dropMace.md =
    { s.md with pins := { s.md.pins with maceOut := false }, mode := mode, ctlArmed := ctl, sdm := roles } := by
  unfold State.dropMace
  split
  · dsimp only
    rw [State.sdmYield_eq, State.modMd_md, State.chainRole_md]
    unfold State.when
    split <;> exact ⟨_, _, _, rfl⟩
  · rename_i hlow
    refine ⟨s.md.mode, s.md.ctlArmed, s.md.sdm, ?_⟩
    have hpins : { s.md.pins with maceOut := false } = s.md.pins := by
      rw [← Bool.eq_false_of_not_eq_true hlow]
    rw [hpins]
    rfl

theorem State.get_sdmYield (s : State) (k : Nat) : s.sdmYield.get k = s.get k :=
  State.when_preserves (P := fun t => t.get k = s.get k) _ rfl fun h => h

theorem State.get_dropMace_other (s : State) (k : Nat) (h1 : k ≠ K.pairClaimArmed) (h2 : k ≠ K.moduleModuleState)
    (h3 : k ≠ K.chainChainMaster) : s.dropMace.get k = s.get k := by
  unfold State.dropMace
  split
  · dsimp only
    rw [State.get_sdmYield]
    refine State.when_preserves (P := fun t => t.get k = s.get k) _ ?_ fun h => ?_
    · refine State.when_preserves (P := fun t => t.get k = s.get k) _ ?_ fun h => ?_
      · exact State.get_putB_other K.pairClaimArmed k false _ h1
      · exact (State.get_put_other _ _ _ _ h2).trans h
    · exact (State.get_put_other _ _ _ _ h3).trans h
  · exact State.get_putB_other _ _ _ _ h1

/-! ### Starting a flush (R416, R420) -/

theorem State.startFlush_powerFail (s : State) : (s.startFlush .powerFail).rcd.flush = some .powerFail := by
  unfold State.startFlush
  split
  · exact congrArg (·.flush) (State.inc_rcd _ _)
  · rfl

theorem State.startFlush_md (k : FlushKind) (s : State) : (s.startFlush k).md = s.md := by
  unfold State.startFlush
  split
  · exact State.inc_md _ _
  · exact iteInduction (motive := fun t : State => t.md = s.md) (fun _ => rfl) (fun _ => rfl)

theorem State.startFlush_host (k : FlushKind) (s : State) : (s.startFlush k).host = s.host := by
  unfold State.startFlush
  split
  · exact State.inc_host _ _
  · exact iteInduction (motive := fun t : State => t.host = s.host) (fun _ => rfl) (fun _ => rfl)

theorem State.startFlush_time (k : FlushKind) (s : State) : (s.startFlush k).time = s.time := by
  unfold State.startFlush
  split
  · exact State.inc_time _ _
  · exact iteInduction (motive := fun t : State => t.time = s.time) (fun _ => rfl) (fun _ => rfl)

theorem State.get_startFlush_other (k : FlushKind) (s : State) (j : Nat) (h : j ≠ K.recFlushes) :
    (s.startFlush k).get j = s.get j := by
  unfold State.startFlush
  split
  · exact State.get_inc_other _ _ _ h
  · exact iteInduction (motive := fun t : State => t.get j = s.get j) (fun _ => rfl) (fun _ => rfl)

end Sys2Proof.Machine
end

section
/-! What a reset leaves, whatever its kind (R72, R73, Table 3-5). -/

namespace Sys2Proof.Machine

/-- The cause Table 3-5 names for a kind of reset. -/
def ResetKind.cause : ResetKind → Nat
  | .powerOn => Cause.powerOn
  | .powerFail => Cause.mainLoss
  | .pin => Cause.pinReset
  | .host => Cause.hostReset
  | .watchdog => Cause.watchdogReset
  | .fatal => Cause.firmwareFatal
  | .thermal => Cause.thermalTrip
  | .zeroise => Cause.zeroised
  | .startTimeout => Cause.startTimeout

/-- Is the cause raised by the reset itself, and not at the restart or before it? -/
def ResetKind.raisesCause : ResetKind → Bool
  | .powerFail | .thermal | .zeroise => false
  | _ => true

/-- A reset of any kind: what it keeps and sets, its cause shown, and the cause raised where the reset raises it. -/
theorem State.doReset_eq (k : ResetKind) (s : State) : s.doReset k =
    ((s.afterReset k).put K.moduleLastResetCause k.cause).when k.raisesCause (State.raise0 k.cause) := by
  cases k <;> simp only [State.doReset, State.resetWith, ResetKind.cause, ResetKind.raisesCause, State.when_true,
    State.when_false]

/-- What holds of the state after a reset, its cause shown, and is kept by the raising of a cause holds after the reset. -/
theorem State.doReset_preserves {P : State → Prop} (k : ResetKind) (s : State)
    (hs : P ((s.afterReset k).put K.moduleLastResetCause k.cause)) (hr : ∀ t c, P t → P (t.raise0 c)) : P (s.doReset k) := by
  rw [State.doReset_eq]
  exact State.when_preserves _ hs (hr _ _)

theorem State.doReset_md (k : ResetKind) (s : State) : (s.doReset k).md = s.md.atReset k :=
  State.doReset_preserves (P := fun t => t.md = s.md.atReset k) k s rfl fun t c h => (State.raise0_md c t).trans h

theorem State.doReset_clv (k : ResetKind) (s : State) : (s.doReset k).clv = s.clv.atReset :=
  State.doReset_preserves (P := fun t => t.clv = s.clv.atReset) k s rfl fun t c h => (State.raise0_clv c t).trans h

theorem State.doReset_cry (k : ResetKind) (s : State) : (s.doReset k).cry = s.cry.atReset :=
  State.doReset_preserves (P := fun t => t.cry = s.cry.atReset) k s rfl fun t c h => (State.raise0_cry c t).trans h

theorem State.doReset_sessions (k : ResetKind) (s : State) : (s.doReset k).host.sessions = [] :=
  State.doReset_preserves (P := fun t => t.host.sessions = []) k s rfl fun _ _ h => State.raise_sessions_nil _ _ h

theorem State.get_showTime_lastResetKind (s : State) : s.showTime.get K.moduleLastResetKind = s.get K.moduleLastResetKind := by
  unfold State.showTime
  dsimp only
  simp (disch := decide) only [State.get_put_other, State.get_putB_other]

theorem State.get_doReset_kind (k : ResetKind) (s : State) : (s.doReset k).get K.moduleLastResetKind = k.code := by
  refine State.doReset_preserves (P := fun t => t.get K.moduleLastResetKind = k.code) k s ?_ fun t c h =>
    (State.get_raise0 _ _ _ (by decide)).trans h
  unfold State.afterReset
  dsimp only
  rw [State.get_put_other _ _ _ _ (by decide), State.get_showTime_lastResetKind, State.get_put_other _ _ _ _ (by decide),
    State.get_put_other _ _ _ _ (by decide), State.get_put_same]

theorem State.get_doReset_cause (k : ResetKind) (s : State) : (s.doReset k).get K.moduleLastResetCause = k.cause :=
  State.doReset_preserves (P := fun t => t.get K.moduleLastResetCause = k.cause) k s (State.get_put_same _ _ _) fun t c h =>
    (State.get_raise0 _ _ _ (by decide)).trans h

/-- A reset of any kind leaves the module in the ROM with the outputs off and no session, and shows its kind and cause. -/
theorem State.doReset_resetTo (k : ResetKind) (s : State) : resetTo (s.doReset k) k.code k.cause := by
  have hmd := s.doReset_md k
  refine ⟨?_, ?_, ?_, s.doReset_sessions k, State.getN_of_get (s.get_doReset_kind k), State.getN_of_get (s.get_doReset_cause k)⟩
  · rw [hmd]; rfl
  · rw [hmd]; rfl
  · rw [hmd]; rfl

end Sys2Proof.Machine
end

section
/-! A main loss (R31, Table 2-5): what its shed leaves alone. -/

namespace Sys2Proof.Machine

/-- What the shed of a main loss and everything it calls leave alone: the state of the main loss, MACE_OUT and PFAIL_N, the
count of losses, and the absence of sessions. -/
structure OutageKept (s t : State) : Prop where
  mode : t.md.mode = s.md.mode
  mainLoss : t.md.mainLoss = s.md.mainLoss
  maceOut : t.md.pins.maceOut = s.md.pins.maceOut
  pfail : t.md.pins.pfail = s.md.pins.pfail
  losses : t.get K.supplyMainLosses = s.get K.supplyMainLosses
  sessions : s.host.sessions = [] → t.host.sessions = []

theorem OutageKept.rfl {s : State} : OutageKept s s := ⟨by rfl, by rfl, by rfl, by rfl, by rfl, id⟩

theorem OutageKept.trans {s t u : State} (h : OutageKept s t) (g : OutageKept t u) : OutageKept s u :=
  ⟨g.mode.trans h.mode, g.mainLoss.trans h.mainLoss, g.maceOut.trans h.maceOut, g.pfail.trans h.pfail,
    g.losses.trans h.losses, g.sessions ∘ h.sessions⟩

theorem OutageKept.when {s t : State} {b : Bool} {f : State → State} (h : OutageKept s t) (hf : OutageKept t (f t)) :
    OutageKept s (t.when b f) :=
  State.when_preserves _ h fun h => h.trans hf

theorem OutageKept.each {α : Type} {s t : State} {l : List α} {f : α → State → State} (h : OutageKept s t)
    (hf : ∀ a u, OutageKept u (f a u)) : OutageKept s (t.each l f) :=
  State.each_preserves l h fun a u hu => hu.trans (hf a u)

/-- An operation that leaves the module's own state, the sessions and the count of losses alone. -/
theorem OutageKept.of_eq {s t : State} (hmd : t.md = s.md) (hhost : t.host = s.host)
    (hget : t.get K.supplyMainLosses = s.get K.supplyMainLosses) : OutageKept s t :=
  ⟨by rw [hmd], by rw [hmd], by rw [hmd], by rw [hmd], hget, fun h => by rw [hhost, h]⟩

theorem State.put_outageKept (k : Nat) (v : Int) (s : State) (h : K.supplyMainLosses ≠ k) : OutageKept s (s.put k v) :=
  .of_eq rfl rfl (State.get_put_other _ _ _ _ h)

theorem State.putMax_outageKept (k : Nat) (v : Int) (s : State) (h : K.supplyMainLosses ≠ k) : OutageKept s (s.putMax k v) :=
  .of_eq (State.putMax_md _ _ _) (State.putMax_host _ _ _) (State.get_putMax_other _ _ _ _ h)

theorem State.inc_outageKept (k : Nat) (s : State) (h : K.supplyMainLosses ≠ k) : OutageKept s (s.inc k) :=
  .of_eq (State.inc_md _ _) (State.inc_host _ _) (State.get_inc_other _ _ _ h)

theorem State.raise_outageKept (c : Nat) (a : Args) (s : State) : OutageKept s (s.raise c a) := by
  have hmd := State.raise_md c a s
  exact ⟨by rw [hmd], by rw [hmd], by rw [hmd], by rw [hmd], State.get_raise _ _ _ _ (by decide), State.raise_sessions_nil c a⟩

/-! ### Spilled items are lost (R400) -/

theorem State.incHalf_outageKept (k : Nat) (second : Bool) (s : State) : OutageKept s (s.incHalf k second) := by
  unfold State.incHalf
  dsimp only
  repeat' split
  all_goals exact .of_eq rfl rfl rfl

theorem State.sendPfc_outageKept (q quanta : Nat) (s : State) : OutageKept s (s.sendPfc q quanta) := by
  unfold State.sendPfc
  split
  · split
    · exact (State.incHalf_outageKept _ _ s).trans (.of_eq rfl rfl rfl)
    · exact .rfl
  · exact .rfl

theorem State.setQue_outageKept (x : QueueState) (s : State) : OutageKept s { s with que := x } := .of_eq rfl rfl rfl

theorem State.setQueue_outageKept (x : Queue) (s : State) : OutageKept s (s.setQueue x) := .of_eq rfl rfl rfl

theorem State.poolCheck_outageKept (s : State) : OutageKept s s.poolCheck := by
  unfold State.poolCheck
  dsimp only
  split
  · exact (State.setQue_outageKept _ s).trans (State.raise_outageKept _ _ _)
  · split
    · exact (State.setQue_outageKept _ s).trans (State.raise_outageKept _ _ _)
    · exact .rfl

theorem State.driveXoff_outageKept (s : State) : OutageKept s s.driveXoff := ⟨rfl, rfl, rfl, rfl, rfl, id⟩

theorem supplyMainLosses_ne_queueObject (q sub : Nat) (h : sub % 256 ≠ 7) : K.supplyMainLosses ≠ 0x820000 + sub + 256 * q := by
  show 0xF10007 ≠ _
  omega

theorem State.watermark_outageKept (q : Nat) (s : State) : OutageKept s (s.watermark q) := by
  have hmark := State.putMax_outageKept (K.queueOccupancyHighMark q) (s.queue q).occ s
    (supplyMainLosses_ne_queueObject q 0x10 (by decide))
  unfold State.watermark
  dsimp only
  refine (hmark.trans ?_).trans ((State.poolCheck_outageKept _).trans (State.driveXoff_outageKept _))
  split
  · have hepisode := fun u => State.inc_outageKept (K.queueHighEpisodes q) u (supplyMainLosses_ne_queueObject q 0xF (by decide))
    exact (((State.setQueue_outageKept _ _).trans (hepisode _)).trans (State.raise_outageKept _ _ _)).trans
      (State.sendPfc_outageKept _ _ _)
  · split
    · exact ((State.setQueue_outageKept _ _).trans (State.raise_outageKept _ _ _)).trans (State.sendPfc_outageKept _ _ _)
    · exact .rfl

theorem State.dropItem_outageKept (q : Nat) (s : State) : OutageKept s (s.dropItem q) := by
  have hcount := State.inc_outageKept (K.queueItemsDropped q) s (supplyMainLosses_ne_queueObject q 0xE (by decide))
  unfold State.dropItem
  dsimp only
  exact iteInduction (motive := OutageKept s)
    (fun _ => hcount.trans ((State.setQueue_outageKept _ _).trans (State.raise_outageKept _ _ _))) (fun _ => hcount)

theorem State.abandonTo_outageKept (q : Nat) (i : QItem) (s : State) : OutageKept s (s.abandonTo q i) :=
  OutageKept.rfl.when (.of_eq rfl rfl rfl)

theorem State.loseSpilled_outageKept (s : State) : OutageKept s s.loseSpilled :=
  OutageKept.rfl.each fun _ u =>
    (OutageKept.each (State.setQueue_outageKept _ u) fun _ _ =>
      (State.dropItem_outageKept _ _).trans (State.abandonTo_outageKept _ _ _)).trans (State.watermark_outageKept _ _)

/-! ### The shed (Table 2-5) -/

theorem State.showTiles_outageKept (s : State) : OutageKept s s.showTiles := by
  refine (State.put_outageKept _ _ s (by decide)).each fun t u => State.put_outageKept _ _ u ?_
  show 0xF10007 ≠ 0x520001 + 256 * t.val
  omega

theorem State.modSaf_outageKept (f : SafState → SafState) (s : State) : OutageKept s (s.modSaf f) := .of_eq rfl rfl rfl

theorem State.setTilesOn_outageKept (x : BitVec 64) (s : State) : OutageKept s { s with md := { s.md with tilesOn := x } } :=
  ⟨rfl, rfl, rfl, rfl, rfl, id⟩

theorem State.safApply_outageKept (s : State) : OutageKept s s.safApply := by
  unfold State.safApply
  dsimp only
  exact (((OutageKept.rfl.when (State.modSaf_outageKept _ _)).when (State.modSaf_outageKept _ _)).trans
    (State.setTilesOn_outageKept _ _)).trans (State.showTiles_outageKept _)

theorem State.enterLink_outageKept (n : Fin 32) (st : Nat) (s : State) : OutageKept s (s.enterLink n st) := by
  refine (State.put_outageKept _ _ s ?_).trans (.of_eq rfl rfl rfl)
  show 0xF10007 ≠ 0x240003 + 256 * n.val
  omega

theorem State.showOccupancy_outageKept (s : State) : OutageKept s s.showOccupancy :=
  (State.put_outageKept _ _ s (by decide)).trans (State.putMax_outageKept _ _ _ (by decide))

/-- The outage goes on, and every session is closed. -/
def OutageClosed (s t : State) : Prop := OutageKept s t ∧ t.host.sessions = []

theorem OutageClosed.trans {s t u : State} (h : OutageClosed s t) (g : OutageKept t u) : OutageClosed s u :=
  ⟨h.1.trans g, g.sessions h.2⟩

theorem State.closeSessions_outageClosed {s t : State} (h : OutageKept s t) :
    OutageClosed s { t with host := { t.host with sessions := [], assocs := [] } } :=
  ⟨h.trans ⟨rfl, rfl, rfl, rfl, rfl, fun _ => rfl⟩, rfl⟩

theorem State.modCore_outageKept (n : Fin 4) (f : CoreSt → CoreSt) (s : State) : OutageKept s (s.modCore n f) :=
  .of_eq rfl rfl rfl

theorem State.modLink_outageKept (n : Fin 32) (f : LinkSt → LinkSt) (s : State) : OutageKept s (s.modLink n f) :=
  .of_eq rfl rfl rfl

theorem State.modClv_outageKept (f : CloveState → CloveState) (s : State) : OutageKept s (s.modClv f) := .of_eq rfl rfl rfl

theorem State.setCry_outageKept (x : SecSt) (s : State) : OutageKept s { s with cry := x } := .of_eq rfl rfl rfl

/-- The shed leaves the state of the main loss alone and closes every session. -/
theorem State.shed_outageClosed (s : State) : OutageClosed s s.shed := by
  unfold State.shed
  extract_lets s1 s2 s3 host s4 s5 s6 cry s7 s8
  have h1 : OutageKept s s1 := ⟨rfl, rfl, rfl, rfl, rfl, id⟩
  have h2 : OutageKept s s2 := h1.each fun _ _ => State.modCore_outageKept _ _ _
  have h3 : OutageKept s s3 := h2.each fun _ _ => OutageKept.rfl.when
    ((State.modLink_outageKept _ _ _).trans (State.enterLink_outageKept _ _ _))
  have hclosed : OutageClosed s s4 := State.closeSessions_outageClosed h3
  have hports : OutageKept s4 s5 := by
    refine OutageKept.rfl.each fun p u => State.put_outageKept _ _ u ?_
    show 0xF10007 ≠ 0x110002 + 256 * p
    omega
  have hcloves : OutageKept s5 s6 := (State.modClv_outageKept _ _).trans (State.showOccupancy_outageKept _)
  have hupdate : OutageKept s6 s7 := State.setCry_outageKept _ s6
  have hspilled : OutageKept s7 s8 := (State.put_outageKept _ _ _ (by decide)).trans (State.loseSpilled_outageKept _)
  exact (((hclosed.trans hports).trans hcloves).trans hupdate).trans (hspilled.trans (State.safApply_outageKept _))

/-! ### MAIN_LOSS (R31) -/

theorem State.disarm_outageKept (p : InjPoint) (s : State) : OutageKept s (s.disarm p) := by
  unfold State.disarm
  extract_lets inj s1
  have h1 : OutageKept s s1 := .of_eq rfl rfl rfl
  exact h1.trans (State.raise_outageKept _ _ _)

theorem State.disarmAll_outageKept (s : State) : OutageKept s s.disarmAll :=
  OutageKept.rfl.each fun _ _ => State.disarm_outageKept _ _

/-- A main loss before its shed: counted and raised, points disarmed, OK_OUT and the mace dropped, PFAIL_N asserted. -/
def State.outputsLost (s : State) : State :=
  let s := (s.inc K.supplyMainLosses).raise0 Cause.mainLoss |>.disarmAll
  let s := s.modPins (fun p => { p with okOut := false, pfail := true })
  let s := (s.dropMace.modMd (fun m => { m with mainLoss := true, shutdown := .none })).enterMode .mainLoss
  s.put K.moduleShutdownProgress 0

theorem execMainLoss_begins {s : State} (hhold : s.md.onHold = true) (hmain : s.md.mainLoss = false)
    (hon : s.md.poweredOff = false) :
    exec .mainLoss s = .next (s.outputsLost.shed.diagnose.startFlush .powerFail) := by
  show execMainLoss s = _
  unfold execMainLoss
  rw [if_neg (by simp [hhold, hmain, hon])]
  rfl

theorem State.outputsLost_md (s : State) : s.outputsLost.md.mode = .mainLoss ∧ s.outputsLost.md.mainLoss = true ∧
    s.outputsLost.md.pins.maceOut = false ∧ s.outputsLost.md.pins.pfail = true := by
  unfold State.outputsLost
  dsimp only
  rw [State.put_md, State.enterMode_md, State.modMd_md]
  obtain ⟨mode, ctl, roles, hmace⟩ := State.dropMace_md
    ((((s.inc K.supplyMainLosses).raise0 Cause.mainLoss).disarmAll).modPins (fun p => { p with okOut := false, pfail := true }))
  rw [hmace]
  exact ⟨rfl, rfl, rfl, rfl⟩

theorem State.outputsLost_counts (s : State) : counts s s.outputsLost K.supplyMainLosses 1 := by
  refine counts_of_get_eq (State.inc_counts _ s) ?_
  unfold State.outputsLost State.enterMode
  dsimp only
  rw [State.get_put_other _ _ _ _ (by decide), State.get_put_other _ _ _ _ (by decide), State.get_modMd, State.get_modMd,
    State.get_dropMace_other _ _ (by decide) (by decide) (by decide), State.get_modPins]
  exact ((State.raise_outageKept _ _ _).trans (State.disarmAll_outageKept _)).losses

theorem State.passes_of_mainLoss {s : State} (h : s.md.mainLoss = true) : s.passes = false := by
  simp [State.passes, h]

/-- The end of the commands of a main loss: OK_OUT stays low and the power-fail flush runs. -/
theorem State.flushInOutage {s : State} (h : s.md.mainLoss = true) :
    (s.diagnose.startFlush .powerFail).md = { s.md with pins := { s.md.pins with okOut := false } } ∧
    (s.diagnose.startFlush .powerFail).host = s.host ∧
    (s.diagnose.startFlush .powerFail).get K.supplyMainLosses = s.get K.supplyMainLosses := by
  refine ⟨?_, ?_, ?_⟩
  · rw [State.startFlush_md, State.diagnose_md, State.passes_of_mainLoss h]
  · rw [State.startFlush_host, State.diagnose_host]
  · rw [State.get_startFlush_other _ _ _ (by decide), State.get_diagnose_other _ _ (by decide) (by decide)]

/-- A main loss declared on HOLD: the outputs go, PFAIL_N is asserted, the sessions close and the power-fail flush starts. -/
theorem mainLoss_does {s : State} (hhold : s.md.onHold = true) (hmain : s.md.mainLoss = false) (hon : s.md.poweredOff = false) :
    Does .mainLoss s (fun t => t.md.mainLoss = true ∧ t.md.mode = .mainLoss ∧ t.md.pins.maceOut = false ∧
      t.md.pins.okOut = false ∧ t.md.pins.pfail = true ∧ t.host.sessions = [] ∧ t.rcd.flush = some .powerFail ∧
      counts s t K.supplyMainLosses 1) := by
  obtain ⟨hmode, hlost, hmace, hpfail⟩ := s.outputsLost_md
  obtain ⟨hshed, hsessions⟩ := s.outputsLost.shed_outageClosed
  obtain ⟨hmd, hhost, hget⟩ := State.flushInOutage (hshed.mainLoss.trans hlost)
  refine .of_next (execMainLoss_begins hhold hmain hon) ⟨?_, ?_, ?_, ?_, ?_, ?_, State.startFlush_powerFail _, ?_⟩
  · rw [hmd, hshed.mainLoss, hlost]
  · rw [hmd, hshed.mode, hmode]
  · rw [hmd, hshed.maceOut, hmace]
  · rw [hmd]
  · rw [hmd, hshed.pfail, hpfail]
  · rw [hhost, hsessions]
  · exact counts_of_get_eq s.outputsLost_counts (hget.trans hshed.losses)

end Sys2Proof.Machine
end

section
/-! Zeroisation and tamper inputs (R453, R454). -/

namespace Sys2Proof.Machine

/-! ### Zeroisation -/

/-- What the silencing of links and sessions leaves alone, link by link. -/
theorem State.silence_preserves {P : State → Prop} (s : State)
    (hs : P { s with host := { s.host with sessions := [], assocs := [] } })
    (hlink : ∀ (n : Fin 32) (st : Nat) (f : LinkSt → LinkSt) t, P t → P ((t.modLink n f).enterLink n st)) : P s.silence :=
  State.each_preserves _ hs fun _ _ ht => State.when_preserves _ ht (hlink _ _ _ _)

theorem State.silence_md (s : State) : s.silence.md = s.md :=
  State.silence_preserves (P := fun t => t.md = s.md) s rfl fun _ _ _ _ h => h

theorem State.silence_clv (s : State) : s.silence.clv = s.clv :=
  State.silence_preserves (P := fun t => t.clv = s.clv) s rfl fun _ _ _ _ h => h

/-- Zeroisation before the reset it ends in: the mace dropped, clove keys and module keys gone, every link silent. -/
def State.keysDestroyed (source : Nat) (s : State) : State :=
  let s := s.dropMace.modPins (fun p => { p with maceOut := false })
  let s := (s.modClv (fun v => { v with keys := Vector.replicate 4 none, windows := [] })).silence
  (s.modCry (fun x => { x with keys := none, zeroised := some source, lease := none, quotes := [] })).inc K.secZeroisations

theorem State.zeroise_eq (source : Nat) (s : State) : s.zeroise source =
    if (s.keysDestroyed source).auxAlone then s.keysDestroyed source else (s.keysDestroyed source).resetOrWait .zeroise := rfl

theorem State.keysDestroyed_clv (source : Nat) (s : State) : (s.keysDestroyed source).clv.keys = Vector.replicate 4 none := by
  unfold State.keysDestroyed
  dsimp only
  rw [State.inc_clv, State.modCry_clv, State.silence_clv, State.modClv_clv]

theorem State.keysDestroyed_cry (source : Nat) (s : State) : (s.keysDestroyed source).cry.zeroised = some source := by
  unfold State.keysDestroyed
  dsimp only
  rw [State.inc_cry, State.modCry_cry]

theorem State.keysDestroyed_md (source : Nat) (s : State) : ∃ mode ctl roles, (s.keysDestroyed source).md =
    { s.md with pins := { s.md.pins with maceOut := false }, mode := mode, ctlArmed := ctl, sdm := roles } := by
  obtain ⟨mode, ctl, roles, h⟩ := s.dropMace_md
  refine ⟨mode, ctl, roles, ?_⟩
  unfold State.keysDestroyed
  dsimp only
  rw [State.inc_md, State.modCry_md, State.silence_md, State.modClv_md, State.modPins_md, h]

theorem State.keysDestroyed_auxAlone (source : Nat) (s : State) : (s.keysDestroyed source).auxAlone = s.auxAlone := by
  obtain ⟨mode, ctl, roles, h⟩ := s.keysDestroyed_md source
  unfold State.auxAlone
  rw [h]

theorem State.keysDestroyed_mainLoss (source : Nat) (s : State) : (s.keysDestroyed source).md.mainLoss = s.md.mainLoss := by
  obtain ⟨mode, ctl, roles, h⟩ := s.keysDestroyed_md source
  rw [h]

theorem State.resetOrWait_clv_keys (k : ResetKind) (s : State) : (s.resetOrWait k).clv.keys = s.clv.keys :=
  iteInduction (motive := fun t : State => t.clv.keys = s.clv.keys) (fun _ => rfl)
    (fun _ => congrArg (·.keys) (s.doReset_clv k))

theorem State.resetOrWait_zeroised (k : ResetKind) (s : State) : (s.resetOrWait k).cry.zeroised = s.cry.zeroised :=
  iteInduction (motive := fun t : State => t.cry.zeroised = s.cry.zeroised) (fun _ => rfl)
    (fun _ => congrArg (·.zeroised) (s.doReset_cry k))

/-- Outside a main loss a reset comes at once. -/
theorem State.resetOrWait_resetTo {s : State} (k : ResetKind) (h : s.md.mainLoss = false) :
    resetTo (s.resetOrWait k) k.code k.cause := by
  unfold State.resetOrWait
  rw [h]
  exact s.doReset_resetTo k

theorem State.zeroise_keys (source : Nat) (s : State) : (s.zeroise source).clv.keys = Vector.replicate 4 none := by
  rw [State.zeroise_eq]
  split
  · exact s.keysDestroyed_clv source
  · rw [State.resetOrWait_clv_keys, s.keysDestroyed_clv source]

theorem State.zeroise_source (source : Nat) (s : State) : (s.zeroise source).cry.zeroised = some source := by
  rw [State.zeroise_eq]
  split
  · exact s.keysDestroyed_cry source
  · rw [State.resetOrWait_zeroised, s.keysDestroyed_cry source]

/-- With main present and no main loss, zeroisation ends in a reset of kind 7. -/
theorem State.zeroise_resetTo {s : State} (source : Nat) (haux : s.auxAlone = false) (hmain : s.md.mainLoss = false) :
    resetTo (s.zeroise source) 7 Cause.zeroised := by
  rw [State.zeroise_eq, s.keysDestroyed_auxAlone, haux, if_neg Bool.false_ne_true]
  exact State.resetOrWait_resetTo .zeroise ((s.keysDestroyed_mainLoss source).trans hmain)

/-! ### Tamper inputs -/

/-- A tamper input as it is seen: the loop open, or the state of the internal monitors. -/
def State.tamperSeen (i : Fin 5) (s : State) : State :=
  if i.val < 4 then s.modPins (fun p => { p with tamper := p.tamper ||| BitVec.ofNat 4 (2 ^ i.val) })
  else s.put K.secTamperState 16

/-- A tamper event as it is told: latched with AUX alone, else raised. -/
def State.tamperTold (i : Fin 5) (s : State) : State :=
  if s.auxAlone then s.modCry (fun x => { x with latched := some (i.val, s.now) }) else s.raiseOn Cause.tamperDetected i

theorem execTamperDetected_eq (i : Fin 5) (s : State) : exec (.tamperDetected i) s =
    if (s.tamperSeen i).tamperAction i = 0 then .next (s.tamperSeen i)
    else .next (((s.tamperSeen i).tamperTold i).when (decide ((s.tamperSeen i).tamperAction i = 2))
      (State.zeroise (i.val + 1))) :=
  rfl

theorem State.tamperAction_seen (i : Fin 5) (s : State) : (s.tamperSeen i).tamperAction i = s.tamperAction i := by
  unfold State.tamperSeen State.tamperAction State.getN
  split
  · simp only [State.get_modPins]
  · simp (disch := decide) only [State.get_put_other]

theorem State.tamperSeen_pin {i : Fin 5} (s : State) (h : i.val < 4) :
    (s.tamperSeen i).md.pins.tamper.getLsbD i.val = true := by
  unfold State.tamperSeen
  rw [if_pos h, State.modPins_md, BitVec.getLsbD_or, BitVec.getLsbD_ofNat, Nat.testBit_two_pow_self, decide_eq_true h,
    Bool.and_true, Bool.or_true]

theorem State.tamperSeen_monitors {i : Fin 5} (s : State) (h : i.val = 4) : (s.tamperSeen i).get K.secTamperState = 16 := by
  unfold State.tamperSeen
  rw [if_neg (by omega)]
  exact State.get_put_same _ _ _

theorem State.tamperSeen_auxAlone (i : Fin 5) (s : State) : (s.tamperSeen i).auxAlone = s.auxAlone :=
  iteInduction (motive := fun t : State => t.auxAlone = s.auxAlone) (fun _ => rfl) (fun _ => rfl)

theorem State.tamperSeen_mainLoss (i : Fin 5) (s : State) : (s.tamperSeen i).md.mainLoss = s.md.mainLoss :=
  iteInduction (motive := fun t : State => t.md.mainLoss = s.md.mainLoss) (fun _ => rfl) (fun _ => rfl)

theorem State.tamperTold_md (i : Fin 5) (s : State) : (s.tamperTold i).md = s.md :=
  iteInduction (motive := fun t : State => t.md = s.md) (fun _ => rfl) (fun _ => State.raiseOn_md _ _ _)

theorem State.get_tamperTold (i : Fin 5) (s : State) : (s.tamperTold i).get K.secTamperState = s.get K.secTamperState :=
  iteInduction (motive := fun t : State => t.get K.secTamperState = s.get K.secTamperState) (fun _ => rfl)
    (fun _ => State.get_raiseOn _ _ _ _ (by decide))

/-- A tamper event that does not zeroise is shown. -/
theorem tamperDetected_shows {s : State} {i : Fin 5} (h : s.tamperAction i ≠ 2) : Does (.tamperDetected i) s (fun t =>
    (i.val < 4 → t.md.pins.tamper.getLsbD i.val = true) ∧ (i.val = 4 → t.getN K.secTamperState = 16)) := by
  have hexec := execTamperDetected_eq i s
  rw [s.tamperAction_seen i, decide_eq_false h, State.when_false] at hexec
  by_cases hnone : s.tamperAction i = 0
  · rw [if_pos hnone] at hexec
    exact .of_next hexec ⟨s.tamperSeen_pin, fun h4 => State.getN_of_get (s.tamperSeen_monitors h4)⟩
  · rw [if_neg hnone] at hexec
    refine .of_next hexec ⟨fun hlt => ?_, fun h4 => State.getN_of_get ?_⟩
    · rw [State.tamperTold_md, s.tamperSeen_pin hlt]
    · rw [State.get_tamperTold, s.tamperSeen_monitors h4]
      rfl

/-- A tamper event whose action is ZEROISE zeroises. -/
theorem tamperDetected_zeroises {s : State} {i : Fin 5} (h : s.tamperAction i = 2) : Does (.tamperDetected i) s (fun t =>
    t.clv.keys = Vector.replicate 4 none ∧ t.cry.zeroised = some (i.val + 1) ∧
    (s.auxAlone = false → s.md.mainLoss = false → resetTo t 7 Cause.zeroised)) := by
  have hexec := execTamperDetected_eq i s
  rw [s.tamperAction_seen i, if_neg (by rw [h]; decide), decide_eq_true h, State.when_true] at hexec
  refine .of_next hexec ⟨State.zeroise_keys _ _, State.zeroise_source _ _, fun haux hmain => State.zeroise_resetTo _ ?_ ?_⟩
  · rw [← s.tamperSeen_auxAlone i] at haux
    unfold State.auxAlone at *
    rwa [State.tamperTold_md]
  · rw [State.tamperTold_md, s.tamperSeen_mainLoss, hmain]

end Sys2Proof.Machine
end

section
/-! TICK_BOUNDARY (R19): what ends with a tick leaves the time alone; time runs on to the boundary; readings are taken. -/

namespace Sys2Proof.Machine

theorem State.when_time {s : State} (b : Bool) {f : State → State} (h : ∀ t : State, (f t).time = t.time) :
    (s.when b f).time = s.time :=
  State.when_preserves (P := fun t => t.time = s.time) b rfl fun _ => h s

theorem State.each_time {α : Type} {s : State} (l : List α) {f : α → State → State} (h : ∀ a t, (f a t).time = t.time) :
    (s.each l f).time = s.time :=
  State.each_preserves (P := fun t => t.time = s.time) l rfl fun a t ht => (h a t).trans ht

/-! ### The rest of a core's tick -/

theorem State.commandWrite_time (c : Conv) (v : Int) (s : State) : (s.commandWrite c v).time = s.time :=
  (State.each_time _ fun _ _ => (State.when_time _ fun _ => State.inc_time _ _).trans (State.modPhase_time _ _ _)).trans
    (State.modConv_time _ _ _)

theorem State.settle_time (n : Fin 4) (s : State) : (s.settle n).time = s.time := by
  unfold State.settle
  extract_lets core fresh s1 s2 s3 s4 s5
  have h1 : s1.time = s.time := State.setCore_time _ _ _
  have h2 : s2.time = s1.time := State.when_time _ fun _ => State.countBy_time _ _ _ _
  have h3 : s3.time = s2.time := State.when_time _ fun _ => State.countBy_time _ _ _ _
  have h4 : s4.time = s3.time := State.when_time _ fun _ => State.countBy_time _ _ _ _
  have h5 : s5.time = s4.time := State.each_time _ fun _ _ => State.commandWrite_time _ _ _
  rw [State.when_time _ fun _ => State.raiseOn_time _ _ _, h5, h4, h3, h2, h1]

theorem State.stopConv_time (c : Conv) (r : StopRule) (s : State) : (s.stopConv c r).time = s.time :=
  iteInduction (motive := fun t : State => t.time = s.time) (fun _ => State.modConv_time _ _ _) (fun _ => rfl)

theorem State.faultCore_time (n : Fin 4) (s : State) : (s.faultCore n).time = s.time :=
  (State.raiseOn_time _ _ _).trans ((State.each_time _ fun _ _ => State.stopConv_time _ _ _).trans (State.setCore_time _ _ _))

theorem State.mainEnd_time (n : Fin 4) (s : State) : (s.mainEnd n).time = s.time := by
  unfold State.mainEnd State.overrun
  split
  · exact State.putMax_time _ _ _
  · rw [State.faultCore_time, State.raiseOn_time, State.inc_time, State.inc_time]

theorem State.resumeMain_time (n : Fin 4) (s : State) : (s.resumeMain n).time = s.time := by
  unfold State.resumeMain
  dsimp only
  split
  · rfl
  · split
    · rfl
    · rw [State.mainEnd_time, State.settle_time, State.setCore_time]

/-- The rest of a core's tick moves no time. -/
theorem State.coreWindow_time (n : Fin 4) (s : State) : (s.coreWindow n).time = s.time := by
  unfold State.coreWindow State.releaseHold
  dsimp only
  rw [State.modCore_time, State.when_time, State.resumeMain_time]
  intro t
  rw [State.raiseOn_time, State.modCore_time]

theorem State.answer_time (r : State × Nat) : (State.answer r).time = r.1.time :=
  State.when_time _ fun _ => State.inc_time _ _

theorem State.sendHost_time (sess : Nat) (k : Traffic) (msg : List Byte) (s : State) :
    (s.sendHost sess k msg).time = s.time := by
  unfold State.sendHost
  split
  · split <;> rfl
  · rfl

theorem State.respond_time (sess type reqId status : Nat) (bodies : List (List Byte)) (s : State) :
    (s.respond sess type reqId status bodies).time = s.time :=
  (State.when_time _ fun _ => State.inc_time _ _).trans (State.each_time _ fun _ _ => State.sendHost_time _ _ _ _)

/-- Answers leave without moving time. -/
theorem State.answerWords_time (n : Fin 4) (s : State) : (s.answerWords n).time = s.time := by
  unfold State.answerWords
  split
  · rw [State.modCore_time, State.each_time]
    intro o t
    split
    · exact State.answer_time _
    · split
      · exact State.respond_time _ _ _ _ _ _
      · rfl
  · rfl

/-! ### Halting -/

theorem State.safApply_time (s : State) : s.safApply.time = s.time := by
  have htiles : ∀ t : State, t.showTiles.time = t.time := fun _ => State.each_time _ fun _ _ => rfl
  unfold State.safApply
  extract_lets e s1 s2 on
  have h1 : s1.time = s.time := State.when_time _ fun _ => rfl
  have h2 : s2.time = s1.time := State.when_time _ fun _ => rfl
  rw [htiles, ← h1, ← h2]

theorem State.haltGate_time (s : State) : s.haltGate.time = s.time :=
  (State.safApply_time _).trans (State.each_time _ fun _ _ => rfl)

theorem State.diagnose_time (s : State) : s.diagnose.time = s.time := by
  rw [s.diagnose_noted.time, State.modPins_time]

/-- The first step of halting that waits: the journal is written, and the flush begins. -/
def State.haltJournaled (s : State) : State := (s.modMd (fun m => { m with haltStage := .flush })).startFlush .haltOrReset

/-- The last step of halting: the flush is over, and the module is gated. -/
def State.haltFlushed (s : State) : State :=
  (s.modMd (fun m => { m with haltStage := .done })).haltGate.diagnose.raise0 Cause.shutdownComplete

theorem State.haltJournaled_time (s : State) : s.haltJournaled.time = s.time := by
  unfold State.haltJournaled
  rw [State.startFlush_time, State.modMd_time]

theorem State.haltFlushed_time (s : State) : s.haltFlushed.time = s.time := by
  unfold State.haltFlushed
  rw [State.raise0_time, State.diagnose_time, State.haltGate_time, State.modMd_time]

theorem State.haltStep_eq (s : State) : ∃ a b, s.haltStep = (s.when a State.haltJournaled).when b State.haltFlushed :=
  ⟨_, _, rfl⟩

/-- The steps of halting move no time. -/
theorem State.haltStep_time (s : State) : s.haltStep.time = s.time := by
  obtain ⟨a, b, h⟩ := s.haltStep_eq
  rw [h, State.when_time b State.haltFlushed_time, State.when_time a State.haltJournaled_time]

/-! ### Time and readings -/

theorem State.runToTick_time (s : State) : s.runToTick.time = { s.time with tb := s.time.tb + s.untilTick } :=
  State.when_preserves (P := fun t => t.time = { s.time with tb := s.time.tb + s.untilTick }) _ rfl
    fun h => (State.inc_time _ _).trans h

/-- The boundary is a whole multiple of 1,000 ns of fabric time (R19). -/
theorem State.untilTick_whole {s : State} (h : s.time.mode ≠ .invalid) :
    ((s.time.tb + s.untilTick : Nat) + s.time.e) % 1000 = 0 := by
  unfold State.untilTick
  simp only [if_neg h]
  omega

theorem State.refClock_time (present : Bool) (s : State) : (s.refClock present).time = { s.time with refClock := present } :=
  State.when_preserves (P := fun t => t.time = { s.time with refClock := present }) _ rfl
    fun h => (State.raise0_time _ _).trans h

theorem State.refClock_md (present : Bool) (s : State) : (s.refClock present).md = s.md :=
  State.when_preserves (P := fun t => t.md = s.md) _ rfl fun h => (State.raise0_md _ _).trans h

theorem State.noteCoolant_time_pins (s : State) : s.noteCoolant.time = s.time ∧ s.noteCoolant.md.pins = s.md.pins := by
  unfold State.noteCoolant
  rw [State.noteTimer_time, State.noteTimer_time, State.noteTimer_pins, State.noteTimer_pins]
  exact ⟨rfl, rfl⟩

/-- Shown temperatures move no time and no contact. -/
theorem State.showThermal_time_pins (j i o : Int) (s : State) :
    (s.showThermal j i o).time = s.time ∧ (s.showThermal j i o).md.pins = s.md.pins := by
  unfold State.showThermal
  extract_lets s1 p s2
  have h1 : s1.time = s.time ∧ s1.md.pins = s.md.pins := ⟨State.noteTimer_time _ _ _, State.noteTimer_pins _ _ _⟩
  have h2 : s2.time = s1.time ∧ s2.md.pins = s1.md.pins := by
    unfold s2
    split
    · exact ⟨rfl, rfl⟩
    · split <;> exact ⟨rfl, rfl⟩
  have h3 := s2.noteCoolant_time_pins
  exact ⟨h3.1.trans (h2.1.trans h1.1), h3.2.trans (h2.2.trans h1.2)⟩

theorem State.showPll_time (lock : BitVec 6) (s : State) : (s.showPll lock).time = s.time := rfl

theorem State.showPll_pins (lock : BitVec 6) (s : State) : (s.showPll lock).md.pins = s.md.pins := rfl

/-- The readings of a boundary move no time; the reference clock is taken as it is seen. -/
theorem State.readings_time (i : TickInputs) (s : State) : (s.readings i).time = { s.time with refClock := i.refClock } := by
  unfold State.readings
  extract_lets fell s1 cage s2 s3 s4
  have h2 : s2.time = s.time := State.when_time _ fun _ => rfl
  have h3 : s3.time = s2.time := State.when_time _ fun _ => rfl
  have h4 : s4.time = s3.time := (State.showPll_time _ _).trans (State.showThermal_time_pins _ _ _ s3).1
  rw [State.refClock_time, h4, h3, h2]

/-- The readings of a boundary take MACE_IN and the tamper loops as they are. -/
theorem State.readings_pins (i : TickInputs) (s : State) :
    (s.readings i).md.pins.maceIn = i.maceIn ∧ (s.readings i).md.pins.tamper = i.tamper := by
  unfold State.readings
  extract_lets fell s1 cage s2 s3 s4
  have h2 : s2.md.pins.maceIn = i.maceIn ∧ s2.md.pins.tamper = i.tamper := by
    unfold s2
    rw [State.sdmYield_eq]
    exact ⟨rfl, rfl⟩
  have h3 : s3.md.pins.maceIn = i.maceIn ∧ s3.md.pins.tamper = i.tamper :=
    State.when_preserves (P := fun t => t.md.pins.maceIn = i.maceIn ∧ t.md.pins.tamper = i.tamper) _ h2 fun h => h
  have h4 : s4.md.pins = s3.md.pins := (State.showPll_pins _ _).trans (State.showThermal_time_pins _ _ _ s3).2
  rw [State.refClock_md, h4]
  exact h3

/-! ### The boundary -/

/-- The tick under way ends in the cores' windows. -/
def State.tickEnded (s : State) : State := s.each allCores (fun n s => (s.coreWindow n).answerWords n)

/-- The boundary is reached and its readings taken. -/
def State.ticked (i : TickInputs) (s : State) : State := s.tickEnded.runToTick.readings i

/-- A heartbeat feeds the firmware stage at the boundary. -/
def State.tickFed (i : TickInputs) (s : State) : State :=
  if i.heartbeat then (s.ticked i).haltStep.modMd (fun m => { m with fwFedAt := (s.ticked i).now }) else (s.ticked i).haltStep

theorem State.tickEnded_time (s : State) : s.tickEnded.time = s.time :=
  State.each_time _ fun _ _ => (State.answerWords_time _ _).trans (State.coreWindow_time _ _)

theorem State.ticked_time (i : TickInputs) (s : State) :
    (s.ticked i).time = { s.time with tb := s.time.tb + s.untilTick, refClock := i.refClock } := by
  have huntil : s.tickEnded.untilTick = s.untilTick := by
    unfold State.untilTick
    rw [s.tickEnded_time]
  unfold State.ticked
  rw [State.readings_time, State.runToTick_time, huntil, s.tickEnded_time]

theorem State.ticked_pins (i : TickInputs) (s : State) :
    (s.ticked i).md.pins.maceIn = i.maceIn ∧ (s.ticked i).md.pins.tamper = i.tamper :=
  State.readings_pins i _

theorem State.ticked_now (i : TickInputs) (s : State) : (s.ticked i).now = s.now + s.untilTick :=
  congrArg (·.tb) (s.ticked_time i)

theorem State.ticked_whole {s : State} (i : TickInputs) (h : s.time.mode ≠ .invalid) :
    ((s.ticked i).time.tb + (s.ticked i).time.e) % 1000 = 0 := by
  rw [s.ticked_time i]
  exact State.untilTick_whole h

theorem State.tickFed_eq (i : TickInputs) (s : State) : (s.ticked i).haltStep.when i.heartbeat
    (fun s => s.modMd (fun m => { m with fwFedAt := s.now })) = s.tickFed i := by
  have hnow : (s.ticked i).haltStep.now = (s.ticked i).now := congrArg (·.tb) (State.haltStep_time _)
  unfold State.tickFed
  cases i.heartbeat with
  | false => rw [State.when_false, if_neg Bool.false_ne_true]
  | true => rw [State.when_true, hnow, if_pos rfl]

theorem execTickBoundary_eq (i : TickInputs) (s : State) : exec (.tickBoundary i) s =
    .next (if (s.tickFed i).md.mode.serves && !(s.tickFed i).md.poweredOff && !(s.tickFed i).md.heldInReset then
      ((s.tickFed i).tickBody i).diagnose else (s.tickFed i).diagnose) := by
  rw [← s.tickFed_eq i]
  rfl

/-- A tick boundary: what a tick does where the firmware runs, and self-diagnosis in any case. -/
theorem tickBoundary_does (i : TickInputs) (s : State) : Does (.tickBoundary i) s (fun t =>
    t.getN K.healthSelfDiagnosis = t.diagBits ∧
    t = (if (s.tickFed i).md.mode.serves = true ∧ (s.tickFed i).md.poweredOff = false ∧ (s.tickFed i).md.heldInReset = false
      then (s.tickFed i).tickBody i else s.tickFed i).diagnose) := by
  have hexec := execTickBoundary_eq i s
  by_cases hruns : (s.tickFed i).md.mode.serves = true ∧ (s.tickFed i).md.poweredOff = false ∧
      (s.tickFed i).md.heldInReset = false
  · rw [if_pos (by simpa [and_assoc] using hruns)] at hexec
    rw [if_pos hruns]
    exact .of_next hexec ⟨State.diagnose_shows _, rfl⟩
  · rw [if_neg (by simpa [and_assoc] using hruns)] at hexec
    rw [if_neg hruns]
    exact .of_next hexec ⟨State.diagnose_shows _, rfl⟩

end Sys2Proof.Machine
end

section
/-! Supplies, trims, junction, coolant, clocks and test access (spec/02): what each of their commands does. -/

namespace Sys2Proof.Machine

theorem State.inc_raise_counts {k : Nat} (c : Nat) (a : Args) (s : State) (h : noting k = false) :
    counts s ((s.inc k).raise c a) k 1 :=
  counts_of_get_eq (State.inc_counts k s) (State.get_raise _ _ _ _ h)

/-! ### Main loss and the way back (R31, R32) -/

theorem holdSwitchIn_does {s : State} (hstarted : s.md.started = true) (hon : s.md.poweredOff = false) :
    Does .holdSwitchIn s (fun t => t.md.onHold = true) := by
  have hexec : exec .holdSwitchIn s =
      .next (s.when (s.md.started && !s.md.poweredOff) (State.modMd (fun m => { m with onHold := true }))) := rfl
  rw [hstarted, hon] at hexec
  exact .of_next hexec rfl

theorem mainDip_does {s : State} (hhold : s.md.onHold = true) (hmain : s.md.mainLoss = false) :
    Does .mainDip s (fun t => t.md.onHold = false ∧ counts s t K.supplyMainDips 1) := by
  have hexec : exec .mainDip s =
      .next (((s.modMd (fun m => { m with onHold := false })).inc K.supplyMainDips).raise0 Cause.mainDip) := by
    show execMainDip s = _
    unfold execMainDip
    rw [if_pos (by simp [hhold, hmain])]
  refine .of_next hexec ⟨?_, counts_from_get_eq (State.inc_raise_counts _ _ _ (by decide)) (State.get_modMd _ s _)⟩
  rw [State.raise0_md, State.inc_md, State.modMd_md]

theorem execPowerFailRestart_eq {s : State} (hmain : s.md.mainLoss = true) (hon : s.md.poweredOff = false)
    (hflush : s.rcd.flush = none) :
    exec .powerFailRestart s = .next (s.doReset (s.md.resetWaiting.getD .powerFail)) := by
  show execPowerFailRestart s = _
  unfold execPowerFailRestart
  rw [if_pos (by simp [hmain, hon, hflush])]

/-- A reset that waited for the end of the main loss comes at the restart. -/
theorem powerFailRestart_waited {s : State} {kind : ResetKind} (hmain : s.md.mainLoss = true) (hon : s.md.poweredOff = false)
    (hflush : s.rcd.flush = none) (hwait : s.md.resetWaiting = some kind) :
    Does .powerFailRestart s (fun t => t.md.mode = .rom ∧ t.md.pins.maceOut = false ∧
      t.getN K.moduleLastResetKind = kind.code) := by
  have hexec := execPowerFailRestart_eq hmain hon hflush
  rw [hwait] at hexec
  obtain ⟨hmode, hmace, -, -, hkind, -⟩ := s.doReset_resetTo kind
  exact .of_next hexec ⟨hmode, hmace, hkind⟩

/-- With no reset waiting, the restart after a main loss is a reset of kind 1. -/
theorem powerFailRestart_does {s : State} (hmain : s.md.mainLoss = true) (hon : s.md.poweredOff = false)
    (hflush : s.rcd.flush = none) (hwait : s.md.resetWaiting = none) :
    Does .powerFailRestart s (fun t => resetTo t 1 Cause.mainLoss) := by
  have hexec := execPowerFailRestart_eq hmain hon hflush
  rw [hwait] at hexec
  exact .of_next hexec (s.doReset_resetTo .powerFail)

theorem holdUndervoltage_does {s : State} (hmain : s.md.mainLoss = true) (hon : s.md.poweredOff = false) :
    Does .holdUndervoltage s (fun t => t.md.poweredOff = true ∧ t.md.started = false ∧ t.md.domainsOn = 0 ∧
      t.md.pins.maceOut = false) := by
  refine ⟨_, if_pos (by simp [hmain, hon]), ?_⟩
  exact ⟨rfl, rfl, rfl, rfl⟩

/-! ### Readings (R33, Table 2-13) -/

theorem State.get_noteTimer (t : Timer) (b : Bool) (s : State) (k : Nat) : (s.noteTimer t b).get k = s.get k := by
  rw [State.noteTimer_eq, State.get_modMd]

theorem State.get_readMain (v : BitVec 16) (s : State) (k : Nat) :
    (s.readMain v).get k = (s.put K.supplyV12 v.toNat).get k := State.get_noteTimer _ _ _ _

theorem State.get_readAux (v : BitVec 16) (s : State) (k : Nat) :
    (s.readAux v).get k = (s.put K.supplyVAUX v.toNat).get k := State.get_noteTimer _ _ _ _

theorem holdEnergyPublish_does (v12 vaux vh pw : BitVec 16) (s : State) : Does (.holdEnergyPublish v12 vaux vh pw) s (fun t =>
    t.getN K.supplyV12 = v12.toNat ∧ t.getN K.supplyVHOLD = vh.toNat ∧
    t.getN K.supplyHoldEnergy = holdEnergy (s.getN K.supplyHoldCapacitance) vh.toNat) := by
  refine ⟨_, rfl, State.getN_of_get ?_, State.getN_of_get ?_, State.getN_of_get ?_⟩
  · simp (disch := decide) only [State.noteHold, State.get_noteTimer, State.get_put_other, State.get_readAux,
      State.get_readMain, State.get_put_same]
  · simp (disch := decide) only [State.noteHold, State.get_noteTimer, State.get_put_other, State.get_put_same]
  · simp (disch := decide) only [State.noteHold, State.get_noteTimer, State.get_put_other, State.get_put_same, State.getN,
      State.get_readAux, State.get_readMain]

/-- Hold energy that has been too low for 1 s is raised, and nothing else happens. -/
theorem holdEnergyLow_does {s : State} (hlow : s.getN K.supplyHoldEnergy < 1500) (hmain : s.mainPresent = true)
    (hdue : ∃ t0, s.md.timers.lookup .holdLow = some t0 ∧ t0 + 1000000000 ≤ s.now) :
    Does .holdEnergyLow s (fun t => t = s.raise0 Cause.holdEnergyLow) := by
  have hnote : s.noteHold = s := by
    obtain ⟨t0, hl, -⟩ := hdue
    unfold State.noteHold
    rw [decide_eq_true hlow, hmain]
    exact State.noteTimer_running hl
  have hexec : exec .holdEnergyLow s =
      .next (s.noteHold.when (s.noteHold.heldFor .holdLow sec) (State.raise0 Cause.holdEnergyLow)) :=
    rfl
  rw [hnote, State.heldFor_of_due hdue] at hexec
  exact .of_next hexec rfl

/-- 12V_MAIN that has been out of its range for 10 ms is shown and raised. -/
theorem mainOutOfRange_does {s : State} {v12 : BitVec 16} (hon : s.md.poweredOff = false)
    (hrange : v12.toNat < 11400 ∨ 12600 < v12.toNat)
    (hdue : ∃ t0, s.md.timers.lookup .mainRange = some t0 ∧ t0 + 10000000 ≤ s.now) :
    Does (.mainOutOfRange v12) s (fun t => t = (s.put K.supplyV12 v12.toNat).raise0 Cause.mainOutOfRange) := by
  have hread : s.readMain v12 = s.put K.supplyV12 v12.toNat := by
    obtain ⟨t0, hl, -⟩ := hdue
    unfold State.readMain
    have hout : (!s.md.poweredOff && (decide (v12.toNat < 11400) || decide (12600 < v12.toNat))) = true := by simp [hon, hrange]
    rw [hout]
    exact State.noteTimer_running (s := s.put K.supplyV12 v12.toNat) hl
  have hexec : exec (.mainOutOfRange v12) s =
      .next ((s.readMain v12).when ((s.readMain v12).heldFor .mainRange (10 * ms)) (State.raise0 Cause.mainOutOfRange)) := rfl
  rw [hread, State.heldFor_of_due (s := s.put K.supplyV12 v12.toNat) (d := 10 * ms) hdue] at hexec
  exact .of_next hexec rfl

/-- AUX that has been low for 10 ms is shown and raised. -/
theorem auxLow_does {s : State} {vaux : BitVec 16} (hon : s.md.poweredOff = false) (hlow : vaux.toNat < 3135)
    (hdue : ∃ t0, s.md.timers.lookup .auxLow = some t0 ∧ t0 + 10000000 ≤ s.now) :
    Does (.auxLow vaux) s (fun t => t = (s.put K.supplyVAUX vaux.toNat).raise0 Cause.auxLow) := by
  have hread : s.readAux vaux = s.put K.supplyVAUX vaux.toNat := by
    obtain ⟨t0, hl, -⟩ := hdue
    unfold State.readAux
    rw [hon, decide_eq_true hlow]
    exact State.noteTimer_running (s := s.put K.supplyVAUX vaux.toNat) hl
  have hexec : exec (.auxLow vaux) s =
      .next ((s.readAux vaux).when ((s.readAux vaux).heldFor .auxLow (10 * ms)) (State.raise0 Cause.auxLow)) := rfl
  rw [hread, State.heldFor_of_due (s := s.put K.supplyVAUX vaux.toNat) (d := 10 * ms) hdue] at hexec
  exact .of_next hexec rfl

/-! ### Supply trim (R36, R37) -/

theorem trimTrim_ne_steps (g : Fin 9) : K.trimTrim g ≠ K.trimTrimSteps := by
  revert g
  decide

theorem noting_trimTrim (g : Fin 9) : noting (K.trimTrim g) = false := by
  revert g
  decide

/-- A trim step: the group's trim, one count more, one entry more in the log. -/
theorem State.trimStep_does (g : Fin 9) (new : Int) (lowest : Nat) (s : State) :
    (s.trimStep g new lowest).get (K.trimTrim g) = new ∧ counts s (s.trimStep g new lowest) K.trimTrimSteps 1 ∧
    ∃ e l, (s.trimStep g new lowest).md.trimLog = e :: l ∧ e.group = g ∧ e.old = s.get (K.trimTrim g) ∧ e.new = new := by
  unfold State.trimStep
  dsimp only
  refine ⟨?_, ?_, ?_⟩
  · rw [State.get_raise _ _ _ _ (noting_trimTrim g), State.get_inc_other _ _ _ (trimTrim_ne_steps g), State.get_modMd,
      State.get_put_same]
  · refine counts_from_get_eq (State.inc_raise_counts _ _ _ (by decide)) ?_
    rw [State.get_modMd, State.get_put_other _ _ _ _ (trimTrim_ne_steps g).symm]
  · rw [State.raise_md, State.inc_md, State.modMd_md]
    exact ⟨_, _, rfl, rfl, rfl, rfl⟩

/-- A restarted timer changes no object and nothing of the module's own state but the timers. -/
theorem State.get_restartTimer (t : Timer) (s : State) (k : Nat) : (s.restartTimer t).get k = s.get k := by
  rw [State.restartTimer_eq, State.get_modMd]

theorem execTrimRaise_eq {g : Fin 9} {code : BitVec 6} {s : State} (hcode : code.toNat ≤ 8) (hon : s.md.poweredOff = false) :
    exec (.trimRaise g code) s = .next (
      if 60 ≤ (s.restartTimer (.trimClear g)).get (K.trimTrim g) then (s.restartTimer (.trimClear g)).trimLimit g code.toNat
      else if ((s.restartTimer (.trimClear g)).md.timers.lookup (.trimRaised g)).isNone ∨
          (s.restartTimer (.trimClear g)).heldFor (.trimRaised g) ms then
        ((s.restartTimer (.trimClear g)).trimStep g ((s.restartTimer (.trimClear g)).get (K.trimTrim g) + 5)
          code.toNat).restartTimer (.trimRaised g)
      else s.restartTimer (.trimClear g)) := by
  show execTrimRaise g code s = _
  unfold execTrimRaise
  rw [if_pos (by simp [hcode, hon])]

/-- A low code raises the trim of its group by 5 mV, counted and logged. -/
theorem trimRaise_steps {s : State} {g : Fin 9} {code : BitVec 6} (hon : s.md.poweredOff = false) (hcode : code.toNat ≤ 8)
    (hbelow : s.get (K.trimTrim g) < 60) (hwait : s.md.timers.lookup (.trimRaised g) = none ∨
      ∃ t0, s.md.timers.lookup (.trimRaised g) = some t0 ∧ t0 + 1000000 ≤ s.now) :
    Does (.trimRaise g code) s (fun t => t.get (K.trimTrim g) = s.get (K.trimTrim g) + 5 ∧ counts s t K.trimTrimSteps 1 ∧
      ∃ e l, t.md.trimLog = e :: l ∧ e.group = g ∧ e.old = s.get (K.trimTrim g) ∧ e.new = s.get (K.trimTrim g) + 5) := by
  have hother : Timer.trimRaised g ≠ Timer.trimClear g := by simp
  have hlookup := State.restartTimer_timers_other s hother
  have htime : (s.restartTimer (.trimClear g)).time = s.time := by rw [State.restartTimer_eq, State.modMd_time]
  have hready : ((s.restartTimer (.trimClear g)).md.timers.lookup (.trimRaised g)).isNone ∨
      (s.restartTimer (.trimClear g)).heldFor (.trimRaised g) ms = true := by
    rw [State.heldFor_eq _ _ hlookup htime, hlookup]
    exact hwait.imp (fun h => by rw [h]; rfl) State.heldFor_of_due
  have hexec := execTrimRaise_eq (g := g) hcode hon
  rw [State.get_restartTimer, if_neg (by omega), if_pos hready] at hexec
  obtain ⟨hget, hcount, e, l, hlog, hgroup, hold, hnew⟩ := State.trimStep_does g (s.get (K.trimTrim g) + 5) code.toNat
    (s.restartTimer (.trimClear g))
  rw [State.get_restartTimer] at hold
  refine .of_next hexec ⟨?_, ?_, e, l, ?_, hgroup, hold, hnew⟩
  · rw [State.get_restartTimer, hget]
  · exact counts_of_get_eq (counts_from_get_eq hcount (State.get_restartTimer _ _ _)) (State.get_restartTimer _ _ _)
  · rw [State.restartTimer_eq, State.modMd_md, hlog]

/-- At +60 mV a code of 2 or less shows the group degraded (R37). -/
theorem trimRaise_limit {s : State} {g : Fin 9} {code : BitVec 6} (hon : s.md.poweredOff = false) (hcode : code.toNat ≤ 2)
    (hat : s.get (K.trimTrim g) = 60) :
    Does (.trimRaise g code) s (fun t => t.get (K.trimTrim g) = 60 ∧ t.md.trimDegraded.getLsbD g = true) := by
  have hexec := execTrimRaise_eq (code := code) (g := g) (by omega) hon
  rw [State.get_restartTimer, if_pos (by omega)] at hexec
  refine .of_next hexec ?_
  have hget := (State.get_restartTimer (.trimClear g) s (K.trimTrim g)).trans hat
  unfold State.trimLimit
  split
  · rename_i hcond
    refine ⟨?_, ?_⟩
    · rw [State.raiseOn, State.get_raise _ _ _ _ (noting_trimTrim g), State.get_modMd, hget]
    · rw [State.raiseOn_md, State.modMd_md, BitVec.getLsbD_or]
      simp
  · rename_i hcond
    refine ⟨hget, ?_⟩
    by_contra hclear
    exact hcond ⟨hget, hcode, by simpa using hclear⟩

/-- An hour of high codes lowers the trim of its group by 5 mV, counted. -/
theorem trimLower_does {s : State} {g : Fin 9} {code : BitVec 6} (hon : s.md.poweredOff = false) (hcode : 24 ≤ code.toNat)
    (habove : -60 < s.get (K.trimTrim g))
    (hhour : (s.md.timers.lookup (.trimClear g)).getD s.md.startAt + 3600000000000 ≤ s.now) :
    Does (.trimLower g code) s (fun t => t.get (K.trimTrim g) = s.get (K.trimTrim g) - 5 ∧ counts s t K.trimTrimSteps 1) := by
  have hexec : exec (.trimLower g code) s =
      .next ((s.trimStep g (s.get (K.trimTrim g) - 5) code.toNat).restartTimer (.trimClear g)) := by
    show execTrimLower g code s = _
    unfold execTrimLower
    rw [if_pos ⟨hcode, by simp [hon], hhour⟩]
    dsimp only
    rw [decide_eq_true habove]
    rfl
  obtain ⟨hget, hcount, -⟩ := State.trimStep_does g (s.get (K.trimTrim g) - 5) code.toNat s
  refine .of_next hexec ⟨?_, counts_of_get_eq hcount (State.get_restartTimer _ _ _)⟩
  rw [State.get_restartTimer, hget]

/-! ### Junction (R40, Table 2-8) -/

/-- A junction reading shows the temperature and moves its timer. -/
theorem State.readJunction_eq (t : Int) (s : State) : s.readJunction t =
    (s.put K.thermalJunctionMaximum t).modMd (fun m =>
      { m with timers := timersNoted m.timers .junction105 (decide (1050 ≤ t)) s.now }) :=
  State.noteTimer_eq _ _ _

theorem State.get_readJunction (t : Int) (s : State) : (s.readJunction t).get K.thermalJunctionMaximum = t := by
  rw [State.readJunction_eq, State.get_modMd, State.get_put_same]

theorem State.readJunction_junction (t : Int) (s : State) : (s.readJunction t).md.junction = s.md.junction := by
  rw [State.readJunction_eq, State.modMd_md, State.put_md]

theorem junctionWarning_does (tj : BitVec 16) (s : State) : Does (.junctionWarning tj) s (fun t =>
    t.get K.thermalJunctionMaximum = tj.toInt ∧ (950 ≤ tj.toInt → t.md.junction.warning = true)) := by
  refine ⟨_, rfl, ?_⟩
  dsimp only
  split
  · rw [State.get_raise _ _ _ _ (by decide), State.raise_md, State.get_modJunction, State.get_readJunction]
    exact ⟨rfl, fun _ => rfl⟩
  · rename_i hcond
    refine ⟨State.get_readJunction _ _, fun hlevel => ?_⟩
    by_contra hclear
    exact hcond ⟨hlevel, by simpa using hclear⟩

/-- Saffron's Enable in force from 100 degC, and from 103 degC (R40). -/
theorem State.safEnable_high100 {s : State} (h : s.md.junction.high100 = true) : s.safEnable ≤ 1 := by
  unfold State.safEnable
  dsimp only
  rw [if_pos h]
  split
  · exact Nat.zero_le _
  · exact Nat.min_le_right _ _

theorem State.safEnable_high103 {s : State} (h : s.md.junction.high103 = true) : s.safEnable = 0 := by
  unfold State.safEnable
  simp [h]

/-- The junction responses of JUNCTION_HIGH in force after it, and whether Saffron is told. -/
theorem junctionHigh_responses (tj : BitVec 16) (s : State) : Does (.junctionHigh tj) s (fun t =>
    t.md.junction.high100 = (s.md.junction.high100 || decide (1000 ≤ tj.toInt)) ∧
    t.md.junction.high103 = (s.md.junction.high103 || decide (1030 ≤ tj.toInt)) ∧
    (1000 ≤ tj.toInt ∧ s.md.junction.high100 = false ∨ 1030 ≤ tj.toInt ∧ s.md.junction.high103 = false →
      t.md.safDue = true)) := by
  refine ⟨_, rfl, ?_⟩
  dsimp only
  rw [State.readJunction_junction]
  split
  · unfold State.safLater
    rw [State.modMd_md, State.raise_md, State.modJunction_md]
    dsimp only
    rw [State.readJunction_junction]
    refine ⟨?_, ?_, fun _ => rfl⟩
    · cases s.md.junction.high100 <;> simp
    · cases s.md.junction.high103 <;> simp
  · rename_i hcond
    rw [State.readJunction_junction]
    simp only [Bool.or_eq_true, Bool.and_eq_true, decide_eq_true_eq, Bool.not_eq_true', not_or, not_and,
      Bool.not_eq_false] at hcond
    obtain ⟨h100, h103⟩ := hcond
    refine ⟨?_, ?_, ?_⟩
    · by_cases h : 1000 ≤ tj.toInt
      · simp [h100 h]
      · simp [h]
    · by_cases h : 1030 ≤ tj.toInt
      · simp [h103 h]
      · simp [h]
    · rintro (⟨h, hclear⟩ | ⟨h, hclear⟩)
      · exact absurd (h100 h) (by simp [hclear])
      · exact absurd (h103 h) (by simp [hclear])

theorem junctionHigh_does (tj : BitVec 16) (s : State) : Does (.junctionHigh tj) s (fun t =>
    (1000 ≤ tj.toInt → t.md.junction.high100 = true ∧ t.safEnable ≤ 1 ∧ (s.md.junction.high100 = false → t.md.safDue = true)) ∧
    (1030 ≤ tj.toInt → t.md.junction.high103 = true ∧ t.safEnable = 0 ∧
      (s.md.junction.high103 = false → t.md.safDue = true))) := by
  obtain ⟨t, hexec, h100, h103, hdue⟩ := junctionHigh_responses tj s
  refine .of_next hexec ⟨fun h => ?_, fun h => ?_⟩
  · have hset : t.md.junction.high100 = true := by simp [h100, h]
    exact ⟨hset, State.safEnable_high100 hset, fun hclear => hdue (.inl ⟨h, hclear⟩)⟩
  · have hset : t.md.junction.high103 = true := by simp [h103, h]
    exact ⟨hset, State.safEnable_high103 hset, fun hclear => hdue (.inr ⟨h, hclear⟩)⟩

theorem State.diagnose_junction (s : State) : s.diagnose.md.junction = s.md.junction := by rw [State.diagnose_md]

theorem State.diagnose_peerOk (s : State) : s.diagnose.md.pins.peerOk = s.md.pins.peerOk := by
  obtain ⟨ok, h⟩ : ∃ ok, s.diagnose.md = { s.md with pins := { s.md.pins with okOut := ok } } := ⟨_, s.diagnose_md⟩
  rw [h]

/-- The mace is given up if the partner is there. -/
def State.dropForPartner (s : State) : State := s.when (s.md.pins.peerOk && s.md.pins.maceOut) State.dropMace

theorem State.dropForPartner_junction (s : State) : s.dropForPartner.md.junction = s.md.junction := by
  obtain ⟨mode, ctl, roles, hdrop⟩ := s.dropMace_md
  refine State.when_preserves (P := fun t => t.md.junction = s.md.junction) _ rfl fun _ => ?_
  rw [hdrop]

theorem State.dropForPartner_maceOut {s : State} (hpeer : s.md.pins.peerOk = true) :
    s.dropForPartner.md.pins.maceOut = false := by
  unfold State.dropForPartner
  rw [hpeer, Bool.true_and]
  cases hmace : s.md.pins.maceOut with
  | false => exact hmace
  | true =>
    obtain ⟨mode, ctl, roles, hdrop⟩ := s.dropMace_md
    rw [State.when_true, hdrop]

theorem State.sayCritical_eq (a : Args) (s : State) :
    s.sayCritical a = (s.raise Cause.junctionCritical a).diagnose.dropForPartner := rfl

theorem State.sayCritical_junction (a : Args) (s : State) : (s.sayCritical a).md.junction = s.md.junction := by
  rw [State.sayCritical_eq, State.dropForPartner_junction, State.diagnose_junction, State.raise_md]

theorem State.sayCritical_maceOut (a : Args) {s : State} (hpeer : s.md.pins.peerOk = true) :
    (s.sayCritical a).md.pins.maceOut = false := by
  rw [State.sayCritical_eq, State.dropForPartner_maceOut]
  rw [State.diagnose_peerOk, State.raise_md, hpeer]

/-- The critical responses after a reading: 105 degC for its time, or 108 degC. -/
def Junction.criticalAt (long105 at108 : Bool) (j : Junction) : Junction :=
  { j with critical105 := j.critical105 || long105, critical108 := j.critical108 || at108 }

theorem execJunctionCritical_eq (tj : BitVec 16) (s : State) : exec (.junctionCritical tj) s =
    .next (((s.readJunction tj.toInt).modJunction (Junction.criticalAt ((s.readJunction tj.toInt).heldFor .junction105 sec)
      (decide (1080 ≤ tj.toInt)))).when
      (((s.readJunction tj.toInt).heldFor .junction105 sec || decide (1080 ≤ tj.toInt)) &&
        !(s.readJunction tj.toInt).md.junction.critical) (State.sayCritical (args0 [(tj.toNat, 2)]))) := rfl

theorem State.readJunction_held {t : Int} {s : State} (h105 : 1050 ≤ t)
    (hdue : ∃ t0, s.md.timers.lookup .junction105 = some t0 ∧ t0 + 1000000000 ≤ s.now) :
    (s.readJunction t).heldFor .junction105 sec = true := by
  have hread : s.readJunction t = s.put K.thermalJunctionMaximum t := by
    obtain ⟨t0, hl, -⟩ := hdue
    unfold State.readJunction
    rw [decide_eq_true h105]
    exact State.noteTimer_running (s := s.put K.thermalJunctionMaximum t) hl
  rw [hread]
  exact State.heldFor_of_due hdue

/-- 108 degC, or 105 degC for 1 s, is critical. -/
theorem junctionCritical_does {tj : BitVec 16} {s : State} (hlevel : 1080 ≤ tj.toInt ∨ (1050 ≤ tj.toInt ∧
      ∃ t0, s.md.timers.lookup .junction105 = some t0 ∧ t0 + 1000000000 ≤ s.now)) (hclear : s.md.junction.critical = false) :
    Does (.junctionCritical tj) s (fun t => t.md.junction.critical = true ∧
      (s.md.pins.peerOk = true → t.md.pins.maceOut = false)) := by
  have hset : ((s.readJunction tj.toInt).heldFor .junction105 sec || decide (1080 ≤ tj.toInt)) = true := by
    rw [Bool.or_eq_true]
    exact hlevel.symm.imp (fun ⟨h105, hdue⟩ => State.readJunction_held h105 hdue) decide_eq_true
  have hexec := execJunctionCritical_eq tj s
  rw [State.readJunction_junction, hclear, hset, Bool.not_false, Bool.and_true, State.when_true] at hexec
  refine .of_next hexec ⟨?_, fun hpeer => State.sayCritical_maceOut _ ?_⟩
  · rw [State.sayCritical_junction, State.modJunction_md]
    unfold Junction.critical Junction.criticalAt
    simp only [Bool.or_eq_true] at hset ⊢
    exact hset.imp .inr .inr
  · rw [State.modJunction_md, State.readJunction_eq]
    exact hpeer

/-- The junction responses that a reading leaves in force: each but the trip ends 5 K below its own level. -/
def Junction.clearedAt (t : Int) (j : Junction) : Junction :=
  { j with
    warning := j.warning && decide (950 - 50 < t), high100 := j.high100 && decide (1000 - 50 < t)
    high103 := j.high103 && decide (1030 - 50 < t), critical105 := j.critical105 && decide (1050 - 50 < t)
    critical108 := j.critical108 && decide (1080 - 50 < t) }

theorem execJunctionClear_eq (tj : BitVec 16) (s : State) : exec (.junctionClear tj) s =
    .next ((s.readJunction tj.toInt).modJunction (Junction.clearedAt tj.toInt)).safLater.diagnose := rfl

/-- Each junction response ends 5 K below the level that set it. -/
theorem junctionClear_does (tj : BitVec 16) (s : State) : Does (.junctionClear tj) s (fun t =>
    (t.md.junction.warning = true ↔ s.md.junction.warning = true ∧ 900 < tj.toInt) ∧
    (t.md.junction.high103 = true ↔ s.md.junction.high103 = true ∧ 980 < tj.toInt) ∧
    (t.md.junction.critical105 = true ↔ s.md.junction.critical105 = true ∧ 1000 < tj.toInt) ∧
    (t.md.junction.critical108 = true ↔ s.md.junction.critical108 = true ∧ 1030 < tj.toInt)) := by
  have hj : (((s.readJunction tj.toInt).modJunction (Junction.clearedAt tj.toInt)).safLater.diagnose).md.junction =
      Junction.clearedAt tj.toInt s.md.junction := by
    unfold State.safLater
    rw [State.diagnose_junction, State.modMd_md, State.modJunction_md, State.readJunction_junction]
  refine .of_next (execJunctionClear_eq tj s) ?_
  rw [hj]
  simp [Junction.clearedAt]

theorem execThermalTrip_eq {tj : BitVec 16} {s : State} (hlevel : 1150 ≤ tj.toInt) (hon : s.md.poweredOff = false) :
    exec (.thermalTrip tj) s =
      .next (((s.readJunction tj.toInt).modJunction (fun j => { j with trip := true })).resetOrWait .thermal) := by
  have hread : (s.readJunction tj.toInt).md.poweredOff = false := by
    rw [State.readJunction_eq]
    exact hon
  show execThermalTrip tj s = _
  unfold execThermalTrip
  dsimp only
  rw [if_pos (by simp [hlevel, hread])]

/-- The thermal trip resets the module and holds it in reset. -/
theorem thermalTrip_resets {tj : BitVec 16} {s : State} (hlevel : 1150 ≤ tj.toInt) (hon : s.md.poweredOff = false)
    (hmain : s.md.mainLoss = false) :
    Does (.thermalTrip tj) s (fun t => resetTo t 6 Cause.thermalTrip ∧ t.md.heldInReset = true) := by
  have hread : ((s.readJunction tj.toInt).modJunction (fun j => { j with trip := true })).md.mainLoss = false := by
    rw [State.modJunction_md, State.readJunction_eq]
    exact hmain
  refine .of_next (execThermalTrip_eq hlevel hon) ⟨State.resetOrWait_resetTo .thermal hread, ?_⟩
  unfold State.resetOrWait
  rw [hread, if_neg Bool.false_ne_true, State.doReset_md]
  rfl

/-- In a main loss the thermal trip waits for its end. -/
theorem thermalTrip_waits {tj : BitVec 16} {s : State} (hlevel : 1150 ≤ tj.toInt) (hon : s.md.poweredOff = false)
    (hmain : s.md.mainLoss = true) :
    Does (.thermalTrip tj) s (fun t => t.md.resetWaiting = some .thermal) := by
  have hread : ((s.readJunction tj.toInt).modJunction (fun j => { j with trip := true })).md.mainLoss = true := by
    rw [State.modJunction_md, State.readJunction_eq]
    exact hmain
  have hover : ∀ w, ResetKind.over_ .thermal w = .thermal := by
    intro w
    cases w with
    | none => rfl
    | some x => exact if_pos (.inr rfl)
  refine .of_next (execThermalTrip_eq hlevel hon) ?_
  unfold State.resetOrWait
  rw [hread, if_pos rfl, State.modMd_md, hover]

theorem thermalTripRelease_does {tj : BitVec 16} {s : State} (htrip : s.md.junction.trip = true) (hbelow : tj.toInt < 900) :
    Does (.thermalTripRelease tj) s (fun t => t.md.heldInReset = false) := by
  have hexec : exec (.thermalTripRelease tj) s = .next (((s.readJunction tj.toInt).modMd (fun m =>
      { m with heldInReset := false, junction := .fresh })).when (s.readJunction tj.toInt).md.heldInReset
        (State.raise0 Cause.thermalTrip)) := by
    show execThermalTripRelease tj s = _
    unfold execThermalTripRelease
    dsimp only
    rw [State.readJunction_junction, if_pos ⟨htrip, hbelow⟩]
  refine .of_next hexec ?_
  refine State.when_preserves (P := fun t => t.md.heldInReset = false) _ rfl fun h => ?_
  rw [State.raise0_md, h]

/-! ### Coolant (R41) -/

theorem State.noteTimer_raise0_rcd (x : Timer) (b : Bool) (c : Nat) (s : State) :
    ((s.noteTimer x b).raise0 c).rcd = (s.raise0 c).rcd := by
  rw [State.noteTimer_eq, State.raise0, State.raise_modMd]
  rfl

theorem State.noteTimer_heldFor_other {x y : Timer} (b : Bool) (d : Nat) (s : State) (h : y ≠ x) :
    (s.noteTimer x b).heldFor y d = s.heldFor y d :=
  State.heldFor_eq _ _ (State.noteTimer_timers_other _ _ h) (State.noteTimer_time _ _ _)

/-- Coolant flow that has been low for 1 s under load is raised. -/
theorem coolantFlowLow_does {s : State} (hload : 600 ≤ s.getN K.supplyInputPower) (hlow : s.getN K.thermalFlowEstimate < 600)
    (hdue : ∃ t0, s.md.timers.lookup .flowLow = some t0 ∧ t0 + 1000000000 ≤ s.now) :
    Does .coolantFlowLow s (fun t => t.rcd = (s.raise0 Cause.coolantFlowLow).rcd) := by
  have hnote : s.noteCoolant = s.noteTimer .inletHigh (decide (450 < s.get K.thermalCoolantInlet)) := by
    obtain ⟨t0, hl, -⟩ := hdue
    unfold State.noteCoolant
    rw [decide_eq_true hload, decide_eq_true hlow, Bool.and_self, State.noteTimer_running hl]
  have hexec : exec .coolantFlowLow s =
      .next (s.noteCoolant.when (s.noteCoolant.heldFor .flowLow sec) (State.raise0 Cause.coolantFlowLow)) := rfl
  rw [hnote, State.noteTimer_heldFor_other _ _ _ (by decide), State.heldFor_of_due hdue, State.when_true] at hexec
  exact .of_next hexec (State.noteTimer_raise0_rcd _ _ _ _)

/-- A coolant inlet that has been too warm for 10 s is raised. -/
theorem coolantInletHigh_does {s : State} (hwarm : 450 < s.get K.thermalCoolantInlet)
    (hdue : ∃ t0, s.md.timers.lookup .inletHigh = some t0 ∧ t0 + 10000000000 ≤ s.now) :
    Does .coolantInletHigh s (fun t => t.rcd = (s.raise0 Cause.coolantInletHigh).rcd) := by
  have hother : Timer.inletHigh ≠ Timer.flowLow := by decide
  have hnote : s.noteCoolant = s.noteTimer .flowLow
      (decide (600 ≤ s.getN K.supplyInputPower) && decide (s.getN K.thermalFlowEstimate < 600)) := by
    obtain ⟨t0, hl, -⟩ := hdue
    unfold State.noteCoolant
    rw [decide_eq_true hwarm]
    exact State.noteTimer_running ((State.noteTimer_timers_other _ _ hother).trans hl)
  have hexec : exec .coolantInletHigh s =
      .next (s.noteCoolant.when (s.noteCoolant.heldFor .inletHigh (10 * sec)) (State.raise0 Cause.coolantInletHigh)) := rfl
  rw [hnote, State.noteTimer_heldFor_other _ _ _ hother, State.heldFor_of_due (d := 10 * sec) hdue, State.when_true] at hexec
  exact .of_next hexec (State.noteTimer_raise0_rcd _ _ _ _)

/-! ### Clocks (R42 to R52) -/

theorem refClockLoss_does (s : State) : Does .refClockLoss s (fun t => t.time.refClock = false) :=
  .of_next rfl (congrArg (·.refClock) (s.refClock_time false))

/-- A PLL of the first three (TB, CTL, SAF) out of lock shows in the three bits that self-diagnosis reads. -/
theorem lock_and_seven_ne {lock : BitVec 6} {p : Fin 6} (hp : p.val < 3) : (lock &&& ~~~(1#6 <<< p.val)) &&& 7 ≠ 7 := by
  have hseven : ∀ p : Fin 6, p.val < 3 → (7 : BitVec 6).getLsbD p.val = true := by decide
  have hclear : ((lock &&& ~~~(1#6 <<< p.val)) &&& 7).getLsbD p.val = false := by simp
  intro h
  rw [h, hseven p hp] at hclear
  exact Bool.noConfusion hclear

theorem pllUnlock_does (p : Fin 6) (s : State) : Does (.pllUnlock p) s (fun t =>
    t.md.pllLock = s.md.pllLock &&& ~~~(1#6 <<< p.val) ∧ (p.val < 3 → t.pair.pllBad = true)) := by
  have hexec : exec (.pllUnlock p) s =
      .next ((s.showPll (s.md.pllLock &&& ~~~(1#6 <<< p.val))).raiseOn Cause.pllUnlock p).diagnose := rfl
  refine .of_next hexec ⟨?_, fun hp => ?_⟩
  · rw [State.diagnose_md, State.raiseOn_md]
    rfl
  · rw [(State.diagnose_noted _).pair, State.modPins_pair, State.raiseOn_pair]
    exact decide_eq_true (lock_and_seven_ne hp)

theorem sdmClockTakeover_does {s : State} {q : Fin 4} (h : s.md.sdm[q] = .listening) :
    Does (.sdmClockTakeover q) s (fun t => t.md.sdm[q] = .driving ∧ ∀ z : Fin 4, z ≠ q → t.md.sdm[z] = s.md.sdm[z]) := by
  have hexec : exec (.sdmClockTakeover q) s =
      .next ((s.modMd (fun m => { m with sdm := m.sdm.set q .driving })).raiseOn Cause.sdmClockTakeover q) := by
    show execSdmClockTakeover q s = _
    unfold execSdmClockTakeover
    rw [if_pos h]
  refine .of_next hexec ?_
  rw [State.raiseOn_md, State.modMd_md]
  refine ⟨Vector.getElem_set_self _, fun z hz => ?_⟩
  exact Vector.getElem_set_ne q.isLt z.isLt fun heq => hz (Fin.ext heq.symm)

theorem ppsOutPulse_does {s : State} (hvalid : s.time.mode ≠ .invalid) (hsecond : s.ft % 1000000000 < 1000)
    (hon : s.md.poweredOff = false) : Does .ppsOutPulse s (fun t => t.md.pins.ppsOut = true) := by
  have hexec : exec .ppsOutPulse s = .next (s.when (decide (s.time.mode ≠ .invalid) && decide (s.ft % sec < 1000) &&
      !s.md.poweredOff) (State.modPins (fun p => { p with ppsOut := true }))) := rfl
  rw [decide_eq_true hvalid, decide_eq_true (show s.ft % sec < 1000 from hsecond), hon] at hexec
  exact .of_next hexec rfl

/-! ### Test access (R56) -/

/-- The instructions of test access that are available as the module stands. -/
def State.jtagAvailable (j : Jtag) (serviceEn : Bool) (s : State) : Bool :=
  match j with
  | .bypass | .idcode | .samplePreload => true
  | .driving => s.md.pins.rstLow && serviceEn
  | .debug => decide (s.getN K.secMode ≠ 0)

theorem execBoundaryScanInstruction_eq (j : Jtag) (sv : Bool) (s : State) : exec (.boundaryScanInstruction j sv) s =
    .next ((s.modPins (fun p => { p with serviceEn := sv })).when (s.jtagAvailable j sv)
      (State.modMd (fun m => { m with jtag := j }))) := by
  cases j <;> rfl

/-- An available instruction comes into force, another leaves the one in force; SERVICE_EN is taken in either case. -/
theorem boundaryScanInstruction_takes (j : Jtag) (sv : Bool) (s : State) : Does (.boundaryScanInstruction j sv) s (fun t =>
    t.md.pins.serviceEn = sv ∧ t.md.jtag = if s.jtagAvailable j sv then j else s.md.jtag) := by
  refine .of_next (execBoundaryScanInstruction_eq j sv s) ?_
  cases s.jtagAvailable j sv with
  | false => exact ⟨rfl, rfl⟩
  | true => exact ⟨rfl, rfl⟩

theorem boundaryScanInstruction_does (j : Jtag) (sv : Bool) (s : State) : Does (.boundaryScanInstruction j sv) s (fun t =>
    t.md.pins.serviceEn = sv ∧
    (j = .bypass ∨ j = .idcode ∨ j = .samplePreload → t.md.jtag = j) ∧
    (j = .driving → t.md.jtag = if s.md.pins.rstLow = true ∧ sv = true then .driving else s.md.jtag) ∧
    (j = .debug → s.getN K.secMode = 0 → t.md.jtag = s.md.jtag)) := by
  obtain ⟨t, hexec, hservice, hjtag⟩ := boundaryScanInstruction_takes j sv s
  refine .of_next hexec ⟨hservice, ?_, ?_, ?_⟩
  · rintro (rfl | rfl | rfl) <;> exact hjtag
  · rintro rfl
    simpa [State.jtagAvailable] using hjtag
  · rintro rfl hmode
    simpa [State.jtagAvailable, hmode] using hjtag

end Sys2Proof.Machine
end

section
/-! O55: the clauses together. -/

namespace Sys2Proof.Machine

/-- Settles O55: each clause is the lemma of its command above; the conditions that a rule times meet the timers of the state
as they stand. -/
theorem suppliesClocksAndTicks : Obligations.SuppliesClocksAndTicks := by
  unfold Obligations.SuppliesClocksAndTicks
  intro s v12 vaux vh pw tj g code p x i j sv q m k deg lock tamper ended ticked fed due
  refine ⟨holdSwitchIn_does, mainDip_does, mainLoss_does, fun hmain hon => ⟨?_, ?_, ?_⟩, ?_⟩
  · exact fun kind hflush hwait => powerFailRestart_waited hmain hon hflush hwait
  · exact fun hflush hwait => powerFailRestart_does hmain hon hflush hwait
  · exact holdUndervoltage_does hmain hon
  refine ⟨holdEnergyPublish_does v12 vaux vh pw s, holdEnergyLow_does, fun hon => ⟨?_, ?_, ?_, ?_, ?_⟩, ?_⟩
  · exact fun hrange hdue => mainOutOfRange_does hon hrange hdue
  · exact fun hlow hdue => auxLow_does hon hlow hdue
  · exact fun hcode hbelow hwait => trimRaise_steps hon hcode hbelow hwait
  · exact fun hcode hat => trimRaise_limit hon hcode hat
  · exact fun hcode habove hhour => trimLower_does hon hcode habove hhour
  refine ⟨junctionWarning_does tj s, junctionHigh_does tj s, junctionCritical_does, junctionClear_does tj s,
    fun hlevel hon => ⟨thermalTrip_resets hlevel hon, thermalTrip_waits hlevel hon⟩, thermalTripRelease_does,
    coolantFlowLow_does, coolantInletHigh_does, fun _ => refClockLoss_does s, pllUnlock_does p s, sdmClockTakeover_does,
    ppsOutPulse_does, boundaryScanInstruction_does j sv s, tamperDetected_shows, tamperDetected_zeroises, ?_⟩
  exact ⟨s.ticked_now i, s.ticked_whole i, (s.ticked_pins i).1, (s.ticked_pins i).2, congrArg (·.refClock) (s.ticked_time i),
    tickBoundary_does i s⟩

end Sys2Proof.Machine
end

section
/-! What stays as it was while a module takes, gives up or loses the mace: the mode, the pins and the objects of the pair
service, through the start of the converters, causes and the steps of halting. -/

namespace Sys2Proof.Machine

/-! ### Reads of objects -/

@[simp] theorem State.get_modPair (f : PairSt → PairSt) (s : State) (k : Nat) : (s.modPair f).get k = s.get k := rfl

theorem State.getB_congr {s t : State} {k : Nat} (h : t.get k = s.get k) : t.getB k = s.getB k := by
  unfold State.getB
  rw [h]

theorem State.getN_congr {s t : State} {k : Nat} (h : t.get k = s.get k) : t.getN k = s.getN k := by
  unfold State.getN
  rw [h]

/-- The claim is as it was last set. -/
theorem State.getB_armClaim (b : Bool) (s : State) : (s.armClaim b).getB K.pairClaimArmed = b := by
  unfold State.getB State.armClaim State.putB
  rw [State.get_put_same]
  cases b <;> rfl

/-- An object from the pair service (0x9000) on is none that raising a cause writes. -/
theorem noting_of_pair {k : Nat} (h : 0x900000 ≤ k) : noting k = false := by
  simp only [noting, K.sessEventsLost, K.recStagingHighMark, K.recCausesNotStaged, K.trigMatches, Bool.or_eq_false_iff,
    decide_eq_false_iff_not, List.any_eq_false, List.mem_range, decide_eq_true_eq]
  exact ⟨⟨⟨by omega, by omega⟩, by omega⟩, fun i hi => by omega⟩

/-! ### What is kept -/

/-- The mode, the pins and every object from the pair service (0x9000) on are as they were. -/
structure PairKept (s t : State) : Prop where
  mode : t.md.mode = s.md.mode
  pins : t.md.pins = s.md.pins
  get : ∀ k, 0x900000 ≤ k → t.get k = s.get k

theorem PairKept.rfl {s : State} : PairKept s s := ⟨by rfl, by rfl, fun _ _ => by rfl⟩

theorem PairKept.trans {s t u : State} (h : PairKept s t) (g : PairKept t u) : PairKept s u :=
  ⟨g.mode.trans h.mode, g.pins.trans h.pins, fun k hk => (g.get k hk).trans (h.get k hk)⟩

theorem PairKept.when {s t : State} {b : Bool} {f : State → State} (h : PairKept s t) (hf : PairKept t (f t)) :
    PairKept s (t.when b f) :=
  State.when_preserves b h fun h => h.trans hf

theorem PairKept.each {α : Type} {s t : State} {l : List α} {f : α → State → State} (h : PairKept s t)
    (hf : ∀ a u, PairKept u (f a u)) : PairKept s (t.each l f) :=
  State.each_preserves l h fun a u hu => hu.trans (hf a u)

theorem PairKept.ite {s t u : State} {c : Prop} [Decidable c] (ht : PairKept s t) (hu : PairKept s u) :
    PairKept s (if c then t else u) :=
  iteInduction (motive := PairKept s) (fun _ => ht) (fun _ => hu)

/-- An operation that leaves the module's own state alone, and the objects of the pair service. -/
theorem PairKept.of_md {s t : State} (hmd : t.md = s.md) (hget : ∀ k, 0x900000 ≤ k → t.get k = s.get k) : PairKept s t :=
  ⟨by rw [hmd], by rw [hmd], hget⟩

/-- An operation that leaves the module's own state and the objects alone. -/
theorem PairKept.of_objs {s t : State} (hmd : t.md = s.md) (hobjs : t.objs = s.objs) : PairKept s t :=
  .of_md hmd fun k _ => by unfold State.get; rw [hobjs]

theorem State.put_pairKept (k : Nat) (v : Int) (s : State) (h : k < 0x900000) : PairKept s (s.put k v) :=
  .of_md (by rfl) fun _ hj => State.get_put_other _ _ _ _ (by omega)

theorem State.raise_pairKept (c : Nat) (a : Args) (s : State) : PairKept s (s.raise c a) :=
  .of_md (State.raise_md _ _ _) fun _ hk => State.get_raise _ _ _ _ (noting_of_pair hk)

theorem State.raise0_pairKept (c : Nat) (s : State) : PairKept s (s.raise0 c) := State.raise_pairKept _ _ _

theorem State.modConv_pairKept (c : Conv) (f : ConvSt → ConvSt) (s : State) : PairKept s (s.modConv c f) :=
  .of_objs (State.modConv_md _ _ _) (State.modConv_objs _ _ _)

theorem State.modPhase_pairKept (p : Fin 20) (f : Phase → Phase) (s : State) : PairKept s (s.modPhase p f) :=
  .of_objs (by rfl) (by rfl)

theorem State.modCore_pairKept (n : Fin 4) (f : CoreSt → CoreSt) (s : State) : PairKept s (s.modCore n f) :=
  .of_objs (by rfl) (by rfl)

theorem State.modSaf_pairKept (f : SafState → SafState) (s : State) : PairKept s (s.modSaf f) := .of_objs (by rfl) (by rfl)

/-! ### Starting the converters (R129) -/

theorem State.startPhases_pairKept (c : Conv) (s : State) : PairKept s (s.startPhases c) := by
  refine PairKept.rfl.each fun p u => ?_
  split
  · exact .rfl
  · exact .rfl
  · exact (State.modPhase_pairKept _ _ _).trans (State.put_pairKept _ _ _ (by simp only [K.phaseTrimWeight]; omega))

theorem State.putFeedPower_pairKept (v : Int) (s : State) : PairKept s (s.putFeedPower v) :=
  .ite (.of_objs (by rfl) (by rfl)) .rfl

theorem State.softStart_pairKept (c : Conv) (s : State) : PairKept s (s.softStart c) := by
  cases c with
  | storage => unfold State.softStart; exact State.modConv_pairKept .storage _ s
  | feed =>
    refine .ite ?_ (State.putFeedPower_pairKept _ _)
    exact (((PairKept.of_objs (by rfl) (by rfl)).trans (State.put_pairKept K.busReferenceInForce _ _ (by decide))).trans
      (State.modConv_pairKept .feed _ _)).trans (State.put_pairKept K.busAtTarget _ _ (by decide))

theorem State.startConv_pairKept (c : Conv) (s : State) : PairKept s (s.startConv c) :=
  ((State.modConv_pairKept _ _ _).trans (State.startPhases_pairKept _ _)).trans (State.softStart_pairKept _ _)

theorem State.startConverters_pairKept (s : State) : PairKept s s.startConverters :=
  have hfeed : PairKept s s.tryFeed := .ite .rfl (.ite (State.startConv_pairKept _ _) (State.modConv_pairKept _ _ _))
  hfeed.trans (.ite .rfl (.ite (State.startConv_pairKept _ _) (State.modConv_pairKept _ _ _)))

theorem State.startTaken_pairKept (s : State) : PairKept s s.startTaken := by
  unfold State.startTaken
  exact (State.startConverters_pairKept s).when
    ((State.putFeedPower_pairKept s.feedPower _).trans (State.modConv_pairKept .storage _ _))

/-! ### Roles that follow the mace (R49, R268) -/

theorem State.chainRole_pairKept (s : State) : PairKept s s.chainRole :=
  PairKept.rfl.when (State.put_pairKept _ _ _ (by decide))

theorem State.sdmYield_pairKept (s : State) : PairKept s s.sdmYield := PairKept.rfl.when ⟨by rfl, by rfl, fun _ _ => by rfl⟩

/-! ### The steps of halting (R78) -/

theorem State.showTiles_pairKept (s : State) : PairKept s s.showTiles :=
  (State.put_pairKept K.safUsableTiles _ s (by decide)).each fun t u =>
    State.put_pairKept (K.tileState t) _ u (by simp only [K.tileState]; omega)

theorem State.safApply_pairKept (s : State) : PairKept s s.safApply := by
  unfold State.safApply
  extract_lets e s1 s2 on
  have h1 : PairKept s s1 := PairKept.rfl.when (State.modSaf_pairKept _ _)
  have h2 : PairKept s1 s2 := PairKept.rfl.when (State.modSaf_pairKept _ _)
  exact ((h1.trans h2).trans ⟨by rfl, by rfl, fun _ _ => by rfl⟩).trans (State.showTiles_pairKept _)

theorem State.haltGate_pairKept (s : State) : PairKept s s.haltGate :=
  ((PairKept.rfl.each fun _ _ => State.modCore_pairKept _ _ _).trans ⟨by rfl, by rfl, fun _ _ => by rfl⟩).trans
    (State.safApply_pairKept _)

theorem State.haltJournaled_pairKept (s : State) : PairKept s s.haltJournaled :=
  have hflush : ∀ u : State, PairKept u (u.startFlush .haltOrReset) := fun u =>
    .of_md (State.startFlush_md _ _) fun _ hk => State.get_startFlush_other _ _ _ (by simp only [K.recFlushes]; omega)
  (PairKept.trans ⟨by rfl, by rfl, fun _ _ => by rfl⟩) (hflush _)

end Sys2Proof.Machine
end

section
/-! What a module is after it has taken the mace, given it up, or halted (R54, R77, R425, R432). -/

namespace Sys2Proof.Machine

/-! ### Taking the mace (R54, R425) -/

/-- The state of a module that has just raised MACE_OUT: counted, told, ACTIVE and armed. -/
def State.maceRaised (s : State) : State :=
  let u := (s.inc K.pairTakeovers).put K.pairLastTakeover s.ft
  let u := (u.put K.pairLastCoast (u.freeNat % 2 ^ 32 : Nat)).useFree
  let u := u.raise Cause.maceTakeover (args0 [(u.getN K.pairPartnerState, 1)])
  ((u.modPins (fun p => { p with maceOut := true })).enterMode .active).armClaim true

/-- What follows the rise of MACE_OUT keeps the mode, the pins and the objects of the pair. -/
theorem State.takeMace_pairKept (s : State) : PairKept s.maceRaised s.takeMace := by
  unfold State.takeMace
  extract_lets hot s1 s2 s3 s4 s5 s6 s7
  have h5 : PairKept s4 s5 := ⟨by rfl, by rfl, fun _ _ => by rfl⟩
  have h6 : PairKept s5 s6 := .of_objs (by rfl) (by rfl)
  have h7 : PairKept s6 s7 := PairKept.rfl.when (State.modConv_pairKept _ _ _)
  refine ((h5.trans h6).trans h7).trans (.ite (PairKept.rfl.each fun p u => ?_) (State.startTaken_pairKept _))
  exact State.modPhase_pairKept _ _ _

theorem State.maceRaised_pins (s : State) : s.maceRaised.md.pins = { s.md.pins with maceOut := true } := by
  unfold State.maceRaised State.armClaim
  rw [State.putB_md, State.enterMode_md, State.modPins_md, State.raise_md, State.useFree_md, State.put_md, State.put_md,
    State.inc_md]

/-- Raising MACE_OUT writes four objects of the pair. -/
theorem State.get_maceRaised {s : State} {k : Nat} (hk : 0x900000 ≤ k) (hmode : k ≠ K.moduleModuleState)
    (harmed : k ≠ K.pairClaimArmed) (hcoast : k ≠ K.pairLastCoast) :
    s.maceRaised.get k = ((s.inc K.pairTakeovers).put K.pairLastTakeover s.ft).get k := by
  unfold State.maceRaised State.armClaim State.enterMode
  rw [State.get_putB_other _ _ _ _ harmed, State.get_put_other _ _ _ _ hmode, State.get_modMd, State.get_modPins,
    State.get_raise _ _ _ _ (noting_of_pair hk), State.get_useFree, State.get_put_other _ _ _ _ hcoast]

theorem State.takeMace_pins (s : State) : s.takeMace.md.pins = { s.md.pins with maceOut := true } :=
  s.takeMace_pairKept.pins.trans s.maceRaised_pins

theorem State.takeMace_holdsMace (s : State) : s.takeMace.holdsMace :=
  ⟨congrArg (·.maceOut) s.takeMace_pins, s.takeMace_pairKept.mode⟩

theorem State.get_takeMace {s : State} {k : Nat} (hk : 0x900000 ≤ k) (hmode : k ≠ K.moduleModuleState)
    (harmed : k ≠ K.pairClaimArmed) (hcoast : k ≠ K.pairLastCoast) :
    s.takeMace.get k = ((s.inc K.pairTakeovers).put K.pairLastTakeover s.ft).get k :=
  (s.takeMace_pairKept.get k hk).trans (State.get_maceRaised hk hmode harmed hcoast)

theorem State.takeMace_counts (s : State) : counts s s.takeMace K.pairTakeovers 1 := by
  refine counts_of_get_eq (State.inc_counts _ s) ?_
  rw [State.get_takeMace (by decide) (by decide) (by decide) (by decide), State.get_put_other _ _ _ _ (by decide)]

theorem State.get_takeMace_lastTakeover (s : State) : s.takeMace.get K.pairLastTakeover = s.ft := by
  rw [State.get_takeMace (by decide) (by decide) (by decide) (by decide), State.get_put_same]

theorem State.get_takeMace_handovers (s : State) : s.takeMace.get K.pairHandovers = s.get K.pairHandovers := by
  rw [State.get_takeMace (by decide) (by decide) (by decide) (by decide), State.get_put_other _ _ _ _ (by decide),
    State.get_inc_other _ _ _ (by decide)]

/-- Once MACE_IN is low, and has been for long enough. -/
def State.maceInFree (s : State) : State :=
  (s.modPins (fun p => { p with maceIn := false })).modPair (fun p => { p with maceInFell := none })

/-- An armed module that is not held off by its power or a reset may take the mace once MACE_IN is low. -/
theorem State.mayTake_maceInFree {s : State} (hlow : s.md.pins.maceOut = false) (harmed : s.getB K.pairClaimArmed = true)
    (hon : s.md.poweredOff = false) (hrun : s.md.heldInReset = false) : s.maceInFree.mayTake = true := by
  have hget : s.maceInFree.getB K.pairClaimArmed = true := harmed
  have hmd : s.maceInFree.md = { s.md with pins := { s.md.pins with maceIn := false } } := rfl
  unfold State.mayTake
  rw [hget, hmd]
  simp [hlow, hon, hrun, State.maceInFree]

theorem State.maceInLow_of_mayTake {s : State} (hlow : s.md.pins.maceOut = false) (h : s.maceInFree.mayTake = true) :
    s.maceInLow = s.maceInFree.takeMace := by
  have hmace : s.maceInFree.md.pins.maceOut = false := hlow
  have heq : s.maceInLow = if s.maceInFree.md.pins.maceOut then s.maceInFree
    else if s.maceInFree.mayTake then s.maceInFree.takeMace
    else if s.maceInFree.md.mode = .coldStandby ∧ (!s.maceInFree.md.pins.slotB ∨ !s.maceInFree.md.pins.peerOk) then
      s.maceInFree.claim
    else s.maceInFree := rfl
  rw [heq, hmace, if_neg Bool.false_ne_true, if_pos h]

theorem State.maceInLow_of_holder {s : State} (h : s.md.pins.maceOut = true) : s.maceInLow = s.maceInFree := if_pos h

/-- A claim does not move the level of PEER_OK. -/
theorem State.claim_peerOk (s : State) : s.claim.md.pins.peerOk = s.md.pins.peerOk := by
  unfold State.claim
  split
  · refine State.when_preserves (P := fun t => t.md.pins.peerOk = s.md.pins.peerOk) _ rfl fun _ => ?_
    exact congrArg (·.peerOk) (State.takeMace_pins _)
  · rfl

/-! ### Giving up the mace (R54, R422, R432) -/

/-- The state of a holder that has just dropped MACE_OUT: disarmed, and without a handover under way. -/
def State.maceDropped (s : State) : State :=
  (((s.modPins (fun p => { p with maceOut := false })).modMd (fun m => { m with ctlArmed := false })).armClaim false).modPair
    (fun p => { p with handover := none })

/-- The same once it is cold, where it was ACTIVE. -/
def State.coldIfActive (s : State) : State := s.when (decide (s.md.mode = .active)) (State.enterMode .coldStandby)

theorem State.dropMace_eq {s : State} (h : s.md.pins.maceOut = true) :
    s.dropMace = s.maceDropped.coldIfActive.chainRole.sdmYield := if_pos h

/-- A holder that drops the mace is disarmed, and cold if it was ACTIVE. -/
theorem State.dropMace_of_holder {s : State} (h : s.md.pins.maceOut = true) : s.dropMace.md.pins.maceOut = false ∧
    s.dropMace.getB K.pairClaimArmed = false ∧ (s.md.mode = .active → s.dropMace.md.mode = .coldStandby) := by
  have hroles : PairKept s.maceDropped.coldIfActive s.dropMace := by
    rw [State.dropMace_eq h]
    exact (State.chainRole_pairKept _).trans (State.sdmYield_pairKept _)
  have hmace : s.maceDropped.coldIfActive.md.pins.maceOut = false :=
    State.when_preserves (P := fun t => t.md.pins.maceOut = false) _ rfl id
  have harmed : s.maceDropped.coldIfActive.getB K.pairClaimArmed = false :=
    State.when_preserves (P := fun t => t.getB K.pairClaimArmed = false) _ (State.getB_armClaim false _) fun hv =>
      (State.getB_congr (State.get_put_other _ _ _ _ (by decide))).trans hv
  refine ⟨?_, ?_, fun hactive => ?_⟩
  · rw [hroles.pins, hmace]
  · rw [State.getB_congr (hroles.get K.pairClaimArmed (by decide)), harmed]
  · have hmode : s.maceDropped.md.mode = .active := hactive
    rw [hroles.mode, State.coldIfActive, decide_eq_true hmode]
    rfl

/-- The state of the outgoing module of a handover once its outputs are low: disarmed, its pulses truncated. -/
def State.outputsGiven (s : State) : State :=
  (((s.modPins (fun p => { p with maceOut := false })).armClaim false).modMd (fun m => { m with ctlArmed := false })).each
    allPhases (fun p s => s.modPhase p (fun x => { x with truncNow := x.truncNow || x.switching }))

theorem State.handOut_pairKept (s : State) :
    PairKept ((s.outputsGiven.enterMode .hotStandby).inc K.pairHandovers) s.handOut :=
  ((PairKept.of_objs (by rfl) (by rfl)).trans (State.raise0_pairKept Cause.maceHandoverDone _)).trans
    (State.chainRole_pairKept _)

theorem State.outputsGiven_pairKept (s : State) :
    PairKept ((s.modPins (fun p => { p with maceOut := false })).armClaim false) s.outputsGiven :=
  (PairKept.trans ⟨by rfl, by rfl, fun _ _ => by rfl⟩ .rfl).each fun _ _ => State.modPhase_pairKept _ _ _

/-- The outgoing module of a handover: without the mace, hot, disarmed, and counted. -/
theorem State.handOut_gives (s : State) : s.handOut.md.pins.maceOut = false ∧ s.handOut.md.mode = .hotStandby ∧
    s.handOut.getB K.pairClaimArmed = false ∧ counts s s.handOut K.pairHandovers 1 := by
  have hgiven := s.outputsGiven_pairKept
  have hafter := s.handOut_pairKept
  refine ⟨?_, ?_, ?_, ?_⟩
  · rw [hafter.pins, State.inc_md, State.enterMode_md, hgiven.pins]
    rfl
  · rw [hafter.mode, State.inc_md, State.enterMode_md]
  · have hget : s.handOut.get K.pairClaimArmed = s.outputsGiven.get K.pairClaimArmed := by
      rw [hafter.get _ (by decide), State.get_inc_other _ _ _ (by decide), State.enterMode,
        State.get_put_other _ _ _ _ (by decide), State.get_modMd]
    rw [State.getB_congr (hget.trans (hgiven.get _ (by decide))), State.getB_armClaim]
  · refine counts_of_get_eq (counts_from_get_eq (State.inc_counts _ _) ?_) (hafter.get _ (by decide))
    rw [State.enterMode, State.get_put_other _ _ _ _ (by decide), State.get_modMd, hgiven.get _ (by decide)]
    exact State.get_putB_other _ _ _ _ (by decide)

/-! ### Halting (R77, R78) -/

/-- The module stands halted, whatever step of halting it is in. -/
def State.standsHalted (t : State) : Prop :=
  t.md.mode = .halted ∧ t.md.pins.okOut = false ∧ t.get K.moduleShutdownProgress = 4

theorem State.standsHalted_of_pairKept {s t : State} (h : s.standsHalted) (hk : PairKept s t) : t.standsHalted := by
  obtain ⟨hmode, hok, hprogress⟩ := h
  exact ⟨hk.mode.trans hmode, (congrArg (·.okOut) hk.pins).trans hok, (hk.get _ (by decide)).trans hprogress⟩

theorem State.diagnose_standsHalted {s : State} (h : s.standsHalted) : s.diagnose.standsHalted := by
  obtain ⟨hmode, hok, hprogress⟩ := h
  refine ⟨?_, ?_, (State.get_diagnose_other _ _ (by decide) (by decide)).trans hprogress⟩
  · rw [State.diagnose_md, hmode]
  · rw [State.diagnose_md]
    simp [State.passes, hmode, ModMode.serves]

theorem State.haltStep_standsHalted {s : State} (h : s.standsHalted) : s.haltStep.standsHalted := by
  obtain ⟨a, b, hstep⟩ := s.haltStep_eq
  rw [hstep]
  have hjournaled : (s.when a State.haltJournaled).standsHalted :=
    State.when_preserves a h fun h => State.standsHalted_of_pairKept h s.haltJournaled_pairKept
  refine State.when_preserves b hjournaled fun h => ?_
  refine State.standsHalted_of_pairKept (State.diagnose_standsHalted ?_) (State.raise0_pairKept _ _)
  exact State.standsHalted_of_pairKept h (PairKept.trans ⟨by rfl, by rfl, fun _ _ => by rfl⟩ (State.haltGate_pairKept _))

theorem State.halt_standsHalted (s : State) : s.halt.standsHalted := by
  unfold State.halt
  extract_lets s1 s2 s3
  refine State.haltStep_standsHalted (State.diagnose_standsHalted ⟨rfl, rfl, ?_⟩)
  show ((s2.put K.moduleShutdownProgress 4).putB K.pairClaimArmed false).get K.moduleShutdownProgress = 4
  rw [State.get_putB_other _ _ _ _ (by decide), State.get_put_same]

end Sys2Proof.Machine
end

section
/-! What loading a checkpoint leaves (R103, R435): engines, loop, estimate and sequence are those of the checkpoint. -/

namespace Sys2Proof.Machine

theorem Noted.each {α : Type} {s t : State} {l : List α} {f : α → State → State} (h : Noted s t)
    (hf : ∀ a u, Noted u (f a u)) : Noted s (t.each l f) :=
  State.each_preserves l h fun a u hu => hu.trans (hf a u)

/-! ### Filling the schedule -/

/-- What filling the schedule leaves alone: cores, loop, estimate, pair service, time and the sequence counter. -/
structure ScheduleOnly (s t : State) : Prop where
  card : t.card = s.card
  lp : t.lp = s.lp
  soc : t.soc = s.soc
  pair : t.pair = s.pair
  time : t.time = s.time
  nextSeq : t.clv.nextSeq = s.clv.nextSeq

theorem ScheduleOnly.rfl {s : State} : ScheduleOnly s s := by constructor <;> rfl

theorem ScheduleOnly.trans {s t u : State} (h : ScheduleOnly s t) (g : ScheduleOnly t u) : ScheduleOnly s u :=
  ⟨g.card.trans h.card, g.lp.trans h.lp, g.soc.trans h.soc, g.pair.trans h.pair, g.time.trans h.time,
    g.nextSeq.trans h.nextSeq⟩

theorem Noted.scheduleOnly {s t : State} (h : Noted s t) : ScheduleOnly s t :=
  ⟨h.card, h.lp, h.soc, h.pair, h.time, by rw [h.clv]⟩

theorem State.addMark_scheduleOnly (c : Clove) (s : State) : ScheduleOnly s (s.addMark c) := by
  unfold State.addMark
  extract_lets m l saf s1
  have h1 : ScheduleOnly s s1 := by constructor <;> rfl
  exact h1.trans ((State.put_noted K.safStepMarks _ _).when (State.raise0_noted _ _)).scheduleOnly

theorem State.showOccupancy_noted (s : State) : Noted s s.showOccupancy :=
  (State.put_noted _ _ _).trans (State.putMax_noted _ _ _)

theorem State.scheduleClove_scheduleOnly (c : Clove) (arrival : Nat) (s : State) :
    ScheduleOnly s (s.scheduleClove c arrival) := by
  unfold State.scheduleClove
  refine iteInduction (fun _ => .rfl) fun _ => ?_
  refine State.when_preserves (P := ScheduleOnly s) _ ?_ fun h => h.trans (State.addMark_scheduleOnly _ _)
  exact ScheduleOnly.trans (by constructor <;> rfl) (State.showOccupancy_noted _).scheduleOnly

theorem State.mergeSchedule_scheduleOnly (l : List SchedClove) (ws : List SeqWindow) (s : State) :
    ScheduleOnly s (s.mergeSchedule l ws) := by
  unfold State.mergeSchedule
  extract_lets seen own s1
  have h1 : ScheduleOnly s s1 := by constructor <;> rfl
  exact State.each_preserves l h1 fun _ _ h => h.trans (State.scheduleClove_scheduleOnly _ _ _)

/-! ### The sequence counter (R103) -/

/-- The counter after a move to the block above the one that holds n. -/
def sequenceAbove (n own : Nat) : Nat := if (n / 65536 + 1) * 65536 ≤ own then own else (n / 65536 + 1) * 65536 % 2 ^ 32

theorem State.aboveSequence_eq (n : Nat) (s : State) : ∃ v objs, s.aboveSequence n = { s with clv := v, objs := objs } ∧
    v.nextSeq = sequenceAbove n s.clv.nextSeq := by
  unfold State.aboveSequence sequenceAbove
  dsimp only
  split
  · exact ⟨s.clv, s.objs, rfl, rfl⟩
  · exact ⟨_, _, rfl, rfl⟩

/-! ### The checkpoint in force (R435) -/

/-- The engines, the loop, the estimate, the rack and the phases of a checkpoint, without its objects. -/
def State.enginesRestored (c : Checkpoint) (s : State) : State :=
  { s with
    card := { s.card with
      cores := Vector.ofFn (fun n : Fin 4 => { s.card.cores[n] with sm := c.memories[n], ports := c.ports[n] })
      cloveRegs := c.cloveRegs }
    lp := c.loop, soc := c.soc
    rack := { s.rack with trays := c.trays, groups := c.groups, loans := c.loans }
    pow := { s.pow with refMicro := c.refMicro, phases := c.phases, feed := s.pow.feed.loaded c.feed
                        storage := s.pow.storage.loaded c.storage } }

/-- The objects of a checkpoint replace the module's own. -/
def State.objectsRestored (c : Checkpoint) (s : State) : State :=
  { s with objs := s.objs.filter (fun e : Nat × Int => !inCheckpoint e.1) }.each c.objs (fun e s => s.put e.1 e.2)

theorem State.objectsRestored_noted (c : Checkpoint) (s : State) : Noted s (s.objectsRestored c) :=
  (show Noted s { s with objs := s.objs.filter (fun e : Nat × Int => !inCheckpoint e.1) } by constructor <;> rfl).each
    fun _ _ => State.put_noted _ _ _

theorem State.loadCheckpoint_full {c : Checkpoint} {l : List SchedClove} {ws : List SeqWindow} (s : State)
    (h : c.schedule = some (l, ws)) : s.loadCheckpoint c =
      ((((s.enginesRestored c).objectsRestored c).aboveSequence c.nextSeq).put K.mirrorMirrorSequence
        c.mirrorSeq).mergeSchedule l ws := by
  unfold State.loadCheckpoint
  rw [h]
  rfl

/-- What a full checkpoint restores. -/
structure Restored (c : Checkpoint) (s t : State) : Prop where
  sm : ∀ n : Fin 4, (t.core n).sm = c.memories[n]
  lp : t.lp = c.loop
  soc : t.soc = c.soc
  pair : t.pair = s.pair
  now : t.now = s.now
  nextSeq : t.clv.nextSeq = sequenceAbove c.nextSeq s.clv.nextSeq

theorem State.enginesRestored_sm (c : Checkpoint) (s : State) (n : Fin 4) :
    ((s.enginesRestored c).core n).sm = c.memories[n] := by
  simp [State.enginesRestored, State.core]

/-- A full checkpoint restores its engines, loop and estimate, and moves the sequence counter on. -/
theorem State.loadCheckpoint_restored {c : Checkpoint} (s : State) (h : c.schedule.isSome = true) :
    Restored c s (s.loadCheckpoint c) := by
  obtain ⟨⟨l, ws⟩, hfull⟩ := Option.isSome_iff_exists.1 h
  have hobjs := State.objectsRestored_noted c (s.enginesRestored c)
  obtain ⟨v, objs, hseq, hnext⟩ := State.aboveSequence_eq c.nextSeq ((s.enginesRestored c).objectsRestored c)
  have hmerge := State.mergeSchedule_scheduleOnly l ws
    ((((s.enginesRestored c).objectsRestored c).aboveSequence c.nextSeq).put K.mirrorMirrorSequence c.mirrorSeq)
  rw [hseq] at hmerge
  rw [State.loadCheckpoint_full s hfull, hseq]
  refine ⟨fun n => ?_, hmerge.lp.trans hobjs.lp, hmerge.soc.trans hobjs.soc, hmerge.pair.trans hobjs.pair, ?_, ?_⟩
  · rw [← s.enginesRestored_sm c n, State.core, hmerge.card]
    exact congrArg (fun x : CardState => (x.cores[n]).sm) hobjs.card
  · rw [State.now, hmerge.time]
    exact congrArg (·.tb) hobjs.time
  · rw [hmerge.nextSeq, State.put_clv, hnext, hobjs.clv]
    rfl

/-! ### No mirror waits -/

theorem State.advanceMirrors_of_waiting_nil {s : State} (h : s.pair.waiting = []) : s.advanceMirrors = s := by
  unfold State.advanceMirrors
  rw [h]
  rfl

theorem State.checkGap_of_waiting_nil {s : State} (h : s.pair.waiting = []) :
    s.checkGap = s.modPair (fun p => { p with resendAt := none }) := by
  unfold State.checkGap
  rw [h]
  rfl

end Sys2Proof.Machine
end

section
/-! What the pair's commands find before they act: a message of their kind, a write that R382 takes, the pair links. -/

namespace Sys2Proof.Machine

/-! ### Pair messages -/

theorem State.pairHear_of_pairIs {kind len : Nat} {body : List Byte} (act : State → State) (s : State)
    (h : pairIs body kind len) : s.pairHear kind len body act = act s := if_pos h

/-- With a pair link UP a message leaves over every one of them. -/
theorem State.sendPair_of_links {s : State} (kind : Nat) (rest : List Byte) (h : s.pairLinks ≠ []) :
    s.sendPair kind rest = s.send (s.pairMsg kind rest) := by
  unfold State.sendPair State.pairMsg
  cases hlinks : s.pairLinks with
  | nil => exact absurd hlinks h
  | cons n l => rfl

theorem State.sendPair_pair (kind : Nat) (rest : List Byte) (s : State) : (s.sendPair kind rest).pair = s.pair := by
  unfold State.sendPair
  split <;> rfl

/-- The pair links are read from the objects of the links alone, which stand below those of the pair. -/
theorem State.pairLinks_congr {s t : State} (h : ∀ k < 0x900000, t.get k = s.get k) : t.pairLinks = s.pairLinks := by
  have hstate : ∀ n < 32, t.linkUp n = s.linkUp n := fun n hn => by
    unfold State.linkUp
    rw [State.getN_congr (h _ (by simp only [K.linkState]; omega))]
  have hprofile : ∀ n < 32, t.profile n = s.profile n := fun n hn =>
    State.getN_congr (h _ (by simp only [K.linkProfile]; omega))
  have hup : t.upLinks = s.upLinks := List.filter_congr fun n hn => hstate n (List.mem_range.1 hn)
  unfold State.pairLinks
  rw [hup]
  refine List.filter_congr fun n hn => ?_
  rw [hprofile n (List.mem_range.1 (List.mem_filter.1 hn).1)]

theorem State.pairLinks_put {k : Nat} (v : Int) (s : State) (h : 0x900000 ≤ k) : (s.put k v).pairLinks = s.pairLinks :=
  State.pairLinks_congr fun _ hj => State.get_put_other _ _ _ _ (by omega)

/-! ### Writes that come as commands (R382) -/

/-- A write that the module takes and carries out alone is answered with success after what it does. -/
theorem State.hostWrite_of_takes {s : State} {k : Nat} {w : HostWrite} {own : Int → State → State × Nat} {t : State}
    (h : s.takes k w) (hown : ∀ v, own v s = t.ok) : s.hostWrite k w own = t.send (.status 0) := by
  obtain ⟨hcheck, hmirror⟩ := h
  rw [mirroredObject, Bool.and_or_distrib_right, Bool.or_eq_false_iff] at hmirror
  obtain ⟨hrow, hnow⟩ := hmirror
  have hchecked : s.checked k w own = t.ok := by
    unfold State.checked
    simp only [hcheck, hown]
    rw [if_neg (by decide), if_neg (not_not_intro rfl), hnow, Bool.false_and, if_neg Bool.false_ne_true]
    cases hr : Dict.row? k with
    | none => exact if_neg Bool.false_ne_true
    | some r =>
      simp only [hr] at hrow
      refine if_neg ?_
      show ¬(r.mirrored && s.mirrors && decide (t.ok.2 = 0)) = true
      rw [hrow, Bool.false_and]
      exact Bool.false_ne_true
  unfold State.hostWrite
  rw [hchecked]
  rfl

/-! ### Asking for a full checkpoint (R435) -/

/-- What a request for a full checkpoint leaves of the state it is made in. -/
theorem State.askCheckpoint_loadedAt (s : State) : s.askCheckpoint.pair.loadedAt = s.pair.loadedAt :=
  iteInduction (motive := fun t : State => t.pair.loadedAt = s.pair.loadedAt)
    (fun _ => by rw [State.put_pair, State.sendPair_pair, State.modPair_pair]) (fun _ => rfl)

/-- A request for a full checkpoint counts at most one attempt. -/
theorem State.getN_askCheckpoint_attempts_le (s : State) :
    s.askCheckpoint.getN K.ckptCatchUpAttempts ≤ s.getN K.ckptCatchUpAttempts + 1 :=
  iteInduction (motive := fun t : State => t.getN K.ckptCatchUpAttempts ≤ s.getN K.ckptCatchUpAttempts + 1)
    (fun _ => (State.getN_of_get (State.get_put_same _ _ _)).le) (fun _ => Nat.le_succ _)

/-- A cold standby that has neither asked nor loaded asks, where the partner is active and a pair link is UP. -/
theorem State.askCheckpoint_asks {s : State} (hcold : s.md.mode = .coldStandby) (hpartner : s.md.pins.maceIn = true)
    (hlinks : s.pairLinks ≠ []) (hask : s.pair.askedAt = none) (hload : s.pair.loadedAt = none)
    (htries : s.getN K.ckptCatchUpAttempts < 3) : s.askCheckpoint.pair.askedAt = some s.now ∧
      s.askCheckpoint.getN K.ckptCatchUpAttempts = s.getN K.ckptCatchUpAttempts + 1 := by
  unfold State.askCheckpoint
  rw [if_pos (by simp [hcold, hpartner, hlinks, hask, hload, htries])]
  exact ⟨by rw [State.put_pair, State.sendPair_pair, State.modPair_pair], State.getN_of_get (State.get_put_same _ _ _)⟩

end Sys2Proof.Machine
end

section
/-! Checkpoints, planned handovers and the mace (spec/17, spec/03): what each of their commands does. -/

namespace Sys2Proof.Machine

/-! ### Checkpoints on the holder (R437) -/

/-- A boundary of the checkpoint period at which the holder of the mace has to take or skip a checkpoint. -/
def State.checkpointDue (s : State) : Prop :=
  s.md.pins.maceOut = true ∧ s.time.mode ≠ .invalid ∧ s.ft % (s.getN K.ckptCheckpointPeriod * 1000000) = 0

/-- The holder's state once it has taken a checkpoint, of a free size, and before that leaves. -/
def State.checkpointTaken (s : State) : State :=
  let size := s.freeNat % (if s.pair.fullNext then 9437185 else 1048577)
  ((s.useFree.modPair (fun p => { p with fullNext := false, streamEnd := s.now + size * 5 / 2 })).put K.ckptLastCheckpoint
    s.ft).put K.ckptLastCheckpointSize size

theorem execCheckpointPeriod_of_due {s : State} (h : s.checkpointDue) : exec .checkpointPeriod s =
    if s.now < s.pair.streamEnd then .next (s.inc K.ckptCheckpointsSkipped)
    else .next (s.checkpointTaken.when (!s.checkpointTaken.pairLinks.isEmpty) (fun t =>
      (t.send (.checkpoint (s.checkpoint s.pair.fullNext))).inc K.ckptCheckpointsSent)) := by
  obtain ⟨hmace, htime, hgrid⟩ := h
  have hdue : ¬(!s.md.pins.maceOut ∨ s.time.mode = .invalid ∨ s.ft % (s.getN K.ckptCheckpointPeriod * ms) ≠ 0) := by
    simp [hmace, htime, hgrid]
  exact if_neg hdue

theorem checkpointPeriod_skips {s : State} (h : s.checkpointDue) (hbusy : s.now < s.pair.streamEnd) :
    Does .checkpointPeriod s (fun t => counts s t K.ckptCheckpointsSkipped 1 ∧ t.outbox = s.outbox) := by
  have hexec := execCheckpointPeriod_of_due h
  rw [if_pos hbusy] at hexec
  exact .of_next hexec ⟨State.inc_counts _ s, State.inc_outbox _ _⟩

theorem State.get_checkpointTaken {s : State} {k : Nat} (h1 : k ≠ K.ckptLastCheckpoint) (h2 : k ≠ K.ckptLastCheckpointSize) :
    s.checkpointTaken.get k = s.get k :=
  (State.get_put_other _ _ _ _ h2).trans (State.get_put_other _ _ _ _ h1)

theorem State.get_checkpointTaken_boundary (s : State) : s.checkpointTaken.get K.ckptLastCheckpoint = s.ft :=
  (State.get_put_other _ _ _ _ (by decide)).trans (State.get_put_same _ _ _)

theorem State.checkpointTaken_pairLinks (s : State) : s.checkpointTaken.pairLinks = s.pairLinks :=
  (State.pairLinks_put _ _ (by decide)).trans (State.pairLinks_put _ _ (by decide))

theorem checkpointPeriod_takes {s : State} (h : s.checkpointDue) (hidle : s.pair.streamEnd ≤ s.now) :
    Does .checkpointPeriod s (fun t => t.getN K.ckptLastCheckpoint = s.ft ∧ t.pair.fullNext = false ∧
      (s.pairLinks ≠ [] → t.outbox = .checkpoint (s.checkpoint s.pair.fullNext) :: s.outbox ∧
        counts s t K.ckptCheckpointsSent 1)) := by
  have hexec := execCheckpointPeriod_of_due h
  rw [if_neg (by omega), s.checkpointTaken_pairLinks] at hexec
  refine .of_next hexec ⟨State.getN_of_get ?_, ?_, fun hlinks => ?_⟩
  · refine State.when_preserves (P := fun t => t.get K.ckptLastCheckpoint = s.ft) _ s.get_checkpointTaken_boundary fun hft => ?_
    rw [State.get_inc_other _ _ _ (by decide), State.get_send, hft]
  · refine State.when_preserves (P := fun t => t.pair.fullNext = false) _ rfl fun hfull => ?_
    rw [State.inc_pair, State.send_pair, hfull]
  · rw [show (!s.pairLinks.isEmpty) = true by simp [hlinks], State.when_true]
    refine ⟨by rw [State.inc_outbox]; rfl, counts_from_get_eq (State.inc_counts _ _) ?_⟩
    rw [State.get_send, State.get_checkpointTaken (by decide) (by decide)]

theorem checkpointRequest_does {s : State} {m : List Byte} (hkind : pairIs m 5 2) (hmace : s.md.pins.maceOut = true) :
    Does (.checkpointRequest m) s (fun t => t.pair.fullNext = true) := by
  have hexec : exec (.checkpointRequest m) s = .next (s.pairHear 5 2 m
    (fun s => s.when s.md.pins.maceOut (State.modPair (fun p => { p with fullNext := true })))) := rfl
  rw [State.pairHear_of_pairIs _ s hkind, hmace] at hexec
  exact .of_next hexec rfl

/-! ### Checkpoints on the standby (R435, R437) -/

theorem State.takeDither_pair (c : Checkpoint) (s : State) : (s.takeDither c).pair = s.pair := by
  unfold State.takeDither
  split
  · rfl
  · rw [State.modConv_pair, State.modConv_pair]

/-- The standby's state once the last segment of a checkpoint is there. -/
def State.segmentsDone (s : State) : State := s.modPair (fun p => { p with segments := 0 })

theorem checkpoint_segment {s : State} (h : s.md.pins.maceOut = false) (ok : Bool) (size : BitVec 32) :
    Does (.checkpoint none ok size) s (fun t => t.pair.segments = s.pair.segments + 1) := by
  have hexec : exec (.checkpoint none ok size) s = .next (s.modPair (fun p => { p with segments := p.segments + 1 })) :=
    if_neg (by simp [h])
  exact .of_next hexec rfl

theorem execCheckpoint_last {s : State} (h : s.md.pins.maceOut = false) (c : Checkpoint) (ok : Bool) (size : BitVec 32) :
    exec (.checkpoint (some c) ok size) s = .next (if ok then
        (((s.segmentsDone.modPair (fun p => { p with held := some c })).takeDither c).put K.ckptLastCheckpoint
          c.boundary).put K.ckptLastCheckpointSize size.toNat
      else s.segmentsDone) :=
  if_neg (by simp [h])

theorem checkpoint_held {s : State} (h : s.md.pins.maceOut = false) (c : Checkpoint) (size : BitVec 32) :
    Does (.checkpoint (some c) true size) s (fun t => t.pair.held = some c ∧ t.getN K.ckptLastCheckpoint = c.boundary) := by
  refine .of_next (execCheckpoint_last h c true size) ⟨?_, State.getN_of_get ?_⟩
  · rw [if_pos rfl, State.put_pair, State.put_pair, State.takeDither_pair, State.modPair_pair]
  · rw [if_pos rfl, State.get_put_other _ _ _ _ (by decide), State.get_put_same]

theorem checkpoint_corrupt {s : State} (h : s.md.pins.maceOut = false) (c : Checkpoint) (size : BitVec 32) :
    Does (.checkpoint (some c) false size) s (fun t => t.pair.held = s.pair.held ∧ t.objs = s.objs) :=
  .of_next (execCheckpoint_last h c false size) ⟨rfl, rfl⟩

/-- The pair service of a standby that has just loaded a checkpoint: it awaits the mirror after the checkpoint's, and keeps
those that take effect after its boundary. -/
def PairSt.caughtUp (c : Checkpoint) (now : Nat) (p : PairSt) : PairSt :=
  { p with
    loadedAt := some now, awaited := (c.mirrorSeq + 1) % 2 ^ 32
    waiting := p.waiting.filter (fun m => decide (c.boundary < m.effect)) }

theorem execCheckpointLoaded_eq {s : State} {c : Checkpoint} (hheld : s.pair.held = some c) (hcold : s.md.mode = .coldStandby)
    (hask : s.pair.askedAt.isSome = true) (hload : s.pair.loadedAt = none) (hfull : c.schedule.isSome = true) :
    exec .checkpointLoaded s = .next (((((s.loadCheckpoint c).modPair (PairSt.caughtUp c (s.loadCheckpoint c).now)).put
      K.pairMatchingRun 0).raise0 Cause.checkpointLoaded).advanceMirrors.checkGap) := by
  show execCheckpointLoaded s = _
  unfold execCheckpointLoaded
  simp only [hheld]
  have hready : ¬(s.md.mode ≠ .coldStandby ∨ s.pair.askedAt.isNone ∨ s.pair.loadedAt.isSome ∨ c.schedule.isNone) := by
    obtain ⟨a, ha⟩ := Option.isSome_iff_exists.1 hask
    obtain ⟨l, hl⟩ := Option.isSome_iff_exists.1 hfull
    simp [hcold, ha, hload, hl]
  rw [if_neg hready]
  rfl

/-- A full checkpoint that was asked for comes into force where no mirror waits. -/
theorem checkpointLoaded_does {s : State} {c : Checkpoint} (n : Fin 4) (hheld : s.pair.held = some c)
    (hcold : s.md.mode = .coldStandby) (hask : s.pair.askedAt.isSome = true) (hload : s.pair.loadedAt = none)
    (hfull : c.schedule.isSome = true) (hwait : s.pair.waiting = []) : Does .checkpointLoaded s (fun t =>
      t.pair.loadedAt = some s.now ∧ t.getN K.pairMatchingRun = 0 ∧ t.pair.awaited = (c.mirrorSeq + 1) % 2 ^ 32 ∧
      (t.core n).sm = c.memories[n] ∧ t.lp = c.loop ∧ t.soc = c.soc ∧
      t.clv.nextSeq = sequenceAbove c.nextSeq s.clv.nextSeq) := by
  have hexec := execCheckpointLoaded_eq hheld hcold hask hload hfull
  have hrestored := State.loadCheckpoint_restored s hfull
  set u := (((s.loadCheckpoint c).modPair (PairSt.caughtUp c (s.loadCheckpoint c).now)).put K.pairMatchingRun 0).raise0
    Cause.checkpointLoaded with hu
  have hnoted : Noted ((s.loadCheckpoint c).modPair (PairSt.caughtUp c (s.loadCheckpoint c).now)) u :=
    (State.put_noted _ _ _).trans (State.raise0_noted _ _)
  have hpair : u.pair = s.pair.caughtUp c s.now := by rw [hnoted.pair, State.modPair_pair, hrestored.pair, hrestored.now]
  have hnone : u.pair.waiting = [] := by rw [hpair, PairSt.caughtUp, hwait, List.filter_nil]
  rw [State.advanceMirrors_of_waiting_nil hnone, State.checkGap_of_waiting_nil hnone] at hexec
  refine .of_next hexec ⟨?_, State.getN_of_get ?_, ?_, ?_, hnoted.lp.trans hrestored.lp, hnoted.soc.trans hrestored.soc, ?_⟩
  · rw [State.modPair_pair, hpair, PairSt.caughtUp]
  · rw [State.get_modPair, hu, State.get_raise0 _ _ _ (by decide), State.get_put_same]
    rfl
  · rw [State.modPair_pair, hpair, PairSt.caughtUp]
  · rw [← hrestored.sm n]
    exact congrArg (fun x : CardState => (x.cores[n]).sm) hnoted.card
  · rw [State.modPair_clv, hnoted.clv, State.modPair_clv, hrestored.nextSeq]

/-- A standby that has neither asked for a checkpoint nor loaded one. -/
def State.catchUpVoid (s : State) : State := s.modPair (fun p => { p with loadedAt := none, askedAt := none })

theorem catchUpTimeout_does {s : State} {t0 : Nat} (hload : s.pair.loadedAt = some t0) (hcold : s.md.mode = .coldStandby)
    (hdue : t0 + 10000000000 ≤ s.now) : Does .catchUpTimeout s (fun t => t.pair.loadedAt = none ∧
      (s.getN K.ckptCatchUpAttempts < 3 → s.md.pins.maceIn = true → s.pairLinks ≠ [] →
        t.pair.askedAt = some s.now ∧ t.getN K.ckptCatchUpAttempts = s.getN K.ckptCatchUpAttempts + 1)) := by
  have hexec : exec .catchUpTimeout s = .next (if 3 ≤ s.getN K.ckptCatchUpAttempts then
      s.catchUpVoid.raise0 Cause.pairSyncFailed else s.catchUpVoid.askCheckpoint) := by
    show execCatchUpTimeout s = _
    unfold execCatchUpTimeout
    simp only [hload]
    exact if_pos ⟨hcold, hdue⟩
  refine .of_next hexec ⟨?_, fun htries hpartner hlinks => ?_⟩
  · refine iteInduction (motive := fun t : State => t.pair.loadedAt = none) (fun _ => ?_) (fun _ => ?_)
    · rw [State.raise0_pair]
      rfl
    · rw [State.askCheckpoint_loadedAt]
      rfl
  · rw [if_neg (by omega)]
    exact State.askCheckpoint_asks (s := s.catchUpVoid) hcold hpartner hlinks rfl rfl htries

theorem catchUpRetry_does {s : State} {sess : Nat} (h : s.takesByte K.ckptCatchUpRetry sess 1) :
    Does (.catchUpRetry sess) s (fun t => saidLast s t ∧ t.pair.loadedAt = none ∧ t.getN K.ckptCatchUpAttempts ≤ 1) := by
  have hexec : exec (.catchUpRetry sess) s = .next (s.hostWrite K.ckptCatchUpRetry (oneByte sess 1)
    (fun _ s => s.retryCatchUp.askCheckpoint.ok)) := rfl
  rw [State.hostWrite_of_takes (t := s.retryCatchUp.askCheckpoint) h fun _ => rfl] at hexec
  refine .of_next hexec ⟨?_, ?_, ?_⟩
  · obtain ⟨l, hl⟩ := (State.askCheckpoint_keeps _ (s0 := s.retryCatchUp) ⟨rfl, le_rfl, List.suffix_rfl, id⟩).sent
    exact ⟨l, congrArg (OutMsg.status 0 :: ·) hl.symm⟩
  · rw [State.send_pair, State.askCheckpoint_loadedAt]
    rfl
  · have htries : s.retryCatchUp.getN K.ckptCatchUpAttempts = 0 := by
      rw [State.getN, State.retryCatchUp, State.get_modPair, State.get_put_same, Int.toNat_zero]
    have hle := s.retryCatchUp.getN_askCheckpoint_attempts_le
    rwa [htries] at hle

/-! ### Planned handover (R432) -/

theorem handover_answered {s : State} {m : List Byte} (hkind : pairIs m 6 12) (hhot : s.md.mode = .hotStandby)
    (harmed : s.getB K.pairClaimArmed = true) (hlinks : s.pairLinks ≠ []) : Does (.handover m) s (fun t =>
      t.outbox = s.pairMsg 7 (leBytes 2 0 ++ leBytes 8 (wordAt m 4 8)) :: s.outbox ∧
      t.pair.handover = some ⟨wordAt m 4 8, true, .stay⟩) := by
  have hexec : exec (.handover m) s = .next (s.pairHear 6 12 m (fun s =>
    s.when (decide (s.md.mode = .hotStandby) && s.getB K.pairClaimArmed) (fun s =>
      (s.modPair (fun p => { p with handover := some { at_ := wordAt m 4 8, acked := true, after := .stay } })).sendPair 7
        (leBytes 2 0 ++ leBytes 8 (wordAt m 4 8))))) := rfl
  rw [State.pairHear_of_pairIs _ s hkind, decide_eq_true hhot, harmed, Bool.and_self, State.when_true,
    State.sendPair_of_links (s := s.modPair _) _ _ hlinks] at hexec
  exact .of_next hexec ⟨rfl, rfl⟩

theorem handoverAck_does {s : State} {b : HandoverSt} {m : List Byte} (hplan : s.pair.handover = some b)
    (hkind : pairIs m 7 12) (hmace : s.md.pins.maceOut = true) (hat : b.at_ = wordAt m 4 8) :
    Does (.handoverAck m) s (fun t => t.pair.handover = some { b with acked := true }) := by
  have hexec : exec (.handoverAck m) s = .next (s.modPair (fun p => { p with handover := some { b with acked := true } })) := by
    show execHandoverAck m s = _
    unfold execHandoverAck
    rw [State.pairHear_of_pairIs _ s hkind]
    simp only [hplan, hmace, hat, decide_true, Bool.and_self, State.when_true]
  exact .of_next hexec rfl

theorem maceHandoverAborted_does {s : State} {b : HandoverSt} (hplan : s.pair.handover = some b)
    (hmace : s.md.pins.maceOut = true) (hack : b.acked = false) (hlate : b.at_ ≤ s.ft + 20000 ∨ s.partnerReady = false) :
    Does .maceHandoverAborted s (fun t => t.pair.handover = none ∧ t.md.pins.maceOut = true) := by
  have hexec : exec .maceHandoverAborted s =
      .next (((s.modPair (fun p => { p with handover := none })).setShutdown .none 0).raise0 Cause.maceHandoverAborted) := by
    show execMaceHandoverAborted s = _
    unfold execMaceHandoverAborted
    simp only [hplan]
    exact if_pos (by simpa [hmace, hack] using hlate)
  refine .of_next hexec ⟨?_, ?_⟩
  · rw [State.raise0_pair]
    rfl
  · rw [State.raise0_md]
    exact hmace

theorem maceHandoverDone_gives {s : State} {b : HandoverSt} (hplan : s.pair.handover = some b) (hack : b.acked = true)
    (hat : b.at_ ≤ s.ft) (hmace : s.md.pins.maceOut = true) (hstay : b.after = .stay) : Does .maceHandoverDone s (fun t =>
      t.md.pins.maceOut = false ∧ t.md.mode = .hotStandby ∧ t.getB K.pairClaimArmed = false ∧
      counts s t K.pairHandovers 1) := by
  have hexec : exec .maceHandoverDone s = .next s.handOut := by
    show execMaceHandoverDone s = _
    unfold execMaceHandoverDone
    simp only [hplan]
    rw [if_neg (by simp [hack, hat]), if_pos hmace, hstay]
  exact .of_next hexec s.handOut_gives

theorem maceHandoverDone_takes {s : State} {b : HandoverSt} (hplan : s.pair.handover = some b) (hack : b.acked = true)
    (hat : b.at_ ≤ s.ft) (hlow : s.md.pins.maceOut = false) (harmed : s.getB K.pairClaimArmed = true)
    (hon : s.md.poweredOff = false) (hrun : s.md.heldInReset = false) : Does .maceHandoverDone s (fun t =>
      t.holdsMace ∧ counts s t K.pairHandovers 1) := by
  have hexec : exec .maceHandoverDone s =
      .next ((s.maceInFree.takeMace.inc K.pairHandovers).raise0 Cause.maceHandoverDone) := by
    show execMaceHandoverDone s = _
    unfold execMaceHandoverDone
    simp only [hplan]
    rw [if_neg (by simp [hack, hat]), if_neg (by simp [hlow])]
    exact if_pos (State.mayTake_maceInFree hlow harmed hon hrun)
  refine .of_next hexec ⟨?_, counts_from_get_eq (State.inc_raise_counts _ _ _ (by decide)) (State.get_takeMace_handovers _)⟩
  unfold State.holdsMace
  rw [State.raise0_md, State.inc_md]
  exact State.takeMace_holdsMace _

theorem stopShelfMessage_does {s : State} {m : List Byte} (hkind : pairIs m 9 2) (hserves : s.md.mode.serves = true)
    (hlow : s.md.pins.maceOut = false) : Does (.stopShelfMessage m) s (fun t => t.md.mode = .halted ∧
      t.md.pins.okOut = false ∧ t.getN K.moduleShutdownProgress = 4) := by
  have hexec : exec (.stopShelfMessage m) s =
    .next (s.pairHear 9 2 m (fun s => s.when (s.md.mode.serves && !s.md.pins.maceOut) State.halt)) := rfl
  rw [State.pairHear_of_pairIs _ s hkind, hserves, hlow, Bool.not_false, Bool.and_self, State.when_true] at hexec
  obtain ⟨hmode, hok, hprogress⟩ := s.halt_standsHalted
  exact .of_next hexec ⟨hmode, hok, State.getN_of_get hprogress⟩

/-! ### The lines of the mace (R49, R54, R422, R425) -/

theorem maceInAsserted_does (s : State) : Does .maceInAsserted s (fun t =>
    t.md.pins.maceIn = true ∧ t.md.pins.maceOut = s.md.pins.maceOut) := by
  have hexec : exec .maceInAsserted s = execMaceInAsserted s := rfl
  unfold execMaceInAsserted at hexec
  extract_lets u at hexec
  have hu : u.md.pins = { s.md.pins with maceIn := true } := rfl
  by_cases hmace : u.md.pins.maceOut = true
  · rw [if_pos hmace] at hexec
    exact .of_next hexec ⟨rfl, rfl⟩
  · rw [if_neg hmace] at hexec
    have hpins : ((u.when (decide (u.md.mode = .coldStandby)) (State.armClaim false)).chainRole.sdmYield).md.pins =
        u.md.pins := by
      rw [(State.sdmYield_pairKept _).pins, (State.chainRole_pairKept _).pins]
      exact State.when_preserves (P := fun t => t.md.pins = u.md.pins) _ rfl id
    refine .of_next hexec ⟨?_, ?_⟩ <;> rw [hpins, hu]

theorem peerOkChange_does (level : Bool) (s : State) :
    Does (.peerOkChange level) s (fun t => t.md.pins.peerOk = level) := by
  have hexec : exec (.peerOkChange level) s = execPeerOkChange level s := rfl
  unfold execPeerOkChange at hexec
  extract_lets was u v at hexec
  have hu : u.md.pins.peerOk = level := by
    rw [(State.chainRole_pairKept _).pins]
    rfl
  have hv : v.md.pins.peerOk = level :=
    State.when_preserves (P := fun t => t.md.pins.peerOk = level) _ hu fun h =>
      (congrArg (·.peerOk) (State.raise0_pairKept _ u).pins).trans h
  refine .of_next hexec ?_
  exact iteInduction (motive := fun t : State => t.md.pins.peerOk = level) (fun _ => v.claim_peerOk.trans hv) (fun _ => hv)

theorem maceTakeover_takes {s : State} (hlow : s.md.pins.maceOut = false) (harmed : s.getB K.pairClaimArmed = true)
    (hon : s.md.poweredOff = false) (hrun : s.md.heldInReset = false) : Does .maceTakeover s (fun t =>
      t.holdsMace ∧ counts s t K.pairTakeovers 1 ∧ t.getN K.pairLastTakeover = s.ft) := by
  have hexec : exec .maceTakeover s = .next s.maceInLow := rfl
  rw [State.maceInLow_of_mayTake hlow (State.mayTake_maceInFree hlow harmed hon hrun)] at hexec
  refine .of_next hexec ⟨State.takeMace_holdsMace _, ?_, State.getN_of_get (State.get_takeMace_lastTakeover _)⟩
  exact counts_from_get_eq (State.takeMace_counts s.maceInFree) rfl

/-- A module that holds the mace takes nothing over. -/
theorem maceTakeover_of_holder {s : State} (h : s.md.pins.maceOut = true) :
    Does .maceTakeover s (fun t => t.getN K.pairTakeovers = s.getN K.pairTakeovers) := by
  have hexec : exec .maceTakeover s = .next s.maceInLow := rfl
  rw [State.maceInLow_of_holder h] at hexec
  exact .of_next hexec rfl

theorem leaseExpiry_does {s : State} (hmace : s.md.pins.maceOut = true) (hend : s.pair.leaseEnd ≤ s.now) :
    Does .leaseExpiry s (fun t => t.md.pins.maceOut = false ∧ t.getB K.pairClaimArmed = false ∧
      (s.md.mode = .active → t.md.mode = .coldStandby)) := by
  have hexec : exec .leaseExpiry s = .next s.dropMace := by
    show execLeaseExpiry s = _
    unfold execLeaseExpiry
    rw [if_pos ⟨hmace, hend⟩]
  exact .of_next hexec (State.dropMace_of_holder hmace)

theorem maceLineConflict_does {s : State} (hin : s.md.pins.maceIn = true) (hmace : s.md.pins.maceOut = true)
    (hslot : s.md.pins.slotB = true) :
    Does .maceLineConflict s (fun t => t.md.pins.maceOut = false ∧ t.md.conflict = true) := by
  have hexec : exec .maceLineConflict s =
      .next ((s.dropMace.modMd (fun m => { m with conflict := true })).raise0 Cause.maceLineConflict) := by
    show execMaceLineConflict s = _
    unfold execMaceLineConflict
    rw [if_pos ⟨hin, hmace, hslot⟩]
  obtain ⟨hdropped, -, -⟩ := State.dropMace_of_holder hmace
  refine .of_next hexec ⟨?_, ?_⟩ <;> rw [State.raise0_md]
  · exact hdropped
  · rfl

end Sys2Proof.Machine
end

section
/-! O53: the clauses together. -/

namespace Sys2Proof.Machine

/-- Settles O53: each clause is the lemma of its command above. -/
theorem theMaceChangesHands : Obligations.TheMaceChangesHands := by
  unfold Obligations.TheMaceChangesHands
  intro s c b t0 sess ok level size m n p d full free holds
  refine ⟨?_, ?_, checkpointRequest_does, ?_, catchUpTimeout_does, catchUpRetry_does, handover_answered, ?_,
    stopShelfMessage_does, maceInAsserted_does s, peerOkChange_does level s, ?_, maceTakeover_of_holder, leaseExpiry_does,
    maceLineConflict_does⟩
  · intro hmace htime hgrid
    exact ⟨checkpointPeriod_skips ⟨hmace, htime, hgrid⟩, checkpointPeriod_takes ⟨hmace, htime, hgrid⟩⟩
  · exact fun hlow => ⟨checkpoint_segment hlow ok size, checkpoint_held hlow c size, checkpoint_corrupt hlow c size⟩
  · exact checkpointLoaded_does n
  · intro hplan
    refine ⟨handoverAck_does hplan, maceHandoverAborted_does hplan, fun hack hat => ⟨?_, ?_⟩⟩
    · exact maceHandoverDone_gives hplan hack hat
    · exact fun hlow harmed hfree => maceHandoverDone_takes hplan hack hat hlow harmed hfree.1 hfree.2
  · exact fun hlow harmed hfree => maceTakeover_takes hlow harmed hfree.1 hfree.2

end Sys2Proof.Machine
end

section
/-! O59: the state right after a power-on reset. -/

namespace Sys2Proof.Machine

/-- Nothing has been written, staged or recorded after a power-on reset, so the stores are sound. -/
theorem State.reset_sane : State.reset.sane :=
  ⟨rfl, rfl, Nat.zero_le _, Nat.zero_le _, Nat.zero_le _⟩

/-- An object of bytes that has not been written reads as its default in every byte. -/
theorem State.getBytes_unwritten {s : State} {k : Nat} (n : Nat) (h : findBytes s.blobs k = none) :
    s.getBytes k n = List.replicate n (BitVec.ofInt 8 (Dict.default k)) := by
  unfold State.getBytes
  rw [h]

/-- An object that has not been written reads as its default. -/
theorem State.get_unwritten {s : State} {k : Nat} (h : s.objs.find? k = none) : s.get k = Dict.default k := by
  unfold State.get Sparse.get
  rw [h]

/-- An entry of the unicast table is 255, no route, by default. -/
theorem default_unicastTable : Dict.default K.routeUnicastTableInForce = 255 := by decide

theorem default_repeatWindow : Dict.default K.recRepeatWindow = 1000 := by decide

theorem default_overdrawHold : Dict.default K.loopOverdrawHold = 100 := by decide

/-- No core runs after a power-on reset. -/
theorem State.reset_core_stopped (n : Fin 4) : (State.reset.core n).state = .stopped := by
  revert n
  decide

/-- Settles O59: the parts of the state are fresh, and what has not been written reads as its default. -/
theorem resetLeavesTheModuleInTheRom : Obligations.ResetLeavesTheModuleInTheRom := by
  unfold Obligations.ResetLeavesTheModuleInTheRom
  refine ⟨State.reset_sane, rfl, rfl, rfl, rfl, rfl, rfl, rfl, rfl, rfl, rfl, rfl, State.reset_core_stopped, ?_, ?_, ?_⟩
  · rw [State.getBytes_unwritten 2048 rfl, default_unicastTable]
    rfl
  · rw [State.get_unwritten rfl, default_repeatWindow]
  · rw [State.get_unwritten rfl, default_overdrawHold]

end Sys2Proof.Machine
end

section
/-! O37 fails: an IDENT may say that its unit has lost its firmware. In service that unit becomes stale, and the path of a
stale unit shows 2, none (R276, 0x6100.04), whichever end the IDENT came from. -/

namespace Sys2Proof.Machine

/-- An IDENT as a receiver reads it: serial 99, the bootloader running. -/
def bootloaderIdent : ChainFrame :=
  { type := 0x84, hop := 0, flags := 0, seq := 0, payload := 99 :: List.replicate 47 0 }

/-- A module that listens on a chain in RING, with unit 1 RUNNING. -/
def ringInService : State := (State.reset.put K.chainChainState 2).put (K.unitState 0) 3

theorem bootloaderIdent_heard : heard bootloaderIdent.bytes 0x84 48 bootloaderIdent :=
  ⟨by decide +kernel, rfl, rfl⟩

/-- In service this IDENT makes unit 1 stale, and the module shows it on neither path. -/
theorem ringInService_ident {t : State} (h : exec (.ident true 0 bootloaderIdent.bytes) ringInService = .next t) :
    t.unitStateOf 0 = 5 ∧ t.getN (K.unitPath (0 : Fin 32)) = 2 := by
  have hrun : (outState (exec (.ident true 0 bootloaderIdent.bytes) ringInService) ringInService).unitStateOf 0 = 5 ∧
      (outState (exec (.ident true 0 bootloaderIdent.bytes) ringInService) ringInService).getN (K.unitPath (0 : Fin 32)) = 2 := by
    decide +kernel
  rwa [h] at hrun

/-- Refutes O37: the clause of IDENT says that the path becomes the end the IDENT came from (0 for CHA) whatever it says of
the firmware; from a unit that has lost its firmware in service it becomes 2. -/
theorem not_chainAnswersAreTakenIn : ¬ Obligations.ChainAnswersAreTakenIn := by
  unfold Obligations.ChainAnswersAreTakenIn
  intro h
  obtain ⟨-, hident, -⟩ := h ringInService true 0 bootloaderIdent.bytes bootloaderIdent
    { id := 0, kind := 1, filter := 0, sample := 0, periodic := true, sent := false, marks := Vector.replicate 32 none }
    { fromA := true, type := 4, unit_ := 0, flags := 0, seq := 0, payload := [], due := 0, retried := false } 0 0
  obtain ⟨t, hexec, -, -, hpath, -⟩ := hident bootloaderIdent_heard (by decide) (.inl (by decide))
  rw [(ringInService_ident hexec).2] at hpath
  exact absurd hpath (by decide)

end Sys2Proof.Machine
end

section
/-! What leaves the module's own state alone: the records written at a reset, and the reloads of a start. -/

namespace Sys2Proof.Machine

theorem State.when_md {s : State} (b : Bool) {f : State → State} (h : ∀ t : State, (f t).md = t.md) :
    (s.when b f).md = s.md :=
  State.when_preserves (P := fun t => t.md = s.md) b rfl fun _ => h s

theorem State.each_md {α : Type} {s : State} (l : List α) {f : α → State → State} (h : ∀ a t, (f a t).md = t.md) :
    (s.each l f).md = s.md :=
  State.each_preserves (P := fun t => t.md = s.md) l rfl fun a t ht => (h a t).trans ht

/-! ### Records (R416, R417) -/

theorem State.copyRecord_noted (r : Record) (s : State) : Noted s (s.copyRecord r) :=
  (State.setRcd_noted _ s).when (State.inc_noted _ _)

theorem State.showOldest_noted (s : State) : Noted s s.showOldest := by
  unfold State.showOldest
  split
  · exact State.put_noted _ _ _
  · exact State.put_noted _ _ _
  · exact State.put_noted _ _ _
  · exact .rfl

theorem State.flushRing_noted (s : State) : Noted s s.flushRing :=
  ((Noted.rfl.each State.copyRecord_noted).trans (State.setRcd_noted _ _)).trans (State.showOldest_noted _)

theorem State.recoverRing_noted (bad : List Nat) (s : State) : Noted s (s.recoverRing bad) := by
  unfold State.recoverRing
  split
  · exact (((State.setRcd_noted _ s).trans (State.flushRing_noted _)).when (State.raise_noted _ _ _)).when
      (State.raise_noted _ _ _)
  · exact .rfl

theorem State.sayFlushCut_noted (s : State) : Noted s s.sayFlushCut := by
  unfold State.sayFlushCut
  split
  · exact (State.setRcd_noted _ s).trans (State.raise_noted _ _ _)
  · exact .rfl

theorem State.writeRecord_md (e : StagedCause) (snaps : List Byte) (count : Nat) (late : Bool) (s : State) :
    (s.writeRecord e snaps count late).md = s.md := (State.showOldest_noted _).md

theorem State.recordInMram_md (c : Nat) (a : Args) (s : State) : (s.recordInMram c a).md = s.md := by
  unfold State.recordInMram
  rw [(State.flushRing_noted _).md, State.writeRecord_md, State.preparePush_md]
  split
  · exact State.inc_md _ _
  · rfl

theorem State.drain_md (s : State) : s.drain.md = s.md :=
  (State.each_md _ fun _ _ => (State.flushRing_noted _).md.trans (State.writeRecord_md _ _ _ _ _)).trans
    (State.flushRing_noted _).md

theorem State.sayLatched_md (s : State) : s.sayLatched.md = s.md := by
  unfold State.sayLatched
  split
  · exact State.raise_md _ _ _
  · rfl

theorem State.sayLatched_zeroised (s : State) : s.sayLatched.cry.zeroised = s.cry.zeroised := by
  unfold State.sayLatched
  split
  · rw [State.raise_cry]
    rfl
  · rfl

/-! ### Reloads of a start (R65, R66) -/

theorem State.measure_md (reg kind subject id version : Nat) (d : List Byte) (s : State) :
    (s.measure reg kind subject id version d).md = s.md := by
  unfold State.measure
  split
  · exact State.when_md _ fun _ => State.raise0_md _ _
  · rfl

theorem State.measureValue_md (v : List Byte) (s : State) : (s.measureValue v).md = s.md := State.measure_md _ _ _ _ _ _ _

theorem State.measureStart_md (s : State) : s.measureStart.md = s.md := by
  unfold State.measureStart
  simp only [State.measureValue_md]
  rw [State.each_md _ fun _ _ => State.measure_md _ _ _ _ _ _ _, State.measure_md]

theorem State.admitRecord_md (n : Fin 4) (s : State) : (s.admitRecord n).1.md = s.md := by
  unfold State.admitRecord
  split <;> exact State.raise_md _ _ _

theorem State.enforceOn_md (n : Fin 4) (p : Program) (sm : Sparse) (s : State) : (s.enforceOn n p sm).md = s.md := by
  unfold State.enforceOn
  dsimp only
  split
  · rw [State.measure_md, State.measure_md]
    rfl
  · rw [State.measure_md]
    rfl

theorem State.startCore_md (n : Fin 4) (s : State) : (s.startCore n).md = s.md := by
  have hload : ∀ (p : Program) (t : State), ((t.enforceOn n p p.state).modCore n (fun c =>
      { c with state := .loading, startPend := true })).md = t.md := fun p t => State.enforceOn_md _ _ _ _
  have hadmit := s.admitRecord_md n
  unfold State.startCore
  dsimp only
  split
  · split
    · exact hadmit
    · exact (hload _ _).trans hadmit
  · split
    · exact (hload _ _).trans ((State.raiseOn_md _ _ _).trans hadmit)
    · rw [State.raiseOn_md, hadmit]

theorem State.placeOffsets_md (c : Conv) (s : State) : (s.placeOffsets c).md = s.md :=
  (State.modConv_md _ _ _).trans (State.each_md _ fun _ _ => rfl)

theorem State.seedDither_md (s : State) : s.seedDither.md = s.md :=
  State.each_md _ fun _ _ => (State.placeOffsets_md _ _).trans (State.modConv_md _ _ _)

theorem State.showTiles_md (s : State) : s.showTiles.md = s.md := State.each_md _ fun _ _ => rfl

theorem State.safReset_md (s : State) : s.safReset.md = s.md := by
  unfold State.safReset
  extract_lets map s1 s2 s3 on spare s4 s5
  have h2 : s2.md = s1.md := State.each_md _ fun _ _ => rfl
  have h3 : s3.md = s2.md := State.each_md _ fun _ _ => rfl
  rw [State.showTiles_md, State.put_md, State.modSaf_md, State.put_md, h3, h2, State.put_md]

theorem State.wakeLink_md (n : Fin 32) (s : State) : (s.wakeLink n).md = s.md := by
  unfold State.wakeLink
  split
  · rfl
  · split
    · split <;> rfl
    · split <;> rfl

theorem State.takeNodeId_md (s : State) : s.takeNodeId.md = s.md := State.put_md _ _ _

theorem State.chainWake_md (s : State) : s.chainWake.md = s.md := State.modChain_md _ _

theorem State.askSweep_md (kind at_ : Nat) (s : State) : (s.askSweep kind at_).md = s.md := rfl

theorem State.socStart_md (s : State) : s.socStart.md = s.md := by
  unfold State.socStart
  extract_lets e s1 s2 s3 dev s4 fresh s5
  have h2 : s2.md = s.md := (State.when_md _ fun _ => State.raiseOn_md _ _ _).trans
    (State.when_md _ fun _ => State.raiseOn_md _ _ _)
  have h5 : s5.md = s4.md := by
    unfold s5
    split
    · rfl
    · exact State.raise0_md _ _
  rw [State.askSweep_md, h5, State.modSoc_md, ← h2]
  rfl

/-- Gating link quads changes the powered domains alone (R346). -/
theorem State.gateQuads_md (s : State) : ∃ domains, s.gateQuads.md = { s.md with domainsOn := domains } := ⟨_, rfl⟩

/-- What the firmware begins at a start moves of the module's own state only the powered domains, the SD_CLK roles and
OK_OUT. -/
theorem State.firmwareStart_md (s : State) : ∃ domains roles ok, s.firmwareStart.md =
    { s.md with domainsOn := domains, sdm := roles, pins := { s.md.pins with okOut := ok } } := by
  unfold State.firmwareStart
  extract_lets s1 s2 s3 s4 s5 s6
  have h2 : s2.md = s1.md := (State.takeNodeId_md _).trans (State.measureStart_md _)
  have h3 : s3.md = s2.md := State.each_md _ State.startCore_md
  have h4 : s4.md = s3.md := (State.modPair_md _ _).trans ((State.safReset_md _).trans (State.seedDither_md _))
  have h5 : s5.md = s4.md := State.when_md _ fun _ => State.each_md _ State.wakeLink_md
  have h6 : s6.md = s5.md := State.chainWake_md _
  have h : s6.socStart.md = s1.md := by rw [State.socStart_md, h6, h5, h4, h3, h2]
  obtain ⟨domains, hdomains⟩ := State.gateQuads_md
    (s.modMd (fun m => { m with domainsOn := 0xFFFF, sdm := Vector.replicate 4 .listening }))
  refine ⟨domains, Vector.replicate 4 .listening, s6.socStart.passes, ?_⟩
  rw [State.diagnose_md, h, hdomains, State.modMd_md]

end Sys2Proof.Machine
end

section
/-! Writes that come as commands (R382): the value that reaches the owning chapter, and the answer. -/

namespace Sys2Proof.Machine

/-- The value that bytes written to an object bring to the chapter that owns it. -/
def writtenValue (k : Nat) (bytes : List Byte) : Int :=
  ((Dict.row? k).map (fun r => wireValue r.ty bytes)).getD 0

theorem writtenValue_unsigned {k : Nat} (bytes : List Byte) (h : (Dict.row? k).map (·.ty.signed) = some false) :
    writtenValue k bytes = leNat bytes := by
  obtain ⟨r, hrow, hty⟩ := Option.map_eq_some_iff.1 h
  unfold writtenValue
  rw [hrow]
  simp [wireValue, hty]

/-- A write that the module takes and carries out alone is answered as its chapter says. -/
theorem State.hostWrite_answers {s : State} {k : Nat} {w : HostWrite} {own : Int → State → State × Nat} (h : s.takes k w)
    (hstatus : (own (writtenValue k w.bytes) s).2 ≠ deferred) :
    s.hostWrite k w own = State.answer (own (writtenValue k w.bytes) s) := by
  obtain ⟨hcheck, hmirror⟩ := h
  rw [mirroredObject, Bool.and_or_distrib_right, Bool.or_eq_false_iff] at hmirror
  obtain ⟨hrow, hnow⟩ := hmirror
  have hchecked : s.checked k w own = own (writtenValue k w.bytes) s := by
    unfold State.checked writtenValue
    simp only [hcheck, hnow]
    rw [if_neg (by decide), if_neg (not_not_intro rfl), Bool.false_and, if_neg Bool.false_ne_true]
    cases hr : Dict.row? k with
    | none => exact if_neg Bool.false_ne_true
    | some r =>
      rw [hr] at hrow
      refine if_neg ?_
      show ¬(r.mirrored && s.mirrors && decide ((own (wireValue r.ty w.bytes) s).2 = 0)) = true
      rw [show (r.mirrored && s.mirrors) = false from hrow, Bool.false_and]
      exact Bool.false_ne_true
  unfold State.hostWrite
  rw [hchecked]
  exact if_neg hstatus

/-- A write that the chapter carries out is answered with success. -/
theorem State.hostWrite_ok {s t : State} {k : Nat} {w : HostWrite} {own : Int → State → State × Nat} (h : s.takes k w)
    (hown : own (writtenValue k w.bytes) s = t.ok) : s.hostWrite k w own = t.send (.status 0) := by
  rw [State.hostWrite_answers h (by rw [hown]; exact Nat.zero_ne_add_one _), hown]
  rfl

/-- A write that the chapter refuses is answered with its status. -/
theorem State.hostWrite_refuses {s t : State} {k status : Nat} {w : HostWrite} {own : Int → State → State × Nat}
    (h : s.takes k w) (hstatus : status ≠ deferred) (hown : own (writtenValue k w.bytes) s = t.refuse status) :
    s.hostWrite k w own = State.answer (t.refuse status) := by
  rw [State.hostWrite_answers h (by rw [hown]; exact hstatus), hown]

theorem State.answer_md (r : State × Nat) : (State.answer r).md = r.1.md :=
  State.when_md _ fun _ => State.inc_md _ _

/-- A refusal that leaves what was sent and the count of refusals alone is the one answer, and is counted. -/
theorem State.answer_refusedWith {s t : State} {status : Nat} (hsent : t.outbox = s.outbox)
    (hcount : t.get K.sessRequestsRefused = s.get K.sessRequestsRefused) (hstatus : status ≠ 0) :
    refusedWith s (State.answer (t.refuse status)) status := by
  have heq : State.answer (t.refuse status) = (t.send (.status status)).inc K.sessRequestsRefused := by
    unfold State.answer
    exact congrArg (fun b => State.when b _ _) (decide_eq_true hstatus)
  rw [heq]
  refine ⟨?_, counts_from_get_eq (State.inc_counts _ _) hcount⟩
  rw [State.inc_outbox, State.send_outbox, hsent]

/-- A refusal that raises its cause. -/
theorem State.raise0_refusedWith (c : Nat) {s : State} {status : Nat} (hstatus : status ≠ 0) :
    refusedWith s (State.answer ((s.raise0 c).refuse status)) status :=
  State.answer_refusedWith (State.raise0_outbox _ _) (State.get_raise0 _ _ _ (by decide)) hstatus

/-- Success is the last answer after whatever a command has sent. -/
theorem State.saidLast_of_keeps {s t : State} (h : Keeps s t) : saidLast s (t.send (.status 0)) := by
  obtain ⟨l, hl⟩ := h.sent
  exact ⟨l, congrArg (OutMsg.status 0 :: ·) hl.symm⟩

theorem Keeps.refl (s : State) : Keeps s s := ⟨rfl, le_rfl, List.suffix_rfl, id⟩

end Sys2Proof.Machine
end

section
/-! Resets (R71 to R76): at once or at the end of a main loss, with the ring flushed first or not; what they keep. -/

namespace Sys2Proof.Machine

theorem State.resetOrWait_md_of_mainLoss {s : State} (k : ResetKind) (h : s.md.mainLoss = true) :
    (s.resetOrWait k).md = { s.md with resetWaiting := some (k.over_ s.md.resetWaiting) } := by
  unfold State.resetOrWait
  rw [h, if_pos rfl, State.modMd_md]

theorem State.resetOrWait_md_of_main {s : State} (k : ResetKind) (h : s.md.mainLoss = false) :
    (s.resetOrWait k).md = s.md.atReset k := by
  unfold State.resetOrWait
  rw [h, if_neg Bool.false_ne_true, State.doReset_md]

/-- The ring before the reset begins is flushed without a change of the module's own state (R73). -/
theorem State.flushedReset_eq (k : ResetKind) (s : State) :
    ∃ t : State, t.md = s.md ∧ s.flushedReset k = t.resetOrWait k :=
  ⟨_, (State.drain_md _).trans (State.startFlush_md _ _), rfl⟩

theorem State.flushedReset_resetTo {s : State} (k : ResetKind) (h : s.md.mainLoss = false) :
    resetTo (s.flushedReset k) k.code k.cause := by
  obtain ⟨t, hmd, heq⟩ := s.flushedReset_eq k
  rw [heq]
  exact State.resetOrWait_resetTo k (by rw [hmd, h])

theorem State.flushedReset_md {s : State} (k : ResetKind) (h : s.md.mainLoss = false) :
    (s.flushedReset k).md = s.md.atReset k := by
  obtain ⟨t, hmd, heq⟩ := s.flushedReset_eq k
  rw [heq, State.resetOrWait_md_of_main k (by rw [hmd, h]), hmd]

/-! ### Objects that a reset keeps (R72) -/

theorem Sparse.find_filter {p : Nat × Int → Bool} {k : Nat} (hp : ∀ v, p (k, v) = true) (m : Sparse) :
    Sparse.find? (m.filter p) k = m.find? k := by
  induction m with
  | nil => rfl
  | cons e rest ih =>
    obtain ⟨a, v⟩ := e
    by_cases ha : a = k
    · subst ha
      rw [List.filter_cons_of_pos (hp v)]
      simp [Sparse.find?]
    · by_cases he : p (a, v) = true
      · rw [List.filter_cons_of_pos he]
        simp [Sparse.find?, ha, ih]
      · rw [List.filter_cons_of_neg he, ih]
        simp [Sparse.find?, ha]

/-- The count of power cycles is kept by every reset. -/
theorem State.get_doReset_powerCycles (k : ResetKind) (s : State) :
    (s.doReset k).get K.modulePowerCycleCount = s.get K.modulePowerCycleCount := by
  have hkept : keptByReset K.modulePowerCycleCount = true := by decide
  refine State.doReset_preserves (P := fun t => t.get K.modulePowerCycleCount = s.get K.modulePowerCycleCount) k s ?_
    fun t c h => (State.get_raise0 _ _ _ (by decide)).trans h
  unfold State.afterReset State.showTime
  simp (disch := decide) only [State.get_put_other, State.get_putB_other]
  unfold State.get Sparse.get
  rw [Sparse.find_filter fun _ => hkept]

/-! ### Commands that reset -/

theorem resetTo_of_eq {s t : State} {kind cause : Nat} (h : resetTo s kind cause) (hmode : t.md.mode = s.md.mode)
    (hpins : t.md.pins = s.md.pins) (hhost : t.host = s.host)
    (hkind : t.get K.moduleLastResetKind = s.get K.moduleLastResetKind)
    (hcause : t.get K.moduleLastResetCause = s.get K.moduleLastResetCause) : resetTo t kind cause := by
  unfold resetTo at *
  rwa [hmode, hpins, hhost, State.getN_congr hkind, State.getN_congr hcause]

/-- The time of the start condition does not show in what a reset leaves. -/
theorem State.resetTo_startAt {s : State} {kind cause : Nat} (n : Nat) (h : resetTo s kind cause) :
    resetTo (s.modMd (fun m => { m with startAt := n })) kind cause := h

/-- The state after the reset of a start condition: a power-on, counted, once every supply had been absent (Table 3-5). -/
def State.powered (allAbsent : Bool) (s : State) : State :=
  if allAbsent then (s.doReset .powerOn).inc K.modulePowerCycleCount else s.doReset .powerFail

theorem execStartCondition_eq {s : State} (allAbsent : Bool) (h : s.md.started = false) : exec (.startCondition allAbsent) s =
    .next ((s.powered allAbsent).modMd (fun m => { m with startAt := (s.powered allAbsent).now })) := by
  show execStartCondition allAbsent s = _
  unfold execStartCondition
  rw [h]
  rfl

theorem startCondition_powerOn {s : State} (h : s.md.started = false) : Does (.startCondition true) s (fun t =>
    resetTo t 0 Cause.powerOn ∧ t.md.started = true ∧ counts s t K.modulePowerCycleCount 1) := by
  have hpowered : s.powered true = (s.doReset .powerOn).inc K.modulePowerCycleCount := if_pos rfl
  have hmd : ((s.doReset .powerOn).inc K.modulePowerCycleCount).md = (s.doReset .powerOn).md := State.inc_md _ _
  have hreset : resetTo ((s.doReset .powerOn).inc K.modulePowerCycleCount) 0 Cause.powerOn :=
    resetTo_of_eq (s.doReset_resetTo .powerOn) (congrArg (·.mode) hmd) (congrArg (·.pins) hmd)
      (State.inc_host _ _) (State.get_inc_other _ _ _ (by decide)) (State.get_inc_other _ _ _ (by decide))
  have hexec := execStartCondition_eq true h
  rw [hpowered] at hexec
  refine .of_next hexec ⟨State.resetTo_startAt _ hreset, ?_, ?_⟩
  · rw [State.modMd_md, hmd, State.doReset_md]
    exact Bool.or_true _
  · exact counts_of_get_eq (counts_from_get_eq (State.inc_counts _ _) (s.get_doReset_powerCycles .powerOn))
      (State.get_modMd _ _ _)

theorem startCondition_powerFail {s : State} (h : s.md.started = false) : Does (.startCondition false) s (fun t =>
    resetTo t 1 Cause.mainLoss ∧ t.md.started = true) := by
  have hpowered : s.powered false = s.doReset .powerFail := if_neg Bool.false_ne_true
  have hexec := execStartCondition_eq false h
  rw [hpowered] at hexec
  refine .of_next hexec ⟨State.resetTo_startAt _ (s.doReset_resetTo .powerFail), ?_⟩
  rw [State.modMd_md, State.doReset_md]
  exact Bool.or_true _

/-- A start that the firmware has not got through in 10 s is reset, and its bank has failed once more unless the start was
confirmed (R64, R71). -/
theorem startTimeout_does {s : State} (hmode : s.md.mode = .loading) (hstep : s.md.step9At = none)
    (hlate : s.md.handoverAt + 10000000000 ≤ s.now) (hmain : s.md.mainLoss = false) : Does .startTimeout s (fun t =>
      resetTo t 8 Cause.startTimeout ∧ (s.md.confirmed = false → s.md.fwArmed = true →
        t.md.failedBank = some (decide (s.md.running = .b)))) := by
  have hexec : exec .startTimeout s = .next (s.resetOrWait .startTimeout) := by
    show execStartTimeout s = _
    unfold execStartTimeout
    rw [if_pos ⟨hmode, by simp [hstep], hlate⟩]
  refine .of_next hexec ⟨State.resetOrWait_resetTo .startTimeout hmain, fun hconfirmed harmed => ?_⟩
  rw [State.resetOrWait_md_of_main _ hmain]
  unfold ModState.atReset
  rw [hconfirmed, harmed, hmain]
  cases s.md.running <;> rfl

theorem execPinReset_eq (s : State) : exec .pinReset s =
    .next (if s.md.poweredOff = true ∨ s.md.heldInReset = true then s.modPins (fun p => { p with rstLow := true })
      else (s.modPins (fun p => { p with rstLow := true })).resetOrWait .pin) := rfl

/-- The level of RST_N is taken in any state. -/
theorem pinReset_rstLow (s : State) : Does .pinReset s (fun t => t.md.pins.rstLow = true) := by
  refine .of_next (execPinReset_eq s) ?_
  refine iteInduction (motive := fun t : State => t.md.pins.rstLow = true) (fun _ => rfl) fun _ => ?_
  cases hmain : (s.modPins (fun p => { p with rstLow := true })).md.mainLoss with
  | true => rw [State.resetOrWait_md_of_mainLoss _ hmain]; rfl
  | false => rw [State.resetOrWait_md_of_main _ hmain]; rfl

section
variable {s : State} (hon : s.md.poweredOff = false) (hrun : s.md.heldInReset = false)
include hon hrun

theorem execPinReset_running : exec .pinReset s =
    .next ((s.modPins (fun p => { p with rstLow := true })).resetOrWait .pin) := by
  rw [execPinReset_eq, if_neg (by simp [hon, hrun])]

theorem pinReset_waits (hmain : s.md.mainLoss = true) : Does .pinReset s (fun t =>
    t.md.resetWaiting = some (ResetKind.pin.over_ s.md.resetWaiting) ∧ t.md.mode = s.md.mode) := by
  refine .of_next (execPinReset_running hon hrun) ?_
  rw [State.resetOrWait_md_of_mainLoss (s := s.modPins _) .pin hmain]
  exact ⟨rfl, rfl⟩

theorem pinReset_resets (hmain : s.md.mainLoss = false) : Does .pinReset s (fun t =>
    resetTo t 2 Cause.pinReset ∧ t.md.pins.rstLow = true) := by
  refine .of_next (execPinReset_running hon hrun) ⟨State.resetOrWait_resetTo .pin hmain, ?_⟩
  rw [State.resetOrWait_md_of_main (s := s.modPins _) .pin hmain]
  rfl

end

/-! ### Host resets (R76) -/

/-- A host reset at once: the ring is flushed and success is the last answer. -/
theorem State.hostReset_of_own {s : State} {w : HostWrite} (h : s.takes K.moduleResetCommand w)
    (hown : State.resetCommand (writtenValue K.moduleResetCommand w.bytes) s = (s.flushedReset .host).ok)
    (hmain : s.md.mainLoss = false) :
    resetTo (s.hostWrite K.moduleResetCommand w State.resetCommand) 3 Cause.hostReset ∧
    saidLast s (s.hostWrite K.moduleResetCommand w State.resetCommand) := by
  rw [State.hostWrite_ok h hown]
  exact ⟨State.flushedReset_resetTo .host hmain, State.saidLast_of_keeps (State.flushedReset_keeps _ _ (.refl s))⟩

theorem hostReset_resets {s : State} {sess : Nat} (h : s.takesByte K.moduleResetCommand sess 1)
    (hmace : s.md.pins.maceOut = false) (hmain : s.md.mainLoss = false) : Does (.hostReset sess) s (fun t =>
      resetTo t 3 Cause.hostReset ∧ saidLast s t) :=
  .of_next rfl (State.hostReset_of_own h (if_pos (by simp [hmace])) hmain)

theorem writtenValue_resetForce : writtenValue K.moduleResetCommand [2] = 2 := by decide

/-- RESET_FORCE asks no partner. -/
theorem resetForce_resets {s : State} {sess : Nat} (h : s.takesByte K.moduleResetCommand sess 2)
    (hmain : s.md.mainLoss = false) : Does (.resetForce sess) s (fun t => resetTo t 3 Cause.hostReset ∧ saidLast s t) :=
  .of_next rfl (State.hostReset_of_own h (if_pos (.inl writtenValue_resetForce)) hmain)

/-- A reset command that is not carried out at once: a holder asks for a hot partner first. -/
theorem State.resetCommand_of_holder {s : State} {v : Int} (hv : v ≠ 2) (hmace : s.md.pins.maceOut = true) :
    s.resetCommand v = if s.partnerReady then (s.startHandover .reset).ok
      else (s.raise0 Cause.shutdownRefused).refuse Cause.shutdownRefused :=
  if_neg (by simp [hv, hmace])

theorem State.startHandover_handover (a : AfterHandover) (s : State) : ∃ x, (s.startHandover a).pair.handover = some x ∧
    x.after = a ∧ s.ft + 50000 ≤ x.at_ ∧ x.at_ % 1000 = 0 := by
  refine ⟨{ at_ := (s.ft + 50000 + 999) / 1000 * 1000, acked := false, after := a }, ?_, rfl, ?_, ?_⟩
  · unfold State.startHandover
    rw [State.sendPair_pair, State.modPair_pair]
  · show s.ft + 50000 ≤ (s.ft + 50000 + 999) / 1000 * 1000
    omega
  · exact Nat.mul_mod_left _ _

theorem hostReset_handsOver {s : State} {sess : Nat} (h : s.takesByte K.moduleResetCommand sess 1)
    (hmace : s.md.pins.maceOut = true) (hready : s.partnerReady = true) : Does (.hostReset sess) s (fun t => saidLast s t ∧
      ∃ x, t.pair.handover = some x ∧ x.after = .reset ∧ s.ft + 50000 ≤ x.at_ ∧ x.at_ % 1000 = 0) := by
  have hown : s.resetCommand (writtenValue K.moduleResetCommand [1]) = (s.startHandover .reset).ok := by
    rw [State.resetCommand_of_holder (by decide) hmace, if_pos hready]
  have hexec : exec (.hostReset sess) s = .next ((s.startHandover .reset).send (.status 0)) :=
    congrArg Host.Outcome.next (State.hostWrite_ok h hown)
  exact .of_next hexec ⟨State.saidLast_of_keeps (State.startHandover_keeps _ _ (.refl s)), s.startHandover_handover .reset⟩

theorem hostReset_refused {s : State} {sess : Nat} (h : s.takesByte K.moduleResetCommand sess 1)
    (hmace : s.md.pins.maceOut = true) (hready : s.partnerReady = false) : Does (.hostReset sess) s (fun t =>
      refusedWith s t Cause.shutdownRefused ∧ t.md = s.md) := by
  have hown : s.resetCommand (writtenValue K.moduleResetCommand [1]) =
      (s.raise0 Cause.shutdownRefused).refuse Cause.shutdownRefused := by
    rw [State.resetCommand_of_holder (by decide) hmace, hready, if_neg Bool.false_ne_true]
  have hexec : exec (.hostReset sess) s =
      .next (State.answer ((s.raise0 Cause.shutdownRefused).refuse Cause.shutdownRefused)) :=
    congrArg Host.Outcome.next (State.hostWrite_refuses h (by decide) hown)
  exact .of_next hexec ⟨State.raise0_refusedWith _ (by decide), (State.answer_md _).trans (State.raise0_md _ _)⟩

/-! ### Resets by the firmware and the watchdog (R72 to R74) -/

section
variable {s : State} (harmed : s.md.fwArmed = true) (hon : s.md.poweredOff = false)
include harmed hon

theorem execFirmwareFatal_eq : exec .firmwareFatal s =
    .next (if s.md.mainLoss then s.resetOrWait .fatal else s.flushedReset .fatal) := by
  show execFirmwareFatal s = _
  unfold execFirmwareFatal
  rw [if_pos (by simp [harmed, hon])]

theorem firmwareFatal_waits (hmain : s.md.mainLoss = true) : Does .firmwareFatal s (fun t =>
    t.md.resetWaiting = some (ResetKind.fatal.over_ s.md.resetWaiting)) := by
  refine .of_next (execFirmwareFatal_eq harmed hon) ?_
  rw [if_pos hmain, State.resetOrWait_md_of_mainLoss _ hmain]

theorem firmwareFatal_resets (hmain : s.md.mainLoss = false) : Does .firmwareFatal s (fun t =>
    resetTo t 5 Cause.firmwareFatal) := by
  refine .of_next (execFirmwareFatal_eq harmed hon) ?_
  rw [hmain, if_neg Bool.false_ne_true]
  exact State.flushedReset_resetTo .fatal hmain

theorem watchdogFirmwareExpiry_does (hmain : s.md.mainLoss = false) (hlate : s.md.fwFedAt + 100000000 ≤ s.now) :
    Does .watchdogFirmwareExpiry s (fun t => resetTo t 4 Cause.watchdogReset) := by
  have hexec : exec .watchdogFirmwareExpiry s = .next (s.resetOrWait .watchdog) := by
    show execWatchdogFirmwareExpiry s = _
    unfold execWatchdogFirmwareExpiry
    rw [if_pos ⟨harmed, by simp [hon], hlate⟩]
  exact .of_next hexec (State.resetOrWait_resetTo .watchdog hmain)

end

theorem watchdogControlExpiry_does {s : State} (harmed : s.md.ctlArmed = true) (hmain : s.md.mainLoss = false)
    (hlate : s.pair.feedEnd ≤ s.now) : Does .watchdogControlExpiry s (fun t => resetTo t 4 Cause.watchdogReset) := by
  have hexec : exec .watchdogControlExpiry s = .next (s.resetOrWait .watchdog) := by
    show execWatchdogControlExpiry s = _
    unfold execWatchdogControlExpiry
    rw [if_pos ⟨harmed, hlate⟩]
  exact .of_next hexec (State.resetOrWait_resetTo .watchdog hmain)

end Sys2Proof.Machine
end

section
/-! The start sequence (R60 to R66, R79): the ROM reads the descriptor, chooses a bank, and hands over or recovers. -/

namespace Sys2Proof.Machine

/-! ### Banks (R62, R63) -/

/-- The descriptor reads the same whatever else the ROM has set. -/
theorem ModState.readDesc_romState (torn : BitVec 2) (m : ModState) (n : Nat) (lock : BitVec 6) (p : Pins) (ok : Bool) :
    ModState.readDesc torn { m with startAt := n, pllLock := lock, pins := p, romTestsOk := ok } =
      { m.readDesc torn with startAt := n, pllLock := lock, pins := p, romTestsOk := ok } := by
  have hslot : ∀ x y : DescSlot, ModState.descB? { m with
      startAt := n, pllLock := lock, pins := p, romTestsOk := ok, descA := x, descB := y } =
      ModState.descB? { m with descA := x, descB := y } := fun _ _ => rfl
  unfold ModState.readDesc
  dsimp only
  rw [hslot]
  split <;> rfl

theorem ModState.readDesc_failedBank (torn : BitVec 2) (m : ModState) : (m.readDesc torn).failedBank = m.failedBank := by
  unfold ModState.readDesc
  dsimp only
  split <;> rfl

theorem State.countFailed_of_none {s : State} (h : s.md.failedBank = none) : s.countFailed = s := by
  unfold State.countFailed
  rw [h]

theorem State.tryBank_of_runs {s : State} {b : Bool} (h : s.md.bankRuns b) : s.tryBank b = (s, true) := by
  obtain ⟨hvalid, hmagic, hsig, hhash, hrollback⟩ := h
  unfold State.tryBank
  dsimp only
  rw [if_neg (not_not_intro hvalid), if_neg (by simp [hmagic, hsig]), if_neg (Nat.not_lt.2 hrollback), if_neg (by simp [hhash])]

theorem State.tryBank_of_not_valid {s : State} {b : Bool} (h : (s.md.bank b).state ≠ .valid) : s.tryBank b = (s, false) :=
  if_pos h

/-- The ROM's choice of what runs. -/
def State.choose (r : Running) (s : State) : State := s.modMd (fun m => { m with running := r })

theorem State.choose_running (r : Running) (s : State) : (s.choose r).md.running = r := rfl

/-- The preferred bank runs when it passes its checks. -/
theorem State.selectBank_preferred {s : State} (h : s.md.bankRuns s.md.preferB) :
    s.selectBank = s.choose (if s.md.preferB then .b else .a) := by
  have hfirst := State.tryBank_of_runs h
  unfold State.selectBank
  dsimp only
  rw [hfirst]
  rfl

/-- Without a VALID bank the recovery ROM runs. -/
theorem State.selectBank_recovery {s : State} (h : ∀ b, (s.md.bank b).state ≠ .valid) :
    s.selectBank = s.choose .recovery := by
  have hnone := fun b => State.tryBank_of_not_valid (h b)
  unfold State.selectBank
  dsimp only
  rw [hnone, hnone]
  rfl

/-! ### The ROM's first steps (R60, R61) -/

/-- A module that may begin its start sequence. -/
def ModState.mayStart (m : ModState) : Prop :=
  m.started = true ∧ m.heldInReset = false ∧ m.mainLoss = false ∧ m.romStopped = false ∧ m.mode = .rom

/-- The ROM has begun: the time of the start, the PLLs, the slot and the self-test. -/
def State.romBegun (i : StartInputs) (s : State) : State :=
  s.modMd (fun m => { m with
    startAt := s.now, pllLock := 63, pins := { m.pins with slotB := i.slotB, rstLow := false }, romTestsOk := !i.testFails })

/-- The ROM has said what the last run left to say, and read the descriptor. -/
def State.romRead (i : StartInputs) (s : State) : State :=
  (((s.romBegun i).recoverRing i.ringBad).sayFlushCut.sayLatched).modMd (ModState.readDesc i.descTorn)

theorem State.romRead_md (i : StartInputs) (s : State) : (s.romRead i).md = { s.md.readDesc i.descTorn with
    startAt := s.now, pllLock := 63, pins := { s.md.pins with slotB := i.slotB, rstLow := false }, romTestsOk := !i.testFails } := by
  unfold State.romRead
  rw [State.modMd_md, State.sayLatched_md, (State.sayFlushCut_noted _).md, (State.recoverRing_noted _ _).md]
  exact ModState.readDesc_romState _ _ _ _ _ _

/-- The firmware's state as the ROM hands over to the bank it has chosen. -/
def State.handedOver (i : StartInputs) (s : State) : State :=
  (s.modMd (fun m => { m with handoverAt := s.now, fwArmed := true, fwFedAt := s.now, stalled := i.stalls })).enterMode .loading

section
variable {s : State} {i : StartInputs} (h : s.md.mayStart)
include h

theorem execStartSequence_eq : exec (.startSequence i) s = if i.testFails then
      .next (((s.romBegun i).recordInMram Cause.selfTestFailed (args0 [])).modMd (fun m => { m with romStopped := true }))
    else
      let t := ((((s.romBegun i).recoverRing i.ringBad).sayFlushCut.sayLatched.afterZeroise).modMd
        (ModState.readDesc i.descTorn)).countFailed.selectBank
      if t.md.running = .recovery then .next t.enterRecoveryRom
      else .next (if i.stalls then t.handedOver i else (t.handedOver i).firmwareStart) := by
  obtain ⟨hstarted, hheld, hmain, hstopped, hrom⟩ := h
  show execStartSequence i s = _
  unfold execStartSequence
  rw [if_neg (by simp [hstarted, hheld, hmain, hstopped, hrom])]
  rfl

theorem startSequence_testFails (hfails : i.testFails = true) : Does (.startSequence i) s (fun t =>
    t.md.romStopped = true ∧ t.md.mode = .rom) := by
  have hexec := execStartSequence_eq (i := i) h
  rw [if_pos hfails] at hexec
  obtain ⟨-, -, -, -, hrom⟩ := h
  refine .of_next hexec ⟨rfl, ?_⟩
  rw [State.modMd_md, State.recordInMram_md]
  exact hrom

/-- With no zeroisation to finish and no failed start to count, the ROM goes on with what it has read. -/
theorem execStartSequence_plain (hpasses : i.testFails = false) (hzero : s.cry.zeroised = none)
    (hfailed : s.md.failedBank = none) : exec (.startSequence i) s =
      if (s.romRead i).selectBank.md.running = .recovery then .next (s.romRead i).selectBank.enterRecoveryRom
      else .next (if i.stalls then (s.romRead i).selectBank.handedOver i
        else ((s.romRead i).selectBank.handedOver i).firmwareStart) := by
  have hexec := execStartSequence_eq (i := i) h
  have hnone : ((s.romBegun i).recoverRing i.ringBad).sayFlushCut.sayLatched.cry.zeroised = none := by
    rw [State.sayLatched_zeroised, (State.sayFlushCut_noted _).cry, (State.recoverRing_noted _ _).cry]
    exact hzero
  have hzeroise : ((s.romBegun i).recoverRing i.ringBad).sayFlushCut.sayLatched.afterZeroise =
      ((s.romBegun i).recoverRing i.ringBad).sayFlushCut.sayLatched := by
    unfold State.afterZeroise
    rw [hnone]
  have hcount : (s.romRead i).countFailed = s.romRead i :=
    State.countFailed_of_none (by rw [State.romRead_md]; exact (ModState.readDesc_failedBank _ _).trans hfailed)
  rw [hpasses, if_neg Bool.false_ne_true, hzeroise] at hexec
  dsimp only at hexec
  rwa [show (((s.romBegun i).recoverRing i.ringBad).sayFlushCut.sayLatched).modMd (ModState.readDesc i.descTorn) =
    s.romRead i from rfl, hcount] at hexec

theorem startSequence_loads (hpasses : i.testFails = false) (hzero : s.cry.zeroised = none)
    (hfailed : s.md.failedBank = none) (hruns : (s.md.readDesc i.descTorn).bankRuns (s.md.readDesc i.descTorn).preferB) :
    Does (.startSequence i) s (fun t => t.md.mode = .loading ∧
      t.md.running = (if (s.md.readDesc i.descTorn).preferB then .b else .a) ∧ t.md.stalled = i.stalls) := by
  have hmd := s.romRead_md i
  have hprefer : (s.romRead i).md.preferB = (s.md.readDesc i.descTorn).preferB := by rw [hmd]
  have hselect := State.selectBank_preferred (s := s.romRead i) (by rw [hmd]; exact hruns)
  have hexec := execStartSequence_plain h hpasses hzero hfailed
  have hbank : ∀ b : Bool, (if b then Running.b else .a) ≠ .recovery := by decide
  rw [hselect, hprefer, State.choose_running, if_neg (hbank _)] at hexec
  refine .of_next hexec ?_
  split
  · exact ⟨rfl, rfl, rfl⟩
  · obtain ⟨domains, roles, ok, hstart⟩ := State.firmwareStart_md
      (((s.romRead i).choose (if (s.md.readDesc i.descTorn).preferB then .b else .a)).handedOver i)
    rw [hstart]
    exact ⟨rfl, rfl, rfl⟩

end

/-! ### The recovery ROM (R79) -/

theorem State.enterRecoveryRom_md (s : State) :
    s.enterRecoveryRom.md = { s.md with mode := .recovery, tilesOn := 0, domainsOn := 0x2110 } := by
  unfold State.enterRecoveryRom
  dsimp only
  rw [State.put_md, State.wakeLink_md, State.wakeLink_md, State.modMd_md, State.enterMode_md, State.recordInMram_md]

theorem State.get_enterRecoveryRom_port (s : State) : s.enterRecoveryRom.getN (K.portLinkState 0) = 1 :=
  State.getN_of_get (State.get_put_same _ _ _)

theorem startSequence_recovers {s : State} {i : StartInputs} (h : s.md.mayStart) (hpasses : i.testFails = false)
    (hzero : s.cry.zeroised = none) (hfailed : s.md.failedBank = none)
    (ha : (s.md.readDesc i.descTorn).bankA.state ≠ .valid) (hb : (s.md.readDesc i.descTorn).bankB.state ≠ .valid) :
    Does (.startSequence i) s (fun t => t.md.mode = .recovery ∧ t.md.running = .recovery ∧ t.md.tilesOn = 0 ∧
      t.getN (K.portLinkState 0) = 1) := by
  have hselect : (s.romRead i).selectBank = (s.romRead i).choose .recovery := by
    refine State.selectBank_recovery fun b => ?_
    rw [State.romRead_md]
    cases b with
    | false => exact ha
    | true => exact hb
  have hexec := execStartSequence_plain h hpasses hzero hfailed
  rw [hselect, State.choose_running, if_pos rfl] at hexec
  refine .of_next hexec ⟨?_, ?_, ?_, State.get_enterRecoveryRom_port _⟩
  · rw [State.enterRecoveryRom_md]
  · rw [State.enterRecoveryRom_md]
    rfl
  · rw [State.enterRecoveryRom_md]

end Sys2Proof.Machine
end

section
/-! Readiness and the claim (R64, R67, R68): the gates, the claim of a module that nothing holds off, and the 60 s of a start. -/

namespace Sys2Proof.Machine

/-! ### The gates (Table 3-4) -/

section
variable {s t : State} (hget : ∀ k < 0xF16000, t.get k = s.get k)
include hget

theorem State.feedMilli_congr : t.feedMilli = s.feedMilli := by
  have hmilli : ∀ c < 48, t.controlMilli c = s.controlMilli c := fun c hc => by
    unfold State.controlMilli State.milli
    rw [hget _ (show 0x320002 + 256 * c < 0xF16000 by omega), hget _ (show 0x32000E + 256 * c < 0xF16000 by omega)]
  have hchan : t.chanWithAction 5 = s.chanWithAction 5 := congrArg allChans.find? (funext fun c => by
    have hc := c.isLt
    rw [State.getN_congr (hget _ (by simp only [K.chanProtectionAction]; omega)),
      State.getN_congr (hget _ (by simp only [K.chanFunction]; omega))])
  unfold State.feedMilli
  rw [hchan]
  split
  · exact hmilli _ (Fin.isLt _)
  · exact hmilli 41 (by decide)

/-- What the gates are read from: the objects below those of the module's own state, the cores, the channels, the units and
the line conflict. -/
theorem State.gates_congr (hcard : t.card = s.card) (hpow : t.pow = s.pow) (hchn : t.chn = s.chn)
    (hconflict : t.md.conflict = s.md.conflict) : t.gates = s.gates := by
  have hfunction : ∀ c : Fin 48, t.getN (K.chanFunction c) = s.getN (K.chanFunction c) := fun c =>
    State.getN_congr (hget _ (by have := c.isLt; simp only [K.chanFunction]; omega))
  have hunit : ∀ u : Fin 32, t.getN (K.unitState u) = s.getN (K.unitState u) := fun u =>
    State.getN_congr (hget _ (by have := u.isLt; simp only [K.unitState]; omega))
  have hcount := State.getN_congr (hget K.chainUnitsConfigured (by decide))
  have hmask := State.getN_congr (hget K.faultFaultInputMask (by decide))
  have henergy := State.getN_congr (hget K.supplyHoldEnergy (by decide))
  have hsoc := State.getN_congr (hget K.socMode (by decide))
  unfold State.gates
  simp only [State.core, State.chan, State.chanInUse, State.configured, State.unitCount, State.unitStateOf, State.cunit,
    State.feedInWindow, State.feedMilli_congr hget, hcard, hpow, hchn, hconflict, hfunction, hunit, hcount, hmask, henergy,
    hsoc, hget K.thermalJunctionMaximum (by decide)]
  rfl

end

/-! ### The claim (R54, R424) -/

theorem State.mayTake_of_mayClaim {s : State} (h : s.mayClaim) : (s.armClaim true).mayTake = true := by
  obtain ⟨-, -, hmace, hin, hfell, hon, hrun⟩ := h
  have hmd : (s.armClaim true).md = s.md := rfl
  have hpair : (s.armClaim true).pair = s.pair := rfl
  unfold State.mayTake
  rw [State.getB_armClaim, hmd, hpair, hfell]
  simp [hmace, hin, hon, hrun]

/-- With every gate met, a module whose firmware serves and that nothing holds off takes the mace. -/
theorem State.claim_holdsMace {s : State} (h : s.mayClaim) (hserves : s.md.mode.serves = true) (hgates : s.gates = 511) :
    s.claim.holdsMace := by
  have htake := State.mayTake_of_mayClaim h
  obtain ⟨hdiag, hsecurity, -⟩ := h
  have harm : (s.mayArm && decide (s.gates = 511)) = true := by simp [State.mayArm, hdiag, hsecurity, hserves, hgates]
  unfold State.claim
  rw [if_pos harm]
  dsimp only
  rw [htake, State.when_true]
  exact State.takeMace_holdsMace _

/-- The state of a module whose gates have just been met: cold standby, with its start time. -/
def State.ready (s : State) : State :=
  ((s.modMd (fun m => { m with gatesAt := some s.now })).put K.moduleStartTime (rheNat (s.now - s.md.startAt) ms)).enterMode
    .coldStandby

theorem State.get_ready {s : State} {k : Nat} (h1 : k ≠ K.moduleStartTime) (h2 : k ≠ K.moduleModuleState) :
    s.ready.get k = s.get k := by
  unfold State.ready State.enterMode
  rw [State.get_put_other _ _ _ _ h2, State.get_modMd, State.get_put_other _ _ _ _ h1, State.get_modMd]

theorem State.ready_md (s : State) : s.ready.md = { s.md with gatesAt := some s.now, mode := .coldStandby } := by
  unfold State.ready
  rw [State.enterMode_md, State.put_md, State.modMd_md]

section
variable (s : State)

theorem State.ready_pair : s.ready.pair = s.pair := by
  rw [State.ready, State.enterMode, State.put_pair, State.modMd_pair, State.put_pair, State.modMd_pair]

theorem State.ready_cry : s.ready.cry = s.cry := by
  rw [State.ready, State.enterMode, State.put_cry, State.modMd_cry, State.put_cry, State.modMd_cry]

theorem State.ready_card : s.ready.card = s.card := by
  rw [State.ready, State.enterMode, State.put_card, State.modMd_card, State.put_card, State.modMd_card]

theorem State.ready_pow : s.ready.pow = s.pow := by
  rw [State.ready, State.enterMode, State.put_pow, State.modMd_pow, State.put_pow, State.modMd_pow]

theorem State.ready_chn : s.ready.chn = s.chn := by
  rw [State.ready, State.enterMode, State.put_chn, State.modMd_chn, State.put_chn, State.modMd_chn]

theorem State.ready_saf : s.ready.saf = s.saf := by
  rw [State.ready, State.enterMode, State.put_saf, State.modMd_saf, State.put_saf, State.modMd_saf]

theorem State.ready_time : s.ready.time = s.time := by
  rw [State.ready, State.enterMode, State.put_time, State.modMd_time, State.put_time, State.modMd_time]

end

theorem State.ready_diagBits (s : State) : s.ready.diagBits = s.diagBits :=
  State.diagBits_congr s.ready_card s.ready_saf s.ready_pair (by rw [s.ready_md]) s.ready_time

theorem State.ready_securityState (s : State) : s.ready.securityState = s.securityState := by
  unfold State.securityState
  rw [State.getN_congr (State.get_ready (by decide) (by decide)), s.ready_cry]

theorem State.ready_mayClaim {s : State} (h : s.mayClaim) : s.ready.mayClaim := by
  unfold State.mayClaim at h ⊢
  rwa [s.ready_diagBits, s.ready_securityState, s.ready_pair, s.ready_md]

theorem State.ready_gates (s : State) : s.ready.gates = s.gates :=
  State.gates_congr (fun _ hk => State.get_ready (Nat.ne_of_lt (Nat.lt_of_lt_of_le hk (by decide)))
    (Nat.ne_of_lt (Nat.lt_of_lt_of_le hk (by decide)))) s.ready_card s.ready_pow s.ready_chn
    (by rw [s.ready_md])

section
variable {s : State} (hwait : s.md.mode = .waiting) (hgates : s.gates = 511)
include hwait hgates

theorem execGatesMet_eq : exec .gatesMet s = .next (if s.md.pins.maceIn then s.ready
    else if !s.md.pins.slotB || !s.md.pins.peerOk then s.ready.claim else s.ready) := by
  show execGatesMet s = _
  unfold execGatesMet
  rw [if_pos ⟨hwait, hgates⟩]
  dsimp only
  rw [← State.ready, s.ready_md]

/-- Beside an active partner the module becomes its cold standby. -/
theorem gatesMet_beside (hin : s.md.pins.maceIn = true) : Does .gatesMet s (fun t =>
    t.md.mode = .coldStandby ∧ t.md.gatesAt = some s.now) := by
  refine .of_next (execGatesMet_eq hwait hgates) ?_
  rw [if_pos hin, s.ready_md]
  exact ⟨rfl, rfl⟩

theorem gatesMet_claims (hclaim : s.mayClaim) (hslot : s.md.pins.slotB = false) : Does .gatesMet s State.holdsMace := by
  obtain ⟨-, -, -, hin, -⟩ := id hclaim
  refine .of_next (execGatesMet_eq hwait hgates) ?_
  rw [hin, hslot, if_neg Bool.false_ne_true, Bool.not_false, Bool.true_or, if_pos rfl]
  exact State.claim_holdsMace (State.ready_mayClaim hclaim) (by rw [s.ready_md]; rfl)
    (s.ready_gates.trans hgates)

end

/-- Slot B claims once its deferral has passed with its gates met. -/
theorem slotBDeferExpiry_does {s : State} {t0 : Nat} (hmet : s.md.gatesAt = some t0) (hcold : s.md.mode = .coldStandby)
    (hslot : s.md.pins.slotB = true) (hclaim : s.mayClaim) (hgates : s.gates = 511)
    (hdue : t0 + s.getN K.moduleSlotBDefer * 1000000 ≤ s.now) : Does .slotBDeferExpiry s State.holdsMace := by
  have hexec : exec .slotBDeferExpiry s = .next s.claim := by
    obtain ⟨-, -, -, hin, hfell, -⟩ := hclaim
    show execSlotBDeferExpiry s = _
    unfold execSlotBDeferExpiry
    rw [hmet]
    exact if_pos ⟨hcold, hslot, by simp [hin], by simpa [hfell] using hdue⟩
  exact .of_next hexec (State.claim_holdsMace hclaim (by rw [hcold]; rfl) hgates)

/-! ### The first minute of a start (R64, R67) -/

/-- After 60 s of waiting the gates that are not met are told once. -/
theorem readinessTimeout_does {s : State} {t0 : Nat} (hstep : s.md.step9At = some t0) (hlate : t0 + 60000000000 ≤ s.now)
    (hwait : s.md.mode = .waiting) (hgates : s.gates ≠ 511) (hsaid : s.md.readinessSaid = false) :
    Does .readinessTimeout s (fun t => t.md.readinessSaid = true ∧
      t.rcd = (s.raise Cause.readinessTimeout (args0 [(s.gates, 2)])).rcd) := by
  have hexec : exec .readinessTimeout s = .next ((s.modMd (fun m => { m with readinessSaid := true })).raise
      Cause.readinessTimeout (args0 [(s.gates, 2)])) := by
    show execReadinessTimeout s = _
    unfold execReadinessTimeout
    rw [hstep]
    exact if_pos ⟨hwait, hlate, hgates, by simp [hsaid]⟩
  rw [State.raise_modMd] at hexec
  exact .of_next hexec ⟨rfl, rfl⟩

/-- A module state that differs from another in the slots of the descriptor alone. -/
def WritesSlots (m m' : ModState) : Prop := ∃ x y, m' = { m with descA := x, descB := y }

theorem ModState.writeDesc_writesSlots (m : ModState) : WritesSlots m m.writeDesc := by
  unfold ModState.writeDesc
  generalize (m.descB?).getD true = b
  dsimp only
  cases b with
  | false => exact iteInduction (motive := WritesSlots m) (fun _ => ⟨_, _, rfl⟩) (fun _ => ⟨_, _, rfl⟩)
  | true => exact iteInduction (motive := WritesSlots m) (fun _ => ⟨_, _, rfl⟩) (fun _ => ⟨_, _, rfl⟩)

/-- A change of a bank changes that bank and the descriptor's slots alone. -/
theorem State.modBank_md (b : Bool) (f : BankSt → BankSt) (s : State) : ∃ x y, (s.modBank b f).md =
    { s.md with
      bankA := if b then s.md.bankA else f s.md.bankA, bankB := if b then f s.md.bankB else s.md.bankB
      descA := x, descB := y } := by
  unfold State.modBank
  rw [State.modMd_md]
  cases b with
  | false => exact ModState.writeDesc_writesSlots { s.md with bankA := f s.md.bankA }
  | true => exact ModState.writeDesc_writesSlots { s.md with bankB := f s.md.bankB }

theorem State.modBank_same (b : Bool) (f : BankSt → BankSt) (s : State) : (s.modBank b f).md.bank b = f (s.md.bank b) := by
  obtain ⟨x, y, h⟩ := s.modBank_md b f
  rw [h]
  cases b <;> rfl

theorem State.modBank_not (b : Bool) (f : BankSt → BankSt) (s : State) : (s.modBank b f).md.bank (!b) = s.md.bank (!b) := by
  obtain ⟨x, y, h⟩ := s.modBank_md b f
  rw [h]
  cases b <;> rfl

/-- What a counter that rises leaves alone: the confirmed start and the counts of failed starts. -/
structure StartKept (s t : State) : Prop where
  confirmed : t.md.confirmed = s.md.confirmed
  failedStarts : ∀ b, (t.md.bank b).failedStarts = (s.md.bank b).failedStarts

theorem StartKept.rfl {s : State} : StartKept s s := ⟨by rfl, fun _ => by rfl⟩

theorem StartKept.trans {s t u : State} (h : StartKept s t) (g : StartKept t u) : StartKept s u :=
  ⟨g.confirmed.trans h.confirmed, fun b => (g.failedStarts b).trans (h.failedStarts b)⟩

theorem StartKept.of_md {s t : State} (h : t.md = s.md) : StartKept s t := ⟨by rw [h], fun _ => by rw [h]⟩

theorem State.modBank_startKept (b : Bool) (f : BankSt → BankSt) (s : State)
    (hf : ∀ x : BankSt, (f x).failedStarts = x.failedStarts) : StartKept s (s.modBank b f) := by
  obtain ⟨x, y, h⟩ := s.modBank_md b f
  refine ⟨by rw [h], fun c => ?_⟩
  rw [h]
  cases b with
  | false => cases c with
    | false => exact hf _
    | true => rfl
  | true => cases c with
    | false => rfl
    | true => exact hf _

theorem State.markBank_startKept (v : Nat) (b : Bool) (s : State) : StartKept s (s.markBank v b) :=
  iteInduction (motive := StartKept s)
    (fun _ => .trans (State.modBank_startKept b (fun x => { x with state := .invalid }) s fun _ => rfl)
      (.of_md (State.raiseOn_md _ _ _)))
    (fun _ => .rfl)

theorem State.raiseCounter_startKept (v : Nat) (s : State) : StartKept s (s.raiseCounter 1 v) := by
  refine iteInduction (motive := StartKept s) (fun _ => ?_) (fun _ => .rfl)
  have hset : StartKept s (s.setCounter 1 v) := ⟨rfl, fun b => by cases b <;> rfl⟩
  refine State.each_preserves (P := StartKept s) [false, true] (hset.trans (.of_md (State.raise_md _ _ _))) ?_
  exact fun b t h => h.trans (State.markBank_startKept v b t)

/-- The start of a bank confirmed (R64), with the rise of the counter that waited for it (R464). -/
def State.confirm (b : Bool) (s : State) : State :=
  let s := (s.modBank b (fun x => { x with failedStarts := 0 })).modMd (fun m => { m with confirmed := true })
  let s := s.raiseOn Cause.startConfirmed b.toNat
  s.when (s.md.bank b).commitOnConfirm (State.raiseCounter 1 (s.md.bank b).rollback)

theorem State.confirm_confirmed (b : Bool) (s : State) : (s.confirm b).md.confirmed = true ∧
    ((s.confirm b).md.bank b).failedStarts = 0 := by
  have hkept : ∀ t : State, StartKept t (t.when (t.md.bank b).commitOnConfirm (State.raiseCounter 1 (t.md.bank b).rollback)) :=
    fun t => State.when_preserves (P := StartKept t) _ .rfl fun _ => (t.raiseCounter_startKept _)
  have h := hkept (((s.modBank b (fun x => { x with failedStarts := 0 })).modMd (fun m => { m with confirmed := true })).raiseOn
    Cause.startConfirmed b.toNat)
  refine ⟨h.confirmed.trans (by rw [State.raiseOn_md, State.modMd_md]), (h.failedStarts b).trans ?_⟩
  rw [State.raiseOn_md, State.modMd_md]
  have hzero := congrArg BankSt.failedStarts (s.modBank_same b (fun x => { x with failedStarts := 0 }))
  cases b <;> exact hzero

theorem startConfirmed_does {s : State} {t0 : Nat} (hstep : s.md.step9At = some t0) (hlate : t0 + 60000000000 ≤ s.now)
    (hconfirmed : s.md.confirmed = false) (hrunning : s.md.running ≠ .recovery) (hmain : s.md.mainLoss = false)
    (hon : s.md.poweredOff = false) : Does .startConfirmed s (fun t => t.md.confirmed = true ∧
      (t.md.bank (decide (s.md.running = .b))).failedStarts = 0) := by
  have hexec : exec .startConfirmed s = .next (s.confirm (decide (s.md.running = .b))) := by
    show execStartConfirmed s = _
    unfold execStartConfirmed
    rw [hstep]
    refine (if_pos ⟨by simp [hconfirmed], hlate, hrunning, by simp [hmain], by simp [hon]⟩).trans ?_
    cases hr : s.md.running with
    | a => rfl
    | b => rfl
    | recovery => exact absurd hr hrunning
  exact .of_next hexec (s.confirm_confirmed _)

end Sys2Proof.Machine
end

section
/-! Orderly shutdown (R77, R78): the halt of a standby, the handover of a holder, the stop of the whole shelf. -/

namespace Sys2Proof.Machine

/-! ### A halt drops no mace and takes none -/

theorem State.sleepAll_md (s : State) : s.sleepAll.md = s.md := by
  have hsend : ∀ (fromA : Bool) (type : Nat) (u : State), (u.chainSend fromA type 0 0 []).md = u.md :=
    fun _ _ u => State.when_md _ fun v => (State.when_md _ fun _ => State.send_md _ _).trans (State.modChain_md _ _)
  have hcast : (s.chainBroadcast 9 []).md = s.md := (State.when_md _ fun u => hsend false 9 u).trans (hsend true 9 s)
  have hsleep : ∀ (u : Fin 32) (v : State), (v.unitSleeps u).md = v.md := fun u v =>
    (State.put_md _ _ _).trans (State.when_md _ fun v => by rfl)
  unfold State.sleepAll State.showTransfers
  rw [State.put_md, State.put_md, State.each_md _ hsleep, hcast]

theorem ModState.okOut_maceOut (m : ModState) (b : Bool) :
    ({ m with pins := { m.pins with okOut := b } } : ModState).pins.maceOut = m.pins.maceOut := rfl

theorem State.diagnose_maceOut (s : State) : s.diagnose.md.pins.maceOut = s.md.pins.maceOut :=
  (congrArg (·.pins.maceOut) s.diagnose_md).trans (ModState.okOut_maceOut s.md s.passes)

theorem State.haltFlushed_maceOut (s : State) : s.haltFlushed.md.pins.maceOut = s.md.pins.maceOut := by
  unfold State.haltFlushed
  rw [State.raise0_md, State.diagnose_maceOut, (State.haltGate_pairKept _).pins, State.modMd_md]

theorem State.haltStep_maceOut (s : State) : s.haltStep.md.pins.maceOut = s.md.pins.maceOut := by
  obtain ⟨a, b, hstep⟩ := s.haltStep_eq
  rw [hstep]
  have hjournaled : (s.when a State.haltJournaled).md.pins.maceOut = s.md.pins.maceOut :=
    congrArg (·.maceOut) (PairKept.rfl.when s.haltJournaled_pairKept).pins
  exact State.when_preserves (P := fun t => t.md.pins.maceOut = s.md.pins.maceOut) b hjournaled
    fun h => (State.haltFlushed_maceOut _).trans h

theorem State.standsHalted_send {s : State} (m : OutMsg) (h : s.standsHalted) : (s.send m).standsHalted := h

theorem State.halt_maceOut (s : State) : s.halt.md.pins.maceOut = s.md.pins.maceOut := by
  unfold State.halt
  extract_lets s1 s2 s3
  have h1 : s1.md = s.md := State.when_md _ State.sleepAll_md
  have h2 : s2.md.pins = s1.md.pins := rfl
  have h3 : s3.md.pins.maceOut = s2.md.pins.maceOut := rfl
  rw [State.haltStep_maceOut, State.diagnose_maceOut, h3, h2, h1]

/-! ### HANDOVER (R77) -/

theorem writtenValue_handover : writtenValue K.moduleShutdownCommand [1] = 1 := by decide

/-- The holder's answer to HANDOVER turns on its partner. -/
theorem State.shutdownCommand_of_active {s : State} (hmode : s.md.mode = .active) : s.shutdownCommand 1 =
    if s.partnerReady then ((s.startHandover .halt).setShutdown .handingOver 1).ok
    else (s.raise0 Cause.shutdownRefused).refuse Cause.shutdownRefused := by
  unfold State.shutdownCommand
  rw [hmode]
  exact if_pos rfl

section
variable {s : State} {sess : Nat} (h : s.takesByte K.moduleShutdownCommand sess 1)
include h

/-- A standby, or a module that waits for its gates, halts at once. -/
theorem shutdownHandover_halts (hmode : s.md.mode = .coldStandby ∨ s.md.mode = .hotStandby ∨ s.md.mode = .waiting) :
    Does (.shutdownHandover sess) s (fun t => saidLast s t ∧ t.md.mode = .halted ∧ t.getN K.moduleShutdownProgress = 4) := by
  have hown : s.shutdownCommand (writtenValue K.moduleShutdownCommand [1]) = s.halt.ok := by
    unfold State.shutdownCommand
    obtain hmode | hmode | hmode := hmode
    · rw [hmode]
    · rw [hmode]
    · rw [hmode]
  have hexec : exec (.shutdownHandover sess) s = .next (s.halt.send (.status 0)) :=
    congrArg Host.Outcome.next (State.hostWrite_ok h hown)
  obtain ⟨hhalted, -, hprogress⟩ := State.standsHalted_send (.status 0) s.halt_standsHalted
  exact .of_next hexec ⟨State.saidLast_of_keeps (State.halt_keeps _ (.refl s)), hhalted, State.getN_of_get hprogress⟩

theorem shutdownHandover_handsOver (hmode : s.md.mode = .active) (hready : s.partnerReady = true) :
    Does (.shutdownHandover sess) s (fun t => saidLast s t ∧ t.getN K.moduleShutdownProgress = 1 ∧
      ∃ x, t.pair.handover = some x ∧ x.after = .halt) := by
  have hown : s.shutdownCommand (writtenValue K.moduleShutdownCommand [1]) =
      ((s.startHandover .halt).setShutdown .handingOver 1).ok := by
    rw [writtenValue_handover, State.shutdownCommand_of_active hmode, if_pos hready]
  have hexec : exec (.shutdownHandover sess) s =
      .next (((s.startHandover .halt).setShutdown .handingOver 1).send (.status 0)) :=
    congrArg Host.Outcome.next (State.hostWrite_ok h hown)
  obtain ⟨x, hx, hafter, -⟩ := s.startHandover_handover .halt
  refine .of_next hexec ⟨State.saidLast_of_keeps ?_, ?_, x, hx, hafter⟩
  · exact State.setShutdown_keeps _ _ _ (State.startHandover_keeps _ _ (.refl s))
  · refine State.getN_of_get ?_
    rw [State.get_send, State.setShutdown, State.get_put_same, Nat.cast_one]

theorem shutdownHandover_refused (hmode : s.md.mode = .active) (hready : s.partnerReady = false) :
    Does (.shutdownHandover sess) s (fun t => refusedWith s t Cause.shutdownRefused) := by
  have hown : s.shutdownCommand (writtenValue K.moduleShutdownCommand [1]) =
      (s.raise0 Cause.shutdownRefused).refuse Cause.shutdownRefused := by
    rw [writtenValue_handover, State.shutdownCommand_of_active hmode, hready, if_neg Bool.false_ne_true]
  have hexec : exec (.shutdownHandover sess) s =
      .next (State.answer ((s.raise0 Cause.shutdownRefused).refuse Cause.shutdownRefused)) :=
    congrArg Host.Outcome.next (State.hostWrite_refuses h (by decide) hown)
  exact .of_next hexec (State.raise0_refusedWith _ (by decide))

end

/-! ### STOP_SHELF (R77) -/

theorem State.sendPair_md (kind : Nat) (rest : List Byte) (s : State) : (s.sendPair kind rest).md = s.md := by
  unfold State.sendPair
  split <;> rfl

theorem State.get_sendPair (kind : Nat) (rest : List Byte) (s : State) (k : Nat) : (s.sendPair kind rest).get k = s.get k := by
  unfold State.sendPair
  split <;> rfl

theorem State.sendPair_outbox (kind : Nat) (rest : List Byte) (s : State) : (s.sendPair kind rest).outbox =
    if s.pairLinks = [] then s.outbox else s.pairMsg kind rest :: s.outbox := by
  by_cases hlinks : s.pairLinks = []
  · rw [if_pos hlinks, State.sendPair, hlinks]
  · rw [if_neg hlinks, State.sendPair_of_links kind rest hlinks, State.send_outbox]

/-- The module that stops the shelf has told its partner and begun to ramp its power down. -/
def State.stopping (s : State) : State := (s.sendPair 9 []).setShutdown .ramping 2

theorem State.stopping_md (s : State) : s.stopping.md = { s.md with shutdown := .ramping } := by
  rw [State.stopping, State.setShutdown, State.put_md, State.modMd_md, State.sendPair_md]

theorem State.get_stopping_other {k : Nat} (s : State) (h : k ≠ K.moduleShutdownProgress) : s.stopping.get k = s.get k := by
  rw [State.stopping, State.setShutdown, State.get_put_other _ _ _ _ h, State.get_modMd, State.get_sendPair]

theorem State.get_stopping_progress (s : State) : s.stopping.get K.moduleShutdownProgress = 2 := by
  rw [State.stopping, State.setShutdown, State.get_put_same]
  rfl

theorem State.stopping_outbox (s : State) : s.stopping.outbox = (s.sendPair 9 []).outbox := by
  rw [State.stopping, State.setShutdown, State.put_outbox, State.modMd_outbox]

theorem State.stopping_partnerHalted (s : State) : s.stopping.partnerHalted = s.partnerHalted := by
  have hlinks : s.stopping.pairLinks = s.pairLinks := State.pairLinks_congr fun k hk =>
    s.get_stopping_other (Nat.ne_of_lt (Nat.lt_of_lt_of_le hk (by decide)))
  unfold State.partnerHalted
  rw [hlinks, s.stopping_md, State.getN_congr (s.get_stopping_other (by decide))]

/-- Once the partner has halted the rack cap falls to zero. -/
def State.capped (s : State) : State := (s.setRackCap 0).modMd (fun m => { m with stopCap := true })

theorem State.stopShelfCap_eq (s : State) : s.stopShelfCap =
    s.when (decide (s.md.shutdown = .ramping) && !s.md.stopCap && s.partnerHalted) State.capped := rfl

theorem State.get_capped (s : State) : s.capped.get K.rackRackCap = 0 := by
  rw [State.capped, State.get_modMd, State.setRackCap, State.get_put_other _ _ _ _ (by decide), State.get_put_same]
  rfl

theorem State.get_stopShelfCap_progress (s : State) :
    s.stopShelfCap.get K.moduleShutdownProgress = s.get K.moduleShutdownProgress := by
  rw [State.stopShelfCap_eq]
  refine State.when_preserves (P := fun t => t.get K.moduleShutdownProgress = s.get K.moduleShutdownProgress) _ rfl fun _ => ?_
  rw [State.capped, State.get_modMd, State.setRackCap, State.get_put_other _ _ _ _ (by decide),
    State.get_put_other _ _ _ _ (by decide)]

theorem State.stopShelfCap_outbox (s : State) : s.stopShelfCap.outbox = s.outbox := by
  rw [State.stopShelfCap_eq]
  exact State.when_preserves (P := fun t => t.outbox = s.outbox) _ rfl fun _ => rfl

theorem stopShelf_does {s : State} {sess : Nat} (h : s.takesByte K.moduleShutdownCommand sess 2)
    (hmode : s.md.mode = .active) : Does (.stopShelf sess) s (fun t =>
      t.outbox = .status 0 :: (if s.pairLinks = [] then s.outbox else s.pairMsg 9 [] :: s.outbox) ∧
      t.getN K.moduleShutdownProgress = 2 ∧
      (s.partnerHalted = true → s.md.stopCap = false → t.getN K.rackRackCap = 0)) := by
  have hvalue : writtenValue K.moduleShutdownCommand [2] ≠ 1 := by decide
  have hown : s.shutdownCommand (writtenValue K.moduleShutdownCommand [2]) = s.stopping.stopShelfCap.ok := by
    unfold State.shutdownCommand
    rw [hmode]
    exact if_neg hvalue
  have hexec : exec (.stopShelf sess) s = .next (s.stopping.stopShelfCap.send (.status 0)) :=
    congrArg Host.Outcome.next (State.hostWrite_ok h hown)
  refine .of_next hexec ⟨?_, State.getN_of_get ?_, fun hhalted hcap => State.getN_of_get ?_⟩
  · rw [State.send_outbox, State.stopShelfCap_outbox, s.stopping_outbox, State.sendPair_outbox]
  · rw [State.get_send, State.get_stopShelfCap_progress, s.get_stopping_progress]
    rfl
  · have hcond : (decide (s.stopping.md.shutdown = .ramping) && !s.stopping.md.stopCap && s.stopping.partnerHalted) = true := by
      rw [s.stopping_partnerHalted, s.stopping_md, hhalted, hcap]
      rfl
    rw [State.get_send, State.stopShelfCap_eq, hcond, State.when_true, State.get_capped]
    rfl

/-- Both converters are asked to stop at their carrier boundaries. -/
def State.convsStopping (s : State) : State :=
  (s.setShutdown .stopping 3).each convs (fun c s => s.modConv c (fun x => { x with stopPend := x.on, waitFeed := false }))

theorem State.convsStopping_conv (s : State) (x : Conv) :
    s.convsStopping.conv x = { s.conv x with stopPend := (s.conv x).on, waitFeed := false } := by
  cases x <;> rfl

theorem State.convsStopping_on (s : State) (x : Conv) : (s.convsStopping.conv x).on = (s.conv x).on := by
  rw [s.convsStopping_conv]

theorem State.convsStopping_shutdown (s : State) : s.convsStopping.md.shutdown = .stopping := by
  unfold State.convsStopping
  rw [State.each_md _ fun c _ => State.modConv_md c _ _]
  rfl

section
variable {s : State} (hramping : s.md.shutdown = .ramping) (hcap : s.md.stopCap = true) (hpower : s.feedWatts < 2000)
  (hcurrent : (s.controlMilli 43).natAbs < 5000)
include hramping hcap hpower hcurrent

theorem execStopShelfComplete_eq : exec .stopShelfComplete s = .next s.convsStopping.stopShelfEnd := by
  show execStopShelfComplete s = _
  unfold execStopShelfComplete
  rw [if_pos ⟨hramping, hcap, hpower, hcurrent⟩]
  rfl

theorem stopShelfComplete_waits (hon : ∃ x, (s.conv x).on = true) : Does .stopShelfComplete s (fun t =>
    t.getN K.moduleShutdownProgress = 3 ∧ ∀ x, (s.conv x).on = true → (t.conv x).stopPend = true) := by
  have hend : s.convsStopping.stopShelfEnd = s.convsStopping := by
    obtain ⟨x, hx⟩ := hon
    have hall : convs.all (fun c => !(s.convsStopping.conv c).on) = false := by
      refine Bool.eq_false_iff.2 fun h => ?_
      have hoff := List.all_eq_true.1 h x (by cases x <;> decide)
      rw [s.convsStopping_on, hx] at hoff
      exact Bool.false_ne_true hoff
    rw [State.stopShelfEnd, hall, Bool.and_false]
    rfl
  have hexec := execStopShelfComplete_eq hramping hcap hpower hcurrent
  rw [hend] at hexec
  refine .of_next hexec ⟨State.getN_of_get ?_, fun x hx => ?_⟩
  · have hget : s.convsStopping.get K.moduleShutdownProgress = (s.setShutdown .stopping 3).get K.moduleShutdownProgress :=
      State.each_preserves (P := fun t => t.get _ = (s.setShutdown .stopping 3).get _) _ rfl fun c t h => by
        rw [← h, State.get, State.get, State.modConv_objs]
    rw [hget, State.setShutdown, State.get_put_same]
  · rw [s.convsStopping_conv, hx]

theorem stopShelfComplete_halts (hoff : ∀ x, (s.conv x).on = false) : Does .stopShelfComplete s (fun t =>
    t.md.mode = .halted ∧ t.md.pins.maceOut = false ∧ t.getN K.moduleShutdownProgress = 4) := by
  have hend : s.convsStopping.stopShelfEnd = s.convsStopping.dropMace.halt := by
    have hall : convs.all (fun c => !(s.convsStopping.conv c).on) = true := by
      refine List.all_eq_true.2 fun x _ => ?_
      rw [s.convsStopping_on, hoff, Bool.not_false]
    rw [State.stopShelfEnd, hall, Bool.and_true, decide_eq_true s.convsStopping_shutdown, State.when_true]
  have hexec := execStopShelfComplete_eq hramping hcap hpower hcurrent
  rw [hend] at hexec
  obtain ⟨hmode, -, hprogress⟩ := s.convsStopping.dropMace.halt_standsHalted
  obtain ⟨_, _, _, hdrop⟩ := s.convsStopping.dropMace_md
  refine .of_next hexec ⟨hmode, ?_, State.getN_of_get hprogress⟩
  rw [State.halt_maceOut, hdrop]

end

end Sys2Proof.Machine
end

section
/-! Firmware banks and the recovery ROM (R64, R79 to R82): a failed bank tried again, requests, downloads, acceptance. -/

namespace Sys2Proof.Machine

/-! ### BANK_RETRY (R64) -/

/-- The bank a retry names. -/
def HostWrite.retried (w : HostWrite) : Bool := decide (w.num = 1)

theorem writtenValue_retried (w : HostWrite) : decide (writtenValue K.bankBankRetry w.bytes = 1) = w.retried := by
  rw [writtenValue_unsigned w.bytes (by decide)]
  exact decide_eq_decide.2 Nat.cast_eq_one

section
variable {s : State} {v : Int} {b : Bool} (hb : decide (v = 1) = b)
include hb

theorem State.bankRetry_of_failed (hstate : (s.md.bank b).state = .failed) :
    s.bankRetry v = (s.modBank b (fun x => { x with state := .valid, failedStarts := 0 })).ok := by
  subst hb
  unfold State.bankRetry
  dsimp only
  rw [hstate]

theorem State.bankRetry_of_unusable (hstate : (s.md.bank b).state = .invalid ∨ (s.md.bank b).state = .empty) :
    s.bankRetry v = s.refuse Cause.valueOutOfRange := by
  subst hb
  unfold State.bankRetry
  dsimp only
  obtain hstate | hstate := hstate
  · rw [hstate]
  · rw [hstate]

end

section
variable {s : State} {w : HostWrite} (h : s.takes K.bankBankRetry w)
include h

theorem bankRetry_failed (hstate : (s.md.bank w.retried).state = .failed) : Does (.bankRetry w) s (fun t =>
    saidOk s t ∧ (t.md.bank w.retried).state = .valid ∧ (t.md.bank w.retried).failedStarts = 0 ∧
    t.md.bank (!w.retried) = s.md.bank (!w.retried)) := by
  have hown := State.bankRetry_of_failed (writtenValue_retried w) hstate
  have hexec : exec (.bankRetry w) s = .next ((s.modBank w.retried (fun x => { x with
      state := .valid, failedStarts := 0 })).send (.status 0)) :=
    congrArg Host.Outcome.next (State.hostWrite_ok h hown)
  refine .of_next hexec ⟨rfl, ?_, ?_, ?_⟩
  · rw [State.send_md, State.modBank_same]
  · rw [State.send_md, State.modBank_same]
  · rw [State.send_md, State.modBank_not]

theorem bankRetry_refused (hstate : (s.md.bank w.retried).state = .invalid ∨ (s.md.bank w.retried).state = .empty) :
    Does (.bankRetry w) s (fun t => refusedWith s t Cause.valueOutOfRange ∧ t.md = s.md) := by
  have hown := State.bankRetry_of_unusable (writtenValue_retried w) hstate
  have hexec : exec (.bankRetry w) s = .next (State.answer (s.refuse Cause.valueOutOfRange)) :=
    congrArg Host.Outcome.next (State.hostWrite_refuses h (by decide) hown)
  exact .of_next hexec ⟨State.answer_refusedWith rfl rfl (by decide), State.answer_md _⟩

end

/-! ### Requests of the recovery ROM (R81) -/

theorem recoveryRequest_does {s : State} (hmode : s.md.mode = .recovery) (hfree : s.md.download = none)
    (hdue : ∀ t0, s.md.recAskedAt = some t0 → t0 + 1000000000 ≤ s.now) (hlinks : s.pairLinks ≠ []) :
    Does .recoveryRequest s (fun t => t.md.recAskedAt = some s.now ∧
      t.outbox = s.pairMsg 10 (leBytes 2 0 ++ leBytes 8 s.md.fwCounter) :: s.outbox) := by
  have hsame : (s.modMd (fun m => { m with recAskedAt := some s.now })).pairLinks = s.pairLinks :=
    State.pairLinks_congr fun _ _ => State.get_modMd _ _ _
  have hexec : exec .recoveryRequest s = .next ((s.modMd (fun m => { m with recAskedAt := some s.now })).sendPair 10
      (leBytes 2 0 ++ leBytes 8 s.md.fwCounter)) := by
    have hlate : (match s.md.recAskedAt with | some t => decide (t + sec ≤ s.now) | none => true) = true := by
      cases hasked : s.md.recAskedAt with
      | none => rfl
      | some t => exact decide_eq_true (hdue t hasked)
    exact congrArg Host.Outcome.next (if_pos ⟨hmode, by simp [hfree], hlate, by simp [hlinks]⟩)
  rw [State.sendPair_of_links _ _ (by rwa [hsame])] at hexec
  refine .of_next hexec ⟨rfl, ?_⟩
  rw [State.send_outbox, State.modMd_outbox, State.pairMsg, State.pairMsg, hsame]

/-- A firmware in service hands out its own image to a counter it is not below (R81). -/
theorem recoveryData_request {s : State} {c : BitVec 32} (hserves : s.md.mode.serves = true)
    (hconfirmed : s.md.confirmed = true) (hcounter : c.toNat ≤ s.md.fwCounter) : Does (.recoveryData (.request c)) s (fun t =>
      t.outbox = .image bankBytes :: s.outbox) := by
  have hexec : exec (.recoveryData (.request c)) s = .next (s.send (.image bankBytes)) :=
    congrArg Host.Outcome.next (if_pos ⟨hserves, hconfirmed, hcounter⟩)
  exact .of_next hexec (State.send_outbox _ _)

/-! ### Downloads (R79, R82) -/

section
variable {s : State} {src : RecSource} {sess : Nat} {named sg : Bool} {hb : List Byte} (hmode : s.md.mode = .recovery)
include hmode

theorem execRecoveryHeader_eq : exec (.recoveryData (.header src sess named hb sg)) s =
    .next (s.recoveryHeader src sess named (.ofBytes sg hb)) :=
  congrArg Host.Outcome.next (if_pos hmode)

section
variable (hmay : s.mayDownload src sess = true)
include hmay

/-- The first header that passes its checks holds the download, and its target is INVALID until the image is accepted. -/
theorem recoveryData_header (hfree : s.md.download = none) (hcheck : s.headerCheck 1 bankBytes (ImageHdr.ofBytes sg hb) = 0) :
    Does (.recoveryData (.header src sess named hb sg)) s (fun t => t.md.download = some src ∧
      t.md.downloadB = s.recoveryTarget src named ∧ (t.md.bank (s.recoveryTarget src named)).state = .invalid) := by
  refine .of_next (execRecoveryHeader_eq hmode) ?_
  unfold State.recoveryHeader
  dsimp only
  rw [hmay, hfree, hcheck, Bool.not_true, if_neg Bool.false_ne_true, Option.isSome_none, if_neg Bool.false_ne_true,
    if_neg (not_not_intro rfl), State.modMd_md]
  generalize s.recoveryTarget src named = b
  refine ⟨rfl, rfl, ?_⟩
  have hstate := fun x => congrArg BankSt.state (s.modBank_same b (fun _ => x))
  cases b with
  | false => exact hstate _
  | true => exact hstate _

/-- While one source holds the download another is told BUSY. -/
theorem recoveryData_busy (hheld : s.md.download.isSome = true) : Does (.recoveryData (.header src sess named hb sg)) s (fun t =>
    t.outbox = .status Cause.busy :: s.outbox ∧ t.md = s.md) := by
  have hanswer : s.recoveryHeader src sess named (.ofBytes sg hb) = s.send (.status Cause.busy) := by
    unfold State.recoveryHeader
    dsimp only
    rw [hmay, hheld, Bool.not_true, if_neg Bool.false_ne_true, if_pos rfl]
  refine .of_next (execRecoveryHeader_eq hmode) ?_
  rw [hanswer]
  exact ⟨rfl, rfl⟩

end

theorem recoveryData_body (n : Nat) (hheld : s.md.download = some src) : Does (.recoveryData (.body src n)) s (fun t =>
    t.md.downloadBytes = s.md.downloadBytes + n ∧ t.md.downloadAt = s.now) := by
  have hexec : exec (.recoveryData (.body src n)) s = .next (s.modMd (fun m => { m with
      downloadBytes := m.downloadBytes + n, downloadAt := s.now })) :=
    congrArg Host.Outcome.next (if_pos ⟨hmode, hheld⟩)
  exact .of_next hexec ⟨rfl, rfl⟩

end

/-! ### The end of a download (R79, R82) -/

theorem ModState.atReset_preferB (m : ModState) (k : ResetKind) : (m.atReset k).preferB = m.preferB := rfl

theorem ModState.atReset_bank (m : ModState) (k : ResetKind) (b : Bool) : (m.atReset k).bank b = m.bank b := rfl

/-- What the descriptor and the header store hold of a bank whose image was accepted. -/
def BankSt.accepted (ok : BitVec 5) (x : BankSt) : BankSt :=
  { x with
    state := .valid, failedStarts := 0, hashOk := true
    parts := Vector.ofFn (fun i : Fin 5 => { x.parts[i] with headerOk := ok.getLsbD i }) }

/-- The accepted bank is VALID and preferred, and the download is over. -/
def State.imageAccepted (b : Bool) (ok : BitVec 5) (s : State) : State :=
  ((s.modBank b (BankSt.accepted ok)).preferBank b).modMd (fun m => { m with download := none })

theorem State.imageAccepted_md (b : Bool) (ok : BitVec 5) (s : State) : (s.imageAccepted b ok).md.preferB = b ∧
    ((s.imageAccepted b ok).md.bank b).state = .valid ∧ (s.imageAccepted b ok).md.mainLoss = s.md.mainLoss := by
  have hstate := congrArg BankSt.state (s.modBank_same b (BankSt.accepted ok))
  have hloss : (s.modBank b (BankSt.accepted ok)).md.mainLoss = s.md.mainLoss := by
    obtain ⟨x, y, hbank⟩ := s.modBank_md b (BankSt.accepted ok)
    rw [hbank]
  obtain ⟨x, y, hprefer⟩ := ModState.writeDesc_writesSlots { (s.modBank b (BankSt.accepted ok)).md with preferB := b }
  have hmd : (s.imageAccepted b ok).md = { (s.modBank b (BankSt.accepted ok)).md with
      preferB := b, descA := x, descB := y, download := none } := by
    unfold State.imageAccepted State.preferBank
    rw [State.modMd_md, State.modMd_md, hprefer]
  rw [hmd]
  refine ⟨rfl, ?_, hloss⟩
  cases b with
  | false => exact hstate
  | true => exact hstate

section
variable {s : State} (hmode : s.md.mode = .recovery) (hheld : s.md.download.isSome = true)
include hmode hheld

theorem recoveryImageAccepted_accepts (ok : BitVec 5) (hmain : s.md.mainLoss = false) :
    Does (.recoveryImageAccepted true ok) s (fun t => resetTo t 3 Cause.hostReset ∧ t.md.preferB = s.md.downloadB ∧
      (t.md.bank s.md.downloadB).state = .valid) := by
  have hexec : exec (.recoveryImageAccepted true ok) s = .next (((s.imageAccepted s.md.downloadB ok).recordInMram
      Cause.recoveryImageAccepted (args s.md.downloadB.toNat [])).flushedReset .host) := by
    show execRecoveryImageAccepted true ok s = _
    unfold execRecoveryImageAccepted
    rw [if_pos ⟨hmode, hheld⟩]
    rfl
  obtain ⟨hprefer, hvalid, hloss⟩ := s.imageAccepted_md s.md.downloadB ok
  have hmain' : ((s.imageAccepted s.md.downloadB ok).recordInMram Cause.recoveryImageAccepted
      (args s.md.downloadB.toNat [])).md.mainLoss = false := by rw [State.recordInMram_md, hloss, hmain]
  refine .of_next hexec ⟨State.flushedReset_resetTo .host hmain', ?_⟩
  rw [State.flushedReset_md .host hmain', ModState.atReset_preferB, ModState.atReset_bank, State.recordInMram_md]
  exact ⟨hprefer, hvalid⟩

theorem recoveryImageAccepted_refuses (ok : BitVec 5) : Does (.recoveryImageAccepted false ok) s (fun t =>
    t.md.download = none ∧ t.outbox = .status Cause.imageBodyBad :: s.outbox) := by
  have hexec : exec (.recoveryImageAccepted false ok) s =
      .next ((s.modMd (fun m => { m with download := none })).send (.status Cause.imageBodyBad)) :=
    (if_pos ⟨hmode, hheld⟩).trans (if_neg Bool.false_ne_true)
  exact .of_next hexec ⟨rfl, rfl⟩

end

theorem recoverySourceTimeout_does {s : State} (hheld : s.md.download.isSome = true)
    (hlate : s.md.downloadAt + 10000000000 < s.now) : Does .recoverySourceTimeout s (fun t => t.md.download = none) := by
  have hexec : exec .recoverySourceTimeout s = .next (s.modMd (fun m => { m with download := none })) :=
    congrArg Host.Outcome.next (if_pos ⟨hheld, hlate⟩)
  exact .of_next hexec rfl

end Sys2Proof.Machine
end

section
/-! Starts, resets, shutdown and recovery: the statement of the chapter. -/

namespace Sys2Proof.Machine

/-- Settles O54: each clause is the lemma on its command above. -/
theorem startsResetsAndShutdowns : Obligations.StartsResetsAndShutdowns := by
  intro s i sess t0 w src hb sg n c ok m d r
  refine ⟨?start, fun h => ⟨startCondition_powerOn h, startCondition_powerFail h⟩, ?gates, ?slotB, ?firstMinute,
    startTimeout_does, pinReset_rstLow s, fun hon hrun => ⟨pinReset_waits hon hrun, pinReset_resets hon hrun⟩,
    fun h => ⟨hostReset_resets h, hostReset_handsOver h, hostReset_refused h⟩, resetForce_resets, ?firmware,
    watchdogControlExpiry_does, ?handover, stopShelf_does, ?stopped, ?retry, ?recovery, recoveryData_request,
    recoverySourceTimeout_does⟩
  case start =>
    intro hstarted hrun hmain hstopped hrom
    have h : s.md.mayStart := ⟨hstarted, hrun, hmain, hstopped, hrom⟩
    exact ⟨startSequence_testFails h, fun hpasses hzero hfailed =>
      ⟨startSequence_loads h hpasses hzero hfailed, startSequence_recovers h hpasses hzero hfailed⟩⟩
  case gates => exact fun hwait hgates => ⟨gatesMet_beside hwait hgates, gatesMet_claims hwait hgates⟩
  case slotB => exact slotBDeferExpiry_does
  case firstMinute => exact fun hstep hlate => ⟨readinessTimeout_does hstep hlate, startConfirmed_does hstep hlate⟩
  case firmware => exact fun harmed hon =>
    ⟨firmwareFatal_waits harmed hon, firmwareFatal_resets harmed hon, watchdogFirmwareExpiry_does harmed hon⟩
  case handover => exact fun h =>
    ⟨shutdownHandover_halts h, shutdownHandover_handsOver h, shutdownHandover_refused h⟩
  case stopped => exact fun hramping hcap hpower hcurrent =>
    ⟨stopShelfComplete_waits hramping hcap hpower hcurrent, stopShelfComplete_halts hramping hcap hpower hcurrent⟩
  case retry => exact fun h => ⟨bankRetry_failed h, bankRetry_refused h⟩
  case recovery => exact fun hmode =>
    ⟨fun hfree => ⟨recoveryRequest_does hmode hfree, fun _ hmay => recoveryData_header hmode hmay hfree⟩,
      fun _ hheld hmay => recoveryData_busy hmode hmay hheld, recoveryData_body hmode n,
      fun hheld hmain => ⟨recoveryImageAccepted_accepts hmode hheld ok hmain,
        recoveryImageAccepted_refuses hmode hheld ok⟩⟩

end Sys2Proof.Machine
end

section
/-! Fabric time (spec/04, R84 to R98): what showing it, entering a state of Table 4-4, taking a master and choosing again
leave of it. -/

namespace Sys2Proof.Machine

/-! ### Showing time (Table 4-7) -/

theorem State.showTime_noted (s : State) : Noted s s.showTime := by constructor <;> rfl

@[simp] theorem State.showTime_time (s : State) : s.showTime.time = s.time := s.showTime_noted.time

/-- Objects that showing the time writes. -/
def shownTime : List Nat :=
  [K.timeTimeState, K.timeEpochOffsetE, K.timeTAITraceable, K.timeMasterNode, K.timeStepsRemoved, K.timeUpstreamLink, K.timeQuality]

theorem State.get_showTime_other {k : Nat} (s : State) (h : k ∉ shownTime) : s.showTime.get k = s.get k := by
  simp only [shownTime, List.mem_cons, List.not_mem_nil, or_false, not_or] at h
  obtain ⟨hstate, he, htai, hmaster, hsteps, hup, hquality⟩ := h
  unfold State.showTime
  dsimp only
  rw [State.get_put_other _ _ _ _ hquality, State.get_put_other _ _ _ _ hup, State.get_put_other _ _ _ _ hsteps,
    State.get_put_other _ _ _ _ hmaster, State.get_putB_other _ _ _ _ htai, State.get_put_other _ _ _ _ he,
    State.get_put_other _ _ _ _ hstate]

/-! ### Entering a time state (Table 4-4) -/

/-- The time of a module that comes to a state at an FT (Table 4-4). -/
def TimeSt.enter (m : TimeMode) (ft : Nat) (t : TimeSt) : TimeSt :=
  if t.mode = m then t
  else { t with
    mode := m, syncRun := 0
    needEpoch := if m = .acquiring then true else t.needEpoch
    acquired := t.acquired || decide (m = .locked)
    lostAt := if m = .holdover then ft else t.lostAt
    watch := if m = .locked then t.watch else 0 }

section
variable (m : TimeMode) (ft : Nat) (t : TimeSt)

@[simp] theorem TimeSt.enter_mode : (t.enter m ft).mode = m := by
  unfold TimeSt.enter
  split
  · next h => exact h
  · rfl

@[simp] theorem TimeSt.enter_tb : (t.enter m ft).tb = t.tb := by unfold TimeSt.enter; split <;> rfl
@[simp] theorem TimeSt.enter_e : (t.enter m ft).e = t.e := by unfold TimeSt.enter; split <;> rfl
@[simp] theorem TimeSt.enter_offers : (t.enter m ft).offers = t.offers := by unfold TimeSt.enter; split <;> rfl
@[simp] theorem TimeSt.enter_upstream : (t.enter m ft).upstream = t.upstream := by unfold TimeSt.enter; split <;> rfl
@[simp] theorem TimeSt.enter_isMaster : (t.enter m ft).isMaster = t.isMaster := by unfold TimeSt.enter; split <;> rfl
@[simp] theorem TimeSt.enter_masterNode : (t.enter m ft).masterNode = t.masterNode := by unfold TimeSt.enter; split <;> rfl
@[simp] theorem TimeSt.enter_quality : (t.enter m ft).quality = t.quality := by unfold TimeSt.enter; split <;> rfl
@[simp] theorem TimeSt.enter_tai : (t.enter m ft).tai = t.tai := by unfold TimeSt.enter; split <;> rfl
@[simp] theorem TimeSt.enter_t1 : (t.enter m ft).t1 = t.t1 := by unfold TimeSt.enter; split <;> rfl
@[simp] theorem TimeSt.enter_t2 : (t.enter m ft).t2 = t.t2 := by unfold TimeSt.enter; split <;> rfl
@[simp] theorem TimeSt.enter_request : (t.enter m ft).request = t.request := by unfold TimeSt.enter; split <;> rfl
@[simp] theorem TimeSt.enter_means : (t.enter m ft).means = t.means := by unfold TimeSt.enter; split <;> rfl
@[simp] theorem TimeSt.enter_ptp : (t.enter m ft).ptp = t.ptp := by unfold TimeSt.enter; split <;> rfl

end

/-- A loss of the upstream is timed from the entry into HOLDOVER (R97). -/
theorem TimeSt.enter_lostAt {t : TimeSt} (ft : Nat) (h : t.mode ≠ .holdover) : (t.enter .holdover ft).lostAt = ft := by
  unfold TimeSt.enter
  rw [if_neg h]
  rfl

@[simp] theorem State.enterTime_time (m : TimeMode) (s : State) : (s.enterTime m).time = s.time.enter m s.ft := by
  unfold State.enterTime TimeSt.enter
  split
  · rfl
  · cases m
    case invalid => rfl
    case acquiring => rfl
    case locked => exact State.raise0_time _ _
    case holdover => exact State.raise0_time _ _
    case degraded => exact State.raise0_time _ _

theorem State.get_enterTime_other {k : Nat} (m : TimeMode) (s : State) (h : k ∉ shownTime) (hk : noting k = false) :
    (s.enterTime m).get k = s.get k := by
  have hshow : ∀ t : State, t.objs = s.objs → t.showTime.get k = s.get k := fun t ht =>
    (State.get_showTime_other t h).trans (congrArg (Sparse.get Dict.default · k) ht)
  unfold State.enterTime
  split
  · rfl
  · cases m
    case invalid => exact hshow _ rfl
    case acquiring => exact hshow _ rfl
    case locked => exact (State.get_raise0 _ _ _ hk).trans (hshow _ rfl)
    case holdover => exact (State.get_raise0 _ _ _ hk).trans (hshow _ rfl)
    case degraded => exact (State.get_raise0 _ _ _ hk).trans (hshow _ rfl)

/-! ### What choosing again leaves alone -/

/-- The TB count, E, the offers, and PTP with PPS are as they were. -/
structure TreeKept (s t : State) : Prop where
  tb : t.time.tb = s.time.tb
  e : t.time.e = s.time.e
  offers : t.time.offers = s.time.offers
  ptp : t.time.ptp = s.time.ptp

theorem TreeKept.trans {s t u : State} (h : TreeKept s t) (g : TreeKept t u) : TreeKept s u :=
  ⟨g.tb.trans h.tb, g.e.trans h.e, g.offers.trans h.offers, g.ptp.trans h.ptp⟩

theorem TreeKept.of_time {s t : State} (h : t.time = s.time) : TreeKept s t := ⟨by rw [h], by rw [h], by rw [h], by rw [h]⟩

theorem State.enterTime_treeKept (m : TimeMode) (s : State) : TreeKept s (s.enterTime m) := by constructor <;> simp

/-! ### The master (R86) -/

@[simp] theorem State.setMaster_time (m : Option Nat) (s : State) :
    (s.setMaster m).time = { s.time with masterNode := m } := by
  unfold State.setMaster
  split
  · next h => rw [← h]
  · exact State.raise_time _ _ _

/-- The module names itself master, at its own quality. -/
def State.crowned (s : State) : State :=
  (s.modTime (fun t => { t with isMaster := true, upstream := none, quality := s.ownQuality, tai := decide (s.ownQuality ≤ 1) })).setMaster
    (some (s.getN K.nodeNodeId))

theorem State.crowned_time (s : State) : s.crowned.time = { s.time with
    isMaster := true, upstream := none, quality := s.ownQuality, tai := decide (s.ownQuality ≤ 1)
    masterNode := some (s.getN K.nodeNodeId) } := State.setMaster_time _ _

theorem State.beMaster_eq (s : State) : s.beMaster = (((s.crowned.when (decide (s.crowned.time.mode = .invalid))
    (State.enterTime .acquiring)).modTime (fun t => { t with needEpoch := false })).enterTime .locked).showTime := rfl

/-- A master is LOCKED at its own quality (Table 4-4). -/
theorem State.beMaster_time (s : State) : s.beMaster.time.mode = .locked ∧ s.beMaster.time.isMaster = true ∧
    s.beMaster.time.quality = s.ownQuality ∧ s.beMaster.time.tai = decide (s.ownQuality ≤ 1) := by
  rw [State.beMaster_eq]
  unfold State.when
  split <;> simp [State.crowned_time]

theorem State.crowned_treeKept (s : State) : TreeKept s s.crowned := by
  have h := s.crowned_time
  exact ⟨by rw [h], by rw [h], by rw [h], by rw [h]⟩

theorem State.beMaster_treeKept (s : State) : TreeKept s s.beMaster := by
  have hacquired := State.when_preserves (P := TreeKept s) (decide (s.crowned.time.mode = .invalid)) s.crowned_treeKept
    fun h => h.trans (State.enterTime_treeKept .acquiring _)
  have hdecided : ∀ u : State, TreeKept u (u.modTime (fun t => { t with needEpoch := false })) := fun _ => ⟨rfl, rfl, rfl, rfl⟩
  rw [State.beMaster_eq]
  exact (hacquired.trans (hdecided _)).trans ((State.enterTime_treeKept _ _).trans (.of_time (State.showTime_time _)))

/-! ### An upstream (R87) -/

/-- The module takes its time from an offer; what it has learnt of another link it forgets. -/
def State.follow (o : LinkOffer) (s : State) : State :=
  let same := decide (s.time.upstream = some o.link)
  (s.modTime (fun t => { t with
    upstream := some o.link, isMaster := false, quality := o.offer.quality, tai := o.offer.tai
    means := if same then t.means else [], request := if same then t.request else none
    t1 := if same then t.t1 else 0, t2 := if same then t.t2 else 0 })).setMaster (some o.offer.master)

theorem State.follow_time (o : LinkOffer) (s : State) : (s.follow o).time.upstream = some o.link ∧
    (s.follow o).time.masterNode = some o.offer.master := by
  unfold State.follow
  simp

theorem State.follow_treeKept (o : LinkOffer) (s : State) : TreeKept s (s.follow o) := by
  unfold State.follow
  constructor <;> simp

theorem State.takeUpstream_eq (o : LinkOffer) (s : State) : s.takeUpstream o = (match s.time.mode with
    | .locked => if decide (s.time.masterNode = some o.offer.master) then (if decide (s.time.upstream = some o.link) then s.follow o
        else (s.follow o).modTime (fun t => { t with watch := 16 })) else (s.follow o).enterTime .acquiring
    | .acquiring => s.follow o
    | _ => (s.follow o).enterTime .acquiring).showTime := rfl

/-- A module without time acquires the time of the upstream it takes. -/
theorem State.takeUpstream_acquires {s : State} (o : LinkOffer) (h : s.time.mode = .invalid) :
    (s.takeUpstream o).time.upstream = some o.link ∧ (s.takeUpstream o).time.mode = .acquiring ∧
      (s.takeUpstream o).time.masterNode = some o.offer.master := by
  obtain ⟨hup, hmaster⟩ := s.follow_time o
  rw [State.takeUpstream_eq, h, State.showTime_time, State.enterTime_time]
  exact ⟨(TimeSt.enter_upstream _ _ _).trans hup, TimeSt.enter_mode _ _ _, (TimeSt.enter_masterNode _ _ _).trans hmaster⟩

theorem State.takeUpstream_treeKept (o : LinkOffer) (s : State) : TreeKept s (s.takeUpstream o) := by
  have hfollow := s.follow_treeKept o
  have hacquire := hfollow.trans (State.enterTime_treeKept .acquiring (s.follow o))
  rw [State.takeUpstream_eq]
  refine TreeKept.trans ?_ (.of_time (State.showTime_time _))
  split
  · split
    · split
      · exact hfollow
      · exact hfollow.trans ⟨rfl, rfl, rfl, rfl⟩
    · exact hacquire
  · exact hfollow
  · exact hacquire

/-! ### Choosing again (R87) -/

theorem State.chooseTime_of_chosen {s : State} {o : LinkOffer} (h : s.chosen = some o) : s.chooseTime = s.takeUpstream o := by
  unfold State.chooseTime
  rw [h]

theorem State.chooseTime_of_master {s : State} (h : s.chosen = none) (hmay : s.mayMaster = true)
    (hmaster : s.time.isMaster = true ∨ s.ownQuality ≤ 3) : s.chooseTime = s.beMaster := by
  unfold State.chooseTime
  rw [h]
  exact if_pos ⟨hmay, hmaster⟩

/-- The module has neither an upstream nor mastership. -/
def State.leaveTree (s : State) : State := s.modTime (fun t => { t with upstream := none, isMaster := false })

theorem State.chooseTime_of_neither {s : State} (h : s.chosen = none) (hmaster : ¬ (s.mayMaster = true ∧
    (s.time.isMaster = true ∨ s.ownQuality ≤ 3))) : s.chooseTime =
      (if s.time.mode = .locked then s.leaveTree.enterTime .holdover else s.leaveTree).showTime := by
  unfold State.chooseTime
  rw [h]
  exact if_neg hmaster

theorem State.chooseTime_treeKept (s : State) : TreeKept s s.chooseTime := by
  have hleave : TreeKept s s.leaveTree := ⟨rfl, rfl, rfl, rfl⟩
  cases h : s.chosen with
  | some o =>
    rw [State.chooseTime_of_chosen h]
    exact State.takeUpstream_treeKept o s
  | none =>
    by_cases hm : s.mayMaster = true ∧ (s.time.isMaster = true ∨ s.ownQuality ≤ 3)
    · rw [State.chooseTime_of_master h hm.1 hm.2]
      exact State.beMaster_treeKept s
    · rw [State.chooseTime_of_neither h hm]
      refine TreeKept.trans ?_ (.of_time (State.showTime_time _))
      split
      · exact hleave.trans (State.enterTime_treeKept _ _)
      · exact hleave

theorem State.chosen_of_no_offers {s : State} (h : s.time.offers = []) : s.chosen = none := by
  have hvalid : s.validOffers = [] := by simp [State.validOffers, State.heardOffers, h]
  unfold State.chosen
  rw [hvalid]
  rfl

/-- A module that can be no master itself takes the one valid offer it hears. -/
theorem State.chosen_of_one_offer {s : State} {o : LinkOffer} (h : s.validOffers = [o]) (hmay : s.mayMaster = false) :
    s.chosen = some o := by
  unfold State.chosen
  rw [h, hmay]
  by_cases hpin : o.link = s.getN K.timePinnedUpstream <;> simp [hpin, bestOffer]

theorem State.mayMaster_of_no_node {s : State} (h : s.hasNode = false) : s.mayMaster = false := by
  simp [State.mayMaster, h]

end Sys2Proof.Machine
end

section
/-! The time tree (R86 to R88, R97): what ANNOUNCE, UPSTREAM_LOST, FABRIC_TIME_START, TIME_DEGRADED and TIME_SOURCE_FAILED do. -/

namespace Sys2Proof.Machine

/-! ### ANNOUNCE (R87) -/

/-- The offer of a neighbour is kept, one for a link, and valid time is heard of. -/
def State.hearOffer (e : LinkOffer) (s : State) : State :=
  s.modTime (fun t => { t with
    offers := e :: t.offers.filter (fun x => decide (x.link ≠ e.link))
    noOfferSince := if e.offer.quality ≤ 3 then s.now else t.noOfferSince })

theorem execAnnounce_eq {s : State} {link : Fin 32} {o : Offer} (neighbour : Nat) (hprofile : 2 ≤ s.profile link)
    (hversion : versionOk o.version = true) : exec (.announce link neighbour o) s =
      .next (s.hearOffer { link := link, neighbour := neighbour, offer := o, stamp := s.now }).chooseTime := by
  have hheard : ¬ (s.profile link ≤ 1 ∨ (!versionOk o.version) = true) := by
    rw [hversion]
    simp only [Bool.not_true, Bool.false_eq_true, or_false]
    omega
  exact if_neg hheard

/-- The only offer of a module without a node id, just heard, is taken. -/
theorem State.hearOffer_chosen {s : State} {e : LinkOffer} (hnone : s.time.offers = []) (hquality : e.offer.quality ≤ 3)
    (hnode : s.hasNode = false) (hstamp : e.stamp = s.now) : (s.hearOffer e).chosen = some e := by
  refine State.chosen_of_one_offer ?_ (State.mayMaster_of_no_node hnode)
  have hnode' : (s.hearOffer e).hasNode = false := hnode
  have hoffers : (s.hearOffer e).time.offers = [e] := by simp [State.hearOffer, hnone]
  have hnow : (s.hearOffer e).now = s.now := rfl
  simp [State.validOffers, State.heardOffers, hoffers, hnode', hnow, hstamp, hquality]

theorem announce_does {s : State} {link : Fin 32} {o : Offer} (neighbour : Nat) (hprofile : 2 ≤ s.profile link)
    (hversion : versionOk o.version = true) : Does (.announce link neighbour o) s (fun t =>
      t.time.offers = { link := link, neighbour := neighbour, offer := o, stamp := s.now } ::
        s.time.offers.filter (fun x => decide (x.link ≠ link.val)) ∧
      (s.time.offers = [] → s.time.mode = .invalid → o.quality ≤ 3 → s.hasNode = false → s.time.isMaster = false →
        t.time.upstream = some link.val ∧ t.time.mode = .acquiring ∧ t.time.masterNode = some o.master)) := by
  refine .of_next (execAnnounce_eq neighbour hprofile hversion) ⟨(State.chooseTime_treeKept _).offers, ?_⟩
  intro hnone hmode hquality hnode _
  rw [State.chooseTime_of_chosen (State.hearOffer_chosen hnone hquality hnode rfl)]
  exact State.takeUpstream_acquires _ hmode

/-! ### UPSTREAM_LOST (R87) -/

/-- A link's offers are forgotten. -/
def State.forgetLink (l : Nat) (s : State) : State :=
  s.modTime (fun t => { t with offers := t.offers.filter (fun o => decide (o.link ≠ l)) })

theorem execUpstreamLost_eq {s : State} {l : Nat} (hup : s.time.upstream = some l) (hdown : s.linkUp l = false) :
    exec .upstreamLost s = .next (s.forgetLink l).chooseTime := by
  have hlost : s.timeLinkDown l = (s.forgetLink l).chooseTime := if_pos hup
  show execUpstreamLost s = _
  unfold execUpstreamLost
  rw [hup, ← hlost]
  simp [hdown]

theorem State.mem_forgetLink {s : State} {l : Nat} {x : LinkOffer} (h : x ∈ (s.forgetLink l).time.offers) :
    x.link ≠ l ∧ x ∈ s.time.offers := by
  obtain ⟨hmem, hlink⟩ := List.mem_filter.1 h
  exact ⟨of_decide_eq_true hlink, hmem⟩

theorem State.forgetLink_none {s : State} {l : Nat} (h : ∀ x ∈ s.time.offers, x.link = l) :
    (s.forgetLink l).time.offers = [] :=
  List.filter_eq_nil_iff.2 fun x hx => by simp [h x hx]

theorem upstreamLost_does {s : State} {l : Nat} (hup : s.time.upstream = some l) (hdown : s.linkUp l = false) :
    Does .upstreamLost s (fun t => (∀ x ∈ t.time.offers, x.link ≠ l ∧ x ∈ s.time.offers) ∧
      ((∀ x ∈ s.time.offers, x.link = l) → s.time.mode = .locked → s.time.isMaster = false → s.mayMaster = false →
        t.time.mode = .holdover ∧ t.time.upstream = none ∧ t.time.lostAt = s.ft)) := by
  refine .of_next (execUpstreamLost_eq hup hdown) ⟨fun x hx => ?_, fun hall hmode _ hmay => ?_⟩
  · rw [(State.chooseTime_treeKept _).offers] at hx
    exact State.mem_forgetLink hx
  · have hnone := State.chosen_of_no_offers (State.forgetLink_none hall)
    have hmay' : (s.forgetLink l).mayMaster = false := hmay
    have hmode' : (s.forgetLink l).time.mode = .locked := hmode
    have hnot : (s.forgetLink l).leaveTree.time.mode ≠ .holdover := fun h => TimeMode.noConfusion (hmode.symm.trans h)
    rw [State.chooseTime_of_neither hnone (by simp [hmay']), if_pos hmode', State.showTime_time, State.enterTime_time]
    exact ⟨TimeSt.enter_mode _ _ _, TimeSt.enter_upstream _ _ _, TimeSt.enter_lostAt _ hnot⟩

/-! ### FABRIC_TIME_START (R88) -/

/-- The module takes E = 0 and names itself master at quality 3. -/
def State.startTime (s : State) : State := s.modTime (fun t => { t with e := 0, isMaster := true, quality := 3 })

/-- Quality 4 is that of a module without a master clock. -/
theorem State.ptp_unlocked_of_quality {s : State} (h : s.ownQuality = 4) : s.time.ptp.locked = false := by
  unfold State.ownQuality at h
  cases hlocked : s.time.ptp.locked with
  | false => rfl
  | true =>
    rw [hlocked, if_pos rfl] at h
    split at h <;> simp at h

/-- A master without PTP has the quality it has. -/
theorem State.ownQuality_of_master {s : State} (hlocked : s.time.ptp.locked = false) (hmaster : s.time.isMaster = true) :
    s.ownQuality = s.time.quality := by
  simp [State.ownQuality, hlocked, hmaster]

theorem State.ft_of_mode {s : State} (h : s.time.mode ≠ .invalid) : s.ft = (s.time.tb + s.time.e).toNat := if_neg h

theorem fabricTimeStart_does {s : State} (hmode : s.time.mode = .invalid) (hmay : s.mayMaster = true) (hown : s.ownQuality = 4)
    (hoffers : s.time.offers = []) (hlate : s.time.noOfferSince + 10000000000 ≤ s.now) :
    Does .fabricTimeStart s (fun t => t.time.mode = .locked ∧ t.time.isMaster = true ∧ t.time.e = 0 ∧ t.time.quality = 3 ∧
      t.ft = s.now) := by
  have hheard : s.heardOffers = [] := by simp [State.heardOffers, hoffers]
  have hvalid : s.validOffers.isEmpty = true := by simp [State.validOffers, hheard]
  have hfirst : s.heardOffers.all (fun o : LinkOffer => tupleBefore (4, s.ownTuple.2) o.offer.tuple) = true := by rw [hheard]; rfl
  have hexec : exec .fabricTimeStart s = .next s.startTime.beMaster := if_pos ⟨hmode, hmay, hown, hvalid, hfirst, hlate⟩
  have hunlocked : s.startTime.time.ptp.locked = false := State.ptp_unlocked_of_quality (s := s) hown
  have hquality : s.startTime.ownQuality = 3 := State.ownQuality_of_master hunlocked rfl
  obtain ⟨hlocked, hmaster, hq, -⟩ := s.startTime.beMaster_time
  obtain ⟨htb, he, -, -⟩ := s.startTime.beMaster_treeKept
  refine .of_next hexec ⟨hlocked, hmaster, he, hq.trans hquality, ?_⟩
  rw [State.ft_of_mode (by rw [hlocked]; decide), htb, he]
  exact Int.toNat_natCast _

/-! ### TIME_DEGRADED (R97) -/

/-- Seconds rounded half-even lie within half a second of the exact time. -/
theorem rheNat_sec_bounds (a : Nat) :
    2 * a ≤ 2000000000 * rheNat a 1000000000 + 1000000000 ∧ 2000000000 * rheNat a 1000000000 ≤ 2 * a + 1000000000 := by
  obtain ⟨hupper, hlower, -⟩ := roundingIsHalfEven a 1000000000 (by decide)
  unfold rheNat
  omega

theorem State.errorBound_of_holdover {s : State} (h : s.time.mode = .holdover) :
    s.errorBound = min (2000 + rheNat (50000 * (s.ft - s.time.lostAt)) 1000000000) 0xFFFFFFFF := by
  unfold State.errorBound
  rw [h]

theorem timeDegraded_degrades {s : State} (hmode : s.time.mode = .holdover) (hlate : s.time.lostAt + 4961 * 1000000 ≤ s.ft) :
    Does .timeDegraded s (fun t => t.time.mode = .degraded) := by
  have hbound : 250000 < s.errorBound := by
    have := rheNat_sec_bounds (50000 * (s.ft - s.time.lostAt))
    rw [State.errorBound_of_holdover hmode]
    omega
  exact .of_next (if_pos ⟨hmode, hbound⟩) (by simp)

theorem timeDegraded_waits {s : State} (hmode : s.time.mode = .holdover) (hearly : s.ft < s.time.lostAt + 4959 * 1000000) :
    exec .timeDegraded s = .next s := by
  have hbound : ¬ 250000 < s.errorBound := by
    have := rheNat_sec_bounds (50000 * (s.ft - s.time.lostAt))
    rw [State.errorBound_of_holdover hmode]
    omega
  exact if_neg fun h => hbound h.2

/-! ### TIME_SOURCE_FAILED (R97) -/

/-- A master that has lost its source holds the tree at quality 2; any other module is as it was. -/
theorem State.untraceable_time (s : State) : s.untraceable.time =
    if s.time.isMaster then { s.time with quality := 2, tai := false } else s.time := by
  unfold State.untraceable State.when
  split
  · exact State.raise0_time _ _
  · rfl

theorem State.untraceable_ptp (s : State) : s.untraceable.time.ptp = s.time.ptp := by
  rw [State.untraceable_time]
  split <;> rfl

/-- PPS_IN gives the second phase no more. -/
def State.losePps (s : State) : State := s.modTime (fun t => { t with ptp := { t.ptp with ppsPresent := false } })

/-- The PTP clock is unlocked. -/
def State.unlockPtp (s : State) : State := s.modTime (fun t => { t with ptp := { t.ptp with locked := false } })

theorem timeSourceFailed_pps {s : State} (h : s.ppsInUse = true) : Does (.timeSourceFailed true) s (fun t =>
    t.time.ptp.ppsPresent = false ∧ (s.time.isMaster = true → t.time.quality = 2 ∧ t.time.tai = false)) := by
  have hexec : exec (.timeSourceFailed true) s = .next s.losePps.untraceable := if_pos h
  refine .of_next hexec ⟨by rw [State.untraceable_ptp]; rfl, fun hmaster => ?_⟩
  rw [State.untraceable_time, if_pos (show s.losePps.time.isMaster = true from hmaster)]
  exact ⟨rfl, rfl⟩

theorem execTimeSourceFailed_ptp {s : State} (h : s.time.ptp.locked = true) : execTimeSourceFailed false s =
    .next (if s.time.isMaster then s.unlockPtp.untraceable.chooseTime else s.unlockPtp) := if_pos h

theorem State.mayMaster_congr {s t : State} (h : ∀ k, k = K.nodeNodeId ∨ k = K.nodeNodeIdConflict ∨ k = K.timeTimePriority →
    t.get k = s.get k) : t.mayMaster = s.mayMaster := by
  unfold State.mayMaster State.hasNode State.getB State.getN
  rw [h _ (.inl rfl), h _ (.inr (.inl rfl)), h _ (.inr (.inr rfl))]

theorem State.get_untraceable_other {k : Nat} (s : State) (h : k ∉ shownTime) (hk : noting k = false) :
    s.untraceable.get k = s.get k :=
  State.when_preserves (P := fun u => u.get k = s.get k) _ rfl fun _ =>
    (State.get_raise0 _ _ _ hk).trans (State.get_showTime_other _ h)

theorem State.untraceable_mayMaster (s : State) : s.untraceable.mayMaster = s.mayMaster :=
  State.mayMaster_congr fun k hk => State.get_untraceable_other s (by rcases hk with rfl | rfl | rfl <;> decide)
    (by rcases hk with rfl | rfl | rfl <;> decide)

theorem timeSourceFailed_ptp {s : State} (h : s.time.ptp.locked = true) : Does (.timeSourceFailed false) s (fun t =>
    t.time.ptp.locked = false ∧ (s.time.isMaster = true → s.mayMaster = true → s.time.offers = [] →
      t.time.isMaster = true ∧ t.time.mode = .locked ∧ t.time.quality = 2 ∧ t.time.tai = false)) := by
  refine .of_next (execTimeSourceFailed_ptp h) ⟨?_, fun hmaster hmay hoffers => ?_⟩
  · split
    · rw [(State.chooseTime_treeKept _).ptp, State.untraceable_ptp]
      rfl
    · rfl
  · have htime : s.unlockPtp.untraceable.time = { s.unlockPtp.time with quality := 2, tai := false } := by
      rw [State.untraceable_time, if_pos (show s.unlockPtp.time.isMaster = true from hmaster)]
    have hquality : s.unlockPtp.untraceable.ownQuality = 2 := by
      rw [State.ownQuality_of_master (by rw [htime]; rfl) (by rw [htime]; exact hmaster), htime]
    have hnone : s.unlockPtp.untraceable.chosen = none := State.chosen_of_no_offers (by rw [htime]; exact hoffers)
    have hmay' : s.unlockPtp.untraceable.mayMaster = true := (State.untraceable_mayMaster _).trans hmay
    obtain ⟨hmode, hm, hq, htai⟩ := s.unlockPtp.untraceable.beMaster_time
    rw [if_pos hmaster, State.chooseTime_of_master hnone hmay' (.inr (by rw [hquality]; decide))]
    exact ⟨hm, hmode, hq.trans hquality, by rw [htai, hquality]; rfl⟩

/-- Settles O28: each clause is the lemma on its command above. -/
theorem timeSpreadsOverTheTree : Obligations.TimeSpreadsOverTheTree := by
  intro s link neighbour l o
  exact ⟨announce_does neighbour, upstreamLost_does, fabricTimeStart_does,
    fun hmode => ⟨timeDegraded_degrades hmode, timeDegraded_waits hmode⟩, timeSourceFailed_pps, timeSourceFailed_ptp⟩

end Sys2Proof.Machine
end

section
/-! Transfer over a link (R87, R92 to R96): timing flits put in line, and what TIMING_SYNC and DELAY_RESP form from their stamps. -/

namespace Sys2Proof.Machine

/-! ### Timing flits in line (R92, R344) -/

theorem State.link_modLink_same (n : Fin 32) (f : LinkSt → LinkSt) (s : State) : (s.modLink n f).link n = f (s.link n) := by
  simp [State.link, State.modLink, State.modFab]

theorem State.link_modLink_other {n m : Fin 32} (f : LinkSt → LinkSt) (s : State) (h : n ≠ m) :
    (s.modLink m f).link n = s.link n := by
  have hval : m.val ≠ n.val := fun e => h (Fin.ext e.symm)
  simp [State.link, State.modLink, State.modFab, Vector.getElem_set_ne, hval]

theorem State.queueTiming_queues (n : Fin 32) (payload : List Byte) (s : State) :
    timingQueued s (s.queueTiming n payload) n payload := by
  have heq : s.queueTiming n payload = s.modLink n (fun x => { x with
      timing := x.timing ++ [mkFlit flitTiming 0 s.sourceNode 0 payload] }) := dif_pos n.isLt
  unfold timingQueued
  rw [heq, State.link_modLink_same]

theorem State.queueTiming_other {n : Fin 32} {m : Nat} (payload : List Byte) (s : State) (h : n.val ≠ m) :
    (s.queueTiming m payload).link n = s.link n := by
  unfold State.queueTiming
  split
  · exact State.link_modLink_other _ _ fun e => h (congrArg Fin.val e)
  · rfl

/-- A flit put in line changes the links and nothing else. -/
theorem State.queueTiming_fab (m : Nat) (payload : List Byte) (s : State) :
    s.queueTiming m payload = { s with fab := (s.queueTiming m payload).fab } := by
  unfold State.queueTiming
  split <;> rfl

/-- A payload that does not depend on what is in line. -/
def OverLinks (p : State → List Byte) : Prop := ∀ (s : State) (f : FabricSt), p { s with fab := f } = p s

/-- Flits put in line on each of some links stand there once; the other links are as they were. -/
theorem State.each_queueTiming {p : State → List Byte} (hp : OverLinks p) (n : Fin 32) (l : List Nat) (hl : l.Nodup) (s : State) :
    if n.val ∈ l then timingQueued s (s.each l (fun m s => s.queueTiming m (p s))) n (p s)
    else (s.each l (fun m s => s.queueTiming m (p s))).link n = s.link n := by
  induction l generalizing s with
  | nil => exact rfl
  | cons m l ih =>
    obtain ⟨hm, hl⟩ := List.nodup_cons.1 hl
    have hrest := ih hl (s.queueTiming m (p s))
    by_cases hn : n.val = m
    · subst hn
      rw [if_neg hm] at hrest
      rw [if_pos List.mem_cons_self]
      exact (congrArg LinkSt.timing hrest).trans (State.queueTiming_queues n (p s) s)
    · have hlink := State.queueTiming_other (p s) s hn
      have hpay : p (s.queueTiming m (p s)) = p s := by rw [State.queueTiming_fab]; exact hp _ _
      have hsource : (s.queueTiming m (p s)).sourceNode = s.sourceNode := by rw [State.queueTiming_fab]; rfl
      simp only [List.mem_cons, hn, false_or]
      unfold timingQueued at *
      rwa [hlink, hpay, hsource] at hrest

theorem State.mem_upLinks {s : State} {n : Fin 32} : n.val ∈ s.upLinks ↔ s.linkUp n = true := by
  simp [State.upLinks]

theorem State.upLinks_nodup (s : State) : s.upLinks.Nodup := List.nodup_range.filter _

theorem announceSend_does (s : State) : Does .announceSend s (fun t => ∀ n : Fin 32,
    if s.linkUp n then timingQueued s t n (timingPayload 4 s.offer 0 0) else t.link n = s.link n) := by
  refine .of_next rfl fun n => ?_
  have h := State.each_queueTiming (p := fun s => timingPayload 4 s.offer 0 0) (fun _ _ => rfl) n s.upLinks s.upLinks_nodup s
  rwa [if_congr State.mem_upLinks rfl rfl] at h

theorem timingSyncSend_does {s : State} (hmode : s.time.mode ≠ .invalid) : Does .timingSyncSend s (fun t => ∀ n : Fin 32,
    if s.linkUp n = true ∧ s.time.upstream ≠ some n.val then timingQueued s t n (timingPayload 1 s.offer (s.ft * 65536) 0)
    else t.link n = s.link n) := by
  refine .of_next (if_neg hmode) fun n => ?_
  have hmem : n.val ∈ s.upLinks.filter (fun n => decide (s.time.upstream ≠ some n)) ↔
      s.linkUp n = true ∧ s.time.upstream ≠ some n.val := by simp [State.mem_upLinks]
  have h := State.each_queueTiming (p := fun s => timingPayload 1 s.offer (s.ft * 65536) 0) (fun _ _ => rfl) n
    (s.upLinks.filter (fun n => decide (s.time.upstream ≠ some n))) (s.upLinks_nodup.filter _) s
  rwa [if_congr hmem rfl rfl] at h

theorem delayReqSend_does {s : State} {link : Fin 32} (t3 : Nat) (hup : s.time.upstream = some link.val) :
    Does (.delayReqSend t3) s (fun t => t.time.request = some { link := link, departure := t3 } ∧
      timingQueued s t link (timingPayload 2 s.offer t3 0)) := by
  have hexec : exec (.delayReqSend t3) s = .next ((s.modTime (fun t => { t with
      request := some { link := link, departure := t3 } })).queueTiming link (timingPayload 2 s.offer t3 0)) := by
    show execDelayReqSend t3 s = _
    unfold execDelayReqSend
    rw [hup]
  refine .of_next hexec ⟨?_, State.queueTiming_queues _ _ _⟩
  rw [State.queueTiming_fab]
  rfl

theorem delayReq_does {s : State} {v : BitVec 8} (link : Fin 32) (arrival : Nat) (hv : versionOk v = true)
    (hmode : s.time.mode ≠ .invalid) : Does (.delayReq link v arrival) s (fun t =>
      timingQueued s t link (timingPayload 3 s.offer (s.ft * 65536) arrival)) :=
  .of_next (if_neg (by simp [hmode, hv])) (State.queueTiming_queues _ _ _)

/-! ### TIMING_SYNC (R93, R95, R96) -/

/-- The stamps of a SYNC are kept. -/
def State.stamped (t1 t2 : Nat) (s : State) : State := s.modTime (fun t => { t with t1 := t1, t2 := t2 })

/-- The offset is shown, it decides on no epoch step, it counts towards acquisition, and the servo steers by it. -/
def State.offsetTaken (off : Int) (s : State) : State :=
  (((s.put K.timeOffsetFromUpstream (clampInt (-2147483648) 2147483647 (toPs off))).modTime (fun t => { t with needEpoch := false })).modTime
    (fun t => { t with syncRun := if decide (off.natAbs ≤ 2 * fine) then t.syncRun + 1 else 0 })).steer

theorem State.offsetTaken_time (off : Int) (s : State) : (s.offsetTaken off).time = { s.time with
    needEpoch := false, syncRun := if off.natAbs ≤ 2 * fine then s.time.syncRun + 1 else 0 } := by
  simp [State.offsetTaken, State.steer]

theorem State.get_offsetTaken (off : Int) (s : State) :
    (s.offsetTaken off).get K.timeOffsetFromUpstream = clampInt (-2147483648) 2147483647 (toPs off) := by
  unfold State.offsetTaken State.steer
  rw [State.get_useFree, State.get_put_other _ _ _ _ (by decide)]
  exact State.get_put_same _ _ _

/-- What TIMING_SYNC leaves once an offset is formed: LOCKED at the 64th in a row within 2 ns (R95). -/
def State.syncTaken (off : Int) (s : State) : State :=
  if (s.offsetTaken off).time.mode = .acquiring ∧ 64 ≤ (s.offsetTaken off).time.syncRun then (s.offsetTaken off).enterTime .locked
  else s.offsetTaken off

theorem State.syncTaken_stamps (off : Int) (s : State) : (s.syncTaken off).time.t1 = s.time.t1 ∧
    (s.syncTaken off).time.t2 = s.time.t2 := by
  unfold State.syncTaken
  split <;> simp [State.offsetTaken_time]

theorem State.get_syncTaken (off : Int) (s : State) :
    (s.syncTaken off).get K.timeOffsetFromUpstream = clampInt (-2147483648) 2147483647 (toPs off) := by
  unfold State.syncTaken
  split
  · rw [State.get_enterTime_other _ _ (by decide) (by decide), State.get_offsetTaken]
  · exact State.get_offsetTaken off s

theorem State.syncTaken_locks {s : State} {off : Int} (hoff : off.natAbs ≤ 131072) (hrun : 63 ≤ s.time.syncRun)
    (hmode : s.time.mode = .acquiring) : (s.syncTaken off).time.mode = .locked := by
  have hrun' : 64 ≤ (s.offsetTaken off).time.syncRun := by
    rw [State.offsetTaken_time]
    show 64 ≤ if off.natAbs ≤ 131072 then s.time.syncRun + 1 else 0
    rw [if_pos hoff]
    omega
  have hmode' : (s.offsetTaken off).time.mode = .acquiring := by rw [State.offsetTaken_time]; exact hmode
  unfold State.syncTaken
  rw [if_pos ⟨hmode', hrun'⟩, State.enterTime_time, TimeSt.enter_mode]

section
variable {s : State} {link : Fin 32} {v : BitVec 8} {t1 t2 : Nat} (hup : s.time.upstream = some link.val) (hv : versionOk v = true)
include hup hv

theorem execTimingSync_unformed (hoff : (s.stamped t1 t2).upOffset = none) :
    exec (.timingSync link v t1 t2) s = .next (s.stamped t1 t2) := by
  have htaken : ¬ (s.time.upstream ≠ some link.val ∨ (!versionOk v) = true) := by simp [hup, hv]
  show execTimingSync link v t1 t2 s = _
  unfold execTimingSync
  rw [if_neg htaken]
  unfold State.stamped at *
  dsimp only
  rw [hoff]

theorem execTimingSync_formed (hepoch : s.time.needEpoch = false) {off : Int} (hoff : (s.stamped t1 t2).upOffset = some off) :
    exec (.timingSync link v t1 t2) s = .next ((s.stamped t1 t2).syncTaken off) := by
  have htaken : ¬ (s.time.upstream ≠ some link.val ∨ (!versionOk v) = true) := by simp [hup, hv]
  have hshown : ∀ k x, ((s.stamped t1 t2).put k x).when ((s.stamped t1 t2).put k x).time.needEpoch (State.setEpoch off) =
      (s.stamped t1 t2).put k x := fun k x => if_neg (by rw [State.put_time]; simp [State.stamped, hepoch])
  show execTimingSync link v t1 t2 s = _
  unfold execTimingSync
  rw [if_neg htaken]
  unfold State.stamped at *
  dsimp only
  rw [hoff]
  dsimp only
  rw [hshown]
  rfl

omit hv in
/-- The offset of R93, once a mean delay has been formed. -/
theorem State.stamped_upOffset {m : Int} (ht2 : t2 ≠ 0) (hmean : s.meanDelay = some m) :
    (s.stamped t1 t2).upOffset = some ((t2 : Int) - (t1 + (m - rheDiv (s.asymmetry link) 2))) := by
  have hup' : (s.stamped t1 t2).time.upstream = some link.val := hup
  have hmean' : (s.stamped t1 t2).meanDelay = some m := hmean
  unfold State.upOffset
  rw [hup', hmean']
  exact if_neg ht2

omit hup hv in
theorem State.upOffset_of_no_mean (hmean : s.meanDelay = none) : s.upOffset = none := by
  unfold State.upOffset
  rw [hmean]
  cases s.time.upstream <;> rfl

theorem timingSync_does (hepoch : s.time.needEpoch = false) (ht2 : t2 ≠ 0) : Does (.timingSync link v t1 t2) s (fun t =>
    t.time.t1 = t1 ∧ t.time.t2 = t2 ∧ ∀ m, s.meanDelay = some m →
      let off : Int := t2 - (t1 + (m - rheDiv (s.asymmetry link) 2))
      t.get K.timeOffsetFromUpstream = max (min (toPs off) 2147483647) (-2147483648) ∧
      (off.natAbs ≤ 131072 → 63 ≤ s.time.syncRun → s.time.mode = .acquiring → t.time.mode = .locked)) := by
  cases hmean : s.meanDelay with
  | none =>
    have hoff := State.upOffset_of_no_mean (s := s.stamped t1 t2) hmean
    exact .of_next (execTimingSync_unformed hup hv hoff) ⟨rfl, rfl, fun _ h => absurd h (Option.some_ne_none _).symm⟩
  | some m =>
    obtain ⟨off, hoff⟩ : ∃ off : Int, off = t2 - (t1 + (m - rheDiv (s.asymmetry link) 2)) := ⟨_, rfl⟩
    have hformed := State.stamped_upOffset (t1 := t1) hup ht2 hmean
    rw [← hoff] at hformed
    obtain ⟨h1, h2⟩ := (s.stamped t1 t2).syncTaken_stamps off
    refine .of_next (execTimingSync_formed hup hv hepoch hformed) ⟨h1, h2, fun m' hm => ?_⟩
    obtain rfl := Option.some.inj hm
    dsimp only
    rw [← hoff]
    exact ⟨State.get_syncTaken off (s.stamped t1 t2), State.syncTaken_locks (s := s.stamped t1 t2)⟩

/-! ### DELAY_RESP (R93) -/

/-- One exchange is over: its delay joins the up to 16 last ones. -/
def State.delayTaken (d : Int) (s : State) : State := s.modTime (fun t => { t with request := none, means := (d :: t.means).take 16 })

/-- Is the offset of an exchange too far off for the time in force? -/
def State.farOff (s : State) : Bool := match s.upOffset with
  | some o => decide (500 * fine < o.natAbs)
  | none => false

/-- The mean delay is shown; after a change of upstream the offset is watched (R95). -/
def State.delayWatched (link : Fin 32) (s : State) : State :=
  let shown := s.put (K.timeLinkDelay link) (clampInt 0 4294967295 (toPs (s.meanDelay.getD 0)))
  if shown.time.watch = 0 then shown
  else
    let watched := shown.modTime (fun t => { t with watch := t.watch - 1 })
    if shown.farOff && decide (watched.time.mode = .locked) then watched.enterTime .acquiring else watched

omit hup hv in
theorem State.delayWatched_time (link : Fin 32) (s : State) : (s.delayWatched link).time.request = s.time.request ∧
    (s.delayWatched link).time.means = s.time.means := by
  unfold State.delayWatched
  dsimp only
  split
  · exact ⟨rfl, rfl⟩
  · split
    · simp
    · exact ⟨rfl, rfl⟩

theorem execDelayResp_eq {r : DelayReq} (t4 : Nat) (hreq : s.time.request = some r) (hlink : r.link = link.val) (ht2 : s.time.t2 ≠ 0) :
    exec (.delayResp link v t4) s = .next ((s.delayTaken
      (rheDiv (((s.time.t2 : Int) - s.time.t1) + ((t4 : Int) - r.departure)) 2)).delayWatched link) := by
  have htaken : ¬ (r.link ≠ link.val ∨ s.time.upstream ≠ some link.val ∨ (!versionOk v) = true) := by simp [hup, hv, hlink]
  show execDelayResp link v t4 s = _
  unfold execDelayResp
  rw [hreq]
  dsimp only
  rw [if_neg htaken, if_neg ht2]
  unfold State.delayWatched
  by_cases hwatch : s.time.watch = 0
  · exact (if_pos hwatch).trans (congrArg Host.Outcome.next (if_pos hwatch).symm)
  · exact (if_neg hwatch).trans (congrArg Host.Outcome.next (if_neg hwatch).symm)

theorem delayResp_does (t4 : Nat) : ∀ r, s.time.request = some r → r.link = link.val → s.time.t2 ≠ 0 →
    Does (.delayResp link v t4) s (fun t => t.time.request = none ∧
      t.time.means = (rheDiv (((s.time.t2 : Int) - s.time.t1) + ((t4 : Int) - r.departure)) 2 :: s.time.means).take 16) := by
  intro r hreq hlink ht2
  obtain ⟨hrequest, hmeans⟩ := State.delayWatched_time link
    (s.delayTaken (rheDiv (((s.time.t2 : Int) - s.time.t1) + ((t4 : Int) - r.departure)) 2))
  exact .of_next (execDelayResp_eq hup hv t4 hreq hlink ht2) ⟨hrequest, hmeans⟩

end

/-- Settles O29: each clause is the lemma on its command above. -/
theorem timeIsTransferredOverLinks : Obligations.TimeIsTransferredOverLinks := by
  intro s link t1 t2 t3 t4 arrival v
  have hv : versionOk v = true := by decide
  exact ⟨announceSend_does s, timingSyncSend_does, fun hup => ⟨delayReqSend_does t3 hup, timingSync_does hup hv,
    delayResp_does hup hv t4⟩, delayReq_does link arrival hv⟩

end Sys2Proof.Machine
end

section
/-! O25 fails: a clove for a shelf is copied to the partner before it is put in queue 32 (R101), and the copy may take the last
shared cell of the pool. -/

namespace Sys2Proof.Machine

/-- An item of some cells on the die. -/
def storedItem (id cells : Nat) : QItem :=
  { id := id, length := 64 * cells, written := 64 * cells, prio := 0, stamp := 0, poison := false, abandoned := false, spilled := 0,
    started := false, data := [] }

/-- Queue 34 holding 24,575 cells: its guarantee of 8,192 and 16,383 of the shared part. -/
def crowdingQueue : Queue :=
  { Queue.empty 34 with items := (List.range 170).map (fun id => storedItem id 144) ++ [storedItem 170 95], high := true }

/-- LOCKED, with an empty key in each slot and pair link 24 in UP. Queues 32 and 152 have no guarantee, all guarantees
together are the 114,688 cells of R398, and queue 34 leaves one cell of the shared part free. -/
def crowdedPool : State :=
  { ((((((State.reset.put K.nodeNodeId 4).put (K.linkState 24) 5).put (K.queueGuaranteedCells 32) 0).put
      (K.queueGuaranteedCells 152) 0).put (K.queueGuaranteedCells 176) 70784).put K.poolGuaranteedTotal 114688).setQueue crowdingQueue with
    time := { TimeSt.fresh with mode := .locked }
    clv := { CloveState.fresh with keys := Vector.replicate 4 (some []) } }

/-- SET_REG for shelf 2, not yet signed. -/
def unsignedClove : Clove :=
  { version := 0x10, action := 1, flags := 0, keyId := 0, source := 2, dest := 0x4002, seq := 9, fireFt := 1000, argA := 3, argB := 5,
    tag := 0 }

/-- It carries the tag of the empty key. -/
def lastCellClove : Clove := { unsignedClove with tag := unsignedClove.tagFor [] }

theorem crowdedPool_places : crowdedPool.cloveTest lastCellClove 0 = .place := by
  have hkey : crowdedPool.clv.keys[lastCellClove.key] = some [] := by decide
  have htag : lastCellClove.tag = lastCellClove.tagFor [] := rfl
  unfold State.cloveTest
  simp only [hkey]
  rw [if_neg (by decide), if_neg (by decide), if_neg (fun h => h htag)]
  decide +kernel

theorem crowdedPool_room : 1 ≤ crowdedPool.dieRoom (crowdedPool.queue 32) := by decide +kernel

/-- What exec does with the clove once it is to be placed: the copy for the partner, the count, queue 32. -/
def crowdedPool.after : State :=
  ((((crowdedPool.markSeen lastCellClove).pairFlit (mkFlit flitClove 0 crowdedPool.sourceNode 1 lastCellClove.bytes)).cloveCount
    0x01).enqueue 32 6 0 lastCellClove.bytes)

theorem exec_crowdedPool : exec (.cloveReceive lastCellClove 0) crowdedPool = .next crowdedPool.after := by
  show Host.Outcome.next (crowdedPool.cloveArrive State.cloveAct lastCellClove 0) = _
  unfold State.cloveArrive
  rw [crowdedPool_places]
  rfl

/-- The copy holds the last cell, and queue 32 has dropped the clove. -/
theorem crowdedPool_drops : (crowdedPool.after.queue 32).items = [] := by decide +kernel

/-- Refutes O25: the first clause takes a free cell before the command for a place in queue 32, but with one free cell left and
no guarantee the copy for the partner takes it, and the clove is dropped. -/
theorem not_clovesArePlacedScheduledAndCancelled : ¬ Obligations.ClovesArePlacedScheduledAndCancelled := by
  unfold Obligations.ClovesArePlacedScheduledAndCancelled
  intro h
  obtain ⟨hplace, -⟩ := h crowdedPool lastCellClove 0 { shelf := 2, key := 0, seq := 9 } { sess := 0, bytes := [] }
  obtain ⟨t, hexec, -, i, hitems, -⟩ := hplace crowdedPool_places (by decide +kernel) crowdedPool_room
  rw [exec_crowdedPool] at hexec
  obtain rfl := Host.Outcome.next.inj hexec
  rw [crowdedPool_drops] at hitems
  exact absurd hitems (List.append_ne_nil_of_right_ne_nil _ (List.cons_ne_nil _ _)).symm

end Sys2Proof.Machine
end

section
/-! What a firing clove leaves (R107, R109): the schedule, the cloves that fired, fabric time. -/

namespace Sys2Proof.Machine

/-- A step of a clove's action leaves fabric time, the schedule and the cloves that fired. -/
structure ActionKept (s t : State) : Prop where
  time : t.time = s.time
  clv : t.clv = s.clv
  pair : t.pair = s.pair

theorem ActionKept.rfl {s : State} : ActionKept s s := ⟨by rfl, by rfl, by rfl⟩

theorem ActionKept.trans {s t u : State} (h : ActionKept s t) (g : ActionKept t u) : ActionKept s u :=
  ⟨g.time.trans h.time, g.clv.trans h.clv, g.pair.trans h.pair⟩

theorem ActionKept.when {s t : State} {b : Bool} {f : State → State} (h : ActionKept s t) (hf : ActionKept t (f t)) :
    ActionKept s (t.when b f) :=
  State.when_preserves b h fun h => h.trans hf

theorem ActionKept.each {α : Type} {s t : State} {l : List α} {f : α → State → State} (h : ActionKept s t)
    (hf : ∀ a u, ActionKept u (f a u)) : ActionKept s (t.each l f) :=
  State.each_preserves l h fun a u hu => hu.trans (hf a u)

theorem Noted.actionKept {s t : State} (h : Noted s t) : ActionKept s t := ⟨h.time, h.clv, h.pair⟩

theorem State.modRack_actionKept (f : RackState → RackState) (s : State) : ActionKept s (s.modRack f) := ⟨rfl, rfl, rfl⟩
theorem State.modPow_actionKept (f : PowerState → PowerState) (s : State) : ActionKept s (s.modPow f) := ⟨rfl, rfl, rfl⟩
theorem State.modChain_actionKept (f : ChainState → ChainState) (s : State) : ActionKept s (s.modChain f) := ⟨rfl, rfl, rfl⟩
theorem State.modSoc_actionKept (f : SocState → SocState) (s : State) : ActionKept s (s.modSoc f) := ⟨rfl, rfl, rfl⟩
theorem State.setCard_actionKept (c : CardState) (s : State) : ActionKept s { s with card := c } := ⟨rfl, rfl, rfl⟩
theorem State.setPow_actionKept (w : PowerState) (s : State) : ActionKept s { s with pow := w } := ⟨rfl, rfl, rfl⟩
theorem State.setSaf_actionKept (x : SafState) (s : State) : ActionKept s { s with saf := x } := ⟨rfl, rfl, rfl⟩

/-! ### The actions of Table 4-6 -/

theorem State.wakeBurst_actionKept (s : State) : ActionKept s s.wakeBurst := ActionKept.when .rfl (State.modPow_actionKept _ _)

theorem State.setTarget_actionKept (mv : Int) (stamp : Nat) (clove : Bool) (s : State) :
    ActionKept s (s.setTarget mv stamp clove) := by
  unfold State.setTarget
  dsimp only
  refine .trans (.when .rfl ?_) ((State.inc_noted _ _).trans (State.putB_noted _ _ _)).actionKept
  exact (State.setPow_actionKept _ s).trans (State.put_noted _ _ _).actionKept

theorem State.setReg_actionKept (n : Fin 16) (v : BitVec 32) (c : Clove) (s : State) : ActionKept s (s.setReg n v c) := by
  unfold State.setReg
  have hreg := s.wakeBurst_actionKept.when (b := s.regAfter n c) (f := fun s => { s with card := { s.card with
    cloveRegs := s.card.cloveRegs.set n v, regBy := s.card.regBy.set n (some c) } }) (State.setCard_actionKept _ _)
  dsimp only
  split
  · split
    · exact hreg.trans (State.setTarget_actionKept _ _ _ _)
    · exact hreg.trans ((State.inc_noted _ _).trans (State.raise_noted _ _ _)).actionKept
  · exact hreg

theorem State.capAt_actionKept (watts stamp : Nat) (clove : Bool) (s : State) : ActionKept s (s.capAt watts stamp clove) := by
  unfold State.capAt
  exact .when .rfl ((s.modRack_actionKept (fun r => { r with capStamp := stamp, capClove := clove })).trans
    ((State.put_noted _ _ _).trans (State.put_noted _ _ _)).actionKept)

theorem State.fireGroupCap_actionKept (c : Clove) (s : State) : ActionKept s (s.fireGroupCap c) := by
  unfold State.fireGroupCap
  exact .each .rfl fun g u => (State.modRack_actionKept _ u).trans (State.put_noted _ _ _).actionKept

theorem State.ledgerShow_noted (s : State) : Noted s s.ledgerShow := by constructor <;> rfl

theorem State.loansChanged_actionKept (f : RackState → RackState) (s : State) : ActionKept s (s.modRack f).ledgerShow :=
  (s.modRack_actionKept f).trans (State.ledgerShow_noted _).actionKept

theorem State.fireLend_actionKept (c : Clove) (s : State) : ActionKept s (s.fireLend c) := by
  have hexpired : ActionKept s (s.expireLoansAt c.fireFt.toNat) := State.loansChanged_actionKept _ _
  unfold State.fireLend
  dsimp only
  split
  · exact hexpired.trans (State.raise_noted _ _ _).actionKept
  · exact (hexpired.trans (State.loansChanged_actionKept _ _)).when (State.raise_noted _ _ _).actionKept

theorem State.fireReturn_actionKept (c : Clove) (s : State) : ActionKept s (s.fireReturn c) :=
  .trans (State.loansChanged_actionKept _ s) (State.loansChanged_actionKept _ (s.expireLoansAt c.fireFt.toNat))

theorem State.askSweep_actionKept (kind at_ : Nat) (s : State) : ActionKept s (s.askSweep kind at_) := by
  unfold State.askSweep State.planSweep
  rw [if_neg (by decide)]
  exact State.modChain_actionKept _ _

theorem State.openQuiet_actionKept (at_ d : Nat) (s : State) : ActionKept s (s.openQuiet at_ d) := by
  unfold State.openQuiet
  dsimp only
  split
  · exact (State.put_noted _ _ _).actionKept
  · exact ((State.put_noted _ _ s).trans (State.put_noted _ _ _)).actionKept.trans (State.modSoc_actionKept _ _)

theorem State.cloveAct_actionKept (c : Clove) (s : State) : ActionKept s (s.cloveAct c) := by
  unfold State.cloveAct
  split
  · exact State.setReg_actionKept _ _ _ _
  · exact State.capAt_actionKept _ _ _ _
  · exact State.fireGroupCap_actionKept _ _
  · exact State.setSaf_actionKept _ _
  · exact State.fireLend_actionKept _ _
  · exact State.fireReturn_actionKept _ _
  · exact State.askSweep_actionKept _ _ _
  · exact State.openQuiet_actionKept _ _ _
  · exact .rfl

/-! ### Firing (R106, R109) -/

theorem State.cloveCount_noted (sub : Nat) (s : State) : Noted s (s.cloveCount sub) := State.inc_noted _ _

theorem State.recordFire_noted (c : Clove) (s : State) : Noted s (s.recordFire c) := Noted.rfl.when (State.raise_noted _ _ _)

/-- The FT whose actions are counted moves on; the slip is raised. -/
theorem State.noteFire_noted (f : Nat) (s : State) :
    ∃ n, Noted (s.modClv (fun v => { v with fireFt := f, fireCount := n })) (s.noteFire f) := by
  unfold State.noteFire
  exact ⟨_, Noted.rfl.when (State.raise_noted _ _ _)⟩

/-- A clove that fires is told to the partner. -/
def State.tellFired (r : CloveRef) (s : State) : State := { s with pair := { s.pair with fired := s.pair.fired ++ [r] } }

/-- The state in which the action of a firing clove runs: told to the partner, counted and recorded. -/
def State.firing (c : Clove) (s : State) : State :=
  (((s.tellFired c.ref).noteFire c.fireFt.toNat).cloveCount 0x02).recordFire c

theorem State.fireWith_eq (act : Clove → State → State) (c : Clove) (s : State) : s.fireWith act c = act c (s.firing c) := rfl

/-- Before the action: the clove is told to the partner, the FT of the count moves on, and nothing else but objects. -/
theorem State.firing_noted (c : Clove) (s : State) : ∃ n,
    Noted ((s.tellFired c.ref).modClv (fun v => { v with fireFt := c.fireFt.toNat, fireCount := n })) (s.firing c) := by
  obtain ⟨n, h⟩ := State.noteFire_noted c.fireFt.toNat (s.tellFired c.ref)
  exact ⟨n, (h.trans (State.cloveCount_noted _ _)).trans (State.recordFire_noted _ _)⟩

theorem State.fireWith_time (c : Clove) (s : State) : (s.fireWith State.cloveAct c).time = s.time := by
  obtain ⟨_, h⟩ := State.firing_noted c s
  exact (State.cloveAct_actionKept c _).time.trans h.time

theorem State.unschedule_noted (r : CloveRef) (s : State) :
    Noted (s.modClv (fun v => { v with schedule := v.schedule.filter (fun e => decide (e.clove.ref ≠ r)) })) (s.unschedule r) :=
  State.showOccupancy_noted _

theorem State.unschedule_time (r : CloveRef) (s : State) : (s.unschedule r).time = s.time := (State.unschedule_noted r s).time

end Sys2Proof.Machine
end

section
/-! PTP and PPS (R90, R91): what an announce, a sync and a loss leave of PTP, and the second edge of PPS. -/

namespace Sys2Proof.Machine

/-! ### What setting the epoch leaves of PTP (R96, R98) -/

theorem State.rejudge_time (s : State) : s.rejudge.time = s.time := by
  unfold State.rejudge
  refine State.each_preserves (P := fun t => t.time = s.time) _ rfl fun e t ht => ?_
  have hgone : (t.unschedule e.clove.ref).time = s.time := (State.unschedule_time _ t).trans ht
  dsimp only
  split
  · exact (State.raise_time _ _ _).trans ((State.fireWith_time _ _).trans ((State.cloveCount_noted _ _).time.trans hgone))
  · exact (State.raise_time _ _ _).trans ((State.cloveCount_noted _ _).time.trans hgone)

/-- An epoch correction (R98) judges the schedule again. -/
theorem State.epochCorrected_time (a : Args) (s : State) :
    (if s.time.acquired then ((s.inc K.timeEpochCorrections).raise Cause.ftEpochCorrected a).rejudge else s).time = s.time := by
  split
  · exact (State.rejudge_time _).trans ((State.raise_time _ _ _).trans (State.inc_time _ _))
  · rfl

theorem State.setEpoch_ptp (off : Int) (s : State) : (s.setEpoch off).time.ptp = s.time.ptp := by
  unfold State.setEpoch
  by_cases hnear : off.natAbs ≤ 500 * fine
  · rw [if_pos hnear]
  · rw [if_neg hnear]
    dsimp only
    refine (congrArg TimeSt.ptp (State.epochCorrected_time _ _)).trans ?_
    rfl

theorem State.showPtp_ptp (s : State) : s.showPtp.time.ptp =
    { s.time.ptp with port0 := s.ptpPortState 0, port1 := s.ptpPortState 1 } := rfl

/-! ### An announce and a loss (R90) -/

/-- The grandmaster of a port. -/
def PtpState.gm (p : PtpState) (port : Fin 2) : Option GmData := if port.val = 0 then p.gm0 else p.gm1

/-- A port's grandmaster is kept. -/
def State.setGm (port : Fin 2) (g : Option GmData) (s : State) : State :=
  s.modTime (fun t => { t with ptp := if port.val = 0 then { t.ptp with gm0 := g } else { t.ptp with gm1 := g } })

/-- The clock's port is selected no more. -/
def State.ptpUnselected (s : State) : Bool := s.time.ptp.locked && decide (s.ptpBest ≠ some s.time.ptp.port)

/-- Another selection unlocks; with none left the source has failed (R97). -/
def State.ptpReselect (s : State) : State :=
  if s.ptpUnselected then (if s.ptpBest.isSome then s.unlockPtp else outState (execTimeSourceFailed false s) s) else s

theorem State.ptpHear_eq (port : Fin 2) (g : Option GmData) (s : State) :
    s.ptpHear port g = (s.setGm port g).ptpReselect.showPtp := rfl

/-- A clock whose port is no longer selected is unlocked, and nothing else of PTP changes. -/
theorem State.ptpReselect_ptp (s : State) : s.ptpReselect.time.ptp =
    if s.ptpUnselected then { s.time.ptp with locked := false } else s.time.ptp := by
  unfold State.ptpReselect
  by_cases hlost : s.ptpUnselected = true
  · rw [if_pos hlost, if_pos hlost]
    split
    · rfl
    · rw [execTimeSourceFailed_ptp (by simp only [State.ptpUnselected, Bool.and_eq_true] at hlost; exact hlost.1)]
      show (if s.time.isMaster = true then s.unlockPtp.untraceable.chooseTime else s.unlockPtp).time.ptp = _
      split
      · rw [(State.chooseTime_treeKept _).ptp, State.untraceable_ptp]
        rfl
      · rfl
  · rw [if_neg hlost, if_neg hlost]

theorem State.setGm_gm (port : Fin 2) (g : Option GmData) (s : State) : (s.setGm port g).time.ptp.gm port = g := by
  simp only [State.setGm, State.modTime, PtpState.gm]
  split
  · rfl
  · rfl

theorem State.ptpHear_gm (port : Fin 2) (g : Option GmData) (s : State) : (s.ptpHear port g).time.ptp.gm port = g := by
  have hkept : (s.ptpHear port g).time.ptp.gm port = (s.setGm port g).time.ptp.gm port := by
    rw [State.ptpHear_eq, State.showPtp_ptp, State.ptpReselect_ptp]
    unfold PtpState.gm
    split <;> split <;> rfl
  rw [hkept, State.setGm_gm]

/-- A port without a grandmaster is not selected. -/
theorem State.ptpBest_of_no_gm {s : State} {port : Fin 2} (h : s.time.ptp.gm port = none) : s.ptpBest ≠ some port.val := by
  unfold State.ptpBest
  unfold PtpState.gm at h
  split at h
  · next hport =>
    rw [h, hport]
    dsimp only
    cases s.time.ptp.gm1.filter (fun _ => (s.getN K.ptpPTPPorts).testBit 1) <;> simp
  · next hport =>
    rw [h, show port.val = 1 by omega]
    dsimp only
    cases s.time.ptp.gm0.filter (fun _ => (s.getN K.ptpPTPPorts).testBit 0) <;> simp

theorem State.ptpHear_unlocks {s : State} {port : Fin 2} (hlocked : s.time.ptp.locked = true) (hport : s.time.ptp.port = port.val) :
    (s.ptpHear port none).time.ptp.locked = false := by
  have hkeeps : (s.setGm port none).time.ptp.locked = s.time.ptp.locked ∧ (s.setGm port none).time.ptp.port = s.time.ptp.port := by
    simp only [State.setGm, State.modTime]
    split <;> exact ⟨rfl, rfl⟩
  have hbest := State.ptpBest_of_no_gm (s.setGm_gm port none)
  have hlost : (s.setGm port none).ptpUnselected = true := by
    simp [State.ptpUnselected, hkeeps.1, hkeeps.2, hlocked, hport, hbest]
  rw [State.ptpHear_eq, State.showPtp_ptp, State.ptpReselect_ptp, if_pos hlost]

/-! ### PTP_MESSAGE (R90) -/

/-- What a sync of the selected port leaves before the clock disciplines the module. -/
def State.syncHeard (port : Fin 2) (off : Int) (s : State) : State :=
  s.modTime (fun t => { t with ptp := { t.ptp with locked := true, port := port.val, offset := off }, noOfferSince := s.now })

/-- The message is answered with the request of the selected mechanism. -/
def State.syncAnswered (port : Fin 2) (p2p : Bool) (off : Int) (s : State) : State :=
  ((s.syncHeard port off).showPtp).send (.ethernet port (if p2p then 2 else 1) [])

/-- The clock disciplines the module: its epoch as it gets its first time, the choice of master, the servo. -/
def State.disciplined (first : Bool) (off : Int) (s : State) : State :=
  let chosen := (s.when first (State.setEpoch off)).chooseTime
  chosen.when (chosen.time.isMaster && !chosen.ppsInUse) State.steer

theorem State.disciplined_ptp (first : Bool) (off : Int) (s : State) : (s.disciplined first off).time.ptp = s.time.ptp := by
  have hepoch : (s.when first (State.setEpoch off)).time.ptp = s.time.ptp :=
    State.when_preserves (P := fun t => t.time.ptp = s.time.ptp) first rfl fun _ => State.setEpoch_ptp off s
  have hchosen := (State.chooseTime_treeKept (s.when first (State.setEpoch off))).ptp.trans hepoch
  unfold State.disciplined
  exact State.when_preserves (P := fun t => t.time.ptp = s.time.ptp) _ hchosen fun h => h

theorem State.disciplined_keeps (first : Bool) (off : Int) (s : State) : Keeps s (s.disciplined first off) :=
  State.when_keeps _ _ _ (fun _ h => State.steer_keeps _ h)
    (State.chooseTime_keeps _ (State.when_keeps _ _ _ (fun _ h => State.setEpoch_keeps _ _ h) (.refl s)))

theorem exec_ptpSync {s : State} {port : Fin 2} {domain : Nat} {p2p : Bool} (hon : (s.getN K.ptpPTPPorts).testBit port.val = true)
    (hdomain : s.getN K.ptpPTPDomain = domain) (hbest : s.ptpBest = some port.val) (hp2p : p2p = s.ptpP2p)
    (origin arrival : Nat) (delay : Int) : ∃ first,
      exec (.ptpMessage port domain (.sync origin arrival delay p2p)) s = .next
        ((s.syncAnswered port p2p (arrival - (origin + delay))).disciplined first (arrival - (origin + delay))) := by
  have htaken : ¬ ((!(s.getN K.ptpPTPPorts).testBit port.val) = true ∨ s.getN K.ptpPTPDomain ≠ domain) := by simp [hon, hdomain]
  have hselected : ¬ (s.ptpBest ≠ some port.val ∨ p2p ≠ s.ptpP2p) := by simp [hbest, hp2p]
  exact ⟨_, (if_neg htaken).trans (if_neg hselected)⟩


section
variable {s : State} {port : Fin 2} {domain : Nat} (hon : (s.getN K.ptpPTPPorts).testBit port.val = true)
  (hdomain : s.getN K.ptpPTPDomain = domain)
include hon hdomain

theorem ptpAnnounce_does (utc : BitVec 16) (gm : GmData) : Does (.ptpMessage port domain (.announce utc gm)) s (fun t =>
    t.get K.timeUTCOffset = utc.toInt ∧ (if port.val = 0 then t.time.ptp.gm0 else t.time.ptp.gm1) = some gm) :=
  .of_next (if_neg (by simp [hon, hdomain])) ⟨State.get_put_same _ _ _, State.ptpHear_gm port (some gm) s⟩

theorem ptpSync_does {p2p : Bool} (hbest : s.ptpBest = some port.val) (hp2p : p2p = s.ptpP2p) (origin arrival : Nat) (delay : Int) :
    Does (.ptpMessage port domain (.sync origin arrival delay p2p)) s (fun t => t.time.ptp.locked = true ∧
      t.time.ptp.port = port.val ∧ OutMsg.ethernet port (if p2p then 2 else 1) [] ∈ t.outbox ∧
      t.time.ptp.offset = arrival - (origin + delay)) := by
  obtain ⟨first, hexec⟩ := exec_ptpSync hon hdomain hbest hp2p origin arrival delay
  have hptp := State.disciplined_ptp first (arrival - (origin + delay)) (s.syncAnswered port p2p (arrival - (origin + delay)))
  have hsent := (State.disciplined_keeps first (arrival - (origin + delay))
    (s.syncAnswered port p2p (arrival - (origin + delay)))).sent
  refine .of_next hexec ?_
  rw [hptp]
  exact ⟨rfl, rfl, hsent.subset List.mem_cons_self, rfl⟩

theorem ptpLost_does (hlocked : s.time.ptp.locked = true) (hport : s.time.ptp.port = port.val) :
    Does (.ptpMessage port domain .lost) s (fun t => t.time.ptp.locked = false) :=
  .of_next (if_neg (by simp [hon, hdomain])) (State.ptpHear_unlocks hlocked hport)

end

/-! ### PPS (R91) -/

/-- A second edge: the offset of the module's second, and since when it disagrees with PTP. -/
def State.ppsHeard (own : Int) (bad : Bool) (s : State) : State :=
  s.modTime (fun t => { t with ptp := { t.ptp with
    ppsPresent := true, ppsAt := s.now, ppsOffset := own, ppsBad := if bad then some (t.ptp.ppsBad.getD s.now) else none } })

theorem exec_ppsInEdge {s : State} (hsource : s.getB K.ptpPPSSource = true) (stamp : Nat) : ∃ own bad b,
    exec (.ppsInEdge stamp) s = .next ((s.ppsHeard own bad).chooseTime.when b State.steer) :=
  ⟨_, _, _, if_neg (by simp [hsource])⟩

theorem ppsInEdge_does {s : State} (hsource : s.getB K.ptpPPSSource = true) (stamp : Nat) :
    Does (.ppsInEdge stamp) s (fun t => t.time.ptp.ppsPresent = true ∧ t.time.ptp.ppsAt = s.now) := by
  obtain ⟨own, bad, b, hexec⟩ := exec_ppsInEdge hsource stamp
  have hptp : ((s.ppsHeard own bad).chooseTime.when b State.steer).time.ptp = (s.ppsHeard own bad).time.ptp :=
    State.when_preserves (P := fun t => t.time.ptp = (s.ppsHeard own bad).time.ptp) b (State.chooseTime_treeKept _).ptp fun h => h
  refine .of_next hexec ?_
  rw [hptp]
  exact ⟨rfl, rfl⟩

theorem ppsMismatch_does {s : State} {b : Nat} (hbad : s.time.ptp.ppsBad = some b) (hlate : b + 3000000000 ≤ s.now)
    (hdropped : s.time.ptp.ppsDropped = false) : Does .ppsMismatch s (fun t => t.time.ptp.ppsDropped = true) := by
  have hexec : exec .ppsMismatch s = .next
      ((s.modTime (fun t => { t with ptp := { t.ptp with ppsDropped := true } })).raise0 Cause.ppsMismatch).chooseTime := by
    show execPpsMismatch s = _
    unfold execPpsMismatch
    rw [hbad]
    exact if_pos ⟨hlate, by simp [hdropped]⟩
  refine .of_next hexec ?_
  rw [(State.chooseTime_treeKept _).ptp, State.raise0_time]
  rfl

/-- Settles O30: each clause is the lemma on its command above. -/
theorem ptpAndPpsDisciplineTheModule : Obligations.PtpAndPpsDisciplineTheModule := by
  intro s port domain utc origin arrival stamp b delay gm p2p
  exact ⟨fun hon hdomain => ⟨ptpAnnounce_does hon hdomain utc gm, fun hbest hp2p => ptpSync_does hon hdomain hbest hp2p origin arrival delay,
    ptpLost_does hon hdomain⟩, fun hsource => ppsInEdge_does hsource stamp, ppsMismatch_does⟩

end Sys2Proof.Machine
end

section
/-! A scheduled clove's turn (R107 to R109): those before it have fired, it leaves the schedule, it is told to the partner,
counted and recorded, and its action runs. -/

namespace Sys2Proof.Machine

/-- The clove a reference names is the last of the schedule up to it. -/
theorem upTo_of_find {r : CloveRef} {e : SchedClove} {l : List SchedClove}
    (h : l.find? (fun e => decide (e.clove.ref = r)) = some e) : upTo r l = (upTo r l).dropLast ++ [e] := by
  induction l with
  | nil => exact absurd h (by simp)
  | cons x l ih =>
    unfold upTo
    by_cases hx : x.clove.ref = r
    · rw [List.find?_cons_of_pos (by simpa using hx)] at h
      rw [if_pos hx, Option.some.inj h]
      rfl
    · rw [List.find?_cons_of_neg (by simpa using hx)] at h
      have hne : upTo r l ≠ [] := by rw [ih h]; simp
      rw [if_neg hx, List.dropLast_cons_of_ne_nil hne, List.cons_append, ← ih h]

theorem State.each_concat {α : Type} (l : List α) (a : α) (f : α → State → State) (s : State) :
    s.each (l ++ [a]) f = f a (s.each l f) := List.foldl_concat _ _ _ _

/-- The state in which the action of a scheduled clove runs. -/
def State.firesAt (r : CloveRef) (c : Clove) (s : State) : State := ((s.turnOf r).unschedule r).firing c

theorem State.fireScheduled_eq (e : SchedClove) (s : State) :
    s.fireScheduled e = State.cloveAct e.clove ((s.unschedule e.clove.ref).firing e.clove) := State.fireWith_eq _ _ _

theorem State.fires_ref {s : State} {r : CloveRef} {code : Nat} {c : Clove} (h : s.fires r code c) : c.ref = r := by
  obtain ⟨e, hfind, rfl, -⟩ := h
  exact of_decide_eq_true (List.find?_some (p := fun e : SchedClove => decide (e.clove.ref = r)) hfind)

theorem State.fireRef_of_fires {s : State} {r : CloveRef} {code : Nat} {c : Clove} (h : s.fires r code c) :
    s.fireRef code r = State.cloveAct c (s.firesAt r c) := by
  have href := State.fires_ref h
  obtain ⟨e, hfind, rfl, hdie, hcode, hdue⟩ := h
  unfold State.fireRef
  dsimp only
  rw [hfind]
  dsimp only
  rw [if_pos ⟨hcode, hdue, hdie⟩, upTo_of_find hfind, State.each_concat]
  rw [State.fireScheduled_eq, href]
  rfl

/-! ### What stands when the action runs -/

/-- Objects a firing clove writes before its action: the counts of cloves fired and scheduled. -/
def firingShown : List Nat := [K.cloveCloveCounters 1, K.cloveCloveCounters 12, K.cloveCloveCounters 13]

theorem State.get_showOccupancy_other {k : Nat} (s : State) (h : k ∉ firingShown) : s.showOccupancy.get k = s.get k := by
  simp only [firingShown, List.mem_cons, List.not_mem_nil, or_false, not_or] at h
  obtain ⟨-, hnow, hmost⟩ := h
  exact (State.get_putMax_other _ _ _ _ hmost).trans (State.get_put_other _ _ _ _ hnow)

theorem State.get_noteFire {k : Nat} (f : Nat) (s : State) (hk : noting k = false) : (s.noteFire f).get k = s.get k := by
  unfold State.noteFire
  exact State.when_preserves (P := fun u => u.get k = s.get k) _ rfl fun _ => State.get_raise _ _ _ _ hk

theorem State.get_recordFire {k : Nat} (c : Clove) (s : State) (hk : noting k = false) : (s.recordFire c).get k = s.get k := by
  unfold State.recordFire
  exact State.when_preserves (P := fun u => u.get k = s.get k) _ rfl fun _ => State.get_raise _ _ _ _ hk

theorem State.get_firing_other {k : Nat} (c : Clove) (s : State) (h : k ∉ firingShown) (hk : noting k = false) :
    (s.firing c).get k = s.get k := by
  simp only [firingShown, List.mem_cons, List.not_mem_nil, or_false, not_or] at h
  obtain ⟨hfired, -⟩ := h
  unfold State.firing State.cloveCount
  rw [State.get_recordFire _ _ hk, State.get_inc_other _ _ _ hfired, State.get_noteFire _ _ hk]
  rfl

/-- The clock, the power stage, the control card, the chain, the floor state, the loops and the rack are as they were. -/
structure TurnKept (s t : State) : Prop where
  time : t.time = s.time
  pow : t.pow = s.pow
  card : t.card = s.card
  chn : t.chn = s.chn
  soc : t.soc = s.soc
  saf : t.saf = s.saf
  rack : t.rack = s.rack

theorem TurnKept.trans {s t u : State} (h : TurnKept s t) (g : TurnKept t u) : TurnKept s u :=
  ⟨g.time.trans h.time, g.pow.trans h.pow, g.card.trans h.card, g.chn.trans h.chn, g.soc.trans h.soc, g.saf.trans h.saf,
    g.rack.trans h.rack⟩

theorem Noted.turnKept {s t : State} (h : Noted s t) : TurnKept s t := ⟨h.time, h.pow, h.card, h.chn, h.soc, h.saf, h.rack⟩

theorem State.modClv_turnKept (f : CloveState → CloveState) (s : State) : TurnKept s (s.modClv f) := by constructor <;> rfl

theorem State.tellFired_turnKept (r : CloveRef) (s : State) : TurnKept s (s.tellFired r) := by constructor <;> rfl

theorem State.firesAt_turnKept (r : CloveRef) (c : Clove) (s : State) : TurnKept (s.turnOf r) (s.firesAt r c) := by
  obtain ⟨_, hfiring⟩ := State.firing_noted c ((s.turnOf r).unschedule r)
  have hout := (State.modClv_turnKept _ (s.turnOf r)).trans (State.unschedule_noted r (s.turnOf r)).turnKept
  exact hout.trans ((State.tellFired_turnKept _ _).trans ((State.modClv_turnKept _ _).trans hfiring.turnKept))

theorem State.firing_schedule (c : Clove) (s : State) : (s.firing c).clv.schedule = s.clv.schedule := by
  obtain ⟨_, h⟩ := State.firing_noted c s
  rw [h.clv]
  rfl

theorem State.firing_fired (c : Clove) (s : State) : (s.firing c).pair.fired = s.pair.fired ++ [c.ref] := by
  obtain ⟨_, h⟩ := State.firing_noted c s
  rw [h.pair]
  rfl

theorem State.unschedule_schedule (r : CloveRef) (s : State) :
    (s.unschedule r).clv.schedule = s.clv.schedule.filter (fun e => decide (e.clove.ref ≠ r)) := by
  rw [(State.unschedule_noted r s).clv]
  rfl

theorem State.firesAt_gone {s : State} {r : CloveRef} {c : Clove} (href : c.ref = r) : gone r (s.firesAt r c) := by
  unfold gone State.firesAt
  rw [State.firing_schedule, State.unschedule_schedule, State.firing_fired, href]
  exact ⟨fun e he => of_decide_eq_true (List.mem_filter.1 he).2, List.mem_append_right _ List.mem_cons_self⟩

/-- The state in which the action of a clove runs, against the one before its turn. -/
structure AtItsTurn (u p : State) : Prop extends TurnKept u p where
  get : ∀ k, k ∉ firingShown → noting k = false → p.get k = u.get k

theorem State.firesAt_atItsTurn (r : CloveRef) (c : Clove) (s : State) : AtItsTurn (s.turnOf r) (s.firesAt r c) where
  toTurnKept := s.firesAt_turnKept r c
  get _ hshown hk := (State.get_firing_other c _ hshown hk).trans (State.get_showOccupancy_other _ hshown)

theorem ActionKept.gone {r : CloveRef} {s t : State} (h : ActionKept s t) (hs : gone r s) : gone r t := by
  unfold Machine.gone
  rw [h.clv, h.pair]
  exact hs

/-- A scheduled clove in its turn: the command leaves what its action leaves of the state of its turn. -/
theorem Does.of_fires {i : Instr} {s : State} {r : CloveRef} {code : Nat} {c : Clove} {P : State → Prop} (h : s.fires r code c)
    (hexec : exec i s = .next (s.fireRef code r))
    (hP : AtItsTurn (s.turnOf r) (s.firesAt r c) → P (State.cloveAct c (s.firesAt r c))) :
    Does i s (fun t => gone r t ∧ P t) :=
  .of_next (hexec.trans (congrArg Host.Outcome.next (State.fireRef_of_fires h)))
    ⟨(State.cloveAct_actionKept c _).gone (State.firesAt_gone (State.fires_ref h)), hP (s.firesAt_atItsTurn r c)⟩

theorem State.fires_code {s : State} {r : CloveRef} {code : Nat} {c : Clove} (h : s.fires r code c) : c.action.toNat = code := by
  obtain ⟨_, -, -, -, hcode, -⟩ := h
  exact hcode

section
variable {c : Clove} {s : State}

theorem State.cloveAct_setReg (h : c.action.toNat = 1) :
    s.cloveAct c = s.setReg (c.argA.setWidth 4).toFin (c.argB.setWidth 32) c := by simp only [State.cloveAct, h]

theorem State.cloveAct_rackCap (h : c.action.toNat = 2) : s.cloveAct c = s.capAt c.argA.toNat c.fireFt.toNat true := by
  simp only [State.cloveAct, h]

theorem State.cloveAct_groupCap (h : c.action.toNat = 3) : s.cloveAct c = s.fireGroupCap c := by simp only [State.cloveAct, h]

theorem State.cloveAct_stepMark (h : c.action.toNat = 4) : s.cloveAct c = s.activateMark c.ref := by
  simp only [State.cloveAct, h]

theorem State.cloveAct_sweepStart (h : c.action.toNat = 7) : s.cloveAct c = s.askSweep c.argA.toNat c.fireFt.toNat := by
  simp only [State.cloveAct, h]

theorem State.cloveAct_quietWindow (h : c.action.toNat = 8) : s.cloveAct c = s.openQuiet c.fireFt.toNat c.argA.toNat := by
  simp only [State.cloveAct, h]

end

/-! ### SET_REG (R159, R198) -/

/-- The clove's register, unless a later one has written it. -/
def State.regTaken (n : Fin 16) (v : BitVec 32) (c : Clove) (s : State) : State :=
  s.wakeBurst.when (s.regAfter n c) (fun s => { s with card := { s.card with
    cloveRegs := s.card.cloveRegs.set n v, regBy := s.card.regBy.set n (some c) } })

theorem State.setReg_eq (n : Fin 16) (v : BitVec 32) (c : Clove) (s : State) : s.setReg n v c =
    if n.val = 0 ∧ (s.regTaken n v c).standardStorage then
      if 760000 ≤ v.toInt ∧ v.toInt ≤ 840000 then (s.regTaken n v c).setTarget v.toInt c.fireFt.toNat true
      else ((s.regTaken n v c).inc K.loopRegister0Refusals).raise Cause.setpointRefused (args0 [(v.toNat, 4)])
    else s.regTaken n v c := rfl

theorem State.wakeBurst_card (s : State) : s.wakeBurst.card = s.card :=
  State.when_preserves (P := fun t => t.card = s.card) _ rfl fun h => h

theorem State.setTarget_card (mv : Int) (stamp : Nat) (clove : Bool) (s : State) : (s.setTarget mv stamp clove).card = s.card := by
  unfold State.setTarget
  exact (State.putB_noted _ _ _).card.trans ((State.inc_noted _ _).card.trans
    (State.when_preserves (P := fun t => t.card = s.card) _ rfl fun h => h))

theorem State.regTaken_cloveRegs (n : Fin 16) (v : BitVec 32) (c : Clove) (s : State) :
    (s.regTaken n v c).card.cloveRegs = if s.regAfter n c then s.card.cloveRegs.set n v else s.card.cloveRegs := by
  have hcard := s.wakeBurst_card
  unfold State.regTaken State.when
  split <;> simp [hcard]

theorem State.setReg_cloveRegs (n : Fin 16) (v : BitVec 32) (c : Clove) (s : State) :
    (s.setReg n v c).card.cloveRegs = if s.regAfter n c then s.card.cloveRegs.set n v else s.card.cloveRegs := by
  rw [← State.regTaken_cloveRegs, State.setReg_eq]
  split
  · split
    · rw [State.setTarget_card]
    · rw [State.raise_card, State.inc_card]
  · rfl

theorem State.regTaken_objs (n : Fin 16) (v : BitVec 32) (c : Clove) (s : State) : (s.regTaken n v c).objs = s.objs := by
  unfold State.regTaken State.wakeBurst
  exact State.when_preserves (P := fun t => t.objs = s.objs) _
    (State.when_preserves (P := fun t => t.objs = s.objs) _ rfl fun h => h) fun h => h

theorem State.regTaken_cores (n : Fin 16) (v : BitVec 32) (c : Clove) (s : State) : (s.regTaken n v c).card.cores = s.card.cores := by
  unfold State.regTaken
  exact State.when_preserves (P := fun t => t.card.cores = s.card.cores) _ (congrArg _ s.wakeBurst_card) fun h => h

theorem State.regTaken_targetStamp (n : Fin 16) (v : BitVec 32) (c : Clove) (s : State) :
    (s.regTaken n v c).pow.targetStamp = s.pow.targetStamp := by
  unfold State.regTaken State.wakeBurst
  exact State.when_preserves (P := fun t => t.pow.targetStamp = s.pow.targetStamp) _
    (State.when_preserves (P := fun t => t.pow.targetStamp = s.pow.targetStamp) _ rfl fun h => h) fun h => h

theorem State.standardStorage_congr {s t : State} (h : t.card.cores = s.card.cores) : t.standardStorage = s.standardStorage := by
  unfold State.standardStorage State.core
  rw [h]

/-- A clove prevails over what has its stamp or an earlier one (R128). -/
theorem clove_prevails (x y : Nat) (b : Bool) : (decide (x < y) || decide (x = y) && (true || !b)) = decide (x ≤ y) := by
  rw [Bool.true_or, Bool.and_true, ← Bool.decide_or, decide_eq_decide]
  omega

/-- A clove's target is in force unless a later one is (R128). -/
theorem State.setTarget_target (mv : Int) (stamp : Nat) (s : State) : (s.setTarget mv stamp true).get K.busVoltageTarget =
    if s.pow.targetStamp ≤ stamp then mv else s.get K.busVoltageTarget := by
  unfold State.setTarget State.showAtTarget
  dsimp only
  rw [State.get_putB_other _ _ _ _ (by decide), State.get_inc_other _ _ _ (by decide), clove_prevails]
  by_cases hafter : s.pow.targetStamp ≤ stamp
  · rw [if_pos hafter, decide_eq_true hafter]
    exact State.get_put_same _ _ _
  · rw [if_neg hafter, decide_eq_false hafter]
    rfl

section
variable {s : State} {r : CloveRef} {c : Clove}

theorem setReg_does (h : s.fires r 1 c) {n : Fin 16} {v : BitVec 32} (hn : (c.argA.setWidth 4).toFin = n)
    (hv : c.argB.setWidth 32 = v) : Does (.setReg r) s (fun t => gone r t ∧
      t.card.cloveRegs = (if (s.turnOf r).regAfter n c then (s.turnOf r).card.cloveRegs.set n v else (s.turnOf r).card.cloveRegs) ∧
      (n = 0 → (s.turnOf r).standardStorage = true → 760000 ≤ v.toInt → v.toInt ≤ 840000 → t.get K.busVoltageTarget =
        if (s.turnOf r).pow.targetStamp ≤ c.fireFt.toNat then v.toInt else (s.turnOf r).get K.busVoltageTarget) ∧
      (n = 0 → (s.turnOf r).standardStorage = true → v.toInt < 760000 ∨ 840000 < v.toInt →
        t.get K.busVoltageTarget = (s.turnOf r).get K.busVoltageTarget ∧ counts (s.turnOf r) t K.loopRegister0Refusals 1)) := by
  refine .of_fires h rfl fun hturn => ?_
  obtain ⟨⟨-, hpow, hcard, -, -, -, -⟩, hget⟩ := hturn
  have hafter : (s.firesAt r c).regAfter n c = (s.turnOf r).regAfter n c := by unfold State.regAfter; rw [hcard]
  have hstorage : ((s.firesAt r c).regTaken n v c).standardStorage = (s.turnOf r).standardStorage :=
    State.standardStorage_congr ((State.regTaken_cores _ _ _ _).trans (congrArg _ hcard))
  have hobjs : ∀ k, k ∉ firingShown → noting k = false → ((s.firesAt r c).regTaken n v c).get k = (s.turnOf r).get k :=
    fun k hs hk => (congrArg (Sparse.get Dict.default · k) (State.regTaken_objs _ _ _ _)).trans (hget k hs hk)
  have htarget := hobjs K.busVoltageTarget (by decide) (by decide)
  have hrefused := hobjs K.loopRegister0Refusals (by decide) (by decide)
  rw [State.cloveAct_setReg (State.fires_code h), hn, hv]
  refine ⟨?_, fun h0 hstd hlow hhigh => ?_, fun h0 hstd hout => ?_⟩
  · rw [State.setReg_cloveRegs, hafter, hcard]
  · rw [State.setReg_eq, if_pos ⟨congrArg Fin.val h0, hstorage.trans hstd⟩, if_pos ⟨hlow, hhigh⟩, State.setTarget_target,
      State.regTaken_targetStamp, hpow, htarget]
  · rw [State.setReg_eq, if_pos ⟨congrArg Fin.val h0, hstorage.trans hstd⟩, if_neg (by omega)]
    refine ⟨?_, ?_⟩
    · rw [State.get_raise _ _ _ _ (by decide), State.get_inc_other _ _ _ (by decide), htarget]
    · exact counts_of_get_eq (counts_from_get_eq (State.inc_counts _ _) hrefused) (State.get_raise _ _ _ K.loopRegister0Refusals (by decide))

/-! ### RACK_CAP (R128, R159) -/

theorem State.capAt_cap (watts stamp : Nat) (s : State) : (s.capAt watts stamp true).get K.rackRackCapInForce =
    if s.rack.capStamp ≤ stamp then (watts : Int) else s.get K.rackRackCapInForce := by
  unfold State.capAt
  dsimp only
  rw [clove_prevails]
  by_cases hafter : s.rack.capStamp ≤ stamp
  · rw [if_pos hafter, decide_eq_true hafter]
    exact State.get_put_same _ _ _
  · rw [if_neg hafter, decide_eq_false hafter]
    rfl

theorem rackCap_does (h : s.fires r 2 c) : Does (.rackCap r) s (fun t => gone r t ∧ t.get K.rackRackCapInForce =
    if (s.turnOf r).rack.capStamp ≤ c.fireFt.toNat then (c.argA.toNat : Int) else (s.turnOf r).get K.rackRackCapInForce) := by
  refine .of_fires h rfl fun hturn => ?_
  rw [State.cloveAct_rackCap (State.fires_code h), State.capAt_cap, hturn.rack, hturn.get _ (by decide) (by decide)]

/-! ### STEP_MARK (R233) -/

theorem stepMark_does (h : s.fires r 4 c) : Does (.stepMark r) s (fun t => gone r t ∧
    t.saf.marks.length = (s.turnOf r).saf.marks.length ∧ ∀ m ∈ t.saf.marks, m.isOf r = true → m.active = true) := by
  refine .of_fires h rfl fun hturn => ?_
  rw [State.cloveAct_stepMark (State.fires_code h), State.fires_ref h, ← hturn.saf]
  refine ⟨List.length_map _, fun m hm hof => ?_⟩
  obtain ⟨x, -, rfl⟩ := List.mem_map.1 hm
  split at hof
  · next hx => rw [if_pos hx]
  · next hx => exact absurd hof hx

/-! ### SWEEP_START (R280) -/

theorem tickUp_spec (t : Nat) : tickUp t % 1000 = 0 ∧ t ≤ tickUp t ∧ tickUp t < t + 1000 := by
  unfold tickUp
  omega

theorem State.leadOf_congr {s t : State} (kind : Nat) (h : ∀ k, k = K.chainPeriodicFilter ∨ k = K.chainSweepLead → t.get k = s.get k) :
    t.leadOf (t.kindFilter kind) = s.leadOf (s.kindFilter kind) := by
  unfold State.leadOf State.kindFilter State.getN
  rw [h _ (.inl rfl), h _ (.inr rfl)]

theorem sweepStart_does (h : s.fires r 7 c) : Does (.sweepStart r) s (fun t => gone r t ∧ ∃ x ∈ t.chn.sweeps, x.kind = c.argA.toNat ∧
    x.periodic = false ∧ x.sent = false ∧ x.sample % 1000 = 0 ∧
    c.fireFt.toNat + (s.turnOf r).leadOf ((s.turnOf r).kindFilter c.argA.toNat) ≤ x.sample ∧
    x.sample < c.fireFt.toNat + (s.turnOf r).leadOf ((s.turnOf r).kindFilter c.argA.toNat) + 1000) := by
  refine .of_fires h rfl fun hturn => ?_
  have hlead : (s.firesAt r c).leadOf ((s.firesAt r c).kindFilter c.argA.toNat) =
      (s.turnOf r).leadOf ((s.turnOf r).kindFilter c.argA.toNat) :=
    State.leadOf_congr _ fun k hk => hturn.get k (by rcases hk with rfl | rfl <;> decide) (by rcases hk with rfl | rfl <;> decide)
  rw [State.cloveAct_sweepStart (State.fires_code h), ← hlead]
  exact ⟨_, List.mem_append_right _ List.mem_cons_self, rfl, rfl, rfl, tickUp_spec _⟩

/-! ### QUIET_WINDOW (R308) -/

theorem State.getN_put_natCast (k n : Nat) (s : State) : (s.put k (n : Int)).getN k = n := by
  unfold State.getN
  rw [State.get_put_same, Int.toNat_natCast]

theorem State.getN_put_other {k j : Nat} {v : Int} {s : State} (h : j ≠ k) : (s.put k v).getN j = s.getN j :=
  congrArg Int.toNat (State.get_put_other _ _ _ _ h)

theorem State.getN_modSoc (f : SocState → SocState) (k : Nat) (s : State) : (s.modSoc f).getN k = s.getN k := rfl

theorem State.openQuiet_opens {s : State} (at_ d : Nat) (h : s.getN K.quietQuietRequest < 2) :
    (s.openQuiet at_ d).getN K.quietQuietRequest = 2 ∧ (s.openQuiet at_ d).soc.holdBegan = false ∧
      (s.openQuiet at_ d).getN K.quietWindowEnd = at_ + d * 1000000 := by
  have hclosed : ¬ (decide (2 ≤ s.getN K.quietQuietRequest) = true) := by simpa using h
  have heq : s.openQuiet at_ d = ((s.put K.quietWindowEnd ((at_ + d * ms : Nat) : Int)).put K.quietQuietRequest 2).modSoc
      (fun e => { e with holdBegan := false }) := by
    unfold State.openQuiet
    dsimp only
    rw [if_neg hclosed, if_neg hclosed]
  rw [heq, show (1000000 : Nat) = ms from rfl, State.getN_modSoc, State.getN_modSoc]
  exact ⟨State.getN_put_natCast K.quietQuietRequest 2 _, rfl,
    (State.getN_put_other (by decide)).trans (State.getN_put_natCast _ _ _)⟩

theorem State.openQuiet_extends {s : State} (at_ d : Nat) (h : 2 ≤ s.getN K.quietQuietRequest) :
    (s.openQuiet at_ d).getN K.quietQuietRequest = s.getN K.quietQuietRequest ∧
      (s.openQuiet at_ d).getN K.quietWindowEnd = max (s.getN K.quietWindowEnd) (at_ + d * 1000000) := by
  have hopen : decide (2 ≤ s.getN K.quietQuietRequest) = true := by simpa using h
  have heq : s.openQuiet at_ d = s.put K.quietWindowEnd ((max (s.getN K.quietWindowEnd) (at_ + d * ms) : Nat) : Int) := by
    unfold State.openQuiet
    dsimp only
    rw [if_pos hopen, if_pos hopen]
  rw [heq, show (1000000 : Nat) = ms from rfl]
  exact ⟨State.getN_put_other (by decide), State.getN_put_natCast _ _ _⟩

theorem quietWindow_does (h : s.fires r 8 c) : Does (.quietWindow r) s (fun t => gone r t ∧
    ((s.turnOf r).getN K.quietQuietRequest < 2 → t.getN K.quietQuietRequest = 2 ∧ t.soc.holdBegan = false ∧
      t.getN K.quietWindowEnd = c.fireFt.toNat + c.argA.toNat * 1000000) ∧
    (2 ≤ (s.turnOf r).getN K.quietQuietRequest → t.getN K.quietQuietRequest = (s.turnOf r).getN K.quietQuietRequest ∧
      t.getN K.quietWindowEnd = max ((s.turnOf r).getN K.quietWindowEnd) (c.fireFt.toNat + c.argA.toNat * 1000000))) := by
  refine .of_fires h rfl fun hturn => ?_
  have hrequest : (s.firesAt r c).getN K.quietQuietRequest = (s.turnOf r).getN K.quietQuietRequest :=
    congrArg Int.toNat (hturn.get _ (by decide) (by decide))
  have hend : (s.firesAt r c).getN K.quietWindowEnd = (s.turnOf r).getN K.quietWindowEnd :=
    congrArg Int.toNat (hturn.get _ (by decide) (by decide))
  rw [State.cloveAct_quietWindow (State.fires_code h), ← hrequest, ← hend]
  exact ⟨State.openQuiet_opens _ _, State.openQuiet_extends _ _⟩

/-! ### GROUP_CAP (R331) -/

/-- The levels a group has heard, once a shelf sets its level or releases it (0xFFFF). -/
def GroupSt.hear (shelf level now : Nat) (x : GroupSt) : GroupSt :=
  let rest := x.remote.filter (fun e => decide (e.shelf ≠ shelf))
  { x with remote := if level = 0xFFFF then rest else { shelf := shelf, level := level, at_ := now } :: rest }

theorem GroupSt.mem_hear {shelf level now : Nat} (x : GroupSt) (h : level ≠ 0xFFFF) :
    ({ shelf := shelf, level := level, at_ := now } : RemoteLevel) ∈ (x.hear shelf level now).remote := by
  unfold GroupSt.hear
  dsimp only
  rw [if_neg h]
  exact List.mem_cons_self

theorem GroupSt.hear_level {shelf level now : Nat} {x : GroupSt} {e : RemoteLevel} (h : e ∈ (x.hear shelf level now).remote)
    (hshelf : e.shelf = shelf) : level ≠ 0xFFFF ∧ e.level = level := by
  have hrest : ¬ e ∈ x.remote.filter (fun e => decide (e.shelf ≠ shelf)) := fun hmem => of_decide_eq_true (List.mem_filter.1 hmem).2 hshelf
  unfold GroupSt.hear at h
  dsimp only at h
  split at h
  · exact absurd h hrest
  · next hlevel =>
    rcases List.mem_cons.1 h with rfl | hmem
    · exact ⟨hlevel, rfl⟩
    · exact absurd hmem hrest

/-- A group hears of a level and shows it. -/
def State.hearCap (shelf level : Nat) (g : Fin 64) (s : State) : State := (s.modGroup g (GroupSt.hear shelf level s.now)).showRemote g

theorem State.fireGroupCap_eq (c : Clove) (s : State) : s.fireGroupCap c =
    s.each (allGroups.filter (fun g : Fin 64 => decide (c.argA.toNat % 65536 ≠ 0) && decide (s.getN (K.groupCampusGroupId g) = c.argA.toNat % 65536)))
      (State.hearCap c.shelf (c.argB.toNat % 65536)) := rfl

theorem State.hearCap_group (shelf level : Nat) (g m : Fin 64) (s : State) : (s.hearCap shelf level m).group g =
    if g = m then (s.group g).hear shelf level s.now else s.group g := by
  unfold State.hearCap State.group
  show (s.rack.groups.set m (GroupSt.hear shelf level s.now s.rack.groups[m]))[g] = _
  split
  · next h =>
    subst h
    exact Vector.getElem_set_self _
  · next h => exact Vector.getElem_set_ne _ _ fun e => h (Fin.ext e.symm)

theorem State.each_hearCap_group (shelf level : Nat) (g : Fin 64) (l : List (Fin 64)) (hl : l.Nodup) (s : State) :
    (s.each l (State.hearCap shelf level)).group g = if g ∈ l then (s.group g).hear shelf level s.now else s.group g := by
  induction l generalizing s with
  | nil => rfl
  | cons m l ih =>
    obtain ⟨hm, hl⟩ := List.nodup_cons.1 hl
    have hrest := (ih hl (s.hearCap shelf level m)).trans (by rw [State.hearCap_group])
    have hnow : (s.hearCap shelf level m).now = s.now := rfl
    rw [hnow] at hrest
    refine Eq.trans hrest ?_
    by_cases hg : g = m
    · subst hg
      rw [if_neg hm, if_pos rfl, if_pos List.mem_cons_self]
    · simp only [hg, if_false, List.mem_cons, false_or]

theorem groupCap_does (h : s.fires r 3 c) : Does (.groupCap r) s (fun t => gone r t ∧ ∀ g : Fin 64,
    let level := c.argB.toNat % 65536
    ((s.turnOf r).getN (K.groupCampusGroupId g) ≠ c.argA.toNat % 65536 ∨ c.argA.toNat % 65536 = 0 → t.group g = (s.turnOf r).group g) ∧
    ((s.turnOf r).getN (K.groupCampusGroupId g) = c.argA.toNat % 65536 → c.argA.toNat % 65536 ≠ 0 →
      (level ≠ 0xFFFF → ({ shelf := c.shelf, level := level, at_ := (s.turnOf r).now } : RemoteLevel) ∈ (t.group g).remote) ∧
      (∀ x ∈ (t.group g).remote, x.shelf = c.shelf → level ≠ 0xFFFF ∧ x.level = level))) := by
  refine .of_fires h rfl fun hturn g => ?_
  have hid : (s.firesAt r c).getN (K.groupCampusGroupId g) = (s.turnOf r).getN (K.groupCampusGroupId g) :=
    congrArg Int.toNat (hturn.get _ (by revert g; decide) (by revert g; decide))
  have hgroup : (s.firesAt r c).group g = (s.turnOf r).group g := congrArg (fun x : RackState => x.groups[g]) hturn.rack
  have hnow : (s.firesAt r c).now = (s.turnOf r).now := congrArg TimeSt.tb hturn.time
  have hmem : g ∈ allGroups.filter (fun g : Fin 64 => decide (c.argA.toNat % 65536 ≠ 0) &&
      decide ((s.firesAt r c).getN (K.groupCampusGroupId g) = c.argA.toNat % 65536)) ↔
      c.argA.toNat % 65536 ≠ 0 ∧ (s.turnOf r).getN (K.groupCampusGroupId g) = c.argA.toNat % 65536 := by
    rw [← hid]
    simp [allGroups]
  have hnodup := List.Nodup.filter (fun g : Fin 64 => decide (c.argA.toNat % 65536 ≠ 0) &&
    decide ((s.firesAt r c).getN (K.groupCampusGroupId g) = c.argA.toNat % 65536)) (show allGroups.Nodup from List.nodup_finRange 64)
  have hcap : (State.cloveAct c (s.firesAt r c)).group g =
      if c.argA.toNat % 65536 ≠ 0 ∧ (s.turnOf r).getN (K.groupCampusGroupId g) = c.argA.toNat % 65536 then
        ((s.turnOf r).group g).hear c.shelf (c.argB.toNat % 65536) (s.turnOf r).now else (s.turnOf r).group g := by
    rw [State.cloveAct_groupCap (State.fires_code h), State.fireGroupCap_eq, State.each_hearCap_group _ _ _ _ hnodup, hgroup, hnow]
    exact if_congr hmem rfl rfl
  refine ⟨fun hother => ?_, fun hmine hnonzero => ?_⟩
  · rw [hcap, if_neg (by tauto)]
  · rw [hcap, if_pos ⟨hnonzero, hmine⟩]
    exact ⟨GroupSt.mem_hear _, fun x hx => GroupSt.hear_level hx⟩

end

/-- Settles O26: each clause is the lemma on its command above. -/
theorem clovesActWhenTheyFire : Obligations.ClovesActWhenTheyFire := by
  intro s r c
  exact ⟨fun h => setReg_does h rfl rfl, rackCap_does, groupCap_does, stepMark_does, sweepStart_does, quietWindow_does⟩

end Sys2Proof.Machine
end

section
/-! The tests of R106 in their order: the verdict each finds, and what CLOVE_RECEIVE leaves of the clove service for it. -/

namespace Sys2Proof.Machine

/-! ### What the queues leave (R393 to R403) -/

/-- The clove service is as it was, and every object before the queues (0x8200) that no cause writes. -/
structure QueueKept (s t : State) : Prop where
  clv : t.clv = s.clv
  get : ∀ k, k < 0x820000 → noting k = false → t.get k = s.get k

theorem QueueKept.rfl {s : State} : QueueKept s s := ⟨by rfl, fun _ _ _ => by rfl⟩

theorem QueueKept.trans {s t u : State} (h : QueueKept s t) (g : QueueKept t u) : QueueKept s u :=
  ⟨g.clv.trans h.clv, fun k hk hn => (g.get k hk hn).trans (h.get k hk hn)⟩

theorem QueueKept.when {s t : State} {b : Bool} {f : State → State} (h : QueueKept s t) (hf : QueueKept t (f t)) :
    QueueKept s (t.when b f) :=
  State.when_preserves b h fun h => h.trans hf

theorem QueueKept.each {α : Type} {s t : State} {l : List α} {f : α → State → State} (h : QueueKept s t)
    (hf : ∀ a u, QueueKept u (f a u)) : QueueKept s (t.each l f) :=
  State.each_preserves l h fun a u hu => hu.trans (hf a u)

theorem QueueKept.ite {s t u : State} {c : Prop} [Decidable c] (ht : QueueKept s t) (hu : QueueKept s u) :
    QueueKept s (if c then t else u) :=
  iteInduction (motive := QueueKept s) (fun _ => ht) (fun _ => hu)

/-- An operation that leaves the clove service and the objects alone. -/
theorem QueueKept.of_objs {s t : State} (hclv : t.clv = s.clv) (hobjs : t.objs = s.objs) : QueueKept s t :=
  ⟨hclv, fun k _ _ => congrArg (Sparse.get Dict.default · k) hobjs⟩

theorem State.setQueue_queueKept (x : Queue) (s : State) : QueueKept s (s.setQueue x) := .of_objs (by rfl) (by rfl)

theorem State.setQue_queueKept (x : QueueState) (s : State) : QueueKept s { s with que := x } := .of_objs (by rfl) (by rfl)

theorem State.send_queueKept (m : OutMsg) (s : State) : QueueKept s (s.send m) := .of_objs (by rfl) (by rfl)

theorem State.driveXoff_queueKept (s : State) : QueueKept s s.driveXoff := .of_objs (by rfl) (by rfl)

theorem State.useFree_queueKept (s : State) : QueueKept s s.useFree := .of_objs (by rfl) (by rfl)

theorem State.putBytes_queueKept (k : Nat) (v : List Byte) (s : State) : QueueKept s (s.putBytes k v) := .of_objs (by rfl) (by rfl)

theorem State.raise_queueKept (c : Nat) (a : Args) (s : State) : QueueKept s (s.raise c a) :=
  ⟨State.raise_clv _ _ _, fun _ _ hn => State.get_raise _ _ _ _ hn⟩

section
variable {j : Nat} (hj : 0x820000 ≤ j)
include hj

theorem State.inc_queueKept (s : State) : QueueKept s (s.inc j) :=
  ⟨State.inc_clv _ _, fun k hk _ => State.get_inc_other _ _ _ (by omega)⟩

theorem State.inc64_queueKept (s : State) : QueueKept s (s.inc64 j) :=
  ⟨State.inc64_clv _ _, fun k hk _ => State.get_countBy_other _ _ _ _ _ (by omega)⟩

theorem State.putMax_queueKept (v : Int) (s : State) : QueueKept s (s.putMax j v) :=
  ⟨State.putMax_clv _ _ _, fun k hk _ => State.get_putMax_other _ _ _ _ (by omega)⟩

end

theorem State.incHalf_queueKept (k : Nat) (second : Bool) (s : State) : QueueKept s (s.incHalf k second) := by
  unfold State.incHalf
  exact .trans (.ite (State.useFree_queueKept s) .rfl) (State.putBytes_queueKept _ _ _)

theorem State.sendPfc_queueKept (q quanta : Nat) (s : State) : QueueKept s (s.sendPfc q quanta) := by
  unfold State.sendPfc
  split
  · exact .ite ((State.incHalf_queueKept _ _ _).trans (State.send_queueKept _ _)) .rfl
  · exact .rfl

theorem State.poolCheck_queueKept (s : State) : QueueKept s s.poolCheck := by
  unfold State.poolCheck
  exact .ite ((State.setQue_queueKept _ _).trans (State.raise_queueKept _ _ _))
    (.ite ((State.setQue_queueKept _ _).trans (State.raise_queueKept _ _ _)) .rfl)

theorem State.watermark_queueKept (q : Nat) (s : State) : QueueKept s (s.watermark q) := by
  have hmark := State.putMax_queueKept (j := K.queueOccupancyHighMark q) (by simp only [K.queueOccupancyHighMark]; omega)
    (s.queue q).occ s
  unfold State.watermark
  dsimp only
  refine .trans (.trans hmark ?_) ((State.poolCheck_queueKept _).trans (State.driveXoff_queueKept _))
  refine .ite ?_ (.ite ?_ .rfl)
  · exact (((State.setQueue_queueKept _ _).trans (State.inc_queueKept (by simp only [K.queueHighEpisodes]; omega) _)).trans
      (State.raise_queueKept _ _ _)).trans (State.sendPfc_queueKept _ _ _)
  · exact ((State.setQueue_queueKept _ _).trans (State.raise_queueKept _ _ _)).trans (State.sendPfc_queueKept _ _ _)

theorem State.dropItem_queueKept (q : Nat) (s : State) : QueueKept s (s.dropItem q) := by
  have hcount := State.inc_queueKept (j := K.queueItemsDropped q) (by simp only [K.queueItemsDropped]; omega) s
  unfold State.dropItem
  exact .ite (hcount.trans ((State.setQueue_queueKept _ _).trans (State.raise_queueKept _ _ _))) hcount

theorem State.deliver_queueKept (q : Nat) (i : QItem) (s : State) : QueueKept s (s.deliver q i) := by
  have hpoison := QueueKept.rfl.when (s := s) (b := i.poison && dropsPoison q)
    (State.inc_queueKept (j := K.queuePoisonedItems q) (by simp only [K.queuePoisonedItems]; omega) s)
  unfold State.deliver
  exact ((hpoison.trans (State.setQueue_queueKept _ _)).trans (State.send_queueKept _ _)).trans (State.watermark_queueKept _ _)

theorem State.wakeRead_queueKept (q : Nat) (s : State) : QueueKept s (s.wakeRead q) := by
  unfold State.wakeRead
  refine .ite ?_ .rfl
  split
  · exact State.deliver_queueKept _ _ _
  · exact .rfl

theorem State.abandonTo_queueKept (q : Nat) (i : QItem) (s : State) : QueueKept s (s.abandonTo q i) :=
  QueueKept.rfl.when (State.send_queueKept _ _)

theorem State.itemGrown_queueKept (q : Nat) (i : QItem) (s : State) : QueueKept s (s.itemGrown q i) := by
  have hwhole := QueueKept.rfl.when (s := s) (b := i.complete)
    (State.inc64_queueKept (j := K.queueItemsWritten q) (by simp only [K.queueItemsWritten]; omega) s)
  unfold State.itemGrown
  have hmarked := hwhole.trans (State.watermark_queueKept q _)
  exact .ite (hmarked.trans (State.deliver_queueKept _ _ _)) (hmarked.trans (State.wakeRead_queueKept _ _))

theorem State.putItem_queueKept (q had : Nat) (i : QItem) (place : QItem → List QItem) (rest : List QItem) (s : State) :
    QueueKept s (s.putItem q had i place rest) := by
  unfold State.putItem
  dsimp only
  split
  · exact (State.setQueue_queueKept _ _).trans (State.itemGrown_queueKept _ _ _)
  · exact ((State.setQueue_queueKept _ _).trans (State.dropItem_queueKept _ _)).trans
      ((State.abandonTo_queueKept _ _ _).trans (State.watermark_queueKept _ _))

theorem State.enqueue_queueKept (q prio stamp : Nat) (bytes : List Byte) (s : State) :
    QueueKept s (s.enqueue q prio stamp bytes) := by
  unfold State.enqueue State.addItem
  exact (State.setQue_queueKept _ s).trans (State.putItem_queueKept _ _ _ _ _ _)

/-- A flit this module originates on its pair links. -/
theorem State.pairFlit_queueKept (f : List Byte) (s : State) : QueueKept s (s.pairFlit f) := by
  unfold State.pairFlit
  exact .each .rfl fun n u => State.enqueue_queueKept _ _ _ _ u

/-! ### The verdicts (R106) -/

/-- The tests after the duplicate: time, arguments, fire FT, room. -/
def State.cloveFit (s : State) (c : Clove) (a : Nat) : CloveVerdict :=
  let f := c.fireFt.toNat
  if s.time.mode ≠ .locked ∧ s.time.mode ≠ .holdover then .refuse Cause.cloveTimeInvalid 0x09 true
  else if c.argsReserved then .refuse Cause.cloveActionUnknown 0x0C true
  else if f < a + 200 then
    if a ≤ f + s.getN K.cloveLateLimit ∧ c.firesLate then .late else .refuse Cause.cloveLate 0x05 true
  else if c.action.toNat = 9 then .cancel
  else if s.getN K.cloveHorizon * ms < f - a then .refuse Cause.cloveBeyondHorizon 0x06 true
  else if 65536 ≤ s.cloveOccupancy then .refuse Cause.cloveScheduleFull 0x0A true
  else .place

section
variable {s : State} {c : Clove} {a : Nat}

theorem State.cloveTest_of_elsewhere (haddr : s.addressed c = false) (hown : s.ownLedger c = false) : s.cloveTest c a = .forward :=
  if_pos (by simp [haddr, hown])

theorem State.cloveTest_of_here (haddr : s.addressed c = true) : s.cloveTest c a =
    if c.version.toNat / 16 ≠ 1 then .refuse Cause.cloveVersion 0x0C false
    else match s.clv.keys[c.key] with
      | none => .refuse Cause.cloveKeyUnknown 0x0F false
      | some key => if c.tag ≠ c.tagFor key then .refuse Cause.cloveTagBad 0x08 false
        else if s.duplicate c then .duplicate else s.cloveFit c a :=
  (if_neg (by simp [haddr])).trans (by rfl)

theorem State.cloveTest_of_version (haddr : s.addressed c = true) (hver : c.version.toNat / 16 ≠ 1) :
    s.cloveTest c a = .refuse Cause.cloveVersion 0x0C false := by
  rw [State.cloveTest_of_here haddr, if_pos hver]

theorem State.cloveTest_of_no_key (haddr : s.addressed c = true) (hver : c.version.toNat / 16 = 1) (hkey : s.clv.keys[c.key] = none) :
    s.cloveTest c a = .refuse Cause.cloveKeyUnknown 0x0F false := by
  rw [State.cloveTest_of_here haddr, if_neg (not_not_intro hver), hkey]

theorem State.cloveTest_of_key (haddr : s.addressed c = true) (hver : c.version.toNat / 16 = 1) {key : List Byte}
    (hkey : s.clv.keys[c.key] = some key) : s.cloveTest c a =
      if c.tag ≠ c.tagFor key then .refuse Cause.cloveTagBad 0x08 false
      else if s.duplicate c then .duplicate else s.cloveFit c a := by
  rw [State.cloveTest_of_here haddr, if_neg (not_not_intro hver), hkey]

theorem State.cloveFit_of_untimed (h : ¬ (s.time.mode = .locked ∨ s.time.mode = .holdover)) :
    s.cloveFit c a = .refuse Cause.cloveTimeInvalid 0x09 true := if_pos (not_or.1 h)

section
variable (htimed : s.time.mode = .locked ∨ s.time.mode = .holdover)
include htimed

theorem State.cloveFit_of_reserved (hargs : c.argsReserved = true) : s.cloveFit c a = .refuse Cause.cloveActionUnknown 0x0C true := by
  unfold State.cloveFit
  dsimp only
  rw [if_neg (fun h => not_or.2 h htimed), if_pos hargs]

variable (hargs : c.argsReserved = false)
include hargs

theorem State.cloveFit_of_late (hlate : c.fireFt.toNat < a + 200)
    (hact : c.firesLate = false ∨ c.fireFt.toNat + s.getN K.cloveLateLimit < a) :
    s.cloveFit c a = .refuse Cause.cloveLate 0x05 true := by
  have hnot : ¬ (a ≤ c.fireFt.toNat + s.getN K.cloveLateLimit ∧ c.firesLate = true) := by
    rintro ⟨hin, hfires⟩
    rcases hact with h | h
    · exact Bool.false_ne_true (h.symm.trans hfires)
    · omega
  unfold State.cloveFit
  dsimp only
  rw [if_neg (fun h => not_or.2 h htimed), if_neg (by simp [hargs]), if_pos hlate, if_neg hnot]

/-- A clove in time that is no CANCEL is judged by its fire FT and the room left. -/
theorem State.cloveFit_of_ahead (hahead : a + 200 ≤ c.fireFt.toNat) (hact : c.action.toNat ≠ 9) : s.cloveFit c a =
    if s.getN K.cloveHorizon * ms < c.fireFt.toNat - a then .refuse Cause.cloveBeyondHorizon 0x06 true
    else if 65536 ≤ s.cloveOccupancy then .refuse Cause.cloveScheduleFull 0x0A true else .place := by
  unfold State.cloveFit
  dsimp only
  rw [if_neg (fun h => not_or.2 h htimed), if_neg (by simp [hargs]), if_neg (Nat.not_lt.2 hahead), if_neg hact]

end

/-! ### CLOVE_RECEIVE of a clove that is turned away -/

theorem exec_cloveReceive (s : State) (c : Clove) (a : Nat) : exec (.cloveReceive c a) s = .next (s.cloveArrive State.cloveAct c a) := rfl

theorem cloveReceive_forwards (haddr : s.addressed c = false) (hown : s.ownLedger c = false) :
    exec (.cloveReceive c a) s = .next s := by
  rw [exec_cloveReceive]
  unfold State.cloveArrive
  rw [State.cloveTest_of_elsewhere haddr hown]

/-- The counters of cloves are no objects that a cause writes. -/
theorem noting_cloveCounter {i : Nat} (h : i < 16) : noting (K.cloveCloveCounters i) = false := by
  simp only [noting, K.sessEventsLost, K.recStagingHighMark, K.recCausesNotStaged, K.trigMatches, K.cloveCloveCounters,
    Bool.or_eq_false_iff, decide_eq_false_iff_not, List.any_eq_false, List.mem_range, decide_eq_true_eq]
  exact ⟨⟨⟨by omega, by omega⟩, by omega⟩, fun i hi => by omega⟩

theorem State.markSeen_objs (c : Clove) (s : State) : (s.markSeen c).objs = s.objs := by
  unfold State.markSeen
  split <;> rfl

/-- The refusal of R106: marked seen or not, counted, told, and for some causes copied to the partner (R101). -/
def State.refuseClove (cause sub : Nat) (seen : Bool) (c : Clove) (s : State) : State :=
  let told := ((s.when seen (State.markSeen c)).cloveCount sub).raise cause (cloveArgs c)
  told.when ([Cause.cloveKeyUnknown, Cause.cloveLate, Cause.cloveTimeInvalid, Cause.cloveBeyondHorizon].contains cause) (fun t =>
    t.when (decide (c.dest.toNat / 16384 = 1)) (State.pairFlit (mkFlit flitClove 0 t.sourceNode 1 c.bytes)))

theorem State.cloveArrive_of_refuse {cause sub : Nat} {seen : Bool} (h : s.cloveTest c a = .refuse cause sub seen) :
    s.cloveArrive State.cloveAct c a = s.refuseClove cause sub seen c := by
  unfold State.cloveArrive
  rw [h]
  rfl

theorem cloveReceive_refuses {cause sub : Nat} {seen : Bool} (h : s.cloveTest c a = .refuse cause sub seen) (hsub : sub ≤ 16) :
    Does (.cloveReceive c a) s (fun t => t.clv = (s.when seen (State.markSeen c)).clv ∧
      counts s t (K.cloveCloveCounters (sub - 1)) 1) := by
  have hplain := noting_cloveCounter (i := sub - 1) (by omega)
  have hmarked : (s.when seen (State.markSeen c)).get (K.cloveCloveCounters (sub - 1)) = s.get (K.cloveCloveCounters (sub - 1)) :=
    State.when_preserves (P := fun t => t.get (K.cloveCloveCounters (sub - 1)) = s.get (K.cloveCloveCounters (sub - 1))) seen rfl
      fun _ => congrArg (Sparse.get Dict.default · _) (State.markSeen_objs c s)
  have hcopied : QueueKept (((s.when seen (State.markSeen c)).cloveCount sub).raise cause (cloveArgs c)) (s.refuseClove cause sub seen c) := by
    unfold State.refuseClove
    exact .when .rfl (.when .rfl (State.pairFlit_queueKept _ _))
  refine .of_next (congrArg Host.Outcome.next (State.cloveArrive_of_refuse h)) ⟨?_, ?_⟩
  · rw [hcopied.clv, State.raise_clv, (State.cloveCount_noted _ _).clv]
  · refine counts_of_get_eq (counts_from_get_eq (State.inc_counts _ _) hmarked) ?_
    rw [hcopied.get _ (by simp only [K.cloveCloveCounters]; omega) hplain, State.get_raise _ _ _ _ hplain]
    rfl

theorem cloveReceive_refuses_unseen {cause sub : Nat} (h : s.cloveTest c a = .refuse cause sub false) (hsub : sub ≤ 16) :
    Does (.cloveReceive c a) s (fun t => t.clv = s.clv ∧ counts s t (K.cloveCloveCounters (sub - 1)) 1) :=
  cloveReceive_refuses h hsub

theorem cloveReceive_refuses_seen {cause sub : Nat} (h : s.cloveTest c a = .refuse cause sub true) (hsub : sub ≤ 16) :
    Does (.cloveReceive c a) s (fun t => t.clv = (s.markSeen c).clv ∧ counts s t (K.cloveCloveCounters (sub - 1)) 1) :=
  cloveReceive_refuses h hsub

theorem cloveReceive_duplicate (h : s.cloveTest c a = .duplicate) : Does (.cloveReceive c a) s (fun t =>
    (t.clv = s.clv ∧ counts s t (K.cloveCloveCounters (7 - 1)) 1) ∧ t.que = s.que ∧ t.rcd = s.rcd ∧ t.host = s.host) := by
  have hexec : exec (.cloveReceive c a) s = .next (s.inc (K.cloveCloveCounters (7 - 1))) := by
    rw [exec_cloveReceive]
    unfold State.cloveArrive
    rw [h]
    rfl
  exact .of_next hexec ⟨⟨State.inc_clv _ _, State.inc_counts _ _⟩, State.inc_que _ _, State.inc_rcd _ _, State.inc_host _ _⟩

end

/-- Settles O24: each clause is the verdict of its test, and what CLOVE_RECEIVE leaves for it. -/
theorem clovesAreTestedInTheOrderOfR106 : Obligations.ClovesAreTestedInTheOrderOfR106 := by
  intro s c a n refused seen timed
  refine ⟨cloveReceive_forwards, fun haddr => ⟨fun hver => cloveReceive_refuses_unseen (State.cloveTest_of_version haddr hver) (by decide),
    fun hver hkey => cloveReceive_refuses_unseen (State.cloveTest_of_no_key haddr hver hkey) (by decide), fun key hver hkey => ?_⟩⟩
  have hjudged := State.cloveTest_of_key (a := a) haddr hver hkey
  refine ⟨fun htag => ?_, fun htag hdup => ?_, fun htag hnew => ?_⟩
  · rw [if_pos htag] at hjudged
    exact cloveReceive_refuses_unseen hjudged (by decide)
  · rw [if_neg (not_not_intro htag), if_pos hdup] at hjudged
    exact cloveReceive_duplicate hjudged
  · rw [if_neg (not_not_intro htag), if_neg (by simp [hnew])] at hjudged
    have hrefuses : ∀ {cause sub : Nat}, s.cloveFit c a = .refuse cause sub true → sub ≤ 16 →
        Does (.cloveReceive c a) s (seen sub) := fun hfit => cloveReceive_refuses_seen (hjudged.trans hfit)
    refine ⟨fun htimed => ?_, fun htimed hargs => ?_, fun htimed hargs hlate hact => ?_, fun htimed hargs hahead hact => ⟨fun hfar => ?_,
      fun hnear hfull => ?_⟩⟩
    · exact hrefuses (State.cloveFit_of_untimed htimed) (by decide)
    · exact hrefuses (State.cloveFit_of_reserved htimed hargs) (by decide)
    · exact hrefuses (State.cloveFit_of_late htimed hargs hlate hact) (by decide)
    · exact hrefuses ((State.cloveFit_of_ahead htimed hargs hahead hact).trans (if_pos hfar)) (by decide)
    · exact hrefuses ((State.cloveFit_of_ahead htimed hargs hahead hact).trans
        ((if_neg (Nat.not_lt.2 hnear)).trans (if_pos hfull))) (by decide)

end Sys2Proof.Machine
end

section
/-! How the power stage reads after each update (spec/05): a phase unit, a converter, a sense channel, an object. -/

namespace Sys2Proof.Machine

/-! ### Phase units and their converters (R112) -/

theorem convOf_eq {c : Conv} {p : Fin 20} (h : p ∈ phasesOf c) : convOf p = c := by
  revert p
  cases c <;> decide

theorem phasesOf_nodup (c : Conv) : (phasesOf c).Nodup := by
  cases c <;> decide

theorem mem_convs (c : Conv) : c ∈ convs := by
  cases c <;> decide

/-! ### Reads of one part after an update of it -/

section
variable (s : State) (p q : Fin 20) (c d : Conv) (a b : Fin 48)

@[simp] theorem State.phase_setPhase (x : Phase) : (s.setPhase p x).phase q = if q = p then x else s.phase q := by
  simp [State.phase, State.setPhase, Vector.getElem_set, Fin.ext_iff, eq_comm]

@[simp] theorem State.phase_modPhase (f : Phase → Phase) :
    (s.modPhase p f).phase q = if q = p then f (s.phase p) else s.phase q :=
  s.phase_setPhase p q _

@[simp] theorem State.conv_setConv (x : ConvSt) : (s.setConv c x).conv d = if d = c then x else s.conv d := by
  cases c <;> cases d <;> rfl

@[simp] theorem State.conv_modConv (f : ConvSt → ConvSt) :
    (s.modConv c f).conv d = if d = c then f (s.conv c) else s.conv d :=
  s.conv_setConv c d _

@[simp] theorem State.chan_modChan (f : ChanSt → ChanSt) :
    (s.modChan a f).chan b = if b = a then f (s.chan a) else s.chan b := by
  simp [State.chan, State.modChan, Vector.getElem_set, Fin.ext_iff, eq_comm]

/-! ### Reads of one part after an update of another -/

@[simp] theorem State.conv_setPhase (x : Phase) : (s.setPhase p x).conv d = s.conv d := by cases d <;> rfl
@[simp] theorem State.conv_modPhase (f : Phase → Phase) : (s.modPhase p f).conv d = s.conv d := by cases d <;> rfl
@[simp] theorem State.conv_modChan (f : ChanSt → ChanSt) : (s.modChan a f).conv d = s.conv d := by cases d <;> rfl
@[simp] theorem State.phase_setConv (x : ConvSt) : (s.setConv c x).phase q = s.phase q := by cases c <;> rfl
@[simp] theorem State.phase_modConv (f : ConvSt → ConvSt) : (s.modConv c f).phase q = s.phase q := by cases c <;> rfl
@[simp] theorem State.phase_modChan (f : ChanSt → ChanSt) : (s.modChan a f).phase q = s.phase q := rfl
@[simp] theorem State.chan_setPhase (x : Phase) : (s.setPhase p x).chan b = s.chan b := rfl
@[simp] theorem State.chan_modPhase (f : Phase → Phase) : (s.modPhase p f).chan b = s.chan b := rfl
@[simp] theorem State.chan_setConv (x : ConvSt) : (s.setConv c x).chan b = s.chan b := by cases c <;> rfl
@[simp] theorem State.chan_modConv (f : ConvSt → ConvSt) : (s.modConv c f).chan b = s.chan b := by cases c <;> rfl

/-! ### The power stage is read as it was where nothing of it has changed -/

variable {s} {t : State} (h : t.pow = s.pow)
include h

theorem State.phase_congr : t.phase p = s.phase p := by unfold State.phase; rw [h]
theorem State.conv_congr : t.conv d = s.conv d := by cases d <;> simp only [State.conv, h]
theorem State.chan_congr : t.chan b = s.chan b := by unfold State.chan; rw [h]

end

section
variable (k : Nat) (s : State) (p : Fin 20) (c : Conv) (a : Fin 48)

@[simp] theorem State.phase_put (v : Int) : (s.put k v).phase p = s.phase p := rfl
@[simp] theorem State.conv_put (v : Int) : (s.put k v).conv c = s.conv c := by cases c <;> rfl
@[simp] theorem State.chan_put (v : Int) : (s.put k v).chan a = s.chan a := rfl
@[simp] theorem State.phase_send (m : OutMsg) : (s.send m).phase p = s.phase p := rfl
@[simp] theorem State.conv_send (m : OutMsg) : (s.send m).conv c = s.conv c := by cases c <;> rfl
@[simp] theorem State.phase_inc : (s.inc k).phase p = s.phase p := State.phase_congr p (s.inc_pow k)
@[simp] theorem State.conv_inc : (s.inc k).conv c = s.conv c := State.conv_congr c (s.inc_pow k)
@[simp] theorem State.chan_inc : (s.inc k).chan a = s.chan a := State.chan_congr a (s.inc_pow k)
@[simp] theorem State.phase_raise (x : Args) : (s.raise k x).phase p = s.phase p := State.phase_congr p (s.raise_pow k x)
@[simp] theorem State.conv_raise (x : Args) : (s.raise k x).conv c = s.conv c := State.conv_congr c (s.raise_pow k x)
@[simp] theorem State.chan_raise (x : Args) : (s.raise k x).chan a = s.chan a := State.chan_congr a (s.raise_pow k x)
@[simp] theorem State.phase_raiseOn (j : Nat) : (s.raiseOn k j).phase p = s.phase p := State.phase_congr p (s.raiseOn_pow k j)
@[simp] theorem State.conv_raiseOn (j : Nat) : (s.raiseOn k j).conv c = s.conv c := State.conv_congr c (s.raiseOn_pow k j)
@[simp] theorem State.chan_raiseOn (j : Nat) : (s.raiseOn k j).chan a = s.chan a := State.chan_congr a (s.raiseOn_pow k j)

/-! ### Objects -/

@[simp] theorem State.get_setPhase (x : Phase) : (s.setPhase p x).get k = s.get k := rfl
@[simp] theorem State.get_modPhase (f : Phase → Phase) : (s.modPhase p f).get k = s.get k := rfl
@[simp] theorem State.get_setConv (x : ConvSt) : (s.setConv c x).get k = s.get k := by cases c <;> rfl
@[simp] theorem State.get_modConv (f : ConvSt → ConvSt) : (s.modConv c f).get k = s.get k := by cases c <;> rfl
@[simp] theorem State.get_modChan (f : ChanSt → ChanSt) : (s.modChan a f).get k = s.get k := rfl
@[simp] theorem State.get_modPow (f : PowerState → PowerState) : (s.modPow f).get k = s.get k := rfl

end

/-- An object of the power stage (0x3000 to 0x3FFF) is none that raising a cause writes. -/
theorem noting_of_power {k : Nat} (h : 0x300000 ≤ k) (h' : k < 0x400000) : noting k = false := by
  simp only [noting, K.sessEventsLost, K.recStagingHighMark, K.recCausesNotStaged, K.trigMatches, Bool.or_eq_false_iff,
    decide_eq_false_iff_not, List.any_eq_false, List.mem_range, decide_eq_true_eq]
  exact ⟨⟨⟨by omega, by omega⟩, by omega⟩, fun i hi => by omega⟩

theorem State.now_congr {s t : State} (h : t.time = s.time) : t.now = s.now := by
  unfold State.now
  rw [h]

/-! ### Loops -/

/-- What holds before a loop, and is kept by the round of each of its elements, holds after it. -/
theorem State.each_mem {α : Type} {P : State → Prop} {l : List α} {f : α → State → State} {s : State} (hs : P s)
    (hf : ∀ a ∈ l, ∀ t, P t → P (f a t)) : P (s.each l f) := by
  unfold State.each
  induction l generalizing s with
  | nil => exact hs
  | cons a l ih => exact ih (hf a List.mem_cons_self s hs) fun b hb => hf b (List.mem_cons_of_mem a hb)

/-- What each round of a loop leaves alone is as it was. -/
theorem State.each_same {α β : Type} (g : State → β) {l : List α} {f : α → State → State} (s : State)
    (hf : ∀ a ∈ l, ∀ t, g (f a t) = g t) : g (s.each l f) = g s :=
  State.each_mem (P := fun t => g t = g s) rfl fun a ha t ht => (hf a ha t).trans ht

theorem State.when_same {β : Type} (g : State → β) (b : Bool) {f : State → State} (s : State) (hf : g (f s) = g s) :
    g (s.when b f) = g s := by
  cases b with
  | false => rfl
  | true => exact hf

/-- A loop that comes to each element once: what its round finds, and what the rounds after it keep. -/
theorem State.each_once {α : Type} {l : List α} {f : α → State → State} {a : α} {A B : State → Prop} {s : State}
    (hl : l.Nodup) (ha : a ∈ l) (hs : A s) (hbefore : ∀ b ≠ a, ∀ t, A t → A (f b t)) (hat : ∀ t, A t → B (f a t))
    (hafter : ∀ b ≠ a, ∀ t, B t → B (f b t)) : B (s.each l f) := by
  obtain ⟨l1, l2, rfl⟩ := List.append_of_mem ha
  obtain ⟨-, h2, hdisj⟩ := List.nodup_append.1 hl
  have hsplit : s.each (l1 ++ a :: l2) f = (f a (s.each l1 f)).each l2 f := by
    simp only [State.each, List.foldl_append, List.foldl_cons]
  have hA : A (s.each l1 f) := State.each_mem hs fun b hb => hbefore b (hdisj b hb a List.mem_cons_self)
  rw [hsplit]
  exact State.each_mem (hat _ hA) fun b hb => hafter b (ne_of_mem_of_not_mem hb (List.nodup_cons.1 h2).1)

end Sys2Proof.Machine
end

section
/-! HICCUP and what enters it (R136 to R139): a phase, a converter that trips. -/

namespace Sys2Proof.Machine

/-! ### Entering HICCUP (R137) -/

/-- The failures in a row of a phase that enters HICCUP now. -/
def State.failures (s : State) (p : Fin 20) : Nat := s.getN (K.phaseRetryFailures p) + (if (s.phase p).retry then 1 else 0)

/-- Has a phase that enters HICCUP now reached the retry limit? -/
def State.latches (s : State) (p : Fin 20) : Bool := decide (s.getN (K.convRetryLimit (convOf p).idx) ≤ s.failures p)

/-- A phase unit that enters HICCUP, or latches. -/
def Phase.hiccuped (latch : Bool) (now : Nat) (x : Phase) : Phase :=
  { x with state := if latch then .latched else .hiccup, pend := .none, retry := false, rejoin := x.rejoin && !latch,
           switching := false, limitedRun := 0, since := now }

/-- What entering HICCUP counts and raises before the phase changes. -/
def State.hiccupTold (p : Fin 20) (s : State) : State :=
  let told := (s.inc (K.phaseHiccups p)).raiseOn Cause.phaseHiccup p
  (told.when (s.phase p).retry (fun t => (t.put (K.phaseRetryFailures p) (s.failures p)).raise Cause.phaseRetryFailed
    (args p [(s.failures p, 1)]))).when (s.phase p).rejoin (State.raiseOn Cause.phaseRejoinFailed p)

/-- A converter whose ramp is abandoned (R132). -/
def ConvSt.rampless (x : ConvSt) : ConvSt := { x with soft := none, softHeld := false }

/-- A converter at rest with no phase left that can run (R491). -/
def ConvSt.exhausted (x : ConvSt) : ConvSt :=
  { x with on := false, stopPend := false, burst := false, packet := none
           stopRule := if x.stopRule = some .trip then none else x.stopRule }

/-- What a converter becomes whose phase has entered HICCUP. -/
def State.hiccupSettled (c : Conv) (s : State) : State :=
  let gone := (s.inService c).all (fun q => decide ((s.phase q).state = .hiccup) || decide ((s.phase q).state = .latched))
  let t := s.when gone (State.modConv c ConvSt.rampless)
  t.when (t.allLatched c) (State.modConv c ConvSt.exhausted)

theorem State.enterHiccup_eq (p : Fin 20) (s : State) : s.enterHiccup p =
    (((s.hiccupTold p).modPhase p (Phase.hiccuped (s.latches p) (s.hiccupTold p).now)).when (s.latches p)
      (State.raiseOn Cause.phaseLatched p)).hiccupSettled (convOf p) := rfl

theorem State.hiccupTold_noted (p : Fin 20) (s : State) : Noted s (s.hiccupTold p) :=
  (((State.inc_noted _ _).trans (State.raiseOn_noted _ _ _)).when
    ((State.put_noted _ _ _).trans (State.raise_noted _ _ _))).when (State.raiseOn_noted _ _ _)

/-- Objects that entering HICCUP writes, beside those of the recorder. -/
def hiccupShown (k : Nat) : Prop := ∃ q : Fin 20, k = K.phaseHiccups q ∨ k = K.phaseRetryFailures q

theorem State.get_hiccupTold_other {k : Nat} (p : Fin 20) (s : State) (h : ¬ hiccupShown k) (hk : noting k = false) :
    (s.hiccupTold p).get k = s.get k := by
  have hhiccups : k ≠ K.phaseHiccups p := fun e => h ⟨p, .inl e⟩
  have hfailures : k ≠ K.phaseRetryFailures p := fun e => h ⟨p, .inr e⟩
  unfold State.hiccupTold
  refine (State.when_same (State.get · k) _ _ (State.get_raiseOn _ _ _ _ hk)).trans ?_
  refine (State.when_same (State.get · k) _ _ ?_).trans ?_
  · exact (State.get_raise _ _ _ _ hk).trans (State.get_put_other _ _ _ _ hfailures)
  · exact (State.get_raiseOn _ _ _ _ hk).trans (State.get_inc_other _ _ _ hhiccups)

theorem noting_phaseRetryFailures (p : Fin 20) : noting (K.phaseRetryFailures p) = false :=
  noting_of_power (by unfold K.phaseRetryFailures; omega) (by unfold K.phaseRetryFailures; omega)

theorem State.getN_hiccupTold_failures (p : Fin 20) (s : State) :
    (s.hiccupTold p).getN (K.phaseRetryFailures p) = s.failures p := by
  have hk := noting_phaseRetryFailures p
  have hne : K.phaseRetryFailures p ≠ K.phaseHiccups p := by unfold K.phaseRetryFailures K.phaseHiccups; omega
  have htold : (s.hiccupTold p).get (K.phaseRetryFailures p) =
      (((s.inc (K.phaseHiccups p)).raiseOn Cause.phaseHiccup p).when (s.phase p).retry (fun t =>
        (t.put (K.phaseRetryFailures p) (s.failures p)).raise Cause.phaseRetryFailed (args p [(s.failures p, 1)]))).get
          (K.phaseRetryFailures p) := State.when_same (State.get · _) _ _ (State.get_raiseOn _ _ _ _ hk)
  unfold State.getN
  rw [htold]
  cases hretry : (s.phase p).retry with
  | true => rw [State.when_true, State.get_raise _ _ _ _ hk, State.get_put_same, Int.toNat_natCast]
  | false =>
    rw [State.when_false, State.get_raiseOn _ _ _ _ hk, State.get_inc_other _ _ _ hne]
    simp [State.failures, hretry, State.getN]

/-! ### What entering HICCUP leaves -/

/-- A converter without what a trip or a stop of it changes. -/
def ConvSt.lasting (x : ConvSt) : ConvSt :=
  { x with on := false, stopPend := false, burst := false, packet := none, stopRule := none, soft := none, softHeld := false }

theorem ConvSt.lasting_rampless (x : ConvSt) : x.rampless.lasting = x.lasting := rfl
theorem ConvSt.lasting_exhausted (x : ConvSt) : x.exhausted.lasting = x.lasting := rfl

/-- What entering HICCUP leaves beside the phases: converters but for their running, fault inputs, time, other objects. -/
structure HiccupKept (s t : State) : Prop where
  conv : ∀ d, (t.conv d).lasting = (s.conv d).lasting
  faultIn : t.pow.faultIn = s.pow.faultIn
  faultStamp : t.pow.faultStamp = s.pow.faultStamp
  time : t.time = s.time
  get : ∀ k, ¬ hiccupShown k → noting k = false → t.get k = s.get k

theorem HiccupKept.rfl {s : State} : HiccupKept s s := by constructor <;> intros <;> rfl

theorem HiccupKept.trans {s t u : State} (h : HiccupKept s t) (g : HiccupKept t u) : HiccupKept s u where
  conv d := (g.conv d).trans (h.conv d)
  faultIn := g.faultIn.trans h.faultIn
  faultStamp := g.faultStamp.trans h.faultStamp
  time := g.time.trans h.time
  get k hk hn := (g.get k hk hn).trans (h.get k hk hn)

theorem HiccupKept.when {s t : State} {b : Bool} {f : State → State} (h : HiccupKept s t) (hf : ∀ u, HiccupKept u (f u)) :
    HiccupKept s (t.when b f) :=
  State.when_preserves b h fun h => h.trans (hf _)

theorem Noted.hiccupKept {s t : State} (h : Noted s t) (hget : ∀ k, ¬ hiccupShown k → noting k = false → t.get k = s.get k) :
    HiccupKept s t where
  conv d := by rw [State.conv_congr d h.pow]
  faultIn := by rw [h.pow]
  faultStamp := by rw [h.pow]
  time := h.time
  get := hget

theorem State.raiseOn_hiccupKept (c subj : Nat) (s : State) : HiccupKept s (s.raiseOn c subj) :=
  (State.raiseOn_noted c subj s).hiccupKept fun _ _ hk => State.get_raiseOn _ _ _ _ hk

theorem State.modPhase_hiccupKept (p : Fin 20) (f : Phase → Phase) (s : State) : HiccupKept s (s.modPhase p f) where
  conv d := by rw [State.conv_modPhase]
  faultIn := by rfl
  faultStamp := by rfl
  time := by rfl
  get _ _ _ := by rfl

theorem State.modConv_hiccupKept (c : Conv) {f : ConvSt → ConvSt} (s : State) (hf : ∀ x, (f x).lasting = x.lasting) :
    HiccupKept s (s.modConv c f) where
  conv d := by
    rw [State.conv_modConv]
    split
    · rename_i hd
      rw [hd, hf]
    · rfl
  faultIn := by cases c <;> rfl
  faultStamp := by cases c <;> rfl
  time := State.modConv_time _ _ _
  get _ _ _ := State.get_modConv _ _ _ _

theorem State.hiccupSettled_hiccupKept (c : Conv) (s : State) : HiccupKept s (s.hiccupSettled c) := by
  unfold State.hiccupSettled
  exact (HiccupKept.rfl.when fun u => State.modConv_hiccupKept c u ConvSt.lasting_rampless).when fun u =>
    State.modConv_hiccupKept c u ConvSt.lasting_exhausted

theorem State.enterHiccup_hiccupKept (p : Fin 20) (s : State) : HiccupKept s (s.enterHiccup p) := by
  rw [State.enterHiccup_eq]
  have htold := (s.hiccupTold_noted p).hiccupKept fun k => s.get_hiccupTold_other p
  exact ((htold.trans (State.modPhase_hiccupKept _ _ _)).when fun u => u.raiseOn_hiccupKept _ _).trans
    (State.hiccupSettled_hiccupKept _ _)

theorem State.hiccupSettled_phase (c : Conv) (q : Fin 20) (s : State) : (s.hiccupSettled c).phase q = s.phase q := by
  unfold State.hiccupSettled
  exact (State.when_same (State.phase · q) _ _ (State.phase_modConv _ _ _ _)).trans
    (State.when_same (State.phase · q) _ _ (State.phase_modConv _ _ _ _))

/-- The phase that enters HICCUP changes, and no other. -/
@[simp] theorem State.phase_enterHiccup (p q : Fin 20) (s : State) : (s.enterHiccup p).phase q =
    if q = p then (s.phase p).hiccuped (s.latches p) s.now else s.phase q := by
  have htold := s.hiccupTold_noted p
  rw [State.enterHiccup_eq, State.hiccupSettled_phase, State.when_same (State.phase · q) _ _ (State.phase_raiseOn _ _ _ _),
    State.phase_modPhase, State.phase_congr p htold.pow, State.phase_congr q htold.pow, State.now_congr htold.time]

theorem State.hiccupSettled_objs (c : Conv) (s : State) : (s.hiccupSettled c).objs = s.objs := by
  unfold State.hiccupSettled
  exact (State.when_same State.objs _ _ (State.modConv_objs _ _ _)).trans
    (State.when_same State.objs _ _ (State.modConv_objs _ _ _))

theorem State.getN_enterHiccup_failures (p : Fin 20) (s : State) :
    (s.enterHiccup p).getN (K.phaseRetryFailures p) = s.failures p := by
  rw [State.enterHiccup_eq, ← s.getN_hiccupTold_failures p]
  unfold State.getN State.get
  rw [State.hiccupSettled_objs]
  exact congrArg Int.toNat (State.when_same (State.get · (K.phaseRetryFailures p)) _ _
    (State.get_raiseOn _ _ _ _ (noting_phaseRetryFailures p)))

theorem Phase.hiccuped_state (latch : Bool) (now : Nat) (x : Phase) :
    (x.hiccuped latch now).state = .hiccup ∨ (x.hiccuped latch now).state = .latched := by
  cases latch
  · exact .inl rfl
  · exact .inr rfl

/-! ### A converter that trips (R137 to R139) -/

/-- Every live phase of the converter enters HICCUP, or latches. -/
def State.hiccupAll (c : Conv) (s : State) : State :=
  s.each (phasesOf c) (fun p s => s.when (s.phase p).state.live (State.enterHiccup p))

/-- A converter under a trip, unless it is at rest. -/
def ConvSt.tripped (x : ConvSt) : ConvSt :=
  { x with stopRule := if x.on then some .trip else x.stopRule, burst := false, packet := none }

theorem ConvSt.lasting_tripped (x : ConvSt) : x.tripped.lasting = x.lasting := rfl

theorem State.tripConv_eq (c : Conv) (s : State) : s.tripConv c = (s.hiccupAll c).modConv c ConvSt.tripped := rfl

theorem State.hiccupAll_phase {c : Conv} {p : Fin 20} {s : State} (hp : p ∈ phasesOf c) (hlive : (s.phase p).state.live = true) :
    ((s.hiccupAll c).phase p).state = .hiccup ∨ ((s.hiccupAll c).phase p).state = .latched := by
  refine State.each_once (A := fun t => (t.phase p).state.live = true)
    (B := fun t => (t.phase p).state = .hiccup ∨ (t.phase p).state = .latched) (phasesOf_nodup c) hp hlive
    (fun q hq t ht => ?_) (fun t ht => ?_) (fun q hq t ht => ?_)
  · rwa [State.when_same (State.phase · p) _ _ (by rw [State.phase_enterHiccup, if_neg hq.symm])]
  · rw [ht, State.when_true, State.phase_enterHiccup, if_pos rfl]
    exact Phase.hiccuped_state _ _ _
  · rwa [State.when_same (State.phase · p) _ _ (by rw [State.phase_enterHiccup, if_neg hq.symm])]

theorem State.tripConv_phase {c : Conv} {p : Fin 20} {s : State} (hp : p ∈ phasesOf c) (hlive : (s.phase p).state.live = true) :
    ((s.tripConv c).phase p).state = .hiccup ∨ ((s.tripConv c).phase p).state = .latched := by
  rw [State.tripConv_eq, State.phase_modConv]
  exact State.hiccupAll_phase hp hlive

theorem State.tripConv_rule {c : Conv} {s : State} (h : ((s.tripConv c).conv c).on = true) :
    ((s.tripConv c).conv c).stopRule = some .trip := by
  rw [State.tripConv_eq, State.conv_modConv, if_pos rfl] at h ⊢
  exact if_pos h

theorem State.tripConv_lasting (c d : Conv) (s : State) : ((s.tripConv c).conv d).lasting = (s.conv d).lasting := by
  have hall : HiccupKept s (s.hiccupAll c) :=
    State.each_preserves _ .rfl fun p t ht => ht.when fun u => u.enterHiccup_hiccupKept p
  rw [State.tripConv_eq]
  exact (hall.trans (State.modConv_hiccupKept c _ ConvSt.lasting_tripped)).conv d

end Sys2Proof.Machine
end

section
/-! O18: short circuits and overloads (R138, R139). -/

namespace Sys2Proof.Machine

/-- What a trip leaves of its converter: under the trip unless it is at rest, its live phases in HICCUP or LATCHED. -/
def tripped (c : Conv) (s t : State) : Prop :=
  ((t.conv c).on = true → (t.conv c).stopRule = some .trip) ∧
    ∀ p ∈ phasesOf c, (s.phase p).state.live = true → (t.phase p).state = .hiccup ∨ (t.phase p).state = .latched

theorem State.tripConv_tripped {c : Conv} {s t : State} (h : ∀ p, t.phase p = s.phase p) : tripped c s (t.tripConv c) :=
  ⟨State.tripConv_rule, fun p hp hlive => State.tripConv_phase hp (by rwa [h])⟩

theorem convShortCircuit_does {s : State} {c : Conv} {k : Fin 48} (hk : s.shortChan c = some k) (hon : (s.conv c).on = true)
    (hover : s.get (K.convShortCircuitThreshold c.idx) ≤ (s.milli k (s.get (K.chanProtectionSample k))).natAbs) :
    Does (.convShortCircuit c) s (tripped c s) := by
  show ∃ t, execConvShortCircuit c s = .next t ∧ _
  unfold execConvShortCircuit
  rw [hk]
  exact ⟨_, if_pos ⟨hover, hon⟩, State.tripConv_tripped fun p => State.phase_raise _ _ _ _⟩

/-- The mean current of the comparison period (R139). -/
def ConvSt.meanMilli (x : ConvSt) : Nat := if x.sumCount = 0 then 0 else (rheDiv x.sumMilli x.sumCount).natAbs

/-- The overload accumulator after a comparison, in tenths of a millisecond (R139). -/
def State.tenthsNext (s : State) (c : Conv) : Nat :=
  if s.getN (K.convContinuousRating c.idx) < (s.conv c).meanMilli then (s.conv c).overTenths + 10 else (s.conv c).overTenths - 1

/-- Is the accumulator full then? -/
def State.overFull (s : State) (c : Conv) : Bool := decide (s.getN (K.convShortTimeDuration c.idx) * 10 ≤ s.tenthsNext c)

/-- Comparisons in a row above the short-time rating. -/
def State.overRunNext (s : State) (c : Conv) : Nat :=
  if s.getN (K.convShortTimeRating c.idx) < (s.conv c).meanMilli then (s.conv c).overRun + 1 else 0

/-- A converter after a comparison. -/
def State.compared (s : State) (c : Conv) : ConvSt :=
  { s.conv c with
    sumMilli := 0, sumCount := 0, overTenths := s.tenthsNext c
    overClamp := if s.tenthsNext c = 0 then false else (s.conv c).overClamp || s.overFull c
    overRun := if decide (100 ≤ s.overRunNext c) then 0 else s.overRunNext c }

/-- What a comparison shows and says before it trips. -/
def State.overloadShown (c : Conv) (s : State) : State :=
  ((s.setConv c (s.compared c)).put (K.convOverloadAccumulator c.idx) (rheDiv (s.tenthsNext c) 10)).when
    (s.overFull c && !(s.conv c).overClamp) (State.raiseOn Cause.convOverloadLimit c.idx)

theorem execOverloadCompare_eq (c : Conv) (s : State) : exec (.overloadCompare c) s = .next
    (if decide (100 ≤ s.overRunNext c) then ((s.overloadShown c).raiseOn Cause.convOverloadTrip c.idx).tripConv c
     else s.overloadShown c) := by
  show execOverloadCompare c s = _
  unfold execOverloadCompare State.overloadShown State.compared State.overRunNext State.overFull State.tenthsNext
    ConvSt.meanMilli
  simp only [decide_eq_true_eq]

theorem State.overloadShown_conv (c : Conv) (s : State) : (s.overloadShown c).conv c = s.compared c := by
  unfold State.overloadShown
  rw [State.when_same (State.conv · c) _ _ (State.conv_raiseOn _ _ _ _), State.conv_put, State.conv_setConv, if_pos rfl]

theorem State.overloadShown_phase (c : Conv) (p : Fin 20) (s : State) : (s.overloadShown c).phase p = s.phase p := by
  unfold State.overloadShown
  rw [State.when_same (State.phase · p) _ _ (State.phase_raiseOn _ _ _ _), State.phase_put, State.phase_setConv]

theorem overloadCompare_does (s : State) (c : Conv) : Does (.overloadCompare c) s (fun t =>
    (t.conv c).overTenths = s.tenthsNext c ∧ (t.conv c).sumCount = 0 ∧
    ((t.conv c).overClamp = true ↔ s.tenthsNext c ≠ 0 ∧ ((s.conv c).overClamp = true ∨
      s.getN (K.convShortTimeDuration c.idx) * 10 ≤ s.tenthsNext c)) ∧
    (s.getN (K.convShortTimeRating c.idx) < (s.conv c).meanMilli → (s.conv c).overRun = 99 → tripped c s t)) := by
  refine .of_next (execOverloadCompare_eq c s) ?_
  have hlasting : ∀ b : Bool, ((if b then ((s.overloadShown c).raiseOn Cause.convOverloadTrip c.idx).tripConv c
      else s.overloadShown c).conv c).lasting = (s.compared c).lasting := by
    intro b
    cases b with
    | false => exact congrArg ConvSt.lasting (s.overloadShown_conv c)
    | true =>
      refine (State.tripConv_lasting c c _).trans ?_
      rw [State.conv_raiseOn, s.overloadShown_conv]
  refine ⟨(congrArg ConvSt.overTenths (hlasting _) :), (congrArg ConvSt.sumCount (hlasting _) :), ?_, fun hover hrun => ?_⟩
  · have hclamp := congrArg ConvSt.overClamp (hlasting (decide (100 ≤ s.overRunNext c)))
    simp only [ConvSt.lasting] at hclamp
    rw [hclamp]
    by_cases hzero : s.tenthsNext c = 0 <;> simp [State.compared, State.overFull, hzero]
  · have htrips : 100 ≤ s.overRunNext c := by rw [State.overRunNext, if_pos hover, hrun]
    rw [decide_eq_true htrips, if_pos rfl]
    exact State.tripConv_tripped fun p => (State.phase_raiseOn _ _ _ _).trans (s.overloadShown_phase c p)

/-- Settles O18: each clause is the lemma on its command above. -/
theorem convertersTripOnShortCircuitAndOverload : Obligations.ConvertersTripOnShortCircuitAndOverload := by
  unfold Obligations.ConvertersTripOnShortCircuitAndOverload
  exact fun s c => ⟨fun _ hk hon hover => convShortCircuit_does hk hon hover, overloadCompare_does s c⟩

end Sys2Proof.Machine
end

section
/-! Phases in trouble (R137, R143, R147): HICCUP, retries, cooling and the end of a blend; phases taken out of service and back. -/

namespace Sys2Proof.Machine

/-! ### What leaves the phases alone -/

theorem State.putFeedPower_pow (v : Int) (s : State) : (s.putFeedPower v).pow = s.pow :=
  iteInduction (motive := fun t : State => t.pow = s.pow) (fun _ => rfl) (fun _ => rfl)

theorem State.phase_softStart (c : Conv) (p : Fin 20) (s : State) : (s.softStart c).phase p = s.phase p := by
  cases c with
  | storage => exact State.phase_modConv _ _ _ _
  | feed =>
    refine iteInduction (motive := fun t : State => t.phase p = s.phase p) (fun _ => ?_)
      (fun _ => State.phase_congr p (s.putFeedPower_pow 0))
    rw [State.showAtTarget, State.putB, State.phase_put, State.phase_modConv]
    rfl

theorem State.get_softStart_other {k : Nat} (c : Conv) (s : State) (h1 : k ≠ K.busReferenceInForce)
    (h2 : k ≠ K.busAtTarget) : (s.softStart c).get k = s.get k := by
  cases c with
  | storage => exact State.get_modConv _ _ _ _
  | feed =>
    refine iteInduction (motive := fun t : State => t.get k = s.get k) (fun _ => ?_) (fun _ => ?_)
    · rw [State.showAtTarget, State.get_putB_other _ _ _ _ h2, State.get_modConv, State.get_put_other _ _ _ _ h1,
        State.get_modPow]
    · exact iteInduction (motive := fun t : State => t.get k = s.get k) (fun _ => rfl) (fun _ => rfl)

/-! ### Keys of a phase's objects -/

theorem noting_phaseTrimWeight (p : Fin 20) : noting (K.phaseTrimWeight p) = false :=
  noting_of_power (by unfold K.phaseTrimWeight; omega) (by unfold K.phaseTrimWeight; omega)

theorem phaseTrimWeight_ne_retryFailures (p q : Fin 20) : K.phaseTrimWeight p ≠ K.phaseRetryFailures q := by
  unfold K.phaseTrimWeight K.phaseRetryFailures
  omega

theorem phaseTrimWeight_ne_bus {k : Nat} (p : Fin 20) (h : k < 0x310000) : K.phaseTrimWeight p ≠ k := by
  unfold K.phaseTrimWeight
  omega

/-! ### HICCUP and retries (R137) -/

/-- A ramp that a HICCUP holds says so once. -/
def State.rampHolds (c : Conv) (s : State) : State :=
  s.when ((s.conv c).soft.isSome && !(s.conv c).softHeld) (fun s =>
    (s.modConv c (fun y => { y with softHeld := true })).raiseOn Cause.softStartHeld c.idx)

theorem State.rampHolds_phase (c : Conv) (p : Fin 20) (s : State) : (s.rampHolds c).phase p = s.phase p :=
  State.when_same (State.phase · p) _ _ ((State.phase_raiseOn _ _ _ _).trans (State.phase_modConv _ _ _ _))

theorem State.get_rampHolds {k : Nat} (c : Conv) (s : State) (hk : noting k = false) : (s.rampHolds c).get k = s.get k :=
  State.when_same (State.get · k) _ _ ((State.get_raiseOn _ _ _ _ hk).trans (State.get_modConv _ _ _ _))

theorem State.rampHolds_time (c : Conv) (s : State) : (s.rampHolds c).time = s.time :=
  State.when_time _ fun _ => (State.raiseOn_time _ _ _).trans (State.modConv_time _ _ _)

theorem noting_convRetryLimit (c : Conv) : noting (K.convRetryLimit c.idx) = false := by
  cases c <;> exact noting_of_power (by decide) (by decide)

section
variable {s : State} {p : Fin 20}

theorem phaseHiccup_does (hstate : (s.phase p).state = .run ∨ (s.phase p).state = .starting)
    (hcount : s.getN (K.convLimitedPeriodsToHiccup (convOf p).idx) ≤ (s.phase p).limitedRun) :
    Does (.phaseHiccup p) s (fun t => (t.phase p).switching = false ∧ (t.phase p).since = s.now ∧
      (t.phase p).state = (if s.getN (K.convRetryLimit (convOf p).idx) ≤ s.failures p then .latched else .hiccup) ∧
      t.getN (K.phaseRetryFailures p) = s.failures p) := by
  have hexec : exec (.phaseHiccup p) s = .next ((s.rampHolds (convOf p)).enterHiccup p) := if_pos ⟨hstate, hcount⟩
  have hphase := s.rampHolds_phase (convOf p) p
  have hfailures : (s.rampHolds (convOf p)).failures p = s.failures p := by
    unfold State.failures
    rw [hphase, State.getN_congr (s.get_rampHolds _ (noting_phaseRetryFailures p))]
  refine .of_next hexec ?_
  rw [State.getN_enterHiccup_failures, State.phase_enterHiccup, if_pos rfl, hphase, hfailures, State.latches, hfailures,
    State.getN_congr (s.get_rampHolds _ (noting_convRetryLimit _)), State.now_congr (s.rampHolds_time _)]
  exact ⟨rfl, rfl, ite_congr (decide_eq_true_eq) (fun _ => rfl) (fun _ => rfl), rfl⟩

/-- A phase that begins a retry. -/
def Phase.retrying (now : Nat) (x : Phase) : Phase :=
  { x with state := .starting, pend := if x.rejoin then .rejoin else .start, retry := true, limitedRun := 0, since := now }

theorem exec_phaseRetry (hstate : (s.phase p).state = .hiccup)
    (hoff : (s.phase p).since + s.getN (K.convHiccupOffTime (convOf p).idx) * 1000000 ≤ s.now)
    (hon : (s.conv (convOf p)).on = true) : ∃ f b, exec (.phaseRetry p) s = .next
      (((((s.modPhase p (Phase.retrying s.now)).put (K.phaseTrimWeight p) 0).modConv (convOf p) f)).when b
        (State.softStart (convOf p))) :=
  ⟨_, _, if_pos ⟨hstate, hoff, hon⟩⟩

theorem phaseRetry_does (hstate : (s.phase p).state = .hiccup)
    (hoff : (s.phase p).since + s.getN (K.convHiccupOffTime (convOf p).idx) * 1000000 ≤ s.now)
    (hon : (s.conv (convOf p)).on = true) : Does (.phaseRetry p) s (fun t =>
      (t.phase p).state = .starting ∧ (t.phase p).retry = true ∧
      (t.phase p).pend = (if (s.phase p).rejoin then .rejoin else .start) ∧ t.get (K.phaseTrimWeight p) = 0) := by
  obtain ⟨f, b, hexec⟩ := exec_phaseRetry hstate hoff hon
  refine .of_next hexec ?_
  rw [State.when_same (State.phase · p) _ _ (State.phase_softStart _ _ _),
    State.when_same (State.get · (K.phaseTrimWeight p)) _ _ (State.get_softStart_other _ _ (phaseTrimWeight_ne_bus p (by decide))
      (phaseTrimWeight_ne_bus p (by decide))), State.phase_modConv, State.phase_put, State.phase_modPhase, if_pos rfl,
    State.get_modConv, State.get_put_same]
  exact ⟨rfl, rfl, rfl, rfl⟩

theorem phaseRetryOk_does (hstate : (s.phase p).state = .run ∨ (s.phase p).state = .starting)
    (hswitching : (s.phase p).switching = true) (hretry : (s.phase p).retry = true) (hrejoin : (s.phase p).rejoin = false)
    (hclear : (s.phase p).since + s.getN (K.convRetryClearTime (convOf p).idx) * 1000000 ≤ s.now) :
    Does (.phaseRetryOk p) s (fun t => (t.phase p).state = .run ∧ (t.phase p).retry = false ∧
      t.get (K.phaseRetryFailures p) = 0 ∧ t.get (K.phaseTrimWeight p) = 32767) := by
  have hexec : exec (.phaseRetryOk p) s = .next ((((s.put (K.phaseRetryFailures p) 0).modPhase p (fun y =>
      { y with retry := false, state := if y.rejoin then y.state else .run })).put (K.phaseTrimWeight p) 32767).raiseOn
        Cause.phaseRetryOk p) := by
    refine (if_pos ⟨hstate, hswitching, hclear⟩).trans ((if_pos hretry).trans ?_)
    rw [hrejoin]
    rfl
  refine .of_next hexec ?_
  rw [State.get_raiseOn _ _ _ _ (noting_phaseRetryFailures p), State.get_raiseOn _ _ _ _ (noting_phaseTrimWeight p),
    State.get_put_same, State.get_put_other _ _ _ _ (phaseTrimWeight_ne_retryFailures p p).symm, State.get_modPhase,
    State.get_put_same]
  simp [hrejoin]

/-! ### Temperature (R143) -/

theorem phaseTempShutdown_does (hrun : 3 ≤ (s.phase p).tempRun) (hservice : (s.phase p).inService = true)
    (hlatched : (s.phase p).state ≠ .latched) (hstop : (s.phase p).state ≠ .tempStop)
    (hpend : (s.phase p).pend ≠ .tempStop) : Does (.phaseTempShutdown p) s (fun t =>
      if (s.phase p).switching then (t.phase p).pend = .tempStop ∧ (t.phase p).state = (s.phase p).state
      else (t.phase p).state = .tempStop) := by
  have hexec : exec (.phaseTempShutdown p) s = .next ((s.tempStop p).raise Cause.phaseTempShutdown
      (args p [(toUnsigned 16 (s.phaseTemp p), 2)])) := if_pos ⟨hrun, hservice, hlatched, hstop, hpend⟩
  refine .of_next hexec ?_
  rw [State.phase_raise, State.tempStop]
  cases hswitching : (s.phase p).switching <;> simp

/-- What bringing a phase back does to it (R147). -/
theorem State.bringBack_does (p : Fin 20) (s : State) : ((s.bringBack p).phase p).state = .off ∧
    (if (s.conv (convOf p)).on then ((s.bringBack p).phase p).rejoin = true ∧ ((s.bringBack p).phase p).pend = .rejoin ∧
      ((s.bringBack p).conv (convOf p)).moving = true
     else ((s.bringBack p).phase p).inService = true) := by
  unfold State.bringBack
  cases hon : (s.conv (convOf p)).on <;> simp [hon]

theorem phaseTempRestart_does (hstate : (s.phase p).state = .tempStop)
    (hcool : s.phaseTemp p ≤ s.get (K.phaseTemperatureRestart p)) : Does (.phaseTempRestart p) s (fun t =>
      (t.phase p).state = .off ∧ (if (s.conv (convOf p)).on then (t.phase p).pend = .rejoin ∧ (t.conv (convOf p)).moving = true
        else (t.phase p).inService = true)) := by
  have hexec : exec (.phaseTempRestart p) s = .next ((s.bringBack p).raise Cause.phaseTempRestart
      (args p [(toUnsigned 16 (s.phaseTemp p), 2)])) := if_pos ⟨hstate, hcool⟩
  obtain ⟨hoff, hback⟩ := s.bringBack_does p
  refine .of_next hexec ⟨by rwa [State.phase_raise], ?_⟩
  rw [State.phase_raise, State.conv_raise]
  cases hon : (s.conv (convOf p)).on with
  | true =>
    rw [hon, if_pos rfl] at hback
    exact hback.2
  | false =>
    rw [hon] at hback
    exact hback

/-! ### The end of a blend (R147) -/

theorem phaseRejoined_does (hrejoin : (s.phase p).rejoin = true) (hstate : (s.phase p).state = .starting)
    (hswitching : (s.phase p).switching = true)
    (hblend : (s.phase p).since + s.getN (K.convBlendTime (convOf p).idx) * 1000000 ≤ s.now) :
    Does (.phaseRejoined p) s (fun t => (t.phase p).state = .run ∧ (t.phase p).rejoin = false ∧
      (t.phase p).inService = true ∧ t.get (K.phaseTrimWeight p) = 32767) := by
  have hexec : exec (.phaseRejoined p) s = .next (((s.modPhase p (fun y =>
      { y with state := .run, rejoin := false, retry := false, inService := true })).put (K.phaseTrimWeight p) 32767).raiseOn
        Cause.phaseRejoined p) := if_pos ⟨hrejoin, hstate, hswitching, hblend⟩
  refine .of_next hexec ?_
  rw [State.get_raiseOn _ _ _ _ (noting_phaseTrimWeight p), State.get_put_same, State.phase_raiseOn, State.phase_put,
    State.phase_modPhase, if_pos rfl]
  exact ⟨rfl, rfl, rfl, rfl⟩

end

/-- Settles O16: each clause is the lemma on its command above. -/
theorem phasesHiccupRetryAndRejoin : Obligations.PhasesHiccupRetryAndRejoin := by
  unfold Obligations.PhasesHiccupRetryAndRejoin
  exact fun s p => ⟨phaseHiccup_does, phaseRetry_does, phaseRetryOk_does, phaseTempShutdown_does, phaseTempRestart_does,
    phaseRejoined_does⟩

end Sys2Proof.Machine
end

section
/-! Service commands of a phase unit (R137, R146 to R148). -/

namespace Sys2Proof.Machine

theorem phaseServiceCommand_unsigned (p : Fin 20) :
    (Dict.row? (K.phaseServiceCommand p)).map (·.ty.signed) = some false := by
  revert p
  decide

theorem writtenValue_serviceCommand (p : Fin 20) (v : Byte) : writtenValue (K.phaseServiceCommand p) [v] = v.toNat := by
  rw [writtenValue_unsigned _ (phaseServiceCommand_unsigned p)]
  simp [leNat]

/-! ### Leaving service (R146) -/

theorem State.phase_phaseOut (p : Fin 20) (s : State) :
    (s.phaseOut p).phase p = { (s.phase p).toOff with inService := false } := by
  rw [State.phaseOut, State.phase_raiseOn, State.phase_modConv, State.phase_modPhase, if_pos rfl]

theorem State.phaseOut_outbox (p : Fin 20) (s : State) : (s.phaseOut p).outbox = s.outbox :=
  (State.raiseOn_outbox _ _ _).trans (State.modConv_outbox _ _ _)

theorem State.get_phaseOut {k : Nat} (p : Fin 20) (s : State) (hk : noting k = false) : (s.phaseOut p).get k = s.get k :=
  (State.get_raiseOn _ _ _ _ hk).trans (State.get_modConv _ _ _ _)

section
variable {s : State} {p : Fin 20}

theorem State.takeOut_outbox : (s.takeOut p).outbox = s.outbox := by
  unfold State.takeOut
  dsimp only
  split_ifs
  · rfl
  · rw [State.phaseOut_outbox, State.put_outbox]
  · rfl
  · exact State.phaseOut_outbox _ _

/-- A phase in HICCUP or a retry goes at once, its failures forgotten. -/
theorem State.takeOut_of_trouble (hstate : (s.phase p).state ≠ .latched)
    (htrouble : (s.phase p).state = .hiccup ∨ (s.phase p).retry = true) :
    s.takeOut p = (s.put (K.phaseRetryFailures p) 0).phaseOut p :=
  (if_neg hstate).trans (if_pos htrouble)

/-- Another phase goes at its carrier boundary where it switches, else at once. -/
theorem State.takeOut_of_sound (hstate : (s.phase p).state ≠ .latched) (hhiccup : (s.phase p).state ≠ .hiccup)
    (hretry : (s.phase p).retry = false) :
    s.takeOut p = if (s.phase p).switching then s.modPhase p (fun y => { y with pend := .takeOut }) else s.phaseOut p :=
  (if_neg hstate).trans (if_neg (by simp [hhiccup, hretry]))

theorem takeOut_does {sess : Nat} (h : s.takesByte (K.phaseServiceCommand p) sess 1) (hstate : (s.phase p).state ≠ .latched) :
    Does (.takeOut p sess) s (fun t => saidOk s t ∧
      ((s.phase p).state = .hiccup ∨ (s.phase p).retry = true → (t.phase p).state = .off ∧ (t.phase p).inService = false ∧
        t.get (K.phaseRetryFailures p) = 0) ∧
      ((s.phase p).state ≠ .hiccup → (s.phase p).retry = false → (s.phase p).switching = true →
        (t.phase p).pend = .takeOut ∧ (t.phase p).state = (s.phase p).state) ∧
      ((s.phase p).state ≠ .hiccup → (s.phase p).retry = false → (s.phase p).switching = false →
        (t.phase p).state = .off ∧ (t.phase p).inService = false)) := by
  have hown : s.serviceCommand p (writtenValue (K.phaseServiceCommand p) (oneByte sess 1).bytes) = (s.takeOut p).ok :=
    if_pos (writtenValue_serviceCommand p 1)
  refine .of_next (congrArg Host.Outcome.next (State.hostWrite_ok h hown)) ⟨?_, fun htrouble => ?_,
    fun hhiccup hretry hswitching => ?_, fun hhiccup hretry hswitching => ?_⟩
  · exact congrArg (OutMsg.status 0 :: ·) State.takeOut_outbox
  · rw [State.phase_send, State.get_send, State.takeOut_of_trouble hstate htrouble, State.phase_phaseOut,
      State.get_phaseOut _ _ (noting_phaseRetryFailures p), State.get_put_same]
    exact ⟨rfl, rfl, rfl⟩
  · rw [State.phase_send, State.takeOut_of_sound hstate hhiccup hretry, hswitching, if_pos rfl, State.phase_modPhase,
      if_pos rfl]
    exact ⟨rfl, rfl⟩
  · rw [State.phase_send, State.takeOut_of_sound hstate hhiccup hretry, hswitching, if_neg Bool.false_ne_true,
      State.phase_phaseOut]
    exact ⟨rfl, rfl⟩

/-! ### Coming back (R147, R148) -/

theorem State.bringBack_outbox : (s.bringBack p).outbox = s.outbox := by
  unfold State.bringBack
  dsimp only
  split_ifs
  · rw [State.put_outbox, State.modConv_outbox, State.modPhase_outbox]
  · rfl

theorem bringBack_does {sess : Nat} (h : s.takesByte (K.phaseServiceCommand p) sess 2) (hfree : s.bringBackBlocked p = 0) :
    Does (.bringBack p sess) s (fun t => saidOk s t ∧ (t.phase p).state = .off ∧
      (if (s.conv (convOf p)).on then (t.phase p).rejoin = true ∧ (t.phase p).pend = .rejoin
       else (t.phase p).inService = true)) := by
  have hown : s.serviceCommand p (writtenValue (K.phaseServiceCommand p) (oneByte sess 2).bytes) = (s.bringBack p).ok := by
    rw [oneByte, writtenValue_serviceCommand]
    exact (if_neg (by decide)).trans ((if_pos rfl).trans (if_pos hfree))
  obtain ⟨hoff, hback⟩ := s.bringBack_does p
  refine .of_next (congrArg Host.Outcome.next (State.hostWrite_ok h hown))
    ⟨congrArg (OutMsg.status 0 :: ·) State.bringBack_outbox, hoff, ?_⟩
  cases hon : (s.conv (convOf p)).on with
  | true =>
    rw [hon, if_pos rfl] at hback
    exact ⟨hback.1, hback.2.1⟩
  | false =>
    rw [hon] at hback
    exact hback

/-! ### Clearing a latch (R137) -/

theorem clearLatch_does {sess : Nat} (h : s.takesByte (K.phaseServiceCommand p) sess 3) (hstate : (s.phase p).state = .latched) :
    Does (.clearLatch p sess) s (fun t => saidOk s t ∧ (t.phase p).state = .off ∧ (t.phase p).inService = false ∧
      t.get (K.phaseRetryFailures p) = 0) := by
  have hown : s.serviceCommand p (writtenValue (K.phaseServiceCommand p) (oneByte sess 3).bytes) = (s.clearLatch p).ok := by
    rw [oneByte, writtenValue_serviceCommand]
    exact (if_neg (by decide)).trans ((if_neg (by decide)).trans (if_pos hstate))
  refine .of_next (congrArg Host.Outcome.next (State.hostWrite_ok h hown)) ⟨rfl, ?_⟩
  rw [State.phase_send, State.get_send, State.clearLatch, State.phase_put, State.phase_modPhase, if_pos rfl,
    State.get_put_same]
  exact ⟨rfl, rfl, rfl⟩

end

/-- Settles O17: each clause is the lemma on its command above. -/
theorem phaseServiceCommandsAct : Obligations.PhaseServiceCommandsAct := by
  unfold Obligations.PhaseServiceCommandsAct
  exact fun s p sess => ⟨takeOut_does, bringBack_does, clearLatch_does⟩

end Sys2Proof.Machine
end

section
/-! Starting and stopping converters (R125, R129 to R131, R141, R142): what a start changes and what it leaves. -/

namespace Sys2Proof.Machine

/-! ### What a start leaves -/

/-- Objects that starting a converter writes. -/
def startShown (k : Nat) : Prop := k = K.busReferenceInForce ∨ k = K.busAtTarget ∨ ∃ p : Fin 20, k = K.phaseTrimWeight p

theorem startShown_low {k : Nat} (h : k < 0x310000) (h1 : k ≠ K.busReferenceInForce) (h2 : k ≠ K.busAtTarget) :
    ¬ startShown k := by
  rintro (rfl | rfl | ⟨p, rfl⟩)
  · exact h1 rfl
  · exact h2 rfl
  · unfold K.phaseTrimWeight at h
    omega

/-- What starting a converter leaves: the other converter and its phases, the channels, the counters of R141, the module's
own state, and every object but those it shows. -/
structure ConvStartKept (c : Conv) (s t : State) : Prop where
  conv : ∀ d ≠ c, t.conv d = s.conv d
  phase : ∀ p ∉ phasesOf c, t.phase p = s.phase p
  chans : t.pow.chans = s.pow.chans
  busLow : t.pow.busLow = s.pow.busLow
  ovWaiting : t.pow.ovWaiting = s.pow.ovWaiting
  md : t.md = s.md
  get : ∀ k, ¬ startShown k → t.get k = s.get k

theorem ConvStartKept.rfl {c : Conv} {s : State} : ConvStartKept c s s := by constructor <;> intros <;> rfl

theorem ConvStartKept.trans {c : Conv} {s t u : State} (h : ConvStartKept c s t) (g : ConvStartKept c t u) : ConvStartKept c s u where
  conv d hd := (g.conv d hd).trans (h.conv d hd)
  phase p hp := (g.phase p hp).trans (h.phase p hp)
  chans := g.chans.trans h.chans
  busLow := g.busLow.trans h.busLow
  ovWaiting := g.ovWaiting.trans h.ovWaiting
  md := g.md.trans h.md
  get k hk := (g.get k hk).trans (h.get k hk)

theorem ConvStartKept.ite {c : Conv} {s t u : State} {q : Prop} [Decidable q] (ht : ConvStartKept c s t) (hu : ConvStartKept c s u) :
    ConvStartKept c s (if q then t else u) :=
  iteInduction (motive := ConvStartKept c s) (fun _ => ht) (fun _ => hu)

theorem ConvStartKept.of_pow {c : Conv} {s t : State} (hpow : t.pow = s.pow) (hmd : t.md = s.md)
    (hget : ∀ k, ¬ startShown k → t.get k = s.get k) : ConvStartKept c s t where
  conv d _ := State.conv_congr d hpow
  phase p _ := State.phase_congr p hpow
  chans := by rw [hpow]
  busLow := by rw [hpow]
  ovWaiting := by rw [hpow]
  md := hmd
  get := hget

section
variable (c : Conv) (s : State)

theorem State.modConv_convStartKept (f : ConvSt → ConvSt) : ConvStartKept c s (s.modConv c f) where
  conv d hd := by rw [State.conv_modConv, if_neg hd]
  phase p _ := State.phase_modConv _ _ _ _
  chans := by cases c <;> rfl
  busLow := by cases c <;> rfl
  ovWaiting := by cases c <;> rfl
  md := State.modConv_md _ _ _
  get k _ := State.get_modConv _ _ _ _

theorem State.modPhase_convStartKept {p : Fin 20} (hp : p ∈ phasesOf c) (f : Phase → Phase) : ConvStartKept c s (s.modPhase p f) where
  conv d _ := State.conv_modPhase _ _ _ _
  phase q hq := by rw [State.phase_modPhase, if_neg (ne_of_mem_of_not_mem hp hq).symm]
  chans := by rfl
  busLow := by rfl
  ovWaiting := by rfl
  md := by rfl
  get k _ := by rfl

theorem State.put_convStartKept {k : Nat} (hk : startShown k) (v : Int) : ConvStartKept c s (s.put k v) :=
  .of_pow (by rfl) (by rfl) fun _ hj => State.get_put_other _ _ _ _ fun e => hj (e ▸ hk)

theorem State.startPhases_convStartKept : ConvStartKept c s (s.startPhases c) := by
  refine State.each_mem .rfl fun p hp t ht => ht.trans ?_
  have hp : p ∈ phasesOf c := List.mem_of_mem_filter hp
  split
  · exact .rfl
  · exact .rfl
  · exact (State.modPhase_convStartKept c t hp _).trans (State.put_convStartKept c _ (.inr (.inr ⟨p, by rfl⟩)) _)

theorem State.putFeedPower_convStartKept (v : Int) : ConvStartKept c s (s.putFeedPower v) :=
  .of_pow (s.putFeedPower_pow v)
    (iteInduction (motive := fun t : State => t.md = s.md) (fun _ => by rfl) (fun _ => by rfl))
    (fun k _ => iteInduction (motive := fun t : State => t.get k = s.get k) (fun _ => by rfl) (fun _ => by rfl))

theorem State.refMicro_convStartKept (v : Nat) : ConvStartKept c s (s.modPow (fun w => { w with refMicro := v })) where
  conv d _ := by cases d <;> rfl
  phase p _ := by rfl
  chans := by rfl
  busLow := by rfl
  ovWaiting := by rfl
  md := by rfl
  get k _ := by rfl

theorem State.softStart_convStartKept : ConvStartKept c s (s.softStart c) := by
  cases c with
  | storage =>
    unfold State.softStart
    exact State.modConv_convStartKept .storage s _
  | feed =>
    refine .ite ?_ (State.putFeedPower_convStartKept .feed s 0)
    exact (((State.refMicro_convStartKept .feed s _).trans (State.put_convStartKept .feed _ (.inl (by rfl)) _)).trans
      (State.modConv_convStartKept .feed _ _)).trans (State.put_convStartKept .feed _ (.inr (.inl (by rfl))) _)

/-! ### What a start does to its converter -/

/-- A converter that starts from rest (R129). -/
def ConvSt.started (x : ConvSt) : ConvSt :=
  { x with on := true, stopPend := false, stopRule := none, waitFeed := false, waitBus := false, softHeld := false }

theorem State.startConv_eq : s.startConv c = ((s.modConv c ConvSt.started).startPhases c).softStart c := rfl

theorem State.startConv_convStartKept : ConvStartKept c s (s.startConv c) :=
  ((State.modConv_convStartKept c s _).trans (State.startPhases_convStartKept c _)).trans (State.softStart_convStartKept c _)

theorem State.conv_startPhases (d : Conv) : (s.startPhases c).conv d = s.conv d := by
  refine State.each_same (State.conv · d) s fun p _ t => ?_
  split
  · rfl
  · rfl
  · rw [State.conv_put, State.conv_modPhase]

/-- The ramp of a soft start is all that it changes of its converter. -/
theorem State.conv_softStart : ∃ soft held, (s.softStart c).conv c = { s.conv c with soft := soft, softHeld := held } := by
  cases c with
  | storage => exact ⟨_, _, rfl⟩
  | feed =>
    refine iteInduction (motive := fun t : State => ∃ soft held, t.conv .feed = { s.conv .feed with soft := soft, softHeld := held })
      (fun _ => ⟨_, _, rfl⟩) (fun _ => ⟨(s.conv .feed).soft, (s.conv .feed).softHeld, ?_⟩)
    exact State.conv_congr .feed (s.putFeedPower_pow 0)

theorem State.conv_startConv : ((s.startConv c).conv c).on = true ∧ ((s.startConv c).conv c).stopRule = none := by
  obtain ⟨soft, held, hsoft⟩ := State.conv_softStart c ((s.modConv c ConvSt.started).startPhases c)
  rw [State.startConv_eq, hsoft, State.conv_startPhases, State.conv_modConv, if_pos rfl]
  exact ⟨rfl, rfl⟩

theorem State.soft_startConv_storage : ((s.startConv .storage).conv .storage).soft = some 0 := rfl

end

/-! ### The feed and the storage converter (R129) -/

section
variable {s : State}

theorem State.tryFeed_of_window (hmay : s.mayStart .feed = true) (hwindow : s.feedInWindow = true)
    (hwait : (s.conv .feed).waitFeed = false ∨ s.getN K.feedFeedRestartDelay * 1000 ≤ s.pow.feedOk) :
    s.tryFeed = s.startConv .feed := by
  unfold State.tryFeed
  rw [hmay, hwindow, if_neg (by decide), if_pos]
  simpa using hwait

theorem State.tryStorage_of_bus (hmay : s.mayStart .storage = true) (hbus : 760000 ≤ s.busMilli) :
    s.tryStorage = s.startConv .storage := by
  unfold State.tryStorage
  rw [hmay, if_neg (by decide), if_pos (by simp [hbus])]

theorem State.tryFeed_convStartKept : ConvStartKept .feed s s.tryFeed :=
  .ite .rfl (.ite (State.startConv_convStartKept .feed s) (State.modConv_convStartKept .feed s _))

theorem State.tryStorage_convStartKept : ConvStartKept .storage s s.tryStorage :=
  .ite .rfl (.ite (State.startConv_convStartKept .storage s) (State.modConv_convStartKept .storage s _))

/-- A feed converter that may start is under no rule after a start: it starts, or waits for its feed. -/
theorem State.tryFeed_stopRule (hmay : s.mayStart .feed = true) : (s.tryFeed.conv .feed).stopRule = none := by
  unfold State.tryFeed
  rw [hmay, if_neg (by decide)]
  split
  · exact (s.conv_startConv .feed).2
  · rfl

theorem State.tryStorage_stopRule (hmay : s.mayStart .storage = true) : (s.tryStorage.conv .storage).stopRule = none := by
  unfold State.tryStorage
  rw [hmay, if_neg (by decide)]
  split
  · exact (s.conv_startConv .storage).2
  · rfl

theorem State.startWaiting_chans (l : List Conv) : (s.startWaiting l).pow.chans = s.pow.chans :=
  (State.when_same (·.pow.chans) _ _ State.tryStorage_convStartKept.chans).trans
    (State.when_same (·.pow.chans) _ _ State.tryFeed_convStartKept.chans)

end

end Sys2Proof.Machine
end

section
/-! Converters start and take their commands (R126 to R131, R491). -/

namespace Sys2Proof.Machine

theorem convEnable_unsigned (c : Conv) : (Dict.row? (K.convEnable c.idx)).map (·.ty.signed) = some false := by
  cases c <;> decide

section
variable {s : State}

theorem convertersStart_does (hmay : s.mayStart .feed = true) (hwindow : s.feedInWindow = true)
    (hwait : (s.conv .feed).waitFeed = false ∨ s.getN K.feedFeedRestartDelay * 1000 ≤ s.pow.feedOk) :
    Does .convertersStart s (fun t => (t.conv .feed).on = true ∧ (t.conv .feed).stopRule = none) := by
  have hexec : exec .convertersStart s = .next (s.startConv .feed).tryStorage := by
    rw [← State.tryFeed_of_window hmay hwindow hwait]
    rfl
  refine .of_next hexec ?_
  rw [State.tryStorage_convStartKept.conv .feed (by decide)]
  exact s.conv_startConv .feed

theorem storageConverterStart_does (hmay : s.mayStart .storage = true) (hbus : 760000 ≤ s.busMilli) :
    Does .storageConverterStart s (fun t => (t.conv .storage).on = true ∧ (t.conv .storage).soft = some 0) := by
  have hexec : exec .storageConverterStart s = .next (s.startConv .storage) := by
    rw [← State.tryStorage_of_bus hmay hbus]
    rfl
  exact .of_next hexec ⟨(s.conv_startConv .storage).1, s.soft_startConv_storage⟩

theorem converterDisable_does {c : Conv} {w : HostWrite} (h : s.takes (K.convEnable c.idx) w) (hbytes : w.bytes = [0]) :
    Does (.converterEnableWrite c w) s (fun t => t.get (K.convEnable c.idx) = 0 ∧ (t.conv c).stopPend = (s.conv c).on ∧
      (t.conv c).waitFeed = false ∧ saidOk s t) := by
  have hvalue : writtenValue (K.convEnable c.idx) w.bytes = 0 := by
    rw [writtenValue_unsigned _ (convEnable_unsigned c), hbytes]
    rfl
  have hown : s.enableWrite c (writtenValue (K.convEnable c.idx) w.bytes) = ((s.put (K.convEnable c.idx) 0).modConv c
      (fun x => { x with stopPend := x.on, waitFeed := false, waitBus := false })).ok := by
    rw [hvalue]
    rfl
  refine .of_next (congrArg Host.Outcome.next (State.hostWrite_ok h hown)) ?_
  rw [State.get_send, State.get_modConv, State.get_put_same, State.conv_send, State.conv_modConv, if_pos rfl, State.conv_put]
  exact ⟨rfl, rfl, rfl, congrArg (OutMsg.status 0 :: ·) (State.modConv_outbox _ _ _)⟩

theorem converterEnable_does {c : Conv} {w : HostWrite} (h : s.takes (K.convEnable c.idx) w) (hbytes : w.bytes = [1]) :
    Does (.converterEnableWrite c w) s (fun t => t.get (K.convEnable c.idx) = 1 ∧ t.pow = s.pow ∧ saidOk s t) := by
  have hvalue : writtenValue (K.convEnable c.idx) w.bytes = 1 := by
    rw [writtenValue_unsigned _ (convEnable_unsigned c), hbytes]
    rfl
  have hown : s.enableWrite c (writtenValue (K.convEnable c.idx) w.bytes) = (s.put (K.convEnable c.idx) 1).ok := by
    rw [hvalue]
    rfl
  exact .of_next (congrArg Host.Outcome.next (State.hostWrite_ok h hown)) ⟨State.get_put_same _ _ _, rfl, rfl⟩

/-! ### The voltage target (R126, R127) -/

/-- Does a host's target of now come after the one in force (R128)? -/
def State.heedsHost (s : State) : Bool :=
  decide (s.pow.targetStamp < s.ft) || (decide (s.pow.targetStamp = s.ft) && !s.pow.targetClove)

/-- A host's target, in force. -/
def State.targetSet (mv : Int) (s : State) : State :=
  ({ s with pow := { s.pow with targetStamp := s.ft, targetClove := false } }).put K.busVoltageTarget mv

/-- A host's target, in force and counted. -/
def State.targetTaken (mv : Int) (s : State) : State := (s.when s.heedsHost (State.targetSet mv)).inc K.busTargetSequence

theorem State.heedsHost_iff (s : State) : s.heedsHost = true ↔
    s.pow.targetStamp < s.ft ∨ (s.pow.targetStamp = s.ft ∧ s.pow.targetClove = false) := by
  simp [State.heedsHost]

theorem State.get_targetTaken (mv : Int) (s : State) : (s.targetTaken mv).get K.busVoltageTarget =
    if s.pow.targetStamp < s.ft ∨ (s.pow.targetStamp = s.ft ∧ s.pow.targetClove = false) then mv
    else s.get K.busVoltageTarget := by
  rw [State.targetTaken, State.get_inc_other _ _ _ (by decide)]
  by_cases hheeds : s.heedsHost = true
  · rw [hheeds, if_pos (s.heedsHost_iff.1 hheeds)]
    exact State.get_put_same _ _ _
  · rw [Bool.eq_false_of_not_eq_true hheeds, if_neg fun h => hheeds (s.heedsHost_iff.2 h)]
    rfl

theorem State.targetTaken_counts (mv : Int) (s : State) : counts s (s.targetTaken mv) K.busTargetSequence 1 :=
  counts_from_get_eq (State.inc_counts _ _)
    (State.when_same (State.get · K.busTargetSequence) _ _ (State.get_put_other _ _ _ _ (by decide)))

theorem State.targetTaken_refMicro (mv : Int) (s : State) : (s.targetTaken mv).pow.refMicro = s.pow.refMicro := by
  rw [State.targetTaken, State.inc_pow]
  exact State.when_same (·.pow.refMicro) _ _ rfl

theorem State.targetTaken_outbox (mv : Int) (s : State) : (s.targetTaken mv).outbox = s.outbox :=
  (State.inc_outbox _ _).trans (State.when_same State.outbox _ _ rfl)

/-- The flag tells whether the reference is at the target. -/
theorem State.get_showAtTarget_flag (s : State) : s.showAtTarget.get K.busAtTarget =
    if (s.pow.refMicro : Int) = s.get K.busVoltageTarget * 1000 then 1 else 0 := by
  rw [State.showAtTarget, State.putB, State.get_put_same]
  simp only [decide_eq_true_eq]

theorem State.get_showAtTarget_other {k : Nat} (s : State) (h : k ≠ K.busAtTarget) : s.showAtTarget.get k = s.get k :=
  State.get_putB_other _ _ _ _ h

theorem voltageTargetWrite_does {w : HostWrite} (h : s.takes K.busVoltageTarget w) :
    Does (.voltageTargetWrite w) s (fun t => counts s t K.busTargetSequence 1 ∧ saidOk s t ∧ t.get K.busVoltageTarget =
        (if s.pow.targetStamp < s.ft ∨ (s.pow.targetStamp = s.ft ∧ s.pow.targetClove = false) then (leNat w.bytes : Int)
         else s.get K.busVoltageTarget) ∧
        t.get K.busAtTarget = (if (s.pow.refMicro : Int) = t.get K.busVoltageTarget * 1000 then 1 else 0)) := by
  have hvalue : writtenValue K.busVoltageTarget w.bytes = leNat w.bytes := writtenValue_unsigned _ (by decide)
  have hexec : exec (.voltageTargetWrite w) s = .next ((s.targetTaken (leNat w.bytes)).showAtTarget.send (.status 0)) := by
    rw [← hvalue]
    exact congrArg Host.Outcome.next (State.hostWrite_ok h rfl)
  refine .of_next hexec ?_
  rw [State.get_send, State.get_send, State.get_showAtTarget_flag, State.get_showAtTarget_other _ (by decide),
    State.get_targetTaken, State.targetTaken_refMicro]
  exact ⟨counts_of_get_eq (State.targetTaken_counts _ _) (State.get_showAtTarget_other _ (by decide)),
    congrArg (OutMsg.status 0 :: ·) (State.targetTaken_outbox _ _), rfl, rfl⟩

end

/-- Settles O22: each clause is the lemma on its command above. -/
theorem convertersStartAndTakeTheirCommands : Obligations.ConvertersStartAndTakeTheirCommands := by
  unfold Obligations.ConvertersStartAndTakeTheirCommands
  exact fun s w => ⟨convertersStart_does, storageConverterStart_does, fun _ => converterDisable_does,
    fun _ => converterEnable_does, voltageTargetWrite_does⟩

end Sys2Proof.Machine
end

section
/-! Limits of the bus and the feed (R141, R142), and the restarts that follow them. -/

namespace Sys2Proof.Machine

section
variable {s : State}

/-! ### The bus (R141) -/

theorem busUndervoltage_begins (hforce : s.pow.uvInForce = false) (hlow : 100 ≤ s.pow.uvLow) :
    Does .busUndervoltage s (fun t => t.pow.uvInForce = true) := by
  have hexec : exec .busUndervoltage s = .next ((s.modPow (fun w => { w with uvInForce := true })).raise
      Cause.busUndervoltage (args0 [(s.busMilli.toNat, 4)])) := if_pos ⟨by rw [hforce]; rfl, hlow⟩
  exact .of_next hexec (congrArg PowerState.uvInForce (State.raise_pow _ _ _))

theorem busUndervoltage_ends (hforce : s.pow.uvInForce = true) (hhigh : 100 ≤ s.pow.uvHigh) :
    Does .busUndervoltage s (fun t => t.pow.uvInForce = false) := by
  have hexec : exec .busUndervoltage s = .next (s.modPow (fun w => { w with uvInForce := false })) :=
    (if_neg fun h => by simp [hforce] at h).trans (if_pos ⟨hforce, hhigh⟩)
  exact .of_next hexec rfl

theorem ovLatchClear_does {sess : Nat} (h : s.takesByte K.busOverVoltageLatch sess 1) :
    Does (.ovLatchClear sess) s (fun t => t.get K.busOverVoltageLatch = 0 ∧ t.pow.ovTrips = [] ∧ saidOk s t) := by
  have hvalue : writtenValue K.busOverVoltageLatch (oneByte sess 1).bytes = 1 := writtenValue_unsigned _ (by decide)
  have hown : State.ovClear (writtenValue K.busOverVoltageLatch (oneByte sess 1).bytes) s =
      ((s.put K.busOverVoltageLatch 0).modPow (fun x => { x with ovTrips := [] })).ok := if_pos hvalue
  refine .of_next (congrArg Host.Outcome.next (State.hostWrite_ok h hown)) ⟨?_, rfl, rfl⟩
  rw [State.get_send, State.get_modPow, State.get_put_same]

/-! ### The feed (R142) -/

/-- A running feed converter under no other rule stops at its carrier boundary. -/
theorem State.feedStop_stops (cause : Nat) (hon : (s.conv .feed).on = true)
    (hrule : (s.conv .feed).stopRule = none ∨ (s.conv .feed).stopRule = some .trip) :
    ((s.feedStop cause).conv .feed).stopPend = true ∧ ((s.feedStop cause).conv .feed).stopRule = some .feed := by
  have hfree : ((s.conv .feed).on && ((s.conv .feed).stopRule.isNone || decide ((s.conv .feed).stopRule = some .trip))) = true := by
    rcases hrule with h | h <;> rw [hon, h] <;> rfl
  unfold State.feedStop
  rw [if_pos hfree, State.conv_raise, State.stopConv, if_pos hon]
  exact ⟨rfl, rfl⟩

theorem feedUndervoltage_does (hon : (s.conv .feed).on = true)
    (hrule : (s.conv .feed).stopRule = none ∨ (s.conv .feed).stopRule = some .trip) (hlow : 1000 ≤ s.pow.feedLow) :
    Does .feedUndervoltage s (fun t => (t.conv .feed).stopPend = true ∧ (t.conv .feed).stopRule = some .feed) :=
  .of_next (congrArg Host.Outcome.next (if_pos (decide_eq_true hlow))) (State.feedStop_stops _ hon hrule)

theorem feedOvervoltage_does (hon : (s.conv .feed).on = true)
    (hrule : (s.conv .feed).stopRule = none ∨ (s.conv .feed).stopRule = some .trip) (hhigh : 100 ≤ s.pow.feedHigh) :
    Does .feedOvervoltage s (fun t => (t.conv .feed).stopPend = true ∧ (t.conv .feed).stopRule = some .feed) :=
  .of_next (congrArg Host.Outcome.next (if_pos (decide_eq_true hhigh))) (State.feedStop_stops _ hon hrule)

theorem feedRestart_does (hdelay : s.getN K.feedFeedRestartDelay * 1000 ≤ s.pow.feedOk) (hmay : s.mayStart .feed = true)
    (hwaits : (s.conv .feed).stopRule = some .feed ∨ (s.conv .feed).waitFeed = true) :
    Does .feedRestart s (fun t => (t.conv .feed).stopRule = none ∧ (s.feedInWindow = true → (t.conv .feed).on = true)) := by
  have hexec : exec .feedRestart s = .next s.tryFeed := if_pos ⟨hdelay, hwaits⟩
  refine .of_next hexec ⟨State.tryFeed_stopRule hmay, fun hwindow => ?_⟩
  rw [State.tryFeed_of_window hmay hwindow (.inr hdelay)]
  exact (s.conv_startConv .feed).1

/-! ### The end of an over-voltage stop (R141) -/

theorem State.allLatched_congr {t : State} {c : Conv} (h : ∀ p ∈ phasesOf c, t.phase p = s.phase p) :
    t.allLatched c = s.allLatched c := by
  have hall : ∀ f : Phase → Bool, (phasesOf c).all (fun p => f (t.phase p)) = (phasesOf c).all (fun p => f (s.phase p)) :=
    fun f => by
      rw [Bool.eq_iff_iff, List.all_eq_true, List.all_eq_true]
      exact forall₂_congr fun p hp => by rw [h p hp]
  have hany : ∀ f : Phase → Bool, (phasesOf c).any (fun p => f (t.phase p)) = (phasesOf c).any (fun p => f (s.phase p)) :=
    fun f => by
      rw [Bool.eq_iff_iff, List.any_eq_true, List.any_eq_true]
      exact exists_congr fun p => and_congr_right fun hp => by rw [h p hp]
  unfold State.allLatched
  rw [hall (fun x => decide (x.state = .latched) || !x.inService), hany (fun x => decide (x.state = .latched))]

theorem State.inService_congr {t : State} {c : Conv} (h : ∀ p ∈ phasesOf c, t.phase p = s.phase p) :
    t.inService c = s.inService c :=
  List.filter_congr fun p hp => by rw [h p hp]

theorem phasesOf_disjoint {c d : Conv} (h : d ≠ c) {p : Fin 20} (hp : p ∈ phasesOf d) : p ∉ phasesOf c :=
  fun hc => h ((convOf_eq hp).symm.trans (convOf_eq hc))

/-- A start of one converter leaves the other, stopped for over-voltage, as able to start as it was. -/
theorem ConvStartKept.mayStart {t : State} {c d : Conv} (h : ConvStartKept c s t) (hd : d ≠ c)
    (hrule : (s.conv d).stopRule = some .busOv) : t.mayStart d = s.mayStart d := by
  have hphases : ∀ p ∈ phasesOf d, t.phase p = s.phase p := fun p hp => h.phase p (phasesOf_disjoint hd hp)
  have henable : t.getB (K.convEnable d.idx) = s.getB (K.convEnable d.idx) :=
    State.getB_congr (h.get _ (startShown_low (by cases d <;> decide) (by cases d <;> decide) (by cases d <;> decide)))
  have hlatch : t.getB K.busOverVoltageLatch = s.getB K.busOverVoltageLatch :=
    State.getB_congr (h.get _ (startShown_low (by decide) (by decide) (by decide)))
  unfold State.mayStart State.ruleMet
  simp only [h.conv d hd, hrule, State.allLatched_congr hphases, State.inService_congr hphases, henable, hlatch, h.md, h.busLow]

/-- The restart of the converters that over-voltage had stopped lifts that stop of each that may start. -/
theorem State.startWaiting_lifts {c : Conv} {l : List Conv} (hl : c ∈ l) (hrule : (s.conv c).stopRule = some .busOv)
    (hmay : s.mayStart c = true) : ((s.startWaiting l).conv c).stopRule = none := by
  have hmem : l.contains c = true := List.contains_iff_mem.2 hl
  unfold State.startWaiting
  cases c with
  | feed =>
    rw [State.when_same (State.conv · .feed) _ _ (State.tryStorage_convStartKept.conv .feed (by decide)), hmem]
    exact State.tryFeed_stopRule hmay
  | storage =>
    rw [hmem]
    refine State.tryStorage_stopRule ?_
    rw [State.when_same (State.mayStart · .storage) _ _ (State.tryFeed_convStartKept.mayStart (by decide) hrule)]
    exact hmay

theorem State.startWaiting_ovWaiting (l : List Conv) : (s.startWaiting l).pow.ovWaiting = s.pow.ovWaiting :=
  (State.when_same (·.pow.ovWaiting) _ _ State.tryStorage_convStartKept.ovWaiting).trans
    (State.when_same (·.pow.ovWaiting) _ _ State.tryFeed_convStartKept.ovWaiting)

theorem busOvRestart_does (hwaiting : s.pow.ovWaiting = true) (hlow : 10000 ≤ s.pow.busLow)
    (hlatch : s.get K.busOverVoltageLatch = 0) : Does .busOvRestart s (fun t => t.pow.ovWaiting = false ∧
      ∀ c : Conv, (s.conv c).stopRule = some .busOv → s.mayStart c = true → (t.conv c).stopRule = none) := by
  have hunlatched : (!s.getB K.busOverVoltageLatch) = true := by simp [State.getB, hlatch]
  have hexec : exec .busOvRestart s = .next ((s.modPow (fun w => { w with ovWaiting := false })).startWaiting
      (convs.filter (fun c => decide ((s.conv c).stopRule = some .busOv)))) := by
    refine (if_pos ⟨hwaiting, hlow, hunlatched⟩).trans ?_
    rfl
  refine .of_next hexec ⟨State.startWaiting_ovWaiting _, fun c hrule hmay => ?_⟩
  refine State.startWaiting_lifts (List.mem_filter.2 ⟨mem_convs c, decide_eq_true hrule⟩) ?_ ?_
  · cases c <;> exact hrule
  · cases c <;> exact hmay

end

/-- Settles O20: each clause is the lemma on its command above. -/
theorem busAndFeedLimitsAreReported : Obligations.BusAndFeedLimitsAreReported := by
  unfold Obligations.BusAndFeedLimitsAreReported
  exact fun s sess => ⟨busUndervoltage_begins, busUndervoltage_ends,
    fun hon hrule => ⟨feedUndervoltage_does hon hrule, feedOvervoltage_does hon hrule⟩, feedRestart_does, ovLatchClear_does⟩

end Sys2Proof.Machine
end

section
/-! Sense channels that open and recover (R125, R490). -/

namespace Sys2Proof.Machine

theorem State.chan_stopConv (c : Conv) (r : StopRule) (a : Fin 48) (s : State) : (s.stopConv c r).chan a = s.chan a :=
  iteInduction (motive := fun t : State => t.chan a = s.chan a) (fun _ => State.chan_modConv _ _ _ _) (fun _ => rfl)

theorem State.chan_phaseOut (p : Fin 20) (a : Fin 48) (s : State) : (s.phaseOut p).chan a = s.chan a := by
  rw [State.phaseOut, State.chan_raiseOn, State.chan_modConv, State.chan_modPhase]

/-- What a lost channel stops are converters and phases. -/
theorem State.chan_senseLost (c a : Fin 48) (s : State) : (s.senseLost c).chan a = s.chan a := by
  unfold State.senseLost
  split
  · exact State.each_same (State.chan · a) s fun k _ t => State.chan_stopConv _ _ _ _
  · split <;> exact State.chan_stopConv _ _ _ _
  · exact State.chan_stopConv _ _ _ _
  · refine State.each_same (State.chan · a) s fun p _ t => ?_
    split_ifs
    · rfl
    · exact State.chan_modPhase _ _ _ _
    · exact State.when_same (State.chan · a) _ _ (State.chan_phaseOut _ _ _)

section
variable {s : State} {c : Fin 48}

theorem State.partner_congr {t : State} (h : t.getN (K.chanRedundantPartner c) = s.getN (K.chanRedundantPartner c)) :
    t.partner c = s.partner c := by
  unfold State.partner
  rw [h]

theorem senseSuspect_does : Does (.senseSuspect c) s (fun t =>
    t.chan c = { s.chan c with suspect := decide (16 ≤ (s.chan c).run) } ∧ ∀ d, d ≠ c → t.chan d = s.chan d) :=
  .of_next rfl ⟨by rw [State.chan_modChan, if_pos rfl], fun d hd => by rw [State.chan_modChan, if_neg hd]⟩

theorem senseOpen_does (hused : s.getN (K.chanFunction c) ≠ 0) (hshut : (s.chan c).open_ = false) (hrun : 128 ≤ (s.chan c).run) :
    Does (.senseOpen c) s (fun t => (t.chan c).open_ = true ∧
      ∀ d, s.partner c = some d → d ≠ c → (s.chan d).open_ = false → (t.chan c).switched = true) := by
  have hopens : ¬ (s.getN (K.chanFunction c) = 0 ∨ (s.chan c).open_ = true ∨ (s.chan c).run < 128) := by
    rintro (h | h | h)
    · exact hused h
    · exact Bool.false_ne_true (hshut.symm.trans h)
    · omega
  have hpartner : ((s.modChan c (fun x => { x with open_ := true })).raiseOn Cause.senseOpen c).partner c = s.partner c := by
    have hkey : noting (K.chanRedundantPartner c) = false :=
      noting_of_power (by unfold K.chanRedundantPartner; omega) (by unfold K.chanRedundantPartner; omega)
    exact State.partner_congr (State.getN_congr (State.get_raiseOn _ _ _ _ hkey))
  show ∃ t, execSenseOpen c s = .next t ∧ _
  unfold execSenseOpen
  rw [if_neg hopens]
  dsimp only
  rw [hpartner]
  cases hd : s.partner c with
  | none => exact ⟨_, rfl, by simp [State.chan_senseLost], by simp⟩
  | some d =>
    dsimp only
    split
    · exact ⟨_, rfl, by simp, by simp⟩
    · rename_i hinvalid
      refine ⟨_, rfl, by simp [State.chan_senseLost], fun e he hne hvalid => absurd ?_ hinvalid⟩
      obtain rfl := Option.some.inj he
      simp [State.chanValid, hne, hvalid]

theorem senseOpenClear_does (hopen : (s.chan c).open_ = true) (hrun : (s.chan c).run < 128)
    (hclear : (s.chan c).runAt + 10000000 ≤ s.now) :
    Does (.senseOpenClear c) s (fun t => (t.chan c).open_ = false ∧ (t.chan c).switched = false) := by
  have hexec : ∃ l, exec (.senseOpenClear c) s =
      .next ((s.modChan c (fun x => { x with open_ := false, switched := false })).startWaiting l) :=
    ⟨_, if_pos ⟨hopen, hrun, hclear⟩⟩
  obtain ⟨l, hexec⟩ := hexec
  refine .of_next hexec ?_
  have hchan : ∀ t : State, (t.startWaiting l).chan c = t.chan c := fun t => by
    unfold State.chan
    rw [State.startWaiting_chans]
  rw [hchan, State.chan_modChan, if_pos rfl]
  exact ⟨rfl, rfl⟩

end

/-- Settles O21: each clause is the lemma on its command above. -/
theorem senseChannelsOpenAndRecover : Obligations.SenseChannelsOpenAndRecover := by
  unfold Obligations.SenseChannelsOpenAndRecover
  exact fun s c => ⟨senseSuspect_does, senseOpen_does, senseOpenClear_does⟩

end Sys2Proof.Machine
end

section
/-! Burst (R133, R134) and sharing (R145): what they do to a phase of their converter. -/

namespace Sys2Proof.Machine

section
variable {s : State} {c : Conv} {p : Fin 20}

/-! ### Entering and leaving burst -/

/-- The phases as burst begins: each running one idles. -/
def State.idled (c : Conv) (s : State) : State :=
  s.each (phasesOf c) (fun p s => s.when (decide ((s.phase p).state = .run))
    (State.modPhase p (fun x => { x with state := .burstIdle, switching := false })))

theorem State.phase_idled (hp : p ∈ phasesOf c) (hrun : (s.phase p).state = .run) :
    ((s.idled c).phase p).state = .burstIdle := by
  refine State.each_once (A := fun t => (t.phase p).state = .run) (B := fun t => (t.phase p).state = .burstIdle)
    (phasesOf_nodup c) hp hrun (fun q hq t ht => ?_) (fun t ht => ?_) (fun q hq t ht => ?_)
  · rwa [State.when_same (State.phase · p) _ _ (by rw [State.phase_modPhase, if_neg hq.symm])]
  · rw [decide_eq_true ht, State.when_true, State.phase_modPhase, if_pos rfl]
  · rwa [State.when_same (State.phase · p) _ _ (by rw [State.phase_modPhase, if_neg hq.symm])]

theorem State.burstEnter_does (c : Conv) (s : State) : ((s.burstEnter c).conv c).burst = true ∧
    ∀ p ∈ phasesOf c, (s.phase p).state = .run → ((s.burstEnter c).phase p).state = .burstIdle := by
  have heq : s.burstEnter c = (((s.idled c).modConv c (fun x => { x with burst := true, packet := none })).modPow (fun w =>
      { w with burstWake := w.burstWake && decide (c ≠ .storage) })).raiseOn Cause.burstEnter c.idx := rfl
  have hconv : ∀ t : State, ∀ f : PowerState → PowerState, (f t.pow).feed = t.pow.feed → (f t.pow).storage = t.pow.storage →
      (t.modPow f).conv c = t.conv c := fun t f hfeed hstorage => by
    cases c
    · exact hfeed
    · exact hstorage
  rw [heq]
  refine ⟨?_, fun p hp hrun => ?_⟩
  · rw [State.conv_raiseOn, hconv _ _ rfl rfl, State.conv_modConv, if_pos rfl]
  · rw [State.phase_raiseOn]
    exact (congrArg Phase.state (State.phase_modConv _ _ _ _)).trans (State.phase_idled hp hrun)

/-- Is burst due for a converter (R133, R134)? -/
def State.burstDue (s : State) : Conv → Bool
  | .storage => decide (100 ≤ (s.conv .storage).burstRun)
  | .feed => decide (s.pow.feedAvg < s.get (K.convBurstEntry 0)) && (s.conv .storage).burst

/-- Has a converter been limited less than 100 µs before (R144)? -/
def ConvSt.limitedSince (now : Nat) (x : ConvSt) : Bool :=
  match x.limitedAt with
  | some t => decide (now < t + 100 * us)
  | none => false

theorem ConvSt.limitedSince_of_quiet {now : Nat} {x : ConvSt} (h : ∀ a, x.limitedAt = some a → a + 100000 ≤ now) :
    x.limitedSince now = false := by
  unfold ConvSt.limitedSince
  split
  · rename_i a ha
    exact decide_eq_false (Nat.not_lt.2 (h a ha))
  · rfl

theorem exec_burstEnter (c : Conv) (s : State) : exec (.burstEnter c) s = .next (s.when
    ((s.conv c).on && !(s.conv c).burst && (s.conv c).soft.isNone && s.getB (K.convBurstEnable c.idx) &&
      !((s.inService c).any (fun q => (s.phase q).limitedNow) || (s.conv c).limitedSince s.now) && s.burstDue c)
    (State.burstEnter c)) := by
  cases c <;> rfl

theorem burstEnter_does (hon : (s.conv c).on = true) (hburst : (s.conv c).burst = false) (hsoft : (s.conv c).soft = none)
    (henable : s.get (K.convBurstEnable c.idx) ≠ 0) (hdue : s.burstDue c = true)
    (hphases : ∀ q ∈ s.inService c, (s.phase q).limitedNow = false)
    (hquiet : ∀ a, (s.conv c).limitedAt = some a → a + 100000 ≤ s.now) : Does (.burstEnter c) s (fun t =>
      (t.conv c).burst = true ∧ ∀ p ∈ phasesOf c, (s.phase p).state = .run → (t.phase p).state = .burstIdle) := by
  have hany : (s.inService c).any (fun q => (s.phase q).limitedNow) = false :=
    List.any_eq_false.2 fun q hq => by rw [hphases q hq]; exact Bool.false_ne_true
  have hexec : exec (.burstEnter c) s = .next (s.burstEnter c) := by
    rw [exec_burstEnter, hany, hdue, ConvSt.limitedSince_of_quiet hquiet, hon, hburst, hsoft, State.getB,
      decide_eq_true henable]
    rfl
  exact .of_next hexec (s.burstEnter_does c)

/-- The phases as burst ends: each idle one is to resume. -/
def State.woken (c : Conv) (s : State) : State :=
  s.each (phasesOf c) (fun p s => s.when (decide ((s.phase p).state = .burstIdle))
    (State.modPhase p (fun x => { x with pend := .resume })))

theorem State.phase_woken (hp : p ∈ phasesOf c) (hidle : (s.phase p).state = .burstIdle) :
    ((s.woken c).phase p).pend = .resume := by
  refine State.each_once (A := fun t => (t.phase p).state = .burstIdle) (B := fun t => (t.phase p).pend = .resume)
    (phasesOf_nodup c) hp hidle (fun q hq t ht => ?_) (fun t ht => ?_) (fun q hq t ht => ?_)
  · rwa [State.when_same (State.phase · p) _ _ (by rw [State.phase_modPhase, if_neg hq.symm])]
  · rw [decide_eq_true ht, State.when_true, State.phase_modPhase, if_pos rfl]
  · rwa [State.when_same (State.phase · p) _ _ (by rw [State.phase_modPhase, if_neg hq.symm])]

theorem State.phase_woken_other (hp : p ∉ phasesOf c) : (s.woken c).phase p = s.phase p :=
  State.each_same (State.phase · p) s fun q hq t => State.when_same (State.phase · p) _ _ (by
    rw [State.phase_modPhase, if_neg (ne_of_mem_of_not_mem hq hp).symm])

theorem State.conv_woken (d : Conv) : (s.woken c).conv d = s.conv d :=
  State.each_same (State.conv · d) s fun _ _ _ => State.when_same (State.conv · d) _ _ (State.conv_modPhase _ _ _ _)

/-- A converter out of burst. -/
def ConvSt.awake (x : ConvSt) : ConvSt := { x with burst := false, packet := none, burstRun := 0 }

theorem State.burstExit_eq (c : Conv) (s : State) : s.burstExit c = if (s.conv c).burst then
    ((s.woken c).modConv c ConvSt.awake).raiseOn Cause.burstExit c.idx else s := rfl

theorem State.phase_burstExit_other (hp : p ∉ phasesOf c) : (s.burstExit c).phase p = s.phase p := by
  rw [State.burstExit_eq]
  split
  · rw [State.phase_raiseOn, State.phase_modConv, State.phase_woken_other hp]
  · rfl

theorem State.phase_burstExit (hburst : (s.conv c).burst = true) (hp : p ∈ phasesOf c)
    (hidle : (s.phase p).state = .burstIdle) : ((s.burstExit c).phase p).pend = .resume := by
  rw [State.burstExit_eq, if_pos hburst, State.phase_raiseOn, State.phase_modConv]
  exact State.phase_woken hp hidle

theorem State.conv_burstExit (d : Conv) : (s.burstExit c).conv d =
    if d = c ∧ (s.conv c).burst = true then (s.conv c).awake else s.conv d := by
  rw [State.burstExit_eq]
  cases hburst : (s.conv c).burst with
  | true => simp [State.conv_woken]
  | false => simp

theorem State.burst_burstExit : ((s.burstExit c).conv c).burst = false := by
  rw [State.conv_burstExit]
  cases hburst : (s.conv c).burst with
  | true => rw [if_pos ⟨rfl, rfl⟩]; rfl
  | false => rw [if_neg fun h => Bool.false_ne_true h.2, hburst]

/-- What the end of burst of a converter leaves: a storage exit ends the feed's burst too (R134). -/
def State.burstEnded (c : Conv) (s : State) : State :=
  match c with
  | .storage => (s.burstExit .storage).burstExit .feed
  | .feed => s.burstExit .feed

theorem exec_burstExit (hover : s.burstOver c = true) : exec (.burstExit c) s = .next (s.burstEnded c) :=
  (if_pos hover).trans (by cases c <;> rfl)

theorem burstExit_ends (hover : s.burstOver c = true) : Does (.burstExit c) s (fun t => (t.conv c).burst = false ∧
    (t.conv .feed).burst = false) := by
  refine .of_next (exec_burstExit hover) ?_
  cases c with
  | feed => exact ⟨State.burst_burstExit, State.burst_burstExit⟩
  | storage =>
    refine ⟨?_, State.burst_burstExit⟩
    show (((s.burstExit .storage).burstExit .feed).conv .storage).burst = false
    rw [State.conv_burstExit, if_neg fun h => absurd h.1 (by decide)]
    exact State.burst_burstExit

theorem burstExit_wakes (hp : p ∈ phasesOf c) (hburst : (s.conv c).burst = true) (hover : s.burstOver c = true)
    (hidle : (s.phase p).state = .burstIdle) : Does (.burstExit c) s (fun t => (t.phase p).pend = .resume) := by
  refine .of_next (exec_burstExit hover) ?_
  cases c with
  | feed => exact State.phase_burstExit hburst hp hidle
  | storage =>
    show (((s.burstExit .storage).burstExit .feed).phase p).pend = .resume
    rw [State.phase_burstExit_other (phasesOf_disjoint (by decide) hp)]
    exact State.phase_burstExit hburst hp hidle

theorem feedBurstPacket_does (hburst : (s.conv .feed).burst = true) (hpacket : (s.conv .feed).packet = none)
    (hbus : s.busMilli < s.get K.busReferenceInForce - s.get (K.convBurstBand 0)) :
    Does .feedBurstPacket s (fun t => (t.conv .feed).packet = some 0) :=
  .of_next (if_pos ⟨hburst, hpacket, hbus⟩) rfl

/-! ### Sharing (R145) -/

/-- The phases of a converter that run. -/
def State.running (s : State) (c : Conv) : List (Fin 20) := (phasesOf c).filter (fun q => decide ((s.phase q).state = .run))

/-- The mean current of the phases that run. -/
def State.meanCurrent (s : State) (c : Conv) : Int :=
  rheDiv (((s.running c).map s.phaseCurrent).sum) (s.running c).length

/-- The trim of a phase after it is shared out. -/
def State.trimNext (s : State) (c : Conv) (p : Fin 20) : Int :=
  clampInt (-(s.get (K.convShareTrimLimit c.idx))) (s.get (K.convShareTrimLimit c.idx)) (s.get (K.phaseTrim p) +
    rheDiv (s.get (K.convShareGain c.idx) * (s.meanCurrent c - s.phaseCurrent p) * phaseCount c)
      (s.getN (K.convContinuousRating c.idx)))

/-- One phase takes its trim, and its time at the limit is noted. -/
def State.giveTrim (s0 : State) (c : Conv) (p : Fin 20) (s : State) : State :=
  let there := decide ((s0.trimNext c p).natAbs = (s0.get (K.convShareTrimLimit c.idx)).natAbs)
  (s.put (K.phaseTrim p) (s0.trimNext c p)).modPhase p (fun x => { x with
    trimLimited := x.trimLimited && there, limitSince := if there then some (x.limitSince.getD s0.now) else none })

theorem State.get_giveTrim (s0 : State) (c : Conv) (p : Fin 20) (k : Nat) (s : State) :
    (s0.giveTrim c p s).get k = (s.put (K.phaseTrim p) (s0.trimNext c p)).get k := rfl

theorem foldl_add_eq_sum {α : Type} (f : α → Int) (l : List α) (a : Int) :
    l.foldl (fun b x => b + f x) a = a + (l.map f).sum := by
  induction l generalizing a with
  | nil => simp
  | cons x l ih => rw [List.foldl_cons, ih, List.map_cons, List.sum_cons, Int.add_assoc]

theorem State.shareTrim_eq (c : Conv) (s : State) : s.shareTrim c = if (s.running c).isEmpty then s else
    s.each ((phasesOf c).filter (fun p => decide ((s.phase p).state = .run) || decide ((s.phase p).state = .starting)))
      (s.giveTrim c) := by
  have hmean : rheDiv ((s.running c).foldl (fun a p => a + s.phaseCurrent p) 0) (s.running c).length = s.meanCurrent c := by
    rw [foldl_add_eq_sum, Int.zero_add]
    rfl
  unfold State.giveTrim State.trimNext
  rw [← hmean]
  rfl

/-- Objects that sharing writes. -/
theorem State.get_shareTrim_other {k : Nat} (h : ∀ q ∈ phasesOf c, k ≠ K.phaseTrim q) : (s.shareTrim c).get k = s.get k := by
  rw [State.shareTrim_eq]
  split
  · rfl
  · exact State.each_same (State.get · k) s fun q hq t => by
      rw [State.get_giveTrim, State.get_put_other _ _ _ _ (h q (List.mem_of_mem_filter hq))]

theorem State.shareTrim_state (q : Fin 20) : ((s.shareTrim c).phase q).state = (s.phase q).state := by
  rw [State.shareTrim_eq]
  split
  · rfl
  · refine State.each_same (fun t => (t.phase q).state) s fun r _ t => ?_
    show ((s.giveTrim c r t).phase q).state = _
    unfold State.giveTrim
    rw [State.phase_modPhase]
    split <;> simp_all

theorem phaseTrim_ne {p q : Fin 20} (h : q ≠ p) : K.phaseTrim p ≠ K.phaseTrim q := by
  unfold K.phaseTrim
  omega

theorem State.get_shareTrim (hp : p ∈ phasesOf c) (hrun : (s.phase p).state = .run) :
    (s.shareTrim c).get (K.phaseTrim p) = s.trimNext c p := by
  have hmem : p ∈ s.running c := List.mem_filter.2 ⟨hp, decide_eq_true hrun⟩
  rw [State.shareTrim_eq, if_neg (by rw [List.isEmpty_iff]; exact List.ne_nil_of_mem hmem)]
  refine State.each_once (A := fun _ => True) (B := fun t => t.get (K.phaseTrim p) = s.trimNext c p)
    ((phasesOf_nodup c).filter _) (List.mem_filter.2 ⟨hp, by simp [hrun]⟩) trivial (fun _ _ _ _ => trivial)
    (fun t _ => ?_) (fun q hq t ht => ?_)
  · rw [State.get_giveTrim, State.get_put_same]
  · rw [State.get_giveTrim, State.get_put_other _ _ _ _ (phaseTrim_ne hq), ht]

/-- Sharing out the feed's trims changes nothing that the storage's come from. -/
theorem State.trimNext_shareTrim_feed (hp : p ∈ phasesOf .storage) : (s.shareTrim .feed).trimNext .storage p = s.trimNext .storage p := by
  have hget : ∀ k, (∀ q ∈ phasesOf .feed, k ≠ K.phaseTrim q) → (s.shareTrim .feed).get k = s.get k := fun k => State.get_shareTrim_other
  have htrim : (s.shareTrim .feed).get (K.phaseTrim p) = s.get (K.phaseTrim p) := hget _ fun q hq =>
    phaseTrim_ne (ne_of_mem_of_not_mem hq (phasesOf_disjoint (by decide) hp))
  have hcurrent : (s.shareTrim .feed).phaseCurrent = s.phaseCurrent := by
    funext q
    have hchan : (s.shareTrim .feed).getN (K.phaseCurrentChannel q) = s.getN (K.phaseCurrentChannel q) :=
      State.getN_congr (hget _ fun r _ => by unfold K.phaseCurrentChannel K.phaseTrim; omega)
    unfold State.phaseCurrent State.controlMilli State.milli
    rw [hchan, hget _ fun r _ => by unfold K.chanControlSample K.phaseTrim; omega,
      hget _ fun r _ => by unfold K.chanFullScale K.phaseTrim; omega]
  have hrunning : (s.shareTrim .feed).running .storage = s.running .storage :=
    List.filter_congr fun q _ => by rw [State.shareTrim_state]
  unfold State.trimNext State.meanCurrent State.getN
  rw [hrunning, hcurrent, htrim, hget _ fun r _ => by unfold K.convShareTrimLimit K.phaseTrim; simp only [Conv.idx]; omega,
    hget _ fun r _ => by unfold K.convShareGain K.phaseTrim; simp only [Conv.idx]; omega,
    hget _ fun r _ => by unfold K.convContinuousRating K.phaseTrim; simp only [Conv.idx]; omega]

theorem shareTrim_does (hp : p ∈ phasesOf c) (hrun : (s.phase p).state = .run) :
    Does .shareTrim s (fun t => t.get (K.phaseTrim p) = s.trimNext c p) := by
  have hexec : exec .shareTrim s = .next ((s.shareTrim .feed).shareTrim .storage) := rfl
  refine .of_next hexec ?_
  cases c with
  | feed =>
    rw [State.get_shareTrim_other fun q hq => phaseTrim_ne
      (ne_of_mem_of_not_mem hq (phasesOf_disjoint (by decide) hp))]
    exact State.get_shareTrim hp hrun
  | storage =>
    rw [State.get_shareTrim hp (by rwa [State.shareTrim_state]), State.trimNext_shareTrim_feed hp]

theorem shareTrimAtLimit_does {a : Nat} (hsince : (s.phase p).limitSince = some a) (hlong : a + 1000000000 ≤ s.now)
    (hfirst : (s.phase p).trimLimited = false) : Does (.shareTrimAtLimit p) s (fun t => (t.phase p).trimLimited = true) := by
  have hexec : exec (.shareTrimAtLimit p) s = .next ((s.modPhase p (fun x => { x with trimLimited := true })).raise
      Cause.shareTrimAtLimit (args p [(toUnsigned 16 (s.get (K.phaseTrim p)), 2)])) := by
    show execShareTrimAtLimit p s = _
    unfold execShareTrimAtLimit
    dsimp only
    rw [hsince, hfirst]
    exact if_pos (by simpa using hlong)
  refine .of_next hexec ?_
  rw [State.phase_raise, State.phase_modPhase, if_pos rfl]

end

/-- Settles O23: each clause is the lemma on its command above. -/
theorem burstAndSharingMoveThePhases : Obligations.BurstAndSharingMoveThePhases := by
  unfold Obligations.BurstAndSharingMoveThePhases
  intro s c p hp
  refine ⟨fun hon hburst hsoft henable hdue hphases hquiet => ?_, fun _ => burstExit_ends, burstExit_wakes hp,
    feedBurstPacket_does, shareTrim_does hp, fun a => shareTrimAtLimit_does⟩
  have hdue : s.burstDue c = true := by cases c <;> simpa [State.burstDue] using hdue
  obtain ⟨t, hexec, hburst, hidle⟩ := burstEnter_does hon hburst hsoft henable hdue hphases hquiet
  exact ⟨t, hexec, hburst, hidle p hp⟩

end Sys2Proof.Machine
end

section
/-! A converter turned off at once (R137, R141). -/

namespace Sys2Proof.Machine

/-- A phase unit whose converter is turned off. -/
def Phase.stopped (x : Phase) : Phase :=
  match x.state with
  | .latched | .tempStop => { x with switching := false, pend := .none }
  | _ => x.toOff

theorem Phase.stopped_state (x : Phase) : x.stopped.state = .off ∨ x.stopped.state = .latched ∨ x.stopped.state = .tempStop := by
  unfold Phase.stopped
  split
  · rename_i h
    exact .inr (.inl h)
  · rename_i h
    exact .inr (.inr h)
  · exact .inl rfl

/-- A converter turned off. -/
def ConvSt.off (x : ConvSt) : ConvSt :=
  { x with on := false, stopPend := false, burst := false, soft := none, softHeld := false, packet := none, waitFeed := false
           waitBus := false, stopRule := if x.stopRule = some .trip then none else x.stopRule }

/-- The phases of a converter that is turned off. -/
def State.phasesOff (c : Conv) (s : State) : State := s.each (phasesOf c) (fun p => State.modPhase p Phase.stopped)

theorem State.convOff_eq (c : Conv) (s : State) : s.convOff c = (s.phasesOff c).modConv c ConvSt.off := rfl

section
variable (c d : Conv) (s : State)

theorem State.conv_phasesOff : (s.phasesOff c).conv d = s.conv d :=
  State.each_same (State.conv · d) s fun _ _ _ => State.conv_modPhase _ _ _ _

theorem State.conv_convOff : (s.convOff c).conv d = if d = c then (s.conv c).off else s.conv d := by
  rw [State.convOff_eq, State.conv_modConv, State.conv_phasesOff, State.conv_phasesOff]

theorem State.modConv_chans (f : ConvSt → ConvSt) : (s.modConv c f).pow.chans = s.pow.chans := by
  cases c <;> rfl

theorem State.convOff_chans : (s.convOff c).pow.chans = s.pow.chans := by
  rw [State.convOff_eq, State.modConv_chans]
  exact State.each_same (·.pow.chans) s fun _ _ _ => rfl

theorem State.get_convOff (k : Nat) : (s.convOff c).get k = s.get k := by
  rw [State.convOff_eq, State.get_modConv]
  exact State.each_same (State.get · k) s fun _ _ _ => rfl

variable {c} in
theorem State.phase_convOff {p : Fin 20} (hp : p ∈ phasesOf c) : ((s.convOff c).phase p).state = .off ∨
    ((s.convOff c).phase p).state = .latched ∨ ((s.convOff c).phase p).state = .tempStop := by
  rw [State.convOff_eq, State.phase_modConv]
  refine State.each_once (A := fun _ => True) (B := fun t => (t.phase p).state = .off ∨ (t.phase p).state = .latched ∨
    (t.phase p).state = .tempStop) (phasesOf_nodup c) hp trivial (fun _ _ _ _ => trivial) (fun t _ => ?_) (fun q hq t ht => ?_)
  · rw [State.phase_modPhase, if_pos rfl]
    exact (t.phase p).stopped_state
  · rwa [State.phase_modPhase, if_neg hq.symm]

end

end Sys2Proof.Machine
end

section
/-! A protection sample (R122 to R125, R140, R141): what a channel hears and shows, and the over-voltage trip. -/

namespace Sys2Proof.Machine

/-! ### One channel (R122, R124, R125) -/

/-- A channel that has received four modulator bits, the earliest in bit 0. -/
def ChanSt.hears (now : Nat) (bits : BitVec 4) (x : ChanSt) : ChanSt :=
  ((List.range 4).map (fun i => bits.getLsbD i)).foldl (ChanSt.receive now) x

/-- Hearing does not open a channel or close it. -/
theorem ChanSt.hears_open (now : Nat) (bits : BitVec 4) (x : ChanSt) : (x.hears now bits).open_ = x.open_ := by
  unfold ChanSt.hears
  generalize (List.range 4).map (fun i => bits.getLsbD i) = l
  induction l generalizing x with
  | nil => rfl
  | cons b l ih => exact ih (x.receive now b)

/-- The value of a channel's protection path (R124). -/
def State.protectionValue (s : State) (a : Fin 48) (x : ChanSt) : Int :=
  let n := s.getN (K.chanProtectionRatio a)
  max (min (rheDiv (s.get (K.chanGain a) * (2 * (x.ones 3 n : Int) - (n ^ 3 : Nat)) * 2) (n ^ 3) + s.get (K.chanOffset a)) 32767)
    (-32768)

theorem State.protectionPath_value (s : State) (a : Fin 48) : (s.protectionPath a).1 = s.protectionValue a (s.chan a) := rfl

/-- Objects that a protection sample writes for channels. -/
def sampleShown (k : Nat) : Prop := ∃ a : Fin 48, k = K.chanProtectionSample a ∨ k = K.chanSaturations a

/-- What sampling a channel leaves: all other channels, time, the runs and stops of the bus, and every object but its own. -/
structure SampleKept (a : Fin 48) (s t : State) : Prop where
  chan : ∀ b ≠ a, t.chan b = s.chan b
  time : t.time = s.time
  ovRun : t.pow.ovRun = s.pow.ovRun
  get : ∀ k, k ≠ K.chanProtectionSample a → k ≠ K.chanSaturations a → noting k = false → t.get k = s.get k

theorem SampleKept.rfl {a : Fin 48} {s : State} : SampleKept a s s := by constructor <;> intros <;> rfl

theorem SampleKept.trans {a : Fin 48} {s t u : State} (h : SampleKept a s t) (g : SampleKept a t u) : SampleKept a s u where
  chan b hb := (g.chan b hb).trans (h.chan b hb)
  time := g.time.trans h.time
  ovRun := g.ovRun.trans h.ovRun
  get k h1 h2 h3 := (g.get k h1 h2 h3).trans (h.get k h1 h2 h3)

theorem SampleKept.when {a : Fin 48} {s t : State} {b : Bool} {f : State → State} (h : SampleKept a s t)
    (hf : SampleKept a t (f t)) : SampleKept a s (t.when b f) :=
  State.when_preserves b h fun h => h.trans hf

theorem SampleKept.of_pow {a : Fin 48} {s t : State} (hpow : t.pow = s.pow) (htime : t.time = s.time)
    (hget : ∀ k, k ≠ K.chanProtectionSample a → k ≠ K.chanSaturations a → noting k = false → t.get k = s.get k) :
    SampleKept a s t where
  chan b _ := State.chan_congr b hpow
  time := htime
  ovRun := by rw [hpow]
  get := hget

theorem State.modChan_sampleKept (a : Fin 48) (f : ChanSt → ChanSt) (s : State) : SampleKept a s (s.modChan a f) where
  chan b hb := by rw [State.chan_modChan, if_neg hb]
  time := by rfl
  ovRun := by rfl
  get _ _ _ _ := by rfl

/-- A channel after its episode at the thresholds has been judged (R122). -/
theorem State.senseLimit_eq (a : Fin 48) (q : Int) (s : State) : ∃ beyond inside limited fires cause, s.senseLimit a q =
    (s.modChan a (fun y => { y with beyond := beyond, inside := inside, limited := limited })).when fires
      (State.raise Cause.senseLimit cause) :=
  ⟨_, _, _, _, _, rfl⟩

theorem State.senseLimit_sampleKept (a : Fin 48) (q : Int) (s : State) : SampleKept a s (s.senseLimit a q) := by
  obtain ⟨beyond, inside, limited, fires, cause, heq⟩ := s.senseLimit_eq a q
  rw [heq]
  exact (State.modChan_sampleKept a _ s).when (.of_pow (State.raise_pow _ _ _) (State.raise_time _ _ _)
    fun _ _ _ hk => State.get_raise _ _ _ _ hk)

/-- Judging the thresholds leaves what the channel has heard, and every object. -/
theorem State.senseLimit_heard (a : Fin 48) (q : Int) (s : State) :
    ((s.senseLimit a q).chan a).bits = (s.chan a).bits ∧ ((s.senseLimit a q).chan a).suspect = (s.chan a).suspect ∧
    ∀ k, noting k = false → (s.senseLimit a q).get k = s.get k := by
  obtain ⟨beyond, inside, limited, fires, cause, heq⟩ := s.senseLimit_eq a q
  have hchan : (s.senseLimit a q).chan a = { s.chan a with beyond := beyond, inside := inside, limited := limited } := by
    rw [heq, State.when_same (State.chan · a) _ _ (State.chan_raise _ _ _ _), State.chan_modChan, if_pos rfl]
  rw [hchan]
  refine ⟨rfl, rfl, fun k hk => ?_⟩
  rw [heq, State.when_same (State.get · k) _ _ (State.get_raise _ _ _ _ hk), State.get_modChan]

/-- A channel that has heard shows its value. -/
def State.showSample (a : Fin 48) (s : State) : State :=
  (s.put (K.chanProtectionSample a) (s.protectionPath a).1).when (s.protectionPath a).2 (State.inc (K.chanSaturations a))

theorem State.showSample_sampleKept (a : Fin 48) (s : State) : SampleKept a s (s.showSample a) :=
  (SampleKept.of_pow (by rfl) (by rfl) fun _ h1 _ _ => State.get_put_other _ _ _ _ h1).when
    (.of_pow (State.inc_pow _ _) (State.inc_time _ _) fun _ _ h2 _ => State.get_inc_other _ _ _ h2)

theorem State.get_showSample (a : Fin 48) (s : State) :
    (s.showSample a).get (K.chanProtectionSample a) = s.protectionValue a (s.chan a) := by
  have hne : K.chanProtectionSample a ≠ K.chanSaturations a := by unfold K.chanProtectionSample K.chanSaturations; omega
  unfold State.showSample
  rw [State.when_same (State.get · (K.chanProtectionSample a)) _ _ (State.get_inc_other _ _ _ hne), State.get_put_same,
    State.protectionPath_value]

theorem State.chan_showSample (a : Fin 48) (s : State) : (s.showSample a).chan a = s.chan a := by
  unfold State.showSample
  rw [State.when_same (State.chan · a) _ _ (State.chan_inc _ _ _), State.chan_put]

theorem State.protectChan_eq (bits : Vector (BitVec 4) 48) (a : Fin 48) (s : State) : ∃ judged, s.protectChan bits a =
    if ((s.modChan a (ChanSt.hears s.now bits[a])).chan a).open_ then s.modChan a (ChanSt.hears s.now bits[a])
    else ((s.modChan a (ChanSt.hears s.now bits[a])).showSample a).when judged
      (State.senseLimit a ((s.modChan a (ChanSt.hears s.now bits[a])).protectionPath a).1) :=
  ⟨_, rfl⟩

theorem State.protectChan_sampleKept (bits : Vector (BitVec 4) 48) (a : Fin 48) (s : State) :
    SampleKept a s (s.protectChan bits a) := by
  obtain ⟨judged, heq⟩ := s.protectChan_eq bits a
  rw [heq]
  split
  · exact State.modChan_sampleKept a _ s
  · exact ((State.modChan_sampleKept a _ s).trans (State.showSample_sampleKept a _)).when (State.senseLimit_sampleKept a _ _)

theorem noting_chanProtectionSample (a : Fin 48) : noting (K.chanProtectionSample a) = false :=
  noting_of_power (by unfold K.chanProtectionSample; omega) (by unfold K.chanProtectionSample; omega)

/-- What a channel shows after a sample: an OPEN one what it showed, another its value (R124, R125). -/
def State.sampleNext (s : State) (bits : Vector (BitVec 4) 48) (a : Fin 48) : Int :=
  if (s.chan a).open_ then s.get (K.chanProtectionSample a) else s.protectionValue a ((s.chan a).hears s.now bits[a])

/-- A channel has taken its bits, and shows what comes of them. -/
def Sampled (s : State) (bits : Vector (BitVec 4) 48) (a : Fin 48) (t : State) : Prop :=
  t.get (K.chanProtectionSample a) = s.sampleNext bits a ∧ (t.chan a).bits = ((s.chan a).hears s.now bits[a]).bits ∧
    (t.chan a).suspect = ((s.chan a).hears s.now bits[a]).suspect

theorem State.protectChan_sampled (bits : Vector (BitVec 4) 48) (a : Fin 48) (s : State) : Sampled s bits a (s.protectChan bits a) := by
  have hheard : (s.modChan a (ChanSt.hears s.now bits[a])).chan a = (s.chan a).hears s.now bits[a] := by
    rw [State.chan_modChan, if_pos rfl]
  have hopen : ((s.modChan a (ChanSt.hears s.now bits[a])).chan a).open_ = (s.chan a).open_ := by
    rw [hheard, ChanSt.hears_open]
  obtain ⟨judged, heq⟩ := s.protectChan_eq bits a
  unfold Sampled State.sampleNext
  rw [heq, hopen]
  cases hx : (s.chan a).open_ with
  | true => exact ⟨rfl, by rw [if_pos rfl, hheard], by rw [if_pos rfl, hheard]⟩
  | false =>
    obtain ⟨hbits, hsuspect, hget⟩ := State.senseLimit_heard a
      ((s.modChan a (ChanSt.hears s.now bits[a])).protectionPath a).1 ((s.modChan a (ChanSt.hears s.now bits[a])).showSample a)
    simp only [Bool.false_eq_true, if_false]
    refine ⟨?_, ?_, ?_⟩
    · rw [State.when_same (State.get · _) _ _ (hget _ (noting_chanProtectionSample a)), State.get_showSample, hheard]
      rfl
    · rw [State.when_same (fun t => (t.chan a).bits) _ _ hbits, State.chan_showSample, hheard]
    · rw [State.when_same (fun t => (t.chan a).suspect) _ _ hsuspect, State.chan_showSample, hheard]

end Sys2Proof.Machine
end

section
/-! PROTECTION_SAMPLE and what follows it on the bus (R124, R140, R141). -/

namespace Sys2Proof.Machine

/-! ### Every channel (R124) -/

/-- Every channel takes its bits. -/
def State.sampleAll (bits : Vector (BitVec 4) 48) (s : State) : State := s.each allChans (State.protectChan bits)

/-- Time, the runs of the bus, and every object but the samples are as they were. -/
structure SettingsKept (s t : State) : Prop where
  time : t.time = s.time
  ovRun : t.pow.ovRun = s.pow.ovRun
  get : ∀ k, ¬ sampleShown k → noting k = false → t.get k = s.get k

theorem SettingsKept.sampled {s t u : State} {a : Fin 48} (h : SettingsKept s t) (g : SampleKept a t u) : SettingsKept s u where
  time := g.time.trans h.time
  ovRun := g.ovRun.trans h.ovRun
  get k hk hn := (g.get k (fun e => hk ⟨a, .inl e⟩) (fun e => hk ⟨a, .inr e⟩) hn).trans (h.get k hk hn)

theorem SettingsKept.rfl {s : State} : SettingsKept s s := by constructor <;> intros <;> rfl

theorem State.sampleAll_settingsKept (bits : Vector (BitVec 4) 48) (s : State) : SettingsKept s (s.sampleAll bits) :=
  State.each_preserves _ .rfl fun a t ht => ht.sampled (t.protectChan_sampleKept bits a)

/-- A setting of a channel is no sample: its place in the record is another. -/
theorem not_sampleShown {k : Nat} (h1 : k % 256 ≠ 15) (h2 : k % 256 ≠ 17) : ¬ sampleShown k := by
  rintro ⟨a, rfl | rfl⟩
  · unfold K.chanProtectionSample at h1
    omega
  · unfold K.chanSaturations at h2
    omega

theorem SettingsKept.protectionValue {s t : State} (h : SettingsKept s t) (a : Fin 48) (x : ChanSt) :
    t.protectionValue a x = s.protectionValue a x := by
  have hget : ∀ sub, sub < 15 → t.get (0x320000 + sub + 256 * a.val) = s.get (0x320000 + sub + 256 * a.val) := fun sub hsub =>
    h.get _ (not_sampleShown (by omega) (by omega)) (noting_of_power (by omega) (by omega))
  have hratio : t.getN (K.chanProtectionRatio a) = s.getN (K.chanProtectionRatio a) := State.getN_congr (hget 8 (by decide))
  have hgain : t.get (K.chanGain a) = s.get (K.chanGain a) := hget 5 (by decide)
  have hoffset : t.get (K.chanOffset a) = s.get (K.chanOffset a) := hget 4 (by decide)
  unfold State.protectionValue
  rw [hratio, hgain, hoffset]

theorem State.sampleAll_sampled (bits : Vector (BitVec 4) 48) (a : Fin 48) (s : State) : Sampled s bits a (s.sampleAll bits) := by
  refine State.each_once
    (A := fun t => SettingsKept s t ∧ t.chan a = s.chan a ∧ t.get (K.chanProtectionSample a) = s.get (K.chanProtectionSample a))
    (List.nodup_finRange 48) (List.mem_finRange a) ⟨.rfl, rfl, rfl⟩ (fun b hb t ht => ?_) (fun t ht => ?_) (fun b hb t ht => ?_)
  · obtain ⟨hkept, hchan, hsample⟩ := ht
    have hround := t.protectChan_sampleKept bits b
    refine ⟨hkept.sampled hround, (hround.chan a hb.symm).trans hchan, (hround.get _ ?_ ?_ (noting_chanProtectionSample a)).trans hsample⟩
    · unfold K.chanProtectionSample
      omega
    · unfold K.chanProtectionSample K.chanSaturations
      omega
  · obtain ⟨hkept, hchan, hsample⟩ := ht
    have hround := t.protectChan_sampled bits a
    unfold Sampled State.sampleNext at hround ⊢
    rwa [hchan, hsample, State.now_congr hkept.time, hkept.protectionValue] at hround
  · have hround := t.protectChan_sampleKept bits b
    unfold Sampled at ht ⊢
    rw [hround.chan a hb.symm, hround.get _ ?_ ?_ (noting_chanProtectionSample a)]
    · exact ht
    · unfold K.chanProtectionSample
      omega
    · unfold K.chanProtectionSample K.chanSaturations
      omega

/-! ### The bus sample (R125, R490) -/

theorem State.busProtection_of_lone {s : State} {a : Fin 48} (hchan : s.chanWithAction 2 = some a) (hlone : s.partner a = none) :
    s.busProtection = some (s.milli a (s.get (K.chanProtectionSample a))) := by
  unfold State.busProtection
  rw [hchan]
  dsimp only
  rw [hlone]

theorem SettingsKept.chanWithAction {s t : State} (h : SettingsKept s t) (action : Nat) :
    t.chanWithAction action = s.chanWithAction action := by
  have hget : ∀ (sub : Nat) (a : Fin 48), sub < 15 → t.getN (0x320000 + sub + 256 * a.val) = s.getN (0x320000 + sub + 256 * a.val) :=
    fun sub a hsub => State.getN_congr (h.get _ (not_sampleShown (by omega) (by omega)) (noting_of_power (by omega) (by omega)))
  have haction : ∀ a : Fin 48, t.getN (K.chanProtectionAction a) = s.getN (K.chanProtectionAction a) := fun a => hget 13 a (by decide)
  have hfunction : ∀ a : Fin 48, t.getN (K.chanFunction a) = s.getN (K.chanFunction a) := fun a => hget 1 a (by decide)
  unfold State.chanWithAction
  simp only [haction, hfunction]

theorem SettingsKept.partner {s t : State} (h : SettingsKept s t) (a : Fin 48) : t.partner a = s.partner a :=
  State.partner_congr (State.getN_congr (h.get _ (not_sampleShown (by unfold K.chanRedundantPartner; omega)
    (by unfold K.chanRedundantPartner; omega)) (noting_of_power (by unfold K.chanRedundantPartner; omega)
    (by unfold K.chanRedundantPartner; omega))))

theorem SettingsKept.milli {s t : State} (h : SettingsKept s t) (a : Fin 48) (q : Int) : t.milli a q = s.milli a q := by
  unfold State.milli
  rw [h.get (K.chanFullScale a) (not_sampleShown (by unfold K.chanFullScale; omega) (by unfold K.chanFullScale; omega))
    (noting_of_power (by unfold K.chanFullScale; omega) (by unfold K.chanFullScale; omega))]

/-! ### Truncation and over-voltage leave the channels (R140, R141) -/

/-- Objects that the bus protection counts and shows. -/
def busShown : List Nat := [K.busTruncations, K.busOverVoltageTrips, K.busOverVoltageLatch]

/-- The channels and every object but those of the bus protection are as they were. -/
structure BusKept (s t : State) : Prop where
  chans : t.pow.chans = s.pow.chans
  get : ∀ k, k ∉ busShown → noting k = false → t.get k = s.get k

theorem BusKept.rfl {s : State} : BusKept s s := by constructor <;> intros <;> rfl

theorem BusKept.trans {s t u : State} (h : BusKept s t) (g : BusKept t u) : BusKept s u where
  chans := g.chans.trans h.chans
  get k hk hn := (g.get k hk hn).trans (h.get k hk hn)

theorem BusKept.ite {s t u : State} {q : Prop} [Decidable q] (ht : BusKept s t) (hu : BusKept s u) :
    BusKept s (if q then t else u) :=
  iteInduction (motive := BusKept s) (fun _ => ht) (fun _ => hu)

theorem BusKept.each {α : Type} {s t : State} {l : List α} {f : α → State → State} (h : BusKept s t)
    (hf : ∀ a u, BusKept u (f a u)) : BusKept s (t.each l f) :=
  State.each_preserves l h fun a u hu => hu.trans (hf a u)

theorem BusKept.of_objs {s t : State} (hchans : t.pow.chans = s.pow.chans) (hobjs : t.objs = s.objs) : BusKept s t :=
  ⟨hchans, fun _ _ _ => by unfold State.get; rw [hobjs]⟩

theorem Noted.busKept {s t : State} (h : Noted s t) (hget : ∀ k, k ∉ busShown → noting k = false → t.get k = s.get k) :
    BusKept s t :=
  ⟨by rw [h.pow], hget⟩

section
variable (s : State)

theorem State.inc_busKept {j : Nat} (hj : j ∈ busShown) : BusKept s (s.inc j) :=
  (State.inc_noted j s).busKept fun _ hk _ => State.get_inc_other _ _ _ fun e => hk (e ▸ hj)

theorem State.put_busKept {j : Nat} (hj : j ∈ busShown) (v : Int) : BusKept s (s.put j v) :=
  (State.put_noted j v s).busKept fun _ hk _ => State.get_put_other _ _ _ _ fun e => hk (e ▸ hj)

theorem State.raise_busKept (c : Nat) (x : Args) : BusKept s (s.raise c x) :=
  (State.raise_noted c x s).busKept fun _ _ hk => State.get_raise _ _ _ _ hk

theorem State.modPhase_busKept (p : Fin 20) (f : Phase → Phase) : BusKept s (s.modPhase p f) := .of_objs rfl rfl

theorem State.truncBegin_busKept (at_ : Carriers) : BusKept s (s.truncBegin at_) := by
  unfold State.truncBegin
  exact BusKept.each (.of_objs rfl rfl) fun p u => State.modPhase_busKept u p _

theorem State.truncEnd_busKept (at_ : Carriers) : BusKept s (s.truncEnd at_) := by
  unfold State.truncEnd
  exact BusKept.each (.of_objs rfl rfl) fun p u =>
    State.when_preserves (P := BusKept u) _ .rfl fun _ => State.modPhase_busKept u p _

theorem State.truncation_busKept (mv : Int) (at_ : Carriers) : BusKept s (s.truncation mv at_) :=
  .ite (.ite (.ite (s.truncEnd_busKept at_) (.of_objs rfl rfl)) (.of_objs rfl rfl))
    (.ite (((s.truncBegin_busKept at_).trans (State.inc_busKept _ (by decide))).trans (State.raise_busKept _ _ _)) .rfl)

/-- Truncation does not count samples towards the trip. -/
theorem State.truncation_ovRun (mv : Int) (at_ : Carriers) : (s.truncation mv at_).pow.ovRun = s.pow.ovRun := by
  have hbegin : (s.truncBegin at_).pow.ovRun = s.pow.ovRun := State.each_same (·.pow.ovRun) _ fun _ _ _ => rfl
  have hend : (s.truncEnd at_).pow.ovRun = s.pow.ovRun :=
    State.each_same (·.pow.ovRun) _ fun _ _ _ => State.when_same (·.pow.ovRun) _ _ rfl
  unfold State.truncation
  split_ifs
  · exact hend
  · rfl
  · rfl
  · rw [State.raise_pow, State.inc_pow, hbegin]
  · rfl

/-! ### The trip (R141) -/

/-- Consecutive samples at or above the trip level. -/
def State.ovRunNext (mv : Int) (s : State) : Nat := if s.get K.busOverVoltageTrip ≤ mv then s.pow.ovRun + 1 else 0

/-- The sample is counted in the run, or ends it. -/
def State.ovCounted (mv : Int) (s : State) : State := s.modPow (fun w => { w with ovRun := s.ovRunNext mv })

/-- A converter that over-voltage has stopped. -/
def ConvSt.ovStopped (x : ConvSt) : ConvSt := { x with stopRule := some .busOv }

/-- Both converters are off and wait for the bus to come down. -/
def State.ovTripped (trips : List Nat) (s : State) : State :=
  (s.each convs (fun c s => (s.convOff c).modConv c ConvSt.ovStopped)).modPow (fun w =>
    { w with ovTrips := trips, ovWaiting := true, busLow := 0 })

/-- The third trip within 60 s latches. -/
def State.ovLatches (third : Bool) (s : State) : State :=
  if third then (s.put K.busOverVoltageLatch 1).raise0 Cause.busOvLatched else s

theorem State.overVoltage_eq (mv : Int) : ∃ trips cause third, s.overVoltage mv =
    if s.ovRunNext mv = 2 then ((((s.ovCounted mv).ovTripped trips).inc K.busOverVoltageTrips).raise Cause.busOvervoltage
      cause).ovLatches third
    else s.ovCounted mv := by
  refine ⟨s.now :: s.pow.ovTrips.filter (fun t => decide (s.now ≤ t + 60 * sec)), args0 [(mv.toNat, 4)], decide (3 ≤
    (s.now :: s.pow.ovTrips.filter (fun t => decide (s.now ≤ t + 60 * sec))).length), ?_⟩
  unfold State.ovLatches
  simp only [decide_eq_true_eq]
  rfl

theorem State.ovTripped_busKept (trips : List Nat) : BusKept s (s.ovTripped trips) := by
  have hround : ∀ (c : Conv) (u : State), BusKept u ((u.convOff c).modConv c ConvSt.ovStopped) := fun c u =>
    ⟨by rw [State.modConv_chans, State.convOff_chans], fun k _ _ => by rw [State.get_modConv, State.get_convOff]⟩
  exact (BusKept.rfl.each hround).trans (.of_objs rfl rfl)

theorem State.ovLatches_busKept (third : Bool) : BusKept s (s.ovLatches third) :=
  .ite ((State.put_busKept s (by decide) _).trans (State.raise_busKept _ _ _)) .rfl

theorem State.overVoltage_busKept (mv : Int) : BusKept s (s.overVoltage mv) := by
  obtain ⟨trips, cause, third, heq⟩ := s.overVoltage_eq mv
  rw [heq]
  have hcounted : BusKept s (s.ovCounted mv) := .of_objs rfl rfl
  exact .ite ((((hcounted.trans (State.ovTripped_busKept _ trips)).trans (State.inc_busKept _ (by decide))).trans
    (State.raise_busKept _ _ _)).trans (State.ovLatches_busKept _ third)) hcounted

/-- Both converters off, and waiting. -/
def BothOff (t : State) : Prop := (t.conv .feed).on = false ∧ (t.conv .storage).on = false ∧ t.pow.ovWaiting = true

theorem BothOff.of_pow {s t : State} (h : BothOff s) (hpow : t.pow = s.pow) : BothOff t := by
  unfold BothOff
  rwa [State.conv_congr .feed hpow, State.conv_congr .storage hpow, hpow]

theorem State.ovTripped_bothOff (trips : List Nat) : BothOff (s.ovTripped trips) := by
  have hround : ∀ (c d : Conv) (u : State), (((u.convOff c).modConv c ConvSt.ovStopped).conv d).on =
      if d = c then false else (u.conv d).on := fun c d u => by
    rw [State.conv_modConv, State.conv_convOff, State.conv_convOff]
    split <;> simp [ConvSt.off, ConvSt.ovStopped, *]
  have hon : ∀ d, ((s.each convs (fun c s => (s.convOff c).modConv c ConvSt.ovStopped)).conv d).on = false := fun d =>
    State.each_once (A := fun _ => True) (B := fun t => (t.conv d).on = false) (by decide) (mem_convs d) trivial
      (fun _ _ _ _ => trivial) (fun t _ => by rw [hround, if_pos rfl]) (fun c hc t ht => by rw [hround, if_neg hc.symm, ht])
  exact ⟨hon .feed, hon .storage, rfl⟩

theorem State.overVoltage_trips {mv : Int} (hrun : s.pow.ovRun = 1) (hmv : s.get K.busOverVoltageTrip ≤ mv) :
    BothOff (s.overVoltage mv) := by
  obtain ⟨trips, cause, third, heq⟩ := s.overVoltage_eq mv
  have htwo : s.ovRunNext mv = 2 := by rw [State.ovRunNext, if_pos hmv, hrun]
  rw [heq, if_pos htwo]
  refine (State.ovTripped_bothOff (s.ovCounted mv) trips).of_pow ?_
  have hlatch : ∀ u : State, (u.ovLatches third).pow = u.pow := fun u =>
    iteInduction (motive := fun t : State => t.pow = u.pow) (fun _ => State.raise0_pow _ _) (fun _ => rfl)
  rw [hlatch, State.raise_pow, State.inc_pow]

end

/-! ### The command -/

/-- Truncation and over-voltage judge the bus by its sample, where it has one. -/
def State.busJudged (at_ : Carriers) (s : State) : Option Int → State
  | none => s
  | some mv => (s.truncation mv at_).overVoltage mv

theorem exec_protectionSample (bits : Vector (BitVec 4) 48) (at_ : Carriers) (s : State) :
    exec (.protectionSample bits at_) s = .next ((s.sampleAll bits).busJudged at_ (s.sampleAll bits).busProtection) := by
  have hall : s.each allChans (State.protectChan bits) = s.sampleAll bits := rfl
  show execProtectionSample bits at_ s = _
  unfold execProtectionSample
  dsimp only
  rw [hall]
  cases (s.sampleAll bits).busProtection <;> rfl

theorem State.busJudged_busKept (at_ : Carriers) (s : State) (mv : Option Int) : BusKept s (s.busJudged at_ mv) := by
  cases mv with
  | none => exact .rfl
  | some mv => exact (State.truncation_busKept _ _ _).trans (State.overVoltage_busKept _ _)

theorem chanProtectionSample_not_busShown : ∀ a : Fin 48, K.chanProtectionSample a ∉ busShown := by
  decide

theorem Sampled.of_busKept {s t u : State} {bits : Vector (BitVec 4) 48} {a : Fin 48} (h : Sampled s bits a t)
    (hkept : BusKept t u) : Sampled s bits a u := by
  have hchan : u.chan a = t.chan a := by unfold State.chan; rw [hkept.chans]
  unfold Sampled at h ⊢
  rwa [hchan, hkept.get _ (chanProtectionSample_not_busShown a) (noting_chanProtectionSample a)]

theorem protectionSample_does (bits : Vector (BitVec 4) 48) (at_ : Carriers) (s : State) :
    Does (.protectionSample bits at_) s (fun t => (∀ a, Sampled s bits a t) ∧
      (∀ a, s.chanWithAction 2 = some a → s.partner a = none → s.pow.ovRun = 1 →
        s.get K.busOverVoltageTrip ≤ s.milli a (s.sampleNext bits a) → BothOff t)) := by
  have hkept := s.sampleAll_settingsKept bits
  refine .of_next (exec_protectionSample bits at_ s) ⟨fun a => ?_, fun a hchan hlone hrun htrip => ?_⟩
  · exact (s.sampleAll_sampled bits a).of_busKept (State.busJudged_busKept _ _ _)
  · obtain ⟨hshown, -⟩ := s.sampleAll_sampled bits a
    have hbus : (s.sampleAll bits).busProtection = some (s.milli a (s.sampleNext bits a)) := by
      rw [State.busProtection_of_lone ((hkept.chanWithAction 2).trans hchan) ((hkept.partner a).trans hlone), hshown, hkept.milli]
    rw [hbus]
    refine State.overVoltage_trips _ ?_ ?_
    · rw [State.truncation_ovRun, hkept.ovRun, hrun]
    · rwa [(State.truncation_busKept _ _ _).get _ (by decide) (by decide),
        hkept.get _ (not_sampleShown (by decide) (by decide)) (by decide)]

/-- Settles O19: the sample is the lemma above, the restart `busOvRestart_does`. -/
theorem protectionSamplesFollowR124AndTripTheBus : Obligations.ProtectionSamplesFollowR124AndTripTheBus := by
  unfold Obligations.ProtectionSamplesFollowR124AndTripTheBus
  exact fun s bits at_ => ⟨protectionSample_does bits at_ s, busOvRestart_does⟩

end Sys2Proof.Machine
end

section
/-! The carrier boundary of a converter (R113, R114, R129, R142). -/

namespace Sys2Proof.Machine

/-! ### The period that begins (R113, R114) -/

section
variable (c : Conv) (s : State)

/-- Drawing a period changes its converter, and of it the period and the dither generator. -/
theorem State.drawPeriod_eq : ∃ per g n, s.drawPeriod c = s.modConv c (fun x =>
    { x with period := ((per : Nat) - x.align).toNat, align := 0, dither := g, draws := n }) := by
  unfold State.drawPeriod
  dsimp only
  split
  · exact ⟨s.getN (K.convCarrierPeriod c.idx), (s.conv c).dither, (s.conv c).draws, rfl⟩
  · exact ⟨s.getN (K.convCarrierPeriod c.idx) + 2 * (s.shelfId % 32), (s.conv c).dither, (s.conv c).draws, rfl⟩
  · exact ⟨_, _, (s.conv c).draws + 1, rfl⟩

theorem State.drawPeriod_plain (h : s.getN (K.convDither c.idx) = 0) : s.drawPeriod c = s.modConv c (fun x =>
    { x with period := ((s.getN (K.convCarrierPeriod c.idx) : Int) - x.align).toNat, align := 0 }) := by
  unfold State.drawPeriod
  rw [h]
  rfl

theorem State.phase_drawPeriod (p : Fin 20) : (s.drawPeriod c).phase p = s.phase p := by
  obtain ⟨per, g, n, heq⟩ := s.drawPeriod_eq c
  rw [heq, State.phase_modConv]

theorem State.phase_placeOffsets (p : Fin 20) : (s.placeOffsets c).phase p = s.phase p :=
  (State.phase_modConv _ _ _ _).trans (State.each_same (State.phase · p) s fun _ _ _ => State.phase_put _ _ _ _)

/-- Placing the offsets ends the move of its converter, at most. -/
theorem State.conv_placeOffsets : ∃ moving, (s.placeOffsets c).conv c = { s.conv c with moving := moving } := by
  have hputs : ∀ (l : List (Fin 20)) (v : Fin 20 → State → Int),
      (s.each l (fun p s => s.put (K.phaseInterleaveOffset p) (v p s))).conv c = s.conv c := fun l v =>
    State.each_same (State.conv · c) s fun _ _ _ => State.conv_put _ _ _ _
  unfold State.placeOffsets
  dsimp only
  rw [State.conv_modConv, if_pos rfl, hputs]
  exact ⟨_, rfl⟩

/-! ### Burst packets (R134) -/

theorem State.conv_feedPhases (was will : PhaseState) (on : Bool) (d : Conv) : (s.feedPhases was will on).conv d = s.conv d :=
  State.each_same (State.conv · d) s fun _ _ _ => State.when_same (State.conv · d) _ _ (State.conv_modPhase _ _ _ _)

/-- A converter without its burst. -/
def ConvSt.unburst (x : ConvSt) : ConvSt := { x with burst := false, packet := none, burstRun := 0 }

theorem State.conv_burstExit_unburst : ((s.burstExit c).conv c).unburst = (s.conv c).unburst := by
  rw [State.conv_burstExit]
  split <;> rfl

/-- A packet leaves its converter but for the burst. -/
theorem State.conv_packetBoundary : (s.packetBoundary.conv .feed).unburst = (s.conv .feed).unburst := by
  unfold State.packetBoundary
  split
  · rfl
  · rename_i n hn
    have hbegun : ((s.modConv .feed (fun x => { x with packet := some (n + 1) })).conv .feed).unburst = (s.conv .feed).unburst := rfl
    dsimp only
    split_ifs
    · rw [State.conv_feedPhases, hbegun]
    · rw [State.conv_burstExit_unburst, hbegun]
    · rw [State.conv_modConv, if_pos rfl, State.conv_feedPhases, ← hbegun]
      rfl
    · exact hbegun

theorem State.packetBoundary_none (h : (s.conv .feed).packet = none) : s.packetBoundary = s := by
  unfold State.packetBoundary
  rw [h]

end

/-! ### CARRIER_BOUNDARY of a converter -/

/-- What follows on the period that begins. -/
def State.periodBegins (c : Conv) (s : State) : State :=
  match c with
  | .feed => ((s.drawPeriod .feed).placeOffsets .feed).packetBoundary
  | .storage => (s.drawPeriod .storage).placeOffsets .storage

theorem exec_carrierBoundary_none (c : Conv) (s : State) :
    exec (.carrierBoundary c none) s = .next ((s.when (s.conv c).stopPend (State.convOff c)).periodBegins c) := by
  cases c <;> rfl

section
variable {s : State} {c : Conv}

theorem State.conv_periodBegins : (((s.periodBegins c).conv c).unburst.period = ((s.drawPeriod c).conv c).period) ∧
    ((s.periodBegins c).conv c).unburst.align = ((s.drawPeriod c).conv c).align := by
  obtain ⟨moving, hplace⟩ := (s.drawPeriod c).conv_placeOffsets c
  have hconv : ((s.periodBegins c).conv c).unburst = { (s.drawPeriod c).conv c with moving := moving }.unburst := by
    rw [← hplace]
    cases c with
    | feed => exact State.conv_packetBoundary _
    | storage => rfl
  rw [hconv]
  exact ⟨rfl, rfl⟩

theorem carrierBoundary_stops (hstop : (s.conv c).stopPend = true) : Does (.carrierBoundary c none) s (fun t =>
    (t.conv c).on = false ∧ ∀ q ∈ phasesOf c, (t.phase q).state = .off ∨ (t.phase q).state = .latched ∨
      (t.phase q).state = .tempStop) := by
  obtain ⟨per, g, n, hdraw⟩ := (s.convOff c).drawPeriod_eq c
  obtain ⟨moving, hplace⟩ := ((s.convOff c).drawPeriod c).conv_placeOffsets c
  have hconv : (((s.convOff c).drawPeriod c).placeOffsets c).conv c = { (s.conv c).off with
      period := ((per : Nat) - (s.conv c).align : Int).toNat, align := 0, dither := g, draws := n, moving := moving } := by
    rw [hplace, hdraw, State.conv_modConv, if_pos rfl, State.conv_convOff, if_pos rfl]
    rfl
  have hbegins : (s.convOff c).periodBegins c = ((s.convOff c).drawPeriod c).placeOffsets c := by
    cases c with
    | feed => exact State.packetBoundary_none _ (by rw [hconv]; rfl)
    | storage => rfl
  have hexec : exec (.carrierBoundary c none) s = .next (((s.convOff c).drawPeriod c).placeOffsets c) := by
    rw [exec_carrierBoundary_none, hstop, State.when_true, hbegins]
  refine .of_next hexec ⟨by rw [hconv]; rfl, fun q hq => ?_⟩
  rw [State.phase_placeOffsets, State.phase_drawPeriod]
  exact State.phase_convOff s hq

theorem carrierBoundary_draws (hstop : (s.conv c).stopPend = false) (hdither : s.getN (K.convDither c.idx) = 0) :
    Does (.carrierBoundary c none) s (fun t => (t.conv c).period =
      ((s.getN (K.convCarrierPeriod c.idx) : Int) - (s.conv c).align).toNat ∧ (t.conv c).align = 0) := by
  have hexec : exec (.carrierBoundary c none) s = .next (s.periodBegins c) := by
    rw [exec_carrierBoundary_none, hstop, State.when_false]
  obtain ⟨hperiod, halign⟩ := State.conv_periodBegins (s := s) (c := c)
  rw [State.drawPeriod_plain c s hdither, State.conv_modConv, if_pos rfl] at hperiod halign
  exact .of_next hexec ⟨hperiod, halign⟩

end

end Sys2Proof.Machine
end

section
/-! The carrier boundary of a phase unit (R129, R136, R137, R143, R146). -/

namespace Sys2Proof.Machine

/-- A phase unit whose period has ended. -/
def Phase.periodEnded (held truncated : Bool) (x : Phase) : Phase :=
  { x with limitedLast := x.limitedNow, limitedRun := if x.limitedNow then x.limitedRun + 1 else 0, limitedNow := held
           cut := held, faultAt := none, truncLast := x.truncNow, truncNow := truncated }

/-- A limited period is counted, and its end noted. -/
def State.limitedNoted (p : Fin 20) (s : State) : State :=
  s.when (s.phase p).limitedNow (fun s =>
    (s.inc (K.phaseLimitedPeriods p)).modConv (convOf p) (fun y => { y with limitedAt := some s.now }))

section
variable {s : State} {p : Fin 20}

/-- The phase unit as its boundary finds it, its period ended. -/
def State.ended (s : State) (p : Fin 20) : Phase := (s.phase p).periodEnded (s.faultHeld p) ((s.limitedNoted p).truncated p)

theorem State.phase_beginPulse : ∃ on off, (s.beginPulse p).phase p = { s.phase p with xOn := on, xOff := off } :=
  ⟨_, _, (State.phase_modPhase _ _ _ _).trans (if_pos rfl)⟩

theorem State.get_beginPulse (k : Nat) : (s.beginPulse p).get k = s.get k := rfl

/-- A pre-biased start: no trim weight, the compare values of the command, a first command, a pulse (R129). -/
theorem State.preBias_eq (back : Bool) : ∃ v first, s.preBias p back =
    ((((s.put (K.phaseTrimWeight p) 0).modPhase p (fun y => { y with shadow := v, goal := v })).put
      (K.phaseCommandInForce p) first).beginPulse p) :=
  ⟨_, _, rfl⟩

theorem State.phase_preBias (back : Bool) : ∃ v on off, (s.preBias p back).phase p =
    { s.phase p with shadow := v, goal := v, xOn := on, xOff := off } := by
  obtain ⟨v, first, heq⟩ := State.preBias_eq (s := s) (p := p) back
  obtain ⟨on, off, hpulse⟩ := State.phase_beginPulse (p := p) (s := (((s.put (K.phaseTrimWeight p) 0).modPhase p
    (fun y => { y with shadow := v, goal := v })).put (K.phaseCommandInForce p) first))
  refine ⟨v, on, off, ?_⟩
  rw [heq, hpulse, State.phase_put, State.phase_modPhase, if_pos rfl, State.phase_put]

theorem State.get_preBias_other {k : Nat} (back : Bool) (h1 : k ≠ K.phaseTrimWeight p) (h2 : k ≠ K.phaseCommandInForce p) :
    (s.preBias p back).get k = s.get k := by
  obtain ⟨v, first, heq⟩ := State.preBias_eq (s := s) (p := p) back
  rw [heq, State.get_beginPulse, State.get_put_other _ _ _ _ h2, State.get_modPhase, State.get_put_other _ _ _ _ h1]

theorem State.get_preBias_weight (back : Bool) : (s.preBias p back).get (K.phaseTrimWeight p) = 0 := by
  have hne : K.phaseTrimWeight p ≠ K.phaseCommandInForce p := by unfold K.phaseTrimWeight K.phaseCommandInForce; omega
  obtain ⟨v, first, heq⟩ := State.preBias_eq (s := s) (p := p) back
  rw [heq, State.get_beginPulse, State.get_put_other _ _ _ _ hne, State.get_modPhase, State.get_put_same]

/-! ### What waits for the boundary -/

section
variable (h : (s.phase p).pend = .none)
include h

/-- With nothing waiting, a boundary begins a pulse; an ordinary start becomes RUN at the end of its first complete period
(R129). -/
theorem State.phaseBoundary_none : s.phaseBoundary p =
    if (s.phase p).state = .starting ∧ (s.phase p).switching = true ∧ (!(s.phase p).retry) = true ∧ (!(s.phase p).rejoin) = true
    then (((s.limitedNoted p).setPhase p { s.ended p with state := .run }).put (K.phaseTrimWeight p) 32767).beginPulse p
    else ((s.limitedNoted p).setPhase p (s.ended p)).beginPulse p := by
  unfold State.phaseBoundary State.ended Phase.periodEnded
  dsimp only
  rw [h]
  rfl

theorem State.phase_phaseBoundary_none : ∃ (state : PhaseState) (on off : Nat),
    (s.phaseBoundary p).phase p = { s.ended p with state := state, xOn := on, xOff := off } := by
  rw [State.phaseBoundary_none h]
  split_ifs
  · obtain ⟨on, off, hpulse⟩ := State.phase_beginPulse (p := p)
      (s := ((s.limitedNoted p).setPhase p { s.ended p with state := .run }).put (K.phaseTrimWeight p) 32767)
    refine ⟨.run, on, off, ?_⟩
    rw [hpulse, State.phase_put, State.phase_setPhase, if_pos rfl]
  · obtain ⟨on, off, hpulse⟩ := State.phase_beginPulse (p := p) (s := (s.limitedNoted p).setPhase p (s.ended p))
    refine ⟨(s.phase p).state, on, off, ?_⟩
    rw [hpulse, State.phase_setPhase, if_pos rfl]
    rfl

end

theorem State.phaseBoundary_start (h : (s.phase p).pend = .start) : s.phaseBoundary p =
    ((s.limitedNoted p).setPhase p { s.ended p with pend := .none, switching := true, since := (s.limitedNoted p).now }).preBias
      p false := by
  unfold State.phaseBoundary State.ended Phase.periodEnded
  dsimp only
  rw [h]
  rfl

theorem State.phaseBoundary_takeOut (h : (s.phase p).pend = .takeOut) :
    s.phaseBoundary p = ((s.limitedNoted p).setPhase p (s.ended p)).phaseOut p := by
  unfold State.phaseBoundary State.ended Phase.periodEnded
  dsimp only
  rw [h]
  rfl

theorem State.phaseBoundary_tempStop (h : (s.phase p).pend = .tempStop) :
    s.phaseBoundary p = (s.limitedNoted p).setPhase p { (s.ended p).toOff with state := .tempStop } := by
  unfold State.phaseBoundary State.ended Phase.periodEnded
  dsimp only
  rw [h]
  rfl

/-- A boundary writes no object but the weight, the command and the limited periods of its phase. -/
theorem State.get_phaseBoundary {k : Nat} (h1 : k ≠ K.phaseTrimWeight p) (h2 : k ≠ K.phaseCommandInForce p)
    (hk : noting k = false) : (s.phaseBoundary p).get k = (s.limitedNoted p).get k := by
  unfold State.phaseBoundary
  dsimp only
  split
  · exact State.get_preBias_other _ h1 h2
  · rfl
  · rw [State.get_beginPulse]
    split <;> rfl
  · rfl
  · exact State.get_phaseOut _ _ hk
  · rfl
  · exact iteInduction (motive := fun t : State => t.get k = (s.limitedNoted p).get k) (fun _ => rfl)
      (fun _ => State.get_preBias_other _ h1 h2)
  · exact iteInduction (motive := fun t : State => t.get k = (s.limitedNoted p).get k)
      (fun _ => State.get_put_other _ _ _ _ h1) (fun _ => rfl)

theorem State.limitedNoted_counts (h : (s.phase p).limitedNow = true) :
    counts s (s.limitedNoted p) (K.phaseLimitedPeriods p) 1 := by
  rw [State.limitedNoted, h, State.when_true]
  exact counts_of_get_eq (State.inc_counts _ _) (State.get_modConv _ _ _ _)

theorem phaseLimitedPeriods_ne (p : Fin 20) : K.phaseLimitedPeriods p ≠ K.phaseTrimWeight p ∧
    K.phaseLimitedPeriods p ≠ K.phaseCommandInForce p ∧ noting (K.phaseLimitedPeriods p) = false :=
  ⟨by unfold K.phaseLimitedPeriods K.phaseTrimWeight; omega, by unfold K.phaseLimitedPeriods K.phaseCommandInForce; omega,
    noting_of_power (by unfold K.phaseLimitedPeriods; omega) (by unfold K.phaseLimitedPeriods; omega)⟩

/-! ### CARRIER_BOUNDARY of a phase -/

theorem carrierBoundary_phase {c : Conv} (hp : p ∈ phasesOf c) : Does (.carrierBoundary c (some p)) s (fun t =>
    ((s.phase p).limitedNow = true → counts s t (K.phaseLimitedPeriods p) 1) ∧
    ((s.phase p).pend = .none → (t.phase p).limitedLast = (s.phase p).limitedNow ∧
      (t.phase p).limitedRun = (if (s.phase p).limitedNow then (s.phase p).limitedRun + 1 else 0) ∧
      ((s.phase p).state = .starting → (s.phase p).switching = true → (s.phase p).retry = false → (s.phase p).rejoin = false →
        (t.phase p).state = .run ∧ t.get (K.phaseTrimWeight p) = 32767)) ∧
    ((s.phase p).pend = .start → (t.phase p).switching = true ∧ (t.phase p).pend = .none ∧ t.get (K.phaseTrimWeight p) = 0) ∧
    ((s.phase p).pend = .takeOut → (t.phase p).state = .off ∧ (t.phase p).inService = false) ∧
    ((s.phase p).pend = .tempStop → (t.phase p).state = .tempStop ∧ (t.phase p).switching = false)) := by
  have hexec : exec (.carrierBoundary c (some p)) s = .next (s.phaseBoundary p) :=
    congrArg Host.Outcome.next (if_pos (convOf_eq hp))
  obtain ⟨hweight, hcommand, hnoting⟩ := phaseLimitedPeriods_ne p
  refine .of_next hexec ⟨fun hlimited => ?_, fun hpend => ⟨?_, ?_, fun hstate hswitching hretry hrejoin => ?_⟩,
    fun hpend => ?_, fun hpend => ?_, fun hpend => ?_⟩
  · exact counts_of_get_eq (State.limitedNoted_counts hlimited) (State.get_phaseBoundary hweight hcommand hnoting)
  · obtain ⟨state, on, off, hphase⟩ := State.phase_phaseBoundary_none hpend
    rw [hphase]
    rfl
  · obtain ⟨state, on, off, hphase⟩ := State.phase_phaseBoundary_none hpend
    rw [hphase]
    rfl
  · obtain ⟨on, off, hpulse⟩ := State.phase_beginPulse (p := p)
      (s := ((s.limitedNoted p).setPhase p { s.ended p with state := .run }).put (K.phaseTrimWeight p) 32767)
    rw [State.phaseBoundary_none hpend, if_pos ⟨hstate, hswitching, by simp [hretry], by simp [hrejoin]⟩, hpulse,
      State.phase_put, State.phase_setPhase, if_pos rfl, State.get_beginPulse, State.get_put_same]
    exact ⟨rfl, rfl⟩
  · obtain ⟨v, on, off, hbias⟩ := State.phase_preBias (p := p) (s := (s.limitedNoted p).setPhase p
      { s.ended p with pend := .none, switching := true, since := (s.limitedNoted p).now }) false
    rw [State.phaseBoundary_start hpend, hbias, State.phase_setPhase, if_pos rfl, State.get_preBias_weight]
    exact ⟨rfl, rfl, rfl⟩
  · rw [State.phaseBoundary_takeOut hpend, State.phase_phaseOut, State.phase_setPhase, if_pos rfl]
    exact ⟨rfl, rfl⟩
  · rw [State.phaseBoundary_tempStop hpend, State.phase_setPhase, if_pos rfl]
    exact ⟨rfl, rfl⟩

end

end Sys2Proof.Machine
end

section
/-! Compare updates (R116, R118, R119) and fault inputs (R44, R136). -/

namespace Sys2Proof.Machine

/-! ### COMPARE_UPDATE -/

section
variable (s : State) (p : Fin 20) (pos : Nat)

/-- Is a counter value an edge of the half period? -/
def State.atEdge : Bool := decide (pos = 0) || decide (pos = (s.conv (convOf p)).period / 2)

/-- Is it an update point of the mode (R118)? -/
def State.updatePoint : Bool :=
  decide (pos = 0) || (decide (s.getN (K.convUpdateMode (convOf p).idx) = 1) && s.atEdge p pos) ||
    decide (s.getN (K.convUpdateMode (convOf p).idx) = 2)

/-- Does a counter value lie in the CTL cycle of the phase's fault (R144)? -/
def Phase.faultCycle (x : Phase) : Bool :=
  match x.faultAt with
  | some f => decide (ctlCycle f = ctlCycle pos)
  | none => false

/-- Is the shadow value taken there? -/
def State.takesShadow : Bool := s.updatePoint p pos && !(s.phase p).faultCycle pos

/-- The compare value after it. -/
def State.goalNext : Nat := if s.takesShadow p pos then (s.phase p).shadow else (s.phase p).goal

/-- The phase after it: its goal, and what ends or begins at an update point. -/
def State.pointPassed : State :=
  let resumes := s.takesShadow p pos && decide (convOf p = .storage) && decide ((s.phase p).pend = .resume)
  s.modPhase p (fun x => { x with
    goal := s.goalNext p pos, follow := if s.takesShadow p pos then s.faultHeld p else x.follow
    pend := if resumes then .none else x.pend, state := if resumes then .run else x.state
    switching := x.switching || resumes })

/-- A shift that moves by at most an eighth of the period (R116). -/
def shiftTowards (per cur goal : Nat) : Nat := if cur ≤ goal then min goal (cur + per / 8) else max goal (cur - per / 8)

theorem shiftTowards_cast (per cur goal : Nat) : ((shiftTowards per cur goal : Nat) : Int) =
    if cur ≤ goal then min (goal : Int) ((cur : Int) + (per : Int) / 8) else max (goal : Int) ((cur : Int) - (per : Int) / 8) := by
  unfold shiftTowards
  split <;> omega

theorem exec_compareUpdate_feed (h : convOf p = .feed) : exec (.compareUpdate p pos) s = .next
    (if s.atEdge p pos then (s.pointPassed p pos).put (K.phaseCommandInForce p)
      (shiftTowards (s.conv (convOf p)).period (s.getN (K.phaseCommandInForce p)) (s.goalNext p pos) : Nat)
     else s.pointPassed p pos) := by
  show execCompareUpdate p pos s = _
  rw [shiftTowards_cast]
  unfold execCompareUpdate State.pointPassed State.goalNext State.takesShadow State.updatePoint State.atEdge
  dsimp only
  rw [h]
  rfl

/-- The pulse left of the half period that is running (R118, R119). -/
def State.pulseNext : Nat × Nat :=
  newPulse ((s.pointPassed p pos).getN (K.phaseMinimumPulse p)) ((s.conv (convOf p)).period / 2) pos
    ((s.phase p).xOn, (s.phase p).xOff) (dutyWindow (s.conv (convOf p)).period (s.goalNext p pos))

/-- Has the pulse of the period been ended, or truncated? -/
def State.pulseEnded : Bool :=
  (s.phase p).cut || ((s.pointPassed p pos).put (K.phaseCommandInForce p) (s.goalNext p pos)).truncated p

theorem exec_compareUpdate_storage (h : convOf p = .storage) : exec (.compareUpdate p pos) s = .next
    (if s.takesShadow p pos then ((s.pointPassed p pos).put (K.phaseCommandInForce p) (s.goalNext p pos)).when
      (!s.pulseEnded p pos) (State.modPhase p (fun x => { x with xOn := (s.pulseNext p pos).1, xOff := (s.pulseNext p pos).2 }))
     else s.pointPassed p pos) := by
  have hif : ∀ (b : Bool) (t u : State), (if (!b) = true then (.next t : Out) else .next u) = .next (if b then u else t) :=
    fun b t u => by cases b <;> rfl
  refine Eq.trans ?_ (hif _ _ _)
  show execCompareUpdate p pos s = _
  unfold execCompareUpdate State.pulseEnded State.pulseNext State.pointPassed State.goalNext State.takesShadow
    State.updatePoint State.atEdge
  dsimp only
  rw [h]
  rfl

theorem State.goal_pointPassed : ((s.pointPassed p pos).phase p).goal = s.goalNext p pos := by
  rw [State.pointPassed, State.phase_modPhase, if_pos rfl]

/-- Each compare update leaves the phase its goal, and the command what its converter makes of it. -/
theorem compareUpdate_goal : Does (.compareUpdate p pos) s (fun t => (t.phase p).goal = s.goalNext p pos ∧
    (convOf p = .feed → t.getN (K.phaseCommandInForce p) = if s.atEdge p pos then
      shiftTowards (s.conv (convOf p)).period (s.getN (K.phaseCommandInForce p)) (s.goalNext p pos)
      else s.getN (K.phaseCommandInForce p)) ∧
    (convOf p = .storage → t.getN (K.phaseCommandInForce p) = if s.takesShadow p pos then (s.phase p).shadow
      else s.getN (K.phaseCommandInForce p))) := by
  cases h : convOf p with
  | feed =>
    have hexec := exec_compareUpdate_feed s p pos h
    rw [h] at hexec
    refine .of_next hexec ⟨?_, fun _ => ?_, fun hs => absurd hs (by decide)⟩
    · split_ifs
      · rw [State.phase_put, State.goal_pointPassed]
      · exact s.goal_pointPassed p pos
    · split_ifs
      · exact State.getN_put_natCast _ _ _
      · rfl
  | storage =>
    have hexec := exec_compareUpdate_storage s p pos h
    refine .of_next hexec ⟨?_, fun hs => absurd hs (by decide), fun _ => ?_⟩
    · split_ifs
      · have hpulse : ∀ t : State, ((t.modPhase p (fun x =>
          { x with xOn := (s.pulseNext p pos).1, xOff := (s.pulseNext p pos).2 })).phase p).goal = (t.phase p).goal := fun t => by rw [State.phase_modPhase, if_pos rfl]
        rw [State.when_same (fun t => (t.phase p).goal) _ _ (hpulse _), State.phase_put, State.goal_pointPassed]
      · exact s.goal_pointPassed p pos
    · split_ifs with htaken
      · refine (State.when_same (State.getN · (K.phaseCommandInForce p)) _ _ rfl).trans ?_
        exact (State.getN_put_natCast _ _ _).trans (if_pos htaken)
      · rfl

theorem State.takesShadow_of_sound (h : (s.phase p).faultAt = none) : s.takesShadow p pos = s.updatePoint p pos := by
  unfold State.takesShadow Phase.faultCycle
  rw [h]
  exact Bool.and_true _

theorem State.updatePoint_iff : s.updatePoint p pos = true ↔ pos = 0 ∨
    (s.getN (K.convUpdateMode (convOf p).idx) = 1 ∧ (pos = 0 ∨ pos = (s.conv (convOf p)).period / 2)) ∨
    s.getN (K.convUpdateMode (convOf p).idx) = 2 := by
  simp [State.updatePoint, State.atEdge, or_assoc]

theorem State.atEdge_iff : s.atEdge p pos = true ↔ pos = 0 ∨ pos = (s.conv (convOf p)).period / 2 := by
  simp [State.atEdge]

theorem State.takesShadow_iff (h : (s.phase p).faultAt = none) : s.takesShadow p pos = true ↔ pos = 0 ∨
    (s.getN (K.convUpdateMode (convOf p).idx) = 1 ∧ (pos = 0 ∨ pos = (s.conv (convOf p)).period / 2)) ∨
    s.getN (K.convUpdateMode (convOf p).idx) = 2 := by
  rw [s.takesShadow_of_sound p pos h, s.updatePoint_iff]

theorem State.goalNext_of_sound (h : (s.phase p).faultAt = none) : s.goalNext p pos = if pos = 0 ∨
    (s.getN (K.convUpdateMode (convOf p).idx) = 1 ∧ (pos = 0 ∨ pos = (s.conv (convOf p)).period / 2)) ∨
    s.getN (K.convUpdateMode (convOf p).idx) = 2 then (s.phase p).shadow else (s.phase p).goal :=
  if_congr (s.takesShadow_iff p pos h) rfl rfl

theorem State.goalNext_of_fault (h : (s.phase p).faultAt = some pos) : s.goalNext p pos = (s.phase p).goal := by
  have hcycle : s.takesShadow p pos = false := by
    unfold State.takesShadow Phase.faultCycle
    rw [h]
    simp
  rw [State.goalNext, hcycle]
  rfl

end

/-! ### FAULT_INPUT -/

section
variable (s : State) (j p : Fin 20) (at_ : Carriers) (stamp : Nat)

/-- An edge of a fault input as the module sees it (R44). -/
def State.faultSeen (asserted : Bool) : State :=
  s.modPow (fun w => { w with
    faultIn := if asserted then w.faultIn ||| (1#20 <<< j.val) else w.faultIn &&& ~~~(1#20 <<< j.val)
    faultStamp := w.faultStamp.set j stamp })

/-- The phases that take a fault input. -/
def State.faultTakers : List (Fin 20) := allPhases.filter (fun p : Fin 20 => decide (s.getN (K.phaseFaultInput p) = j.val))

/-- A phase marked as limited in this period. -/
def State.faultNoted : State := s.modPhase p (fun x => { x with limitedNow := true, faultAt := some (s.position at_ p) })

/-- The pulse of a limited phase ends (R136, LIMIT). -/
def State.faultLimits : State :=
  match convOf p with
  | .feed => s.modPhase p (fun x => { x with follow := true })
  | .storage => s.modPhase p (fun x => { x.endPulse (s.position at_ p) with cut := true })

end

section
variable (at_ : Carriers) (p : Fin 20) (s : State)

/-- What an unmasked assertion does to a phase that takes it (R136). -/
def State.faultTaken : State :=
  if (s.faultNoted p at_).get (K.phaseFaultAction p) = 0 then (s.faultNoted p at_).faultLimits p at_
  else (s.faultNoted p at_).when ((s.faultNoted p at_).phase p).state.live (State.enterHiccup p)

/-- What an unmasked assertion leaves of a phase that takes it: limited where its counter stands, and as its action gives. -/
structure FaultFelt (x : Phase) : Prop where
  limited : x.limitedNow = true
  where_ : x.faultAt = some (s.position at_ p)
  follows : s.get (K.phaseFaultAction p) = 0 → convOf p = .feed → x.follow = true
  cuts : s.get (K.phaseFaultAction p) = 0 → convOf p = .storage → x.cut = true
  stops : s.get (K.phaseFaultAction p) ≠ 0 → (s.phase p).state.live = true → x.state = .hiccup ∨ x.state = .latched

end

theorem Phase.endPulse_keeps (pos : Nat) (x : Phase) :
    (x.endPulse pos).limitedNow = x.limitedNow ∧ (x.endPulse pos).faultAt = x.faultAt := by
  unfold Phase.endPulse
  split_ifs <;> exact ⟨rfl, rfl⟩

section
variable {s t : State} {j p q : Fin 20} {at_ : Carriers} {stamp : Nat}

theorem State.phase_faultNoted : (s.faultNoted p at_).phase p =
    { s.phase p with limitedNow := true, faultAt := some (s.position at_ p) } := by
  rw [State.faultNoted, State.phase_modPhase, if_pos rfl]

theorem State.phase_faultNoted_state : ((s.faultNoted p at_).phase p).state = (s.phase p).state := by
  rw [State.phase_faultNoted]

theorem State.faultTaken_limits (h : s.get (K.phaseFaultAction p) = 0) :
    s.faultTaken at_ p = (s.faultNoted p at_).faultLimits p at_ := if_pos h

theorem State.faultTaken_stops (h : s.get (K.phaseFaultAction p) ≠ 0) :
    s.faultTaken at_ p = (s.faultNoted p at_).when (s.phase p).state.live (State.enterHiccup p) := by
  rw [← State.phase_faultNoted_state (at_ := at_)]
  exact if_neg h

theorem State.faultLimits_eq : ∃ f, s.faultLimits p at_ = s.modPhase p f := by
  unfold State.faultLimits
  split <;> exact ⟨_, rfl⟩

theorem State.faultTaken_hiccupKept : HiccupKept s (s.faultTaken at_ p) := by
  have hnoted : HiccupKept s (s.faultNoted p at_) := State.modPhase_hiccupKept _ _ _
  by_cases haction : s.get (K.phaseFaultAction p) = 0
  · obtain ⟨f, hlimits⟩ := State.faultLimits_eq (s := s.faultNoted p at_) (p := p) (at_ := at_)
    rw [State.faultTaken_limits haction, hlimits]
    exact hnoted.trans (State.modPhase_hiccupKept _ _ _)
  · rw [State.faultTaken_stops haction]
    exact hnoted.when fun u => u.enterHiccup_hiccupKept p

theorem State.phase_faultTaken_other (hq : q ≠ p) : (s.faultTaken at_ p).phase q = s.phase q := by
  have hnoted : (s.faultNoted p at_).phase q = s.phase q := (State.phase_modPhase _ _ _ _).trans (if_neg hq)
  by_cases haction : s.get (K.phaseFaultAction p) = 0
  · obtain ⟨f, hlimits⟩ := State.faultLimits_eq (s := s.faultNoted p at_) (p := p) (at_ := at_)
    rw [State.faultTaken_limits haction, hlimits, State.phase_modPhase, if_neg hq, hnoted]
  · rw [State.faultTaken_stops haction]
    exact (State.when_same (State.phase · q) _ _ ((State.phase_enterHiccup _ _ _).trans (if_neg hq))).trans hnoted

theorem State.faultTaken_felt : FaultFelt at_ p s ((s.faultTaken at_ p).phase p) := by
  by_cases haction : s.get (K.phaseFaultAction p) = 0
  · rw [State.faultTaken_limits haction, State.faultLimits]
    split
    · rename_i hfeed
      rw [State.phase_modPhase, if_pos rfl, State.phase_faultNoted]
      exact ⟨rfl, rfl, fun _ _ => rfl, fun _ hstorage => absurd (hfeed.symm.trans hstorage) (by decide),
        fun hne => absurd haction hne⟩
    · rename_i hstorage
      rw [State.phase_modPhase, if_pos rfl, State.phase_faultNoted]
      obtain ⟨hlimited, hat⟩ := Phase.endPulse_keeps ((s.faultNoted p at_).position at_ p)
        { s.phase p with limitedNow := true, faultAt := some (s.position at_ p) }
      exact ⟨hlimited, hat, fun _ hfeed => absurd (hstorage.symm.trans hfeed) (by decide), fun _ _ => rfl,
        fun hne => absurd haction hne⟩
  · rw [State.faultTaken_stops haction]
    cases hlive : (s.phase p).state.live with
    | false =>
      rw [State.when_false, State.phase_faultNoted]
      exact ⟨rfl, rfl, fun h => absurd h haction, fun h => absurd h haction, fun _ h => absurd (hlive.symm.trans h) (by decide)⟩
    | true =>
      rw [State.when_true, State.phase_enterHiccup, if_pos rfl, State.phase_faultNoted]
      exact ⟨rfl, rfl, fun h => absurd h haction, fun h => absurd h haction, fun _ _ => Phase.hiccuped_state _ _ _⟩

/-! What FAULT_INPUT reads of a phase, entering HICCUP does not write. -/

theorem HiccupKept.position (h : HiccupKept s t) : t.position at_ p = s.position at_ p := by
  have hper : (t.conv (convOf p)).lasting.period = (s.conv (convOf p)).lasting.period := by rw [h.conv]
  have hoffset : t.getN (K.phaseInterleaveOffset p) = s.getN (K.phaseInterleaveOffset p) :=
    congrArg Int.toNat (h.get _
      (by rintro ⟨q, hq | hq⟩ <;> simp only [K.phaseInterleaveOffset, K.phaseHiccups, K.phaseRetryFailures] at hq <;> omega)
      (noting_of_power (by unfold K.phaseInterleaveOffset; omega) (by unfold K.phaseInterleaveOffset; omega)))
  unfold State.position
  rw [hoffset, show (t.conv (convOf p)).period = (s.conv (convOf p)).period from hper]

theorem HiccupKept.get_phaseFaultAction (h : HiccupKept s t) :
    t.get (K.phaseFaultAction p) = s.get (K.phaseFaultAction p) :=
  h.get _
    (by rintro ⟨q, hq | hq⟩ <;> simp only [K.phaseFaultAction, K.phaseHiccups, K.phaseRetryFailures] at hq <;> omega)
    (noting_of_power (by unfold K.phaseFaultAction; omega) (by unfold K.phaseFaultAction; omega))

theorem FaultFelt.of_kept {x : Phase} (h : FaultFelt at_ p t x) (hkept : HiccupKept s t) (hphase : t.phase p = s.phase p) :
    FaultFelt at_ p s x where
  limited := h.limited
  where_ := by rw [h.where_, hkept.position]
  follows haction := h.follows (by rwa [hkept.get_phaseFaultAction])
  cuts haction := h.cuts (by rwa [hkept.get_phaseFaultAction])
  stops haction hlive := h.stops (by rwa [hkept.get_phaseFaultAction]) (by rwa [hphase])

/-- Every phase of a list takes the assertion once, as the state before all of them gives. -/
theorem State.each_faultTaken_felt {l : List (Fin 20)} (hl : l.Nodup) (hp : p ∈ l) :
    FaultFelt at_ p s ((s.each l (State.faultTaken at_)).phase p) := by
  refine State.each_once (A := fun t => HiccupKept s t ∧ t.phase p = s.phase p) (B := fun t => FaultFelt at_ p s (t.phase p))
    hl hp ⟨.rfl, rfl⟩ (fun q hq t ⟨hkept, hphase⟩ => ?_) (fun t ⟨hkept, hphase⟩ => ?_) (fun q hq t ht => ?_)
  · exact ⟨hkept.trans State.faultTaken_hiccupKept, (State.phase_faultTaken_other hq.symm).trans hphase⟩
  · exact State.faultTaken_felt.of_kept hkept hphase
  · rwa [State.phase_faultTaken_other hq.symm]

theorem State.mem_faultTakers : p ∈ s.faultTakers j ↔ s.getN (K.phaseFaultInput p) = j := by
  simp [State.faultTakers, allPhases]

theorem State.faultTakers_nodup : (s.faultTakers j).Nodup := (List.nodup_finRange 20).filter _

theorem FaultFelt.of_seen {asserted : Bool} {x : Phase} (h : FaultFelt at_ p (s.faultSeen j stamp asserted) x) :
    FaultFelt at_ p s x :=
  ⟨h.limited, h.where_, h.follows, h.cuts, h.stops⟩

theorem exec_faultInput (asserted : Bool) : exec (.faultInput j asserted at_ stamp) s = .next
    (if !asserted || (s.getN K.faultFaultInputMask).testBit j.val then s.faultSeen j stamp asserted
     else (s.faultSeen j stamp asserted).each (s.faultTakers j) (State.faultTaken at_)) := by
  show execFaultInput j asserted at_ stamp s = _
  exact (apply_ite Host.Outcome.next _ _ _).symm

theorem State.faultSeen_stamp (asserted : Bool) : (s.faultSeen j stamp asserted).pow.faultStamp[j] = stamp := by
  simp [State.faultSeen, State.modPow]

/-- An assertion is marked with its stamp; masked it touches no phase, unmasked every phase that takes it feels it. -/
theorem faultInput_asserted : Does (.faultInput j true at_ stamp) s (fun t =>
    t.pow.faultIn = s.pow.faultIn ||| (1#20 <<< j.val) ∧ t.pow.faultStamp[j] = stamp ∧
    ((s.getN K.faultFaultInputMask).testBit j = true → t.pow.phases = s.pow.phases) ∧
    ((s.getN K.faultFaultInputMask).testBit j = false → s.getN (K.phaseFaultInput p) = j → FaultFelt at_ p s (t.phase p))) := by
  have hexec := exec_faultInput (s := s) (j := j) (at_ := at_) (stamp := stamp) true
  cases hmask : (s.getN K.faultFaultInputMask).testBit j with
  | true =>
    rw [hmask] at hexec
    exact .of_next hexec ⟨rfl, State.faultSeen_stamp true, fun _ => rfl, fun h => absurd h (by decide)⟩
  | false =>
    rw [hmask] at hexec
    have hkept : HiccupKept (s.faultSeen j stamp true)
        ((s.faultSeen j stamp true).each (s.faultTakers j) (State.faultTaken at_)) :=
      State.each_preserves _ .rfl fun q t ht => ht.trans State.faultTaken_hiccupKept
    refine .of_next hexec ⟨hkept.faultIn, ?_, fun h => absurd h (by decide), fun _ htakes => ?_⟩
    · exact (congrArg (·[j]) hkept.faultStamp).trans (State.faultSeen_stamp true)
    · exact (State.each_faultTaken_felt State.faultTakers_nodup (State.mem_faultTakers.2 htakes)).of_seen

theorem faultInput_released : Does (.faultInput j false at_ stamp) s (fun t =>
    t.pow.faultIn = s.pow.faultIn &&& ~~~(1#20 <<< j.val) ∧ t.pow.faultStamp[j] = stamp ∧ t.pow.phases = s.pow.phases) :=
  .of_next (exec_faultInput false) ⟨rfl, State.faultSeen_stamp false, rfl⟩

end

theorem Does.mono {i : Instr} {s : State} {P Q : State → Prop} (h : Does i s P) (hPQ : ∀ t, P t → Q t) : Does i s Q := by
  obtain ⟨t, hexec, ht⟩ := h
  exact .of_next hexec (hPQ t ht)

/-- Settles O15: a carrier boundary by what waits for it, a compare update by its converter, a fault input by the loop over
the phases that take it, each of which no other round touches. -/
theorem carrierBoundariesMoveThePhases : Obligations.CarrierBoundariesMoveThePhases := by
  unfold Obligations.CarrierBoundariesMoveThePhases
  intro s c p j pos stamp at_
  refine ⟨carrierBoundary_stops, carrierBoundary_draws, carrierBoundary_phase,
    (compareUpdate_goal s p pos).mono fun t ⟨hgoal, hfeed, hstorage⟩ => ⟨fun hsound => ?_, fun hfault => ?_⟩,
    (faultInput_asserted (p := p)).mono fun t ⟨hin, hstamp, hmasked, hfelt⟩ =>
      ⟨hin, hstamp, hmasked, fun ⟨hmask, htakes⟩ => ?_, fun ⟨hmask, htakes⟩ haction => ?_,
        fun ⟨hmask, htakes⟩ => (hfelt hmask htakes).stops⟩,
    faultInput_released⟩
  · have hnext := s.goalNext_of_sound p pos hsound
    refine ⟨hgoal.trans hnext, ?_⟩
    split
    · rename_i hconv
      exact (hstorage hconv).trans (if_congr (s.takesShadow_iff p pos hsound) rfl rfl)
    · rename_i hconv
      rw [hfeed hconv, hnext]
      exact if_congr (s.atEdge_iff p pos) rfl rfl
  · rw [hgoal, s.goalNext_of_fault p pos hfault]
  · exact ⟨(hfelt hmask htakes).limited, (hfelt hmask htakes).where_⟩
  · split
    · exact (hfelt hmask htakes).follows haction ‹_›
    · exact (hfelt hmask htakes).cuts haction ‹_›

end Sys2Proof.Machine
end

section
/-! Cardamom words (R167, Tables 6-6 and 6-8): the fields of a joined word, operands that share a field, and the
round trip of every instruction. -/

namespace Sys2Proof.Machine

/-! ### The fields of a joined word -/

section
variable (op : BitVec 6) (a : BitVec 3) (d : BitVec 4) (k : BitVec 10) (m : BitVec 9)

/-- Which field a bit of a joined word belongs to (Table 6-6). -/
theorem getLsbD_joinWord (i : Nat) : (joinWord op a d k m).getLsbD i =
    if i < 9 then m.getLsbD i else if i < 19 then k.getLsbD (i - 9) else if i < 23 then d.getLsbD (i - 19)
    else if i < 26 then a.getLsbD (i - 23) else op.getLsbD (i - 26) := by
  simp only [joinWord, BitVec.getLsbD_append]
  grind

@[simp] theorem fS_joinWord : fS (joinWord op a d k m) = m := by
  ext i hi
  simp [fS, ← BitVec.getLsbD_eq_getElem, getLsbD_joinWord, hi]

@[simp] theorem fK_joinWord : fK (joinWord op a d k m) = k := by
  ext i hi
  simp [fK, ← BitVec.getLsbD_eq_getElem, getLsbD_joinWord, hi, show 9 + i < 19 by omega]

@[simp] theorem fD_joinWord : fD (joinWord op a d k m) = d := by
  ext i hi
  simp [fD, ← BitVec.getLsbD_eq_getElem, getLsbD_joinWord, hi, show 19 + i < 23 by omega, show ¬19 + i < 9 by omega]

@[simp] theorem fA_joinWord : fA (joinWord op a d k m) = a := by
  ext i hi
  simp [fA, ← BitVec.getLsbD_eq_getElem, getLsbD_joinWord, hi, show 23 + i < 26 by omega, show ¬23 + i < 9 by omega,
    show ¬23 + i < 19 by omega]

@[simp] theorem fOp_joinWord : fOp (joinWord op a d k m) = op := by
  ext i hi
  simp [fOp, ← BitVec.getLsbD_eq_getElem, getLsbD_joinWord, hi, show ¬26 + i < 9 by omega, show ¬26 + i < 19 by omega,
    show ¬26 + i < 23 by omega]

end

/-- LDK's word, whose immediate lies across the K and S fields, as a joined word. -/
theorem ldkWord_eq_joinWord (d : BitVec 4) (imm : BitVec 16) :
    (0x02#6 ++ 0#3 ++ d ++ 0#3 ++ imm : BitVec 32) = joinWord 0x02 0 d (0#3 ++ imm.extractLsb' 9 7) (imm.setWidth 9) := by
  ext i hi
  simp only [← BitVec.getLsbD_eq_getElem, getLsbD_joinWord, BitVec.getLsbD_append, BitVec.getLsbD_extractLsb',
    BitVec.getLsbD_setWidth]
  grind

theorem setWidth_ldkWord (d : BitVec 4) (imm : BitVec 16) :
    (0x02#6 ++ 0#3 ++ d ++ 0#3 ++ imm : BitVec 32).setWidth 16 = imm :=
  BitVec.setWidth_append_eq_right

/-! ### Operands that share a field -/

theorem extractLsb'_kOfTop (x : BitVec 4) : (kOfTop x).extractLsb' 6 4 = x := BitVec.extractLsb'_append_eq_left

theorem extractLsb'_kOfMask (x : BitVec 8) : (kOfMask x).extractLsb' 2 8 = x := BitVec.extractLsb'_append_eq_left

/-! ### The round trip -/

/-- The fields of an instruction's word name that instruction. -/
theorem fieldsOf_encodeWord (i : CInstr) : fieldsOf (encodeWord i) = some i := by
  cases i with
  | ldk d imm =>
    simp only [encodeWord, fieldsOf, setWidth_ldkWord]
    rw [ldkWord_eq_joinWord, fOp_joinWord, fD_joinWord]
    simp
  | _ => simp [encodeWord, fieldsOf, dOfB, kOfBit, extractLsb'_kOfTop, extractLsb'_kOfMask]

/-- A word decodes to an instruction exactly when it is that instruction's word (R167): every instruction survives encoding
and decoding, and a word means at most one. -/
theorem decodeWord_eq_some_iff (w : BitVec 32) (i : CInstr) : decodeWord w = some i ↔ encodeWord i = w := by
  constructor
  · intro h
    unfold decodeWord at h
    split at h
    · cases h
    · split at h
      · rename_i hw
        exact Option.some.inj h ▸ hw
      · cases h
  · rintro rfl
    simp [decodeWord, fieldsOf_encodeWord]

/-- Refutes O8: every instruction survives encoding and decoding, and a word means at most one, but the sample word given for
MAC A1 D2 C[5] holds its coefficient address one bit too high in the K field (Table 6-6): it is the word of MAC A1 D2 C[10]. -/
theorem not_cardamomWordRoundTrip : ¬ Obligations.CardamomWordRoundTrip := by
  unfold Obligations.CardamomWordRoundTrip
  rintro ⟨-, -, -, hmac, -⟩
  have hword : encodeWord (.mac 1 2 10) = 0b00111000100100000001010000000000#32 := by decide
  have hsame : encodeWord (.mac 1 2 5) = encodeWord (.mac 1 2 10) := ((decodeWord_eq_some_iff _ _).1 hmac).trans hword.symm
  exact absurd hsame (by decide)

end Sys2Proof.Machine
end

section
/-! An instruction issued by a core (R151 to R168): the bank each kind of result leaves, and the moves, loads and tests. -/

namespace Sys2Proof.Machine

/-! ### Issuing -/

/-- The command that issues an instruction on a core issues it. -/
theorem exec_rowOf (n : Fin 4) (i : CInstr) (s : State) : exec (rowOf n i) s = .next (s.issue n i) := by
  cases i <;> rfl

/-- What a core holds after it has issued an instruction. -/
def State.issued (s : State) (n : Fin 4) (i : CInstr) : CoreSt := ((s.core n).spend (cycles i)).instr s.card.snap i

section
variable {s : State} {n : Fin 4} {i : CInstr}

theorem State.core_issue_of_issues (h : s.issues n) : (s.issue n i).core n = (s.issued n i).settled s.now := by
  rw [State.core_issue n i s h.1, CoreSt.exec1, if_pos h.2]
  rfl

/-- A core that issues an instruction holds what the instruction leaves. -/
theorem issue_does {P : State → Prop} (h : s.issues n)
    (hP : ∀ t : State, t.core n = (s.issued n i).settled s.now → P t) : Does (rowOf n i) s P :=
  .of_next (exec_rowOf n i s) (hP _ (State.core_issue_of_issues h))

theorem issue_bankIs {b : Bank} (h : s.issues n) (hb : (s.issued n i).bank = b) : BankIs (rowOf n i) s n b :=
  issue_does h fun t ht => by rw [State.bankOf, ht, CoreSt.bank_settled, hb]

end

/-! ### Results -/

section
variable (c : CoreSt)

@[simp] theorem CoreSt.bank_setAcc (a : Fin 8) (x : Int) :
    (c.setAcc a x).bank = { c.bank with acc := c.bank.acc.set a (BitVec.ofInt 40 x) } := CoreSt.bank_setBank _ _
@[simp] theorem CoreSt.bank_setDat (d : Fin 16) (x : BitVec 16) :
    (c.setDat d x).bank = { c.bank with dat := c.bank.dat.set d x } := CoreSt.bank_setBank _ _
@[simp] theorem CoreSt.bank_setZN (x : Int) :
    (c.setZN x).bank = { c.bank with z := decide (x = 0), n := decide (x < 0) } := CoreSt.bank_setBank _ _
@[simp] theorem CoreSt.bank_setV (b : Bool) : (c.setV b).bank = { c.bank with v := b } := CoreSt.bank_setBank _ _
@[simp] theorem CoreSt.bank_setL (b : Bool) : (c.setL b).bank = { c.bank with l := b } := CoreSt.bank_setBank _ _
@[simp] theorem CoreSt.bank_setT (b : Bool) : (c.setT b).bank = { c.bank with t := b } := CoreSt.bank_setBank _ _
@[simp] theorem CoreSt.bank_setAT (b : Bool) : (c.setAT b).bank = { c.bank with at_ := b } := CoreSt.bank_setBank _ _

/-- An accumulator result that cannot saturate leaves the bank with that result. -/
@[simp] theorem CoreSt.bank_accResult (a : Fin 8) (x : Int) : (c.accResult a x).bank = c.bank.result a x := by
  simp [CoreSt.accResult, Bank.result]

/-- An accumulator result that may saturate leaves the bank with the result saturated (R164). -/
@[simp] theorem CoreSt.bank_accSatResult (a : Fin 8) (x : Int) : (c.accSatResult a x).bank = c.bank.satResult a x := by
  simp only [CoreSt.accSatResult, CoreSt.bank_countAcc, CoreSt.bank_setV, CoreSt.bank_setZN, CoreSt.bank_setAcc]
  rfl

end

/-! ### Moves, loads and tests -/

/-- Settles O1: each instruction leaves the bank its result gives; SKIPC, which writes none, sets the skip. -/
theorem cardamomMovesLoadTheirOperand : Obligations.CardamomMovesLoadTheirOperand := by
  unfold Obligations.CardamomMovesLoadTheirOperand
  intro s n h c b f
  refine ⟨issue_bankIs (i := .nop) h rfl,
    fun d imm => issue_bankIs (i := .ldk d imm) h (CoreSt.bank_setDat _ _ _),
    fun d p => issue_bankIs (i := .ldi d p) h (CoreSt.bank_setDat _ _ _),
    fun a p => issue_bankIs (i := .ldil a p) h (CoreSt.bank_accResult _ _ _),
    fun a k => issue_bankIs (i := .ldc a k) h (CoreSt.bank_accResult _ _ _),
    fun a m => issue_bankIs (i := .lds a m) h (CoreSt.bank_accResult _ _ _),
    fun a e => issue_bankIs (i := .mova a e) h (CoreSt.bank_accResult _ _ _),
    fun a => issue_bankIs (i := .clr a) h (CoreSt.bank_accResult _ _ _),
    fun a e q => issue_bankIs (i := .sela a e q) h ?_,
    fun a => issue_bankIs (i := .tsta a) h (CoreSt.bank_setZN _ _),
    fun p i => issue_bankIs (i := .tstp p i) h (CoreSt.bank_setT _ _),
    fun q k => issue_does (i := .skipc q k) h fun t ht => ?_⟩
  · rw [State.issued, CoreSt.instr, CoreSt.iSela, CoreSt.cond_spend]
    split
    · rw [CoreSt.bank_setAcc, CoreSt.accI_spend, CoreSt.accI, BitVec.ofInt_toInt]
      rfl
    · rfl
  · rw [State.bankOf, ht, State.issued, CoreSt.instr, CoreSt.iSkipc, CoreSt.cond_spend]
    split
    · exact ⟨rfl, rfl⟩
    · exact ⟨rfl, h.2⟩

/-! ### Arithmetic (R164, R165) -/

theorem shiftRhe_of_neg {x sh : Int} (h : sh < 0) : shiftRhe x sh = rheDiv x (2 ^ (-sh).toNat) := if_neg (by omega)

/-- A 4-bit shift is less than 16. -/
theorem toInt_sub_16_neg (sh : BitVec 4) : sh.toInt - 16 < 0 := by
  have := BitVec.toInt_lt (x := sh)
  norm_num at this
  omega

theorem natAbs_eq_ite (x : Int) : (x.natAbs : Int) = if x < 0 then -x else x := by
  split <;> omega

/-- Settles O2: each instruction leaves the accumulator result of Table 6-8, saturated where it can be; SATD is the
accumulator shifted right and cut to Q15. -/
theorem cardamomArithmeticRoundsAndSaturates : Obligations.CardamomArithmeticRoundsAndSaturates := by
  unfold Obligations.CardamomArithmeticRoundsAndSaturates
  intro s n h c b
  refine ⟨fun a d k => issue_bankIs (i := .mpy a d k) h (CoreSt.bank_accResult _ _ _),
    fun a d k => issue_bankIs (i := .mac a d k) h (CoreSt.bank_accSatResult _ _ _),
    fun a d k => issue_bankIs (i := .msu a d k) h (CoreSt.bank_accSatResult _ _ _),
    fun a d e => issue_bankIs (i := .macd a d e) h ?_,
    fun a e => issue_bankIs (i := .adda a e) h (CoreSt.bank_accSatResult _ _ _),
    fun a e => issue_bankIs (i := .suba a e) h (CoreSt.bank_accSatResult _ _ _),
    fun a d => issue_bankIs (i := .addd a d) h (CoreSt.bank_accSatResult _ _ _),
    fun a d => issue_bankIs (i := .subd a d) h (CoreSt.bank_accSatResult _ _ _),
    fun a sh => issue_bankIs (i := .sha a sh) h (CoreSt.bank_accSatResult _ _ _),
    fun a => issue_bankIs (i := .abs a) h ?_,
    fun a => issue_bankIs (i := .neg a) h (CoreSt.bank_accSatResult _ _ _),
    fun a d sh => issue_bankIs (i := .satd a d sh) h ?_⟩
  · refine (CoreSt.bank_accSatResult _ _ _).trans ?_
    rw [mulQ15, mul_comm _ 2]
    rfl
  · refine (CoreSt.bank_accSatResult _ _ _).trans ?_
    rw [natAbs_eq_ite]
    rfl
  · rw [State.issued, CoreSt.instr, CoreSt.iSatd, shiftRhe_of_neg (toInt_sub_16_neg sh), neg_sub]
    simp only [CoreSt.bank_countStore, CoreSt.bank_setV, CoreSt.bank_setDat]
    rfl

end Sys2Proof.Machine
end

section
/-! Ports and state memory (R161 to R163): what a write of a port, a store and an END leave of a core. -/

namespace Sys2Proof.Machine

theorem limit40_toInt (x : BitVec 40) : limit40 x.toInt = x.toInt := by
  have hlo := BitVec.le_toInt x
  have hhi := BitVec.toInt_lt (x := x)
  norm_num at hlo hhi
  unfold limit40
  omega

/-- An accumulator lies within ACC40 (R163). -/
theorem CoreSt.sat40_accI (c : CoreSt) (a : Fin 8) : sat40 (c.accI a) = c.accI a := limit40_toInt _

/-! ### Writes of ports (Table 6-5) -/

section
variable (c : CoreSt) (p : Nat) (v : Int)

theorem CoreSt.outPort_of_actsNow (h : actsNow p = true) :
    (c.outPort p v).ports = c.ports.put zeroDflt p v ∧ (c.outPort p v).awaitsEnd = c.awaitsEnd := by
  simp only [actsNow, Bool.or_eq_true, Bool.and_eq_true, decide_eq_true_eq] at h
  by_cases hcommand : p = 0 ∨ p = 1
  · rw [CoreSt.outPort, if_pos hcommand]
    exact ⟨rfl, rfl⟩
  · rw [CoreSt.outPort, if_neg hcommand, if_pos (by omega)]
    exact ⟨rfl, rfl⟩

theorem CoreSt.outPort_of_waits (h : actsNow p = false) :
    (c.outPort p v).ports = c.ports ∧ (c.outPort p v).awaitsEnd = c.awaitsEnd ++ [(p, v)] := by
  simp only [actsNow, Bool.or_eq_false_iff, Bool.and_eq_false_iff, decide_eq_false_iff_not] at h
  rw [CoreSt.outPort, if_neg (by omega), if_neg (by omega)]
  cases hh : c.inHandler with
  | true => simp [CoreSt.awaitsEnd, hh]
  | false => simp [CoreSt.awaitsEnd, hh]

/-- A write of a port acts at once or waits for END. -/
theorem CoreSt.outPort_writes : if actsNow p
    then (c.outPort p v).ports = c.ports.put zeroDflt p v ∧ (c.outPort p v).awaitsEnd = c.awaitsEnd
    else (c.outPort p v).ports = c.ports ∧ (c.outPort p v).awaitsEnd = c.awaitsEnd ++ [(p, v)] := by
  split
  · exact c.outPort_of_actsNow p v ‹_›
  · exact c.outPort_of_waits p v (Bool.eq_false_iff.2 ‹_›)

end

section
variable (c : CoreSt)

@[simp] theorem CoreSt.awaitsEnd_settled (t : Nat) : (c.settled t).awaitsEnd = c.awaitsEnd := rfl
@[simp] theorem CoreSt.awaitsEnd_countStore (b : Bool) : (c.countStore b).awaitsEnd = c.awaitsEnd := by cases b <;> rfl
@[simp] theorem CoreSt.awaitsEnd_setV (b : Bool) : (c.setV b).awaitsEnd = c.awaitsEnd := by
  unfold CoreSt.setV CoreSt.setBank CoreSt.awaitsEnd
  split <;> simp_all
@[simp] theorem CoreSt.ports_setV (b : Bool) : (c.setV b).ports = c.ports := CoreSt.ports_setBank _ _

/-- END puts the writes that wait for it in force, in order, and ends the evaluation. -/
theorem CoreSt.publish_ends : c.publish.inHandler = false ∧ c.publish.ports = putWords c.ports c.awaitsEnd ∧
    (if c.inHandler then c.publish.unpublishedH = [] ∧ c.publish.unpublished = c.unpublished
     else c.publish.unpublished = [] ∧ c.publish.unpublishedH = c.unpublishedH) := by
  cases hh : c.inHandler with
  | true => simp [CoreSt.publish, CoreSt.awaitsEnd, hh, putWords]
  | false => simp [CoreSt.publish, CoreSt.awaitsEnd, hh, putWords]

end

/-- Settles O3: a store, a write of a port and an END, each by what it leaves of the core. -/
theorem cardamomStoresReachPortsAndStateMemory : Obligations.CardamomStoresReachPortsAndStateMemory := by
  unfold Obligations.CardamomStoresReachPortsAndStateMemory
  intro s n h c b
  refine ⟨fun a m => issue_does (i := .sts a m) h fun t ht => ?_, fun d p => issue_does (i := .out d p) h fun t ht => ?_,
    fun a p => issue_does (i := .outl a p) h fun t ht => ?_, issue_does (i := .endEval) h fun t ht => ?_⟩
  · rw [State.bankOf, ht]
    refine ⟨rfl, ?_⟩
    show c.sm.put zeroDflt m (sat40 (c.accI a)) = _
    rw [CoreSt.sat40_accI]
  · rw [State.bankOf, ht]
    exact ⟨CoreSt.bank_outPort _ _ _, (c.spend (cycles (.out d p))).outPort_writes p (c.datI d)⟩
  · rw [State.bankOf, ht]
    simp only [State.issued, CoreSt.instr, CoreSt.iOutl, CoreSt.bank_settled, CoreSt.ports_settled, CoreSt.awaitsEnd_settled,
      CoreSt.bank_countStore, CoreSt.bank_setV, CoreSt.ports_countStore, CoreSt.ports_setV, CoreSt.awaitsEnd_countStore,
      CoreSt.awaitsEnd_setV, CoreSt.bank_outPort]
    exact ⟨rfl, (c.spend _).outPort_writes p _⟩
  · rw [ht]
    exact (c.spend (cycles .endEval)).publish_ends

end Sys2Proof.Machine
end

section
/-! Clamps, integrators, slew, tables and feed-forward (R166, R169, R172 to R174), and the selectors (R170, R171). -/

namespace Sys2Proof.Machine

section
variable (c : CoreSt)

/-- An accumulator result with the L flag of a clamp (R166). -/
theorem CoreSt.bank_clampResult (a : Fin 8) (x hi lo : Int) :
    ((c.accResult a (max (min x hi) lo)).setL (decide (max (min x hi) lo ≠ x))).bank = c.bank.clampResult a x hi lo := by
  rw [CoreSt.bank_setL, CoreSt.bank_accResult]
  rfl

@[simp] theorem CoreSt.sm_accResult (a : Fin 8) (x : Int) : (c.accResult a x).sm = c.sm := by
  simp [CoreSt.accResult, CoreSt.setAcc, CoreSt.setZN]
@[simp] theorem CoreSt.sm_setV (b : Bool) : (c.setV b).sm = c.sm := CoreSt.sm_setBank _ _
@[simp] theorem CoreSt.sm_setL (b : Bool) : (c.setL b).sm = c.sm := CoreSt.sm_setBank _ _
@[simp] theorem CoreSt.sm_setAT (b : Bool) : (c.setAT b).sm = c.sm := CoreSt.sm_setBank _ _

end

/-- The gate of FFW is open only with a valid set that has not diverged, and feed-forward on (R174). -/
theorem ffwGate_eq (f : Snapshot) (thr slope : Int) :
    ffwGate f thr slope = if f.fv = true ∧ f.diverged = false ∧ f.ffEnable = true then
      max (min (rheDiv ((f.conf * 65536 - thr) * (slope * 32)) 2147483648) 2147483647) 0 else 0 := by
  unfold ffwGate
  by_cases hopen : f.fv = true ∧ f.diverged = false ∧ f.ffEnable = true
  · obtain ⟨hfv, hdiv, hen⟩ := hopen
    simp [hfv, hdiv, hen, clampInt, mulQ31]
  · rw [if_neg hopen, if_pos]
    revert hopen
    cases f.fv <;> cases f.diverged <;> cases f.ffEnable <;> simp

/-- A slew is bound exactly where it does not reach its target (R172). -/
theorem slewBound_eq_not_reached (d up dn : Int) :
    (decide (up < d) || decide (d < -dn)) = !(decide (-dn ≤ d) && decide (d ≤ up)) := by
  rw [Bool.eq_iff_iff]
  simp only [Bool.or_eq_true, decide_eq_true_eq, Bool.not_eq_true', Bool.and_eq_false_iff, decide_eq_false_iff_not, not_le]
  exact or_comm

/-- Settles O4: each instruction by the result it leaves in the bank; INTEG and SLEW leave it in their state word as well. -/
theorem cardamomClampsAndIntegrates : Obligations.CardamomClampsAndIntegrates := by
  unfold Obligations.CardamomClampsAndIntegrates
  intro s n h c b f
  refine ⟨fun a k => issue_bankIs (i := .lim a k) h ?_, fun a d k m => issue_does (i := .integ a d k m) h fun t ht => ?_,
    fun a k m => issue_does (i := .slew a k m) h fun t ht => ?_,
    fun a d k => issue_bankIs (i := .lut a d k) h (CoreSt.bank_accResult _ _ _),
    fun a k j => issue_bankIs (i := .ffw a k j) h ?_⟩
  · exact (CoreSt.bank_countClamp _ _).trans (CoreSt.bank_clampResult _ _ _ _ _)
  · rw [State.bankOf, ht]
    simp only [State.issued, CoreSt.instr, CoreSt.iInteg, CoreSt.bank_settled, CoreSt.sm_settled, CoreSt.bank_countClamp,
      CoreSt.sm_countClamp, CoreSt.bank_setL, CoreSt.sm_setL, CoreSt.bank_countAcc, CoreSt.sm_countAcc, CoreSt.bank_setV,
      CoreSt.sm_setV, CoreSt.bank_accResult, CoreSt.sm_accResult, CoreSt.bank_setSm, CoreSt.sm_setSm]
    exact ⟨rfl, rfl⟩
  · rw [State.bankOf, ht]
    simp only [State.issued, CoreSt.instr, CoreSt.iSlew, CoreSt.bank_settled, CoreSt.sm_settled, CoreSt.bank_countClamp,
      CoreSt.sm_countClamp, CoreSt.bank_setL, CoreSt.sm_setL, CoreSt.bank_setAT, CoreSt.sm_setAT,
      CoreSt.bank_accResult, CoreSt.sm_accResult, CoreSt.bank_setSm, CoreSt.sm_setSm]
    rw [slewBound_eq_not_reached, Bool.not_not]
    exact ⟨rfl, rfl⟩
  · refine (CoreSt.bank_accSatResult _ _ _).trans ?_
    rw [ffwGate_eq]
    rfl

/-! ### Selectors (R170, R171) -/

theorem mem_maskList {mask : BitVec 8} {i : Fin 8} : i ∈ maskList mask ↔ mask.getLsbD i = true := by
  simp [maskList]

theorem maskList_ascends (mask : BitVec 8) : (maskList mask).Pairwise (· < ·) :=
  (List.pairwise_lt_finRange 8).filter _

theorem mem_of_bestIndex {c : CoreSt} {better : Int → Int → Bool} {l : List (Fin 8)} {j : Fin 8}
    (h : bestIndex c better l = some j) : j ∈ l := by
  induction l generalizing j with
  | nil => cases h
  | cons i rest ih =>
    rw [bestIndex] at h
    cases hk : bestIndex c better rest with
    | none =>
      rw [hk] at h
      exact List.mem_cons.2 (.inl (Option.some.inj h).symm)
    | some k =>
      simp only [hk] at h
      split at h
      · exact List.mem_cons_of_mem _ (ih (hk.trans h))
      · exact List.mem_cons.2 (.inl (Option.some.inj h).symm)

/-- The selector passes the candidate that none beats and that beats every lower-numbered one. -/
theorem bestIndex_eq_some {c : CoreSt} {better : Int → Int → Bool} {w : Fin 8} {l : List (Fin 8)} (hl : l.Pairwise (· < ·))
    (hw : w ∈ l) (hbest : ∀ i ∈ l, better (c.accI i) (c.accI w) = false ∧ (i < w → better (c.accI w) (c.accI i) = true)) :
    bestIndex c better l = some w := by
  induction l with
  | nil => cases hw
  | cons i rest ih =>
    obtain ⟨hlower, hrest⟩ := List.pairwise_cons.1 hl
    rw [bestIndex]
    obtain rfl | hw := List.mem_cons.1 hw
    · cases hj : bestIndex c better rest with
      | none => rfl
      | some j => simp [(hbest j (List.mem_cons_of_mem _ (mem_of_bestIndex hj))).1]
    · rw [ih hrest hw fun j hj => hbest j (List.mem_cons_of_mem _ hj)]
      simp [(hbest i List.mem_cons_self).2 (hlower w hw)]

/-! ### Tracking words -/

/-- A store of a state word, counted where it saturates (R9, R163). -/
theorem CoreSt.smI_storeSm (c : CoreSt) (m j : Nat) (x : Int) :
    (c.storeSm m x).smI j = if j = m then limit40 x else c.smI j := by
  have hsm : (c.storeSm m x).sm = c.sm.put zeroDflt m (limit40 x) := by
    unfold CoreSt.storeSm CoreSt.setSm CoreSt.countStore
    split <;> rfl
  rw [CoreSt.smI, hsm]
  split
  · subst_vars
    exact Sparse.get_put_same _ _ _ _
  · exact Sparse.get_put_other _ _ _ _ _ ‹_›

@[simp] theorem CoreSt.bank_storeSm (c : CoreSt) (m : Nat) (x : Int) : (c.storeSm m x).bank = c.bank :=
  (CoreSt.bank_setSm _ _ _).trans (CoreSt.bank_countStore _ _)

/-- Store a word for each candidate, in order. -/
def CoreSt.storeEach (l : List (Fin 8)) (addr : Fin 8 → Nat) (x : Fin 8 → Int) (c : CoreSt) : CoreSt :=
  l.foldl (fun c i => c.storeSm (addr i) (x i)) c

section
variable (addr : Fin 8 → Nat) (x : Fin 8 → Int)

theorem CoreSt.bank_storeEach (l : List (Fin 8)) (c : CoreSt) : (c.storeEach l addr x).bank = c.bank := by
  induction l generalizing c with
  | nil => rfl
  | cons i l ih => exact (ih _).trans (CoreSt.bank_storeSm _ _ _)

/-- A word that no candidate has reads as before. -/
theorem CoreSt.smI_storeEach_other {j : Nat} (l : List (Fin 8)) (c : CoreSt) (hj : ∀ i ∈ l, j ≠ addr i) :
    (c.storeEach l addr x).smI j = c.smI j := by
  induction l generalizing c with
  | nil => rfl
  | cons i l ih =>
    refine (ih _ fun k hk => hj k (List.mem_cons_of_mem _ hk)).trans ?_
    rw [CoreSt.smI_storeSm, if_neg (hj i List.mem_cons_self)]

/-- Each candidate's word is what was stored for it. -/
theorem CoreSt.smI_storeEach_mem (haddr : Function.Injective addr) {i : Fin 8} (l : List (Fin 8)) (c : CoreSt) (hl : l.Nodup)
    (hi : i ∈ l) : (c.storeEach l addr x).smI (addr i) = limit40 (x i) := by
  induction l generalizing c with
  | nil => cases hi
  | cons k l ih =>
    obtain ⟨hk, hl⟩ := List.nodup_cons.1 hl
    obtain rfl | hi := List.mem_cons.1 hi
    · refine (CoreSt.smI_storeEach_other addr x l _ fun j hj => haddr.ne (ne_of_mem_of_not_mem hj hk).symm).trans ?_
      rw [CoreSt.smI_storeSm, if_pos rfl]
    · exact ih _ hl hi

end

/-! ### What a selector leaves -/

/-- The tracking word of a candidate that the selector passes at u with winner w (R170). -/
def CoreSt.tracking (c : CoreSt) (w : Fin 8) (u : Int) (i : Fin 8) : Int :=
  if i ≠ w ∧ c.accI i = c.accI w then 0 else u - c.accI i

section
variable {c : CoreSt} {better : Int → Int → Bool} {a : Fin 8} {h : Fin 16} {mask : BitVec 8} {m : Nat} {w : Fin 8}

/-- The limits of a selector (R170). -/
def CoreSt.selHi (c : CoreSt) (h : Fin 16) : Int := c.datI h * 65536
def CoreSt.selLo (c : CoreSt) (h : Fin 16) : Int := c.datI ⟨(h.val + 1) % 16, Nat.mod_lt _ (by decide)⟩ * 65536

theorem CoreSt.select_leaves (hw : bestIndex c better (maskList mask) = some w) :
    (c.select better a h mask m).bank = c.bank.clampResult a (c.accI w) (c.selHi h) (c.selLo h) ∧
    (c.select better a h mask m).sm = (c.storeEach (maskList mask) (fun i => m + 2 * i.val + 1)
      (c.tracking w (max (min (c.accI w) (c.selHi h)) (c.selLo h)))).sm := by
  unfold CoreSt.select
  rw [hw]
  dsimp only
  constructor
  · rw [CoreSt.bank_countClamp, CoreSt.bank_clampResult]
    exact congrArg (fun b => Bank.clampResult b _ _ _ _) (CoreSt.bank_storeEach _ _ _ _)
  · rw [CoreSt.sm_countClamp, CoreSt.sm_setL, CoreSt.sm_accResult]
    rfl

/-- The bank, the tracking words and the other words after a selector whose best candidate is w. -/
theorem CoreSt.select_passes (hmask : mask.getLsbD w = true) (hbest : ∀ i : Fin 8, mask.getLsbD i = true →
      better (c.accI i) (c.accI w) = false ∧ (i < w → better (c.accI w) (c.accI i) = true)) :
    (c.select better a h mask m).bank = c.bank.clampResult a (c.accI w) (c.selHi h) (c.selLo h) ∧
    (∀ i : Fin 8, mask.getLsbD i = true → (c.select better a h mask m).smI (m + 2 * i.val + 1) =
      if i ≠ w ∧ c.accI i = c.accI w then 0
      else limit40 (max (min (c.accI w) (c.selHi h)) (c.selLo h) - c.accI i)) ∧
    (∀ j, (∀ i : Fin 8, mask.getLsbD i = true → j ≠ m + 2 * i.val + 1) → (c.select better a h mask m).smI j = c.smI j) := by
  have hw : bestIndex c better (maskList mask) = some w :=
    bestIndex_eq_some (maskList_ascends mask) (mem_maskList.2 hmask) fun i hi => hbest i (mem_maskList.1 hi)
  have haddr : Function.Injective (fun i : Fin 8 => m + 2 * i.val + 1) := fun i k hik => by
    have : m + 2 * i.val + 1 = m + 2 * k.val + 1 := hik
    omega
  obtain ⟨hbank, hsm⟩ := CoreSt.select_leaves (a := a) (h := h) (m := m) hw
  refine ⟨hbank, fun i hi => ?_, fun j hj => ?_⟩
  · rw [CoreSt.smI, hsm]
    refine (CoreSt.smI_storeEach_mem _ _ haddr _ c (maskList_ascends mask).nodup (mem_maskList.2 hi)).trans ?_
    rw [CoreSt.tracking]
    split <;> rfl
  · rw [CoreSt.smI, hsm]
    exact CoreSt.smI_storeEach_other _ _ _ c fun i hi => hj i (mem_maskList.1 hi)

end

/-- Settles O5: MINSEL and MAXSEL are the selector with the lower and with the higher value as the better one. -/
theorem cardamomSelectorsPassTheBestCandidate : Obligations.CardamomSelectorsPassTheBestCandidate := by
  unfold Obligations.CardamomSelectorsPassTheBestCandidate
  intro s n a h mask m w hissues hmask c b hi lo u after
  refine ⟨fun hbest => issue_does (i := .minsel a h mask m) hissues fun t ht => ?_,
    fun hbest => issue_does (i := .maxsel a h mask m) hissues fun t ht => ?_⟩
  · simp only [after, State.bankOf, ht]
    refine CoreSt.select_passes (c := (s.core n).spend _) hmask fun i hi => ?_
    obtain ⟨hle, hlower⟩ := hbest i hi
    exact ⟨decide_eq_false (not_lt.2 hle), fun hlt => decide_eq_true (hlower hlt)⟩
  · simp only [after, State.bankOf, ht]
    refine CoreSt.select_passes (c := (s.core n).spend _) hmask fun i hi => ?_
    obtain ⟨hle, hlower⟩ := hbest i hi
    exact ⟨decide_eq_false (not_lt.2 hle), fun hlt => decide_eq_true (hlower hlt)⟩

end Sys2Proof.Machine
end

section
/-! What an instruction leaves alone (R157, R161, R168): of its core when it is skipped, of its core when it is executed, and
of the module. -/

namespace Sys2Proof.Machine

/-! ### Skipped -/

/-- A skipped instruction changes the skip and the numbers of selectors and FFWs. -/
theorem CoreSt.skipOne_eq (i : CInstr) (c : CoreSt) : ∃ x y, c.skipOne i = { c with skip := c.skip - 1, selNext := x, ffwNext := y } := by
  cases i with
  | minsel a h w m => exact ⟨c.selNext + 1, c.ffwNext, rfl⟩
  | maxsel a h w m => exact ⟨c.selNext + 1, c.ffwNext, rfl⟩
  | ffw a k j => exact ⟨c.selNext, c.ffwNext + 1, rfl⟩
  | _ => exact ⟨c.selNext, c.ffwNext, rfl⟩

/-- Settles O6: a skipped instruction only changes the skip and numbers of the core, whichever it is. -/
theorem skippedInstructionOnlyUsesUpTheSkip : Obligations.SkippedInstructionOnlyUsesUpTheSkip := by
  unfold Obligations.SkippedInstructionOnlyUsesUpTheSkip
  intro s n i hrun hskip
  refine .of_next (exec_rowOf n i s) ?_
  obtain ⟨x, y, heq⟩ := (s.core n).skipOne_eq i
  rw [State.bankOf, State.core_issue n i s hrun, CoreSt.exec1, if_neg hskip.ne', heq]
  exact ⟨rfl, rfl, rfl, rfl, rfl, rfl, rfl⟩

/-! ### The rest of the core -/

/-- What no instruction writes: coefficients, program, core state, pending notice. -/
def CoreSt.fixed (c : CoreSt) : Sparse × Option Program × CoreState × Option NoticeRec := (c.coef, c.prog, c.state, c.notice)

/-- What only a store or a write of a command port writes besides. -/
def CoreSt.stores (c : CoreSt) : (Sparse × Option Program × CoreState × Option NoticeRec) × Sparse × List (Nat × Int) :=
  (c.fixed, c.sm, c.emitted)

section
variable (c : CoreSt)

@[simp] theorem CoreSt.stores_setBank (b : Bank) : (c.setBank b).stores = c.stores := by
  unfold CoreSt.setBank
  split <;> rfl
@[simp] theorem CoreSt.stores_countAcc (b : Bool) : (c.countAcc b).stores = c.stores := by cases b <;> rfl
@[simp] theorem CoreSt.stores_countStore (b : Bool) : (c.countStore b).stores = c.stores := by cases b <;> rfl
@[simp] theorem CoreSt.stores_countClamp (b : Bool) : (c.countClamp b).stores = c.stores := by cases b <;> rfl
@[simp] theorem CoreSt.stores_setAcc (a : Fin 8) (x : Int) : (c.setAcc a x).stores = c.stores := c.stores_setBank _
@[simp] theorem CoreSt.stores_setDat (d : Fin 16) (x : BitVec 16) : (c.setDat d x).stores = c.stores := c.stores_setBank _
@[simp] theorem CoreSt.stores_setZN (x : Int) : (c.setZN x).stores = c.stores := c.stores_setBank _
@[simp] theorem CoreSt.stores_setV (b : Bool) : (c.setV b).stores = c.stores := c.stores_setBank _
@[simp] theorem CoreSt.stores_setL (b : Bool) : (c.setL b).stores = c.stores := c.stores_setBank _
@[simp] theorem CoreSt.stores_setT (b : Bool) : (c.setT b).stores = c.stores := c.stores_setBank _
@[simp] theorem CoreSt.stores_setAT (b : Bool) : (c.setAT b).stores = c.stores := c.stores_setBank _
@[simp] theorem CoreSt.stores_accResult (a : Fin 8) (x : Int) : (c.accResult a x).stores = c.stores := by
  simp [CoreSt.accResult]
@[simp] theorem CoreSt.stores_accSatResult (a : Fin 8) (x : Int) : (c.accSatResult a x).stores = c.stores := by
  simp [CoreSt.accSatResult]
@[simp] theorem CoreSt.stores_publish : c.publish.stores = c.stores := by
  unfold CoreSt.publish
  dsimp only
  split <;> rfl
@[simp] theorem CoreSt.stores_iSatd (a : Fin 8) (d : Fin 16) (sh : BitVec 4) : (c.iSatd a d sh).stores = c.stores := by
  simp [CoreSt.iSatd]
theorem CoreSt.stores_iSela (f : Snapshot) (a b : Fin 8) (q : BitVec 4) : (c.iSela f a b q).stores = c.stores := by
  unfold CoreSt.iSela
  split
  · exact c.stores_setAcc _ _
  · rfl
theorem CoreSt.stores_iSkipc (f : Snapshot) (q k : BitVec 4) : (c.iSkipc f q k).stores = c.stores := by
  unfold CoreSt.iSkipc
  split <;> rfl
theorem CoreSt.stores_iLim (a : Fin 8) (k : Fin 1024) : (c.iLim a k).stores = c.stores := by simp [CoreSt.iLim]
theorem CoreSt.stores_iFfw (f : Snapshot) (a : Fin 8) (k : Fin 1024) (j : Fin 64) : (c.iFfw f a k j).stores = c.stores :=
  CoreSt.stores_accSatResult _ _ _

/-! ### Stores -/

theorem CoreSt.stores_iInteg (a : Fin 8) (d : Fin 16) (k : Fin 1024) (m : Fin 512) :
    ∃ x, (c.iInteg a d k m).stores = (c.setSm m x).stores := ⟨_, by simp [CoreSt.iInteg]; rfl⟩
theorem CoreSt.stores_iSlew (a : Fin 8) (k : Fin 1024) (m : Fin 512) :
    ∃ x, (c.iSlew a k m).stores = (c.setSm m x).stores := ⟨_, by simp [CoreSt.iSlew]; rfl⟩
theorem CoreSt.stores_storeSm (m : Nat) (x : Int) : (c.storeSm m x).stores = (c.setSm m x).stores := by
  unfold CoreSt.storeSm CoreSt.countStore
  split <;> rfl

/-- A selector leaves of a core's stores what its tracking words leave. -/
theorem CoreSt.stores_select (better : Int → Int → Bool) (a : Fin 8) (h : Fin 16) (mask : BitVec 8) (m : Nat) :
    ∃ l ⊆ maskList mask, ∃ x,
      (c.select better a h mask m).stores = (c.storeEach l (fun i => m + 2 * i.val + 1) x).stores := by
  unfold CoreSt.select
  split
  · exact ⟨[], List.nil_subset _, fun _ => 0, rfl⟩
  · rename_i w hw
    refine ⟨_, List.Subset.refl _, c.tracking w (max (min (c.accI w) (c.selHi h)) (c.selLo h)), ?_⟩
    dsimp only
    rw [CoreSt.stores_countClamp, CoreSt.stores_setL, CoreSt.stores_accResult]
    rfl

theorem CoreSt.fixed_storeEach (l : List (Fin 8)) (addr : Fin 8 → Nat) (x : Fin 8 → Int) (c : CoreSt) :
    (c.storeEach l addr x).fixed = c.fixed ∧ (c.storeEach l addr x).emitted = c.emitted := by
  induction l generalizing c with
  | nil => exact ⟨rfl, rfl⟩
  | cons i l ih =>
    have hfirst := c.stores_storeSm (addr i) (x i)
    obtain ⟨hfixed, hemitted⟩ := ih (c.storeSm (addr i) (x i))
    exact ⟨hfixed.trans (congrArg (·.1) hfirst), hemitted.trans (congrArg (·.2.2) hfirst)⟩

/-- A write of a port is handed to the power stages only at a command port. -/
theorem CoreSt.stores_outPort (p : Nat) (v : Int) :
    (c.outPort p v).stores = (c.fixed, c.sm, if p < 2 then c.emitted ++ [(p, v)] else c.emitted) := by
  unfold CoreSt.outPort
  by_cases hp : p = 0 ∨ p = 1
  · rw [if_pos hp, if_pos (show p < 2 by omega)]
    rfl
  · rw [if_neg hp, if_neg (show ¬p < 2 by omega)]
    split_ifs <;> rfl

end

/-! ### One instruction -/

/-- What an instruction keeps of its core: what none writes, the state words that are not its own, and, unless it writes a
command port, what waits for the power stages. -/
structure InstrKept (i : CInstr) (c c' : CoreSt) : Prop where
  fixed : c'.fixed = c.fixed
  sm : ∀ j, j ∉ storeSet i → c'.smI j = c.smI j
  emitted : writesCommand i = false → c'.emitted = c.emitted

section
variable {i : CInstr} {c c' : CoreSt}

theorem CoreSt.smI_congr {m : Sparse} (h : c'.sm = m) (j : Nat) : c'.smI j = m.get zeroDflt j := by rw [CoreSt.smI, h]

theorem InstrKept.of_stores (h : c'.stores = c.stores) : InstrKept i c c' where
  fixed := congrArg (·.1) h
  sm j _ := CoreSt.smI_congr (congrArg (·.2.1) h) j
  emitted _ := congrArg (·.2.2) h

theorem InstrKept.of_word {m : Nat} (hm : storeSet i = [m]) (h : ∃ x, c'.stores = (c.setSm m x).stores) : InstrKept i c c' := by
  obtain ⟨x, hx⟩ := h
  refine ⟨congrArg (·.1) hx, fun j hj => ?_, fun _ => congrArg (·.2.2) hx⟩
  rw [hm, List.mem_singleton] at hj
  exact (CoreSt.smI_congr (congrArg (·.2.1) hx) j).trans (Sparse.get_put_other _ _ _ _ _ hj)

theorem InstrKept.of_selector {mask : BitVec 8} {m : Nat} (hm : storeSet i = (maskList mask).map (fun i => m + 2 * i.val + 1))
    (h : ∃ l ⊆ maskList mask, ∃ x, c'.stores = (c.storeEach l (fun i => m + 2 * i.val + 1) x).stores) : InstrKept i c c' := by
  obtain ⟨l, hl, x, hx⟩ := h
  obtain ⟨hfixed, hemitted⟩ := CoreSt.fixed_storeEach l (fun i => m + 2 * i.val + 1) x c
  refine ⟨(congrArg (·.1) hx).trans hfixed, fun j hj => ?_, fun _ => (congrArg (·.2.2) hx).trans hemitted⟩
  rw [hm] at hj
  refine (CoreSt.smI_congr (congrArg (·.2.1) hx) j).trans (CoreSt.smI_storeEach_other _ x l c fun k hk heq => hj ?_)
  exact List.mem_map.2 ⟨k, hl hk, heq.symm⟩

theorem InstrKept.of_out {p : Nat} {v : Int} (hp : writesCommand i = decide (p < 2))
    (h : c'.stores = (c.outPort p v).stores) : InstrKept i c c' := by
  rw [CoreSt.stores_outPort] at h
  refine ⟨congrArg (·.1) h, fun j _ => CoreSt.smI_congr (congrArg (·.2.1) h) j, fun hnot => ?_⟩
  rw [hp, decide_eq_false_iff_not] at hnot
  rw [if_neg hnot] at h
  exact congrArg (·.2.2) h

end

theorem CoreSt.instr_kept (f : Snapshot) (i : CInstr) (c : CoreSt) : InstrKept i c (c.instr f i) := by
  cases i with
  | nop => exact .of_stores rfl
  | endEval => exact .of_stores c.stores_publish
  | ldk d imm => exact .of_stores (c.stores_setDat _ _)
  | ldi d p => exact .of_stores (c.stores_setDat _ _)
  | ldil a p => exact .of_stores (c.stores_accResult _ _)
  | ldc a k => exact .of_stores (c.stores_accResult _ _)
  | lds a m => exact .of_stores (c.stores_accResult _ _)
  | sts a m => exact .of_word rfl ⟨_, rfl⟩
  | satd a d sh => exact .of_stores (c.stores_iSatd _ _ _)
  | out d p => exact .of_out rfl rfl
  | outl a p => exact .of_out rfl ((CoreSt.stores_countStore _ _).trans (CoreSt.stores_setV _ _))
  | mova a b => exact .of_stores (c.stores_accResult _ _)
  | clr a => exact .of_stores (c.stores_accResult _ _)
  | mpy a d k => exact .of_stores (c.stores_accResult _ _)
  | mac a d k => exact .of_stores (c.stores_accSatResult _ _)
  | msu a d k => exact .of_stores (c.stores_accSatResult _ _)
  | macd a d e => exact .of_stores (c.stores_accSatResult _ _)
  | adda a b => exact .of_stores (c.stores_accSatResult _ _)
  | suba a b => exact .of_stores (c.stores_accSatResult _ _)
  | addd a d => exact .of_stores (c.stores_accSatResult _ _)
  | subd a d => exact .of_stores (c.stores_accSatResult _ _)
  | sha a sh => exact .of_stores (c.stores_accSatResult _ _)
  | abs a => exact .of_stores (c.stores_accSatResult _ _)
  | neg a => exact .of_stores (c.stores_accSatResult _ _)
  | lim a k => exact .of_stores (c.stores_iLim _ _)
  | sela a b q => exact .of_stores (c.stores_iSela _ _ _ _)
  | tsta a => exact .of_stores (c.stores_setZN _)
  | tstp p b => exact .of_stores (c.stores_setT _)
  | skipc q k => exact .of_stores (c.stores_iSkipc _ _ _)
  | integ a d k m => exact .of_word rfl (c.stores_iInteg _ _ _ _)
  | minsel a h w m => exact .of_selector rfl (c.stores_select _ _ _ _ _)
  | maxsel a h w m => exact .of_selector rfl (c.stores_select _ _ _ _ _)
  | slew a k m => exact .of_word rfl (c.stores_iSlew _ _ _)
  | lut a d k => exact .of_stores (c.stores_accResult _ _)
  | ffw a k j => exact .of_stores (c.stores_iFfw _ _ _ _)

/-- The same of an instruction executed or skipped. -/
theorem CoreSt.exec1_kept (f : Snapshot) (i : CInstr) (c : CoreSt) : InstrKept i c (c.exec1 f i) := by
  unfold CoreSt.exec1
  split
  · obtain ⟨hfixed, hsm, hemitted⟩ := CoreSt.instr_kept f i (c.spend (cycles i))
    exact ⟨hfixed, hsm, hemitted⟩
  · obtain ⟨x, y, heq⟩ := c.skipOne_eq i
    rw [heq]
    exact .of_stores rfl

/-! ### The module -/

/-- The module is as it was but for the Cardamom engine, the power stages, the objects, the recorder, the sessions and the
next free value. -/
def EngineOnly (s t : State) : Prop := ∃ w c, Noted { s with pow := w, card := c } t

theorem EngineOnly.of_noted {s t : State} (h : Noted s t) : EngineOnly s t := ⟨s.pow, s.card, h⟩

theorem EngineOnly.trans {s t u : State} (h : EngineOnly s t) (g : EngineOnly t u) : EngineOnly s u := by
  obtain ⟨_, _, h⟩ := h
  obtain ⟨w, c, g⟩ := g
  exact ⟨w, c, g.blobs.trans h.blobs, g.que.trans h.que, g.md.trans h.md, g.time.trans h.time, g.clv.trans h.clv, g.pow, g.card,
    g.lp.trans h.lp, g.fab.trans h.fab, g.pair.trans h.pair, g.cry.trans h.cry, g.inj.trans h.inj, g.chn.trans h.chn,
    g.soc.trans h.soc, g.saf.trans h.saf, g.rack.trans h.rack, g.leg.trans h.leg, g.outbox.trans h.outbox,
    g.pending.trans h.pending⟩

theorem EngineOnly.when {s t : State} {b : Bool} {f : State → State} (h : EngineOnly s t) (hf : EngineOnly t (f t)) :
    EngineOnly s (t.when b f) :=
  State.when_preserves b h fun h => h.trans hf

theorem EngineOnly.each {α : Type} {s t : State} {l : List α} {f : α → State → State} (h : EngineOnly s t)
    (hf : ∀ a u, EngineOnly u (f a u)) : EngineOnly s (t.each l f) :=
  State.each_preserves l h fun a u hu => hu.trans (hf a u)

theorem State.setCore_engineOnly (n : Fin 4) (c : CoreSt) (s : State) : EngineOnly s (s.setCore n c) :=
  ⟨s.pow, (s.setCore n c).card, Noted.rfl⟩

theorem State.modPhase_engineOnly (p : Fin 20) (f : Phase → Phase) (s : State) : EngineOnly s (s.modPhase p f) :=
  ⟨(s.modPhase p f).pow, s.card, Noted.rfl⟩

theorem State.modConv_engineOnly (c : Conv) (f : ConvSt → ConvSt) (s : State) : EngineOnly s (s.modConv c f) := by
  cases c
  · exact ⟨(s.modConv .feed f).pow, s.card, Noted.rfl⟩
  · exact ⟨(s.modConv .storage f).pow, s.card, Noted.rfl⟩

theorem State.countBy_engineOnly (b k n : Nat) (s : State) : EngineOnly s (s.countBy b k n) := .of_noted (State.countBy_noted _ _ _ _)

theorem State.commandWrite_engineOnly (c : Conv) (v : Int) (s : State) : EngineOnly s (s.commandWrite c v) :=
  (State.modConv_engineOnly _ _ _).each fun _ _ =>
    (State.modPhase_engineOnly _ _ _).when (State.countBy_engineOnly _ _ _ _)

theorem State.settle_engineOnly (n : Fin 4) (s : State) : EngineOnly s (s.settle n) := by
  unfold State.settle
  exact (((((State.setCore_engineOnly _ _ _).when (State.countBy_engineOnly _ _ _ _)).when
    (State.countBy_engineOnly _ _ _ _)).when (State.countBy_engineOnly _ _ _ _)).each fun _ _ =>
    State.commandWrite_engineOnly _ _ _).when (.of_noted (State.raiseOn_noted _ _ _))

theorem State.issue_engineOnly (n : Fin 4) (i : CInstr) (s : State) : EngineOnly s (s.issue n i) := by
  unfold State.issue
  split
  · exact (State.setCore_engineOnly _ _ _).trans (State.settle_engineOnly _ _)
  · exact .of_noted Noted.rfl

/-- Without writes of command ports, settling leaves the power stages alone. -/
theorem State.settle_pow (n : Fin 4) (s : State) (h : (s.core n).emitted = []) : (s.settle n).pow = s.pow := by
  unfold State.settle
  refine (State.when_same State.pow _ _ (State.raiseOn_pow _ _ _)).trans ?_
  rw [h]
  refine (State.when_same State.pow _ _ (State.countBy_pow _ _ _ _)).trans ?_
  refine (State.when_same State.pow _ _ (State.countBy_pow _ _ _ _)).trans ?_
  exact State.when_same State.pow _ _ (State.countBy_pow _ _ _ _)

theorem State.issue_pow (n : Fin 4) (i : CInstr) (s : State) (hi : writesCommand i = false) (h : (s.core n).emitted = []) :
    (s.issue n i).pow = s.pow := by
  unfold State.issue
  split
  · refine (State.settle_pow _ _ ?_).trans (State.modCore_pow _ _ _)
    rw [State.modCore, State.core_setCore_same, (CoreSt.exec1_kept _ i _).emitted hi, h]
  · rfl

/-- The core of an issued instruction keeps what the instruction keeps. -/
theorem State.issue_kept (n : Fin 4) (i : CInstr) (s : State) :
    ((s.issue n i).core n).fixed = (s.core n).fixed ∧ ∀ j, j ∉ storeSet i → ((s.issue n i).core n).smI j = (s.core n).smI j := by
  by_cases hrun : (s.core n).state = .running
  · obtain ⟨hfixed, hsm, -⟩ := CoreSt.exec1_kept s.card.snap i (s.core n)
    rw [State.core_issue n i s hrun]
    exact ⟨hfixed, hsm⟩
  · rw [State.issue, if_neg hrun]
    exact ⟨rfl, fun _ _ => rfl⟩

/-- The engine beside its cores is as it was. -/
theorem State.issue_card (n : Fin 4) (i : CInstr) (s : State) : ∃ cores, (s.issue n i).card = { s.card with cores := cores } := by
  unfold State.issue
  split
  · exact ⟨_, State.settle_card _ _⟩
  · exact ⟨_, rfl⟩

/-- Settles O7: the frame of the core, of the engine and of the module, each by its lemma above. -/
theorem cardamomInstructionFrame : Obligations.CardamomInstructionFrame := by
  unfold Obligations.CardamomInstructionFrame
  intro s t n i hexec
  obtain rfl : s.issue n i = t := Host.Outcome.next.inj ((exec_rowOf n i s).symm.trans hexec)
  obtain ⟨hfixed, hsm⟩ := State.issue_kept n i s
  obtain ⟨cores, hcard⟩ := State.issue_card n i s
  obtain ⟨_, _, h⟩ := State.issue_engineOnly n i s
  refine ⟨fun m hm => State.core_issue_other n m i s hm, congrArg (·.1) hfixed, congrArg (·.2.1) hfixed,
    congrArg (·.2.2.1) hfixed, hsm, congrArg (·.snap) hcard, congrArg (·.cloveRegs) hcard, congrArg (·.store) hcard,
    State.issue_pow n i s, h.blobs, h.que, h.md, h.time, h.clv, h.lp, h.fab, h.pair, h.cry, h.inj, h.chn, h.soc, h.saf, h.rack,
    h.leg, h.outbox, h.pending⟩

end Sys2Proof.Machine
end

section
/-! Cores in the state after the shared operations, what the bytes of a core command say, and coefficient words on their way
to a core (R175, R178). -/

namespace Sys2Proof.Machine

/-! ### Reading a core -/

section
variable (n : Fin 4) (s : State)

theorem State.core_congr {s t : State} (h : t.card = s.card) : t.core n = s.core n := by
  unfold State.core
  rw [h]

@[simp] theorem State.core_modCore_same (f : CoreSt → CoreSt) : (s.modCore n f).core n = f (s.core n) :=
  State.core_setCore_same _ _ _
@[simp] theorem State.core_send (m : OutMsg) : (s.send m).core n = s.core n := rfl
@[simp] theorem State.core_put (k : Nat) (v : Int) : (s.put k v).core n = s.core n := rfl
@[simp] theorem State.core_putBytes (k : Nat) (v : List Byte) : (s.putBytes k v).core n = s.core n := rfl
@[simp] theorem State.core_countBy (b k m : Nat) : (s.countBy b k m).core n = s.core n := State.core_congr n (State.countBy_card _ _ _ _)
@[simp] theorem State.core_inc (k : Nat) : (s.inc k).core n = s.core n := State.core_congr n (State.inc_card _ _)
@[simp] theorem State.core_raise (x : Nat) (a : Args) : (s.raise x a).core n = s.core n := State.core_congr n (State.raise_card _ _ _)
@[simp] theorem State.core_raiseOn (x subj : Nat) : (s.raiseOn x subj).core n = s.core n := State.core_congr n (State.raiseOn_card _ _ _)
theorem State.core_answer (r : State × Nat) : (State.answer r).core n = r.1.core n :=
  State.core_congr n (State.when_card _ _ _ fun _ => State.inc_card _ _)

@[simp] theorem State.get_setCore (c : CoreSt) (k : Nat) : (s.setCore n c).get k = s.get k := rfl

end

/-- An object of the engine and its cores (spec/06) is none that raising a cause writes. -/
theorem noting_of_engine {k : Nat} (h : 0x400000 ≤ k) (h' : k < 0x500000) : noting k = false := by
  simp only [noting, K.sessEventsLost, K.recStagingHighMark, K.recCausesNotStaged, K.trigMatches, Bool.or_eq_false_iff,
    decide_eq_false_iff_not, List.any_eq_false, List.mem_range, decide_eq_true_eq]
  exact ⟨⟨⟨by omega, by omega⟩, by omega⟩, fun i hi => by omega⟩

/-! ### Writes that come as commands (R382) -/

theorem writtenValue_byte {k : Nat} (h : (Dict.row? k).map (·.ty.signed) = some false) (v : Byte) : writtenValue k [v] = v.toNat := by
  rw [writtenValue_unsigned _ h]
  simp [leNat]

theorem writtenValue_holdCommand (n : Fin 4) (v : Byte) : writtenValue (K.coreHoldCommand n) [v] = v.toNat :=
  writtenValue_byte (by revert n; decide) v

theorem writtenValue_coreCommand (n : Fin 4) (v : Byte) : writtenValue (K.coreCommand n) [v] = v.toNat :=
  writtenValue_byte (by revert n; decide) v

theorem writtenValue_persist (n : Fin 4) (v : Byte) : writtenValue (K.coefPersist n) [v] = v.toNat :=
  writtenValue_byte (by revert n; decide) v

theorem coefCoefficientWord_type (n : Fin 4) :
    (Dict.row? (K.coefCoefficientWord n)).map (fun r => (r.ty.signed, r.ty.bytes)) = some (true, 4) := by
  revert n
  decide

/-- A coefficient word is 32 bits, signed. -/
theorem writtenValue_coefficientWord (n : Fin 4) (b : List Byte) :
    writtenValue (K.coefCoefficientWord n) b = toSigned 32 (leNat b) := by
  obtain ⟨r, hrow, hty⟩ := Option.map_eq_some_iff.1 (coefCoefficientWord_type n)
  obtain ⟨hsigned, hbytes⟩ := Prod.mk.inj hty
  unfold writtenValue
  rw [hrow]
  simp [wireValue, hsigned, hbytes]

/-- A byte written to a command object is carried out and answered with success. -/
theorem byteWrite_does {s t : State} {i : Instr} {k sess : Nat} {v : Byte} {own : Int → State → State × Nat} {P : State → Prop}
    (h : s.takesByte k sess v) (hexec : exec i s = .next (s.hostWrite k (oneByte sess v) own))
    (hown : own (writtenValue k [v]) s = t.ok) (hsent : t.outbox = s.outbox) (hP : P (t.send (.status 0))) :
    Does i s (fun u => P u ∧ saidOk s u) := by
  refine .of_next (hexec.trans (congrArg Host.Outcome.next (State.hostWrite_ok h hown))) ⟨hP, ?_⟩
  rw [saidOk, State.send_outbox, hsent]

/-- A write that the module takes and carries out alone does what its chapter says. -/
theorem State.checked_of_takes {s : State} {k : Nat} {w : HostWrite} {own : Int → State → State × Nat} (h : s.takes k w) :
    s.checked k w own = own (writtenValue k w.bytes) s := by
  obtain ⟨hcheck, hmirror⟩ := h
  rw [mirroredObject, Bool.and_or_distrib_right, Bool.or_eq_false_iff] at hmirror
  obtain ⟨hrow, hnow⟩ := hmirror
  have hpassed : (0 : Nat) ≠ Cause.accessDenied := by decide
  cases hr : Dict.row? k with
  | none => simp [State.checked, writtenValue, hcheck, hnow, hpassed, hr]
  | some r =>
    simp only [hr] at hrow
    simp [State.checked, writtenValue, hcheck, hnow, hpassed, hr, hrow]

/-- A write whose answer is owed changes the module and is not answered yet. -/
theorem State.hostWrite_defers {s t : State} {k : Nat} {w : HostWrite} {own : Int → State → State × Nat} (h : s.takes k w)
    (hown : own (writtenValue k w.bytes) s = (t, deferred)) : s.hostWrite k w own = t := by
  rw [State.hostWrite, State.checked_of_takes h, hown]
  exact if_pos rfl

/-! ### Words put in force (R175) -/

/-- Words put in force one after the other change the coefficients and nothing else. -/
theorem CoreSt.foldl_coefWord (l : List (Nat × Int)) (c : CoreSt) :
    l.foldl CoreSt.coefWord c = { c with coef := putWords c.coef l } := by
  induction l generalizing c with
  | nil => rfl
  | cons e l ih => exact ih (c.coefWord e)

theorem CoreSt.dropHold_eq (c : CoreSt) :
    c.dropHold = { c with coef := putWords c.coef c.waiting, held := [], waiting := [], hold := .closed } := by
  rw [CoreSt.dropHold, CoreSt.foldl_coefWord]

theorem CoreSt.applyHold_eq (c : CoreSt) :
    c.applyHold = { c with coef := putWords c.coef (c.held ++ c.waiting), held := [], waiting := [], hold := .closed } := by
  rw [CoreSt.applyHold, CoreSt.foldl_coefWord]

/-! ### The hold facility (R178) -/

section
variable {s : State} {n : Fin 4} {sess : Nat}

theorem holdOpen_does (h : s.takesByte (K.coreHoldCommand n) sess 1) (hprog : ∃ p, (s.core n).prog = some p ∧ p.hasHold = true)
    (hclosed : (s.core n).hold = .closed) : Does (.holdOpen n sess) s (fun t =>
      t.core n = { s.core n with hold := .open_, held := [], holdOpenedAt := s.now } ∧ saidOk s t) := by
  obtain ⟨p, hp, hhold⟩ := hprog
  refine byteWrite_does (t := s.setCore n { s.core n with hold := .open_, held := [], holdOpenedAt := s.now }) h rfl ?_ rfl
    (State.core_setCore_same _ _ _)
  rw [writtenValue_holdCommand]
  simp [State.holdCommand, hp, hhold, hclosed]

theorem holdRelease_does (h : s.takesByte (K.coreHoldCommand n) sess 2) (hopen : (s.core n).hold = .open_) :
    Does (.holdRelease n sess) s (fun t => t.core n = { s.core n with hold := .release } ∧ saidOk s t) := by
  refine byteWrite_does (t := s.setCore n { s.core n with hold := .release }) h rfl ?_ rfl (State.core_setCore_same _ _ _)
  rw [writtenValue_holdCommand]
  simp [State.holdCommand, hopen]

theorem holdAbandon_does (h : s.takesByte (K.coreHoldCommand n) sess 3) (hopen : (s.core n).hold ≠ .closed) :
    Does (.holdAbandon n sess) s (fun t => t.core n = (s.core n).dropHold ∧ saidOk s t) := by
  refine byteWrite_does (t := s.setCore n (s.core n).dropHold) h rfl ?_ rfl (State.core_setCore_same _ _ _)
  rw [writtenValue_holdCommand]
  simp [State.holdCommand, hopen]

theorem holdReleased_does (hrelease : (s.core n).hold = .release)
    (hdue : s.getN (K.coreReleaseFT n) = 0 ∨ s.getN (K.coreReleaseFT n) ≤ s.ft) :
    Does (.holdReleased n) s (fun t => t.core n = (s.core n).applyHold) := by
  have hnow : s.releaseDue n = true := by simp [State.releaseDue, hrelease, hdue]
  refine .of_next rfl ?_
  rw [State.releaseHold, hnow, State.when_true, State.core_raiseOn, State.core_modCore_same]

theorem holdTimeout_does (hopen : (s.core n).hold = .open_)
    (hlate : (s.core n).holdOpenedAt + s.getN K.engineHoldTimeout * 1000000 < s.now) :
    Does (.holdTimeout n) s (fun t => t.core n = (s.core n).dropHold) := by
  refine .of_next rfl ?_
  rw [decide_eq_true hopen, decide_eq_true hlate, Bool.and_self, State.when_true, State.core_raiseOn, State.core_setCore_same]

end

/-- Settles O10: each command by its lemma above; what a hold leaves when it is applied and when it is dropped. -/
theorem holdFacilityOpensReleasesAndCloses : Obligations.HoldFacilityOpensReleasesAndCloses := by
  unfold Obligations.HoldFacilityOpensReleasesAndCloses
  intro s n sess c
  refine ⟨holdOpen_does, holdRelease_does, fun h hopen => (holdAbandon_does h hopen).mono fun t ⟨ht, hok⟩ => ?_,
    fun hrelease hdue => (holdReleased_does hrelease hdue).mono fun t ht => ?_,
    fun hopen hlate => (holdTimeout_does hopen hlate).mono fun t ht => ?_⟩
  · rw [ht, CoreSt.dropHold_eq]
    exact ⟨rfl, rfl, rfl, hok⟩
  · rw [ht, CoreSt.applyHold_eq]
    exact ⟨rfl, rfl, rfl, rfl⟩
  · rw [ht, CoreSt.dropHold_eq]
    exact ⟨rfl, rfl, rfl⟩

end Sys2Proof.Machine
end

section
/-! Coefficient words (R175, R176, R178): where a word goes on its way to a core, and the two commands that write them. -/

namespace Sys2Proof.Machine

/-! ### Where words go -/

/-- With a hold open, words go to the hold buffer. -/
theorem CoreSt.foldl_takeWord_held (l : List (Nat × Int)) {c : CoreSt} (h : c.hold = .open_) :
    l.foldl (fun c e => c.takeWord e) c = { c with held := c.held ++ l } := by
  induction l generalizing c with
  | nil => simp
  | cons e l ih =>
    have hfirst : c.takeWord e = { c with held := c.held ++ [e] } := if_pos h
    rw [List.foldl_cons, hfirst, ih (c := { c with held := c.held ++ [e] }) h]
    simp

/-- Behind words that wait, words wait. -/
theorem CoreSt.foldl_takeWord_waiting (l : List (Nat × Int)) {c : CoreSt} (h : c.hold ≠ .open_) (hwaits : c.waits = true) :
    l.foldl (fun c e => c.takeWord e) c = { c with waiting := c.waiting ++ l } := by
  induction l generalizing c with
  | nil => simp
  | cons e l ih =>
    have hfirst : c.takeWord e = { c with waiting := c.waiting ++ [e] } := (if_neg h).trans (if_pos hwaits)
    have hstill : ({ c with waiting := c.waiting ++ [e] } : CoreSt).waits = true := by simp [CoreSt.waits]
    rw [List.foldl_cons, hfirst, ih (c := { c with waiting := c.waiting ++ [e] }) h hstill]
    simp

/-- Without a hold, and nothing to wait for, words are in force. -/
theorem CoreSt.foldl_takeWord_inForce (l : List (Nat × Int)) {c : CoreSt} (h : c.hold ≠ .open_) (hfree : c.waits = false) :
    l.foldl (fun c e => c.takeWord e) c = { c with coef := putWords c.coef l } := by
  induction l generalizing c with
  | nil => rfl
  | cons e l ih =>
    have hfirst : c.takeWord e = c.coefWord e := (if_neg h).trans (if_neg (by simp [hfree]))
    rw [List.foldl_cons, hfirst]
    exact ih (c := c.coefWord e) h hfree

/-! ### What a write of words does -/

/-- The words of a write with the addresses they are for: a, a + 1 and so on. -/
def coefPlaces (a : Nat) (ws : List Int) : List (Nat × Int) := ((List.range ws.length).zip ws).map (fun e => (a + e.1, e.2))

/-- Words have gone their way to a core, are counted, and the coefficient address has moved past them. -/
def State.wordsTaken (n : Fin 4) (ws : List Int) (s : State) : State :=
  let a := s.getN (K.coefCoefficientAddress n)
  ((s.setCore n ((coefPlaces a ws).foldl (fun c e => c.takeWord e) (s.core n))).countBy 32 (K.coefWordsWritten n) ws.length).put
    (K.coefCoefficientAddress n) (min (a + ws.length) 1023 : Nat)

section
variable (n : Fin 4) (key sess : Nat) (ws : List Int) (s : State)

theorem State.core_wordsTaken : (s.wordsTaken n ws).core n =
    (coefPlaces (s.getN (K.coefCoefficientAddress n)) ws).foldl (fun c e => c.takeWord e) (s.core n) := by
  rw [State.wordsTaken, State.core_put, State.core_countBy, State.core_setCore_same]

theorem State.wordsTaken_outbox : (s.wordsTaken n ws).outbox = s.outbox := by
  rw [State.wordsTaken, State.put_outbox, State.countBy_outbox, State.setCore_outbox]

theorem State.getN_wordsTaken : (s.wordsTaken n ws).getN (K.coefCoefficientAddress n) =
    min (s.getN (K.coefCoefficientAddress n) + ws.length) 1023 :=
  State.getN_of_get (State.get_put_same _ _ _)

theorem State.foldl_coefPlaces (a : Nat) (c : CoreSt) :
    ((List.range ws.length).zip ws).foldl (fun c e => c.takeWord (a + e.1, e.2)) c =
      (coefPlaces a ws).foldl (fun c e => c.takeWord e) c := by
  rw [coefPlaces, List.foldl_map]

/-- Words that no open hold is too full for are taken; their answer is owed where they wait. -/
theorem State.coefWords_fit (hfit : (s.core n).hold = .open_ → ws.length ≤ 64 - (s.core n).held.length) :
    s.coefWords n key sess ws = if (s.core n).hold ≠ .open_ ∧ (s.core n).waits
      then ((s.wordsTaken n ws).modCore n (fun c => { c with owed := c.owed ++ [{ sess := sess, key := key, reply := 0 }] }), deferred)
      else (s.wordsTaken n ws).ok := by
  have hall : (if (s.core n).hold = .open_ then ws.take (64 - (s.core n).held.length) else ws) = ws := by
    split
    · exact List.take_of_length_le (hfit ‹_›)
    · rfl
  unfold State.coefWords
  simp only [hall, State.foldl_coefPlaces]
  exact if_neg (lt_irrefl _)

/-- A full hold refuses (R178). -/
theorem State.coefWords_full (hopen : (s.core n).hold = .open_) (hfull : 64 ≤ (s.core n).held.length) (hws : ws ≠ []) :
    s.coefWords n key sess ws = ((s.wordsTaken n []).raiseOn Cause.holdOverflow n).refuse Cause.holdOverflow := by
  have hnone : (if (s.core n).hold = .open_ then ws.take (64 - (s.core n).held.length) else ws) = [] := by
    rw [if_pos hopen, Nat.sub_eq_zero_of_le hfull, List.take_zero]
  unfold State.coefWords
  simp only [hnone]
  exact if_pos (List.length_pos_iff.2 hws)

end

theorem State.answer_outbox (r : State × Nat) : (State.answer r).outbox = .status r.2 :: r.1.outbox :=
  State.when_same State.outbox _ _ (State.inc_outbox _ _)

/-! ### COEFFICIENT_WRITE (R175) -/

section
variable {s : State} {n : Fin 4} {w : HostWrite}

theorem coefficientWrite_waits (h : s.takes (K.coefCoefficientWord n) w) (hhold : (s.core n).hold ≠ .open_)
    (hwaits : (s.core n).waits = true) :
    Does (.coefficientWrite n w) s (fun t => (t.core n).coef = (s.core n).coef ∧
      (t.core n).waiting = (s.core n).waiting ++ [(s.getN (K.coefCoefficientAddress n), toSigned 32 (leNat w.bytes))] ∧
      (t.core n).owed = (s.core n).owed ++ [{ sess := w.sess, key := K.coefCoefficientWord n, reply := 0 }] ∧
      t.getN (K.coefCoefficientAddress n) = min (s.getN (K.coefCoefficientAddress n) + 1) 1023 ∧ t.outbox = s.outbox) := by
  refine .of_next (congrArg Host.Outcome.next (State.hostWrite_defers h
    ((State.coefWords_fit _ _ _ _ _ fun hopen => absurd hopen hhold).trans (if_pos ⟨hhold, hwaits⟩)))) ?_
  rw [State.core_modCore_same, State.core_wordsTaken, CoreSt.foldl_takeWord_waiting _ hhold hwaits, writtenValue_coefficientWord]
  exact ⟨rfl, rfl, rfl, State.getN_wordsTaken _ _ _, State.wordsTaken_outbox _ _ _⟩

theorem coefficientWrite_overflows (h : s.takes (K.coefCoefficientWord n) w) (hopen : (s.core n).hold = .open_)
    (hfull : 64 ≤ (s.core n).held.length) :
    Does (.coefficientWrite n w) s (fun t => (t.core n).coef = (s.core n).coef ∧ (t.core n).held = (s.core n).held ∧
      t.outbox = .status Cause.holdOverflow :: s.outbox) := by
  refine .of_next (congrArg Host.Outcome.next (State.hostWrite_refuses h (by decide)
    (State.coefWords_full n _ _ _ s hopen hfull (List.cons_ne_nil _ _)))) ?_
  rw [State.core_answer, State.answer_outbox, State.refuse, State.core_raiseOn, State.core_wordsTaken, State.raiseOn_outbox,
    State.wordsTaken_outbox]
  exact ⟨rfl, rfl, rfl⟩

theorem coefficientWrite_inForce (h : s.takes (K.coefCoefficientWord n) w) (hclosed : (s.core n).hold = .closed)
    (hfree : (s.core n).waits = false) :
    Does (.coefficientWrite n w) s (fun t => (t.core n).coef =
        (s.core n).coef.put zeroDflt (s.getN (K.coefCoefficientAddress n)) (toSigned 32 (leNat w.bytes)) ∧
      t.getN (K.coefCoefficientAddress n) = min (s.getN (K.coefCoefficientAddress n) + 1) 1023 ∧ saidOk s t) := by
  have hhold : (s.core n).hold ≠ .open_ := by simp [hclosed]
  refine .of_next (congrArg Host.Outcome.next (State.hostWrite_ok h ((State.coefWords_fit _ _ _ _ _ fun hopen =>
    absurd hopen hhold).trans (if_neg (by simp [hfree]))))) ?_
  rw [State.core_send, State.core_wordsTaken, CoreSt.foldl_takeWord_inForce _ hhold hfree, writtenValue_coefficientWord, saidOk,
    State.send_outbox, State.wordsTaken_outbox]
  exact ⟨rfl, State.getN_wordsTaken _ _ _, rfl⟩

theorem coefficientWrite_held (h : s.takes (K.coefCoefficientWord n) w) (hopen : (s.core n).hold = .open_)
    (hroom : (s.core n).held.length < 64) :
    Does (.coefficientWrite n w) s (fun t => (t.core n).coef = (s.core n).coef ∧
      (t.core n).held = (s.core n).held ++ [(s.getN (K.coefCoefficientAddress n), toSigned 32 (leNat w.bytes))] ∧
      t.getN (K.coefCoefficientAddress n) = min (s.getN (K.coefCoefficientAddress n) + 1) 1023 ∧ saidOk s t) := by
  refine .of_next (congrArg Host.Outcome.next (State.hostWrite_ok h ((State.coefWords_fit _ _ _ _ _ fun _ => ?_).trans
    (if_neg (by simp [hopen]))))) ?_
  · rw [List.length_singleton]
    omega
  rw [State.core_send, State.core_wordsTaken, CoreSt.foldl_takeWord_held _ hopen, writtenValue_coefficientWord, saidOk,
    State.send_outbox, State.wordsTaken_outbox]
  exact ⟨rfl, rfl, State.getN_wordsTaken _ _ _, rfl⟩

/-! ### COEFFICIENT_BLOCK_WRITE (R176) -/

theorem length_wordsOf (b : List Byte) : (wordsOf b).length = b.length / 4 := by
  induction b using wordsOf.induct with
  | case1 b0 b1 b2 b3 rest ih =>
    rw [wordsOf, List.length_cons, ih]
    simp only [List.length_cons]
    omega
  | case2 b h =>
    have hshort : b.length < 4 := by
      match b, h with
      | [], _ | [_], _ | [_, _], _ | [_, _, _], _ => simp
      | b0 :: b1 :: b2 :: b3 :: rest, h => exact (h b0 b1 b2 b3 rest rfl).elim
    rw [wordsOf.eq_2 b h]
    exact (Nat.div_eq_of_lt hshort).symm

theorem coefficientBlockWrite_inForce (h : s.takes (K.coefCoefficientBlock n) w) (hclosed : (s.core n).hold = .closed)
    (hfree : (s.core n).waits = false) (hwhole : w.bytes.length % 4 = 0) (hsome : wordsOf w.bytes ≠ [])
    (hfit : s.getN (K.coefCoefficientAddress n) + (wordsOf w.bytes).length ≤ 1024) :
    Does (.coefficientBlockWrite n w) s (fun t =>
      (t.core n).coef = putWords (s.core n).coef (coefPlaces (s.getN (K.coefCoefficientAddress n)) (wordsOf w.bytes)) ∧
      t.getN (K.coefCoefficientAddress n) = min (s.getN (K.coefCoefficientAddress n) + (wordsOf w.bytes).length) 1023 ∧
      saidOk s t) := by
  have hhold : (s.core n).hold ≠ .open_ := by simp [hclosed]
  have hlen : 0 < (wordsOf w.bytes).length := List.length_pos_iff.2 hsome
  have hown : s.coefBlock n w.sess w.bytes = (s.wordsTaken n (wordsOf w.bytes)).ok := by
    rw [State.coefBlock, if_neg, State.coefWords_fit _ _ _ _ _ fun hopen => absurd hopen hhold, if_neg (by simp [hfree])]
    rw [length_wordsOf] at hlen hfit
    omega
  refine .of_next (congrArg Host.Outcome.next (State.hostWrite_ok h hown)) ?_
  rw [State.core_send, State.core_wordsTaken, CoreSt.foldl_takeWord_inForce _ hhold hfree, saidOk, State.send_outbox,
    State.wordsTaken_outbox]
  exact ⟨rfl, State.getN_wordsTaken _ _ _, rfl⟩

end

/-- Settles O11: each clause is the lemma on its case above. -/
theorem coefficientWordsReachTheirCore : Obligations.CoefficientWordsReachTheirCore := by
  unfold Obligations.CoefficientWordsReachTheirCore
  exact fun s n w => ⟨coefficientWrite_waits, coefficientWrite_overflows, coefficientWrite_inForce, coefficientWrite_held,
    coefficientBlockWrite_inForce⟩

end Sys2Proof.Machine
end

section
/-! Programs of a core (R181 to R185): loading, swapping, stopping, starting, and the saved coefficients. -/

namespace Sys2Proof.Machine

/-! ### Admission looks at the other cores (R181) -/

theorem State.otherPrograms_modCore (n : Fin 4) (f : CoreSt → CoreSt) (s : State) :
    (s.modCore n f).otherPrograms n = s.otherPrograms n := by
  unfold State.otherPrograms
  refine List.flatMap_congr fun m hm => ?_
  have hne : m ≠ n := by simpa using (List.mem_filter.1 hm).2
  rw [State.modCore, State.core_setCore_other n m _ s hne]

/-- What a core's slot names is admitted or not whatever the core itself holds. -/
theorem State.admitProgram_modCore (n : Fin 4) (f : CoreSt → CoreSt) (s : State) :
    (s.modCore n f).admitProgram n = s.admitProgram n := by
  unfold State.admitProgram
  rw [State.otherPrograms_modCore]
  rfl

section
variable {s : State} {n : Fin 4} {sess : Nat}

/-! ### CARDAMOM_LOAD (R183) -/

/-- Admission leaves the core as it was, with its report, and gives the program with the words saved for its id (R182, R184). -/
theorem State.admitRecord_gives (n : Fin 4) (s : State) : ∃ l, (s.admitRecord n).1.core n = { s.core n with report := l } ∧
    (s.admitRecord n).1.outbox = s.outbox ∧
    (s.admitRecord n).2 = (s.admitProgram n).1.map (fun p => { p with coef := (s.core n).coefFor p }) := by
  unfold State.admitRecord
  split
  · rename_i p l heq
    refine ⟨[], ?_, ?_, ?_⟩
    · simp
    · simp
    · simp [heq]
  · rename_i l heq
    refine ⟨l, ?_, ?_, ?_⟩
    · simp
    · simp
    · simp [heq]

/-- The pending banks of a core are emptied (R183). -/
def CoreSt.unloaded (c : CoreSt) : CoreSt := { c with pendProg := none, swapPend := false, swapLate := false }

/-- What admission gives stands in the pending banks (R183). -/
def CoreSt.loaded (r : Option Program) (c : CoreSt) : CoreSt :=
  { c with pendProg := r, pendState := if r.isSome then .admitted else .refused }

theorem State.core_coreLoad (n : Fin 4) (s : State) : (s.coreLoad n).core n =
    (((s.modCore n CoreSt.unloaded).admitRecord n).1.core n).loaded ((s.modCore n CoreSt.unloaded).admitRecord n).2 :=
  State.core_modCore_same _ _ _

theorem cardamomLoad_does (h : s.takesByte (K.coreCommand n) sess 1) : Does (.cardamomLoad n sess) s (fun t =>
    ((t.core n).pendProg = (s.admitProgram n).1.map (fun p => { p with coef := (s.core n).coefFor p }) ∧
      (t.core n).prog = (s.core n).prog ∧
      (t.core n).pendState = (if (s.admitProgram n).1.isSome then .admitted else .refused)) ∧ saidOk s t) := by
  obtain ⟨l, hcore, hout, hprog⟩ := State.admitRecord_gives n (s.modCore n CoreSt.unloaded)
  rw [State.core_modCore_same] at hcore hprog
  rw [State.admitProgram_modCore] at hprog
  refine byteWrite_does (t := s.coreLoad n) h rfl (if_pos (writtenValue_coreCommand n 1)) hout ?_
  rw [State.core_send, State.core_coreLoad, hcore, hprog]
  refine ⟨rfl, rfl, ?_⟩
  rw [CoreSt.loaded, Option.isSome_map]

/-! ### CORE_SWAP and PROGRAM_SWAPPED (R183) -/

theorem coreSwap_does (h : s.takesByte (K.coreCommand n) sess 2) (hadmitted : (s.core n).pendState = .admitted)
    (hclosed : (s.core n).hold = .closed) (hft : s.getN (K.coreSwapFT n) = 0 ∨ s.ft ≤ s.getN (K.coreSwapFT n)) :
    Does (.coreSwap n sess) s (fun t => t.core n = { s.core n with swapPend := true, swapLate := false } ∧ saidOk s t) := by
  have hearly : (decide (s.getN (K.coreSwapFT n) ≠ 0) && decide (s.getN (K.coreSwapFT n) < s.ft)) = false := by
    rw [Bool.and_eq_false_iff, decide_eq_false_iff_not, decide_eq_false_iff_not, not_not, not_lt]
    exact hft
  refine byteWrite_does (t := s.setCore n { s.core n with swapPend := true, swapLate := false }) h rfl ?_ rfl
    (State.core_setCore_same _ _ _)
  rw [writtenValue_coreCommand]
  simp only [State.coreCommand, hearly, State.when_false]
  exact (if_neg (by decide)).trans ((if_pos rfl).trans (if_neg (by simp [hadmitted, hclosed])))

theorem State.measure_card (reg kind subject id version : Nat) (d : List Byte) (s : State) :
    (s.measure reg kind subject id version d).card = s.card := by
  unfold State.measure
  split
  · exact State.when_same State.card _ _ (State.raise0_card _ _)
  · rfl

/-- Putting a program in force on a core does to the core what its program says. -/
theorem State.core_enforceOn (n : Fin 4) (p : Program) (sm : Sparse) (s : State) :
    (s.enforceOn n p sm).core n = (s.core n).enforce p sm := by
  have hput : ((s.modCore n (fun c => c.enforce p sm)).put (K.coreNoticeMask n) p.noticeMask.toNat).core n =
      (s.core n).enforce p sm := (State.core_put _ _ _ _).trans (State.core_modCore_same _ _ _)
  unfold State.enforceOn
  dsimp only
  split
  · exact ((State.core_congr n ((State.measure_card _ _ _ _ _ _ _).trans (State.measure_card _ _ _ _ _ _ _)))).trans hput
  · exact (State.core_congr n (State.measure_card _ _ _ _ _ _ _)).trans hput

theorem programSwapped_does {p : Program} (hpend : (s.core n).pendProg = some p) (hswap : (s.core n).swapPend = true)
    (hdue : (s.core n).swapLate = true ∨ s.getN (K.coreSwapFT n) ≤ s.ft) :
    Does (.programSwapped n) s (fun t => (t.core n).prog = some p ∧ (t.core n).pendProg = none ∧
      (t.core n).swapPend = false ∧ (t.core n).coef = p.coef) := by
  refine .of_next rfl ?_
  have hnow : ((s.core n).swapPend && ((s.core n).swapLate || decide (s.getN (K.coreSwapFT n) ≤ s.ft))) = true := by
    simp [hswap, hdue]
  rw [State.swapNow, hpend]
  dsimp only
  rw [if_pos hnow, State.core_raise, State.core_enforceOn]
  exact ⟨rfl, rfl, rfl, rfl⟩

/-! ### CORE_STOP, CORE_START and CLEAR_PENDING (R183, R185) -/

theorem coreStop_does (h : s.takesByte (K.coreCommand n) sess 3) (hrun : (s.core n).state = .running)
    (hfeed : s.convRuns .feed = false) (hstorage : s.convRuns .storage = false) :
    Does (.coreStop n sess) s (fun t => t.core n = { s.core n with stopPend := true, startPend := false } ∧ saidOk s t) := by
  refine byteWrite_does (t := s.setCore n { s.core n with stopPend := true, startPend := false }) h rfl ?_ rfl
    (State.core_setCore_same _ _ _)
  rw [writtenValue_coreCommand]
  simp [State.coreCommand, hrun, convs, hfeed, hstorage]

theorem coreStart_does (h : s.takesByte (K.coreCommand n) sess 4) (hstopped : (s.core n).state = .stopped)
    (hprog : (s.core n).prog.isSome = true) :
    Does (.coreStart n sess) s (fun t => t.core n = { s.core n with startPend := true } ∧ saidOk s t) := by
  refine byteWrite_does (t := s.setCore n { s.core n with startPend := true }) h rfl ?_ rfl (State.core_setCore_same _ _ _)
  rw [writtenValue_coreCommand]
  simp [State.coreCommand, hstopped, hprog]

theorem clearPending_does (h : s.takesByte (K.coreCommand n) sess 5) :
    Does (.clearPending n sess) s (fun t => ((t.core n).pendProg = none ∧ (t.core n).pendState = .empty ∧
      (t.core n).swapPend = false) ∧ saidOk s t) := by
  refine byteWrite_does (t := s.setCore n { s.core n with
    pendProg := none, pendState := .empty, swapPend := false, swapLate := false }) h rfl ?_ rfl ?_
  · rw [writtenValue_coreCommand]
    rfl
  · rw [State.core_send, State.core_setCore_same]
    exact ⟨rfl, rfl, rfl⟩

/-! ### COEF_SAVE and COEF_DISCARD (R184) -/

/-- The coefficients saved for a program id go (R184). -/
def CoreSt.unsave (id : Nat) (c : CoreSt) : CoreSt := { c with saved := c.saved.filter (fun e => decide (e.1 ≠ id)) }

/-- The coefficients in force are saved for a program id (R184). -/
def CoreSt.save (id : Nat) (c : CoreSt) : CoreSt := { c with saved := (id, c.coef) :: (c.unsave id).saved }

theorem coefSave_does {p : Program} (h : s.takesByte (K.coefPersist n) sess 1) (hprog : (s.core n).prog = some p)
    (hroom : (s.core n).saved.length < 16) : Does (.coefSave n sess) s (fun t =>
      (t.core n).saved.find? (fun e => decide (e.1 = p.id)) = some (p.id, (s.core n).coef) ∧ saidOk s t) := by
  refine byteWrite_does (t := (s.setCore n ((s.core n).save p.id)).raise Cause.coefSaved (args n [(p.id, 4)])) h rfl ?_ ?_ ?_
  · rw [writtenValue_persist]
    have hfree : ¬((s.core n).saved.length ≥ 16) := by omega
    simp [State.persist, hprog, hfree, CoreSt.save, CoreSt.unsave]
  · rw [State.raise_outbox, State.setCore_outbox]
  · rw [State.core_send, State.core_raise, State.core_setCore_same]
    exact List.find?_cons_of_pos (decide_eq_true rfl)

theorem coefDiscard_does {p : Program} (h : s.takesByte (K.coefPersist n) sess 2) (hprog : (s.core n).prog = some p) :
    Does (.coefDiscard n sess) s (fun t =>
      (t.core n).saved = (s.core n).saved.filter (fun e => decide (e.1 ≠ p.id)) ∧ saidOk s t) := by
  refine byteWrite_does (t := s.setCore n ((s.core n).unsave p.id)) h rfl ?_ rfl ?_
  · rw [writtenValue_persist]
    simp [State.persist, hprog, CoreSt.unsave]
  · rw [State.core_send, State.core_setCore_same, CoreSt.unsave]

end

/-- Settles O12: each clause is the lemma on its command above. -/
theorem coreCommandsLoadSwapStopAndStart : Obligations.CoreCommandsLoadSwapStopAndStart := by
  unfold Obligations.CoreCommandsLoadSwapStopAndStart
  intro s n sess c
  refine ⟨fun h => (cardamomLoad_does h).mono fun t ⟨⟨hpend, hprog, hstate⟩, hok⟩ => ⟨hpend, hprog, hstate, hok⟩,
    coreSwap_does, fun p => programSwapped_does, coreStop_does, coreStart_does,
    fun h => (clearPending_does h).mono fun t ⟨⟨hprog, hstate, hswap⟩, hok⟩ => ⟨hprog, hstate, hswap, hok⟩,
    fun p => coefSave_does, fun p => coefDiscard_does⟩

end Sys2Proof.Machine
end

section
/-! Faults and notices of a core (R153 to R156, R187). -/

namespace Sys2Proof.Machine

/-! ### Faults (R155, R187) -/

/-- A core that has entered FAULTED: the evaluation is aborted, what waited is dropped (R187). -/
def CoreSt.faulted (c : CoreSt) : CoreSt :=
  { c with state := .faulted, unpublished := [], unpublishedH := [], todo := [], emitted := [], notice := none, taken := none,
           inHandler := false, skip := 0, stopPend := false, startPend := false }

section
variable (n : Fin 4) (s : State)

theorem State.stopConv_card (c : Conv) (r : StopRule) : (s.stopConv c r).card = s.card :=
  iteInduction (motive := fun t : State => t.card = s.card) (fun _ => State.modConv_card _ _ _) (fun _ => rfl)

theorem State.core_faultCore : (s.faultCore n).core n = (s.core n).faulted := by
  unfold State.faultCore
  rw [State.core_raiseOn, State.core_congr n (State.each_card _ _ _ fun _ _ => State.stopConv_card _ _ _),
    State.core_setCore_same]
  rfl

theorem State.core_overrun : (s.overrun n).core n = (s.core n).faulted := by
  rw [State.overrun, State.core_faultCore, State.core_raiseOn, State.core_inc, State.core_inc]

end

/-- Settles O14: an overrun and an uncorrectable error leave the core faulted; a corrected one is counted and told. -/
theorem coreFaultsAbortTheEvaluation : Obligations.CoreFaultsAbortTheEvaluation := by
  unfold Obligations.CoreFaultsAbortTheEvaluation
  intro s n faulted
  refine ⟨fun hrun => .of_next rfl ?_, .of_next rfl ?_, .of_next rfl ⟨?_, ?_⟩⟩
  · simp only [faulted]
    rw [decide_eq_true hrun, State.when_true, State.core_overrun]
    exact ⟨rfl, rfl, rfl, rfl, rfl, rfl, rfl, rfl, rfl⟩
  · simp only [faulted]
    rw [State.core_faultCore, State.core_raiseOn]
    exact ⟨rfl, rfl, rfl, rfl, rfl, rfl, rfl, rfl, rfl⟩
  · rw [State.raiseOn_card, State.inc_card]
  · exact State.inc_raise_counts _ _ _ (noting_of_engine (by unfold K.coreMemoryErrorsCorrected; omega)
      (by unfold K.coreMemoryErrorsCorrected; omega))

/-! ### NOTICE (R156) -/

theorem sat31_toInt (x : BitVec 32) : sat31 x.toInt = x.toInt := by
  have hlo := BitVec.le_toInt x
  have hhi := BitVec.toInt_lt (x := x)
  norm_num at hlo hhi
  show max (min x.toInt 2147483647) (-2147483648) = x.toInt
  omega

section
variable {s : State} {n : Fin 4} {tray : Fin 24} {step : Int} {stamp : Nat}

/-- A notice at one core leaves the others alone. -/
theorem State.core_noticeAt_other {m : Fin 4} (h : m ≠ n) : (s.noticeAt tray step stamp n).core m = s.core m := by
  unfold State.noticeAt State.joinNotice
  dsimp only
  split_ifs
  · rfl
  · rw [State.core_raise, State.core_inc]
  · split
    · rfl
    · split_ifs
      · rfl
      · split
        · exact State.core_setCore_other _ _ _ _ h
        · rw [State.when_same (fun t => t.core m) _ _ (State.core_inc _ _ _), State.core_inc]
          exact State.core_setCore_other _ _ _ _ h

theorem mem_allCores (n : Fin 4) : n ∈ allCores := by
  revert n
  decide

/-- A notice leaves a core as its round over the cores leaves it. -/
theorem State.notice_at {P : CoreSt → Prop}
    (hat : ∀ t : State, t.core n = s.core n → P ((t.noticeAt tray step stamp n).core n)) : P ((s.notice tray step stamp).core n) := by
  refine State.each_once (A := fun t => t.core n = s.core n) (B := fun t => P (t.core n)) (by decide) (mem_allCores n)
    (State.core_congr n s.wakeBurst_card) (fun m hm t ht => ?_) hat (fun m hm t ht => ?_)
  · exact (State.core_noticeAt_other hm.symm).trans ht
  · exact (congrArg P (State.core_noticeAt_other hm.symm)).mpr ht

/-- A core whose mask does not name the tray is left alone. -/
theorem State.noticeAt_of_deaf (hmask : (s.core n).maskInForce.getLsbD tray = false) : s.noticeAt tray step stamp n = s :=
  if_pos (by rw [hmask]; rfl)

section
variable {p : Program} (hmask : (s.core n).maskInForce.getLsbD tray = true) (hrun : (s.core n).state = .running)
  (hprog : (s.core n).prog = some p) (hhandler : p.hasHandler = true)
include hmask hrun hprog hhandler

theorem State.noticeAt_opens (hnone : (s.core n).notice = none) : ((s.noticeAt tray step stamp n).core n).notice =
    some { count := 1, step := sat31 step, stamp := stamp % 2 ^ 32, trays := 1#24 <<< tray.val } := by
  have hjoin : s.noticeAt tray step stamp n = s.joinNotice (1#24 <<< tray.val) step stamp n :=
    (if_neg (by simp [hmask])).trans (if_neg (not_not_intro hrun))
  rw [hjoin, State.joinNotice]
  simp only [hprog, hhandler, hnone]
  rw [if_neg (by decide), State.core_setCore_same]

theorem State.noticeAt_joins {r : NoticeRec} (hsome : (s.core n).notice = some r) :
    ((s.noticeAt tray step stamp n).core n).notice =
      some { r with count := r.count + 1, step := sat31 (r.step + step), trays := r.trays ||| (1#24 <<< tray.val) } := by
  have hjoin : s.noticeAt tray step stamp n = s.joinNotice (1#24 <<< tray.val) step stamp n :=
    (if_neg (by simp [hmask])).trans (if_neg (not_not_intro hrun))
  rw [hjoin, State.joinNotice]
  simp only [hprog, hhandler, hsome]
  rw [if_neg (by decide), State.when_same (fun t => t.core n) _ _ (State.core_inc _ _ _), State.core_inc,
    State.core_setCore_same]

end
end

/-! ### What a handler leaves of its core (R153) -/

section
variable (c : CoreSt)

theorem CoreSt.fixed_of_stores {c c' : CoreSt} (h : c'.stores = c.stores) : c'.fixed = c.fixed := congrArg (·.1) h

@[simp] theorem CoreSt.fixed_storeSm (m : Nat) (x : Int) : (c.storeSm m x).fixed = c.fixed := congrArg (·.1) (c.stores_storeSm m x)
@[simp] theorem CoreSt.fixed_publish : c.publish.fixed = c.fixed := CoreSt.fixed_of_stores c.stores_publish
@[simp] theorem CoreSt.fixed_countClamp (b : Bool) : (c.countClamp b).fixed = c.fixed :=
  CoreSt.fixed_of_stores (c.stores_countClamp b)

theorem CoreSt.fixed_spend (k : Nat) : (c.spend k).fixed = c.fixed := rfl

theorem CoreSt.fixed_begin (b : Bool) : (c.begin_ b).fixed = c.fixed := by
  refine (CoreSt.fixed_of_stores (CoreSt.stores_setBank _ _)).trans ?_
  cases b <;> rfl

theorem CoreSt.fixed_runTo (f : Snapshot) (limit : Nat) (l : List CInstr) (c : CoreSt) :
    (CoreSt.runTo f limit l c).fixed = c.fixed := by
  induction l generalizing c with
  | nil => rfl
  | cons i rest ih =>
    rw [CoreSt.runTo]
    split
    · rfl
    · exact (ih _).trans (CoreSt.exec1_kept f i c).fixed

@[simp] theorem CoreSt.fixed_outQ15 (x : Int) (p : Fin 64) : (c.outQ15 x p).fixed = c.fixed := by
  have hload : ((c.load 7 x).iSatd 7 13 0).stores = c.stores := by simp [CoreSt.load, CoreSt.sat]
  exact (congrArg (·.1) (CoreSt.stores_outPort _ p.val _)).trans (CoreSt.fixed_of_stores hload)

theorem CoreSt.fixed_noticeHandler (f : Snapshot) : (noticeHandler f c).fixed = c.fixed := by
  simp [noticeHandler, CoreSt.putStorageVals, CoreSt.limitOf]

end

/-! ### The counter of notices handled -/

section
variable (n : Fin 4) (s : State)

theorem noting_noticesHandled : noting (K.coreNoticesHandled n) = false :=
  noting_of_engine (by unfold K.coreNoticesHandled; omega) (by unfold K.coreNoticesHandled; omega)

theorem State.handled_raiseOn (c subj : Nat) : (s.raiseOn c subj).get (K.coreNoticesHandled n) = s.get (K.coreNoticesHandled n) :=
  State.get_raiseOn _ _ _ _ (noting_noticesHandled n)

/-- Counting in another object leaves the counter alone. -/
theorem State.handled_countBy {k : Nat} (b x : Nat) (h : k ≠ K.coreNoticesHandled n) :
    (s.countBy b k x).get (K.coreNoticesHandled n) = s.get (K.coreNoticesHandled n) :=
  State.get_countBy_other _ _ _ _ _ h.symm

theorem State.handled_commandWrite (c : Conv) (v : Int) :
    (s.commandWrite c v).get (K.coreNoticesHandled n) = s.get (K.coreNoticesHandled n) := by
  refine (State.each_same (State.get · (K.coreNoticesHandled n)) _ fun p _ t => ?_).trans (State.get_modConv _ _ _ _)
  refine (State.when_same (State.get · (K.coreNoticesHandled n)) _ _ (State.handled_countBy n _ 32 1 ?_)).trans
    (State.get_modPhase _ _ _ _)
  cases c <;> unfold K.convCommandClamps K.coreNoticesHandled Conv.idx <;> omega

theorem State.handled_settle : (s.settle n).get (K.coreNoticesHandled n) = s.get (K.coreNoticesHandled n) := by
  unfold State.settle
  refine (State.when_same (State.get · (K.coreNoticesHandled n)) _ _ (State.handled_raiseOn n _ _ _)).trans ?_
  refine (State.each_same (State.get · (K.coreNoticesHandled n)) _ fun _ _ _ => State.handled_commandWrite n _ _ _).trans ?_
  refine (State.when_same (State.get · (K.coreNoticesHandled n)) _ _ (State.handled_countBy n _ _ _ ?_)).trans ?_
  · unfold K.coreLimitClamps K.coreNoticesHandled
    omega
  refine (State.when_same (State.get · (K.coreNoticesHandled n)) _ _ (State.handled_countBy n _ _ _ ?_)).trans ?_
  · unfold K.coreStoreSaturations K.coreNoticesHandled
    omega
  refine (State.when_same (State.get · (K.coreNoticesHandled n)) _ _ (State.handled_countBy n _ _ _ ?_)).trans ?_
  · unfold K.coreAccumulatorSaturations K.coreNoticesHandled
    omega
  exact State.get_setCore _ _ _ _

theorem State.handled_faultCore : (s.faultCore n).get (K.coreNoticesHandled n) = s.get (K.coreNoticesHandled n) :=
  (State.handled_raiseOn n _ _ _).trans (State.each_same (State.get · (K.coreNoticesHandled n)) _ fun _ _ t =>
    iteInduction (motive := fun u : State => u.get (K.coreNoticesHandled n) = t.get (K.coreNoticesHandled n))
      (fun _ => State.get_modConv _ _ _ _) (fun _ => rfl))

theorem State.handled_overrun : (s.overrun n).get (K.coreNoticesHandled n) = s.get (K.coreNoticesHandled n) := by
  rw [State.overrun, State.handled_faultCore, State.handled_raiseOn, State.inc, State.handled_countBy, State.inc,
    State.handled_countBy]
  · unfold K.coreOverruns K.coreNoticesHandled
    omega
  · unfold K.engineOverruns K.coreNoticesHandled
    omega

end

/-! ### EVENT_SLOT (R153) -/

/-- A core that has served its notice: its program in force, no record pending, the counter of notices handled at a value. -/
structure Served (n : Fin 4) (p : Program) (k : Int) (t : State) : Prop where
  prog : (t.core n).prog = some p
  notice : (t.core n).notice = none
  handled : t.get (K.coreNoticesHandled n) = k

section
variable {n : Fin 4} {p : Program} {k : Int} {t : State}

theorem Served.settle (h : Served n p k t) : Served n p k (t.settle n) where
  prog := (congrArg CoreSt.prog (State.core_settle_same n t)).trans h.prog
  notice := (congrArg CoreSt.notice (State.core_settle_same n t)).trans h.notice
  handled := (State.handled_settle n t).trans h.handled

theorem Served.overrun (h : Served n p k t) : Served n p k (t.overrun n) where
  prog := (congrArg CoreSt.prog (State.core_overrun n t)).trans h.prog
  notice := congrArg CoreSt.notice (State.core_overrun n t)
  handled := (State.handled_overrun n t).trans h.handled

/-- A core that has come to hold what its handler or its evaluation leaves. -/
theorem Served.setCore {c : CoreSt} (hprog : c.prog = some p) (hnotice : c.notice = none)
    (hhandled : t.get (K.coreNoticesHandled n) = k) : Served n p k (t.setCore n c) where
  prog := (congrArg CoreSt.prog (State.core_setCore_same n c t)).trans hprog
  notice := (congrArg CoreSt.notice (State.core_setCore_same n c t)).trans hnotice
  handled := hhandled

theorem Served.mainEnd (h : Served n p k t) : Served n p k (t.mainEnd n) := by
  unfold State.mainEnd
  split
  · have hcore : ∀ v : Int, (t.putMax (K.coreMainEndHighMark n) v).core n = t.core n :=
      fun v => State.core_congr n (State.putMax_card _ _ _)
    have hkey : K.coreNoticesHandled n ≠ K.coreMainEndHighMark n := by
      unfold K.coreNoticesHandled K.coreMainEndHighMark
      omega
    exact ⟨(congrArg CoreSt.prog (hcore _)).trans h.prog, (congrArg CoreSt.notice (hcore _)).trans h.notice,
      (State.get_putMax_other _ _ _ _ hkey).trans h.handled⟩
  · exact h.overrun

theorem Served.resumeMain (h : Served n p k t) : Served n p k (t.resumeMain n) := by
  unfold State.resumeMain
  simp only [h.prog]
  split
  · exact h
  · have hfixed := CoreSt.fixed_runTo t.card.snap (p.deadline + 1) (t.core n).todo (t.core n)
    exact (Served.settle (.setCore ((congrArg (·.2.1) hfixed).trans h.prog) ((congrArg (·.2.2.2) hfixed).trans h.notice)
      h.handled)).mainEnd

end

section
variable {n : Fin 4} {p : Program} {s : State} {r : NoticeRec}

/-- A core as it begins its handler on a notice (R153), with the numbers of its first selector and FFW. -/
def CoreSt.serving (r : NoticeRec) (sel ffw : Nat) (c : CoreSt) : CoreSt :=
  { ({ c with notice := none, taken := some r } : CoreSt).begin_ true with selNext := sel, ffwNext := ffw }

theorem CoreSt.fixed_serving (r : NoticeRec) (sel ffw : Nat) (c : CoreSt) :
    (c.serving r sel ffw).fixed = (c.coef, c.prog, c.state, none) := CoreSt.fixed_begin _ _

/-- A core after its handler: the numbers of selectors and FFWs, and what is suspended, are the main evaluation's again. -/
def CoreSt.served (m c : CoreSt) (todo : List CInstr) : CoreSt := { c with selNext := m.selNext, ffwNext := m.ffwNext, todo := todo }

theorem CoreSt.fixed_served (m c : CoreSt) (todo : List CInstr) : (m.served c todo).fixed = c.fixed := rfl

/-- A core that has come to hold what its handler leaves has served. -/
theorem Served.of_fixed {t : State} {k : Int} {c : CoreSt} (hprog : (s.core n).prog = some p)
    (hfixed : c.fixed = ((s.core n).coef, (s.core n).prog, (s.core n).state, none))
    (hhandled : t.get (K.coreNoticesHandled n) = k) : Served n p k (t.setCore n c) := by
  obtain ⟨-, hfixed⟩ := Prod.mk.inj hfixed
  obtain ⟨hprog0, hfixed⟩ := Prod.mk.inj hfixed
  obtain ⟨-, hnotice0⟩ := Prod.mk.inj hfixed
  exact .setCore (hprog0.trans hprog) hnotice0 hhandled

theorem State.runHandler_standard (hprog : (s.core n).prog = some p) (hcode : p.code = .standard) :
    s.runHandler n r = ((s.countBy 32 (K.coreNoticesHandled n) r.count).setCore n ((s.core n).served
      ((noticeHandler s.card.snap ((s.core n).serving r 3 2)).spend p.handlerWorst)
      ((noticeHandler s.card.snap ((s.core n).serving r 3 2)).spend p.handlerWorst).todo)).settle n := by
  unfold State.runHandler
  simp only [State.core_countBy, hprog, State.countBy_card, hcode, CoreSt.serving, CoreSt.served]

theorem State.runHandler_code {main handler : List CInstr} (hprog : (s.core n).prog = some p) (hcode : p.code = .code main handler) :
    s.runHandler n r = (((s.countBy 32 (K.coreNoticesHandled n) r.count).setCore n ((s.core n).served
      (CoreSt.runTo s.card.snap ((s.core n).cyc + 300) handler ((s.core n).serving r (countSel main) (countFfw main)))
      (s.core n).todo)).settle n).when
      (!(CoreSt.runTo s.card.snap ((s.core n).cyc + 300) handler
        ((s.core n).serving r (countSel main) (countFfw main))).todo.isEmpty) (State.overrun n) := by
  unfold State.runHandler
  simp only [State.core_countBy, hprog, State.countBy_card, hcode, CoreSt.serving, CoreSt.served]

/-- The handler serves the notice it runs on. -/
theorem State.runHandler_serves (hprog : (s.core n).prog = some p) :
    Served n p ((s.countBy 32 (K.coreNoticesHandled n) r.count).get (K.coreNoticesHandled n)) (s.runHandler n r) := by
  cases hcode : p.code with
  | standard =>
    rw [State.runHandler_standard hprog hcode]
    refine (Served.of_fixed hprog ?_ rfl).settle
    rw [CoreSt.fixed_served, CoreSt.fixed_spend, CoreSt.fixed_noticeHandler, CoreSt.fixed_serving]
  | code main handler =>
    rw [State.runHandler_code hprog hcode]
    refine State.when_preserves _ (Served.of_fixed hprog ?_ rfl).settle Served.overrun
    rw [CoreSt.fixed_served, CoreSt.fixed_runTo, CoreSt.fixed_serving]

theorem State.eventSlot_serves (hrun : (s.core n).state = .running) (hprog : (s.core n).prog = some p)
    (hnotice : (s.core n).notice = some r) :
    Served n p ((s.countBy 32 (K.coreNoticesHandled n) r.count).get (K.coreNoticesHandled n)) (s.eventSlot n) := by
  rw [State.eventSlot, if_pos hrun]
  simp only [hnotice]
  exact State.runHandler_serves hprog

/-- An event slot of a core with a pending notice serves it. -/
theorem eventSlot_does (hrun : (s.core n).state = .running) (hprog : (s.core n).prog = some p)
    (hnotice : (s.core n).notice = some r) : Does (.eventSlot n) s (fun t => (t.core n).notice = none ∧
      (t.core n).prog = some p ∧ counts s t (K.coreNoticesHandled n) r.count) := by
  refine .of_next rfl ?_
  have hopens : ((s.core n).notice.isSome && decide ((s.core n).state = .running)) = true := by simp [hnotice, hrun]
  rw [hopens, State.when_true]
  have hserved := (State.eventSlot_serves (n := n) (p := p) (r := r)
    (s := s.modCore n (fun c => { c with cyc := max c.cyc 750 })) (by rw [State.core_modCore_same]; exact hrun)
    (by rw [State.core_modCore_same]; exact hprog) (by rw [State.core_modCore_same]; exact hnotice)).resumeMain
  refine ⟨hserved.notice, hserved.prog, fun hwidth => hserved.handled.trans ?_⟩
  exact State.get_countBy_same _ _ _ _ hwidth

end

/-- Settles O13: a notice reaches each core in its round; an event slot serves the pending one. -/
theorem noticesReachTheCoresThatListen : Obligations.NoticesReachTheCoresThatListen := by
  unfold Obligations.NoticesReachTheCoresThatListen
  intro s n tray step stamp c
  refine ⟨fun p hmask hrun hprog hhandler hnone => .of_next rfl ?_, fun p r hmask hrun hprog hhandler hsome => .of_next rfl ?_,
    fun hmask => .of_next rfl ?_, fun p r => eventSlot_does⟩
  · refine State.notice_at (P := fun c => c.notice = _) fun t (ht : t.core n = c) => ?_
    rw [State.noticeAt_opens (ht ▸ hmask) (ht ▸ hrun) (ht ▸ hprog) hhandler (ht ▸ hnone), sat31_toInt]
  · refine State.notice_at (P := fun c => c.notice = _) fun t (ht : t.core n = c) => ?_
    rw [State.noticeAt_joins (ht ▸ hmask) (ht ▸ hrun) (ht ▸ hprog) hhandler (ht ▸ hsome)]
    rfl
  · refine State.notice_at (P := fun c' => c' = c) fun t (ht : t.core n = c) => ?_
    rw [State.noticeAt_of_deaf (ht ▸ hmask), ht]

end Sys2Proof.Machine
end

section
/-! The episodes of the smoothing loops (R196, R197, R205, R206): overdraw, surplus and binding selection codes. -/

namespace Sys2Proof.Machine

section
variable {s : State}

theorem feedOverdraw_does (hclosed : s.lp.odEpisode = false) (hheld : s.getN K.loopOverdrawHold ≤ s.lp.odRun) :
    Does .feedOverdraw s (fun t => t.lp.odEpisode = true ∧ counts s t K.loopOverdrawEpisodes 1) := by
  have hexec : exec .feedOverdraw s =
      .next (((s.modLoop (fun l => { l with odEpisode := true })).inc K.loopOverdrawEpisodes).raise Cause.feedOverdraw
        (args0 [(s.getN K.loopOverdraw, 4)])) := if_pos (by simp [hclosed, hheld])
  refine .of_next hexec ⟨?_, ?_⟩
  · rw [State.raise_lp, State.inc_lp, State.modLoop_lp]
  · exact counts_of_get_eq (State.inc_counts _ (s.modLoop _)) (State.get_raise _ _ _ _ (by decide))

theorem capSurplus_does (hclosed : s.lp.suEpisode = false) (hheld : s.getN K.loopOverdrawHold ≤ s.lp.suRun) :
    Does .capSurplus s (fun t => t.lp.suEpisode = true) := by
  have hexec : exec .capSurplus s =
      .next ((s.modLoop (fun l => { l with suEpisode := true })).raise0 Cause.capSurplus) := if_pos (by simp [hclosed, hheld])
  refine .of_next hexec ?_
  rw [State.raise0_lp, State.modLoop_lp]

/-- A code among those of a cause, in force for the report time and in no episode, opens its own beside the others (R197). -/
theorem State.binding_opens {codes : List Nat} (cause : Nat) (hcode : s.lp.bindCode ∈ codes)
    (hheld : s.getN K.loopBindingReportTime * 1000 ≤ s.lp.bindRun) (hclosed : ∀ e ∈ s.lp.bindOpen, e.1 ≠ s.lp.bindCode) :
    (s.binding codes cause).lp.bindOpen = (s.lp.bindCode, 0) :: s.lp.bindOpen := by
  have hopens : (codes.contains s.lp.bindCode && decide (s.getN K.loopBindingReportTime * 1000 ≤ s.lp.bindRun) &&
      !(s.lp.bindOpen.any (fun e => decide (e.1 = s.lp.bindCode)))) = true := by simpa [hcode, hheld] using hclosed
  unfold State.binding
  dsimp only
  rw [if_pos hopens, State.raise_lp, State.modLoop_lp]

theorem binding_does {i : Instr} {codes : List Nat} {cause : Nat} (hexec : exec i s = .next (s.binding codes cause))
    (hcode : s.lp.bindCode ∈ codes) (hheld : s.getN K.loopBindingReportTime * 1000 ≤ s.lp.bindRun)
    (hclosed : ∀ e ∈ s.lp.bindOpen, e.1 ≠ s.lp.bindCode) :
    Does i s (fun t => (s.lp.bindCode, 0) ∈ t.lp.bindOpen ∧ ∀ e ∈ s.lp.bindOpen, e ∈ t.lp.bindOpen) := by
  refine .of_next hexec ?_
  rw [State.binding_opens cause hcode hheld hclosed]
  exact ⟨List.mem_cons_self, fun e he => List.mem_cons_of_mem _ he⟩

end

/-- Settles O31: overdraw and surplus by their lemmas; the binding commands differ in their codes alone. -/
theorem loopConditionsOpenTheirEpisodes : Obligations.LoopConditionsOpenTheirEpisodes := by
  unfold Obligations.LoopConditionsOpenTheirEpisodes
  intro s opened k
  refine ⟨feedOverdraw_does, capSurplus_does, fun hheld hclosed => ⟨fun hk => ?_, fun hk => ?_, fun hk => ?_, fun hk => ?_⟩⟩
  · exact binding_does (codes := [1, 4]) rfl (by simpa using hk) hheld hclosed
  · exact binding_does (codes := [2]) rfl (by simpa using hk) hheld hclosed
  · exact binding_does (codes := [5]) rfl (by simpa using hk) hheld hclosed
  · exact binding_does (codes := [3, 6]) rfl (by simpa using hk) hheld hclosed

end Sys2Proof.Machine
end

section
/-! What the queues, the links and a GROUP_CAP on its way out leave of the rack's groups and of the sequence (R102, R330). -/

namespace Sys2Proof.Machine

/-- An object of the rack (0x7000 to 0x7FFF) is none that raising a cause writes. -/
theorem noting_of_rack {k : Nat} (h : 0x700000 ≤ k) (h' : k < 0x800000) : noting k = false := by
  simp only [noting, K.sessEventsLost, K.recStagingHighMark, K.recCausesNotStaged, K.trigMatches, Bool.or_eq_false_iff,
    decide_eq_false_iff_not, List.any_eq_false, List.mem_range, decide_eq_true_eq]
  exact ⟨⟨⟨by omega, by omega⟩, by omega⟩, fun i hi => by omega⟩

theorem noting_groupLocalLevel (g : Fin 64) : noting (K.groupLocalLevel g) = false :=
  noting_of_rack (by unfold K.groupLocalLevel; omega) (by unfold K.groupLocalLevel; omega)

/-! ### The queues leave the rack alone (R393 to R403) -/

section
variable (q : Nat) (i : QItem) (s : State)

@[simp] theorem State.sendPfc_rack (quanta : Nat) : (s.sendPfc q quanta).rack = s.rack := by
  unfold State.sendPfc State.incHalf
  split
  · simp [apply_ite State.rack]
  · rfl

@[simp] theorem State.poolCheck_rack : s.poolCheck.rack = s.rack := by simp [State.poolCheck, apply_ite State.rack]

@[simp] theorem State.driveXoff_rack : s.driveXoff.rack = s.rack := rfl

@[simp] theorem State.watermark_rack : (s.watermark q).rack = s.rack := by simp [State.watermark, apply_ite State.rack]

@[simp] theorem State.dropItem_rack : (s.dropItem q).rack = s.rack := by simp [State.dropItem, apply_ite State.rack]

@[simp] theorem State.deliver_rack : (s.deliver q i).rack = s.rack := by
  unfold State.deliver
  simp [State.when_same State.rack]

@[simp] theorem State.wakeRead_rack : (s.wakeRead q).rack = s.rack := by
  unfold State.wakeRead
  dsimp only
  split
  · split
    · exact State.deliver_rack _ _ _
    · rfl
  · rfl

@[simp] theorem State.abandonTo_rack : (s.abandonTo q i).rack = s.rack := State.when_same State.rack _ _ rfl

@[simp] theorem State.itemGrown_rack : (s.itemGrown q i).rack = s.rack := by
  unfold State.itemGrown
  simp [apply_ite State.rack, State.when_same State.rack]

@[simp] theorem State.putItem_rack (had : Nat) (place : QItem → List QItem) (rest : List QItem) :
    (s.putItem q had i place rest).rack = s.rack := by
  unfold State.putItem
  dsimp only
  split <;> simp

theorem State.enqueue_rack (prio stamp : Nat) (bytes : List Byte) : (s.enqueue q prio stamp bytes).rack = s.rack := by
  unfold State.enqueue State.addItem
  rw [State.putItem_rack]

end

/-! ### What is kept of a group -/

/-- What a group holds but for the levels it has heard from other shelves. -/
def GroupSt.own (x : GroupSt) : GroupSt := { x with remote := [] }

theorem State.group_modGroup (g : Fin 64) (f : GroupSt → GroupSt) (s : State) : (s.modGroup g f).group g = f (s.group g) :=
  Vector.getElem_set_self _

theorem State.group_congr {s t : State} (g : Fin 64) (h : t.rack = s.rack) : t.group g = s.group g := by
  unfold State.group
  rw [h]

/-- A group's own state and local level, and the next sequence, are as they were. -/
structure CapKept (g : Fin 64) (s t : State) : Prop where
  own : (t.group g).own = (s.group g).own
  nextSeq : t.clv.nextSeq = s.clv.nextSeq
  level : t.get (K.groupLocalLevel g) = s.get (K.groupLocalLevel g)

section
variable {g : Fin 64} {s t u : State}

theorem CapKept.rfl : CapKept g s s := ⟨by rfl, by rfl, by rfl⟩

theorem CapKept.trans (h : CapKept g s t) (k : CapKept g t u) : CapKept g s u :=
  ⟨k.own.trans h.own, k.nextSeq.trans h.nextSeq, k.level.trans h.level⟩

theorem CapKept.when {b : Bool} {f : State → State} (h : CapKept g s t) (hf : CapKept g t (f t)) : CapKept g s (t.when b f) :=
  State.when_preserves b h fun h => h.trans hf

theorem CapKept.each {α : Type} {l : List α} {f : α → State → State} (h : CapKept g s t) (hf : ∀ a v, CapKept g v (f a v)) :
    CapKept g s (t.each l f) :=
  State.each_preserves l h fun a v hv => hv.trans (hf a v)

theorem CapKept.ite {c : Prop} [Decidable c] (ht : CapKept g s t) (hu : CapKept g s u) : CapKept g s (if c then t else u) :=
  iteInduction (motive := CapKept g s) (fun _ => ht) (fun _ => hu)

theorem CapKept.of_rack (hrack : t.rack = s.rack) (hclv : t.clv.nextSeq = s.clv.nextSeq)
    (hlevel : t.get (K.groupLocalLevel g) = s.get (K.groupLocalLevel g)) : CapKept g s t :=
  ⟨congrArg GroupSt.own (State.group_congr g hrack), hclv, hlevel⟩

theorem Noted.capKept (h : Noted s t) (hlevel : t.get (K.groupLocalLevel g) = s.get (K.groupLocalLevel g)) : CapKept g s t :=
  .of_rack h.rack (congrArg CloveState.nextSeq h.clv) hlevel

end

section
variable (g : Fin 64) (s : State)

theorem State.raise_capKept (c : Nat) (a : Args) : CapKept g s (s.raise c a) :=
  (State.raise_noted _ _ _).capKept (State.get_raise _ _ _ _ (noting_groupLocalLevel g))

theorem State.inc_capKept {k : Nat} (h : k < 0x700000) : CapKept g s (s.inc k) :=
  (State.inc_noted _ _).capKept (State.get_inc_other _ _ _ (by unfold K.groupLocalLevel; omega))

theorem State.modFab_capKept (f : FabricSt → FabricSt) : CapKept g s (s.modFab f) := .of_rack rfl rfl rfl

theorem State.enqueue_capKept (q prio stamp : Nat) (bytes : List Byte) : CapKept g s (s.enqueue q prio stamp bytes) :=
  have h := State.enqueue_queueKept q prio stamp bytes s
  .of_rack (State.enqueue_rack _ _ _ _ _) (congrArg CloveState.nextSeq h.clv)
    (h.get _ (by unfold K.groupLocalLevel; omega) (noting_groupLocalLevel g))

/-! ### Flits that the module originates (R357, R361) -/

theorem State.transmit_capKept (f : List Byte) (n : Nat) : CapKept g s (s.transmit f false n) := State.enqueue_capKept g s _ _ _ _

theorem State.pairFlit_capKept (f : List Byte) : CapKept g s (s.pairFlit f) :=
  .each .rfl fun n t => State.transmit_capKept g t f n

theorem State.dropNoRoute_capKept : CapKept g s s.dropNoRoute := by
  have hcount := State.inc_capKept g s (k := K.fabNoRouteDrops) (by decide)
  unfold State.dropNoRoute
  exact .ite (hcount.trans ((State.modFab_capKept g _ _).trans (State.raise_capKept g _ _ _))) hcount

theorem State.saySelf_capKept : CapKept g s s.saySelf := by
  unfold State.saySelf
  exact .ite .rfl ((State.modFab_capKept g _ _).trans (State.raise_capKept g _ _ _))

theorem State.originateFlit_capKept (f : List Byte) : CapKept g s (s.originateFlit f) := by
  unfold State.originateFlit State.sendBy
  exact .ite (.ite .rfl (State.dropNoRoute_capKept g s))
    (.each (.when .rfl (State.saySelf_capKept g s)) fun n t => State.transmit_capKept g t f n)

/-! ### A clove on its way in (R106) -/

theorem State.cloveCount_capKept {sub : Nat} (h : sub ≤ 16) : CapKept g s (s.cloveCount sub) :=
  State.inc_capKept g s (by unfold K.cloveCloveCounters; omega)

theorem State.markSeen_capKept (c : Clove) : CapKept g s (s.markSeen c) := by
  unfold State.markSeen
  split <;> exact .of_rack rfl rfl rfl

theorem State.firing_capKept (c : Clove) : CapKept g s (s.firing c) := by
  obtain ⟨n, h⟩ := State.firing_noted c s
  have hshown : K.groupLocalLevel g ∉ firingShown := by
    simp only [firingShown, K.groupLocalLevel, K.cloveCloveCounters, List.mem_cons, List.not_mem_nil, or_false]
    omega
  exact .of_rack h.rack (by rw [h.clv]; rfl) (State.get_firing_other c s hshown (noting_groupLocalLevel g))

theorem State.hearCap_capKept (shelf level : Nat) (m : Fin 64) : CapKept g s (s.hearCap shelf level m) where
  own := by
    rw [State.hearCap_group]
    split <;> rfl
  nextSeq := rfl
  level := State.get_put_other _ _ _ _ (by unfold K.groupLocalLevel K.groupRemoteLevel; omega)

theorem State.fireGroupCap_capKept (c : Clove) : CapKept g s (s.fireGroupCap c) := by
  rw [State.fireGroupCap_eq]
  exact .each .rfl fun m t => State.hearCap_capKept g t _ _ m

end

/-- What the tests of R106 can find of a clove: a refusal is counted in 0x2330, and only CANCEL cancels. -/
def CloveVerdict.fits (c : Clove) : CloveVerdict → Prop
  | .refuse _ sub _ => sub ≤ 16
  | .cancel => c.action.toNat = 9
  | _ => True

theorem State.cloveTest_fits (s : State) (c : Clove) (a : Nat) : (s.cloveTest c a).fits c := by
  unfold State.cloveTest
  dsimp only
  repeat' split
  all_goals simp [CloveVerdict.fits, *]

/-- A clove that is no CANCEL leaves the groups but for what it does if it fires. -/
theorem State.cloveArrive_capKept (g : Fin 64) (s : State) {act : Clove → State → State} (c : Clove) (a : Nat)
    (hact : ∀ t, CapKept g t (act c t)) (hcode : c.action.toNat ≠ 9) : CapKept g s (s.cloveArrive act c a) := by
  have hfits := s.cloveTest_fits c a
  have hcopy : ∀ t : State, CapKept g t (t.when (decide (c.dest.toNat / 16384 = 1))
      (State.pairFlit (mkFlit flitClove 0 t.sourceNode 1 c.bytes))) := fun t => .when .rfl (State.pairFlit_capKept g t _)
  have hmark := State.markSeen_capKept g s c
  unfold State.cloveArrive
  dsimp only
  cases htest : s.cloveTest c a <;> rw [htest] at hfits <;> dsimp only
  case forward => exact .rfl
  case duplicate => exact State.cloveCount_capKept g s (by decide)
  case refuse cause sub seen =>
    exact ((CapKept.rfl.when hmark).trans ((State.cloveCount_capKept g _ hfits).trans (State.raise_capKept g _ _ _))).when (hcopy _)
  case late =>
    have hcounted := ((hmark.trans (hcopy _)).trans (State.cloveCount_capKept g _ (sub := 1) (by decide))).trans
      (State.cloveCount_capKept g _ (sub := 4) (by decide))
    rw [State.fireWith_eq]
    exact ((hcounted.trans (State.firing_capKept g _ c)).trans (hact _)).trans (State.raise_capKept g _ _ _)
  case cancel => exact absurd hfits hcode
  case place =>
    exact ((hmark.trans (hcopy _)).trans (State.cloveCount_capKept g _ (sub := 1) (by decide))).trans
      (State.enqueue_capKept g _ _ _ _ _)

/-! ### GROUP_CAP leaves the module (R103, R110, R330) -/

theorem State.originate_action (s : State) (b : List Byte) : (s.originate b).action = fieldAt b 0 1 := by
  unfold State.originate
  dsimp only
  split <;> rfl

theorem State.nextSequence_nextSeq (s : State) : s.nextSequence.clv.nextSeq = (s.clv.nextSeq + 1) % 2 ^ 32 := by
  unfold State.nextSequence
  exact State.when_same (fun t : State => t.clv.nextSeq) _ _ (congrArg CloveState.nextSeq (State.raise0_clv _ _))

theorem State.nextSequence_rack (s : State) : s.nextSequence.rack = s.rack := by
  unfold State.nextSequence
  exact State.when_same State.rack _ _ (State.raise0_rack _ _)

theorem State.nextSequence_level (g : Fin 64) (s : State) :
    s.nextSequence.get (K.groupLocalLevel g) = s.get (K.groupLocalLevel g) := by
  unfold State.nextSequence
  refine (State.when_same (State.get · (K.groupLocalLevel g)) _ _ (State.get_raise0 _ _ _ (noting_groupLocalLevel g))).trans ?_
  exact State.get_put_other _ _ _ _ (by unfold K.groupLocalLevel K.cloveSequenceCounter; omega)

theorem State.originateClove_capKept (g : Fin 64) (s : State) {b : List Byte} (stamp : Nat) (h : (fieldAt b 0 1).toNat ≠ 9) :
    CapKept g s.nextSequence (s.originateClove State.fireGroupCap b stamp) := by
  rw [← State.originate_action s] at h
  exact .when (State.cloveArrive_capKept g _ _ _ (fun t => State.fireGroupCap_capKept g t _) h) (State.originateFlit_capKept g _ _)

/-- The state once a group has noted the level it sends. -/
def State.capNoted (g : Fin 64) (level : Nat) (s : State) : State :=
  s.modGroup g (fun x => { x with sentLevel := some level, sentAt := s.now })

theorem injectBytes_action (fire dest a b : Nat) : fieldAt (injectBytes 3 0 dest fire a b) 0 1 = 3 := rfl

section
variable (g : Fin 64) (level stamp : Nat) {s : State}

/-- With a campus group id and where it may originate, a module notes the level in its group, takes the next sequence, and
leaves the rest of the group alone. -/
theorem State.sendGroupCap_sends (hid : s.getN (K.groupCampusGroupId g) ≠ 0) (hcan : s.canOriginate = true) :
    CapKept g (s.capNoted g level).nextSequence (s.sendGroupCap g level stamp) := by
  unfold State.sendGroupCap
  dsimp only
  rw [if_neg (by simp [hid, hcan])]
  exact State.originateClove_capKept g (s.capNoted g level) _ (by rw [injectBytes_action]; decide)

theorem State.sendGroupCap_own (hid : s.getN (K.groupCampusGroupId g) ≠ 0) (hcan : s.canOriginate = true) :
    ((s.sendGroupCap g level stamp).group g).own = { (s.group g).own with sentLevel := some level, sentAt := s.now } := by
  rw [(State.sendGroupCap_sends g level stamp hid hcan).own, State.group_congr g (State.nextSequence_rack _), State.capNoted,
    State.group_modGroup]
  rfl

theorem State.sendGroupCap_silent (h : s.getN (K.groupCampusGroupId g) = 0 ∨ s.canOriginate = false) :
    s.sendGroupCap g level stamp = s := if_pos (h.imp_right fun h => by simp [h])

/-- Whether the level leaves or not, the episode and the local level stand. -/
theorem State.sendGroupCap_keepsEpisode (s : State) :
    ((s.sendGroupCap g level stamp).group g).episode = (s.group g).episode ∧
      (s.sendGroupCap g level stamp).get (K.groupLocalLevel g) = s.get (K.groupLocalLevel g) := by
  by_cases h : s.getN (K.groupCampusGroupId g) = 0 ∨ s.canOriginate = false
  · rw [State.sendGroupCap_silent g level stamp h]
    exact ⟨rfl, rfl⟩
  · obtain ⟨hid, hcan⟩ := not_or.1 h
    have hcan := eq_true_of_ne_false hcan
    have hown := congrArg GroupSt.episode (State.sendGroupCap_own g level stamp hid hcan)
    exact ⟨hown, (State.sendGroupCap_sends g level stamp hid hcan).level.trans (State.nextSequence_level g _)⟩

end

end Sys2Proof.Machine
end

section
/-! Groups, the ledger's projection and the rack cap (R204, R330, R331, R335): what their commands do. -/

namespace Sys2Proof.Machine

/-! ### GROUP_CAP_REFRESH, GROUP_RELEASE and GROUP_CAP_LAPSE (R330, R331) -/

section
variable {s : State} {g : Fin 64}

theorem groupCapRefresh_does (hheld : (s.group g).episode = true)
    (hdue : (s.group g).sentAt + s.getN K.rackGroupCapRefresh * 1000000 ≤ s.now) (hcan : s.canOriginate = true)
    (hid : s.getN (K.groupCampusGroupId g) ≠ 0) :
    Does (.groupCapRefresh g) s (fun t => (t.group g).sentAt = s.now ∧
      (t.group g).sentLevel = some (s.getN (K.groupLocalLevel g)) ∧ t.clv.nextSeq = (s.clv.nextSeq + 1) % 2 ^ 32) := by
  have hexec : exec (.groupCapRefresh g) s = .next (s.sendGroupCap g (s.getN (K.groupLocalLevel g)) s.ft) :=
    congrArg Host.Outcome.next (if_pos (by simp [hheld, hdue]))
  have hown := State.sendGroupCap_own g (s.getN (K.groupLocalLevel g)) s.ft hid hcan
  refine .of_next hexec ⟨congrArg GroupSt.sentAt hown, congrArg GroupSt.sentLevel hown, ?_⟩
  rw [(State.sendGroupCap_sends g _ _ hid hcan).nextSeq, State.nextSequence_nextSeq]
  rfl

/-- The state in which a group has let its level go. -/
def State.capReleased (g : Fin 64) (s : State) : State :=
  (s.put (K.groupLocalLevel g) unbounded).modGroup g (fun x => { x with episode := false, sentLevel := none })

theorem groupRelease_does (hheld : (s.group g).episode = true) (hquiet : (s.members g).any s.chipThrottled = false)
    (hdue : (s.group g).lastThrottle + s.getN K.rackReleaseHold * 1000000 ≤ s.now) :
    Does (.groupRelease g) s (fun t => (t.group g).episode = false ∧ t.getN (K.groupLocalLevel g) = 0xFFFFFFFF) := by
  have hexec : exec (.groupRelease g) s =
      .next (((s.capReleased g).sendGroupCap g 0xFFFF s.ft).raiseOn Cause.groupRelease g) :=
    if_pos (by simp [hheld, hquiet, hdue])
  obtain ⟨hepisode, hlevel⟩ := State.sendGroupCap_keepsEpisode g 0xFFFF s.ft (s.capReleased g)
  refine .of_next hexec ⟨?_, ?_⟩
  · rw [State.group_congr g (State.raiseOn_rack _ _ _), hepisode, State.capReleased, State.group_modGroup]
  · refine State.getN_of_get ?_
    rw [State.get_raiseOn _ _ _ _ (noting_groupLocalLevel g), hlevel]
    exact State.get_put_same _ _ _

theorem lowest_le {l : List Nat} {n : Nat} (h : n ∈ l) : lowest l ≤ n := by
  rw [lowest, List.foldl_min]
  exact (min_le_right _ _).trans (List.min?_getD_le_of_mem h)

theorem State.showRemote_le {e : RemoteLevel} (h : e ∈ (s.group g).remote) :
    (s.showRemote g).getN (K.groupRemoteLevel g) ≤ e.level := by
  unfold State.showRemote
  rw [State.getN_put_natCast]
  exact lowest_le (List.mem_map_of_mem h)

theorem groupCapLapse_does (s : State) (g : Fin 64) : Does (.groupCapLapse g) s (fun t =>
    (∀ e, e ∈ (t.group g).remote ↔
      e ∈ (s.group g).remote ∧ s.now < e.at_ + s.getN K.rackGroupCapLifetime * 1000000) ∧
    (∀ e ∈ (t.group g).remote, t.getN (K.groupRemoteLevel g) ≤ e.level)) := by
  refine .of_next rfl ⟨fun e => ?_, fun e he => State.showRemote_le he⟩
  rw [State.showRemote, State.group_congr g (State.put_rack _ _ _), State.group_modGroup, List.mem_filter, decide_eq_true_eq]

end

/-! ### LEDGER_PROJECTION (R335) -/

section
variable (s : State)

/-- The step still to be made, in W. -/
def State.needStep : Int := rheDiv (s.lp.pT * 4000) 2147483648 - rheDiv (s.lp.pF * 4000) 2147483648

def State.needUp : Bool := decide (0 < s.needStep)

/-- The ramp in force in the direction of the step, in W/s. -/
def State.needRamp : Nat := if s.needUp then s.getN K.ledgerUpRampInForce else s.getN K.ledgerDownRampInForce

/-- The part of the storage's headroom that a step may take, in J: upward of what stands above the floor, downward of what is
left below the ceiling. -/
def State.needHeadroom : Int :=
  let soc := s.get K.socStringStateOfCharge
  rheDiv (rheDiv ((if s.needUp then soc - s.get K.socFloorInForce else s.get K.socCeilingInForce - soc) *
    (s.get K.socStringEnergy * 1000)) 10000 * s.get K.ledgerNeedMargin) 100

/-- The step takes more energy at the ramp in force than the headroom allows. -/
def State.ledgerNeeds : Bool :=
  decide (s.needStep ≠ 0) && decide (2 * (s.needRamp : Int) * s.needHeadroom < s.needStep * s.needStep)

/-- The slice that a need asks for, in W/s. -/
def State.needSlice : Int :=
  clampInt 0 (2 ^ 32 - 1) (rheDiv (s.needStep * s.needStep) (2 * s.needHeadroom).toNat - s.needRamp)

/-- The direction of a need is published. -/
def State.needDirected : State := s.put K.ledgerNeedDirection (if s.needUp then 1 else 2)

/-- A need is published: its direction, and its slice where there is headroom. -/
def State.needShown : State :=
  if 0 < s.needHeadroom then s.needDirected.put K.ledgerNeedSlice s.needSlice
  else (s.needDirected.put K.ledgerNeedSlice ((s.needDirected.freeNat % 2 ^ 32 : Nat) : Int)).useFree

/-- A need is told. -/
def State.needTold : State :=
  (s.modRack (fun x => { x with needAt := some s.now })).raise Cause.ledgerNeed
    (args0 [(s.getN K.ledgerNeedDirection, 1), (s.getN K.ledgerNeedSlice, 4)])

theorem execLedgerProjection_eq : ∃ due, exec .ledgerProjection s =
    if s.ledgerNeeds then .next (s.needShown.when due State.needTold)
    else .next (((s.put K.ledgerNeedDirection 0).put K.ledgerNeedSlice 0).modRack (fun x => { x with needAt := none })) := ⟨_, rfl⟩

@[simp] theorem State.get_modRack (f : RackState → RackState) (k : Nat) : (s.modRack f).get k = s.get k := rfl

theorem State.get_needTold {k : Nat} (h : noting k = false) : s.needTold.get k = s.get k := State.get_raise _ _ (s.modRack _) _ h

theorem State.get_needShown_direction : s.needShown.get K.ledgerNeedDirection = if s.needUp then 1 else 2 := by
  have hdirected : ∀ v, (s.needDirected.put K.ledgerNeedSlice v).get K.ledgerNeedDirection = if s.needUp then 1 else 2 :=
    fun v => (State.get_put_other _ _ _ _ (by decide)).trans (State.get_put_same _ _ _)
  unfold State.needShown
  split
  · exact hdirected _
  · exact hdirected _

theorem State.get_needShown_slice {s : State} (h : 0 < s.needHeadroom) : s.needShown.get K.ledgerNeedSlice = s.needSlice := by
  rw [State.needShown, if_pos h, State.get_put_same]

end

theorem ledgerProjection_does (s : State) : Does .ledgerProjection s (fun t =>
    (s.ledgerNeeds = true → t.getN K.ledgerNeedDirection = (if s.needUp then 1 else 2) ∧
      (0 < s.needHeadroom → t.get K.ledgerNeedSlice = s.needSlice)) ∧
    (¬ s.ledgerNeeds = true → t.get K.ledgerNeedDirection = 0 ∧ t.get K.ledgerNeedSlice = 0)) := by
  obtain ⟨due, hexec⟩ := execLedgerProjection_eq s
  by_cases h : s.ledgerNeeds = true
  · have htold : ∀ k, noting k = false → (s.needShown.when due State.needTold).get k = s.needShown.get k :=
      fun k hk => State.when_same (State.get · k) _ _ (State.get_needTold _ hk)
    refine .of_next (hexec.trans (if_pos h)) ⟨fun _ => ⟨State.getN_of_get ?_, fun hroom => ?_⟩, fun hno => absurd h hno⟩
    · rw [htold _ (by decide), State.get_needShown_direction]
      split <;> rfl
    · rw [htold _ (by decide), State.get_needShown_slice hroom]
  · refine .of_next (hexec.trans (if_neg h)) ⟨fun hyes => absurd hyes h, fun _ => ?_⟩
    rw [State.get_modRack, State.get_modRack, State.get_put_same, State.get_put_other _ _ _ _ (by decide), State.get_put_same]
    exact ⟨rfl, rfl⟩

/-! ### RACK_CAP_WRITE (R128, R204) -/

section
variable {s : State} {w : HostWrite}

theorem State.capAt_outbox (watts stamp : Nat) (clove : Bool) (s : State) : (s.capAt watts stamp clove).outbox = s.outbox :=
  State.when_same State.outbox _ _ rfl

/-- A host's cap is in force unless one of a later stamp is, or a clove's of the same stamp (R128). -/
theorem State.capAt_host (watts stamp : Nat) (s : State) : s.capAt watts stamp false =
    if s.rack.capStamp < stamp ∨ (s.rack.capStamp = stamp ∧ s.rack.capClove = false) then
      (s.modRack (fun r => { r with capStamp := stamp, capClove := false })).setRackCap watts
    else s := by
  unfold State.capAt State.when
  simp

theorem rackCapWrite_does (h : s.takes K.rackRackCap w) : Does (.rackCapWrite w) s (fun t => saidOk s t ∧
    if s.rack.capStamp < s.ft ∨ (s.rack.capStamp = s.ft ∧ s.rack.capClove = false) then
      t.get K.rackRackCapInForce = w.num ∧ t.get K.rackRackCap = w.num
    else t.get K.rackRackCapInForce = s.get K.rackRackCapInForce ∧ t.get K.rackRackCap = s.get K.rackRackCap) := by
  have hnum : (writtenValue K.rackRackCap w.bytes).toNat = w.num :=
    congrArg Int.toNat (writtenValue_unsigned w.bytes (k := K.rackRackCap) (by decide))
  refine .of_next (congrArg Host.Outcome.next (State.hostWrite_ok h (t := s.capAt w.num s.ft false) (by rw [hnum]))) ⟨?_, ?_⟩
  · rw [saidOk, State.send_outbox, State.capAt_outbox]
  · rw [State.get_send, State.get_send, State.capAt_host]
    split
    · exact ⟨State.get_put_same _ _ _, (State.get_put_other _ _ _ _ (by decide)).trans (State.get_put_same _ _ _)⟩
    · exact ⟨rfl, rfl⟩

end

/-- Settles O35: each clause is the lemma on its command above; the quantities of R335 are those it names. -/
theorem groupsLedgerAndRackCapAct : Obligations.GroupsLedgerAndRackCapAct := by
  unfold Obligations.GroupsLedgerAndRackCapAct
  intro s g w x
  refine ⟨groupCapRefresh_does, groupRelease_does, groupCapLapse_does s g, ?_, rackCapWrite_does⟩
  intro d r soc head hd
  have hup : s.needUp = decide (0 < d) := rfl
  have hramp : (s.needRamp : Int) = r := by
    unfold State.needRamp
    simp only [r, hup, decide_eq_true_eq, apply_ite s.getN]
  have hroom : s.needHeadroom = hd := by
    unfold State.needHeadroom
    simp only [hd, head, soc, hup, decide_eq_true_eq]
  have hneeds : s.ledgerNeeds = true ↔ d ≠ 0 ∧ 2 * r * hd < d * d := by
    rw [← hramp, ← hroom, State.ledgerNeeds, Bool.and_eq_true, decide_eq_true_eq, decide_eq_true_eq]
    rfl
  have hslice : s.needSlice = max (min (rheDiv (d * d) (2 * hd).toNat - r) (2 ^ 32 - 1)) 0 := by
    rw [← hramp, ← hroom]
    rfl
  rw [← hneeds, ← hslice, ← hroom]
  simpa only [hup, decide_eq_true_eq] using ledgerProjection_does s

end Sys2Proof.Machine
end

section
/-! Loans and step marks (R233, R333, R334): what the ledger shows, what LEDGER_LEND, LEDGER_RETURN and LOAN_EXPIRY do to the
loans, and what STEP_MARK_EXPIRY does to the marks. -/

namespace Sys2Proof.Machine

/-! ### The ledger (R333) -/

/-- The ledger shows how many loans it holds. -/
theorem State.ledgerShow_loans (s : State) : s.ledgerShow.getN K.ledgerLoans = s.rack.loans.length :=
  State.getN_put_natCast _ _ _

theorem State.ledgerShow_shelfId (s : State) : s.ledgerShow.shelfId = s.shelfId := by
  refine congrArg (fun v : Int => v.toNat / 2) ?_
  unfold State.ledgerShow
  simp (disch := decide) only [State.get_put_other]

/-- The loans at an FT whose return lies ahead of it. -/
def loansAhead (ft : Nat) (l : List Loan) : List Loan := l.filter (fun x => decide (ft < x.ret))

theorem State.expireLoansAt_loans (ft : Nat) (s : State) : (s.expireLoansAt ft).rack.loans = loansAhead ft s.rack.loans := rfl

theorem State.expireLoansAt_shelfId (ft : Nat) (s : State) : (s.expireLoansAt ft).shelfId = s.shelfId :=
  State.ledgerShow_shelfId _

/-! ### Lending (R334) -/

/-- The loan that a LEDGER_LEND books on a shelf. -/
def Clove.loan (c : Clove) (own : Nat) : Loan where
  peer := if decide (c.shelf = own) then c.destShelf else c.shelf
  lent := decide (c.shelf = own)
  up := !c.argA.getLsbD 31
  slice := c.argA.toNat % 2 ^ 31
  start := c.fireFt.toNat
  ret := c.argB.toNat
  seq := c.seq.toNat

/-- A lend for which the ledger has room is booked and shown. -/
theorem State.fireLend_books {c : Clove} {s : State} (h : (loansAhead c.fireFt.toNat s.rack.loans).length < 64) :
    (s.fireLend c).rack.loans = loansAhead c.fireFt.toNat s.rack.loans ++ [c.loan s.shelfId] ∧
      (s.fireLend c).getN K.ledgerLoans = (loansAhead c.fireFt.toNat s.rack.loans).length + 1 := by
  unfold State.fireLend
  dsimp only
  rw [if_neg (by rw [State.expireLoansAt_loans]; omega), State.expireLoansAt_shelfId]
  refine State.when_preserves (P := fun t : State => t.rack.loans = _ ∧ t.getN K.ledgerLoans = _) _ ⟨rfl, ?_⟩ fun hshown => ?_
  · exact (State.ledgerShow_loans _).trans List.length_append
  · rw [State.raise_rack, State.getN_congr (State.get_raise _ _ _ K.ledgerLoans (by decide))]
    exact hshown

/-! ### Returning (R334) -/

/-- What a removal takes, if anything, meets its test: a loan that does not is left. -/
theorem mem_removeLoan {p : Loan → Bool} {l : List Loan} {x : Loan} (hx : x ∈ l) (hp : p x = false) : x ∈ removeLoan p l := by
  induction l with
  | nil => exact hx
  | cons y l ih =>
    rw [removeLoan]
    split
    · next hy => exact (List.mem_cons.1 hx).resolve_left fun e => Bool.noConfusion (hp.symm.trans (e ▸ hy))
    · exact List.mem_cons.2 ((List.mem_cons.1 hx).imp_right ih)

/-- A removal whose test a loan meets takes one loan. -/
theorem removeLoan_length {p : Loan → Bool} {l : List Loan} {x : Loan} (hx : x ∈ l) (hp : p x = true) :
    (removeLoan p l).length + 1 = l.length := by
  induction l with
  | nil => exact absurd hx List.not_mem_nil
  | cons y l ih =>
    rw [removeLoan]
    split
    · rfl
    · next hy =>
      rw [List.length_cons, List.length_cons, ih ((List.mem_cons.1 hx).resolve_left fun e => hy (e ▸ hp))]

/-- The loans that a LEDGER_RETURN may end on a shelf: those of the shelf pair with its direction and slice. -/
def Clove.returns (c : Clove) (own : Nat) (x : Loan) : Bool :=
  decide (x.up = !c.argA.getLsbD 31) && decide (x.slice = c.argA.toNat % 2 ^ 31) &&
    (if decide (c.shelf = own) then !x.lent && (decide (x.peer = c.destShelf) || decide (c.destShelf = 0xFFFF))
     else x.lent && (decide (x.peer = c.shelf) || decide (x.peer = 0xFFFF)))

theorem Clove.returns_iff (c : Clove) (own : Nat) (x : Loan) : c.returns own x = true ↔
    x.up = (!c.argA.getLsbD 31) ∧ x.slice = c.argA.toNat % 2 ^ 31 ∧
      if c.shelf = own then x.lent = false ∧ (x.peer = c.destShelf ∨ c.destShelf = 0xFFFF)
      else x.lent = true ∧ (x.peer = c.shelf ∨ x.peer = 0xFFFF) := by
  unfold Clove.returns
  by_cases hown : c.shelf = own <;> simp [hown, and_assoc]

/-- Two loans that the same LEDGER_RETURN may end agree in kind, slice and direction. -/
theorem Clove.returns_agree {c : Clove} {own : Nat} {x y : Loan} (hx : c.returns own x = true) (hy : c.returns own y = true) :
    x.lent = y.lent ∧ x.slice = y.slice ∧ x.up = y.up := by
  obtain ⟨hxup, hxslice, hxpair⟩ := (c.returns_iff own x).1 hx
  obtain ⟨hyup, hyslice, hypair⟩ := (c.returns_iff own y).1 hy
  refine ⟨?_, hxslice.trans hyslice.symm, hxup.trans hyup.symm⟩
  split at hxpair
  · next hown => rw [if_pos hown] at hypair; exact hxpair.1.trans hypair.1.symm
  · next hown => rw [if_neg hown] at hypair; exact hxpair.1.trans hypair.1.symm

theorem State.fireReturn_loans (c : Clove) (s : State) :
    (s.fireReturn c).rack.loans = removeLoan (c.returns s.shelfId) (loansAhead c.fireFt.toNat s.rack.loans) := by
  rw [← State.expireLoansAt_shelfId c.fireFt.toNat s]
  rfl

theorem State.fireReturn_shown (c : Clove) (s : State) :
    (s.fireReturn c).getN K.ledgerLoans = (s.fireReturn c).rack.loans.length := State.ledgerShow_loans _

/-! ### The commands -/

theorem State.cloveAct_ledgerLend {c : Clove} {s : State} (h : c.action.toNat = 5) : s.cloveAct c = s.fireLend c := by
  simp only [State.cloveAct, h]

theorem State.cloveAct_ledgerReturn {c : Clove} {s : State} (h : c.action.toNat = 6) : s.cloveAct c = s.fireReturn c := by
  simp only [State.cloveAct, h]

theorem AtItsTurn.shelfId {u p : State} (h : AtItsTurn u p) : p.shelfId = u.shelfId :=
  congrArg (fun v : Int => v.toNat / 2) (h.get K.nodeNodeId (by decide) (by decide))

/-- A direction bit that is clear stands for an up slice. -/
theorem up_iff {b x : Bool} : (b = true ↔ x = false) ↔ b = !x := by
  cases b <;> cases x <;> decide

section
variable {s : State} {r : CloveRef} {c : Clove}

theorem ledgerLend_does (h : s.fires r 5 c) (hroom : (loansAhead c.fireFt.toNat (s.turnOf r).rack.loans).length < 64) :
    Does (.ledgerLend r) s (fun t => gone r t ∧ ∃ l : Loan,
      t.rack.loans = loansAhead c.fireFt.toNat (s.turnOf r).rack.loans ++ [l] ∧ l.slice = c.argA.toNat % 2 ^ 31 ∧
      (l.up = true ↔ c.argA.getLsbD 31 = false) ∧ l.start = c.fireFt.toNat ∧ l.ret = c.argB.toNat ∧
      (l.lent = true ↔ c.shelf = (s.turnOf r).shelfId) ∧
      t.getN K.ledgerLoans = (loansAhead c.fireFt.toNat (s.turnOf r).rack.loans).length + 1) := by
  refine .of_fires h rfl fun hturn => ?_
  rw [← hturn.rack] at hroom
  rw [State.cloveAct_ledgerLend (State.fires_code h), ← hturn.rack, ← hturn.shelfId]
  obtain ⟨hbooked, hshown⟩ := State.fireLend_books hroom
  exact ⟨_, hbooked, rfl, up_iff.2 rfl, rfl, rfl, decide_eq_true_iff, hshown⟩

theorem ledgerReturn_does {l : Loan} (hl : l ∈ loansAhead c.fireFt.toNat (s.turnOf r).rack.loans) (h : s.fires r 6 c)
    (hmatch : c.returns (s.turnOf r).shelfId l = true) :
    Does (.ledgerReturn r) s (fun t => gone r t ∧
      t.rack.loans.length + 1 = (loansAhead c.fireFt.toNat (s.turnOf r).rack.loans).length ∧
      (∀ x ∈ loansAhead c.fireFt.toNat (s.turnOf r).rack.loans,
        x.lent ≠ l.lent ∨ x.slice ≠ l.slice ∨ x.up ≠ l.up → x ∈ t.rack.loans) ∧
      t.getN K.ledgerLoans = t.rack.loans.length) := by
  refine .of_fires h rfl fun hturn => ?_
  rw [State.cloveAct_ledgerReturn (State.fires_code h), State.fireReturn_shown, State.fireReturn_loans, hturn.rack, hturn.shelfId]
  refine ⟨removeLoan_length hl hmatch, fun x hx hother => mem_removeLoan hx (Bool.eq_false_iff.2 fun hp => ?_), rfl⟩
  obtain ⟨hlent, hslice, hup⟩ := Clove.returns_agree hp hmatch
  tauto

end

theorem loanExpiry_does (s : State) : Does .loanExpiry s (fun t => (∀ l, l ∈ t.rack.loans ↔ l ∈ s.rack.loans ∧ s.ft < l.ret) ∧
    t.getN K.ledgerLoans = t.rack.loans.length) := by
  refine .of_next rfl ⟨fun l => ?_, State.ledgerShow_loans _⟩
  show l ∈ loansAhead s.ft s.rack.loans ↔ _
  rw [loansAhead, List.mem_filter, decide_eq_true_eq]

theorem stepMarkExpiry_does (s : State) : Does .stepMarkExpiry s (fun t =>
    (∀ m, m ∈ t.saf.marks ↔ m ∈ s.saf.marks ∧ s.ft < m.fire + m.duration * 1000) ∧
    t.getN K.safStepMarks = t.saf.marks.length) := by
  refine .of_next rfl ⟨fun m => ?_, State.getN_put_natCast _ _ _⟩
  show m ∈ s.saf.marks.filter (fun m => decide (s.ft < m.fire + m.duration * us)) ↔ _
  rw [List.mem_filter, decide_eq_true_eq]

/-- Settles O27: each clause is the lemma on its command above; the loan of LEDGER_RETURN's clause is one that its clove may
end. -/
theorem loansAndMarksComeAndGo : Obligations.LoansAndMarksComeAndGo := by
  intro s r c
  refine ⟨ledgerLend_does, fun l hl h hpair hup hslice => ledgerReturn_does hl h ?_, loanExpiry_does s, stepMarkExpiry_does s⟩
  refine (c.returns_iff _ l).2 ⟨up_iff.1 hup, hslice, ?_⟩
  split at hpair
  · next hown => rw [if_pos hown]; exact hpair.imp_right .inl
  · next hown => rw [if_neg hown]; exact hpair.imp_right .inl

end Sys2Proof.Machine
end

section
/-! What the memories of the Saffron tiles read after a write (R213, R254): words of a tile, elements of a stage's output. -/

namespace Sys2Proof.Machine

/-! ### Words of a tile -/

section
variable (m : SafMem) (tile region : Nat)

/-- A byte outside the bytes of a word written reads as before. -/
theorem SafMem.byte_putWord_other {tile' region' offset' : Nat} (n offset v : Nat)
    (h : sramKey tile' region' offset' < sramKey tile region offset ∨ sramKey tile region offset + n ≤ sramKey tile' region' offset') :
    (m.putWord tile region offset n v).byte tile' region' offset' = m.byte tile' region' offset' := by
  induction n generalizing m offset v with
  | zero => rfl
  | succ n ih =>
    unfold sramKey at h ih
    rw [SafMem.putWord, ih _ _ _ (by omega), SafMem.byte_putByte_other _ _ _ _ _ _ _ _ (by unfold sramKey; omega)]

/-- A word that shares no byte with the one written reads as before. -/
theorem SafMem.word_putWord_other {tile' region' : Nat} (n offset v k offset' : Nat)
    (h : sramKey tile' region' offset' + k ≤ sramKey tile region offset ∨
      sramKey tile region offset + n ≤ sramKey tile' region' offset') :
    (m.putWord tile region offset n v).word tile' region' offset' k = m.word tile' region' offset' k := by
  induction k generalizing offset' with
  | zero => rfl
  | succ k ih =>
    unfold sramKey at h ih
    rw [SafMem.word, SafMem.word, ih _ (by omega), SafMem.byte_putWord_other _ _ _ _ _ _ (by unfold sramKey; omega)]

/-- A word written reads back, modulo its width. -/
theorem SafMem.word_putWord (n offset v : Nat) : (m.putWord tile region offset n v).word tile region offset n = v % 256 ^ n := by
  induction n generalizing m offset v with
  | zero => simp [SafMem.word, Nat.mod_one]
  | succ n ih =>
    rw [SafMem.putWord, SafMem.word, ih, SafMem.byte_putWord_other _ _ _ _ _ _ (by unfold sramKey; omega), SafMem.byte_putByte,
      Nat.pow_succ', Nat.mod_mul]

end

/-- A Q15 value survives its 16 bits. -/
theorem toSigned_toUnsigned_q15 {v : Int} (hlow : -32768 ≤ v) (hhigh : v ≤ 32767) : toSigned 16 (toUnsigned 16 v % 256 ^ 2) = v := by
  unfold toSigned toUnsigned
  norm_num
  omega

theorem limit15_range (x : Int) : -32768 ≤ limit15 x ∧ limit15 x ≤ 32767 := by
  unfold limit15
  omega

/-! ### Elements of a stage's output (Table 9-7) -/

/-- An element of an output outside tile scratch, after another or the same element is written. -/
theorem outEl_writeEl {env : StageEnv} {r : BitVec 32} (hlow : 2 ≤ refSpace r) (hhigh : refSpace r ≤ 5) (hscratch : refSpace r ≠ 3)
    (m : SafMem) (tile l tile' l' e e' : Nat) (v : Int) :
    outEl env (writeEl env r tile e l v m) r tile' e' l' = if e' = e then v else outEl env m r tile' e' l' := by
  have hspace : refSpace r = 2 ∨ refSpace r = 4 ∨ refSpace r = 5 := by omega
  by_cases he : e' = e
  · subst he
    rw [if_pos rfl]
    rcases hspace with h | h | h <;> simp only [outEl, writeEl, h, Sparse.get_put_same]
  · rw [if_neg he]
    rcases hspace with h | h | h <;> simp only [outEl, writeEl, h]
    all_goals exact Sparse.get_put_other _ _ _ _ _ (by omega)

/-- A stage's output can be written, and lies within the scratch of a tile where it stands there. -/
structure SafStage.Writes (st : SafStage) : Prop where
  low : 2 ≤ refSpace st.out
  high : refSpace st.out ≤ 5
  tiles : 0 < st.count
  fits : refOffset st.out + st.per st.d1 ≤ 786432

theorem SafStage.per_pos {st : SafStage} {n e : Nat} (hcount : 0 < st.count) (he : e < n) : 0 < st.per n :=
  Nat.div_pos (by omega) hcount

/-- An element of a stage's output, where the stage writes it. -/
def outputAt (env : StageEnv) (st : SafStage) (m : SafMem) (e : Nat) : Int :=
  outEl env m st.out (st.tileOf st.d1 e) e (st.localOf st.d1 e)

theorem StageEnv.param_lt (env : StageEnv) : env.param < 8 := by
  unfold StageEnv.param
  split <;> decide

/-- Two elements of a vector in tile scratch share no byte. -/
theorem scratch_disjoint {env : StageEnv} {st : SafStage} (h : st.Writes) {e e' : Nat} (he : e < st.d1) (hne : e' ≠ e) :
    sramKey (st.tileOf st.d1 e') env.param (2 * (refOffset st.out + st.localOf st.d1 e')) + 2 ≤
        sramKey (st.tileOf st.d1 e) env.param (2 * (refOffset st.out + st.localOf st.d1 e)) ∨
      sramKey (st.tileOf st.d1 e) env.param (2 * (refOffset st.out + st.localOf st.d1 e)) + 2 ≤
        sramKey (st.tileOf st.d1 e') env.param (2 * (refOffset st.out + st.localOf st.d1 e')) := by
  have hper := SafStage.per_pos h.tiles he
  have hplace : st.per st.d1 * (e / st.per st.d1) + e % st.per st.d1 = e := Nat.div_add_mod _ _
  have hplace' : st.per st.d1 * (e' / st.per st.d1) + e' % st.per st.d1 = e' := Nat.div_add_mod _ _
  have hlocal := Nat.mod_lt e hper
  have hlocal' := Nat.mod_lt e' hper
  have hparam := env.param_lt
  have hfits := h.fits
  unfold sramKey SafStage.tileOf SafStage.localOf
  by_cases htile : e' / st.per st.d1 = e / st.per st.d1
  · rw [htile] at hplace' ⊢
    omega
  · omega

/-- An element of a stage's output after one is written: the Q15 value written, or the element as it was. -/
theorem outputAt_writeEl {env : StageEnv} {st : SafStage} (h : st.Writes) {e : Nat} (he : e < st.d1) (m : SafMem) (x : Int) (e' : Nat) :
    outputAt env st (writeEl env st.out (st.tileOf st.d1 e) e (st.localOf st.d1 e) (limit15 x) m) e' =
      if e' = e then limit15 x else outputAt env st m e' := by
  by_cases hscratch : refSpace st.out = 3
  · simp only [outputAt, outEl, writeEl, hscratch, SafMem.putQ15, SafMem.q15]
    by_cases hsame : e' = e
    · subst hsame
      rw [if_pos rfl, SafMem.word_putWord, toSigned_toUnsigned_q15 (limit15_range x).1 (limit15_range x).2]
    · rw [if_neg hsame, SafMem.word_putWord_other _ _ _ _ _ _ _ _ (scratch_disjoint h he hsame)]
  · exact outEl_writeEl h.low h.high hscratch m _ _ _ _ e e' _

theorem outputAt_store {env : StageEnv} {st : SafStage} (h : st.Writes) {e : Nat} (he : e < st.d1) (o : StageOut) (x : Int) (b : Bool)
    (e' : Nat) : outputAt env st (o.store env st.out (st.tileOf st.d1 e) e (st.localOf st.d1 e) (limit15 x, b)).mem e' =
      if e' = e then limit15 x else outputAt env st o.mem e' := by
  rw [StageOut.store, StageOut.sat_mem]
  exact outputAt_writeEl h he o.mem x e'

/-- The row accumulators are no part of any output. -/
theorem outputAt_accum (env : StageEnv) (st : SafStage) (tile l : Nat) (a : Int × Nat) (o : StageOut) (e : Nat) :
    outputAt env st (o.accum tile l a).mem e = outputAt env st o.mem e := by
  rw [StageOut.accum, StageOut.sat_mem]
  rfl

/-- A loop over the elements of a vector, each round of which writes its own element, leaves each as its round writes it. -/
theorem foldl_range_writes {α β : Type} {n : Nat} {f : α → Nat → α} {read : α → Nat → β} {y : Nat → β}
    (h : ∀ e < n, ∀ a e', read (f a e) e' = if e' = e then y e else read a e') (a : α) :
    ∀ e < n, read ((List.range n).foldl f a) e = y e := by
  induction n with
  | zero => exact fun e he => absurd he (Nat.not_lt_zero e)
  | succ n ih =>
    intro e he
    rw [List.range_succ, List.foldl_concat, h n (Nat.lt_succ_self n)]
    split
    · next hlast => rw [hlast]
    · next hlast => exact ih (fun k hk => h k (Nat.lt_succ_of_lt hk)) e (by omega)

end Sys2Proof.Machine
end

section
/-! Saturations are counted (R219) in objects of their own, and one in each second is recorded: what that leaves alone. -/

namespace Sys2Proof.Machine

/-- Is an object a count of saturations, or one that raising a cause writes? -/
def satCounted (k : Nat) : Bool :=
  noting k || decide (k = K.safGathererSaturations) || allTiles.any (fun t : Fin 64 =>
    decide (k = K.tileAccumulatorSaturations t) || decide (k = K.tileStoreSaturations t) || decide (k = K.tileScanSaturations t))

/-- The module, its time, and the engine but for the second whose first saturation was recorded, are as they were, and so is
every object that counts no saturation. -/
structure SatKept (s t : State) : Prop where
  md : t.md = s.md
  time : t.time = s.time
  saf : t.saf = { s.saf with satSaid := t.saf.satSaid }
  get : ∀ k, satCounted k = false → t.get k = s.get k

theorem SatKept.rfl {s : State} : SatKept s s := ⟨by rfl, by rfl, by rfl, fun _ _ => by rfl⟩

theorem SatKept.trans {s t u : State} (h : SatKept s t) (g : SatKept t u) : SatKept s u where
  md := g.md.trans h.md
  time := g.time.trans h.time
  saf := by rw [g.saf, h.saf]
  get k hk := (g.get k hk).trans (h.get k hk)

theorem SatKept.when {s t : State} {b : Bool} {f : State → State} (h : SatKept s t) (hf : SatKept t (f t)) : SatKept s (t.when b f) :=
  State.when_preserves b h fun h => h.trans hf

theorem SatKept.mem {s t : State} (h : SatKept s t) : t.saf.mem = s.saf.mem := by rw [h.saf]

theorem satCounted_false {k : Nat} (h : satCounted k = false) : noting k = false ∧ k ≠ K.safGathererSaturations ∧
    ∀ t : Fin 64, k ≠ K.tileAccumulatorSaturations t ∧ k ≠ K.tileStoreSaturations t ∧ k ≠ K.tileScanSaturations t := by
  simp only [satCounted, Bool.or_eq_false_iff, decide_eq_false_iff_not, List.any_eq_false, Bool.or_eq_true, decide_eq_true_eq,
    not_or] at h
  obtain ⟨⟨hnoting, hgather⟩, htiles⟩ := h
  exact ⟨hnoting, hgather, fun t => ⟨(htiles t (List.mem_finRange t)).1.1, (htiles t (List.mem_finRange t)).1.2,
    (htiles t (List.mem_finRange t)).2⟩⟩

/-- A count of saturations. -/
theorem State.countBy_satKept {k : Nat} (n : Nat) (h : satCounted k = true) (s : State) : SatKept s (s.countBy 32 k n) where
  md := State.countBy_md _ _ _ _
  time := State.countBy_time _ _ _ _
  saf := by rw [State.countBy_saf]
  get j hj := State.get_countBy_other _ _ _ _ _ fun e => by rw [e, h] at hj; exact Bool.noConfusion hj

theorem State.noteSaturation_satKept (s : State) : SatKept s s.noteSaturation := by
  unfold State.noteSaturation
  dsimp only
  split
  · exact .rfl
  · exact ⟨State.raise0_md _ _, State.raise0_time _ _, by rw [State.raise0_saf]; rfl,
      fun k hk => State.get_raise0 _ _ _ (satCounted_false hk).1⟩

theorem satCounted_accumulator (t : Fin 64) : satCounted (K.tileAccumulatorSaturations t) = true := by
  simpa [satCounted] using .inr ⟨t, List.mem_finRange t, .inl (.inl rfl)⟩
theorem satCounted_store (t : Fin 64) : satCounted (K.tileStoreSaturations t) = true := by
  simpa [satCounted] using .inr ⟨t, List.mem_finRange t, .inl (.inr rfl)⟩
theorem satCounted_scan (t : Fin 64) : satCounted (K.tileScanSaturations t) = true := by
  simpa [satCounted] using .inr ⟨t, List.mem_finRange t, .inr rfl⟩

theorem State.countSats_satKept (l : List (Nat × SatKind × Nat)) (s : State) : SatKept s (s.countSats l) := by
  unfold State.countSats
  refine .when (State.each_preserves (P := SatKept s) _ .rfl fun e t h => h.trans ?_) (State.noteSaturation_satKept _)
  obtain ⟨tile, kind, n⟩ := e
  cases t.physical tile with
  | none => exact .rfl
  | some p =>
    cases kind with
    | acc => exact State.countBy_satKept _ (satCounted_accumulator p) t
    | store => exact State.countBy_satKept _ (satCounted_store p) t
    | scan => exact State.countBy_satKept _ (satCounted_scan p) t

/-- Gathering a vector counts what saturated and changes nothing else (R231). -/
theorem State.gather_satKept (i : SafImage) (s : State) : SatKept s (s.gather i).2 := by
  unfold State.gather State.when
  dsimp only
  split
  · exact (State.countBy_satKept _ (by decide) s).trans (State.noteSaturation_satKept _)
  · exact .rfl

end Sys2Proof.Machine
end

section
/-! The operators of Table 8-6 as stages of a tier in force (R216 to R220): what each leaves in its output. -/

namespace Sys2Proof.Machine

/-! ### A stage runs -/

/-- A stage that may run leaves the memories that its operator computes. -/
theorem State.runOperator_mem {s : State} {fast : Bool} {n op : Nat} {i : SafImage} {st : SafStage} (h : s.stageIs fast n op i st) :
    (s.runOperator op fast n).saf.mem = (runStage (s.tierEnv fast i) st i.stages[n + 1]? s.saf.mem).mem := by
  obtain ⟨himg, hstage, hop, hruns⟩ := h
  unfold State.runOperator
  rw [himg]
  dsimp only
  rw [hstage]
  dsimp only
  rw [if_pos ⟨hop, hruns⟩, (State.countSats_satKept _ _).mem]
  rfl

/-- A command that runs a stage leaves what its operator leaves of the memories. -/
theorem Does.of_stage {c : Instr} {s : State} {fast : Bool} {n op : Nat} {i : SafImage} {st : SafStage} {P : State → Prop}
    (h : s.stageIs fast n op i st) (hexec : exec c s = .next (s.runOperator op fast n))
    (hP : ∀ t : State, t.saf.mem = (runStage (s.tierEnv fast i) st i.stages[n + 1]? s.saf.mem).mem → P t) : Does c s P :=
  .of_next hexec (hP _ (State.runOperator_mem h))

theorem State.stageIs_op {s : State} {fast : Bool} {n op : Nat} {i : SafImage} {st : SafStage} (h : s.stageIs fast n op i st) :
    st.op = op := by
  obtain ⟨-, -, hop, -⟩ := h
  exact hop

/-- A stage gives a vector where each element of its output is the one of the vector. -/
theorem stageGives_of_outputAt {env : StageEnv} {st : SafStage} {t : State} {m : SafMem} {y : Nat → Int} (hmem : t.saf.mem = m)
    (h : st.Writes → ∀ e < st.d1, outputAt env st m e = y e) : stageGives env st t y := by
  intro hlow hhigh htiles hfits
  rw [hmem]
  exact h ⟨hlow, hhigh, htiles, hfits⟩

/-! ### What each operator leaves in its output -/

section
variable {env : StageEnv} {st : SafStage} (h : st.Writes) (m : SafMem)
include h

theorem outputAt_opMap (f : Int → Int → Int) : ∀ e < st.d1, outputAt env st (opMap env st f m).mem e =
    limit15 (f (readEl env m st.inA (st.tileOf st.d1 e) e (st.localOf st.d1 e))
      (readEl env m st.inB (st.tileOf st.d1 e) e (st.localOf st.d1 e))) := by
  unfold opMap
  dsimp only
  refine foldl_range_writes (read := fun o : StageOut => outputAt env st o.mem) (fun k hk o j => ?_) _
  exact outputAt_store h hk o _ _ j

theorem outputAt_opMv : ∀ e < st.d1, outputAt env st (opMv env st m).mem e =
    limit15 (shiftRhe (mvRow env (deliverStream env st m) st e).1 (st.sh - 16)) := by
  unfold opMv
  dsimp only
  refine foldl_range_writes (read := fun o : StageOut => outputAt env st o.mem) (fun k hk o j => ?_) _
  exact (outputAt_store h hk _ _ _ j).trans (by rw [outputAt_accum])

theorem outputAt_opRmsn {x : Nat → Int} (hx : ∀ k, readEl env m st.inA (st.tileOf st.d1 k) k (st.localOf st.d1 k) = x k) :
    ∀ e < st.d1, outputAt env st (opRmsn env st m).mem e =
      limit15 (rheDiv (x e * m.q15 (st.tileOf st.d1 e) env.param (st.off1 + 2 * st.localOf st.d1 e) *
        Config.saffronTable 0 (rheDiv ((List.range st.d1).map (fun k => x k * x k * 2)).sum st.d1 +
          m.q31 (st.tileOf st.d1 e) env.param (st.off1 + 2 * st.per st.d1))) 1073741824) := by
  have hsquares : (((List.range st.d1).map x).map (fun v => mulQ15 v v)).sum = ((List.range st.d1).map (fun k => x k * x k * 2)).sum := by
    rw [List.map_map]
    rfl
  have helement : ∀ k < st.d1, ((List.range st.d1).map (fun e => x e)).getD k 0 = x k := fun k hk => by
    rw [List.getD_eq_getElem?_getD, List.getElem?_map, List.getElem?_range hk]
    rfl
  unfold opRmsn
  simp only [hx, hsquares]
  refine foldl_range_writes (read := fun o : StageOut => outputAt env st o.mem) (fun k hk o j => ?_) _
  rw [helement k hk]
  exact outputAt_store h hk o _ _ j

/-- EXCH outside tile scratch writes its source once, from the first tile of the stage. -/
theorem outputAt_opExch (next : Option SafStage) (hout : refSpace st.out ≠ 3) : ∀ e < st.d1,
    outputAt env st (opExch env st next m).mem e = readEl env m st.inA (st.tileOf st.d1 e) e (st.localOf st.d1 e) := by
  unfold opExch
  dsimp only
  rw [if_neg hout]
  refine foldl_range_writes (read := outputAt env st) (fun k _ m' j => ?_) _
  exact outEl_writeEl h.low h.high hout m' _ _ _ _ k j _

end

/-! ### The commands -/

section
variable {s : State} {fast : Bool} {n : Nat} {i : SafImage} {st : SafStage}

theorem mv_does (h : s.stageIs fast n 1 i st) : Does (.mv fast n) s (fun t => stageGives (s.tierEnv fast i) st t (fun e =>
    limit15 (shiftRhe (mvRow (s.tierEnv fast i) (deliverStream (s.tierEnv fast i) st s.saf.mem) st e).1 (st.sh - 16)))) := by
  refine .of_stage h rfl fun t ht => stageGives_of_outputAt ht fun hw e he => ?_
  simp only [runStage, State.stageIs_op h]
  exact outputAt_opMv hw _ e he

theorem convStage_does (h : s.stageIs fast n 2 i st) :
    Does (.convStage fast n) s (fun t => t.saf.mem = (opConv (s.tierEnv fast i) st s.saf.mem).mem) :=
  .of_stage h rfl fun t ht => by simpa only [runStage, State.stageIs_op h] using ht

theorem scan_does (h : s.stageIs fast n 3 i st) :
    Does (.scan fast n) s (fun t => t.saf.mem = (opScan (s.tierEnv fast i) st s.saf.mem).mem) :=
  .of_stage h rfl fun t ht => by simpa only [runStage, State.stageIs_op h] using ht

theorem gate_does (h : s.stageIs fast n 4 i st) : Does (.gate fast n) s (fun t => stageGives (s.tierEnv fast i) st t (fun e =>
    limit15 (rheDiv (stageIn (s.tierEnv fast i) st s st.inA e *
      (if st.flags.getLsbD 3 then tableAt ((s.tierEnv fast i).tableOf st) (stageIn (s.tierEnv fast i) st s st.inB e)
       else stageIn (s.tierEnv fast i) st s st.inB e)) 32768))) := by
  refine .of_stage h rfl fun t ht => stageGives_of_outputAt ht fun hw e he => ?_
  simp only [runStage, State.stageIs_op h]
  exact outputAt_opMap hw _ _ e he

theorem ew_does (h : s.stageIs fast n 5 i st) : Does (.ew fast n) s (fun t => stageGives (s.tierEnv fast i) st t (fun e =>
    limit15 (if st.flags.getLsbD 3 then tableAt ((s.tierEnv fast i).tableOf st) (stageIn (s.tierEnv fast i) st s st.inA e)
      else stageIn (s.tierEnv fast i) st s st.inA e + stageIn (s.tierEnv fast i) st s st.inB e))) := by
  refine .of_stage h rfl fun t ht => stageGives_of_outputAt ht fun hw e he => ?_
  simp only [runStage, State.stageIs_op h]
  exact outputAt_opMap hw _ _ e he

theorem rmsn_does (h : s.stageIs fast n 6 i st) : Does (.rmsn fast n) s (fun t => stageGives (s.tierEnv fast i) st t (fun e =>
    limit15 (rheDiv (stageIn (s.tierEnv fast i) st s st.inA e *
      s.saf.mem.q15 (st.tileOf st.d1 e) (s.tierEnv fast i).param (st.off1 + 2 * st.localOf st.d1 e) *
      Config.saffronTable 0 (rheDiv ((List.range st.d1).map (fun k =>
        stageIn (s.tierEnv fast i) st s st.inA k * stageIn (s.tierEnv fast i) st s st.inA k * 2)).sum st.d1 +
          s.saf.mem.q31 (st.tileOf st.d1 e) (s.tierEnv fast i).param (st.off1 + 2 * st.per st.d1))) 1073741824))) := by
  refine .of_stage h rfl fun t ht => stageGives_of_outputAt ht fun hw e he => ?_
  simp only [runStage, State.stageIs_op h]
  exact outputAt_opRmsn hw _ (fun _ => rfl) e he

theorem attn_does (h : s.stageIs true n 7 i st) :
    Does (.attn n) s (fun t => t.saf.mem = (opAttn (s.tierEnv true i) st s.saf.mem).mem) :=
  .of_stage h rfl fun t ht => by simpa only [runStage, State.stageIs_op h] using ht

theorem exch_does (h : s.stageIs fast n 8 i st) (hout : refSpace st.out ≠ 3) : Does (.exch fast n) s (fun t =>
    stageGives (s.tierEnv fast i) st t (stageIn (s.tierEnv fast i) st s st.inA)) := by
  refine .of_stage h rfl fun t ht => stageGives_of_outputAt ht fun hw e he => ?_
  simp only [runStage, State.stageIs_op h]
  exact outputAt_opExch hw _ _ hout e he

end

/-- Settles O41: each clause is the lemma on its operator above. -/
theorem saffronOperatorsComputeTheirElements : Obligations.SaffronOperatorsComputeTheirElements := by
  intro s fast n i st
  exact ⟨mv_does, convStage_does, scan_does, gate_does, ew_does, rmsn_does, attn_does, exch_does⟩

end Sys2Proof.Machine
end

section
/-! The tiers of the Saffron engine in the state (R223 to R229, R247): what an image in force and a tier that may compute
depend on, and what the context's age leaves alone. -/

namespace Sys2Proof.Machine

/-! ### Images in force -/

/-- What the images in force and the tiers that may compute depend on is as it was. -/
structure TierKept (s t : State) : Prop where
  md : t.md = s.md
  time : t.time = s.time
  res : t.saf.res = s.saf.res
  fastWait : t.saf.fastWait = s.saf.fastWait
  slowWait : t.saf.slowWait = s.saf.slowWait
  state : ∀ r : Fin 6, t.get (K.resState r) = s.get (K.resState r)
  enable : t.get K.safEnable = s.get K.safEnable

theorem TierKept.trans {s t u : State} (h : TierKept s t) (g : TierKept t u) : TierKept s u where
  md := g.md.trans h.md
  time := g.time.trans h.time
  res := g.res.trans h.res
  fastWait := g.fastWait.trans h.fastWait
  slowWait := g.slowWait.trans h.slowWait
  state r := (g.state r).trans (h.state r)
  enable := g.enable.trans h.enable

theorem State.resInForce_congr {s t : State} (h : ∀ r : Fin 6, t.get (K.resState r) = s.get (K.resState r)) (fast : Bool) :
    t.resInForce fast = s.resInForce fast := by
  unfold State.resInForce State.getN
  simp only [h]

theorem State.resImg_congr {s t : State} (h : t.saf.res = s.saf.res) (r : Option (Fin 6)) : t.resImg r = s.resImg r := by
  unfold State.resImg
  rw [h]

theorem TierKept.slowImg {s t : State} (h : TierKept s t) : t.slowImg = s.slowImg := by
  unfold State.slowImg
  rw [State.resInForce_congr h.state, State.resImg_congr h.res]

theorem TierKept.safEnable {s t : State} (h : TierKept s t) : t.safEnable = s.safEnable := by
  unfold State.safEnable
  rw [h.md, State.getN_congr h.enable]

theorem TierKept.slowRuns {s t : State} (h : TierKept s t) : t.slowRuns = s.slowRuns := by
  unfold State.slowRuns
  rw [h.slowWait, h.safEnable, h.slowImg]

theorem resState_quiet (r : Fin 6) : satCounted (K.resState r) = false := by
  revert r
  decide

theorem SatKept.tierKept {s t : State} (h : SatKept s t) : TierKept s t where
  md := h.md
  time := h.time
  res := by rw [h.saf]
  fastWait := by rw [h.saf]
  slowWait := by rw [h.saf]
  state r := h.get _ (resState_quiet r)
  enable := h.get _ (by decide)

/-- A change of objects alone that a tier does not depend on. -/
theorem Noted.tierKept {s t : State} (h : Noted s t) (hstate : ∀ r : Fin 6, t.get (K.resState r) = s.get (K.resState r))
    (henable : t.get K.safEnable = s.get K.safEnable) : TierKept s t where
  md := h.md
  time := h.time
  res := by rw [h.saf]
  fastWait := by rw [h.saf]
  slowWait := by rw [h.saf]
  state := hstate
  enable := henable

theorem State.raise_tierKept (c : Nat) (a : Args) (s : State) : TierKept s (s.raise c a) :=
  (State.raise_noted c a s).tierKept (fun r => State.get_raise _ _ _ _ (satCounted_false (resState_quiet r)).1)
    (State.get_raise _ _ _ _ (by decide))

theorem State.countBy_tierKept {k : Nat} (b n : Nat) (hstate : ∀ r : Fin 6, K.resState r ≠ k) (henable : K.safEnable ≠ k)
    (s : State) : TierKept s (s.countBy b k n) :=
  (State.countBy_noted b k n s).tierKept (fun r => State.get_countBy_other _ _ _ _ _ (hstate r))
    (State.get_countBy_other _ _ _ _ _ henable)

theorem State.get_of_objs {s t : State} (h : t.objs = s.objs) (k : Nat) : t.get k = s.get k := congrArg (Sparse.get Dict.default · k) h

/-! ### The context's age (R227) -/

/-- The age as it is shown and whether it is beyond the stale limit. -/
def State.aged (n : Nat) (s : State) : State :=
  (s.put K.safContextAge (min n 65535 : Nat)).modSaf (fun x => { x with
    staleSaid := decide ((s.put K.safContextAge (min n 65535 : Nat)).getN K.safStaleLimit < n) })

theorem State.setAge_eq (n : Nat) (s : State) :
    ∃ b, s.setAge n = (s.aged n).when b (State.raise0 Cause.saffronContextStale) := ⟨_, rfl⟩

theorem State.get_setAge_other {k : Nat} (n : Nat) (s : State) (h : k ≠ K.safContextAge) (hk : noting k = false) :
    (s.setAge n).get k = s.get k := by
  obtain ⟨b, heq⟩ := s.setAge_eq n
  rw [heq]
  exact State.when_preserves (P := fun t => t.get k = s.get k) b (State.get_put_other _ _ _ _ h)
    fun h => (State.get_raise0 _ _ _ hk).trans h

theorem State.setAge_age (n : Nat) (s : State) : (s.setAge n).getN K.safContextAge = min n 65535 := by
  obtain ⟨b, heq⟩ := s.setAge_eq n
  rw [heq]
  exact State.when_preserves (P := fun t => t.getN K.safContextAge = min n 65535) b (State.getN_put_natCast _ _ _)
    fun h => (State.getN_congr (State.get_raise0 _ _ _ (by decide))).trans h

theorem State.setAge_mem (n : Nat) (s : State) : (s.setAge n).saf.mem = s.saf.mem := by
  obtain ⟨b, heq⟩ := s.setAge_eq n
  rw [heq]
  exact State.when_preserves (P := fun t => t.saf.mem = s.saf.mem) b rfl fun h => by rw [State.raise0_saf, h]

theorem State.setAge_tierKept (n : Nat) (s : State) : TierKept s (s.setAge n) := by
  obtain ⟨b, heq⟩ := s.setAge_eq n
  rw [heq]
  refine State.when_preserves (P := TierKept s) b ?_ fun h => h.trans (State.raise_tierKept _ _ _)
  exact ⟨rfl, rfl, rfl, rfl, rfl, fun r => State.get_put_other _ _ _ _ (by revert r; decide), State.get_put_other _ _ _ _ (by decide)⟩

end Sys2Proof.Machine
end

section
/-! The fast and the slow tier (R223 to R229): overruns, slow boundaries, stream errors, Enable and the restart. -/

namespace Sys2Proof.Machine

/-! ### SAFFRON_FAST_OVERRUN (R223) -/

/-- The compute of a frame is aborted: its set is dropped, and the overrun is counted. -/
def State.fastAborted (s : State) : State :=
  (s.modSaf (fun x => { x with staged := none, overRun := x.overRun + 1 })).inc K.safFastOverruns

/-- The first overrun of a second is recorded. -/
def State.overrunTold (s : State) : State :=
  s.fastAborted.when (decide (s.fastAborted.saf.overSaid ≠ some (s.fastAborted.ft / sec))) (fun t =>
    (t.modSaf (fun x => { x with overSaid := some (s.fastAborted.ft / sec) })).raise0 Cause.saffronFastOverrun)

theorem exec_saffronFastOverrun {s : State} (h : s.fastRuns = true) : exec .saffronFastOverrun s = .next
    (s.overrunTold.when (decide (s.overrunTold.getN K.safOverrunStopCount ≤ s.overrunTold.saf.overRun)) State.fastStop) := by
  show execSaffronFastOverrun s = _
  unfold execSaffronFastOverrun
  rw [if_neg (by simp [h])]
  rfl

/-- A set aborted in its compute, against the state before. -/
structure FastAborted (s t : State) : Prop where
  staged : t.saf.staged = none
  overRun : t.saf.overRun = s.saf.overRun + 1
  stopCount : t.getN K.safOverrunStopCount = s.getN K.safOverrunStopCount
  counted : counts s t K.safFastOverruns 1

theorem State.fastAborted_aborts (s : State) : FastAborted s s.fastAborted where
  staged := by rw [State.fastAborted, State.inc_saf]; rfl
  overRun := by rw [State.fastAborted, State.inc_saf]; rfl
  stopCount := State.getN_congr (State.get_inc_other _ _ _ (by decide))
  counted := counts_from_get_eq (State.inc_counts _ _) rfl

theorem FastAborted.raise0 {s t u : State} (h : FastAborted s t) (c : Nat) (hobjs : u.objs = t.objs) (hstaged : u.saf.staged = none)
    (hrun : u.saf.overRun = t.saf.overRun) : FastAborted s (u.raise0 c) where
  staged := by rw [State.raise0_saf, hstaged]
  overRun := by rw [State.raise0_saf, hrun, h.overRun]
  stopCount := (State.getN_congr ((State.get_raise0 _ _ _ (by decide)).trans (State.get_of_objs hobjs _))).trans h.stopCount
  counted := counts_of_get_eq h.counted ((State.get_raise0 _ _ _ (by decide)).trans (State.get_of_objs hobjs _))

theorem State.overrunTold_aborts (s : State) : FastAborted s s.overrunTold :=
  State.when_preserves (P := FastAborted s) _ s.fastAborted_aborts fun h => h.raise0 _ rfl h.staged rfl

theorem saffronFastOverrun_does {s : State} (h : s.fastRuns = true) : Does .saffronFastOverrun s (fun t => t.saf.staged = none ∧
    t.saf.overRun = s.saf.overRun + 1 ∧ counts s t K.safFastOverruns 1 ∧
    (s.getN K.safOverrunStopCount ≤ s.saf.overRun + 1 → t.saf.fastWait = .stopped)) := by
  have htold := s.overrunTold_aborts
  obtain ⟨hstaged, hrun, -, hcounted⟩ : FastAborted s (s.overrunTold.when
      (decide (s.overrunTold.getN K.safOverrunStopCount ≤ s.overrunTold.saf.overRun)) State.fastStop) :=
    State.when_preserves (P := FastAborted s) _ htold fun h => h.raise0 _ rfl rfl rfl
  refine .of_next (exec_saffronFastOverrun h) ⟨hstaged, hrun, hcounted, fun hstop => ?_⟩
  rw [htold.stopCount, htold.overRun, decide_eq_true hstop, State.when_true]
  exact congrArg SafState.fastWait (State.raise0_saf _ _)

/-! ### SLOW_BOUNDARY (R225, R227) -/

/-- The context that a slow compute left is published; the other buffer is the next one's. -/
def State.contextPublished (o : StageOut) (s : State) : State :=
  ((s.modSaf (fun x => { x with
    mem := { o.mem with ctx := o.mem.ctxNext, ctxNext := o.mem.ctx }
    published := x.published || x.newSlow, newSlow := false })).countSats o.sats).inc64 K.safContextsPublished

/-- A slow compute that has not ended is counted and told. -/
def State.slowLate (s : State) : State := (s.inc K.safSlowOverruns).raise0 Cause.saffronSlowOverrun

/-- The features of the next slow compute are gathered, where the tier may compute. -/
def State.slowGathers (i : SafImage) (s : State) : State :=
  if s.slowRuns then (s.gather i).2.modSaf (fun x => { x with slowFeat := some (s.gather i).1 })
  else s.modSaf (fun x => { x with slowFeat := none })

/-- What a slow boundary does once the compute before it has been settled. -/
def State.slowNext (s : State) : Out :=
  match s.slowImg with
  | some i =>
    if s.slowRuns then .next ((s.gather i).2.modSaf (fun x => { x with slowFeat := some (s.gather i).1 }))
    else .next (s.modSaf (fun x => { x with slowFeat := none }))
  | none => .next s

theorem State.slowNext_of_img {s : State} {i : SafImage} (h : s.slowImg = some i) : s.slowNext = .next (s.slowGathers i) := by
  unfold State.slowNext State.slowGathers
  rw [h]
  exact (apply_ite Host.Outcome.next _ _ _).symm

theorem State.contextPublished_tierKept (o : StageOut) (s : State) : TierKept s (s.contextPublished o) :=
  .trans (t := s.modSaf _) ⟨rfl, rfl, rfl, rfl, rfl, fun _ => rfl, rfl⟩
    ((State.countSats_satKept _ _).tierKept.trans (State.countBy_tierKept _ _ (by decide) (by decide) _))

theorem State.contextPublished_mem (o : StageOut) (s : State) :
    (s.contextPublished o).saf.mem = { o.mem with ctx := o.mem.ctxNext, ctxNext := o.mem.ctx } := by
  unfold State.contextPublished
  rw [State.inc64_saf, (State.countSats_satKept _ _).mem]
  rfl

theorem State.slowLate_tierKept (s : State) : TierKept s s.slowLate :=
  (State.countBy_tierKept _ _ (by decide) (by decide) _).trans (State.raise_tierKept _ _ _)

theorem State.get_slowGathers {k : Nat} (i : SafImage) (s : State) (hk : satCounted k = false) : (s.slowGathers i).get k = s.get k := by
  unfold State.slowGathers
  split
  · exact (State.gather_satKept i s).get k hk
  · rfl

theorem State.slowGathers_mem (i : SafImage) (s : State) : (s.slowGathers i).saf.mem = s.saf.mem := by
  unfold State.slowGathers
  split
  · exact (State.gather_satKept i s).mem
  · rfl

theorem State.slowGathers_slowFeat (i : SafImage) (s : State) : (s.slowGathers i).saf.slowFeat.isSome = true ↔ s.slowRuns = true := by
  unfold State.slowGathers
  split
  · next h => exact iff_of_true rfl h
  · next h => exact iff_of_false Bool.false_ne_true h

section
variable {s : State} {i : SafImage}

/-- A slow boundary with a compute under way that has ended: its context is published, the next vector gathered. -/
theorem exec_slowBoundary_ended {v : List Int} (hat : s.atSlowBoundary = true) (himg : s.slowImg = some i)
    (hfeat : s.saf.slowFeat = some v) : exec (.slowBoundary true) s =
      .next (((s.contextPublished (runStages (s.stageEnv i v) i.stages s.saf.mem)).setAge 1).slowGathers i) := by
  rw [← State.slowNext_of_img (((State.contextPublished_tierKept _ s).trans (State.setAge_tierKept 1 _)).slowImg.trans himg)]
  show execSlowBoundary true s = _
  unfold execSlowBoundary
  rw [if_neg (by simp [hat]), hfeat, himg]
  rfl

/-- A slow boundary with a compute under way that has not ended: the overrun is counted, the next vector gathered. -/
theorem exec_slowBoundary_late {v : List Int} (hat : s.atSlowBoundary = true) (himg : s.slowImg = some i)
    (hfeat : s.saf.slowFeat = some v) : exec (.slowBoundary false) s =
      .next ((s.slowLate.setAge (s.getN K.safContextAge + 1)).slowGathers i) := by
  rw [← State.slowNext_of_img ((s.slowLate_tierKept.trans (State.setAge_tierKept _ _)).slowImg.trans himg)]
  show execSlowBoundary false s = _
  unfold execSlowBoundary
  rw [if_neg (by simp [hat]), hfeat, himg]
  rfl

theorem slowBoundary_ended_does {v : List Int} (hat : s.atSlowBoundary = true) (himg : s.slowImg = some i)
    (hfeat : s.saf.slowFeat = some v) : Does (.slowBoundary true) s (fun t => t.getN K.safContextAge = 1 ∧
      t.saf.mem.ctx = (runStages (s.stageEnv i v) i.stages s.saf.mem).mem.ctxNext ∧
      (t.saf.slowFeat.isSome = true ↔ s.slowRuns = true)) := by
  have hkept := (State.contextPublished_tierKept (runStages (s.stageEnv i v) i.stages s.saf.mem) s).trans (State.setAge_tierKept 1 _)
  refine .of_next (exec_slowBoundary_ended hat himg hfeat) ⟨?_, ?_, (State.slowGathers_slowFeat _ _).trans (by rw [hkept.slowRuns])⟩
  · exact (State.getN_congr (State.get_slowGathers _ _ (by decide))).trans (State.setAge_age _ _)
  · rw [State.slowGathers_mem, State.setAge_mem, State.contextPublished_mem]

theorem slowBoundary_late_does {v : List Int} (hat : s.atSlowBoundary = true) (himg : s.slowImg = some i)
    (hfeat : s.saf.slowFeat = some v) : Does (.slowBoundary false) s (fun t =>
      t.getN K.safContextAge = min (s.getN K.safContextAge + 1) 65535 ∧ t.saf.mem = s.saf.mem ∧ counts s t K.safSlowOverruns 1) := by
  refine .of_next (exec_slowBoundary_late hat himg hfeat) ⟨?_, ?_, counts_of_get_eq (State.inc_counts _ _) ?_⟩
  · exact (State.getN_congr (State.get_slowGathers _ _ (by decide))).trans (State.setAge_age _ _)
  · rw [State.slowGathers_mem, State.setAge_mem, State.slowLate, State.raise0_saf, State.inc_saf]
  · exact (State.get_slowGathers _ _ (by decide)).trans ((State.get_setAge_other _ _ (by decide) (by decide)).trans
      (State.get_raise0 _ _ _ (by decide)))

/-! ### SAFFRON_STREAM_ERROR and SAFFRON_SLOW_RELOADED (R228) -/

theorem saffronStreamError_does (h : s.slowImg = some i) : Does .saffronStreamError s (fun t => t.saf.slowFeat = none ∧
    t.saf.slowWait = .reload ∧ counts s t K.safStreamErrors 1) := by
  have hexec : exec .saffronStreamError s = .next (((s.inc K.safStreamErrors).modSaf (fun x =>
      { x with slowFeat := none, slowWait := .reload })).raise0 Cause.saffronStreamError) := if_neg (by simp [h])
  refine .of_next hexec ⟨by rw [State.raise0_saf]; rfl, by rw [State.raise0_saf]; rfl, counts_of_get_eq (State.inc_counts _ _) ?_⟩
  exact State.get_raise0 _ _ _ (by decide)

theorem saffronSlowReloaded_does (h : s.slowImg = some i) (hwait : s.saf.slowWait = .reload) : Does .saffronSlowReloaded s (fun t =>
    t.saf.slowWait = .none ∧ t.saf.mem = loadRegions i s.saf.mem) := by
  refine .of_next (t := s.modSaf (fun x => { x with mem := loadRegions i x.mem, slowWait := .none })) ?_ ⟨rfl, rfl⟩
  show execSaffronSlowReloaded s = _
  unfold execSaffronSlowReloaded
  rw [h]
  exact if_pos hwait

end

/-! ### SAFFRON_ENABLE_WRITE and FAST_TIER_RESTART (R229) -/

theorem saffronEnableWrite_does {s : State} {w : HostWrite} (h : s.takes K.safEnable w) : Does (.saffronEnableWrite w) s (fun t =>
    saidOk s t ∧ t.get K.safEnable = w.num ∧ t.md.safDue = true ∧ t.md.tilesOn = s.md.tilesOn ∧ t.saf = s.saf) := by
  refine .of_next (congrArg Host.Outcome.next (State.hostWrite_ok h rfl)) ⟨rfl, ?_, rfl, rfl, rfl⟩
  exact (State.get_put_same K.safEnable _ s).trans (writtenValue_unsigned _ (by decide))

/-- The fast image is in the tiles again, its state zero. -/
def State.fastReloaded (i : SafImage) (s : State) : State :=
  s.modSaf (fun x => { x with mem := loadRegions i x.mem, fastWait := .none, replacing := false })

theorem fastTierRestart_does {s : State} {i : SafImage} (h : s.fastImg = some i) (hwait : s.saf.fastWait = .reload)
    (hon : 1 ≤ s.safEnable) : Does .fastTierRestart s (fun t => t.saf.fastWait = .none ∧
      (s.slowImg.isSome = true → s.saf.slowWait = .reload → t.saf.slowWait = .none)) := by
  have hexec : exec .fastTierRestart s = .next (match s.slowImg with
      | some j => (s.fastReloaded i).when (decide (s.saf.slowWait = .reload)) (State.modSaf (fun x => { x with
          mem := loadRegions j x.mem, slowWait := .none }))
      | none => s.fastReloaded i) := by
    show execFastTierRestart s = _
    unfold execFastTierRestart
    rw [h]
    exact if_pos ⟨hwait, hon⟩
  refine .of_next hexec ?_
  cases s.slowImg with
  | none => exact ⟨rfl, fun hsome => absurd hsome Bool.false_ne_true⟩
  | some j =>
    refine ⟨State.when_preserves (P := fun t : State => t.saf.fastWait = .none) _ rfl id, fun _ hslow => ?_⟩
    dsimp only
    rw [decide_eq_true hslow]
    rfl

end Sys2Proof.Machine
end

section
/-! Divergence and trust (R240, R241): the bits of the divergence state, and the chips whose estimates are not trusted. -/

namespace Sys2Proof.Machine

/-! ### The divergence state -/

/-- The divergence bits after one of them is set or cleared. -/
def divAfter (old bit : Nat) (on : Bool) : Nat := if on then old ||| 2 ^ bit else old &&& (255 - 2 ^ bit)

/-- A divergence bit that changes is shown, an episode that begins counted, and the change recorded. -/
def State.divChanged (bit : Nat) (on : Bool) (s : State) : State :=
  let t := (s.put K.divDivergenceState (divAfter (s.getN K.divDivergenceState) bit on)).when
    (decide (s.getN K.divDivergenceState = 0)) (State.inc K.divDivergenceEpisodes)
  if on then t.raise Cause.saffronDivergence (args0 [(bit, 1)])
  else t.when (decide (divAfter (s.getN K.divDivergenceState) bit on = 0)) (State.raise0 Cause.saffronAgreement)

theorem State.setDiv_eq (bit : Nat) (on : Bool) (s : State) : s.setDiv bit on =
    if divAfter (s.getN K.divDivergenceState) bit on = s.getN K.divDivergenceState then s else s.divChanged bit on := rfl

/-- A divergence bit that changes is shown, whatever else is counted and recorded. -/
theorem State.setDiv_preserves {P : State → Prop} {s : State} (bit : Nat) (on : Bool)
    (hsame : divAfter (s.getN K.divDivergenceState) bit on = s.getN K.divDivergenceState → P s)
    (hput : P (s.put K.divDivergenceState (divAfter (s.getN K.divDivergenceState) bit on)))
    (hinc : ∀ t, P t → P (t.inc K.divDivergenceEpisodes)) (hraise : ∀ t c a, P t → P (t.raise c a)) : P (s.setDiv bit on) := by
  rw [State.setDiv_eq]
  split
  · next h => exact hsame h
  · unfold State.divChanged
    have hcounted := State.when_preserves (P := P) (decide (s.getN K.divDivergenceState = 0)) hput (hinc _)
    dsimp only
    split
    · exact hraise _ _ _ hcounted
    · exact State.when_preserves _ hcounted (hraise _ _ _)

theorem State.setDiv_saf (bit : Nat) (on : Bool) (s : State) : (s.setDiv bit on).saf = s.saf :=
  State.setDiv_preserves (P := fun t => t.saf = s.saf) bit on (fun _ => rfl) rfl (fun t h => (State.inc_saf _ t).trans h)
    fun t _ _ h => (State.raise_saf _ _ t).trans h

theorem State.get_setDiv_other {k : Nat} (bit : Nat) (on : Bool) (s : State) (h1 : k ≠ K.divDivergenceState)
    (h2 : k ≠ K.divDivergenceEpisodes) (hk : noting k = false) : (s.setDiv bit on).get k = s.get k :=
  State.setDiv_preserves (P := fun t => t.get k = s.get k) bit on (fun _ => rfl) (State.get_put_other _ _ _ _ h1)
    (fun t h => (State.get_inc_other _ _ t h2).trans h) fun t _ _ h => (State.get_raise _ _ t _ hk).trans h

/-- The divergence state shows the bit as it was set or cleared. -/
theorem State.setDiv_shown (bit : Nat) (on : Bool) (s : State) :
    (s.setDiv bit on).getN K.divDivergenceState = divAfter (s.getN K.divDivergenceState) bit on :=
  State.setDiv_preserves (P := fun t => t.getN K.divDivergenceState = divAfter (s.getN K.divDivergenceState) bit on) bit on Eq.symm
    (State.getN_put_natCast _ _ _) (fun _ h => (State.getN_congr (State.get_inc_other _ _ _ (by decide))).trans h)
    fun _ _ _ h => (State.getN_congr (State.get_raise _ _ _ _ (by decide))).trans h

/-- DIV_CHIPS is bit 1 of the divergence state. -/
theorem divAfter_chips (old : Nat) (on : Bool) : (divAfter old 1 on).testBit 1 = on := by
  unfold divAfter
  cases on with
  | true => rw [if_pos rfl, Nat.testBit_or, show Nat.testBit (2 ^ 1) 1 = true from rfl, Bool.or_true]
  | false => rw [if_neg Bool.false_ne_true, Nat.testBit_and, show Nat.testBit (255 - 2 ^ 1) 1 = false from rfl, Bool.and_false]

/-! ### Trust (R240, R241) -/

theorem State.untrustedCount_congr {s t : State} (h : t.saf.untrusted = s.saf.untrusted) : t.untrustedCount = s.untrustedCount := by
  unfold State.untrustedCount
  rw [h]

/-- The map and the count of untrusted chips are shown, and the time at or below half the limit followed. -/
def State.trustShown (s : State) : State :=
  let t := (s.put K.divUntrustedCount s.untrustedCount).putBytes K.divUntrustedMap (leBytes 24 s.saf.untrusted.toNat)
  t.modSaf (fun x => { x with
    lowSince := if decide (2 * s.untrustedCount ≤ t.getN K.divUntrustedLimit) then some (x.lowSince.getD t.now) else none })

theorem State.showTrust_eq (s : State) :
    s.showTrust = s.trustShown.when (decide (s.getN K.divUntrustedLimit < s.untrustedCount)) (State.setDiv 1 true) := by
  have hlimit : s.trustShown.getN K.divUntrustedLimit = s.getN K.divUntrustedLimit := State.getN_put_other (by decide)
  rw [← hlimit]
  rfl

theorem State.showTrust_untrusted (s : State) : s.showTrust.saf.untrusted = s.saf.untrusted := by
  rw [State.showTrust_eq]
  exact State.when_preserves (P := fun t => t.saf.untrusted = s.saf.untrusted) _ rfl fun h => by rw [State.setDiv_saf, h]

theorem State.showTrust_count (s : State) : s.showTrust.getN K.divUntrustedCount = s.untrustedCount := by
  rw [State.showTrust_eq]
  exact State.when_preserves (P := fun t => t.getN K.divUntrustedCount = s.untrustedCount) _ (State.getN_put_natCast _ _ _)
    fun h => (State.getN_congr (State.get_setDiv_other _ _ _ (by decide) (by decide) (by decide))).trans h

/-- Beyond the limit of untrusted chips DIV_CHIPS is set (R241). -/
theorem State.showTrust_chips {s : State} (h : s.getN K.divUntrustedLimit < s.untrustedCount) :
    (s.showTrust.getN K.divDivergenceState).testBit 1 = true := by
  rw [State.showTrust_eq, decide_eq_true h, State.when_true, State.setDiv_shown, divAfter_chips]

/-- The untrusted chips become those of a map, which is shown, and the change is recorded. -/
def State.trusting (m : BitVec 192) (cause c : Nat) (s : State) : State :=
  (s.modSaf (fun x => { x with untrusted := m })).showTrust.raise cause (args c [])

theorem State.trusting_untrusted (m : BitVec 192) (cause c : Nat) (s : State) : (s.trusting m cause c).saf.untrusted = m := by
  rw [State.trusting, State.raise_saf, State.showTrust_untrusted]
  rfl

theorem State.trusting_count (m : BitVec 192) (cause c : Nat) (s : State) :
    (s.trusting m cause c).getN K.divUntrustedCount = (s.trusting m cause c).untrustedCount := by
  rw [State.untrustedCount_congr (s := s.modSaf (fun x => { x with untrusted := m })) (State.trusting_untrusted m cause c s)]
  exact (State.getN_congr (State.get_raise _ _ _ _ (by decide))).trans (State.showTrust_count _)

theorem State.trusting_chips {m : BitVec 192} {cause c : Nat} {s : State}
    (h : s.getN K.divUntrustedLimit < (s.trusting m cause c).untrustedCount) :
    ((s.trusting m cause c).getN K.divDivergenceState).testBit 1 = true := by
  rw [State.untrustedCount_congr (s := s.modSaf (fun x => { x with untrusted := m })) (State.trusting_untrusted m cause c s)] at h
  rw [State.trusting, State.getN_congr (State.get_raise _ _ _ _ (by decide))]
  exact State.showTrust_chips h

section
variable {s : State} {tr : Fin 24} {k : Fin 8}

theorem estimateUntrusted_does (htime : s.getN K.divUntrustedTime * 100 ≤ (s.tray tr).disagree[k])
    (hbit : s.saf.untrusted.getLsbD (chipOf tr k) = false) : Does (.estimateUntrusted tr k) s (fun t =>
      t.saf.untrusted = s.saf.untrusted ||| (1#192 <<< chipOf tr k) ∧ t.getN K.divUntrustedCount = t.untrustedCount ∧
      (s.getN K.divUntrustedLimit < t.untrustedCount → (t.getN K.divDivergenceState).testBit 1 = true)) := by
  have hexec : exec (.estimateUntrusted tr k) s =
      .next (s.trusting (s.saf.untrusted ||| (1#192 <<< chipOf tr k)) Cause.estimateUntrusted (chipOf tr k)) :=
    if_pos ⟨htime, by rw [hbit]; rfl⟩
  exact .of_next hexec ⟨State.trusting_untrusted _ _ _ _, State.trusting_count _ _ _ _, State.trusting_chips⟩

theorem estimateTrusted_does (htime : s.getN K.divTrustReturnTime * 100 ≤ (s.tray tr).agree[k])
    (hbit : s.saf.untrusted.getLsbD (chipOf tr k) = true) : Does (.estimateTrusted tr k) s (fun t =>
      t.saf.untrusted = s.saf.untrusted &&& ~~~(1#192 <<< chipOf tr k) ∧ t.getN K.divUntrustedCount = t.untrustedCount) := by
  have hexec : exec (.estimateTrusted tr k) s =
      .next (s.trusting (s.saf.untrusted &&& ~~~(1#192 <<< chipOf tr k)) Cause.estimateTrusted (chipOf tr k)) :=
    if_pos ⟨htime, hbit⟩
  exact .of_next hexec ⟨State.trusting_untrusted _ _ _ _, State.trusting_count _ _ _ _⟩

theorem divChipsClear_does {t0 : Nat} (hlow : s.saf.lowSince = some t0) (htime : t0 + 10000000 ≤ s.now) :
    Does .divChipsClear s (fun t => (t.getN K.divDivergenceState).testBit 1 = false) := by
  refine .of_next (t := s.setDiv 1 false) ?_ (by rw [State.setDiv_shown, divAfter_chips])
  show execDivChipsClear s = _
  unfold execDivChipsClear
  rw [hlow]
  exact if_pos htime

end

/-- Settles O42: each clause is the lemma on its command above. -/
theorem saffronTiersPublishAndStop : Obligations.SaffronTiersPublishAndStop := by
  intro s w t0 i v tr k
  exact ⟨saffronFastOverrun_does,
    fun hat himg hfeat => ⟨slowBoundary_ended_does hat himg hfeat, slowBoundary_late_does hat himg hfeat⟩,
    fun himg => ⟨saffronStreamError_does himg, saffronSlowReloaded_does himg⟩,
    saffronEnableWrite_does, fastTierRestart_does, estimateUntrusted_does, estimateTrusted_does, divChipsClear_does⟩

end Sys2Proof.Machine
end

section
/-! Tiles (R212, R243 to R245): what showing and mapping them leaves alone, self-tests, the rotation, failed tiles. -/

namespace Sys2Proof.Machine

/-! ### Objects of the tiles -/

/-- Is an object one that shows the states of the tiles? -/
def tileShown (k : Nat) : Bool := decide (k = K.safUsableTiles) || allTiles.any (fun t : Fin 64 => decide (k = K.tileState t))

theorem tileShown_false {k : Nat} (h : k ≠ K.safUsableTiles) (ht : ∀ n : Nat, k ≠ K.tileState n) : tileShown k = false := by
  simp only [tileShown, Bool.or_eq_false_iff, decide_eq_false_iff_not, List.any_eq_false, decide_eq_true_eq]
  exact ⟨h, fun t _ => ht t⟩

theorem tileLogicalTile_unshown (n : Nat) : tileShown (K.tileLogicalTile n) = false :=
  tileShown_false (by unfold K.tileLogicalTile K.safUsableTiles; omega) fun m => by unfold K.tileLogicalTile K.tileState; omega

theorem tileSelfTestPasses_unshown (n : Nat) : tileShown (K.tileSelfTestPasses n) = false :=
  tileShown_false (by unfold K.tileSelfTestPasses K.safUsableTiles; omega) fun m => by
    unfold K.tileSelfTestPasses K.tileState
    omega

theorem State.get_showTiles {k : Nat} (s : State) (h : tileShown k = false) : s.showTiles.get k = s.get k := by
  simp only [tileShown, Bool.or_eq_false_iff, decide_eq_false_iff_not, List.any_eq_false, decide_eq_true_eq] at h
  obtain ⟨husable, hstates⟩ := h
  exact State.each_preserves (P := fun t => t.get k = s.get k) _ (State.get_put_other _ _ _ _ husable) fun t u hu =>
    (State.get_put_other _ _ _ _ (hstates t (List.mem_finRange t))).trans hu

theorem State.showTiles_noted (s : State) : Noted s s.showTiles :=
  State.each_preserves (P := Noted s) _ (State.put_noted _ _ _) fun _ _ hu => hu.trans (State.put_noted _ _ _)

/-- Mapping the logical tiles writes which tile is which and nothing else (R212). -/
theorem State.get_mapTiles {k : Nat} (s : State) (h : ∀ n : Nat, k ≠ K.tileLogicalTile n) : s.mapTiles.get k = s.get k := by
  unfold State.mapTiles
  refine State.each_preserves (P := fun t => t.get k = s.get k) _ (State.each_preserves (P := fun t => t.get k = s.get k) _ rfl ?_) ?_
  · exact fun t u hu => State.when_preserves (P := fun t => t.get k = s.get k) _ hu
      fun hu => (State.get_put_other _ _ _ _ (h t)).trans hu
  · intro l u hu
    split
    · exact hu
    · split
      · next t _ => exact (State.get_put_other _ _ _ _ (h t)).trans hu
      · exact hu

/-! ### TILE_SELF_TEST_DONE (R243) -/

/-- The next victim depends on which tiles are failed and which is offline. -/
theorem State.nextVictim_congr {s t : State} (hmap : t.get K.safFailedTileMap = s.get K.safFailedTileMap)
    (hoff : t.get K.rotOfflineTile = s.get K.rotOfflineTile) (n : Nat) : t.nextVictim n = s.nextVictim n := by
  unfold State.nextVictim State.tileOut State.tileFailed State.offline
  rw [State.getN_congr hmap, State.getN_congr hoff]

theorem State.get_inc_selfTestPasses {k : Nat} (n : Nat) (s : State) (h : k < 0x520000) :
    (s.inc (K.tileSelfTestPasses n)).get k = s.get k :=
  State.get_inc_other _ _ _ (by unfold K.tileSelfTestPasses; omega)

theorem tileSelfTestDone_does {s : State} {v : Fin 64} {since : Nat} (hrot : s.saf.rotation = .testing since)
    (htime : since + s.getN K.rotTilePeriod * 1000000 ≤ s.now) (hvictim : s.nextVictim s.offline = some v) :
    Does .tileSelfTestDone s (fun t => t.saf.rotation = .copying v s.now ∧ counts s t (K.tileSelfTestPasses s.offline) 1) := by
  have hoff : (s.inc (K.tileSelfTestPasses s.offline)).offline = s.offline :=
    State.getN_congr (State.get_inc_selfTestPasses _ _ (by decide))
  have hnext : (s.inc (K.tileSelfTestPasses s.offline)).nextVictim (s.inc (K.tileSelfTestPasses s.offline)).offline = some v := by
    rw [hoff, State.nextVictim_congr (State.get_inc_selfTestPasses _ _ (by decide)) (State.get_inc_selfTestPasses _ _ (by decide)),
      hvictim]
  have hexec : exec .tileSelfTestDone s = .next ((s.inc (K.tileSelfTestPasses s.offline)).modSaf (fun x => { x with
      rotation := .copying v (s.inc (K.tileSelfTestPasses s.offline)).now })).showTiles := by
    show execTileSelfTestDone s = _
    unfold execTileSelfTestDone
    rw [hrot]
    refine (if_pos htime).trans ?_
    dsimp only
    rw [hnext]
  refine .of_next hexec ⟨?_, counts_of_get_eq (State.inc_counts _ _) (State.get_showTiles _ (tileSelfTestPasses_unshown _))⟩
  rw [(State.showTiles_noted _).saf, State.modSaf_saf, State.now, State.inc_time]
  rfl

/-! ### ROTATION_HANDOVER (R243) -/

/-- The tested tile takes over the victim's logical tile, and the victim is offline. -/
def State.takenOver (v : Nat) (s : State) : State :=
  (((s.put (K.tileLogicalTile s.offline) (s.get (K.tileLogicalTile v))).put (K.tileLogicalTile v) 255).put K.rotOfflineTile v).modSaf
    (fun x => { x with rotation := .testing s.now, rotPass := (s.saf.rotPass + 1) % 64 })

/-- A full pass is counted and its time shown. -/
def State.passEnded (s : State) : State := (s.inc K.rotRotationsCompleted).put K.rotLastFullPass s.ft

theorem exec_rotationHandover {s : State} {v since : Nat} (hrot : s.saf.rotation = .copying v since) (hat : s.atSlowBoundary = true) :
    exec .rotationHandover s =
      .next ((s.takenOver v).when (decide (s.saf.rotPass + 1 = 64)) State.passEnded).showTiles := by
  show execRotationHandover s = _
  unfold execRotationHandover
  rw [hrot]
  exact if_pos hat

theorem State.get_passEnded {k : Nat} (s : State) (h1 : k ≠ K.rotRotationsCompleted) (h2 : k ≠ K.rotLastFullPass) :
    s.passEnded.get k = s.get k := (State.get_put_other _ _ _ _ h2).trans (State.get_inc_other _ _ _ h1)

/-- The end of a pass and the states of the tiles change no object that a handover writes. -/
theorem State.get_handoverShown {k : Nat} (b : Bool) (s : State) (h : tileShown k = false) (h1 : k ≠ K.rotRotationsCompleted)
    (h2 : k ≠ K.rotLastFullPass) : (s.when b State.passEnded).showTiles.get k = s.get k :=
  (State.get_showTiles _ h).trans
    (State.when_preserves (P := fun t => t.get k = s.get k) b rfl fun hs => (State.get_passEnded _ h1 h2).trans hs)

theorem State.get_handoverShown_tile (n : Nat) (b : Bool) (s : State) :
    (s.when b State.passEnded).showTiles.get (K.tileLogicalTile n) = s.get (K.tileLogicalTile n) :=
  State.get_handoverShown b s (tileLogicalTile_unshown n) (by unfold K.tileLogicalTile K.rotRotationsCompleted; omega)
    (by unfold K.tileLogicalTile K.rotLastFullPass; omega)

theorem tileLogicalTile_ne_offline (n : Nat) : K.tileLogicalTile n ≠ K.rotOfflineTile := by
  unfold K.tileLogicalTile K.rotOfflineTile
  omega

theorem State.get_takenOver_victim (v : Nat) (s : State) : (s.takenOver v).get (K.tileLogicalTile v) = 255 :=
  (State.get_put_other _ _ _ _ (tileLogicalTile_ne_offline v)).trans (State.get_put_same _ _ _)

theorem tileLogicalTile_inj {m n : Nat} (h : K.tileLogicalTile m = K.tileLogicalTile n) : m = n := by
  unfold K.tileLogicalTile at h
  omega

theorem State.get_takenOver_tested {v : Nat} {s : State} (h : s.offline ≠ v) :
    (s.takenOver v).get (K.tileLogicalTile s.offline) = s.get (K.tileLogicalTile v) :=
  (State.get_put_other _ _ _ _ (tileLogicalTile_ne_offline _)).trans
    ((State.get_put_other _ _ _ _ (fun e => h (tileLogicalTile_inj e))).trans (State.get_put_same _ _ _))

theorem rotationHandover_does {s : State} {v since : Nat} (hrot : s.saf.rotation = .copying v since) (hat : s.atSlowBoundary = true) :
    Does .rotationHandover s (fun t => t.saf.rotation = .testing s.now ∧ t.offline = v ∧ t.getN (K.tileLogicalTile v) = 255 ∧
      (s.offline ≠ v → t.get (K.tileLogicalTile s.offline) = s.get (K.tileLogicalTile v))) := by
  refine .of_next (exec_rotationHandover hrot hat) ⟨?_, ?_, ?_, fun hne => ?_⟩
  · rw [(State.showTiles_noted _).saf]
    exact State.when_preserves (P := fun t => t.saf.rotation = .testing s.now) _ rfl fun h => by
      rw [State.passEnded, State.put_saf, State.inc_saf, h]
  · exact State.getN_of_get ((State.get_handoverShown _ _ (by decide) (by decide) (by decide)).trans
      (State.get_put_same K.rotOfflineTile _ _))
  · exact State.getN_of_get ((State.get_handoverShown_tile _ _ _).trans (State.get_takenOver_victim v s))
  · exact (State.get_handoverShown_tile _ _ _).trans (State.get_takenOver_tested hne)

/-! ### SAFFRON_TILE_FAILED (R244) -/

/-- The map of failed tiles and the count of failed self-tests. -/
def lossShown : List Nat := [K.safFailedTileMap, K.rotSelfTestFailures]

/-- The failed tiles and the failed self-tests are shown as they were. -/
def LossKept (s t : State) : Prop := ∀ k ∈ lossShown, t.get k = s.get k

theorem LossKept.trans {s t u : State} (h : LossKept s t) (g : LossKept t u) : LossKept s u := fun k hk => (g k hk).trans (h k hk)

theorem lossShown_lt {k : Nat} (h : k ∈ lossShown) : k < 0x520000 := by
  revert k
  decide

theorem State.put_lossKept {k : Nat} (v : Int) (h : k ∉ lossShown) (s : State) : LossKept s (s.put k v) :=
  fun _ hj => State.get_put_other _ _ _ _ fun e => h (e ▸ hj)

theorem State.putTile_lossKept (n : Nat) (v : Int) (s : State) : LossKept s (s.put (K.tileLogicalTile n) v) :=
  State.put_lossKept _ (fun h => absurd (lossShown_lt h) (by unfold K.tileLogicalTile; omega)) s

theorem State.modSaf_lossKept (f : SafState → SafState) (s : State) : LossKept s (s.modSaf f) := fun _ _ => rfl

theorem State.raise_lossKept (c : Nat) (a : Args) (s : State) : LossKept s (s.raise c a) :=
  fun k hk => State.get_raise _ _ _ k (by revert k; decide)

theorem State.showTiles_lossKept (s : State) : LossKept s s.showTiles :=
  fun k hk => State.get_showTiles s (by revert k; decide)

theorem State.mapTiles_lossKept (s : State) : LossKept s s.mapTiles :=
  fun k hk => State.get_mapTiles s fun n => by have := lossShown_lt hk; unfold K.tileLogicalTile; omega

theorem State.suspendRotation_lossKept (s : State) : LossKept s s.suspendRotation :=
  ((State.modSaf_lossKept _ s).trans (State.put_lossKept _ (by decide) _)).trans (State.raise_lossKept _ _ _)

/-- A failed tile is marked, counted if its self-test failed, and recorded. -/
def State.tileMarked (t : Fin 64) (selfTest : Bool) (s : State) : State :=
  ((s.put K.safFailedTileMap ((s.getN K.safFailedTileMap ||| 2 ^ t.val : Nat) : Int)).when selfTest
    (State.inc K.rotSelfTestFailures)).raise Cause.saffronTileFailed (args t [])

theorem State.tileMarked_failed (t : Fin 64) (selfTest : Bool) (s : State) : (s.tileMarked t selfTest).tileFailed t = true := by
  have hmap : (s.tileMarked t selfTest).getN K.safFailedTileMap = s.getN K.safFailedTileMap ||| 2 ^ t.val :=
    (State.getN_congr (State.get_raise _ _ _ _ (by decide))).trans
      (State.when_preserves (P := fun t' => t'.getN K.safFailedTileMap = _) selfTest (State.getN_put_natCast _ _ _)
        fun h => (State.getN_congr (State.get_inc_other _ _ _ (by decide))).trans h)
  rw [State.tileFailed, hmap, Nat.testBit_or, Nat.testBit_two_pow_self, Bool.or_true]

theorem State.tileMarked_counts (t : Fin 64) (s : State) : counts s (s.tileMarked t true) K.rotSelfTestFailures 1 :=
  counts_of_get_eq (counts_from_get_eq (State.inc_counts _ _) (State.get_put_other _ _ _ _ (by decide)))
    (State.get_raise _ _ _ _ (by decide))

/-- A rotation without a spare is suspended, and no tile is offline. -/
theorem State.suspendRotation_suspends (s : State) :
    s.suspendRotation.showTiles.saf.rotation = .suspended ∧ s.suspendRotation.showTiles.offline = 255 := by
  refine ⟨?_, State.getN_of_get ?_⟩
  · rw [(State.showTiles_noted _).saf, State.suspendRotation, State.raise0_saf]
    rfl
  · exact (State.get_showTiles _ (by decide)).trans ((State.get_raise0 _ _ _ (by decide)).trans (State.get_put_same _ _ _))

/-- A choice between two answers answers. -/
theorem exists_next_ite {c : Prop} [Decidable c] {a b : Out} {P : State → Prop} (ha : c → ∃ t, a = .next t ∧ P t)
    (hb : ¬c → ∃ t, b = .next t ∧ P t) : ∃ t, (if c then a else b) = .next t ∧ P t := by
  split
  · next h => exact ha h
  · next h => exact hb h

/-- A tile that fails: it is marked, and whatever stands in for it leaves the mark; without a spare rotation is suspended. -/
theorem exec_saffronTileFailed {s : State} {u : Fin 64} (h : s.tileFailed u = false) (selfTest : Bool) :
    Does (.saffronTileFailed u selfTest) s (fun t => LossKept (s.tileMarked u selfTest) t ∧
      (s.offline = u → t.saf.rotation = .suspended ∧ t.offline = 255)) := by
  have hunmapped := State.putTile_lossKept u 255 (s.tileMarked u selfTest)
  show ∃ t, execSaffronTileFailed u selfTest s = .next t ∧ _
  unfold execSaffronTileFailed
  rw [if_neg (by simp [h])]
  refine exists_next_ite (fun _ => ⟨_, rfl, ?spare, fun _ => State.suspendRotation_suspends _⟩) fun hspare =>
    exists_next_ite (fun _ => ⟨_, rfl, ?free, fun hoff => absurd hoff hspare⟩) fun _ =>
    exists_next_ite (fun _ => ⟨_, rfl, ?stood, fun hoff => absurd hoff hspare⟩) fun _ =>
    ⟨_, rfl, ?mapped, fun hoff => absurd hoff hspare⟩
  case spare => exact (State.suspendRotation_lossKept _).trans (State.showTiles_lossKept _)
  case free => exact (hunmapped.trans (State.modSaf_lossKept _ _)).trans (State.showTiles_lossKept _)
  case stood =>
    exact (((hunmapped.trans (State.putTile_lossKept _ _ _)).trans (State.suspendRotation_lossKept _)).trans
      (State.modSaf_lossKept _ _)).trans (State.showTiles_lossKept _)
  case mapped =>
    exact (State.when_preserves (P := LossKept (s.tileMarked u selfTest)) _
      ((hunmapped.trans (State.mapTiles_lossKept _)).trans (State.modSaf_lossKept _ _))
      fun h => h.trans (State.raise_lossKept _ _ _)).trans (State.showTiles_lossKept _)

theorem saffronTileFailed_does {s : State} {u : Fin 64} (h : s.tileFailed u = false) (selfTest : Bool) :
    Does (.saffronTileFailed u selfTest) s (fun t => t.tileFailed u = true ∧
      (selfTest = true → counts s t K.rotSelfTestFailures 1) ∧ (s.offline = u → t.saf.rotation = .suspended ∧ t.offline = 255)) := by
  obtain ⟨t, hexec, hkept, hspare⟩ := exec_saffronTileFailed h selfTest
  refine .of_next hexec ⟨?_, fun htest => ?_, hspare⟩
  · exact (congrArg (·.testBit u.val) (State.getN_congr (hkept _ (by decide)))).trans (State.tileMarked_failed u selfTest s)
  · subst htest
    exact counts_of_get_eq (State.tileMarked_counts u s) (hkept _ (by decide))

end Sys2Proof.Machine
end

section
/-! Writes to the Saffron engine (R244, R245, R255): failed tiles to clear, rotation on and off, the slow tick. -/

namespace Sys2Proof.Machine

/-! ### Answers -/

/-- A write of a number that its chapter carries out is answered with success alone. -/
theorem numberWrite_does {s t : State} {i : Instr} {k : Nat} {w : HostWrite} {own : Int → State → State × Nat} {P : State → Prop}
    (h : s.takes k w) (hexec : exec i s = .next (s.hostWrite k w own)) (htype : (Dict.row? k).map (·.ty.signed) = some false)
    (hown : own w.num s = t.ok) (hsent : t.outbox = s.outbox) (hP : P (t.send (.status 0))) :
    Does i s (fun u => saidOk s u ∧ P u) := by
  rw [← show writtenValue k w.bytes = w.num from writtenValue_unsigned _ htype] at hown
  refine .of_next (hexec.trans (congrArg Host.Outcome.next (State.hostWrite_ok h hown))) ⟨?_, hP⟩
  rw [saidOk, State.send_outbox, hsent]

section
variable {s : State} {w : HostWrite}

/-! ### CLEAR_FAILED_WRITE (R244) -/

theorem clearFailedWrite_does (h : s.takes K.safClearFailed w) : Does (.clearFailedWrite w) s (fun t => saidOk s t ∧
    t.saf.clearMask = s.saf.clearMask ||| BitVec.ofNat 64 w.num ∧ t.objs = s.objs) :=
  numberWrite_does h rfl (by decide) rfl rfl ⟨congrArg (s.saf.clearMask ||| ·) (BitVec.ofInt_natCast 64 w.num), rfl⟩

/-! ### ROTATION_ENABLE_WRITE (R245) -/

/-- Rotation switched to a setting, with an offline tile. -/
def State.rotationSet (on off : Int) (r : Rotation) (s : State) : State :=
  (((s.put K.rotRotationEnable on).put K.rotOfflineTile off).modSaf (fun x => { x with rotation := r })).showTiles

theorem State.rotationSet_outbox (on off : Int) (r : Rotation) (s : State) : (s.rotationSet on off r).outbox = s.outbox :=
  (State.showTiles_noted _).outbox

theorem State.rotationSet_sets (on : Int) (off : Nat) (r : Rotation) (m : OutMsg) (s : State) :
    ((s.rotationSet on off r).send m).saf.rotation = r ∧ ((s.rotationSet on off r).send m).offline = off ∧
      ((s.rotationSet on off r).send m).get K.rotRotationEnable = on := by
  refine ⟨?_, State.getN_of_get ?_, ?_⟩
  · rw [State.send_saf, State.rotationSet, (State.showTiles_noted _).saf, State.modSaf_saf]
  · rw [State.get_send, State.rotationSet, State.get_showTiles _ (by decide)]
    exact State.get_put_same _ _ _
  · rw [State.get_send, State.rotationSet, State.get_showTiles _ (by decide)]
    exact (State.get_put_other _ _ _ _ (by decide)).trans (State.get_put_same _ _ _)

theorem rotationEnableWrite_off (h : s.takes K.rotRotationEnable w) (hoff : w.num = 0) (hon : s.get K.rotRotationEnable ≠ 0)
    (hfree : s.saf.replacing = false) : Does (.rotationEnableWrite w) s (fun t =>
      saidOk s t ∧ t.saf.rotation = .off ∧ t.offline = 255 ∧ t.get K.rotRotationEnable = 0) := by
  have hown : State.rotationWrite w.num s = (s.rotationSet 0 255 .off).ok := by
    unfold State.rotationWrite
    rw [hoff, Nat.cast_zero, if_neg hon.symm, if_pos rfl, if_neg (by simp [hfree])]
    rfl
  exact numberWrite_does h rfl (by decide) hown (State.rotationSet_outbox _ _ _ _) (State.rotationSet_sets 0 255 .off _ s)

theorem rotationEnableWrite_on {v : Fin 64} (h : s.takes K.rotRotationEnable w) (hnum : w.num = 1)
    (hoff : s.get K.rotRotationEnable = 0) (hroom : s.tilesNeeded < s.usableTiles.length)
    (hlast : (s.usableTiles.filter (fun x : Fin 64 => decide (s.getN (K.tileLogicalTile x.val) = 255))).getLast? = some v) :
    Does (.rotationEnableWrite w) s (fun t => saidOk s t ∧ t.saf.rotation = .testing s.now ∧ t.offline = v ∧
      t.get K.rotRotationEnable = 1) := by
  have hown : State.rotationWrite w.num s = (s.rotationSet 1 (v.val : Nat) (.testing s.now)).ok := by
    unfold State.rotationWrite
    rw [hnum, hoff, Nat.cast_one, if_neg (by decide), if_neg (by decide), hlast]
    exact if_neg (Nat.not_le.2 hroom)
  exact numberWrite_does h rfl (by decide) hown (State.rotationSet_outbox _ _ _ _) (State.rotationSet_sets 1 v (.testing s.now) _ s)

/-! ### SLOW_TICK_WRITE (R255) -/

/-- A slow tick that is taken is in force, and the figures of the images follow. -/
theorem State.slowTick_shown (v : Int) (s : State) : (s.put K.safSlowTick v).showImages.get K.safSlowTick = v := by
  unfold State.showImages
  simp (disch := decide) only [State.get_put_other]
  exact State.get_put_same _ _ _

theorem State.showImages_outbox (s : State) : s.showImages.outbox = s.outbox := by
  simp only [State.showImages, State.put_outbox]

theorem State.admission_ok (i : SafImage) (l : Live) (occasion : Nat) (s : State) : (s.admission i l occasion).1 = admits i l := by
  unfold State.admission
  dsimp only

/-- An admission counts, writes its report and is recorded. -/
theorem State.get_admission {k : Nat} (i : SafImage) (l : Live) (occasion : Nat) (s : State) (h1 : k ≠ K.loadImagesAdmitted)
    (h2 : k ≠ K.loadImagesRefused) (hk : noting k = false) : (s.admission i l occasion).2.get k = s.get k := by
  have hcount : k ≠ if admits i l then K.loadImagesAdmitted else K.loadImagesRefused := by
    split
    · exact h1
    · exact h2
  exact (State.get_raise _ _ _ _ hk).trans (State.get_inc_other _ _ _ hcount)

theorem State.admission_outbox (i : SafImage) (l : Live) (occasion : Nat) (s : State) :
    (s.admission i l occasion).2.outbox = s.outbox := (State.raise_outbox _ _ _).trans (State.inc_outbox _ _)

theorem slowTickWrite_free (h : s.takes K.safSlowTick w) (hnone : s.resInForce false = none) :
    Does (.slowTickWrite w) s (fun t => saidOk s t ∧ t.get K.safSlowTick = w.num) := by
  have hown : State.slowTickWrite w.num s = (s.put K.safSlowTick w.num).showImages.ok := by
    unfold State.slowTickWrite
    rw [hnone]
  exact numberWrite_does h rfl (by decide) hown (State.showImages_outbox _) ((State.get_send _ _ _).trans (State.slowTick_shown _ s))

/-- A slow tick is admitted, or not, against the slow image in force. -/
theorem State.slowTickWrite_eq {r : Fin 6} {i : SafImage} {s : State} (n : Nat) (hres : s.resInForce false = some r)
    (himg : s.saf.res[r] = some i) : State.slowTickWrite n s =
      if admits i { s.live r s.fastImg with slowTick := n } then
        (((s.admission i { s.live r s.fastImg with slowTick := n } 4).2.put K.safSlowTick n).showImages).ok
      else ((s.admission i { s.live r s.fastImg with slowTick := n } 4).2.raise0 Cause.saffronTickRefused).refuse
        Cause.saffronTickRefused := by
  have hslow : s.slowImg = some i := by
    unfold State.slowImg State.resImg
    rw [hres]
    exact himg
  unfold State.slowTickWrite
  rw [hres, hslow]
  simp only [State.admission_ok, Int.toNat_natCast]

section
variable {r : Fin 6} {i : SafImage} (h : s.takes K.safSlowTick w) (hres : s.resInForce false = some r) (himg : s.saf.res[r] = some i)
include h hres himg

theorem slowTickWrite_admitted (hok : admits i { s.live r s.fastImg with slowTick := w.num } = true) :
    Does (.slowTickWrite w) s (fun t => saidOk s t ∧ t.get K.safSlowTick = w.num) :=
  numberWrite_does h rfl (by decide) ((State.slowTickWrite_eq _ hres himg).trans (if_pos hok))
    ((State.showImages_outbox _).trans (State.admission_outbox _ _ _ _)) ((State.get_send _ _ _).trans (State.slowTick_shown _ _))

theorem slowTickWrite_refused (hno : admits i { s.live r s.fastImg with slowTick := w.num } = false) :
    Does (.slowTickWrite w) s (fun t => refusedWith s t Cause.saffronTickRefused ∧ t.get K.safSlowTick = s.get K.safSlowTick) := by
  have hown := (State.slowTickWrite_eq w.num hres himg).trans (if_neg (by simp [hno]))
  rw [← show writtenValue K.safSlowTick w.bytes = w.num from writtenValue_unsigned _ (by decide)] at hown
  have hkept : ∀ k, k ≠ K.loadImagesAdmitted → k ≠ K.loadImagesRefused → noting k = false →
      ((s.admission i { s.live r s.fastImg with slowTick := w.num } 4).2.raise0 Cause.saffronTickRefused).get k = s.get k :=
    fun k h1 h2 hk => (State.get_raise0 _ _ _ hk).trans (State.get_admission _ _ _ _ h1 h2 hk)
  refine .of_next (congrArg Host.Outcome.next (State.hostWrite_refuses h (by decide) hown))
    ⟨State.answer_refusedWith ?_ (hkept _ (by decide) (by decide) (by decide)) (by decide), ?_⟩
  · rw [State.raise0_outbox, State.admission_outbox]
  · exact (State.get_inc_other _ _ _ (by decide)).trans (hkept _ (by decide) (by decide) (by decide))

end

end

/-- Settles O43: each clause is the lemma on its command above. -/
theorem tilesRotateAndFail : Obligations.TilesRotateAndFail := by
  intro s v u since selfTest w r i
  exact ⟨tileSelfTestDone_does, rotationHandover_does, fun h => saffronTileFailed_does h selfTest, clearFailedWrite_does,
    fun h => ⟨rotationEnableWrite_off h, rotationEnableWrite_on h⟩,
    fun h => ⟨slowTickWrite_free h, fun hres himg => ⟨slowTickWrite_admitted h hres himg, slowTickWrite_refused h hres himg⟩⟩⟩

end Sys2Proof.Machine
end

section
/-! What the residences, the swaps and the command state show (R255, R260, R261), and what leaves it as it was. -/

namespace Sys2Proof.Machine

/-! ### What is shown -/

/-- The command state, the counts of swaps and the states of the residences. -/
def loadShown : List Nat :=
  [K.loadCommandState, K.loadSwapsDone, K.loadSwapsRefusedOrAborted] ++ (List.range 6).map K.resState

theorem resState_mem_loadShown {n : Nat} (h : n < 6) : K.resState n ∈ loadShown :=
  List.mem_append_right _ (List.mem_map_of_mem (List.mem_range.2 h))

/-- The command state, the counts of swaps and the residences are shown as they were. -/
def LoadKept (s t : State) : Prop := ∀ k ∈ loadShown, t.get k = s.get k

theorem LoadKept.trans {s t u : State} (h : LoadKept s t) (g : LoadKept t u) : LoadKept s u := fun k hk => (g k hk).trans (h k hk)

theorem LoadKept.put {s t : State} {k : Nat} {v : Int} (h : LoadKept s t) (hk : k ∉ loadShown) : LoadKept s (t.put k v) :=
  fun j hj => (State.get_put_other k j v t fun e => hk (e ▸ hj)).trans (h j hj)

theorem State.raise_loadKept (c : Nat) (a : Args) (s : State) : LoadKept s (s.raise c a) :=
  fun k hk => State.get_raise _ _ _ k (by revert k; decide)

theorem State.showTiles_loadKept (s : State) : LoadKept s s.showTiles :=
  fun k hk => State.get_showTiles s (by revert k; decide)

theorem State.showImages_loadKept (s : State) : LoadKept s s.showImages := by
  unfold State.showImages
  iterate 8 refine .put ?_ (by decide)
  exact fun _ _ => rfl

theorem State.mapTiles_loadKept (s : State) : LoadKept s s.mapTiles := fun k hk => State.get_mapTiles s fun n => by
  have hlow : k % 256 ≠ 2 := by revert k; decide
  unfold K.tileLogicalTile
  omega

theorem State.measure_loadKept (reg kind subject id version : Nat) (d : List Byte) (s : State) :
    LoadKept s (s.measure reg kind subject id version d) := by
  unfold State.measure
  split
  · exact State.when_preserves (P := LoadKept s) _ (fun _ _ => rfl) fun h => h.trans (State.raise_loadKept _ _ _)
  · exact fun _ _ => rfl

/-! ### The state of the engine -/

theorem State.getN_modSaf (f : SafState → SafState) (k : Nat) (s : State) : (s.modSaf f).getN k = s.getN k := rfl

theorem State.mapTiles_saf (s : State) : s.mapTiles.saf = s.saf := by
  unfold State.mapTiles
  refine State.each_preserves (P := fun t => t.saf = s.saf) _ (State.each_preserves (P := fun t => t.saf = s.saf) _ rfl ?_) ?_
  · exact fun t u hu => State.when_preserves (P := fun t => t.saf = s.saf) _ hu id
  · intro l u hu
    split
    · exact hu
    · split
      · exact hu
      · exact hu

theorem State.showImages_saf (s : State) : s.showImages.saf = s.saf := by
  simp only [State.showImages, State.put_saf]

theorem State.measure_saf (reg kind subject id version : Nat) (d : List Byte) (s : State) :
    (s.measure reg kind subject id version d).saf = s.saf := by
  unfold State.measure
  split
  · exact State.when_same State.saf _ _ (State.raise0_saf _ _)
  · rfl

theorem State.admission_saf (i : SafImage) (l : Live) (occasion : Nat) (s : State) :
    (s.admission i l occasion).2.saf = s.saf := (State.raise_saf _ _ _).trans (State.inc_saf _ _)

theorem State.answer_saf (r : State × Nat) : (State.answer r).saf = r.1.saf := State.when_same State.saf _ _ (State.inc_saf _ _)

theorem State.answer_loadKept (r : State × Nat) : LoadKept r.1 (State.answer r) := fun k hk =>
  State.when_same (State.get · k) _ _ (State.get_inc_other _ _ _ (by revert k; decide))

/-! ### A residence -/

theorem resState_ne {n k : Nat} (h : k % 256 ≠ 1) : K.resState n ≠ k := by
  unfold K.resState
  omega

theorem noting_resState (r : Fin 6) : noting (K.resState r) = false := (satCounted_false (resState_quiet r)).1

theorem State.get_showRes (r : Fin 6) (state slot : Nat) (i : Option SafImage) (s : State) :
    (s.showRes r state slot i).get (K.resState r) = state := by
  unfold State.showRes K.resSourceSlot K.resImageId K.resImageVersion K.resResidenceBytes K.resWorstCase K.resStreamBytes
    K.resLogicalTiles K.resContextLayoutId
  simp (disch := (apply resState_ne; omega)) only [State.get_put_other]
  exact State.get_put_same _ _ _

/-- A residence with its state and the image it holds. -/
structure Resident (r : Fin 6) (state : Nat) (i : Option SafImage) (t : State) : Prop where
  state : t.getN (K.resState r) = state
  image : t.saf.res[r] = i

theorem State.showRes_resident (r : Fin 6) (state slot : Nat) (i : Option SafImage) (s : State) :
    Resident r state i (s.showRes r state slot i) where
  state := State.getN_of_get (State.get_showRes _ _ _ _ _)
  image := Vector.getElem_set_self _

/-! ### The command state -/

/-- The command state c is shown, unless a load under way comes before it (log 52). -/
def Shows (s : State) (c : Nat) (t : State) : Prop := t.getN K.loadCommandState = if s.saf.loading.isSome then 1 else c

theorem Shows.of_kept {s t u : State} {c : Nat} (h : Shows s c t) (hkept : LoadKept t u) : Shows s c u :=
  (State.getN_congr (hkept _ (by decide))).trans h

theorem State.getN_showCommand (s : State) : s.showCommand.getN K.loadCommandState =
    if s.saf.loading.isSome then 1 else if s.saf.swap.isSome then 2 else if s.swapping then 3 else 0 := by
  unfold State.getN State.showCommand
  rw [State.get_put_same]
  split_ifs <;> rfl

theorem State.showCommand_shows {s t : State} {c : Nat} (hload : t.saf.loading = s.saf.loading)
    (hc : (if t.saf.swap.isSome then 2 else if t.swapping then 3 else 0) = c) : Shows s c t.showCommand := by
  rw [Shows, State.getN_showCommand, hload, hc]

theorem State.get_showCommand {k : Nat} (s : State) (h : k ≠ K.loadCommandState) : s.showCommand.get k = s.get k :=
  State.get_put_other _ _ _ _ h

theorem State.getN_showCommand_res (n : Nat) (s : State) : s.showCommand.getN (K.resState n) = s.getN (K.resState n) :=
  State.getN_congr (State.get_showCommand s (resState_ne (by decide)))

end Sys2Proof.Machine
end

section
/-! SAFFRON_LOAD and SAFFRON_UNLOAD (R255, R256, R265). -/

namespace Sys2Proof.Machine

section
variable {s : State} {sess : Nat} {n : Fin 6}

theorem writtenValue_loadCommand (v : Byte) : writtenValue K.loadCommand [v] = v.toNat := writtenValue_byte (by decide) v

/-- What a command to the command object does where its chapter carries it out. -/
theorem loadCommand_does {t : State} {i : Instr} {v : Byte} {P : State → Prop} (h : s.takesByte K.loadCommand sess v)
    (hexec : exec i s = .next (s.hostWrite K.loadCommand (oneByte sess v) State.loadCommandWrite))
    (hown : State.loadCommandWrite v.toNat s = t.ok) (hsent : t.outbox = s.outbox) (hP : P (t.send (.status 0))) :
    Does i s (fun u => saidOk s u ∧ P u) :=
  (byteWrite_does h hexec ((congrArg (State.loadCommandWrite · s) (writtenValue_loadCommand v)).trans hown) hsent hP).mono
    fun _ => And.symm

/-- What a command to the command object does where its chapter refuses it. -/
theorem loadCommand_refused {t : State} {i : Instr} {v : Byte} {status : Nat} {P : State → Prop}
    (h : s.takesByte K.loadCommand sess v)
    (hexec : exec i s = .next (s.hostWrite K.loadCommand (oneByte sess v) State.loadCommandWrite))
    (hown : State.loadCommandWrite v.toNat s = t.refuse status) (hstatus : status ≠ deferred)
    (hP : P (State.answer (t.refuse status))) : Does i s P :=
  .of_next (hexec.trans (congrArg Host.Outcome.next (State.hostWrite_refuses h hstatus
    ((congrArg (State.loadCommandWrite · s) (writtenValue_loadCommand v)).trans hown)))) hP

/-! ### SAFFRON_UNLOAD (R265) -/

theorem saffronUnload_empties (h : s.takesByte K.loadCommand sess 2) (hn : s.getN K.loadLoadResidence = n)
    (hst : s.getN (K.resState n) = 2 ∨ s.getN (K.resState n) = 5) (hpartner : s.getN K.loadPartnerResidence ≠ n) :
    Does (.saffronUnload sess) s (fun t => saidOk s t ∧ t.getN (K.resState n) = 0 ∧ t.saf.res[n] = none) := by
  have hown : s.safUnload = ((s.showRes n 0 255 none).raise Cause.saffronImageUnloaded (args n [])).ok := by
    unfold State.safUnload
    rw [dif_pos (hn ▸ n.isLt)]
    simp only [hn]
    exact if_pos ⟨hst, hpartner⟩
  obtain ⟨hstate, himage⟩ := s.showRes_resident n 0 255 none
  refine loadCommand_does h rfl hown (State.raise_outbox _ _ _) ⟨?_, ?_⟩
  · exact (State.getN_congr (State.raise_loadKept _ _ _ _ (resState_mem_loadShown n.isLt))).trans hstate
  · rw [State.send_saf, State.raise_saf]
    exact himage

theorem saffronUnload_refused (h : s.takesByte K.loadCommand sess 2) (hn : s.getN K.loadLoadResidence = n)
    (hst : s.getN (K.resState n) = 3 ∨ s.getN (K.resState n) = 4 ∨ s.getN K.loadPartnerResidence = n) :
    Does (.saffronUnload sess) s (fun t => refusedWith s t Cause.functionRunning ∧
      t.getN (K.resState n) = s.getN (K.resState n) ∧ t.saf.res[n] = s.saf.res[n]) := by
  have hown : s.safUnload = s.refuse Cause.functionRunning := by
    unfold State.safUnload
    rw [dif_pos (hn ▸ n.isLt)]
    simp only [hn]
    exact if_neg (by omega)
  refine loadCommand_refused h rfl hown (by decide) ⟨State.answer_refusedWith rfl rfl (by decide), ?_, ?_⟩
  · exact State.getN_congr (State.answer_loadKept _ _ (resState_mem_loadShown n.isLt))
  · rw [State.answer_saf]
    rfl

end

/-- Settles O44: a residence that may be emptied is shown empty; any other is refused and left alone. -/
theorem unloadEmptiesAResidence : Obligations.UnloadEmptiesAResidence :=
  fun _ _ _ h hn => ⟨saffronUnload_empties h hn, saffronUnload_refused h hn⟩

section
variable {s : State} {sess : Nat} {n : Fin 6}

/-! ### SAFFRON_LOAD (R255, R256) -/

theorem saffronLoad_busy (h : s.takesByte K.loadCommand sess 1) (hbusy : s.saf.loading.isSome = true) :
    Does (.saffronLoad sess) s (fun t => refusedWith s t Cause.saffronLoadBusy ∧ t.saf.res = s.saf.res) := by
  have hown : s.safLoad = (s.raise0 Cause.saffronLoadBusy).refuse Cause.saffronLoadBusy := if_pos hbusy
  refine loadCommand_refused h rfl hown (by decide) ⟨State.raise0_refusedWith _ (by decide), ?_⟩
  rw [State.answer_saf, State.refuse, State.raise0_saf]

/-- The admission of a load: a report for the image against its partner. -/
def State.loadChecked (n : Fin 6) (i : SafImage) (s : State) : State := (s.admission i (s.live n (s.partnerOf i.fast)) 1).2

/-- An image that is loading: its residence and the command state show it. -/
def State.loadBegun (n : Fin 6) (i : SafImage) (s : State) : State :=
  ((((s.loadChecked n i).showRes n 1 (s.getN K.loadLoadSlot) (some i)).put K.loadLoadProgress 0).modSaf
    (fun x => { x with loading := some n.val })).showCommand

theorem State.loadBegun_shows (n : Fin 6) (i : SafImage) (s : State) : (s.loadBegun n i).getN K.loadCommandState = 1 :=
  State.getN_showCommand _

section
variable {i : SafImage} (hn : s.getN K.loadLoadResidence = n) (hfree : s.saf.loading = none)
  (himg : s.storeImg (s.getN K.loadLoadSlot) = some i) (hnot3 : s.getN (K.resState n) ≠ 3) (hnot4 : s.getN (K.resState n) ≠ 4)
  (htier : i.fast = decide (n.val < 2))
include hn hfree himg hnot3 hnot4 htier

theorem State.safLoad_eq : s.safLoad = if admits i (s.live n (s.partnerOf i.fast)) then (s.loadBegun n i).ok
    else ((s.loadChecked n i).showRes n 5 (s.getN K.loadLoadSlot) none).ok := by
  unfold State.safLoad
  rw [if_neg (by simp [hfree]), dif_pos (hn ▸ n.isLt), himg]
  simp only [hn, State.admission_ok]
  rw [if_neg (by omega), if_neg (by simp [htier])]
  rfl

theorem saffronLoad_does (h : s.takesByte K.loadCommand sess 1) : Does (.saffronLoad sess) s (fun t => saidOk s t ∧
    if admits i (s.live n (s.partnerOf i.fast)) then t.getN (K.resState n) = 1 ∧ t.getN K.loadCommandState = 1 ∧
      t.saf.res[n] = some i ∧ t.saf.loading = some n.val
    else t.getN (K.resState n) = 5 ∧ t.saf.res[n] = none) := by
  have hown := State.safLoad_eq hn hfree himg hnot3 hnot4 htier
  have hsent : (s.loadChecked n i).outbox = s.outbox := State.admission_outbox _ _ _ _
  by_cases hok : admits i (s.live n (s.partnerOf i.fast)) = true
  case pos =>
    rw [if_pos hok] at hown
    simp only [if_pos hok]
    obtain ⟨hstate, himage⟩ := (s.loadChecked n i).showRes_resident n 1 (s.getN K.loadLoadSlot) (some i)
    have hbegun : (s.loadBegun n i).getN (K.resState n) = 1 := (State.getN_showCommand_res _ _).trans
      ((State.getN_modSaf _ _ _).trans ((State.getN_put_other (resState_ne (by decide))).trans hstate))
    exact loadCommand_does h rfl hown hsent ⟨hbegun, s.loadBegun_shows n i, himage, rfl⟩
  case neg =>
    rw [if_neg hok] at hown
    simp only [if_neg hok]
    obtain ⟨hstate, himage⟩ := (s.loadChecked n i).showRes_resident n 5 (s.getN K.loadLoadSlot) none
    exact loadCommand_does h rfl hown hsent ⟨hstate, himage⟩

end
end

end Sys2Proof.Machine
end

section
/-! SWAP_FAST, SWAP_SLOW and SWAP_PAIR (R260): taken when their residences are ready and nothing is pending. -/

namespace Sys2Proof.Machine

/-! ### A swap is taken or refused -/

/-- A residence that a swap may name for a tier: ADMITTED, and in the tier's range (R247, R260). -/
def State.resReady (s : State) (lo hi n : Nat) : Prop := lo ≤ n ∧ n ≤ hi ∧ s.getN (K.resState n) = 2

/-- A swap that is taken: the residences it names are ready, and no other is pending or at work. -/
def State.swapTaken (kind : Nat) (s : State) : Prop :=
  (kind = 4 ∨ s.resReady 0 1 (s.getN K.loadSwapFastResidence)) ∧
    (kind = 3 ∨ s.resReady 2 5 (s.getN K.loadSwapSlowResidence)) ∧ s.saf.swap = none ∧ s.swapping = false

/-- The swap as the objects of 0x5410 give it. -/
def State.swapAsked (kind : Nat) (s : State) : SafSwap :=
  { kind := kind, at_ := s.getN K.loadSwapFT, fast := s.getN K.loadSwapFastResidence, slow := s.getN K.loadSwapSlowResidence }

/-- The swap is noted, and the residences that it brings in are SWAP_PENDING. -/
def State.swapNoted (kind : Nat) (s : State) : State :=
  ((s.modSaf (fun x => { x with swap := some (s.swapAsked kind) })).when (decide (kind ≠ 4))
    (State.put (K.resState (s.getN K.loadSwapFastResidence)) 4)).when (decide (kind ≠ 3))
    (State.put (K.resState (s.getN K.loadSwapSlowResidence)) 4)

/-- The swap is noted and shown, and recorded where its time has passed. -/
def State.swapPends (kind : Nat) (s : State) : State :=
  (s.swapNoted kind).showCommand.when (decide (s.getN K.loadSwapFT ≠ 0) && decide (s.getN K.loadSwapFT < s.ft))
    (State.raise0 Cause.saffronSwapLate)

theorem State.safSwap_cases (kind : Nat) (s : State) : (s.swapTaken kind ∧ s.safSwap kind = (s.swapPends kind).ok) ∨
    (¬s.swapTaken kind ∧ s.safSwap kind = s.swapRefused.refuse Cause.saffronSwapRefused) := by
  unfold State.safSwap
  dsimp only
  split
  · next h =>
    rw [Bool.not_eq_true', ← Bool.not_eq_true] at h
    exact .inr ⟨fun htaken => h (by simpa [State.swapTaken, State.resReady, and_assoc] using htaken), rfl⟩
  · next h =>
    rw [Bool.not_eq_true', Bool.not_eq_false] at h
    exact .inl ⟨by simpa [State.swapTaken, State.resReady, and_assoc] using h, rfl⟩

theorem State.swapRefused_saf (s : State) : s.swapRefused.saf = s.saf := (State.raise0_saf _ _).trans (State.inc_saf _ _)

theorem State.swapRefused_outbox (s : State) : s.swapRefused.outbox = s.outbox :=
  (State.raise0_outbox _ _).trans (State.inc_outbox _ _)

theorem State.swapRefused_counts (s : State) : counts s s.swapRefused K.loadSwapsRefusedOrAborted 1 :=
  counts_of_get_eq (State.inc_counts _ _) (State.get_raise0 _ _ _ (by decide))

theorem State.get_swapRefused {k : Nat} (s : State) (h : k ≠ K.loadSwapsRefusedOrAborted) (hk : noting k = false) :
    s.swapRefused.get k = s.get k := (State.get_raise0 _ _ _ hk).trans (State.get_inc_other _ _ _ h)

theorem swap_refused {s : State} {i : Instr} {sess : Nat} {v : Byte} (h : s.takesByte K.loadCommand sess v)
    (hexec : exec i s = .next (s.hostWrite K.loadCommand (oneByte sess v) State.loadCommandWrite))
    (hown : State.loadCommandWrite v.toNat s = s.safSwap v.toNat) (hno : ¬s.swapTaken v.toNat) :
    Does i s (fun t => t.outbox = .status Cause.saffronSwapRefused :: s.outbox ∧ t.saf.swap = s.saf.swap ∧
      counts s t K.loadSwapsRefusedOrAborted 1) := by
  obtain ⟨htaken, -⟩ | ⟨-, heq⟩ := s.safSwap_cases v.toNat
  · exact absurd htaken hno
  · refine loadCommand_refused h hexec (hown.trans heq) (by decide) ⟨?_, ?_, ?_⟩
    · rw [State.answer_outbox, State.refuse, State.swapRefused_outbox]
    · rw [State.answer_saf, State.refuse, State.swapRefused_saf]
    · exact counts_of_get_eq s.swapRefused_counts (State.answer_loadKept _ _ (by decide))

/-! ### A swap that is taken waits -/

/-- An object that holds a value holds it after the same value is written anywhere. -/
theorem State.getN_put_of {j k n : Nat} {s : State} (h : s.getN j = n) : (s.put k (n : Int)).getN j = n := by
  by_cases hjk : j = k
  · rw [hjk, State.getN_put_natCast]
  · rw [State.getN_put_other hjk, h]

theorem State.swapNoted_saf (kind : Nat) (s : State) : (s.swapNoted kind).saf = { s.saf with swap := some (s.swapAsked kind) } :=
  (State.when_same State.saf _ _ rfl).trans (State.when_same State.saf _ _ rfl)

theorem State.swapNoted_fast {kind : Nat} (s : State) (h : kind ≠ 4) :
    (s.swapNoted kind).getN (K.resState (s.getN K.loadSwapFastResidence)) = 4 := by
  unfold State.swapNoted
  rw [decide_eq_true h]
  exact State.when_preserves (P := fun t => t.getN _ = 4) _ (State.getN_put_natCast _ 4 _) State.getN_put_of

theorem State.swapNoted_slow {kind : Nat} (s : State) (h : kind ≠ 3) :
    (s.swapNoted kind).getN (K.resState (s.getN K.loadSwapSlowResidence)) = 4 := by
  unfold State.swapNoted
  rw [decide_eq_true h]
  exact State.getN_put_natCast _ 4 _

theorem State.swapPends_noted (kind : Nat) (s : State) : Noted (s.swapNoted kind) (s.swapPends kind) :=
  (State.put_noted _ _ _).when (State.raise0_noted _ _)

theorem State.swapPends_loadKept (kind : Nat) (s : State) : LoadKept (s.swapNoted kind).showCommand (s.swapPends kind) :=
  State.when_preserves (P := LoadKept _) _ (fun _ _ => rfl) fun h => h.trans (State.raise_loadKept _ _ _)

theorem State.getN_swapPends {n : Nat} (kind : Nat) (s : State) (h : n < 6) :
    (s.swapPends kind).getN (K.resState n) = (s.swapNoted kind).getN (K.resState n) :=
  (State.getN_congr (s.swapPends_loadKept kind _ (resState_mem_loadShown h))).trans (State.getN_showCommand_res _ _)

theorem swap_pends {s : State} {i : Instr} {sess : Nat} {v : Byte} (h : s.takesByte K.loadCommand sess v)
    (hexec : exec i s = .next (s.hostWrite K.loadCommand (oneByte sess v) State.loadCommandWrite))
    (hown : State.loadCommandWrite v.toNat s = s.safSwap v.toNat) (htaken : s.swapTaken v.toNat) :
    Does i s (fun t => saidOk s t ∧ Shows s 2 t ∧ t.saf.swap = some (s.swapAsked v.toNat) ∧
      (v.toNat ≠ 4 → t.getN (K.resState (s.getN K.loadSwapFastResidence)) = 4) ∧
      (v.toNat ≠ 3 → t.getN (K.resState (s.getN K.loadSwapSlowResidence)) = 4)) := by
  obtain ⟨-, heq⟩ | ⟨hno, -⟩ := s.safSwap_cases v.toNat
  · have hnoted := s.swapPends_noted v.toNat
    have hsaf := s.swapNoted_saf v.toNat
    obtain ⟨hfast, hslow, -, -⟩ := htaken
    refine loadCommand_does h hexec (hown.trans heq) (hnoted.outbox.trans ?_) ⟨?_, ?_, fun h4 => ?_, fun h3 => ?_⟩
    · exact (State.when_same State.outbox _ _ rfl).trans (State.when_same State.outbox _ _ rfl)
    · exact (State.showCommand_shows (by rw [hsaf]) (by rw [hsaf]; rfl)).of_kept (s.swapPends_loadKept v.toNat)
    · rw [State.send_saf, hnoted.saf, hsaf]
    · obtain ⟨-, hle, -⟩ := hfast.resolve_left h4
      exact (s.getN_swapPends _ (by omega)).trans (s.swapNoted_fast h4)
    · obtain ⟨-, hle, -⟩ := hslow.resolve_left h3
      exact (s.getN_swapPends _ (by omega)).trans (s.swapNoted_slow h3)
  · exact absurd htaken hno

end Sys2Proof.Machine
end

section
/-! SAFFRON_SWAP_BOUNDARY of a fast image (R261): it is installed where it passes admission again, and stays loaded where
it does not. -/

namespace Sys2Proof.Machine

/-! ### Admission at the boundary -/

/-- The image of a residence by its number. -/
def State.imgAt (s : State) (r : Nat) : Option SafImage := if h : r < 6 then s.saf.res[r] else none

section
variable {s : State} {w : SafSwap} (hkind : w.kind = 3)
include hkind

theorem State.swapAdmits_of_img {i : SafImage} (himg : s.imgAt w.fast = some i) :
    s.swapAdmits w = s.admission i (s.live w.fast s.slowImg) 3 := by
  unfold State.imgAt at himg
  simp [State.swapAdmits, hkind, himg]

theorem State.swapAdmits_of_none (himg : s.imgAt w.fast = none) : s.swapAdmits w = (false, s) := by
  unfold State.imgAt at himg
  simp [State.swapAdmits, hkind, himg]

theorem State.swapAdmits_saf : (s.swapAdmits w).2.saf = s.saf := by
  cases himg : s.imgAt w.fast with
  | none => rw [State.swapAdmits_of_none hkind himg]
  | some i => rw [State.swapAdmits_of_img hkind himg, State.admission_saf]

/-- What passes admission is an image. -/
theorem State.imgAt_of_swapAdmits (hok : (s.swapAdmits w).1 = true) : ∃ i, s.imgAt w.fast = some i := by
  cases himg : s.imgAt w.fast with
  | none => simp [State.swapAdmits_of_none hkind himg] at hok
  | some i => exact ⟨i, rfl⟩

end

/-! ### The image comes in -/

/-- A fast image has come in: it is IN_FORCE, its first set is awaited, and swap and load are as they were. -/
structure FastIn (r : Nat) (s t : State) : Prop where
  state : t.getN (K.resState r) = 3
  awaited : t.saf.newFast = true
  swap : t.saf.swap = s.saf.swap
  loading : t.saf.loading = s.saf.loading

/-- The outgoing residence of the tier, if any, is ADMITTED again. -/
def State.fastOut (s : State) : State :=
  match (s.resInForce true).map (·.val) with
  | some o => s.put (K.resState o) 2
  | none => s

theorem State.fastOut_saf (s : State) : s.fastOut.saf = s.saf := by
  unfold State.fastOut
  split
  · rfl
  · rfl

/-- Until its image is in the tiles a fast tier waits (R226, R261). -/
def State.fastLoadWait (i : SafImage) (s : State) : TierWait :=
  if s.safEnable = 0 then .reload else .load (s.now + min (loadTime i.resBytes) (20 * ms))

/-- The incoming image is IN_FORCE, has its tiles, and is measured. -/
def State.fastShown (r : Nat) (i : SafImage) (s : State) : State :=
  ((s.fastOut.put (K.resState r) 3).mapTiles).measure 3 7 0 i.id.toNat i.imageVersion.toNat i.bodyHash

theorem State.fastShown_saf (r : Nat) (i : SafImage) (s : State) : (s.fastShown r i).saf = s.saf := by
  rw [State.fastShown, State.measure_saf, State.mapTiles_saf, State.put_saf, State.fastOut_saf]

theorem State.getN_fastShown {r : Nat} (i : SafImage) (s : State) (hr : r < 6) : (s.fastShown r i).getN (K.resState r) = 3 :=
  have hkept := (State.mapTiles_loadKept (s.fastOut.put (K.resState r) 3)).trans (State.measure_loadKept _ _ _ _ _ _ _)
  (State.getN_congr (hkept _ (resState_mem_loadShown hr))).trans (State.getN_put_natCast _ 3 _)

theorem State.installFast_eq {r : Nat} {i : SafImage} {s : State} (himg : s.imgAt r = some i) :
    s.installFast r = (s.fastShown r i).modSaf (fun x => { x with
      mem := loadRegions i x.mem, fastWait := (s.fastShown r i).fastLoadWait i, now := none, staged := none, newFast := true
      outFast := (s.resInForce true).map (·.val), overRun := 0 }) := by
  unfold State.imgAt at himg
  unfold State.installFast
  rw [himg]
  rfl

theorem State.installFast_in {r : Nat} {i : SafImage} {s : State} (hr : r < 6) (himg : s.imgAt r = some i) :
    FastIn r s (s.installFast r) := by
  rw [State.installFast_eq himg]
  refine ⟨(State.getN_modSaf _ _ _).trans (State.getN_fastShown i s hr), ?_, ?_, ?_⟩
  · rw [State.modSaf_saf]
  · rw [State.modSaf_saf, State.fastShown_saf]
  · rw [State.modSaf_saf, State.fastShown_saf]

/-- A fast swap whose image was admitted: the image comes in, and what is shown follows. -/
theorem State.swapInstalls_fast {w : SafSwap} (hkind : w.kind = 3) (s : State) :
    s.swapInstalls w = (s.installFast w.fast).showCommand.showImages.showTiles := by
  simp [State.swapInstalls, hkind]

theorem State.swapFails_fast {w : SafSwap} (hkind : w.kind = 3) (s : State) :
    s.swapFails w = (s.put (K.resState w.fast) 2).swapRefused.showCommand := by
  simp [State.swapFails, hkind]

/-! ### The command -/

/-- The swap is no longer pending, and no set of an earlier image is waited for. -/
def State.swapBegun (s : State) : State := s.modSaf (fun x => { x with swap := none, published := false })

section
variable {s : State} {w : SafSwap} {n : Fin 6} (hswap : s.saf.swap = some w) (hdue : w.at_ ≤ s.ft) (hkind : w.kind = 3)
include hswap hdue hkind

theorem exec_swapBoundary : exec .saffronSwapBoundary s = .next (if (s.swapAdmits w).1 = true
    then (s.swapAdmits w).2.swapBegun.swapInstalls w else (s.swapAdmits w).2.swapBegun.swapFails w) := by
  show execSaffronSwapBoundary s = _
  unfold execSaffronSwapBoundary
  rw [hswap]
  exact if_neg (by omega)

theorem swapBoundary_installs (hfast : w.fast = n) (hok : (s.swapAdmits w).1 = true) : Does .saffronSwapBoundary s (fun t =>
    t.saf.swap = none ∧ Shows s 3 t ∧ t.getN (K.resState n) = 3) := by
  have hsaf := State.swapAdmits_saf (s := s) hkind
  have himg : ∃ i, (s.swapAdmits w).2.swapBegun.imgAt w.fast = some i := by
    unfold State.imgAt State.swapBegun
    rw [State.modSaf_saf, hsaf]
    exact State.imgAt_of_swapAdmits hkind hok
  obtain ⟨i, himg⟩ := himg
  obtain ⟨hstate, hawaited, hnone, hload⟩ := State.installFast_in (by omega) himg
  have hshown := (State.showImages_loadKept ((s.swapAdmits w).2.swapBegun.installFast w.fast).showCommand).trans
    (State.showTiles_loadKept _)
  refine .of_next ((exec_swapBoundary hswap hdue hkind).trans (congrArg Host.Outcome.next
    ((if_pos hok).trans (State.swapInstalls_fast hkind _)))) ⟨?_, .of_kept (State.showCommand_shows ?_ ?_) hshown, ?_⟩
  · rw [(State.showTiles_noted _).saf, State.showImages_saf]
    exact hnone
  · rw [hload, State.swapBegun, State.modSaf_saf, hsaf]
  · rw [hnone, State.swapping, hawaited]
    rfl
  · rw [← hfast]
    exact (State.getN_congr (hshown _ (resState_mem_loadShown (by omega)))).trans ((State.getN_showCommand_res _ _).trans hstate)

theorem swapBoundary_fails (hfast : w.fast = n) (hno : (s.swapAdmits w).1 = false) : Does .saffronSwapBoundary s (fun t =>
    t.saf.swap = none ∧ Shows s (if s.saf.newFast || s.saf.newSlow then 3 else 0) t ∧ t.getN (K.resState n) = 2) := by
  have hsaf := State.swapAdmits_saf (s := s) hkind
  have hbegun : (((s.swapAdmits w).2.swapBegun.put (K.resState w.fast) 2).swapRefused).saf =
      { s.saf with swap := none, published := false } := by
    rw [State.swapRefused_saf, State.put_saf, State.swapBegun, State.modSaf_saf, hsaf]
  refine .of_next ((exec_swapBoundary hswap hdue hkind).trans (congrArg Host.Outcome.next
    ((if_neg (by simp [hno])).trans (State.swapFails_fast hkind _)))) ⟨?_, State.showCommand_shows ?_ ?_, ?_⟩
  · exact congrArg SafState.swap hbegun
  · rw [hbegun]
  · simp [hbegun, State.swapping]
  · rw [State.getN_showCommand_res, hfast]
    exact (State.getN_congr (State.get_swapRefused _ (resState_ne (by decide)) (noting_resState n))).trans
      (State.getN_put_natCast _ 2 _)

end

end Sys2Proof.Machine
end

section
/-! SAFFRON_SWAP_DONE and SAFFRON_SWAP_ABORTED (R261, Table 9-10). -/

namespace Sys2Proof.Machine

/-! ### The end of a swap -/

/-- A swap at work has ended: its first set or context is published, and told. -/
def State.swapEnded (s : State) : State :=
  s.modSaf (fun x => { x with published := false, newFast := false, newSlow := false, outFast := none, outSlow := none })

theorem saffronSwapDone_does {s : State} (h : s.saf.published = true) : Does .saffronSwapDone s (fun t =>
    Shows s (if s.saf.swap.isSome then 2 else 0) t ∧ t.swapping = false ∧ counts s t K.loadSwapsDone 1) := by
  have hsaf : (s.swapEnded.inc K.loadSwapsDone).saf = s.swapEnded.saf := State.inc_saf _ _
  have htold := State.raise_loadKept Cause.saffronSwapDone (args0 []) (s.swapEnded.inc K.loadSwapsDone).showCommand
  have hexec : exec .saffronSwapDone s =
      .next ((s.swapEnded.inc K.loadSwapsDone).showCommand.raise0 Cause.saffronSwapDone) := if_pos h
  refine .of_next hexec ⟨.of_kept (State.showCommand_shows ?_ ?_) htold, ?_, ?_⟩
  · rw [hsaf]
    rfl
  · rw [State.swapping, hsaf]
    rfl
  · rw [State.swapping, State.raise0_saf, State.showCommand, State.put_saf, hsaf]
    rfl
  · exact counts_of_get_eq (counts_from_get_eq (State.inc_counts _ s.swapEnded) rfl)
      ((htold _ (by decide)).trans (State.get_showCommand _ (by decide)))

/-! ### Back to the outgoing images -/

/-- What a return to an outgoing residence leaves alone. -/
structure SwapKept (s t : State) : Prop where
  swap : t.saf.swap = s.saf.swap
  loading : t.saf.loading = s.saf.loading
  refused : t.get K.loadSwapsRefusedOrAborted = s.get K.loadSwapsRefusedOrAborted

theorem SwapKept.trans {s t u : State} (h : SwapKept s t) (g : SwapKept t u) : SwapKept s u :=
  ⟨g.swap.trans h.swap, g.loading.trans h.loading, g.refused.trans h.refused⟩

theorem State.putRes_swapKept (n : Nat) (v : Int) (s : State) : SwapKept s (s.put (K.resState n) v) :=
  ⟨rfl, rfl, State.get_put_other _ _ _ _ (resState_ne (by decide)).symm⟩

/-- An image is loaded again into its tier. -/
def State.reloads (fast : Bool) (i : SafImage) (s : State) : State :=
  s.modSaf (fun x => if fast then { x with mem := loadRegions i x.mem, fastWait := .load (s.now + loadTime i.resBytes) }
    else { x with mem := loadRegions i x.mem, slowWait := .load (s.now + loadTime i.resBytes) })

theorem State.reloads_swapKept (fast : Bool) (i : SafImage) (s : State) : SwapKept s (s.reloads fast i) := by
  cases fast with
  | false => exact ⟨rfl, rfl, rfl⟩
  | true => exact ⟨rfl, rfl, rfl⟩

theorem State.restoreRes_swapKept (fast : Bool) (old : Option Nat) (s : State) : SwapKept s (s.restoreRes fast old) := by
  unfold State.restoreRes
  cases old with
  | none => exact ⟨rfl, rfl, rfl⟩
  | some o =>
    have hout : SwapKept s (match s.resInForce fast with | some r => s.put (K.resState r) 2 | none => s) := by
      split
      · exact State.putRes_swapKept _ _ _
      · exact ⟨rfl, rfl, rfl⟩
    have hin := hout.trans (State.putRes_swapKept o 3 _)
    dsimp only
    split
    · exact hin.trans (State.reloads_swapKept _ _ _)
    · exact hin

/-! ### SAFFRON_SWAP_ABORTED -/

/-- The outgoing images are back, and no swap is at work. -/
def State.swapUndone (s : State) : State :=
  ((s.restoreRes true s.saf.outFast).restoreRes false s.saf.outSlow).modSaf (fun x => { x with
    newFast := false, newSlow := false, outFast := none, outSlow := none, published := false })

theorem State.swapUndone_kept (s : State) : SwapKept s s.swapUndone :=
  ((State.restoreRes_swapKept _ _ _).trans (State.restoreRes_swapKept _ _ _)).trans ⟨rfl, rfl, rfl⟩

/-- The abort is counted, and what is shown follows. -/
def State.abortShown (s : State) : State :=
  (s.swapUndone.mapTiles.showCommand.inc K.loadSwapsRefusedOrAborted).showImages.showTiles.raise0 Cause.saffronSwapAborted

theorem State.abortShown_saf (s : State) : s.abortShown.saf = s.swapUndone.saf := by
  rw [State.abortShown, State.raise0_saf, (State.showTiles_noted _).saf, State.showImages_saf, State.inc_saf, State.showCommand,
    State.put_saf, State.mapTiles_saf]

theorem State.abortShown_kept (s : State) :
    LoadKept (s.swapUndone.mapTiles.showCommand.inc K.loadSwapsRefusedOrAborted) s.abortShown :=
  ((State.showImages_loadKept _).trans (State.showTiles_loadKept _)).trans (State.raise_loadKept _ _ _)

theorem State.abortShown_shows (s : State) : Shows s (if s.saf.swap.isSome then 2 else 0) s.abortShown := by
  obtain ⟨hswap, hload, -⟩ := s.swapUndone_kept
  have hcommand : Shows s (if s.saf.swap.isSome then 2 else 0) s.swapUndone.mapTiles.showCommand := by
    refine State.showCommand_shows ?_ ?_
    · rw [State.mapTiles_saf, hload]
    · rw [State.swapping, State.mapTiles_saf, hswap]
      rfl
  have hcounted : s.abortShown.get K.loadCommandState = s.swapUndone.mapTiles.showCommand.get K.loadCommandState :=
    (s.abortShown_kept _ (by decide)).trans (State.get_inc_other _ _ _ (by decide))
  exact (State.getN_congr hcounted).trans hcommand

theorem State.abortShown_counts (s : State) : counts s s.abortShown K.loadSwapsRefusedOrAborted 1 := by
  refine counts_of_get_eq (counts_from_get_eq (State.inc_counts _ _) ?_) (s.abortShown_kept _ (by decide))
  exact (State.get_showCommand _ (by decide)).trans ((State.mapTiles_loadKept _ _ (by decide)).trans s.swapUndone_kept.refused)

theorem saffronSwapAborted_does {s : State} (h : s.swapping = true) (hfew : s.usableTiles.length < s.tilesNeeded) :
    Does .saffronSwapAborted s (fun t => Shows s (if s.saf.swap.isSome then 2 else 0) t ∧ t.swapping = false ∧
      t.saf.outFast = none ∧ counts s t K.loadSwapsRefusedOrAborted 1) := by
  refine .of_next (t := s.abortShown) (if_pos ⟨h, hfew⟩) ⟨s.abortShown_shows, ?_, ?_, s.abortShown_counts⟩
  · rw [State.swapping, s.abortShown_saf]
    rfl
  · rw [s.abortShown_saf]
    rfl

end Sys2Proof.Machine
end

section
/-! O45: the clauses together. -/

namespace Sys2Proof.Machine

/-- Settles O45: each clause is the lemma on its command above; a swap command is taken, or not, by the residences that its
kind names. -/
theorem imagesAreLoadedAndSwapped : Obligations.ImagesAreLoadedAndSwapped := by
  intro s sess n i w f l readyF readyS idle shows pends refused
  have hfast : s.swapTaken 3 ↔ readyF ∧ idle := by
    simp [State.swapTaken, State.resReady, readyF, idle, f]
  have hslow : s.swapTaken 4 ↔ readyS ∧ idle := by
    simp [State.swapTaken, State.resReady, readyS, idle, l]
  have hpair : s.swapTaken 5 ↔ readyF ∧ readyS ∧ idle := by
    simp [State.swapTaken, State.resReady, readyF, readyS, idle, f, l]
  refine ⟨fun h hn hfree himg h3 h4 htier => saffronLoad_does hn hfree himg h3 h4 htier h, saffronLoad_busy,
    fun h => ⟨fun hready hidle => ?fast, fun hno => ?notFast⟩, fun h => ⟨fun hready hidle => ?slow, fun hno => ?notSlow⟩,
    fun h => ⟨fun hf hl hidle => ?pair, fun hno => ?notPair⟩,
    fun hswap hdue hkind hn => ⟨swapBoundary_installs hswap hdue hkind hn, swapBoundary_fails hswap hdue hkind hn⟩,
    saffronSwapDone_does, saffronSwapAborted_does⟩
  case fast =>
    exact (swap_pends h rfl rfl (hfast.2 ⟨hready, hidle⟩)).mono fun t ⟨hok, hshows, hswap, hf, _⟩ =>
      ⟨⟨hok, hshows, hswap⟩, hf (by decide)⟩
  case notFast => exact swap_refused h rfl rfl (mt hfast.1 hno)
  case slow =>
    exact (swap_pends h rfl rfl (hslow.2 ⟨hready, hidle⟩)).mono fun t ⟨hok, hshows, hswap, _, hl⟩ =>
      ⟨⟨hok, hshows, hswap⟩, hl (by decide)⟩
  case notSlow => exact swap_refused h rfl rfl (mt hslow.1 hno)
  case pair =>
    exact (swap_pends h rfl rfl (hpair.2 ⟨hf, hl, hidle⟩)).mono fun t ⟨hok, hshows, hswap, hfour, hfour'⟩ =>
      ⟨⟨hok, hshows, hswap⟩, hfour (by decide), hfour' (by decide)⟩
  case notPair => exact swap_refused h rfl rfl (mt hpair.1 hno)

end Sys2Proof.Machine
end

section
/-! Frames of the cell chain on their way out (R268, R273, R287): the master alone sends them, and of the chain sending moves
only the numbers, the commands in flight and the time of the next LOOP. -/

namespace Sys2Proof.Machine

/-! ### Objects of the chain and of its units -/

/-- An object below those of the units (0x6101.01 on) is no unit's. -/
theorem ne_unitObject {k n : Nat} (i : Nat) (hk : k < 0x610101) (hn : 0x610101 ≤ n) : k ≠ n + 256 * i := by omega

/-- Objects of different units are different. -/
theorem unitObject_ne {n m : Nat} {u v : Fin 32} (huv : u ≠ v) (hn : n / 256 = m / 256) :
    n + 256 * u.val ≠ m + 256 * v.val := by
  have hval := Fin.val_ne_of_ne huv
  omega

/-- Different objects of units are different, of whichever units. -/
theorem unitObject_ne_of_mod {n m : Nat} (i j : Nat) (h : n % 256 ≠ m % 256) : n + 256 * i ≠ m + 256 * j := by omega

/-- An object of the chain or of the estimator is none that raising a cause writes. -/
theorem noting_of_chain {k : Nat} (h : 0x600000 ≤ k) (h' : k < 0x640000) : noting k = false := by
  simp only [noting, K.sessEventsLost, K.recStagingHighMark, K.recCausesNotStaged, K.trigMatches, Bool.or_eq_false_iff,
    decide_eq_false_iff_not, List.any_eq_false, List.mem_range, decide_eq_true_eq]
  exact ⟨⟨⟨by omega, by omega⟩, by omega⟩, fun i hi => by omega⟩

theorem State.chainIs_congr {s t : State} (h : t.get K.chainChainState = s.get K.chainChainState) (v : Nat) :
    t.chainIs v = s.chainIs v := by
  unfold State.chainIs
  rw [State.getN_congr h]

theorem State.chainIs_iff {s : State} {v : Nat} : s.chainIs v = true ↔ s.getN K.chainChainState = v := decide_eq_true_iff

theorem State.unitCount_congr {s t : State} (h : t.get K.chainUnitsConfigured = s.get K.chainUnitsConfigured) :
    t.unitCount = s.unitCount := State.getN_congr h

theorem State.chainTime_congr {s t : State} (h : t.time = s.time) : t.chainTime = s.chainTime := by
  unfold State.chainTime State.ft
  rw [h]

theorem State.configured_nodup (s : State) : s.configured.Nodup := (List.nodup_finRange 32).filter _

/-! ### The unit's own state -/

theorem State.cunit_modUnit_same (u : Fin 32) (f : UnitSt → UnitSt) (s : State) : (s.modUnit u f).cunit u = f (s.cunit u) :=
  Vector.getElem_set_self _

theorem State.cunit_modUnit_other {u v : Fin 32} (f : UnitSt → UnitSt) (s : State) (h : v ≠ u) :
    (s.modUnit u f).cunit v = s.cunit v :=
  Vector.getElem_set_ne u.isLt v.isLt fun e => h (Fin.ext e.symm)

/-! ### A module that is not chain master sends nothing (R268) -/

section
variable {s : State} (hlisten : s.getB K.chainChainMaster = false) (a : Bool) (u : Fin 32) (type hop flags : Nat)
  (payload : List Byte)
include hlisten

theorem State.chainSend_listener : s.chainSend a type hop flags payload = s := by
  rw [State.chainSend, hlisten, State.when_false]

theorem State.chainBroadcast_listener : s.chainBroadcast type payload = s := by
  unfold State.chainBroadcast
  simp only [State.chainSend_listener hlisten]
  exact State.when_same id _ _ (State.chainSend_listener hlisten _ _ _ _ _)

theorem State.chainCommand_listener : s.chainCommand a u type flags payload = s := by
  rw [State.chainCommand, hlisten, State.when_false]

end

/-! ### The master sends -/

/-- A frame's line has left an end; its number is used. -/
def State.frameSent (a : Bool) (line : List Bool) (s : State) : State :=
  (s.modChain (fun x => { x with nextSeq := (x.nextSeq + 1) % 65536 })).send (.chain a line)

/-- A command to a unit as it waits for its answer (R273). -/
def State.awaited (s : State) (a : Bool) (u : Fin 32) (type flags : Nat) (payload : List Byte) : ChainCmd :=
  { fromA := a, type := type, unit_ := u, flags := flags, seq := s.chn.nextSeq, payload := payload
    due := responseDue s.now payload.length (s.hopOf u a), retried := false }

section
variable {s : State} (hmaster : s.getB K.chainChainMaster = true) (a : Bool) (u : Fin 32) (type hop flags : Nat)
  (payload : List Byte)
include hmaster

/-- A frame leaves under the next sequence number. -/
theorem State.chainSend_master : s.chainSend a type hop flags payload = s.frameSent a (s.chainLine type hop flags payload) := by
  rw [State.chainSend, hmaster, State.when_true]
  exact congrArg (fun b => State.when b _ _) hmaster

/-- A command waits for its answer as its frame leaves. -/
theorem State.chainCommand_master : s.chainCommand a u type flags payload =
    (s.modChain (fun x => { x with cmds := x.cmds ++ [s.awaited a u type flags payload] })).frameSent a
      (s.chainLine type (s.hopOf u a) flags payload) := by
  rw [State.chainCommand, hmaster, State.when_true]
  exact State.chainSend_master (s := s.modChain _) hmaster a type (s.hopOf u a) flags payload

theorem State.chainSend_outbox : (s.chainSend a type hop flags payload).outbox =
    .chain a (s.chainLine type hop flags payload) :: s.outbox :=
  congrArg State.outbox (State.chainSend_master hmaster a type hop flags payload)

theorem State.chainCommand_outbox : (s.chainCommand a u type flags payload).outbox =
    .chain a (s.chainLine type (s.hopOf u a) flags payload) :: s.outbox :=
  congrArg State.outbox (State.chainCommand_master hmaster a u type flags payload)

theorem State.chainBroadcast_master : s.chainBroadcast type payload =
    (s.frameSent true (s.chainLine type 0 0 payload)).when (s.chainIs 3 || s.chainIs 4)
      (State.chainSend false type 0 0 payload) := by
  unfold State.chainBroadcast
  rw [State.chainSend_master hmaster]
  rfl

theorem State.chainBroadcast_sent : broadcastSent s (s.chainBroadcast type payload) type payload := by
  rw [broadcastSent, State.chainBroadcast_master hmaster]
  cases s.chainIs 3 || s.chainIs 4 with
  | false => rfl
  | true => exact State.chainSend_outbox (s := s.frameSent true _) hmaster false type 0 0 payload

end

/-! ### What sending leaves -/

/-- Objects, times, units and sweeps are as they were, and so are the answer of the latest LOOP and the time of the latest
balancing pass. -/
structure SendKept (s t : State) : Prop where
  objs : t.objs = s.objs
  time : t.time = s.time
  units : t.chn.units = s.chn.units
  sweeps : t.chn.sweeps = s.chn.sweeps
  loopOk : t.chn.loopOk = s.chn.loopOk
  balanceAt : t.chn.balanceAt = s.chn.balanceAt

theorem SendKept.rfl {s : State} : SendKept s s := ⟨by rfl, by rfl, by rfl, by rfl, by rfl, by rfl⟩

theorem SendKept.trans {s t u : State} (h : SendKept s t) (g : SendKept t u) : SendKept s u :=
  ⟨g.objs.trans h.objs, g.time.trans h.time, g.units.trans h.units, g.sweeps.trans h.sweeps,
    g.loopOk.trans h.loopOk, g.balanceAt.trans h.balanceAt⟩

theorem SendKept.when {s t : State} {b : Bool} {f : State → State} (h : SendKept s t) (hf : SendKept t (f t)) :
    SendKept s (t.when b f) :=
  State.when_preserves b h fun h => h.trans hf

theorem SendKept.get {s t : State} (h : SendKept s t) (k : Nat) : t.get k = s.get k := State.get_of_objs h.objs k

theorem SendKept.cunit {s t : State} (h : SendKept s t) (u : Fin 32) : t.cunit u = s.cunit u := by
  unfold State.cunit
  rw [h.units]

theorem State.chainDrive_kept (a : Bool) (line : List Bool) (s : State) : SendKept s (s.chainDrive a line) :=
  SendKept.rfl.when ⟨by rfl, by rfl, by rfl, by rfl, by rfl, by rfl⟩

theorem State.chainSend_kept (a : Bool) (type hop flags : Nat) (payload : List Byte) (s : State) :
    SendKept s (s.chainSend a type hop flags payload) :=
  SendKept.rfl.when (.trans ⟨by rfl, by rfl, by rfl, by rfl, by rfl, by rfl⟩ (State.chainDrive_kept a _ (s.modChain _)))

theorem State.chainCommand_kept (a : Bool) (u : Fin 32) (type flags : Nat) (payload : List Byte) (s : State) :
    SendKept s (s.chainCommand a u type flags payload) :=
  SendKept.rfl.when (.trans ⟨by rfl, by rfl, by rfl, by rfl, by rfl, by rfl⟩ (State.chainSend_kept a _ _ _ _ (s.modChain _)))

theorem State.chainBroadcast_kept (type : Nat) (payload : List Byte) (s : State) :
    SendKept s (s.chainBroadcast type payload) :=
  (State.chainSend_kept true _ _ _ _ s).when (State.chainSend_kept false _ _ _ _ _)

theorem State.chainWakeUp_kept (s : State) : SendKept s s.chainWakeUp :=
  (SendKept.trans ⟨by rfl, by rfl, by rfl, by rfl, by rfl, by rfl⟩ (State.chainDrive_kept true _ (s.modChain _))).trans
    (State.chainDrive_kept false _ _)

end Sys2Proof.Machine
end

section
/-! Breaks, stale units and sleep (R283, R286, R289): what is shown of the chain and what that leaves. -/

namespace Sys2Proof.Machine

/-! ### What is shown -/

theorem State.get_showTransfers {k : Nat} (s : State) (h : k ≠ K.balTransfersActive) : s.showTransfers.get k = s.get k :=
  State.get_put_other _ _ _ _ h

theorem State.get_showLimits {k : Nat} (s : State) (h : k ≠ K.limitLimitState) : s.showLimits.get k = s.get k :=
  State.get_put_other _ _ _ _ h

theorem State.showLimits_state (s : State) : s.showLimits.getN K.limitLimitState =
    bitsOf [s.chn.lowTrip, s.chn.highTrip, s.chn.tempTrip, s.chn.staleBlock] :=
  State.getN_put_natCast _ _ _

/-- What shows the stale map may end a stale block; of the rest of the chain it changes objects alone. -/
theorem State.showStale_same {β : Type} (g : State → β) (s : State)
    (hput : ∀ (k : Nat) (v : Int) (t : State), g (t.put k v) = g t)
    (hblock : ∀ t : State, g (t.modChain (fun c => { c with staleBlock := false, staleSaid := false })) = g t) :
    g s.showStale = g s :=
  (hput _ _ _).trans ((State.when_same g _ _ (hblock _)).trans ((hput _ _ _).trans (hput _ _ _)))

theorem State.showStale_outbox (s : State) : s.showStale.outbox = s.outbox :=
  s.showStale_same State.outbox (fun _ _ _ => rfl) fun _ => rfl

theorem State.showStale_units (s : State) : s.showStale.chn.units = s.chn.units :=
  s.showStale_same (fun t => t.chn.units) (fun _ _ _ => rfl) fun _ => rfl

theorem State.get_showStale {k : Nat} (s : State) (h1 : k ≠ K.chainStaleMap) (h2 : k ≠ K.chainUnitsReached)
    (h3 : k ≠ K.limitLimitState) : s.showStale.get k = s.get k :=
  (State.get_showLimits _ h3).trans ((State.when_same (fun t => t.get k) _ _ rfl).trans
    ((State.get_put_other _ _ _ _ h2).trans (State.get_put_other _ _ _ _ h1)))

/-! ### Breaks (R286) -/

theorem State.judgeBreaks_outbox (s : State) : s.judgeBreaks.outbox = s.outbox := by
  unfold State.judgeBreaks
  extract_lets lostA lostB stale after s'
  have hs' : s'.outbox = s.outbox := State.showStale_outbox _
  split
  · split
    · rfl
    · exact State.raise_outbox _ _ _
  · split
    · exact hs'
    · exact (State.raise_outbox _ _ _).trans hs'

/-- A chain that is not BROKEN becomes SEGMENTED where a unit is out of reach of both ends, BROKEN where none is. -/
theorem State.judgeBreaks_state {s : State} (h : s.chainIs 3 = false) : s.judgeBreaks.getN K.chainChainState =
    if s.configured.any (fun v => (s.cunit v).missA && (s.cunit v).missB) then 4 else 3 := by
  unfold State.judgeBreaks
  extract_lets lostA lostB stale after s'
  have hs' : s'.getN K.chainChainState = 4 :=
    (State.getN_congr (State.get_showStale _ (by decide) (by decide) (by decide))).trans
      ((State.getN_put_other (by decide)).trans (State.getN_put_natCast _ 4 _))
  have hstale : stale.isEmpty = !s.configured.any (fun v => (s.cunit v).missA && (s.cunit v).missB) := by
    rw [Bool.eq_iff_iff]
    simp [stale]
  rw [hstale]
  cases s.configured.any (fun v => (s.cunit v).missA && (s.cunit v).missB) with
  | false =>
    rw [Bool.not_false, if_pos rfl, if_neg Bool.false_ne_true,
      if_neg fun hbroken => absurd (h.symm.trans hbroken.1) Bool.false_ne_true]
    exact (State.getN_congr (State.get_raise _ _ _ _ (by decide))).trans
      ((State.getN_put_other (by decide)).trans (State.getN_put_natCast _ 3 _))
  | true =>
    rw [Bool.not_true, if_neg Bool.false_ne_true, if_pos rfl]
    split
    · exact hs'
    · exact (State.getN_congr (State.get_raise _ _ _ _ (by decide))).trans hs'

/-! ### Sleep (R283) -/

theorem State.get_unitSleeps_other {k : Nat} (u : Fin 32) (s : State) (h1 : k ≠ K.unitState u) (h2 : k ≠ K.unitBalancing u) :
    (s.unitSleeps u).get k = s.get k :=
  (State.get_put_other _ _ _ _ h2).trans (State.when_same (fun t => t.get k) _ _ (State.get_put_other _ _ _ _ h1))

theorem State.unitSleeps_outbox (u : Fin 32) (s : State) : (s.unitSleeps u).outbox = s.outbox :=
  State.when_same State.outbox _ _ rfl

/-- A RUNNING unit sleeps. -/
theorem State.unitSleeps_state {u : Fin 32} {s : State} (h : s.unitStateOf u = 3) : (s.unitSleeps u).unitStateOf u = 4 := by
  unfold State.unitSleeps
  rw [decide_eq_true h]
  exact (State.getN_put_other (unitObject_ne_of_mod _ _ (by decide))).trans (State.getN_put_natCast _ 4 _)

theorem State.unitSleeps_state_other {u v : Fin 32} (s : State) (h : v ≠ u) :
    (s.unitSleeps u).unitStateOf v = s.unitStateOf v :=
  State.getN_congr (State.get_unitSleeps_other _ _ (unitObject_ne h rfl) (unitObject_ne_of_mod _ _ (by decide)))

/-- Every RUNNING unit of a list sleeps. -/
theorem State.each_unitSleeps_state {l : List (Fin 32)} {v : Fin 32} {s : State} (hl : l.Nodup) (hv : v ∈ l)
    (h : s.unitStateOf v = 3) : (s.each l State.unitSleeps).unitStateOf v = 4 :=
  State.each_once (A := fun t => t.unitStateOf v = 3) (B := fun t => t.unitStateOf v = 4) hl hv h
    (fun _ hb _ ht => (State.unitSleeps_state_other _ hb.symm).trans ht) (fun _ ht => State.unitSleeps_state ht)
    (fun _ hb _ ht => (State.unitSleeps_state_other _ hb.symm).trans ht)

theorem State.sleepAll_outbox (s : State) : s.sleepAll.outbox = (s.chainBroadcast 9 []).outbox :=
  State.each_same State.outbox _ fun _ _ _ => State.unitSleeps_outbox _ _

end Sys2Proof.Machine
end

section
/-! Sweeps on their way out (R280, R282, R293): results that a third sweep loses, and the sweep that takes the next id. -/

namespace Sys2Proof.Machine

/-! ### A third sweep -/

/-- What is as it was when a sweep's frame is about to leave: what has been sent, the times, the number of the next frame, and
the objects but a counter and those of causes. -/
structure SweepKept (s t : State) : Prop where
  outbox : t.outbox = s.outbox
  time : t.time = s.time
  nextSeq : t.chn.nextSeq = s.chn.nextSeq
  get : ∀ k, k ≠ K.chainSweepsIncomplete → noting k = false → t.get k = s.get k

/-- The loss of the oldest sweep's results leaves the next id and the sweeps to be sent as well. -/
structure OldestLost (s t : State) : Prop extends SweepKept s t where
  nextId : t.chn.nextId = s.chn.nextId
  unsent : ∀ x ∈ s.chn.sweeps, x.sent = false → x ∈ t.chn.sweeps

theorem State.mem_modSweep {id : Nat} {f : Sweep → Sweep} {s : State} {x : Sweep} (hx : x ∈ s.chn.sweeps)
    (hunsent : x.sent = false) : x ∈ (s.modSweep id f).chn.sweeps :=
  List.mem_map.2 ⟨x, hx, if_neg fun h => absurd (hunsent.symm.trans h.1) Bool.false_ne_true⟩

theorem State.loseOldest_lost (s : State) : OldestLost s s.loseOldest := by
  unfold State.loseOldest
  split
  · next x _ _ _ =>
    refine State.when_preserves (P := OldestLost s) _ ⟨⟨rfl, rfl, rfl, fun _ _ _ => rfl⟩, rfl,
      fun _ => State.mem_modSweep⟩ fun h => ?_
    have hnoted := (State.inc_noted K.chainSweepsIncomplete (s.modSweep x.id s.missRest)).trans
      (State.raise_noted Cause.sweepIncomplete (args0 [(x.id, 2)]) _)
    exact ⟨⟨hnoted.outbox.trans h.outbox, hnoted.time.trans h.time, (congrArg _ hnoted.chn).trans h.nextSeq,
      fun k hk hnote => (State.get_raise _ _ _ _ hnote).trans ((State.get_inc_other _ _ _ hk).trans (h.get k hk hnote))⟩,
      (congrArg _ hnoted.chn).trans h.nextId, fun y hy hunsent => hnoted.chn ▸ h.unsent y hy hunsent⟩
  · exact ⟨⟨rfl, rfl, rfl, fun _ _ _ => rfl⟩, rfl, fun _ hx _ => hx⟩

/-! ### The due sweep takes the next id -/

/-- The due sweep as it is sent. -/
def State.numbered (s : State) (x : Sweep) : Sweep := { x with id := (s.chn.nextId + 1) % 65536, sent := true }

/-- The due sweep takes its id; one of kind 3 or 4 tests every unit within reach. -/
def State.sweepTaken (x : Sweep) (s : State) : State :=
  let id := (s.chn.nextId + 1) % 65536
  (s.modChain (fun c => { c with
    nextId := id, sweeps := c.sweeps.map (fun z => if z = x then s.numbered x else z) })).when (decide (3 ≤ x.kind)) (fun t =>
      t.each (t.configured.filter (fun u => !t.isStale u)) (fun u =>
        State.modUnit u (fun z => { z with testOn := some (id, x.sample + testTime x.kind) })))

theorem exec_sweep_due {s : State} {x : Sweep} (h : s.dueSweep = some x) : exec .sweep s =
    .next ((s.loseOldest.sweepTaken x).chainBroadcast 2
      ((s.loseOldest.numbered x).payload (s.loseOldest.sweepTaken x).chainTime)) := by
  show execSweep s = _
  unfold execSweep
  rw [h]
  rfl

/-- Taking the sweep leaves what neither the list of sweeps nor a unit's test moves. -/
theorem State.sweepTaken_same {β : Type} (g : State → β) (x : Sweep) (s : State)
    (hlist : ∀ n l, g (s.modChain (fun c => { c with nextId := n, sweeps := l })) = g s)
    (hunit : ∀ u f t, g (State.modUnit u f t) = g t) : g (s.sweepTaken x) = g s :=
  (State.when_same g _ _ (State.each_same g _ fun u _ t => hunit u _ t)).trans (hlist _ _)

theorem State.sweepTaken_kept (x : Sweep) (s : State) : SweepKept s (s.loseOldest.sweepTaken x) where
  outbox := (State.sweepTaken_same State.outbox x _ (fun _ _ => rfl) fun _ _ _ => rfl).trans s.loseOldest_lost.outbox
  time := (State.sweepTaken_same State.time x _ (fun _ _ => rfl) fun _ _ _ => rfl).trans s.loseOldest_lost.time
  nextSeq := (State.sweepTaken_same (fun t => t.chn.nextSeq) x _ (fun _ _ => rfl) fun _ _ _ => rfl).trans
    s.loseOldest_lost.nextSeq
  get k hk hnote := (State.sweepTaken_same (fun t => t.get k) x _ (fun _ _ => rfl) fun _ _ _ => rfl).trans
    (s.loseOldest_lost.get k hk hnote)

theorem State.mem_sweepTaken {s : State} {x : Sweep} (h : x ∈ s.chn.sweeps) : s.numbered x ∈ (s.sweepTaken x).chn.sweeps := by
  have hlist : (s.sweepTaken x).chn.sweeps = s.chn.sweeps.map (fun z => if z = x then s.numbered x else z) :=
    State.when_same (fun t => t.chn.sweeps) _ _ (State.each_same (fun t => t.chn.sweeps) _ fun _ _ _ => rfl)
  rw [hlist]
  exact List.mem_map.2 ⟨x, h, if_pos rfl⟩

theorem State.dueSweep_mem {s : State} {x : Sweep} (h : s.dueSweep = some x) : x ∈ s.chn.sweeps ∧ x.sent = false := by
  refine ⟨List.mem_of_find?_eq_some h, ?_⟩
  have hdue := List.find?_some h
  simpa using (Bool.and_eq_true_iff.1 hdue).1

theorem broadcastSent_from {s u t : State} {type : Nat} {payload : List Byte} (h : broadcastSent u t type payload)
    (hsent : u.outbox = s.outbox) (hseq : u.chn.nextSeq = s.chn.nextSeq)
    (hstate : u.get K.chainChainState = s.get K.chainChainState) : broadcastSent s t type payload := by
  unfold broadcastSent State.chainLine at *
  rwa [hsent, hseq, State.chainIs_congr hstate, State.chainIs_congr hstate] at h

end Sys2Proof.Machine
end

section
/-! What each command of the chain does at the master (R268 to R297). -/

namespace Sys2Proof.Machine

/-! ### CONFIG shows the hops of its unit (R274) -/

/-- The hops of a unit are shown before it is configured. -/
def State.hopsShown (u : Fin 32) (s : State) : State :=
  (s.put (K.unitHopsFromCHA u) (u.val + 1 : Nat)).put (K.unitHopsFromCHB u) (s.unitCount - u.val : Nat)

theorem State.get_hopsShown {k : Nat} (u : Fin 32) (s : State) (h : k < 0x610101) : (s.hopsShown u).get k = s.get k :=
  (State.get_put_other _ _ _ _ (ne_unitObject _ h (by decide))).trans
    (State.get_put_other _ _ _ _ (ne_unitObject _ h (by decide)))

theorem State.hopsShown_hopOf (u v : Fin 32) (a : Bool) (s : State) : (s.hopsShown u).hopOf v a = s.hopOf v a := by
  unfold State.hopOf
  rw [State.unitCount_congr (State.get_hopsShown u s (by decide))]

theorem State.hopsShown_configPayload (u v : Fin 32) (s : State) : (s.hopsShown u).configPayload v = s.configPayload v := by
  have hget : ∀ k, k < 0x610101 → (s.hopsShown u).get k = s.get k := fun k => State.get_hopsShown u s
  unfold State.configPayload State.unitCount State.getN
  simp only [hget _ (show K.chainUnitsConfigured < 0x610101 by decide), hget _ (show K.chainLoopDelay < 0x610101 by decide),
    hget _ (show K.chainCheckInterval < 0x610101 by decide), hget _ (show K.chainCommunicationLossTimeout < 0x610101 by decide),
    hget _ (show K.limitCellTripLow < 0x610101 by decide), hget _ (show K.limitCellTripHigh < 0x610101 by decide),
    hget _ (show K.limitTemperatureTrip < 0x610101 by decide)]

theorem exec_config (a : Bool) (u : Fin 32) (s : State) : exec (.config a u) s =
    .next ((s.hopsShown u).chainCommand a u 5 0 ((s.hopsShown u).configPayload u)) := rfl

/-! ### A unit's transfer ends -/

/-- The unit's balancing word is shown, and the transfers that are active. -/
def State.transferShown (u : Fin 32) (word : Int) (s : State) : State := (s.put (K.unitBalancing u) word).showTransfers

theorem State.get_transferShown (u : Fin 32) (word : Int) (s : State) :
    (s.transferShown u word).get (K.unitBalancing u) = word :=
  (State.get_showTransfers _ (ne_unitObject _ (by decide) (by decide)).symm).trans (State.get_put_same _ _ _)

theorem State.get_transferShown_other {k : Nat} (u : Fin 32) (word : Int) (s : State) (h1 : k ≠ K.balTransfersActive)
    (h2 : k ≠ K.unitBalancing u) : (s.transferShown u word).get k = s.get k :=
  (State.get_showTransfers _ h1).trans (State.get_put_other _ _ _ _ h2)

/-- A transfer that nothing forbids is ordered (R296). -/
theorem State.balance_orders {s : State} (a : Bool) {u : Fin 32} {k : Fin 16} {sw : Bool} (n : Nat)
    (henable : s.getB K.balBalancingEnable = true) (hfree : s.inhibited u k sw = false) (hruns : s.unitStateOf u = 3) :
    s.balance a u (some (k, sw)) n = (s.chainCommand a u 6 0 (payBalance k (if sw then 0 else 1) (min n 65535))).transferShown u
      ((k.val + (if sw then 0 else 16) + 32768 : Nat) : Int) := by
  unfold State.balance
  dsimp only
  rw [if_neg (by simp [henable, hfree, hruns])]
  rfl

/-! ### TEST takes the next sweep id (R293) -/

/-- The next sweep id is taken. -/
def State.idTaken (s : State) : State := s.modChain (fun c => { c with nextId := (s.chn.nextId + 1) % 65536 })

/-- A test is ordered on a unit under the next sweep id. -/
def State.testAsked (a : Bool) (u : Fin 32) (kind : Nat) (s : State) : State :=
  s.idTaken.chainCommand a u 7 0 (payTest kind ((s.chn.nextId + 1) % 65536))

/-- A test runs on a unit under an id until a fabric time. -/
def State.testBegun (u : Fin 32) (id ends : Nat) (s : State) : State :=
  s.modUnit u (fun x => { x with testing := none, testOn := some (id, ends) })

theorem State.cunit_testBegun (u : Fin 32) (id ends : Nat) (s : State) :
    (s.testBegun u id ends).cunit u = { s.cunit u with testing := none, testOn := some (id, ends) } :=
  State.cunit_modUnit_same _ _ _

theorem exec_chainTest (a : Bool) (u : Fin 32) (sw : Bool) (s : State) : exec (.chainTest a u sw) s =
    .next (((s.testAsked a u (if sw then 4 else 3)).testBegun u ((s.chn.nextId + 1) % 65536)
      ((s.testAsked a u (if sw then 4 else 3)).ft + testTime (if sw then 4 else 3))).transferShown u 0) := rfl

theorem State.testAsked_ft (a : Bool) (u : Fin 32) (kind : Nat) (s : State) : (s.testAsked a u kind).ft = s.ft := by
  have htime : (s.testAsked a u kind).time = s.time := (State.chainCommand_kept _ _ _ _ _ s.idTaken).time
  unfold State.ft
  rw [htime]

theorem testTime_switches (sw : Bool) : testTime (if sw then 4 else 3) = if sw then 400000000 else 34000000 := by
  cases sw <;> rfl

/-! ### The commands -/

section
variable {s : State} (hmaster : s.getB K.chainChainMaster = true) (a : Bool) (u : Fin 32)
include hmaster

theorem enum_does : Does (.enum a u) s (fun t => chainSent s t a 4 (s.hopOf u a) [] ∧
    ∃ c ∈ t.chn.cmds, c.unit_ = u ∧ c.type = 4 ∧ c.retried = false ∧ c.seq = s.chn.nextSeq ∧
      c.due = responseDue s.now 0 (s.hopOf u a)) :=
  .of_next (congrArg Host.Outcome.next (State.chainCommand_master hmaster a u 4 0 []))
    ⟨rfl, s.awaited a u 4 0 [], List.mem_append_right _ List.mem_cons_self, rfl, rfl, rfl, rfl, rfl⟩

theorem config_does : Does (.config a u) s (fun t => chainSent s t a 5 (s.hopOf u a) (s.configPayload u) ∧
    t.getN (K.unitHopsFromCHA u) = u + 1 ∧ t.getN (K.unitHopsFromCHB u) = s.unitCount - u) := by
  have hmaster' : (s.hopsShown u).getB K.chainChainMaster = true :=
    (State.getB_congr (State.get_hopsShown u s (by decide))).trans hmaster
  have hsent := State.chainCommand_outbox hmaster' a u 5 0 ((s.hopsShown u).configPayload u)
  have hkept : ∀ k, ((s.hopsShown u).chainCommand a u 5 0 ((s.hopsShown u).configPayload u)).getN k = (s.hopsShown u).getN k :=
    fun k => State.getN_congr ((State.chainCommand_kept _ _ _ _ _ _).get k)
  refine .of_next (exec_config a u s) ⟨?_, (hkept _).trans ?_, (hkept _).trans (State.getN_put_natCast _ _ _)⟩
  · refine hsent.trans ?_
    rw [State.hopsShown_hopOf, State.hopsShown_configPayload]
    rfl
  · exact (State.getN_put_other (unitObject_ne_of_mod _ _ (by decide))).trans (State.getN_put_natCast _ _ _)

theorem chainTest_does (sw : Bool) : Does (.chainTest a u sw) s (fun t =>
    chainSent s t a 7 (s.hopOf u a) (payTest (if sw then 4 else 3) ((s.chn.nextId + 1) % 65536)) ∧ (t.cunit u).testing = none ∧
    (t.cunit u).testOn = some ((s.chn.nextId + 1) % 65536, s.ft + (if sw then 400000000 else 34000000)) ∧
    t.get (K.unitBalancing u) = 0) := by
  have hunit := State.cunit_testBegun u ((s.chn.nextId + 1) % 65536)
    ((s.testAsked a u (if sw then 4 else 3)).ft + testTime (if sw then 4 else 3)) (s.testAsked a u (if sw then 4 else 3))
  refine .of_next (exec_chainTest a u sw s) ⟨State.chainCommand_outbox (s := s.idTaken) hmaster a u 7 0 _,
    congrArg UnitSt.testing hunit, (congrArg UnitSt.testOn hunit).trans ?_, State.get_transferShown u 0 _⟩
  rw [State.testAsked_ft, testTime_switches]

theorem chainLoad_unit_does (off total : Nat) (data : List Byte) : Does (.chainLoad a (some u) off total data) s (fun t =>
    chainSent s t a 8 (s.hopOf u a) (payLoad off total data)) :=
  .of_next rfl (State.chainSend_outbox (s := s.modUnit u _) hmaster a 8 (s.hopOf u a) 0 _)

omit u in
theorem chainLoad_all_does (off total : Nat) (data : List Byte) : Does (.chainLoad a none off total data) s (fun t =>
    chainSent s t a 8 0 (payLoad off total data)) :=
  .of_next rfl (State.chainSend_outbox hmaster a 8 0 0 _)

theorem balance_stop_does (n : Nat) : Does (.balance a u none n) s (fun t =>
    chainSent s t a 6 (s.hopOf u a) (payBalance 255 0 0) ∧ t.get (K.unitBalancing u) = 0) :=
  .of_next rfl ⟨State.chainCommand_outbox hmaster a u 6 0 _, State.get_transferShown u 0 _⟩

theorem balance_start_does (n : Nat) {k : Fin 16} {sw : Bool} (henable : s.getB K.balBalancingEnable = true)
    (hfree : s.inhibited u k sw = false) (hruns : s.unitStateOf u = 3) :
    Does (.balance a u (some (k, sw)) n) s (fun t =>
      chainSent s t a 6 (s.hopOf u a) (payBalance k (if sw then 0 else 1) (min n 65535)) ∧
      t.getN (K.unitBalancing u) = k + (if sw then 0 else 16) + 32768) :=
  .of_next (congrArg Host.Outcome.next (State.balance_orders a n henable hfree hruns))
    ⟨State.chainCommand_outbox hmaster a u 6 0 _, State.getN_of_get (State.get_transferShown u _ _)⟩

theorem chainRead_test_does {id e : Nat} (hend : s.readEnd u = some a) (htest : (s.cunit u).testOn = some (id, e))
    (hover : e ≤ s.ft) :
    Does (.chainRead a u) s (fun t => t.outbox = .chain a (s.chainLine 3 (s.hopOf u a) 2 (leBytes 2 id)) :: s.outbox) := by
  refine .of_next (t := s.chainCommand a u 3 2 (leBytes 2 id)) ?_ (State.chainCommand_outbox hmaster a u 3 2 _)
  have hdone : (s.cunit u).testOn.filter (fun t => decide (t.2 ≤ s.ft)) = some (id, e) := by
    rw [htest]
    exact if_pos (decide_eq_true hover)
  show execChainRead a u s = _
  unfold execChainRead
  rw [if_neg (not_not_intro hend), hdone]

theorem chainRead_sweep_does {x : Sweep} (hend : s.readEnd u = some a) (hnone : ∀ p, (s.cunit u).testOn = some p → s.ft < p.2)
    (hfind : s.sentSweeps.find? (fun y => (y.marks[u]).isNone && !y.testOnly) = some x) (hready : x.readyAt ≤ s.ft)
    (hnear : s.nearest a u x = true) :
    Does (.chainRead a u) s (fun t => chainSent s t a 3 (s.hopOf u a) (leBytes 2 x.id)) := by
  have hover : (s.cunit u).testOn.filter (fun t => decide (t.2 ≤ s.ft)) = none :=
    Option.filter_eq_none_iff.2 fun p hp => by simpa using hnone p hp
  refine .of_next (t := s.chainCommand a u 3 0 (leBytes 2 x.id)) ?_ (State.chainCommand_outbox hmaster a u 3 0 _)
  show execChainRead a u s = _
  unfold execChainRead
  rw [if_neg (not_not_intro hend), hover]
  dsimp only
  rw [hfind]
  exact if_pos ⟨hready, hnear⟩

omit a in
theorem sleep_unit_does : Does (.sleep (some u)) s (fun t =>
    chainSent s t ((s.readEnd u).getD true) 9 (s.hopOf u ((s.readEnd u).getD true)) [] ∧ t.get (K.unitBalancing u) = 0 ∧
    (s.unitStateOf u = 3 → t.unitStateOf u = 4)) := by
  have hsent := State.chainSend_outbox hmaster ((s.readEnd u).getD true) 9 (s.hopOf u ((s.readEnd u).getD true)) 0 []
  refine .of_next (t := (State.unitSleeps u (s.chainSend _ 9 _ 0 [])).showTransfers) rfl
    ⟨(State.unitSleeps_outbox u _).trans hsent, State.get_transferShown u 0 _, fun hruns => ?_⟩
  refine (State.getN_congr (State.get_showTransfers _ (ne_unitObject _ (by decide) (by decide)).symm)).trans
    (State.unitSleeps_state ((State.getN_congr ?_).trans hruns))
  exact (State.chainSend_kept _ _ _ _ _ s).get _

omit a u in
theorem sleep_all_does : Does (.sleep none) s (fun t => broadcastSent s t 9 [] ∧ t.chainIs 5 = true ∧
    ∀ v ∈ s.configured, s.unitStateOf v = 3 → t.unitStateOf v = 4) := by
  refine .of_next (t := s.sleepAll) rfl ⟨?_, ?_, fun v hv hruns => ?_⟩
  · exact (State.sleepAll_outbox s).trans (State.chainBroadcast_sent hmaster 9 [])
  · exact State.chainIs_iff.2 ((State.getN_congr (State.get_showTransfers _ (by decide))).trans (State.getN_put_natCast _ 5 _))
  · have hslept := State.each_unitSleeps_state s.configured_nodup hv
      ((State.getN_congr ((State.chainBroadcast_kept 9 [] s).get (K.unitState v))).trans hruns)
    refine (State.getN_congr ((State.get_showTransfers _ ?_).trans (State.get_put_other _ _ _ _ ?_))).trans hslept <;>
      exact (ne_unitObject _ (by decide) (by decide)).symm

omit a u in
theorem loopSend_does (hstate : s.chainIs 1 = true ∨ s.chainIs 3 = true ∨ s.chainIs 4 = true) (hdue : s.chn.loopAt ≤ s.now) :
    Does .loopSend s (fun t => chainSent s t true 10 255 (payTime s.chainTime) ∧ t.chn.loopOk = false) := by
  have hcond : ((s.chainIs 1 || s.chainIs 3 || s.chainIs 4) && decide (s.chn.loopAt ≤ s.now)) = true := by
    rw [decide_eq_true hdue, Bool.and_true]
    simpa [or_assoc] using hstate
  have hexec : exec .loopSend s =
      .next ((s.modChain (fun c => { c with loopOk := false, loopAt := s.now + sec })).chainSend true 10 255 0
        (payTime s.chainTime)) := congrArg (fun b => Host.Outcome.next (State.when b _ _)) hcond
  exact .of_next hexec ⟨State.chainSend_outbox (s := s.modChain _) hmaster true 10 255 0 _,
    (State.chainSend_kept _ _ _ _ _ _).loopOk⟩

omit a u in
theorem chainSync_does : Does .chainSync s (fun t => broadcastSent s t 1 (payTime s.chainTime) ∧ (s.chainIs 1 = true →
    t.getN K.chainChainState = if s.chn.loopOk then 2
      else if s.configured.any (fun v => (s.cunit v).missA && (s.cunit v).missB) then 4 else 3)) := by
  have hkept := State.chainBroadcast_kept 1 (payTime s.chainTime) s
  have hsent := State.chainBroadcast_sent hmaster 1 (payTime s.chainTime)
  generalize hb : s.chainBroadcast 1 (payTime s.chainTime) = b at hkept hsent
  refine .of_next (t := b.when (b.chainIs 1) (fun s => if s.chn.loopOk then s.put K.chainChainState 2 else s.judgeBreaks))
    (by rw [← hb]; rfl) ⟨?_, fun hup => ?_⟩
  · refine (State.when_same State.outbox _ _ ?_).trans hsent
    split
    · rfl
    · exact State.judgeBreaks_outbox _
  · have hstate : ∀ v, b.chainIs v = s.chainIs v := State.chainIs_congr (hkept.get _)
    have hmiss : ∀ v, b.cunit v = s.cunit v := hkept.cunit
    have hconf : b.configured = s.configured := by
      unfold State.configured
      rw [State.unitCount_congr (hkept.get _)]
    rw [hstate, hup, State.when_true, hkept.loopOk]
    split
    · exact State.getN_put_natCast _ 2 _
    · have hring : s.chainIs 3 = false := decide_eq_false (by rw [State.chainIs_iff.1 hup]; decide)
      rw [State.judgeBreaks_state ((hstate 3).trans hring), hconf]
      simp only [hmiss]

omit a u in
theorem sweep_does {x : Sweep} (hdue : s.dueSweep = some x) : Does .sweep s (fun t =>
    broadcastSent s t 2 (({ x with id := (s.chn.nextId + 1) % 65536 } : Sweep).payload s.chainTime) ∧
    ∃ y ∈ t.chn.sweeps, y.sent = true ∧ y.id = (s.chn.nextId + 1) % 65536 ∧ y.sample = x.sample ∧ y.kind = x.kind) := by
  have hlost := s.loseOldest_lost
  have hkept := s.sweepTaken_kept x
  obtain ⟨hmem, hunsent⟩ := State.dueSweep_mem hdue
  have hmaster' := (State.getB_congr (hkept.get _ (by decide) (by decide))).trans hmaster
  have hsent := State.chainBroadcast_sent hmaster' 2 ((s.loseOldest.numbered x).payload (s.loseOldest.sweepTaken x).chainTime)
  refine .of_next (exec_sweep_due hdue) ⟨?_, s.loseOldest.numbered x, ?_, rfl, ?_, rfl, rfl⟩
  · have hpay : (s.loseOldest.numbered x).payload (s.loseOldest.sweepTaken x).chainTime =
        ({ x with id := (s.chn.nextId + 1) % 65536 } : Sweep).payload s.chainTime := by
      rw [State.chainTime_congr hkept.time, ← hlost.nextId]
      rfl
    rw [← hpay]
    exact broadcastSent_from hsent hkept.outbox hkept.nextSeq (hkept.get _ (by decide) (by decide))
  · rw [(State.chainBroadcast_kept _ _ _).sweeps]
    exact State.mem_sweepTaken (hlost.unsent x hmem hunsent)
  · rw [← hlost.nextId]
    rfl

omit a u in
theorem sweepResend_does {x : Sweep} (hring : s.chainIs 2 = true) (hlast : s.sentSweeps.getLast? = some x) :
    Does .sweepResend s (fun t => chainSent s t false 2 0 (x.payload s.chainTime)) := by
  refine .of_next (t := s.chainSend false 2 0 0 (x.payload s.chainTime)) ?_ (State.chainSend_outbox hmaster false 2 0 0 _)
  show execSweepResend s = _
  unfold execSweepResend
  rw [hlast]
  exact congrArg (fun b => Host.Outcome.next (State.when b _ _)) hring

end

end Sys2Proof.Machine
end

section
/-! At a module that is not chain master no command sends a frame (R268). -/

namespace Sys2Proof.Machine

section
variable {s : State} (hlisten : s.getB K.chainChainMaster = false) (a : Bool) (u : Fin 32)
include hlisten

theorem State.chainCommand_quiet {t : State} (hget : t.get K.chainChainMaster = s.get K.chainChainMaster)
    (hout : t.outbox = s.outbox) (type flags : Nat) (payload : List Byte) :
    (t.chainCommand a u type flags payload).outbox = s.outbox := by
  rw [State.chainCommand_listener ((State.getB_congr hget).trans hlisten), hout]

omit u in
theorem State.chainSend_quiet {t : State} (hget : t.get K.chainChainMaster = s.get K.chainChainMaster)
    (hout : t.outbox = s.outbox) (type hop flags : Nat) (payload : List Byte) :
    (t.chainSend a type hop flags payload).outbox = s.outbox := by
  rw [State.chainSend_listener ((State.getB_congr hget).trans hlisten), hout]

theorem config_quiet : Does (.config a u) s (fun t => t.outbox = s.outbox) :=
  .of_next (exec_config a u s) (State.chainCommand_quiet hlisten a u (State.get_hopsShown u s (by decide)) rfl _ _ _)

theorem balance_quiet (cell : Option (Fin 16 × Bool)) (n : Nat) :
    Does (.balance a u cell n) s (fun t => t.outbox = s.outbox) := by
  refine .of_next (t := s.balance a u cell n) rfl ?_
  unfold State.balance
  split
  · exact State.chainCommand_quiet hlisten a u rfl rfl _ _ _
  · split
    · rfl
    · exact State.chainCommand_quiet hlisten a u rfl rfl _ _ _

theorem chainRead_quiet : Does (.chainRead a u) s (fun t => t.outbox = s.outbox) := by
  show ∃ t, execChainRead a u s = .next t ∧ t.outbox = s.outbox
  unfold execChainRead
  split
  · exact ⟨s, rfl, rfl⟩
  · split
    · exact ⟨_, rfl, State.chainCommand_quiet hlisten a u rfl rfl _ _ _⟩
    · split
      · split
        · exact ⟨_, rfl, State.chainCommand_quiet hlisten a u rfl rfl _ _ _⟩
        · exact ⟨s, rfl, rfl⟩
      · exact ⟨s, rfl, rfl⟩

theorem sleep_quiet (v : Option (Fin 32)) : Does (.sleep v) s (fun t => t.outbox = s.outbox) := by
  cases v with
  | some v =>
    exact .of_next rfl ((State.unitSleeps_outbox v _).trans (State.chainSend_quiet hlisten _ rfl rfl _ _ _ _))
  | none =>
    exact .of_next rfl ((State.sleepAll_outbox s).trans (congrArg State.outbox (State.chainBroadcast_listener hlisten _ _)))

theorem loopSend_quiet : Does .loopSend s (fun t => t.outbox = s.outbox) :=
  .of_next rfl (State.when_same State.outbox _ _
    (State.chainSend_quiet (t := s.modChain _) hlisten true rfl rfl _ _ _ _))

theorem chainSync_quiet : Does .chainSync s (fun t => t.outbox = s.outbox) := by
  refine .of_next rfl ((State.when_same State.outbox _ _ ?_).trans
    (congrArg State.outbox (State.chainBroadcast_listener hlisten _ _)))
  split
  · rfl
  · exact State.judgeBreaks_outbox _

theorem sweep_quiet : Does .sweep s (fun t => t.outbox = s.outbox) := by
  cases hdue : s.dueSweep with
  | none =>
    refine .of_next (t := s) ?_ rfl
    show execSweep s = _
    unfold execSweep
    rw [hdue]
  | some x =>
    have hkept := s.sweepTaken_kept x
    refine .of_next (exec_sweep_due hdue) ?_
    rw [State.chainBroadcast_listener ((State.getB_congr (hkept.get _ (by decide) (by decide))).trans hlisten)]
    exact hkept.outbox

theorem sweepResend_quiet : Does .sweepResend s (fun t => t.outbox = s.outbox) := by
  show ∃ t, execSweepResend s = .next t ∧ t.outbox = s.outbox
  unfold execSweepResend
  split
  · exact ⟨_, rfl, State.when_same State.outbox _ _ (State.chainSend_quiet hlisten false rfl rfl _ _ _ _)⟩
  · exact ⟨s, rfl, rfl⟩

end

end Sys2Proof.Machine
end

section
/-! O36: the clauses together. -/

namespace Sys2Proof.Machine

/-- Settles O36: at a listener no frame leaves; at the master each clause is the lemma on its command above. -/
theorem chainFramesLeaveTheMaster : Obligations.ChainFramesLeaveTheMaster := by
  intro s a u k off total ms_ data sw hop end_
  refine ⟨fun hlisten => ?listener, fun hmaster => ⟨enum_does hmaster a u, config_does hmaster a u,
    chainTest_does hmaster a u sw, chainLoad_unit_does hmaster a u off total data, chainLoad_all_does hmaster a off total data,
    balance_stop_does hmaster a u ms_, balance_start_does hmaster a u ms_, fun id e => chainRead_test_does hmaster a u,
    fun x => chainRead_sweep_does hmaster a u, sleep_unit_does hmaster u, sleep_all_does hmaster, loopSend_does hmaster,
    chainSync_does hmaster, fun x => sweep_does hmaster, fun x => sweepResend_does hmaster⟩⟩
  case listener =>
    simp only [List.forall_mem_cons, List.not_mem_nil, false_implies, implies_true, and_true]
    exact ⟨.of_next rfl (State.chainCommand_quiet hlisten a u rfl rfl _ _ _), config_quiet hlisten a u,
      .of_next rfl (State.chainCommand_quiet (t := s.idTaken) hlisten a u rfl rfl _ _ _),
      .of_next rfl (State.chainSend_quiet (t := s.modUnit u _) hlisten a rfl rfl _ _ _ _),
      .of_next rfl (State.chainSend_quiet hlisten a rfl rfl _ _ _ _),
      balance_quiet hlisten a u _ _, balance_quiet hlisten a u _ _, chainRead_quiet hlisten a u, sleep_quiet hlisten _,
      sleep_quiet hlisten _, loopSend_quiet hlisten, chainSync_quiet hlisten, sweep_quiet hlisten, sweepResend_quiet hlisten⟩

end Sys2Proof.Machine
end

section
/-! What RECOVERY, once entered, leaves of the rest of the module (R305, R307, R309). -/

namespace Sys2Proof.Machine

/-- The objects that entering RECOVERY writes, but those that raising a cause does. -/
def recoveryShown : List Nat :=
  [K.testTestState, K.socMode, K.socEstimateFlags, K.quietDurationRequested, K.quietQuietRequest]

/-- They are objects of the estimator. -/
theorem recoveryShown_estimator : ∀ k ∈ recoveryShown, 0x620000 ≤ k := by decide

/-- A change of mode leaves what its five steps leave. -/
theorem State.setSocMode_same {β : Type} (g : State → β) (m : Nat) (s : State) (hmode : ∀ t, g (State.put K.socMode m t) = g t)
    (hsoc : ∀ f t, g (State.modSoc f t) = g t) (hpow : ∀ f t, g (State.modPow f t) = g t)
    (hflags : ∀ v t, g (State.put K.socEstimateFlags v t) = g t) (hraise : ∀ c a t, g (State.raise c a t) = g t) :
    g (s.setSocMode m) = g s := by
  unfold State.setSocMode
  extract_lets old s1 s2 s3
  split
  · rfl
  · exact (hraise _ _ _).trans ((hflags _ _).trans ((State.when_same g _ _ (hpow _ _)).trans ((hsoc _ _).trans (hmode _))))

theorem State.setSocMode_mode (m : Nat) (s : State) : (s.setSocMode m).getN K.socMode = m := by
  unfold State.setSocMode
  extract_lets old s1 s2 s3
  split
  · assumption
  · have hflags : (s3.socFlag 2 (inTaper m)).getN K.socMode = s3.getN K.socMode := State.getN_put_other (by decide)
    have htaper : s3.getN K.socMode = s1.getN K.socMode := State.when_same (fun t => t.getN K.socMode) _ _ rfl
    exact (State.getN_congr (State.get_raise _ _ _ _ (by decide))).trans
      (hflags.trans (htaper.trans (State.getN_put_natCast _ _ _)))

/-- A request for a quiet window leaves what its steps leave. -/
theorem State.requestQuiet_same {β : Type} (g : State → β) (s : State)
    (hput : ∀ k ∈ [K.quietDurationRequested, K.quietQuietRequest], ∀ v t, g (State.put k v t) = g t)
    (hsoc : ∀ f t, g (State.modSoc f t) = g t) (hraise : ∀ c a t, g (State.raise c a t) = g t) : g s.requestQuiet = g s := by
  unfold State.requestQuiet
  extract_lets s1 s2
  have hs2 : g s2 = g s := (State.when_same g _ _ (hput _ (by decide) _ _)).trans (hput _ (by decide) _ _)
  split
  · exact hs2
  · exact (hraise _ _ _).trans ((hsoc _ _).trans hs2)

/-- Entering RECOVERY leaves what its steps leave. -/
theorem State.enterRecovery_same {β : Type} (g : State → β) (s : State)
    (hput : ∀ k ∈ recoveryShown, ∀ v t, g (State.put k v t) = g t) (hsoc : ∀ f t, g (State.modSoc f t) = g t)
    (hpow : ∀ f t, g (State.modPow f t) = g t) (hraise : ∀ c a t, g (State.raise c a t) = g t) : g s.enterRecovery = g s := by
  have habort : g s.abortTest = g s := by
    unfold State.abortTest
    split
    · exact (hraise _ _ _).trans ((hsoc _ _).trans (hput _ (by decide) _ _))
    · rfl
  have hmode : g (s.abortTest.setSocMode 4) = g s.abortTest := State.setSocMode_same g 4 _ (hput _ (by decide) _) hsoc hpow
    (hput _ (by decide)) hraise
  exact (State.requestQuiet_same g _ (fun k hk => hput k (List.mem_of_mem_drop (i := 3) hk)) hsoc hraise).trans
    (hmode.trans habort)

theorem State.enterRecovery_chn (s : State) : s.enterRecovery.chn = s.chn :=
  s.enterRecovery_same State.chn (fun _ _ _ _ => rfl) (fun _ _ => rfl) (fun _ _ => rfl) State.raise_chn

theorem State.get_enterRecovery_other {k : Nat} (s : State) (h : k ∉ recoveryShown) (hk : noting k = false) :
    s.enterRecovery.get k = s.get k :=
  s.enterRecovery_same (fun t => t.get k) (fun _ hj _ _ => State.get_put_other _ _ _ _ (ne_of_mem_of_not_mem hj h).symm)
    (fun _ _ => rfl) (fun _ _ => rfl) fun _ _ _ => State.get_raise _ _ _ _ hk

theorem State.enterRecovery_mode (s : State) : s.enterRecovery.getN K.socMode = 4 :=
  (State.requestQuiet_same (fun t => t.getN K.socMode) _
    (fun _ hk _ _ => State.getN_put_other (ne_of_mem_of_not_mem hk (by decide)).symm) (fun _ _ => rfl)
    fun _ _ _ => State.getN_congr (State.get_raise _ _ _ _ (by decide))).trans (State.setSocMode_mode 4 _)

end Sys2Proof.Machine
end

section
/-! Mastership, planned sweeps and the timers of the chain (R268, R280, R289, R293, R297). -/

namespace Sys2Proof.Machine

/-! ### CHAIN_MASTER_CHANGED (R268) -/

theorem chainMasterChanged_does {s : State} (hdue : s.masterDue = true) :
    Does .chainMasterChanged s (fun t => t.getB K.chainChainMaster = true) := by
  cases hmaster : s.getB K.chainChainMaster with
  | true => exact .of_next (if_neg (by simp [hmaster])) hmaster
  | false =>
    refine .of_next (if_pos ⟨hdue, by simp [hmaster]⟩) ?_
    have hwoken : ∀ t : State, (t.when (t.chainIs 1) State.chainWakeUp).get K.chainChainMaster = t.get K.chainChainMaster :=
      fun t => State.when_same (fun x => x.get K.chainChainMaster) _ _ ((State.chainWakeUp_kept t).get _)
    have hone : (s.put K.chainChainMaster 1).getB K.chainChainMaster = true := by
      unfold State.getB
      rw [State.get_put_same]
      rfl
    exact (State.getB_congr ((hwoken _).trans (State.get_raise0 _ _ _ (by decide)))).trans hone

/-! ### Sweeps that are planned (R280) -/

/-- The least multiple of a period at or after a time. -/
theorem multipleUp_spec {period : Nat} (t : Nat) (h : 0 < period) : (t + period - 1) / period * period % period = 0 ∧
    t ≤ (t + period - 1) / period * period ∧ (t + period - 1) / period * period < t + period := by
  refine ⟨Nat.mul_mod_left _ _, ?_, ?_⟩
  · have hdiv := Nat.div_add_mod' (t + period - 1) period
    have hmod := Nat.mod_lt (t + period - 1) h
    omega
  · have hle := Nat.div_mul_le_self (t + period - 1) period
    omega

theorem sweepPeriodic_does {s : State} (hnone : s.chn.sweeps = []) (hperiod : 0 < s.getN K.chainSweepPeriod * 1000000) :
    Does .sweepPeriodic s (fun t => ∃ x, t.chn.sweeps = [x] ∧ x.kind = 1 ∧ x.periodic = true ∧
      x.sample % (s.getN K.chainSweepPeriod * 1000000) = 0 ∧ s.ft + s.leadOf (s.kindFilter 1) ≤ x.sample ∧
      x.sample < s.ft + s.leadOf (s.kindFilter 1) + s.getN K.chainSweepPeriod * 1000000) := by
  refine .of_next rfl ?_
  unfold State.planSweep
  dsimp only
  rw [if_pos rfl, hnone, List.any_nil, if_neg Bool.false_ne_true, State.modChain_chn, hnone]
  exact ⟨_, rfl, rfl, rfl, multipleUp_spec _ hperiod⟩

theorem State.askSweep_planned (kind at_ : Nat) (s : State) : sweepPlanned s (s.askSweep kind at_) kind at_ :=
  ⟨_, List.mem_append_right _ List.mem_cons_self, rfl, rfl, rfl, tickUp_spec _⟩

theorem sweepRequest_does {s : State} {w : HostWrite} (h : s.takes K.chainSweepRequest w) :
    Does (.sweepRequest w) s (fun t => saidOk s t ∧ sweepPlanned s t w.num s.ft) := by
  have hvalue : (writtenValue K.chainSweepRequest w.bytes).toNat = w.num := by
    rw [writtenValue_unsigned w.bytes (by decide)]
    rfl
  refine .of_next (t := (s.askSweep w.num s.ft).send (.status 0)) (congrArg Host.Outcome.next (State.hostWrite_ok h ?_))
    ⟨rfl, s.askSweep_planned w.num s.ft⟩
  rw [hvalue]

theorem openWireInterval_does {s : State} (hon : s.getN K.chainOpenWireTestInterval ≠ 0)
    (hdue : s.chn.openWireAt + s.getN K.chainOpenWireTestInterval * 60 * 1000000000 ≤ s.now) :
    Does .openWireInterval s (fun t => t.chn.openWireAt = s.now ∧ sweepPlanned s t 3 s.ft) :=
  .of_next (if_pos ⟨hon, hdue⟩) ⟨rfl, State.askSweep_planned 3 s.ft (s.modChain _)⟩

theorem switchTestInterval_does {s : State} (hon : s.getN K.balSwitchTestInterval ≠ 0)
    (hdue : s.chn.switchAt = 0 ∨ s.chn.switchAt + s.getN K.balSwitchTestInterval * 3600 * 1000000000 ≤ s.now) :
    Does .switchTestInterval s (fun t => t.chn.switchAt = max s.now 1 ∧ sweepPlanned s t 4 s.ft) :=
  .of_next (if_pos ⟨hon, hdue.imp_left decide_eq_true⟩) ⟨rfl, State.askSweep_planned 4 s.ft (s.modChain _)⟩

end Sys2Proof.Machine
end

section
/-! Limits and the ring: trips that end, a stale chain, a ring that closes again (R285, R289, R290). -/

namespace Sys2Proof.Machine

/-! ### The limit state (0x6010.0B) -/

theorem bitsOf_testBit (l : List Bool) (i : Nat) : (bitsOf l).testBit i = l.getD i false := by
  induction l generalizing i with
  | nil => simp [bitsOf]
  | cons b rest ih =>
    cases i with
    | zero => cases b <;> simp [bitsOf, Nat.testBit_zero, Nat.add_mod]
    | succ i =>
      have hhalf : bitsOf (b :: rest) / 2 = bitsOf rest := by
        simp only [bitsOf]
        split <;> omega
      rw [Nat.testBit_succ, hhalf, ih, List.getD_cons_succ]

/-- A time that is noted, and a delay after it. -/
theorem since_due {o : Option Nat} {t0 d now : Nat} (hdue : t0 + d ≤ now) :
    o = some t0 → (match o with | some t => decide (t + d ≤ now) | none => false) = true := by
  rintro rfl
  exact decide_eq_true hdue

/-! ### CELL_LIMIT_RELEASED (R285) -/

/-- Is a trip in force: 0 low, 1 high, 2 temperature? -/
def State.trip (s : State) (j : Fin 3) : Bool :=
  match j.val with | 0 => s.chn.lowTrip | 1 => s.chn.highTrip | _ => s.chn.tempTrip

/-- Since when a trip's values have lain within the warning levels. -/
def State.tripOk (s : State) (j : Fin 3) : Option Nat :=
  match j.val with | 0 => s.chn.lowOk | 1 => s.chn.highOk | _ => s.chn.tempOk

/-- A trip ends. -/
def State.tripEnded (kind : Fin 3) (s : State) : State :=
  s.modChain (fun c => match kind.val with
    | 0 => { c with lowTrip := false }
    | 1 => { c with highTrip := false }
    | _ => { c with tempTrip := false })

theorem State.trip_tripEnded (kind j : Fin 3) (s : State) : (s.tripEnded kind).trip j = (decide (j ≠ kind) && s.trip j) := by
  fin_cases kind <;> fin_cases j <;> rfl

theorem State.trip_congr {s t : State} (h : t.chn = s.chn) (j : Fin 3) : t.trip j = s.trip j := by
  unfold State.trip
  rw [h]

theorem State.showLimits_trip (j : Fin 3) (s : State) : (s.showLimits.getN K.limitLimitState).testBit j = s.trip j := by
  rw [State.showLimits_state, bitsOf_testBit]
  fin_cases j <;> rfl

/-- A trip ends, and is told. -/
def State.released (kind : Fin 3) (s : State) : State :=
  (s.tripEnded kind).showLimits.raise Cause.cellLimitReleased (args0 [(kind, 1)])

theorem exec_cellLimitReleased {s : State} {kind : Fin 3} {t0 : Nat} (htrip : s.trip kind = true)
    (hok : s.tripOk kind = some t0) (hdue : t0 + 10000000000 ≤ s.now) : exec (.cellLimitReleased kind) s =
    .next ((s.released kind).when (s.socModeIs 2) State.enterRecovery) := by
  have hcond : (s.trip kind &&
      (match s.tripOk kind with | some t => decide (t + 10 * sec ≤ s.now) | none => false)) = true := by
    rw [htrip, Bool.true_and]
    exact since_due hdue hok
  exact if_pos hcond

theorem cellLimitReleased_does {s : State} {kind : Fin 3} {t0 : Nat} (htrip : s.trip kind = true)
    (hok : s.tripOk kind = some t0) (hdue : t0 + 10000000000 ≤ s.now) :
    Does (.cellLimitReleased kind) s (fun t => t.trip kind = false ∧
      (∀ j, j ≠ kind → t.trip j = s.trip j) ∧ (t.getN K.limitLimitState).testBit kind = false ∧
      (s.socModeIs 2 = true → t.socModeIs 4 = true)) := by
  have hchn : ((s.released kind).when (s.socModeIs 2) State.enterRecovery).chn = (s.tripEnded kind).chn :=
    (State.when_same State.chn _ _ (State.enterRecovery_chn _)).trans (State.raise_chn _ _ _)
  have hlimit : ((s.released kind).when (s.socModeIs 2) State.enterRecovery).getN K.limitLimitState =
      (s.tripEnded kind).showLimits.getN K.limitLimitState :=
    (State.when_same (fun t => t.getN K.limitLimitState) _ _
      (State.getN_congr (State.get_enterRecovery_other _ (by decide) (by decide)))).trans
      (State.getN_congr (State.get_raise _ _ _ _ (by decide)))
  refine .of_next (exec_cellLimitReleased htrip hok hdue) ⟨?_, fun j hj => ?_, ?_, fun hnormal => ?_⟩
  · rw [State.trip_congr hchn, State.trip_tripEnded, decide_eq_false (not_not_intro rfl), Bool.false_and]
  · rw [State.trip_congr hchn, State.trip_tripEnded, decide_eq_true hj, Bool.true_and]
  · rw [hlimit, State.showLimits_trip, State.trip_tripEnded, decide_eq_false (not_not_intro rfl), Bool.false_and]
  · rw [hnormal, State.when_true]
    exact decide_eq_true (State.enterRecovery_mode _)

/-! ### CHAIN_STALE_TIMEOUT (R289) -/

/-- A configured unit has been stale for the stale timeout. -/
def State.staleDue (s : State) : Bool :=
  s.configured.any (fun u => s.isStale u && (match (s.cunit u).staleSince with
    | some t => decide (t + s.getN K.chainStaleTimeout * sec ≤ s.now)
    | none => false))

theorem State.staleDue_of_unit {s : State} {u : Fin 32} {t0 : Nat} (hu : u ∈ s.configured) (hstale : s.isStale u = true)
    (hsince : (s.cunit u).staleSince = some t0) (hdue : t0 + s.getN K.chainStaleTimeout * 1000000000 ≤ s.now) :
    s.staleDue = true :=
  List.any_eq_true.2 ⟨u, hu, by rw [hstale, Bool.true_and]; exact since_due hdue hsince⟩

theorem chainStaleTimeout_does {s : State} {u : Fin 32} {t0 : Nat} (hu : u ∈ s.configured) (hstale : s.isStale u = true)
    (hsince : (s.cunit u).staleSince = some t0) (hdue : t0 + s.getN K.chainStaleTimeout * 1000000000 ≤ s.now)
    (hsaid : s.chn.staleSaid = false) : Does .chainStaleTimeout s (fun t => t.chn.staleSaid = true ∧
      t.chn.staleBlock = decide (s.get K.chainStaleAction = 1) ∧ (t.getN K.limitLimitState).testBit 3 = t.chn.staleBlock) := by
  have hcond : (s.staleDue && !s.chn.staleSaid) = true := by
    rw [State.staleDue_of_unit hu hstale hsince hdue, hsaid]
    rfl
  refine .of_next (if_pos hcond) ⟨?_, ?_, ?_⟩
  · exact congrArg ChainState.staleSaid (State.raise_chn _ _ _)
  · exact congrArg ChainState.staleBlock (State.raise_chn _ _ _)
  · rw [State.getN_congr (State.get_raise _ _ _ K.limitLimitState (by decide)), State.raise_chn, State.showLimits_state,
      bitsOf_testBit]
    rfl

/-! ### CHAIN_RESTORED (R290) -/

/-- A unit is checked, configured and back within reach; a stale or sleeping one serves again. -/
def State.unitBack (u : Fin 32) (s : State) : State :=
  let asked := (s.chainCommand true u 4 0 []).chainCommand true u 5 0 (s.configPayload u)
  let served := asked.when (decide (asked.unitStateOf u = 5) || decide (asked.unitStateOf u = 4)) (State.put (K.unitState u) 3)
  served.modUnit u (fun x => { x with
    missA := false, missB := false, staleSince := if asked.unitStateOf u = 6 then x.staleSince else none })

/-- The ring is closed: its units are back, and it says so. -/
def State.ringClosed (s : State) : State :=
  let back := s.chainWakeUp.each (s.configured.filter s.toRestore) State.unitBack
  let ring := (back.put K.chainChainState 2).put K.chainBreakAfter 0
  ring.chainBroadcast 1 (payTime ring.chainTime)

theorem exec_chainRestored {s : State} (hbroken : s.chainIs 3 = true ∨ s.chainIs 4 = true) (hloop : s.chn.loopOk = true) :
    exec .chainRestored s = .next ((s.ringClosed.showStale.raise0 Cause.chainRestored).when (s.chainIs 4 && s.socModeIs 2)
      State.enterRecovery) :=
  if_pos (by rw [hloop, Bool.and_true, Bool.or_eq_true]; exact hbroken)

/-- A unit as the chain reads it: whether either end has lost it, and its state. -/
structure UnitReads (u : Fin 32) (a b : Bool) (n : Nat) (t : State) : Prop where
  missA : (t.cunit u).missA = a
  missB : (t.cunit u).missB = b
  state : t.unitStateOf u = n

theorem UnitReads.congr {u : Fin 32} {a b : Bool} {n : Nat} {s t : State} (h : UnitReads u a b n s)
    (hunit : t.cunit u = s.cunit u) (hstate : t.get (K.unitState u) = s.get (K.unitState u)) : UnitReads u a b n t :=
  ⟨by rw [hunit, h.missA], by rw [hunit, h.missB], (State.getN_congr hstate).trans h.state⟩

theorem SendKept.unitReads {u : Fin 32} {a b : Bool} {n : Nat} {s t : State} (h : SendKept s t) (hs : UnitReads u a b n s) :
    UnitReads u a b n t := hs.congr (h.cunit u) (h.get _)

/-- The commands that check and configure a unit that is back. -/
def State.backAsked (u : Fin 32) (s : State) : State :=
  (s.chainCommand true u 4 0 []).chainCommand true u 5 0 (s.configPayload u)

theorem State.backAsked_kept (u : Fin 32) (s : State) : SendKept s (s.backAsked u) :=
  (State.chainCommand_kept _ _ _ _ _ _).trans (State.chainCommand_kept _ _ _ _ _ _)

theorem State.unitBack_other {u v : Fin 32} {a b : Bool} {n : Nat} {s : State} (hv : v ≠ u) (h : UnitReads u a b n s) :
    UnitReads u a b n (s.unitBack v) := by
  refine ((s.backAsked_kept v).unitReads h).congr ?_ ?_
  · exact (State.cunit_modUnit_other _ _ hv.symm).trans (State.when_same (fun t => t.cunit u) _ _ rfl)
  · exact State.when_same (fun t => t.get (K.unitState u)) _ _ (State.get_put_other _ _ _ _ (unitObject_ne hv.symm rfl))

/-- A unit that was stale is back and RUNNING. -/
theorem State.unitBack_same {u : Fin 32} {a b : Bool} {n : Nat} {s : State} (h : UnitReads u a b n s) :
    UnitReads u false false (if n = 5 ∨ n = 4 then 3 else n) (s.unitBack u) := by
  have hasked : (s.backAsked u).unitStateOf u = n := ((s.backAsked_kept u).unitReads h).state
  have hcond : (decide ((s.backAsked u).unitStateOf u = 5) || decide ((s.backAsked u).unitStateOf u = 4)) =
      decide (n = 5 ∨ n = 4) := by rw [hasked, Bool.decide_or]
  refine ⟨congrArg UnitSt.missA (State.cunit_modUnit_same u _ _), congrArg UnitSt.missB (State.cunit_modUnit_same u _ _), ?_⟩
  show ((s.backAsked u).when (decide ((s.backAsked u).unitStateOf u = 5) || decide ((s.backAsked u).unitStateOf u = 4))
    (State.put (K.unitState u) 3)).unitStateOf u = _
  rw [hcond]
  split
  · next hback =>
    rw [decide_eq_true hback]
    exact State.getN_put_natCast _ 3 _
  · next hback =>
    rw [decide_eq_false hback]
    exact hasked

/-- Every configured unit is within reach of both ends, and one that was stale is RUNNING. -/
theorem State.ringClosed_unit {s : State} {u : Fin 32} (hu : u ∈ s.configured) :
    ∃ n, UnitReads u false false n s.ringClosed ∧ (s.unitStateOf u = 5 → n = 3) := by
  have hwoken : UnitReads u (s.cunit u).missA (s.cunit u).missB (s.unitStateOf u) s.chainWakeUp :=
    s.chainWakeUp_kept.unitReads ⟨rfl, rfl, rfl⟩
  have hclosed : ∀ {a b n} {t : State}, UnitReads u a b n t →
      UnitReads u a b n ((t.put K.chainChainState 2).put K.chainBreakAfter 0) := fun h =>
    h.congr rfl ((State.get_put_other _ _ _ _ (ne_unitObject _ (by decide) (by decide)).symm).trans
      (State.get_put_other _ _ _ _ (ne_unitObject _ (by decide) (by decide)).symm))
  by_cases hback : s.toRestore u = true
  · refine ⟨_, (State.chainBroadcast_kept _ _ _).unitReads (hclosed (State.each_once (s.configured_nodup.filter _)
      (List.mem_filter.2 ⟨hu, hback⟩) hwoken (fun _ hb _ => State.unitBack_other hb) (fun _ => State.unitBack_same)
      fun _ hb _ => State.unitBack_other hb)), fun hstale => if_pos (.inl hstale)⟩
  · have hreach : ¬ 4 ≤ s.unitStateOf u ∧ (s.cunit u).missA = false ∧ (s.cunit u).missB = false := by
      simpa [State.toRestore, not_or, and_assoc] using hback
    obtain ⟨hstate, hA, hB⟩ := hreach
    rw [hA, hB] at hwoken
    refine ⟨_, (State.chainBroadcast_kept _ _ _).unitReads (hclosed (State.each_mem (P := UnitReads u false false _) hwoken
      fun v hv t => State.unitBack_other fun h => hback (h ▸ (List.mem_filter.1 hv).2))), fun hstale => by omega⟩

theorem chainRestored_does {s : State} (hbroken : s.chainIs 3 = true ∨ s.chainIs 4 = true) (hloop : s.chn.loopOk = true)
    (u : Fin 32) : Does .chainRestored s (fun t => t.chainIs 2 = true ∧ t.get K.chainBreakAfter = 0 ∧
      (u ∈ s.configured → (t.cunit u).missA = false ∧ (t.cunit u).missB = false ∧
        (s.unitStateOf u = 5 → t.unitStateOf u = 3))) := by
  refine .of_next (exec_chainRestored hbroken hloop) ?_
  generalize ht : (s.ringClosed.showStale.raise0 Cause.chainRestored).when (s.chainIs 4 && s.socModeIs 2)
    State.enterRecovery = t
  have hget : ∀ k, 0x600000 ≤ k → k < 0x620000 → k ≠ K.chainStaleMap → k ≠ K.chainUnitsReached → k ≠ K.limitLimitState →
      t.get k = s.ringClosed.get k := fun k hlo hhi h1 h2 h3 => by
    have hnote := noting_of_chain hlo (by omega)
    have hmode : k ∉ recoveryShown := fun hk => absurd (recoveryShown_estimator k hk) (Nat.not_le.2 hhi)
    rw [← ht]
    exact (State.when_same (fun t => t.get k) _ _ (State.get_enterRecovery_other _ hmode hnote)).trans
      ((State.get_raise0 _ _ _ hnote).trans (State.get_showStale _ h1 h2 h3))
  have hunits : t.chn.units = s.ringClosed.chn.units := by
    rw [← ht]
    exact (State.when_same (fun t => t.chn.units) _ _ (congrArg _ (State.enterRecovery_chn _))).trans
      ((congrArg _ (State.raise0_chn _ _)).trans (State.showStale_units _))
  have hbreak : s.ringClosed.get K.chainBreakAfter = 0 :=
    ((State.chainBroadcast_kept _ _ _).get _).trans (State.get_put_same _ _ _)
  have hring : s.ringClosed.getN K.chainChainState = 2 :=
    (State.getN_congr ((State.chainBroadcast_kept _ _ _).get _)).trans
      ((State.getN_put_other (by decide)).trans (State.getN_put_natCast _ 2 _))
  refine ⟨?_, (hget _ (by decide) (by decide) (by decide) (by decide) (by decide)).trans hbreak, fun hu => ?_⟩
  · exact State.chainIs_iff.2
      ((State.getN_congr (hget _ (by decide) (by decide) (by decide) (by decide) (by decide))).trans hring)
  · obtain ⟨n, hreads, hn⟩ := State.ringClosed_unit hu
    obtain ⟨hA, hB, hstate⟩ : UnitReads u false false n t := hreads.congr (by unfold State.cunit; rw [hunits])
      (hget _ (by simp only [K.unitState]; omega) (by simp only [K.unitState]; omega)
        (ne_unitObject _ (by decide) (by decide)).symm (ne_unitObject _ (by decide) (by decide)).symm
        (ne_unitObject _ (by decide) (by decide)).symm)
    exact ⟨hA, hB, fun hstale => hstate.trans (hn hstale)⟩

end Sys2Proof.Machine
end

section
/-! The balancing pass (R295): what BALANCING_INTERVAL takes as its reference. -/

namespace Sys2Proof.Machine

section
variable {β : Type} (g : State → β)
  (hcommand : ∀ a u type flags payload t, g (State.chainCommand a u type flags payload t) = g t)
  (hshown : ∀ u word t, g (State.transferShown u word t) = g t)
include hcommand hshown

/-- Ordering or stopping a transfer leaves what a command and the display of the transfer leave. -/
theorem State.balance_same (a : Bool) (u : Fin 32) (cell : Option (Fin 16 × Bool)) (n : Nat) (s : State) :
    g (s.balance a u cell n) = g s := by
  unfold State.balance
  split
  · exact (hshown _ _ _).trans (hcommand _ _ _ _ _ _)
  · split
    · rfl
    · exact (hshown _ _ _).trans (hcommand _ _ _ _ _ _)

theorem State.balanceUnit_same (d : List (Fin 512 × Int)) (u : Fin 32) (s : State) : g (s.balanceUnit d u) = g s := by
  have hbalance := State.balance_same g hcommand hshown
  unfold State.balanceUnit
  extract_lets fromA word own
  split
  · exact State.when_same g _ _ (hbalance _ _ _ _ _)
  · extract_lets busy
    split
    · exact hbalance _ _ _ _ _
    · exact hbalance _ _ _ _ _

end

/-- The reference of a pass: the estimator outside mode 0, none in mode 0 without rest voltages. -/
theorem State.deltas_estimator {s : State} (h : s.getN K.socMode ≠ 0) : s.deltas.1 = 0 := by
  unfold State.deltas
  rw [if_pos h]

theorem State.deltas_none {s : State} (h : s.getN K.socMode = 0) (hrest : s.chn.rest = []) : s.deltas.1 = 2 := by
  unfold State.deltas
  rw [if_neg (not_not_intro h), if_neg fun hrests => hrests.2 hrest]

/-- A pass begins: its reference is shown, its time noted. -/
def State.passBegun (s : State) : State :=
  (s.put K.balReference s.deltas.1).modChain (fun c => { c with balanceAt := s.now })

theorem exec_balancingInterval {s : State} (hmaster : s.getB K.chainChainMaster = true)
    (henable : s.getB K.balBalancingEnable = true)
    (hdue : s.chn.balanceAt + s.getN K.balBalancingInterval * 1000000000 ≤ s.now) : exec .balancingInterval s =
    .next (s.passBegun.when (decide (s.deltas.1 ≠ 2)) (fun t =>
      t.each (t.configured.filter (fun u => decide (t.unitStateOf u = 3))) (State.balanceUnit s.deltas.2))) :=
  if_pos (by rw [hmaster, henable, decide_eq_true hdue]; rfl)

theorem balancingInterval_does {s : State} (hmaster : s.getB K.chainChainMaster = true)
    (henable : s.getB K.balBalancingEnable = true)
    (hdue : s.chn.balanceAt + s.getN K.balBalancingInterval * 1000000000 ≤ s.now) :
    Does .balancingInterval s (fun t => t.chn.balanceAt = s.now ∧ (s.getN K.socMode ≠ 0 → t.get K.balReference = 0) ∧
      (s.getN K.socMode = 0 → s.chn.rest = [] → t.get K.balReference = 2)) := by
  refine .of_next (exec_balancingInterval hmaster henable hdue) ?_
  generalize ht : s.passBegun.when _ _ = t
  have hat : t.chn.balanceAt = s.now := by
    rw [← ht]
    exact State.when_same (fun t => t.chn.balanceAt) _ _ (State.each_same (fun t => t.chn.balanceAt) _ fun u _ =>
      State.balanceUnit_same (fun t => t.chn.balanceAt) (fun _ _ _ _ _ t => (State.chainCommand_kept _ _ _ _ _ t).balanceAt)
        (fun _ _ _ => rfl) _ u)
  have hreference : t.get K.balReference = s.deltas.1 := by
    rw [← ht]
    refine (State.when_same (fun t => t.get K.balReference) _ _ (State.each_same (fun t => t.get K.balReference) _ fun u _ =>
      State.balanceUnit_same (fun t => t.get K.balReference) (fun _ _ _ _ _ t => (State.chainCommand_kept _ _ _ _ _ t).get _)
        (fun _ _ _ => State.get_transferShown_other _ _ _ (by decide) (ne_unitObject _ (by decide) (by decide))) _ u)).trans ?_
    exact State.get_put_same _ _ _
  rw [hreference]
  exact ⟨hat, fun hmode => congrArg _ (State.deltas_estimator hmode),
    fun hmode hrest => congrArg _ (State.deltas_none hmode hrest)⟩

end Sys2Proof.Machine
end

section
/-! O38: the clauses together. -/

namespace Sys2Proof.Machine

/-- Settles O38: each clause is the lemma on its command above. -/
theorem chainTimersAndReleasesAct : Obligations.ChainTimersAndReleasesAct := by
  intro s kind t0 u w trip ok period
  exact ⟨chainMasterChanged_does, sweepPeriodic_does, sweepRequest_does, cellLimitReleased_does,
    fun hbroken hloop => chainRestored_does hbroken hloop u, chainStaleTimeout_does, openWireInterval_does,
    switchTestInterval_does, balancingInterval_does⟩

end Sys2Proof.Machine
end
